-- ==== Sys2Proof/Word.lean ====
section
/-!
DEFINITION. The word types of the CX1152 model and their plainest arithmetic: bytes, 32-bit register
words, 64-bit queue words, little-endian byte order (R12) and two's complement readings of `Nat`s.
-/
namespace Sys2Proof

/-- One byte. -/
abbrev Byte := BitVec 8

/-- A BAR0 register word (R13). -/
abbrev Word := BitVec 32

/-- A hardware-queue word (R247). -/
abbrev DWord := BitVec 64

/-- Bits `[lo + w - 1 : lo]` of `v`, as a number. -/
def bitsAt (v lo w : Nat) : Nat := v / 2 ^ lo % 2 ^ w

/-- The `n` low-order bytes of `v`, least significant first (R12). -/
def leBytes : Nat → Nat → List Byte
  | 0, _ => []
  | n + 1, v => BitVec.ofNat 8 v :: leBytes n (v / 256)

/-- The `n` low-order bytes of `v`, most significant first. -/
def beBytes (n v : Nat) : List Byte := (leBytes n v).reverse

/-- The number that bytes spell, least significant first (R12). -/
def leNat : List Byte → Nat
  | [] => 0
  | b :: bs => b.toNat + 256 * leNat bs

/-- `w`-bit two's complement reading of `v`. -/
def toSigned (w v : Nat) : Int :=
  if v % 2 ^ w < 2 ^ (w - 1) then ((v % 2 ^ w : Nat) : Int) else ((v % 2 ^ w : Nat) : Int) - (2 ^ w : Nat)

/-- `w`-bit two's complement encoding of `x`. -/
def ofSigned (w : Nat) (x : Int) : Nat := (x % (2 ^ w : Nat)).toNat

/-- `x` limited to `lo`–`hi`. -/
def clampInt (lo hi x : Int) : Int := if x < lo then lo else if hi < x then hi else x

/-- A counter of width `w` that saturates, raised by `k`. -/
def satAdd (w v k : Nat) : Nat := if v + k < 2 ^ w then v + k else 2 ^ w - 1

end Sys2Proof
end

