-- ==== Sys2Proof/Config.lean ====
section
/-!
DEFINITION. What one part fixes (its variant) and the free values: opaque constants for every value the spec leaves open.
No constant of this file that is marked opaque has a body a proof could see.
-/
namespace Sys2Proof

/-- The three parts of one family (R4 to R6). -/
inductive Variant where
  | cx1152 | cx1152N | cx576
deriving DecidableEq, Repr

/-- GEN_CAP0 of each variant (R6). -/
def Variant.cap0 : Variant → Nat
  | .cx1152 => 0x0CA05860
  | .cx1152N => 0x00A05860
  | .cx576 => 0x0A502C30

/-- GEN_CAP1 of each variant (R6). -/
def Variant.cap1 : Variant → Nat
  | .cx1152 => 0x00101FC8
  | .cx1152N => 0x00101FC8
  | .cx576 => 0x00101FC4

/-- PART of the image header that the variant accepts (R56). -/
def Variant.part : Variant → Nat
  | .cx1152 => 0x1152
  | .cx1152N => 0x1153
  | .cx576 => 0x0576

/-- Media lanes, which is also the number of local inputs and destinations (R8). -/
def Variant.mediaLanes (v : Variant) : Nat := bitsAt v.cap0 0 7

/-- DSP cores fitted (R4). -/
def Variant.dspCores (v : Variant) : Nat := bitsAt v.cap0 16 6

/-- HBM stacks fitted (R4). -/
def Variant.hbmStacks (v : Variant) : Nat := bitsAt v.cap0 22 2

/-- Heads fitted (R4). -/
def Variant.heads (v : Variant) : Nat := bitsAt v.cap0 24 3

/-- The composition unit and legend layer are fitted (R4). -/
def Variant.hasCmp (v : Variant) : Bool := bitsAt v.cap0 27 1 == 1

/-- Fabric lanes per peer (R5). -/
def Variant.fabPerPeer (v : Variant) : Nat := bitsAt v.cap1 0 4

/-- The CLASS bit of an enumeration token: 1 for 4 fabric lanes per peer (R22). -/
def Variant.tokenClass (v : Variant) : Nat := if v.fabPerPeer = 4 then 1 else 0

/-- FREE VALUE (DESIGN CHOICE, log entry 5; safe).
Whether an ECDSA P-384 signature (`sig`, r then s) verifies under `key` over SHA-384 of `msg` (R59, R60,
R537). The algorithms are the standards' own; the model leaves the outcome open. -/
opaque Config.ecdsaVerify (key msg sig : List Byte) : Bool

/-- FREE VALUE (DESIGN CHOICE, log entry 5; safe).
AES-256-GCM decryption (R61): the plaintext, or none where the tag fails. -/
opaque Config.gcmOpen (key nonce aad ct tag : List Byte) : Option (List Byte)

/-- FREE VALUE (DESIGN CHOICE, log entry 4; safe).
The random 128-bit nonces of R537, as 32-bit words: the value of word `k` of the `n`th free draw. -/
opaque Config.nonceWord (n k : Nat) : Nat

/-- FREE VALUE (DESIGN CHOICE, log entry 7; safe).
Whether a LINE of a span of a format (R131) is an active line: the spec gives the number of active lines of
a format (R92) and not their places in the raster. -/
opaque Config.activeLine (fmt line : Nat) : Bool

/-- FREE VALUE (DESIGN CHOICE, log entry 8; safe).
Video packets per frame of a KIND, format, depth and MAX_PAYLOAD (R269): the packing is the standards' own. -/
opaque Config.packetsPerFrame (kind fmt depth maxPayload : Nat) : Nat

/-- FREE VALUE (DESIGN CHOICE, log entry 8; safe).
The media clock of ST 2022-6 at a packet of a format, counted from the TB0 epoch (R238). -/
opaque Config.st2022Clock (fmt index : Nat) : Nat

/-- FREE VALUE (DESIGN CHOICE, log entry 8; safe).
The audio word (R335) that a 32-bit payload word of an ST 2110-31 stream carries (R336): the packing is the
standard's own. -/
opaque Config.aes3Word (payload : Nat) : Nat

/-- FREE VALUE (DESIGN CHOICE, log entry 8; safe).
Bit `index` of the channel status that an AES3 output sends with META 0 (R336): the layout of the status is
the standard's own. -/
opaque Config.channelStatus (at96 : Bool) (index : Nat) : Nat

/-- FREE VALUE (DESIGN CHOICE, log entry 9; safe).
The built-in label font (R434): whether the pixel (x, y) of the label box of a tile is ink, for a label, the
box's height and its width. -/
opaque Config.labelInk (label : List Byte) (size width x y : Nat) : Bool

/-- FREE VALUE (DESIGN CHOICE, log entry 9; safe).
The letters of the boot ROM slide (R449): whether the pixel (x, y) of a raster is ink. -/
opaque Config.evacuateInk (width height x y : Nat) : Bool

/-- FREE VALUE (DESIGN CHOICE, log entry 10; safe).
Where in HBM the boot ROM places an asset section (R369, R446), in units of 64 bytes: the spec says that the
place is in HBM and names no address. -/
opaque Config.assetPlace (typ : Nat) : Nat

/-- FREE VALUE (DESIGN CHOICE, log entry 11; safe).
The check byte of a 64-bit queue word (R247, R248): the spec names the code's power and not its matrix. -/
opaque Config.checkByte (word : Nat) : Byte

/-- FREE VALUE (DESIGN CHOICE, log entry 12; safe).
The boot ROM (R50, R456): the byte at an address. The spec gives no image of it. -/
opaque Config.romByte (a : Nat) : Byte

/-- FREE VALUE (DESIGN CHOICE, log entry 104; safe).
Whether two further span slots of a landing store can be allocated (R145): `held` bytes of such slots are held
already, `needed` are wanted. The spec does not lay HBM out. -/
opaque Config.landingRoom (held needed : Nat) : Bool

/-- FREE VALUE (DESIGN CHOICE, log entry 105; safe).
How the payload of an ancillary cell divides among lines (R132, R135): after how many bytes each later line
begins, with its LINE. The spec gives no layout of ancillary packets in cells. -/
opaque Config.ancCuts (line offset : Nat) (payload : List Byte) : List (Nat × Nat)

/-- FREE VALUE (DESIGN CHOICE, log entry 114; safe).
What SECDED finds in a word of which more than two bits are wrong (R214): 0 nothing, 1 one error, which it
corrects, 2 an error that it cannot correct. -/
opaque Config.manyWrong (wrong : Nat) : Nat

/-- FREE VALUE (DESIGN CHOICE, log entry 115; safe).
Ancillary packets without those that carry audio (R116, hold): the layout of the packets is the standard's own. -/
opaque Config.withoutAudio (anc : List Byte) : List Byte

/-- FREE VALUE (DESIGN CHOICE, log entry 116; safe).
The words that an SDI transmitter regenerates for one line of a format on one link (R216): line number words,
line CRCs, EDH, payload identifier. Their layout and polynomials are the standards' own. -/
opaque Config.sdiWords (mode link fmt number : Nat) (samples : List Nat) : List Nat

/-- FREE VALUE (DESIGN CHOICE, log entry 117; safe).
What a sample of an input's frame store holds before anything was written there (R215, R234). -/
opaque Config.storeContent (input line sample : Nat) : Nat

/-- FREE VALUE (DESIGN CHOICE, log entry 118; safe).
The samples that a video packet of a KIND, format and depth carries, as (LINE, first sample, values) (R230,
R234): the packing is the standards' own. -/
opaque Config.videoPieces (kind fmt depth seq : Nat) (payload : List Byte) : List (Nat × Nat × List Nat)

/-- FREE VALUE (DESIGN CHOICE, log entry 118; safe).
The 90 kHz timestamp of the frame that a packet of ST 2022-6 belongs to (R234): the packets of that standard carry
another clock. -/
opaque Config.frameStamp (fmt timestamp : Nat) (payload : List Byte) : Nat

/-- FREE VALUE (DESIGN CHOICE, log entry 7; safe).
Whether a LINE of an interlaced format belongs to the frame's second field (R238). -/
opaque Config.secondField (fmt line : Nat) : Bool

/-- FREE VALUE (DESIGN CHOICE, log entry 118; safe).
The ancillary packets that a packet of a KIND carries, as (LINE, bytes) (R230, R231). -/
opaque Config.ancPieces (kind fmt seq : Nat) (payload : List Byte) : List (Nat × List Byte)

/-- FREE VALUE (DESIGN CHOICE, log entry 118; safe).
The LINEs whose content packet `k` of a frame carries (R237, R239). -/
opaque Config.packetLines (kind fmt depth maxPayload k : Nat) : List Nat

/-- FREE VALUE (DESIGN CHOICE, log entry 118; safe).
The payload of packet `k` of a frame, from the samples and ancillary bytes of its lines (R237): behind the high
half of the sequence number where the stream carries one. -/
opaque Config.mediaBytes (kind fmt depth maxPayload k : Nat) (lines : List (Nat × List Nat × List Byte)) : List Byte

/-- FREE VALUE (DESIGN CHOICE, log entry 118; safe).
The RTP marker of packet `k` (R238, R244): the rules of the payload formats are the standards' own. -/
opaque Config.mediaMarker (kind fmt depth maxPayload k : Nat) : Bool

/-- FREE VALUE (DESIGN CHOICE, log entry 118; safe).
The 32-bit payload word of an ST 2110-31 stream that carries an audio word with its status (R336). -/
opaque Config.aes3Payload (word : Nat) : Nat

/-- FREE VALUE (DESIGN CHOICE, log entry 6; safe).
A value the spec leaves open, drawn with the counter `n` that the step reads and advances. -/
opaque Config.freeValue (n : Nat) : Nat

end Sys2Proof
end

