-- ==== Sys2Proof/Kinds.lean ====
section
/-!
DEFINITION. The kinds of operand that commands carry: masters, units, bursts, received messages and measurements.
-/
namespace Sys2Proof

/-- The masters of the bus matrix as commands name them (R455): a steward core, ST0 in the boot ROM, the host, the debug
port, or a hardware agent by its code. -/
inductive Master where
  | st (n : Nat)
  | stRom
  | host
  | debug
  | agent (code : Nat)
deriving DecidableEq, Repr

/-- Master code of R455. -/
def Master.busCode : Master → Nat
  | .st n => n % 4
  | .stRom => 4
  | .host => 5
  | .debug => 6
  | .agent c => c % 16

/-- MASTER code of GEN_REFUSE_LOG1 (R78). -/
def Master.refuseCode : Master → Nat
  | .st _ => 0
  | .host => 1
  | .stRom => 2
  | .debug => 3
  | .agent _ => 4

/-- A frame as a MAC receives it (R227 to R229, R283): its bytes without FCS, whether the FCS is right, the sixteenths of a
tick since the last tick at which it crossed the pins. -/
structure RxFrame where
  bytes : List Byte
  fcsGood : Bool
  sixteenths : Nat
deriving DecidableEq, Repr

/-- The kinds of unit that carry an enable bit and a check register (R74). -/
inductive UnitKind where
  | atlas | input | dest | fabric | mzc | lane | pkt | mac | gcl | tx | rx | queue | tb | cap | ref | aud | port | dsp
  | cmp | head | chkUnit | twin | field
deriving DecidableEq, Repr

/-- The number under which the enable bit and check register of unit `i` of a kind are stored. -/
def UnitKind.code (k : UnitKind) (i : Nat) : Nat := k.ctorIdx + 32 * i

/-- One unit with an enable bit. -/
structure UnitId where
  kind : UnitKind
  idx : Nat
deriving DecidableEq, Repr

/-- The number under which the unit's enable bit is stored. -/
def UnitId.code (u : UnitId) : Nat := u.kind.code u.idx

/-- What a consistency check finds outside the registers (R77): that it did not complete internally (0x0E), that a clock
the unit requires is not in the domain its rule demands (0x02), that no free extent of HBM or SRAM is found (0x06); and of
a port's external clock that it is absent (0xA3) or more than 1 % from its configured rate (0xA2) (R359). -/
structure CheckIn where
  internalFail : Bool
  clockMismatch : Bool
  noSpace : Bool
  clockAbsent : Bool
  clockFar : Bool
deriving DecidableEq, Repr

/-- A burst in progress when its master resets (R466): address, direction, beats and beats done. -/
structure Burst where
  addr : Nat
  write : Bool
  len : Nat
  done : Nat
deriving DecidableEq, Repr

/-- What the configuration memory answers when its SFDP table is read (R55, R84). -/
structure SfdpAnswer where
  answers : Bool
  readable : Bool
  gbit : Bool
  needsErase : Bool
deriving DecidableEq, Repr

/-- The outcome of reading a word through SECDED (R253, R468, R498). -/
inductive EccOutcome where
  | clean | corrected | uncorrectable
deriving DecidableEq, Repr

/-- What SECDED finds in the words that a DSP core reads in one instruction (R419): the program word, the X word, the Y
word. -/
structure DspEcc where
  prog : EccOutcome
  x : EccOutcome
  y : EccOutcome
deriving DecidableEq, Repr

/-- What an audio port brings to one sample (R357, R361, R365): its port, the words of its channels where a new sample has
come, the modulator bits of its channels since the last sample (PDM), the repetitions that its own reader made since, and
the samples that its writers overwrote. -/
structure AudioIn where
  port : Nat
  words : Option (List Nat)
  bits : List (List Bool)
  repeats : Nat
  overwrites : Nat
deriving DecidableEq, Repr

/-- The embedded audio that a destination's video carries at one sample (R121, R122): the words of the 16 channels of the old
and the new source, none for a channel that a source does not carry, and the channel pairs that a channel status marks as
non-audio. -/
structure EmbeddedIn where
  dest : Nat
  old : List (Option Nat)
  new : List (Option Nat)
  nonAudio : List Nat
deriving DecidableEq, Repr

/-- What one second's measurement gives (R303, R310, R313): the candidates whose signal is there, with their offsets from
the oscillator in 1e-6 ppb; the loop's next K; and the loop's phase error in ns. -/
structure RefMeas where
  present : List (Nat × Int)
  loopK : Int
  phase : Int
deriving DecidableEq, Repr

/-- JTAG instructions that the debug levels name (R550). -/
inductive JtagIns where
  | idcode | bypass | samplePreload | extest | extestPulse | extestTrain | other
deriving DecidableEq, Repr

/-- What the debug port halts or steps (R552). -/
inductive DebugTarget where
  | steward (n : Nat)
  | dsp (n : Nat)
deriving DecidableEq, Repr

/-- A 96-bit timestamp: seconds, nanoseconds, 2⁻¹⁶ ns. -/
structure Stamp where
  sec : Nat
  ns : Nat
  frac : Nat
deriving DecidableEq, Repr

/-- What happens at a receive queue (R214 to R217): a new entry comes, with how many entries were drained since the one before, how many
of its 137 bits are wrong when it is read, and the place of its video words (LINE, first sample, samples); a check mismatch (line
CRC, EDH, uncorrected codeword, invalid sync header); a codeword corrected by FEC. -/
inductive RxqEvent where
  | entry (drained wrong line first count : Nat)
  | mismatch
  | fecCorrected
deriving DecidableEq, Repr

/-- A stored span of video (R89): the format and depth detected, the active lines by LINE index, the LINEs of which not every word was
written, and the ancillary bytes by LINE index. -/
structure VideoSpan where
  fmt : Nat
  depth : Nat
  gaps : List Nat
  lines : List (Nat × List Nat)
  anc : List (Nat × List Byte)
deriving DecidableEq, Repr

/-- A line that leaves (R95, R426): of a destination (frame, LINE, and the line as the store holds it while its span is still
being written), or of a head (frame, LINE, and the overlays whose read of the line fails, with the address of the
uncorrectable word where one was met). -/
inductive Departure where
  | dest (d n line : Nat) (live : Option (List Nat × List Byte))
  | head (n frame line : Nat) (failed : List (Nat × Option Nat))
deriving DecidableEq, Repr

/-- A stream key (R140): source or group, kind (0 video, 1 sketch, 2 audio group), coding, receiver, home. -/
structure StreamKey where
  source : Nat
  kind : Nat
  coding : Nat
  receiver : Nat
  home : Nat
deriving DecidableEq, Repr

/-- A published gazetteer entry as a control message carries it (R39, R140): its number 0 to 2303, eight words. -/
structure GazEntry where
  n : Nat
  words : List Nat
deriving DecidableEq, Repr

/-- Fabric control messages (R139, R140). -/
inductive FabMsg where
  | heartbeat (position plane twin cls power : Nat) (time : Stamp)
  | load (ports : List (Nat × Nat))
  | subReq (reqNo kind maxCoding source fs : Nat)
  | subGrant (reqNo coding waypoint first : Nat)
  | subRefuse (reqNo reason codingReason : Nat)
  | wpReq (reqNo : Nat) (key : StreamKey) (cost : Nat)
  | wpAnswer (reqNo reason spare : Nat)
  | release (key : StreamKey) (last : Nat)
  | migrate (key : StreamKey) (newCoding newWaypoint first : Nat)
  | gazEntry (e : GazEntry) (refresh : Bool)
  | gazDigest (digest : Nat)
  | gazFetch
  | wpShed (key : StreamKey) (reason : Nat)
  | drop (key : StreamKey) (reason last : Nat)
deriving DecidableEq, Repr

/-- A Dunbin cell of a stream (R131): TYPE 1 video, 2 ancillary, 3 span marker, 4 audio group. -/
structure Cell where
  typ : Nat
  coding : Nat
  lost : Bool
  last : Bool
  sketch : Bool
  source : Nat
  dest : Nat
  seq : Nat
  line : Nat
  offset : Nat
  span : Nat
  payload : List Byte
deriving DecidableEq, Repr

/-- What a shadow write of a head is to (R439, R442): word k of layer l (tiles 0 to 63, overlays 64 to 71), the background (0) or a tally colour (1 + e). -/
inductive Shadow where
  | layer (l k : Nat)
  | colour (c : Nat)
deriving DecidableEq, Repr

/-- A place in the constellation: plane and position (R20, R30). -/
structure Place where
  plane : Bool
  position : Nat
deriving DecidableEq, Repr

/-- A step of a large send of a transmit entry; `bad` is the address of an uncorrectable word that reading its payload meets (R245, R246). -/
structure LargeStep where
  tx : Nat
  bad : Option Nat
deriving DecidableEq, Repr

end Sys2Proof
end

