-- ==== Sys2Proof/Syntax.lean ====
section
/-!
DEFINITION. The commands: one constructor per row of the spec's table of operations and events. Every command comes from the
environment (a bus master, a link, a pin, a clock or a timer); `m` is the master of a write or a read.
-/
namespace Sys2Proof

/-- The commands, in the table's order. Each row's meaning cites its rules. -/
inductive Instr where
  -- Register access and units (R7 to R17, R74 to R78, R598)
  | registerWrite (m : Master) (addr size v hw : Nat)
  | readToClear (m : Master) (addr size hw : Nat) (ecc : EccOutcome)
  | enableSet (m : Master) (u : UnitId) (v : Nat)
  | checkComplete (u : UnitId) (c : CheckIn)
  | checkAbort (m : Master) (u : UnitId) (v : Nat)
  | enableClear (m : Master) (u : UnitId) (v : Nat)
  -- Start-up, configuration image and configuration memory (R48 to R84, R599, R600)
  | powerOnReset (plane twin : Bool)
  | externalReset (plane twin : Bool)
  | deviceReset (m : Master) (v : Nat)
  | remap (m : Master)
  | stRun (m : Master) (mask : Nat)
  | memorySetup (a : SfdpAnswer)
  | slotHeadersRead
  | sectionStreamed (readError : Bool)
  | hbmReady (fail0 fail1 : Bool)
  | signatureVerify
  | handOver
  | nvmWritePage (m : Master)
  | nvmReadPage (m : Master)
  | nvmOverwriteHeader (m : Master)
  | nvmCommandComplete
  | faultLogWrite (readBackFails : Bool)
  | electionRecord (readBackFails : Bool)
  | ageingRecord (readBackFails : Bool)
  -- Enumeration and the gazetteer (R20 to R47)
  | enumToken (framed : Bool) (tok : Nat)
  | enumTokenSend
  | enumInLow
  | enumTokenLoss
  | enumInHigh
  | enumTimeout
  | mgmtAnnounce
  | announceReceived (dst : Nat) (place : Place) (twin : Bool)
  | gazStageWrite (m : Master) (n w v : Nat)
  | gazPublish (m : Master) (n v : Nat)
  | gazEntrySend (n : Nat)
  | gazEntry (e : GazEntry) (refresh : Bool)
  | gazDigestSend
  | gazDigest (p digest : Nat)
  | gazFetch (p : Nat)
  | gazFetchRetry (p : Nat)
  -- Meridians and clean switching (R85 to R126)
  | decisionPoint (f n : Nat) (phis : List (Nat × Int))
  | meridian (f n : Nat)
  | realign (m : Master) (v : Nat)
  | inputSpanComplete (i : Nat) (v : VideoSpan)
  | atlCommit (m : Master) (v : Nat)
  | atlSalvo (m : Master) (v : Nat)
  | atlCancel (m : Master) (v : Nat)
  | salvoCancel (m : Master)
  | atlDraftWrite (m : Master) (d : Nat) (armed : Bool) (low : Nat)
  | landingSpanComplete (n span : Nat)
  | lineDeparture (x : Departure)
  -- Dunbin fabric and mezzanine coding (R127 to R195)
  | heartbeatSend
  | heartbeat (p pos plane twin cls : Nat)
  | loadSend
  | load (p : Nat) (ports : List (Nat × Nat))
  | loadTimeout (p : Nat)
  | subReqSend (n : Nat)
  | subReq (p reqNo kind maxCoding src fs : Nat)
  | subGrant (reqNo coding waypoint first : Nat)
  | subRefuse (reqNo reason codingReason : Nat)
  | subReqTimeout (n : Nat)
  | wpReq (p reqNo : Nat) (key : StreamKey) (cost : Nat)
  | wpAnswer (p reqNo reason spare : Nat)
  | release (key : StreamKey) (last : Nat)
  | migrate (key : StreamKey) (coding waypoint first : Nat)
  | wpShed (key : StreamKey)
  | drop (key : StreamKey) (reason last : Nat)
  | controlReserved (p : Nat)
  | cellReceived (p : Nat) (crcGood late : Bool) (c : Cell)
  | spanMarker (p : Nat) (c : Cell)
  | streamRelease (n : Nat)
  | peerLost (p : Nat)
  | peerReturn (p : Nat)
  | peerLossNotice (p : Nat)
  | shedDecision (p : Nat)
  | streamRerequest (n : Nat)
  | revertOffer
  | portLimitWrite (m : Master) (p v : Nat)
  | refineDiscard (n : Nat)
  -- Media lanes (R196 to R226)
  | losSet (l : Nat)
  | losClear (l : Nat) (freq : Int)
  | lockAcquired (l fmt depth : Nat) (freq : Int)
  | lockLost (l : Nat)
  | quadPllLock (q : Nat)
  | quadPllLoss (q : Nat)
  | quadSkew (l : Nat) (beyond : Bool)
  | rxqEntry (l : Nat) (e : RxqEvent)
  | lanTestWrite (m : Master) (l v : Nat)
  -- Packet engine and hardware queues (R227 to R272)
  | frameReceived (m : Nat) (f : RxFrame)
  | pauseFrame (m quanta : Nat)
  | pfcFrame (m vector : Nat) (times : List Nat)
  | pauseExpiry (m : Nat) (cls : Option Nat)
  | rxEntryLost (n : Nat)
  | mediaPacketSend (e : Nat) (legB : Bool) (n k len : Nat) (second last : Bool)
  | txPacketLate (e : Nat)
  | largeSend (x : LargeStep)
  | largeSendComplete (e : Nat)
  | timedFrame (e : Nat)
  | launchTime (e : Nat)
  | timedFrameDeparture (e sixteenths : Nat)
  | pktQProd (m : Master) (q v : Nat)
  | pktQCons (m : Master) (q v : Nat)
  | softFlush (m : Master) (q v : Nat)
  | softFlushComplete (q : Nat)
  | hardFlush (m : Master) (q v : Nat)
  | queueDataWrite (m : Master) (a size v : Nat)
  | queueWordRead (m : Option Master) (q p : Nat) (ecc : EccOutcome)
  | gclChange (w : Master) (m v : Nat)
  | gclCycleStart (m : Nat)
  | gateChange (m : Nat)
  | gateDrop (m : Nat)
  -- Time bases and capture (R273 to R295)
  | incCommit (m : Master) (n v : Nat)
  | tbStep (m : Master) (n v : Nat)
  | tbSet (m : Master) (n v : Nat)
  | tbArm (m : Master) (n v : Nat)
  | tbDisarm (m : Master) (n v : Nat)
  | alarm (n : Nat)
  | nowLatch (m : Master) (n : Nat)
  | snapshot (m : Master)
  | captureEdge (c sixteenths : Nat) (rising : Bool)
  | captureHeadRead (m : Master) (c : Nat)
  | domainWrite (m : Master) (k v : Nat)
  -- Reference unit (R296 to R330)
  | refSecond (e : RefMeas)
  | candidateAbsent
  | candidateWrite (m : Master) (c v : Nat)
  | forceSelect (m : Master) (v : Nat)
  | thresholdWrite (m : Master) (k v : Nat)
  | refSwWrite (m : Master) (v : Nat)
  | refSwTimeout
  | tempRead (reading : Option Int)
  | slewComplete
  | holdLimitExpiry
  | dailyMean
  -- Audio matrix (R331 to R379)
  | audioSample (k : Nat) (ins : List AudioIn) (es : List EmbeddedIn)
  | audioCommit (m : Master) (v : Nat)
  | audioCancel (m : Master)
  | audioCommitTimeout
  | audDraftWrite (m : Master) (c v : Nat)
  | groupRelease (g : Nat)
  | tdmFrameSync (p : Nat)
  | tdmStop (p : Nat)
  | pdmStop (q : Nat)
  | tdmSlip (p : Nat)
  | glitch (p : Nat)
  | maskWrite (m : Master) (p : Nat) (out : Bool) (v : Nat)
  | portQualified (p : Nat)
  | domainErr (p : Nat) (freq : Int)
  | rateErr (p : Nat) (freq : Int)
  | daybreak (k : Nat)
  | evacAudioStart
  | gainWrite (m : Master) (c v : Nat)
  -- Instructions of the DSP cores (R380 to R407)
  | mpy (n : Nat) (e : DspEcc)
  | mac (n : Nat) (e : DspEcc)
  | msu (n : Nat) (e : DspEcc)
  | cmpy (n : Nat) (e : DspEcc)
  | cmac (n : Nat) (e : DspEcc)
  | cmacj (n : Nat) (e : DspEcc)
  | firtap (n : Nat) (e : DspEcc)
  | clr (n : Nat) (e : DspEcc)
  | movd (n : Nat) (e : DspEcc)
  | mova (n : Nat) (e : DspEcc)
  | adda (n : Nat) (e : DspEcc)
  | suba (n : Nat) (e : DspEcc)
  | norm (n : Nat) (e : DspEcc)
  | exp (n : Nat) (e : DspEcc)
  | expd (n : Nat) (e : DspEcc)
  | add (n : Nat) (e : DspEcc)
  | sub (n : Nat) (e : DspEcc)
  | adds (n : Nat) (e : DspEcc)
  | subs (n : Nat) (e : DspEcc)
  | and (n : Nat) (e : DspEcc)
  | or (n : Nat) (e : DspEcc)
  | xor (n : Nat) (e : DspEcc)
  | abs (n : Nat) (e : DspEcc)
  | neg (n : Nat) (e : DspEcc)
  | max (n : Nat) (e : DspEcc)
  | min (n : Nat) (e : DspEcc)
  | mov (n : Nat) (e : DspEcc)
  | asr (n : Nat) (e : DspEcc)
  | lsr (n : Nat) (e : DspEcc)
  | lsl (n : Nat) (e : DspEcc)
  | cmp (n : Nat) (e : DspEcc)
  | tst (n : Nat) (e : DspEcc)
  | movr (n : Nat) (e : DspEcc)
  | setscale (n : Nat) (e : DspEcc)
  | nop (n : Nat) (e : DspEcc)
  | ldi (n : Nat) (e : DspEcc)
  | ldx (n : Nat) (e : DspEcc)
  | stx (n : Nat) (e : DspEcc)
  | ldy (n : Nat) (e : DspEcc)
  | sty (n : Nat) (e : DspEcc)
  | lea (n : Nat) (e : DspEcc)
  | addi (n : Nat) (e : DspEcc)
  | bcc (n : Nat) (e : DspEcc)
  | jsr (n : Nat) (e : DspEcc)
  | rts (n : Nat) (e : DspEcc)
  | rti (n : Nat) (e : DspEcc)
  | loop (n : Nat) (e : DspEcc)
  | loopr (n : Nat) (e : DspEcc)
  | rep (n : Nat) (e : DspEcc)
  | repr (n : Nat) (e : DspEcc)
  | lexit (n : Nat) (e : DspEcc)
  | blkend (n : Nat) (e : DspEcc)
  | trap (n : Nat) (e : DspEcc)
  | halt (n : Nat) (e : DspEcc)
  -- What surrounds the DSP cores (R404 to R424)
  | dspDoorbell (m : Master) (n : Nat)
  | dspInterrupt (n : Nat)
  | qinItemCopy (n i : Nat)
  | blockPending (n j : Nat)
  | returnDeadline (n j : Nat)
  | dspCoreStop (n : Nat)
  | debugHalt (t : DebugTarget)
  -- Composition unit (R425 to R454)
  | latchPoint (n frame : Nat) (aged : List Nat)
  | layerArm (m : Master) (n l v : Nat)
  | layerCancel (m : Master) (n l : Nat)
  | headCommit (m : Master) (n : Nat)
  | headCancel (m : Master) (n : Nat)
  | fenceSignal (m : Master) (n v : Nat)
  | fenceItem (n : Nat)
  | lutselWrite (m : Master) (n v : Nat)
  | lutWrite (m : Master) (n o v : Nat)
  | shadowWrite (m : Master) (n : Nat) (w : Shadow) (v : Nat)
  -- Control interconnect and host link (R455 to R480)
  | targetTimeout (m : Master) (addr : Nat) (write : Bool)
  | masterReset (m : Master) (b : Burst)
  | linkTrained (repaired : Nat)
  | linkRetrain (repaired : Nat)
  | linkDown (b : Option Burst)
  | hotReset (b : Option Burst)
  | d3hotEntry (b : Option Burst)
  | replayThreshold (n : Nat)
  | msixUnmask (m : Master) (n : Nat)
  | mbxReq (m : Master) (b v : Nat)
  | mbxRsp (m : Master) (b v : Nat)
  -- Faults, events and check-value units (R481 to R506)
  | coalesceWindowClose (n : Nat)
  | stormPeriodEnd
  | stormRelease (m : Master) (n v : Nat)
  | stormReleaseTimeout (n : Nat)
  | force (m : Master) (n v : Nat)
  | recoveryTake (m : Master) (v : Nat)
  | recoveryDone (m : Master) (v : Nat)
  | recoveryOverdue
  | safeEntry
  | scrubPassComplete (k : Nat)
  | hbmStackFailed (k : Nat) (training : Bool)
  | hbmTempHigh (k : Nat)
  | chkResult (u : Nat) (data : List Nat) (id : Nat) (gap : Bool)
  | chkPassDone (u : Nat) (uncorrectable : Bool)
  -- Twins (R507 to R533)
  | claimInAssert
  | claimInDeassert
  | claimOutAssert
  | drivingStart
  | lineFault
  | twinHeartbeatSend
  | mgmtHeartbeatSend
  | twinHeartbeat (path : Option Nat) (bs : List Byte)
  | pathLost (link : Bool)
  | resyncSend (kind index n : Nat) (starts : List Stamp)
  | resyncMessage (bs : List Byte) (own : List Stamp)
  | claimDrop
  | claimTake (m : Master) (v : Nat)
  | claimRelease (m : Master)
  | syncStageComplete
  | standbyEntry
  -- Security, power states and debug (R534 to R557)
  | nonceRead (m : Master)
  | unlock (m : Master) (slot : Nat)
  | relock (m : Master) (slot : Nat)
  | provision (m : Master) (slot : Nat)
  | deploy (m : Master) (slot : Nat)
  | secReturn (m : Master) (slot : Nat)
  | revokeOwner (m : Master) (slot : Nat)
  | revokeSafety (m : Master) (slot : Nat)
  | raiseFloor (m : Master) (slot : Nat)
  | ackSafety (m : Master) (slot : Nat)
  | quietRequest (m : Master)
  | leaveQuiet (m : Master)
  | supplyOutOfRange (rail : Nat)
  | tempWarning (t : Int)
  | tempCritical (t : Int)
  | clockMonitor (domains : Nat)
  -- Field side (R558 to R576)
  | safetyMeasurement (i ohms : Nat)
  | bandRecognised (is : List Nat)
  | overrideArm
  | safetyReminder (i : Nat)
  | gpiEdge (n : Nat) (active : Bool) (t : Stamp)
  | gpiRateWindow (n : Nat)
  | gpiStuck (n : Nat)
  | gpiFifoRead (m : Master)
  | vfieldOutOfRange (mv : Nat)
  | fieldStatusFrame (good : Bool) (mv : Nat)
  | fieldLinkDown
  | fieldLinkUp
  | gpoOverload (n : Nat)
  | gpoFaultClear (m : Master) (v overloaded : Nat)
  -- Rows of several chapters (R135, R206, R356, R474, R498, R550, R552, R566)
  | cellRelease (slot n typ k : Nat) (live : Option VideoSpan)
  | vfieldInRange (mv : Nat)
  | scrubRead (k : Nat) (ecc : EccOutcome)
  | prbsCheckerLock (l : Nat) (bits : List Bool)
  | pdmClockReturn (q : Nat)
  | configWrite (bme msixEn funcMask : Bool) (dstate : Nat)
  | jtagInstruction (i : JtagIns)
  | debugStep (t : DebugTarget) (e : DspEcc)
deriving DecidableEq, Repr

end Sys2Proof
end

