-- ==== Sys2Proof/Machine/Fields.lean ====
section
/-!
DEFINITION. The fields of the device's registers, one constructor per named field of the spec's register tables, and the
spec's bit position, width, access code and reset value of each (R15 and the register tables of every chapter).
A field of an array of registers is one constructor, used with an index.
-/
namespace Sys2Proof.Machine

/-- Access codes (R15). -/
inductive Acc where
  | RW | RO | WO | W1C | W1S | RC | RWL
deriving DecidableEq, Repr

/-- A named field of a register. `UNIT_EN` and the `CHECK_` fields are those of R74, indexed by `UnitKind.code`. -/
inductive Fld where
  | UNIT_EN
  | CHECK_BUSY
  | CHECK_ENABLED
  | CHECK_REFUSALS
  | CHECK_LAST_REASON
  | CHECK_MASTER
  | GEN_ENUM_POS_VALID
  | GEN_ENUM_FAULT
  | GEN_ENUM_MGMT_ADDR
  | GEN_ENUM_TWIN
  | GEN_ENUM_PLANE
  | GEN_ENUM_POSITION
  | GAZ_W0_VALID
  | GAZ_W0_SKETCH
  | GAZ_W0_STALE
  | GAZ_W0_SOURCE
  | GAZ_W1_GENERATION
  | GAZ_W1_FORMAT
  | GAZ_W1_DEPTH
  | GAZ_W1_SCALE
  | GAZ_RATE
  | GAZ_ANC_RATE
  | GAZ_LABEL0
  | GAZ_LABEL1
  | GAZ_LABEL2
  | GAZ_LABEL3
  | ATL_GAZ_STAT_FOREIGN_WR
  | ATL_GAZ_STAT_STALE
  | ATL_GAZ_STAT_MISMATCH
  | ATL_GAZ_DIGEST
  | GEN_CTRL_UNLOCK
  | GEN_CTRL_DEVICE_RESET
  | GEN_CTRL_ST_RUN
  | GEN_CTRL_REMAP
  | GEN_CAP0_CMP
  | GEN_CAP0_HEADS
  | GEN_CAP0_HBM_STACKS
  | GEN_CAP0_DSP_CORES
  | GEN_CAP0_FAB_LANES
  | GEN_CAP0_MEDIA_LANES
  | GEN_CAP1_AUD_CH_K
  | GEN_CAP1_IMG_ENC
  | GEN_CAP1_FIELD
  | GEN_CAP1_TWIN
  | GEN_CAP1_PDM
  | GEN_CAP1_EVAC_AUDIO
  | GEN_CAP1_MAX_POS
  | GEN_CAP1_FAB_PER_PEER
  | GEN_BOOT_STAT_PHASE
  | GEN_BOOT_STAT_SLOT_USED
  | GEN_BOOT_STAT_SAFETY_DEFAULT
  | GEN_BOOT_STAT_RESULT_A
  | GEN_BOOT_STAT_RESULT_B
  | GEN_BOOT_STAT_CRC_FAULTS
  | GEN_BOOT_STAT_SKIPPED
  | GEN_BOOT_SEQ
  | GEN_REFUSE_LOG0_REASON
  | GEN_REFUSE_LOG0_WORD
  | GEN_REFUSE_LOG1_COUNT
  | GEN_REFUSE_LOG1_MASTER
  | MSIX_ADDR_LO
  | MSIX_ADDR_HI
  | MSIX_DATA
  | MSIX_CONTROL_MASK
  | MSIX_PBA
  | CFG_NVM_CTRL_CMD
  | CFG_NVM_ADDR_PAGE
  | CFG_NVM_STAT_BUSY
  | CFG_NVM_STAT_REASON
  | CFG_PERSIST_STAT_OFF
  | CFG_PERSIST_STAT_WRITE_FAULT
  | CFG_PERSIST_STAT_DROPPED
  | CFG_PAGE_BUF
  | ATL_CTRL_REALIGN
  | ATL_CTRL_SLIP_LIMIT
  | ATL_STAT_MISALIGNED
  | ATL_STAT_SALVO_PENDING
  | ATL_STAT_SALVO_TAG
  | ATL_STAT_SALVO_SLIPS
  | ATL_COMMIT_SALVO
  | ATL_COMMIT_AT_FRAME
  | ATL_COMMIT_DEST
  | ATL_COMMIT_FRAME
  | ATL_COMMIT_RESULT_BUSY
  | ATL_COMMIT_RESULT_TAG
  | ATL_COMMIT_RESULT_REASON
  | ATL_CANCEL_SALVO
  | ATL_CANCEL_DEST
  | ATL_SALVO_MASK
  | ATL_PENDING
  | ATL_FRAME_SEL
  | ATL_FRAME_NOW
  | ATL_DRAFT_ARMED
  | ATL_DRAFT_AFV
  | ATL_DRAFT_SOURCE
  | ATL_DRAFT_STAT_REASON
  | ATL_DRAFT_STAT_TAG
  | ATL_DRAFT_STAT_SLIPS
  | ATL_DRAFT_STAT_STATE
  | ATL_DRAFT_STAT_SUB
  | ATL_DRAFT_STAT_FAB_REASON
  | ATL_DRAFT_SPANS
  | ATL_LIVE_AFV
  | ATL_LIVE_REMOTE
  | ATL_LIVE_CODING
  | ATL_LIVE_OUT_STATE
  | ATL_LIVE_SOURCE
  | ATL_LIVE_FRAME
  | ATL_LIVE_INFO_TAG
  | ATL_LIVE_INFO_WAYPOINT
  | ATL_LIVE_INFO_HOME
  | ATL_LIVE_LOSS_FRAMES
  | ATL_DEST_CTRL_DEPTH
  | ATL_DEST_CTRL_FORMAT
  | ATL_DEST_CTRL_LOSS
  | ATL_DEST_ADJ
  | ATL_DEST_HOLD
  | ATL_DEST_STAT_LOST
  | ATL_DEST_STAT_FORMAT_LOST
  | ATL_DEST_STAT_LOSS_COUNT
  | ATL_IN_STAT_LOST
  | ATL_IN_STAT_FMT_ERR
  | ATL_IN_STAT_STORE_SHORT
  | ATL_IN_STAT_PHASE
  | ATL_IN_COUNT_REPEATS
  | ATL_IN_COUNT_DROPS
  | ATL_N_RECENT
  | ATL_N_DECIDED
  | DEST_FRAME
  | DEST_LOSS_NOW
  | DEST_HOLD_COUNT
  | DEST_RECOVER
  | DEST_PREV_SOURCE
  | IN_READ
  | IN_COMPLETED
  | IN_STALE
  | IN_FRESH
  | IN_GOOD
  | IN_ALLOC
  | DEST_ALLOC
  | GAZ_STAGE
  | GAZ_STAGED
  | GAZ_DIRTY
  | TWN_TX_SEQ
  | TWN_LINK_SEEN
  | TWN_MGMT_SEEN
  | IN_READ_PREV
  | DEST_OLD_SOURCE
  | DEST_OLD_OUT
  | DEST_DISABLE_DUE
  | DEST_DRAFT_RX
  | DEST_LIVE_RX
  | DEST_PREV_RX
  | IN_DETECTED
  | IN_FMT
  | IN_DEPTH
  | IN_LINE_SPAN
  | IN_LINE_READ
  | DEST_LOSS_LAST
  | DEST_SAFE_LAST
  | DEST_SAFE_COUNT
  | FAB_CTRL_WP_TRIES
  | FAB_CTRL_REVERT
  | FAB_CTRL_ORDER
  | FAB_STAT_DEGRADED
  | FAB_STAT_UP
  | FAB_POS_MASK_POSITIONS
  | FAB_PEER_LOST
  | FAB_PEER_EVENT
  | FAB_PORT_LIMIT
  | FAB_PORT_STAT_UP
  | FAB_PORT_STAT_LOST
  | FAB_PORT_STAT_WIRING
  | FAB_PORT_STAT_UNFITTED
  | FAB_PORT_STAT_LANES_UP
  | FAB_PORT_STAT_PEER_POS
  | FAB_PORT_STAT_PEER_PLANE
  | FAB_PORT_STAT_PEER_TWIN
  | FAB_PORT_STAT_PEER_CLASS
  | FAB_PORT_TX_LOAD
  | FAB_PORT_CEILING
  | FAB_PORT_RX_LOAD
  | FAB_PORT_BAD
  | FAB_PORT_LATE
  | FAB_DEST_POLICY_MAX_CODING
  | FAB_RX0_VALID
  | FAB_RX0_SKETCH
  | FAB_RX0_CODING
  | FAB_RX0_WAYPOINT
  | FAB_RX0_HOME
  | FAB_RX0_STATE
  | FAB_RX0_SOURCE
  | FAB_RX1_REASON
  | FAB_RX1_USERS
  | FAB_RX1_SPANS
  | FAB_RX2_COST
  | FAB_RX3_MISSING
  | FAB_RX3_MIGRATIONS
  | FAB_TX0_VALID
  | FAB_TX0_SKETCH
  | FAB_TX0_CODING
  | FAB_TX0_PORT
  | FAB_TX0_DEST
  | FAB_TX0_WAYPOINT
  | FAB_TX0_SOURCE
  | FAB_TX1_COST
  | FAB_TX2_START
  | FAB_TX3_ORDER_NO
  | FAB_WP0_VALID
  | FAB_WP0_SKETCH
  | FAB_WP0_CODING
  | FAB_WP0_IN_PORT
  | FAB_WP0_OUT_PORT
  | FAB_WP0_HOME
  | FAB_WP0_DEST
  | FAB_WP0_SOURCE
  | FAB_WP1_COST
  | FAB_WP2_CELLS
  | FAB_CTL_SEQ
  | FAB_ORDER_NEXT
  | FAB_SPARE_KNOWN
  | FAB_SPARE
  | FAB_HB_SEEN
  | FAB_REQ_NO
  | FAB_NOTICE_DUE
  | FAB_LOSS_SEC
  | FAB_LOSS_NS
  | FAB_LOSS_FRAC
  | MZC_CTRL_COARSE
  | MZC_STAT_DEC_STREAMS
  | MZC_STAT_ENC_STREAMS
  | MZC_ALARM_INEXACT_LIMIT
  | MZC_REFINE_DROP_CELLS
  | MZC_REFINE_LATE_CELLS
  | MZC_ENC_FRAME
  | MZC_ENC_INEXACT
  | MZC_ENC_MAX_ERR
  | MZC_ENC_TOTAL
  | MZC_ENC_HIST
  | MZC_DEST_STAT0_LAST_REASON
  | MZC_DEST_STAT0_CODING
  | MZC_DEST_STAT0_MAX_ERR
  | MZC_DEST_INEXACT
  | MZC_DEST_FRAME
  | MZC_DEST_STAT3_ALARMS
  | MZC_DEST_STAT3_COARSE_BLOCKS
  | MZC_DEC_FRAME
  | MZC_DEC_INEXACT
  | MZC_DEC_MAX_ERR
  | MZC_DEC_COARSE_BLOCKS
  | MZC_DEC_HIST
  | MZC_DEC_MISSING
  | MZC_DEC_LAST_REASON
  | DEC_NOW_COARSE
  | DEC_NOW_HIST
  | MZC_OVER_LIMIT
  | DEC_NOW_SPAN
  | DEC_SHOWN
  | ENC_SEEN
  | LAN_CTRL_RX_MODE
  | LAN_CTRL_TX_MODE
  | LAN_BIND_RX_QUAD
  | LAN_BIND_RX_KIND
  | LAN_BIND_RX_TARGET
  | LAN_BIND_TX_QUAD
  | LAN_BIND_TX_KIND
  | LAN_BIND_TX_TARGET
  | LANF_CTRL_RX_MODE
  | LANF_CTRL_TX_MODE
  | LAN_STAT_LOS
  | LAN_STAT_LOCK
  | LAN_STAT_TX_ACTIVE
  | LAN_STAT_TX_PLL_LOCK
  | LAN_STAT_QUAD_SKEW
  | LAN_STAT_TEST_ACTIVE
  | LAN_STAT_FREQ
  | LAN_EVT
  | LAN_EVT_EN
  | LAN_CRC_ERR
  | LAN_FEC_COR
  | LAN_ECC_COR
  | LAN_RXQ_DROP
  | LAN_EQ_CTLE
  | LAN_EQ_PRE
  | LAN_EQ_MAIN
  | LAN_EQ_POST
  | LAN_EQ_SWING
  | LAN_EQ_RX_INV
  | LAN_EQ_TX_INV
  | LAN_TEST_PRBS_LOCK
  | LAN_TEST_LOOP
  | LAN_TEST_PRBS_TX
  | LAN_TEST_PRBS_RX
  | LAN_PRBS_ERR
  | LAN_EQ_INFO_ENTRIES
  | LAN_EQ_INFO_DUPLICATES
  | LAN_EQ_INFO_INVALID
  | LAN_QUAD_STAT_PLL_LOCK
  | LAN_QUAD_STAT_FAMILY
  | LAN_QUAD_STAT_TX_LANES
  | LAN_BOARD_ID
  | LAN_RXQ_FILL
  | LAN_PRBS_SR
  | LAN_PRBS_RUN
  | PKT_Q_ECC_COR
  | PKT_Q_ECC_UNCOR
  | PKT_Q_PEND_SUM
  | PKT_Q_PENDING
  | PKT_MAC_CTRL_MAX_FRAME
  | PKT_MAC_CTRL_PFC_EN
  | PKT_MAC_CTRL_PAUSE_RX_EN
  | PKT_MAC_CTRL_MC_TO_SWQ
  | PKT_MAC_ADDR_LO
  | PKT_MAC_ADDR_HI
  | PKT_MAC_IPV4
  | PKT_MAC_SWQ_EN
  | PKT_MAC_SWQ_QUEUE
  | PKT_MAC_STAT_LINK
  | PKT_MAC_STAT_PAUSED
  | PKT_MAC_STAT_PFC_PAUSED
  | PKT_MAC_EVT
  | PKT_MAC_EVT_EN
  | PKT_MAC_RX_FRAMES
  | PKT_MAC_RX_FCS_ERR
  | PKT_MAC_RX_DROP
  | PKT_MAC_TX_FRAMES
  | PKT_MAC_TX_ABORT
  | PKT_MAC_PAUSE_RX
  | PKT_MAC_PFC_RX
  | PKT_MAC_GATE_DROP
  | PKT_GCL_CTRL_TB
  | PKT_GCL_CTRL_LIST_LEN
  | PKT_GCL_CTRL_CHANGE
  | PKT_GCL_CYCLE_NUM
  | PKT_GCL_CYCLE_DEN
  | PKT_GCL_BASE_NS
  | PKT_GCL_BASE_SEC
  | PKT_GCL_BASE_SEC_HI
  | PKT_GCL_EXT
  | PKT_GCL_STAT_PENDING
  | PKT_GCL_STAT_RUNNING
  | PKT_GCL_STAT_ENTRY
  | PKT_TX_KIND
  | PKT_TX_TWIN_SEAMLESS
  | PKT_TX_DUAL
  | PKT_TX_NL
  | PKT_TX_TC
  | PKT_TX_MAC_A
  | PKT_TX_MAC_B
  | PKT_TX_TARGET
  | PKT_TX_PKTS_PER_FRAME
  | PKT_TX_MAX_PAYLOAD
  | PKT_TX_SENT
  | PKT_TX_LATE
  | PKT_TX_SENDING
  | PKT_RX_KIND
  | PKT_RX_MERGE
  | PKT_RX_SRC_MATCH
  | PKT_RX_MAC
  | PKT_RX_TARGET
  | PKT_RX_DST_IP
  | PKT_RX_DST_PORT
  | PKT_RX_MERGE_US
  | PKT_RX_SRC_IP
  | PKT_RX_LOST
  | PKT_RX_LEG_LOST
  | PKT_RX_PARTNER
  | PKT_RX_COUNT_GAPS
  | PKT_RX_COUNT_LATE
  | PKT_RX_COUNT_CLAMPED
  | PKT_TPL
  | PKT_GATE_GATES
  | PKT_GATE_INTERVAL
  | PKT_Q_BASE_LO
  | PKT_Q_PROD_AGENT
  | PKT_Q_CONS_AGENT
  | PKT_Q_LOG2_SIZE
  | PKT_Q_BASE_HI
  | PKT_Q_PTR_GEN
  | PKT_Q_PTR_PROD
  | PKT_Q_PTR_CONS
  | PKT_Q_WMARK
  | PKT_Q_FLUSH
  | PKT_Q_EVT_EN
  | PKT_Q_STAT_FLUSHING
  | PKT_Q_STAT_WMARK_C
  | PKT_Q_STAT_FLUSHED
  | PKT_Q_STAT_UNCOR_C
  | PKT_Q_STAT_OCCUPANCY
  | PKT_QW_COR
  | PKT_QW_UNCOR
  | PKT_QW_DROPS
  | PKT_INPUT_LOST
  | PKT_RX_SEQ
  | PKT_RX_SEEN
  | PKT_AUDIO_LOST
  | PKT_PAUSE_QUANTA
  | PKT_PFC_QUANTA
  | PKT_Q_ITEM_ECC
  | TIM_TB_INC_LO
  | TIM_TB_INC_HI
  | TIM_TB_CMD_DISARM
  | TIM_TB_CMD_ARM
  | TIM_TB_CMD_SET
  | TIM_TB_CMD_STEP
  | TIM_TB_ADJ_NS
  | TIM_TB_ADJ_SEC_LO
  | TIM_TB_ADJ_SEC_HI
  | TIM_TB_NOW_FRAC_FRAC
  | TIM_TB_NOW_NS
  | TIM_TB_NOW_SEC_LO
  | TIM_TB_NOW_SEC_HI
  | TIM_TB_ALARM_NS
  | TIM_TB_ALARM_SEC_LO
  | TIM_TB_ALARM_SEC_HI
  | TIM_TB_EVT
  | TIM_TB_EVT_EN
  | TIM_TB_STAT_RUNNING
  | TIM_TB_STAT_ARMED
  | TIM_TB_STAT_STEPS
  | TIM_SNAP_CMD_CAPTURE
  | TIM_SNAP_TICKS_LO
  | TIM_SNAP_TICKS_HI
  | TIM_SNAP_FRAC_FRAC
  | TIM_SNAP_FRAC_VALID
  | TIM_SNAP_NS
  | TIM_SNAP_SEC_LO
  | TIM_SNAP_SEC_HI
  | TIM_MAC_CTRL_PTPQ_EN
  | TIM_MAC_CTRL_TB
  | TIM_MAC_CTRL_PTPQ
  | TIM_MAC_TX_ADJ
  | TIM_MAC_RX_ADJ
  | TIM_MAC_LAUNCH_HORIZON_MS
  | TIM_MAC_LAUNCH_LATE_US
  | TIM_DOMAIN_EN
  | TIM_DOMAIN_TB
  | TIM_DOMAIN_DOMAIN
  | TIM_CAP_CTRL_EDGE
  | TIM_CAP_CTRL_TB
  | TIM_CAP_CTRL_LANE
  | TIM_CAP_DIV
  | TIM_CAP_HEAD_VALID
  | TIM_CAP_HEAD_OVERRUN
  | TIM_CAP_HEAD_RISING
  | TIM_CAP_HEAD_STEPPED
  | TIM_CAP_HEAD_DEPTH
  | TIM_CAP_HEAD_SEC_HI
  | TIM_CAP_SEC
  | TIM_CAP_NS
  | TIM_CAP_FRAC_FRAC
  | TIM_CAP_LOST
  | TB_INC_STAGED
  | TB_INC_DUE
  | TB_INC_NEXT
  | TB_ALARM_NS
  | TB_ALARM_SEC
  | TB_SHADOW_NS
  | TB_SHADOW_SEC
  | CAP_EDGES
  | CAP_OVERRUN
  | CAP_STEPPED
  | AGE_POS
  | AGE_SEQ
  | AGE_AT
  | REF_CTRL_FORCE_EN
  | REF_CTRL_FORCE_CAND
  | REF_CTRL_BW
  | REF_CTRL_FAST_ACQ
  | REF_CTRL_LEARN
  | REF_SEL_STATE_STATE
  | REF_SEL_STATE_SLEWING
  | REF_SEL_STATE_SELECTED
  | REF_SEL_STATE_CAUSE
  | REF_SEL_STATE_INC0_DEV
  | REF_SEL_STATE_RATE_CLAMP
  | REF_SEL_STATE_HOLD_MIN
  | REF_LIMITS_DISQ
  | REF_LIMITS_WARN
  | REF_QUAL_QUAL
  | REF_QUAL_MUTUAL
  | REF_DRIFT_DRIFT
  | REF_DRIFT_DRIFT_HOLD
  | REF_SLOPE_SLOPE
  | REF_SLOPE_HOLD_LIMIT
  | REF_MODEL_Y
  | REF_MODEL_AGE
  | REF_TEMP_TEMP_FAULT
  | REF_TEMP_TEMP
  | REF_CORR
  | REF_MODEL_STAT_VALID
  | REF_MODEL_STAT_LEARNED
  | REF_MODEL_STAT_RANGE
  | REF_MODEL_STAT_FROM_RING
  | REF_MODEL_STAT_DAYS
  | REF_SW_VALID
  | REF_SW_MOVED
  | REF_CAND_EN
  | REF_CAND_REVERTIVE
  | REF_CAND_LOCKED
  | REF_CAND_PRIORITY
  | REF_CAND_KIND
  | REF_CAND_FORMAT
  | REF_CAND_LANE
  | REF_CAND1_CSTATE
  | REF_CAND1_DRIFTING
  | REF_CAND1_QUAL_LEFT
  | REF_CAND_OFFSET
  | REF_CAND_DRIFT
  | REF_CAND4_DISQ_COUNT
  | REF_K
  | REF_MOVED
  | REF_RAW
  | REF_D
  | REF_BEYOND
  | REF_WITHIN
  | REF_LOCK_SECS
  | REF_ACQUIRED
  | REF_HOLD_SECS
  | REF_NOON_RUN
  | REF_NOON_SECS
  | REF_DAY
  | REF_DAY_SECS
  | REF_DAY_NOON
  | REF_DAY_SUM
  | REF_Y
  | REF_TY
  | REF_QUAL_SECS
  | REF_AGE_START
  | REF_TEMP_FAILS
  | REF_SW_ALIVE
  | REF_NEXT
  | AUD_CTRL_WAIT_MS
  | AUD_CTRL_ALIGN_LOCAL
  | AUD_CTRL_FS
  | AUD_STAT_COMMIT_PENDING
  | AUD_STAT_RX_GROUPS
  | AUD_STAT_DAYBREAKS
  | AUD_COMMIT_RANGE_FIRST
  | AUD_COMMIT_RANGE_COUNT
  | AUD_COMMIT_GO
  | AUD_COMMIT_CANCEL
  | AUD_COMMIT_AT_MERIDIAN
  | AUD_COMMIT_FORMAT
  | AUD_COMMIT_RESULT_BUSY
  | AUD_COMMIT_RESULT_PENDING
  | AUD_COMMIT_RESULT_TAG
  | AUD_COMMIT_RESULT_REASON
  | AUD_COMMIT_RESULT_WAITED
  | AUD_DAYBREAK_SRC
  | AUD_DAYBREAK_EDGE
  | AUD_DAYBREAK_PERIOD_MS
  | AUD_DAYBREAK_LAST
  | AUD_EVAC_ACTIVE
  | AUD_EVAC_DEFAULT
  | AUD_EVAC_CLIP_FAULT
  | AUD_EVAC_DESIGNATED_LOST
  | AUD_EVAC_VENUE_COUNT
  | AUD_RXG0_VALID
  | AUD_RXG0_STATE
  | AUD_RXG0_LOST
  | AUD_RXG0_HOME
  | AUD_RXG0_REASON
  | AUD_RXG0_SPANS
  | AUD_RXG0_GROUP
  | AUD_RXG_MISSING
  | AUD_DRAFT_SOURCE
  | AUD_LIVE_REMOTE
  | AUD_LIVE_MISSING
  | AUD_LIVE_EVAC
  | AUD_LIVE_SOURCE
  | AUD_OUT0_CLIPPED
  | AUD_OUT0_VENUE
  | AUD_OUT0_GAIN
  | AUD_OUT1_GAIN_LIMIT
  | AUD_OUT1_CEILING
  | AUD_PORT_CTRL_IN_EN
  | AUD_PORT_CTRL_OUT_EN
  | AUD_PORT_CTRL_MASTER
  | AUD_PORT_CTRL_RAMP
  | AUD_PORT_CTRL_META
  | AUD_PORT_CTRL_ASRC
  | AUD_PORT_CTRL_SETTING
  | AUD_PORT_CHAN_IN_BASE
  | AUD_PORT_CHAN_OUT_BASE
  | AUD_PORT_MASK_IN
  | AUD_PORT_MASK_OUT
  | AUD_PORT_STAT_STATE
  | AUD_PORT_STAT_RATE_ERR
  | AUD_PORT_STAT_DOMAIN_ERR
  | AUD_PORT_STAT_HELD
  | AUD_PORT_STAT_CLK_PRESENT
  | AUD_PORT_STAT_FMT_ERR
  | AUD_PORT_STAT_FREQ
  | AUD_PORT_EVT
  | AUD_PORT_EVT_EN
  | AUD_PORT_UNDERRUNS
  | AUD_PORT_OVERRUNS
  | AUD_PORT_SLIPS
  | AUD_PORT_GLITCHES
  | AUD_PORT_QUEUE
  | AUD_PORT_PLAYOUT
  | AUD_GROUP_LOST
  | AUD_K
  | AUD_MASK_IN_LATCHED
  | AUD_MASK_OUT_LATCHED
  | AUD_MASK_IN_PREV
  | AUD_MASK_OUT_PREV
  | AUD_MASK_WRITTEN
  | AUD_RAMP_LEFT
  | AUD_REPEATS
  | AUD_SLIPPED
  | AUD_EVAC_POS
  | AUD_EVAC_WAIT
  | AUD_VENUE_RAMP
  | AUD_GAIN_FROM
  | AUD_GAIN_LEFT
  | AUD_AFV_DUE
  | AUD_AFV_LEFT
  | AUD_AFV_OLD
  | DSP_CORE_CTRL_Q_IRQ
  | DSP_CORE_CTRL_DB_IRQ
  | DSP_CORE_CTRL_BLOCK
  | DSP_CORE_CTRL_MODE
  | DSP_CORE_STAT_STATE
  | DSP_CORE_STAT_FAULT
  | DSP_CORE_STAT_TRAP_CODE
  | DSP_CORE_STAT_PC
  | DSP_CORE_EVT
  | DSP_CORE_EVT_EN
  | DSP_CORE_DOORBELL_RING
  | DSP_CORE_MBOX_IN
  | DSP_CORE_MBOX_OUT
  | DSP_XCH_TAP_TAP_BASE
  | DSP_XCH_TAP_TAP_COUNT
  | DSP_XCH_RET_RET_BASE
  | DSP_XCH_RET_RET_COUNT
  | DSP_XCH_BUF_X_TAP
  | DSP_XCH_BUF_Y_RET
  | DSP_QIN_EN
  | DSP_QIN_QUEUE
  | DSP_QIN_RING_LOG2
  | DSP_QIN_RING_BASE
  | DSP_BLK_STAT_LATE
  | DSP_BLK_STAT_SKIPPED
  | DSP_CORE_ECC_COR
  | DSP_CORE_ECC_UNCOR
  | DSP_CORE_LOAD_MAX_CYCLES
  | DSP_QIN_DROP_Q1
  | DSP_QIN_DROP_Q0
  | CMP_LEGEND_STAT_ACTIVE
  | CMP_LEGEND_STAT_DEFAULT
  | CMP_LEGEND_STAT_FAULT
  | CMP_LEGEND_STAT_VERSION
  | CMP_HEAD_CTRL_FORMAT
  | CMP_HEAD_CTRL_DEPTH
  | CMP_HEAD_CTRL_FENCED
  | CMP_HEAD_CTRL_MISS_LIMIT
  | CMP_HEAD_STAT_PENDING
  | CMP_HEAD_STAT_EVAC
  | CMP_HEAD_STAT_ROM_SLIDE
  | CMP_HEAD_STAT_LAST_REASON
  | CMP_HEAD_STAT_LAYERS
  | CMP_HEAD_ADJ
  | CMP_HEAD_BG
  | CMP_HEAD_COMMIT_GO
  | CMP_HEAD_COMMIT_CANCEL
  | CMP_HEAD_LUTSEL_IN_USE
  | CMP_HEAD_LUTSEL_SEL
  | CMP_HEAD_FQ_FQ_EN
  | CMP_HEAD_FQ_QUEUE
  | CMP_HEAD_EVT
  | CMP_HEAD_EVT_EN
  | CMP_FENCE_SIGNAL_FENCE
  | CMP_FENCE_SIGNAL_VALUE
  | CMP_HEAD_TALLY
  | CMP_FENCE
  | CMP_TILE_W0_EN_T
  | CMP_TILE_W0_KIND
  | CMP_TILE_W0_LABEL_ON
  | CMP_TILE_W0_LABEL_SIZE
  | CMP_TILE_W0_TALLY
  | CMP_TILE_W0_BORDER
  | CMP_TILE_W0_ALPHA
  | CMP_TILE_W0_SOURCE
  | CMP_TILE_W1_Y
  | CMP_TILE_W1_X
  | CMP_TILE_W2_HEIGHT
  | CMP_TILE_W2_WIDTH
  | CMP_TILE_W3_FALLBACK
  | CMP_TILE_L0
  | CMP_TILE_L1
  | CMP_TILE_L2
  | CMP_TILE_L3
  | CMP_TILE_W8_READY
  | CMP_TILE_W8_FALLBACK_ON
  | CMP_TILE_W8_PREDEC
  | CMP_TILE_W8_ARMED
  | CMP_TILE_W8_FAB_REASON
  | CMP_TILE_W8_MISSES
  | CMP_TILE_W8_LAST_REASON
  | CMP_TILE_MISS_TOTAL
  | CMP_TILE_FLIP_ARM
  | CMP_TILE_FLIP_CANCEL
  | CMP_TILE_FLIP_FENCE
  | CMP_TILE_FLIP_VALUE
  | CMP_TILE_WAIT_FRAMES
  | CMP_OVL_W0_EN_O
  | CMP_OVL_W0_FMT
  | CMP_OVL_W0_ALPHA
  | CMP_OVL_W0_FALLBACK_A
  | CMP_OVL_W1_BASE_LO
  | CMP_OVL_W2_STRIDE
  | CMP_OVL_W2_BASE_HI
  | CMP_OVL_W3_FALLBACK
  | CMP_OVL_L0
  | CMP_OVL_L1
  | CMP_OVL_L2
  | CMP_OVL_L3
  | CMP_OVL_FETCH_FAULTS
  | CMP_OVL_FLIP_ARM
  | CMP_OVL_FLIP_CANCEL
  | CMP_OVL_FLIP_FENCE
  | CMP_OVL_FLIP_VALUE
  | CMP_OVL_WAIT_FRAMES
  | CMP_HEAD_HCOEF
  | CMP_HEAD_VCOEF
  | CMP_LUT_PV_ODD
  | CMP_LUT_PV_EVEN
  | CMP_LUT_PG_ODD
  | CMP_LUT_PG_EVEN
  | CMP_LUT_PO_ODD
  | CMP_LUT_PO_EVEN
  | CMP_BG_LIVE
  | CMP_TALLY_LIVE
  | CMP_BG_TICK
  | CMP_COMMIT_TICK
  | CMP_LUT_TICK
  | CMP_LUT_PENDING
  | CMP_FLIP_FENCE
  | CMP_FLIP_VALUE
  | CMP_FLIP_MASTER
  | CMP_OVL_ARMED
  | CMP_OVL_LAST_REASON
  | CMP_TILE_OLD
  | CMP_EVAC_TICK
  | CMP_EVAC_WAIT
  | BUS_ERR_LOG0
  | BUS_ERR_LOG1_MASTER
  | BUS_ERR_LOG1_WRITE
  | BUS_ERR_LOG1_CAUSE
  | BUS_ERR_LOG1_ADDR_HI
  | BUS_ERR_COUNT
  | BUS_LOST_LOG0
  | BUS_LOST_LOG1_MASTER
  | BUS_LOST_LOG1_WRITE
  | BUS_LOST_LOG1_LEN
  | BUS_LOST_LOG1_DONE
  | BUS_LOST_LOG1_ADDR_HI
  | BUS_LOST_COUNT
  | BUS_TIMEOUT_CYCLES
  | BUS_SRAM_ECC_COR
  | BUS_SRAM_ECC_UNCOR
  | BUS_SRAM_ADDR
  | BUS_LINK_STAT_LINK_UP
  | BUS_LINK_STAT_BME
  | BUS_LINK_STAT_MSIX_EN
  | BUS_LINK_STAT_FUNC_MASK
  | BUS_LINK_STAT_DSTATE
  | BUS_LINK_STAT_REPAIRED
  | BUS_LINK_COUNT_RETRAINS
  | BUS_LINK_COUNT_REPLAYS
  | MSIX_PENDING
  | MBX_CTRL_REQ
  | MBX_CTRL_RSP
  | MBX_CTRL_STEWARD
  | MBX_CTRL_SEQ
  | FLT_CTRL_STORM_PERIOD
  | FLT_CTRL_STORM_RELEASE
  | FLT_CTRL_LOGQ_EN
  | FLT_STAT_FATAL
  | FLT_STAT_SAFE
  | FLT_STAT_FATAL_SRC
  | FLT_FATAL_NS
  | FLT_FATAL_SEC
  | FLT_LOGQ
  | FLT_RECOV_STAT_RECOVERING
  | FLT_RECOV_STAT_ACTIVE
  | FLT_RECOV_STAT_FROZEN
  | FLT_RECOV_STAT_OVERDUE
  | FLT_RECOV_STAT_DEPTH
  | FLT_RECOV_STAT_OVERFLOW
  | FLT_RECOV_CMD_TAKE
  | FLT_RECOV_CMD_DONE
  | FLT_RECOV_CMD_SOURCE
  | FLT_RECOV_HEAD_VALID
  | FLT_RECOV_HEAD_CONCURRENT
  | FLT_RECOV_HEAD_PREEMPTED
  | FLT_RECOV_HEAD_IS_ACTIVE
  | FLT_RECOV_HEAD_PRIO
  | FLT_RECOV_HEAD_COUNT
  | FLT_RECOV_HEAD_SOURCE
  | FLT_RECOV_LIMIT
  | FLT_PEND
  | FLT_LATCH_VALID
  | FLT_LATCH_SOURCE
  | FLT_LATCH_OTHERS
  | FLT_LATCH_NS
  | FLT_LATCH_SEC
  | FLT_HBM_COR
  | FLT_HBM_UNCOR
  | FLT_HBM_FAILED
  | FLT_HBM_ADDR_LO
  | FLT_HBM_ADDR_HI
  | FLT_HBM_SCRUBS
  | FLT_SRC_MASK
  | FLT_SRC_HOST
  | FLT_SRC_CLASS
  | FLT_SRC_STEWARD
  | FLT_SRC_STORM_N
  | FLT_SRC_WINDOW
  | FLT_SRC_FORCE
  | FLT_SRC_STAT_LEVEL
  | FLT_SRC_STAT_PENDING
  | FLT_SRC_STAT_STORM
  | FLT_SRC_STAT_FORCED
  | FLT_SRC_STAT_LAST_CLASS
  | FLT_SRC_STAT_COUNT
  | FLT_SRC_TIME_NS
  | FLT_SRC_TIME_SEC
  | CHK_CTRL_KIND
  | CHK_CTRL_POLY
  | CHK_CTRL_COMPARE
  | CHK_CTRL_FREEZE_N
  | CHK_TARGET
  | CHK_ADDR_LO
  | CHK_ADDR_HI
  | CHK_LEN
  | CHK_EXPECT
  | CHK_RESULT
  | CHK_RESULT_ID
  | CHK_STAT_FROZEN
  | CHK_STAT_MEM_ERR
  | CHK_STAT_BUSY
  | CHK_STAT_MISMATCHES
  | CHK_EVT
  | CHK_EVT_EN
  | SRC_WINDOW_OPEN
  | SRC_WINDOW_HIT
  | SRC_PERIOD_COUNT
  | SRC_SINCE_LOG
  | FLT_SEQ
  | FLT_LOG_POS
  | SCRUB_POS
  | HBM_HOT
  | CHK_HAVE
  | CHK_STREAK
  | ELECT_POS
  | ELECT_SEQ
  | TWN_CTRL_TAKEOVER_MS
  | TWN_CTRL_AUTO
  | TWN_CTRL_ROLE
  | TWN_STAT_CLAIM
  | TWN_STAT_TWIN_CLAIM
  | TWN_STAT_DRIVING
  | TWN_STAT_READY
  | TWN_STAT_DUE
  | TWN_STAT_DEFERRED
  | TWN_STAT_LINK_LOST
  | TWN_STAT_MGMT_LOST
  | TWN_STAT_LINE_FAULT
  | TWN_STAT_MISMATCH
  | TWN_STAT_IMG_DIFF
  | TWN_STAT_WIRING
  | TWN_STAT_SYNC
  | TWN_STAT_TWIN_FLAGS
  | TWN_STAT_LAST_REASON
  | TWN_CMD_RELEASE
  | TWN_CMD_TAKE
  | TWN_EVT
  | TWN_EVT_EN
  | TWN_ELECT_COUNT
  | TWN_TWIN_ELECT
  | TWN_TB0_OFFSET
  | TWN_SYNC_TB
  | TWN_HB_COUNT_LINK_MISSED
  | TWN_HB_COUNT_MGMT_MISSED
  | TWN_TWIN_ID_PART
  | TWN_TWIN_IMAGE
  | TWN_MGMT_SEQ
  | TWN_RX_SEQ
  | TWN_RX_SEQ_KNOWN
  | TWN_SETTLED
  | TWN_WANT
  | TWN_VETO
  | TWN_DROP
  | TWN_FELL
  | TWN_FELL_SEC
  | TWN_FELL_NS
  | TWN_TWIN_POWER
  | TWN_TWIN_SYNC
  | TWN_OFF_IN
  | TWN_OFF_TICK
  | TWN_COPY_ATL
  | TWN_COPY_ATL_SEEN
  | TWN_COPY_AUD
  | TWN_COPY_AUD_SEEN
  | TWN_MATCH
  | ELECT_DUE
  | ELECT_AT
  | SEC_LC_KEY_DESTROYED
  | SEC_LC_SAFETY_REVOKED
  | SEC_LC_OWNER_REVOKED
  | SEC_LC_FLOOR
  | SEC_LC_PENDING_VALID
  | SEC_LC_PENDING
  | SEC_LC_STATE
  | SEC_UID_LO
  | SEC_UID_HI
  | SEC_NONCE
  | SEC_CMD_GO
  | SEC_CMD_CMD
  | SEC_CMD_SLOT
  | SEC_ARG
  | SEC_RESULT_BUSY
  | SEC_RESULT_REASON
  | SEC_RESULT_FAILS
  | SEC_DBG_CEILING
  | SEC_DBG_LOCKOUT
  | SEC_DBG_LEVEL
  | SEC_POLICY0
  | SEC_POLICY1_FLAGS
  | SEC_POLICY1_DEBUG_MAX
  | SEC_SIG
  | SEC_KEY
  | SEC_PROV
  | PWR_CTRL_REQ
  | PWR_STAT_STATE
  | PWR_STAT_SAFETY_WAKE
  | PWR_STAT_LAST_REASON
  | PWR_TEMP_WARN
  | PWR_TEMP_CRIT
  | PWR_TEMP_TEMP
  | PWR_TEMP_WARN_LIMIT
  | PWR_MON_CLOCK
  | PWR_MON_RAIL
  | TEMP_RAISED
  | FLD_STAT_LINK_UP
  | FLD_STAT_SUPPLY_OK
  | FLD_STAT_VFIELD
  | FLD_SAFE_STAT_OVERRIDE
  | FLD_SAFE_STAT_ARMED
  | FLD_SAFE_STAT_DEFAULT
  | FLD_SAFE_STAT_CONTACT_FAULT
  | FLD_SAFE_STAT_BOOT_LATCH
  | FLD_SAFE_STAT_ACKED1
  | FLD_SAFE_STAT_HOLDS1
  | FLD_SAFE_STAT_STATE1
  | FLD_SAFE_STAT_ACKED0
  | FLD_SAFE_STAT_HOLDS0
  | FLD_SAFE_STAT_STATE0
  | FLD_SAFE_OHM
  | FLD_GPI_FIFO
  | FLD_GPI_NS
  | FLD_GPI_SEC
  | FLD_GPO_SET
  | FLD_GPO_FAULT
  | FLD_GPI_W0_POL
  | FLD_GPI_W0_STUCK_MASK
  | FLD_GPI_W0_EDGE_EN
  | FLD_GPI_W0_STUCK_EN
  | FLD_GPI_W0_EXCESS_EN
  | FLD_GPI_W0_MAX_RATE
  | FLD_GPI_W0_DEBOUNCE
  | FLD_GPI_W1_STUCK_S
  | FLD_GPI_W2_LEVEL
  | FLD_GPI_W2_STUCK
  | FLD_GPI_W2_MASKED
  | FLD_GPI_W2_EDGE_C
  | FLD_GPI_W2_STUCK_C
  | FLD_GPI_W2_EXCESS_C
  | FLD_GPI_W3_EXCESS
  | FLD_GPO_CTRL_MODE
  | FLD_GPO_CTRL_SOURCE
  | FLD_GPO_CTRL_TARGET
  | FLD_RUN_BAND
  | FLD_RUN
  | FLD_DIE_BAND
  | FLD_DIE_HOLDS
  | FLD_DIE_OFF
  | FLD_LINK_BAD
  | FLD_LINK_GOOD
  | FLD_GPI_REC
  | FLD_GPI_REPORTED
  | FLD_GPI_EDGES
  | FLD_GPI_LOST
  | FLD_GPI_OVERRUN
deriving DecidableEq, Repr

/-- Position, width, access code and reset value of a field. -/
structure FInfo where
  lo : Nat
  w : Nat
  acc : Acc
  reset : Nat
deriving DecidableEq, Repr

/-- The register tables of the spec, field by field. Resets that depend on the index or the variant are in `Fld.resetAt`. -/
def Fld.info : Fld → FInfo
  | .UNIT_EN => ⟨0, 1, .RW, 0⟩
  | .CHECK_BUSY => ⟨31, 1, .RO, 0⟩
  | .CHECK_ENABLED => ⟨30, 1, .RO, 0⟩
  | .CHECK_REFUSALS => ⟨16, 8, .RC, 0⟩
  | .CHECK_LAST_REASON => ⟨8, 8, .RO, 0⟩
  | .CHECK_MASTER => ⟨0, 3, .RO, 0⟩
  | .GEN_ENUM_POS_VALID => ⟨31, 1, .RO, 0⟩
  | .GEN_ENUM_FAULT => ⟨24, 4, .RO, 0⟩
  | .GEN_ENUM_MGMT_ADDR => ⟨16, 8, .RO, 14⟩
  | .GEN_ENUM_TWIN => ⟨9, 1, .RO, 0⟩
  | .GEN_ENUM_PLANE => ⟨8, 1, .RO, 0⟩
  | .GEN_ENUM_POSITION => ⟨0, 4, .RO, 15⟩
  | .GAZ_W0_VALID => ⟨31, 1, .RW, 0⟩
  | .GAZ_W0_SKETCH => ⟨30, 1, .RO, 0⟩
  | .GAZ_W0_STALE => ⟨29, 1, .RO, 0⟩
  | .GAZ_W0_SOURCE => ⟨0, 11, .RO, 0⟩
  | .GAZ_W1_GENERATION => ⟨16, 16, .RO, 0⟩
  | .GAZ_W1_FORMAT => ⟨8, 8, .RW, 0⟩
  | .GAZ_W1_DEPTH => ⟨4, 4, .RW, 0⟩
  | .GAZ_W1_SCALE => ⟨0, 4, .RW, 0⟩
  | .GAZ_RATE => ⟨0, 32, .RW, 0⟩
  | .GAZ_ANC_RATE => ⟨0, 32, .RW, 0⟩
  | .GAZ_LABEL0 => ⟨0, 32, .RW, 0⟩
  | .GAZ_LABEL1 => ⟨0, 32, .RW, 0⟩
  | .GAZ_LABEL2 => ⟨0, 32, .RW, 0⟩
  | .GAZ_LABEL3 => ⟨0, 32, .RW, 0⟩
  | .ATL_GAZ_STAT_FOREIGN_WR => ⟨24, 8, .RC, 0⟩
  | .ATL_GAZ_STAT_STALE => ⟨12, 12, .RO, 0⟩
  | .ATL_GAZ_STAT_MISMATCH => ⟨0, 12, .RO, 0⟩
  | .ATL_GAZ_DIGEST => ⟨0, 32, .RO, 0⟩
  | .GEN_CTRL_UNLOCK => ⟨16, 16, .WO, 0⟩
  | .GEN_CTRL_DEVICE_RESET => ⟨8, 1, .WO, 0⟩
  | .GEN_CTRL_ST_RUN => ⟨4, 4, .W1S, 0⟩
  | .GEN_CTRL_REMAP => ⟨0, 1, .W1S, 0⟩
  | .GEN_CAP0_CMP => ⟨27, 1, .RO, 1⟩
  | .GEN_CAP0_HEADS => ⟨24, 3, .RO, 4⟩
  | .GEN_CAP0_HBM_STACKS => ⟨22, 2, .RO, 2⟩
  | .GEN_CAP0_DSP_CORES => ⟨16, 6, .RO, 32⟩
  | .GEN_CAP0_FAB_LANES => ⟨8, 7, .RO, 88⟩
  | .GEN_CAP0_MEDIA_LANES => ⟨0, 8, .RO, 96⟩
  | .GEN_CAP1_AUD_CH_K => ⟨16, 8, .RO, 16⟩
  | .GEN_CAP1_IMG_ENC => ⟨12, 1, .RO, 1⟩
  | .GEN_CAP1_FIELD => ⟨11, 1, .RO, 1⟩
  | .GEN_CAP1_TWIN => ⟨10, 1, .RO, 1⟩
  | .GEN_CAP1_PDM => ⟨9, 1, .RO, 1⟩
  | .GEN_CAP1_EVAC_AUDIO => ⟨8, 1, .RO, 1⟩
  | .GEN_CAP1_MAX_POS => ⟨4, 4, .RO, 12⟩
  | .GEN_CAP1_FAB_PER_PEER => ⟨0, 4, .RO, 8⟩
  | .GEN_BOOT_STAT_PHASE => ⟨28, 4, .RO, 0⟩
  | .GEN_BOOT_STAT_SLOT_USED => ⟨26, 2, .RO, 0⟩
  | .GEN_BOOT_STAT_SAFETY_DEFAULT => ⟨25, 1, .RO, 0⟩
  | .GEN_BOOT_STAT_RESULT_A => ⟨20, 4, .RO, 0⟩
  | .GEN_BOOT_STAT_RESULT_B => ⟨16, 4, .RO, 0⟩
  | .GEN_BOOT_STAT_CRC_FAULTS => ⟨8, 8, .RO, 0⟩
  | .GEN_BOOT_STAT_SKIPPED => ⟨0, 8, .RO, 0⟩
  | .GEN_BOOT_SEQ => ⟨0, 32, .RO, 0⟩
  | .GEN_REFUSE_LOG0_REASON => ⟨24, 8, .RO, 0⟩
  | .GEN_REFUSE_LOG0_WORD => ⟨0, 24, .RO, 0⟩
  | .GEN_REFUSE_LOG1_COUNT => ⟨16, 16, .RC, 0⟩
  | .GEN_REFUSE_LOG1_MASTER => ⟨0, 3, .RO, 0⟩
  | .MSIX_ADDR_LO => ⟨0, 32, .RW, 0⟩
  | .MSIX_ADDR_HI => ⟨0, 32, .RW, 0⟩
  | .MSIX_DATA => ⟨0, 32, .RW, 0⟩
  | .MSIX_CONTROL_MASK => ⟨0, 1, .RW, 1⟩
  | .MSIX_PBA => ⟨0, 32, .RO, 0⟩
  | .CFG_NVM_CTRL_CMD => ⟨0, 2, .WO, 0⟩
  | .CFG_NVM_ADDR_PAGE => ⟨8, 21, .RW, 0⟩
  | .CFG_NVM_STAT_BUSY => ⟨31, 1, .RO, 0⟩
  | .CFG_NVM_STAT_REASON => ⟨8, 8, .RO, 0⟩
  | .CFG_PERSIST_STAT_OFF => ⟨31, 1, .RO, 0⟩
  | .CFG_PERSIST_STAT_WRITE_FAULT => ⟨30, 1, .RO, 0⟩
  | .CFG_PERSIST_STAT_DROPPED => ⟨8, 16, .RC, 0⟩
  | .CFG_PAGE_BUF => ⟨0, 32, .RW, 0⟩
  | .ATL_CTRL_REALIGN => ⟨8, 1, .WO, 0⟩
  | .ATL_CTRL_SLIP_LIMIT => ⟨4, 4, .RW, 4⟩
  | .ATL_STAT_MISALIGNED => ⟨31, 1, .RO, 0⟩
  | .ATL_STAT_SALVO_PENDING => ⟨16, 1, .RO, 0⟩
  | .ATL_STAT_SALVO_TAG => ⟨8, 8, .RO, 0⟩
  | .ATL_STAT_SALVO_SLIPS => ⟨0, 4, .RO, 0⟩
  | .ATL_COMMIT_SALVO => ⟨31, 1, .WO, 0⟩
  | .ATL_COMMIT_AT_FRAME => ⟨30, 1, .WO, 0⟩
  | .ATL_COMMIT_DEST => ⟨0, 7, .WO, 0⟩
  | .ATL_COMMIT_FRAME => ⟨0, 32, .RW, 0⟩
  | .ATL_COMMIT_RESULT_BUSY => ⟨31, 1, .RO, 0⟩
  | .ATL_COMMIT_RESULT_TAG => ⟨16, 8, .RO, 0⟩
  | .ATL_COMMIT_RESULT_REASON => ⟨8, 8, .RO, 0⟩
  | .ATL_CANCEL_SALVO => ⟨31, 1, .WO, 0⟩
  | .ATL_CANCEL_DEST => ⟨0, 7, .WO, 0⟩
  | .ATL_SALVO_MASK => ⟨0, 32, .RW, 0⟩
  | .ATL_PENDING => ⟨0, 32, .RO, 0⟩
  | .ATL_FRAME_SEL => ⟨0, 8, .RW, 0⟩
  | .ATL_FRAME_NOW => ⟨0, 32, .RO, 0⟩
  | .ATL_DRAFT_ARMED => ⟨31, 1, .RW, 0⟩
  | .ATL_DRAFT_AFV => ⟨30, 1, .RW, 0⟩
  | .ATL_DRAFT_SOURCE => ⟨0, 11, .RW, 2047⟩
  | .ATL_DRAFT_STAT_REASON => ⟨24, 8, .RO, 0⟩
  | .ATL_DRAFT_STAT_TAG => ⟨16, 8, .RO, 0⟩
  | .ATL_DRAFT_STAT_SLIPS => ⟨12, 4, .RO, 0⟩
  | .ATL_DRAFT_STAT_STATE => ⟨10, 2, .RO, 0⟩
  | .ATL_DRAFT_STAT_SUB => ⟨8, 2, .RO, 0⟩
  | .ATL_DRAFT_STAT_FAB_REASON => ⟨0, 8, .RO, 0⟩
  | .ATL_DRAFT_SPANS => ⟨0, 8, .RO, 0⟩
  | .ATL_LIVE_AFV => ⟨30, 1, .RO, 0⟩
  | .ATL_LIVE_REMOTE => ⟨29, 1, .RO, 0⟩
  | .ATL_LIVE_CODING => ⟨27, 2, .RO, 0⟩
  | .ATL_LIVE_OUT_STATE => ⟨24, 3, .RO, 5⟩
  | .ATL_LIVE_SOURCE => ⟨0, 11, .RO, 2047⟩
  | .ATL_LIVE_FRAME => ⟨0, 32, .RO, 0⟩
  | .ATL_LIVE_INFO_TAG => ⟨16, 8, .RO, 0⟩
  | .ATL_LIVE_INFO_WAYPOINT => ⟨12, 4, .RO, 15⟩
  | .ATL_LIVE_INFO_HOME => ⟨8, 4, .RO, 0⟩
  | .ATL_LIVE_LOSS_FRAMES => ⟨0, 32, .RO, 0⟩
  | .ATL_DEST_CTRL_DEPTH => ⟨16, 1, .RWL, 0⟩
  | .ATL_DEST_CTRL_FORMAT => ⟨8, 8, .RWL, 0⟩
  | .ATL_DEST_CTRL_LOSS => ⟨1, 2, .RW, 0⟩
  | .ATL_DEST_ADJ => ⟨0, 20, .RWL, 0⟩
  | .ATL_DEST_HOLD => ⟨0, 16, .RW, 0⟩
  | .ATL_DEST_STAT_LOST => ⟨31, 1, .RO, 0⟩
  | .ATL_DEST_STAT_FORMAT_LOST => ⟨30, 1, .RO, 0⟩
  | .ATL_DEST_STAT_LOSS_COUNT => ⟨0, 16, .RC, 0⟩
  | .ATL_IN_STAT_LOST => ⟨31, 1, .RO, 0⟩
  | .ATL_IN_STAT_FMT_ERR => ⟨30, 1, .RO, 0⟩
  | .ATL_IN_STAT_STORE_SHORT => ⟨29, 1, .RO, 0⟩
  | .ATL_IN_STAT_PHASE => ⟨0, 16, .RO, 0⟩
  | .ATL_IN_COUNT_REPEATS => ⟨16, 16, .RC, 0⟩
  | .ATL_IN_COUNT_DROPS => ⟨0, 16, .RC, 0⟩
  | .ATL_N_RECENT => ⟨0, 64, .RO, 0⟩
  | .ATL_N_DECIDED => ⟨0, 64, .RO, 0⟩
  | .DEST_FRAME => ⟨0, 64, .RO, 0⟩
  | .DEST_LOSS_NOW => ⟨0, 2, .RO, 0⟩
  | .DEST_HOLD_COUNT => ⟨0, 16, .RO, 0⟩
  | .DEST_RECOVER => ⟨0, 1, .RO, 0⟩
  | .DEST_PREV_SOURCE => ⟨0, 11, .RO, 2047⟩
  | .IN_READ => ⟨0, 64, .RO, 0⟩
  | .IN_COMPLETED => ⟨0, 64, .RO, 0⟩
  | .IN_STALE => ⟨0, 8, .RO, 0⟩
  | .IN_FRESH => ⟨0, 1, .RO, 0⟩
  | .IN_GOOD => ⟨0, 8, .RO, 0⟩
  | .IN_ALLOC => ⟨0, 64, .RO, 0⟩
  | .DEST_ALLOC => ⟨0, 64, .RO, 0⟩
  | .GAZ_STAGE => ⟨0, 32, .RO, 0⟩
  | .GAZ_STAGED => ⟨0, 8, .RO, 0⟩
  | .GAZ_DIRTY => ⟨0, 2, .RO, 0⟩
  | .TWN_TX_SEQ => ⟨0, 8, .RO, 0⟩
  | .TWN_LINK_SEEN => ⟨0, 1, .RO, 0⟩
  | .TWN_MGMT_SEEN => ⟨0, 1, .RO, 0⟩
  | .IN_READ_PREV => ⟨0, 64, .RO, 0⟩
  | .DEST_OLD_SOURCE => ⟨0, 11, .RO, 2047⟩
  | .DEST_OLD_OUT => ⟨0, 3, .RO, 5⟩
  | .DEST_DISABLE_DUE => ⟨0, 1, .RO, 0⟩
  | .DEST_DRAFT_RX => ⟨0, 11, .RO, 0⟩
  | .DEST_LIVE_RX => ⟨0, 11, .RO, 0⟩
  | .DEST_PREV_RX => ⟨0, 11, .RO, 0⟩
  | .IN_DETECTED => ⟨0, 1, .RO, 0⟩
  | .IN_FMT => ⟨0, 8, .RO, 0⟩
  | .IN_DEPTH => ⟨0, 4, .RO, 0⟩
  | .IN_LINE_SPAN => ⟨0, 64, .RO, 0⟩
  | .IN_LINE_READ => ⟨0, 12, .RO, 0⟩
  | .DEST_LOSS_LAST => ⟨0, 33, .RO, 0⟩
  | .DEST_SAFE_LAST => ⟨0, 33, .RO, 0⟩
  | .DEST_SAFE_COUNT => ⟨0, 16, .RO, 0⟩
  | .FAB_CTRL_WP_TRIES => ⟨12, 2, .RW, 3⟩
  | .FAB_CTRL_REVERT => ⟨7, 1, .RW, 0⟩
  | .FAB_CTRL_ORDER => ⟨6, 1, .RW, 0⟩
  | .FAB_STAT_DEGRADED => ⟨16, 11, .RO, 0⟩
  | .FAB_STAT_UP => ⟨0, 11, .RO, 0⟩
  | .FAB_POS_MASK_POSITIONS => ⟨0, 12, .RWL, 4095⟩
  | .FAB_PEER_LOST => ⟨0, 11, .RO, 0⟩
  | .FAB_PEER_EVENT => ⟨0, 11, .W1C, 0⟩
  | .FAB_PORT_LIMIT => ⟨0, 32, .RW, 200000000⟩
  | .FAB_PORT_STAT_UP => ⟨31, 1, .RO, 0⟩
  | .FAB_PORT_STAT_LOST => ⟨30, 1, .RO, 0⟩
  | .FAB_PORT_STAT_WIRING => ⟨29, 1, .RO, 0⟩
  | .FAB_PORT_STAT_UNFITTED => ⟨28, 1, .RO, 0⟩
  | .FAB_PORT_STAT_LANES_UP => ⟨16, 8, .RO, 0⟩
  | .FAB_PORT_STAT_PEER_POS => ⟨12, 4, .RO, 15⟩
  | .FAB_PORT_STAT_PEER_PLANE => ⟨11, 1, .RO, 0⟩
  | .FAB_PORT_STAT_PEER_TWIN => ⟨10, 1, .RO, 0⟩
  | .FAB_PORT_STAT_PEER_CLASS => ⟨9, 1, .RO, 0⟩
  | .FAB_PORT_TX_LOAD => ⟨0, 32, .RO, 0⟩
  | .FAB_PORT_CEILING => ⟨0, 32, .RO, 0⟩
  | .FAB_PORT_RX_LOAD => ⟨0, 32, .RO, 0⟩
  | .FAB_PORT_BAD => ⟨0, 32, .RC, 0⟩
  | .FAB_PORT_LATE => ⟨0, 32, .RC, 0⟩
  | .FAB_DEST_POLICY_MAX_CODING => ⟨0, 2, .RW, 0⟩
  | .FAB_RX0_VALID => ⟨31, 1, .RO, 0⟩
  | .FAB_RX0_SKETCH => ⟨30, 1, .RO, 0⟩
  | .FAB_RX0_CODING => ⟨28, 2, .RO, 0⟩
  | .FAB_RX0_WAYPOINT => ⟨24, 4, .RO, 15⟩
  | .FAB_RX0_HOME => ⟨20, 4, .RO, 0⟩
  | .FAB_RX0_STATE => ⟨18, 2, .RO, 0⟩
  | .FAB_RX0_SOURCE => ⟨0, 11, .RO, 0⟩
  | .FAB_RX1_REASON => ⟨24, 8, .RO, 0⟩
  | .FAB_RX1_USERS => ⟨16, 8, .RO, 0⟩
  | .FAB_RX1_SPANS => ⟨8, 8, .RO, 0⟩
  | .FAB_RX2_COST => ⟨0, 32, .RO, 0⟩
  | .FAB_RX3_MISSING => ⟨16, 16, .RO, 0⟩
  | .FAB_RX3_MIGRATIONS => ⟨0, 16, .RO, 0⟩
  | .FAB_TX0_VALID => ⟨31, 1, .RO, 0⟩
  | .FAB_TX0_SKETCH => ⟨30, 1, .RO, 0⟩
  | .FAB_TX0_CODING => ⟨28, 2, .RO, 0⟩
  | .FAB_TX0_PORT => ⟨24, 4, .RO, 0⟩
  | .FAB_TX0_DEST => ⟨20, 4, .RO, 0⟩
  | .FAB_TX0_WAYPOINT => ⟨16, 4, .RO, 15⟩
  | .FAB_TX0_SOURCE => ⟨0, 11, .RO, 0⟩
  | .FAB_TX1_COST => ⟨0, 32, .RO, 0⟩
  | .FAB_TX2_START => ⟨0, 32, .RO, 0⟩
  | .FAB_TX3_ORDER_NO => ⟨0, 32, .RO, 0⟩
  | .FAB_WP0_VALID => ⟨31, 1, .RO, 0⟩
  | .FAB_WP0_SKETCH => ⟨30, 1, .RO, 0⟩
  | .FAB_WP0_CODING => ⟨28, 2, .RO, 0⟩
  | .FAB_WP0_IN_PORT => ⟨24, 4, .RO, 0⟩
  | .FAB_WP0_OUT_PORT => ⟨20, 4, .RO, 0⟩
  | .FAB_WP0_HOME => ⟨16, 4, .RO, 0⟩
  | .FAB_WP0_DEST => ⟨12, 4, .RO, 0⟩
  | .FAB_WP0_SOURCE => ⟨0, 11, .RO, 0⟩
  | .FAB_WP1_COST => ⟨0, 32, .RO, 0⟩
  | .FAB_WP2_CELLS => ⟨0, 32, .RO, 0⟩
  | .FAB_CTL_SEQ => ⟨0, 8, .RO, 0⟩
  | .FAB_ORDER_NEXT => ⟨0, 32, .RO, 0⟩
  | .FAB_SPARE_KNOWN => ⟨0, 1, .RO, 0⟩
  | .FAB_SPARE => ⟨0, 32, .RO, 0⟩
  | .FAB_HB_SEEN => ⟨0, 1, .RO, 0⟩
  | .FAB_REQ_NO => ⟨0, 16, .RO, 0⟩
  | .FAB_NOTICE_DUE => ⟨0, 1, .RO, 0⟩
  | .FAB_LOSS_SEC => ⟨0, 48, .RO, 0⟩
  | .FAB_LOSS_NS => ⟨0, 32, .RO, 0⟩
  | .FAB_LOSS_FRAC => ⟨0, 16, .RO, 0⟩
  | .MZC_CTRL_COARSE => ⟨1, 1, .RW, 0⟩
  | .MZC_STAT_DEC_STREAMS => ⟨16, 8, .RO, 0⟩
  | .MZC_STAT_ENC_STREAMS => ⟨8, 8, .RO, 0⟩
  | .MZC_ALARM_INEXACT_LIMIT => ⟨0, 32, .RW, 0⟩
  | .MZC_REFINE_DROP_CELLS => ⟨0, 32, .RC, 0⟩
  | .MZC_REFINE_LATE_CELLS => ⟨0, 32, .RC, 0⟩
  | .MZC_ENC_FRAME => ⟨0, 32, .RO, 0⟩
  | .MZC_ENC_INEXACT => ⟨0, 32, .RO, 0⟩
  | .MZC_ENC_MAX_ERR => ⟨0, 16, .RO, 0⟩
  | .MZC_ENC_TOTAL => ⟨0, 32, .RC, 0⟩
  | .MZC_ENC_HIST => ⟨0, 32, .RO, 0⟩
  | .MZC_DEST_STAT0_LAST_REASON => ⟨24, 8, .RO, 0⟩
  | .MZC_DEST_STAT0_CODING => ⟨16, 2, .RO, 0⟩
  | .MZC_DEST_STAT0_MAX_ERR => ⟨0, 16, .RO, 0⟩
  | .MZC_DEST_INEXACT => ⟨0, 32, .RO, 0⟩
  | .MZC_DEST_FRAME => ⟨0, 32, .RO, 0⟩
  | .MZC_DEST_STAT3_ALARMS => ⟨16, 16, .RC, 0⟩
  | .MZC_DEST_STAT3_COARSE_BLOCKS => ⟨0, 16, .RO, 0⟩
  | .MZC_DEC_FRAME => ⟨0, 32, .RO, 0⟩
  | .MZC_DEC_INEXACT => ⟨0, 32, .RO, 0⟩
  | .MZC_DEC_MAX_ERR => ⟨0, 16, .RO, 0⟩
  | .MZC_DEC_COARSE_BLOCKS => ⟨0, 32, .RO, 0⟩
  | .MZC_DEC_HIST => ⟨0, 32, .RO, 0⟩
  | .MZC_DEC_MISSING => ⟨0, 32, .RC, 0⟩
  | .MZC_DEC_LAST_REASON => ⟨24, 8, .RO, 0⟩
  | .DEC_NOW_COARSE => ⟨0, 32, .RO, 0⟩
  | .DEC_NOW_HIST => ⟨0, 32, .RO, 0⟩
  | .MZC_OVER_LIMIT => ⟨0, 1, .RO, 0⟩
  | .DEC_NOW_SPAN => ⟨0, 17, .RO, 0⟩
  | .DEC_SHOWN => ⟨0, 17, .RO, 0⟩
  | .ENC_SEEN => ⟨0, 1, .RO, 0⟩
  | .LAN_CTRL_RX_MODE => ⟨28, 4, .RWL, 0⟩
  | .LAN_CTRL_TX_MODE => ⟨24, 4, .RWL, 0⟩
  | .LAN_BIND_RX_QUAD => ⟨31, 1, .RWL, 0⟩
  | .LAN_BIND_RX_KIND => ⟨28, 3, .RWL, 0⟩
  | .LAN_BIND_RX_TARGET => ⟨16, 7, .RWL, 0⟩
  | .LAN_BIND_TX_QUAD => ⟨15, 1, .RWL, 0⟩
  | .LAN_BIND_TX_KIND => ⟨12, 3, .RWL, 0⟩
  | .LAN_BIND_TX_TARGET => ⟨0, 7, .RWL, 0⟩
  | .LANF_CTRL_RX_MODE => ⟨28, 4, .RO, 15⟩
  | .LANF_CTRL_TX_MODE => ⟨24, 4, .RO, 15⟩
  | .LAN_STAT_LOS => ⟨31, 1, .RO, 1⟩
  | .LAN_STAT_LOCK => ⟨30, 1, .RO, 0⟩
  | .LAN_STAT_TX_ACTIVE => ⟨29, 1, .RO, 0⟩
  | .LAN_STAT_TX_PLL_LOCK => ⟨28, 1, .RO, 0⟩
  | .LAN_STAT_QUAD_SKEW => ⟨27, 1, .RO, 0⟩
  | .LAN_STAT_TEST_ACTIVE => ⟨26, 1, .RO, 0⟩
  | .LAN_STAT_FREQ => ⟨0, 16, .RO, 0⟩
  | .LAN_EVT => ⟨0, 8, .W1C, 0⟩
  | .LAN_EVT_EN => ⟨0, 8, .RW, 219⟩
  | .LAN_CRC_ERR => ⟨0, 32, .RC, 0⟩
  | .LAN_FEC_COR => ⟨0, 32, .RC, 0⟩
  | .LAN_ECC_COR => ⟨0, 32, .RC, 0⟩
  | .LAN_RXQ_DROP => ⟨0, 32, .RC, 0⟩
  | .LAN_EQ_CTLE => ⟨28, 4, .RO, 0⟩
  | .LAN_EQ_PRE => ⟨23, 5, .RO, 0⟩
  | .LAN_EQ_MAIN => ⟨17, 6, .RO, 0⟩
  | .LAN_EQ_POST => ⟨11, 6, .RO, 0⟩
  | .LAN_EQ_SWING => ⟨9, 2, .RO, 0⟩
  | .LAN_EQ_RX_INV => ⟨8, 1, .RO, 0⟩
  | .LAN_EQ_TX_INV => ⟨7, 1, .RO, 0⟩
  | .LAN_TEST_PRBS_LOCK => ⟨31, 1, .RO, 0⟩
  | .LAN_TEST_LOOP => ⟨8, 2, .RW, 0⟩
  | .LAN_TEST_PRBS_TX => ⟨4, 3, .RW, 0⟩
  | .LAN_TEST_PRBS_RX => ⟨0, 3, .RW, 0⟩
  | .LAN_PRBS_ERR => ⟨0, 32, .RC, 0⟩
  | .LAN_EQ_INFO_ENTRIES => ⟨16, 16, .RO, 0⟩
  | .LAN_EQ_INFO_DUPLICATES => ⟨8, 8, .RO, 0⟩
  | .LAN_EQ_INFO_INVALID => ⟨0, 8, .RO, 0⟩
  | .LAN_QUAD_STAT_PLL_LOCK => ⟨31, 1, .RO, 0⟩
  | .LAN_QUAD_STAT_FAMILY => ⟨28, 3, .RO, 0⟩
  | .LAN_QUAD_STAT_TX_LANES => ⟨0, 4, .RO, 0⟩
  | .LAN_BOARD_ID => ⟨0, 32, .RO, 0⟩
  | .LAN_RXQ_FILL => ⟨0, 7, .RO, 0⟩
  | .LAN_PRBS_SR => ⟨0, 31, .RO, 0⟩
  | .LAN_PRBS_RUN => ⟨0, 7, .RO, 0⟩
  | .PKT_Q_ECC_COR => ⟨0, 32, .RC, 0⟩
  | .PKT_Q_ECC_UNCOR => ⟨0, 32, .RC, 0⟩
  | .PKT_Q_PEND_SUM => ⟨0, 16, .RO, 0⟩
  | .PKT_Q_PENDING => ⟨0, 32, .W1C, 0⟩
  | .PKT_MAC_CTRL_MAX_FRAME => ⟨18, 14, .RWL, 1518⟩
  | .PKT_MAC_CTRL_PFC_EN => ⟨10, 8, .RWL, 0⟩
  | .PKT_MAC_CTRL_PAUSE_RX_EN => ⟨9, 1, .RWL, 1⟩
  | .PKT_MAC_CTRL_MC_TO_SWQ => ⟨8, 1, .RWL, 0⟩
  | .PKT_MAC_ADDR_LO => ⟨0, 32, .RWL, 0⟩
  | .PKT_MAC_ADDR_HI => ⟨0, 16, .RWL, 0⟩
  | .PKT_MAC_IPV4 => ⟨0, 32, .RWL, 0⟩
  | .PKT_MAC_SWQ_EN => ⟨31, 1, .RWL, 0⟩
  | .PKT_MAC_SWQ_QUEUE => ⟨0, 16, .RWL, 0⟩
  | .PKT_MAC_STAT_LINK => ⟨31, 1, .RO, 0⟩
  | .PKT_MAC_STAT_PAUSED => ⟨30, 1, .RO, 0⟩
  | .PKT_MAC_STAT_PFC_PAUSED => ⟨16, 8, .RO, 0⟩
  | .PKT_MAC_EVT => ⟨0, 6, .W1C, 0⟩
  | .PKT_MAC_EVT_EN => ⟨0, 6, .RW, 57⟩
  | .PKT_MAC_RX_FRAMES => ⟨0, 32, .RC, 0⟩
  | .PKT_MAC_RX_FCS_ERR => ⟨0, 32, .RC, 0⟩
  | .PKT_MAC_RX_DROP => ⟨0, 32, .RC, 0⟩
  | .PKT_MAC_TX_FRAMES => ⟨0, 32, .RC, 0⟩
  | .PKT_MAC_TX_ABORT => ⟨0, 32, .RC, 0⟩
  | .PKT_MAC_PAUSE_RX => ⟨0, 32, .RC, 0⟩
  | .PKT_MAC_PFC_RX => ⟨0, 32, .RC, 0⟩
  | .PKT_MAC_GATE_DROP => ⟨0, 32, .RC, 0⟩
  | .PKT_GCL_CTRL_TB => ⟨29, 3, .RW, 0⟩
  | .PKT_GCL_CTRL_LIST_LEN => ⟨16, 11, .RW, 0⟩
  | .PKT_GCL_CTRL_CHANGE => ⟨1, 1, .WO, 0⟩
  | .PKT_GCL_CYCLE_NUM => ⟨0, 32, .RW, 0⟩
  | .PKT_GCL_CYCLE_DEN => ⟨0, 16, .RW, 0⟩
  | .PKT_GCL_BASE_NS => ⟨0, 32, .RW, 0⟩
  | .PKT_GCL_BASE_SEC => ⟨0, 32, .RW, 0⟩
  | .PKT_GCL_BASE_SEC_HI => ⟨0, 16, .RW, 0⟩
  | .PKT_GCL_EXT => ⟨0, 32, .RW, 0⟩
  | .PKT_GCL_STAT_PENDING => ⟨31, 1, .RO, 0⟩
  | .PKT_GCL_STAT_RUNNING => ⟨30, 1, .RO, 0⟩
  | .PKT_GCL_STAT_ENTRY => ⟨0, 11, .RO, 0⟩
  | .PKT_TX_KIND => ⟨28, 4, .RWL, 0⟩
  | .PKT_TX_TWIN_SEAMLESS => ⟨27, 1, .RWL, 0⟩
  | .PKT_TX_DUAL => ⟨26, 1, .RWL, 0⟩
  | .PKT_TX_NL => ⟨25, 1, .RWL, 0⟩
  | .PKT_TX_TC => ⟨22, 3, .RWL, 0⟩
  | .PKT_TX_MAC_A => ⟨24, 8, .RWL, 0⟩
  | .PKT_TX_MAC_B => ⟨16, 8, .RWL, 0⟩
  | .PKT_TX_TARGET => ⟨0, 16, .RWL, 0⟩
  | .PKT_TX_PKTS_PER_FRAME => ⟨16, 16, .RO, 0⟩
  | .PKT_TX_MAX_PAYLOAD => ⟨0, 14, .RWL, 0⟩
  | .PKT_TX_SENT => ⟨0, 32, .RO, 0⟩
  | .PKT_TX_LATE => ⟨0, 32, .RC, 0⟩
  | .PKT_TX_SENDING => ⟨31, 1, .RO, 0⟩
  | .PKT_RX_KIND => ⟨28, 4, .RWL, 0⟩
  | .PKT_RX_MERGE => ⟨27, 1, .RWL, 0⟩
  | .PKT_RX_SRC_MATCH => ⟨26, 1, .RWL, 0⟩
  | .PKT_RX_MAC => ⟨24, 8, .RWL, 0⟩
  | .PKT_RX_TARGET => ⟨0, 16, .RWL, 0⟩
  | .PKT_RX_DST_IP => ⟨0, 32, .RWL, 0⟩
  | .PKT_RX_DST_PORT => ⟨16, 16, .RWL, 0⟩
  | .PKT_RX_MERGE_US => ⟨0, 16, .RWL, 0⟩
  | .PKT_RX_SRC_IP => ⟨0, 32, .RWL, 0⟩
  | .PKT_RX_LOST => ⟨31, 1, .RO, 0⟩
  | .PKT_RX_LEG_LOST => ⟨30, 1, .RO, 0⟩
  | .PKT_RX_PARTNER => ⟨0, 11, .RWL, 0⟩
  | .PKT_RX_COUNT_GAPS => ⟨16, 16, .RC, 0⟩
  | .PKT_RX_COUNT_LATE => ⟨8, 8, .RC, 0⟩
  | .PKT_RX_COUNT_CLAMPED => ⟨0, 8, .RC, 0⟩
  | .PKT_TPL => ⟨0, 32, .RW, 0⟩
  | .PKT_GATE_GATES => ⟨0, 8, .RW, 0⟩
  | .PKT_GATE_INTERVAL => ⟨0, 32, .RW, 0⟩
  | .PKT_Q_BASE_LO => ⟨0, 32, .RWL, 0⟩
  | .PKT_Q_PROD_AGENT => ⟨28, 4, .RWL, 0⟩
  | .PKT_Q_CONS_AGENT => ⟨24, 4, .RWL, 0⟩
  | .PKT_Q_LOG2_SIZE => ⟨19, 5, .RWL, 6⟩
  | .PKT_Q_BASE_HI => ⟨0, 16, .RWL, 0⟩
  | .PKT_Q_PTR_GEN => ⟨25, 7, .RO, 0⟩
  | .PKT_Q_PTR_PROD => ⟨0, 25, .RO, 0⟩
  | .PKT_Q_PTR_CONS => ⟨0, 25, .RO, 0⟩
  | .PKT_Q_WMARK => ⟨24, 8, .RW, 0⟩
  | .PKT_Q_FLUSH => ⟨2, 2, .WO, 0⟩
  | .PKT_Q_EVT_EN => ⟨1, 1, .RW, 0⟩
  | .PKT_Q_STAT_FLUSHING => ⟨31, 1, .RO, 0⟩
  | .PKT_Q_STAT_WMARK_C => ⟨30, 1, .W1C, 0⟩
  | .PKT_Q_STAT_FLUSHED => ⟨29, 1, .W1C, 0⟩
  | .PKT_Q_STAT_UNCOR_C => ⟨28, 1, .W1C, 0⟩
  | .PKT_Q_STAT_OCCUPANCY => ⟨0, 25, .RO, 0⟩
  | .PKT_QW_COR => ⟨16, 16, .RC, 0⟩
  | .PKT_QW_UNCOR => ⟨8, 8, .RC, 0⟩
  | .PKT_QW_DROPS => ⟨0, 8, .RC, 0⟩
  | .PKT_INPUT_LOST => ⟨0, 1, .RO, 0⟩
  | .PKT_RX_SEQ => ⟨0, 32, .RO, 0⟩
  | .PKT_RX_SEEN => ⟨0, 1, .RO, 0⟩
  | .PKT_AUDIO_LOST => ⟨0, 1, .RO, 0⟩
  | .PKT_PAUSE_QUANTA => ⟨0, 16, .RO, 0⟩
  | .PKT_PFC_QUANTA => ⟨0, 16, .RO, 0⟩
  | .PKT_Q_ITEM_ECC => ⟨0, 1, .RO, 0⟩
  | .TIM_TB_INC_LO => ⟨0, 32, .RW, 0⟩
  | .TIM_TB_INC_HI => ⟨0, 16, .RW, 640⟩
  | .TIM_TB_CMD_DISARM => ⟨3, 1, .WO, 0⟩
  | .TIM_TB_CMD_ARM => ⟨2, 1, .WO, 0⟩
  | .TIM_TB_CMD_SET => ⟨1, 1, .WO, 0⟩
  | .TIM_TB_CMD_STEP => ⟨0, 1, .WO, 0⟩
  | .TIM_TB_ADJ_NS => ⟨0, 32, .RW, 0⟩
  | .TIM_TB_ADJ_SEC_LO => ⟨0, 32, .RW, 0⟩
  | .TIM_TB_ADJ_SEC_HI => ⟨0, 16, .RW, 0⟩
  | .TIM_TB_NOW_FRAC_FRAC => ⟨16, 16, .RO, 0⟩
  | .TIM_TB_NOW_NS => ⟨0, 32, .RO, 0⟩
  | .TIM_TB_NOW_SEC_LO => ⟨0, 32, .RO, 0⟩
  | .TIM_TB_NOW_SEC_HI => ⟨0, 16, .RO, 0⟩
  | .TIM_TB_ALARM_NS => ⟨0, 32, .RW, 0⟩
  | .TIM_TB_ALARM_SEC_LO => ⟨0, 32, .RW, 0⟩
  | .TIM_TB_ALARM_SEC_HI => ⟨0, 16, .RW, 0⟩
  | .TIM_TB_EVT => ⟨0, 7, .W1C, 0⟩
  | .TIM_TB_EVT_EN => ⟨0, 7, .RW, 91⟩
  | .TIM_TB_STAT_RUNNING => ⟨31, 1, .RO, 0⟩
  | .TIM_TB_STAT_ARMED => ⟨30, 1, .RO, 0⟩
  | .TIM_TB_STAT_STEPS => ⟨0, 16, .RO, 0⟩
  | .TIM_SNAP_CMD_CAPTURE => ⟨0, 1, .WO, 0⟩
  | .TIM_SNAP_TICKS_LO => ⟨0, 32, .RO, 0⟩
  | .TIM_SNAP_TICKS_HI => ⟨0, 32, .RO, 0⟩
  | .TIM_SNAP_FRAC_FRAC => ⟨16, 16, .RO, 0⟩
  | .TIM_SNAP_FRAC_VALID => ⟨0, 1, .RO, 0⟩
  | .TIM_SNAP_NS => ⟨0, 32, .RO, 0⟩
  | .TIM_SNAP_SEC_LO => ⟨0, 32, .RO, 0⟩
  | .TIM_SNAP_SEC_HI => ⟨0, 16, .RO, 0⟩
  | .TIM_MAC_CTRL_PTPQ_EN => ⟨31, 1, .RW, 0⟩
  | .TIM_MAC_CTRL_TB => ⟨28, 3, .RW, 0⟩
  | .TIM_MAC_CTRL_PTPQ => ⟨0, 16, .RW, 0⟩
  | .TIM_MAC_TX_ADJ => ⟨0, 20, .RW, 0⟩
  | .TIM_MAC_RX_ADJ => ⟨0, 20, .RW, 0⟩
  | .TIM_MAC_LAUNCH_HORIZON_MS => ⟨16, 16, .RW, 1000⟩
  | .TIM_MAC_LAUNCH_LATE_US => ⟨0, 16, .RW, 10⟩
  | .TIM_DOMAIN_EN => ⟨31, 1, .RW, 0⟩
  | .TIM_DOMAIN_TB => ⟨28, 3, .RW, 0⟩
  | .TIM_DOMAIN_DOMAIN => ⟨0, 8, .RW, 0⟩
  | .TIM_CAP_CTRL_EDGE => ⟨30, 2, .RWL, 0⟩
  | .TIM_CAP_CTRL_TB => ⟨27, 3, .RWL, 0⟩
  | .TIM_CAP_CTRL_LANE => ⟨20, 7, .RWL, 0⟩
  | .TIM_CAP_DIV => ⟨0, 24, .RWL, 1⟩
  | .TIM_CAP_HEAD_VALID => ⟨31, 1, .RC, 0⟩
  | .TIM_CAP_HEAD_OVERRUN => ⟨30, 1, .RC, 0⟩
  | .TIM_CAP_HEAD_RISING => ⟨29, 1, .RC, 0⟩
  | .TIM_CAP_HEAD_STEPPED => ⟨28, 1, .RC, 0⟩
  | .TIM_CAP_HEAD_DEPTH => ⟨16, 5, .RC, 0⟩
  | .TIM_CAP_HEAD_SEC_HI => ⟨0, 16, .RC, 0⟩
  | .TIM_CAP_SEC => ⟨0, 32, .RO, 0⟩
  | .TIM_CAP_NS => ⟨0, 32, .RO, 0⟩
  | .TIM_CAP_FRAC_FRAC => ⟨16, 16, .RO, 0⟩
  | .TIM_CAP_LOST => ⟨0, 32, .RC, 0⟩
  | .TB_INC_STAGED => ⟨0, 32, .RO, 0⟩
  | .TB_INC_DUE => ⟨0, 1, .RO, 0⟩
  | .TB_INC_NEXT => ⟨0, 48, .RO, 0⟩
  | .TB_ALARM_NS => ⟨0, 32, .RO, 0⟩
  | .TB_ALARM_SEC => ⟨0, 48, .RO, 0⟩
  | .TB_SHADOW_NS => ⟨0, 32, .RO, 0⟩
  | .TB_SHADOW_SEC => ⟨0, 48, .RO, 0⟩
  | .CAP_EDGES => ⟨0, 24, .RO, 0⟩
  | .CAP_OVERRUN => ⟨0, 1, .RO, 0⟩
  | .CAP_STEPPED => ⟨0, 1, .RO, 0⟩
  | .AGE_POS => ⟨0, 6, .RO, 0⟩
  | .AGE_SEQ => ⟨0, 32, .RO, 0⟩
  | .AGE_AT => ⟨0, 64, .RO, 0⟩
  | .REF_CTRL_FORCE_EN => ⟨15, 1, .RW, 0⟩
  | .REF_CTRL_FORCE_CAND => ⟨8, 4, .RW, 0⟩
  | .REF_CTRL_BW => ⟨4, 2, .RWL, 2⟩
  | .REF_CTRL_FAST_ACQ => ⟨3, 1, .RW, 1⟩
  | .REF_CTRL_LEARN => ⟨2, 1, .RW, 1⟩
  | .REF_SEL_STATE_STATE => ⟨29, 3, .RO, 4⟩
  | .REF_SEL_STATE_SLEWING => ⟨28, 1, .RO, 0⟩
  | .REF_SEL_STATE_SELECTED => ⟨24, 4, .RO, 15⟩
  | .REF_SEL_STATE_CAUSE => ⟨20, 4, .RO, 0⟩
  | .REF_SEL_STATE_INC0_DEV => ⟨19, 1, .RO, 0⟩
  | .REF_SEL_STATE_RATE_CLAMP => ⟨18, 1, .RO, 0⟩
  | .REF_SEL_STATE_HOLD_MIN => ⟨0, 16, .RO, 0⟩
  | .REF_LIMITS_DISQ => ⟨16, 16, .RW, 0⟩
  | .REF_LIMITS_WARN => ⟨0, 16, .RW, 0⟩
  | .REF_QUAL_QUAL => ⟨16, 16, .RW, 0⟩
  | .REF_QUAL_MUTUAL => ⟨0, 16, .RW, 0⟩
  | .REF_DRIFT_DRIFT => ⟨16, 16, .RW, 0⟩
  | .REF_DRIFT_DRIFT_HOLD => ⟨0, 16, .RW, 0⟩
  | .REF_SLOPE_SLOPE => ⟨16, 16, .RW, 0⟩
  | .REF_SLOPE_HOLD_LIMIT => ⟨0, 16, .RW, 0⟩
  | .REF_MODEL_Y => ⟨0, 32, .RO, 0⟩
  | .REF_MODEL_AGE => ⟨0, 32, .RO, 0⟩
  | .REF_TEMP_TEMP_FAULT => ⟨31, 1, .RO, 0⟩
  | .REF_TEMP_TEMP => ⟨0, 16, .RO, 0⟩
  | .REF_CORR => ⟨0, 32, .RO, 0⟩
  | .REF_MODEL_STAT_VALID => ⟨31, 1, .RO, 0⟩
  | .REF_MODEL_STAT_LEARNED => ⟨30, 1, .RO, 0⟩
  | .REF_MODEL_STAT_RANGE => ⟨29, 1, .RO, 0⟩
  | .REF_MODEL_STAT_FROM_RING => ⟨28, 1, .RO, 0⟩
  | .REF_MODEL_STAT_DAYS => ⟨0, 8, .RO, 0⟩
  | .REF_SW_VALID => ⟨31, 1, .RW, 0⟩
  | .REF_SW_MOVED => ⟨0, 32, .RO, 0⟩
  | .REF_CAND_EN => ⟨31, 1, .RW, 0⟩
  | .REF_CAND_REVERTIVE => ⟨30, 1, .RW, 0⟩
  | .REF_CAND_LOCKED => ⟨29, 1, .RO, 0⟩
  | .REF_CAND_PRIORITY => ⟨24, 4, .RW, 0⟩
  | .REF_CAND_KIND => ⟨20, 4, .RO, 0⟩
  | .REF_CAND_FORMAT => ⟨8, 8, .RO, 0⟩
  | .REF_CAND_LANE => ⟨0, 7, .RO, 0⟩
  | .REF_CAND1_CSTATE => ⟨29, 3, .RO, 5⟩
  | .REF_CAND1_DRIFTING => ⟨28, 1, .RO, 0⟩
  | .REF_CAND1_QUAL_LEFT => ⟨0, 16, .RO, 0⟩
  | .REF_CAND_OFFSET => ⟨0, 32, .RO, 0⟩
  | .REF_CAND_DRIFT => ⟨0, 32, .RO, 0⟩
  | .REF_CAND4_DISQ_COUNT => ⟨16, 16, .RC, 0⟩
  | .REF_K => ⟨0, 64, .RO, 0⟩
  | .REF_MOVED => ⟨0, 64, .RO, 0⟩
  | .REF_RAW => ⟨0, 64, .RO, 0⟩
  | .REF_D => ⟨0, 64, .RO, 0⟩
  | .REF_BEYOND => ⟨0, 16, .RO, 0⟩
  | .REF_WITHIN => ⟨0, 16, .RO, 0⟩
  | .REF_LOCK_SECS => ⟨0, 16, .RO, 0⟩
  | .REF_ACQUIRED => ⟨0, 1, .RO, 0⟩
  | .REF_HOLD_SECS => ⟨0, 32, .RO, 0⟩
  | .REF_NOON_RUN => ⟨0, 16, .RO, 0⟩
  | .REF_NOON_SECS => ⟨0, 48, .RO, 0⟩
  | .REF_DAY => ⟨0, 32, .RO, 0⟩
  | .REF_DAY_SECS => ⟨0, 32, .RO, 0⟩
  | .REF_DAY_NOON => ⟨0, 32, .RO, 0⟩
  | .REF_DAY_SUM => ⟨0, 64, .RO, 0⟩
  | .REF_Y => ⟨0, 64, .RO, 0⟩
  | .REF_TY => ⟨0, 48, .RO, 0⟩
  | .REF_QUAL_SECS => ⟨0, 17, .RO, 0⟩
  | .REF_AGE_START => ⟨0, 32, .RO, 0⟩
  | .REF_TEMP_FAILS => ⟨0, 2, .RO, 0⟩
  | .REF_SW_ALIVE => ⟨0, 1, .RO, 0⟩
  | .REF_NEXT => ⟨0, 6, .RO, 0⟩
  | .AUD_CTRL_WAIT_MS => ⟨24, 8, .RW, 8⟩
  | .AUD_CTRL_ALIGN_LOCAL => ⟨16, 1, .RWL, 0⟩
  | .AUD_CTRL_FS => ⟨1, 1, .RWL, 0⟩
  | .AUD_STAT_COMMIT_PENDING => ⟨31, 1, .RO, 0⟩
  | .AUD_STAT_RX_GROUPS => ⟨16, 8, .RO, 0⟩
  | .AUD_STAT_DAYBREAKS => ⟨0, 16, .RO, 0⟩
  | .AUD_COMMIT_RANGE_FIRST => ⟨16, 14, .RW, 0⟩
  | .AUD_COMMIT_RANGE_COUNT => ⟨0, 15, .RW, 0⟩
  | .AUD_COMMIT_GO => ⟨31, 1, .WO, 0⟩
  | .AUD_COMMIT_CANCEL => ⟨30, 1, .WO, 0⟩
  | .AUD_COMMIT_AT_MERIDIAN => ⟨29, 1, .WO, 0⟩
  | .AUD_COMMIT_FORMAT => ⟨0, 8, .WO, 0⟩
  | .AUD_COMMIT_RESULT_BUSY => ⟨31, 1, .RO, 0⟩
  | .AUD_COMMIT_RESULT_PENDING => ⟨30, 1, .RO, 0⟩
  | .AUD_COMMIT_RESULT_TAG => ⟨16, 8, .RO, 0⟩
  | .AUD_COMMIT_RESULT_REASON => ⟨8, 8, .RO, 0⟩
  | .AUD_COMMIT_RESULT_WAITED => ⟨0, 8, .RO, 0⟩
  | .AUD_DAYBREAK_SRC => ⟨30, 2, .RW, 0⟩
  | .AUD_DAYBREAK_EDGE => ⟨29, 1, .RW, 0⟩
  | .AUD_DAYBREAK_PERIOD_MS => ⟨0, 16, .RW, 100⟩
  | .AUD_DAYBREAK_LAST => ⟨0, 32, .RO, 0⟩
  | .AUD_EVAC_ACTIVE => ⟨31, 1, .RO, 0⟩
  | .AUD_EVAC_DEFAULT => ⟨30, 1, .RO, 0⟩
  | .AUD_EVAC_CLIP_FAULT => ⟨29, 1, .RO, 0⟩
  | .AUD_EVAC_DESIGNATED_LOST => ⟨28, 1, .RO, 0⟩
  | .AUD_EVAC_VENUE_COUNT => ⟨0, 15, .RO, 0⟩
  | .AUD_RXG0_VALID => ⟨31, 1, .RO, 0⟩
  | .AUD_RXG0_STATE => ⟨29, 2, .RO, 0⟩
  | .AUD_RXG0_LOST => ⟨28, 1, .RO, 0⟩
  | .AUD_RXG0_HOME => ⟨24, 4, .RO, 0⟩
  | .AUD_RXG0_REASON => ⟨16, 8, .RO, 0⟩
  | .AUD_RXG0_SPANS => ⟨8, 8, .RO, 0⟩
  | .AUD_RXG0_GROUP => ⟨0, 8, .RO, 0⟩
  | .AUD_RXG_MISSING => ⟨0, 32, .RC, 0⟩
  | .AUD_DRAFT_SOURCE => ⟨0, 18, .RW, 262143⟩
  | .AUD_LIVE_REMOTE => ⟨31, 1, .RO, 0⟩
  | .AUD_LIVE_MISSING => ⟨30, 1, .RO, 0⟩
  | .AUD_LIVE_EVAC => ⟨29, 1, .RO, 0⟩
  | .AUD_LIVE_SOURCE => ⟨0, 18, .RO, 262143⟩
  | .AUD_OUT0_CLIPPED => ⟨31, 1, .W1C, 0⟩
  | .AUD_OUT0_VENUE => ⟨30, 1, .RO, 0⟩
  | .AUD_OUT0_GAIN => ⟨0, 16, .RW, 0⟩
  | .AUD_OUT1_GAIN_LIMIT => ⟨16, 16, .RO, 0⟩
  | .AUD_OUT1_CEILING => ⟨0, 16, .RO, 0⟩
  | .AUD_PORT_CTRL_IN_EN => ⟨31, 1, .RWL, 0⟩
  | .AUD_PORT_CTRL_OUT_EN => ⟨30, 1, .RWL, 0⟩
  | .AUD_PORT_CTRL_MASTER => ⟨29, 1, .RWL, 0⟩
  | .AUD_PORT_CTRL_RAMP => ⟨28, 1, .RW, 0⟩
  | .AUD_PORT_CTRL_META => ⟨27, 1, .RWL, 0⟩
  | .AUD_PORT_CTRL_ASRC => ⟨26, 1, .RWL, 0⟩
  | .AUD_PORT_CTRL_SETTING => ⟨16, 8, .RWL, 0⟩
  | .AUD_PORT_CHAN_IN_BASE => ⟨16, 14, .RWL, 0⟩
  | .AUD_PORT_CHAN_OUT_BASE => ⟨0, 14, .RWL, 0⟩
  | .AUD_PORT_MASK_IN => ⟨0, 32, .RW, 0⟩
  | .AUD_PORT_MASK_OUT => ⟨0, 32, .RW, 0⟩
  | .AUD_PORT_STAT_STATE => ⟨29, 3, .RO, 0⟩
  | .AUD_PORT_STAT_RATE_ERR => ⟨28, 1, .RO, 0⟩
  | .AUD_PORT_STAT_DOMAIN_ERR => ⟨27, 1, .RO, 0⟩
  | .AUD_PORT_STAT_HELD => ⟨26, 1, .RO, 0⟩
  | .AUD_PORT_STAT_CLK_PRESENT => ⟨25, 1, .RO, 0⟩
  | .AUD_PORT_STAT_FMT_ERR => ⟨24, 1, .RO, 0⟩
  | .AUD_PORT_STAT_FREQ => ⟨0, 16, .RO, 0⟩
  | .AUD_PORT_EVT => ⟨0, 10, .W1C, 0⟩
  | .AUD_PORT_EVT_EN => ⟨0, 10, .RW, 543⟩
  | .AUD_PORT_UNDERRUNS => ⟨0, 32, .RC, 0⟩
  | .AUD_PORT_OVERRUNS => ⟨0, 32, .RC, 0⟩
  | .AUD_PORT_SLIPS => ⟨0, 32, .RC, 0⟩
  | .AUD_PORT_GLITCHES => ⟨0, 32, .RC, 0⟩
  | .AUD_PORT_QUEUE => ⟨0, 16, .RWL, 0⟩
  | .AUD_PORT_PLAYOUT => ⟨0, 13, .RWL, 48⟩
  | .AUD_GROUP_LOST => ⟨0, 1, .RO, 0⟩
  | .AUD_K => ⟨0, 64, .RO, 0⟩
  | .AUD_MASK_IN_LATCHED => ⟨0, 32, .RO, 0⟩
  | .AUD_MASK_OUT_LATCHED => ⟨0, 32, .RO, 0⟩
  | .AUD_MASK_IN_PREV => ⟨0, 32, .RO, 0⟩
  | .AUD_MASK_OUT_PREV => ⟨0, 32, .RO, 0⟩
  | .AUD_MASK_WRITTEN => ⟨0, 1, .RO, 0⟩
  | .AUD_RAMP_LEFT => ⟨0, 8, .RO, 0⟩
  | .AUD_REPEATS => ⟨0, 8, .RO, 0⟩
  | .AUD_SLIPPED => ⟨0, 1, .RO, 0⟩
  | .AUD_EVAC_POS => ⟨0, 64, .RO, 0⟩
  | .AUD_EVAC_WAIT => ⟨0, 1, .RO, 0⟩
  | .AUD_VENUE_RAMP => ⟨0, 8, .RO, 0⟩
  | .AUD_GAIN_FROM => ⟨0, 32, .RO, 0⟩
  | .AUD_GAIN_LEFT => ⟨0, 8, .RO, 0⟩
  | .AUD_AFV_DUE => ⟨0, 1, .RO, 0⟩
  | .AUD_AFV_LEFT => ⟨0, 7, .RO, 0⟩
  | .AUD_AFV_OLD => ⟨0, 2, .RO, 0⟩
  | .DSP_CORE_CTRL_Q_IRQ => ⟨10, 1, .RW, 0⟩
  | .DSP_CORE_CTRL_DB_IRQ => ⟨9, 1, .RW, 0⟩
  | .DSP_CORE_CTRL_BLOCK => ⟨4, 2, .RWL, 1⟩
  | .DSP_CORE_CTRL_MODE => ⟨1, 1, .RWL, 0⟩
  | .DSP_CORE_STAT_STATE => ⟨29, 3, .RO, 0⟩
  | .DSP_CORE_STAT_FAULT => ⟨24, 5, .RO, 0⟩
  | .DSP_CORE_STAT_TRAP_CODE => ⟨16, 8, .RO, 0⟩
  | .DSP_CORE_STAT_PC => ⟨0, 13, .RO, 0⟩
  | .DSP_CORE_EVT => ⟨0, 8, .W1C, 0⟩
  | .DSP_CORE_EVT_EN => ⟨0, 8, .RW, 191⟩
  | .DSP_CORE_DOORBELL_RING => ⟨0, 1, .WO, 0⟩
  | .DSP_CORE_MBOX_IN => ⟨0, 32, .RW, 0⟩
  | .DSP_CORE_MBOX_OUT => ⟨0, 32, .RO, 0⟩
  | .DSP_XCH_TAP_TAP_BASE => ⟨16, 14, .RWL, 0⟩
  | .DSP_XCH_TAP_TAP_COUNT => ⟨0, 10, .RWL, 0⟩
  | .DSP_XCH_RET_RET_BASE => ⟨16, 14, .RWL, 0⟩
  | .DSP_XCH_RET_RET_COUNT => ⟨0, 10, .RWL, 0⟩
  | .DSP_XCH_BUF_X_TAP => ⟨16, 14, .RWL, 0⟩
  | .DSP_XCH_BUF_Y_RET => ⟨0, 14, .RWL, 0⟩
  | .DSP_QIN_EN => ⟨31, 1, .RWL, 0⟩
  | .DSP_QIN_QUEUE => ⟨0, 16, .RWL, 0⟩
  | .DSP_QIN_RING_LOG2 => ⟨24, 4, .RWL, 6⟩
  | .DSP_QIN_RING_BASE => ⟨0, 14, .RWL, 0⟩
  | .DSP_BLK_STAT_LATE => ⟨16, 16, .RC, 0⟩
  | .DSP_BLK_STAT_SKIPPED => ⟨0, 16, .RC, 0⟩
  | .DSP_CORE_ECC_COR => ⟨16, 16, .RC, 0⟩
  | .DSP_CORE_ECC_UNCOR => ⟨8, 8, .RC, 0⟩
  | .DSP_CORE_LOAD_MAX_CYCLES => ⟨0, 32, .RC, 0⟩
  | .DSP_QIN_DROP_Q1 => ⟨16, 16, .RC, 0⟩
  | .DSP_QIN_DROP_Q0 => ⟨0, 16, .RC, 0⟩
  | .CMP_LEGEND_STAT_ACTIVE => ⟨31, 1, .RO, 0⟩
  | .CMP_LEGEND_STAT_DEFAULT => ⟨30, 1, .RO, 0⟩
  | .CMP_LEGEND_STAT_FAULT => ⟨29, 1, .RO, 0⟩
  | .CMP_LEGEND_STAT_VERSION => ⟨0, 16, .RO, 0⟩
  | .CMP_HEAD_CTRL_FORMAT => ⟨24, 8, .RWL, 0⟩
  | .CMP_HEAD_CTRL_DEPTH => ⟨23, 1, .RWL, 0⟩
  | .CMP_HEAD_CTRL_FENCED => ⟨22, 1, .RWL, 0⟩
  | .CMP_HEAD_CTRL_MISS_LIMIT => ⟨16, 4, .RW, 2⟩
  | .CMP_HEAD_STAT_PENDING => ⟨31, 1, .RO, 0⟩
  | .CMP_HEAD_STAT_EVAC => ⟨30, 1, .RO, 0⟩
  | .CMP_HEAD_STAT_ROM_SLIDE => ⟨29, 1, .RO, 0⟩
  | .CMP_HEAD_STAT_LAST_REASON => ⟨16, 8, .RO, 0⟩
  | .CMP_HEAD_STAT_LAYERS => ⟨8, 8, .RO, 0⟩
  | .CMP_HEAD_ADJ => ⟨0, 20, .RWL, 0⟩
  | .CMP_HEAD_BG => ⟨0, 30, .RW, 268501504⟩
  | .CMP_HEAD_COMMIT_GO => ⟨31, 1, .WO, 0⟩
  | .CMP_HEAD_COMMIT_CANCEL => ⟨30, 1, .WO, 0⟩
  | .CMP_HEAD_LUTSEL_IN_USE => ⟨16, 3, .RO, 0⟩
  | .CMP_HEAD_LUTSEL_SEL => ⟨0, 3, .RW, 0⟩
  | .CMP_HEAD_FQ_FQ_EN => ⟨31, 1, .RWL, 0⟩
  | .CMP_HEAD_FQ_QUEUE => ⟨0, 16, .RWL, 0⟩
  | .CMP_HEAD_EVT => ⟨0, 6, .W1C, 0⟩
  | .CMP_HEAD_EVT_EN => ⟨0, 6, .RW, 15⟩
  | .CMP_FENCE_SIGNAL_FENCE => ⟨16, 4, .WO, 0⟩
  | .CMP_FENCE_SIGNAL_VALUE => ⟨0, 16, .WO, 0⟩
  | .CMP_HEAD_TALLY => ⟨0, 30, .RW, 0⟩
  | .CMP_FENCE => ⟨0, 16, .RO, 0⟩
  | .CMP_TILE_W0_EN_T => ⟨31, 1, .RW, 0⟩
  | .CMP_TILE_W0_KIND => ⟨30, 1, .RW, 0⟩
  | .CMP_TILE_W0_LABEL_ON => ⟨29, 1, .RW, 0⟩
  | .CMP_TILE_W0_LABEL_SIZE => ⟨27, 2, .RW, 0⟩
  | .CMP_TILE_W0_TALLY => ⟨25, 2, .RW, 0⟩
  | .CMP_TILE_W0_BORDER => ⟨21, 4, .RW, 0⟩
  | .CMP_TILE_W0_ALPHA => ⟨13, 8, .RW, 255⟩
  | .CMP_TILE_W0_SOURCE => ⟨0, 11, .RW, 0⟩
  | .CMP_TILE_W1_Y => ⟨16, 12, .RW, 0⟩
  | .CMP_TILE_W1_X => ⟨0, 12, .RW, 0⟩
  | .CMP_TILE_W2_HEIGHT => ⟨16, 12, .RW, 0⟩
  | .CMP_TILE_W2_WIDTH => ⟨0, 12, .RW, 0⟩
  | .CMP_TILE_W3_FALLBACK => ⟨0, 30, .RW, 268501504⟩
  | .CMP_TILE_L0 => ⟨0, 32, .RO, 2088960⟩
  | .CMP_TILE_L1 => ⟨0, 32, .RO, 0⟩
  | .CMP_TILE_L2 => ⟨0, 32, .RO, 0⟩
  | .CMP_TILE_L3 => ⟨0, 32, .RO, 268501504⟩
  | .CMP_TILE_W8_READY => ⟨31, 1, .RO, 0⟩
  | .CMP_TILE_W8_FALLBACK_ON => ⟨30, 1, .RO, 0⟩
  | .CMP_TILE_W8_PREDEC => ⟨29, 1, .RO, 0⟩
  | .CMP_TILE_W8_ARMED => ⟨28, 1, .RO, 0⟩
  | .CMP_TILE_W8_FAB_REASON => ⟨16, 8, .RO, 0⟩
  | .CMP_TILE_W8_MISSES => ⟨8, 8, .RO, 0⟩
  | .CMP_TILE_W8_LAST_REASON => ⟨0, 8, .RO, 0⟩
  | .CMP_TILE_MISS_TOTAL => ⟨0, 32, .RC, 0⟩
  | .CMP_TILE_FLIP_ARM => ⟨31, 1, .WO, 0⟩
  | .CMP_TILE_FLIP_CANCEL => ⟨30, 1, .WO, 0⟩
  | .CMP_TILE_FLIP_FENCE => ⟨16, 4, .WO, 0⟩
  | .CMP_TILE_FLIP_VALUE => ⟨0, 16, .WO, 0⟩
  | .CMP_TILE_WAIT_FRAMES => ⟨0, 16, .RO, 0⟩
  | .CMP_OVL_W0_EN_O => ⟨31, 1, .RW, 0⟩
  | .CMP_OVL_W0_FMT => ⟨30, 1, .RW, 0⟩
  | .CMP_OVL_W0_ALPHA => ⟨22, 8, .RW, 255⟩
  | .CMP_OVL_W0_FALLBACK_A => ⟨14, 8, .RW, 0⟩
  | .CMP_OVL_W1_BASE_LO => ⟨0, 32, .RW, 0⟩
  | .CMP_OVL_W2_STRIDE => ⟨16, 16, .RW, 0⟩
  | .CMP_OVL_W2_BASE_HI => ⟨0, 16, .RW, 0⟩
  | .CMP_OVL_W3_FALLBACK => ⟨0, 30, .RW, 268501504⟩
  | .CMP_OVL_L0 => ⟨0, 32, .RO, 1069547520⟩
  | .CMP_OVL_L1 => ⟨0, 32, .RO, 0⟩
  | .CMP_OVL_L2 => ⟨0, 32, .RO, 0⟩
  | .CMP_OVL_L3 => ⟨0, 32, .RO, 268501504⟩
  | .CMP_OVL_FETCH_FAULTS => ⟨0, 32, .RC, 0⟩
  | .CMP_OVL_FLIP_ARM => ⟨31, 1, .WO, 0⟩
  | .CMP_OVL_FLIP_CANCEL => ⟨30, 1, .WO, 0⟩
  | .CMP_OVL_FLIP_FENCE => ⟨16, 4, .WO, 0⟩
  | .CMP_OVL_FLIP_VALUE => ⟨0, 16, .WO, 0⟩
  | .CMP_OVL_WAIT_FRAMES => ⟨0, 16, .RO, 0⟩
  | .CMP_HEAD_HCOEF => ⟨0, 10, .RWL, 0⟩
  | .CMP_HEAD_VCOEF => ⟨0, 10, .RWL, 0⟩
  | .CMP_LUT_PV_ODD => ⟨16, 16, .RW, 0⟩
  | .CMP_LUT_PV_EVEN => ⟨0, 16, .RW, 0⟩
  | .CMP_LUT_PG_ODD => ⟨16, 16, .RW, 0⟩
  | .CMP_LUT_PG_EVEN => ⟨0, 16, .RW, 0⟩
  | .CMP_LUT_PO_ODD => ⟨16, 12, .RW, 0⟩
  | .CMP_LUT_PO_EVEN => ⟨0, 12, .RW, 0⟩
  | .CMP_BG_LIVE => ⟨0, 30, .RO, 268501504⟩
  | .CMP_TALLY_LIVE => ⟨0, 30, .RO, 0⟩
  | .CMP_BG_TICK => ⟨0, 64, .RO, 0⟩
  | .CMP_COMMIT_TICK => ⟨0, 64, .RO, 0⟩
  | .CMP_LUT_TICK => ⟨0, 64, .RO, 0⟩
  | .CMP_LUT_PENDING => ⟨0, 1, .RO, 0⟩
  | .CMP_FLIP_FENCE => ⟨0, 4, .RO, 0⟩
  | .CMP_FLIP_VALUE => ⟨0, 16, .RO, 0⟩
  | .CMP_FLIP_MASTER => ⟨0, 4, .RO, 0⟩
  | .CMP_OVL_ARMED => ⟨0, 1, .RO, 0⟩
  | .CMP_OVL_LAST_REASON => ⟨0, 8, .RO, 0⟩
  | .CMP_TILE_OLD => ⟨0, 12, .RO, 0⟩
  | .CMP_EVAC_TICK => ⟨0, 64, .RO, 0⟩
  | .CMP_EVAC_WAIT => ⟨0, 1, .RO, 0⟩
  | .BUS_ERR_LOG0 => ⟨0, 32, .RO, 0⟩
  | .BUS_ERR_LOG1_MASTER => ⟨28, 4, .RO, 0⟩
  | .BUS_ERR_LOG1_WRITE => ⟨27, 1, .RO, 0⟩
  | .BUS_ERR_LOG1_CAUSE => ⟨24, 3, .RO, 0⟩
  | .BUS_ERR_LOG1_ADDR_HI => ⟨0, 16, .RO, 0⟩
  | .BUS_ERR_COUNT => ⟨0, 32, .RC, 0⟩
  | .BUS_LOST_LOG0 => ⟨0, 32, .RO, 0⟩
  | .BUS_LOST_LOG1_MASTER => ⟨28, 4, .RO, 0⟩
  | .BUS_LOST_LOG1_WRITE => ⟨27, 1, .RO, 0⟩
  | .BUS_LOST_LOG1_LEN => ⟨21, 5, .RO, 0⟩
  | .BUS_LOST_LOG1_DONE => ⟨16, 5, .RO, 0⟩
  | .BUS_LOST_LOG1_ADDR_HI => ⟨0, 16, .RO, 0⟩
  | .BUS_LOST_COUNT => ⟨0, 32, .RC, 0⟩
  | .BUS_TIMEOUT_CYCLES => ⟨0, 16, .RW, 4096⟩
  | .BUS_SRAM_ECC_COR => ⟨16, 16, .RC, 0⟩
  | .BUS_SRAM_ECC_UNCOR => ⟨8, 8, .RC, 0⟩
  | .BUS_SRAM_ADDR => ⟨0, 32, .RO, 0⟩
  | .BUS_LINK_STAT_LINK_UP => ⟨31, 1, .RO, 0⟩
  | .BUS_LINK_STAT_BME => ⟨30, 1, .RO, 0⟩
  | .BUS_LINK_STAT_MSIX_EN => ⟨29, 1, .RO, 0⟩
  | .BUS_LINK_STAT_FUNC_MASK => ⟨28, 1, .RO, 0⟩
  | .BUS_LINK_STAT_DSTATE => ⟨26, 2, .RO, 0⟩
  | .BUS_LINK_STAT_REPAIRED => ⟨0, 8, .RO, 0⟩
  | .BUS_LINK_COUNT_RETRAINS => ⟨16, 16, .RC, 0⟩
  | .BUS_LINK_COUNT_REPLAYS => ⟨0, 16, .RC, 0⟩
  | .MSIX_PENDING => ⟨0, 1, .RO, 0⟩
  | .MBX_CTRL_REQ => ⟨31, 1, .RO, 0⟩
  | .MBX_CTRL_RSP => ⟨30, 1, .RO, 0⟩
  | .MBX_CTRL_STEWARD => ⟨16, 4, .RW, 1⟩
  | .MBX_CTRL_SEQ => ⟨0, 16, .RW, 0⟩
  | .FLT_CTRL_STORM_PERIOD => ⟨24, 8, .RW, 10⟩
  | .FLT_CTRL_STORM_RELEASE => ⟨16, 8, .RW, 0⟩
  | .FLT_CTRL_LOGQ_EN => ⟨0, 1, .RW, 0⟩
  | .FLT_STAT_FATAL => ⟨31, 1, .RO, 0⟩
  | .FLT_STAT_SAFE => ⟨30, 1, .RO, 0⟩
  | .FLT_STAT_FATAL_SRC => ⟨0, 9, .RO, 0⟩
  | .FLT_FATAL_NS => ⟨0, 32, .RO, 0⟩
  | .FLT_FATAL_SEC => ⟨0, 32, .RO, 0⟩
  | .FLT_LOGQ => ⟨0, 16, .RW, 0⟩
  | .FLT_RECOV_STAT_RECOVERING => ⟨31, 1, .RO, 0⟩
  | .FLT_RECOV_STAT_ACTIVE => ⟨30, 1, .RO, 0⟩
  | .FLT_RECOV_STAT_FROZEN => ⟨29, 1, .RO, 0⟩
  | .FLT_RECOV_STAT_OVERDUE => ⟨28, 1, .RO, 0⟩
  | .FLT_RECOV_STAT_DEPTH => ⟨16, 8, .RO, 0⟩
  | .FLT_RECOV_STAT_OVERFLOW => ⟨0, 16, .RC, 0⟩
  | .FLT_RECOV_CMD_TAKE => ⟨31, 1, .WO, 0⟩
  | .FLT_RECOV_CMD_DONE => ⟨30, 1, .WO, 0⟩
  | .FLT_RECOV_CMD_SOURCE => ⟨0, 9, .WO, 0⟩
  | .FLT_RECOV_HEAD_VALID => ⟨31, 1, .RO, 0⟩
  | .FLT_RECOV_HEAD_CONCURRENT => ⟨30, 1, .RO, 0⟩
  | .FLT_RECOV_HEAD_PREEMPTED => ⟨29, 1, .RO, 0⟩
  | .FLT_RECOV_HEAD_IS_ACTIVE => ⟨28, 1, .RO, 0⟩
  | .FLT_RECOV_HEAD_PRIO => ⟨25, 3, .RO, 0⟩
  | .FLT_RECOV_HEAD_COUNT => ⟨17, 8, .RO, 0⟩
  | .FLT_RECOV_HEAD_SOURCE => ⟨0, 9, .RO, 0⟩
  | .FLT_RECOV_LIMIT => ⟨0, 16, .RW, 500⟩
  | .FLT_PEND => ⟨0, 32, .W1C, 0⟩
  | .FLT_LATCH_VALID => ⟨31, 1, .W1C, 0⟩
  | .FLT_LATCH_SOURCE => ⟨16, 9, .RO, 0⟩
  | .FLT_LATCH_OTHERS => ⟨0, 16, .RO, 0⟩
  | .FLT_LATCH_NS => ⟨0, 32, .RO, 0⟩
  | .FLT_LATCH_SEC => ⟨0, 32, .RO, 0⟩
  | .FLT_HBM_COR => ⟨16, 16, .RC, 0⟩
  | .FLT_HBM_UNCOR => ⟨8, 8, .RC, 0⟩
  | .FLT_HBM_FAILED => ⟨0, 1, .RO, 0⟩
  | .FLT_HBM_ADDR_LO => ⟨0, 32, .RO, 0⟩
  | .FLT_HBM_ADDR_HI => ⟨0, 16, .RO, 0⟩
  | .FLT_HBM_SCRUBS => ⟨0, 16, .RO, 0⟩
  | .FLT_SRC_MASK => ⟨31, 1, .RW, 0⟩
  | .FLT_SRC_HOST => ⟨30, 1, .RW, 1⟩
  | .FLT_SRC_CLASS => ⟨28, 2, .RO, 0⟩
  | .FLT_SRC_STEWARD => ⟨24, 4, .RW, 1⟩
  | .FLT_SRC_STORM_N => ⟨16, 8, .RW, 32⟩
  | .FLT_SRC_WINDOW => ⟨12, 4, .RW, 11⟩
  | .FLT_SRC_FORCE => ⟨0, 1, .WO, 0⟩
  | .FLT_SRC_STAT_LEVEL => ⟨31, 1, .RO, 0⟩
  | .FLT_SRC_STAT_PENDING => ⟨30, 1, .W1C, 0⟩
  | .FLT_SRC_STAT_STORM => ⟨29, 1, .W1C, 0⟩
  | .FLT_SRC_STAT_FORCED => ⟨28, 1, .W1C, 0⟩
  | .FLT_SRC_STAT_LAST_CLASS => ⟨26, 2, .RO, 0⟩
  | .FLT_SRC_STAT_COUNT => ⟨0, 16, .RC, 0⟩
  | .FLT_SRC_TIME_NS => ⟨0, 32, .RO, 0⟩
  | .FLT_SRC_TIME_SEC => ⟨0, 32, .RO, 0⟩
  | .CHK_CTRL_KIND => ⟨28, 4, .RWL, 0⟩
  | .CHK_CTRL_POLY => ⟨26, 2, .RWL, 1⟩
  | .CHK_CTRL_COMPARE => ⟨24, 2, .RW, 0⟩
  | .CHK_CTRL_FREEZE_N => ⟨16, 8, .RW, 1⟩
  | .CHK_TARGET => ⟨0, 14, .RWL, 0⟩
  | .CHK_ADDR_LO => ⟨0, 32, .RWL, 0⟩
  | .CHK_ADDR_HI => ⟨0, 16, .RWL, 0⟩
  | .CHK_LEN => ⟨0, 32, .RWL, 0⟩
  | .CHK_EXPECT => ⟨0, 32, .RW, 0⟩
  | .CHK_RESULT => ⟨0, 32, .RO, 0⟩
  | .CHK_RESULT_ID => ⟨0, 32, .RO, 0⟩
  | .CHK_STAT_FROZEN => ⟨31, 1, .RO, 0⟩
  | .CHK_STAT_MEM_ERR => ⟨30, 1, .RO, 0⟩
  | .CHK_STAT_BUSY => ⟨29, 1, .RO, 0⟩
  | .CHK_STAT_MISMATCHES => ⟨0, 16, .RC, 0⟩
  | .CHK_EVT => ⟨0, 5, .W1C, 0⟩
  | .CHK_EVT_EN => ⟨0, 5, .RW, 31⟩
  | .SRC_WINDOW_OPEN => ⟨0, 1, .RO, 0⟩
  | .SRC_WINDOW_HIT => ⟨0, 1, .RO, 0⟩
  | .SRC_PERIOD_COUNT => ⟨0, 32, .RO, 0⟩
  | .SRC_SINCE_LOG => ⟨0, 16, .RO, 0⟩
  | .FLT_SEQ => ⟨0, 32, .RO, 0⟩
  | .FLT_LOG_POS => ⟨0, 16, .RO, 0⟩
  | .SCRUB_POS => ⟨0, 34, .RO, 0⟩
  | .HBM_HOT => ⟨0, 1, .RO, 0⟩
  | .CHK_HAVE => ⟨0, 1, .RO, 0⟩
  | .CHK_STREAK => ⟨0, 8, .RO, 0⟩
  | .ELECT_POS => ⟨0, 12, .RO, 0⟩
  | .ELECT_SEQ => ⟨0, 32, .RO, 0⟩
  | .TWN_CTRL_TAKEOVER_MS => ⟨16, 16, .RW, 20⟩
  | .TWN_CTRL_AUTO => ⟨2, 1, .RW, 1⟩
  | .TWN_CTRL_ROLE => ⟨1, 1, .RWL, 0⟩
  | .TWN_STAT_CLAIM => ⟨31, 1, .RO, 0⟩
  | .TWN_STAT_TWIN_CLAIM => ⟨30, 1, .RO, 0⟩
  | .TWN_STAT_DRIVING => ⟨29, 1, .RO, 0⟩
  | .TWN_STAT_READY => ⟨28, 1, .RO, 0⟩
  | .TWN_STAT_DUE => ⟨27, 1, .RO, 0⟩
  | .TWN_STAT_DEFERRED => ⟨26, 1, .RO, 0⟩
  | .TWN_STAT_LINK_LOST => ⟨25, 1, .RO, 0⟩
  | .TWN_STAT_MGMT_LOST => ⟨24, 1, .RO, 0⟩
  | .TWN_STAT_LINE_FAULT => ⟨23, 1, .RO, 0⟩
  | .TWN_STAT_MISMATCH => ⟨22, 1, .RO, 0⟩
  | .TWN_STAT_IMG_DIFF => ⟨21, 1, .RO, 0⟩
  | .TWN_STAT_WIRING => ⟨20, 1, .RO, 0⟩
  | .TWN_STAT_SYNC => ⟨16, 4, .RO, 0⟩
  | .TWN_STAT_TWIN_FLAGS => ⟨8, 8, .RO, 0⟩
  | .TWN_STAT_LAST_REASON => ⟨0, 8, .RO, 0⟩
  | .TWN_CMD_RELEASE => ⟨1, 1, .WO, 0⟩
  | .TWN_CMD_TAKE => ⟨0, 1, .WO, 0⟩
  | .TWN_EVT => ⟨0, 9, .W1C, 0⟩
  | .TWN_EVT_EN => ⟨0, 9, .RW, 511⟩
  | .TWN_ELECT_COUNT => ⟨0, 32, .RO, 0⟩
  | .TWN_TWIN_ELECT => ⟨0, 32, .RO, 0⟩
  | .TWN_TB0_OFFSET => ⟨0, 32, .RO, 0⟩
  | .TWN_SYNC_TB => ⟨0, 16, .RW, 100⟩
  | .TWN_HB_COUNT_LINK_MISSED => ⟨16, 16, .RC, 0⟩
  | .TWN_HB_COUNT_MGMT_MISSED => ⟨0, 16, .RC, 0⟩
  | .TWN_TWIN_ID_PART => ⟨16, 16, .RO, 0⟩
  | .TWN_TWIN_IMAGE => ⟨0, 32, .RO, 0⟩
  | .TWN_MGMT_SEQ => ⟨0, 8, .RO, 0⟩
  | .TWN_RX_SEQ => ⟨0, 8, .RO, 0⟩
  | .TWN_RX_SEQ_KNOWN => ⟨0, 1, .RO, 0⟩
  | .TWN_SETTLED => ⟨0, 1, .RO, 0⟩
  | .TWN_WANT => ⟨0, 2, .RO, 0⟩
  | .TWN_VETO => ⟨0, 1, .RO, 0⟩
  | .TWN_DROP => ⟨0, 1, .RO, 0⟩
  | .TWN_FELL => ⟨0, 1, .RO, 0⟩
  | .TWN_FELL_SEC => ⟨0, 48, .RO, 0⟩
  | .TWN_FELL_NS => ⟨0, 32, .RO, 0⟩
  | .TWN_TWIN_POWER => ⟨0, 8, .RO, 0⟩
  | .TWN_TWIN_SYNC => ⟨0, 8, .RO, 0⟩
  | .TWN_OFF_IN => ⟨0, 1, .RO, 0⟩
  | .TWN_OFF_TICK => ⟨0, 64, .RO, 0⟩
  | .TWN_COPY_ATL => ⟨0, 32, .RO, 0⟩
  | .TWN_COPY_ATL_SEEN => ⟨0, 1, .RO, 0⟩
  | .TWN_COPY_AUD => ⟨0, 18, .RO, 0⟩
  | .TWN_COPY_AUD_SEEN => ⟨0, 1, .RO, 0⟩
  | .TWN_MATCH => ⟨0, 2, .RO, 0⟩
  | .ELECT_DUE => ⟨0, 1, .RO, 0⟩
  | .ELECT_AT => ⟨0, 64, .RO, 0⟩
  | .SEC_LC_KEY_DESTROYED => ⟨24, 1, .RO, 0⟩
  | .SEC_LC_SAFETY_REVOKED => ⟨20, 2, .RO, 0⟩
  | .SEC_LC_OWNER_REVOKED => ⟨16, 4, .RO, 0⟩
  | .SEC_LC_FLOOR => ⟨8, 8, .RO, 0⟩
  | .SEC_LC_PENDING_VALID => ⟨7, 1, .RO, 0⟩
  | .SEC_LC_PENDING => ⟨4, 3, .RO, 0⟩
  | .SEC_LC_STATE => ⟨0, 3, .RO, 0⟩
  | .SEC_UID_LO => ⟨0, 32, .RO, 0⟩
  | .SEC_UID_HI => ⟨0, 32, .RO, 0⟩
  | .SEC_NONCE => ⟨0, 32, .RO, 0⟩
  | .SEC_CMD_GO => ⟨31, 1, .WO, 0⟩
  | .SEC_CMD_CMD => ⟨16, 8, .WO, 0⟩
  | .SEC_CMD_SLOT => ⟨8, 8, .WO, 0⟩
  | .SEC_ARG => ⟨0, 32, .RW, 0⟩
  | .SEC_RESULT_BUSY => ⟨31, 1, .RO, 0⟩
  | .SEC_RESULT_REASON => ⟨8, 8, .RO, 0⟩
  | .SEC_RESULT_FAILS => ⟨0, 8, .RO, 0⟩
  | .SEC_DBG_CEILING => ⟨4, 2, .RO, 0⟩
  | .SEC_DBG_LOCKOUT => ⟨2, 1, .RO, 0⟩
  | .SEC_DBG_LEVEL => ⟨0, 2, .RO, 0⟩
  | .SEC_POLICY0 => ⟨0, 32, .RO, 0⟩
  | .SEC_POLICY1_FLAGS => ⟨8, 8, .RO, 0⟩
  | .SEC_POLICY1_DEBUG_MAX => ⟨0, 8, .RO, 0⟩
  | .SEC_SIG => ⟨0, 32, .RW, 0⟩
  | .SEC_KEY => ⟨0, 32, .RO, 0⟩
  | .SEC_PROV => ⟨0, 32, .WO, 0⟩
  | .PWR_CTRL_REQ => ⟨0, 2, .WO, 0⟩
  | .PWR_STAT_STATE => ⟨29, 3, .RO, 1⟩
  | .PWR_STAT_SAFETY_WAKE => ⟨28, 1, .RO, 0⟩
  | .PWR_STAT_LAST_REASON => ⟨8, 8, .RO, 0⟩
  | .PWR_TEMP_WARN => ⟨31, 1, .RO, 0⟩
  | .PWR_TEMP_CRIT => ⟨30, 1, .RO, 0⟩
  | .PWR_TEMP_TEMP => ⟨0, 16, .RO, 0⟩
  | .PWR_TEMP_WARN_LIMIT => ⟨0, 8, .RW, 100⟩
  | .PWR_MON_CLOCK => ⟨8, 3, .W1C, 0⟩
  | .PWR_MON_RAIL => ⟨0, 8, .W1C, 0⟩
  | .TEMP_RAISED => ⟨0, 1, .RO, 0⟩
  | .FLD_STAT_LINK_UP => ⟨31, 1, .RO, 0⟩
  | .FLD_STAT_SUPPLY_OK => ⟨30, 1, .RO, 0⟩
  | .FLD_STAT_VFIELD => ⟨0, 16, .RO, 0⟩
  | .FLD_SAFE_STAT_OVERRIDE => ⟨31, 1, .RO, 0⟩
  | .FLD_SAFE_STAT_ARMED => ⟨30, 1, .RO, 0⟩
  | .FLD_SAFE_STAT_DEFAULT => ⟨29, 1, .RO, 0⟩
  | .FLD_SAFE_STAT_CONTACT_FAULT => ⟨28, 1, .RO, 1⟩
  | .FLD_SAFE_STAT_BOOT_LATCH => ⟨27, 1, .RO, 0⟩
  | .FLD_SAFE_STAT_ACKED1 => ⟨12, 1, .RO, 0⟩
  | .FLD_SAFE_STAT_HOLDS1 => ⟨11, 1, .RO, 0⟩
  | .FLD_SAFE_STAT_STATE1 => ⟨8, 3, .RO, 5⟩
  | .FLD_SAFE_STAT_ACKED0 => ⟨4, 1, .RO, 0⟩
  | .FLD_SAFE_STAT_HOLDS0 => ⟨3, 1, .RO, 0⟩
  | .FLD_SAFE_STAT_STATE0 => ⟨0, 3, .RO, 5⟩
  | .FLD_SAFE_OHM => ⟨0, 16, .RO, 0⟩
  | .FLD_GPI_FIFO => ⟨0, 32, .RO, 0⟩
  | .FLD_GPI_NS => ⟨0, 32, .RO, 0⟩
  | .FLD_GPI_SEC => ⟨0, 32, .RO, 0⟩
  | .FLD_GPO_SET => ⟨0, 32, .RW, 0⟩
  | .FLD_GPO_FAULT => ⟨0, 32, .W1C, 0⟩
  | .FLD_GPI_W0_POL => ⟨31, 1, .RW, 0⟩
  | .FLD_GPI_W0_STUCK_MASK => ⟨30, 1, .RW, 0⟩
  | .FLD_GPI_W0_EDGE_EN => ⟨29, 1, .RW, 1⟩
  | .FLD_GPI_W0_STUCK_EN => ⟨28, 1, .RW, 1⟩
  | .FLD_GPI_W0_EXCESS_EN => ⟨27, 1, .RW, 0⟩
  | .FLD_GPI_W0_MAX_RATE => ⟨16, 10, .RW, 100⟩
  | .FLD_GPI_W0_DEBOUNCE => ⟨8, 8, .RW, 10⟩
  | .FLD_GPI_W1_STUCK_S => ⟨0, 16, .RW, 0⟩
  | .FLD_GPI_W2_LEVEL => ⟨31, 1, .RO, 0⟩
  | .FLD_GPI_W2_STUCK => ⟨30, 1, .RO, 0⟩
  | .FLD_GPI_W2_MASKED => ⟨29, 1, .RO, 0⟩
  | .FLD_GPI_W2_EDGE_C => ⟨28, 1, .W1C, 0⟩
  | .FLD_GPI_W2_STUCK_C => ⟨27, 1, .W1C, 0⟩
  | .FLD_GPI_W2_EXCESS_C => ⟨26, 1, .W1C, 0⟩
  | .FLD_GPI_W3_EXCESS => ⟨0, 16, .RC, 0⟩
  | .FLD_GPO_CTRL_MODE => ⟨30, 2, .RW, 0⟩
  | .FLD_GPO_CTRL_SOURCE => ⟨16, 11, .RW, 0⟩
  | .FLD_GPO_CTRL_TARGET => ⟨0, 7, .RW, 0⟩
  | .FLD_RUN_BAND => ⟨0, 3, .RO, 5⟩
  | .FLD_RUN => ⟨0, 10, .RO, 0⟩
  | .FLD_DIE_BAND => ⟨0, 3, .RO, 5⟩
  | .FLD_DIE_HOLDS => ⟨0, 1, .RO, 0⟩
  | .FLD_DIE_OFF => ⟨0, 1, .RO, 0⟩
  | .FLD_LINK_BAD => ⟨0, 8, .RO, 0⟩
  | .FLD_LINK_GOOD => ⟨0, 8, .RO, 0⟩
  | .FLD_GPI_REC => ⟨0, 1, .RO, 0⟩
  | .FLD_GPI_REPORTED => ⟨0, 1, .RO, 0⟩
  | .FLD_GPI_EDGES => ⟨0, 10, .RO, 0⟩
  | .FLD_GPI_LOST => ⟨0, 1, .RO, 0⟩
  | .FLD_GPI_OVERRUN => ⟨0, 1, .RO, 0⟩

/-- Values that the spec does not reserve for the field (R598); `true` where it reserves none. -/
def Fld.legal : Fld → Nat → Bool
  | .ATL_DEST_CTRL_LOSS, v => decide (0 ≤ v ∧ v ≤ 2)
  | .FAB_CTRL_WP_TRIES, v => decide (1 ≤ v ∧ v ≤ 3)
  | .FAB_DEST_POLICY_MAX_CODING, v => decide (0 ≤ v ∧ v ≤ 2)
  | .LAN_BIND_RX_KIND, v => decide (0 ≤ v ∧ v ≤ 3)
  | .LAN_BIND_TX_KIND, v => decide (0 ≤ v ∧ v ≤ 4)
  | .LAN_TEST_LOOP, v => decide (0 ≤ v ∧ v ≤ 2)
  | .LAN_TEST_PRBS_TX, v => decide (0 ≤ v ∧ v ≤ 5)
  | .LAN_TEST_PRBS_RX, v => decide (0 ≤ v ∧ v ≤ 5)
  | .PKT_GCL_BASE_NS, v => decide (0 ≤ v ∧ v ≤ 999999999)
  | .TIM_MAC_LAUNCH_HORIZON_MS, v => decide (1 ≤ v ∧ v ≤ 16000)
  | .AUD_DAYBREAK_SRC, v => decide (0 ≤ v ∧ v ≤ 2)
  | .AUD_DAYBREAK_PERIOD_MS, v => decide (1 ≤ v ∧ v ≤ 60000)
  | .BUS_TIMEOUT_CYCLES, v => decide (256 ≤ v ∧ v ≤ 65535)
  | .FLT_CTRL_STORM_PERIOD, v => decide (1 ≤ v ∧ v ≤ 255)
  | .CHK_CTRL_FREEZE_N, v => decide (1 ≤ v ∧ v ≤ 255)
  | .TWN_CTRL_TAKEOVER_MS, v => decide (15 ≤ v ∧ v ≤ 1000)
  | .TWN_SYNC_TB, v => decide (1 ≤ v ∧ v ≤ 65535)
  | .PWR_CTRL_REQ, v => decide (0 ≤ v ∧ v ≤ 2)
  | .PWR_TEMP_WARN_LIMIT, v => decide (85 ≤ v ∧ v ≤ 104)
  | .FLD_GPI_W0_MAX_RATE, v => decide (1 ≤ v ∧ v ≤ 1000)
  | .FLD_GPO_CTRL_SOURCE, v => decide (0 ≤ v ∧ v ≤ 1151)
  | .FLD_GPO_CTRL_TARGET, v => decide (0 ≤ v ∧ v ≤ 95)
  | _, _ => true

/-- Highest class each event source can carry (FLT_SRC_CTRL.CLASS, R482, R499): 0 notice, 1 corrected,
2 uncorrected-contained, 3 fatal. -/
def sourceClass (n : Nat) : Nat :=
  if n ∈ [428, 429, 449, 451, 455, 511] then 3
  else if (200 ≤ n ∧ n ≤ 210) ∨ n ∈ [224, 234, 236, 287, 330, 359, 398, 412, 426, 427, 441, 442, 446, 447, 474, 477, 478, 506] then 2
  else if 360 ≤ n ∧ n < 396 then 2
  else if n < 184 then 2
  else if n ∈ [411, 424, 425, 504] then 1
  else 0

/-- Reset value of element `i` of a field on a variant: the field's own, but for the capability registers (R6), the
class of a source (R482), the index fields of a gazetteer entry (R39), the port limit of a CX576 (R164), the mask of the daybreak source
(R378), the bilinear scaler taps (R435) and the tables of the LUTs (R430). -/
def Fld.resetAt (v : Variant) (f : Fld) (i : Nat) : Nat :=
  match f with
  | .GEN_CAP0_CMP | .GEN_CAP0_HEADS | .GEN_CAP0_HBM_STACKS | .GEN_CAP0_DSP_CORES | .GEN_CAP0_FAB_LANES
  | .GEN_CAP0_MEDIA_LANES => bitsAt v.cap0 f.info.lo f.info.w
  | .GEN_CAP1_AUD_CH_K | .GEN_CAP1_IMG_ENC | .GEN_CAP1_FIELD | .GEN_CAP1_TWIN | .GEN_CAP1_PDM
  | .GEN_CAP1_EVAC_AUDIO | .GEN_CAP1_MAX_POS | .GEN_CAP1_FAB_PER_PEER => bitsAt v.cap1 f.info.lo f.info.w
  | .FLT_SRC_CLASS => sourceClass i
  | .GAZ_W0_SKETCH => if 1152 ≤ i then 1 else 0
  | .GAZ_W0_SOURCE => i % 1152
  | .FAB_PORT_LIMIT => if v = .cx576 then 0x05F5E100 else f.info.reset
  | .FLT_SRC_MASK => if i = 355 then 1 else 0
  | .CMP_HEAD_HCOEF =>
    let ph := i % 256 / 8
    if i % 8 = 3 then 256 - 8 * ph else if i % 8 = 4 then 8 * ph else 0
  | .CMP_HEAD_VCOEF =>
    let ph := i % 128 / 4
    if i % 4 = 1 then 256 - 8 * ph else if i % 4 = 2 then 8 * ph else 0
  | .CMP_LUT_PV_EVEN | .CMP_LUT_PG_EVEN => 64 * (2 * (i % 512))
  | .CMP_LUT_PV_ODD | .CMP_LUT_PG_ODD => 64 * (2 * (i % 512) + 1)
  | .CMP_LUT_PO_EVEN => 2 * (i % 2048)
  | .CMP_LUT_PO_ODD => 2 * (i % 2048) + 1
  | _ => f.info.reset


end Sys2Proof.Machine
end

