-- ==== Sys2Proof/Machine/RegMap.lean ====
section
/-!
DEFINITION. The BAR0 register map: which fields stand at which offset (R13, R457 and the block map of each chapter).
-/
namespace Sys2Proof.Machine

/-- One register, or one array of registers of one layout: its offset in the block, the strides and counts of its array
(outermost first), the index of its first element, the unit whose enable bit governs its RWL fields (with the number of
array elements per unit; 0 where the unit is the only one of its kind), and its fields. -/
structure RegDesc where
  off : Nat
  dims : List (Nat × Nat)
  idx0 : Nat
  unit : Option (UnitKind × Nat)
  flds : List Fld
deriving DecidableEq, Repr

/-- Registers at BAR0 offset 0x0. -/
def genumRegs : List RegDesc :=
  [⟨32, [], 0, none, [.GEN_ENUM_POS_VALID, .GEN_ENUM_FAULT, .GEN_ENUM_MGMT_ADDR, .GEN_ENUM_TWIN, .GEN_ENUM_PLANE, .GEN_ENUM_POSITION]⟩]

/-- Registers at BAR0 offset 0x180000. -/
def gazRegs : List RegDesc :=
  [⟨0, [(32, 2304)], 0, none, [.GAZ_W0_VALID, .GAZ_W0_SKETCH, .GAZ_W0_STALE, .GAZ_W0_SOURCE]⟩,
   ⟨4, [(32, 2304)], 0, none, [.GAZ_W1_GENERATION, .GAZ_W1_FORMAT, .GAZ_W1_DEPTH, .GAZ_W1_SCALE]⟩,
   ⟨8, [(32, 2304)], 0, none, [.GAZ_RATE]⟩,
   ⟨12, [(32, 2304)], 0, none, [.GAZ_ANC_RATE]⟩,
   ⟨16, [(32, 2304)], 0, none, [.GAZ_LABEL0]⟩,
   ⟨20, [(32, 2304)], 0, none, [.GAZ_LABEL1]⟩,
   ⟨24, [(32, 2304)], 0, none, [.GAZ_LABEL2]⟩,
   ⟨28, [(32, 2304)], 0, none, [.GAZ_LABEL3]⟩,
   ⟨126976, [], 0, none, [.ATL_GAZ_STAT_FOREIGN_WR, .ATL_GAZ_STAT_STALE, .ATL_GAZ_STAT_MISMATCH]⟩,
   ⟨126980, [], 0, none, [.ATL_GAZ_DIGEST]⟩]

/-- Registers at BAR0 offset 0x0. -/
def genRegs : List RegDesc :=
  [⟨4, [], 0, none, [.GEN_CTRL_UNLOCK, .GEN_CTRL_DEVICE_RESET, .GEN_CTRL_ST_RUN, .GEN_CTRL_REMAP]⟩,
   ⟨16, [], 0, none, [.GEN_CAP0_CMP, .GEN_CAP0_HEADS, .GEN_CAP0_HBM_STACKS, .GEN_CAP0_DSP_CORES, .GEN_CAP0_FAB_LANES, .GEN_CAP0_MEDIA_LANES]⟩,
   ⟨20, [], 0, none, [.GEN_CAP1_AUD_CH_K, .GEN_CAP1_IMG_ENC, .GEN_CAP1_FIELD, .GEN_CAP1_TWIN, .GEN_CAP1_PDM, .GEN_CAP1_EVAC_AUDIO, .GEN_CAP1_MAX_POS, .GEN_CAP1_FAB_PER_PEER]⟩,
   ⟨48, [], 0, none, [.GEN_BOOT_STAT_PHASE, .GEN_BOOT_STAT_SLOT_USED, .GEN_BOOT_STAT_SAFETY_DEFAULT, .GEN_BOOT_STAT_RESULT_A, .GEN_BOOT_STAT_RESULT_B, .GEN_BOOT_STAT_CRC_FAULTS, .GEN_BOOT_STAT_SKIPPED]⟩,
   ⟨52, [], 0, none, [.GEN_BOOT_SEQ]⟩,
   ⟨64, [], 0, none, [.GEN_REFUSE_LOG0_REASON, .GEN_REFUSE_LOG0_WORD]⟩,
   ⟨68, [], 0, none, [.GEN_REFUSE_LOG1_COUNT, .GEN_REFUSE_LOG1_MASTER]⟩,
   ⟨32768, [(16, 512)], 0, none, [.MSIX_ADDR_LO]⟩,
   ⟨32772, [(16, 512)], 0, none, [.MSIX_ADDR_HI]⟩,
   ⟨32776, [(16, 512)], 0, none, [.MSIX_DATA]⟩,
   ⟨32780, [(16, 512)], 0, none, [.MSIX_CONTROL_MASK]⟩,
   ⟨40960, [(4, 16)], 0, none, [.MSIX_PBA]⟩]

/-- Registers at BAR0 offset 0x10000. -/
def cfgRegs : List RegDesc :=
  [⟨0, [], 0, none, [.CFG_NVM_CTRL_CMD]⟩,
   ⟨4, [], 0, none, [.CFG_NVM_ADDR_PAGE]⟩,
   ⟨8, [], 0, none, [.CFG_NVM_STAT_BUSY, .CFG_NVM_STAT_REASON]⟩,
   ⟨12, [], 0, none, [.CFG_PERSIST_STAT_OFF, .CFG_PERSIST_STAT_WRITE_FAULT, .CFG_PERSIST_STAT_DROPPED]⟩,
   ⟨4096, [(4, 64)], 0, none, [.CFG_PAGE_BUF]⟩]

/-- Registers at BAR0 offset 0x100000. -/
def atlRegs : List RegDesc :=
  [⟨0, [], 0, some (.atlas, 0), [.ATL_CTRL_REALIGN, .ATL_CTRL_SLIP_LIMIT, .UNIT_EN]⟩,
   ⟨4, [], 0, some (.atlas, 0), [.CHECK_BUSY, .CHECK_ENABLED, .CHECK_REFUSALS, .CHECK_LAST_REASON]⟩,
   ⟨8, [], 0, none, [.ATL_STAT_MISALIGNED, .ATL_STAT_SALVO_PENDING, .ATL_STAT_SALVO_TAG, .ATL_STAT_SALVO_SLIPS]⟩,
   ⟨16, [], 0, none, [.ATL_COMMIT_SALVO, .ATL_COMMIT_AT_FRAME, .ATL_COMMIT_DEST]⟩,
   ⟨20, [], 0, none, [.ATL_COMMIT_FRAME]⟩,
   ⟨24, [], 0, none, [.ATL_COMMIT_RESULT_BUSY, .ATL_COMMIT_RESULT_TAG, .ATL_COMMIT_RESULT_REASON]⟩,
   ⟨28, [], 0, none, [.ATL_CANCEL_SALVO, .ATL_CANCEL_DEST]⟩,
   ⟨32, [(4, 3)], 0, none, [.ATL_SALVO_MASK]⟩,
   ⟨48, [(4, 3)], 0, none, [.ATL_PENDING]⟩,
   ⟨64, [], 0, none, [.ATL_FRAME_SEL]⟩,
   ⟨68, [], 0, none, [.ATL_FRAME_NOW]⟩,
   ⟨4096, [(16, 96)], 0, none, [.ATL_DRAFT_ARMED, .ATL_DRAFT_AFV, .ATL_DRAFT_SOURCE]⟩,
   ⟨4100, [(16, 96)], 0, none, [.ATL_DRAFT_STAT_REASON, .ATL_DRAFT_STAT_TAG, .ATL_DRAFT_STAT_SLIPS, .ATL_DRAFT_STAT_STATE, .ATL_DRAFT_STAT_SUB, .ATL_DRAFT_STAT_FAB_REASON]⟩,
   ⟨4104, [(16, 96)], 0, none, [.ATL_DRAFT_SPANS]⟩,
   ⟨4108, [(16, 96)], 0, none, []⟩,
   ⟨8192, [(16, 96)], 0, none, [.ATL_LIVE_AFV, .ATL_LIVE_REMOTE, .ATL_LIVE_CODING, .ATL_LIVE_OUT_STATE, .ATL_LIVE_SOURCE]⟩,
   ⟨8196, [(16, 96)], 0, none, [.ATL_LIVE_FRAME]⟩,
   ⟨8200, [(16, 96)], 0, none, [.ATL_LIVE_INFO_TAG, .ATL_LIVE_INFO_WAYPOINT, .ATL_LIVE_INFO_HOME]⟩,
   ⟨8204, [(16, 96)], 0, none, [.ATL_LIVE_LOSS_FRAMES]⟩,
   ⟨12288, [(32, 96)], 0, some (.dest, 1), [.ATL_DEST_CTRL_DEPTH, .ATL_DEST_CTRL_FORMAT, .ATL_DEST_CTRL_LOSS, .UNIT_EN]⟩,
   ⟨12292, [(32, 96)], 0, some (.dest, 1), [.CHECK_BUSY, .CHECK_ENABLED, .CHECK_REFUSALS, .CHECK_LAST_REASON]⟩,
   ⟨12296, [(32, 96)], 0, some (.dest, 1), [.ATL_DEST_ADJ]⟩,
   ⟨12300, [(32, 96)], 0, some (.dest, 1), [.ATL_DEST_HOLD]⟩,
   ⟨12304, [(32, 96)], 0, some (.dest, 1), [.ATL_DEST_STAT_LOST, .ATL_DEST_STAT_FORMAT_LOST, .ATL_DEST_STAT_LOSS_COUNT]⟩,
   ⟨16384, [(32, 96)], 0, some (.input, 1), [.UNIT_EN]⟩,
   ⟨16388, [(32, 96)], 0, some (.input, 1), [.CHECK_BUSY, .CHECK_ENABLED, .CHECK_REFUSALS, .CHECK_LAST_REASON]⟩,
   ⟨16392, [(32, 96)], 0, some (.input, 1), [.ATL_IN_STAT_LOST, .ATL_IN_STAT_FMT_ERR, .ATL_IN_STAT_STORE_SHORT, .ATL_IN_STAT_PHASE]⟩,
   ⟨16396, [(32, 96)], 0, some (.input, 1), [.ATL_IN_COUNT_REPEATS, .ATL_IN_COUNT_DROPS]⟩]

/-- Registers at BAR0 offset 0x200000. -/
def fabRegs : List RegDesc :=
  [⟨0, [], 0, some (.fabric, 0), [.FAB_CTRL_WP_TRIES, .FAB_CTRL_REVERT, .FAB_CTRL_ORDER, .UNIT_EN]⟩,
   ⟨4, [], 0, some (.fabric, 0), [.CHECK_BUSY, .CHECK_ENABLED, .CHECK_REFUSALS, .CHECK_LAST_REASON]⟩,
   ⟨8, [], 0, none, [.FAB_STAT_DEGRADED, .FAB_STAT_UP]⟩,
   ⟨12, [], 0, some (.fabric, 0), [.FAB_POS_MASK_POSITIONS]⟩,
   ⟨16, [], 0, none, [.FAB_PEER_LOST]⟩,
   ⟨20, [], 0, none, [.FAB_PEER_EVENT]⟩,
   ⟨4096, [(64, 11)], 0, none, [.FAB_PORT_LIMIT]⟩,
   ⟨4100, [(64, 11)], 0, none, [.FAB_PORT_STAT_UP, .FAB_PORT_STAT_LOST, .FAB_PORT_STAT_WIRING, .FAB_PORT_STAT_UNFITTED, .FAB_PORT_STAT_LANES_UP, .FAB_PORT_STAT_PEER_POS, .FAB_PORT_STAT_PEER_PLANE, .FAB_PORT_STAT_PEER_TWIN, .FAB_PORT_STAT_PEER_CLASS]⟩,
   ⟨4104, [(64, 11)], 0, none, [.FAB_PORT_TX_LOAD]⟩,
   ⟨4108, [(64, 11)], 0, none, [.FAB_PORT_CEILING]⟩,
   ⟨4112, [(64, 11)], 0, none, [.FAB_PORT_RX_LOAD]⟩,
   ⟨4116, [(64, 11)], 0, none, [.FAB_PORT_BAD]⟩,
   ⟨4120, [(64, 11)], 0, none, [.FAB_PORT_LATE]⟩,
   ⟨8192, [(4, 96)], 0, none, [.FAB_DEST_POLICY_MAX_CODING]⟩,
   ⟨16384, [(16, 1024)], 0, none, [.FAB_RX0_VALID, .FAB_RX0_SKETCH, .FAB_RX0_CODING, .FAB_RX0_WAYPOINT, .FAB_RX0_HOME, .FAB_RX0_STATE, .FAB_RX0_SOURCE]⟩,
   ⟨16388, [(16, 1024)], 0, none, [.FAB_RX1_REASON, .FAB_RX1_USERS, .FAB_RX1_SPANS]⟩,
   ⟨16392, [(16, 1024)], 0, none, [.FAB_RX2_COST]⟩,
   ⟨16396, [(16, 1024)], 0, none, [.FAB_RX3_MISSING, .FAB_RX3_MIGRATIONS]⟩,
   ⟨32768, [(16, 4096)], 0, none, [.FAB_TX0_VALID, .FAB_TX0_SKETCH, .FAB_TX0_CODING, .FAB_TX0_PORT, .FAB_TX0_DEST, .FAB_TX0_WAYPOINT, .FAB_TX0_SOURCE]⟩,
   ⟨32772, [(16, 4096)], 0, none, [.FAB_TX1_COST]⟩,
   ⟨32776, [(16, 4096)], 0, none, [.FAB_TX2_START]⟩,
   ⟨32780, [(16, 4096)], 0, none, [.FAB_TX3_ORDER_NO]⟩,
   ⟨98304, [(16, 1024)], 0, none, [.FAB_WP0_VALID, .FAB_WP0_SKETCH, .FAB_WP0_CODING, .FAB_WP0_IN_PORT, .FAB_WP0_OUT_PORT, .FAB_WP0_HOME, .FAB_WP0_DEST, .FAB_WP0_SOURCE]⟩,
   ⟨98308, [(16, 1024)], 0, none, [.FAB_WP1_COST]⟩,
   ⟨98312, [(16, 1024)], 0, none, [.FAB_WP2_CELLS]⟩,
   ⟨98316, [(16, 1024)], 0, none, []⟩]

/-- Registers at BAR0 offset 0x280000. -/
def mzcRegs : List RegDesc :=
  [⟨0, [], 0, some (.mzc, 0), [.MZC_CTRL_COARSE, .UNIT_EN]⟩,
   ⟨4, [], 0, some (.mzc, 0), [.CHECK_BUSY, .CHECK_ENABLED, .CHECK_REFUSALS, .CHECK_LAST_REASON]⟩,
   ⟨8, [], 0, none, [.MZC_STAT_DEC_STREAMS, .MZC_STAT_ENC_STREAMS]⟩,
   ⟨12, [], 0, none, [.MZC_ALARM_INEXACT_LIMIT]⟩,
   ⟨16, [], 0, none, [.MZC_REFINE_DROP_CELLS]⟩,
   ⟨20, [], 0, none, [.MZC_REFINE_LATE_CELLS]⟩,
   ⟨4096, [(64, 192)], 0, none, [.MZC_ENC_FRAME]⟩,
   ⟨4100, [(64, 192)], 0, none, [.MZC_ENC_INEXACT]⟩,
   ⟨4104, [(64, 192)], 0, none, [.MZC_ENC_MAX_ERR]⟩,
   ⟨4108, [(64, 192)], 0, none, [.MZC_ENC_TOTAL]⟩,
   ⟨4112, [(64, 192), (4, 8)], 0, none, [.MZC_ENC_HIST]⟩,
   ⟨4144, [(64, 192), (4, 4)], 0, none, []⟩,
   ⟨16384, [(16, 96)], 0, none, [.MZC_DEST_STAT0_LAST_REASON, .MZC_DEST_STAT0_CODING, .MZC_DEST_STAT0_MAX_ERR]⟩,
   ⟨16388, [(16, 96)], 0, none, [.MZC_DEST_INEXACT]⟩,
   ⟨16392, [(16, 96)], 0, none, [.MZC_DEST_FRAME]⟩,
   ⟨16396, [(16, 96)], 0, none, [.MZC_DEST_STAT3_ALARMS, .MZC_DEST_STAT3_COARSE_BLOCKS]⟩,
   ⟨32768, [(64, 1024)], 0, none, [.MZC_DEC_FRAME]⟩,
   ⟨32772, [(64, 1024)], 0, none, [.MZC_DEC_INEXACT]⟩,
   ⟨32776, [(64, 1024)], 0, none, [.MZC_DEC_MAX_ERR]⟩,
   ⟨32780, [(64, 1024)], 0, none, [.MZC_DEC_COARSE_BLOCKS]⟩,
   ⟨32784, [(64, 1024), (4, 8)], 0, none, [.MZC_DEC_HIST]⟩,
   ⟨32816, [(64, 1024)], 0, none, [.MZC_DEC_MISSING]⟩,
   ⟨32820, [(64, 1024)], 0, none, [.MZC_DEC_LAST_REASON]⟩,
   ⟨32824, [(64, 1024), (4, 2)], 0, none, []⟩]

/-- Registers at BAR0 offset 0x300000. -/
def lanRegs : List RegDesc :=
  [⟨0, [(2048, 96)], 0, some (.lane, 1), [.LAN_CTRL_RX_MODE, .LAN_CTRL_TX_MODE, .UNIT_EN]⟩,
   ⟨4, [(2048, 184)], 0, some (.lane, 1), [.CHECK_BUSY, .CHECK_ENABLED, .CHECK_REFUSALS, .CHECK_LAST_REASON]⟩,
   ⟨8, [(2048, 96)], 0, some (.lane, 1), [.LAN_BIND_RX_QUAD, .LAN_BIND_RX_KIND, .LAN_BIND_RX_TARGET, .LAN_BIND_TX_QUAD, .LAN_BIND_TX_KIND, .LAN_BIND_TX_TARGET]⟩,
   ⟨196608, [(2048, 88)], 96, some (.lane, 1), [.LANF_CTRL_RX_MODE, .LANF_CTRL_TX_MODE, .UNIT_EN]⟩,
   ⟨196616, [(2048, 88)], 0, none, []⟩,
   ⟨16, [(2048, 184)], 0, some (.lane, 1), [.LAN_STAT_LOS, .LAN_STAT_LOCK, .LAN_STAT_TX_ACTIVE, .LAN_STAT_TX_PLL_LOCK, .LAN_STAT_QUAD_SKEW, .LAN_STAT_TEST_ACTIVE, .LAN_STAT_FREQ]⟩,
   ⟨20, [(2048, 184)], 0, some (.lane, 1), [.LAN_EVT]⟩,
   ⟨24, [(2048, 184)], 0, some (.lane, 1), [.LAN_EVT_EN]⟩,
   ⟨32, [(2048, 184)], 0, some (.lane, 1), [.LAN_CRC_ERR]⟩,
   ⟨36, [(2048, 184)], 0, some (.lane, 1), [.LAN_FEC_COR]⟩,
   ⟨40, [(2048, 184)], 0, some (.lane, 1), [.LAN_ECC_COR]⟩,
   ⟨44, [(2048, 184)], 0, some (.lane, 1), [.LAN_RXQ_DROP]⟩,
   ⟨48, [(2048, 184)], 0, some (.lane, 1), [.LAN_EQ_CTLE, .LAN_EQ_PRE, .LAN_EQ_MAIN, .LAN_EQ_POST, .LAN_EQ_SWING, .LAN_EQ_RX_INV, .LAN_EQ_TX_INV]⟩,
   ⟨64, [(2048, 184)], 0, some (.lane, 1), [.LAN_TEST_PRBS_LOCK, .LAN_TEST_LOOP, .LAN_TEST_PRBS_TX, .LAN_TEST_PRBS_RX]⟩,
   ⟨68, [(2048, 184)], 0, some (.lane, 1), [.LAN_PRBS_ERR]⟩,
   ⟨393216, [], 0, none, [.LAN_EQ_INFO_ENTRIES, .LAN_EQ_INFO_DUPLICATES, .LAN_EQ_INFO_INVALID]⟩,
   ⟨393472, [(4, 24)], 0, none, [.LAN_QUAD_STAT_PLL_LOCK, .LAN_QUAD_STAT_FAMILY, .LAN_QUAD_STAT_TX_LANES]⟩,
   ⟨393728, [(4, 22)], 24, none, [.LAN_QUAD_STAT_PLL_LOCK, .LAN_QUAD_STAT_FAMILY, .LAN_QUAD_STAT_TX_LANES]⟩]

/-- Registers at BAR0 offset 0x400000. -/
def pktRegs : List RegDesc :=
  [⟨0, [], 0, some (.pkt, 0), [.UNIT_EN]⟩,
   ⟨4, [], 0, some (.pkt, 0), [.CHECK_BUSY, .CHECK_ENABLED, .CHECK_REFUSALS, .CHECK_LAST_REASON]⟩,
   ⟨8, [], 0, none, [.PKT_Q_ECC_COR]⟩,
   ⟨12, [], 0, none, [.PKT_Q_ECC_UNCOR]⟩,
   ⟨16, [], 0, none, [.PKT_Q_PEND_SUM]⟩,
   ⟨4096, [(4, 2048)], 0, none, [.PKT_Q_PENDING]⟩,
   ⟨65536, [(1024, 96)], 0, some (.mac, 1), [.PKT_MAC_CTRL_MAX_FRAME, .PKT_MAC_CTRL_PFC_EN, .PKT_MAC_CTRL_PAUSE_RX_EN, .PKT_MAC_CTRL_MC_TO_SWQ, .UNIT_EN]⟩,
   ⟨65540, [(1024, 96)], 0, some (.mac, 1), [.CHECK_BUSY, .CHECK_ENABLED, .CHECK_REFUSALS, .CHECK_LAST_REASON]⟩,
   ⟨65544, [(1024, 96)], 0, some (.mac, 1), [.PKT_MAC_ADDR_LO]⟩,
   ⟨65548, [(1024, 96)], 0, some (.mac, 1), [.PKT_MAC_ADDR_HI]⟩,
   ⟨65552, [(1024, 96)], 0, some (.mac, 1), [.PKT_MAC_IPV4]⟩,
   ⟨65556, [(1024, 96)], 0, some (.mac, 1), [.PKT_MAC_SWQ_EN, .PKT_MAC_SWQ_QUEUE]⟩,
   ⟨65560, [(1024, 96)], 0, some (.mac, 1), [.PKT_MAC_STAT_LINK, .PKT_MAC_STAT_PAUSED, .PKT_MAC_STAT_PFC_PAUSED]⟩,
   ⟨65564, [(1024, 96)], 0, some (.mac, 1), [.PKT_MAC_EVT]⟩,
   ⟨65568, [(1024, 96)], 0, some (.mac, 1), [.PKT_MAC_EVT_EN]⟩,
   ⟨65584, [(1024, 96)], 0, none, [.PKT_MAC_RX_FRAMES]⟩,
   ⟨65588, [(1024, 96)], 0, none, [.PKT_MAC_RX_FCS_ERR]⟩,
   ⟨65592, [(1024, 96)], 0, none, [.PKT_MAC_RX_DROP]⟩,
   ⟨65596, [(1024, 96)], 0, none, [.PKT_MAC_TX_FRAMES]⟩,
   ⟨65600, [(1024, 96)], 0, none, [.PKT_MAC_TX_ABORT]⟩,
   ⟨65604, [(1024, 96)], 0, none, [.PKT_MAC_PAUSE_RX]⟩,
   ⟨65608, [(1024, 96)], 0, none, [.PKT_MAC_PFC_RX]⟩,
   ⟨65612, [(1024, 96)], 0, none, [.PKT_MAC_GATE_DROP]⟩,
   ⟨65792, [(1024, 96)], 0, some (.gcl, 1), [.PKT_GCL_CTRL_TB, .PKT_GCL_CTRL_LIST_LEN, .PKT_GCL_CTRL_CHANGE, .UNIT_EN]⟩,
   ⟨65796, [(1024, 96)], 0, some (.gcl, 1), [.CHECK_BUSY, .CHECK_ENABLED, .CHECK_REFUSALS, .CHECK_LAST_REASON]⟩,
   ⟨65800, [(1024, 96)], 0, none, [.PKT_GCL_CYCLE_NUM]⟩,
   ⟨65804, [(1024, 96)], 0, none, [.PKT_GCL_CYCLE_DEN]⟩,
   ⟨65808, [(1024, 96)], 0, none, [.PKT_GCL_BASE_NS]⟩,
   ⟨65812, [(1024, 96)], 0, none, [.PKT_GCL_BASE_SEC]⟩,
   ⟨65816, [(1024, 96)], 0, none, [.PKT_GCL_BASE_SEC_HI]⟩,
   ⟨65820, [(1024, 96)], 0, none, [.PKT_GCL_EXT]⟩,
   ⟨65824, [(1024, 96)], 0, none, [.PKT_GCL_STAT_PENDING, .PKT_GCL_STAT_RUNNING, .PKT_GCL_STAT_ENTRY]⟩,
   ⟨163840, [(32, 2048)], 0, some (.tx, 1), [.PKT_TX_KIND, .PKT_TX_TWIN_SEAMLESS, .PKT_TX_DUAL, .PKT_TX_NL, .PKT_TX_TC, .UNIT_EN]⟩,
   ⟨163844, [(32, 2048)], 0, some (.tx, 1), [.CHECK_BUSY, .CHECK_ENABLED, .CHECK_REFUSALS, .CHECK_LAST_REASON]⟩,
   ⟨163848, [(32, 2048)], 0, some (.tx, 1), [.PKT_TX_MAC_A, .PKT_TX_MAC_B, .PKT_TX_TARGET]⟩,
   ⟨163852, [(32, 2048)], 0, some (.tx, 1), [.PKT_TX_PKTS_PER_FRAME, .PKT_TX_MAX_PAYLOAD]⟩,
   ⟨163856, [(32, 2048)], 0, none, [.PKT_TX_SENT]⟩,
   ⟨163860, [(32, 2048)], 0, none, [.PKT_TX_LATE]⟩,
   ⟨163864, [(32, 2048)], 0, none, [.PKT_TX_SENDING]⟩,
   ⟨163868, [(32, 2048)], 0, none, []⟩] ++
  [⟨229376, [(32, 2048)], 0, some (.rx, 1), [.PKT_RX_KIND, .PKT_RX_MERGE, .PKT_RX_SRC_MATCH, .UNIT_EN]⟩,
   ⟨229380, [(32, 2048)], 0, some (.rx, 1), [.CHECK_BUSY, .CHECK_ENABLED, .CHECK_REFUSALS, .CHECK_LAST_REASON]⟩,
   ⟨229384, [(32, 2048)], 0, some (.rx, 1), [.PKT_RX_MAC, .PKT_RX_TARGET]⟩,
   ⟨229388, [(32, 2048)], 0, some (.rx, 1), [.PKT_RX_DST_IP]⟩,
   ⟨229392, [(32, 2048)], 0, some (.rx, 1), [.PKT_RX_DST_PORT, .PKT_RX_MERGE_US]⟩,
   ⟨229396, [(32, 2048)], 0, some (.rx, 1), [.PKT_RX_SRC_IP]⟩,
   ⟨229400, [(32, 2048)], 0, some (.rx, 1), [.PKT_RX_LOST, .PKT_RX_LEG_LOST, .PKT_RX_PARTNER]⟩,
   ⟨229404, [(32, 2048)], 0, none, [.PKT_RX_COUNT_GAPS, .PKT_RX_COUNT_LATE, .PKT_RX_COUNT_CLAMPED]⟩,
   ⟨294912, [(4, 65536)], 0, none, [.PKT_TPL]⟩,
   ⟨557056, [(8192, 96), (8, 1024)], 0, none, [.PKT_GATE_GATES]⟩,
   ⟨557060, [(8192, 96), (8, 1024)], 0, none, [.PKT_GATE_INTERVAL]⟩,
   ⟨2097152, [(32, 65536)], 0, some (.queue, 1), [.PKT_Q_BASE_LO]⟩,
   ⟨2097156, [(32, 65536)], 0, some (.queue, 1), [.PKT_Q_PROD_AGENT, .PKT_Q_CONS_AGENT, .PKT_Q_LOG2_SIZE, .PKT_Q_BASE_HI]⟩,
   ⟨2097160, [(32, 65536)], 0, none, [.PKT_Q_PTR_GEN, .PKT_Q_PTR_PROD]⟩,
   ⟨2097164, [(32, 65536)], 0, none, [.PKT_Q_PTR_GEN, .PKT_Q_PTR_CONS]⟩,
   ⟨2097168, [(32, 65536)], 0, some (.queue, 1), [.PKT_Q_WMARK, .PKT_Q_FLUSH, .PKT_Q_EVT_EN, .UNIT_EN]⟩,
   ⟨2097172, [(32, 65536)], 0, some (.queue, 1), [.CHECK_BUSY, .CHECK_ENABLED, .CHECK_REFUSALS, .CHECK_LAST_REASON]⟩,
   ⟨2097176, [(32, 65536)], 0, none, [.PKT_Q_STAT_FLUSHING, .PKT_Q_STAT_WMARK_C, .PKT_Q_STAT_FLUSHED, .PKT_Q_STAT_UNCOR_C, .PKT_Q_STAT_OCCUPANCY]⟩,
   ⟨2097180, [(32, 65536)], 0, none, [.PKT_QW_COR, .PKT_QW_UNCOR, .PKT_QW_DROPS]⟩]

/-- Registers at BAR0 offset 0x800000. -/
def timRegs : List RegDesc :=
  [⟨0, [(256, 8)], 0, some (.tb, 1), [.UNIT_EN]⟩,
   ⟨4, [(256, 8)], 0, some (.tb, 1), [.CHECK_BUSY, .CHECK_ENABLED, .CHECK_REFUSALS, .CHECK_LAST_REASON]⟩,
   ⟨8, [(256, 8)], 0, none, [.TIM_TB_INC_LO]⟩,
   ⟨12, [(256, 8)], 0, none, [.TIM_TB_INC_HI]⟩,
   ⟨16, [(256, 8)], 0, none, [.TIM_TB_CMD_DISARM, .TIM_TB_CMD_ARM, .TIM_TB_CMD_SET, .TIM_TB_CMD_STEP]⟩,
   ⟨20, [(256, 8)], 0, none, [.TIM_TB_ADJ_NS]⟩,
   ⟨24, [(256, 8)], 0, none, [.TIM_TB_ADJ_SEC_LO]⟩,
   ⟨28, [(256, 8)], 0, none, [.TIM_TB_ADJ_SEC_HI]⟩,
   ⟨32, [(256, 8)], 0, none, [.TIM_TB_NOW_FRAC_FRAC]⟩,
   ⟨36, [(256, 8)], 0, none, [.TIM_TB_NOW_NS]⟩,
   ⟨40, [(256, 8)], 0, none, [.TIM_TB_NOW_SEC_LO]⟩,
   ⟨44, [(256, 8)], 0, none, [.TIM_TB_NOW_SEC_HI]⟩,
   ⟨48, [(256, 8)], 0, none, [.TIM_TB_ALARM_NS]⟩,
   ⟨52, [(256, 8)], 0, none, [.TIM_TB_ALARM_SEC_LO]⟩,
   ⟨56, [(256, 8)], 0, none, [.TIM_TB_ALARM_SEC_HI]⟩,
   ⟨60, [(256, 8)], 0, none, [.TIM_TB_EVT]⟩,
   ⟨64, [(256, 8)], 0, none, [.TIM_TB_EVT_EN]⟩,
   ⟨68, [(256, 8)], 0, none, [.TIM_TB_STAT_RUNNING, .TIM_TB_STAT_ARMED, .TIM_TB_STAT_STEPS]⟩,
   ⟨4096, [], 0, none, [.TIM_SNAP_CMD_CAPTURE]⟩,
   ⟨4104, [], 0, none, [.TIM_SNAP_TICKS_LO]⟩,
   ⟨4108, [], 0, none, [.TIM_SNAP_TICKS_HI]⟩,
   ⟨4352, [(16, 8)], 0, none, [.TIM_SNAP_FRAC_FRAC, .TIM_SNAP_FRAC_VALID]⟩,
   ⟨4356, [(16, 8)], 0, none, [.TIM_SNAP_NS]⟩,
   ⟨4360, [(16, 8)], 0, none, [.TIM_SNAP_SEC_LO]⟩,
   ⟨4364, [(16, 8)], 0, none, [.TIM_SNAP_SEC_HI]⟩,
   ⟨8192, [(16, 96)], 0, none, [.TIM_MAC_CTRL_PTPQ_EN, .TIM_MAC_CTRL_TB, .TIM_MAC_CTRL_PTPQ]⟩,
   ⟨8196, [(16, 96)], 0, none, [.TIM_MAC_TX_ADJ]⟩,
   ⟨8200, [(16, 96)], 0, none, [.TIM_MAC_RX_ADJ]⟩,
   ⟨8204, [(16, 96)], 0, none, [.TIM_MAC_LAUNCH_HORIZON_MS, .TIM_MAC_LAUNCH_LATE_US]⟩,
   ⟨12288, [(4, 8)], 0, none, [.TIM_DOMAIN_EN, .TIM_DOMAIN_TB, .TIM_DOMAIN_DOMAIN]⟩,
   ⟨16384, [(64, 16)], 0, some (.cap, 1), [.TIM_CAP_CTRL_EDGE, .TIM_CAP_CTRL_TB, .TIM_CAP_CTRL_LANE, .UNIT_EN]⟩,
   ⟨16388, [(64, 16)], 0, some (.cap, 1), [.CHECK_BUSY, .CHECK_ENABLED, .CHECK_REFUSALS, .CHECK_LAST_REASON]⟩,
   ⟨16392, [(64, 16)], 0, some (.cap, 1), [.TIM_CAP_DIV]⟩,
   ⟨16396, [(64, 16)], 0, none, [.TIM_CAP_HEAD_VALID, .TIM_CAP_HEAD_OVERRUN, .TIM_CAP_HEAD_RISING, .TIM_CAP_HEAD_STEPPED, .TIM_CAP_HEAD_DEPTH, .TIM_CAP_HEAD_SEC_HI]⟩,
   ⟨16400, [(64, 16)], 0, none, [.TIM_CAP_SEC]⟩,
   ⟨16404, [(64, 16)], 0, none, [.TIM_CAP_NS]⟩,
   ⟨16408, [(64, 16)], 0, none, [.TIM_CAP_FRAC_FRAC]⟩,
   ⟨16412, [(64, 16)], 0, none, [.TIM_CAP_LOST]⟩]

/-- Registers at BAR0 offset 0x840000. -/
def refRegs : List RegDesc :=
  [⟨0, [], 0, some (.ref, 0), [.REF_CTRL_FORCE_EN, .REF_CTRL_FORCE_CAND, .REF_CTRL_BW, .REF_CTRL_FAST_ACQ, .REF_CTRL_LEARN, .UNIT_EN]⟩,
   ⟨4, [], 0, some (.ref, 0), [.CHECK_BUSY, .CHECK_ENABLED, .CHECK_REFUSALS, .CHECK_LAST_REASON]⟩,
   ⟨8, [], 0, none, [.REF_SEL_STATE_STATE, .REF_SEL_STATE_SLEWING, .REF_SEL_STATE_SELECTED, .REF_SEL_STATE_CAUSE, .REF_SEL_STATE_INC0_DEV, .REF_SEL_STATE_RATE_CLAMP, .REF_SEL_STATE_HOLD_MIN]⟩,
   ⟨16, [], 0, none, [.REF_LIMITS_DISQ, .REF_LIMITS_WARN]⟩,
   ⟨20, [], 0, none, [.REF_QUAL_QUAL, .REF_QUAL_MUTUAL]⟩,
   ⟨24, [], 0, none, [.REF_DRIFT_DRIFT, .REF_DRIFT_DRIFT_HOLD]⟩,
   ⟨28, [], 0, none, [.REF_SLOPE_SLOPE, .REF_SLOPE_HOLD_LIMIT]⟩,
   ⟨64, [], 0, none, [.REF_MODEL_Y]⟩,
   ⟨68, [], 0, none, [.REF_MODEL_AGE]⟩,
   ⟨72, [], 0, none, [.REF_TEMP_TEMP_FAULT, .REF_TEMP_TEMP]⟩,
   ⟨76, [], 0, none, [.REF_CORR]⟩,
   ⟨80, [], 0, none, [.REF_MODEL_STAT_VALID, .REF_MODEL_STAT_LEARNED, .REF_MODEL_STAT_RANGE, .REF_MODEL_STAT_FROM_RING, .REF_MODEL_STAT_DAYS]⟩,
   ⟨96, [], 0, none, [.REF_SW_VALID]⟩,
   ⟨100, [], 0, none, [.REF_SW_MOVED]⟩,
   ⟨256, [(32, 16)], 0, none, [.REF_CAND_EN, .REF_CAND_REVERTIVE, .REF_CAND_LOCKED, .REF_CAND_PRIORITY, .REF_CAND_KIND, .REF_CAND_FORMAT, .REF_CAND_LANE]⟩,
   ⟨260, [(32, 16)], 0, none, [.REF_CAND1_CSTATE, .REF_CAND1_DRIFTING, .REF_CAND1_QUAL_LEFT]⟩,
   ⟨264, [(32, 16)], 0, none, [.REF_CAND_OFFSET]⟩,
   ⟨268, [(32, 16)], 0, none, [.REF_CAND_DRIFT]⟩,
   ⟨272, [(32, 16)], 0, none, [.REF_CAND4_DISQ_COUNT]⟩,
   ⟨276, [(32, 16), (4, 3)], 0, none, []⟩]

/-- Registers at BAR0 offset 0x900000. -/
def audRegs : List RegDesc :=
  [⟨0, [], 0, some (.aud, 0), [.AUD_CTRL_WAIT_MS, .AUD_CTRL_ALIGN_LOCAL, .AUD_CTRL_FS, .UNIT_EN]⟩,
   ⟨4, [], 0, some (.aud, 0), [.CHECK_BUSY, .CHECK_ENABLED, .CHECK_REFUSALS, .CHECK_LAST_REASON]⟩,
   ⟨8, [], 0, none, [.AUD_STAT_COMMIT_PENDING, .AUD_STAT_RX_GROUPS, .AUD_STAT_DAYBREAKS]⟩,
   ⟨16, [], 0, none, [.AUD_COMMIT_RANGE_FIRST, .AUD_COMMIT_RANGE_COUNT]⟩,
   ⟨20, [], 0, none, [.AUD_COMMIT_GO, .AUD_COMMIT_CANCEL, .AUD_COMMIT_AT_MERIDIAN, .AUD_COMMIT_FORMAT]⟩,
   ⟨24, [], 0, none, [.AUD_COMMIT_RESULT_BUSY, .AUD_COMMIT_RESULT_PENDING, .AUD_COMMIT_RESULT_TAG, .AUD_COMMIT_RESULT_REASON, .AUD_COMMIT_RESULT_WAITED]⟩,
   ⟨32, [], 0, none, [.AUD_DAYBREAK_SRC, .AUD_DAYBREAK_EDGE, .AUD_DAYBREAK_PERIOD_MS]⟩,
   ⟨36, [], 0, none, [.AUD_DAYBREAK_LAST]⟩,
   ⟨48, [], 0, none, [.AUD_EVAC_ACTIVE, .AUD_EVAC_DEFAULT, .AUD_EVAC_CLIP_FAULT, .AUD_EVAC_DESIGNATED_LOST, .AUD_EVAC_VENUE_COUNT]⟩,
   ⟨256, [(8, 128)], 0, none, [.AUD_RXG0_VALID, .AUD_RXG0_STATE, .AUD_RXG0_LOST, .AUD_RXG0_HOME, .AUD_RXG0_REASON, .AUD_RXG0_SPANS, .AUD_RXG0_GROUP]⟩,
   ⟨260, [(8, 128)], 0, none, [.AUD_RXG_MISSING]⟩,
   ⟨65536, [(4, 16384)], 0, none, [.AUD_DRAFT_SOURCE]⟩,
   ⟨131072, [(4, 16384)], 0, none, [.AUD_LIVE_REMOTE, .AUD_LIVE_MISSING, .AUD_LIVE_EVAC, .AUD_LIVE_SOURCE]⟩,
   ⟨196608, [(8, 16384)], 0, none, [.AUD_OUT0_CLIPPED, .AUD_OUT0_VENUE, .AUD_OUT0_GAIN]⟩,
   ⟨196612, [(8, 16384)], 0, none, [.AUD_OUT1_GAIN_LIMIT, .AUD_OUT1_CEILING]⟩,
   ⟨393216, [(64, 784)], 0, some (.port, 1), [.AUD_PORT_CTRL_IN_EN, .AUD_PORT_CTRL_OUT_EN, .AUD_PORT_CTRL_MASTER, .AUD_PORT_CTRL_RAMP, .AUD_PORT_CTRL_META, .AUD_PORT_CTRL_ASRC, .AUD_PORT_CTRL_SETTING, .UNIT_EN]⟩,
   ⟨393220, [(64, 784)], 0, some (.port, 1), [.CHECK_BUSY, .CHECK_ENABLED, .CHECK_REFUSALS, .CHECK_LAST_REASON]⟩,
   ⟨393224, [(64, 784)], 0, some (.port, 1), [.AUD_PORT_CHAN_IN_BASE, .AUD_PORT_CHAN_OUT_BASE]⟩,
   ⟨393228, [(64, 784)], 0, some (.port, 1), [.AUD_PORT_MASK_IN]⟩,
   ⟨393232, [(64, 784)], 0, some (.port, 1), [.AUD_PORT_MASK_OUT]⟩,
   ⟨393236, [(64, 784)], 0, some (.port, 1), [.AUD_PORT_STAT_STATE, .AUD_PORT_STAT_RATE_ERR, .AUD_PORT_STAT_DOMAIN_ERR, .AUD_PORT_STAT_HELD, .AUD_PORT_STAT_CLK_PRESENT, .AUD_PORT_STAT_FMT_ERR, .AUD_PORT_STAT_FREQ]⟩,
   ⟨393240, [(64, 784)], 0, some (.port, 1), [.AUD_PORT_EVT]⟩,
   ⟨393244, [(64, 784)], 0, some (.port, 1), [.AUD_PORT_EVT_EN]⟩,
   ⟨393248, [(64, 784)], 0, some (.port, 1), [.AUD_PORT_UNDERRUNS]⟩,
   ⟨393252, [(64, 784)], 0, some (.port, 1), [.AUD_PORT_OVERRUNS]⟩,
   ⟨393256, [(64, 784)], 0, some (.port, 1), [.AUD_PORT_SLIPS]⟩,
   ⟨393260, [(64, 784)], 0, some (.port, 1), [.AUD_PORT_GLITCHES]⟩,
   ⟨393264, [(64, 784)], 0, some (.port, 1), [.AUD_PORT_QUEUE]⟩,
   ⟨393268, [(64, 784)], 0, some (.port, 1), [.AUD_PORT_PLAYOUT]⟩]

/-- Registers at BAR0 offset 0xa00000. -/
def dspRegs : List RegDesc :=
  [⟨196608, [(262144, 32)], 0, some (.dsp, 1), [.DSP_CORE_CTRL_Q_IRQ, .DSP_CORE_CTRL_DB_IRQ, .DSP_CORE_CTRL_BLOCK, .DSP_CORE_CTRL_MODE, .UNIT_EN]⟩,
   ⟨196612, [(262144, 32)], 0, some (.dsp, 1), [.CHECK_BUSY, .CHECK_ENABLED, .CHECK_REFUSALS, .CHECK_LAST_REASON]⟩,
   ⟨196616, [(262144, 32)], 0, none, [.DSP_CORE_STAT_STATE, .DSP_CORE_STAT_FAULT, .DSP_CORE_STAT_TRAP_CODE, .DSP_CORE_STAT_PC]⟩,
   ⟨196620, [(262144, 32)], 0, none, [.DSP_CORE_EVT]⟩,
   ⟨196624, [(262144, 32)], 0, none, [.DSP_CORE_EVT_EN]⟩,
   ⟨196628, [(262144, 32)], 0, none, [.DSP_CORE_DOORBELL_RING]⟩,
   ⟨196632, [(262144, 32)], 0, none, [.DSP_CORE_MBOX_IN]⟩,
   ⟨196636, [(262144, 32)], 0, none, [.DSP_CORE_MBOX_OUT]⟩,
   ⟨196640, [(262144, 32)], 0, some (.dsp, 1), [.DSP_XCH_TAP_TAP_BASE, .DSP_XCH_TAP_TAP_COUNT]⟩,
   ⟨196644, [(262144, 32)], 0, some (.dsp, 1), [.DSP_XCH_RET_RET_BASE, .DSP_XCH_RET_RET_COUNT]⟩,
   ⟨196648, [(262144, 32)], 0, some (.dsp, 1), [.DSP_XCH_BUF_X_TAP, .DSP_XCH_BUF_Y_RET]⟩,
   ⟨196652, [(262144, 32), (8, 2)], 0, some (.dsp, 2), [.DSP_QIN_EN, .DSP_QIN_QUEUE]⟩,
   ⟨196656, [(262144, 32), (8, 2)], 0, some (.dsp, 2), [.DSP_QIN_RING_LOG2, .DSP_QIN_RING_BASE]⟩,
   ⟨196672, [(262144, 32)], 0, none, [.DSP_BLK_STAT_LATE, .DSP_BLK_STAT_SKIPPED]⟩,
   ⟨196676, [(262144, 32)], 0, none, [.DSP_CORE_ECC_COR, .DSP_CORE_ECC_UNCOR]⟩,
   ⟨196680, [(262144, 32)], 0, none, [.DSP_CORE_LOAD_MAX_CYCLES]⟩,
   ⟨196684, [(262144, 32)], 0, none, [.DSP_QIN_DROP_Q1, .DSP_QIN_DROP_Q0]⟩]

/-- Registers at BAR0 offset 0x1200000. -/
def cmpRegs : List RegDesc :=
  [⟨0, [], 0, some (.cmp, 0), [.UNIT_EN]⟩,
   ⟨4, [], 0, some (.cmp, 0), [.CHECK_BUSY, .CHECK_ENABLED, .CHECK_REFUSALS, .CHECK_LAST_REASON]⟩,
   ⟨8, [], 0, none, [.CMP_LEGEND_STAT_ACTIVE, .CMP_LEGEND_STAT_DEFAULT, .CMP_LEGEND_STAT_FAULT, .CMP_LEGEND_STAT_VERSION]⟩,
   ⟨524288, [(131072, 4)], 0, some (.head, 1), [.CMP_HEAD_CTRL_FORMAT, .CMP_HEAD_CTRL_DEPTH, .CMP_HEAD_CTRL_FENCED, .CMP_HEAD_CTRL_MISS_LIMIT, .UNIT_EN]⟩,
   ⟨524292, [(131072, 4)], 0, some (.head, 1), [.CHECK_BUSY, .CHECK_ENABLED, .CHECK_REFUSALS, .CHECK_LAST_REASON]⟩,
   ⟨524296, [(131072, 4)], 0, some (.head, 1), [.CMP_HEAD_STAT_PENDING, .CMP_HEAD_STAT_EVAC, .CMP_HEAD_STAT_ROM_SLIDE, .CMP_HEAD_STAT_LAST_REASON, .CMP_HEAD_STAT_LAYERS]⟩,
   ⟨524300, [(131072, 4)], 0, some (.head, 1), [.CMP_HEAD_ADJ]⟩,
   ⟨524304, [(131072, 4)], 0, some (.head, 1), [.CMP_HEAD_BG]⟩,
   ⟨524308, [(131072, 4)], 0, some (.head, 1), [.CMP_HEAD_COMMIT_GO, .CMP_HEAD_COMMIT_CANCEL]⟩,
   ⟨524312, [(131072, 4)], 0, some (.head, 1), [.CMP_HEAD_LUTSEL_IN_USE, .CMP_HEAD_LUTSEL_SEL]⟩,
   ⟨524316, [(131072, 4)], 0, some (.head, 1), [.CMP_HEAD_FQ_FQ_EN, .CMP_HEAD_FQ_QUEUE]⟩,
   ⟨524320, [(131072, 4)], 0, some (.head, 1), [.CMP_HEAD_EVT]⟩,
   ⟨524324, [(131072, 4)], 0, some (.head, 1), [.CMP_HEAD_EVT_EN]⟩,
   ⟨524328, [(131072, 4)], 0, some (.head, 1), [.CMP_FENCE_SIGNAL_FENCE, .CMP_FENCE_SIGNAL_VALUE]⟩,
   ⟨524336, [(131072, 4), (4, 4)], 0, some (.head, 4), [.CMP_HEAD_TALLY]⟩,
   ⟨524352, [(131072, 4), (4, 16)], 0, some (.head, 16), [.CMP_FENCE]⟩,
   ⟨528384, [(131072, 4), (64, 64)], 0, some (.head, 64), [.CMP_TILE_W0_EN_T, .CMP_TILE_W0_KIND, .CMP_TILE_W0_LABEL_ON, .CMP_TILE_W0_LABEL_SIZE, .CMP_TILE_W0_TALLY, .CMP_TILE_W0_BORDER, .CMP_TILE_W0_ALPHA, .CMP_TILE_W0_SOURCE]⟩,
   ⟨528388, [(131072, 4), (64, 64)], 0, some (.head, 64), [.CMP_TILE_W1_Y, .CMP_TILE_W1_X]⟩,
   ⟨528392, [(131072, 4), (64, 64)], 0, some (.head, 64), [.CMP_TILE_W2_HEIGHT, .CMP_TILE_W2_WIDTH]⟩,
   ⟨528396, [(131072, 4), (64, 64)], 0, some (.head, 64), [.CMP_TILE_W3_FALLBACK]⟩,
   ⟨528400, [(131072, 4), (64, 64)], 0, some (.head, 64), [.CMP_TILE_L0]⟩,
   ⟨528404, [(131072, 4), (64, 64)], 0, some (.head, 64), [.CMP_TILE_L1]⟩,
   ⟨528408, [(131072, 4), (64, 64)], 0, some (.head, 64), [.CMP_TILE_L2]⟩,
   ⟨528412, [(131072, 4), (64, 64)], 0, some (.head, 64), [.CMP_TILE_L3]⟩,
   ⟨528416, [(131072, 4), (64, 64)], 0, some (.head, 64), [.CMP_TILE_W8_READY, .CMP_TILE_W8_FALLBACK_ON, .CMP_TILE_W8_PREDEC, .CMP_TILE_W8_ARMED, .CMP_TILE_W8_FAB_REASON, .CMP_TILE_W8_MISSES, .CMP_TILE_W8_LAST_REASON]⟩,
   ⟨528420, [(131072, 4), (64, 64)], 0, some (.head, 64), [.CMP_TILE_MISS_TOTAL]⟩,
   ⟨528424, [(131072, 4), (64, 64)], 0, some (.head, 64), [.CMP_TILE_FLIP_ARM, .CMP_TILE_FLIP_CANCEL, .CMP_TILE_FLIP_FENCE, .CMP_TILE_FLIP_VALUE]⟩,
   ⟨528428, [(131072, 4), (64, 64)], 0, some (.head, 64), [.CMP_TILE_WAIT_FRAMES]⟩,
   ⟨528432, [(131072, 4), (64, 64), (4, 4)], 0, none, []⟩,
   ⟨532480, [(131072, 4), (64, 8)], 0, some (.head, 8), [.CMP_OVL_W0_EN_O, .CMP_OVL_W0_FMT, .CMP_OVL_W0_ALPHA, .CMP_OVL_W0_FALLBACK_A]⟩,
   ⟨532484, [(131072, 4), (64, 8)], 0, some (.head, 8), [.CMP_OVL_W1_BASE_LO]⟩,
   ⟨532488, [(131072, 4), (64, 8)], 0, some (.head, 8), [.CMP_OVL_W2_STRIDE, .CMP_OVL_W2_BASE_HI]⟩,
   ⟨532492, [(131072, 4), (64, 8)], 0, some (.head, 8), [.CMP_OVL_W3_FALLBACK]⟩,
   ⟨532496, [(131072, 4), (64, 8)], 0, some (.head, 8), [.CMP_OVL_L0]⟩,
   ⟨532500, [(131072, 4), (64, 8)], 0, some (.head, 8), [.CMP_OVL_L1]⟩,
   ⟨532504, [(131072, 4), (64, 8)], 0, some (.head, 8), [.CMP_OVL_L2]⟩,
   ⟨532508, [(131072, 4), (64, 8)], 0, some (.head, 8), [.CMP_OVL_L3]⟩,
   ⟨532512, [(131072, 4), (64, 8)], 0, some (.head, 8), [.CMP_OVL_FETCH_FAULTS]⟩,
   ⟨532516, [(131072, 4), (64, 8)], 0, none, []⟩,
   ⟨532520, [(131072, 4), (64, 8)], 0, some (.head, 8), [.CMP_OVL_FLIP_ARM, .CMP_OVL_FLIP_CANCEL, .CMP_OVL_FLIP_FENCE, .CMP_OVL_FLIP_VALUE]⟩] ++
  [⟨532524, [(131072, 4), (64, 8)], 0, some (.head, 8), [.CMP_OVL_WAIT_FRAMES]⟩,
   ⟨532528, [(131072, 4), (64, 8), (4, 4)], 0, none, []⟩,
   ⟨536576, [(131072, 4), (4, 256)], 0, some (.head, 256), [.CMP_HEAD_HCOEF]⟩,
   ⟨537600, [(131072, 4), (4, 128)], 0, some (.head, 128), [.CMP_HEAD_VCOEF]⟩,
   ⟨540672, [(131072, 4), (6144, 2), (4, 1536)], 0, some (.head, 3072), [.CMP_LUT_PV_ODD, .CMP_LUT_PV_EVEN]⟩,
   ⟨552960, [(131072, 4), (6144, 2), (4, 1536)], 0, some (.head, 3072), [.CMP_LUT_PG_ODD, .CMP_LUT_PG_EVEN]⟩,
   ⟨565248, [(131072, 4), (24576, 2), (4, 6144)], 0, some (.head, 12288), [.CMP_LUT_PO_ODD, .CMP_LUT_PO_EVEN]⟩]

/-- Registers at BAR0 offset 0x1300000. -/
def busRegs : List RegDesc :=
  [⟨0, [], 0, none, [.BUS_ERR_LOG0]⟩,
   ⟨4, [], 0, none, [.BUS_ERR_LOG1_MASTER, .BUS_ERR_LOG1_WRITE, .BUS_ERR_LOG1_CAUSE, .BUS_ERR_LOG1_ADDR_HI]⟩,
   ⟨8, [], 0, none, [.BUS_ERR_COUNT]⟩,
   ⟨16, [], 0, none, [.BUS_LOST_LOG0]⟩,
   ⟨20, [], 0, none, [.BUS_LOST_LOG1_MASTER, .BUS_LOST_LOG1_WRITE, .BUS_LOST_LOG1_LEN, .BUS_LOST_LOG1_DONE, .BUS_LOST_LOG1_ADDR_HI]⟩,
   ⟨24, [], 0, none, [.BUS_LOST_COUNT]⟩,
   ⟨32, [], 0, none, [.BUS_TIMEOUT_CYCLES]⟩,
   ⟨40, [], 0, none, [.BUS_SRAM_ECC_COR, .BUS_SRAM_ECC_UNCOR]⟩,
   ⟨44, [], 0, none, [.BUS_SRAM_ADDR]⟩,
   ⟨64, [], 0, none, [.BUS_LINK_STAT_LINK_UP, .BUS_LINK_STAT_BME, .BUS_LINK_STAT_MSIX_EN, .BUS_LINK_STAT_FUNC_MASK, .BUS_LINK_STAT_DSTATE, .BUS_LINK_STAT_REPAIRED]⟩,
   ⟨68, [], 0, none, [.BUS_LINK_COUNT_RETRAINS, .BUS_LINK_COUNT_REPLAYS]⟩]

/-- Registers at BAR0 offset 0x1340000. -/
def fltRegs : List RegDesc :=
  [⟨0, [], 0, none, [.FLT_CTRL_STORM_PERIOD, .FLT_CTRL_STORM_RELEASE, .FLT_CTRL_LOGQ_EN]⟩,
   ⟨4, [], 0, none, [.FLT_STAT_FATAL, .FLT_STAT_SAFE, .FLT_STAT_FATAL_SRC]⟩,
   ⟨8, [], 0, none, [.FLT_FATAL_NS]⟩,
   ⟨12, [], 0, none, [.FLT_FATAL_SEC]⟩,
   ⟨16, [], 0, none, [.FLT_LOGQ]⟩,
   ⟨32, [], 0, none, [.FLT_RECOV_STAT_RECOVERING, .FLT_RECOV_STAT_ACTIVE, .FLT_RECOV_STAT_FROZEN, .FLT_RECOV_STAT_OVERDUE, .FLT_RECOV_STAT_DEPTH, .FLT_RECOV_STAT_OVERFLOW]⟩,
   ⟨36, [], 0, none, [.FLT_RECOV_CMD_TAKE, .FLT_RECOV_CMD_DONE, .FLT_RECOV_CMD_SOURCE]⟩,
   ⟨40, [], 0, none, [.FLT_RECOV_HEAD_VALID, .FLT_RECOV_HEAD_CONCURRENT, .FLT_RECOV_HEAD_PREEMPTED, .FLT_RECOV_HEAD_IS_ACTIVE, .FLT_RECOV_HEAD_PRIO, .FLT_RECOV_HEAD_COUNT, .FLT_RECOV_HEAD_SOURCE]⟩,
   ⟨44, [], 0, none, [.FLT_RECOV_LIMIT]⟩,
   ⟨256, [(4, 16)], 0, none, [.FLT_PEND]⟩,
   ⟨512, [(16, 19)], 0, none, [.FLT_LATCH_VALID, .FLT_LATCH_SOURCE, .FLT_LATCH_OTHERS]⟩,
   ⟨516, [(16, 19)], 0, none, [.FLT_LATCH_NS]⟩,
   ⟨520, [(16, 19)], 0, none, [.FLT_LATCH_SEC]⟩,
   ⟨524, [(16, 19)], 0, none, []⟩,
   ⟨1024, [(16, 2)], 0, none, [.FLT_HBM_COR, .FLT_HBM_UNCOR, .FLT_HBM_FAILED]⟩,
   ⟨1028, [(16, 2)], 0, none, [.FLT_HBM_ADDR_LO]⟩,
   ⟨1032, [(16, 2)], 0, none, [.FLT_HBM_ADDR_HI]⟩,
   ⟨1036, [(16, 2)], 0, none, [.FLT_HBM_SCRUBS]⟩,
   ⟨65536, [(16, 512)], 0, none, [.FLT_SRC_MASK, .FLT_SRC_HOST, .FLT_SRC_CLASS, .FLT_SRC_STEWARD, .FLT_SRC_STORM_N, .FLT_SRC_WINDOW, .FLT_SRC_FORCE]⟩,
   ⟨65540, [(16, 512)], 0, none, [.FLT_SRC_STAT_LEVEL, .FLT_SRC_STAT_PENDING, .FLT_SRC_STAT_STORM, .FLT_SRC_STAT_FORCED, .FLT_SRC_STAT_LAST_CLASS, .FLT_SRC_STAT_COUNT]⟩,
   ⟨65544, [(16, 512)], 0, none, [.FLT_SRC_TIME_NS]⟩,
   ⟨65548, [(16, 512)], 0, none, [.FLT_SRC_TIME_SEC]⟩]

/-- Registers at BAR0 offset 0x1480000. -/
def chkRegs : List RegDesc :=
  [⟨0, [(256, 8)], 0, some (.chkUnit, 1), [.CHK_CTRL_KIND, .CHK_CTRL_POLY, .CHK_CTRL_COMPARE, .CHK_CTRL_FREEZE_N, .UNIT_EN]⟩,
   ⟨4, [(256, 8)], 0, some (.chkUnit, 1), [.CHECK_BUSY, .CHECK_ENABLED, .CHECK_REFUSALS, .CHECK_LAST_REASON]⟩,
   ⟨8, [(256, 8)], 0, some (.chkUnit, 1), [.CHK_TARGET]⟩,
   ⟨12, [(256, 8)], 0, some (.chkUnit, 1), [.CHK_ADDR_LO]⟩,
   ⟨16, [(256, 8)], 0, some (.chkUnit, 1), [.CHK_ADDR_HI]⟩,
   ⟨20, [(256, 8)], 0, some (.chkUnit, 1), [.CHK_LEN]⟩,
   ⟨24, [(256, 8)], 0, some (.chkUnit, 1), [.CHK_EXPECT]⟩,
   ⟨28, [(256, 8)], 0, some (.chkUnit, 1), [.CHK_RESULT]⟩,
   ⟨32, [(256, 8)], 0, some (.chkUnit, 1), [.CHK_RESULT_ID]⟩,
   ⟨36, [(256, 8)], 0, some (.chkUnit, 1), [.CHK_STAT_FROZEN, .CHK_STAT_MEM_ERR, .CHK_STAT_BUSY, .CHK_STAT_MISMATCHES]⟩,
   ⟨40, [(256, 8)], 0, some (.chkUnit, 1), [.CHK_EVT]⟩,
   ⟨44, [(256, 8)], 0, some (.chkUnit, 1), [.CHK_EVT_EN]⟩]

/-- Registers at BAR0 offset 0x1380000. -/
def twnRegs : List RegDesc :=
  [⟨0, [], 0, some (.twin, 0), [.TWN_CTRL_TAKEOVER_MS, .TWN_CTRL_AUTO, .TWN_CTRL_ROLE, .UNIT_EN]⟩,
   ⟨4, [], 0, some (.twin, 0), [.CHECK_BUSY, .CHECK_ENABLED, .CHECK_REFUSALS, .CHECK_LAST_REASON]⟩,
   ⟨8, [], 0, none, [.TWN_STAT_CLAIM, .TWN_STAT_TWIN_CLAIM, .TWN_STAT_DRIVING, .TWN_STAT_READY, .TWN_STAT_DUE, .TWN_STAT_DEFERRED, .TWN_STAT_LINK_LOST, .TWN_STAT_MGMT_LOST, .TWN_STAT_LINE_FAULT, .TWN_STAT_MISMATCH, .TWN_STAT_IMG_DIFF, .TWN_STAT_WIRING, .TWN_STAT_SYNC, .TWN_STAT_TWIN_FLAGS, .TWN_STAT_LAST_REASON]⟩,
   ⟨12, [], 0, none, [.TWN_CMD_RELEASE, .TWN_CMD_TAKE]⟩,
   ⟨16, [], 0, none, [.TWN_EVT]⟩,
   ⟨20, [], 0, none, [.TWN_EVT_EN]⟩,
   ⟨24, [], 0, none, [.TWN_ELECT_COUNT]⟩,
   ⟨28, [], 0, none, [.TWN_TWIN_ELECT]⟩,
   ⟨32, [], 0, none, [.TWN_TB0_OFFSET]⟩,
   ⟨36, [], 0, none, [.TWN_SYNC_TB]⟩,
   ⟨40, [], 0, none, [.TWN_HB_COUNT_LINK_MISSED, .TWN_HB_COUNT_MGMT_MISSED]⟩,
   ⟨44, [], 0, none, [.TWN_TWIN_ID_PART]⟩,
   ⟨48, [], 0, none, [.TWN_TWIN_IMAGE]⟩]

/-- Registers at BAR0 offset 0x13c0000. -/
def secRegs : List RegDesc :=
  [⟨0, [], 0, none, [.SEC_LC_KEY_DESTROYED, .SEC_LC_SAFETY_REVOKED, .SEC_LC_OWNER_REVOKED, .SEC_LC_FLOOR, .SEC_LC_PENDING_VALID, .SEC_LC_PENDING, .SEC_LC_STATE]⟩,
   ⟨8, [], 0, none, [.SEC_UID_LO]⟩,
   ⟨12, [], 0, none, [.SEC_UID_HI]⟩,
   ⟨16, [(4, 4)], 0, none, [.SEC_NONCE]⟩,
   ⟨32, [], 0, none, [.SEC_CMD_GO, .SEC_CMD_CMD, .SEC_CMD_SLOT]⟩,
   ⟨36, [], 0, none, [.SEC_ARG]⟩,
   ⟨40, [], 0, none, [.SEC_RESULT_BUSY, .SEC_RESULT_REASON, .SEC_RESULT_FAILS]⟩,
   ⟨44, [], 0, none, [.SEC_DBG_CEILING, .SEC_DBG_LOCKOUT, .SEC_DBG_LEVEL]⟩,
   ⟨48, [], 0, none, [.SEC_POLICY0]⟩,
   ⟨52, [], 0, none, [.SEC_POLICY1_FLAGS, .SEC_POLICY1_DEBUG_MAX]⟩,
   ⟨256, [(4, 24)], 0, none, [.SEC_SIG]⟩,
   ⟨1024, [(128, 7), (4, 24)], 0, none, [.SEC_KEY]⟩,
   ⟨4096, [(4, 152)], 0, none, [.SEC_PROV]⟩]

/-- Registers at BAR0 offset 0x1400000. -/
def pwrRegs : List RegDesc :=
  [⟨0, [], 0, none, [.PWR_CTRL_REQ]⟩,
   ⟨4, [], 0, none, [.PWR_STAT_STATE, .PWR_STAT_SAFETY_WAKE, .PWR_STAT_LAST_REASON]⟩,
   ⟨8, [], 0, none, [.PWR_TEMP_WARN, .PWR_TEMP_CRIT, .PWR_TEMP_TEMP]⟩,
   ⟨12, [], 0, none, [.PWR_TEMP_WARN_LIMIT]⟩,
   ⟨16, [], 0, none, [.PWR_MON_CLOCK, .PWR_MON_RAIL]⟩]

/-- Registers at BAR0 offset 0x1440000. -/
def fldRegs : List RegDesc :=
  [⟨0, [], 0, some (.field, 0), [.UNIT_EN]⟩,
   ⟨4, [], 0, some (.field, 0), [.CHECK_BUSY, .CHECK_ENABLED, .CHECK_REFUSALS, .CHECK_LAST_REASON]⟩,
   ⟨8, [], 0, none, [.FLD_STAT_LINK_UP, .FLD_STAT_SUPPLY_OK, .FLD_STAT_VFIELD]⟩,
   ⟨16, [], 0, none, [.FLD_SAFE_STAT_OVERRIDE, .FLD_SAFE_STAT_ARMED, .FLD_SAFE_STAT_DEFAULT, .FLD_SAFE_STAT_CONTACT_FAULT, .FLD_SAFE_STAT_BOOT_LATCH, .FLD_SAFE_STAT_ACKED1, .FLD_SAFE_STAT_HOLDS1, .FLD_SAFE_STAT_STATE1, .FLD_SAFE_STAT_ACKED0, .FLD_SAFE_STAT_HOLDS0, .FLD_SAFE_STAT_STATE0]⟩,
   ⟨24, [(4, 2)], 0, none, [.FLD_SAFE_OHM]⟩,
   ⟨32, [], 0, none, [.FLD_GPI_FIFO]⟩,
   ⟨36, [], 0, none, [.FLD_GPI_NS]⟩,
   ⟨40, [], 0, none, [.FLD_GPI_SEC]⟩,
   ⟨48, [], 0, none, [.FLD_GPO_SET]⟩,
   ⟨52, [], 0, none, [.FLD_GPO_FAULT]⟩,
   ⟨256, [(16, 32)], 0, none, [.FLD_GPI_W0_POL, .FLD_GPI_W0_STUCK_MASK, .FLD_GPI_W0_EDGE_EN, .FLD_GPI_W0_STUCK_EN, .FLD_GPI_W0_EXCESS_EN, .FLD_GPI_W0_MAX_RATE, .FLD_GPI_W0_DEBOUNCE]⟩,
   ⟨260, [(16, 32)], 0, none, [.FLD_GPI_W1_STUCK_S]⟩,
   ⟨264, [(16, 32)], 0, none, [.FLD_GPI_W2_LEVEL, .FLD_GPI_W2_STUCK, .FLD_GPI_W2_MASKED, .FLD_GPI_W2_EDGE_C, .FLD_GPI_W2_STUCK_C, .FLD_GPI_W2_EXCESS_C]⟩,
   ⟨268, [(16, 32)], 0, none, [.FLD_GPI_W3_EXCESS]⟩,
   ⟨1024, [(4, 32)], 0, none, [.FLD_GPO_CTRL_MODE, .FLD_GPO_CTRL_SOURCE, .FLD_GPO_CTRL_TARGET]⟩]

/-- Every block: base, end and registers. -/
def allBlocks : List (Nat × Nat × List RegDesc) :=
  [(0, 36, genumRegs),
   (1572864, 1699848, gazRegs),
   (0, 41024, genRegs),
   (65536, 69888, cfgRegs),
   (1048576, 1068016, atlRegs),
   (2097152, 2211840, fabRegs),
   (2621440, 2719744, mzcRegs),
   (3145728, 3539544, lanRegs),
   (4194304, 8388608, pktRegs),
   (8388608, 8405984, timRegs),
   (8650752, 8651520, refRegs),
   (9437184, 9880568, audRegs),
   (10485760, 18808912, dspRegs),
   (18874368, 19881984, cmpRegs),
   (19922944, 19923016, busRegs),
   (20185088, 20258816, fltRegs),
   (21495808, 21497648, chkRegs),
   (20447232, 20447284, twnRegs),
   (20709376, 20714080, secRegs),
   (20971520, 20971540, pwrRegs),
   (21233664, 21234816, fldRegs)]

end Sys2Proof.Machine
end

