-- ==== Sys2Proof/Machine/State.lean ====
section
/-!
DEFINITION. The state of the device as plain data: the register fields, the memories, the fuses, the state each chapter
implies between its steps, what has left the device, and the queue of waiting commands.
-/
namespace Sys2Proof.Machine

/-- One stored register field: field, index, value. -/
structure RegCell where
  fld : Fld
  idx : Nat
  val : Nat
deriving DecidableEq, Repr

/-- The register store in canonical form: keys strictly rising, no entry at its reset value. -/
abbrev Store := List RegCell

/-- Why the machine stops. -/
inductive Fault where
  /-- Raised by no command: the device answers every access the spec describes, errors included. Safe. -/
  | unreachable
deriving DecidableEq, Repr

/-- Why a command has no meaning. -/
inductive Refusal where
  /-- Raised by the dispatcher for a command whose meaning is not modelled. Safe. -/
  | notModelled (mnemonic : String)
deriving DecidableEq, Repr

/-- The answer the matrix gave to the last access: the data and whether it was an error response (R459). -/
structure Resp where
  data : Nat
  err : Bool
deriving DecidableEq, Repr

/-- One-time fuses (R534). Keys are 96 bytes, the image key 32 bytes. -/
structure Fuses where
  lifecycle : Nat
  uid : Nat
  rootKey : List Byte
  ownerKeys : List (List Byte)
  ownerRevoked : Nat
  safetyKeys : List (List Byte)
  safetyRevoked : Nat
  imageKey : List Byte
  keyDestroyed : Bool
  floor : Nat
deriving DecidableEq, Repr

/-- One recovery record (R491 to R494). -/
structure RecovRec where
  source : Nat
  count : Nat
  concurrent : Bool
  preempted : Bool
deriving DecidableEq, Repr

/-- A fault-log record that waits to be written (R497): the fields that the assertion fixed, and the DETAIL words. -/
structure LogRec where
  source : Nat
  cls : Nat
  flags : Nat
  time : Stamp
  count : Nat
  always : Bool
  detail : List Nat
deriving DecidableEq, Repr

/-- A condition of a slot (Choosing a slot): what its last examination found. -/
inductive SlotCond where
  | notTried | rejected | partlyValid | fullyValid
deriving DecidableEq, Repr

/-- A section placed from the slot being streamed (R57, R58): table index, TYPE, FLAGS, DEST, VERSION, PARAM, the bytes
after decryption. -/
structure Placed where
  index : Nat
  typ : Nat
  flags : Nat
  dest : Nat
  version : Nat
  param : Nat
  bytes : List Byte
deriving DecidableEq, Repr

/-- A command of the configuration memory (R79). -/
inductive NvmCmd where
  | writePage | readPage | overwriteHeader
deriving DecidableEq, Repr

/-- A command that waits for the configuration port (R80, R600): its page and the page buffer, as they stood at the CMD write. -/
structure NvmWork where
  cmd : NvmCmd
  page : Nat
  bytes : List Byte
deriving DecidableEq, Repr

/-- What the boot ROM keeps between its steps (R50 to R66): the slot being streamed (0 A, 1 B), its next section, what the
last examination of each slot found, the slot tried first, the pass (0 first streamings, 1 the first slot tried again, 2
the other slot again), whether a stream is in progress, the sections placed so far, the indexes of the mismatching
sections of this stream, every mismatching section of this start as (TYPE, slot, index), the slot chosen with whether
its safety-owner signature holds, whether HBM is ready, and whether ST0's hand-over alias is still open (R69). -/
structure BootState where
  slot : Nat
  nextSection : Nat
  condA : SlotCond
  condB : SlotCond
  first : Nat
  pass : Nat
  streaming : Bool
  placed : List Placed
  mismatched : List Nat
  crcLog : List (Nat × Nat × Nat)
  chosen : Option (Nat × Bool)
  hbmReady : Bool
  aliasOpen : Bool
deriving DecidableEq, Repr

/-- What enumeration keeps between tokens (R23 to R28): the last token and how many in a row were identical, the run of
bad tokens, the bits [31:16] from which the position was taken (none for the low level), and whether the 5 s are over. -/
structure EnumState where
  lastTok : Nat
  run : Nat
  badRun : Nat
  takenFrom : Option Nat
  timedOut : Bool
deriving DecidableEq, Repr

/-- One time base's running value (R273): seconds, nanoseconds, and the fraction in units of 2⁻⁴⁰ ns. -/
structure TimeBase where
  sec : Nat
  ns : Nat
  frac : Nat
deriving DecidableEq, Repr

/-- The words of a home audio group at one sample (R345): group, sample index, 64 words. -/
structure GroupSample where
  group : Nat
  k : Nat
  words : List Nat
deriving DecidableEq, Repr

/-- A pending commit of one destination (R105): its tag, target frame, slip limit and slips, whether it is a member of the
salvo, whether it was taken at the decision point, the source entry's VALID, FORMAT and DEPTH as they stood there, and
whether the new source was lost there. -/
structure PendCommit where
  dest : Nat
  tag : Nat
  target : Nat
  slipLimit : Nat
  slips : Nat
  salvo : Bool
  taken : Bool
  snap : List Nat
  newLost : Bool
  master : Master
deriving DecidableEq, Repr

/-- Bytes placed in the landing store (R135): span, TYPE, LINE, OFFSET, the bytes. -/
structure Piece where
  span : Nat
  typ : Nat
  line : Nat
  offset : Nat
  bytes : List Byte
deriving DecidableEq, Repr

/-- A span marker as received (R133, R134). -/
structure Marker where
  span : Nat
  lost : Bool
  coding : Nat
  fmt : Nat
  depthScale : Nat
  generation : Nat
  frame : Nat
  lines : Nat
  lc : Nat
deriving DecidableEq, Repr

/-- A receive stream (FAB_RX, R141 to R145): its entry, kind (0 video, 1 sketch, 2 audio group), source or group, home,
coding, waypoint (15 direct), state (0 requested, 1 granted, 3 releasing, 4 ended by a drop or a loss), last code, complete
spans in a row, of those the ones not marked lost, missing lines, migrations, the request with whether it was sent, the first
span, the last span of a release and whether RELEASE was sent, whether a request for the running stream is open (R142, R151),
whether a dropped stream is to be requested again (R155), the coming paths of migrations (coding, waypoint, first span),
oldest first, the last span of a drop, the destination whose landing store it holds or the bytes of the two further slots
that it holds (R145), what has landed, the last complete span, the last one of those not marked lost (R116), and the last line
read (span, LINE); of an audio group, its entry of AUD_RXG. -/
structure RxStream where
  slot : Nat
  rxg : Nat
  kind : Nat
  src : Nat
  home : Nat
  coding : Nat
  waypoint : Nat
  st : Nat
  reason : Nat
  spans : Nat
  good : Nat
  missing : Nat
  migrations : Nat
  reqNo : Nat
  maxCoding : Nat
  fs : Nat
  sent : Bool
  first : Nat
  relLast : Option Nat
  relSent : Bool
  rejoin : Bool
  again : Bool
  next : List (Nat × Nat × Nat)
  dropLast : Option Nat
  store : Option Nat
  extra : Nat
  pieces : List Piece
  markers : List Marker
  lastSpan : Option Nat
  held : Option Nat
  read : Option (Nat × Nat)
deriving DecidableEq, Repr

/-- An old path of a migrating stream: port, waypoint, cost, coding, last span on it, order number (R153), and whether its
reservation is being shed (R154). -/
structure OldPath where
  port : Nat
  waypoint : Nat
  cost : Nat
  coding : Nat
  last : Nat
  order : Nat
  shed : Bool
deriving DecidableEq, Repr

/-- A transmit stream (FAB_TX, R143 to R156): with the paths that it is leaving, oldest first, and the spans whose markers
left last, newest first, with the coding and what each said of LOST (R133). -/
structure TxStream where
  slot : Nat
  kind : Nat
  src : Nat
  dest : Nat
  coding : Nat
  port : Nat
  waypoint : Nat
  cost : Nat
  start : Nat
  order : Nat
  fs : Nat
  maxCoding : Nat
  seq : Nat
  last : Option Nat
  released : Bool
  shedding : Bool
  reason : Nat
  old : List OldPath
  marks : List (Nat × Nat × Bool)
deriving DecidableEq, Repr

/-- A forwarded stream (FAB_WP, R149 to R154). -/
structure WpStream where
  slot : Nat
  kind : Nat
  src : Nat
  coding : Nat
  inPort : Nat
  outPort : Nat
  home : Nat
  dest : Nat
  cost : Nat
  cells : Nat
  order : Nat
  last : Option Nat
  shedding : Bool
deriving DecidableEq, Repr

/-- An admission that waits for a waypoint's answer (R148, R149): the request, the least and the highest coding that it may take,
the rungs and candidates left, the candidate asked (waypoint, coding, cost, port), and what it is for: a new request, or the transmit entry that is to migrate, with
whether it is dropped where nothing fits and the reason of the drop. -/
structure Admit where
  reqNo : Nat
  dest : Nat
  kind : Nat
  src : Nat
  fs : Nat
  maxCoding : Nat
  lo : Nat
  hi : Nat
  rungs : List (Nat × Bool)
  cands : List Nat
  tries : Nat
  waypoint : Nat
  coding : Nat
  cost : Nat
  port : Nat
  moves : Option Nat
  dropReason : Nat
deriving DecidableEq, Repr

/-- Who asks for a stream (R141): the draft or the live entry of a destination, or tiles and audio consumers. -/
inductive Asker where
  | draft (d : Nat)
  | live (d : Nat)
  | shared
deriving DecidableEq, Repr

/-- A request that waits for the answer to an earlier one of the same source (R142): kind, source, home, highest coding,
rate, who asks. -/
structure SubWait where
  kind : Nat
  src : Nat
  home : Nat
  maxCoding : Nat
  fs : Nat
  who : Asker
deriving DecidableEq, Repr

/-- What a video output carries on one line (R89, R116): the samples of an active line, and ancillary packets. -/
inductive LineOut where
  | samples (values : List Nat) (anc : List Byte)
  | black (values : List Nat) (anc : List Byte)
  | noSource
deriving DecidableEq, Repr

/-- A line as it leaves on one SDI lane (R204, R207, R216): the lane, its link from 1 on, the line number, and the words that the
transmitter regenerates: line number, line CRCs or EDH, payload identifier. -/
structure SdiLine where
  lane : Nat
  link : Nat
  number : Nat
  words : List Nat
deriving DecidableEq, Repr

/-- Video words that a receive queue discarded (R214, R215): input, LINE, first sample, samples. -/
structure Hole where
  input : Nat
  line : Nat
  first : Nat
  count : Nat
deriving DecidableEq, Repr

/-- What packets have brought of one span (R231 to R234): input, RTP timestamp, the span's number once it is complete or ended, samples
as (LINE, first sample, values), ancillary packets as (LINE, bytes), in order of arrival, newest first. -/
structure Fill where
  input : Nat
  ts : Nat
  done : Option Nat
  pieces : List (Nat × Nat × List Nat)
  anc : List (Nat × List Byte)
deriving DecidableEq, Repr

/-- One edge-capture entry (R292): timestamp, RISING, STEPPED. -/
structure CapEntry where
  stamp : Stamp
  rising : Bool
  stepped : Bool
deriving DecidableEq, Repr

/-- A step (signed adjustment) or set of a time base that takes effect at the next tick (R276): time base, whether it is a
set, seconds and nanoseconds. -/
structure StepDue where
  tb : Nat
  isSet : Bool
  sec : Int
  ns : Int
deriving DecidableEq, Repr

/-- A latched gate configuration (R260): entries as (GATES, INTERVAL), cycle fraction, BASE in ns, CYCLE_EXT, time base. -/
structure GateConf where
  entries : List (Nat × Nat)
  num : Nat
  den : Nat
  base : Nat
  ext : Nat
  tb : Nat
deriving DecidableEq, Repr

/-- The gate list of a MAC (R260 to R263): the pending configuration with its first cycle start, the operational one with
the start of the running cycle and of the next (each as whole ns and the fraction in 1/den), and the entry that runs. -/
structure GateState where
  mac : Nat
  pending : Option (GateConf × Nat × Nat)
  oper : Option GateConf
  cur : Nat × Nat
  next : Nat × Nat
  entry : Nat
deriving DecidableEq, Repr

/-- An item that packet transmit has begun (R245, R288): the transmit entry, whether it is a timed frame, whether that is still
held, the packets sent and still to be sent, and the reason code of a large send. -/
structure TxWork where
  tx : Nat
  timed : Bool
  held : Bool
  packets : Nat
  left : Nat
  code : Nat
deriving DecidableEq, Repr

/-- What a merger remembers of one sequence number (R236): the lower entry of the pair, the number, the tick at which it was
first seen. -/
structure MergeSeen where
  pair : Nat
  seq : Nat
  tick : Nat
deriving DecidableEq, Repr

/-- Sequence numbers that a stream has not received yet (R234): receive entry, first, one past the last, tick noticed. -/
structure SeqHole where
  rx : Nat
  first : Nat
  past : Nat
  tick : Nat
deriving DecidableEq, Repr

/-- What a media packet carries (R237): KIND and TARGET of its entry, and the frame with the packet's number in it, or the packet's
index. -/
structure MediaContent where
  kind : Nat
  target : Nat
  index : Nat
  k : Nat
deriving DecidableEq, Repr

/-- One DSP core (R381): D0–D15, the accumulators, A0–A7, M0–M7 (16-bit two's complement), L0–L7, SR without MODE, LCNT,
LSTART, LEND, PC (0x2000 past the end of program memory), the hardware stack with its depth; loads that the next
instruction does not see yet (R400), the delay slots outstanding with the branch they belong to (R397), the repetitions
left of a REP (R399), the pending interrupts (R404); the blocks that are pending, the block held, the blocks whose returns
were released in time, and the blocks that still have a deadline (R409, R410); the ring pointers of the input-queue engines
(R413); cycles since the start, at the take of the block held, and the tick at which a wait began. -/
structure DspCore where
  d : List Nat
  acc0 : Int
  acc1 : Int
  a : List Nat
  m : List Nat
  l : List Nat
  sr : Nat
  lcnt : Nat
  lstart : Nat
  lend : Nat
  pc : Nat
  stack : List (Nat × Nat)
  depth : Nat
  loads : List (Nat × Nat)
  slots : Nat
  branch : Option Nat
  rep : Option Nat
  doorbell : Bool
  queueIrq : Bool
  pendingBlocks : List Nat
  held : Option Nat
  released : List Nat
  due : List Nat
  blkNo : Nat
  qinWr : List Nat
  qinRd : List Nat
  cycles : Nat
  takenAt : Nat
  waitTick : Nat
deriving DecidableEq, Repr

/-- Words of a packet audio port that have arrived (R352): port, sample index modulo 2³², the word of each channel. -/
structure AudArrival where
  port : Nat
  k : Nat
  words : List Nat
deriving DecidableEq, Repr

/-- The audio commit that is pending (R341, R342): the channels and sources that it carries, the master of its write, the
format whose meridian it waits for, if any, with the target frame, the slips and their limit, the audio sample at which it
was accepted, whether every group was ready at an earlier sample, and whether it was taken at its decision point. -/
structure AudCommit where
  entries : List (Nat × Nat)
  master : Master
  meridian : Option Nat
  target : Nat
  slips : Nat
  slipLimit : Nat
  startK : Nat
  ready : Bool
  taken : Bool
deriving DecidableEq, Repr

/-- The picture a tile last showed (R432, R445): tile 64n + t, its rows as multiplexed 12-bit codes, before scaling. -/
structure TilePic where
  tile : Nat
  rows : List (List Nat)
deriving DecidableEq, Repr

/-- A tile as latched for a frame (R426, R434, R445): its number 0 to 63, live words 0 to 3, whether it shows its fallback, its
picture and the label of its source. -/
structure HeadTile where
  tile : Nat
  words : List Nat
  fallback : Bool
  rows : List (List Nat)
  label : List Byte
deriving DecidableEq, Repr

/-- What a head latched for a frame (R426, R431, R439, R448): background and tally colours, the LUT banks, whether the
evacuation slide shows, its enabled tiles and overlays (number and live words 0 to 3), in order. -/
structure HeadShot where
  head : Nat
  frame : Nat
  bg : Nat
  tally : List Nat
  banks : Nat
  evac : Bool
  tiles : List HeadTile
  ovls : List (Nat × List Nat)
deriving DecidableEq, Repr

/-- An entry of the GPI FIFO (R569, R570): input, edge to active, TB0 time, COALESCED, OVERRUN. -/
structure GpiEntry where
  input : Nat
  active : Bool
  time : Stamp
  coalesced : Bool
  overrun : Bool
deriving DecidableEq, Repr

/-- A frame on the pins of a TDM port (R354): the bits of its slots as they leave, the bit periods from the FS pulse to slot 0,
whether FS is active high, whether data is driven on the rising edge of BCLK, the bit clock in Hz, and whether the device drives
BCLK and FS. -/
structure TdmFrame where
  bits : List Bool
  fsLead : Nat
  fsHigh : Bool
  drivenRising : Bool
  clockRate : Nat
  drivesClock : Bool
deriving DecidableEq, Repr

/-- What leaves the device, newest first. -/
inductive Out where
  /-- An MSI-X message of a vector, with its address and data (R476). -/
  | msix (vector addr data : Nat)
  /-- An interrupt to the steward cores of a mask, from an event source (R483). -/
  | stewardIrq (mask source : Nat)
  /-- An interrupt to the steward cores of a mask, from a mailbox request (R478). -/
  | mailboxIrq (mask mailbox : Nat)
  /-- A token on ENUM_OUT (R25, R26). -/
  | enumToken (word : Nat)
  /-- An announcement on the management bus, from a MAC address (R30, R35). -/
  | announce (source plane position twin : Nat)
  /-- A Dunbin cell on a fabric port, of a stream or a control cell: its fields and its 256 bytes (R131, R139, R140). -/
  | cell (port : Nat) (c : Cell) (wire : List Byte)
  /-- A peer-loss notice on the management bus: source and destination MAC address, lost position, port, time of the loss (R161). -/
  | peerLoss (source dest position port : Nat) (time : Stamp)
  /-- A line of a destination: frame, LINE, whether the device drives its outputs, the lanes that send it, what the line carries (R95,
  R116, R207, R511). -/
  | line (dest frame line : Nat) (driven : Bool) (lanes : List SdiLine) (what : LineOut)
  /-- A message on the twin link (R517, R518, R521). -/
  | twin (bytes : List Byte)
  /-- A frame on the management bus: source and destination MAC address, EtherType, payload (R34, R35, R518). -/
  | mgmt (source dest etherType : Nat) (payload : List Byte)
  /-- A frame on an Ethernet port, without its FCS, and whether its FCS was inverted (R245, R255, R287). -/
  | frame (mac : Nat) (bytes : List Byte) (inverted : Bool)
  /-- A media packet on an Ethernet port (R237 to R239, R244): the header and the payload as sent, its RTP sequence number, timestamp
  and marker, and what it carries. -/
  | media (mac : Nat) (header payload : List Byte) (seq timestamp : Nat) (marker : Bool) (content : MediaContent)
  /-- A lane under test sends a pattern (code of R218, 0 none) or what it receives (LOOP 2), in place of its binding's content (R218 to
  R220). -/
  | laneTest (lane loop pattern : Nat)
  /-- The words that an audio port sends at sample `k`, whether its pins are driven, and the frame of a TDM port (R336, R354, R374). -/
  | audio (port k : Nat) (driven : Bool) (words : List Nat) (frame : Option TdmFrame)
  /-- The embedded audio of a destination at sample `k`: the words of its 16 channels, none for an absent one (R121, R351). -/
  | embedded (dest k : Nat) (words : List (Option Nat))
  /-- A line of a head: frame, LINE, whether the device drives its outputs, the lanes that send it, its samples as they leave (R207,
  R426, R429). -/
  | head (head frame line : Nat) (driven : Bool) (lanes : List SdiLine) (samples : List Nat)
deriving DecidableEq, Repr

/-- The device. -/
structure State where
  /-- The part (R4 to R6). -/
  variant : Variant
  /-- Every register field and every hidden counter, off its reset value. -/
  regs : Store
  /-- Working SRAM, mailbox RAM and HBM by internal bus address in the REMAP = 1 column (R456). -/
  mem : List Host.Cell
  /-- The configuration memory by byte address (R54). -/
  nvm : List Host.Cell
  /-- The configuration-memory command in progress (R79, R600). -/
  nvmWork : Option NvmWork
  /-- The fuses as blown (R534). -/
  fuses : Fuses
  /-- The fuses as read at the last reset, which is what is in force (R50, R539). -/
  inForce : Fuses
  /-- Ticks of the 400 MHz oscillator domain since the model's start (CD56, R11). -/
  tick : Nat
  /-- How many free values have been drawn (the model's own field). -/
  freeCount : Nat
  /-- The last answer of the bus matrix. -/
  busResp : Resp
  /-- Confidential regions: first address and length of each placed ENC section (R542). -/
  confidential : List (Nat × Nat)
  /-- Write-protected regions: first address and length (R369, R446). -/
  protected_ : List (Nat × Nat)
  /-- Steward cores halted by debug (R552). -/
  haltedStewards : List Nat
  /-- The instruction the JTAG port holds (R550). -/
  jtag : JtagIns
  /-- Tick at which the nonce was generated, while it is unused (R537). -/
  nonceAt : Option Nat
  /-- The boot ROM between its steps. -/
  boot : BootState
  /-- Enumeration between tokens. -/
  enum : EnumState
  /-- Queued recovery records, head first (R491). -/
  recovQueue : List RecovRec
  /-- The active recovery record (R492). -/
  recovActive : Option RecovRec
  /-- Fault-log records that wait to be written, oldest first (R497). -/
  logWaiting : List LogRec
  /-- Ticks at which fault records were written, newest first (R82). -/
  logTimes : List Nat
  /-- The eight time bases TB0 to TB7 (R273). -/
  tbs : List TimeBase
  /-- Spans in the frame store by local input, newest first (R89). -/
  spans : List (Nat × List VideoSpan)
  /-- Video words that receive queues discarded in spans still being written (R215). -/
  holes : List Hole
  /-- Spans that packets fill or have filled, newest timestamp first (R234). -/
  fills : List Fill
  /-- Commits that are pending, oldest first (R105). -/
  commits : List PendCommit
  /-- Receive, transmit and waypoint streams of the fabric. -/
  rx : List RxStream
  tx : List TxStream
  wp : List WpStream
  /-- Admissions that wait for a waypoint, and requests that wait for an earlier one. -/
  admits : List Admit
  subWait : List SubWait
  /-- Recent samples of the home groups that are being sent, newest first (R345). -/
  groupHist : List GroupSample
  /-- Gazetteer fetches in progress: position, entries that have arrived (R45). -/
  gazFetch : List (Nat × List Nat)
  /-- Tick of the last reset (R279). -/
  resetTick : Nat
  /-- Steps and sets that take effect at the next tick, oldest first (R276). -/
  stepsDue : List StepDue
  /-- Edge-capture FIFOs by channel, oldest entry first (R292). -/
  caps : List (Nat × List CapEntry)
  /-- Gate lists of the MACs (R260). -/
  gates : List GateState
  /-- Items that packet transmit has begun (R245, R288). -/
  txWork : List TxWork
  /-- Sequence numbers the mergers remember, and those that are missing (R234, R236). -/
  mergeSeen : List MergeSeen
  seqHoles : List SeqHole
  /-- Offsets of each reference candidate over its last seconds, newest first, 1e-6 ppb (R304). -/
  refHist : List (Nat × List Int)
  /-- Residuals of the last seconds in noon, newest first, 1e-6 ppb (R315). -/
  refResid : List Int
  /-- Daily means held, newest first: day index and residual, 1e-6 ppb (R315). -/
  refDaily : List (Nat × Int)
  /-- The DSP cores (R381). -/
  dsp : List DspCore
  /-- Words of packet audio ports that wait for their sample (R352). -/
  audArrived : List AudArrival
  /-- Words of the local input channels at the last samples, newest first, off zero (R347). -/
  audFrames : List (List (Nat × Nat))
  /-- CIC decimator states of the PDM ports (R357): port, and per channel five integrators and five combs. -/
  cic : List (Nat × List (List Int))
  /-- The audio commit that is pending (R341). -/
  audCommit : Option AudCommit
  /-- SEQ and departure of the last 16 heartbeats on the twin link, newest first (R520). -/
  hbSent : List (Nat × Stamp)
  /-- SEQ and arrival of the twin's latest valid heartbeat on the twin link (R517). -/
  hbGot : Option (Nat × Stamp)
  /-- Halves of home gazetteer entries from the twin: entry, upper half, generation, its four words (R521). -/
  twinHalves : List (Nat × Bool × Nat × List Nat)
  /-- Pictures that tiles last showed (R445). -/
  tilePics : List TilePic
  /-- What the heads latched for their last two frames, newest first (R426). -/
  shots : List HeadShot
  /-- The GPI FIFO, oldest entry first (R570). -/
  gpiFifo : List GpiEntry
  /-- What has left the device, newest first. -/
  out : List Out
  /-- Commands that wait, first in first out. -/
  pending : List Instr
deriving DecidableEq, Repr

/-- The boot ROM at reset. -/
def BootState.reset : BootState :=
  { slot := 0, nextSection := 0, condA := .notTried, condB := .notTried, first := 0, pass := 0, streaming := false
    placed := [], mismatched := [], crcLog := [], chosen := none, hbmReady := false, aliasOpen := true }

/-- Enumeration at reset. -/
def EnumState.reset : EnumState :=
  { lastTok := 0, run := 0, badRun := 0, takenFrom := none, timedOut := false }

/-- Fuses as the model starts: Blank, no key, no identity. -/
def Fuses.blank : Fuses :=
  { lifecycle := 0, uid := 0, rootKey := [], ownerKeys := [], ownerRevoked := 0, safetyKeys := [], safetyRevoked := 0
    imageKey := [], keyDestroyed := false, floor := 0 }

/-- A DSP core as it stands before its first start: every register zero, nothing pending. -/
def DspCore.idle : DspCore :=
  { d := List.replicate 16 0, acc0 := 0, acc1 := 0, a := List.replicate 8 0, m := List.replicate 8 0, l := List.replicate 8 0
    sr := 0, lcnt := 0, lstart := 0, lend := 0, pc := 0, stack := List.replicate 16 (0, 0), depth := 0, loads := [], slots := 0
    branch := none, rep := none, doorbell := false, queueIrq := false, pendingBlocks := [], held := none, released := []
    due := [], blkNo := 0, qinWr := [0, 0], qinRd := [0, 0], cycles := 0, takenAt := 0, waitTick := 0 }

/-- The device right after reset: PHASE 0x1 (R50), the debug level Observe of a Blank part (R551), every other register at its reset
value, nothing in any memory, no command waiting. The part, the straps and the fuses are DESIGN CHOICE (log entry 14), PHASE and
the debug level DEDUCED (log entry 15), a register without a reset value in its table reads 0 (DESIGN CHOICE, log entry 13). -/
def State.reset : State :=
  { variant := .cx1152, regs := [⟨.GEN_BOOT_STAT_PHASE, 0, 1⟩, ⟨.SEC_DBG_LEVEL, 0, 1⟩], mem := [], nvm := [], nvmWork := none, fuses := .blank, inForce := .blank, tick := 0, freeCount := 0
    busResp := ⟨0, false⟩, confidential := [], protected_ := [], haltedStewards := [], jtag := .idcode
    nonceAt := none, boot := .reset, enum := .reset, recovQueue := [], recovActive := none, logWaiting := [], logTimes := []
    tbs := List.replicate 8 ⟨0, 0, 0⟩, spans := [], holes := [], fills := [], commits := [], rx := [], tx := [], wp := [], admits := [], subWait := [], groupHist := []
    gazFetch := [], resetTick := 0, stepsDue := [], caps := [], gates := [], txWork := [], mergeSeen := [], seqHoles := []
    refHist := [], refResid := [], refDaily := [], dsp := List.replicate 32 .idle, audArrived := [], audFrames := []
    cic := [], audCommit := none, tilePics := [], shots := []
    hbSent := [], hbGot := none, twinHalves := [], gpiFifo := []
    out := [], pending := [] }

end Sys2Proof.Machine
end

