-- ==== Sys2Proof/Machine/Ops.lean ====
section
/-!
DEFINITION. The named operations every meaning is built from: reading and writing register fields and memory, asserting
event sources, recording refusals, bus errors, and the gate every register access passes.
-/
namespace Sys2Proof.Machine

/-! ### The register store -/

/-- Key order of the store: by field, then by index. -/
def RegCell.before (a b : RegCell) : Bool :=
  a.fld.ctorIdx < b.fld.ctorIdx || (a.fld.ctorIdx == b.fld.ctorIdx && a.idx < b.idx)

/-- The stored value of a field, if it is off its reset value. -/
def Store.find (f : Fld) (i : Nat) : Store → Option Nat
  | [] => none
  | c :: l => if c.fld = f ∧ c.idx = i then some c.val else Store.find f i l

/-- The store without the field's entry. -/
def Store.erase (f : Fld) (i : Nat) : Store → Store
  | [] => []
  | c :: l => if c.fld = f ∧ c.idx = i then Store.erase f i l else c :: Store.erase f i l

/-- The store with an entry inserted at its place in key order. -/
def Store.insert (c : RegCell) : Store → Store
  | [] => [c]
  | d :: l => if c.before d then c :: d :: l else d :: Store.insert c l

/-- A stored entry is off its reset value and fits its field. -/
def RegCell.wf (v : Variant) (c : RegCell) : Bool := c.val != c.fld.resetAt v c.idx && c.val < 2 ^ c.fld.info.w

/-- The canonical form of the store: keys strictly rising, every entry off its reset value and within its width. -/
def Store.wf (v : Variant) : Store → Bool
  | [] => true
  | [c] => c.wf v
  | c :: d :: l => c.wf v && c.before d && Store.wf v (d :: l)

/-- Value of element `i` of a register field. -/
def State.get (s : State) (f : Fld) (i : Nat := 0) : Nat := (Store.find f i s.regs).getD (f.resetAt s.variant i)

/-- Set element `i` of a register field to the low bits of `v`; an entry that returns to its reset value is dropped. -/
def State.put (s : State) (f : Fld) (i v : Nat) : State :=
  let w := v % 2 ^ f.info.w
  let l := Store.erase f i s.regs
  { s with regs := if w = f.resetAt s.variant i then l else Store.insert ⟨f, i, w⟩ l }

/-- A one-bit field reads 1. -/
def State.flag (s : State) (f : Fld) (i : Nat := 0) : Bool := s.get f i == 1

/-- Set or clear a one-bit field. -/
def State.putFlag (s : State) (f : Fld) (i : Nat) (b : Bool) : State := s.put f i (if b then 1 else 0)

/-- Raise a counter field that saturates. -/
def State.bump (s : State) (f : Fld) (i : Nat := 0) (k : Nat := 1) : State := s.put f i (satAdd f.info.w (s.get f i) k)

/-- Raise a counter field that wraps. -/
def State.inc (s : State) (f : Fld) (i : Nat := 0) : State := s.put f i (s.get f i + 1)

/-- Return element `i` of a field to its reset value. -/
def State.clear (s : State) (f : Fld) (i : Nat := 0) : State := { s with regs := Store.erase f i s.regs }

/-- Apply `f` where `c` holds. -/
def onlyIf (c : Bool) (f : State → State) (s : State) : State := if c then f s else s

/-- Apply `f` for every element of a list, in order. -/
def forAll {α : Type} (l : List α) (f : α → State → State) (s : State) : State := l.foldl (fun t a => f a t) s

/-- Record something that leaves the device. -/
def State.emit (s : State) (o : Out) : State := { s with out := o :: s.out }

/-! ### Memory -/

/-- What an address that nothing has written reads as: zero (DESIGN CHOICE, log entry 16; unsafe). -/
def unwrittenByte : Byte := 0

/-- Read one byte of a memory. -/
def Memory.read (a : Nat) : List Host.Cell → Byte
  | [] => unwrittenByte
  | (b, v) :: l => if a = b then v else Memory.read a l

/-- The memory without the cell of an address. -/
def Memory.erase (a : Nat) : List Host.Cell → List Host.Cell
  | [] => []
  | (b, v) :: l => if a = b then Memory.erase a l else (b, v) :: Memory.erase a l

/-- The memory with a cell inserted at its place in address order. -/
def Memory.insert (c : Host.Cell) : List Host.Cell → List Host.Cell
  | [] => [c]
  | d :: l => if c.1 < d.1 then c :: d :: l else d :: Memory.insert c l

/-- Write one byte; writing what an unlisted address reads as drops the cell. -/
def Memory.write (a : Nat) (v : Byte) (m : List Host.Cell) : List Host.Cell :=
  if v = unwrittenByte then Memory.erase a m else Memory.insert (a, v) (Memory.erase a m)

/-- Write bytes at rising addresses. -/
def Memory.writeList (a : Nat) : List Byte → List Host.Cell → List Host.Cell
  | [], m => m
  | b :: bs, m => Memory.writeList (a + 1) bs (Memory.write a b m)

/-- Read `n` bytes from rising addresses. -/
def Memory.readList (m : List Host.Cell) (a : Nat) : Nat → List Byte
  | 0 => []
  | n + 1 => Memory.read a m :: Memory.readList m (a + 1) n

/-- The canonical form: addresses strictly rising, no cell at the unwritten value. -/
def Memory.wf : List Host.Cell → Bool
  | [] => true
  | [(_, v)] => v != unwrittenByte
  | (a, v) :: (b, w) :: l => v != unwrittenByte && a < b && Memory.wf ((b, w) :: l)

/-- Read a 32-bit little-endian word of device memory (R12). -/
def State.memWord (s : State) (a : Nat) : Nat := leNat (Memory.readList s.mem a 4)

/-- Write the `n` low-order bytes of `v`, little-endian, to device memory. -/
def State.memPut (s : State) (a n v : Nat) : State := { s with mem := Memory.writeList a (leBytes n v) s.mem }

/-- Write bytes to device memory. -/
def State.memPutBytes (s : State) (a : Nat) (bs : List Byte) : State := { s with mem := Memory.writeList a bs s.mem }

/-! ### Time -/

/-- Time base `n`, as a timestamp (R278). -/
def State.stampOf (s : State) (n : Nat) : Stamp :=
  match s.tbs[n]? with
  | some t => ⟨t.sec, t.ns, t.frac / 2 ^ 24⟩
  | none => ⟨0, 0, 0⟩

/-- TB0 now. -/
def State.now (s : State) : Stamp := s.stampOf 0

/-! ### Event sources (R481 to R490) -/

/-- Range of the event-source map that a source lies in, b = 0 to 17 (R490, R499). -/
def sourceRange (n : Nat) : Nat :=
  if n < 96 then 0 else if n < 184 then 1 else if n < 200 then 2 else if n < 232 then 3 else if n < 240 then 4
  else if n < 304 then 5 else if n < 312 then 6 else if n < 328 then 7 else if n < 360 then 8 else if n < 392 then 9
  else if n < 408 then 10 else if n < 424 then 11 else if n < 440 then 12 else if n < 448 then 13 else if n < 464 then 14
  else if n < 496 then 15 else if n < 504 then 16 else 17

/-- The source is assigned in the event-source map (R124, R167, R194, R223, R271, R295, R331, R378, R423, R453, R480, R499). -/
def sourceAssigned (n : Nat) : Bool :=
  n < 198 || (200 ≤ n && n < 230) || (232 ≤ n && n < 237) || (240 ≤ n && n < 288) || (304 ≤ n && n < 323)
  || (328 ≤ n && n < 399) || (408 ≤ n && n < 416) || (424 ≤ n && n ≤ 433)
  || (440 ≤ n && n ≤ 455) || (464 ≤ n && n ≤ 478) || (496 ≤ n && n < 512)

/-- Send or hold the MSI-X message of vector `n` (R474, R476): held in the pending bit while masked or disabled; nothing
is kept while the link is down (R473). -/
def msixSend (n : Nat) (s : State) : State :=
  if s.flag .BUS_LINK_STAT_LINK_UP then
    if s.flag .BUS_LINK_STAT_BME && s.flag .BUS_LINK_STAT_MSIX_EN && !s.flag .BUS_LINK_STAT_FUNC_MASK
        && !s.flag .MSIX_CONTROL_MASK n then
      (s.emit (.msix n (s.get .MSIX_ADDR_LO n + 2 ^ 32 * s.get .MSIX_ADDR_HI n) (s.get .MSIX_DATA n))).put .MSIX_PENDING n 0
    else s.put .MSIX_PENDING n 1
  else s

/-- Raise a source (R483): PENDING, the time of the first raising while PENDING was clear, the steward interrupt, MSI-X. -/
def raiseSource (n : Nat) (s : State) : State :=
  let t := s.now
  let s := if s.flag .FLT_SRC_STAT_PENDING n then s
    else (s.put .FLT_SRC_TIME_NS n t.ns).put .FLT_SRC_TIME_SEC n t.sec
  let s := s.put .FLT_SRC_STAT_PENDING n 1
  let s := onlyIf (s.get .FLT_SRC_STEWARD n != 0) (·.emit (.stewardIrq (s.get .FLT_SRC_STEWARD n) n)) s
  onlyIf (s.flag .FLT_SRC_HOST n) (msixSend n) s

/-- Raise a source and open the coalescing window that WINDOW selects (R485). -/
def raiseAndOpen (n : Nat) (s : State) : State :=
  ((raiseSource n s).putFlag .SRC_WINDOW_OPEN n (s.get .FLT_SRC_WINDOW n != 0)).put .SRC_WINDOW_HIT n 0

/-- Enter an assertion in first-cause latch `b` (R490). -/
def latchFirst (b n : Nat) (s : State) : State :=
  if s.flag .FLT_LATCH_VALID b then s.bump .FLT_LATCH_OTHERS b
  else ((((s.put .FLT_LATCH_VALID b 1).put .FLT_LATCH_SOURCE b n).put .FLT_LATCH_OTHERS b 0).put .FLT_LATCH_NS b s.now.ns).put
    .FLT_LATCH_SEC b s.now.sec

/-- Recovery priority of a source (R491). -/
def recovPrio (n : Nat) : Nat :=
  if 408 ≤ n ∧ n ≤ 439 then 1
  else if 96 ≤ n ∧ n ≤ 231 then 2
  else if n ≤ 95 ∨ (240 ≤ n ∧ n ≤ 303) then 3
  else if 328 ≤ n ∧ n ≤ 391 then 4
  else if (232 ≤ n ∧ n ≤ 239) ∨ (392 ≤ n ∧ n ≤ 407) then 5
  else 6

/-- Insert a record by priority and then age (R491). -/
def insertRecov (r : RecovRec) : List RecovRec → List RecovRec
  | [] => [r]
  | d :: l => if recovPrio r.source < recovPrio d.source then r :: d :: l else d :: insertRecov r l

/-- Records held, the active one included (R493). -/
def State.recovDepth (s : State) : Nat := s.recovQueue.length + (if s.recovActive.isSome then 1 else 0)

/-- FLAGS of a log record (R497): bit 0 CONCURRENT, bit 1 PREEMPTED, bit 2 in Safe, bit 3 queue full. -/
def logFlags (concurrent preempted safe full : Bool) : Nat :=
  concurrent.toNat + 2 * preempted.toNat + 4 * safe.toNat + 8 * full.toNat

/-- The power state is Safe (R543). -/
def State.inSafe (s : State) : Bool := s.get .PWR_STAT_STATE == 5

/-- Put a fault-log record of a source in the waiting list, with the assertions since its last record (R497). -/
def queueLog (n cls flags : Nat) (always : Bool) (detail : List Nat) (s : State) : State :=
  let r : LogRec := ⟨n, cls, flags, s.now, s.get .SRC_SINCE_LOG n, always, detail⟩
  ({ s with logWaiting := s.logWaiting ++ [r] }).put .SRC_SINCE_LOG n 0

/-- Merge an assertion into the record of its source, where one is queued or active (R491). -/
def mergeRecov (n : Nat) (r : RecovRec) : RecovRec := if r.source = n then { r with count := satAdd 8 r.count 1 } else r

/-- The recovery record of an uncorrected-contained assertion (R491, R493, R494). -/
def recordRecovery (n : Nat) (detail : List Nat) (s : State) : State :=
  let held := s.recovQueue ++ s.recovActive.toList
  if held.any (·.source == n) then
    { s with recovQueue := s.recovQueue.map (mergeRecov n), recovActive := s.recovActive.map (mergeRecov n) }
  else
    let conc := s.recovActive.isSome || s.flag .FLT_RECOV_STAT_FROZEN
    if s.recovDepth < 64 then
      queueLog n 2 (logFlags conc false s.inSafe false) false detail
        { s with recovQueue := insertRecov ⟨n, 1, conc, false⟩ s.recovQueue }
    else
      queueLog n 2 (logFlags conc false s.inSafe true) false detail (s.bump .FLT_RECOV_STAT_OVERFLOW)

/-- A fatal assertion (R494, R495, R496): the first one latches FATAL, pre-empts and freezes the queue; every one is
logged. Entry into Safe is its own step. -/
def recordFatal (n : Nat) (detail : List Nat) (s : State) : State :=
  let first := !s.flag .FLT_STAT_FATAL
  let t := s.now
  let s := onlyIf first (fun s =>
    let s := (((s.put .FLT_STAT_FATAL 0 1).put .FLT_STAT_FATAL_SRC 0 n).put .FLT_FATAL_NS 0 t.ns).put .FLT_FATAL_SEC 0 t.sec
    let back := s.recovActive.toList.map (fun (r : RecovRec) => { r with preempted := true, concurrent := true })
    ({ s with recovQueue := back ++ s.recovQueue.map (fun (r : RecovRec) => { r with concurrent := true }), recovActive := none }).put
      .FLT_RECOV_STAT_FROZEN 0 1) s
  queueLog n 3 (logFlags false false s.inSafe false) true detail s

/-- Coalescing and storm control of one assertion (R485 to R488), `other` being the report of a storm on source 510. -/
def raiseControlled (n : Nat) (other : State → State) (s : State) : State :=
  let s := s.put .SRC_PERIOD_COUNT n (s.get .SRC_PERIOD_COUNT n + 1)
  if s.flag .FLT_SRC_STAT_STORM n then s
  else if s.get .FLT_SRC_STORM_N n != 0 && s.get .FLT_SRC_STORM_N n == s.get .SRC_PERIOD_COUNT n then
    other ((s.put .FLT_SRC_STAT_STORM n 1).put .SRC_WINDOW_HIT n 0)
  else if s.flag .FLT_SRC_MASK n then s
  else if s.flag .SRC_WINDOW_OPEN n then s.put .SRC_WINDOW_HIT n 1
  else raiseAndOpen n s

/-- One assertion of a source of a class, its latches, records and raising; `other` reports a storm. `forced` is R489. -/
def assertWith (other : State → State) (n cls : Nat) (forced : Bool) (detail : List Nat) (s : State) : State :=
  let s := ((s.bump .FLT_SRC_STAT_COUNT n).put .FLT_SRC_STAT_LAST_CLASS n cls).bump .SRC_SINCE_LOG n
  let s := onlyIf (!forced) (fun s => latchFirst 18 n (latchFirst (sourceRange n) n s)) s
  let s := onlyIf (!forced && cls == 2) (recordRecovery n detail) s
  let s := onlyIf (!forced && cls == 3) (recordFatal n detail) s
  raiseControlled n other s

/-- The report of a storm: source 510, a notice (R486). A storm of 510 itself reports nothing further. -/
def assertStorm (s : State) : State := assertWith id 510 0 false [] s

/-- Assert a source with a class and the DETAIL words of its log record (R481, R482). -/
def assertDetail (n cls : Nat) (detail : List Nat) (s : State) : State := assertWith assertStorm n cls false detail s

/-- Assert a source with a class (R481, R482). -/
def assertEv (n cls : Nat) (s : State) : State := assertDetail n cls [] s

/-- Assert a source as a notice. -/
def notice (n : Nat) (s : State) : State := assertEv n 0 s

/-! ### Refusals (R78) -/

/-- WORD where no register is named. -/
def noWord : Nat := 0xFFFFFF

/-- Record a refusal and raise source 506 (R78). -/
def refuse (code word : Nat) (m : Master) (s : State) : State :=
  notice 506 ((((s.put .GEN_REFUSE_LOG0_REASON 0 code).put .GEN_REFUSE_LOG0_WORD 0 word).bump .GEN_REFUSE_LOG1_COUNT).put
    .GEN_REFUSE_LOG1_MASTER 0 m.refuseCode)

/-- A master of a MASTER code of GEN_REFUSE_LOG1. -/
def masterOf (code : Nat) : Master :=
  match code with
  | 0 => .st 0
  | 1 => .host
  | 2 => .stRom
  | 3 => .debug
  | _ => .agent 0

/-- A refusal that a hardware agent decides without a register write (R78). -/
def refuseAgent (code : Nat) (s : State) : State := refuse code noWord (.agent 0) s

/-! ### Units -/

/-- A unit's enable bit reads 1. -/
def State.en (s : State) (k : UnitKind) (i : Nat := 0) : Bool := s.flag .UNIT_EN (k.code i)

/-- A unit's last check was accepted and it runs (ENABLED, R74). -/
def State.running (s : State) (k : UnitKind) (i : Nat := 0) : Bool := s.flag .CHECK_ENABLED (k.code i)

/-! ### The bus matrix -/

/-- Answer an access. -/
def State.respond (s : State) (data : Nat) (err : Bool) : State := { s with busResp := ⟨data, err⟩ }

/-- Internal address of a BAR0 offset (R13). -/
def barBase : Nat := 0x100000000

/-- The default-target error response (R459, R479): the first error since the count was read fills the logs. -/
def busError (m : Master) (addr : Nat) (write : Bool) (cause : Nat) (s : State) : State :=
  let s := if s.get .BUS_ERR_COUNT == 0 then
      ((((s.put .BUS_ERR_LOG0 0 addr).put .BUS_ERR_LOG1_MASTER 0 m.busCode).putFlag .BUS_ERR_LOG1_WRITE 0 write).put
        .BUS_ERR_LOG1_CAUSE 0 cause).put .BUS_ERR_LOG1_ADDR_HI 0 (addr / 2 ^ 32)
    else s
  notice 408 ((s.bump .BUS_ERR_COUNT).respond 0 true)

/-- A lost transaction (R466, R479). -/
def busLost (m : Master) (b : Burst) (s : State) : State :=
  let s := if s.get .BUS_LOST_COUNT == 0 then
      (((((s.put .BUS_LOST_LOG0 0 b.addr).put .BUS_LOST_LOG1_MASTER 0 m.busCode).putFlag .BUS_LOST_LOG1_WRITE 0 b.write).put
        .BUS_LOST_LOG1_LEN 0 b.len).put .BUS_LOST_LOG1_DONE 0 b.done).put .BUS_LOST_LOG1_ADDR_HI 0 (b.addr / 2 ^ 32)
    else s
  notice 409 (s.bump .BUS_LOST_COUNT)

end Sys2Proof.Machine
end

