-- ==== Sys2Proof/Machine/Regs.lean ====
section
/-!
DEFINITION. The register side of the bus matrix: finding the register at an offset, the gate every access passes, and the
plain effect of a read or a write by the access codes.
-/
namespace Sys2Proof.Machine

/-- A register found at an offset: its description and its index in its array. -/
structure RegRef where
  desc : RegDesc
  idx : Nat
deriving DecidableEq, Repr

/-- Index of an offset in nested arrays of strides and counts, outermost first; none between the elements. -/
def dimIndex : Nat → Nat → List (Nat × Nat) → Option Nat
  | acc, rel, [] => if rel = 0 then some acc else none
  | acc, rel, (stride, count) :: ds =>
    if rel / stride < count then dimIndex (acc * count + rel / stride) (rel % stride) ds else none

/-- The register of a block at an offset in the block. -/
def findReg (off : Nat) : List RegDesc → Option RegRef
  | [] => none
  | d :: l =>
    if d.off ≤ off then
      match dimIndex 0 (off - d.off) d.dims with
      | some i => some ⟨d, d.idx0 + i⟩
      | none => findReg off l
    else findReg off l

/-- The register at a BAR0 offset (R457). -/
def lookupReg (off : Nat) : Option RegRef :=
  allBlocks.findSome? (fun b => if b.1 ≤ off ∧ off < b.2.1 then findReg (off - b.1) b.2.2 else none)

/-- The number of the unit whose enable bit governs a register. -/
def RegRef.unitCode (r : RegRef) : Option Nat :=
  r.desc.unit.map (fun u => u.1.code (if u.2 = 0 then 0 else r.idx / u.2))

/-- Index under which a field of the register is stored: the unit's number for the fields of R74. -/
def RegRef.fieldIdx (r : RegRef) (f : Fld) : Nat :=
  match f with
  | .UNIT_EN | .CHECK_BUSY | .CHECK_ENABLED | .CHECK_REFUSALS | .CHECK_LAST_REASON => r.unitCode.getD 0
  | _ => r.idx

/-- WORD of a BAR0 offset (R78). -/
def wordOf (off : Nat) : Nat := off / 4

/-- Block number of a BAR0 offset in the order of HOST_WR_DENY (R457, R540). -/
def blockNumber (off : Nat) : Nat :=
  if off < 0x10000 then 0 else if off < 0x20000 then 1 else if off < 0x200000 then 2 else if off < 0x280000 then 3
  else if off < 0x300000 then 4 else if off < 0x400000 then 5 else if off < 0x800000 then 6 else if off < 0x840000 then 7
  else if off < 0x900000 then 8 else if off < 0xA00000 then 9 else if off < 0x1200000 then 10 else if off < 0x1300000 then 11
  else if off < 0x1340000 then 12 else if off < 0x1380000 then 13 else if off < 0x13C0000 then 14
  else if off < 0x1400000 then 15 else if off < 0x1440000 then 16 else if off < 0x1480000 then 17 else 18

/-- Debug access in force (R554): in Provisioned and Deployed, Boot is capped at Observe. -/
def State.debugLevel (s : State) : Nat :=
  let l := s.get .SEC_DBG_LEVEL
  if (s.inForce.lifecycle == 1 || s.inForce.lifecycle == 2) && s.get .PWR_STAT_STATE == 1 then min l 1 else l

/-- The device has handed over (PHASE 0x6). -/
def State.handedOver (s : State) : Bool := s.get .GEN_BOOT_STAT_PHASE == 6

/-- The offset lies in the MSI-X table or pending-bit array (R475). -/
def inMsix (off : Nat) : Bool := 0x8000 ≤ off && off < 0xA040

/-- Lane `l` is fitted: media lanes are 0 to 95, fabric lanes 96 to 183 (R7, R8). -/
def lanePresent (v : Variant) (l : Nat) : Bool :=
  l < v.mediaLanes || (96 ≤ l && l < 184 && (l - 96) % 8 < v.fabPerPeer)

/-- Kind of audio port `p` (R338): 0 TDM, 1 PDM, 2 MADI, 3 embedding window, 4 packet port. -/
def portKind (p : Nat) : Nat := if p < 16 then 0 else if p < 80 then 1 else if p < 176 then 2 else if p < 272 then 3 else 4

/-- Port `p` is fitted (R8, R338). -/
def portPresent (v : Variant) (p : Nat) : Bool :=
  p < 784 && (match portKind p with
    | 1 => bitsAt v.cap1 9 1 == 1
    | 2 => p - 80 < v.mediaLanes
    | 3 => p - 176 < v.mediaLanes
    | _ => true)

/-- Windows of units numbered by media lane, core, head or stack: base, stride, windows in the map, windows of units that
are fitted (R7, R8). -/
def fittedWindows (v : Variant) : List (Nat × Nat × Nat × Nat) :=
  [(0x101000, 16, 96, v.mediaLanes), (0x102000, 16, 96, v.mediaLanes), (0x103000, 32, 96, v.mediaLanes),
   (0x104000, 32, 96, v.mediaLanes), (0x281000, 128, 96, v.mediaLanes), (0x284000, 16, 96, v.mediaLanes),
   (0x360100, 4, 24, v.mediaLanes / 4), (0x410000, 0x400, 96, v.mediaLanes), (0x488000, 0x2000, 96, v.mediaLanes),
   (0x802000, 16, 96, v.mediaLanes), (0xA00000, 0x40000, 32, v.dspCores), (0x1280000, 0x20000, 4, v.heads),
   (0x1340400, 16, 2, v.hbmStacks)]

/-- The offset lies in the register space of a unit, lane, core, head or stack that the part does not have (R7, R8). -/
def regAbsent (v : Variant) (off : Nat) : Bool :=
  (fittedWindows v).any (fun w => w.1 + w.2.1 * w.2.2.2 ≤ off && off < w.1 + w.2.1 * w.2.2.1)
    || (0x300000 ≤ off && off < 0x35C000 && !lanePresent v ((off - 0x300000) / 0x800))
    || (0x360200 ≤ off && off < 0x360258 && !lanePresent v (96 + (off - 0x360200) / 4 * 4))
    || (0x960000 ≤ off && off < 0x96C400 && !portPresent v ((off - 0x960000) / 64))
    || (0x1200000 ≤ off && off < 0x1300000 && !v.hasCmp)

/-- The host reaches the crosspoint die only as a PCIe endpoint: its accesses arrive while the link is up and the endpoint is in
D0 (R1, R470, R473). -/
def State.arrives (s : State) (m : Master) : Bool :=
  m != .host || (s.flag .BUS_LINK_STAT_LINK_UP && s.get .BUS_LINK_STAT_DSTATE == 0)

/-- Not a cause of BUS_ERR_LOG1: the access never reaches the matrix, so nothing answers it and nothing changes. -/
def notCarried : Nat := 16

/-- Why an access to a register offset is refused before it reaches the register, as a cause of BUS_ERR_LOG1: alignment
(R14), before hand-over (R53), debug level (R550), security policy (R541), an absent unit (R7); `notCarried` where it does not
arrive (R1). -/
def regGate (m : Master) (off size : Nat) (write : Bool) (s : State) : Option Nat :=
  let early := !s.handedOver && 0x20000 ≤ off
  let byMaster : Option Nat := match m with
    | .host =>
      if early then some 4
      else if write && s.handedOver && bitsAt (s.get .SEC_POLICY0) (blockNumber off) 1 == 1 && !inMsix off then some 3
      else none
    | .debug =>
      if blockNumber off = 15 then none
      else if write then (if s.debugLevel < 2 ∨ early then some 7 else none)
      else (if s.debugLevel < 1 then some 7 else none)
    | _ => none
  if !s.arrives m then some notCarried
  else if size ≠ 4 ∨ off % 4 ≠ 0 then some 2
  else byMaster.orElse (fun _ => if regAbsent s.variant off then some 1 else none)

/-- An access that is turned away gets the error response; one denied by the security policy also asserts source 454 (R541); one
that does not arrive (R1) leaves no trace. -/
def denyAccess (m : Master) (addr : Nat) (write : Bool) (cause : Nat) (s : State) : State :=
  if cause = notCarried then s
  else onlyIf (cause == 3) (notice 454) (busError m addr write cause s)

/-- A register write that passes the gate has an effect; another gets the default-target error response (R459). -/
def writeGated (m : Master) (off : Nat) (eff : State → State) (s : State) : State :=
  match regGate m off 4 true s with
  | some c => denyAccess m (barBase + off) true c s
  | none => eff (s.respond 0 false)

/-- A register read that passes the gate. -/
def readGated (m : Master) (off : Nat) (eff : State → State) (s : State) : State :=
  match regGate m off 4 false s with
  | some c => denyAccess m (barBase + off) false c s
  | none => eff s

/-- The bits of a word that fall in a field. -/
def fieldOf (f : Fld) (v : Nat) : Nat := bitsAt v f.info.lo f.info.w

/-- New value of one field under a plain write (R15, R16): `locked` says that the unit's enable bit is set, `hw` holds the
bits hardware sets in the same cycle. -/
def fieldAfterWrite (f : Fld) (locked : Bool) (old v hw : Nat) : Nat :=
  match f.info.acc with
  | .RW => v
  | .RWL => if locked then old else v
  | .W1S => old ||| v
  | .W1C => (old &&& (v ^^^ (2 ^ f.info.w - 1))) ||| hw
  | .RO | .WO | .RC => old

/-- A plain write to every field of a register but its enable bit. -/
def writeFields (r : RegRef) (v hw : Nat) (s : State) : State :=
  let locked := match r.unitCode with
    | some u => s.flag .UNIT_EN u
    | none => false
  forAll r.desc.flds (fun f s =>
    if f = .UNIT_EN then s
    else s.put f (r.fieldIdx f) (fieldAfterWrite f locked (s.get f (r.fieldIdx f)) (fieldOf f v) (fieldOf f hw))) s

/-- A field that takes effect at once would receive a reserved or out-of-range value (R598). -/
def reservedValue (r : RegRef) (v : Nat) : Bool :=
  r.desc.flds.any (fun f => f.info.acc == .RW && !f.legal (fieldOf f v))

/-- A plain register write (R15, R598). -/
def plainWrite (m : Master) (off v hw : Nat) (r : RegRef) (s : State) : State :=
  if reservedValue r v then refuse 0x04 (wordOf off) m s else writeFields r v hw s

/-- The effect of a write to the register at an offset by its access codes, `hw` being the bits that hardware sets in the same
cycle (R15, R16). -/
def writeWordHw (m : Master) (off v hw : Nat) (s : State) : State :=
  match lookupReg off with
  | some r => plainWrite m off v hw r s
  | none => s

/-- `writeWordHw` in a cycle in which hardware sets no bit of the register. -/
def writeWord (m : Master) (off v : Nat) (s : State) : State := writeWordHw m off v 0 s

/-- The word of a register as its fields are stored (R15): write-only fields read as zero. -/
def State.regWord (s : State) (r : RegRef) : Nat :=
  (r.desc.flds.map (fun f => if f.info.acc == .WO then 0 else s.get f (r.fieldIdx f) * 2 ^ f.info.lo)).sum

/-- The word stored at a BAR0 offset, zero where there is no register. -/
def State.wordAt (s : State) (off : Nat) : Nat := ((lookupReg off).map s.regWord).getD 0

/-- Clear every entry of a field. -/
def State.clearAll (s : State) (f : Fld) : State := { s with regs := s.regs.filter (fun c => c.fld != f) }

/-- Set cause bits of a block and assert its source where a bit that was clear and is enabled is set (R481). -/
def setCauses (evt en : Fld) (i mask src cls : Nat) (s : State) : State :=
  let fresh := mask &&& (s.get evt i ^^^ (s.get evt i ||| mask))
  onlyIf (fresh &&& s.get en i != 0) (assertEv src cls) (s.put evt i (s.get evt i ||| mask))

end Sys2Proof.Machine
end

