-- ==== Sys2Proof/Machine/Faults.lean ====
section
/-!
DEFINITION. Faults, events and check-value units: windows and storms, forcing, the recovery queue, HBM and the CRC units
(R481 to R506).
-/
namespace Sys2Proof.Machine

open Host (Outcome)

/-- Offset of word 0 of source entry `n` (R505). -/
def srcOff (n : Nat) : Nat := 0x1350000 + 16 * n

/-- HBM stack `k` is fitted (R7, R8). -/
def State.hasStack (s : State) (k : Nat) : Bool := k < s.variant.hbmStacks

/-- The source is assigned and its unit is fitted (R7, R8, R489, R499): the lanes, the MACs of the media quads, the DSP cores, the
composition unit and its heads, the HBM stacks. -/
def State.sourceExists (s : State) (n : Nat) : Bool :=
  sourceAssigned n
    && (184 ≤ n || lanePresent s.variant n)
    && (n < 240 || 264 ≤ n || n - 240 < s.variant.mediaLanes / 4)
    && (n < 392 || 396 ≤ n || n - 392 < s.variant.heads)
    && (n < 360 || 392 ≤ n || n - 360 < s.variant.dspCores)
    && (n < 392 || 408 ≤ n || s.variant.hasCmp)
    && (n < 424 || 434 ≤ n || s.hasStack (n % 2))

/-- COALESCE_WINDOW_CLOSE (R485, R486, R488). -/
def closeWindow (n : Nat) (s : State) : State :=
  if s.flag .SRC_WINDOW_OPEN n then
    if s.flag .SRC_WINDOW_HIT n && !s.flag .FLT_SRC_STAT_STORM n && !s.flag .FLT_SRC_MASK n then raiseAndOpen n s
    else (s.put .SRC_WINDOW_OPEN n 0).put .SRC_WINDOW_HIT n 0
  else s

/-- COALESCE_WINDOW_CLOSE. -/
def execCoalesceWindowClose (n : Nat) (s : State) : Outcome State Fault Refusal := .next (closeWindow n s)

/-- STORM_PERIOD_END: every source's count of the period restarts (R486). -/
def execStormPeriodEnd (s : State) : Outcome State Fault Refusal := .next (s.clearAll .SRC_PERIOD_COUNT)

/-- Release a storm-masked source (R487): no window is opened, and one left open from before the storm is closed. -/
def releaseStorm (n : Nat) (s : State) : State :=
  ((s.put .FLT_SRC_STAT_STORM n 0).put .SRC_WINDOW_OPEN n 0).put .SRC_WINDOW_HIT n 0

/-- A write of word 1 of a source entry with STORM set: the source is released and the write's other bits clear, but for the bits
`hw` that hardware sets in the same cycle (R16, R487). -/
def stormWord (m : Master) (n v hw : Nat) (s : State) : State :=
  writeWordHw m (srcOff n + 4) v hw (onlyIf (s.flag .FLT_SRC_STAT_STORM n) (releaseStorm n) s)

/-- STORM_RELEASE: a write of 1 to STORM, with whatever other bits the write clears (R487). -/
def execStormRelease (m : Master) (n v : Nat) (s : State) : Outcome State Fault Refusal :=
  .next (writeGated m (srcOff n + 4) (stormWord m n (v ||| 2 ^ 29) 0) s)

/-- STORM_RELEASE_TIMEOUT (R487): the seconds since the last assertion are over. -/
def execStormReleaseTimeout (n : Nat) (s : State) : Outcome State Fault Refusal :=
  .next (onlyIf (s.flag .FLT_SRC_STAT_STORM n && s.get .FLT_CTRL_STORM_RELEASE != 0) (releaseStorm n) s)

/-- A forced assertion (R489). -/
def forceSource (n : Nat) (s : State) : State :=
  assertWith assertStorm n 0 true [] (s.put .FLT_SRC_STAT_FORCED n 1)

/-- FORCE: a write of word 0 of a source entry with FORCE set (R489). -/
def execForce (m : Master) (n v : Nat) (s : State) : Outcome State Fault Refusal :=
  .next (writeGated m (srcOff n) (fun s =>
    onlyIf (s.sourceExists n) (fun s => forceSource n (writeWord m (srcOff n) v s)) s) s)

/-- Offset of FLT_RECOV_CMD (R505). -/
def recovCmdOff : Nat := 0x1340024

/-- TAKE of the recovery queue (R492, R494). -/
def takeRecovery (m : Master) (v : Nat) (s : State) : State :=
  let bad := fun c => refuse c (wordOf recovCmdOff) m s
  if s.flag .FLT_RECOV_STAT_FROZEN then bad 0x08
  else if bitsAt v 30 1 = 1 ∨ s.recovActive.isSome then bad 0x04
  else match s.recovQueue with
    | r :: rest => if r.source = bitsAt v 0 9 then { s with recovQueue := rest, recovActive := some r } else bad 0x04
    | [] => bad 0x04

/-- DONE of the recovery queue (R492, R494). -/
def doneRecovery (m : Master) (v : Nat) (s : State) : State :=
  let bad := fun c => refuse c (wordOf recovCmdOff) m s
  if s.flag .FLT_RECOV_STAT_FROZEN then bad 0x08
  else if bitsAt v 31 1 = 1 then bad 0x04
  else match s.recovActive with
    | some r => if r.source = bitsAt v 0 9 then { s with recovActive := none }.put .FLT_RECOV_STAT_OVERDUE 0 0 else bad 0x04
    | none => bad 0x04

/-- RECOVERING: a record is held whose source lies outside the twin range (R493). -/
def State.recovering (s : State) : Bool :=
  (s.recovQueue ++ s.recovActive.toList).any (fun r => r.source < 440 || 447 < r.source)

/-- RECOVERY_TAKE (R492). -/
def execRecoveryTake (m : Master) (v : Nat) (s : State) : Outcome State Fault Refusal :=
  .next (writeGated m recovCmdOff (takeRecovery m v) s)

/-- RECOVERY_OVERDUE (R492). -/
def execRecoveryOverdue (s : State) : Outcome State Fault Refusal :=
  .next (onlyIf (s.recovActive.isSome && s.get .FLT_RECOV_LIMIT != 0 && !s.flag .FLT_RECOV_STAT_OVERDUE)
    (fun s => notice 509 (s.put .FLT_RECOV_STAT_OVERDUE 0 1)) s)

/-- The power state is Quiet (R543). -/
def State.inQuiet (s : State) : Bool := s.get .PWR_STAT_STATE == 4

/-- HBM stack `k` runs: fitted, trained, not failed and not in self-refresh (R498, R545). -/
def State.stackRuns (s : State) (k : Nat) : Bool :=
  s.hasStack k && s.boot.hbmReady && !s.flag .FLT_HBM_FAILED k && !s.inQuiet

/-- SCRUB_PASS_COMPLETE (R498). -/
def execScrubPassComplete (k : Nat) (s : State) : Outcome State Fault Refusal :=
  .next (onlyIf (s.stackRuns k) (fun s => notice (432 + k) ((s.inc .FLT_HBM_SCRUBS k).put .SCRUB_POS k 0)) s)

/-- A stack fails (R498): a training failure leaves the address words unchanged, as does a run-time failure, whose words
were recorded one by one. -/
def failStack (k : Nat) (s : State) : State := assertEv (428 + k) 3 (s.put .FLT_HBM_FAILED k 1)

/-- HBM_STACK_FAILED (R498). -/
def execHbmStackFailed (k : Nat) (training : Bool) (s : State) : Outcome State Fault Refusal :=
  .next (onlyIf (s.hasStack k && (training || s.boot.hbmReady) && !s.flag .FLT_HBM_FAILED k) (failStack k) s)

/-- HBM_TEMP_HIGH (R499, R597): the refresh rate doubles and the notice is raised. -/
def execHbmTempHigh (k : Nat) (s : State) : Outcome State Fault Refusal :=
  .next (onlyIf (s.hasStack k) (fun s => notice (430 + k) (s.put .HBM_HOT k 1)) s)

/-- Address of byte `o` of stack `k` (R456). -/
def hbmAddr (k o : Nat) : Nat := 0x1000000000 + k * 0x400000000 + o

/-- An uncorrectable word of a stack (R498): counted, its address recorded, an uncorrected-contained fault. -/
def hbmUncorrectable (k a : Nat) (s : State) : State :=
  assertDetail (426 + k) 2 [a % 2 ^ 32, a / 2 ^ 32 % 2 ^ 16]
    (((s.bump .FLT_HBM_UNCOR k).put .FLT_HBM_ADDR_LO k a).put .FLT_HBM_ADDR_HI k (a / 2 ^ 32))

/-- A corrected word of a stack (R498). -/
def hbmCorrected (k : Nat) (s : State) : State := assertEv (424 + k) 1 (s.bump .FLT_HBM_COR k)

/-- SCRUB_READ: the stack's next 256-bit word in ascending order (R498). -/
def execScrubRead (k : Nat) (ecc : EccOutcome) (s : State) : Outcome State Fault Refusal :=
  .next (onlyIf (s.stackRuns k) (fun s =>
    let a := hbmAddr k (s.get .SCRUB_POS k)
    let s := s.put .SCRUB_POS k (s.get .SCRUB_POS k + 32)
    match ecc with
    | .clean => s
    | .corrected => hbmCorrected k s
    | .uncorrectable => hbmUncorrectable k a s) s)

/-! ### Check-value units (R500 to R504) -/

/-- One bit into a CRC register of width `w` that shifts right (reflected polynomial `p`). -/
def crcBitR (p : Nat) (bit reg : Nat) : Nat :=
  let x := (reg ^^^ bit) % 2
  (reg / 2) ^^^ (if x = 1 then p else 0)

/-- One bit into a CRC register of width `w` that shifts left (polynomial `p`). -/
def crcBitL (w p : Nat) (bit reg : Nat) : Nat :=
  let x := (reg / 2 ^ (w - 1) ^^^ bit) % 2
  (reg * 2 % 2 ^ w) ^^^ (if x = 1 then p else 0)

/-- The `n` low bits of `v`, least significant first. -/
def bitsLsb : Nat → Nat → List Nat
  | 0, _ => []
  | n + 1, v => v % 2 :: bitsLsb n (v / 2)

/-- CRC-18 of ST 425, reflected form of x¹⁸ + x⁵ + x⁴ + 1, over samples of a depth fed LSB first (R501). -/
def crc18 (depth : Nat) (samples : List Nat) : Nat :=
  samples.foldl (fun r v => (bitsLsb depth v).foldl (fun r b => crcBitR 0x23000 b r) r) 0

/-- Reflected CRC over bytes, with initial value and final XOR of all ones (R501). -/
def crc32Of (p : Nat) (bs : List Byte) : Nat :=
  (bs.foldl (fun r b => (bitsLsb 8 b.toNat).foldl (fun r x => crcBitR p x r) r) 0xFFFFFFFF) ^^^ 0xFFFFFFFF

/-- CRC-32 of IEEE 802.3 (R501). -/
def crc32 (bs : List Byte) : Nat := crc32Of 0xEDB88320 bs

/-- CRC-32C (R501). -/
def crc32c (bs : List Byte) : Nat := crc32Of 0x82F63B78 bs

/-- CRC-16-CCITT, initial value 0xFFFF, no reflection (R22, R501). -/
def crc16 (bs : List Byte) : Nat :=
  bs.foldl (fun r b => (bitsLsb 8 b.toNat).reverse.foldl (fun r x => crcBitL 16 0x1021 x r) r) 0xFFFF

/-- Bytes of one datum of a kind: a memory byte, a video sample as a 16-bit word, an audio word as four bytes (R501). -/
def chkBytes (kind v : Nat) : List Byte :=
  if kind = 1 then leBytes 1 v else if kind = 5 ∨ kind = 6 then leBytes 4 v else leBytes 2 v

/-- The CRC of a period's data (R500, R501): `depth` is the samples' depth. -/
def chkCrc (kind poly depth : Nat) (data : List Nat) : Nat :=
  if poly = 0 then crc18 depth data
  else
    let bs := data.flatMap (chkBytes kind)
    if poly = 1 then crc32 bs else if poly = 2 then crc32c bs else crc16 bs

/-- Set causes of CHK_EVT and raise source 496 + u (R504). Bits: 0 MISMATCH, 1 FREEZE, 2 THAW, 3 GAP, 4 DONE. -/
def chkCause (u bit : Nat) (s : State) : State := setCauses .CHK_EVT .CHK_EVT_EN u (2 ^ bit) (496 + u) 0 s

/-- COMPARE judges a result (R502). -/
def chkJudge (u res : Nat) (s : State) : State :=
  let prev := s.get .CHK_RESULT u
  let have_ := s.flag .CHK_HAVE u
  let same := have_ && prev == res
  let s := ((s.put .CHK_RESULT u res).put .CHK_HAVE u 1).put .CHK_STREAK u (if same then satAdd 8 (s.get .CHK_STREAK u) 1 else 0)
  match s.get .CHK_CTRL_COMPARE u with
  | 1 => onlyIf (res != s.get .CHK_EXPECT u) (fun s => chkCause u 0 (s.bump .CHK_STAT_MISMATCHES u)) s
  | 2 =>
    if same then
      onlyIf (s.get .CHK_CTRL_FREEZE_N u ≤ s.get .CHK_STREAK u && !s.flag .CHK_STAT_FROZEN u)
        (fun s => chkCause u 1 (s.put .CHK_STAT_FROZEN u 1)) s
    else onlyIf (s.flag .CHK_STAT_FROZEN u) (fun s => chkCause u 2 (s.put .CHK_STAT_FROZEN u 0)) s
  | 3 => onlyIf (have_ && !same) (fun s => chkCause u 0 (s.bump .CHK_STAT_MISMATCHES u)) s
  | _ => s

/-- CHK_PASS_DONE (R502, R503): the CRC over LEN bytes from ADDR is judged as the one result; a pass that meets an
uncorrectable word ends without one. -/
def execChkPassDone (u : Nat) (uncorrectable : Bool) (s : State) : Outcome State Fault Refusal :=
  .next (onlyIf (s.running .chkUnit u && s.get .CHK_CTRL_KIND u == 1 && s.flag .CHK_STAT_BUSY u) (fun s =>
    let s := s.put .CHK_STAT_BUSY u 0
    if uncorrectable then chkCause u 4 (s.put .CHK_STAT_MEM_ERR u 1)
    else
      let a := s.get .CHK_ADDR_LO u + 2 ^ 32 * s.get .CHK_ADDR_HI u
      let bs := Memory.readList s.mem a (s.get .CHK_LEN u)
      let r := chkCrc 1 (s.get .CHK_CTRL_POLY u) 8 (bs.map (·.toNat))
      chkCause u 4 (chkJudge u r (s.put .CHK_RESULT_ID u 0))) s)

end Sys2Proof.Machine
end

