-- ==== Sys2Proof/Machine/Bus.lean ====
section
/-!
DEFINITION. Control interconnect and host link: the internal address map, memory accesses and their gates, the endpoint,
MSI-X and the steward mailboxes (R455 to R480).
-/
namespace Sys2Proof.Machine

open Host (Outcome)

/-- What an internal address reaches (R456). -/
inductive Target where
  | bootRom
  | sram (offset : Nat)
  | mailbox (offset : Nat)
  | register (offset : Nat)
  | hbm (stack : Nat) (addr : Nat)
  | nothing
deriving DecidableEq, Repr

/-- The internal address map (R456). The host reaches working SRAM through BAR4 whatever REMAP holds (R471). -/
def State.target (s : State) (m : Master) (a : Nat) : Target :=
  let remap := s.flag .GEN_CTRL_REMAP || m == .host
  if a < 0x40000 then (if remap then .sram a else .bootRom)
  else if a < 0xC00000 then (if remap then .sram a else .nothing)
  else if 0x4000000 ≤ a ∧ a < 0x4C00000 then
    (if remap then (if a < 0x4040000 ∧ m ≠ .host then .bootRom else .nothing) else .sram (a - 0x4000000))
  else if 0x5000000 ≤ a ∧ a < 0x5010000 then .mailbox (a - 0x5000000)
  else if barBase ≤ a ∧ a < barBase + 0x4000000 then .register (a - barBase)
  else if 0x1000000000 ≤ a ∧ a < 0x1400000000 then .hbm 0 a
  else if 0x1400000000 ≤ a ∧ a < 0x1800000000 then .hbm 1 a
  else .nothing

/-- Address under which `State.mem` holds a byte of a target: SRAM and mailboxes by their REMAP = 1 address. -/
def Target.key : Target → Nat
  | .sram o => o
  | .mailbox o => 0x5000000 + o
  | .hbm _ a => a
  | _ => 0

/-- An access of `n` bytes at `a` overlaps one of the regions. -/
def overlaps (rs : List (Nat × Nat)) (a n : Nat) : Bool := rs.any (fun r => a < r.1 + r.2 && r.1 < a + n)

/-- Why the target itself turns an access away: unmapped (0), absent or in self-refresh (1), write-protected (5). -/
def State.targetCause (s : State) (t : Target) (n : Nat) (write : Bool) : Option Nat :=
  match t with
  | .nothing => some 0
  | .bootRom => if write then some 0 else none
  | .hbm k a =>
    if !s.hasStack k || s.inQuiet then some 1
    else if write && overlaps s.protected_ a n then some 5 else none
  | .sram o => if write && overlaps s.protected_ o n then some 5 else none
  | _ => none

/-- Why an access to memory or a mailbox is turned away (R53, R369, R446, R459, R541, R542, R550). -/
def State.memGate (s : State) (m : Master) (a n : Nat) (write : Bool) : Option Nat :=
  let t := s.target m a
  let secret := !write && overlaps s.confidential t.key n
  let flags := s.get .SEC_POLICY1_FLAGS
  let byMaster : Option Nat := match m with
    | .host =>
      if !s.handedOver then some 4
      else match t with
        | .hbm _ _ => if (write && flags % 2 == 1) || secret then some 3 else none
        | .sram _ => if flags / 2 % 2 == 1 || secret then some 3 else none
        | _ => none
    | .debug =>
      if s.debugLevel < (if write then 2 else 1) ∨ (write ∧ !s.handedOver) then some 7
      else if secret && s.debugLevel < 3 then some 7 else none
    | _ => none
  if !s.arrives m then some notCarried else byMaster.orElse (fun _ => s.targetCause t n write)

/-- What an error in a word that is read counts and raises (R468, R498). -/
def eccNote (t : Target) (ecc : EccOutcome) (s : State) : State :=
  match t, ecc with
  | .sram _, .corrected | .mailbox _, .corrected => notice 411 (s.bump .BUS_SRAM_ECC_COR)
  | .sram o, .uncorrectable => assertDetail 412 2 [o] ((s.bump .BUS_SRAM_ECC_UNCOR).put .BUS_SRAM_ADDR 0 o)
  | .mailbox o, .uncorrectable =>
    assertDetail 412 2 [0x5000000 + o] ((s.bump .BUS_SRAM_ECC_UNCOR).put .BUS_SRAM_ADDR 0 (0x5000000 + o))
  | .hbm k _, .corrected => hbmCorrected k s
  | .hbm k a, .uncorrectable => hbmUncorrectable k a s
  | _, _ => s

/-- The target stores its words under error correction (R468, R498). -/
def Target.coded : Target → Bool
  | .sram _ | .mailbox _ | .hbm _ _ => true
  | _ => false

/-- The answer to a read: the data, an error where the word cannot be corrected (R468, R498). -/
def eccRead (t : Target) (ecc : EccOutcome) (data : Nat) (s : State) : State :=
  (eccNote t ecc s).respond data (t.coded && ecc == .uncorrectable)

/-- TARGET_TIMEOUT (R465). -/
def execTargetTimeout (m : Master) (addr : Nat) (write : Bool) (s : State) : Outcome State Fault Refusal :=
  .next (notice 410 (busError m addr write 6 s))

/-- MASTER_RESET with a burst in progress (R466): the burst is completed with its strobes clear, so that no byte changes
(R467), and the lost transaction is recorded. -/
def execMasterReset (m : Master) (b : Burst) (s : State) : Outcome State Fault Refusal := .next (busLost m b s)

/-- The endpoint's own state returns to its reset values (R473). -/
def endpointReset (s : State) : State :=
  let s := ((((s.clearAll .MSIX_ADDR_LO).clearAll .MSIX_ADDR_HI).clearAll .MSIX_DATA).clearAll .MSIX_CONTROL_MASK).clearAll
    .MSIX_PENDING
  (((s.put .BUS_LINK_STAT_BME 0 0).put .BUS_LINK_STAT_MSIX_EN 0 0).put .BUS_LINK_STAT_FUNC_MASK 0 0).put
    .BUS_LINK_STAT_DSTATE 0 0

/-- The host master resets (R466, R473): the endpoint returns to reset and a burst in progress is recorded as lost. -/
def hostReset (b : Option Burst) (s : State) : State :=
  match b with
  | some b => busLost .host b (endpointReset s)
  | none => endpointReset s

/-- LINK_TRAINED (R469, R480). -/
def execLinkTrained (repaired : Nat) (s : State) : Outcome State Fault Refusal :=
  .next (notice 413 ((s.put .BUS_LINK_STAT_LINK_UP 0 1).put .BUS_LINK_STAT_REPAIRED 0 repaired))

/-- LINK_RETRAIN (R469). -/
def execLinkRetrain (repaired : Nat) (s : State) : Outcome State Fault Refusal :=
  .next (notice 413 ((s.bump .BUS_LINK_COUNT_RETRAINS).put .BUS_LINK_STAT_REPAIRED 0 repaired))

/-- LINK_DOWN (R473, R479, R480). -/
def execLinkDown (b : Option Burst) (s : State) : Outcome State Fault Refusal :=
  .next (notice 413 ((hostReset b s).bump .BUS_LINK_COUNT_RETRAINS |>.put .BUS_LINK_STAT_LINK_UP 0 0))

/-- HOT_RESET (R473). -/
def execHotReset (b : Option Burst) (s : State) : Outcome State Fault Refusal := .next (hostReset b s)

/-- D3HOT_ENTRY (R473): the host asks for it over the link (R1). -/
def execD3hotEntry (b : Option Burst) (s : State) : Outcome State Fault Refusal :=
  .next (onlyIf (s.flag .BUS_LINK_STAT_LINK_UP) (fun s => (hostReset b s).put .BUS_LINK_STAT_DSTATE 0 3) s)

/-- REPLAY_THRESHOLD: `n` replays within 1 s, at least 256 (R479, R480). -/
def execReplayThreshold (n : Nat) (s : State) : Outcome State Fault Refusal :=
  .next (notice 414 (s.bump .BUS_LINK_COUNT_REPLAYS 0 n))

/-- Send every message whose pending bit is set and whose vector may now be sent (R476). -/
def releasePending (s : State) : State :=
  forAll (List.range 512) (fun n s => onlyIf (s.flag .MSIX_PENDING n) (msixSend n) s) s

/-- MSIX_UNMASK: a write of vector control `n` with the mask bit clear (R475, R476). -/
def execMsixUnmask (m : Master) (n : Nat) (s : State) : Outcome State Fault Refusal :=
  .next (writeGated m (0x800C + 16 * n) (fun s =>
    let s := s.put .MSIX_CONTROL_MASK n 0
    onlyIf (s.flag .MSIX_PENDING n) (msixSend n) s) s)

/-- CONFIG_WRITE (R474, R476), which arrives while the link is up (R1). Of the power states the endpoint has D0 and D3hot (R470). -/
def execConfigWrite (bme msixEn funcMask : Bool) (dstate : Nat) (s : State) : Outcome State Fault Refusal :=
  .next (onlyIf (s.flag .BUS_LINK_STAT_LINK_UP) (fun s =>
    let s := (((s.putFlag .BUS_LINK_STAT_BME 0 bme).putFlag .BUS_LINK_STAT_MSIX_EN 0 msixEn).putFlag
      .BUS_LINK_STAT_FUNC_MASK 0 funcMask)
    releasePending (if dstate = 3 then (hostReset none s).put .BUS_LINK_STAT_DSTATE 0 3
      else s.put .BUS_LINK_STAT_DSTATE 0 0)) s)

/-- The master has the host's side of a mailbox (R478). -/
def isHostSide : Master → Bool
  | .host | .debug => true
  | _ => false

/-- A write of MBX_CTRL of mailbox `b` (R477, R478): one side sets REQ and clears RSP, the other the reverse. -/
def mailboxWrite (m : Master) (b v : Nat) (s : State) : State :=
  let host := isHostSide m
  let req := s.flag .MBX_CTRL_REQ b
  let rsp := s.flag .MBX_CTRL_RSP b
  let vReq := bitsAt v 31 1 == 1
  let vRsp := bitsAt v 30 1 == 1
  let s := s.put .MBX_CTRL_SEQ b (bitsAt v 0 16)
  let s := onlyIf (!host) (·.put .MBX_CTRL_STEWARD b (bitsAt v 16 4)) s
  let s := s.putFlag .MBX_CTRL_REQ b (if host then req || vReq else req && !vReq)
  let s := s.putFlag .MBX_CTRL_RSP b (if host then rsp && !vRsp else rsp || vRsp)
  let s := onlyIf (host && vReq && !req) (fun s => s.emit (.mailboxIrq (s.get .MBX_CTRL_STEWARD b) b)) s
  onlyIf (!host && vRsp && !rsp) (notice 415) s

/-- A write to mailbox `b` that passes the gate of its address. -/
def mailboxGated (m : Master) (b : Nat) (eff : State → State) (s : State) : State :=
  match s.memGate m (0x5000000 + 0x1000 * b) 4 true with
  | some c => denyAccess m (0x5000000 + 0x1000 * b) true c s
  | none => eff (s.respond 0 false)

/-- MBX_REQ: a write of MBX_CTRL with REQ set (R478). -/
def execMbxReq (m : Master) (b v : Nat) (s : State) : Outcome State Fault Refusal :=
  .next (onlyIf (b < 16) (mailboxGated m b (mailboxWrite m b (v ||| 2 ^ 31))) s)

/-- MBX_RSP: a write of MBX_CTRL with RSP set (R478). -/
def execMbxRsp (m : Master) (b v : Nat) (s : State) : Outcome State Fault Refusal :=
  .next (onlyIf (b < 16) (mailboxGated m b (mailboxWrite m b (v ||| 2 ^ 30))) s)

end Sys2Proof.Machine
end

