-- ==== Sys2Proof/Machine/Security.lean ====
section
/-!
DEFINITION. Security and debug: the nonce, the signed commands, debug levels, temperature and clock monitors, the JTAG
port (R534 to R557).
-/
namespace Sys2Proof.Machine

open Host (Outcome)

/-- Offset of SEC_CMD (R555). -/
def secCmdOff : Nat := 0x13C0020

/-- Hold another debug level; each change raises source 452 (R551). -/
def setDebugLevel (l : Nat) (s : State) : State :=
  if s.get .SEC_DBG_LEVEL = l then s else notice 452 (s.put .SEC_DBG_LEVEL 0 l)

/-- Enter another power state; each change raises source 448 (R544). -/
def setPower (p : Nat) (s : State) : State :=
  if s.get .PWR_STAT_STATE = p then s else notice 448 ((s.put .PWR_STAT_STATE 0 p).putFlag .FLT_STAT_SAFE 0 (p == 5))

/-- Highest level the lifecycle state lets an UNLOCK grant (R535). -/
def lifecycleCeiling (lc : Nat) : Nat := if lc = 2 then 2 else 3

/-- Highest level an UNLOCK may grant now (R551, SEC_DBG.CEILING). -/
def State.debugCeiling (s : State) : Nat :=
  let c := lifecycleCeiling s.inForce.lifecycle
  if s.handedOver then min c (s.get .SEC_POLICY1_DEBUG_MAX) else c

/-- Bit `k` of a revoke mask is set. -/
def revoked (mask k : Nat) : Bool := bitsAt mask k 1 == 1

/-- Public key that a SLOT code of SEC_CMD names (R555), none where the code names nothing. -/
def State.signerKey (s : State) (slot : Nat) : Option (List Byte) :=
  if slot < 4 then s.inForce.ownerKeys[slot]?
  else if slot = 0x10 ∨ slot = 0x11 then s.inForce.safetyKeys[slot - 0x10]?
  else if slot = 0x80 then some s.inForce.rootKey
  else none

/-- The slot names an owner key that is not revoked. -/
def State.isOwner (s : State) (slot : Nat) : Bool := slot < 4 && !revoked s.inForce.ownerRevoked slot

/-- The slot names a safety-owner key that is not revoked. -/
def State.isSafetyOwner (s : State) (slot : Nat) : Bool :=
  (slot == 0x10 || slot == 0x11) && !revoked s.inForce.safetyRevoked (slot - 0x10)

/-- The slot may sign images and debug levels in the lifecycle state (R535). -/
def State.isPrincipal (s : State) (slot : Nat) : Bool :=
  if s.inForce.lifecycle = 0 ∨ s.inForce.lifecycle = 3 then slot == 0x80 else s.isOwner slot

/-- The message a signer signs (R537). -/
def State.signedMessage (s : State) (cmd slot : Nat) : List Byte :=
  leBytes 8 s.fuses.uid ++ leBytes 4 (s.get .SEC_NONCE 0) ++ leBytes 4 (s.get .SEC_NONCE 1) ++ leBytes 4 (s.get .SEC_NONCE 2)
    ++ leBytes 4 (s.get .SEC_NONCE 3) ++ [BitVec.ofNat 8 cmd, BitVec.ofNat 8 slot] ++ leBytes 4 (s.get .SEC_ARG)

/-- The 96 bytes of SEC_SIG. -/
def State.signature (s : State) : List Byte := (List.range 24).flatMap (fun i => leBytes 4 (s.get .SEC_SIG i))

/-- The signature in SEC_SIG verifies under the key of the slot (R537). -/
def State.signatureVerifies (s : State) (cmd slot : Nat) : Bool :=
  match s.signerKey slot with
  | some k => Config.ecdsaVerify k (s.signedMessage cmd slot) s.signature
  | none => false

/-- 60 s in ticks. -/
def nonceLife : Nat := 60 * 400000000

/-- The nonce was read, is unused and at most 60 s old (R537). -/
def State.nonceValid (s : State) : Bool :=
  match s.nonceAt with
  | some t => decide (s.tick ≤ t + nonceLife)
  | none => false

/-- A security command ends in a refusal: REASON, and the record of R78. -/
def secRefuse (code : Nat) (m : Master) (s : State) : State :=
  refuse code (wordOf secCmdOff) m ((s.put .SEC_RESULT_REASON 0 code).respond 0 false)

/-- A failed signature or signer (R538). -/
def secFail (code : Nat) (m : Master) (s : State) : State :=
  let s := s.bump .SEC_RESULT_FAILS
  let s := onlyIf (8 ≤ s.get .SEC_RESULT_FAILS) (·.put .SEC_DBG_LOCKOUT 0 1) s
  secRefuse code m (notice 453 s)

/-- A signed command (R537, R538): busy, lockout, lifecycle state, nonce, signer, signature, argument, in that order; the
nonce is consumed whatever the result. -/
def signedCommand (cmd slot : Nat) (m : Master) (states : List Nat) (needsSignature permitted : Bool)
    (argument : State → Nat) (eff : State → State) (s : State) : State :=
  writeGated m secCmdOff (fun s =>
    let used := { s with nonceAt := none }
    if s.flag .SEC_RESULT_BUSY then refuse 0xDA (wordOf secCmdOff) m s
    else if s.flag .SEC_DBG_LOCKOUT then secRefuse 0xD7 m used
    else if s.inForce.lifecycle ∉ states then secRefuse 0xD3 m used
    else if needsSignature && !s.nonceValid then secRefuse 0xD2 m used
    else if needsSignature && !permitted then secFail 0xD1 m used
    else if needsSignature && !s.signatureVerifies cmd slot then secFail 0xD0 m used
    else if argument s ≠ 0 then secRefuse (argument s) m used
    else eff ((used.put .SEC_RESULT_REASON 0 0).put .SEC_RESULT_FAILS 0 0)) s

/-- An unsigned command (R538): busy, lifecycle state, argument. -/
def unsignedCommand (m : Master) (states : List Nat) (argument : State → Nat) (eff : State → State) (s : State) : State :=
  writeGated m secCmdOff (fun s =>
    if s.flag .SEC_RESULT_BUSY then refuse 0xDA (wordOf secCmdOff) m s
    else if s.inForce.lifecycle ∉ states then secRefuse 0xD3 m s
    else if argument s ≠ 0 then secRefuse (argument s) m s
    else eff (s.put .SEC_RESULT_REASON 0 0)) s

/-- NONCE_READ (R537): four free words, and word 0 is the data read. -/
def execNonceRead (m : Master) (s : State) : Outcome State Fault Refusal :=
  .next (readGated m 0x13C0010 (fun s =>
    let n := s.freeCount
    let s := forAll (List.range 4) (fun k s => s.put .SEC_NONCE k (Config.nonceWord n k)) s
    { s with freeCount := n + 1, nonceAt := some s.tick }.respond (Config.nonceWord n 0 % 2 ^ 32) false) s)

/-- UNLOCK (R535, R538, R551). In Blank, Observe needs no challenge. -/
def execUnlock (m : Master) (slot : Nat) (s : State) : Outcome State Fault Refusal :=
  let l := bitsAt (s.get .SEC_ARG) 0 2
  .next (signedCommand 0x01 slot m [0, 1, 2, 3] (!(s.inForce.lifecycle == 0 && l ≤ 1)) (s.isPrincipal slot)
    (fun s => if s.debugCeiling < l then 0xD6 else 0) (setDebugLevel l) s)

/-- RELOCK (R538, R551). -/
def execRelock (m : Master) (_slot : Nat) (s : State) : Outcome State Fault Refusal :=
  .next (unsignedCommand m [0, 1, 2, 3] (fun _ => 0) (setDebugLevel 0) s)

/-- A lifecycle change is fused, awaits the next reset, and lowers the debug level to None at once (R539). -/
def advanceLifecycle (lc : Nat) (s : State) : State :=
  setDebugLevel 0 { s with fuses := { s.fuses with lifecycle := max s.fuses.lifecycle lc } }

/-- `n` words of SEC_PROV from word `w`, as bytes. -/
def State.provBytes (s : State) (w n : Nat) : List Byte := (List.range n).flatMap (fun i => leBytes 4 (s.get .SEC_PROV (w + i)))

/-- A key is all zeros: an empty slot (R538). -/
def emptyKey (k : List Byte) : Bool := k.all (· == 0)

/-- Mask of the empty slots among keys. -/
def emptyMask (ks : List (List Byte)) : Nat := ks.foldr (fun k acc => (if emptyKey k then 1 else 0) + 2 * acc) 0

/-- Bytes of fuses after a blow: a fuse blown before stays blown (R534). -/
def blowBytes (old new : List Byte) : List Byte := if old.isEmpty then new else List.zipWith (· ||| ·) old new

/-- Keys of slots after a blow. -/
def blowKeys (old new : List (List Byte)) : List (List Byte) := if old.isEmpty then new else List.zipWith blowBytes old new

/-- PROVISION (R538): fuses the keys and the image key from SEC_PROV; an all-zero key blows its slot's revoke bit. -/
def execProvision (m : Master) (_slot : Nat) (s : State) : Outcome State Fault Refusal :=
  let owners := (List.range 4).map (fun i => s.provBytes (24 * i) 24)
  let safeties := (List.range 2).map (fun i => s.provBytes (96 + 24 * i) 24)
  .next (unsignedCommand m [0] (fun _ => if owners.all emptyKey || safeties.all emptyKey then 0x04 else 0) (fun s =>
    let old := s.fuses
    let f := { old with ownerKeys := blowKeys old.ownerKeys owners, ownerRevoked := old.ownerRevoked ||| emptyMask owners }
    let f := { f with safetyKeys := blowKeys old.safetyKeys safeties, safetyRevoked := old.safetyRevoked ||| emptyMask safeties }
    let f := { f with imageKey := blowBytes old.imageKey (s.provBytes 144 8) }
    advanceLifecycle 1 { s with fuses := f }) s)

/-- DEPLOY (R538). -/
def execDeploy (m : Master) (slot : Nat) (s : State) : Outcome State Fault Refusal :=
  .next (signedCommand 0x11 slot m [1] true (s.isOwner slot) (fun _ => 0) (advanceLifecycle 2) s)

/-- RETURN (R538): every image-key bit is set, which destroys the key. -/
def execSecReturn (m : Master) (slot : Nat) (s : State) : Outcome State Fault Refusal :=
  .next (signedCommand 0x12 slot m [1, 2] true (s.isOwner slot) (fun _ => 0) (fun s =>
    advanceLifecycle 3 { s with fuses := { s.fuses with imageKey := List.replicate 32 0xFF, keyDestroyed := true } }) s)

/-- REVOKE_OWNER (R538): signed by another unrevoked owner slot. -/
def execRevokeOwner (m : Master) (slot : Nat) (s : State) : Outcome State Fault Refusal :=
  let k := bitsAt (s.get .SEC_ARG) 0 2
  .next (signedCommand 0x20 slot m [1, 2] true (s.isOwner slot && slot != k)
    (fun s => if s.fuses.ownerRevoked ||| 2 ^ k = 15 then 0xD8 else 0)
    (fun s => { s with fuses := { s.fuses with ownerRevoked := s.fuses.ownerRevoked ||| 2 ^ k } }) s)

/-- REVOKE_SAFETY (R538): signed by the other safety-owner slot. -/
def execRevokeSafety (m : Master) (slot : Nat) (s : State) : Outcome State Fault Refusal :=
  let k := bitsAt (s.get .SEC_ARG) 0 1
  .next (signedCommand 0x21 slot m [1, 2] true (s.isSafetyOwner slot && slot != 0x10 + k)
    (fun s => if s.fuses.safetyRevoked ||| 2 ^ k = 3 then 0xD8 else 0)
    (fun s => { s with fuses := { s.fuses with safetyRevoked := s.fuses.safetyRevoked ||| 2 ^ k } }) s)

/-- RAISE_FLOOR (R538). -/
def execRaiseFloor (m : Master) (slot : Nat) (s : State) : Outcome State Fault Refusal :=
  let f := bitsAt (s.get .SEC_ARG) 0 7
  .next (signedCommand 0x22 slot m [1, 2] true (s.isOwner slot) (fun s => if 64 < f ∨ f ≤ s.fuses.floor then 0xD9 else 0)
    (fun s => { s with fuses := { s.fuses with floor := max s.fuses.floor f } }) s)

/-- A junction reading in 1/128 °C (R549, R556). -/
def tempReading (t : Int) (s : State) : State :=
  let limit : Int := s.get .PWR_TEMP_WARN_LIMIT
  let s := ((s.put .PWR_TEMP_TEMP 0 (ofSigned 16 t)).putFlag .PWR_TEMP_WARN 0 (decide (limit * 128 ≤ t))).putFlag
    .PWR_TEMP_CRIT 0 (decide (110 * 128 ≤ t))
  let s := onlyIf (decide (t ≤ (limit - 5) * 128)) (·.put .TEMP_RAISED 0 0) s
  onlyIf (decide (limit * 128 ≤ t) && !s.flag .TEMP_RAISED) (fun s => notice 450 (s.put .TEMP_RAISED 0 1)) s

/-- TEMP_WARNING: the hottest sensor's reading (R549). -/
def execTempWarning (t : Int) (s : State) : Outcome State Fault Refusal := .next (tempReading t s)

/-- TEMP_CRITICAL: a reading that stood for 1 ms (R549). -/
def execTempCritical (t : Int) (s : State) : Outcome State Fault Refusal :=
  .next (onlyIf (decide (110 * 128 ≤ t)) (assertEv 451 3) (tempReading t s))

/-- CLOCK_MONITOR: bit 0 CD0, bit 1 CD1, bit 2 CD2 off by more than 1 % or stopped (R549). -/
def execClockMonitor (domains : Nat) (s : State) : Outcome State Fault Refusal :=
  .next (onlyIf (domains % 8 != 0)
    (fun s => assertEv 455 3 (s.put .PWR_MON_CLOCK 0 (s.get .PWR_MON_CLOCK ||| domains % 8))) s)

/-- The port's grant covers the instruction (R550, R554). -/
def State.jtagAllowed (s : State) (i : JtagIns) : Bool :=
  match i with
  | .idcode | .bypass => true
  | .samplePreload => 1 ≤ s.debugLevel
  | .extest | .extestPulse | .extestTrain => s.debugLevel == 3 && (s.get .PWR_STAT_STATE == 1 || s.inQuiet)
  | .other => false

/-- JTAG_INSTRUCTION (R550): outside the grant the port takes the instruction as BYPASS. -/
def execJtagInstruction (i : JtagIns) (s : State) : Outcome State Fault Refusal :=
  .next { s with jtag := if s.jtagAllowed i then i else .bypass }

end Sys2Proof.Machine
end

