-- ==== Sys2Proof/Machine/Boot.lean ====
section
/-!
DEFINITION. Start-up: resets, memory set-up, the choice and verification of a slot, and writing a new image (R48 to R84,
R599, R600).
-/
namespace Sys2Proof.Machine

open Host (Outcome)

/-! ### Resets (R48, R49, R551) -/

/-- The field die's own records of the safety inputs, which it supervises through every reset (R49, R559 to R561). -/
def dieFields : List Fld := [.FLD_RUN_BAND, .FLD_RUN, .FLD_DIE_BAND, .FLD_DIE_HOLDS, .FLD_DIE_OFF]

/-- What goes on outside the reset domain is kept: the field die, and the level of CLAIM_IN_N. -/
def keepOutside (s t : State) : State :=
  forAll dieFields (fun f t => (t.put f 0 (s.get f)).put f 1 (s.get f 1)) (t.put .TWN_STAT_TWIN_CLAIM 0 (s.get .TWN_STAT_TWIN_CLAIM))

/-- The state any reset leaves (R48, R49, R50): registers at their reset values, the fuses read, PHASE 0x1, and what no
reset touches kept: the part, the fuses, the configuration memory, the time counter, what has left the device and what
waits, and what lies outside the reset domain. An external or device reset also keeps the memories. The debug level is None,
except in Blank, where it is Observe (R551). The history of the rate limits of R82 and the records that wait for the fault log start
empty: the spec does not say that they outlive a reset (DESIGN CHOICE, log entry 98). -/
def rebooted (s : State) (keepMemory : Bool) : State :=
  let r := { State.reset with variant := s.variant, nvm := s.nvm, fuses := s.fuses, inForce := s.fuses, tick := s.tick, resetTick := s.tick }
  let r := { r with freeCount := s.freeCount, out := s.out, pending := s.pending, mem := if keepMemory then s.mem else [] }
  keepOutside s
    ((r.put .GEN_BOOT_STAT_PHASE 0 1).put .SEC_DBG_LEVEL 0 (if s.fuses.lifecycle = 0 then 1 else 0))

/-- A power-on or external reset latches the straps again (R20, R48). -/
def strapReset (plane twin keepMemory : Bool) (s : State) : State :=
  ((rebooted s keepMemory).putFlag .GEN_ENUM_PLANE 0 plane).putFlag .GEN_ENUM_TWIN 0 twin

/-- The boot ROM runs its recovery responder (R55, R66). -/
def State.inRecovery (s : State) : Bool := s.get .GEN_BOOT_STAT_PHASE == 0xE || s.get .GEN_BOOT_STAT_PHASE == 0xF

/-- The management-bus address in use (R28, R33, R55, R66): 0x0E without a position and for the recovery responder. -/
def State.mgmtAddr (s : State) : Nat :=
  if s.flag .GEN_ENUM_POS_VALID && !s.inRecovery then 0x10 + 12 * s.get .GEN_ENUM_PLANE + s.get .GEN_ENUM_POSITION else 0x0E

/-- GEN_ENUM.MGMT_ADDR follows the address in use. -/
def renewAddr (s : State) : State := s.put .GEN_ENUM_MGMT_ADDR 0 s.mgmtAddr

/-- A device reset keeps the straps, the position and the enumeration fault (R27, R32, R48). -/
def deviceResetState (s : State) : State :=
  renewAddr (forAll [.GEN_ENUM_POS_VALID, .GEN_ENUM_FAULT, .GEN_ENUM_TWIN, .GEN_ENUM_PLANE, .GEN_ENUM_POSITION]
    (fun f t => t.put f 0 (s.get f)) { rebooted s true with enum := s.enum })

/-- ST0 executes from the boot ROM: at address 0 while REMAP is 0, or from the hand-over alias (R68, R69). -/
def State.fromRom (s : State) (m : Master) : Bool :=
  m == .stRom && (!s.flag .GEN_CTRL_REMAP || s.boot.aliasOpen)

/-- A write of GEN_CTRL (R67, R68). -/
def genCtrlWrite (m : Master) (v : Nat) (s : State) : State :=
  if bitsAt v 16 16 = 0xC1A5 ∧ bitsAt v 8 1 = 1 then deviceResetState s
  else if s.fromRom m then
    (s.put .GEN_CTRL_REMAP 0 (s.get .GEN_CTRL_REMAP ||| bitsAt v 0 1)).put .GEN_CTRL_ST_RUN 0
      (s.get .GEN_CTRL_ST_RUN ||| bitsAt v 4 4)
  else s

/-- DEVICE_RESET: a write of GEN_CTRL with DEVICE_RESET set; it resets only with the unlock value (R67). -/
def execDeviceReset (m : Master) (v : Nat) (s : State) : Outcome State Fault Refusal :=
  .next (writeGated m 4 (genCtrlWrite m (v ||| 2 ^ 8)) s)

/-- REMAP (R67, R68). -/
def execRemap (m : Master) (s : State) : Outcome State Fault Refusal := .next (writeGated m 4 (genCtrlWrite m 1) s)

/-- ST_RUN: bit n of the mask releases STn (R67, R68). -/
def execStRun (m : Master) (mask : Nat) (s : State) : Outcome State Fault Refusal :=
  .next (writeGated m 4 (genCtrlWrite m (mask % 16 * 16)) s)

/-! ### Rings of the configuration memory (R81) -/

/-- The record at position `p` of a ring ends with the CRC-32C of the rest of it. -/
def ringRecordGood (nvm : List Host.Cell) (base size p : Nat) : Bool :=
  let bs := Memory.readList nvm (base + size * p) size
  crc32c (bs.take (size - 4)) == leNat (bs.drop (size - 4))

/-- Position of the newest record whose CRC matches, with its sequence number, among `n` positions. -/
def ringNewest (nvm : List Host.Cell) (base size n : Nat) : Option (Nat × Nat) :=
  (List.range n).foldl (fun best p =>
    if ringRecordGood nvm base size p then
      let q := leNat (Memory.readList nvm (base + size * p) 4)
      match best with
      | some (bp, bq) => if bq < q then some (p, q) else some (bp, bq)
      | none => some (p, q)
    else best) none

/-- Where a ring's next write goes and its sequence number (R81). -/
def ringNext (nvm : List Host.Cell) (base size n : Nat) : Nat × Nat :=
  match ringNewest nvm base size n with
  | some (p, q) => ((p + 1) % n, q + 1)
  | none => (0, 0)

/-- Base, record size and number of records of the fault-log, election and ageing rings (R54). -/
def faultRing : Nat × Nat × Nat := (0x7000000, 256, 65536)
/-- The election-counter ring (R54). -/
def electionRing : Nat × Nat × Nat := (0x6010000, 16, 4096)
/-- The ageing ring (R54). -/
def ageingRing : Nat × Nat × Nat := (0x6000000, 256, 64)

/-- The count in the newest valid election record, or zero (R532). -/
def electionCount (nvm : List Host.Cell) : Nat :=
  ((ringNewest nvm electionRing.1 electionRing.2.1 electionRing.2.2).map (fun x =>
    leNat (Memory.readList nvm (electionRing.1 + 16 * x.1 + 4) 4))).getD 0

/-- MEMORY_SETUP (R55, R81, R84, R532). Persistence off is reported by source 504 as a notice: no corrected error is counted. -/
def execMemorySetup (a : SfdpAnswer) (s : State) : Outcome State Fault Refusal :=
  .next (onlyIf (s.get .GEN_BOOT_STAT_PHASE == 1) (fun s =>
    if !(a.answers && a.gbit && a.readable) then renewAddr (s.put .GEN_BOOT_STAT_PHASE 0 0xF)
    else
      let s := s.put .GEN_BOOT_STAT_PHASE 0 2
      let f := ringNext s.nvm faultRing.1 faultRing.2.1 faultRing.2.2
      let e := ringNext s.nvm electionRing.1 electionRing.2.1 electionRing.2.2
      let g := ringNext s.nvm ageingRing.1 ageingRing.2.1 ageingRing.2.2
      let s := (s.put .FLT_LOG_POS 0 f.1).put .FLT_SEQ 0 f.2
      let s := ((s.put .ELECT_POS 0 e.1).put .ELECT_SEQ 0 e.2).put .TWN_ELECT_COUNT 0 (electionCount s.nvm)
      let s := (s.put .AGE_POS 0 g.1).put .AGE_SEQ 0 g.2
      onlyIf a.needsErase (fun s => notice 504 (s.put .CFG_PERSIST_STAT_OFF 0 1)) s) s)

/-! ### Image format (R56 to R61) -/

/-- First byte of a slot (R54). -/
def slotBase (slot : Nat) : Nat := if slot = 0 then 0 else 0x3000000

/-- One entry of the section table (R57). -/
structure SectionEntry where
  typ : Nat
  flags : Nat
  offset : Nat
  length : Nat
  dest : Nat
  version : Nat
  param : Nat
  crc : Nat
deriving DecidableEq, Repr

/-- ENC, SAFETY and SEALED of an entry's FLAGS (R57). -/
def SectionEntry.enc (e : SectionEntry) : Bool := bitsAt e.flags 0 1 == 1
/-- The SAFETY flag. -/
def SectionEntry.safety (e : SectionEntry) : Bool := bitsAt e.flags 1 1 == 1
/-- The SEALED flag. -/
def SectionEntry.sealed_ (e : SectionEntry) : Bool := bitsAt e.flags 2 1 == 1

/-- A little-endian field of `n` bytes of the configuration memory. -/
def State.nvmLe (s : State) (a n : Nat) : Nat := leNat (Memory.readList s.nvm a n)

/-- Number of sections of a slot. -/
def State.sectionCount (s : State) (slot : Nat) : Nat := s.nvmLe (slotBase slot + 20) 2

/-- IMAGE_SEQ of a slot. -/
def State.imageSeq (s : State) (slot : Nat) : Nat := s.nvmLe (slotBase slot + 8) 4

/-- Entry `k` of a slot's section table (R57). -/
def State.sectionEntry (s : State) (slot k : Nat) : SectionEntry :=
  let a := slotBase slot + 64 + 32 * k
  { typ := s.nvmLe a 2, flags := s.nvmLe (a + 2) 2, offset := s.nvmLe (a + 4) 4, length := s.nvmLe (a + 8) 4
    dest := s.nvmLe (a + 12) 4, version := s.nvmLe (a + 16) 4, param := s.nvmLe (a + 20) 4, crc := s.nvmLe (a + 24) 4 }

/-- All entries of a slot's section table. -/
def State.sections (s : State) (slot : Nat) : List SectionEntry :=
  (List.range (min (s.sectionCount slot) 64)).map (s.sectionEntry slot)

/-- Payloads start on 4 KiB boundaries after the signature, ascend without overlap and end within IMAGE_LEN (R57). An IMAGE_LEN beyond
the end of the last payload passes: R56 defines the field as that end and names no fault for a larger one (DESIGN CHOICE, log entry 99). -/
def layoutGood (imageLen : Nat) : Nat → List SectionEntry → Bool
  | lo, [] => lo ≤ imageLen
  | lo, e :: es => e.offset % 4096 == 0 && lo ≤ e.offset && e.offset + e.length ≤ imageLen
      && layoutGood imageLen (e.offset + e.length) es

/-- Types that demand SAFETY (R58). -/
def demandsSafety (t : Nat) : Bool := t == 0xA || t == 0xB
/-- Types that demand SEALED (R58). -/
def demandsSealed (t : Nat) : Bool := t == 0xC || t == 0xD

/-- The flags of a section match its type (R58); a type of the reserved range demands none. -/
def flagsGood (e : SectionEntry) : Bool :=
  e.safety == demandsSafety e.typ && e.sealed_ == demandsSealed e.typ && !(e.typ == 0xF && e.enc)

/-- Header and layout checks (R56, R57, R58, R63). -/
def State.headerGood (s : State) (slot : Nat) : Bool :=
  let b := slotBase slot
  let len := s.nvmLe (b + 16) 4
  let n := s.sectionCount slot
  s.nvmLe b 4 == 0x31495843 && s.nvmLe (b + 4) 2 == 1 && s.nvmLe (b + 6) 2 == s.variant.part && len ≤ 0x3000000
    && 1 ≤ n && n ≤ 64 && layoutGood len (64 + 32 * n + 96) (s.sections slot) && (s.sections slot).all flagsGood

/-- The signer that KEY_ID names is accepted in the lifecycle state (R535). -/
def State.keyPermitted (s : State) (keyId : Nat) : Bool :=
  if s.inForce.lifecycle = 0 ∨ s.inForce.lifecycle = 3 then keyId == 0x100
  else keyId < 4 && !revoked s.inForce.ownerRevoked keyId

/-- Types the image must hold (R58). -/
def State.requiredTypes (s : State) (slot : Nat) : List Nat :=
  [1, 2, 3, 7, 0xC, 0xD, if s.flag .GEN_ENUM_PLANE then 6 else 5]
    ++ (if (s.sections slot).any (·.safety) then [0xF] else [])

/-- Outcome of the pre-streaming checks of a slot, 0 where they pass (R63, R70). -/
def State.preCheck (s : State) (slot : Nat) : Nat :=
  if !s.headerGood slot then 3
  else if s.nvmLe (slotBase slot + 12) 4 < s.inForce.floor then 6
  else if !s.keyPermitted (s.nvmLe (slotBase slot + 24) 4) then 7
  else if !(s.requiredTypes slot).all (fun t => (s.sections slot).any (·.typ == t)) then 9
  else 0

/-- Set a slot's RESULT. -/
def setResult (slot r : Nat) (s : State) : State :=
  if slot = 0 then s.put .GEN_BOOT_STAT_RESULT_A 0 r else s.put .GEN_BOOT_STAT_RESULT_B 0 r

/-- What the last examination of a slot found. -/
def BootState.cond (b : BootState) (slot : Nat) : SlotCond := if slot = 0 then b.condA else b.condB

/-- Note what an examination of a slot found. -/
def BootState.setCond (b : BootState) (slot : Nat) (c : SlotCond) : BootState :=
  if slot = 0 then { b with condA := c } else { b with condB := c }

/-- Log every mismatching section of this start (R599). -/
def logCrcFaults (s : State) : State :=
  let l := s.boot.crcLog
  forAll l (fun x s => queueLog 504 1 0 false [x.1, x.2.1, x.2.2] s) { s with boot := { s.boot with crcLog := [] } }

/-- Start streaming a slot. -/
def streamSlot (slot pass : Nat) (s : State) : State :=
  { s with boot := { s.boot with slot := slot, nextSection := 0, pass := pass, streaming := true, placed := [], mismatched := [] } }

/-- Neither slot can be used: the recovery responder runs (R66). -/
def noSlot (s : State) : State :=
  logCrcFaults (renewAddr ({ s with boot := { s.boot with streaming := false } }.put .GEN_BOOT_STAT_PHASE 0 0xE))

/-- SLOT_HEADERS_READ (R63, R64): the pre-streaming checks of both slots, and the first slot to stream: the higher
IMAGE_SEQ among those that pass, slot A of two equal ones. -/
def execSlotHeadersRead (s : State) : Outcome State Fault Refusal :=
  .next (onlyIf (s.get .GEN_BOOT_STAT_PHASE == 2) (fun s =>
    let a := s.preCheck 0
    let b := s.preCheck 1
    let s := (setResult 1 b (setResult 0 a s)).put .GEN_BOOT_STAT_PHASE 0 3
    let c := (s.boot.setCond 0 (if a = 0 then .notTried else .rejected)).setCond 1 (if b = 0 then .notTried else .rejected)
    let go := fun (k : Nat) => streamSlot k 0 { s with boot := { c with first := k } }
    if a = 0 then (if b = 0 ∧ s.imageSeq 0 < s.imageSeq 1 then go 1 else go 0)
    else if b = 0 then go 1
    else noSlot { s with boot := c }) s)

/-- A slot was found rejected, or partly valid, in the first pass: what follows (R64). -/
def afterFirstPass (s : State) : State :=
  let b := s.boot
  let other := 1 - b.slot
  if b.cond other = .notTried then streamSlot other 0 s
  else if b.cond b.first = .partlyValid then streamSlot b.first 1 s
  else if b.cond (1 - b.first) = .partlyValid then streamSlot (1 - b.first) 1 s
  else noSlot s

/-- The slot being streamed is rejected with an outcome (R63, R64). -/
def rejectSlot (outcome : Nat) (s : State) : State :=
  let b := s.boot
  let s := setResult b.slot outcome s
  let partner := b.cond (1 - b.slot)
  let s := { s with boot := { b.setCond b.slot .rejected with streaming := false } }
  if b.pass = 0 then afterFirstPass s
  else if b.pass = 1 ∧ partner = .partlyValid then streamSlot (1 - b.slot) 2 s
  else noSlot s

/-- The slot is used (R62, R65, R70, R599). SKIPPED counts the reserved sections of this slot alone, and a section of TYPE 0x0000, which
no row of the type table names, counts as reserved (DESIGN CHOICE, log entry 100). -/
def takeSlot (safetyGood : Bool) (s : State) : State :=
  let b := s.boot
  let s := setResult b.slot (if safetyGood then 1 else 0xB) s
  let s := (s.put .GEN_BOOT_STAT_SLOT_USED 0 (b.slot + 1)).put .GEN_BOOT_SEQ 0 (s.imageSeq b.slot)
  let s := s.putFlag .GEN_BOOT_STAT_SAFETY_DEFAULT 0 (!safetyGood)
  let s := s.put .GEN_BOOT_STAT_CRC_FAULTS 0 (satAdd 8 0 b.mismatched.length)
  let skipped := ((s.sections b.slot).filter (fun e => e.typ == 0 || 0x11 ≤ e.typ)).length
  let s := s.put .GEN_BOOT_STAT_SKIPPED 0 (satAdd 8 0 skipped)
  let s := forAll b.mismatched (fun _ s => assertEv 504 1 s) s
  { s with boot := { s.boot with streaming := false, chosen := some (b.slot, safetyGood) } }

/-! ### Streaming (R57, R58, R61, R62) -/

/-- An entry's 32 bytes with PAYLOAD_CRC taken as zero (R59, R60, R61). -/
def State.entryBytes (s : State) (slot k : Nat) : List Byte :=
  let bs := Memory.readList s.nvm (slotBase slot + 64 + 32 * k) 32
  bs.take 24 ++ [0, 0, 0, 0] ++ bs.drop 28

/-- A payload as stored. -/
def State.payload (s : State) (slot : Nat) (e : SectionEntry) : List Byte :=
  Memory.readList s.nvm (slotBase slot + e.offset) e.length

/-- The GCM nonce of section `k` (R61): IMAGE_SEQ, TYPE, table index and 32 zero bits, each big-endian. -/
def gcmNonce (seq typ k : Nat) : List Byte := beBytes 4 seq ++ beBytes 2 typ ++ beBytes 2 k ++ [0, 0, 0, 0]

/-- A payload as placed: decrypted where ENC is set (R61), none where the tag fails or the state holds no image key
(R535). -/
def State.openPayload (s : State) (slot k : Nat) (e : SectionEntry) : Option (List Byte) :=
  let p := s.payload slot e
  if e.enc then
    if s.inForce.lifecycle = 1 ∨ s.inForce.lifecycle = 2 then
      Config.gcmOpen s.inForce.imageKey (gcmNonce (s.imageSeq slot) e.typ k) (s.entryBytes slot k) (p.take (e.length - 16))
        (p.drop (e.length - 16))
    else none
  else some p

/-- A section whose streaming waits for HBM (R50): the evacuation and legend assets, and a DEST in HBM. DEST holds 32 bits,
so only the asset sections do. -/
def needsHbm (e : SectionEntry) : Bool := e.typ == 0xA || e.typ == 0xB

/-- The security policy section is well formed (R540). -/
def policyGood (bs : List Byte) : Bool :=
  bs.length == 64 && leNat (bs.take 4) == 0x31594C50 && leNat ((bs.drop 4).take 2) == 1 && leNat ((bs.drop 6).take 1) ≤ 3
    && leNat ((bs.drop 7).take 1) ≤ 3 && leNat ((bs.drop 8).take 4) < 2 ^ 19 && (bs.drop 12).all (· == 0)

/-- Place a section (R52, R57, R58): firmware and DSP programs at DEST; every section is kept until hand-over. -/
def placeSection (k : Nat) (e : SectionEntry) (bs : List Byte) (s : State) : State :=
  let s := onlyIf (e.typ == 7 || e.typ == 8) (·.memPutBytes e.dest bs) s
  let p : Placed := ⟨k, e.typ, e.flags, e.dest, e.version, e.param, bs⟩
  { s with boot := { s.boot with placed := s.boot.placed ++ [p] } }

/-- The payload of the section being streamed is checked against its CRC before it is decrypted (R50, R62): a mismatch is noted for this
stream, and once for the fault log, however often the slot is streamed (R599). -/
def noteCrc (e : SectionEntry) (s : State) : State :=
  let b := s.boot
  let x := (e.typ, b.slot, b.nextSection)
  if crc32c (s.payload b.slot e) = e.crc then s
  else { s with boot := { b with mismatched := b.mismatched ++ [b.nextSection]
                                 crcLog := if b.crcLog.contains x then b.crcLog else b.crcLog ++ [x] } }

/-- SECTION_STREAMED (R50, R61 to R63, R599): the next section of the slot being streamed is hashed, checked against its CRC, decrypted
and placed. -/
def execSectionStreamed (readError : Bool) (s : State) : Outcome State Fault Refusal :=
  let b := s.boot
  let e := s.sectionEntry b.slot b.nextSection
  .next (onlyIf (b.streaming && (!needsHbm e || b.hbmReady)) (fun s =>
    let s := s.put .GEN_BOOT_STAT_PHASE 0 4
    if readError then rejectSlot 0xA s
    else
      let s := noteCrc e s
      match s.openPayload b.slot b.nextSection e with
      | none => rejectSlot 8 s
      | some bs =>
        let s := { s with boot := { s.boot with nextSection := b.nextSection + 1 } }
        if e.typ == 0xD && !policyGood bs then rejectSlot 9 s
        else
          let s := placeSection b.nextSection e bs s
          if b.nextSection + 1 < s.sectionCount b.slot then s
          else { s with boot := { s.boot with streaming := false } }.put .GEN_BOOT_STAT_PHASE 0 5) s)

/-- HBM_READY (R50, R498): training ends; a stack that fails it fails fatally. -/
def execHbmReady (fail0 fail1 : Bool) (s : State) : Outcome State Fault Refusal :=
  .next (onlyIf (s.get .PWR_STAT_STATE == 1 && !s.boot.hbmReady) (fun s =>
    let s := { s with boot := { s.boot with hbmReady := true } }
    let s := onlyIf fail0 (failStack 0) s
    onlyIf (fail1 && s.hasStack 1) (failStack 1) s) s)

/-! ### Signatures (R59, R60, R62, R536) -/

/-- The bytes the owner signature covers (R59). -/
def State.ownerMessage (s : State) (slot : Nat) : List Byte :=
  Memory.readList s.nvm (slotBase slot) 64
    ++ (List.range (s.sections slot).length).flatMap (s.entryBytes slot)
    ++ (s.sections slot).flatMap (s.payload slot)

/-- The owner key that KEY_ID names (R535). -/
def State.ownerKey (s : State) (keyId : Nat) : List Byte :=
  if keyId = 0x100 then s.inForce.rootKey else (s.inForce.ownerKeys[keyId]?).getD []

/-- The owner signature of a slot verifies (R57, R59). -/
def State.ownerSigned (s : State) (slot : Nat) : Bool :=
  Config.ecdsaVerify (s.ownerKey (s.nvmLe (slotBase slot + 24) 4)) (s.ownerMessage slot)
    (Memory.readList s.nvm (slotBase slot + 64 + 32 * s.sectionCount slot) 96)

/-- The bytes the safety-owner signature covers (R60). -/
def State.safetyMessage (s : State) (slot : Nat) : List Byte :=
  let ks := (List.range (s.sections slot).length).filter (fun k => (s.sectionEntry slot k).safety)
  ks.flatMap (s.entryBytes slot) ++ ks.flatMap (fun k => s.payload slot (s.sectionEntry slot k))

/-- Keys under which a SAFETY signature may verify (R535). -/
def State.safetySigners (s : State) : List (List Byte) :=
  if s.inForce.lifecycle = 0 ∨ s.inForce.lifecycle = 3 then [s.inForce.rootKey]
  else ((List.range 2).filter (fun j => !revoked s.inForce.safetyRevoked j)).map (fun j => (s.inForce.safetyKeys[j]?).getD [])

/-- The safety-owner signature of a slot verifies, or the slot has no SAFETY section (R58, R60, R536). -/
def State.safetySigned (s : State) (slot : Nat) : Bool :=
  if (s.sections slot).any (·.safety) then
    match (s.sections slot).find? (·.typ == 0xF) with
    | some e => s.safetySigners.any (fun k => Config.ecdsaVerify k (s.safetyMessage slot) (s.payload slot e))
    | none => false
  else true

/-- SIGNATURE_VERIFY (R62 to R64): the slot whose streaming has ended is fully valid, partly valid or rejected. -/
def execSignatureVerify (s : State) : Outcome State Fault Refusal :=
  let b := s.boot
  .next (onlyIf (s.get .GEN_BOOT_STAT_PHASE == 5 && !b.streaming && b.chosen.isNone) (fun s =>
    if !s.ownerSigned b.slot then rejectSlot 5 s
    else if s.safetySigned b.slot then takeSlot true { s with boot := b.setCond b.slot .fullyValid }
    else if b.pass = 0 then
      afterFirstPass (setResult b.slot 4 { s with boot := b.setCond b.slot .partlyValid })
    else takeSlot false { s with boot := b.setCond b.slot .partlyValid }) s)

/-! ### Writing a new image (R79, R80, R600) -/

/-- Slot that holds a byte address of the configuration memory (R54). -/
def slotOf (a : Nat) : Option Nat := if a < 0x3000000 then some 0 else if a < 0x6000000 then some 1 else none

/-- Byte address of the page that CFG_NVM_ADDR names. -/
def State.nvmPage (s : State) : Nat := 256 * s.get .CFG_NVM_ADDR_PAGE

/-- Why a slot write is refused (R79): outside both slots or into the slot in use 0x09; before hand-over, outside
recovery, 0x08. -/
def State.slotWriteRefusal (s : State) : Nat :=
  match slotOf s.nvmPage with
  | none => 0x09
  | some k =>
    if s.get .GEN_BOOT_STAT_SLOT_USED = k + 1 then 0x09
    else if s.get .GEN_BOOT_STAT_PHASE < 6 then 0x08 else 0

/-- The page buffer as bytes (R12, R79). -/
def State.pageBytes (s : State) : List Byte := (List.range 64).flatMap (fun i => leBytes 4 (s.get .CFG_PAGE_BUF i))

/-- A CMD write (R79, R600): ignored while BUSY; a refused command completes at once; another waits for the configuration port, with
the page and the buffer as they stand at the write (DESIGN CHOICE, log entry 101). -/
def nvmCommand (m : Master) (cmd : NvmCmd) (code : Nat) (s : State) : State :=
  writeGated m 0x10000 (fun s =>
    if s.flag .CFG_NVM_STAT_BUSY then s
    else if code ≠ 0 then refuse code (wordOf 0x10000) m (s.put .CFG_NVM_STAT_REASON 0 code)
    else { s.put .CFG_NVM_STAT_BUSY 0 1 with nvmWork := some ⟨cmd, s.nvmPage, s.pageBytes⟩ }) s

/-- NVM_WRITE_PAGE (R79). -/
def execNvmWritePage (m : Master) (s : State) : Outcome State Fault Refusal := .next (nvmCommand m .writePage s.slotWriteRefusal s)

/-- NVM_READ_PAGE (R79). -/
def execNvmReadPage (m : Master) (s : State) : Outcome State Fault Refusal := .next (nvmCommand m .readPage 0 s)

/-- NVM_OVERWRITE_HEADER (R79). -/
def execNvmOverwriteHeader (m : Master) (s : State) : Outcome State Fault Refusal :=
  .next (nvmCommand m .overwriteHeader s.slotWriteRefusal s)

/-- What a command does at the configuration port (R79): the header overwrite makes the 64 header bytes of the addressed slot zeros. -/
def nvmEffect (w : NvmWork) (s : State) : State :=
  match w.cmd with
  | .writePage => { s with nvm := Memory.writeList w.page w.bytes s.nvm }
  | .readPage => forAll (List.range 64) (fun i s => s.put .CFG_PAGE_BUF i (s.nvmLe (w.page + 4 * i) 4)) s
  | .overwriteHeader => { s with nvm := Memory.writeList (slotBase ((slotOf w.page).getD 0)) (List.replicate 64 0) s.nvm }

/-! ### The device's own records (R80 to R84) -/

/-- The device's own writes are on (R84). -/
def State.persists (s : State) : Bool := !s.flag .CFG_PERSIST_STAT_OFF

/-- 1 s in ticks. -/
def ticks1s : Nat := 400000000

/-- 1 h in ticks. -/
def ticks1h : Nat := 3600 * 400000000

/-- Fault records written within the last `span` ticks. -/
def State.loggedWithin (s : State) (span : Nat) : Nat := (s.logTimes.filter (fun t => s.tick < t + span)).length

/-- The rate limit leaves room for a fault record (R82). -/
def State.logRoom (s : State) : Bool := s.loggedWithin ticks1s < 64 && s.loggedWithin ticks1h < 3600

/-- The election record that a take asked for may be written: 1 s has passed since the last one (R82, R532). ELECT_AT is 1 + the tick
of that one. -/
def State.electionReady (s : State) : Bool :=
  s.flag .ELECT_DUE && (s.get .ELECT_AT == 0 || s.get .ELECT_AT + ticks1s ≤ s.tick + 1)

/-- A record write competes for the configuration port: it goes first (R80). -/
def State.recordWaits (s : State) : Bool :=
  s.persists && (s.electionReady || s.logWaiting.any (fun r => r.always || s.logRoom))

/-- NVM_COMMAND_COMPLETE (R80, R600): behind a record write the command goes on waiting. -/
def execNvmCommandComplete (s : State) : Outcome State Fault Refusal :=
  .next (match s.nvmWork with
    | some w => onlyIf (!s.recordWaits) (fun s =>
        { (nvmEffect w s).put .CFG_NVM_STAT_BUSY 0 0 with nvmWork := none }.put .CFG_NVM_STAT_REASON 0 0) s
    | none => s)

end Sys2Proof.Machine
end

