-- ==== Sys2Proof/Machine/Enum.lean ====
section
/-!
DEFINITION. The enumeration chain and the announcements on the management bus (R20 to R35).
-/
namespace Sys2Proof.Machine

open Host (Outcome)

/-- The device holds a position (R24, R27). -/
def State.positioned (s : State) : Bool := s.flag .GEN_ENUM_POS_VALID

/-- Position 0 to 11, 0xF while unpositioned (R31). -/
def State.position (s : State) : Nat := s.get .GEN_ENUM_POSITION

/-- Record an enumeration fault: only the first one stays, and it raises source 505 (R31, R32). -/
def enumFault (f : Nat) (s : State) : State :=
  if s.get .GEN_ENUM_FAULT = 0 then notice 505 (s.put .GEN_ENUM_FAULT 0 f) else s

/-- Take a position and with it a management-bus address (R24, R33). -/
def takePosition (p : Nat) (from_ : Option Nat) (s : State) : State :=
  let s := renewAddr ((s.put .GEN_ENUM_POS_VALID 0 1).put .GEN_ENUM_POSITION 0 p)
  { s with enum := { s.enum with takenFrom := from_ } }

/-- A token with its CRC (R22). -/
def makeToken (position plane twin cls : Nat) : Nat :=
  let hi := 0xA500 + 16 * position + 8 * plane + 4 * twin + 2 * cls
  hi * 2 ^ 16 + crc16 (beBytes 2 hi)

/-- SYNC of a token is correct (R22). -/
def tokenSync (tok : Nat) : Bool := bitsAt tok 24 8 == 0xA5

/-- CRC of a token is correct (R22). -/
def tokenCrc (tok : Nat) : Bool := crc16 (beBytes 2 (bitsAt tok 16 16)) == bitsAt tok 0 16

/-- SYNC and CRC of a token are correct (R22, R24). -/
def tokenGood (tok : Nat) : Bool := tokenSync tok && tokenCrc tok

/-- First mismatch of a token, as a fault of R32; 0 where there is none (R26). -/
def State.tokenMismatch (s : State) (tok : Nat) : Nat :=
  if bitsAt tok 19 1 ≠ s.get .GEN_ENUM_PLANE then 2
  else if bitsAt tok 18 1 ≠ s.get .GEN_ENUM_TWIN then 3
  else if s.get .GEN_CAP1_MAX_POS ≤ bitsAt tok 20 4 then 4
  else if bitsAt tok 17 1 ≠ s.variant.tokenClass then 5
  else 0

/-- The token forwarded by a device without a position (R26, R28): POSITION one higher, saturating at 15. -/
def forwardToken (tok : Nat) : Nat :=
  makeToken (min 15 (bitsAt tok 20 4 + 1)) (bitsAt tok 19 1) (bitsAt tok 18 1) (bitsAt tok 17 1)

/-- The third of three identical tokens, correctly framed and with a correct CRC, at a device without a position: a mismatch is recorded
and the token forwarded (R26, R28); a position is taken from a token whose SYNC is correct as well (R24). -/
def threeTokens (tok : Nat) (s : State) : State :=
  let f := s.tokenMismatch tok
  let s := { s with enum := { s.enum with run := 0 } }
  if f ≠ 0 then (enumFault f s).emit (.enumToken (forwardToken tok))
  else if s.enum.timedOut then s.emit (.enumToken (forwardToken tok))
  else onlyIf (tokenSync tok) (takePosition (bitsAt tok 20 4) (some (bitsAt tok 16 16))) s

/-- One more token at a device without a position: the run of bad ones, more than three of which are fault 0x1 (R32). -/
def countBad (good : Bool) (s : State) : State :=
  let n := if good then 0 else s.enum.badRun + 1
  onlyIf (3 < n) (enumFault 1) { s with enum := { s.enum with badRun := n } }

/-- ENUM_TOKEN (R24, R26, R27, R28, R32). A token is correct in framing and CRC for R26 to R28; its SYNC counts as well for R24 and
for fault 0x1. -/
def execEnumToken (framed : Bool) (tok : Nat) (s : State) : Outcome State Fault Refusal :=
  let e := s.enum
  let correct := framed && tokenCrc tok
  .next (if s.positioned then onlyIf (correct && e.takenFrom != some (bitsAt tok 16 16)) (enumFault 7) s
    else
      let run := if !correct then 0 else if e.run ≠ 0 ∧ e.lastTok = tok then e.run + 1 else 1
      let s := countBad (framed && tokenGood tok) { s with enum := { e with run := run, lastTok := if correct then tok else e.lastTok } }
      onlyIf (run == 3) (threeTokens tok) s)

/-- ENUM_TOKEN_SEND (R25): a positioned device offers its own position plus one. -/
def execEnumTokenSend (s : State) : Outcome State Fault Refusal :=
  .next (onlyIf s.positioned (fun s => s.emit (.enumToken (makeToken (s.position + 1) (s.get .GEN_ENUM_PLANE)
    (s.get .GEN_ENUM_TWIN) s.variant.tokenClass))) s)

/-- ENUM_IN_LOW (R23, R28). -/
def execEnumInLow (s : State) : Outcome State Fault Refusal :=
  .next (onlyIf (!s.positioned && !s.enum.timedOut) (takePosition 0 none) s)

/-- ENUM_TOKEN_LOSS: no good token for 3 ms (R27). -/
def execEnumTokenLoss (s : State) : Outcome State Fault Refusal :=
  .next (onlyIf (s.positioned && s.enum.takenFrom.isSome) (enumFault 7) s)

/-- ENUM_IN_HIGH: ENUM_IN high for 2 ms (R27). -/
def execEnumInHigh (s : State) : Outcome State Fault Refusal :=
  .next (onlyIf (s.positioned && s.enum.takenFrom.isNone) (enumFault 7) s)

/-- ENUM_TIMEOUT: 5 s without a position (R28). -/
def execEnumTimeout (s : State) : Outcome State Fault Refusal :=
  .next (onlyIf (!s.positioned && !s.enum.timedOut)
    (fun s => enumFault 6 { s with enum := { s.enum with timedOut := true } }) s)

/-! ### The management bus (R30, R33 to R35) -/

/-- The individual MAC address of a twin (0 A, 1 B) at an address byte (R34), as a 48-bit number, first octet most significant. -/
def macIndividual (twin addr : Nat) : Nat := 0x02C511520000 + 2 ^ 8 * twin + addr

/-- The group address of both twins of an address byte (R34). -/
def macGroup (addr : Nat) : Nat := 0x03C511520000 + addr

/-- The group address of a plane (R34). -/
def macPlane (plane : Nat) : Nat := 0x03C511520100 + plane

/-- The group address of all devices (R34). -/
def macAll : Nat := 0x03C5115201FF

/-- The device's own individual address, from which its unsolicited notices leave (R34, R35). -/
def State.ownMac (s : State) : Nat := macIndividual (s.get .GEN_ENUM_TWIN) (s.get .GEN_ENUM_MGMT_ADDR)

/-- The individual address of the device's twin, which shares its address byte (R33, R34). -/
def State.twinMac (s : State) : Nat := macIndividual (1 - s.get .GEN_ENUM_TWIN) (s.get .GEN_ENUM_MGMT_ADDR)

/-- A management frame to a destination address reaches the device: to itself, to its address group, to its plane or to all devices
(R34, R35). -/
def State.mgmtTakes (s : State) (dst : Nat) : Bool :=
  dst == s.ownMac || dst == macGroup (s.get .GEN_ENUM_MGMT_ADDR) || dst == macPlane (s.get .GEN_ENUM_PLANE) || dst == macAll

/-- MGMT_ANNOUNCE (R30, R35): from the individual address; to which address the spec does not say, so none is shown. -/
def execMgmtAnnounce (s : State) : Outcome State Fault Refusal :=
  .next (s.emit (.announce s.ownMac (s.get .GEN_ENUM_PLANE) s.position (s.get .GEN_ENUM_TWIN)))

/-- ANNOUNCE_RECEIVED: an announcement of another device, of its plane, position and twin, to destination `dst` (R30, R34). Only a device with a position has a triple to
share with another, so one without records nothing (DESIGN CHOICE, log entry 97). -/
def execAnnounceReceived (dst : Nat) (place : Place) (twin : Bool) (s : State) : Outcome State Fault Refusal :=
  .next (onlyIf (s.mgmtTakes dst && s.positioned && s.flag .GEN_ENUM_PLANE == place.plane && s.position == place.position && s.flag .GEN_ENUM_TWIN == twin)
    (enumFault 8) s)

end Sys2Proof.Machine
end

