-- ==== Sys2Proof/Machine/Coding.lean ====
section
/-!
DEFINITION. The mezzanine coder: the coded line of each mode, exactly (R169 to R187).
-/
namespace Sys2Proof.Machine

/-- The last reconstructions of each component in the line, 512 where there is none (R172). -/
structure Predictors where
  cb : Int
  cr : Int
  y : Int
deriving DecidableEq, Repr

/-- The predictors at the start of a line (R172). -/
def Predictors.start : Predictors := ⟨512, 512, 512⟩

/-- Predictor of the sample with index `n` (R170, R172). -/
def Predictors.of (p : Predictors) (n : Nat) : Int := if n % 4 = 0 then p.cb else if n % 4 = 2 then p.cr else p.y

/-- The predictors after the sample with index `n` is reconstructed. -/
def Predictors.set (p : Predictors) (n : Nat) (rec : Int) : Predictors :=
  if n % 4 = 0 then { p with cb := rec } else if n % 4 = 2 then { p with cr := rec } else { p with y := rec }

/-- Residual code of a sample at shift `s` (R173). -/
def residualCode (s : Nat) (r : Int) : Int := (r + (if s = 0 then 0 else 2 ^ (s - 1))) / 2 ^ s

/-- Reconstruction of a sample from its code (R173). -/
def reconstruct (s : Nat) (p q : Int) : Int := clampInt 4 1019 (p + q * 2 ^ s)

/-- Code the samples from index `n` predictively at shift `s` and residual width `w`; none where a code is out of range
(R173). The results are the codes, the reconstructions and the predictors after them. -/
def codeP (s w : Nat) : Nat → Predictors → List Nat → Option (List Int × List Int × Predictors)
  | _, p, [] => some ([], [], p)
  | n, p, x :: xs =>
    let q := residualCode s (x - p.of n)
    if -2 ^ (w - 1) ≤ q ∧ q ≤ 2 ^ (w - 1) - 1 then
      let rc := reconstruct s (p.of n) q
      match codeP s w (n + 1) (p.set n rc) xs with
      | some (qs, recs, p') => some (q :: qs, rc :: recs, p')
      | none => none
    else none

/-- The predictors after a block's reconstructions. -/
def advancePredictors : Nat → Predictors → List Int → Predictors
  | _, p, [] => p
  | n, p, r :: rs => advancePredictors (n + 1) (p.set n r) rs

/-- The `w` low bits of `v`, most significant first. -/
def bitsMsb (w v : Nat) : List Bool := ((bitsLsb w v).map (· == 1)).reverse

/-- A number spelled by bits, most significant first. -/
def bitsNat (bs : List Bool) : Nat := bs.foldl (fun n b => 2 * n + b.toNat) 0

/-- Cut a list into pieces of `k` (with as many steps as `fuel`). -/
def pieces {α : Type} (k : Nat) : Nat → List α → List (List α)
  | 0, _ => []
  | fuel + 1, l => if l.isEmpty then [] else l.take k :: pieces k fuel (l.drop k)

/-- Bits packed into bytes from bit 7 downward, the last byte filled with zeros (R171). -/
def packBits (bs : List Bool) : List Byte :=
  (pieces 8 bs.length bs).map (fun b => BitVec.ofNat 8 (bitsNat b * 2 ^ (8 - b.length)))

/-- Bits of bytes, most significant first. -/
def unpackBits (bs : List Byte) : List Bool := bs.flatMap (fun b => bitsMsb 8 b.toNat)

/-- One coded block: its slot, recorded shift, reconstructions, and whether it is a D-block (R175, R176). -/
structure CodedBlock where
  slot : List Bool
  shift : Nat
  recs : List Int
  direct : Bool
deriving DecidableEq, Repr

/-- The coding of a stream (R148): 1 Pass, 2 Half, 3 Quarter. Residual width of a P-block (R175, R176). -/
def residualWidth (coding : Nat) : Nat := if coding = 2 then 4 else 2

/-- Highest shift of a P-block (R178). -/
def maxShift (coding : Nat) : Nat := if coding = 2 then 4 else 6

/-- Slot of a P-block (R175, R176). -/
def slotP (coding s : Nat) (qs : List Int) : List Bool :=
  if coding = 2 then bitsMsb 5 31 ++ bitsMsb 3 s ++ qs.flatMap (fun q => bitsMsb 4 (ofSigned 4 q)) ++ bitsMsb 8 0
  else bitsMsb 3 s ++ qs.flatMap (fun q => bitsMsb 2 (ofSigned 2 q)) ++ bitsMsb 5 0

/-- Half D-block: reconstructions (R175). -/
def halfDirect (xs : List Nat) : List Int :=
  match xs with
  | [] => []
  | x :: rest => ((20 + 33 * ((x - 4) / 33) : Nat) : Int) :: rest.map (fun v => ((32 * (v / 32) + 16 : Nat) : Int))

/-- Slot of a Half D-block (R175). -/
def slotHalfDirect (xs : List Nat) : List Bool :=
  match xs with
  | [] => []
  | x :: rest => bitsMsb 5 ((x - 4) / 33) ++ rest.flatMap (fun v => bitsMsb 5 (v / 32))

/-- Quarter D-block with its refinement: reconstruction of one sample (R177). -/
def quarterDirect (u v : Nat) : Int := clampInt 4 1019 ((128 * (2 * u + v) + 64 : Nat) : Int)

/-- Quarter D-block decoded coarse: reconstruction of one sample (R177). -/
def quarterCoarse (u : Nat) : Int := clampInt 4 1019 ((256 * u + 128 : Nat) : Int)

/-- A block with no shift that fits (R178). -/
def codeDirect (coding : Nat) (xs : List Nat) : CodedBlock :=
  if coding = 2 then ⟨slotHalfDirect xs, 5, halfDirect xs, true⟩
  else ⟨bitsMsb 3 7 ++ xs.flatMap (fun x => bitsMsb 2 (x / 256)) ++ bitsMsb 5 0, 7,
    xs.map (fun x => quarterDirect (x / 256) (x / 128 % 2)), true⟩

/-- The first shift from `s` on, among `fuel`, at which every code fits; otherwise a D-block (R178). -/
def chooseShift (coding n : Nat) (p : Predictors) (xs : List Nat) : Nat → Nat → CodedBlock
  | 0, _ => codeDirect coding xs
  | fuel + 1, s =>
    match codeP s (residualWidth coding) n p xs with
    | some (qs, recs, _) => ⟨slotP coding s qs, s, recs, false⟩
    | none => chooseShift coding n p xs fuel (s + 1)

/-- Code one block of 16 samples whose first index is `n` (R178). -/
def codeBlock (coding n : Nat) (p : Predictors) (xs : List Nat) : CodedBlock :=
  chooseShift coding n p xs (maxShift coding + 1) 0

/-- Code a line's blocks in order; reconstructions carry across block boundaries (R172). -/
def codeBlocks (coding : Nat) : Nat → Predictors → List (List Nat) → List CodedBlock
  | _, _, [] => []
  | n, p, b :: bs =>
    let c := codeBlock coding n p b
    c :: codeBlocks coding (n + b.length) (advancePredictors n p c.recs) bs

/-- The two refinement bytes of a Quarter D-block (R176). -/
def refinementBytes (xs : List Nat) : List Byte := packBits (xs.map (fun x => x / 128 % 2 == 1))

/-- A coded line: its Lc bytes, its refinement bytes, the reconstructions, and the shift of each block (R171, R179). -/
structure CodedLine where
  bytes : List Byte
  refinement : List Byte
  recs : List Int
  shifts : List Nat
deriving DecidableEq, Repr

/-- Code a line of samples (R170, R171, R178): `depth` bits a sample in Pass. -/
def codeLine (coding depth : Nat) (xs : List Nat) : CodedLine :=
  if coding ≤ 1 then ⟨packBits (xs.flatMap (bitsMsb depth)), [], xs.map Int.ofNat, []⟩
  else
    let blocks := pieces 16 xs.length xs
    let cs := codeBlocks coding 0 .start blocks
    ⟨packBits (cs.flatMap (·.slot)),
     if coding = 3 then ((cs.zip blocks).filter (·.1.direct)).flatMap (fun c => refinementBytes c.2) else [],
     cs.flatMap (·.recs), cs.map (·.shift)⟩

/-- Coded line length Lc in bytes (R171), of a line of `n` samples. -/
def codedLength (coding depth n : Nat) : Nat := n * depth / 8 / (if coding = 2 then 2 else if coding = 3 then 4 else 1)

/-! ### Decoding -/

/-- What reading a coded line finds (R181, R182). -/
inductive DecodedLine where
  | line (samples : List Nat) (shifts : List Nat) (coarse : Nat)
  | malformed
  | noRefinement
deriving DecidableEq, Repr

/-- Two's complement codes of a P-block slot. -/
def slotCodes (w : Nat) (bs : List Bool) : List Int := (pieces w bs.length bs).map (fun b => toSigned w (bitsNat b))

/-- Reconstruct a P-block from its codes (R173). -/
def decodeP (s : Nat) : Nat → Predictors → List Int → List Int
  | _, _, [] => []
  | n, p, q :: qs =>
    let rc := reconstruct s (p.of n) q
    rc :: decodeP s (n + 1) (p.set n rc) qs

/-- One decoded block: reconstructions, recorded shift, whether it was decoded coarse. -/
structure DecodedBlock where
  recs : List Int
  shift : Nat
  coarse : Bool
deriving DecidableEq, Repr

/-- Decode a Half slot; none where SHIFT is reserved (R175, R182). -/
def decodeHalf (n : Nat) (p : Predictors) (slot : List Bool) : Option DecodedBlock :=
  let f := bitsNat (slot.take 5)
  if f = 31 then
    let s := bitsNat ((slot.drop 5).take 3)
    if 5 ≤ s then none else some ⟨decodeP s n p (slotCodes 4 ((slot.drop 8).take 64)), s, false⟩
  else
    let cs := (pieces 5 16 ((slot.drop 5).take 75)).map bitsNat
    some ⟨((20 + 33 * f : Nat) : Int) :: cs.map (fun c => ((32 * c + 16 : Nat) : Int)), 5, false⟩

/-- Decode a Quarter slot with the refinement of its D-block, if it arrived (R176, R177). -/
def decodeQuarter (n : Nat) (p : Predictors) (slot : List Bool) (refinement : Option (List Byte)) : DecodedBlock :=
  let h := bitsNat (slot.take 3)
  let body := (slot.drop 3).take 32
  if h < 7 then ⟨decodeP h n p (slotCodes 2 body), h, false⟩
  else
    let us := (pieces 2 16 body).map bitsNat
    match refinement with
    | some bs => ⟨(us.zip (unpackBits bs)).map (fun uv => quarterDirect uv.1 uv.2.toNat), 7, false⟩
    | none => ⟨us.map quarterCoarse, 7, true⟩

/-- A slot is a Quarter D-block (R176). -/
def isQuarterDirect (slot : List Bool) : Bool := bitsNat (slot.take 3) == 7

/-- Decode the slots of a coded line. `refinement j` holds the bytes of the line's D-block number `j`, if they arrived. -/
def decodeSlots (coding : Nat) (coarse : Bool) (refinement : Nat → Option (List Byte)) :
    Nat → Nat → Predictors → List (List Bool) → Option (Option (List DecodedBlock))
  | _, _, _, [] => some (some [])
  | n, j, p, slot :: rest =>
    let block : Option (Option DecodedBlock) :=
      if coding = 2 then (decodeHalf n p slot).map some
      else if isQuarterDirect slot && (refinement j).isNone && !coarse then some none
      else some (some (decodeQuarter n p slot (refinement j)))
    match block with
    | none => none
    | some none => some none
    | some (some b) =>
      let j' := if coding = 3 ∧ isQuarterDirect slot then j + 1 else j
      match decodeSlots coding coarse refinement (n + 16) j' (advancePredictors n p b.recs) rest with
      | none => none
      | some none => some none
      | some (some bs) => some (some (b :: bs))

/-- Decode a coded line (R171, R177, R181, R182). -/
def decodeLine (coding depth : Nat) (coarse : Bool) (refinement : Nat → Option (List Byte)) (bytes : List Byte) : DecodedLine :=
  let bits := unpackBits bytes
  if coding ≤ 1 then .line ((pieces depth bits.length bits).map bitsNat) [] 0
  else
    let slots := pieces (if coding = 2 then 80 else 40) bits.length bits
    match decodeSlots coding coarse refinement 0 0 .start slots with
    | none => .malformed
    | some none => .noRefinement
    | some (some bs) =>
      .line (bs.flatMap (fun b => b.recs.map Int.toNat)) ((bs.filter (fun b => !b.coarse)).map (·.shift))
        (bs.filter (·.coarse)).length

/-- Samples whose reconstruction differs, and the largest absolute error (R187). -/
def lineErrors (xs : List Nat) (recs : List Int) : Nat × Nat :=
  (xs.zip recs).foldl (fun acc xr =>
    let e := ((xr.1 : Int) - xr.2).natAbs
    (if e = 0 then acc.1 else acc.1 + 1, max acc.2 e)) (0, 0)

end Sys2Proof.Machine
end

