-- ==== Sys2Proof/Machine/Lanes.lean ====
section
/-!
DEFINITION. Media and fabric lanes: modes, bindings, the enable check, the detectors, receive queues and tests (R196 to
R224). Lane `l` is media lane Ml for l < 96 and fabric lane F(l − 96) from 96 on.
-/
namespace Sys2Proof.Machine

open Host (Outcome)

/-! ### Formats (R86, R92, R198) -/

/-- The format code is one of R86's. -/
def formatValid (f : Nat) : Bool :=
  f ∈ [0x01, 0x02, 0x10, 0x11, 0x12, 0x20, 0x21, 0x22] || (0x30 ≤ f && f ≤ 0x37) || (0x40 ≤ f && f ≤ 0x47)

/-- Frame period of a format as a fraction of a second, (numerator, denominator) (R86). -/
def framePeriod (f : Nat) : Nat × Nat :=
  match f with
  | 0x01 | 0x21 => (1001, 30000)
  | 0x02 | 0x20 => (1, 25)
  | 0x10 => (1, 50)
  | 0x11 => (1001, 60000)
  | 0x12 => (1, 60)
  | 0x22 => (1, 30)
  | _ => match f % 8 with
    | 0 => (1001, 24000)
    | 1 => (1, 24)
    | 2 => (1, 25)
    | 3 => (1001, 30000)
    | 4 => (1, 30)
    | 5 => (1, 50)
    | 6 => (1001, 60000)
    | _ => (1, 60)

/-- Lines per frame (R86). -/
def linesPerFrame (f : Nat) : Nat :=
  if f = 0x01 then 525 else if f = 0x02 then 625 else if f < 0x20 then 750 else if f < 0x40 then 1125 else 2250

/-- Switch line of a format (R86). -/
def switchLine (f : Nat) : Nat := if f = 0x01 then 10 else if f = 0x02 then 6 else if f < 0x40 then 7 else 13

/-- Active width and active lines per frame (R92). -/
def activeRaster (f : Nat) : Nat × Nat :=
  if f = 0x01 then (720, 486) else if f = 0x02 then (720, 576) else if f < 0x20 then (1280, 720)
  else if f < 0x40 then (1920, 1080) else (3840, 2160)

/-- The format's frames are two interlaced fields (R86). -/
def interlaced (f : Nat) : Bool := f ∈ [0x01, 0x02, 0x20, 0x21, 0x22]

/-- Bits per sample of a DEPTH value (R39). -/
def depthBits (d : Nat) : Nat := if d = 1 then 12 else 10

/-- Bytes of one span slot of a format and depth (R92). -/
def spanBytes (f d : Nat) : Nat := 2 * (activeRaster f).1 * (activeRaster f).2 * depthBits d / 8 + 1048576

/-- SDI modes that carry a format, single link (R198). -/
def modesOf (f : Nat) : List Nat :=
  if f = 0x01 ∨ f = 0x02 then [1]
  else if f ∈ [0x10, 0x12, 0x20, 0x22, 0x31, 0x32, 0x34] then [2]
  else if f ∈ [0x11, 0x21, 0x30, 0x33] then [3]
  else if f ∈ [0x35, 0x37] then [4]
  else if f = 0x36 then [5]
  else if f ∈ [0x41, 0x42, 0x44] then [6, 8]
  else if f ∈ [0x40, 0x43] then [7, 9]
  else if f ∈ [0x45, 0x47] then [8]
  else if f = 0x46 then [9] else []

/-- SDI mode that carries a format as a quad-link group (R198). -/
def quadModesOf (f : Nat) : List Nat := if f ∈ [0x45, 0x47] then [4] else if f = 0x46 then [5] else []

/-- A side of a mode, in a quad group or not, carries a format at 10 bits (R198). -/
def modeCarries (mode : Nat) (quad : Bool) (f d : Nat) : Bool :=
  d != 1 && (if quad then (quadModesOf f).contains mode else (modesOf f).contains mode)

/-! ### Modes and classes (R196) -/

/-- Transmit family of a mode, as LAN_QUAD_STAT.FAMILY codes it; 0 for an unused side (R196, R222). -/
def familyOf (mode : Nat) : Nat :=
  if mode = 0 then 0
  else if mode ∈ [1, 2, 4, 6, 8] then 1
  else if mode ∈ [3, 5, 7, 9] then 2
  else if mode = 0xA then 3
  else if mode = 0xB then 4
  else if mode = 0xF then 6 else 5

/-- EQ class of a mode (R196). -/
def eqClassOf (mode : Nat) : Nat :=
  if mode ∈ [1, 2, 3, 0xA] then 0 else if mode ∈ [4, 5] then 1 else if mode ∈ [6, 7] then 2 else if mode ∈ [8, 9] then 3
  else if mode = 0xB then 4 else if mode = 0xF then 6 else 5

/-- Ethernet modes (R196). -/
def isEthernet (mode : Nat) : Bool := 0xB ≤ mode && mode ≤ 0xE
/-- SDI modes (R196). -/
def isSdi (mode : Nat) : Bool := 1 ≤ mode && mode ≤ 9

/-- Receive mode of a lane. -/
def State.rxMode (s : State) (l : Nat) : Nat := if l < 96 then s.get .LAN_CTRL_RX_MODE l else 0xF
/-- Transmit mode of a lane. -/
def State.txMode (s : State) (l : Nat) : Nat := if l < 96 then s.get .LAN_CTRL_TX_MODE l else 0xF

/-- Quad of a lane: MQ0 to MQ23 are 0 to 23, FQ0 to FQ21 are 24 to 45. -/
def quadOf (l : Nat) : Nat := l / 4

/-- The four lanes of a quad. -/
def quadLanes (q : Nat) : List Nat := [4 * q, 4 * q + 1, 4 * q + 2, 4 * q + 3]

/-! ### The equalisation table (R208 to R210) -/

/-- A little-endian field of a section. -/
def leAt (bs : List Byte) (o n : Nat) : Nat := leNat ((bs.drop o).take n)

/-- One entry of the table (R208). -/
structure EqEntry where
  lane : Nat
  cls : Nat
  ctle : Nat
  pre : Int
  main : Nat
  post : Int
  swing : Nat
  rxInv : Bool
  txInv : Bool
deriving DecidableEq, Repr

/-- An entry from its eight bytes; none where it is invalid (R208, R209). -/
def eqEntry (bs : List Byte) : Option EqEntry :=
  let v := leNat bs
  let pre := toSigned 8 (bitsAt v 32 8)
  let post := toSigned 8 (bitsAt v 48 8)
  let main := bitsAt v 40 8
  if bitsAt v 0 16 < 184 ∧ bitsAt v 16 8 ≤ 6 ∧ bitsAt v 24 8 ≤ 15 ∧ -15 ≤ pre ∧ pre ≤ 0 ∧ 20 ≤ main ∧ main ≤ 63 ∧ -31 ≤ post
      ∧ post ≤ 0 ∧ bitsAt v 60 4 = 0 ∧ pre.natAbs + main + post.natAbs ≤ 63 then
    some ⟨bitsAt v 0 16, bitsAt v 16 8, bitsAt v 24 8, pre, main, post, bitsAt v 56 2, bitsAt v 58 1 == 1, bitsAt v 59 1 == 1⟩
  else none

/-- The placed section of a type (R58), none where the image in use has none; a section of the safety owner is used only
where its signature holds (R65). -/
def State.sectionOf (s : State) (typ : Nat) : Option Placed :=
  if s.handedOver then
    s.boot.placed.find? (fun p => p.typ == typ && (bitsAt p.flags 1 1 == 0 || s.boot.chosen.any (·.2)))
  else none

/-- Bytes of the placed section of a type. -/
def State.sectionBytes (s : State) (typ : Nat) : Option (List Byte) := (s.sectionOf typ).map (·.bytes)

/-- The table's header is one of R208. A section without it holds no entries (DESIGN CHOICE, log entry 120). -/
def eqHeaderGood (bs : List Byte) : Bool :=
  leAt bs 0 4 == 0x4C514531 && leAt bs 4 2 == 1 && 1 ≤ leAt bs 6 2 && leAt bs 6 2 ≤ 1472 && leAt bs 12 4 == 0

/-- The entries of the table in order, invalid ones as none (R208). -/
def State.eqTable (s : State) : List (Option EqEntry) :=
  match s.sectionBytes 1 with
  | some bs => if eqHeaderGood bs then (pieces 8 bs.length ((bs.drop 16).take (8 * leAt bs 6 2))).map eqEntry else []
  | none => []

/-- BOARD_ID of the table, for firmware (R208). -/
def State.boardId (s : State) : Nat := ((s.sectionBytes 1).map (fun bs => leAt bs 8 4)).getD 0

/-- The entry that applies to a lane and class: the first in table order (R209). -/
def State.eqFor (s : State) (l cls : Nat) : Option EqEntry :=
  s.eqTable.findSome? (fun e => e.filter (fun e => e.lane == l && e.cls == cls))

/-- Whether an entry repeats the lane and class of an earlier one. -/
def countDuplicates : List EqEntry → Nat
  | [] => 0
  | e :: es => countDuplicates es + (if es.any (fun x => x.lane == e.lane && x.cls == e.cls) then 1 else 0)

/-- LAN_EQ_INFO once the table is placed (R209, R222). -/
def placeEqTable (s : State) : State :=
  let t := s.eqTable
  let good := t.filterMap id
  let dup := countDuplicates good.reverse
  (((s.put .LAN_BOARD_ID 0 s.boardId).put .LAN_EQ_INFO_ENTRIES 0 (good.length - dup)).put .LAN_EQ_INFO_DUPLICATES 0 (satAdd 8 0 dup)).put .LAN_EQ_INFO_INVALID 0
    (satAdd 8 0 (t.length - good.length))

/-! ### The enable check (R199, R202 to R206, R210, R221) -/

/-- RX_KIND suits the mode of the side (R202). -/
def rxKindGood (l mode kind : Nat) : Bool :=
  if mode = 0 then kind == 0
  else if isSdi mode then kind == 0 || kind == 1
  else if mode = 0xA then kind == 2
  else if mode = 0xE ∧ l % 4 ≠ 0 then kind == 0
  else kind == 3

/-- TX_KIND suits the mode of the side (R202). -/
def txKindGood (l mode kind : Nat) : Bool :=
  if mode = 0 then kind == 0
  else if isSdi mode then kind ≤ 2
  else if mode = 0xA then kind == 3
  else if mode = 0xE ∧ l % 4 ≠ 0 then kind == 0
  else kind == 4

/-- The quad bits suit the sides (R202). -/
def State.quadBitsGood (s : State) (l : Nat) : Bool :=
  (!s.flag .LAN_BIND_RX_QUAD l || ((s.rxMode l == 4 || s.rxMode l == 5) && s.get .LAN_BIND_RX_KIND l == 1))
    && (!s.flag .LAN_BIND_TX_QUAD l || ((s.txMode l == 4 || s.txMode l == 5)
      && (s.get .LAN_BIND_TX_KIND l == 1 || s.get .LAN_BIND_TX_KIND l == 2)))

/-- The lane leads a quad group on its receive side, its transmit side (R204). -/
def State.leadsRx (s : State) (l : Nat) : Bool := s.flag .LAN_BIND_RX_QUAD l || s.rxMode l == 0xE
/-- The lane leads a quad group on its transmit side (R204). -/
def State.leadsTx (s : State) (l : Nat) : Bool := s.flag .LAN_BIND_TX_QUAD l || s.txMode l == 0xE

/-- The other three lanes of the leader's quad are enabled with its modes and without bindings (R204). -/
def State.groupComplete (s : State) (l : Nat) : Bool :=
  [l + 1, l + 2, l + 3].all (fun k => s.running .lane k
    && (!s.leadsRx l || (s.rxMode k == s.rxMode l && s.get .LAN_BIND_RX_KIND k == 0))
    && (!s.leadsTx l || (s.txMode k == s.txMode l && s.get .LAN_BIND_TX_KIND k == 0)))

/-- The quad group conditions of a lane hold (R204). -/
def State.quadGood (s : State) (l : Nat) : Bool :=
  if l % 4 = 0 then !(s.leadsRx l || s.leadsTx l) || s.groupComplete l
  else !(s.flag .LAN_BIND_RX_QUAD l || s.flag .LAN_BIND_TX_QUAD l)

/-- Lane `k` is an enabled lane with a receive binding to an input (R202). -/
def State.rxBoundTo (s : State) (k i : Nat) : Bool :=
  s.running .lane k && s.get .LAN_BIND_RX_KIND k == 1 && s.get .LAN_BIND_RX_TARGET k == i

/-- Lane `k` is an enabled lane with a transmit binding of a kind (1 destination, 2 head) to a target (R202). -/
def State.txBoundTo (s : State) (k kind t : Nat) : Bool :=
  s.running .lane k && s.get .LAN_BIND_TX_KIND k == kind && s.get .LAN_BIND_TX_TARGET k == t

/-- The lane bound to an input, if any. -/
def State.inputLane (s : State) (i : Nat) : Option Nat := (List.range 96).find? (fun k => s.rxBoundTo k i)
/-- The lane bound to a destination (kind 1) or a head (kind 2), if any. -/
def State.outputLane (s : State) (kind t : Nat) : Option Nat := (List.range 96).find? (fun k => s.txBoundTo k kind t)

/-- A running receive entry whose KIND is one of `kinds` feeds an input (R231). -/
def State.fedByKind (s : State) (kinds : List Nat) (i : Nat) : Bool :=
  (List.range 2048).any (fun n => s.running .rx n && kinds.contains (s.get .PKT_RX_KIND n) && s.get .PKT_RX_TARGET n == i)

/-- A receive entry of KIND 1, 2 or 3 feeds an input, so that no lane may (R231). -/
def State.packetFed (s : State) (i : Nat) : Bool := s.fedByKind [1, 2, 3] i

/-- A target of the lane's bindings is already bound to another enabled lane, or its input is fed by packets (R202, R231). -/
def State.doubleBound (s : State) (l : Nat) : Bool :=
  (s.get .LAN_BIND_RX_KIND l == 1 && s.packetFed (s.get .LAN_BIND_RX_TARGET l))
  || (List.range 96).any (fun k => k != l
    && ((s.get .LAN_BIND_RX_KIND l == 1 && s.rxBoundTo k (s.get .LAN_BIND_RX_TARGET l))
      || ((s.get .LAN_BIND_TX_KIND l == 1 || s.get .LAN_BIND_TX_KIND l == 2)
        && s.txBoundTo k (s.get .LAN_BIND_TX_KIND l) (s.get .LAN_BIND_TX_TARGET l))))

/-- Family running in a quad, 0 while it is idle (R199): that of any enabled lane with a used transmit side. -/
def State.quadFamily (s : State) (q : Nat) : Nat :=
  (((quadLanes q).filter (fun k => s.running .lane k && s.txMode k != 0)).map (fun k => familyOf (s.txMode k))).headD 0

/-- A field of the lane's registers is reserved or out of range (R202, R221). -/
def State.laneFieldBad (s : State) (l : Nat) : Bool :=
  l < 96 && (s.rxMode l == 0xF || s.txMode l == 0xF || 3 < s.get .LAN_BIND_RX_KIND l || 4 < s.get .LAN_BIND_TX_KIND l
    || (s.get .LAN_BIND_RX_KIND l == 1 && s.variant.mediaLanes ≤ s.get .LAN_BIND_RX_TARGET l)
    || (s.get .LAN_BIND_TX_KIND l == 1 && s.variant.mediaLanes ≤ s.get .LAN_BIND_TX_TARGET l)
    || (s.get .LAN_BIND_TX_KIND l == 2 && s.variant.heads ≤ s.get .LAN_BIND_TX_TARGET l))

/-- A side in use has no valid entry of its class (R210). -/
def State.eqMissing (s : State) (l : Nat) : Bool :=
  (s.rxMode l != 0 && (s.eqFor l (eqClassOf (s.rxMode l))).isNone)
    || (s.txMode l != 0 && (s.eqFor l (eqClassOf (s.txMode l))).isNone)

/-- Own codes of the lane's enable check (R221); `outputBad` is R206. -/
def State.laneOwnCode (s : State) (l : Nat) (outputBad : Bool) : Nat :=
  if l < 96 then
    if (s.rxMode l = 0 ∧ s.txMode l = 0) ∨ ((isEthernet (s.rxMode l) ∨ isEthernet (s.txMode l)) ∧ s.rxMode l ≠ s.txMode l) then 0x50
    else if !rxKindGood l (s.rxMode l) (s.get .LAN_BIND_RX_KIND l) || !txKindGood l (s.txMode l) (s.get .LAN_BIND_TX_KIND l)
        || !s.quadBitsGood l then 0x56
    else if !s.quadGood l then 0x54
    else if s.doubleBound l then 0x55
    else if outputBad then 0x58
    else if s.txMode l ≠ 0 ∧ s.quadFamily (quadOf l) ≠ 0 ∧ s.quadFamily (quadOf l) ≠ familyOf (s.txMode l) then 0x51
    else if s.eqMissing l then 0x52 else 0
  else if s.eqMissing l then 0x52 else 0

/-- The applied equalisation of a lane as it is enabled (R210). -/
def applyEq (l : Nat) (s : State) : State :=
  let rx := if s.rxMode l = 0 then none else s.eqFor l (eqClassOf (s.rxMode l))
  let tx := if s.txMode l = 0 then none else s.eqFor l (eqClassOf (s.txMode l))
  let s := match rx with
    | some e => (s.put .LAN_EQ_CTLE l e.ctle).putFlag .LAN_EQ_RX_INV l e.rxInv
    | none => s
  match tx with
  | some e => ((((s.put .LAN_EQ_PRE l (ofSigned 5 e.pre)).put .LAN_EQ_MAIN l e.main).put .LAN_EQ_POST l (ofSigned 6 e.post)).put
      .LAN_EQ_SWING l e.swing).putFlag .LAN_EQ_TX_INV l e.txInv
  | none => s

/-- A disabled lane reads LOS 1 and LOCK 0 (R212); nothing waits in its receive queue. -/
def laneDisabled (l : Nat) (s : State) : State :=
  (((s.put .LAN_STAT_LOS l 1).put .LAN_STAT_LOCK l 0).put .LAN_STAT_QUAD_SKEW l 0).put .LAN_RXQ_FILL l 0

/-- Disabling the lane would break a group led by another enabled lane (R204). -/
def State.breaksGroup (s : State) (l : Nat) : Bool :=
  let leader := 4 * quadOf l
  l < 96 && l != leader && s.running .lane leader && (s.leadsRx leader || s.leadsTx leader)

/-! ### Service of a lane (R212, R213, R220) -/

/-- LAN_TEST selects a pattern or a loopback (R220). -/
def State.underTest (s : State) (l : Nat) : Bool :=
  s.get .LAN_TEST_LOOP l != 0 || s.get .LAN_TEST_PRBS_TX l != 0 || s.get .LAN_TEST_PRBS_RX l != 0

/-- A fabric lane is up (R213). -/
def State.laneUp (s : State) (l : Nat) : Bool := s.running .lane l && s.flag .LAN_STAT_LOCK l && !s.underTest l

/-- The receive side of a lane delivers a signal (R93, R205, R213, R220). -/
def State.laneDelivers (s : State) (l : Nat) : Bool :=
  s.running .lane l && !s.flag .LAN_STAT_LOS l && s.flag .LAN_STAT_LOCK l && !s.underTest l && !s.flag .LAN_STAT_QUAD_SKEW l

/-- The receive binding led by lane `l` delivers: the lane, or every lane of the group it leads (R204, R205). -/
def State.bindingDelivers (s : State) (l : Nat) : Bool :=
  (if s.leadsRx l then quadLanes (quadOf l) else [l]).all s.laneDelivers

/-- Lanes whose bindings a change of lane `l` touches: itself, and the running leader of its group (R202, R204). -/
def State.bindingsOf (s : State) (l : Nat) : List Nat :=
  let lead := 4 * quadOf l
  if lead ≠ l ∧ s.running .lane lead ∧ s.leadsRx lead then [lead, l] else [l]

/-! ### What a lane sends (R200, R204, R207, R216, R220) -/

/-- The lane whose transmit binding lane `l` serves: the running leader of its group, or itself (R202, R204). -/
def State.sendsFor (s : State) (l : Nat) : Nat :=
  let lead := 4 * quadOf l
  if l < 96 && s.running .lane lead && s.leadsTx lead then lead else l

/-- Lane `l` has an output binding whose unit lets it send (R207); a lane of a quad group follows its leader. -/
def State.laneSends (s : State) (l : Nat) : Bool :=
  let k := s.sendsFor l
  let t := s.get .LAN_BIND_TX_TARGET k
  let held := !s.flag .TWN_STAT_DRIVING
  if 96 ≤ l then true
  else match s.get .LAN_BIND_TX_KIND k with
    | 1 => s.running .dest t && !held
    | 2 => s.running .head t && !held
    | 3 => s.running .port (80 + k) && !held
    | 4 => true
    | _ => false

/-- The transmitter of lane `l` can send: enabled, its side used, its quad's PLL locked (R200); in Quiet every media transmitter is idle
(R545). -/
def State.txReady (s : State) (l : Nat) : Bool :=
  s.running .lane l && s.txMode l != 0 && s.flag .LAN_QUAD_STAT_PLL_LOCK (quadOf l) && !(l < 96 && s.inQuiet)

/-- Lane `l` sends its binding's content: no test takes its place (R220). -/
def State.laneCarries (s : State) (l : Nat) : Bool := s.txReady l && !s.underTest l && s.laneSends l

/-- LAN_STAT.TX_ACTIVE (R200, R207, R220). -/
def State.txActive (s : State) (l : Nat) : Bool :=
  s.txReady l && (if s.underTest l then s.get .LAN_TEST_PRBS_TX l != 0 || s.get .LAN_TEST_LOOP l == 2 else s.laneSends l)

/-- Lanes of the interface of a binding led by lane `k`, in the order of their links (R204). -/
def State.txGroup (s : State) (k : Nat) : List Nat := if s.leadsTx k then quadLanes (quadOf k) else [k]

/-- Line number of a LINE, which counts from the switch line (R86, R131). -/
def lineNumber (f line : Nat) : Nat := (switchLine f - 1 + line) % linesPerFrame f + 1

/-- A line of a destination (kind 1) or head (kind 2) as it leaves on the lanes that carry it (R204, R207, R216): lane 4q + k carries
link k + 1. -/
def State.sdiLines (s : State) (kind t fmt line : Nat) (samples : List Nat) : List SdiLine :=
  match s.outputLane kind t with
  | none => []
  | some k => ((s.txGroup k).filter s.laneCarries).map (fun l =>
      ⟨l, l - k + 1, lineNumber fmt line, Config.sdiWords (s.txMode l) (l - k + 1) fmt (lineNumber fmt line) samples⟩)

/-- A lane under test begins to send its pattern or what it receives (R218 to R220). -/
def testOut (l : Nat) (s : State) : State :=
  onlyIf (s.underTest l && s.txActive l) (fun s => s.emit (.laneTest l (s.get .LAN_TEST_LOOP l) (s.get .LAN_TEST_PRBS_TX l))) s

/-- Show the receive offset in 0.1 ppm (R211). -/
def putFreq (l : Nat) (freq : Int) (s : State) : State := s.put .LAN_STAT_FREQ l (ofSigned 16 (clampInt (-20000) 20000 freq))

/-- Set causes of LAN_EVT and raise the lane's source (R223). Bits: 0 LOS_CHG, 1 LOCK_CHG, 2 CRC_ERR, 3 RXQ_OVF,
4 ECC_UNCOR, 5 PRBS_ERR, 6 QUAD_SKEW, 7 TX_PLL. -/
def laneCause (l mask cls : Nat) (s : State) : State := setCauses .LAN_EVT .LAN_EVT_EN l mask l cls s

/-- LOS is set: LOCK falls with it (R212). -/
def losSet (l : Nat) (s : State) : State :=
  let locked := s.flag .LAN_STAT_LOCK l
  laneCause l (if locked then 3 else 1) 0 ((s.put .LAN_STAT_LOS l 1).put .LAN_STAT_LOCK l 0)

/-- LOCK changes (R212). -/
def lockChange (l : Nat) (lock : Bool) (s : State) : State := laneCause l 2 0 (s.putFlag .LAN_STAT_LOCK l lock)

/-- LOS_CLEAR (R212); the frequency detector measures the signal's offset. -/
def execLosClear (l : Nat) (freq : Int) (s : State) : Outcome State Fault Refusal :=
  .next (onlyIf (s.running .lane l && s.flag .LAN_STAT_LOS l) (fun s => laneCause l 1 0 (putFreq l freq (s.put .LAN_STAT_LOS l 0))) s)

/-- QUAD_PLL_LOCK (R200): the transmitters resume. -/
def execQuadPllLock (q : Nat) (s : State) : Outcome State Fault Refusal :=
  .next (onlyIf ((quadLanes q).any (fun l => s.running .lane l) && !s.flag .LAN_QUAD_STAT_PLL_LOCK q)
    (fun s => forAll (quadLanes q) testOut (s.put .LAN_QUAD_STAT_PLL_LOCK q 1)) s)

/-- QUAD_PLL_LOSS (R200). -/
def execQuadPllLoss (q : Nat) (s : State) : Outcome State Fault Refusal :=
  .next (onlyIf (s.flag .LAN_QUAD_STAT_PLL_LOCK q) (fun s =>
    forAll (quadLanes q) (fun l s => onlyIf (s.running .lane l) (laneCause l 128 0) s) (s.put .LAN_QUAD_STAT_PLL_LOCK q 0)) s)

/-- The input that lane `l` serves: that of its group's running leader, or its own (R202, R204). -/
def State.inputServed (s : State) (l : Nat) : Option Nat :=
  let lead := 4 * quadOf l
  let k := if l < 96 && s.running .lane lead && s.leadsRx lead then lead else l
  if s.get .LAN_BIND_RX_KIND k = 1 then some (s.get .LAN_BIND_RX_TARGET k) else none

/-- A receive-queue entry is discarded: the video words it held keep what the store held at their places (R214, R215). -/
def discardEntry (l line first count : Nat) (s : State) : State :=
  let s := s.bump .LAN_RXQ_DROP l
  match s.inputServed l with
  | some i => { s with holes := ⟨i, line, first, count⟩ :: s.holes }
  | none => s

/-- What SECDED finds where so many bits of a word are wrong (R214): 0 nothing, 1 corrected, 2 uncorrectable. -/
def secdedFinds (wrong : Nat) : Nat := if wrong ≤ 2 then wrong else Config.manyWrong wrong

/-- An entry comes to the receive queue of lane `l` (R214): discarded where 64 still wait, and as it is read where it cannot be
corrected. -/
def rxqEntry (l drained wrong line first count : Nat) (s : State) : State :=
  let fill := s.get .LAN_RXQ_FILL l - drained
  if 64 ≤ fill then laneCause l 8 0 (discardEntry l line first count (s.put .LAN_RXQ_FILL l fill))
  else
    let s := s.put .LAN_RXQ_FILL l (fill + 1)
    match secdedFinds wrong with
    | 0 => s
    | 1 => s.bump .LAN_ECC_COR l
    | _ => laneCause l 16 2 (discardEntry l line first count s)

/-- RXQ_ENTRY (R214 to R217). -/
def execRxqEntry (l : Nat) (e : RxqEvent) (s : State) : Outcome State Fault Refusal :=
  .next (onlyIf (s.running .lane l) (fun s => match e with
    | .entry drained wrong line first count => rxqEntry l drained wrong line first count s
    | .mismatch => laneCause l 4 0 (s.bump .LAN_CRC_ERR l)
    | .fecCorrected => s.bump .LAN_FEC_COR l) s)

/-! ### Patterns (R218) -/

/-- The two taps of a pattern's polynomial x^a + x^b + 1, by its code (R218). -/
def prbsTaps (code : Nat) : Nat × Nat :=
  if code = 1 then (7, 6) else if code = 2 then (9, 5) else if code = 3 then (15, 14) else if code = 4 then (23, 18) else (31, 28)

/-- The next bit of a pattern after the bits of `sr`, the latest in bit 0 (R218). -/
def prbsNext (code sr : Nat) : Nat := (bitsAt sr ((prbsTaps code).1 - 1) 1 + bitsAt sr ((prbsTaps code).2 - 1) 1) % 2

/-- The pattern's bits with one more. -/
def prbsShift (sr b : Nat) : Nat := (2 * sr + b) % 2 ^ 31

/-- The checker of lane `l` takes one bit (R218). Until it locks it follows the received bits: those that fill its register, then the
error-free ones in a row, 64 of which lock it. Once locked it follows its own pattern and counts each bit that differs. -/
def prbsBit (l : Nat) (b : Bool) (s : State) : State :=
  let code := s.get .LAN_TEST_PRBS_RX l
  let sr := s.get .LAN_PRBS_SR l
  let run := s.get .LAN_PRBS_RUN l
  let fill := (prbsTaps code).1
  let good := prbsNext code sr == b.toNat
  if s.flag .LAN_TEST_PRBS_LOCK l then
    onlyIf (!good) (fun s => laneCause l 32 0 (s.bump .LAN_PRBS_ERR l)) (s.put .LAN_PRBS_SR l (prbsShift sr (prbsNext code sr)))
  else
    let run := if run < fill ∨ good then run + 1 else fill
    let s := (s.put .LAN_PRBS_SR l (prbsShift sr b.toNat)).put .LAN_PRBS_RUN l run
    onlyIf (run == fill + 64) (·.put .LAN_TEST_PRBS_LOCK l 1) s

/-- PRBS_CHECKER_LOCK (R218): bits that the receive side of a lane recovers while it checks a pattern. -/
def execPrbsCheckerLock (l : Nat) (bits : List Bool) (s : State) : Outcome State Fault Refusal :=
  .next (onlyIf (s.running .lane l && s.get .LAN_TEST_PRBS_RX l != 0) (forAll bits (prbsBit l)) s)

/-- Offset of a register of lane `l`'s window (R221). -/
def laneOff (l o : Nat) : Nat := 0x300000 + 0x800 * l + o

/-- Why a LAN_TEST write is refused, 0 where it is not (R219, R598). -/
def State.testRefusal (s : State) (l v : Nat) : Nat :=
  if s.inQuiet || s.inSafe then 0x08
  else if bitsAt v 8 2 = 3 ∨ 5 < bitsAt v 4 3 ∨ 5 < bitsAt v 0 3 then 0x04
  else if (bitsAt v 8 2 = 2 ∧ s.rxMode l ≠ s.txMode l) ∨ (bitsAt v 4 3 ≠ 0 ∧ s.txMode l = 0)
      ∨ (bitsAt v 0 3 ≠ 0 ∧ s.rxMode l = 0) then 0x57
  else 0

/-- A LAN_TEST write (R218 to R220): the checker starts unsynchronised, and the transmitter sends what the test selects. -/
def laneTestWrite (m : Master) (l v : Nat) (s : State) : State :=
  let c := s.testRefusal l v
  if c ≠ 0 then refuse c (wordOf (laneOff l 0x40)) m s
  else
    let s := ((s.put .LAN_TEST_LOOP l (bitsAt v 8 2)).put .LAN_TEST_PRBS_TX l (bitsAt v 4 3)).put .LAN_TEST_PRBS_RX l (bitsAt v 0 3)
    testOut l (((s.put .LAN_TEST_PRBS_LOCK l 0).put .LAN_PRBS_SR l 0).put .LAN_PRBS_RUN l 0)

end Sys2Proof.Machine
end

