-- ==== Sys2Proof/Machine/Gaz.lean ====
section
/-!
DEFINITION. Control cells on the fabric and the gazetteer: staging, publication, the digest exchange (R37 to R47, R139).
-/
namespace Sys2Proof.Machine

open Host (Outcome)

/-! ### Positions, ports and control cells (R128, R139, R163) -/

/-- Position that port `p` faces (R128). -/
def State.peerPos (s : State) (p : Nat) : Nat := (s.position + p + 1) % 12

/-- Port that faces position `k`, for another position (R128). -/
def State.portOf (s : State) (k : Nat) : Nat := (k + 11 - s.position) % 12

/-- The fabric sends cells: enabled, and neither Quiet nor Safe (R163). -/
def State.fabSends (s : State) : Bool := s.running .fabric && !s.inQuiet && !s.inSafe

/-- Port `p` is up and carries cells (R129). -/
def State.portUp (s : State) (p : Nat) : Bool := p < 11 && s.flag .FAB_PORT_STAT_UP p

/-- Message code of a control message (R139). -/
def ctlCode : FabMsg → Nat
  | .heartbeat .. => 0x01
  | .load .. => 0x02
  | .subReq .. => 0x03
  | .subGrant .. => 0x04
  | .subRefuse .. => 0x05
  | .wpReq .. => 0x06
  | .wpAnswer .. => 0x07
  | .release .. => 0x08
  | .migrate .. => 0x09
  | .gazEntry .. => 0x0A
  | .gazDigest .. => 0x0B
  | .gazFetch => 0x0C
  | .wpShed .. => 0x0D
  | .drop .. => 0x0E

/-- The six bytes of a stream key (R140). -/
def keyBytes (k : StreamKey) : List Byte :=
  leBytes 2 k.source ++ leBytes 1 k.kind ++ leBytes 1 k.coding ++ leBytes 1 k.receiver ++ leBytes 1 k.home

/-- The payload bytes that a control message uses (R140). -/
def ctlPayload : FabMsg → List Byte
  | .heartbeat pos plane twin cls power t =>
    leBytes 1 (pos + 16 * plane + 32 * twin + 64 * cls) ++ leBytes 1 power ++ leBytes 6 t.sec ++ leBytes 4 t.ns ++ leBytes 2 t.frac
  | .load ports => ports.flatMap (fun rc => leBytes 4 rc.1 ++ leBytes 4 rc.2)
  | .subReq n kind mc src fs => leBytes 2 n ++ leBytes 1 kind ++ leBytes 1 mc ++ leBytes 2 src ++ leBytes 1 fs
  | .subGrant n c w f => leBytes 2 n ++ leBytes 1 c ++ leBytes 1 w ++ leBytes 4 f
  | .subRefuse n r cr => leBytes 2 n ++ leBytes 1 r ++ leBytes 1 cr
  | .wpReq n k c => leBytes 2 n ++ keyBytes k ++ leBytes 4 c
  | .wpAnswer n r sp => leBytes 2 n ++ leBytes 1 r ++ [0] ++ leBytes 4 sp
  | .release k l => keyBytes k ++ [0, 0] ++ leBytes 4 l
  | .migrate k c w f => keyBytes k ++ leBytes 1 c ++ leBytes 1 w ++ leBytes 4 f
  | .gazEntry e r => e.words.flatMap (leBytes 4) ++ leBytes 1 r.toNat
  | .gazDigest d => leBytes 4 d
  | .gazFetch => [0]
  | .wpShed k r => keyBytes k ++ leBytes 1 r
  | .drop k r l => keyBytes k ++ leBytes 1 r ++ [0] ++ leBytes 4 l

/-- Header words 0, 1 and 2 of a cell of which `len` payload bytes are used (R131). -/
def cellHeader (c : Cell) : List Byte :=
  leBytes 4 (2 ^ 28 * c.typ + 2 ^ 26 * c.coding + 2 ^ 25 * c.lost.toNat + 2 ^ 24 * c.last.toNat + 2 ^ 23 * c.sketch.toNat
      + 2 ^ 12 * (c.source % 2 ^ 11) + 2 ^ 8 * (c.dest % 16) + c.seq % 2 ^ 8)
    ++ leBytes 4 (2 ^ 20 * (c.line % 2 ^ 12) + 2 ^ 4 * (c.offset % 2 ^ 16))
    ++ leBytes 4 (2 ^ 16 * (c.span % 2 ^ 16) + 2 ^ 8 * c.payload.length)

/-- The 256 bytes of a cell (R131): three header words, the CRC-32C over them and the payload, the payload filled with zeros. -/
def cellWire (c : Cell) : List Byte :=
  let data := c.payload ++ List.replicate (240 - c.payload.length) 0
  cellHeader c ++ leBytes 4 (crc32c (cellHeader c ++ data)) ++ data

/-- A cell leaves on a port. -/
def cellOut (p : Nat) (c : Cell) : Out := .cell p c (cellWire c)

/-- The control cell of a message, with the port's count and the receiving position (R139, R140). -/
def controlCell (seq dest : Nat) (msg : FabMsg) : Cell :=
  { typ := 8, coding := 0, lost := false, last := false, sketch := false, source := ctlCode msg, dest := dest, seq := seq, line := 0
    offset := 0, span := 0, payload := ctlPayload msg }

/-- A control cell leaves on a port. -/
def controlOut (p seq dest : Nat) (msg : FabMsg) : Out := cellOut p (controlCell seq dest msg)

/-- Put a control cell on a port, with the port's count (R140). -/
def ctlEmit (p : Nat) (msg : FabMsg) (s : State) : State :=
  (s.emit (controlOut p (s.get .FAB_CTL_SEQ p) (s.peerPos p) msg)).inc .FAB_CTL_SEQ p

/-- Send a control message on a port that carries cells. -/
def ctlSend (p : Nat) (msg : FabMsg) (s : State) : State := onlyIf (s.fabSends && s.portUp p) (ctlEmit p msg) s

/-- Send a control message to a position. -/
def ctlTo (pos : Nat) (msg : FabMsg) (s : State) : State := ctlSend (s.portOf pos) msg s

/-- Send a control message on every port that carries cells. -/
def ctlAll (msg : FabMsg) (s : State) : State := forAll (List.range 11) (fun p => ctlSend p msg) s

/-! ### Gazetteer entries (R37 to R40) -/

/-- Entry number of a stream: 0–1151 video, 1152–2303 sketch (R39). -/
def gazOf (sketch : Bool) (src : Nat) : Nat := if sketch then 1152 + src else src

/-- Position of a source's home device (R38). -/
def homeOf (src : Nat) : Nat := src / 96

/-- The entry is one of the device's own home entries (R38, R40). -/
def State.homeEntry (s : State) (n : Nat) : Bool := s.positioned && homeOf (n % 1152) == s.position

/-- Word `k` of a published entry, STALE taken as 0 (R39, R45). -/
def State.gazWord (s : State) (n k : Nat) : Nat :=
  match k with
  | 0 => 2 ^ 31 * s.get .GAZ_W0_VALID n + 2 ^ 30 * s.get .GAZ_W0_SKETCH n + s.get .GAZ_W0_SOURCE n
  | 1 => 2 ^ 16 * s.get .GAZ_W1_GENERATION n + 2 ^ 8 * s.get .GAZ_W1_FORMAT n + 2 ^ 4 * s.get .GAZ_W1_DEPTH n
      + s.get .GAZ_W1_SCALE n
  | 2 => s.get .GAZ_RATE n
  | 3 => s.get .GAZ_ANC_RATE n
  | 4 => s.get .GAZ_LABEL0 n
  | 5 => s.get .GAZ_LABEL1 n
  | 6 => s.get .GAZ_LABEL2 n
  | _ => s.get .GAZ_LABEL3 n

/-- The eight words of an entry. -/
def State.gazWords (s : State) (n : Nat) : List Nat := (List.range 8).map (s.gazWord n)

/-- An entry as a control message carries it. -/
def State.gazEntry (s : State) (n : Nat) : GazEntry := ⟨n, s.gazWords n⟩

/-- The 192 entries of a position, video then sketch (R45). -/
def entriesOf (pos : Nat) : List Nat :=
  (List.range 96).map (fun i => 96 * pos + i) ++ (List.range 96).map (fun i => 1152 + 96 * pos + i)

/-- Digest of the copy held of a position's entries (R45). -/
def State.digestOf (s : State) (pos : Nat) : Nat := crc32c ((entriesOf pos).flatMap (fun n => (s.gazWords n).flatMap (leBytes 4)))

/-- Set word `k` ≥ 1 of an entry, but for GENERATION. -/
def putGazWord (n k v : Nat) (s : State) : State :=
  match k with
  | 1 => ((s.put .GAZ_W1_FORMAT n (bitsAt v 8 8)).put .GAZ_W1_DEPTH n (bitsAt v 4 4)).put .GAZ_W1_SCALE n (bitsAt v 0 4)
  | 2 => s.put .GAZ_RATE n v
  | 3 => s.put .GAZ_ANC_RATE n v
  | 4 => s.put .GAZ_LABEL0 n v
  | 5 => s.put .GAZ_LABEL1 n v
  | 6 => s.put .GAZ_LABEL2 n v
  | 7 => s.put .GAZ_LABEL3 n v
  | _ => s

/-- Take an entry whole, GENERATION included; STALE stays (R42, R43, R45). -/
def takeEntry (e : GazEntry) (s : State) : State :=
  let w := fun k => (e.words[k]?).getD 0
  let s := (s.put .GAZ_W0_VALID e.n (bitsAt (w 0) 31 1)).put .GAZ_W1_GENERATION e.n (bitsAt (w 1) 16 16)
  forAll [1, 2, 3, 4, 5, 6, 7] (fun k => putGazWord e.n k (w k)) s

/-- A count of ignored writes (R40). -/
def foreignWrite (s : State) : State := s.bump .ATL_GAZ_STAT_FOREIGN_WR

/-- The device follows its twin's home entries (R43): twin operation on, no claim, and valid heartbeats on the twin link from
a twin that reports CLAIM. -/
def State.followsTwin (s : State) : Bool :=
  s.running .twin && !s.flag .TWN_STAT_CLAIM && s.flag .TWN_LINK_SEEN && !s.flag .TWN_STAT_LINK_LOST
    && bitsAt (s.get .TWN_STAT_TWIN_FLAGS) 0 1 == 1

/-- Offset of word `k` of entry `n` (R39). -/
def gazOff (n k : Nat) : Nat := 0x180000 + 32 * n + 4 * k

/-! ### Stores that an entry sizes (R92, R157, R158) -/

/-- Bytes that an input's store takes for the format and depth of its home entry (R92). -/
def inputStoreBytes (f d : Nat) : Nat := 3 * spanBytes f d + 16 * (activeRaster f).1 * 2 * depthBits d / 8

/-- Native payload rate of a sketch, in kbit/s, rounded up (R39, R158). -/
def sketchRate (f d scale : Nat) : Nat :=
  let p := framePeriod f
  let num := 2 * (activeRaster f).1 * (activeRaster f).2 * depthBits d * p.2
  let den := p.1 * 1000 * (if scale = 2 then 16 else 4)
  (num + den - 1) / den

/-- Local input of a home video entry. -/
def State.inputOf (s : State) (n : Nat) : Nat := n % 1152 - 96 * s.position

/-! ### The lost condition and the format of an input (R90, R93) -/

/-- The signal that feeds an input is bad: its lane reports loss of signal or lock (R93), or its receive entry is lost
(R233). -/
def State.inputSignalBad (s : State) (i : Nat) : Bool :=
  ((s.inputLane i).any (fun l => !s.bindingDelivers l)) || s.flag .PKT_INPUT_LOST i

/-- The conditions of R93, but for the way out of them. -/
def State.inputBad (s : State) (i : Nat) : Bool :=
  s.inputSignalBad i || s.flag .ATL_IN_STAT_FMT_ERR i || s.flag .ATL_IN_STAT_STORE_SHORT i || 2 ≤ s.get .IN_STALE i

/-- Judge the lost condition of an input (R93). -/
def judgeInput (i : Nat) (s : State) : State :=
  if !s.running .input i then s
  else if s.inputBad i then
    onlyIf (!s.flag .ATL_IN_STAT_LOST i) (fun s => notice 191 (s.put .ATL_IN_STAT_LOST i 1)) (s.put .IN_GOOD i 0)
  else onlyIf (s.flag .ATL_IN_STAT_LOST i && 2 ≤ s.get .IN_GOOD i) (fun s => notice 191 (s.put .ATL_IN_STAT_LOST i 0)) s

/-- Judge the input that a lane feeds. -/
def judgeLane (l : Nat) (s : State) : State :=
  onlyIf (s.get .LAN_BIND_RX_KIND l == 1) (judgeInput (s.get .LAN_BIND_RX_TARGET l)) s

/-- A feed of ST 2022-6 carries no 12-bit video and no 2160p (R230). -/
def State.kindCarries (s : State) (i f d : Nat) : Bool := !(s.fedByKind [2] i && (0x40 ≤ f || d == 1))

/-- The format detected last on an input differs from its home entry, or its feed cannot carry it (R90, R230). -/
def State.formatWrong (s : State) (i : Nat) : Bool :=
  let g := 96 * s.position + i
  s.flag .IN_DETECTED i && !(s.get .GAZ_W1_FORMAT g == s.get .IN_FMT i && s.get .GAZ_W1_DEPTH g == s.get .IN_DEPTH i
    && s.kindCarries i (s.get .IN_FMT i) (s.get .IN_DEPTH i))

/-- Judge FMT_ERR of an enabled input (R90). -/
def judgeFormat (i : Nat) (s : State) : State :=
  let bad := s.formatWrong i
  onlyIf (s.running .input i && s.positioned)
    (fun s => onlyIf (bad && !s.flag .ATL_IN_STAT_FMT_ERR i) (notice 193) (s.putFlag .ATL_IN_STAT_FMT_ERR i bad)) s

/-- A signal of a format and depth is detected on an input (R90). What was detected last stays so while there is no signal (DESIGN
CHOICE, log entry 107). -/
def detectFormat (i f d : Nat) (s : State) : State := judgeFormat i (((s.put .IN_DETECTED i 1).put .IN_FMT i f).put .IN_DEPTH i d)

/-- A home video entry has changed: it may need a larger store than its input has (R92), and the format is judged against it anew
(R90, R93). -/
def checkStore (n : Nat) (s : State) : State :=
  let i := s.inputOf n
  let f := s.get .GAZ_W1_FORMAT n
  onlyIf (s.homeEntry n && n < 1152 && s.running .input i) (fun s =>
    let s := onlyIf (formatValid f && s.get .IN_ALLOC i < inputStoreBytes f (s.get .GAZ_W1_DEPTH n)) (·.put .ATL_IN_STAT_STORE_SHORT i 1) s
    judgeInput i (judgeFormat i s)) s

/-- The rate that a sketch entry publishes (R158). -/
def publishSketch (n : Nat) (s : State) : State :=
  let v := n - 1152
  let f := s.get .GAZ_W1_FORMAT v
  onlyIf (1152 ≤ n && formatValid f)
    (fun s => (s.put .GAZ_RATE n (sketchRate f (s.get .GAZ_W1_DEPTH v) (s.get .GAZ_W1_SCALE n))).put .GAZ_ANC_RATE n 0) s

/-! ### Staging and publication (R40 to R43) -/

/-- The write is ignored and counted: not a home entry, or an entry that follows the twin (R40, R43). -/
def State.gazForeign (s : State) (n : Nat) : Bool := !s.homeEntry n || s.followsTwin

/-- GAZ_STAGE_WRITE: a write of word `w`, 1 to 7, of entry `n` (R40, R41, R43). -/
def execGazStageWrite (m : Master) (n w v : Nat) (s : State) : Outcome State Fault Refusal :=
  .next (writeGated m (gazOff n w) (fun s =>
    if s.gazForeign n then foreignWrite s
    else (s.put .GAZ_STAGE (8 * n + w) v).put .GAZ_STAGED n (s.get .GAZ_STAGED n ||| 2 ^ w)) s)

/-- Publish the staging copy of an entry with word 0 (R41). -/
def publish (n v : Nat) (s : State) : State :=
  let mask := s.get .GAZ_STAGED n
  let s := forAll [1, 2, 3, 4, 5, 6, 7] (fun k s => onlyIf (bitsAt mask k 1 == 1) (putGazWord n k (s.get .GAZ_STAGE (8 * n + k))) s) s
  let s := publishSketch n ((s.put .GAZ_W0_VALID n (bitsAt v 31 1)).inc .GAZ_W1_GENERATION n)
  checkStore n ((s.put .GAZ_STAGED n 0).put .GAZ_DIRTY n 3)

/-- GAZ_PUBLISH: a write of word 0 of entry `n` (R40, R41, R43, R92, R158). -/
def execGazPublish (m : Master) (n v : Nat) (s : State) : Outcome State Fault Refusal :=
  .next (writeGated m (gazOff n 0) (fun s => if s.gazForeign n then foreignWrite s else publish n v s) s)

/-- Put a resynchronisation message on the twin link (R521). -/
def resyncEmit (kind index : Nat) (data : List Byte) (s : State) : State :=
  let m := [1] ++ leBytes 1 (s.get .TWN_TX_SEQ) ++ leBytes 1 kind ++ [0] ++ leBytes 2 index ++ leBytes 2 data.length ++ data
  (s.emit (.twin (m ++ leBytes 4 (crc32c m)))).inc .TWN_TX_SEQ

/-- The twin link carries messages: twin operation on and the link not lost (R42, R43). -/
def State.twinLinkUp (s : State) : Bool := s.running .twin && s.flag .TWN_LINK_SEEN && !s.flag .TWN_STAT_LINK_LOST

/-- One half of a published home entry (R521, kind 0x04). -/
def State.entryHalf (s : State) (n : Nat) (upper : Bool) : List Byte :=
  leBytes 2 (s.get .GAZ_W1_GENERATION n) ++ [0, 0]
    ++ ((if upper then [4, 5, 6, 7] else [0, 1, 2, 3]).flatMap (fun k => leBytes 4 (s.gazWord n k)))

/-- INDEX of a half of an entry (R521, kind 0x04). -/
def halfIndex (n : Nat) (upper : Bool) : Nat := n % 1152 + (if upper then 2 ^ 14 else 0) + (if 1152 ≤ n then 2 ^ 15 else 0)

/-- GAZ_ENTRY_SEND (R42): a changed home entry goes to the peers, and from its publisher to the twin. -/
def execGazEntrySend (n : Nat) (s : State) : Outcome State Fault Refusal :=
  .next (onlyIf (s.homeEntry n && s.get .GAZ_DIRTY n != 0) (fun s =>
    let toTwin := 2 ≤ s.get .GAZ_DIRTY n && s.twinLinkUp
    let s := ctlAll (.gazEntry (s.gazEntry n) false) (s.put .GAZ_DIRTY n 0)
    onlyIf toTwin (fun s => resyncEmit 4 (halfIndex n true) (s.entryHalf n true)
      (resyncEmit 4 (halfIndex n false) (s.entryHalf n false) s)) s) s)

/-! ### Receiving entries and digests (R42, R45, R46) -/

/-- One generation is newer than another (R42). -/
def newerThan (g h : Nat) : Bool :=
  let d := (g + 65536 - h) % 65536
  1 ≤ d && d ≤ 32767

/-- Bit `pos` of ATL_GAZ_STAT.MISMATCH. -/
def State.mismatch (s : State) (pos : Nat) : Bool := bitsAt (s.get .ATL_GAZ_STAT_MISMATCH) pos 1 == 1

/-- Clear a bit of a mask. -/
def clearBit (m k : Nat) : Nat := if bitsAt m k 1 = 1 then m - 2 ^ k else m

/-- Note that an entry of a fetch has arrived; once all 192 have, the mismatch is over (R45). -/
def noteFetched (n : Nat) (s : State) : State :=
  let pos := homeOf (n % 1152)
  match s.gazFetch.find? (·.1 == pos) with
  | none => s
  | some f =>
    let got := if f.2.contains n then f.2 else n :: f.2
    let rest := s.gazFetch.filter (·.1 != pos)
    if got.length < 192 then { s with gazFetch := (pos, got) :: rest }
    else { s with gazFetch := rest }.put .ATL_GAZ_STAT_MISMATCH 0 (clearBit (s.get .ATL_GAZ_STAT_MISMATCH) pos)

/-- GAZ_ENTRY (R42, R45): never applied to a home entry. -/
def execGazEntry (e : GazEntry) (refresh : Bool) (s : State) : Outcome State Fault Refusal :=
  .next (onlyIf (s.running .fabric && e.n < 2304 && !s.homeEntry e.n) (fun s =>
    let g := bitsAt ((e.words[1]?).getD 0) 16 16
    let s := onlyIf (refresh || newerThan g (s.get .GAZ_W1_GENERATION e.n)) (takeEntry e) s
    onlyIf refresh (noteFetched e.n) s) s)

/-- GAZ_DIGEST_SEND (R45): every 100 ms. -/
def execGazDigestSend (s : State) : Outcome State Fault Refusal :=
  .next (onlyIf s.positioned (fun s => ctlAll (.gazDigest (s.digestOf s.position)) s) s)

/-- STALE of all 192 entries of a position (R46). -/
def setStale (pos : Nat) (b : Bool) (s : State) : State := forAll (entriesOf pos) (fun n s => s.putFlag .GAZ_W0_STALE n b) s

/-- GAZ_DIGEST: the digest of the peer on port `p` (R45, R46). Bit p of ATL_GAZ_STAT.STALE follows the entries' STALE: it stays after the
peer's return until the digests agree, though the table of R47 reads it as `position p is lost` (DEDUCED, log entry 102). -/
def execGazDigest (p digest : Nat) (s : State) : Outcome State Fault Refusal :=
  let pos := s.peerPos p
  .next (onlyIf (s.running .fabric && p < 11 && !s.flag .FAB_PORT_STAT_LOST p) (fun s =>
    if digest = s.digestOf pos then
      setStale pos false (s.put .ATL_GAZ_STAT_STALE 0 (clearBit (s.get .ATL_GAZ_STAT_STALE) pos))
    else if s.mismatch pos then s
    else ctlSend p .gazFetch (notice 196
      ({ s with gazFetch := (pos, []) :: s.gazFetch }.put .ATL_GAZ_STAT_MISMATCH 0
        (s.get .ATL_GAZ_STAT_MISMATCH ||| 2 ^ pos)))) s)

/-- GAZ_FETCH: a request of the peer on port `p` (R45). -/
def execGazFetch (p : Nat) (s : State) : Outcome State Fault Refusal :=
  .next (onlyIf (s.running .fabric && s.positioned)
    (fun s => forAll (entriesOf s.position) (fun n s => ctlSend p (.gazEntry (s.gazEntry n) true) s) s) s)

/-- GAZ_FETCH_RETRY: 50 ms after a fetch of the peer on port `p` that is not complete (R45). -/
def execGazFetchRetry (p : Nat) (s : State) : Outcome State Fault Refusal :=
  .next (onlyIf (s.mismatch (s.peerPos p) && !s.flag .FAB_PORT_STAT_LOST p)
    (ctlSend p .gazFetch) s)

/-- A lost position (R45, R46): entries stale, the fetch abandoned. -/
def positionLost (pos : Nat) (s : State) : State :=
  let was := bitsAt (s.get .ATL_GAZ_STAT_STALE) pos 1
  let s := setStale pos true (s.put .ATL_GAZ_STAT_STALE 0 (s.get .ATL_GAZ_STAT_STALE ||| 2 ^ pos))
  let s := { s with gazFetch := s.gazFetch.filter (·.1 != pos) }
  onlyIf (was == 0) (notice 197) (s.put .ATL_GAZ_STAT_MISMATCH 0 (clearBit (s.get .ATL_GAZ_STAT_MISMATCH) pos))

end Sys2Proof.Machine
end

