-- ==== Sys2Proof/Machine/Fabric.lean ====
section
/-!
DEFINITION. The Dunbin fabric: ports and peers, subscriptions, the admission ladder, waypoints, migration, shedding and the
loss of peers (R127 to R130, R139 to R168).
-/
namespace Sys2Proof.Machine

open Host (Outcome)

/-! ### Ports and ceilings (R129, R130, R147) -/

/-- The span before span `n`: span numbers are 32 bits and wrap. -/
def prevSpan (n : Nat) : Nat := if n % 2 ^ 32 = 0 then 2 ^ 32 - 1 else n % 2 ^ 32 - 1

/-- Lanes of port `p` that are up, as LANES_UP (R164). -/
def State.lanesUpMask (s : State) (p : Nat) : Nat :=
  ((List.range 8).map (fun i => if s.laneUp (96 + 8 * p + i) then 2 ^ i else 0)).sum

/-- Number of lanes of port `p` that are up. -/
def State.lanesUp (s : State) (p : Nat) : Nat := ((List.range 8).filter (fun i => s.laneUp (96 + 8 * p + i))).length

/-- The position that port `p` faces is fitted (R130). -/
def State.fitted (s : State) (p : Nat) : Bool := bitsAt (s.get .FAB_POS_MASK_POSITIONS) (s.peerPos p) 1 == 1

/-- Ceiling of port `p` (R147). -/
def State.ceilingOf (s : State) (p : Nat) : Nat := min (s.get .FAB_PORT_LIMIT p) (s.lanesUp p * 26846590)

/-- Take the ceiling of port `p` afresh (R147, R167); a port without lanes carries no cells (R129), and a port that faces an
unfitted position raises no event (R130). -/
def renewCeiling (p : Nat) (s : State) : State :=
  let c := s.ceilingOf p
  let s := onlyIf (s.lanesUp p == 0) (·.put .FAB_PORT_STAT_UP p 0) s
  if s.get .FAB_PORT_CEILING p = c then s else onlyIf (s.fitted p) (notice (211 + p)) (s.put .FAB_PORT_CEILING p c)

/-- A fabric lane's lock or enable changed. -/
def laneChanged (l : Nat) (s : State) : State := onlyIf (96 ≤ l && l < 184) (renewCeiling ((l - 96) / 8)) s

/-- Reserved egress load of port `p`: transmit streams with the paths they are leaving, forwarded streams, and
reservations that await an answer (R147, R149, R153). -/
def State.portLoad (s : State) (p : Nat) : Nat :=
  (s.tx.map (fun t => (if t.port = p then t.cost else 0)
      + (t.old.map (fun o => if o.port = p then o.cost else 0)).sum)).sum
    + (s.wp.map (fun w => if w.outPort = p then w.cost else 0)).sum
    + (s.admits.map (fun a => if a.waypoint ≠ 15 ∧ a.port = p then a.cost else 0)).sum

/-- Load of port `p` that shedding has already taken off (R154). -/
def State.shedLoad (s : State) (p : Nat) : Nat :=
  (s.tx.map (fun t => (if t.port = p ∧ t.shedding then t.cost else 0)
      + (t.old.map (fun o => if o.port = p ∧ o.shed then o.cost else 0)).sum)).sum
    + (s.wp.map (fun w => if w.outPort = p ∧ w.shedding then w.cost else 0)).sum

/-- Room left on port `p` under its ceiling, streams being shed not counted (R147, R154). -/
def State.portSpare (s : State) (p : Nat) : Nat := s.get .FAB_PORT_CEILING p - (s.portLoad p - s.shedLoad p)

/-- Division rounded up. -/
def ceilDiv (a b : Nat) : Nat := (a + b - 1) / b

/-- Cost of a stream (R146): `div` is 1 for Pass, 2 for Half, 4 for Quarter. -/
def streamCost (rate anc div : Nat) : Nat := ceilDiv ((ceilDiv rate div + anc) * 16) 15 + 128

/-- Divisor of a coding (R146). -/
def codingDiv (coding : Nat) : Nat := if coding = 2 then 2 else if coding = 3 then 4 else 1

/-- Cost of a stream of a kind by the gazetteer as it stands (R146). -/
def State.costOf (s : State) (kind src coding fs : Nat) : Nat :=
  if kind = 0 then streamCost (s.get .GAZ_RATE src) (s.get .GAZ_ANC_RATE src) (codingDiv coding)
  else if kind = 1 then streamCost (s.get .GAZ_RATE (1152 + src)) 0 1
  else streamCost (64 * 32 * (if fs = 1 then 96 else 48)) 0 1

/-- Audio groups have their own spans of 1 ms (R345); a picture stream has its source's format. -/
def State.formatOf (s : State) (src : Nat) : Nat := s.get .GAZ_W1_FORMAT src

/-- Millisecond index of an instant of TB0. -/
def msOf (t : Stamp) : Nat := t.sec * 1000 + t.ns / 1000000

/-- Last span decided of a stream: the frame number at the last decision point of its format, or the millisecond index. -/
def State.spanNow (s : State) (kind src : Nat) : Nat :=
  if kind = 2 then msOf s.now else s.get .ATL_N_DECIDED (s.formatOf src)

/-- First span that starts more than 250 µs from now (R143, R345). -/
def State.spanNext (s : State) (kind src : Nat) : Nat :=
  if kind = 2 then (s.now.sec * 1000000000 + s.now.ns + 250000) / 1000000 + 1 else s.get .ATL_N_DECIDED (s.formatOf src) + 1

/-- `a` lies behind `b` on the circle of 32-bit span numbers. -/
def behind32 (a b : Nat) : Bool :=
  let d := (b + 2 ^ 32 - a % 2 ^ 32) % 2 ^ 32
  1 ≤ d && d < 2 ^ 31

/-! ### Who uses a stream (R100, R141, R144, R151) -/

/-- The video source is remote (R99). -/
def State.isRemote (s : State) (src : Nat) : Bool := src < 1152 && !(s.positioned && homeOf src == s.position)

/-- Highest coding that a destination's request may carry (R151, R169). -/
def State.destCoding (s : State) (d : Nat) : Nat := if s.running .mzc then s.get .FAB_DEST_POLICY_MAX_CODING d + 1 else 1

/-- A receive stream exists: granted, or releasing (R141, R142). -/
def RxStream.runs (r : RxStream) : Bool := r.st == 1 || r.st == 3

/-- A request of a receive entry is open (R142). -/
def RxStream.asking (r : RxStream) : Bool := r.st == 0 || r.rejoin

/-- The stream that a consumer of a coding policy joins: of those that exist, the least coded one that it allows (R141). -/
def State.streamFor (s : State) (kind src home maxCoding : Nat) : Option RxStream :=
  [1, 2, 3].findSome? (fun c => if c ≤ maxCoding then
    s.rx.find? (fun r => r.kind == kind && r.src == src && r.home == home && r.coding == c && r.runs)
  else none)

/-- The video stream that a binding of a destination names: `k` is 1 + its entry (R141). -/
def State.boundRx (s : State) (k src : Nat) : Option RxStream :=
  if k = 0 then none else s.rx.find? (fun r => r.slot == k - 1 && r.kind == 0 && r.src == src)

/-- The stream that the draft of destination `d` made or joined. -/
def State.draftRx (s : State) (d : Nat) : Option RxStream := s.boundRx (s.get .DEST_DRAFT_RX d) (s.get .ATL_DRAFT_SOURCE d)

/-- The stream that feeds the live entry of destination `d`: the one it took with its commit, or else one that it may join. A
stream already admitted feeds it whatever its policy has become (R151). -/
def State.liveRx (s : State) (d : Nat) : Option RxStream :=
  let src := s.get .ATL_LIVE_SOURCE d
  if s.isRemote src then
    (s.boundRx (s.get .DEST_LIVE_RX d) src).orElse (fun _ => s.streamFor 0 src (homeOf src) (s.destCoding d))
  else none

/-- The stream that fed the live entry of destination `d` before the last meridian, until the next one (R100). -/
def State.prevRx (s : State) (d : Nat) : Option RxStream := s.boundRx (s.get .DEST_PREV_RX d) (s.get .DEST_PREV_SOURCE d)

/-- The stream of a destination's previous span. -/
def State.oldRx (s : State) (d : Nat) : Option RxStream := if s.get .DEST_PREV_SOURCE d = 0x7FF then s.liveRx d else s.prevRx d

/-- An entry is the one looked for. -/
def RxStream.is (r : RxStream) (o : Option RxStream) : Bool := o.any (fun x => x.slot == r.slot)

/-- Destinations whose draft, live entry or last live entry a stream feeds. -/
def State.destsOf (s : State) (r : RxStream) : List Nat :=
  if r.kind = 0 then (List.range 96).filter (fun d => r.is (s.draftRx d) || r.is (s.liveRx d) || r.is (s.prevRx d)) else []

/-- Destinations whose live entry a receive stream feeds (R192). -/
def State.fedBy (s : State) (r : RxStream) : List Nat := if r.kind = 0 then (List.range 96).filter (fun d => r.is (s.liveRx d)) else []

/-- Sketches that the shadow and the live entry of a tile name. Tile 64n + t is tile t of head n (R433). -/
def State.tileSources (s : State) (i : Nat) : List Nat :=
  (if s.flag .CMP_TILE_W0_EN_T i && !s.flag .CMP_TILE_W0_KIND i then [s.get .CMP_TILE_W0_SOURCE i] else [])
    ++ (if bitsAt (s.get .CMP_TILE_L0 i) 30 2 == 2 then [bitsAt (s.get .CMP_TILE_L0 i) 0 11] else [])

/-- Tiles whose shadow or live entry is enabled and names a sketch, or that still keep its stream (R433). -/
def State.tileNames (s : State) (i src : Nat) : Bool := (s.tileSources i).contains src || s.get .CMP_TILE_OLD i == src + 1

/-- Tiles that name a sketch. -/
def State.tilesOf (s : State) (src : Nat) : List Nat := (List.range 256).filter (fun i => s.tileNames i src)

/-- Group of a constellation channel at its home device (R340). -/
def groupOf (src : Nat) : Nat := src % 16384 / 64

/-- Stored elements of a field, as index and value. -/
def State.entries (s : State) (f : Fld) : List (Nat × Nat) := (s.regs.filter (fun c => c.fld = f)).map (fun c => (c.idx, c.val))

/-- Output channels whose draft or live entry of the audio atlas names a channel of a remote group (R340, R346). -/
def State.channelsOf (s : State) (home g : Nat) : List Nat :=
  (((s.entries .AUD_DRAFT_SOURCE ++ s.entries .AUD_LIVE_SOURCE).filter
    (fun e => e.1 < (if s.flag .AUD_CTRL_FS then 8192 else 16384) && e.2 / 16384 == home && groupOf e.2 == g)).map (·.1)).eraseDups

/-- Number of consumers that a stream feeds (USERS, R144, R165). -/
def State.users (s : State) (r : RxStream) : Nat :=
  if r.kind = 0 then (s.destsOf r).length
  else if r.kind = 1 then (s.tilesOf r.src).length
  else (s.channelsOf r.home r.src).length

/-- The draft of a destination names a source without a stream of its own, and would join this stream (R100, R141). -/
def State.wouldJoin (s : State) (r : RxStream) (d : Nat) : Bool :=
  s.get .ATL_DRAFT_SOURCE d == r.src && (s.draftRx d).isNone && r.is (s.streamFor 0 r.src r.home (s.destCoding d))

/-- A consumer uses the stream, or a draft that could use it names its source (R100, R144). -/
def State.needed (s : State) (r : RxStream) : Bool :=
  0 < s.users r || (r.kind == 0 && (List.range 96).any (s.wouldJoin r))

/-- A live entry, an armed draft, a tile or an audio entry names the stream (R155). -/
def State.stillWanted (s : State) (r : RxStream) : Bool :=
  if r.kind = 0 then (List.range 96).any (fun d => (s.flag .ATL_DRAFT_ARMED d && r.is (s.draftRx d)) || r.is (s.liveRx d))
  else 0 < s.users r

/-- Most restrictive policy among the destinations of a stream (R151); tiles and audio allow Pass only. -/
def State.policyOf (s : State) (r : RxStream) : Nat :=
  if r.kind = 0 then (s.destsOf r).foldl (fun m d => min m (s.destCoding d)) 3 else 1

/-! ### Changing streams -/

/-- Change the receive streams that satisfy `p`. -/
def mapRx (p : RxStream → Bool) (f : RxStream → RxStream) (s : State) : State :=
  { s with rx := s.rx.map (fun r => if p r then f r else r) }

/-- Change the receive stream of an entry. -/
def mapRxSlot (n : Nat) (f : RxStream → RxStream) (s : State) : State := mapRx (fun r => r.slot == n) f s

/-- Change the transmit stream of an entry. -/
def mapTx (n : Nat) (f : TxStream → TxStream) (s : State) : State :=
  { s with tx := s.tx.map (fun t => if t.slot = n then f t else t) }

/-- Lowest entry number below `n` not in use. -/
def freeSlot (n : Nat) (used : List Nat) : Option Nat := (List.range n).find? (fun k => !used.contains k)

/-- Key of a receive stream (R139). -/
def State.rxKey (s : State) (r : RxStream) : StreamKey := ⟨r.src, r.kind, r.coding, s.position, r.home⟩
/-- Key of a transmit stream under a coding. -/
def State.keyUnder (s : State) (t : TxStream) (coding : Nat) : StreamKey := ⟨t.src, t.kind, coding, t.dest, s.position⟩
/-- Key of a transmit stream. -/
def State.txKey (s : State) (t : TxStream) : StreamKey := s.keyUnder t t.coding

/-- Replace a binding `a` of every destination by `b`, in one field. -/
def rebindField (f : Fld) (a b : Nat) (s : State) : State :=
  forAll (List.range 96) (fun d s => onlyIf (s.get f d == a) (·.put f d b) s) s

/-- Every destination bound to entry `a - 1` is bound to entry `b - 1`, or to none where `b` is 0. -/
def rebind (a b : Nat) (s : State) : State :=
  rebindField .DEST_PREV_RX a b (rebindField .DEST_LIVE_RX a b (rebindField .DEST_DRAFT_RX a b s))

/-- Free the receive entries that satisfy `p` (R144). -/
def freeRx (p : RxStream → Bool) (s : State) : State :=
  forAll (s.rx.filter p) (fun r s => rebind (r.slot + 1) 0 s) { s with rx := s.rx.filter (fun r => !p r) }

/-- Bind whoever asks to an entry. -/
def bindRx (who : Asker) (n : Nat) (s : State) : State :=
  match who with
  | .draft d => s.put .DEST_DRAFT_RX d (n + 1)
  | .live d => s.put .DEST_LIVE_RX d (n + 1)
  | .shared => s

/-! ### Requests of the receiving device (R141 to R145, R150, R166, R169) -/

/-- A code of the coding range is recorded for a destination (R192). -/
def codingReason (d code : Nat) (s : State) : State := s.put .MZC_DEST_STAT0_LAST_REASON d code

/-- First coding reason that explains a refusal 0x30 at destination `d` (R169). -/
def State.refusedCoding (s : State) (d fromHome : Nat) : Nat :=
  if !s.running .mzc && s.get .FAB_DEST_POLICY_MAX_CODING d != 0 then 0x41 else fromHome

/-- What a refusal leaves in the consumers that asked: the drafts of some destinations, whose live entries may have asked too
(R150, R169, R192), the tiles of a sketch (R433), the consumers of a group (R348). -/
def noteRefusal (kind src : Nat) (drafts lives : List Nat) (code fromHome : Nat) (s : State) : State :=
  if kind = 0 then
    let s := forAll drafts (fun d s => s.put .ATL_DRAFT_STAT_FAB_REASON d code) s
    forAll (drafts ++ lives) (fun d s =>
      let c := s.refusedCoding d fromHome
      onlyIf (code == 0x30 && c != 0) (codingReason d c) s) s
  else if kind = 1 then
    forAll (s.tilesOf src) (fun i s =>
      setCauses .CMP_HEAD_EVT .CMP_HEAD_EVT_EN (i / 64) 4 (392 + i / 64) 0 (s.put .CMP_TILE_W8_FAB_REASON i code)) s
  else notice 331 s

/-- What a refusal of a request that has no entry leaves in whoever asked. -/
def noteAsker (kind src : Nat) (who : Asker) (code : Nat) (s : State) : State :=
  match who with
  | .draft d => noteRefusal kind src [d] [] code 0 s
  | .live d => noteRefusal kind src [] [d] code 0 s
  | .shared => noteRefusal kind src [] [] code 0 s

/-- What a refusal of an entry's request leaves in the consumers of the entry. -/
def noteEntry (r : RxStream) (code fromHome : Nat) (s : State) : State :=
  noteRefusal r.kind r.src ((List.range 96).filter (fun d => r.is (s.draftRx d))) (s.fedBy r) code fromHome s

/-- The refusal codes of an entry's consumers end with a new request or a grant (R99). -/
def clearReasons (r : RxStream) (s : State) : State :=
  if r.kind = 0 then forAll ((List.range 96).filter (fun d => r.is (s.draftRx d))) (fun d s => s.put .ATL_DRAFT_STAT_FAB_REASON d 0) s
  else if r.kind = 1 then forAll (s.tilesOf r.src) (fun i s => s.put .CMP_TILE_W8_FAB_REASON i 0) s
  else s

/-- A request ends in a refusal at the receiving device (R143, R150, R167); `silent` after a loss (R160). A stream that runs goes
on: its request only told a stricter policy (R151). -/
def failRequest (r : RxStream) (code fromHome : Nat) (silent : Bool) (s : State) : State :=
  if r.st = 1 then mapRxSlot r.slot (fun x => { x with rejoin := false }) s
  else
    let keep := s.stillWanted r && (r.kind != 0 || r.again || !(s.fedBy r).isEmpty)
    let s := onlyIf (!silent) (notice 222) (noteEntry r code fromHome s)
    if keep then mapRxSlot r.slot (fun x => { x with st := 4, rejoin := false, reason := code, spans := 0, good := 0 }) s
    else freeRx (fun x => x.slot == r.slot) s

/-- A request that no entry could hold is refused (R143, R145, R166, R346). -/
def refuseAtOnce (kind src : Nat) (who : Asker) (code : Nat) (s : State) : State := notice 222 (noteAsker kind src who code s)

/-- A new receive entry in state requested. -/
def newRx (slot rxg kind src home maxCoding fs reqNo : Nat) (store : Option Nat) (extra : Nat) : RxStream :=
  { slot := slot, rxg := rxg, kind := kind, src := src, home := home, coding := 0, waypoint := 15, st := 0, reason := 0, spans := 0
    good := 0, missing := 0, migrations := 0, reqNo := reqNo, maxCoding := maxCoding, fs := fs, sent := false, first := 0
    relLast := none, relSent := false, rejoin := false, again := false, next := [], dropLast := none, store := store, extra := extra
    pieces := [], markers := [], lastSpan := none, held := none, read := none }

/-- Two streams draw on one source, so that their requests go one at a time (R142). -/
def sameSource (r : RxStream) (kind src home : Nat) : Bool := (r.kind == 2) == (kind == 2) && r.src == src && r.home == home

/-- Another request of the entry's source is open. -/
def State.otherOpen (s : State) (r : RxStream) : Bool :=
  s.rx.any (fun x => x.slot != r.slot && sameSource x r.kind r.src r.home && x.asking)

/-- Take the next request number. -/
def nextReq (s : State) : State := s.inc .FAB_REQ_NO

/-- The decoder's own counts of a receive entry start afresh (R188). -/
def freshCounts (n : Nat) (s : State) : State :=
  forAll (List.range 8) (fun h s => s.put .DEC_NOW_HIST (8 * n + h) 0) (s.put .DEC_NOW_COARSE n 0)

/-- The decoder entry of a receive entry forgets what it counted (R188, R191). -/
def forgetCounts (n : Nat) (s : State) : State := freshCounts n ((s.put .DEC_NOW_SPAN n 0).put .DEC_SHOWN n 0)

/-- The decoder entry of a receive entry is that of a new stream (R191). -/
def clearDecoder (n : Nat) (s : State) : State :=
  let s := (((s.put .MZC_DEC_FRAME n 0).put .MZC_DEC_INEXACT n 0).put .MZC_DEC_MAX_ERR n 0).put .MZC_DEC_COARSE_BLOCKS n 0
  let s := (s.put .MZC_DEC_MISSING n 0).put .MZC_DEC_LAST_REASON n 0
  forgetCounts n (forAll (List.range 8) (fun h s => s.put .MZC_DEC_HIST (8 * n + h) 0) s)

/-- Ask again for the stream of an entry. -/
def reRequest (r : RxStream) (maxCoding : Nat) (s : State) : State :=
  let n := s.get .FAB_REQ_NO
  let ask := fun (x : RxStream) =>
    { x with st := 0, coding := 0, waypoint := 15, spans := 0, good := 0, sent := false, reqNo := n, maxCoding := maxCoding }
  let s := forgetCounts r.slot (clearReasons r s)
  nextReq (mapRxSlot r.slot (fun x =>
    { ask x with relLast := none, relSent := false, rejoin := false, next := [], dropLast := none }) s)

/-- Ask for a stream that runs: to cancel a release that was sent (R142), or to tell a stricter policy (R151). -/
def askRunning (r : RxStream) (maxCoding : Nat) (s : State) : State :=
  let n := s.get .FAB_REQ_NO
  nextReq (mapRxSlot r.slot (fun x => { x with rejoin := true, sent := false, reqNo := n, maxCoding := maxCoding }) s)

/-- Join a stream that exists, cancelling a release of it (R141, R142). Where the consumer's policy is stricter than the one the
stream was asked for with, the home device is told by a further SUB_REQ (R151; DESIGN CHOICE, log entry 106). -/
def joinStream (r : RxStream) (who : Asker) (s : State) : State :=
  let s := bindRx who r.slot s
  let hi := s.policyOf r
  if r.st = 3 then
    if r.relSent then askRunning r hi s
    else mapRxSlot r.slot (fun x => { x with st := 1, relLast := none }) s
  else onlyIf (hi < r.maxCoding) (askRunning r hi) s

/-- The peer that is home to a stream is counted lost (R143, R159). -/
def State.homeLost (s : State) (home : Nat) : Bool := s.flag .FAB_PORT_STAT_LOST (s.portOf home)

/-- Receive entries of a kind in use. -/
def State.rxCount (s : State) (kind : Nat) : Nat := (s.rx.filter (fun r => r.kind == kind)).length

/-- Where a new stream lands: the store of the destination that asks, while no other stream holds it, or two further span slots;
none where these cannot be allocated (R145). -/
def State.landingStore (s : State) (kind src : Nat) (who : Asker) : Option (Option Nat × Nat) :=
  let own := fun (d : Nat) =>
    let need := 2 * spanBytes (s.formatOf src) (s.get .GAZ_W1_DEPTH src)
    if s.running .dest d && s.rx.all (fun r => r.store != some d) then some (some d, 0)
    else if Config.landingRoom ((s.rx.map (·.extra)).sum) need then some (none, need) else none
  if kind = 0 then (match who with
    | .draft d => own d
    | .live d => own d
    | .shared => some (none, 0))
  else some (none, 0)

/-- A new request takes a receive entry (R143, R145, R166, R346). -/
def openRequest (kind src home maxCoding fs : Nat) (who : Asker) (s : State) : State :=
  if kind = 2 ∧ 128 ≤ s.rxCount 2 then refuseAtOnce kind src who 0xAA s
  else match freeSlot 1024 (s.rx.map (·.slot)), s.landingStore kind src who with
    | none, _ => refuseAtOnce kind src who 0x33 s
    | some _, none => refuseAtOnce kind src who 0x06 s
    | some n, some st =>
      let g := if kind = 2 then (freeSlot 128 ((s.rx.filter (fun r => r.kind == 2)).map (·.rxg))).getD 0 else 0
      let s := onlyIf (kind == 2) (fun s => (s.put .AUD_GROUP_LOST g 0).put .AUD_RXG_MISSING g 0) s
      let s := nextReq { s with rx := s.rx ++ [newRx n g kind src home maxCoding fs (s.get .FAB_REQ_NO) st.1 st.2] }
      bindRx who n (onlyIf (s.rx.length == 1024) (notice 229) (clearDecoder n s))

/-- Request a stream (R141 to R145, R166, R346): join one that exists, wait for an open request of the same source, or ask. -/
def requestStream (kind src home maxCoding fs : Nat) (who : Asker) (s : State) : State :=
  match s.streamFor kind src home maxCoding with
  | some r => joinStream r who s
  | none =>
    if s.rx.any (fun r => sameSource r kind src home && r.asking) then
      { s with subWait := s.subWait ++ [⟨kind, src, home, maxCoding, fs, who⟩] }
    else if s.homeLost home then refuseAtOnce kind src who 0x32 s
    else match s.rx.find? (fun r => r.kind == kind && r.src == src && r.home == home && r.st == 4) with
      | some r =>
        let s := bindRx who r.slot s
        reRequest r (min maxCoding (s.policyOf r)) s
      | none => openRequest kind src home maxCoding fs who s

/-- After an answer, the requests that waited for it are handled in order (R142). -/
def afterAnswer (kind src home : Nat) (s : State) : State :=
  let mine := fun (w : SubWait) => (w.kind == 2) == (kind == 2) && w.src == src && w.home == home
  let ws := s.subWait.filter mine
  let s := { s with subWait := s.subWait.filter (fun w => !mine w) }
  forAll ws (fun w s => requestStream w.kind w.src w.home w.maxCoding w.fs w.who s) s

/-- The fabric can request: enabled at a positioned device (R100). -/
def State.canRequest (s : State) : Bool := s.running .fabric && s.positioned

/-- Request the stream of an armed draft with a remote source (R100). -/
def requestDraft (d : Nat) (s : State) : State :=
  let src := s.get .ATL_DRAFT_SOURCE d
  onlyIf (s.canRequest && s.flag .ATL_DRAFT_ARMED d && s.isRemote src)
    (requestStream 0 src (homeOf src) (s.destCoding d) 0 (.draft d)) s

/-- Request the stream of a live entry with a remote source. -/
def requestLiveOf (d : Nat) (s : State) : State :=
  let src := s.get .ATL_LIVE_SOURCE d
  onlyIf (s.canRequest && s.isRemote src) (requestStream 0 src (homeOf src) (s.destCoding d) 0 (.live d)) s

/-- A stream that its consumers still name is asked for again: they join one that exists by now, or the entry's request is made
anew (R141, R155, R162). -/
def askAgain (r : RxStream) (s : State) : State :=
  onlyIf (s.canRequest && s.stillWanted r && !s.homeLost r.home && !s.otherOpen r) (fun s =>
    match s.streamFor r.kind r.src r.home (s.policyOf r) with
    | some x => joinStream x .shared (freeRx (fun y => y.slot == r.slot) (rebind (r.slot + 1) (x.slot + 1) s))
    | none => reRequest r (s.policyOf r) s) s

/-- The destinations of a coded stream ask for their sources again, in Pass: coding is disabled here (R193). -/
def askPass (r : RxStream) (s : State) : State :=
  let s := forAll ((List.range 96).filter (fun d => s.flag .ATL_DRAFT_ARMED d && r.is (s.draftRx d))) requestDraft s
  forAll (s.fedBy r) requestLiveOf s

/-- SUB_REQ_SEND: the request of receive entry `n` leaves, one of a source at a time (R142, R143); while coding is disabled here
every request carries Pass (R169). -/
def execSubReqSend (n : Nat) (s : State) : Outcome State Fault Refusal :=
  .next (match s.rx.find? (fun r => r.slot == n) with
    | some r =>
      let free := !s.rx.any (fun x => x.slot != n && sameSource x r.kind r.src r.home && x.asking && x.sent)
      let hi := if s.running .mzc then r.maxCoding else 1
      onlyIf (r.asking && !r.sent && free && s.fabSends && s.portUp (s.portOf r.home)) (fun s =>
        mapRxSlot n (fun x => { x with sent := true, maxCoding := hi }) (ctlTo r.home (.subReq r.reqNo r.kind hi r.src r.fs) s)) s
    | none => s)

/-- The entry whose stream a grant of a coding gives already, or will from a coming span on (R141). -/
def State.twinEntry (s : State) (r : RxStream) (coding : Nat) : Option RxStream :=
  s.rx.find? (fun x => x.slot != r.slot && x.kind == r.kind && x.src == r.src && x.home == r.home && x.runs
    && (x.coding == coding || x.next.any (fun p => p.1 == coding)))

/-- A granted entry (R141, R142, R145): a grant that cancels a release continues the stream without a gap. -/
def grantEntry (r : RxStream) (coding waypoint first : Nat) (s : State) : State :=
  if r.st = 0 then
    match s.twinEntry r coding with
    | some x => freeRx (fun y => y.slot == r.slot) (rebind (r.slot + 1) (x.slot + 1) s)
    | none => mapRxSlot r.slot (fun x =>
        { x with st := 1, coding := coding, waypoint := waypoint, first := first, reason := 0, again := false }) s
  else mapRxSlot r.slot (fun x =>
    let y := { x with st := 1, rejoin := false, relLast := none, relSent := false, reason := 0 }
    if x.next.isEmpty then { y with coding := coding, waypoint := waypoint } else y) s

/-- SUB_GRANT (R141, R142, R145, R193). -/
def execSubGrant (reqNo coding waypoint first : Nat) (s : State) : Outcome State Fault Refusal :=
  .next (match s.rx.find? (fun r => r.reqNo == reqNo && r.asking && r.sent) with
    | some r =>
      let s := grantEntry r coding waypoint first (clearReasons r s)
      let s := onlyIf (r.kind == 0 && 2 ≤ coding && !s.running .mzc) (askPass r) s
      afterAnswer r.kind r.src r.home s
    | none => s)

/-- SUB_REFUSE (R150, R169). -/
def execSubRefuse (reqNo reason codingReason : Nat) (s : State) : Outcome State Fault Refusal :=
  .next (match s.rx.find? (fun r => r.reqNo == reqNo && r.asking && r.sent) with
    | some r => afterAnswer r.kind r.src r.home (failRequest r reason codingReason false s)
    | none => s)

/-- SUB_REQ_TIMEOUT: 5 ms after the request of entry `n` was made (R143). -/
def execSubReqTimeout (n : Nat) (s : State) : Outcome State Fault Refusal :=
  .next (match s.rx.find? (fun r => r.slot == n && r.asking) with
    | some r => afterAnswer r.kind r.src r.home (failRequest r 0x3A 0 false s)
    | none => s)

/-- A span has ended: `now` is the first span after it. -/
def ended (last : Option Nat) (now : Nat) : Bool := last.any (fun l => behind32 l now)

/-- RELEASE of a stream leaves, where the port lets it (R142, R144). -/
def sendRelease (r : RxStream) (last : Nat) (s : State) : State :=
  mapRxSlot r.slot (fun x => { x with st := 3, relLast := some last, relSent := s.fabSends && s.portUp (s.portOf r.home) })
    (ctlTo r.home (.release (s.rxKey r) last) s)

/-- The stream of entry `n` is released where no consumer uses it (R100, R144, R346). A group's release takes effect at the end of the span
that follows the last change. A RELEASE that could not leave is sent later. -/
def releaseStream (n : Nat) (s : State) : State :=
  match s.rx.find? (fun r => r.slot == n) with
  | some r =>
    let now := s.spanNow r.kind r.src
    if s.needed r then s
    else if r.st = 4 then freeRx (fun x => x.slot == n) s
    else if r.rejoin then s
    else if r.st = 1 then sendRelease r ((now + if r.kind = 2 then 1 else 0) % 2 ^ 32) s
    else if r.st = 3 ∧ !r.relSent then sendRelease r (if ended r.relLast now then now % 2 ^ 32 else r.relLast.getD now) s
    else s
  | none => s

/-- STREAM_RELEASE (R100, R144). -/
def execStreamRelease (n : Nat) (s : State) : Outcome State Fault Refusal := .next (releaseStream n s)

/-- STREAM_REREQUEST: once per second, a dropped stream that is still named, whatever the answer to the last request was (R155). -/
def execStreamRerequest (n : Nat) (s : State) : Outcome State Fault Refusal :=
  .next (match s.rx.find? (fun r => r.slot == n) with
    | some r => onlyIf (r.st == 4 && r.again) (askAgain r) s
    | none => s)

/-! ### The admission ladder (R146 to R149) -/

/-- Rungs of the ladder as (coding, through a waypoint) (R148). -/
def ladder (directFirst : Bool) : List (Nat × Bool) :=
  if directFirst then [(1, false), (2, false), (3, false), (1, true), (2, true), (3, true)]
  else [(1, false), (1, true), (2, false), (2, true), (3, false), (3, true)]

/-- Half and Quarter may be offered for a stream by this home device (R146, R169). -/
def State.offersCoding (s : State) (kind src : Nat) : Bool :=
  kind == 0 && s.get .GAZ_W1_DEPTH src != 1 && s.running .mzc

/-- Rungs that a stream may take, from coding `lo` to `hi` (R148, R151, R169). -/
def State.rungsFor (s : State) (kind src lo hi : Nat) : List (Nat × Bool) :=
  (ladder (s.flag .FAB_CTRL_ORDER)).filter (fun r => lo ≤ r.1 && r.1 ≤ hi && (r.1 == 1 || s.offersCoding kind src))

/-- The port carries cells and has room for the cost. -/
def State.fits (s : State) (p cost : Nat) : Bool := s.portUp p && !s.flag .FAB_PORT_STAT_LOST p && cost ≤ s.portSpare p

/-- Spare of position `w`'s port towards `d` as last reported, 0 where it is not known (R149). -/
def State.spareOf (s : State) (w d : Nat) : Nat :=
  if s.flag .FAB_SPARE_KNOWN (16 * w + d) then s.get .FAB_SPARE (16 * w + d) else 0

/-- Insert a candidate by spare, largest first, the lower position first on equal spare. -/
def insertCand (s : State) (d w : Nat) : List Nat → List Nat
  | [] => [w]
  | x :: l => if s.spareOf x d < s.spareOf w d then w :: x :: l else x :: insertCand s d w l

/-- Waypoint candidates for a receiver and cost, in the order of R149. -/
def State.candidates (s : State) (d cost : Nat) : List Nat :=
  ((List.range 12).filter (fun w => w != s.position && w != d && s.flag .FAB_SPARE_KNOWN (16 * w + d) && cost ≤ s.spareOf w d
      && s.fits (s.portOf w) cost)).foldl (fun l w => insertCand s d w l) []

/-- CODING_REASON of a refusal 0x30 (R140, R169). -/
def State.homeCodingReason (s : State) (kind src maxCoding : Nat) : Nat :=
  if kind ≠ 0 ∨ maxCoding ≤ 1 then 0
  else if s.get .GAZ_W1_DEPTH src = 1 then 0x40
  else if !s.running .mzc then 0x42 else 0

/-- Every path that a transmit stream still holds, oldest first: coding and waypoint (R153). -/
def TxStream.paths (t : TxStream) : List (Nat × Nat) := t.old.map (fun o => (o.coding, o.waypoint)) ++ [(t.coding, t.waypoint)]

/-- Coding under which the receiver holds a stream: that of the oldest path (R153). -/
def TxStream.heldCoding (t : TxStream) : Nat := (t.paths.headD (t.coding, t.waypoint)).1

/-- Tell the receiver, and the waypoints, that a stream is dropped (R155, R162, R193). -/
def dropStream (t : TxStream) (reason : Nat) (s : State) : State :=
  let last := s.spanNow t.kind t.src % 2 ^ 32
  let s := ctlTo t.dest (.drop (s.keyUnder t t.heldCoding) reason last) s
  let s := forAll (t.paths.filter (fun p => p.2 != 15)) (fun p s => ctlTo p.2 (.drop (s.keyUnder t p.1) reason last) s) s
  assertEv (if reason = 0x43 then 234 else 224) 2 (mapTx t.slot (fun x => { x with last := some last, reason := reason }) s)

/-- The transmit stream that an admission is to move. -/
def State.movesTx (s : State) (a : Admit) : Option TxStream :=
  s.tx.find? (fun t => some t.slot == a.moves && t.kind == a.kind && t.src == a.src && t.dest == a.dest)

/-- An admission found no rung (R150, R155, R156, R193). -/
def admitFails (a : Admit) (s : State) : State :=
  match a.moves, s.movesTx a with
  | none, _ => ctlTo a.dest (.subRefuse a.reqNo 0x30 (s.homeCodingReason a.kind a.src a.maxCoding)) s
  | some _, some t => onlyIf (a.dropReason != 0 && t.last.isNone) (dropStream t a.dropReason) s
  | some _, none => s

/-- A waypoint that took a stream which will not use it is released (R144). -/
def freeWaypoint (a : Admit) (coding waypoint : Nat) (s : State) : State :=
  onlyIf (waypoint != 15)
    (ctlTo waypoint (.release ⟨a.src, a.kind, coding, a.dest, s.position⟩ (s.spanNow a.kind a.src % 2 ^ 32))) s

/-- Next place in a port's order of admission (R154). -/
def takeOrder (p : Nat) (s : State) : State := s.inc .FAB_ORDER_NEXT p

/-- A new stream is granted on a path (R143, R166). -/
def grantNew (a : Admit) (coding port waypoint cost : Nat) (s : State) : State :=
  let first := s.spanNext a.kind a.src % 2 ^ 32
  match freeSlot 4096 (s.tx.map (·.slot)) with
  | none => freeWaypoint a coding waypoint (ctlTo a.dest (.subRefuse a.reqNo 0x34 0) s)
  | some n =>
    let t : TxStream :=
      { slot := n, kind := a.kind, src := a.src, dest := a.dest, coding := coding, port := port, waypoint := waypoint
        cost := cost, start := first, order := s.get .FAB_ORDER_NEXT port, fs := a.fs, maxCoding := a.maxCoding, seq := 0, last := none
        released := false, shedding := false, reason := 0, old := [], marks := [] }
    let s := takeOrder port (ctlTo a.dest (.subGrant a.reqNo coding waypoint first) { s with tx := s.tx ++ [t] })
    onlyIf (s.tx.length == 4096) (notice 229) s

/-- The path that a migrating stream leaves after span `last`, where it carries a span at all (R153). -/
def TxStream.leave (t : TxStream) (last : Nat) : List OldPath :=
  t.old ++ (if t.old.all (fun o => behind32 o.last last) then [⟨t.port, t.waypoint, t.cost, t.coding, last, t.order, t.shedding⟩] else [])

/-- A stream moves to a path: MIGRATE to the receiver and to both waypoints (R153). A stream that stays on its path only takes a
new place in the port's order of admission (R154). -/
def moveStream (t : TxStream) (coding port waypoint cost : Nat) (s : State) : State :=
  let order := s.get .FAB_ORDER_NEXT port
  if coding = t.coding ∧ waypoint = t.waypoint then
    takeOrder port (mapTx t.slot (fun x => { x with order := order, shedding := false }) s)
  else
    let first := s.spanNext t.kind t.src % 2 ^ 32
    let msg := fun (k : Nat) => FabMsg.migrate (s.keyUnder t k) coding waypoint first
    let s := ctlTo t.dest (msg t.heldCoding) s
    let s := onlyIf (t.waypoint != 15) (ctlTo t.waypoint (msg t.coding)) s
    let s := onlyIf (waypoint != 15 && waypoint != t.waypoint) (ctlTo waypoint (msg t.coding)) s
    let move := fun (x : TxStream) => { x with coding := coding, port := port, waypoint := waypoint, cost := cost }
    notice 223 (takeOrder port
      (mapTx t.slot (fun x => { move x with order := order, shedding := false, old := t.leave (prevSpan first) }) s))

/-- An admission is granted on a path (R143, R153, R166). -/
def admitGrants (a : Admit) (coding port waypoint cost : Nat) (s : State) : State :=
  match a.moves, s.movesTx a with
  | none, _ => grantNew a coding port waypoint cost s
  | some _, some t =>
    if t.last.isSome then freeWaypoint a coding waypoint s else moveStream t coding port waypoint cost s
  | some _, none => freeWaypoint a coding waypoint s

/-- A coding is still one that an admission may take (R148, R151, R169, R193). -/
def State.mayTake (s : State) (a : Admit) (coding : Nat) : Bool :=
  a.lo ≤ coding && coding ≤ a.hi && (coding == 1 || s.offersCoding a.kind a.src)

/-- A stream that is to move holds a path through a waypoint under a coding already. -/
def State.onPath (s : State) (a : Admit) (coding w : Nat) : Bool := (s.movesTx a).any (fun t => t.paths.contains (coding, w))

/-- Ask the next waypoint candidate that still has room; none where no candidate is left. -/
def askCandidate (a : Admit) (coding cost : Nat) (s : State) : List Nat → Option (State × Admit)
  | [] => none
  | w :: ws =>
    if s.fits (s.portOf w) cost && cost ≤ s.spareOf w a.dest then
      let b := { a with cands := ws, waypoint := w, coding := coding, cost := cost, port := s.portOf w }
      some (ctlTo w (.wpReq a.reqNo ⟨a.src, a.kind, coding, a.dest, s.position⟩ cost) s, b)
    else askCandidate a coding cost s ws

/-- Climb the ladder from its next rung (R148, R149). -/
def climb (a : Admit) (s : State) : List (Nat × Bool) → State
  | [] => admitFails a s
  | (coding, via) :: rest =>
    let cost := s.costOf a.kind a.src coding a.fs
    let port := s.portOf a.dest
    let a := { a with rungs := rest }
    if !s.mayTake a coding then climb a s rest
    else if via then
      let ws := (s.candidates a.dest cost).filter (fun w => !s.onPath a coding w)
      match askCandidate { a with tries := s.get .FAB_CTRL_WP_TRIES } coding cost s ws with
      | some sb => { sb.1 with admits := sb.1.admits ++ [sb.2] }
      | none => climb a s rest
    else if s.fits port cost then admitGrants a coding port 15 cost s
    else climb a s rest

/-- Start an admission. -/
def startAdmission (a : Admit) (s : State) : State := climb a s a.rungs

/-- Another stream of the same source and receiver has a coding (R141). -/
def State.carriedBeside (s : State) (t : TxStream) (coding : Nat) : Bool :=
  s.tx.any (fun x => x.slot != t.slot && x.kind == t.kind && x.src == t.src && x.dest == t.dest && x.paths.any (fun p => p.1 == coding))

/-- Put a transmit stream back onto the ladder, between two codings (R154, R156, R162, R193). It takes no coding that another
stream of the same source carries to the same receiver (R141). An admission of the stream that still waits for an answer takes
the new bounds over; an offer of better rungs does not disturb one. -/
def reAdmit (t : TxStream) (lo hi dropReason : Nat) (s : State) : State :=
  let rungs := (s.rungsFor t.kind t.src lo hi).filter (fun r => !s.carriedBeside t r.1)
  if t.last.isSome then s
  else if s.admits.any (fun a => a.moves == some t.slot) then
    onlyIf (dropReason != 0) (fun s => { s with admits := s.admits.map (fun a =>
      if a.moves = some t.slot then { a with lo := lo, hi := hi, rungs := rungs, dropReason := dropReason } else a) }) s
  else startAdmission
    { reqNo := s.get .FAB_REQ_NO, dest := t.dest, kind := t.kind, src := t.src, fs := t.fs, maxCoding := t.maxCoding, lo := lo
      hi := hi, rungs := rungs, cands := [], tries := 0, waypoint := 15, coding := 0, cost := 0, port := 0, moves := some t.slot
      dropReason := dropReason } (nextReq s)

/-- Why a home device refuses a request outright; 0 where it climbs the ladder (R157, R168, R334). -/
def State.requestRefusal (s : State) (kind src fs : Nat) : Nat :=
  if kind = 2 then (if fs = s.get .AUD_CTRL_FS then 0 else 0xA9)
  else
    let n := gazOf (kind == 1) src
    if s.homeEntry n && s.flag .GAZ_W0_VALID n && !s.flag .GAZ_W0_STALE n then 0 else if kind = 1 then 0x38 else 0x31

/-- The stream that a request names already: one whose release is pending (R142), or one that the receiver holds (R141, R151). -/
def State.heldStream (s : State) (kind src d hi : Nat) : Option TxStream :=
  s.tx.find? (fun t => t.kind == kind && t.src == src && t.dest == d && t.coding ≤ hi && (t.released || t.last.isNone)
    && t.last.all (fun l => !behind32 l (s.spanNow kind src)))

/-- SUB_REQ: a request that arrives on port `p` (R142, R143, R148 to R151, R163, R166). -/
def execSubReq (p reqNo kind maxCoding src fs : Nat) (s : State) : Outcome State Fault Refusal :=
  let d := s.peerPos p
  let hi := if kind = 0 then maxCoding else 1
  .next (onlyIf (p < 11 && s.positioned) (fun s =>
    if !s.running .fabric then onlyIf (!s.inQuiet && !s.inSafe) (ctlEmit p (.subRefuse reqNo 0x3B 0)) s
    else
      let code := s.requestRefusal kind src fs
      match s.heldStream kind src d hi with
      | some t =>
        let s := mapTx t.slot (fun x => { x with last := none, released := false, maxCoding := hi }) s
        ctlTo d (.subGrant reqNo t.coding t.waypoint (s.spanNext kind src % 2 ^ 32)) s
      | none =>
        if code ≠ 0 then ctlTo d (.subRefuse reqNo code 0) s
        else if 4096 ≤ s.tx.length then ctlTo d (.subRefuse reqNo 0x34 0) s
        else startAdmission
          { reqNo := reqNo, dest := d, kind := kind, src := src, fs := fs, maxCoding := hi, lo := 1, hi := hi
            rungs := s.rungsFor kind src 1 hi, cands := [], tries := 0, waypoint := 15, coding := 0, cost := 0, port := 0
            moves := none, dropReason := 0 } s) s)

/-! ### Waypoints (R149, R152, R154) -/

/-- WP_REQ: a request to forward that arrives on port `p` (R149, R166). A port towards the receiver whose peer names another
identity answers 0x36 (R168; DESIGN CHOICE, log entry 103). -/
def execWpReq (p reqNo : Nat) (key : StreamKey) (cost : Nat) (s : State) : Outcome State Fault Refusal :=
  let out := s.portOf key.receiver
  .next (onlyIf (s.running .fabric && p < 11) (fun s =>
    let answer := fun (r : Nat) (s : State) => ctlSend p (.wpAnswer reqNo r (s.portSpare out)) s
    match freeSlot 1024 (s.wp.map (·.slot)) with
    | none => answer 0x35 s
    | some n =>
      if s.flag .FAB_PORT_STAT_WIRING out then answer 0x36 s
      else if s.flag .FAB_PORT_STAT_LOST out || !s.portUp out then answer 0x32 s
      else if !s.fits out cost then answer 0x30 s
      else
        let w : WpStream :=
          { slot := n, kind := key.kind, src := key.source, coding := key.coding, inPort := p, outPort := out, home := key.home
            dest := key.receiver, cost := cost, cells := 0, order := s.get .FAB_ORDER_NEXT out, last := none, shedding := false }
        let s := takeOrder out { s with wp := s.wp ++ [w] }
        answer 0 (onlyIf (s.wp.length == 1024) (notice 229) s)) s)

/-- Note a reported spare (R149); what a lost peer reports does not count until it has returned. -/
def noteSpare (w d spare : Nat) (s : State) : State :=
  onlyIf (!s.homeLost w) (fun s => (s.put .FAB_SPARE_KNOWN (16 * w + d) 1).put .FAB_SPARE (16 * w + d) spare) s

/-- An asked waypoint did not take the stream: the next candidate of the rung, or the next rung (R149). -/
def nextCandidate (a : Admit) (s : State) : State :=
  let a := { a with tries := a.tries - 1, waypoint := 15 }
  match (if a.tries = 0 then none else askCandidate a a.coding a.cost s a.cands) with
  | some sb => { sb.1 with admits := sb.1.admits ++ [sb.2] }
  | none => climb a s a.rungs

/-- WP_ANSWER from the waypoint on port `p` (R149). A coding that the admission may no longer take is given back (R193). -/
def execWpAnswer (p reqNo reason spare : Nat) (s : State) : Outcome State Fault Refusal :=
  let w := s.peerPos p
  .next (match s.admits.find? (fun a => a.reqNo == reqNo && a.waypoint == w) with
    | none => s
    | some a =>
      let s := noteSpare w a.dest spare { s with admits := s.admits.filter (fun x => !(x.reqNo == reqNo && x.waypoint == w)) }
      let free := { a with waypoint := 15 }
      if reason ≠ 0 then nextCandidate a s
      else if s.mayTake a a.coding then admitGrants free a.coding a.port w a.cost s
      else climb free (freeWaypoint a a.coding w s) a.rungs)

/-- A waypoint stream matches a key. -/
def wpMatches (k : StreamKey) (w : WpStream) : Bool :=
  w.src == k.source && w.kind == k.kind && w.coding == k.coding && w.dest == k.receiver && w.home == k.home

/-- Change the waypoint streams of a key. -/
def mapWp (k : StreamKey) (f : WpStream → WpStream) (s : State) : State :=
  { s with wp := s.wp.map (fun w => if wpMatches k w then f w else w) }

/-- A transmit stream matches a key of which this device is home, on a path that it uses or leaves (R153). -/
def txMatches (k : StreamKey) (t : TxStream) : Bool :=
  t.src == k.source && t.kind == k.kind && t.dest == k.receiver && t.paths.any (fun p => p.1 == k.coding)

/-- A receive stream matches a key of which this device is the receiver, under the coding it has or is to take (R153). -/
def rxMatches (k : StreamKey) (r : RxStream) : Bool :=
  r.src == k.source && r.kind == k.kind && r.home == k.home && (r.coding == k.coding || r.next.any (fun n => n.1 == k.coding))

/-- RELEASE (R144): from the receiver to the home device, or from the home device to the waypoint. -/
def execRelease (key : StreamKey) (last : Nat) (s : State) : Outcome State Fault Refusal :=
  .next (if key.home = s.position then
      { s with tx := s.tx.map (fun t => if txMatches key t then { t with last := some last, released := true } else t) }
    else mapWp key (fun w => { w with last := some last }) s)

/-- The receiver of a migrating stream notes the path to come (R153); one that will be coded while coding is disabled here is asked
for again, in Pass (R193). -/
def noteMigrate (key : StreamKey) (coding waypoint first : Nat) (s : State) : State :=
  let mine := fun (r : RxStream) => rxMatches key r && r.runs
  let s := mapRx mine (fun r => { r with
    next := r.next.filter (fun n => behind32 n.2.2 first) ++ [(coding, waypoint, first)], migrations := satAdd 16 r.migrations 1 }) s
  onlyIf (key.kind == 0 && 2 ≤ coding && !s.running .mzc) (fun s => forAll (s.rx.filter mine) askPass s) s

/-- MIGRATE (R153): at the receiver, at the waypoint that is left, and at the one that takes over. -/
def execMigrate (key : StreamKey) (coding waypoint first : Nat) (s : State) : Outcome State Fault Refusal :=
  .next (if key.receiver = s.position then noteMigrate key coding waypoint first s
    else
      mapWp key (fun w => if coding = key.coding ∧ waypoint = s.position then w
        else { w with last := some (prevSpan first) }) s)

/-- WP_SHED (R154): the stream is shed by its home device. -/
def execWpShed (key : StreamKey) (s : State) : Outcome State Fault Refusal :=
  .next (match s.tx.find? (txMatches key) with
    | some t => reAdmit t t.coding t.maxCoding 0x39 (mapTx t.slot (fun x => { x with shedding := true }) s)
    | none => s)

/-- What a drop leaves in the consumers (R155, R191, R193, R348, R433). -/
def noteDrop (r : RxStream) (reason : Nat) (s : State) : State :=
  if r.kind = 2 then notice 331 s
  else if r.kind = 1 then noteRefusal 1 r.src [] [] reason 0 s
  else onlyIf (reason == 0x43)
    (fun s => forAll (s.destsOf r) (fun d => codingReason d 0x43) (s.put .MZC_DEC_LAST_REASON r.slot 0x43)) s

/-- DROP (R155, R162, R193): at the receiver, or at the waypoint. A stream dropped for capacity is to be requested again (R155). -/
def execDrop (key : StreamKey) (reason last : Nat) (s : State) : Outcome State Fault Refusal :=
  .next (if key.receiver = s.position then
      match s.rx.find? (fun r => rxMatches key r && r.runs) with
      | some r => assertEv (if reason = 0x43 then 234 else 224) 2 (noteDrop r reason (mapRxSlot r.slot (fun x =>
          { x with st := 4, rejoin := false, reason := reason, again := reason == 0x39, dropLast := some last, spans := 0, good := 0 }) s))
      | none => s
    else mapWp key (fun w => { w with last := some last }) s)

/-- CONTROL_RESERVED on port `p` (R139). -/
def execControlReserved (p : Nat) (s : State) : Outcome State Fault Refusal :=
  .next (onlyIf (s.running .fabric && p < 11) (fun s => notice 228 (s.bump .FAB_PORT_BAD p)) s)

/-! ### Loads, shedding and reverting (R139, R147, R154 to R156, R165) -/

/-- LOAD_SEND (R139, R140). -/
def execLoadSend (s : State) : Outcome State Fault Refusal :=
  .next (ctlAll (.load ((List.range 11).map (fun p => (s.portLoad p, s.get .FAB_PORT_CEILING p)))) s)

/-- LOAD of the peer on port `p` (R149, R164). -/
def execLoad (p : Nat) (ports : List (Nat × Nat)) (s : State) : Outcome State Fault Refusal :=
  let w := s.peerPos p
  .next (onlyIf (s.running .fabric && p < 11) (fun s =>
    forAll ((List.range 11).zip ports) (fun x s =>
      let d := (w + x.1 + 1) % 12
      let s := noteSpare w d (x.2.2 - x.2.1) s
      onlyIf (d == s.position) (·.put .FAB_PORT_RX_LOAD p x.2.1) s) s) s)

/-- LOAD_TIMEOUT on port `p` (R167). -/
def execLoadTimeout (p : Nat) (s : State) : Outcome State Fault Refusal :=
  .next (onlyIf (s.running .fabric && p < 11 && s.fitted p) (notice 226) s)

/-- The most recently admitted reservation of port `p` that is not yet being shed: its order number, and the transmit entry
or waypoint entry. -/
def State.youngest (s : State) (p : Nat) : Option (Nat × Bool × Nat) :=
  let own := (s.tx.filter (fun t => t.port == p && !t.shedding && t.last.isNone)).map (fun t => (t.order, true, t.slot))
  let fwd := (s.wp.filter (fun w => w.outPort == p && !w.shedding && w.last.isNone)).map (fun w => (w.order, false, w.slot))
  (own ++ fwd).foldl (fun (m : Option (Nat × Bool × Nat)) x => match m with
    | some y => if y.1 < x.1 then some x else m
    | none => some x) none

/-- Mark reservations as shed, youngest first, until the port is within its ceiling (R154). -/
def markShed (p : Nat) : Nat → State → List Nat × State
  | 0, s => ([], s)
  | fuel + 1, s =>
    if s.portLoad p - s.shedLoad p ≤ s.get .FAB_PORT_CEILING p then ([], s)
    else match s.youngest p with
      | none => ([], s)
      | some (_, true, n) =>
        let r := markShed p fuel (mapTx n (fun x => { x with shedding := true }) s)
        (n :: r.1, r.2)
      | some (_, false, n) =>
        let s' := { s with wp := s.wp.map (fun w => if w.slot = n then { w with shedding := true } else w) }
        match s.wp.find? (fun w => w.slot == n) with
        | some w => markShed p fuel (ctlTo w.home (.wpShed ⟨w.src, w.kind, w.coding, w.dest, w.home⟩ 0x39) s')
        | none => markShed p fuel s'

/-- SHED_DECISION on port `p` (R154, R155). -/
def execShedDecision (p : Nat) (s : State) : Outcome State Fault Refusal :=
  let r := markShed p (s.tx.length + s.wp.length) s
  .next (forAll r.1 (fun n s => match s.tx.find? (fun t => t.slot == n) with
    | some t => reAdmit t t.coding t.maxCoding 0x39 s
    | none => s) r.2)

/-- REVERT_OFFER: every 1 s (R156). -/
def execRevertOffer (s : State) : Outcome State Fault Refusal :=
  .next (onlyIf (s.running .fabric && s.flag .FAB_CTRL_REVERT) (fun s =>
    forAll (s.tx.filter (fun t => 2 ≤ t.coding && t.old.isEmpty && t.last.isNone)) (fun t s => reAdmit t 1 (t.coding - 1) 0 s) s) s)

/-- Greatest port limit (R164). -/
def portLimitMax (v : Variant) : Nat := if v = .cx576 then 0x066695F8 else 0x0CCD2BF0

/-- Offset of FAB_PORT_LIMIT of port `p`. -/
def portLimitOff (p : Nat) : Nat := 0x201000 + 64 * p

/-- PORT_LIMIT_WRITE (R165). -/
def execPortLimitWrite (m : Master) (p v : Nat) (s : State) : Outcome State Fault Refusal :=
  .next (writeGated m (portLimitOff p) (fun s =>
    if portLimitMax s.variant < v then refuse 0x37 (wordOf (portLimitOff p)) m s
    else renewCeiling p (s.put .FAB_PORT_LIMIT p v)) s)

/-! ### Peers (R129, R130, R139, R159 to R163) -/

/-- Heartbeat of this device (R140). -/
def State.heartbeat (s : State) : FabMsg :=
  .heartbeat s.position (s.get .GEN_ENUM_PLANE) (s.get .GEN_ENUM_TWIN) s.variant.tokenClass (s.get .PWR_STAT_STATE) s.now

/-- HEARTBEAT_SEND (R139): on every port whose position is fitted. -/
def execHeartbeatSend (s : State) : Outcome State Fault Refusal :=
  .next (onlyIf (s.fabSends && s.positioned)
    (fun s => forAll ((List.range 11).filter (fun p => s.fitted p)) (fun p => ctlEmit p s.heartbeat) s) s)

/-- HEARTBEAT on port `p` (R129, R130). The peer's identity is judged while the fabric is disabled too, so that its enable check finds
it (R164; DESIGN CHOICE, log entry 103); only an enabled fabric takes the port up. -/
def execHeartbeat (p pos plane twin cls : Nat) (s : State) : Outcome State Fault Refusal :=
  .next (onlyIf (p < 11 && s.positioned && s.fitted p && 0 < s.lanesUp p) (fun s =>
    let s := (((s.put .FAB_PORT_STAT_PEER_POS p pos).put .FAB_PORT_STAT_PEER_PLANE p plane).put .FAB_PORT_STAT_PEER_TWIN p twin).put
      .FAB_PORT_STAT_PEER_CLASS p cls
    if pos = s.peerPos p ∧ plane = s.get .GEN_ENUM_PLANE ∧ twin = s.get .GEN_ENUM_TWIN ∧ cls = s.variant.tokenClass then
      onlyIf (s.running .fabric) (fun s => (s.put .FAB_PORT_STAT_UP p 1).put .FAB_HB_SEEN p 1) (s.put .FAB_PORT_STAT_WIRING p 0)
    else
      let was := s.flag .FAB_PORT_STAT_WIRING p
      onlyIf (!was) (notice 225) ((s.put .FAB_PORT_STAT_WIRING p 1).put .FAB_PORT_STAT_UP p 0)) s)

/-- The loss or the return of the peer on port `p` (R160). -/
def peerEdge (p : Nat) (lost : Bool) (s : State) : State :=
  assertEv (200 + p) (if lost then 2 else 0)
    ((s.putFlag .FAB_PORT_STAT_LOST p lost).put .FAB_PEER_EVENT 0 (s.get .FAB_PEER_EVENT ||| 2 ^ p))

/-- A group's loss or recovery, by its entry of AUD_RXG (R348). -/
def groupLoss (g : Nat) (lost : Bool) (s : State) : State :=
  if s.flag .AUD_GROUP_LOST g = lost then s
  else assertEv 330 (if lost then 2 else 0) (s.putFlag .AUD_GROUP_LOST g lost)

/-- The time of a loss is kept for its notice (R161). -/
def noteLossTime (p : Nat) (s : State) : State :=
  (((s.put .FAB_LOSS_SEC p s.now.sec).put .FAB_LOSS_NS p s.now.ns).put .FAB_LOSS_FRAC p s.now.frac).put .FAB_NOTICE_DUE p 1

/-- Forget every spare that a position reported (R149). -/
def forgetSpare (pos : Nat) (s : State) : State := forAll (List.range 12) (fun d s => s.put .FAB_SPARE_KNOWN (16 * pos + d) 0) s

/-- PEER_LOST on port `p` (R45, R46, R143, R159 to R162). -/
def peerLost (p : Nat) (s : State) : State :=
  let pos := s.peerPos p
  let s := peerEdge p true (noteLossTime p ((s.put .FAB_PORT_STAT_UP p 0).put .FAB_HB_SEEN p 0))
  let s := forgetSpare pos (positionLost pos s)
  let asked := s.rx.filter (fun r => r.home == pos && r.asking)
  let waited := s.subWait.filter (fun w => w.home == pos)
  let s := { s with subWait := s.subWait.filter (fun w => w.home != pos), tx := s.tx.filter (fun t => t.dest != pos) }
  let s := { s with wp := s.wp.filter (fun w => w.dest != pos && w.home != pos), admits := s.admits.filter (fun a => a.dest != pos) }
  let s := forAll asked (fun r => failRequest r 0x32 0 true) s
  let s := forAll waited (fun w => noteAsker w.kind w.src w.who 0x32) s
  let s := forAll (s.rx.filter (fun r => r.home == pos && r.kind == 2 && r.st != 0)) (fun r => groupLoss r.rxg true) s
  let s := mapRx (fun r => r.home == pos) (fun r =>
    { r with st := 4, rejoin := false, reason := 0x32, spans := 0, good := 0, next := [], dropLast := none }) s
  let s := forAll (s.tx.filter (fun t => t.waypoint == pos)) (fun t => reAdmit t 1 t.maxCoding 0x39) s
  let stuck := s.admits.filter (fun a => a.waypoint == pos)
  forAll stuck nextCandidate { s with admits := s.admits.filter (fun a => a.waypoint != pos) }

/-- PEER_LOST. -/
def execPeerLost (p : Nat) (s : State) : Outcome State Fault Refusal :=
  .next (onlyIf (s.running .fabric && p < 11 && s.fitted p && !s.flag .FAB_PORT_STAT_LOST p) (peerLost p) s)

/-- Sources of a position that armed drafts, live entries, tiles and audio entries name without a receive stream (R162). -/
def requestMissing (pos : Nat) (s : State) : State :=
  let s := forAll (List.range 96) (fun d s =>
    let far := fun (src : Nat) => s.isRemote src && homeOf src == pos
    let s := onlyIf (far (s.get .ATL_DRAFT_SOURCE d) && (s.draftRx d).isNone) (requestDraft d) s
    onlyIf (far (s.get .ATL_LIVE_SOURCE d) && (s.liveRx d).isNone) (requestLiveOf d) s) s
  let s := forAll (List.range 256) (fun i s => forAll (s.tileSources i) (fun src s =>
    onlyIf (s.isRemote src && homeOf src == pos && !s.rx.any (fun r => r.kind == 1 && r.src == src)) (requestStream 1 src pos 1 0 .shared) s) s) s
  onlyIf (s.running .aud) (fun s => forAll (s.entries .AUD_DRAFT_SOURCE ++ s.entries .AUD_LIVE_SOURCE) (fun e s =>
    onlyIf (e.2 / 16384 == pos && !s.rx.any (fun r => r.kind == 2 && r.src == groupOf e.2 && r.home == pos))
      (requestStream 2 (groupOf e.2) pos 1 (s.get .AUD_CTRL_FS) .shared) s) s) s

/-- PEER_RETURN on port `p` (R149, R159, R160, R162). -/
def execPeerReturn (p : Nat) (s : State) : Outcome State Fault Refusal :=
  let pos := s.peerPos p
  .next (onlyIf (s.running .fabric && p < 11 && s.portUp p && s.flag .FAB_PORT_STAT_LOST p) (fun s =>
    let s := forgetSpare pos ((peerEdge p false s).put .FAB_NOTICE_DUE p 0)
    onlyIf s.canRequest (requestMissing pos) (forAll (s.rx.filter (fun r => r.home == pos && r.st == 4)) askAgain s)) s)

/-- PEER_LOSS_NOTICE for port `p` (R34, R35, R161): from the device's individual address to the address group of its plane, with
the time of the loss. -/
def execPeerLossNotice (p : Nat) (s : State) : Outcome State Fault Refusal :=
  let at_ : Stamp := ⟨s.get .FAB_LOSS_SEC p, s.get .FAB_LOSS_NS p, s.get .FAB_LOSS_FRAC p⟩
  .next (onlyIf (s.flag .FAB_NOTICE_DUE p)
    (fun s => (s.emit (.peerLoss s.ownMac (macPlane (s.get .GEN_ENUM_PLANE)) (s.peerPos p) p at_)).put .FAB_NOTICE_DUE p 0) s)

/-! ### Span boundaries (R143, R144, R153) -/

/-- The migrations of a receive stream that take over by span `now` (R153). -/
def RxStream.advance (r : RxStream) (now : Nat) : RxStream :=
  match (r.next.filter (fun n => !behind32 now n.2.2)).getLast? with
  | some n => { r with coding := n.1, waypoint := n.2.1, next := r.next.filter (fun n => behind32 now n.2.2) }
  | none => r

/-- Streams of some sources reach the boundary where span `now` begins: releases, drops and old paths end there, and
migrations take over. -/
def spanBoundary (mine : Nat → Nat → Bool) (now : Nat) (s : State) : State :=
  let gone := s.tx.filter (fun t => mine t.kind t.src && ended t.last now)
  let s := forAll (gone.filter (fun t => t.released && t.waypoint != 15))
    (fun t s => ctlTo t.waypoint (.release (s.txKey t) (t.last.getD 0)) s) s
  let s := { s with tx := s.tx.filter (fun t => !(mine t.kind t.src && ended t.last now)) }
  let s := { s with tx := s.tx.map (fun (t : TxStream) =>
    if mine t.kind t.src then { t with old := t.old.filter (fun o => !behind32 o.last now) } else t) }
  let s := { s with wp := s.wp.filter (fun w => !(mine w.kind w.src && ended w.last now)) }
  let s := freeRx (fun r => mine r.kind r.src && r.st == 3 && r.relSent && !r.rejoin && ended r.relLast now) s
  mapRx (fun r => mine r.kind r.src)
    (fun r => { r.advance now with dropLast := if ended r.dropLast now then none else r.dropLast }) s

/-- Clearing FAB_CTRL.EN releases every stream at once (R164); gazetteer fetches are given up, so that the next digest judges each
position afresh (R45). -/
def fabricDisabled (s : State) : State :=
  let s := { s with rx := [], tx := [], wp := [], admits := [], subWait := [], gazFetch := [] }
  let s := ((s.clearAll .DEST_DRAFT_RX).clearAll .DEST_LIVE_RX).clearAll .DEST_PREV_RX
  forAll (List.range 11) (fun p s => (s.put .FAB_PORT_STAT_UP p 0).put .FAB_HB_SEEN p 0)
    (((s.clearAll .FAB_SPARE_KNOWN).clearAll .FAB_SPARE).put .ATL_GAZ_STAT_MISMATCH 0 0)

/-- The fabric's enable is accepted (R100, R147): ceilings are taken and drafts that wait are requested. -/
def fabricEnabled (s : State) : State :=
  forAll (List.range 96) requestDraft (forAll (List.range 11) renewCeiling s)

end Sys2Proof.Machine
end

