-- ==== Sys2Proof/Machine/Cells.lean ====
section
/-!
DEFINITION. Dunbin cells: releasing them at the home device, sketches, coding statistics, landing and decoding them at the
receiving device, and forwarding (R131 to R138, R152, R157, R158, R179 to R191).
-/
namespace Sys2Proof.Machine

open Host (Outcome)

/-! ### The frame store (R89, R91) -/

/-- Every active line of a span was written whole (R93, R234). -/
def spanComplete (v : VideoSpan) : Bool := v.gaps.isEmpty && (activeRaster v.fmt).2 ≤ v.lines.length

/-- Spans kept of an input, newest first. -/
def State.kept (s : State) (i : Nat) : List VideoSpan := ((s.spans.find? (·.1 == i)).map (·.2)).getD []

/-- Keep other spans of an input. -/
def keepSpans (i : Nat) (l : List VideoSpan) (s : State) : State :=
  { s with spans := (i, l) :: s.spans.filter (fun x => x.1 != i) }

/-- The stored span with number `j`, while one of the three slots holds it. -/
def State.spanAt (s : State) (i j : Nat) : Option VideoSpan :=
  let done := s.get .IN_COMPLETED i
  if j < done then (s.kept i)[done - 1 - j]? else none

/-- Number of the span that an input gives to frame `n` of its format (R89, R91). -/
def State.spanNumber (s : State) (i n : Nat) : Option Nat :=
  let f := s.formatOf (96 * s.position + i)
  let r := if n % 2 ^ 32 = s.get .ATL_N_DECIDED f % 2 ^ 32 then s.get .IN_READ i else s.get .IN_READ_PREV i
  if r = 0 then none else some (r - 1)

/-- What an input's store holds for frame `n`: a stored span, or the one still being written. -/
def State.spanFor (s : State) (i n : Nat) (live : Option VideoSpan) : Option VideoSpan :=
  match s.spanNumber i n with
  | some j => (s.spanAt i j).orElse (fun _ => live)
  | none => none

/-! ### Sketches (R157, R158) -/

/-- Rows of a span in picture order: the two fields of an interlaced span woven together. -/
def wovenRows (v : VideoSpan) : List (List Nat) :=
  let rows := v.lines.map (·.2)
  if interlaced v.fmt then
    let h := (rows.length + 1) / 2
    ((rows.take h).zip (rows.drop h)).flatMap (fun p => [p.1, p.2])
  else rows

/-- Samples of one component of a multiplexed line: first index and step. -/
def component (start step : Nat) (row : List Nat) : List Nat :=
  (List.range ((row.length + step - 1 - start) / step)).map (fun k => (row[start + step * k]?).getD 0)

/-- Average of `f` × `f` blocks of a component, rounded half up (R157). -/
def averageRows (f : Nat) (rows : List (List Nat)) : List Nat :=
  let w := (rows.headD []).length / f
  (List.range w).map (fun x =>
    let sum := (rows.map (fun r => ((r.drop (f * x)).take f).sum)).sum
    (sum + f * f / 2) / (f * f))

/-- Multiplex Cb, Y, Cr, Y (R170). -/
def multiplex (y cb cr : List Nat) : List Nat :=
  (List.range cb.length).flatMap (fun m =>
    [(cb[m]?).getD 0, (y[2 * m]?).getD 0, (cr[m]?).getD 0, (y[2 * m + 1]?).getD 0])

/-- One row of a sketch from `f` rows of the picture. -/
def sketchRow (f : Nat) (rows : List (List Nat)) : List Nat :=
  multiplex (averageRows f (rows.map (component 1 2))) (averageRows f (rows.map (component 0 4)))
    (averageRows f (rows.map (component 2 4)))

/-- Side of the averaged block of a SCALE value (R39). -/
def sketchSide (scale : Nat) : Nat := if scale = 2 then 4 else 2

/-- Groups of `f` elements; a rest that does not fill a group is left out. -/
def wholeGroups {α : Type} (f : Nat) (l : List α) : List (List α) := (pieces f l.length l).filter (fun g => g.length == f)

/-- The sketch of a span (R157). Row `r` stands at the LINE of the span's active line `f` × `r`; rows that do not fill a block give
none. -/
def sketchSpan (scale : Nat) (v : VideoSpan) : VideoSpan :=
  let f := sketchSide scale
  let places := (wholeGroups f v.lines).map (fun g => (g.map (·.1)).headD 0)
  { v with lines := places.zip ((wholeGroups f (wovenRows v)).map (sketchRow f)), anc := [] }

/-! ### Lines of a stream (R134, R171) -/

/-- Active width and lines of a stream's picture: a sketch's are divided by its scale. -/
def State.rasterOf (s : State) (kind src : Nat) : Nat × Nat :=
  let r := activeRaster (s.formatOf src)
  if kind = 1 then
    let f := sketchSide (s.get .GAZ_W1_SCALE (1152 + src))
    (r.1 / f, r.2 / f)
  else r

/-- Coded line length of a stream (R171); a sample of an audio group has 256 bytes (R345). -/
def State.lineLength (s : State) (kind src coding : Nat) : Nat :=
  if kind = 2 then 256 else codedLength coding (depthBits (s.get .GAZ_W1_DEPTH src)) (2 * (s.rasterOf kind src).1)

/-- The next active line of a format after a LINE. -/
def nextActive (fmt line : Nat) : Option Nat :=
  ((List.range (linesPerFrame fmt)).filter (fun l => line < l && Config.activeLine fmt l)).head?

/-- The line that follows a line of a stream, where there is one: the next active line, or as many further on as a sketch averages;
of a group, the next of its 48 or 96 samples. -/
def State.followingLine (s : State) (kind src fs line : Nat) : Option Nat :=
  if kind = 2 then (if line + 1 < (if fs = 1 then 96 else 48) then some (line + 1) else none)
  else
    let n := if kind = 1 then sketchSide (s.get .GAZ_W1_SCALE (1152 + src)) else 1
    (List.range n).foldl (fun l _ => l.bind (nextActive (s.formatOf src))) (some line)

/-! ### Releasing cells at the home device (R132 to R136, R179, R185, R187) -/

/-- Split a byte sequence into cells of 240 bytes: cell `k`. -/
def cellBytes (k : Nat) (bs : List Byte) : List Byte := (bs.drop (240 * k)).take 240

/-- Coding statistics of a span (R187): inexact samples, largest error, blocks by shift 0 to 7. -/
def spanStats (coding : Nat) (v : VideoSpan) : Nat × Nat × List Nat :=
  v.lines.foldl (fun acc l =>
    let c := codeLine coding 10 l.2
    let e := lineErrors l.2 c.recs
    (acc.1 + e.1, max acc.2.1 e.2, (List.range 8).map (fun h => (acc.2.2[h]?).getD 0 + (c.shifts.filter (· == h)).length)))
    (0, 0, List.replicate 8 0)

/-- Encoder entry of an input and coding (R189). -/
def encEntry (i coding : Nat) : Nat := 2 * i + (coding - 2)

/-- A pair of an input and a coding encoded span `n`: a stream that carries it has sent the span's marker, not marked lost (R185). -/
def State.encoded (s : State) (i coding n : Nat) : Bool :=
  s.tx.any (fun t => t.kind == 0 && s.inputOf t.src == i && t.marks.contains (n, coding, false))

/-- The encoder's figures of span `n` become visible, once, where its pair encoded it (R187, R190). -/
def reportSpan (i coding n : Nat) (s : State) : State :=
  let e := encEntry i coding
  if !s.encoded i coding n || (s.flag .ENC_SEEN e && s.get .MZC_ENC_FRAME e == n) then s
  else match (s.spanNumber i n).bind (s.spanAt i) with
  | none => s
  | some v =>
    let st := spanStats coding v
    let s := (((s.put .ENC_SEEN e 1).put .MZC_ENC_FRAME e n).put .MZC_ENC_INEXACT e st.1).put .MZC_ENC_MAX_ERR e st.2.1
    forAll (List.range 8) (fun h s => s.put .MZC_ENC_HIST (8 * e + h) ((st.2.2[h]?).getD 0)) (s.bump .MZC_ENC_TOTAL e st.1)

/-- Coding under which a stream carried span `n`, from its marker; 0 where it sent none. -/
def TxStream.markedCoding (t : TxStream) (n : Nat) : Nat := ((t.marks.find? (fun m => m.1 == n)).map (fun m => m.2.1)).getD 0

/-- At the meridian that ends span `n` of a format, every pair that encoded it reports (R190). -/
def reportSpans (f n : Nat) (s : State) : State :=
  forAll (s.tx.filter (fun t => t.kind == 0 && s.formatOf t.src == f && 2 ≤ t.markedCoding n))
    (fun t s => reportSpan (s.inputOf t.src) (t.markedCoding n) n s) s

/-- Coding statistics in the marker of the span after span `n`, which the pair (i, coding) encoded (R187): frame, inexact samples,
largest error; zeros where no pair did. -/
def State.markerStats (s : State) (i coding n : Nat) : List Byte :=
  let e := encEntry i coding
  if 2 ≤ coding && s.flag .ENC_SEEN e && s.get .MZC_ENC_FRAME e == n then
    leBytes 4 n ++ leBytes 4 (s.get .MZC_ENC_INEXACT e) ++ leBytes 2 (s.get .MZC_ENC_MAX_ERR e) ++ [0, 0]
  else List.replicate 12 0

/-- Payload of a span marker (R134). -/
def State.markerPayload (s : State) (t : TxStream) (coding n : Nat) : List Byte :=
  if t.kind = 2 then
    [0] ++ leBytes 1 (s.get .AUD_CTRL_FS) ++ [0, 0] ++ leBytes 4 n ++ leBytes 2 (if s.flag .AUD_CTRL_FS then 96 else 48)
      ++ leBytes 2 256 ++ List.replicate 16 0
  else
    let g := gazOf (t.kind == 1) t.src
    leBytes 1 (s.get .GAZ_W1_FORMAT g) ++ leBytes 1 (s.get .GAZ_W1_DEPTH g + 16 * s.get .GAZ_W1_SCALE g)
      ++ leBytes 2 (s.get .GAZ_W1_GENERATION g) ++ leBytes 4 n ++ leBytes 2 (s.rasterOf t.kind t.src).2
      ++ leBytes 2 (s.lineLength t.kind t.src coding) ++ [0, 0, 0, 0]
      ++ s.markerStats (s.inputOf t.src) (if coding ≤ 1 then 0 else t.markedCoding (prevSpan n)) (prevSpan n)

/-- The path of span `n` of a stream: the oldest one that still carries it (R153). -/
def pathOf (t : TxStream) (n : Nat) : Nat × Nat :=
  match t.old.find? (fun o => !behind32 o.last n) with
  | some o => (o.port, o.coding)
  | none => (t.port, t.coding)

/-- Put a cell of a stream on its port, with the stream's count (R131). -/
def releaseCell (t : TxStream) (port : Nat) (c : Cell) (s : State) : State :=
  mapTx t.slot (fun x => { x with seq := (x.seq + 1) % 256 })
    (s.emit (cellOut port { c with sketch := t.kind == 1, source := t.src, dest := t.dest, seq := t.seq }))

/-- A home source is reported lost for its spans (R133, R348). -/
def State.homeLostSpan (s : State) (t : TxStream) : Bool :=
  if t.kind = 2 then !s.running .aud
  else s.flag .ATL_IN_STAT_LOST (s.inputOf t.src) || !s.running .input (s.inputOf t.src)

/-- The picture a stream carries for frame `n`. -/
def State.pictureOf (s : State) (t : TxStream) (n : Nat) (live : Option VideoSpan) : Option VideoSpan :=
  (s.spanFor (s.inputOf t.src) n live).map
    (fun v => if t.kind = 1 then sketchSpan (s.get .GAZ_W1_SCALE (1152 + t.src)) v else v)

/-- Bytes of a group's span `ms`: samples in order, words in order, each little-endian (R345). -/
def State.groupBytes (s : State) (g ms : Nat) : List Byte :=
  let n := if s.flag .AUD_CTRL_FS then 96 else 48
  (List.range n).flatMap (fun j =>
    match s.groupHist.find? (fun x => x.group == g && x.k == ms * n + j) with
    | some x => x.words.flatMap (leBytes 4)
    | none => List.replicate 256 0)

/-- Span `n` of a stream is one that the home device sends (R143, R144, R155). -/
def sendsSpan (t : TxStream) (n : Nat) : Bool :=
  !behind32 n t.start && (match t.last with
    | some l => !behind32 l n
    | none => true)

/-- The header that every cell of span `n` shares. -/
def blankCell (typ coding n : Nat) : Cell :=
  { typ := typ, coding := coding, lost := false, last := false, sketch := false, source := 0, dest := 0, seq := 0, line := 0
    offset := 0, span := n % 2 ^ 16, payload := [] }

/-- A data cell of a stream whose lines are `lines`, each `lc` bytes long (R132). -/
def dataCell (typ coding n k lc : Nat) (places : List Nat) (bytes : List Byte) : Option Cell :=
  let p := cellBytes k bytes
  if p.isEmpty ∨ lc = 0 then none
  else some { blankCell typ coding n with
    last := decide (bytes.length ≤ 240 * (k + 1)), line := (places[240 * k / lc]?).getD 0, offset := 240 * k % lc, payload := p }

/-- Cell `k` of the ancillary packets of a span, in order of line (R132, R136): LINE is the line of its first byte, OFFSET
the place of that byte among the line's packets. -/
def ancCell (n k : Nat) (anc : List (Nat × List Byte)) : Option Cell :=
  let tagged := anc.flatMap (fun l => (List.range l.2.length).map (fun o => (l.1, o, (l.2[o]?).getD 0)))
  let p := (tagged.drop (240 * k)).take 240
  match p with
  | [] => none
  | x :: _ => some { blankCell 2 0 n with
      last := decide (tagged.length ≤ 240 * (k + 1)), line := x.1, offset := x.2.1, payload := p.map (fun y => y.2.2) }

/-- Refinement cell `j` of active line `i` of a Quarter span (R179). -/
def refinementCell (n i j lc : Nat) (v : VideoSpan) : Option Cell :=
  match v.lines[i]? with
  | none => none
  | some l =>
    let p := cellBytes j (codeLine 3 10 l.2).refinement
    if p.isEmpty then none else some { blankCell 1 3 n with line := l.1, offset := lc + 240 * j, payload := p }

/-- The marker of span `n` of a stream leaves, once; it fixes whether the span is marked lost (R133). -/
def releaseMarker (t : TxStream) (n : Nat) (s : State) : State :=
  let path := pathOf t n
  let lost := s.homeLostSpan t
  let before := t.markedCoding (prevSpan n)
  let s := onlyIf (2 ≤ before) (reportSpan (s.inputOf t.src) before (prevSpan n)) s
  mapTx t.slot (fun x => { x with marks := (n, path.2, lost) :: x.marks.take 2 })
    (releaseCell t path.1 { blankCell 3 path.2 n with lost := lost, last := true, payload := s.markerPayload t path.2 n } s)

/-- Data cell `k` of a TYPE of span `n` of a stream, where there is one; 9 stands for a refinement cell (R132, R179). -/
def State.dataOf (s : State) (t : TxStream) (n typ k : Nat) (live : Option VideoSpan) : Option Cell :=
  let cod := (pathOf t n).2
  if t.kind = 2 then (if typ = 4 then dataCell 4 0 n k 256 (List.range 96) (s.groupBytes t.src n) else none)
  else match s.pictureOf t n live with
    | none => none
    | some v =>
      let lc := s.lineLength t.kind t.src cod
      if typ = 1 then
        dataCell 1 cod n k lc (v.lines.map (·.1)) (v.lines.flatMap (fun l => (codeLine cod (depthBits v.depth) l.2).bytes))
      else if typ = 2 then ancCell n k v.anc
      else if typ = 9 ∧ cod = 3 then refinementCell n (k / 5) (k % 5) lc v
      else none

/-- CELL_RELEASE (R38, R96, R132 to R134, R136, R139, R157, R179, R185): cell `k` of span `n` of transmit entry `slot`. `typ` is
the cell's TYPE, or 9 for a refinement cell, whose `k` is 5 × active line + cell of the line. `live` is what the frame store
holds of a span that is still being written. Data leaves only after the span's marker, and never of a span marked lost. -/
def execCellRelease (slot n typ k : Nat) (live : Option VideoSpan) (s : State) : Outcome State Fault Refusal :=
  let n := n % 2 ^ 32
  .next (match s.tx.find? (fun t => t.slot == slot) with
    | none => s
    | some t =>
      let mark := t.marks.find? (fun m => m.1 == n)
      onlyIf (s.fabSends && s.portUp (pathOf t n).1 && sendsSpan t n) (fun s =>
        if typ = 3 then onlyIf mark.isNone (releaseMarker t n) s
        else if mark.any (fun m => !m.2.2) then (match s.dataOf t n typ k live with
          | some c => releaseCell t (pathOf t n).1 c s
          | none => s)
        else s) s)

/-- REFINE_DISCARD: `n` refinement cells still held after 34 µs (R180). -/
def execRefineDiscard (n : Nat) (s : State) : Outcome State Fault Refusal := .next (s.bump .MZC_REFINE_DROP_CELLS 0 n)

/-! ### Landing (R135, R138, R152, R181) -/

/-- Kind of the stream that a cell belongs to; span markers of groups carry no SKETCH and a FORMAT of 0. -/
def cellKind (c : Cell) : Nat :=
  if c.typ = 4 then 2
  else if c.typ = 3 ∧ c.payload.headD 0 = 0 then 2
  else if c.sketch then 1 else 0

/-- The marker of a span. -/
def markerFor (r : RxStream) (span : Nat) : Option Marker := r.markers.find? (fun m => m.span == span)

/-- A cell that arrives on port `p` belongs to a receive stream: a group's home is the peer or its stream's waypoint is. A video cell
names the stream's coding, one that it is to take, or the coding of the span it belongs to (R186). -/
def State.takesCell (s : State) (p : Nat) (c : Cell) (r : RxStream) : Bool :=
  let peer := s.peerPos p
  r.kind == cellKind c && r.src == c.source && r.st != 0
    && (r.kind != 2 || r.home == peer || r.waypoint == peer)
    && (c.typ == 2 || c.typ == 4 || r.coding == c.coding || r.next.any (fun n => n.1 == c.coding)
      || (markerFor r c.span).any (fun m => m.coding == c.coding))

/-- The receive streams of a cell that arrives on port `p`. Ancillary cells name no coding: every stream of the source takes them. -/
def State.takersOf (s : State) (p : Nat) (c : Cell) : List RxStream :=
  let l := s.rx.filter (s.takesCell p c)
  if c.typ = 2 then l else l.take 1

/-- TYPE under which refinement bytes land. -/
def refinementTyp : Nat := 9
/-- TYPE under which bytes beyond Lc land (R182). -/
def beyondTyp : Nat := 10

/-- Cut the bytes of a video or group cell into pieces by line; bytes past the last line's end lie beyond its Lc (R132, R182). -/
def State.cutLines (s : State) (r : RxStream) (lc span typ : Nat) : Nat → Nat → Nat → List Byte → List Piece
  | 0, _, _, _ => []
  | fuel + 1, line, off, bs =>
    let rest := bs.drop (lc - off)
    let here : Piece := ⟨span, typ, line, off, bs.take (lc - off)⟩
    if rest.isEmpty then [here]
    else match s.followingLine r.kind r.src r.fs line with
      | some l => here :: s.cutLines r lc span typ fuel l 0 rest
      | none => [here, ⟨span, beyondTyp, line, lc, rest⟩]

/-- Cut the bytes of an ancillary cell into pieces by line (R132, R135). -/
def cutAnc (span : Nat) : List (Nat × Nat) → Nat → Nat → List Byte → List Piece
  | [], line, off, bs => [⟨span, 2, line, off, bs⟩]
  | (k, l) :: cuts, line, off, bs => ⟨span, 2, line, off, bs.take k⟩ :: cutAnc span cuts l 0 (bs.drop k)

/-- Span numbers of 16 bits: `a` lies behind `b`. -/
def behind16 (a b : Nat) : Bool :=
  let d := (b + 2 ^ 16 - a % 2 ^ 16) % 2 ^ 16
  1 ≤ d && d < 2 ^ 15

/-- A line of a span has been read (R181). -/
def alreadyRead (r : RxStream) (span line : Nat) : Bool := r.read.any (fun x => behind16 span x.1 || (x.1 == span && line ≤ x.2))

/-- Spans of the landing store that are kept: those within three of the newest. -/
def recentSpan (newest span : Nat) : Bool := (newest + 2 ^ 16 - span) % 2 ^ 16 ≤ 3 || (span + 2 ^ 16 - newest) % 2 ^ 16 ≤ 3

/-- Place a cell in the landing store (R135, R179, R181, R182). -/
def placeCell (c : Cell) (r : RxStream) (s : State) : State :=
  let lc := s.lineLength r.kind r.src c.coding
  let keep := r.pieces.filter (fun x => recentSpan c.span x.span || r.held == some x.span)
  let land := fun (ps : List Piece) (s : State) => mapRxSlot r.slot (fun x => { x with pieces := ps ++ keep }) s
  if c.typ = 2 then land (cutAnc c.span (Config.ancCuts c.line c.offset c.payload) c.line c.offset c.payload) s
  else if c.typ = 1 ∧ lc ≤ c.offset then
    if c.coding = 3 ∧ (c.offset - lc) % 2 = 0 then
      if alreadyRead r c.span c.line then s.bump .MZC_REFINE_LATE_CELLS
      else land [⟨c.span, refinementTyp, c.line, c.offset - lc, c.payload⟩] s
    else land [⟨c.span, beyondTyp, c.line, c.offset, c.payload⟩] s
  else land (s.cutLines r lc c.span c.typ (c.payload.length + 1) c.line c.offset c.payload) s

/-- The waypoint stream of a cell that arrives on port `p`. -/
def State.wpOf (s : State) (p : Nat) (c : Cell) : Option WpStream :=
  s.wp.find? (fun w => w.inPort == p && w.kind == cellKind c && w.src == c.source && w.dest == c.dest
    && (c.typ == 2 || c.typ == 4 || w.coding == c.coding))

/-- Forward a cell unchanged (R152), unless the device sends no cells (R163) or the port carries none (R129). -/
def forwardCell (w : WpStream) (c : Cell) (s : State) : State :=
  let up := fun (x : WpStream) => if x.slot = w.slot then { x with cells := (x.cells + 1) % 2 ^ 32 } else x
  onlyIf (s.fabSends && s.portUp w.outPort) (fun s => ({ s with wp := s.wp.map up }).emit (cellOut w.outPort c)) s

/-- Number of a little-endian field of a payload. -/
def payloadField (bs : List Byte) (at_ n : Nat) : Nat := leNat ((bs.drop at_).take n)

/-- The marker that a span-marker cell spells (R134). -/
def markerOf (c : Cell) : Marker :=
  { span := c.span, lost := c.lost, coding := c.coding, fmt := payloadField c.payload 0 1
    depthScale := payloadField c.payload 1 1, generation := payloadField c.payload 2 2, frame := payloadField c.payload 4 4
    lines := payloadField c.payload 8 2, lc := payloadField c.payload 10 2 }

/-- The decoder entry shows the figures of a span, with the decoder's own counts of it (R188, R191). -/
def showFigures (r : RxStream) (c : Cell) (s : State) : State :=
  let n := r.slot
  let f := payloadField c.payload 16 4
  let mine := s.get .DEC_NOW_SPAN n == f % 2 ^ 16 + 1
  let own := fun (v : Nat) => if mine then v else 0
  let s := ((s.put .MZC_DEC_FRAME n f).put .MZC_DEC_INEXACT n (payloadField c.payload 20 4)).put .MZC_DEC_MAX_ERR n
    (payloadField c.payload 24 2)
  let s := s.put .MZC_DEC_COARSE_BLOCKS n (own (s.get .DEC_NOW_COARSE n))
  let s := forAll (List.range 8) (fun h s => s.put .MZC_DEC_HIST (8 * n + h) (own (s.get .DEC_NOW_HIST (8 * n + h)))) s
  (onlyIf mine (forgetCounts n) s).put .DEC_SHOWN n (f % 2 ^ 16 + 1)

/-- The statistics that a marker reports become visible, and raise the alarm of each destination fed (R188, R191, R192). -/
def publishStats (r : RxStream) (c : Cell) (s : State) : State :=
  let inexact := payloadField c.payload 20 4
  let limit := s.get .MZC_ALARM_INEXACT_LIMIT
  let s := showFigures r c s
  forAll (s.fedBy r) (fun d s =>
    if limit != 0 && limit < inexact then
      onlyIf (!s.flag .MZC_OVER_LIMIT d) (notice 235) ((s.bump .MZC_DEST_STAT3_ALARMS d).put .MZC_OVER_LIMIT d 1)
    else s.put .MZC_OVER_LIMIT d 0) s

/-- A marker of a coded span reports figures of the span before it, which the stream carried coded and not lost (R186, R187). -/
def reportsFigures (r : RxStream) (c : Cell) : Bool :=
  let prev := (c.span + 2 ^ 16 - 1) % 2 ^ 16
  r.kind == 0 && 2 ≤ c.coding && payloadField c.payload 16 4 % 2 ^ 16 == prev
    && (markerFor r prev).any (fun m => 2 ≤ m.coding && !m.lost)

/-- A span marker of a receive stream (R133, R134, R188). -/
def landMarker (c : Cell) (r : RxStream) (s : State) : State :=
  let s := mapRxSlot r.slot (fun x =>
    { x with markers := markerOf c :: (x.markers.filter (fun m => m.span != c.span
      && (recentSpan c.span m.span || x.pieces.any (fun p => p.span == m.span)))) }) s
  let s := onlyIf (r.kind == 2 && c.lost) (groupLoss r.rxg true) s
  onlyIf (reportsFigures r c) (publishStats r c) s

/-- A good cell of a stream that arrives on port `p`: forwarded, or taken. -/
def takeCell (p : Nat) (c : Cell) (s : State) : State :=
  if c.dest ≠ s.position then (match s.wpOf p c with
    | some w => forwardCell w c s
    | none => s)
  else forAll (s.takersOf p c) (if c.typ = 3 then landMarker c else placeCell c) s

/-- SPAN_MARKER on port `p` (R115, R133, R134, R188, R348). -/
def execSpanMarker (p : Nat) (c : Cell) (s : State) : Outcome State Fault Refusal :=
  .next (onlyIf (s.running .fabric && p < 11) (takeCell p { c with typ := 3 }) s)

/-- CELL_RECEIVED on port `p` (R135, R137, R138, R152, R181): `crcGood` is the outcome of its CRC, `late` says that it is
written later than 40 µs after its scheduled time. -/
def execCellReceived (p : Nat) (crcGood late : Bool) (c : Cell) (s : State) : Outcome State Fault Refusal :=
  .next (onlyIf (s.running .fabric && p < 11) (fun s =>
    if !crcGood || !([1, 2, 3, 4, 8].contains c.typ) then s.bump .FAB_PORT_BAD p
    else takeCell p c (onlyIf (late && c.dest == s.position) (fun s => notice 227 (s.bump .FAB_PORT_LATE p)) s)) s)

/-! ### Reading the landing store (R97, R115, R135, R177, R181, R182) -/

/-- The byte at an offset among pieces. -/
def byteAt (ps : List Piece) (o : Nat) : Option Byte :=
  ps.findSome? (fun p => if p.offset ≤ o then p.bytes[o - p.offset]? else none)

/-- Pieces of one line of a span. -/
def linePieces (r : RxStream) (span typ line : Nat) : List Piece :=
  r.pieces.filter (fun p => p.span == span && p.typ == typ && p.line == line)

/-- The `lc` coded bytes of a line, where all are placed (R135). -/
def lineBytes (r : RxStream) (span typ line lc : Nat) : Option (List Byte) :=
  (List.range lc).mapM (byteAt (linePieces r span typ line))

/-- Refinement bytes of D-block `j` of a line, where both arrived. -/
def refinementOf (r : RxStream) (span line j : Nat) : Option (List Byte) :=
  [2 * j, 2 * j + 1].mapM (byteAt (linePieces r span refinementTyp line))

/-- Coding of a span of a receive stream: its marker's, or the stream's. -/
def codingOfSpan (r : RxStream) (span : Nat) : Nat := ((markerFor r span).map (·.coding)).getD r.coding

/-- What a read of one line of a receive stream gives (R135, R181, R182). -/
inductive RemoteLine where
  | samples (xs shifts : List Nat) (coarse : Nat)
  | missing
  | malformed
  | noRefinement
deriving DecidableEq, Repr

/-- Number of D-blocks of a coded Quarter line. -/
def directCount (bs : List Byte) : Nat :=
  let bits := unpackBits bs
  ((pieces 40 bits.length bits).filter isQuarterDirect).length

/-- Bytes of a line lie beyond Lc, other than as the two refinement bytes of each of its D-blocks (R179, R182). -/
def beyondLine (r : RxStream) (span line coding : Nat) (bs : List Byte) : Bool :=
  let most := if coding = 3 then 2 * directCount bs else 0
  !(linePieces r span beyondTyp line).isEmpty || (linePieces r span refinementTyp line).any (fun p => most < p.offset + p.bytes.length)

/-- Read an active line of a span of a receive stream; a coded line cannot be decoded while coding is disabled (R193). -/
def State.readRemote (s : State) (r : RxStream) (span line : Nat) : RemoteLine :=
  let coding := codingOfSpan r span
  let lc := s.lineLength r.kind r.src coding
  match lineBytes r span 1 line lc with
  | none => .missing
  | some bs =>
    if 2 ≤ coding ∧ !s.running .mzc then .missing
    else if beyondLine r span line coding bs then .malformed
    else match decodeLine coding (depthBits (s.get .GAZ_W1_DEPTH r.src)) (s.flag .MZC_CTRL_COARSE) (refinementOf r span line) bs with
      | .line xs shifts coarse => .samples xs shifts coarse
      | .malformed => .malformed
      | .noRefinement => .noRefinement

/-- A piece among others in rising OFFSET. -/
def insertPiece (p : Piece) : List Piece → List Piece
  | [] => [p]
  | q :: l => if p.offset < q.offset then p :: q :: l else q :: insertPiece p l

/-- Ancillary bytes of a line of a span, in order of OFFSET, as far as they arrived (R135). -/
def ancBytes (r : RxStream) (span line : Nat) : List Byte :=
  ((linePieces r span 2 line).foldl (fun l p => insertPiece p l) []).flatMap (·.bytes)

/-- Every line that a span's marker announces has its bytes (R97). -/
def State.spanLanded (s : State) (r : RxStream) (span : Nat) : Bool :=
  match markerFor r span with
  | none => false
  | some m =>
    let typ := if r.kind = 2 then 4 else 1
    let lc := s.lineLength r.kind r.src m.coding
    let places := ((r.pieces.filter (fun p => p.span == span && p.typ == typ)).map (·.line)).eraseDups
    m.lost || m.lines ≤ (places.filter (fun l => (lineBytes r span typ l lc).isSome)).length

/-- LANDING_SPAN_COMPLETE (R97, R117, R346, R348): span `span` of receive entry `n`. -/
def execLandingSpanComplete (n span : Nat) (s : State) : Outcome State Fault Refusal :=
  .next (match s.rx.find? (fun r => r.slot == n) with
    | none => s
    | some r => onlyIf (r.st != 0 && s.spanLanded r (span % 2 ^ 16)) (fun s =>
        let sp := span % 2 ^ 16
        let lost := (markerFor r sp).any (·.lost)
        let next := r.lastSpan.any (fun l => (l + 1) % 2 ^ 16 == sp)
        let spans := if next then satAdd 8 r.spans 1 else 1
        let good := if lost then 0 else if next then satAdd 8 r.good 1 else 1
        let s := mapRxSlot n (fun x =>
          { x with spans := spans, good := good, lastSpan := some sp, held := if lost then x.held else some sp }) s
        onlyIf (r.kind == 2) (fun s =>
          if lost then groupLoss r.rxg true s else onlyIf (2 ≤ good) (groupLoss r.rxg false) s) s) s)

/-- A span of a stream that has not landed whole by the decision point of the span after the next breaks the run of complete spans
(R97): `now` is the low part of that later span's number. -/
def breakRuns (mine : Nat → Nat → Bool) (now : Nat) (s : State) : State :=
  mapRx (fun r => mine r.kind r.src && r.spans != 0 && !r.lastSpan.any (fun l => (now + 2 ^ 16 - l) % 2 ^ 16 ≤ 2))
    (fun r => { r with spans := 0, good := 0 }) s

end Sys2Proof.Machine
end

