-- ==== Sys2Proof/Machine/Atlas.lean ====
section
/-!
DEFINITION. The atlas: meridians, frame synchronisation, commits and salvos, loss actions and the lines of the outputs
(R85 to R125).
-/
namespace Sys2Proof.Machine

open Host (Outcome)

/-! ### Meridians (R85 to R88) -/

/-- Frame number of the last meridian of a format, `ahead` ns from now, by TB0 (R85). -/
def State.frameByClock (s : State) (f ahead : Nat) : Nat :=
  let p := framePeriod f
  let t := (s.now.sec * 1000000000 + s.now.ns + ahead) * p.2 * linesPerFrame f
  let off := (switchLine f - 1) * p.1 * 1000000000
  (t - off) / (p.1 * 1000000000 * linesPerFrame f)

/-- The format codes of R86. -/
def formatCodes : List Nat := [0x01, 0x02, 0x10, 0x11, 0x12, 0x20, 0x21, 0x22] ++ (List.range 8).map (0x30 + ·) ++ (List.range 8).map (0x40 + ·)

/-- Align the meridian generators to TB0 (R85, R88): the last meridian and the last decision point of every format. -/
def alignMeridians (s : State) : State :=
  forAll formatCodes (fun f s => (s.put .ATL_N_RECENT f (s.frameByClock f 0)).put .ATL_N_DECIDED f (s.frameByClock f 250000)) s

/-- The first meridian of one format falls before that of another of the same frame period (R111). -/
def meridianEarlier (f g : Nat) : Bool := (switchLine f - 1) * linesPerFrame g < (switchLine g - 1) * linesPerFrame f

/-! ### Inputs (R90 to R93) -/

/-- One sample limited as it enters from packets (R232): 4 to 1019 at 10 bits, 16 to 4079 at 12 bits. -/
def limitSample (depth x : Nat) : Nat := if depth = 1 then max 16 (min 4079 x) else max 4 (min 1019 x)

/-- What the slot that the next span of an input is written to holds from before at a LINE and sample (R89, R215). -/
def State.slotBefore (s : State) (i line k : Nat) : Nat :=
  ((((s.kept i)[2]?).bind (fun v => v.lines.find? (·.1 == line))).bind (fun l => l.2[k]?)).getD (Config.storeContent i line k)

/-- Put values into a line from a sample on. -/
def overlay (first : Nat) (values row : List Nat) : List Nat := row.take first ++ values ++ row.drop (first + values.length)

/-- A line with the store's earlier content where its words were discarded (R215). -/
def State.mend (s : State) (i : Nat) (l : Nat × List Nat) : Nat × List Nat :=
  (s.holes.filter (fun h => h.input == i && h.line == l.1)).foldl (fun l h =>
    let n := min h.count (l.2.length - h.first)
    (l.1, overlay h.first ((List.range n).map (fun k => s.slotBefore i l.1 (h.first + k))) l.2)) l

/-- A span as a lane wrote it (R215). -/
def State.laneSpan (s : State) (i : Nat) (v : VideoSpan) : VideoSpan := { v with lines := v.lines.map (s.mend i) }

/-- Samples of a line that packets brought, and whether they are all there (R234): the rest is what the slot holds from before. -/
def State.filledLine (s : State) (i width : Nat) (fl : Fill) (line : Nat) : List Nat × Bool :=
  let ps := fl.pieces.filter (fun p => p.1 == line)
  let at_ := fun k => ps.findSome? (fun p => if p.2.1 ≤ k then p.2.2[k - p.2.1]? else none)
  ((List.range width).map (fun k => (at_ k).getD (s.slotBefore i line k)), (List.range width).all (fun k => (at_ k).isSome))

/-- LINEs of a format's active lines. -/
def activeLines (f : Nat) : List Nat := (List.range (linesPerFrame f)).filter (Config.activeLine f)

/-- Ancillary packets by LINE, from packets in order of arrival, newest first. -/
def gatherAnc (l : List (Nat × List Byte)) : List (Nat × List Byte) :=
  let l := l.reverse
  ((l.map (·.1)).eraseDups).map (fun k => (k, (l.filter (fun x => x.1 == k)).flatMap (·.2)))

/-- A span as packets wrote it (R231, R234): lines that a gap left incomplete are named in `gaps`. -/
def State.packetSpan (s : State) (i f d : Nat) (fl : Fill) : VideoSpan :=
  let rows := (activeLines f).map (fun l => (l, s.filledLine i (2 * (activeRaster f).1) fl l))
  { fmt := f, depth := d, lines := rows.map (fun r => (r.1, r.2.1)), gaps := (rows.filter (fun r => !r.2.2)).map (·.1)
    anc := gatherAnc fl.anc }

/-- Spans of an input that packets are still filling, oldest first. -/
def State.openFills (s : State) (i : Nat) : List Fill := (s.fills.filter (fun f => f.input == i && f.done.isNone)).reverse

/-- The oldest of them, which completes next. -/
def State.openFill (s : State) (i : Nat) : Option Fill := (s.openFills i).head?

/-- Number of the span that a fill has become or is to become. -/
def State.fillNumber (s : State) (fl : Fill) : Nat :=
  fl.done.getD (s.get .IN_COMPLETED fl.input + (s.openFills fl.input).findIdx (· == fl))

/-- The span that an input has written: from the packets that feed it, or as its lane delivered it, with the ancillary packets of a
KIND 3 stream where one feeds the input (R231). -/
def State.spanWritten (s : State) (i : Nat) (v : VideoSpan) : VideoSpan :=
  let fl := (s.openFill i).getD ⟨i, 0, none, [], []⟩
  if s.fedByKind [1, 2] i then s.packetSpan i v.fmt v.depth fl else s.laneSpan i v

/-- The fill of an input's span is over: it becomes span `n`, or nothing where the span is not stored; the fills of the last three
spans are kept, for packets that come after (R234). -/
def closeFill (i : Nat) (stored : Bool) (n : Nat) (s : State) : State :=
  match s.openFill i with
  | none => s
  | some fl =>
    let l := if stored then s.fills.map (fun f => if f = fl then { f with done := some n } else f) else s.fills.filter (· ≠ fl)
    { s with fills := l.filter (fun f => f.input != i || f.done.all (fun k => n < k + 3)) }

/-- INPUT_SPAN_COMPLETE (R89, R90, R93, R215, R231, R234): the format and depth of the signal, and the span as its lane delivered it. -/
def execInputSpanComplete (i : Nat) (v : VideoSpan) (s : State) : Outcome State Fault Refusal :=
  .next (onlyIf (s.running .input i && s.positioned) (fun s =>
    let w := s.spanWritten i v
    let s := detectFormat i v.fmt v.depth { s with holes := s.holes.filter (fun h => h.input != i) }
    let s := closeFill i (!s.flag .ATL_IN_STAT_FMT_ERR i) (s.get .IN_COMPLETED i) s
    if s.flag .ATL_IN_STAT_FMT_ERR i then judgeInput i (s.put .IN_GOOD i 0)
    else
      let s := keepSpans i ((w :: s.kept i).take 3) (s.inc .IN_COMPLETED i)
      judgeInput i (if spanComplete w then ((s.put .IN_FRESH i 1).put .IN_STALE i 0).bump .IN_GOOD i else s.put .IN_GOOD i 0)) s)

/-- Select the span that an input gives to the coming frame (R91); `phi` in thousandths of a line period. While no span has been read
yet there is none to repeat: nothing is counted and 192 is not raised (DESIGN CHOICE, log entry 108). -/
def selectSpan (i f : Nat) (phi : Int) (s : State) : State :=
  let r := s.get .IN_READ i
  let next := if r = 0 then s.get .IN_COMPLETED i + 1 else r + 1
  let s := s.put .ATL_IN_STAT_PHASE i (ofSigned 16 (phi / 1000))
  if phi < 2000 then onlyIf (r != 0) (fun s => notice 192 (s.bump .ATL_IN_COUNT_REPEATS i)) s
  else if ((linesPerFrame f + 16 : Nat) : Int) * 1000 < phi then notice 192 ((s.put .IN_READ i (next + 1)).bump .ATL_IN_COUNT_DROPS i)
  else s.put .IN_READ i next

/-- An input at the decision point of its format (R91, R93). -/
def decideInput (f : Nat) (phis : List (Nat × Int)) (i : Nat) (s : State) : State :=
  let s := s.put .IN_READ_PREV i (s.get .IN_READ i)
  let s := match phis.find? (fun x => x.1 == i) with
    | some x => selectSpan i f x.2 s
    | none => s
  let s := if s.flag .IN_FRESH i then s.put .IN_STALE i 0 else s.bump .IN_STALE i
  judgeInput i (s.put .IN_FRESH i 0)

/-! ### What an output shows (R101, R114, R116) -/

/-- The loss action of a destination as an output state; hold turns black once `count` frames, the present one with them, exceed HOLD_LIMIT
(R116). -/
def State.actionState (s : State) (d count : Nat) : Nat :=
  match s.get .DEST_LOSS_NOW d with
  | 0 => if s.get .ATL_DEST_HOLD d ≠ 0 ∧ s.get .ATL_DEST_HOLD d < count then 2 else 1
  | 1 => 2
  | _ => 3

/-- The output state of a destination whose live source is lost (R116). -/
def State.lossState (s : State) (d : Nat) : Nat := s.actionState d (s.get .DEST_HOLD_COUNT d)

/-- The output state that Safe shows (R114): the loss action, counted from the entry into Safe, or from a loss that began before it. -/
def State.safeState (s : State) (d : Nat) : Nat :=
  s.actionState d (max (s.get .DEST_SAFE_COUNT d) (if s.flag .ATL_DEST_STAT_LOST d then s.get .DEST_HOLD_COUNT d else 0))

/-- Output state of the live source, whatever the power state (R101). -/
def State.innerState (s : State) (d : Nat) : Nat :=
  if !s.running .dest d then 5
  else if s.get .ATL_LIVE_SOURCE d = 0x7FF then 4
  else if s.flag .ATL_DEST_STAT_LOST d then s.lossState d else 0

/-- The power state or the claim governs the outputs (R101, R114). -/
def State.outputsGoverned (s : State) : Bool := s.inSafe || s.get .PWR_STAT_STATE == 3 || !s.flag .TWN_STAT_CLAIM

/-- ATL_LIVE.OUT_STATE (R101). -/
def State.outState (s : State) (d : Nat) : Nat := if s.running .dest d && s.outputsGoverned then 6 else s.innerState d

/-- ATL_LIVE.CODING: coding of the most recent span, 0 for a local source (R101). -/
def State.liveCoding (s : State) (d : Nat) : Nat :=
  if s.flag .ATL_LIVE_REMOTE d then
    ((s.liveRx d).map (fun r => codingOfSpan r (s.get .DEST_FRAME d % 2 ^ 16))).getD 0
  else 0

/-- A destination enters loss (R116). -/
def enterLoss (d : Nat) (s : State) : State :=
  notice 189 ((((s.put .ATL_DEST_STAT_LOST d 1).bump .ATL_DEST_STAT_LOSS_COUNT d).put .DEST_HOLD_COUNT d 0).put .DEST_RECOVER d 0)

/-- The published entry of a source no longer matches the destination (R120). -/
def State.formatMismatch (s : State) (d src : Nat) : Bool :=
  src < 1152 && (s.get .GAZ_W1_FORMAT src != s.get .ATL_DEST_CTRL_FORMAT d || s.get .GAZ_W1_DEPTH src != s.get .ATL_DEST_CTRL_DEPTH d)

/-- A source, with the stream that brings it where it is remote, is lost at a decision point (R115), FORMAT_LOST apart. A local source
whose input is disabled, and a remote source that no stream brings, count as lost (DESIGN CHOICE, log entry 111). -/
def State.sourceLost (s : State) (rx : Option RxStream) (src : Nat) : Bool :=
  if 1152 ≤ src then false
  else if s.isRemote src then
    s.flag .GAZ_W0_STALE src || (match rx with
      | some r => r.st == 4 || (r.markers.head?).any (·.lost)
      | none => true)
  else
    let i := src - 96 * s.position
    s.flag .ATL_IN_STAT_LOST i || !s.running .input i

/-- A lost source has come back: two complete spans in a row (R93, R117). -/
def State.sourceBack (s : State) (d : Nat) : Bool := !s.isRemote (s.get .ATL_LIVE_SOURCE d) || (s.liveRx d).any (fun r => 2 ≤ r.good)

/-- Judge the live source of a destination at a decision point (R115 to R117, R120). -/
def judgeLoss (d : Nat) (s : State) : State :=
  let src := s.get .ATL_LIVE_SOURCE d
  let fl := s.formatMismatch d src
  let s := onlyIf (fl && !s.flag .ATL_DEST_STAT_FORMAT_LOST d) (notice 195) (s.putFlag .ATL_DEST_STAT_FORMAT_LOST d fl)
  if fl || s.sourceLost (s.liveRx d) src then
    onlyIf (!s.flag .ATL_DEST_STAT_LOST d) (enterLoss d) (s.put .DEST_RECOVER d 0)
  else onlyIf (s.flag .ATL_DEST_STAT_LOST d && s.sourceBack d) (·.put .DEST_RECOVER d 1) s

/-! ### Commits (R103 to R113) -/

/-- A destination has a pending commit. -/
def State.commitOf (s : State) (d : Nat) : Option PendCommit := s.commits.find? (fun c => c.dest == d)

/-- A salvo is pending. -/
def State.salvoPending (s : State) : Bool := s.commits.any (·.salvo)

/-- Record the refusal of one pending commit (R105, R107, R113); logged under the write that made the request (R78). -/
def refuseOne (c : PendCommit) (code : Nat) (s : State) : State :=
  let s := { s with commits := s.commits.filter (fun x => x.dest != c.dest) }
  refuse code (wordOf 0x100010) c.master ((s.put .ATL_DRAFT_STAT_STATE c.dest 3).put .ATL_DRAFT_STAT_REASON c.dest code)

/-- Refuse a pending commit, and with a member of the salvo every other one: the member records `code`, the rest `other`. -/
def refuseCommit (c : PendCommit) (code other : Nat) (s : State) : State :=
  if c.salvo then
    let rest := s.commits.filter (fun x => x.salvo && x.dest != c.dest)
    notice 188 (forAll rest (fun x => refuseOne x other) (refuseOne c code s))
  else refuseOne c code s

/-- Source and AFV change the live entry of a destination (R106). -/
def State.commitSource (s : State) (c : PendCommit) : Nat := s.get .ATL_DRAFT_SOURCE c.dest

/-- What R105 finds for a commit: ready, refused by the fabric, or not ready. -/
inductive Readiness where
  | ready | refused | waiting
deriving DecidableEq, Repr

/-- Readiness of a commit's source (R97, R105). -/
def State.readiness (s : State) (c : PendCommit) : Readiness :=
  let src := s.commitSource c
  if !s.isRemote src then .ready
  else if (s.draftRx c.dest).any (fun r => r.runs && 2 ≤ r.spans) then .ready
  else if s.get .ATL_DRAFT_STAT_FAB_REASON c.dest ≠ 0 then .refused else .waiting

/-- VALID, FORMAT and DEPTH of a source's entry (R113). -/
def State.snapOf (s : State) (src : Nat) : List Nat :=
  if src < 1152 then [s.get .GAZ_W0_VALID src, s.get .GAZ_W1_FORMAT src, s.get .GAZ_W1_DEPTH src] else []

/-- Change one pending commit. -/
def mapCommit (d : Nat) (f : PendCommit → PendCommit) (s : State) : State :=
  { s with commits := s.commits.map (fun c => if c.dest = d then f c else c) }

/-- Take a commit at its decision point (R105, R118, R120). -/
def takeCommit (c : PendCommit) (s : State) : State :=
  let src := s.commitSource c
  mapCommit c.dest (fun x =>
    { x with taken := true, snap := s.snapOf src, newLost := s.sourceLost (s.draftRx c.dest) src || s.formatMismatch c.dest src }) s

/-- Slip a commit to the next meridian (R105). -/
def slipCommit (c : PendCommit) (s : State) : State :=
  (mapCommit c.dest (fun x => { x with slips := x.slips + 1, target := x.target + 1 }) s).put .ATL_DRAFT_STAT_SLIPS c.dest (c.slips + 1)

/-- A single commit at its decision point (R105). -/
def decideCommit (c : PendCommit) (s : State) : State :=
  match s.readiness c with
  | .ready => takeCommit c s
  | .refused => notice 185 (refuseCommit c 0x1C 0x1E s)
  | .waiting => if c.slips < c.slipLimit then notice 186 (slipCommit c s) else notice 185 (refuseCommit c 0x1B 0x1E s)

/-- The format whose meridian comes first among the members of a salvo (R111). -/
def State.salvoFormat (s : State) : Nat :=
  (s.commits.filter (·.salvo)).foldl (fun f c =>
    let g := s.get .ATL_DEST_CTRL_FORMAT c.dest
    if f = 0 ∨ meridianEarlier g f then g else f) 0

/-- Refuse a whole salvo: each failing member its own code, every other member 0x1E (R111). -/
def refuseSalvo (ms : List PendCommit) (code : PendCommit → Option Nat) (s : State) : State :=
  notice 188 (forAll ms (fun c s => notice 185 (refuseOne c ((code c).getD 0x1E) s)) s)

/-- Code with which a member of the salvo fails at the decision point, where it does (R105, R111). -/
def State.memberFails (s : State) (c : PendCommit) : Option Nat :=
  match s.readiness c with
  | .ready => none
  | .refused => some 0x1C
  | .waiting => if c.slips < c.slipLimit then none else some 0x1B

/-- The salvo at its decision point (R111): refused where a member fails, taken where every member is ready, slipped otherwise. -/
def decideSalvo (ms : List PendCommit) (s : State) : State :=
  if ms.any (fun c => (s.memberFails c).isSome) then refuseSalvo ms s.memberFails s
  else if ms.all (fun c => s.readiness c = .ready) then forAll ms takeCommit s
  else
    let n := (ms.map (·.slips)).headD 0
    notice 186 ((forAll ms slipCommit s).put .ATL_STAT_SALVO_SLIPS 0 (n + 1))

/-- DECISION_POINT of frame `n` of a format, as far as the atlas is concerned (R87, R91, R97, R93, R105, R111, R115 to R120). -/
def atlasDecision (f n : Nat) (phis : List (Nat × Int)) (s : State) : State :=
  let s := breakRuns (fun kind src => kind != 2 && s.formatOf src == f) (n % 2 ^ 16) (s.put .ATL_N_DECIDED f n)
  let ins := (List.range 96).filter (fun i => s.running .input i && s.positioned && s.formatOf (96 * s.position + i) == f)
  let s := forAll ins (decideInput f phis) s
  let singles := s.commits.filter (fun c => !c.salvo && !c.taken && c.target == n && s.get .ATL_DEST_CTRL_FORMAT c.dest == f)
  let s := forAll singles decideCommit s
  let ms := s.commits.filter (fun c => c.salvo && !c.taken && c.target == n)
  let s := onlyIf (!ms.isEmpty && s.salvoFormat == f) (decideSalvo ms) s
  forAll (List.range 96) (fun d s =>
    onlyIf (s.running .dest d && s.get .ATL_DEST_CTRL_FORMAT d == f && !(s.commitOf d).any (·.taken)) (judgeLoss d) s) s

/-- The embedded audio of a destination is to change at the next departure of its switch line (R121): what it leaves is the
window (0), the old video source (1), or zero (2). -/
def audioDue (d old : Nat) (s : State) : State := (s.put .AUD_AFV_DUE d 1).put .AUD_AFV_OLD d old

/-- What the embedded audio of a destination leaves at a commit (R117, R121): zero under hold and black. -/
def State.audioOld (s : State) (d : Nat) : Nat :=
  if s.flag .ATL_LIVE_AFV d then (if s.get .DEST_OLD_OUT d ∈ [1, 2, 4] then 2 else 1) else 0

/-- Write the live entry of a commit that takes effect (R101, R106, R120); what fed it before is kept until the next meridian (R100). -/
def putLive (c : PendCommit) (n : Nat) (s : State) : State :=
  let d := c.dest
  let s := audioDue d (s.audioOld d) s
  let src := s.commitSource c
  let remote := s.isRemote src
  let w := if remote then ((s.draftRx d).map (·.waypoint)).getD 15 else 15
  let rx := if remote then ((s.draftRx d).map (·.slot + 1)).getD 0 else 0
  let old := ((s.liveRx d).map (·.slot + 1)).getD 0
  let stays := s.get .ATL_LIVE_SOURCE d == src && old == rx
  let s := (s.put .DEST_PREV_SOURCE d (if stays then 0x7FF else s.get .ATL_LIVE_SOURCE d)).put .DEST_PREV_RX d (if stays then 0 else old)
  let s := (s.put .ATL_LIVE_SOURCE d src).put .DEST_LIVE_RX d rx
  let s := ((s.put .ATL_LIVE_AFV d (s.get .ATL_DRAFT_AFV d)).putFlag .ATL_LIVE_REMOTE d remote).put .ATL_LIVE_FRAME d n
  let s := ((s.put .ATL_LIVE_INFO_TAG d c.tag).put .ATL_LIVE_INFO_WAYPOINT d w).put .ATL_LIVE_INFO_HOME d
    (if src < 1152 then homeOf src else 0)
  onlyIf (!s.formatMismatch d src) (·.put .ATL_DEST_STAT_FORMAT_LOST d 0) (s.put .ATL_LIVE_LOSS_FRAMES d 0)

/-- A commit takes effect at the meridian of frame `n` (R106, R112, R117, R118). -/
def applyCommit (c : PendCommit) (n : Nat) (s : State) : State :=
  let d := c.dest
  let s := notice 184 (putLive c n { s with commits := s.commits.filter (fun x => x.dest != d) })
  let s := (s.put .ATL_DRAFT_STAT_STATE d 2).put .ATL_DRAFT_STAT_REASON d 0
  let s := if c.newLost then onlyIf (!s.flag .ATL_DEST_STAT_LOST d) (enterLoss d) s
    else onlyIf (s.flag .ATL_DEST_STAT_LOST d) (fun s => notice 190 ((s.put .ATL_DEST_STAT_LOST d 0).put .DEST_RECOVER d 0)) s
  onlyIf (c.salvo && !s.salvoPending) (notice 187) s

/-- The entry of a taken commit's source changed since the decision point (R113). -/
def State.commitStale (s : State) (c : PendCommit) : Bool := s.snapOf (s.commitSource c) != c.snap

/-- A taken commit at its meridian (R106, R113). -/
def meridianCommit (n : Nat) (c : PendCommit) (s : State) : State :=
  if s.commitOf c.dest ≠ some c then s
  else if c.salvo then
    match (s.commits.filter (fun x => x.salvo && x.taken)).find? s.commitStale with
    | some b =>
      let ms := s.commits.filter (·.salvo)
      refuseSalvo ms (fun x => if x = b ∨ s.commitStale x then some 0x20 else none) s
    | none => applyCommit c n s
  else if s.commitStale c then notice 185 (refuseCommit c 0x20 0x1E s)
  else applyCommit c n s

/-- A destination stops (R107, R116). -/
def disableDest (d : Nat) (s : State) : State :=
  ((((s.put .UNIT_EN (UnitKind.code .dest d) 0).put .CHECK_ENABLED (UnitKind.code .dest d) 0).put .ATL_DEST_STAT_LOST d 0).put
    .ATL_DEST_STAT_FORMAT_LOST d 0).put .DEST_DISABLE_DUE d 0

/-- What fed a destination's live entry before the last meridian is let go (R100). -/
def dropPrev (d : Nat) (s : State) : State := (s.put .DEST_PREV_SOURCE d 0x7FF).put .DEST_PREV_RX d 0

/-- A destination at the meridian of frame `n` of its format (R101, R102, R106, R116, R117). -/
def meridianDest (n d : Nat) (s : State) : State :=
  let s := (s.put .DEST_OLD_SOURCE d (s.get .ATL_LIVE_SOURCE d)).put .DEST_OLD_OUT d (s.innerState d)
  let s := (dropPrev d s).put .DEST_FRAME d n |>.put .DEST_LOSS_NOW d (s.get .ATL_DEST_CTRL_LOSS d)
  let s := onlyIf (s.flag .DEST_RECOVER d)
    (fun s => notice 190 ((onlyIf (s.flag .ATL_LIVE_AFV d) (audioDue d 2) s).put .ATL_DEST_STAT_LOST d 0 |>.put .DEST_RECOVER d 0)) s
  let s := match s.commitOf d with
    | some c => onlyIf (c.taken && c.target == n) (meridianCommit n c) s
    | none => s
  onlyIf (s.flag .DEST_DISABLE_DUE d) (disableDest d) s

/-- MERIDIAN of frame `n` of a format, as far as the atlas, the encoders and the fabric are concerned (R100, R106, R112, R113, R143, R153,
R190). A disabled destination of the format, or of none, lets go of what fed it before. -/
def atlasMeridian (f n : Nat) (s : State) : State :=
  let s := reportSpans f (prevSpan n) (s.put .ATL_N_RECENT f n)
  let s := forAll (List.range 96) (fun d s =>
    let g := s.get .ATL_DEST_CTRL_FORMAT d
    if s.running .dest d then onlyIf (g == f) (meridianDest n d) s else onlyIf (g == f || !formatValid g) (dropPrev d) s) s
  spanBoundary (fun kind src => kind != 2 && s.formatOf src == f) (n % 2 ^ 32) s

/-- Refuse every pending commit with a code (R88). -/
def refuseAll (code : Nat) (s : State) : State :=
  let salvo := s.salvoPending
  onlyIf salvo (notice 188) (forAll s.commits (fun c => refuseOne c code) s)

/-! ### Validation (R103, R104, R108, R110, R119) -/

/-- Destination absent on the variant, or of no variant (R98, R103). -/
def State.destCode (s : State) (d : Nat) : Nat := if 96 ≤ d then 0x04 else if s.variant.mediaLanes ≤ d then 0x01 else 0

/-- General codes of a commit (R103). -/
def State.commitGeneral (s : State) : Nat := if !s.running .atlas then 0x05 else if s.inSafe || s.inQuiet then 0x08 else 0

/-- The checks of one destination (R103). -/
def State.commitDest (s : State) (d : Nat) : Nat :=
  let src := s.get .ATL_DRAFT_SOURCE d
  let none_ := src == 0x7FF
  if !s.running .dest d then 0x14
  else if (s.commitOf d).isSome then 0x15
  else if !s.flag .ATL_DRAFT_ARMED d then 0x10
  else if !none_ && (1152 ≤ src || !s.flag .GAZ_W0_VALID src) then 0x11
  else if !none_ && s.flag .GAZ_W0_STALE src then 0x1D
  else if s.isRemote src && !s.canRequest then 0x21
  else if !none_ && s.get .GAZ_W1_FORMAT src ≠ s.get .ATL_DEST_CTRL_FORMAT d then 0x12
  else if !none_ && s.get .GAZ_W1_DEPTH src ≠ s.get .ATL_DEST_CTRL_DEPTH d then 0x13
  else if s.flag .ATL_DRAFT_AFV d && !s.running .aud then 0x23
  else 0

/-- First code that a list of checks gives. -/
def firstCode (l : List Nat) : Nat := (l.find? (· != 0)).getD 0

/-- Target frame and code of a commit whose decision points are those of a format (R104). -/
def State.commitTarget (s : State) (f : Nat) (atFrame : Bool) : Nat × Nat :=
  let cur := s.get .ATL_N_RECENT f
  let diff := (s.get .ATL_COMMIT_FRAME + 2 ^ 32 - cur % 2 ^ 32) % 2 ^ 32
  let n := cur + diff
  if !atFrame then (s.get .ATL_N_DECIDED f + 1, 0)
  else if n ≤ s.get .ATL_N_DECIDED f then (n, 0x16)
  else if 65535 < diff then (n, 0x17) else (n, 0)

/-- A write of ATL_COMMIT ends: TAG, REASON, and the refusal where there is one (R98, R103). -/
def commitResult (m : Master) (code : Nat) (accept : Nat → State → State) (s : State) : State :=
  let s := s.inc .ATL_COMMIT_RESULT_TAG
  let s := s.put .ATL_COMMIT_RESULT_REASON 0 code
  if code ≠ 0 then refuse code (wordOf 0x100010) m s else accept (s.get .ATL_COMMIT_RESULT_TAG) s

/-- A commit of a destination becomes pending (R99, R105). -/
def addCommit (m : Master) (d tag target : Nat) (salvo : Bool) (s : State) : State :=
  let c : PendCommit := ⟨d, tag, target, s.get .ATL_CTRL_SLIP_LIMIT, 0, salvo, false, [], false, m⟩
  let s := { s with commits := s.commits ++ [c] }
  (((s.put .ATL_DRAFT_STAT_STATE d 1).put .ATL_DRAFT_STAT_TAG d tag).put .ATL_DRAFT_STAT_SLIPS d 0).put .ATL_DRAFT_STAT_REASON d 0

/-- ATL_COMMIT: a write of ATL_COMMIT with SALVO 0 (R103, R104). -/
def execAtlCommit (m : Master) (v : Nat) (s : State) : Outcome State Fault Refusal :=
  let d := bitsAt v 0 7
  .next (writeGated m 0x100010 (fun s =>
    let t := s.commitTarget (s.get .ATL_DEST_CTRL_FORMAT d) (bitsAt v 30 1 == 1)
    commitResult m (firstCode [s.commitGeneral, s.destCode d, s.commitDest d, t.2]) (fun tag => addCommit m d tag t.1 false) s) s)

/-- Destinations of ATL_SALVO_MASK0–2 (R110). -/
def State.salvoDests (s : State) : List Nat :=
  (List.range 96).filter (fun d => bitsAt (s.get .ATL_SALVO_MASK (d / 32)) (d % 32) 1 == 1)

/-- Every member's format has one frame period (R110). -/
def samePeriods (l : List Nat) : Bool :=
  l.all (fun f => l.all (fun g => (framePeriod f).1 * (framePeriod g).2 == (framePeriod g).1 * (framePeriod f).2))

/-- A salvo over some destinations is validated and, where nothing is wrong, pending (R103, R104, R110, R111). Every check of one
destination comes before those of the next, in rising number (DESIGN CHOICE, log entry 109). -/
def requestSalvo (m : Master) (ds : List Nat) (atFrame : Bool) (s : State) : State :=
  let fs := ds.map (fun d => s.get .ATL_DEST_CTRL_FORMAT d)
  let f := fs.foldl (fun f g => if f = 0 ∨ meridianEarlier g f then g else f) 0
  let t := s.commitTarget f atFrame
  let whole := if ds.isEmpty then 0x19 else if s.salvoPending then 0x1A else if !samePeriods fs then 0x18 else t.2
  commitResult m (firstCode ([s.commitGeneral] ++ ds.map s.destCode ++ ds.map s.commitDest ++ [whole])) (fun tag s =>
    let s := forAll ds (fun d => addCommit m d tag t.1 true) s
    (s.put .ATL_STAT_SALVO_TAG 0 tag).put .ATL_STAT_SALVO_SLIPS 0 0) s

/-- ATL_SALVO: a write of ATL_COMMIT with SALVO 1 (R103, R104, R110, R111). -/
def execAtlSalvo (m : Master) (v : Nat) (s : State) : Outcome State Fault Refusal :=
  .next (writeGated m 0x100010 (fun s => requestSalvo m s.salvoDests (bitsAt v 30 1 == 1) s) s)

/-- ATL_CANCEL: a write of ATL_CANCEL with SALVO 0 (R103, R107). -/
def execAtlCancel (m : Master) (v : Nat) (s : State) : Outcome State Fault Refusal :=
  let d := bitsAt v 0 7
  .next (writeGated m 0x10001C (fun s =>
    if s.destCode d ≠ 0 then refuse (s.destCode d) (wordOf 0x10001C) m s
    else match s.commitOf d with
      | some c => onlyIf (!c.taken) (refuseCommit c 0x1F 0x1F) s
      | none => s) s)

/-- SALVO_CANCEL: a write of ATL_CANCEL with SALVO 1 (R107). -/
def execSalvoCancel (m : Master) (s : State) : Outcome State Fault Refusal :=
  .next (writeGated m 0x10001C (fun s =>
    match s.commits.find? (fun c => c.salvo && !c.taken) with
    | some c => refuseCommit c 0x1F 0x1F s
    | none => s) s)

/-- Offset of ATL_DRAFT word 0 of destination `d` (R98). -/
def draftOff (d : Nat) : Nat := 0x101000 + 16 * d

/-- The draft of destination `d` has changed: a source other than `old` has no stream yet, and what the draft names is requested (R100). -/
def draftChanged (d old : Nat) (s : State) : State :=
  requestDraft d (onlyIf (s.get .ATL_DRAFT_SOURCE d != old) (·.put .DEST_DRAFT_RX d 0) (s.put .ATL_DRAFT_STAT_FAB_REASON d 0))

/-- A write of word 0 of draft `d` (R99, R100, R108, R145). -/
def draftWrite (m : Master) (d v : Nat) (s : State) : Outcome State Fault Refusal :=
  .next (onlyIf (d < 96) (writeGated m (draftOff d) (fun s =>
    if (s.commitOf d).isSome then refuse 0x15 (wordOf (draftOff d)) m s
    else draftChanged d (s.get .ATL_DRAFT_SOURCE d) (writeWord m (draftOff d) v s))) s)

/-- Word 0 of a draft: ARMED above the other 31 bits (R98). -/
def draftWord (armed : Bool) (low : Nat) : Nat := low % 2 ^ 31 + 2 ^ 31 * armed.toNat

/-- ATL_DRAFT_WRITE: word 0 of draft `d` is written, given as its ARMED bit and its other bits (R99, R100). -/
def execAtlDraftWrite (m : Master) (d : Nat) (armed : Bool) (low : Nat) (s : State) : Outcome State Fault Refusal :=
  draftWrite m d (draftWord armed low) s

/-- What clearing FAB_CTRL.EN does to the atlas (R164): pending remote commits are refused with 0x21, remote live sources
are lost. -/
def atlasFabricDisabled (s : State) : State :=
  let cs := s.commits.filter (fun c => !c.taken && s.isRemote (s.commitSource c))
  let s := forAll cs (fun c s => if (s.commitOf c.dest).isSome then refuseCommit c 0x21 0x1E s else s) s
  forAll (List.range 96) (fun d s =>
    onlyIf (s.running .dest d && s.isRemote (s.get .ATL_LIVE_SOURCE d) && !s.flag .ATL_DEST_STAT_LOST d) (enterLoss d) s) s

/-! ### The lines of an output (R89, R95, R115, R116, R135, R181, R182) -/

/-- Samples of a line of a span; an empty list outside the active lines. -/
def lineOf (v : VideoSpan) (line : Nat) : List Nat := ((v.lines.find? (·.1 == line)).map (·.2)).getD []

/-- Ancillary bytes of a line of a span. -/
def ancOf (v : VideoSpan) (line : Nat) : List Byte := ((v.anc.find? (·.1 == line)).map (·.2)).getD []

/-- Samples of a line as it leaves. -/
def LineOut.words : LineOut → List Nat
  | .samples xs _ | .black xs _ => xs
  | .noSource => []

/-- Samples of a read, where it gives any. -/
def RemoteLine.samples? : RemoteLine → Option (List Nat)
  | .samples xs _ _ => some xs
  | _ => none

/-- A line that hold repeats, with the ancillary packets but for audio: of the last complete span of the source (R116). -/
def State.heldLine (s : State) (rx : Option RxStream) (src line : Nat) : List Nat × List Byte :=
  if s.isRemote src then
    match rx.bind (fun r => r.held.map (fun k => (r, k))) with
    | some (r, k) => (((s.readRemote r k line).samples?).getD [], Config.withoutAudio (ancBytes r k line))
    | none => ([], [])
  else match (s.kept (src - 96 * s.position)).find? spanComplete with
    | some v => (lineOf v line, Config.withoutAudio (ancOf v line))
    | none => ([], [])

/-- Samples received last on a line of a receive stream, up to span `span` (R116, pass as received). -/
def State.lastReceived (s : State) (r : RxStream) (span line : Nat) : List Nat :=
  ((span :: ((r.pieces.map (·.span)).eraseDups.filter (fun k => behind16 k span))).findSome? (fun k => (s.readRemote r k line).samples?)).getD []

/-- A line of the span of frame `n` that packets are still filling (R234). -/
def State.fillingLine (s : State) (i n line : Nat) : Option (List Nat × List Byte) :=
  (s.spanNumber i n).bind (fun j => ((s.openFills i).find? (fun fl => s.fillNumber fl == j)).map (fun fl =>
    let f := s.formatOf (96 * s.position + i)
    let anc := ((gatherAnc fl.anc).find? (·.1 == line)).map (·.2)
    (if Config.activeLine f line then (s.filledLine i (2 * (activeRaster f).1) fl line).1 else [], anc.getD [])))

/-- What the store holds for a line: the line of this span, else the last content received on it (R116, pass as received). -/
def State.receivedLine (s : State) (rx : Option RxStream) (src n line : Nat) (live : Option (List Nat × List Byte)) : List Nat × List Byte :=
  if s.isRemote src then
    match rx with
    | some r => (s.lastReceived r (n % 2 ^ 16) line, ancBytes r (n % 2 ^ 16) line)
    | none => ([], [])
  else
    let i := src - 96 * s.position
    match (s.spanNumber i n).bind (s.spanAt i) with
    | some v => (lineOf v line, ancOf v line)
    | none => (live.orElse (fun _ => s.fillingLine i n line)).getD ((((s.kept i).head?).map (fun v => lineOf v line)).getD [], [])

/-- Samples of a black active line, Cb Y Cr Y (R116). -/
def blackLine (f depth : Nat) : List Nat :=
  let b := if depth = 1 then [2048, 256] else [512, 64]
  (List.range (activeRaster f).1).flatMap (fun _ => b)

/-- A line under an output state of R101. -/
def State.lineUnder (s : State) (state d : Nat) (rx : Option RxStream) (src n line : Nat) (live : Option (List Nat × List Byte)) : LineOut :=
  let f := s.get .ATL_DEST_CTRL_FORMAT d
  let got := s.receivedLine rx src n line live
  match state with
  | 4 => .noSource
  | 1 => .samples (s.heldLine rx src line).1 (s.heldLine rx src line).2
  | 2 => .black (if Config.activeLine f line then blackLine f (s.get .ATL_DEST_CTRL_DEPTH d) else []) got.2
  | _ => .samples got.1 got.2

/-- A line of a receive stream is missing: counted once per stream (R115, R181, R182, R191). -/
def missLine (d : Nat) (r : RxStream) (what : RemoteLine) (s : State) : State :=
  let n := r.slot
  let s := mapRxSlot n (fun x => { x with missing := satAdd 16 x.missing 1, spans := 0, good := 0 }) s
  let code := match what with
    | .malformed => 0x44
    | .noRefinement => 0x45
    | _ => 0
  if code = 0 then s
  else notice (if code = 0x44 then 233 else 232)
    (codingReason d code ((s.bump .MZC_DEC_MISSING n).put .MZC_DEC_LAST_REASON n code))

/-- Count the blocks of a decoded line of a span (R181, R188, R191). Those of a span whose figures the entry shows already, since its
marker came first, are added to these figures (DEDUCED, log entry 121). -/
def countBlocks (r : RxStream) (span : Nat) (shifts : List Nat) (coarse : Nat) (s : State) : State :=
  let n := r.slot
  let shown := s.get .DEC_SHOWN n == span + 1
  let s := if shown || s.get .DEC_NOW_SPAN n == span + 1 then s else (freshCounts n s).put .DEC_NOW_SPAN n (span + 1)
  let hist := if shown then Fld.MZC_DEC_HIST else Fld.DEC_NOW_HIST
  let blocks := if shown then Fld.MZC_DEC_COARSE_BLOCKS else Fld.DEC_NOW_COARSE
  let s := forAll shifts (fun h s => s.bump hist (8 * n + h)) s
  onlyIf (coarse != 0) (fun s => notice 232 (s.bump blocks n coarse)) s

/-- The remote line of a destination is read, and counted once per stream: whether it shows the loss action (R115, R181, R182). -/
def remoteDeparture (d : Nat) (rx : Option RxStream) (src n line : Nat) (s : State) : State × Bool :=
  let sp := n % 2 ^ 16
  match rx with
  | none => (s, Config.activeLine (s.formatOf src) line)
  | some r =>
    let lost := (markerFor r sp).any (·.lost)
    if lost then (s, true)
    else if !Config.activeLine (s.formatOf src) line then (s, false)
    else
      let what := s.readRemote r sp line
      let first := !alreadyRead r sp line
      let s := mapRxSlot r.slot (fun x => if first then { x with read := some (sp, line) } else x) s
      match what with
      | .samples _ shifts coarse => (onlyIf (first && 2 ≤ codingOfSpan r sp) (countBlocks r sp shifts coarse) s, false)
      | w => (if first then missLine d r w s else onlyIf (w != .missing) (codingReason d (if w = .malformed then 0x44 else 0x45)) s, true)

/-- A line of a local source is read for output (R234). -/
def localDeparture (src n line : Nat) (s : State) : State :=
  let i := src - 96 * s.position
  match s.spanNumber i n with
  | some j =>
    if s.get .IN_LINE_SPAN i < j + 1 then (s.put .IN_LINE_SPAN i (j + 1)).put .IN_LINE_READ i line
    else if s.get .IN_LINE_SPAN i = j + 1 then s.put .IN_LINE_READ i (max line (s.get .IN_LINE_READ i)) else s
  | none => s

/-- Frame `n` of a destination is output under a loss action: counted once (R101, R116). -/
def countLoss (d n : Nat) (s : State) : State :=
  let k := n % 2 ^ 32 + 1
  onlyIf (s.get .DEST_LOSS_LAST d != k) (fun s => ((s.put .DEST_LOSS_LAST d k).bump .ATL_LIVE_LOSS_FRAMES d).bump .DEST_HOLD_COUNT d) s

/-- Frame `n` of a destination is shown in Safe: counted once (R114, R116). -/
def countSafe (d n : Nat) (s : State) : State :=
  let k := n % 2 ^ 32 + 1
  onlyIf (s.get .DEST_SAFE_LAST d != k) (fun s => (s.put .DEST_SAFE_LAST d k).bump .DEST_SAFE_COUNT d) s

/-- The line starts a loss, or stands under one (R115, R116): it is of the live source unless a commit took another one at the last
meridian; the rest of the old span then only shows the action (DEDUCED, log entry 113). -/
def lossLine (d n : Nat) (cur missing : Bool) (s : State) : State :=
  let live := cur || s.get .DEST_PREV_SOURCE d == 0x7FF
  let s := onlyIf (missing && live && !s.flag .ATL_DEST_STAT_LOST d) (enterLoss d) s
  onlyIf (live && s.flag .ATL_DEST_STAT_LOST d && (cur || missing || s.get .DEST_OLD_OUT d ∈ [1, 2, 3])) (countLoss d n) s

/-- A line of destination `d` leaves (R95, R114 to R116, R121, R181, R207): its span is that of frame `n`; `live` is what the frame
store holds of the line while its span is still being written. In Safe every output shows its loss action; one without a source
stays without (DESIGN CHOICE, log entry 110). -/
def destDeparture (d n line : Nat) (live : Option (List Nat × List Byte)) (s : State) : State :=
  let cur := n % 2 ^ 32 == s.get .DEST_FRAME d % 2 ^ 32
  let src := if cur then s.get .ATL_LIVE_SOURCE d else s.get .DEST_OLD_SOURCE d
  let rx := if cur then s.liveRx d else s.oldRx d
  let before := if cur then s.innerState d else s.get .DEST_OLD_OUT d
  if !s.running .dest d || before == 5 then s
  else
    let r := if before = 4 then (s, false) else if s.isRemote src then remoteDeparture d rx src n line s else (localDeparture src n line s, false)
    let s := onlyIf s.inSafe (countSafe d n) (onlyIf (before != 4) (lossLine d n cur r.2) r.1)
    let s := onlyIf (!cur && r.2 && before == 0) (fun s => s.put .DEST_OLD_OUT d (s.lossState d)) s
    let under := r.2 || before != 0
    let state := if before = 4 then 4 else if s.inSafe then s.safeState d
      else if !under then 0 else if cur then s.lossState d else s.get .DEST_OLD_OUT d
    let s := onlyIf (cur && s.flag .AUD_AFV_DUE d && line == 0) (fun s => (s.put .AUD_AFV_DUE d 0).put .AUD_AFV_LEFT d 64) s
    let what := s.lineUnder state d rx src n line live
    s.emit (.line d n line (s.flag .TWN_STAT_DRIVING) (s.sdiLines 1 d (s.get .ATL_DEST_CTRL_FORMAT d) line what.words) what)

end Sys2Proof.Machine
end

