-- ==== Sys2Proof/Machine/Compose.lean ====
section
/-!
DEFINITION. Composition of a head's picture: layers, scalers, look-up tables, the legend layer and the output conversion
(R425 to R438, R446 to R449).
-/
namespace Sys2Proof.Machine

/-- A pixel of three components, Y, Cb and Cr. -/
structure Pixel where
  y : Nat
  cb : Nat
  cr : Nat
deriving DecidableEq, Repr

/-- Apply a function to every component, which it receives by its number: 0 Y, 1 Cb, 2 Cr (R430). -/
def Pixel.map (f : Nat → Nat → Nat) (p : Pixel) : Pixel := ⟨f 0 p.y, f 1 p.cb, f 2 p.cr⟩

/-- Combine the components of two pixels. -/
def Pixel.zip (f : Nat → Nat → Nat) (p q : Pixel) : Pixel := ⟨f p.y q.y, f p.cb q.cb, f p.cr q.cr⟩

/-- A colour of three 10-bit components in [29:20], [19:10] and [9:0], as 12-bit codes (R429). -/
def colourOf (w : Nat) : Pixel := ⟨4 * bitsAt w 20 10, 4 * bitsAt w 10 10, 4 * bitsAt w 0 10⟩

/-! ### Scalers (R435, R437) -/

/-- Element of a list at a place; places beyond an edge repeat the edge (R435). -/
def edgeAt {α : Type} (xs : List α) (dflt : α) (i : Int) : α :=
  (xs[min i.toNat (xs.length - 1)]?).getD dflt

/-- Source position of output sample `x` of `dst` from `src` samples, as a 16.16 number rounded half up (R435). -/
def scalePos (src dst x : Nat) : Int :=
  (((2 * x + 1) * src * 65536 : Nat) - (65536 * dst : Nat) + (dst : Nat) : Int) / ((2 * dst : Nat) : Int)

/-- Sum of taps, rounded and limited (R435). -/
def scaleOut (sum : Int) : Nat := (clampInt 16 4079 ((sum + 128) / 256)).toNat

/-- Horizontal tap `k` of a phase of head `n`. -/
def State.hTap (s : State) (n phase k : Nat) : Int := toSigned 10 (s.get .CMP_HEAD_HCOEF (256 * n + 8 * phase + k))

/-- Vertical tap `k` of a phase of head `n`. -/
def State.vTap (s : State) (n phase k : Nat) : Int := toSigned 10 (s.get .CMP_HEAD_VCOEF (128 * n + 4 * phase + k))

/-- One scaled sample: taps `0` to `count - 1` at places i - back + k (R435). -/
def scaleSample (tap : Nat → Nat → Int) (count back : Nat) (at_ : Int → Nat) (pos : Int) : Nat :=
  let i := pos / 65536
  let phase := (pos % 65536).toNat / 2048
  scaleOut (((List.range count).map (fun k => tap phase k * ((at_ (i - (back : Int) + (k : Int)) : Nat) : Int))).sum)

/-- Sample (x, y) of one component scaled to `w` × `h`: the vertical filter runs first, the line buffer holding source lines
(DEDUCED from R435 and R436, log entry 81; unsafe). -/
def State.scaled (s : State) (n : Nat) (rows : List (List Nat)) (w h x y : Nat) : Nat :=
  let width := (rows.headD []).length
  let col := fun (j : Int) =>
    scaleSample (s.vTap n) 4 1 (fun i => edgeAt (edgeAt rows [] i) 0 (min j ((width : Int) - 1))) (scalePos rows.length h y)
  scaleSample (s.hTap n) 8 3 (fun j => col (max 0 j)) (scalePos width w x)

/-- The three components of multiplexed rows (R170). -/
def planes (rows : List (List Nat)) : List (List Nat) × List (List Nat) × List (List Nat) :=
  (rows.map (component 1 2), rows.map (component 0 4), rows.map (component 2 4))

/-- Pixel (x, y) of a picture scaled to `w` × `h`; both pixels of a pair carry its chroma (R429, R435). -/
def State.picturePixel (s : State) (n : Nat) (rows : List (List Nat)) (w h x y : Nat) : Pixel :=
  let p := planes rows
  ⟨s.scaled n p.1 w h x y, s.scaled n p.2.1 (w / 2) h (x / 2) y, s.scaled n p.2.2 (w / 2) h (x / 2) y⟩

/-- Sample `i` of a component filtered and halved (R437). -/
def predecSample (xs : List Nat) (i : Nat) : Nat :=
  let x := fun (d : Int) => ((edgeAt xs 0 (2 * (i : Int) + d) : Nat) : Int)
  (clampInt 16 4079 ((- x (-3) + 9 * x (-1) + 16 * x 0 + 9 * x 1 - x 3 + 16) / 32)).toNat

/-- A component halved (R437). -/
def predecLine (xs : List Nat) : List Nat := (List.range (xs.length / 2)).map (predecSample xs)

/-- A multiplexed row at half its width (R437). -/
def predecRow (row : List Nat) : List Nat :=
  multiplex (predecLine (component 1 2 row)) (predecLine (component 0 4 row)) (predecLine (component 2 4 row))

/-! ### Look-up tables (R430) -/

/-- Interpolation between two entries: `f` of 2^`b` steps, rounded (R430). -/
def lutMix (b e0 e1 f : Nat) : Nat := ((e0 : Int) + (((e1 : Int) - (e0 : Int)) * (f : Int) + 2 ^ (b - 1)) / 2 ^ b).toNat

/-- Entry `i` of component `c` of bank `b` of the video (`v`) or graphics pre-blend LUT of head `n`. -/
def State.preEntry (s : State) (v : Bool) (n b c i : Nat) : Nat :=
  let k := 3072 * n + 1536 * b + 512 * c + i / 2
  if v then s.get (if i % 2 = 0 then .CMP_LUT_PV_EVEN else .CMP_LUT_PV_ODD) k
  else s.get (if i % 2 = 0 then .CMP_LUT_PG_EVEN else .CMP_LUT_PG_ODD) k

/-- Entry `j` of component `c` of bank `b` of the post-blend LUT of head `n`. -/
def State.postEntry (s : State) (n b c j : Nat) : Nat :=
  s.get (if j % 2 = 0 then .CMP_LUT_PO_EVEN else .CMP_LUT_PO_ODD) (12288 * n + 6144 * b + 2048 * c + j / 2)

/-- A 12-bit code through a pre-blend LUT (R430). -/
def State.preBlend (s : State) (v : Bool) (n b c code : Nat) : Nat :=
  let j := code / 4
  lutMix 2 (s.preEntry v n b c j) (s.preEntry v n b c (min (j + 1) 1023)) (code % 4)

/-- A 16-bit value through the post-blend LUT (R430). -/
def State.postBlend (s : State) (n b c x : Nat) : Nat :=
  let j := x / 16
  lutMix 4 (s.postEntry n b c j) (s.postEntry n b c (min (j + 1) 4095)) (x % 16)

/-! ### Blending (R429) -/

/-- Alpha of a layer's pixel. -/
def alphaOf (layer pixel : Nat) : Nat := (layer * pixel + 127) / 255

/-- Blend one component. -/
def blend (a src dst : Nat) : Nat := (a * src + (255 - a) * dst + 127) / 255

/-- Something a layer puts on a pixel: alpha and 12-bit codes. -/
abbrev Paint := Nat × Pixel

/-- Apply paints in order to the running value of a pixel, through a pre-blend LUT bank. -/
def State.paint (s : State) (v : Bool) (n b : Nat) (ps : List Paint) (dst : Pixel) : Pixel :=
  ps.foldl (fun d p => Pixel.zip (blend p.1) (p.2.map (s.preBlend v n b)) d) dst

/-! ### Tiles (R434, R445) -/

/-- White and the label box (R434). -/
def labelWhite : Pixel := ⟨4 * 940, 4 * 512, 4 * 512⟩
/-- Colour of the label box (R434). -/
def labelBox : Pixel := ⟨4 * 64, 4 * 512, 4 * 512⟩

/-- Paints of a tile on the raster's pixel (x, y): picture or fallback, border, label (R434, R445). -/
def State.tilePaints (s : State) (h : HeadShot) (t : HeadTile) (x y : Nat) : List Paint :=
  let w := fun k => t.words.getD k 0
  let x0 := bitsAt (w 1) 0 12
  let y0 := bitsAt (w 1) 16 12
  let tw := bitsAt (w 2) 0 12
  let th := bitsAt (w 2) 16 12
  if x < x0 ∨ y < y0 ∨ x0 + tw ≤ x ∨ y0 + th ≤ y then []
  else
    let px := x - x0
    let py := y - y0
    let b := bitsAt (w 0) 21 4
    let a := bitsAt (w 0) 13 8
    let full := alphaOf a 255
    let size := 16 * 2 ^ bitsAt (w 0) 27 2
    let inside := b ≤ px && px < tw - b && b ≤ py && py < th - b
    let inBox := bitsAt (w 0) 29 1 == 1 && inside && th - b - size ≤ py
    let below := if t.fallback || s.inSafe then colourOf (w 3) else s.picturePixel h.head t.rows tw th px py
    let ink := Config.labelInk t.label size (tw - 2 * b) (px - b) (py - (th - b - size))
    [(full, below)]
      ++ (if inside then [] else [(full, colourOf (h.tally.getD (bitsAt (w 0) 25 2) 0))])
      ++ (if inBox then [(alphaOf a 160, labelBox)] ++ (if ink then [(full, labelWhite)] else []) else [])

/-! ### Overlays (R438) -/

/-- Buffer address of an overlay's words. -/
def ovlBase (ws : List Nat) : Nat := ws.getD 1 0 + 2 ^ 32 * bitsAt (ws.getD 2 0) 0 16

/-- Line pitch of an overlay in bytes. -/
def ovlPitch (ws : List Nat) : Nat := 64 * bitsAt (ws.getD 2 0) 16 16

/-- 10-bit value of an 8-bit component. -/
def widen (c : Nat) : Nat := 4 * c + c / 64

/-- Alpha and colour of an overlay pixel word. -/
def ovlPixel (fmt w : Nat) : Nat × Pixel :=
  if fmt = 0 then (85 * bitsAt w 30 2, colourOf w)
  else (bitsAt w 24 8, ⟨4 * widen (bitsAt w 16 8), 4 * widen (bitsAt w 8 8), 4 * widen (bitsAt w 0 8)⟩)

/-- Paint of an overlay on (x, y): its buffer, or its fallback where its line fails or in Safe (R427, R438). -/
def State.ovlPaint (s : State) (failed : Bool) (ws : List Nat) (x y : Nat) : Paint :=
  let w0 := ws.getD 0 0
  let a := bitsAt w0 22 8
  if failed || s.inSafe then (alphaOf a (bitsAt w0 14 8), colourOf (ws.getD 3 0))
  else
    let p := ovlPixel (bitsAt w0 30 1) (s.memWord (ovlBase ws + y * ovlPitch ws + 4 * x))
    (alphaOf a p.1, p.2)

/-! ### The legend layer (R446 to R449) -/

/-- An image of section 0x000A: OFFSET, WIDTH, HEIGHT, REP. -/
structure LegendImage where
  offset : Nat
  width : Nat
  height : Nat
  rep : Nat
deriving DecidableEq, Repr

/-- The header of section 0x000A has its form (R446). -/
def legendFormed (b : List Byte) : Bool :=
  leNat (b.take 4) == 0x3147454C && leNat ((b.drop 4).take 2) == 1 && leNat ((b.drop 6).take 2) ≤ 16 && 272 ≤ b.length

/-- Directory entry `k`. -/
def legendEntry (b : List Byte) (k : Nat) : LegendImage :=
  let e := b.drop (16 + 16 * k)
  ⟨leNat (e.take 4), leNat ((e.drop 4).take 2), leNat ((e.drop 6).take 2), ((e.drop 8).headD 0).toNat⟩

/-- Image `k` where it is valid on a raster (R446). -/
def legendImage (b : List Byte) (raster : Nat × Nat) (k : Nat) : Option LegendImage :=
  let i := legendEntry b k
  if legendFormed b ∧ k < leNat ((b.drop 6).take 2) ∧ i.rep ∈ [1, 2, 4] ∧ i.width * i.rep ≤ raster.1 ∧ i.height * i.rep ≤ raster.2
      ∧ i.offset % 4 = 0 ∧ i.offset + 1024 + i.width * i.height ≤ b.length then some i else none

/-- NORMAL (`evac` false) or EVAC byte of head `n`. -/
def legendByte (b : List Byte) (evac : Bool) (n : Nat) : Nat := ((b.drop ((if evac then 12 else 8) + n)).headD 0).toNat

/-- Raster of head `n`'s format. -/
def State.headRaster (s : State) (n : Nat) : Nat × Nat := activeRaster (s.get .CMP_HEAD_CTRL_FORMAT n)

/-- The image that a head shows, none where NORMAL or EVAC names none or an invalid one. -/
def State.legendFor (s : State) (evac : Bool) (n : Nat) : Option (List Byte × LegendImage) :=
  (s.sectionBytes 0x000A).bind (fun b =>
    if legendByte b evac n = 0xFF then none else (legendImage b (s.headRaster n) (legendByte b evac n)).map (fun i => (b, i)))

/-- An image that a head names is invalid for it (R446, R449). -/
def State.legendBad (s : State) (n : Nat) : Bool :=
  (s.sectionBytes 0x000A).any (fun b =>
    [false, true].any (fun e => legendByte b e n != 0xFF && (legendImage b (s.headRaster n) (legendByte b e n)).isNone))

/-- Palette entry `k` of an image. -/
def palette (b : List Byte) (i : LegendImage) (k : Nat) : Nat := leNat ((b.drop (i.offset + 4 * k)).take 4)

/-- Palette word of an image at (x, y) of a raster, none outside the image, which is centred (R446). -/
def legendAt (b : List Byte) (i : LegendImage) (raster : Nat × Nat) (x y : Nat) : Option Nat :=
  let x0 := (raster.1 - i.width * i.rep) / 2
  let y0 := (raster.2 - i.height * i.rep) / 2
  if x < x0 ∨ y < y0 ∨ x0 + i.width * i.rep ≤ x ∨ y0 + i.height * i.rep ≤ y then none
  else
    let p := (y - y0) / i.rep * i.width + (x - x0) / i.rep
    some (palette b i ((b.drop (i.offset + 1024 + p)).headD 0).toNat)

/-- The boot ROM slide (R449). -/
def romSlide (raster : Nat × Nat) (x y : Nat) : Pixel :=
  if Config.evacuateInk raster.1 raster.2 x y then ⟨4 * 940, 4 * 512, 4 * 512⟩ else ⟨4 * 250, 4 * 409, 4 * 960⟩

/-- What the legend layer puts on (x, y): alpha and codes (R447 to R449). -/
def State.legendPaint (s : State) (h : HeadShot) (x y : Nat) : Paint :=
  let r := s.headRaster h.head
  match h.evac, s.legendFor h.evac h.head with
  | true, none => (255, romSlide r x y)
  | true, some bi => (255, colourOf ((legendAt bi.1 bi.2 r x y).getD (palette bi.1 bi.2 0)))
  | false, none => (0, ⟨0, 0, 0⟩)
  | false, some bi => match legendAt bi.1 bi.2 r x y with
    | some w => (85 * bitsAt w 30 2, colourOf w)
    | none => (0, ⟨0, 0, 0⟩)

/-! ### A pixel and a line of a head (R428, R429) -/

/-- A pixel of a head as it enters the output conversion; `failed` lists the overlays whose read of this line failed. -/
def State.headPixel (s : State) (h : HeadShot) (failed : List Nat) (x y : Nat) : Pixel :=
  let n := h.head
  let bv := bitsAt h.banks 0 1
  let base := (colourOf h.bg).map (s.preBlend true n bv)
  let p := s.paint true n bv (h.tiles.flatMap (fun t => s.tilePaints h t x y)) base
  let p := s.paint false n (bitsAt h.banks 1 1) (h.ovls.map (fun o => s.ovlPaint (failed.contains o.1) o.2 x y)) p
  let v := p.map (s.postBlend n (bitsAt h.banks 2 1))
  let l := s.legendPaint h x y
  Pixel.zip (blend l.1) l.2 v

/-- Output conversion of one component (R429). -/
def outputCode (depth v : Nat) : Nat := if depth = 1 then max 16 (min 4079 v) else max 4 (min 1019 ((v + 2) / 4))

/-- Row `y` of a head as it leaves, multiplexed 4:2:2 with the chroma of the even pixels (R429, R170). -/
def State.headRow (s : State) (h : HeadShot) (failed : List Nat) (y : Nat) : List Nat :=
  let d := s.get .CMP_HEAD_CTRL_DEPTH h.head
  let px := (List.range (s.headRaster h.head).1).map (fun x => (s.headPixel h failed x y).map (fun _ v => outputCode d v))
  multiplex (px.map (·.y)) ((component 0 2 (px.map (·.cb)))) ((component 0 2 (px.map (·.cr))))

/-- Row of an active LINE of a format. -/
def rowOfLine (f line : Nat) : Nat := ((List.range line).filter (Config.activeLine f)).length

end Sys2Proof.Machine
end

