-- ==== Sys2Proof/Machine/AudioPorts.lean ====
section
/-!
DEFINITION. The ports of the audio matrix: kinds, channel runs, states and causes (R333, R337, R338, R377, R378).
-/
namespace Sys2Proof.Machine

/-- The matrix runs at 96 kHz (R333). -/
def State.fs96 (s : State) : Bool := s.flag .AUD_CTRL_FS

/-- Samples in a second (R333). -/
def State.audRate (s : State) : Nat := if s.fs96 then 96000 else 48000

/-- N, the channels of the matrix (R337). -/
def State.matrixSize (s : State) : Nat := if s.fs96 then 8192 else 16384

/-- Samples in a millisecond, which is also the M of a ramp (R345, R364). -/
def State.perMs (s : State) : Nat := if s.fs96 then 96 else 48

/-- SETTING of port `p`. -/
def State.portSetting (s : State) (p : Nat) : Nat := s.get .AUD_PORT_CTRL_SETTING p

/-- Slots of TDM port `p` (R354, R377). -/
def State.tdmSlots (s : State) (p : Nat) : Nat := 8 * 2 ^ bitsAt (s.portSetting p) 0 2

/-- Length of the channel runs of port `p` (R338, R349, R352). -/
def State.portChannels (s : State) (p : Nat) : Nat :=
  match portKind p with
  | 0 => s.tdmSlots p
  | 1 => 8
  | 2 => (if bitsAt (s.portSetting p) 0 1 = 1 then 56 else 64) / (if s.fs96 then 2 else 1)
  | 3 => 16
  | _ => bitsAt (s.portSetting p) 0 6 + 1

/-- The input run that port `p` would feed: none for a PDM port, and none for a packet port with ASRC (R338, R353). -/
def State.portInRun (s : State) (p : Nat) : Option (Nat × Nat) :=
  if s.flag .AUD_PORT_CTRL_IN_EN p && portKind p != 1 && !(portKind p == 4 && s.flag .AUD_PORT_CTRL_ASRC p) then
    some (s.get .AUD_PORT_CHAN_IN_BASE p, s.portChannels p)
  else none

/-- The output run that port `p` would take. -/
def State.portOutRun (s : State) (p : Nat) : Option (Nat × Nat) :=
  if s.flag .AUD_PORT_CTRL_OUT_EN p && portKind p != 1 then some (s.get .AUD_PORT_CHAN_OUT_BASE p, s.portChannels p) else none

/-- The input run that DSP core `n` returns to (R408). -/
def State.coreRun (s : State) (n : Nat) : Nat × Nat := (s.get .DSP_XCH_RET_RET_BASE n, s.get .DSP_XCH_RET_RET_COUNT n)

/-- Input runs that enabled ports other than `p` and enabled cores other than `n` feed (R337, R338, R422). -/
def State.fedRuns (s : State) (p n : Nat) : List (Nat × Nat) :=
  ((List.range 784).filter (fun x => x != p && s.running .aud 0 && s.running .port x)).filterMap s.portInRun
    ++ ((List.range 32).filter (fun x => x != n && s.running .dsp x)).map s.coreRun

/-- Two runs share a channel; a run of no channels shares none. -/
def runsMeet (a b : Nat × Nat) : Bool := 0 < a.2 && 0 < b.2 && a.1 < b.1 + b.2 && b.1 < a.1 + a.2

/-- A run leaves 0 to N − 1. -/
def State.runOutside (s : State) (r : Nat × Nat) : Bool := s.matrixSize < r.1 + r.2

/-- Port that feeds input channel `c`, and the port channel (R337). -/
def State.feederOf (s : State) (c : Nat) : Option (Nat × Nat) :=
  (List.range 784).findSome? (fun p =>
    if s.running .port p then
      match s.portInRun p with
      | some r => if r.1 ≤ c ∧ c < r.1 + r.2 then some (p, c - r.1) else none
      | none => none
    else none)

/-- STATE of port `p`: 0 disabled, 1 qualifying, 2 waiting for daybreak, 3 running, 4 muted (R377). -/
def State.portState (s : State) (p : Nat) : Nat := s.get .AUD_PORT_STAT_STATE p

/-- Event source of port `p` (R378). -/
def portSource (p : Nat) : Nat :=
  match portKind p with
  | 0 => 332 + p
  | 1 => 348 + (p - 16) / 16
  | 2 => 352
  | 3 => 353
  | _ => 354

/-- Set a cause of AUD_PORT_EVT (R378). Bits: 0 STOP, 1 RESUME, 2 RATE_ERR, 3 DOMAIN_ERR, 4 SLIP, 5 GLITCH, 6 UNDERRUN,
7 OVERRUN, 8 MASK, 9 FORMAT. -/
def portCause (p bit : Nat) (s : State) : State := setCauses .AUD_PORT_EVT .AUD_PORT_EVT_EN p (2 ^ bit) (portSource p) 0 s

/-- Count underruns of port `p` (R361, R365). -/
def portUnderrun (p k : Nat) (s : State) : State := onlyIf (k != 0) (fun s => portCause p 6 (s.bump .AUD_PORT_UNDERRUNS p k)) s

/-- Count overruns of port `p` (R365). -/
def portOverrun (p k : Nat) (s : State) : State := onlyIf (k != 0) (fun s => portCause p 7 (s.bump .AUD_PORT_OVERRUNS p k)) s

/-- The port is clocked from outside (R359): a TDM or PDM port in slave mode, a MADI receiver. -/
def State.portSlave (s : State) (p : Nat) : Bool :=
  (portKind p ≤ 1 && !s.flag .AUD_PORT_CTRL_MASTER p) || (portKind p == 2 && s.flag .AUD_PORT_CTRL_IN_EN p)

/-- Samples in one packet of packet audio port `t` (R230, R238, R377). -/
def State.samplesPerPacket (s : State) (t : Nat) : Nat := s.perMs / (if bitsAt (s.portSetting (272 + t)) 6 1 = 1 then 8 else 1)

/-- The clock of port `p` is watched (R360): a TDM or PDM port, a MADI receiver, a packet receiver with ASRC = 0. -/
def State.portWatched (s : State) (p : Nat) : Bool := match portKind p with
  | 0 | 1 => true
  | 2 => s.flag .AUD_PORT_CTRL_IN_EN p
  | 3 => false
  | _ => s.flag .AUD_PORT_CTRL_IN_EN p && !s.flag .AUD_PORT_CTRL_ASRC p

/-- Port `p` has a clock that can stop (R361): one that it has had, in slave mode; in master mode, until it is muted. -/
def State.portTicks (s : State) (p : Nat) : Bool := if s.portSlave p then s.flag .AUD_PORT_STAT_CLK_PRESENT p else s.portState p != 4

/-- A slot mask has bits only for the slots of TDM port `p` (R355). -/
def State.maskFits (s : State) (p v : Nat) : Bool := v < 2 ^ s.tdmSlots p

/-- Port `p`, which runs, is muted (R360, R361, R363). -/
def mutePort (p : Nat) (s : State) : State := onlyIf (1 ≤ s.portState p) (·.put .AUD_PORT_STAT_STATE p 4) s

end Sys2Proof.Machine
end

