-- ==== Sys2Proof/Machine/Queues.lean ====
section
/-!
DEFINITION. The hardware queues: words and check bytes, pointers, items, error correction and flushing (R247 to R258).
-/
namespace Sys2Proof.Machine

open Host (Outcome)

/-! ### Where a queue lies (R247, R249) -/

/-- Words of queue `q`, 2^k. -/
def State.qSize (s : State) (q : Nat) : Nat := 2 ^ s.get .PKT_Q_LOG2_SIZE q

/-- BASE of queue `q`. -/
def State.qBase (s : State) (q : Nat) : Nat := s.get .PKT_Q_BASE_LO q + 2 ^ 32 * s.get .PKT_Q_BASE_HI q

/-- Bytes of the whole area: 9 × 2^k. -/
def State.qBytes (s : State) (q : Nat) : Nat := 9 * s.qSize q

/-- Words a queue holds (R249). -/
def State.qOccupancy (s : State) (q : Nat) : Nat :=
  (s.get .PKT_Q_PTR_PROD q + 2 * s.qSize q - s.get .PKT_Q_PTR_CONS q) % (2 * s.qSize q)

/-- Pointer `p` advanced by `n`. -/
def State.qAdvance (s : State) (q p n : Nat) : Nat := (p + n) % (2 * s.qSize q)

/-- Address of the word at pointer value `p`. -/
def State.qAddr (s : State) (q p : Nat) : Nat := s.qBase q + 8 * (p % s.qSize q)

/-- Memory key of an internal address, which is that of the master `.agent 7` (R456). -/
def State.keyOf (s : State) (a : Nat) : Nat := (s.target (.agent 7) a).key

/-- The word of a queue at pointer value `p`. -/
def State.qWord (s : State) (q p : Nat) : Nat := leNat (Memory.readList s.mem (s.keyOf (s.qAddr q p)) 8)

/-- Write the check byte of word `i` of queue `q` (R248). -/
def writeCheck (q i w : Nat) (s : State) : State :=
  s.memPutBytes (s.keyOf (s.qBase q + 8 * s.qSize q + i)) [Config.checkByte w]

/-- Write a word and its check byte at pointer value `p` (R248). -/
def qPutWord (q p w : Nat) (s : State) : State :=
  writeCheck q (p % s.qSize q) w (s.memPut (s.keyOf (s.qAddr q p)) 8 w)

/-- Write words at consecutive pointer values (R251). -/
def qPutWords (q p : Nat) : List Nat → State → State
  | [], s => s
  | w :: ws, s => qPutWords q (s.qAdvance q p 1) ws (qPutWord q p w s)

/-! ### Items (R251) -/

/-- Header word of an item. -/
def itemHeader (typ len tag : Nat) : Nat := 2 ^ 56 * (typ % 256) + 2 ^ 32 * (len % 65536) + tag % 2 ^ 32

/-- TYPE, LEN, TAG and LAUNCH of a header word. -/
def itemType (w : Nat) : Nat := bitsAt w 56 8
/-- LEN of a header word. -/
def itemLen (w : Nat) : Nat := bitsAt w 32 16
/-- TAG of a header word. -/
def itemTag (w : Nat) : Nat := bitsAt w 0 32
/-- LAUNCH of a header word. -/
def itemLaunch (w : Nat) : Bool := bitsAt w 50 1 == 1

/-- Pointer values of the item headers in a queue, walking `left` words from pointer `p`. -/
def State.qHeads (s : State) (q : Nat) : Nat → Nat → Nat → List Nat
  | 0, _, _ => []
  | fuel + 1, p, left =>
    if left = 0 then [] else
    let n := 1 + itemLen (s.qWord q p)
    p :: s.qHeads q fuel (s.qAdvance q p n) (left - n)

/-- The item headers that a queue holds. -/
def State.qItems (s : State) (q : Nat) : List Nat := s.qHeads q (s.qOccupancy q) (s.get .PKT_Q_PTR_CONS q) (s.qOccupancy q)

/-- An item as a consumer takes it: header word and payload words. -/
structure Item where
  header : Nat
  payload : List Nat
deriving DecidableEq, Repr

/-- The item at the head of a queue as a consumer takes it, none where the queue is empty: ECC_ERR marks an uncorrectable payload word
(R251, R253). -/
def State.qHead (s : State) (q : Nat) : Option Item :=
  let p := s.get .PKT_Q_PTR_CONS q
  if s.qOccupancy q = 0 then none
  else
    let h := s.qWord q p
    some ⟨if s.flag .PKT_Q_ITEM_ECC q then h ||| 2 ^ 49 else h, (List.range (itemLen h)).map (fun i => s.qWord q (s.qAdvance q p (i + 1)))⟩

/-! ### Causes (R258) -/

/-- Set a cause of queue `q`; with EVT_EN its pending bit is set and source 264 + group raised. -/
def queueCause (f : Fld) (q : Nat) (s : State) : State :=
  let fresh := !s.flag f q
  let s := s.put f q 1
  onlyIf (fresh && s.flag .PKT_Q_EVT_EN q)
    (fun s => notice (264 + q / 4096) (s.put .PKT_Q_PENDING (q / 32) (s.get .PKT_Q_PENDING (q / 32) ||| 2 ^ (q % 32)))) s

/-- The watermark cause, where occupancy rose from `before` to the watermark or more (R257). -/
def checkWatermark (q before : Nat) (s : State) : State :=
  let w := s.get .PKT_Q_WMARK q
  onlyIf (w != 0 && before * 256 < w * s.qSize q && w * s.qSize q ≤ s.qOccupancy q * 256) (queueCause .PKT_Q_STAT_WMARK_C q) s

/-! ### Producers and consumers (R249 to R252) -/

/-- Queue-agent code of a master (R250). -/
def queueAgentOf : Master → Nat
  | .st _ | .stRom => 1
  | .host => 2
  | .debug => 9
  | .agent c => if 7 ≤ c ∧ c ≤ 12 then c - 4 else 0

/-- Advance PROD over `n` words. -/
def advanceProd (q n : Nat) (s : State) : State :=
  let before := s.qOccupancy q
  checkWatermark q before (s.put .PKT_Q_PTR_PROD q (s.qAdvance q (s.get .PKT_Q_PTR_PROD q) n))

/-- Advance CONS over `n` words. -/
def advanceCons (q n : Nat) (s : State) : State := s.put .PKT_Q_PTR_CONS q (s.qAdvance q (s.get .PKT_Q_PTR_CONS q) n)

/-- A hardware agent produces an item (R250, R252, R254): into an enabled queue that names it as producer, whole, or dropped
and counted where it does not fit or a soft flush is on. -/
def queuePush (q agent header : Nat) (payload : List Nat) (s : State) : State :=
  if !s.running .queue q || s.get .PKT_Q_PROD_AGENT q != agent then s
  else if s.flag .PKT_Q_STAT_FLUSHING q || s.qSize q < s.qOccupancy q + payload.length + 1 then s.bump .PKT_QW_DROPS q
  else advanceProd q (payload.length + 1) (qPutWords q (s.get .PKT_Q_PTR_PROD q) (header :: payload) s)

/-- A hardware consumer is done with the item at the head of a queue. -/
def queuePop (q : Nat) (s : State) : State :=
  match s.qHead q with
  | some it => advanceCons q (1 + itemLen it.header) (s.put .PKT_Q_ITEM_ECC q 0)
  | none => s

/-- Offset of a word of queue descriptor `q` (R257). -/
def queueOff (q w : Nat) : Nat := 0x600000 + 32 * q + 4 * w

/-- A hardware consumer may begin an item of a queue: it runs and is not being flushed (R254). -/
def State.qOpen (s : State) (q : Nat) : Bool := s.running .queue q && !s.flag .PKT_Q_STAT_FLUSHING q

/-- Distance of a pointer write from the pointer it replaces (R250). -/
def State.qDelta (s : State) (q old new : Nat) : Nat := (new % (2 * s.qSize q) + 2 * s.qSize q - old) % (2 * s.qSize q)

/-- PKT_Q_PROD: a write of word 2 of descriptor `q` (R250, R254). -/
def execPktQProd (m : Master) (q v : Nat) (s : State) : Outcome State Fault Refusal :=
  .next (writeGated m (queueOff q 2) (fun s =>
    let bad := fun c => refuse c (wordOf (queueOff q 2)) m s
    let d := s.qDelta q (s.get .PKT_Q_PTR_PROD q) (bitsAt v 0 25)
    if s.get .PKT_Q_PROD_AGENT q ≠ queueAgentOf m then bad 0x6E
    else if bitsAt v 25 7 ≠ s.get .PKT_Q_PTR_GEN q then bad 0x6A
    else if s.flag .PKT_Q_STAT_FLUSHING q ∨ s.qSize q < s.qOccupancy q + d then bad 0x6B
    else advanceProd q d s) s)

/-- PKT_Q_CONS: a write of word 3 of descriptor `q` (R250). -/
def execPktQCons (m : Master) (q v : Nat) (s : State) : Outcome State Fault Refusal :=
  .next (writeGated m (queueOff q 3) (fun s =>
    let bad := fun c => refuse c (wordOf (queueOff q 3)) m s
    let d := s.qDelta q (s.get .PKT_Q_PTR_CONS q) (bitsAt v 0 25)
    if s.get .PKT_Q_CONS_AGENT q ≠ queueAgentOf m then bad 0x6E
    else if bitsAt v 25 7 ≠ s.get .PKT_Q_PTR_GEN q then bad 0x6A
    else if s.qOccupancy q < d then bad 0x6C
    else advanceCons q d s) s)

/-! ### Flushing (R254 to R256) -/

/-- GEN increments modulo 128 and FLUSHED is set (R254, R255). -/
def flushed (q : Nat) (s : State) : State :=
  queueCause .PKT_Q_STAT_FLUSHED q (((s.inc .PKT_Q_PTR_GEN q).put .PKT_Q_STAT_FLUSHING q 0).put .PKT_Q_ITEM_ECC q 0)

/-- A soft flush completes (R254): what is held has not begun (R289). -/
def softFlushDone (q : Nat) (s : State) : State :=
  let held := fun (w : TxWork) => w.held && s.get .PKT_TX_TARGET w.tx == q
  flushed q ({ s with txWork := s.txWork.filter (fun w => !held w) }.put .PKT_Q_PTR_CONS q (s.get .PKT_Q_PTR_PROD q))

/-- The item of a queue that packet transmit has begun, if any (R254, R289). -/
def State.workOn (s : State) (q : Nat) : Option TxWork := s.txWork.find? (fun w => !w.held && s.get .PKT_TX_TARGET w.tx == q)

/-- The item of a queue that a hard flush cuts mid-way (R255): frames of it are still to leave. -/
def State.cutWork (s : State) (q : Nat) : Option TxWork := (s.workOn q).filter (fun w => w.left != 0)

/-- Set causes of PKT_MAC_EVT and raise the source of the MAC's quad (R268). Bits: 0 LINK_CHG, 1 RX_DROP, 2 FCS_ERR,
3 PAUSE_RX, 4 TX_ABORT, 5 GATE_DROP. -/
def macCause (m bit : Nat) (s : State) : State := setCauses .PKT_MAC_EVT .PKT_MAC_EVT_EN m (2 ^ bit) (240 + m / 4) 0 s

/-- A frame on the wire is cut short: it ends with an inverted FCS (R255). -/
def abortFrame (n : Nat) (s : State) : State :=
  let m := s.get .PKT_TX_MAC_A n
  macCause m 4 ((s.bump .PKT_MAC_TX_ABORT m).emit (.frame m [] true))

/-- A hardware agent is reading the queue's item at the moment: packet transmit has begun it (R254, R255). -/
def stopConsumer (q : Nat) (s : State) : State :=
  let s := match s.cutWork q with
    | some w => abortFrame w.tx s
    | none => s
  { s with txWork := s.txWork.filter (fun w => s.get .PKT_TX_TARGET w.tx != q) }

/-- A hard flush (R255): the agents stop, the abort marker stands at P, CONS is P and PROD is P + 1. -/
def hardFlush (q : Nat) (byEcc : Bool) (s : State) : State :=
  let cut := (s.cutWork q).isSome
  let items := min (s.qItems q).length 0xFFFF
  let tag := 65536 * items + (if byEcc then 2 else 0) + cut.toNat
  let p := s.get .PKT_Q_PTR_PROD q
  let s := qPutWord q p (itemHeader 0xFF 0 tag + 2 ^ 48) (stopConsumer q s)
  flushed q ((s.put .PKT_Q_PTR_CONS q p).put .PKT_Q_PTR_PROD q (s.qAdvance q p 1))

/-- Disabling a queue discards its items as a hard flush does, without a marker (R256). -/
def queueDisabled (q : Nat) (s : State) : State :=
  let s := stopConsumer q s
  ((s.put .PKT_Q_PTR_CONS q (s.get .PKT_Q_PTR_PROD q)).put .PKT_Q_STAT_FLUSHING q 0).put .PKT_Q_ITEM_ECC q 0

/-- SOFT_FLUSH_COMPLETE (R254): no hardware agent is mid-item. -/
def execSoftFlushComplete (q : Nat) (s : State) : Outcome State Fault Refusal :=
  .next (onlyIf (s.flag .PKT_Q_STAT_FLUSHING q && (s.workOn q).isNone) (softFlushDone q) s)

/-! ### Words (R248, R253) -/

/-- The enabled queue whose area holds an address. -/
def State.queueAt (s : State) (a : Nat) : Option Nat :=
  (s.regs.filter (fun c => c.fld = .CHECK_ENABLED ∧ c.val = 1 ∧ c.idx % 32 = UnitKind.queue.ctorIdx)).findSome? (fun c =>
    let q := c.idx / 32
    let b := s.keyOf (s.qBase q)
    if b ≤ a ∧ a < b + s.qBytes q then some q else none)

/-- Words of a queue's area whose upper half a write of `size` bytes at offset `o` writes whole (R248). -/
def upperHalves (o size : Nat) : List Nat :=
  ((List.range (size / 8 + 2)).map (· + o / 8)).filter (fun k => o ≤ 8 * k + 4 && 8 * k + 8 ≤ o + size)

/-- A write to working SRAM or HBM that has passed its gate (R248): `key` is the REMAP = 1 address. Within a queue's check bytes it
is ignored; the check byte is generated when the upper half of a data word is written. -/
def memoryWrite (key size v : Nat) (s : State) : State :=
  match s.queueAt key with
  | none => s.memPut key size v
  | some q =>
    let o := key - s.keyOf (s.qBase q)
    let n := min size (8 * s.qSize q - o)
    forAll (upperHalves o n) (fun k s => writeCheck q k (s.qWord q k) s) (s.memPut key n v)

/-- QUEUE_DATA_WRITE: a write of `size` bytes at an internal address of a memory (R248). -/
def execQueueDataWrite (m : Master) (a size v : Nat) (s : State) : Outcome State Fault Refusal :=
  .next (match s.memGate m a size true with
    | some c => denyAccess m a true c s
    | none => match s.target m a with
      | .sram o => memoryWrite o size v (s.respond 0 false)
      | .hbm _ b => memoryWrite b size v (s.respond 0 false)
      | _ => s)

/-- Count an uncorrectable word of a queue (R253). -/
def queueUncorrectable (q cls : Nat) (s : State) : State :=
  assertEv 287 cls (queueCause .PKT_Q_STAT_UNCOR_C q ((s.bump .PKT_QW_UNCOR q).bump .PKT_Q_ECC_UNCOR))

/-- QUEUE_WORD_READ: the word at pointer value `p` of queue `q` is read, by a hardware consumer or through the matrix by a
master, and found clean, corrected or uncorrectable (R253). -/
def execQueueWordRead (m : Option Master) (q p : Nat) (ecc : EccOutcome) (s : State) : Outcome State Fault Refusal :=
  .next (if !s.running .queue q then s
  else
    match m.bind (fun m => (s.memGate m (s.qAddr q p) 8 false).map (fun c => (m, c))) with
    | some x => denyAccess x.1 (s.qAddr q p) false x.2 s
    | none =>
    let header := (s.qItems q).contains (p % (2 * s.qSize q))
    let answer := fun (err : Bool) (s : State) => if m.isSome then s.respond (s.qWord q p) err else s
    match ecc with
    | .clean => answer false s
    | .corrected => answer false ((s.bump .PKT_QW_COR q).bump .PKT_Q_ECC_COR)
    | .uncorrectable =>
      if header then answer true (hardFlush q true (queueUncorrectable q 2 s))
      else answer true (queueUncorrectable q 0 (onlyIf m.isNone (·.put .PKT_Q_ITEM_ECC q 1) s)))

end Sys2Proof.Machine
end

