-- ==== Sys2Proof/Machine/Time.lean ====
section
/-!
DEFINITION. Time bases: values and increments, timestamps, snapshots, PTP domains and edge capture (R273 to R296).
-/
namespace Sys2Proof.Machine

open Host (Outcome)

/-! ### Values (R273, R274) -/

/-- 2⁻⁴⁰ ns units of one nanosecond. -/
def fracUnit : Nat := 2 ^ 40

/-- A time in units of 2⁻⁴⁰ ns. -/
def TimeBase.total (t : TimeBase) : Nat := (t.sec * 1000000000 + t.ns) * fracUnit + t.frac

/-- The value of a time in units of 2⁻⁴⁰ ns; the seconds wrap at 2⁴⁸ (R274). -/
def timeOfTotal (x : Nat) : TimeBase :=
  ⟨x / fracUnit / 1000000000 % 2 ^ 48, x / fracUnit % 1000000000, x % fracUnit⟩

/-- A 96-bit timestamp of a value (R274). -/
def stampOfTime (t : TimeBase) : Stamp := ⟨t.sec, t.ns, t.frac / 2 ^ 24⟩

/-- The value of TBn. -/
def State.tb (s : State) (n : Nat) : TimeBase := s.tbs.getD n ⟨0, 0, 0⟩

/-- Give TBn a value. -/
def putTb (n : Nat) (t : TimeBase) (s : State) : State := { s with tbs := s.tbs.set n t }

/-- The increment of TBn in force, in units of 2⁻⁴⁰ ns (R273, R275). -/
def State.tbInc (s : State) (n : Nat) : Nat := s.get .TIM_TB_INC_LO n + 2 ^ 32 * s.get .TIM_TB_INC_HI n

/-- The time `sixteenths` of a tick after the last tick, moved by a signed number of picoseconds (R283, R292). -/
def State.tbAt (s : State) (n sixteenths : Nat) (ps : Int) : TimeBase :=
  let x : Int := ((s.tb n).total + s.tbInc n * sixteenths / 16 : Nat) + ps * 2 ^ 40 / 1000
  timeOfTotal x.toNat

/-- Whole nanoseconds of TBn since its epoch. -/
def State.tbNs (s : State) (n : Nat) : Nat := (s.tb n).sec * 1000000000 + (s.tb n).ns

/-- Set a cause of TBn (R295). Bits: 0 STEP, 1 ALARM, 2 CAP, 3 CAP_LOST, 4 LAUNCH_DROP, 5 INC, 6 ONESTEP_ERR. -/
def tbCause (n bit : Nat) (s : State) : State := setCauses .TIM_TB_EVT .TIM_TB_EVT_EN n (2 ^ bit) (304 + n) 0 s

/-- Offset of a register of TBn's window (R293). -/
def tbOff (n o : Nat) : Nat := 0x800000 + 0x100 * n + o

/-! ### The increment (R275) -/

/-- A write of TIM_TB_INC_LO is staged (R275). -/
def stageInc (n v : Nat) (s : State) : State := s.put .TB_INC_STAGED n v

/-- The increment lies within ±1,000 ppm of nominal (R275). -/
def incInRange (x : Nat) : Bool := 24975 * fracUnit ≤ x * 10000 && x * 10000 ≤ 25025 * fracUnit

/-- INC_COMMIT: a write of TIM_TB_INC_HI (R275). -/
def execIncCommit (m : Master) (n v : Nat) (s : State) : Outcome State Fault Refusal :=
  .next (onlyIf (n < 8) (writeGated m (tbOff n 0xC) (fun s =>
    let x := s.get .TB_INC_STAGED n + 2 ^ 32 * bitsAt v 0 16
    if incInRange x then (s.put .TB_INC_NEXT n x).put .TB_INC_DUE n 1
    else refuse 0x81 (wordOf (tbOff n 0xC)) m s)) s)

/-- INC0 less its nominal value, in units of 2⁻⁴⁰ ns. -/
def State.incExcess (s : State) : Int := (s.tbInc 0 : Int) - 0x028000000000

/-- The candidate in use, 16 where there is none: in night and midnight (R306). SELECTED shows 0xF both for none
and for C15 (DEDUCED, log entry 127). -/
def State.refCur (s : State) : Nat := if 3 ≤ s.get .REF_SEL_STATE_STATE then 16 else s.get .REF_SEL_STATE_SELECTED

/-- RATE_CLAMP and INC0_DEV follow INC0 and the selected candidate's kind; each setting raises source 321 (R298, R314). -/
def followInc0 (s : State) : State :=
  let off := s.incExcess.natAbs
  let clamp := decide (0x028000000000 < off * 10000)
  let k := s.get .REF_CAND_KIND s.refCur
  let hw := s.refCur < 16 && 1 ≤ k && k ≤ 5
  let dev := hw && decide (0x028000000000 < off * 100000000000)
  let s := onlyIf (clamp && !s.flag .REF_SEL_STATE_RATE_CLAMP) (notice 321) (s.putFlag .REF_SEL_STATE_RATE_CLAMP 0 clamp)
  onlyIf (dev && !s.flag .REF_SEL_STATE_INC0_DEV) (notice 321) (s.putFlag .REF_SEL_STATE_INC0_DEV 0 dev)

/-- The increment that a tick adds to TBn, with a commit that is due taken into force (R275, R277). -/
def takeInc (n : Nat) (s : State) : State :=
  if s.flag .TB_INC_DUE n then
    let x := s.get .TB_INC_NEXT n
    let s := tbCause n 5 (((s.put .TIM_TB_INC_LO n x).put .TIM_TB_INC_HI n (x / 2 ^ 32)).put .TB_INC_DUE n 0)
    onlyIf (n == 0) followInc0 s
  else s

/-! ### Steps and sets (R276, R277) -/

/-- The value after a step or set; none where it would lie below zero seconds. -/
def steppedValue (d : StepDue) (t : TimeBase) : Option TimeBase :=
  if d.isSet then some ⟨d.sec.toNat, d.ns.toNat, 0⟩
  else
    let x : Int := ((t.sec * 1000000000 + t.ns : Nat) : Int) + d.sec * 1000000000 + d.ns
    if x < 0 then none
    else some ⟨x.toNat / 1000000000 % 2 ^ 48, x.toNat % 1000000000, t.frac⟩

/-- The value that TBn will have once the steps that are due have acted. -/
def State.tbSoon (s : State) (n : Nat) : TimeBase :=
  s.stepsDue.foldl (fun t d => if d.tb = n then (steppedValue d t).getD t else t) (s.tb n)

/-- Seconds and nanoseconds of TIM_TB_ADJ as a step or a set takes them (R276). -/
def State.adjOf (s : State) (n : Nat) (isSet : Bool) : StepDue :=
  let sec : Nat := s.get .TIM_TB_ADJ_SEC_LO n + 2 ^ 32 * s.get .TIM_TB_ADJ_SEC_HI n
  if isSet then ⟨n, true, sec, s.get .TIM_TB_ADJ_NS n⟩
  else ⟨n, false, toSigned 48 sec, toSigned 32 (s.get .TIM_TB_ADJ_NS n)⟩

/-- Code that refuses a TIM_TB_CMD write, 0 where none does (R276, R280). -/
def State.tbCmdCode (s : State) (n v : Nat) : Nat :=
  let step := bitsAt v 0 1 == 1
  let set := bitsAt v 1 1 == 1
  let arm := bitsAt v 2 1 == 1
  let d := s.adjOf n set
  if (step && set) || (arm && bitsAt v 3 1 == 1) then 0x04
  else if (step || set) && (999999999 < d.ns || d.ns < -999999999) then 0x04
  else if arm && 1000000000 ≤ s.get .TIM_TB_ALARM_NS n then 0x04
  else if step && (steppedValue d (s.tbSoon n)).isNone then 0x83
  else 0

/-- ALARM (R280): the value is at or after the armed time. -/
def State.alarmDue (s : State) (n : Nat) : Bool :=
  s.flag .TIM_TB_STAT_ARMED n
    && s.get .TB_ALARM_SEC n * 1000000000 + s.get .TB_ALARM_NS n ≤ s.tbNs n

/-- ALARM: the time base reaches the armed time, which sets the cause and disarms the alarm (R280). -/
def execAlarm (n : Nat) (s : State) : Outcome State Fault Refusal :=
  .next (onlyIf (s.alarmDue n) (fun s => tbCause n 1 (s.put .TIM_TB_STAT_ARMED n 0)) s)

/-- The alarm bits of an accepted TIM_TB_CMD write (R280). -/
def alarmBits (n v : Nat) (s : State) : State :=
  let s := onlyIf (bitsAt v 2 1 == 1) (fun s =>
    ((s.put .TB_ALARM_NS n (s.get .TIM_TB_ALARM_NS n)).put .TB_ALARM_SEC n
      (s.get .TIM_TB_ALARM_SEC_LO n + 2 ^ 32 * s.get .TIM_TB_ALARM_SEC_HI n)).put .TIM_TB_STAT_ARMED n 1) s
  onlyIf (bitsAt v 3 1 == 1) (·.put .TIM_TB_STAT_ARMED n 0) s

/-! ### Reading (R278, R279) -/

/-- Number of a reading master's shadow (R278); hardware agents have none. -/
def readerOf : Master → Nat
  | .st n => n % 4
  | .host => 4
  | .stRom => 5
  | .debug => 6
  | .agent _ => 7

/-- NOW_LATCH: a read of TIM_TB_NOW_FRAC of TBn (R278). -/
def execNowLatch (m : Master) (n : Nat) (s : State) : Outcome State Fault Refusal :=
  .next (onlyIf (n < 8) (readGated m (tbOff n 0x20) (fun s =>
    let i := 8 * readerOf m + n
    ((s.put .TB_SHADOW_NS i (s.tb n).ns).put .TB_SHADOW_SEC i (s.tb n).sec).respond ((s.tb n).frac / 2 ^ 24 * 65536) false)) s)

/-- Capture every time base (R279). -/
def captureAll (s : State) : State :=
  let ticks := s.tick - s.resetTick
  forAll (List.range 8) (fun n s =>
    let t := stampOfTime (s.tb n)
    ((((s.put .TIM_SNAP_FRAC_FRAC n t.frac).putFlag .TIM_SNAP_FRAC_VALID n (s.running .tb n)).put .TIM_SNAP_NS n t.ns).put
      .TIM_SNAP_SEC_LO n t.sec).put .TIM_SNAP_SEC_HI n (t.sec / 2 ^ 32))
    ((s.put .TIM_SNAP_TICKS_LO 0 ticks).put .TIM_SNAP_TICKS_HI 0 (ticks / 2 ^ 32))

/-- SNAPSHOT: a write of 1 to TIM_SNAP_CMD (R279). -/
def execSnapshot (m : Master) (s : State) : Outcome State Fault Refusal := .next (writeGated m 0x801000 captureAll s)

/-! ### PTP domains (R284, R294) -/

/-- The time base that stamps a PTP message of a domain on MAC `m` (R284). -/
def State.ptpTb (s : State) (m domain : Nat) : Nat :=
  match (List.range 8).find? (fun k => s.flag .TIM_DOMAIN_EN k && s.get .TIM_DOMAIN_DOMAIN k == domain) with
  | some k => s.get .TIM_DOMAIN_TB k
  | none => s.get .TIM_MAC_CTRL_TB m

/-- DOMAIN_WRITE: a write of TIM_DOMAIN entry `k` (R294). -/
def execDomainWrite (m : Master) (k v : Nat) (s : State) : Outcome State Fault Refusal :=
  .next (onlyIf (k < 8) (writeGated m (0x803000 + 4 * k) (fun s =>
    let bad := fun c => refuse c (wordOf (0x803000 + 4 * k)) m s
    let taken := (List.range 8).any (fun j => j != k && s.flag .TIM_DOMAIN_EN j && s.get .TIM_DOMAIN_DOMAIN j == bitsAt v 0 8)
    if bitsAt v 31 1 = 1 ∧ taken then bad 0x89
    else if bitsAt v 31 1 = 1 ∧ !s.running .tb (bitsAt v 28 3) then bad 0x80
    else ((s.put .TIM_DOMAIN_EN k (bitsAt v 31 1)).put .TIM_DOMAIN_TB k (bitsAt v 28 3)).put .TIM_DOMAIN_DOMAIN k (bitsAt v 0 8))) s)

/-! ### Edge capture (R291, R292) -/

/-- The FIFO of a channel. -/
def State.capFifo (s : State) (c : Nat) : List CapEntry := ((s.caps.find? (·.1 == c)).map (·.2)).getD []

/-- Replace the FIFO of a channel. -/
def putCapFifo (c : Nat) (l : List CapEntry) (s : State) : State :=
  { s with caps := (if l.isEmpty then [] else [(c, l)]) ++ s.caps.filter (fun x => x.1 != c) }

/-- EDGE selects an edge; channel 7 takes rising edges, and a frame start is always selected (R291, R292). -/
def State.edgeSelected (s : State) (c : Nat) (rising : Bool) : Bool :=
  8 ≤ c || (c == 7 && rising) || (c != 7 && match s.get .TIM_CAP_CTRL_EDGE c with
    | 0 => rising
    | 1 => !rising
    | _ => true)

/-- A timestamp of a channel enters its FIFO or is lost (R292). -/
def captureStamp (c sixteenths : Nat) (rising : Bool) (s : State) : State :=
  let tb := s.get .TIM_CAP_CTRL_TB c
  let l := s.capFifo c
  if 16 ≤ l.length then tbCause tb 3 ((s.bump .TIM_CAP_LOST c).put .CAP_OVERRUN c 1)
  else
    let e : CapEntry := ⟨stampOfTime (s.tbAt tb sixteenths 0), rising, s.flag .CAP_STEPPED c⟩
    tbCause tb 2 ((putCapFifo c (l ++ [e]) s).put .CAP_STEPPED c 0)

/-- CAPTURE_EDGE: an edge on the input of channel `c`, `sixteenths` of a tick after the last tick (R292). -/
def execCaptureEdge (c sixteenths : Nat) (rising : Bool) (s : State) : Outcome State Fault Refusal :=
  .next (onlyIf (s.running .cap c && s.edgeSelected c rising) (fun s =>
    let n := s.get .CAP_EDGES c + 1
    if n < s.get .TIM_CAP_DIV c then s.put .CAP_EDGES c n else captureStamp c sixteenths rising (s.put .CAP_EDGES c 0)) s)

/-- The word that a read of TIM_CAP_HEAD returns for an entry, `left` entries behind it. -/
def capWord (e : CapEntry) (overrun : Bool) (left : Nat) : Nat :=
  2 ^ 31 + 2 ^ 30 * overrun.toNat + 2 ^ 29 * e.rising.toNat + 2 ^ 28 * e.stepped.toNat + 2 ^ 16 * left + e.stamp.sec / 2 ^ 32 % 2 ^ 16

/-- CAPTURE_HEAD_READ: a read of TIM_CAP_HEAD pops the oldest entry (R292). -/
def execCaptureHeadRead (m : Master) (c : Nat) (s : State) : Outcome State Fault Refusal :=
  .next (onlyIf (c < 16) (readGated m (0x80400C + 64 * c) (fun s =>
    match s.capFifo c with
    | [] => s.respond 0 false
    | e :: l =>
      let w := capWord e (s.flag .CAP_OVERRUN c) l.length
      let s := ((s.put .TIM_CAP_SEC c e.stamp.sec).put .TIM_CAP_NS c e.stamp.ns).put .TIM_CAP_FRAC_FRAC c e.stamp.frac
      ((putCapFifo c l s).put .CAP_OVERRUN c 0).respond w false)) s)

end Sys2Proof.Machine
end

