-- ==== Sys2Proof/Machine/Packet.lean ====
section
/-!
DEFINITION. The packet media engine: received frames, receive entries and their merge, PAUSE and PFC, media packets, large
sends, timed frames and gate lists (R225 to R246, R259 to R272, R283 to R290).
-/
namespace Sys2Proof.Machine

open Host (Outcome)

/-! ### Bytes of a frame -/

/-- Byte `i` of a frame, 0 beyond its end. -/
def frameByte (l : List Byte) (i : Nat) : Nat := ((l[i]?).getD 0).toNat
/-- Two bytes at `i`, most significant first. -/
def be16 (l : List Byte) (i : Nat) : Nat := 256 * frameByte l i + frameByte l (i + 1)
/-- Four bytes at `i`, most significant first. -/
def be32 (l : List Byte) (i : Nat) : Nat := 65536 * be16 l i + be16 l (i + 2)
/-- Replace the bytes from `i` on. -/
def patch (i : Nat) (bs l : List Byte) : List Byte := l.take i ++ bs ++ l.drop (i + bs.length)

/-- EtherType of an IEEE 802.1Q tag. -/
def isTag (x : Nat) : Bool := x == 0x8100 || x == 0x88A8

/-- Offset of the frame's EtherType behind its tags, and the number of tags, two at most. -/
def etherType (l : List Byte) : Nat × Nat :=
  if !isTag (be16 l 12) then (12, 0) else if !isTag (be16 l 16) then (16, 1) else (20, 2)

/-- Sum of the 16-bit words of bytes, the last one padded with zero. -/
def sum16 : List Byte → Nat
  | a :: b :: l => 256 * a.toNat + b.toNat + sum16 l
  | [a] => 256 * a.toNat
  | [] => 0

/-- Ones' complement checksum of a sum of 16-bit words. -/
def fold16 (x : Nat) : Nat :=
  let y := x / 65536 + x % 65536
  let y := y / 65536 + y % 65536
  65535 - (y / 65536 + y % 65536)

/-- The IPv4 part of a frame: offset of its header and of what follows, protocol, whether it is a fragment, addresses,
whether the header checksum is right. -/
structure Ipv4 where
  off : Nat
  body : Nat
  proto : Nat
  fragment : Bool
  src : Nat
  dst : Nat
  good : Bool
deriving DecidableEq, Repr

/-- The IPv4 header of a frame, if it has one (R226). -/
def ipv4Of (l : List Byte) : Option Ipv4 :=
  let e := (etherType l).1
  let o := e + 2
  if be16 l e ≠ 0x0800 ∨ frameByte l o / 16 ≠ 4 ∨ l.length < o + 20 then none
  else
    let n := 4 * (frameByte l o % 16)
    some ⟨o, o + n, frameByte l (o + 9), be16 l (o + 6) % 16384 != 0, be32 l (o + 12), be32 l (o + 16),
      fold16 (sum16 ((l.drop o).take n)) == 0⟩

/-- Checksum of a UDP datagram over its pseudo-header (R226, R244); zero is sent as all ones. -/
def udpChecksum (src dst : Nat) (udp : List Byte) : Nat :=
  let z := patch 6 [0, 0] udp
  let c := fold16 (sum16 (beBytes 4 src ++ beBytes 4 dst) + 17 + udp.length + sum16 z)
  if c = 0 then 65535 else c

/-- The UDP datagram of an IPv4 frame. -/
def udpOf (l : List Byte) (h : Ipv4) : List Byte := (l.drop h.body).take (be16 l (h.body + 4))

/-- The datagram's checksum is zero or right (R226). -/
def udpGood (l : List Byte) (h : Ipv4) : Bool :=
  be16 l (h.body + 6) == 0 || be16 l (h.body + 6) == udpChecksum h.src h.dst (udpOf l h)

/-! ### Receive entries and their merge (R231 to R236) -/

/-- MAC `m` exists: its lane is enabled and bound to it on both sides (R225). -/
def State.macExists (s : State) (m : Nat) : Bool :=
  m < 96 && s.running .lane m && s.get .LAN_BIND_RX_KIND m == 3 && s.get .LAN_BIND_TX_KIND m == 4

/-- MAC `m` is enabled and exists, and the receive side that it serves delivers (R225, R268). -/
def State.macUp (s : State) (m : Nat) : Bool := s.running .mac m && s.macExists m && s.bindingDelivers m

/-- Receive entry `n` forms a pair with its partner (R235). -/
def State.paired (s : State) (n : Nat) : Bool :=
  let p := s.get .PKT_RX_PARTNER n
  s.running .rx n && s.flag .PKT_RX_MERGE n && s.running .rx p && s.flag .PKT_RX_MERGE p && s.get .PKT_RX_PARTNER p == n && p != n

/-- Receive entries whose enable was accepted. -/
def State.rxEntries (s : State) : List Nat := (List.range 2048).filter (fun n => s.running .rx n)

/-- Take the loss of input `i` and of packet audio port `i` afresh from the entries that feed them (R233). -/
def renewFeed (kindLow kindHigh i : Nat) (s : State) : State :=
  let lost := s.rxEntries.any (fun n => kindLow ≤ s.get .PKT_RX_KIND n && s.get .PKT_RX_KIND n ≤ kindHigh
    && s.get .PKT_RX_TARGET n == i && s.flag .PKT_RX_LOST n)
  if kindLow = 1 then judgeInput i (s.putFlag .PKT_INPUT_LOST i lost) else s.putFlag .PKT_AUDIO_LOST i lost

/-- What receive entry `n` feeds takes up its loss or recovery (R233). -/
def renewFed (n : Nat) (s : State) : State :=
  let k := s.get .PKT_RX_KIND n
  if 1 ≤ k ∧ k ≤ 3 then renewFeed 1 3 (s.get .PKT_RX_TARGET n) s
  else if k = 4 ∨ k = 5 then renewFeed 4 5 (s.get .PKT_RX_TARGET n) s else s

/-- A receive entry loses its packets (R233, R236). -/
def rxLost (n : Nat) (s : State) : State :=
  if s.paired n then
    let p := s.get .PKT_RX_PARTNER n
    let s := onlyIf (!s.flag .PKT_RX_LEG_LOST n && !s.flag .PKT_RX_LEG_LOST p) (notice 281) (s.put .PKT_RX_LEG_LOST n 1)
    if s.flag .PKT_RX_LEG_LOST p && !s.flag .PKT_RX_LOST n then
      renewFed n (notice 280 ((s.put .PKT_RX_LOST n 1).put .PKT_RX_LOST p 1))
    else s
  else onlyIf (!s.flag .PKT_RX_LOST n) (fun s => renewFed n (notice 280 (s.put .PKT_RX_LOST n 1))) s

/-- The entry that is enabled completes a pair (R235, R236): its partner is a leg from now on, and where that one was lost, the pair is not
unless both are. -/
def pairFormed (n : Nat) (s : State) : State :=
  let p := s.get .PKT_RX_PARTNER n
  onlyIf (s.paired n && s.flag .PKT_RX_LOST p)
    (fun s => notice 281 (renewFed n (notice 280 ((s.put .PKT_RX_LEG_LOST p 1).put .PKT_RX_LOST p 0)))) s

/-- A pair's partner `n` runs alone from now on (R235, R236): what was the leg's loss is the entry's. -/
def pairBroken (n : Nat) (s : State) : State :=
  let lost := s.flag .PKT_RX_LEG_LOST n
  let was := s.flag .PKT_RX_LOST n
  let s := (s.put .PKT_RX_LEG_LOST n 0).putFlag .PKT_RX_LOST n lost
  onlyIf (lost != was) (fun s => renewFed n (notice 280 s)) s

/-- A receive entry gets a valid packet again (R233, R236). -/
def rxRecovered (n : Nat) (s : State) : State :=
  let p := s.get .PKT_RX_PARTNER n
  let was := s.flag .PKT_RX_LOST n
  let leg := s.flag .PKT_RX_LEG_LOST n
  let s := (s.put .PKT_RX_LEG_LOST n 0).put .PKT_RX_LOST n 0
  let s := if s.paired n then s.put .PKT_RX_LOST p 0 else s
  if was then renewFed n (notice 280 s) else onlyIf leg (notice 281) s

/-- RX_ENTRY_LOST: no valid packet for 10 ms (R233). -/
def execRxEntryLost (n : Nat) (s : State) : Outcome State Fault Refusal := .next (onlyIf (s.running .rx n) (rxLost n) s)

/-- Width of the sequence numbers of a receive entry's KIND: 32 bits for ST 2110-20 (R236, R238). -/
def seqWidth (kind : Nat) : Nat := if kind = 1 then 32 else 16

/-- `a` lies behind `b` on the circle of `w`-bit numbers. -/
def seqBehind (w a b : Nat) : Bool :=
  let d := (b + 2 ^ w - a % 2 ^ w) % 2 ^ w
  1 ≤ d && d < 2 ^ (w - 1)

/-- A sequence number taken: forget the numbers half a circle away, and remember this one (R236). -/
def rememberSeq (pair w q : Nat) (s : State) : State :=
  let keep := s.mergeSeen.filter (fun x => x.pair != pair || seqBehind w x.seq q || seqBehind w q x.seq)
  { s with mergeSeen := ⟨pair, q, s.tick⟩ :: keep }

/-- A number that was missing has come: the hole shrinks or splits (R234). -/
def fillHole (w q : Nat) (h : SeqHole) : List SeqHole :=
  let o := (q + 2 ^ w - h.first) % 2 ^ w
  let n := (h.past + 2 ^ w - h.first) % 2 ^ w
  if n ≤ o then [h]
  else (if o = 0 then [] else [{ h with past := q }]) ++ (if o + 1 = n then [] else [{ h with first := (q + 1) % 2 ^ w }])

/-- Ticks of `us` microseconds. -/
def usTicks (us : Nat) : Nat := us * 400

/-- Holes older than the merge window are gaps (R234). -/
def closeHoles (n lead window : Nat) (s : State) : State :=
  let old := s.seqHoles.filter (fun h => h.rx == lead && h.tick + window < s.tick)
  ({ s with seqHoles := s.seqHoles.filter (fun h => h.rx != lead || s.tick ≤ h.tick + window) }).bump .PKT_RX_COUNT_GAPS n
    old.length

/-- Follow the sequence of a stream (R234): a jump ahead is a gap, at once for a single leg, after the merge window for a
pair. -/
def followSeq (n lead w q : Nat) (s : State) : State :=
  let expect := s.get .PKT_RX_SEQ lead
  let seen := s.flag .PKT_RX_SEEN lead
  let ahead := seen && seqBehind w expect q
  let s := if ahead then
      if s.paired n then { s with seqHoles := ⟨lead, expect, q, s.tick⟩ :: s.seqHoles } else s.bump .PKT_RX_COUNT_GAPS n
    else { s with seqHoles := s.seqHoles.flatMap (fun h => if h.rx = lead then fillHole w q h else [h]) }
  let s := closeHoles n lead (usTicks (s.get .PKT_RX_MERGE_US n)) s
  if seen && !ahead && q != expect then s else (s.put .PKT_RX_SEQ lead ((q + 1) % 2 ^ w)).put .PKT_RX_SEEN lead 1

/-- RX_ADJ and TX_ADJ in picoseconds (R283). -/
def State.rxAdj (s : State) (m : Nat) : Int := toSigned 20 (s.get .TIM_MAC_RX_ADJ m)

/-! ### Audio packets (R352, R353) -/

/-- RTP payload of a UDP frame, behind its CSRC list and header extension. -/
def rtpPayload (l : List Byte) (h : Ipv4) : List Byte :=
  let r := (udpOf l h).drop 8
  let fixed := 12 + 4 * (frameByte r 0 % 16)
  let ext := if bitsAt (frameByte r 0) 4 1 = 1 then 4 + 4 * be16 r (fixed + 2) else 0
  r.drop (fixed + ext)

/-- Bytes of one sample of an audio stream: L16, L24, or an AES3 subframe word (R230, R352). -/
def sampleBytes (kind : Nat) (l16 : Bool) : Nat := if kind = 5 then 4 else if l16 then 2 else 3

/-- The audio word of a payload sample (R336). -/
def packetWord (kind : Nat) (bs : List Byte) : Nat :=
  let v := leNat bs.reverse
  if kind = 5 then Config.aes3Word v % 2 ^ 32 / 16 * 16 else v * 2 ^ (32 - 8 * bs.length)

/-- Pairs of words, the earlier in the low half. -/
def pairWords : List Nat → List Nat
  | a :: b :: l => (a + 2 ^ 32 * b) :: pairWords l
  | [a] => [a]
  | [] => []

/-- An audio packet at receive entry `n` (R352, R353): a stream whose length does not match the port's channels and format is
received as zeros; the samples wait for their instants, or go as an item to the port's queue with ASRC. -/
def audioPacket (n : Nat) (f : RxFrame) (h : Ipv4) (s : State) : State :=
  let t := s.get .PKT_RX_TARGET n
  let p := 272 + t
  let kind := s.get .PKT_RX_KIND n
  let size := sampleBytes kind (bitsAt (s.portSetting p) 7 1 == 1)
  let ch := s.portChannels p
  let count := s.samplesPerPacket t
  let bs := rtpPayload f.bytes h
  let ts := be32 f.bytes (h.body + 12)
  let fits := bs.length == count * ch * size
  if !s.running .port p || !s.flag .AUD_PORT_CTRL_IN_EN p then s
  else
    let s := if fits then s.put .AUD_PORT_STAT_FMT_ERR p 0 else portCause p 9 (s.put .AUD_PORT_STAT_FMT_ERR p 1)
    let ws := if fits then (pieces size bs.length bs).map (packetWord kind) else List.replicate (count * ch) 0
    if s.flag .AUD_PORT_CTRL_ASRC p then
      let at_ := stampOfTime (s.tbAt 0 f.sixteenths (s.rxAdj (s.get .PKT_RX_MAC n)))
      queuePush (s.get .AUD_PORT_QUEUE p) 5 (itemHeader 0x31 (2 + (ch * count + 1) / 2) p)
        ((2 ^ 32 * ts + 256 * count + ch) :: (2 ^ 32 * at_.ns + at_.sec % 2 ^ 32) :: pairWords ws) s
    else
      let arrivals := (List.range count).map (fun j => (⟨p, (ts + j) % 2 ^ 32, (ws.drop (j * ch)).take ch⟩ : AudArrival))
      { s with audArrived := s.audArrived ++ arrivals }

/-! ### Video packets (R230 to R232, R234) -/

/-- A frame's timestamp `ts` belongs to a span whose first packet bore `first` (R234): it is the same or, of the second field of an
interlaced frame, half a frame period later; any within three quarters of the period is taken (DESIGN CHOICE, log entry 119). -/
def sameFrame (fmt first ts : Nat) : Bool :=
  let d := (ts + 2 ^ 32 - first) % 2 ^ 32
  d == 0 || (interlaced fmt && d * 4 * (framePeriod fmt).2 < 3 * 90000 * (framePeriod fmt).1)

/-- The fill of an input that a timestamp belongs to. -/
def State.fillFor (s : State) (i fmt ts : Nat) : Option Fill := s.fills.find? (fun fl => fl.input == i && sameFrame fmt fl.ts ts)

/-- A timestamp older than every span of the input that is kept. -/
def State.tooOld (s : State) (i ts : Nat) : Bool :=
  s.fills.any (·.input == i) && s.fills.all (fun fl => fl.input != i || seqBehind 32 ts fl.ts)

/-- A line of the span of a fill has been read for output (R234). -/
def State.lineRead (s : State) (fl : Fill) (line : Nat) : Bool :=
  let j := s.fillNumber fl + 1
  j < s.get .IN_LINE_SPAN fl.input || (j == s.get .IN_LINE_SPAN fl.input && line ≤ s.get .IN_LINE_READ fl.input)

/-- Open a fill for a timestamp, in the order of the timestamps, newest first. -/
def openFillAt (i ts : Nat) (s : State) : State :=
  let newer := s.fills.takeWhile (fun fl => fl.input != i || seqBehind 32 ts fl.ts)
  { s with fills := newer ++ ⟨i, ts, none, [], []⟩ :: s.fills.drop newer.length }

/-- Samples of a span that is complete, from packets that come after (R234): a line that is whole now is no gap any more. -/
def patchSpan (fl : Fill) (ps : List (Nat × Nat × List Nat)) (s : State) : State :=
  match fl.done with
  | none => s
  | some j =>
    let i := fl.input
    let put := fun (v : VideoSpan) => (ps.foldl (fun v p =>
      { v with lines := v.lines.map (fun l => if l.1 = p.1 then (l.1, overlay p.2.1 p.2.2 l.2) else l) }) v)
    let whole := fun (v : VideoSpan) (l : Nat) => (s.filledLine i (2 * (activeRaster v.fmt).1) fl l).2
    keepSpans i ((s.kept i).modify (s.get .IN_COMPLETED i - 1 - j) (fun v => { put v with gaps := v.gaps.filter (fun l => !whole v l) })) s

/-- Put what a packet carries into the span of its timestamp (R234). -/
def fillPieces (i fmt ts : Nat) (ps : List (Nat × Nat × List Nat)) (anc : List (Nat × List Byte)) (s : State) : State :=
  let s := if (s.fillFor i fmt ts).isSome then s else openFillAt i ts s
  match s.fillFor i fmt ts with
  | none => s
  | some fl =>
    let g := { fl with pieces := ps.reverse ++ fl.pieces, anc := anc.reverse ++ fl.anc }
    patchSpan g ps { s with fills := s.fills.map (fun x => if x = fl then g else x) }

/-- A packet of KIND 1 to 3 at receive entry `n`: its samples limited and counted, then placed, or discarded where its line has been
read (R231, R232, R234). The ancillary packets of a KIND 2 stream count only where no KIND 3 stream feeds the input. -/
def videoPacket (n q : Nat) (l : List Byte) (h : Ipv4) (s : State) : State :=
  let i := s.get .PKT_RX_TARGET n
  let kind := s.get .PKT_RX_KIND n
  let g := 96 * s.position + i
  let fmt := s.get .GAZ_W1_FORMAT g
  let depth := s.get .GAZ_W1_DEPTH g
  let body := (rtpPayload l h).drop (if kind = 1 then 2 else 0)
  let ts := be32 l (h.body + 12)
  let ts := if kind = 2 then Config.frameStamp fmt ts body % 2 ^ 32 else ts
  let raw := if kind = 3 then [] else Config.videoPieces kind fmt depth q body
  let ps := raw.map (fun p => (p.1, p.2.1, p.2.2.map (limitSample depth)))
  let anc := if kind = 1 ∨ (kind = 2 ∧ s.fedByKind [3] i) then [] else Config.ancPieces kind fmt q body
  let limited := ((raw.flatMap (·.2.2)).filter (fun x => limitSample depth x != x)).length
  let s := onlyIf (limited != 0) (fun s => notice 285 (s.bump .PKT_RX_COUNT_CLAMPED n limited)) s
  let first := ((ps.map (·.1)) ++ anc.map (·.1)).headD 0
  let late := match s.fillFor i fmt ts with
    | some fl => s.lineRead fl first
    | none => s.tooOld i ts
  if !s.running .input i || !s.positioned then s
  else if late then s.bump .PKT_RX_COUNT_LATE n
  else fillPieces i fmt ts ps anc s

/-- A packet that a receive entry takes (R230, R234, R352). -/
def placePacket (n q : Nat) (f : RxFrame) (h : Ipv4) (s : State) : State :=
  if 4 ≤ s.get .PKT_RX_KIND n then audioPacket n f h s else videoPacket n q f.bytes h s

/-- A copy of the packet of sequence number `q` at entry `n` of a pair (R236): the first one is taken, another counts where it comes
after the merge window. -/
def mergeCopy (n q : Nat) (take : State → State) (s : State) : State :=
  let lead := min n (s.get .PKT_RX_PARTNER n)
  match s.mergeSeen.find? (fun x => x.pair == lead && x.seq == q) with
  | some x => onlyIf (decide (x.tick + usTicks (s.get .PKT_RX_MERGE_US n) < s.tick)) (·.bump .PKT_RX_COUNT_LATE n) s
  | none => take (rememberSeq lead (seqWidth (s.get .PKT_RX_KIND n)) q s)

/-- A valid packet of sequence number `q` at receive entry `n` (R233 to R236). -/
def mediaPacket (n q : Nat) (f : RxFrame) (h : Ipv4) (s : State) : State :=
  let s := rxRecovered n s
  let w := seqWidth (s.get .PKT_RX_KIND n)
  if s.paired n then mergeCopy n q (fun s => placePacket n q f h (followSeq n (min n (s.get .PKT_RX_PARTNER n)) w q s)) s
  else placePacket n q f h (followSeq n n w q s)

/-! ### Received frames (R226 to R229, R284) -/

/-- The bytes of a frame as queue words, least significant byte first (R229). -/
def frameWords (l : List Byte) : List Nat := (pieces 8 l.length l).map leNat

/-- Deliver a frame to a software queue as a TYPE 0x01 item (R229). -/
def deliverFrame (q m : Nat) (t : Stamp) (l : List Byte) (s : State) : State :=
  let ws := t.sec % 2 ^ 48 :: (t.ns * 2 ^ 32 + t.frac * 2 ^ 16) :: frameWords l
  queuePush q 4 (itemHeader 0x01 ws.length (65536 * l.length + 256 * m)) ws s

/-- A frame is dropped (R227, R228, R267). -/
def dropFrame (m : Nat) (s : State) : State := macCause m 1 (s.bump .PKT_MAC_RX_DROP m)

/-- The receive entry that a UDP frame matches (R228). -/
def State.rxMatch (s : State) (m : Nat) (l : List Byte) (h : Ipv4) : Option Nat :=
  s.rxEntries.find? (fun n => s.get .PKT_RX_MAC n == m && s.get .PKT_RX_DST_IP n == h.dst
    && s.get .PKT_RX_DST_PORT n == be16 l (h.body + 2)
    && (!s.flag .PKT_RX_SRC_MATCH n || s.get .PKT_RX_SRC_IP n == h.src))

/-- The PTP header of a PTP message (R284): its offset. -/
def ptpOf (l : List Byte) : Option Nat :=
  let e := etherType l
  if be16 l e.1 = 0x88F7 then some (e.1 + 2)
  else (ipv4Of l).bind (fun h =>
    if h.proto = 17 ∧ (be16 l (h.body + 2) = 319 ∨ be16 l (h.body + 2) = 320) then some (h.body + 8) else none)

/-- The time base that stamps a frame on MAC `m` (R229, R284). -/
def State.rxTb (s : State) (m : Nat) (l : List Byte) : Nat :=
  match ptpOf l with
  | some o => s.ptpTb m (frameByte l (o + 4))
  | none => s.get .TIM_MAC_CTRL_TB m

/-- The timestamp of a frame (R229, R283, R284). -/
def State.rxStamp (s : State) (m : Nat) (f : RxFrame) : Stamp := stampOfTime (s.tbAt (s.rxTb m f.bytes) f.sixteenths (s.rxAdj m))

/-- Step 4 and 5 of R228: the software queue, or a drop. -/
def toSoftware (m : Nat) (f : RxFrame) (s : State) : State :=
  let l := f.bytes
  let da := 65536 * be32 l 0 + be16 l 4
  let mine := da == s.get .PKT_MAC_ADDR_LO m + 2 ^ 32 * s.get .PKT_MAC_ADDR_HI m || da == 2 ^ 48 - 1
    || (frameByte l 0 % 2 == 1 && s.flag .PKT_MAC_CTRL_MC_TO_SWQ m)
  let q := s.get .PKT_MAC_SWQ_QUEUE m
  if mine && s.flag .PKT_MAC_SWQ_EN m && s.running .queue q && s.get .PKT_Q_PROD_AGENT q == 4 then
    deliverFrame q m (s.rxStamp m f) l s
  else dropFrame m s

/-- A frame that matches receive entry `n`: to its queue, or as a media packet (R228, R233, R236). A pair of queue entries merges frames
that bear an RTP sequence number. -/
def toEntry (m n : Nat) (h : Ipv4) (f : RxFrame) (s : State) : State :=
  let l := f.bytes
  let rtp := h.body + 8
  let isRtp := frameByte l rtp / 64 = 2 ∧ rtp + 12 ≤ l.length
  let q := be16 l (rtp + 2)
  if s.get .PKT_RX_KIND n = 7 then
    let deliver := fun (s : State) => deliverFrame (s.get .PKT_RX_TARGET n) m (s.rxStamp m f) l s
    let s := rxRecovered n s
    if s.paired n ∧ isRtp then mergeCopy n q deliver s else deliver s
  else if isRtp then mediaPacket n (if s.get .PKT_RX_KIND n = 1 then 65536 * be16 (rtpPayload l h) 0 + q else q) f h s
  else s

/-- A fragment of a datagram addressed to a receive entry (R227): its first part shows the port, the others only the address. -/
def State.streamFragment (s : State) (m : Nat) (l : List Byte) : Bool :=
  match ipv4Of l with
  | none => false
  | some h => h.fragment && h.good && h.proto == 17 && s.rxEntries.any (fun n =>
      s.get .PKT_RX_MAC n == m && s.get .PKT_RX_DST_IP n == h.dst
        && (be16 l (h.off + 6) % 8192 != 0 || s.get .PKT_RX_DST_PORT n == be16 l (h.body + 2))
        && (!s.flag .PKT_RX_SRC_MATCH n || s.get .PKT_RX_SRC_IP n == h.src))

/-- Steps 3 to 5 of R228. -/
def classifyFrame (m : Nat) (f : RxFrame) (s : State) : State :=
  match ipv4Of f.bytes with
  | some h =>
    if h.proto = 17 ∧ h.good ∧ !h.fragment ∧ udpGood f.bytes h then
      match s.rxMatch m f.bytes h with
      | some n => toEntry m n h f s
      | none => toSoftware m f s
    else toSoftware m f s
  | none => toSoftware m f s

/-- A pause of `quanta` begins, is reloaded, or ends at once (R264). -/
def pausePort (m quanta : Nat) (s : State) : State :=
  let s := macCause m 3 (s.bump .PKT_MAC_PAUSE_RX m)
  if s.flag .PKT_MAC_CTRL_PAUSE_RX_EN m then
    (s.put .PKT_PAUSE_QUANTA m quanta).putFlag .PKT_MAC_STAT_PAUSED m (quanta != 0)
  else s

/-- A PFC frame pauses each enabled class that it names with that class's time (R265). -/
def pauseClasses (m vector : Nat) (times : List Nat) (s : State) : State :=
  forAll (List.range 8) (fun t s =>
    if bitsAt vector t 1 = 1 ∧ bitsAt (s.get .PKT_MAC_CTRL_PFC_EN m) t 1 = 1 then
      let q := times.getD t 0
      let old := s.get .PKT_MAC_STAT_PFC_PAUSED m
      let rest := old - (if bitsAt old t 1 = 1 then 2 ^ t else 0)
      (s.put .PKT_PFC_QUANTA (8 * m + t) q).put .PKT_MAC_STAT_PFC_PAUSED m (rest + (if q = 0 then 0 else 2 ^ t))
    else s) (macCause m 3 (s.bump .PKT_MAC_PFC_RX m))

/-- A MAC control frame (R228, R264, R265, R267). -/
def controlFrame (m o : Nat) (l : List Byte) (s : State) : State :=
  if be16 l o = 0x0001 then pausePort m (be16 l (o + 2)) s
  else if be16 l o = 0x0101 then
    pauseClasses m (be16 l (o + 2) % 256) ((List.range 8).map (fun t => be16 l (o + 4 + 2 * t))) s
  else dropFrame m s

/-- A PTP message (R284). -/
def ptpFrame (m : Nat) (f : RxFrame) (s : State) : State :=
  let q := s.get .TIM_MAC_CTRL_PTPQ m
  if s.flag .TIM_MAC_CTRL_PTPQ_EN m then
    deliverFrame q m (s.rxStamp m f) f.bytes s
  else classifyFrame m f s

/-- A frame that passed the FCS (R227, R228). -/
def goodFrame (m : Nat) (f : RxFrame) (s : State) : State :=
  let l := f.bytes
  let e := etherType l
  if l.length + 4 < 64 ∨ s.get .PKT_MAC_CTRL_MAX_FRAME m < l.length + 4 ∨ 2 ≤ e.2 ∨ s.streamFragment m l then dropFrame m s
  else
    let s := s.bump .PKT_MAC_RX_FRAMES m
    match ptpOf l with
    | some _ => ptpFrame m f s
    | none => if be16 l e.1 = 0x8808 then controlFrame m (e.1 + 2) l s else classifyFrame m f s

/-- FRAME_RECEIVED (R225, R227, R228): on a MAC that exists and whose lane delivers. -/
def execFrameReceived (m : Nat) (f : RxFrame) (s : State) : Outcome State Fault Refusal :=
  .next (onlyIf (s.macUp m) (fun s =>
    if f.fcsGood then goodFrame m f s else macCause m 2 (s.bump .PKT_MAC_RX_FCS_ERR m)) s)

/-- PAUSE_FRAME: a valid PAUSE frame (R264). -/
def execPauseFrame (m quanta : Nat) (s : State) : Outcome State Fault Refusal :=
  .next (onlyIf (s.macUp m) (fun s => pausePort m quanta (s.bump .PKT_MAC_RX_FRAMES m)) s)

/-- PFC_FRAME: a valid frame with its class-enable vector and eight times (R265). -/
def execPfcFrame (m vector : Nat) (times : List Nat) (s : State) : Outcome State Fault Refusal :=
  .next (onlyIf (s.macUp m) (fun s => pauseClasses m vector times (s.bump .PKT_MAC_RX_FRAMES m)) s)

/-- PAUSE_EXPIRY: the time of the port's pause, or of a class, is over (R264, R265). -/
def execPauseExpiry (m : Nat) (cls : Option Nat) (s : State) : Outcome State Fault Refusal :=
  .next (match cls with
    | none => (s.put .PKT_MAC_STAT_PAUSED m 0).put .PKT_PAUSE_QUANTA m 0
    | some t =>
      let old := s.get .PKT_MAC_STAT_PFC_PAUSED m
      (s.put .PKT_MAC_STAT_PFC_PAUSED m (old - (if bitsAt old t 1 = 1 then 2 ^ t else 0))).put .PKT_PFC_QUANTA (8 * m + t) 0)

/-- The lane of a MAC changed: LINK follows it, and the entries on the MAC lose their packets (R233, R268). -/
def macLaneChanged (m : Nat) (s : State) : State :=
  let up := s.macUp m
  let s := onlyIf (s.flag .PKT_MAC_STAT_LINK m != up) (fun s => macCause m 0 (s.putFlag .PKT_MAC_STAT_LINK m up)) s
  onlyIf (m < 96 && !s.flag .LAN_STAT_LOCK m) (fun s =>
    forAll (s.rxEntries.filter (fun n => s.get .PKT_RX_MAC n == m)) rxLost s) s

/-! ### Gate lists (R259 to R263) -/

/-- The gate state of MAC `m`. -/
def State.gateOf (s : State) (m : Nat) : GateState := (s.gates.find? (·.mac == m)).getD ⟨m, none, none, (0, 0), (0, 0), 0⟩

/-- Replace the gate state of a MAC and show it in PKT_GCL_STAT. -/
def putGate (g : GateState) (s : State) : State :=
  let idle := g.pending.isNone && g.oper.isNone
  let s := { s with gates := (if idle then [] else [g]) ++ s.gates.filter (fun (x : GateState) => x.mac != g.mac) }
  ((s.putFlag .PKT_GCL_STAT_PENDING g.mac g.pending.isSome).putFlag .PKT_GCL_STAT_RUNNING g.mac g.oper.isSome).put
    .PKT_GCL_STAT_ENTRY g.mac g.entry

/-- First cycle start of a configuration at or after an instant of its time base: whole ns and the fraction (R261). -/
def firstStart (c : GateConf) (now : Nat) : Nat × Nat :=
  let n := if now ≤ c.base then 0 else ((now - c.base) * c.den + c.num - 1) / c.num
  (c.base + n * c.num / c.den, n * c.num % c.den)

/-- The start one cycle later (R261). -/
def nextStart (c : GateConf) (x : Nat × Nat) : Nat × Nat :=
  let acc := x.2 + c.num % c.den
  if c.den ≤ acc then (x.1 + c.num / c.den + 1, acc - c.den) else (x.1 + c.num / c.den, acc)

/-- The time base has reached an exact instant of a configuration (R261). -/
def State.reached (s : State) (c : GateConf) (x : Nat × Nat) : Bool :=
  (x.1 * c.den + x.2) * fracUnit ≤ (s.tb c.tb).total * c.den

/-- The administrative list of MAC `m` as it would be latched (R260). -/
def State.adminConf (s : State) (m : Nat) : GateConf :=
  let es := (List.range (s.get .PKT_GCL_CTRL_LIST_LEN m)).map (fun e =>
    (s.get .PKT_GATE_GATES (1024 * m + e), s.get .PKT_GATE_INTERVAL (1024 * m + e)))
  let sec := s.get .PKT_GCL_BASE_SEC m + 2 ^ 32 * s.get .PKT_GCL_BASE_SEC_HI m
  ⟨es, s.get .PKT_GCL_CYCLE_NUM m, s.get .PKT_GCL_CYCLE_DEN m, sec * 1000000000 + s.get .PKT_GCL_BASE_NS m, s.get .PKT_GCL_EXT m,
    s.get .PKT_GCL_CTRL_TB m⟩

/-- Own codes of a latching (R260). -/
def State.gateCode (s : State) (m : Nat) : Nat :=
  let n := s.get .PKT_GCL_CTRL_LIST_LEN m
  let c := s.adminConf m
  if n = 0 ∨ 1024 < n ∨ c.entries.any (fun e => e.2 < 40) then 0x72
  else if c.den = 0 ∨ c.num < 1000 * c.den then 0x73
  else if (s.gateOf m).pending.isSome then 0x74 else 0

/-- Latch the administrative list as the pending configuration (R260, R261). -/
def latchGates (m : Nat) (s : State) : State :=
  let c := s.adminConf m
  let x := firstStart c (s.tbNs c.tb + (if (s.tb c.tb).frac = 0 then 0 else 1))
  putGate { s.gateOf m with pending := some (c, x.1, x.2) } s

/-- Offset of PKT_GCL_CTRL of MAC `m` (R268). -/
def gclOff (m : Nat) : Nat := 0x410100 + 0x400 * m

/-- Clearing EN opens all gates and discards what is pending (R263). -/
def gatesDisabled (m : Nat) (s : State) : State := putGate ⟨m, none, none, (0, 0), (0, 0), 0⟩ s

/-- The next cycle of the operational list begins: not less than CYCLE_EXT before the pending one's first cycle (R262). -/
def oldBegins (g : GateState) : Bool :=
  match g.oper, g.pending with
  | some o, some (c, x) => ((g.next.1 + c.ext) * o.den + g.next.2) * c.den ≤ (x.1 * c.den + x.2) * o.den
  | _, _ => true

/-- The next cycle of the operational list, once its start is reached (R261, R262). -/
def cycleStart (g : GateState) (s : State) : State :=
  match g.oper with
  | some o => onlyIf (s.reached o g.next && oldBegins g) (putGate { g with cur := g.next, next := nextStart o g.next, entry := 0 }) s
  | none => s

/-- GCL_CYCLE_START (R261, R262): the pending configuration becomes operational at its first cycle start. -/
def execGclCycleStart (m : Nat) (s : State) : Outcome State Fault Refusal :=
  let g := s.gateOf m
  .next (onlyIf (s.running .gcl m) (fun s =>
    match g.pending with
    | some (c, x) =>
      if s.reached c x then notice 283 (putGate ⟨m, none, some c, x, nextStart c x, 0⟩ s) else cycleStart g s
    | none => cycleStart g s) s)

/-- GATE_CHANGE: the next entry of the running cycle begins (R262). -/
def execGateChange (m : Nat) (s : State) : Outcome State Fault Refusal :=
  let g := s.gateOf m
  .next (match g.oper with
    | some c =>
      let t := ((c.entries.take (g.entry + 1)).map (·.2)).sum
      if s.running .gcl m && g.entry + 1 < c.entries.length && s.reached c (g.cur.1 + t, g.cur.2)
          && t * c.den < c.num then
        putGate { g with entry := g.entry + 1 } s
      else s
    | none => s)

/-- Gate `t` of MAC `m` is open (R259, R263). -/
def State.gateOpen (s : State) (m t : Nat) : Bool :=
  let g := s.gateOf m
  match g.oper with
  | some c => !s.running .gcl m || bitsAt ((c.entries[g.entry]?).getD (255, 0)).1 t 1 == 1
  | none => true

/-- GATE_DROP: a frame has waited a whole cycle without a window (R263). -/
def execGateDrop (m : Nat) (s : State) : Outcome State Fault Refusal :=
  .next (onlyIf (s.running .gcl m && (s.gateOf m).oper.isSome)
    (fun s => notice 284 (macCause m 5 (s.bump .PKT_MAC_GATE_DROP m))) s)

/-- A step of a time base cuts the running cycles that it times (R263). -/
def restartGates (tb : Nat) (s : State) : State :=
  forAll s.gates (fun g s => match g.oper with
    | some c =>
      if c.tb = tb then
        let x := firstStart c (s.tbNs tb + (if (s.tb tb).frac = 0 then 0 else 1))
        putGate { g with cur := x, next := x } s
      else s
    | none => s) s

/-- The exact instant at which gate `t` of a list closes in the cycle that begins at `start` and ends at `stop`, in entry `from_` or later
(R262); none where it stays open to the cycle's end. Instants are whole ns and the fraction in 1/DEN. -/
def closesIn (c : GateConf) (t from_ : Nat) (start stop : Nat × Nat) : Option (Nat × Nat) :=
  let begins := fun e => (start.1 + ((c.entries.take e).map (·.2)).sum, start.2)
  (((List.range c.entries.length).filter (fun e => from_ ≤ e && bitsAt ((c.entries[e]?).getD (255, 0)).1 t 1 == 0)).map begins).find?
    (fun x => x.1 * c.den + x.2 < stop.1 * c.den + stop.2)

/-- The instant of `closesIn` in the running cycle or in the next one, as multiples of 1/DEN ns with DEN (R262, R263). -/
def State.gateCloses (s : State) (m t : Nat) : Option (Nat × Nat) :=
  let g := s.gateOf m
  let exact := fun (c : GateConf) (x : Nat × Nat) => (x.1 * c.den + x.2, c.den)
  let running := g.oper.bind (fun c =>
    let later := if oldBegins g then closesIn c t 0 g.next (nextStart c g.next) else none
    ((closesIn c t (g.entry + 1) g.cur g.next).orElse (fun _ => later)).map (exact c))
  match g.pending with
  | none => running
  | some (p, x) =>
    if running.any (fun r => r.1 * p.den < (exact p x).1 * r.2) then running else (closesIn p t 0 x (nextStart p x)).map (exact p)

/-- Gb/s of a MAC (R196). -/
def State.macRate (s : State) (m : Nat) : Nat :=
  match s.txMode m with
  | 0xB => 10
  | 0xE => 100
  | _ => 25

/-- A frame of `len` bytes with its FCS ends, if it starts now, before gate `t` next closes (R263): preamble and start
delimiter are not counted (DEDUCED, log entry 123). -/
def State.fitsWindow (s : State) (m t len : Nat) : Bool :=
  match (s.gateOf m).oper, s.gateCloses m t with
  | some c, some x => (s.tb c.tb).total * s.macRate m * x.2 + 8 * len * fracUnit * x.2 ≤ x.1 * fracUnit * s.macRate m
  | _, _ => true

/-- MAC `m` sends: it exists, and the lanes that carry it send (R200, R220, R225). -/
def State.macSends (s : State) (m : Nat) : Bool := s.running .mac m && s.macExists m && (s.txGroup m).all s.laneCarries

/-- Class of a frame: the PCP of its 802.1Q tag, 0 where it has none (R226). The TC of a transmit entry is held and read back (DEDUCED, log
entry 122). -/
def frameClass (l : List Byte) : Nat := if isTag (be16 l 12) then frameByte l 14 / 32 else 0

/-- A frame with these first bytes and `len` bytes without its FCS may start on MAC `m` (R225, R263 to R266). -/
def State.mayStart (s : State) (m : Nat) (head : List Byte) (len : Nat) : Bool :=
  let t := frameClass head
  s.macSends m && !s.flag .PKT_MAC_STAT_PAUSED m && bitsAt (s.get .PKT_MAC_STAT_PFC_PAUSED m) t 1 == 0 && s.gateOpen m t
    && (!s.running .gcl m || s.fitsWindow m t (len + 4))

/-! ### Header templates (R243, R244) -/

/-- Byte `i` of template `t`. -/
def State.tplByte (s : State) (t i : Nat) : Nat := bitsAt (s.get .PKT_TPL (16 * t + i / 4)) (8 * (i % 4)) 8

/-- HDR_LEN agrees with the flags of template `t`, whose other bits are zero (R243). -/
def State.tplGood (s : State) (t : Nat) : Bool :=
  let f := s.tplByte t 63
  f < 8 && s.tplByte t 62 == 42 + 4 * bitsAt f 0 1 + 12 * bitsAt f 1 1

/-- The header bytes of template `t`. -/
def State.tplHeader (s : State) (t : Nat) : List Byte := (List.range (s.tplByte t 62)).map (fun i => BitVec.ofNat 8 (s.tplByte t i))

/-- Write two bytes of a template, the lower at the even offset `i`. -/
def tplPut16 (t i v : Nat) (s : State) : State :=
  let w := s.get .PKT_TPL (16 * t + i / 4)
  let sh := 8 * (i % 4)
  s.put .PKT_TPL (16 * t + i / 4) (w - bitsAt w sh 16 * 2 ^ sh + v % 65536 * 2 ^ sh)

/-- The header of one packet: lengths, identification, checksums, and the RTP fields (R244). `payload` is what follows the
header, and `sum` the UDP checksum of the packet where the template asks for one. -/
def buildHeader (h : List Byte) (flags ident payloadLen seq ts : Nat) (marker : Bool) (sum : List Byte → Nat) : List Byte :=
  let ip := 14 + 4 * bitsAt flags 0 1
  let udp := ip + 20
  let rtp := udp + 8
  let h := patch (ip + 2) (beBytes 2 (h.length - ip + payloadLen)) h
  let h := patch (ip + 4) (beBytes 2 ident) h
  let h := patch (ip + 10) [0, 0] h
  let h := patch (ip + 10) (beBytes 2 (fold16 (sum16 ((h.drop ip).take 20)))) h
  let h := patch (udp + 4) (beBytes 2 (h.length - udp + payloadLen)) h
  let h := patch (udp + 6) [0, 0] h
  let h := if bitsAt flags 1 1 = 1 then
      patch (rtp + 4) (beBytes 4 ts) (patch (rtp + 2) (beBytes 2 seq)
        (patch (rtp + 1) [BitVec.ofNat 8 (frameByte h (rtp + 1) % 128 + 128 * marker.toNat)] h))
    else h
  if bitsAt flags 2 1 = 1 then patch (udp + 6) (beBytes 2 (sum h)) h else h

/-- UDP checksum of a packet whose payload is known. -/
def sumWith (flags : Nat) (payload h : List Byte) : Nat :=
  let ip := 14 + 4 * bitsAt flags 0 1
  udpChecksum (be32 h (ip + 12)) (be32 h (ip + 16)) (h.drop (ip + 20) ++ payload)

/-- The next identification of a template is taken and written back (R244). -/
def takeIdent (t : Nat) (s : State) : Nat × State :=
  let i := s.tplByte t 60 + 256 * s.tplByte t 61
  (i, tplPut16 t 60 (i + 1) s)

/-! ### Media packets (R237 to R241) -/

/-- The destination or head of a transmit entry is under a loss action (R241). -/
def State.txUnderLoss (s : State) (n : Nat) : Bool :=
  1 ≤ s.get .PKT_TX_KIND n && s.get .PKT_TX_KIND n ≤ 3 && s.flag .ATL_DEST_STAT_LOST (s.get .PKT_TX_TARGET n)

/-- A transmit entry sends (R241). -/
def State.sending (s : State) (n : Nat) : Bool :=
  let p := s.get .PWR_STAT_STATE
  let claim := s.flag .TWN_STAT_CLAIM
  let seamless := s.flag .PKT_TX_TWIN_SEAMLESS n
  s.running .tx n && p != 1 && p != 4 &&
    (if s.get .PKT_TX_KIND n = 7 then true
     else if p = 5 then !seamless && claim
     else if p = 2 && claim then true
     else seamless && !s.txUnderLoss n)

/-- Format that a transmit entry carries. -/
def State.txFormat (s : State) (n : Nat) : Nat :=
  if s.get .PKT_TX_KIND n = 4 then s.get .CMP_HEAD_CTRL_FORMAT (s.get .PKT_TX_TARGET n) else s.get .ATL_DEST_CTRL_FORMAT (s.get .PKT_TX_TARGET n)

/-- Depth that a transmit entry carries. -/
def State.txDepth (s : State) (n : Nat) : Nat :=
  if s.get .PKT_TX_KIND n = 4 then s.get .CMP_HEAD_CTRL_DEPTH (s.get .PKT_TX_TARGET n) else s.get .ATL_DEST_CTRL_DEPTH (s.get .PKT_TX_TARGET n)

/-- LINEs whose content packet `k` of a frame of entry `e` carries. -/
def State.txLines (s : State) (e k : Nat) : List Nat :=
  Config.packetLines (s.get .PKT_TX_KIND e) (s.txFormat e) (s.txDepth e) (s.get .PKT_TX_MAX_PAYLOAD e) k

/-- Packet `k` of a frame of entry `e` is of the second field (R238). -/
def State.txSecond (s : State) (e k : Nat) : Bool :=
  interlaced (s.txFormat e) && Config.secondField (s.txFormat e) ((s.txLines e k).headD 0)

/-- RTP sequence number and timestamp (R238) of packet `k` of frame `n`; of an audio entry, of the packet of index `n`. -/
def State.rtpFields (s : State) (e n k : Nat) : Nat × Nat :=
  let kind := s.get .PKT_TX_KIND e
  let p := framePeriod (s.txFormat e)
  let frameTs := (2 * n + (s.txSecond e k).toNat) * p.1 * 90000 / (2 * p.2) % 2 ^ 32
  let index := n * s.get .PKT_TX_PKTS_PER_FRAME e + k
  if kind = 1 ∨ kind = 4 then (index % 2 ^ 32, frameTs)
  else if kind = 3 then (index % 2 ^ 16, frameTs)
  else if kind = 2 then (index % 2 ^ 16, Config.st2022Clock (s.txFormat e) index % 2 ^ 32)
  else (n % 2 ^ 16, n * s.samplesPerPacket (s.get .PKT_TX_TARGET e) % 2 ^ 32)

/-- Ancillary bytes of a line as it leaves. -/
def LineOut.ancillary : LineOut → List Byte
  | .samples _ anc | .black _ anc => anc
  | .noSource => []

/-- What an output that left is, if it is a line of frame `n` of the unit that entry `e` takes its content from. -/
def State.txLine (s : State) (e n line : Nat) (o : Out) : Option (List Nat × List Byte) :=
  let t := s.get .PKT_TX_TARGET e
  let head := s.get .PKT_TX_KIND e == 4
  match o with
  | .line d f l _ _ w => if !head && d == t && f == n && l == line then some (w.words, w.ancillary) else none
  | .head h f l _ _ xs => if head && h == t && f == n && l == line then some (xs, []) else none
  | _ => none

/-- Payload of packet `k` of frame `n` (R237 to R239), once every line whose content it carries has left; a stream of ST 2110-20 puts the
high half of the sequence number first. -/
def State.videoPayload (s : State) (e n k : Nat) : Option (List Byte) :=
  let kind := s.get .PKT_TX_KIND e
  let high := if kind = 1 ∨ kind = 4 then beBytes 2 ((s.rtpFields e n k).1 / 65536) else []
  ((s.txLines e k).mapM (fun l => (s.out.findSome? (s.txLine e n l)).map (fun x => (l, x.1, x.2)))).map (fun rows =>
    high ++ Config.mediaBytes kind (s.txFormat e) (s.txDepth e) (s.get .PKT_TX_MAX_PAYLOAD e) k rows)

/-- Words that an audio port sent at a sample. -/
def State.audioSent (s : State) (p k : Nat) : Option (List Nat) :=
  s.out.findSome? (fun o => match o with
    | .audio q j _ ws _ => if q = p ∧ j = k then some ws else none
    | _ => none)

/-- Payload of the audio packet of index `n` (R230, R237): L24, or the AES3 subframe words, once its last sample has left. -/
def State.audioPayload (s : State) (e n : Nat) : Option (List Byte) :=
  let t := s.get .PKT_TX_TARGET e
  let count := s.samplesPerPacket t
  let bytes := fun w => if s.get .PKT_TX_KIND e = 5 then beBytes 3 (w / 256) else beBytes 4 (Config.aes3Payload w)
  ((List.range count).mapM (fun j => s.audioSent (272 + t) (n * count + j))).map (fun rows => rows.flatten.flatMap bytes)

/-- Payload of a media packet, none where there is no such packet or its content has not left yet. -/
def State.mediaPayload (s : State) (e n k : Nat) : Option (List Byte) :=
  if 5 ≤ s.get .PKT_TX_KIND e then (if k = 0 then s.audioPayload e n else none)
  else if k < s.get .PKT_TX_PKTS_PER_FRAME e then s.videoPayload e n k else none

/-- Marker of packet `k` of a frame of entry `e` (R238). -/
def State.txMarker (s : State) (e k : Nat) : Bool :=
  Config.mediaMarker (s.get .PKT_TX_KIND e) (s.txFormat e) (s.txDepth e) (s.get .PKT_TX_MAX_PAYLOAD e) k

/-- Payload length, field and marker of packet `k` of a frame of entry `e`; an audio packet is of no second field (R237, R238). -/
def State.packetShape (s : State) (e k : Nat) (body : List Byte) : Nat × Bool × Bool :=
  (body.length, s.get .PKT_TX_KIND e ≤ 4 && s.txSecond e k, s.txMarker e k)

/-- A media packet leaves on a MAC under a template (R237, R244). -/
def sendMedia (m t e n k : Nat) (body : List Byte) (s : State) : State :=
  let kind := s.get .PKT_TX_KIND e
  let flags := s.tplByte t 63
  let i := takeIdent t s
  let r := s.rtpFields e n k
  let marker := s.txMarker e k
  let h := buildHeader (s.tplHeader t) flags i.1 body.length r.1 r.2 marker (sumWith flags body)
  ((i.2.inc .PKT_TX_SENT e).bump .PKT_MAC_TX_FRAMES m).emit (.media m h body r.1 r.2 marker ⟨kind, s.get .PKT_TX_TARGET e, n, k⟩)

/-- MEDIA_PACKET_SEND: packet `k` of frame `n` of transmit entry `e`, or its audio packet of index `n`, leaves on leg A or B (R237 to R239,
R244). `len`, `second` and `last` tell its payload length, its field and its marker; the state decides all three, and what tells another
packet is none that leaves (DESIGN CHOICE, log entry 134). -/
def execMediaPacketSend (e : Nat) (legB : Bool) (n k len : Nat) (second last : Bool) (s : State) : Outcome State Fault Refusal :=
  let m := s.get (if legB then .PKT_TX_MAC_B else .PKT_TX_MAC_A) e
  let t := 2 * e + legB.toNat
  .next (match s.mediaPayload e n k with
    | some body => onlyIf (s.sending e && s.get .PKT_TX_KIND e != 7 && (!legB || s.flag .PKT_TX_DUAL e)
        && s.packetShape e k body == (len, second, last) && s.mayStart m (s.tplHeader t) (s.tplByte t 62 + body.length)) (sendMedia m t e n k body) s
    | none => s)

/-- TX_PACKET_LATE: a media packet has not left 100 µs after its time (R240). -/
def execTxPacketLate (e : Nat) (s : State) : Outcome State Fault Refusal :=
  .next (onlyIf (s.sending e && s.get .PKT_TX_KIND e != 7) (fun s => notice 282 (s.bump .PKT_TX_LATE e)) s)

/-! ### Items that packet transmit takes (R245, R246, R252, R285 to R290) -/

/-- A refusal of an item taken from a queue (R78). -/
def refuseItem (code q : Nat) (s : State) : State := refuse code (wordOf (queueOff q 2)) (.agent 0) s

/-- Packet transmit may begin items of a queue: KIND 7, enabled, the queue names it as consumer and is not being flushed (R254). -/
def State.takesFrom (s : State) (e : Nat) : Bool :=
  let q := s.get .PKT_TX_TARGET e
  s.sending e && s.get .PKT_TX_KIND e == 7 && s.qOpen q && s.get .PKT_Q_CONS_AGENT q == 3

/-- Skip the items at the head of a queue that packet transmit does not take; one with LAUNCH set is logged (R252, R290). -/
def skipForeign (q : Nat) : Nat → State → State
  | 0, s => s
  | fuel + 1, s => match s.qHead q with
    | some it =>
      if itemType it.header = 0x10 ∨ itemType it.header = 0x20 then s
      else skipForeign q fuel (queuePop q (onlyIf (itemLaunch it.header && itemType it.header != 0xFF) (refuseItem 0x84 q) s))
    | none => s

/-- The work of a transmit entry, if it has begun an item. -/
def State.workOf (s : State) (e : Nat) : Option TxWork := s.txWork.find? (·.tx == e)

/-- The words of a large-send item (R245). -/
structure LargeSend where
  addr : Nat
  complete : Bool
  markLast : Bool
  tpl : Nat
  mss : Nat
  len : Nat
  tag : Nat
  cq : Nat
deriving DecidableEq, Repr

/-- Read a large-send item. -/
def largeOf (p : List Nat) : LargeSend :=
  let w := p.getD 1 0
  let x := p.getD 2 0
  ⟨p.getD 0 0, bitsAt w 46 1 == 1, bitsAt w 45 1 == 1, bitsAt w 33 12, bitsAt w 19 14, bitsAt w 0 19, bitsAt x 16 32,
    bitsAt x 0 16⟩

/-- Packet transmit can read `n` bytes at an internal address (R245, R246): memory and the boot ROM, at both ends of the range. Register
space is none of its sources (DESIGN CHOICE, log entry 124). -/
def State.payloadReadable (s : State) (a n : Nat) : Bool :=
  let ok := fun (t : Target) => t.coded || t == .bootRom
  a + n ≤ 2 ^ 48 && (s.memGate (.agent 7) a n false).isNone && (s.memGate (.agent 7) (a + n - 1) 1 false).isNone
    && ok (s.target (.agent 7) a) && ok (s.target (.agent 7) (a + n - 1))

/-- The bytes of a payload (R245). -/
def State.payloadBytes (s : State) (a n : Nat) : List Byte :=
  if s.target (.agent 7) a = .bootRom then (List.range n).map (fun i => Config.romByte (a % 0x40000 + i))
  else Memory.readList s.mem (s.keyOf a) n

/-- An uncorrectable word met at `bad` lies in the payload (R246). -/
def LargeSend.spoilt (l : LargeSend) (bad : Option Nat) : Bool := bad.any (fun a => l.addr ≤ a && a < l.addr + l.len)

/-- Code of a large send, 0 where it is sent (R245, R246, R290). -/
def State.largeCode (s : State) (e : Nat) (h : Nat) (l : LargeSend) (bad : Option Nat) : Nat :=
  let mac := s.get .PKT_TX_MAC_A e
  let hdr := s.tplByte l.tpl 62
  if itemLaunch h then 0x84
  else if l.len = 0 ∨ 262144 < l.len ∨ itemLen h ≠ 3 then 0x6F
  else if !s.tplGood l.tpl then 0x68
  else if l.mss < 64 ∨ s.get .PKT_MAC_CTRL_MAX_FRAME mac < l.mss + hdr + 4 then 0x6F
  else if !s.payloadReadable l.addr l.len || l.spoilt bad then 0x70
  else 0

/-- The packets of a large send, in order, as far as they may start (R245, R263): the state, and how many are still to be sent. -/
def largePackets (e : Nat) (l : LargeSend) : List (List Byte) → State → State × Nat
  | [], s => (s, 0)
  | p :: ps, s =>
    let m := s.get .PKT_TX_MAC_A e
    let flags := s.tplByte l.tpl 63
    let i := takeIdent l.tpl s
    let hdr := s.tplHeader l.tpl
    let rtp := 14 + 4 * bitsAt flags 0 1 + 28
    let q := be16 hdr (rtp + 2)
    let b := buildHeader hdr flags i.1 p.length q (be32 hdr (rtp + 4)) (l.markLast && ps.isEmpty) (sumWith flags p)
    if !s.mayStart m hdr (hdr.length + p.length) then (s, ps.length + 1)
    else
      let s := i.2
      let s := if bitsAt flags 1 1 = 1 then
          let n := (q + 1) % 65536
          tplPut16 l.tpl (rtp + 2) (256 * (n % 256) + n / 256) s
        else s
      largePackets e l ps (((s.inc .PKT_TX_SENT e).bump .PKT_MAC_TX_FRAMES m).emit (.frame m (b ++ p) false))

/-- The completion or departure queue of an item is none that packet transmit may fill (R246, R250, R287): the code, or 0. -/
def State.cqCode (s : State) (cq : Nat) : Nat :=
  if !s.running .queue cq then 0x71 else if s.get .PKT_Q_PROD_AGENT cq ≠ 3 then 0x6E else 0

/-- Code with which a large send is discarded for its completion queue, or 0 (R246, R250). -/
def State.largeDiscard (s : State) (l : LargeSend) : Nat :=
  if !s.running .queue l.cq then 0x71 else if l.complete then s.cqCode l.cq else 0

/-- Packets of the large send that entry `e` has begun leave, after the `sent` that have left (R245). -/
def sendLarge (e : Nat) (l : LargeSend) (sent : Nat) (s : State) : State :=
  let bs := s.payloadBytes l.addr l.len
  let ps := pieces l.mss bs.length bs
  let r := largePackets e l (ps.drop sent) s
  { r.1 with txWork := ⟨e, false, false, ps.length - r.2, r.2, 0⟩ :: r.1.txWork.filter (fun x => x.tx != e) }

/-- LARGE_SEND: packets of the large-send item at the head of the queue of entry `e` leave (R245, R246, R253, R468,
R498). -/
def execLargeSend (x : LargeStep) (s : State) : Outcome State Fault Refusal :=
  let e := x.tx
  let bad := x.bad
  let q := s.get .PKT_TX_TARGET e
  .next (match s.workOf e with
  | some w => match s.qHead q with
    | some it => onlyIf (s.sending e && !w.timed && w.left != 0) (sendLarge e (largeOf it.payload) w.packets) s
    | none => s
  | none =>
    if !s.takesFrom e then s
    else
      let s := skipForeign q (s.qItems q).length s
      match s.qHead q with
      | some it =>
        if itemType it.header ≠ 0x10 then s
        else
          let l := largeOf it.payload
          let c := s.largeCode e it.header l bad
          if s.largeDiscard l ≠ 0 then queuePop q (refuseItem (s.largeDiscard l) q s)
          else if c ≠ 0 then
            let s := onlyIf (c == 0x70 && l.spoilt bad) (eccNote (s.target (.agent 7) (bad.getD 0)) .uncorrectable) s
            { s with txWork := ⟨e, false, false, 0, 0, c⟩ :: s.txWork }
          else if !s.mayStart (s.get .PKT_TX_MAC_A e) (s.tplHeader l.tpl) (s.tplByte l.tpl 62 + min l.mss l.len) then s
          else sendLarge e l 0 s
      | none => s)

/-- LARGE_SEND_COMPLETE (R246). -/
def execLargeSendComplete (e : Nat) (s : State) : Outcome State Fault Refusal :=
  let q := s.get .PKT_TX_TARGET e
  .next (match s.workOf e, s.qHead q with
    | some w, some it =>
      if w.timed || w.left != 0 then s
      else
        let l := largeOf it.payload
        let s := { s with txWork := s.txWork.filter (fun x => x.tx != e) }
        let s := onlyIf l.complete (queuePush l.cq 3 (itemHeader 0x11 1 l.tag) [w.packets % 65536 + 65536 * w.code]) s
        queuePop q (onlyIf (w.code != 0) (notice 286) s)
    | _, _ => s)

/-- The words of a timed-frame item (R285). -/
structure TimedFrame where
  len : Nat
  launch : Bool
  sec : Nat
  ns : Nat
  report : Bool
  corr : Bool
  origin : Bool
  tb : Nat
  ptpOff : Nat
  cq : Nat
  refSec : Nat
  refNs : Nat
  refFrac : Nat
  bytes : List Byte
deriving DecidableEq, Repr

/-- Read a timed-frame item (R285). -/
def timedOf (it : Item) : TimedFrame :=
  let w1 := it.payload.getD 0 0
  let w2 := it.payload.getD 1 0
  let w3 := it.payload.getD 2 0
  let n := bitsAt (itemTag it.header) 16 16
  ⟨n, itemLaunch it.header, w1 / 2 ^ 32, w1 % 2 ^ 32, bitsAt w2 49 1 == 1, bitsAt w2 48 1 == 1, bitsAt w2 47 1 == 1, bitsAt w2 44 3,
    bitsAt w2 16 16, bitsAt w2 0 16, bitsAt w3 48 16, bitsAt w3 16 32, bitsAt w3 0 16,
    ((it.payload.drop 3).flatMap (leBytes 8)).take n⟩

/-- A timed-frame item is malformed (R286). -/
def timedBad (it : Item) (t : TimedFrame) : Bool :=
  itemLen it.header != 3 + (t.len + 7) / 8 || 1000000000 ≤ t.ns || (t.origin && t.len < t.ptpOff + 44)
    || ((t.corr || t.origin) && t.len < t.ptpOff + 16)

/-- Launch time minus now, in 2⁻⁴⁰ ns, seconds compared modulo 2³² (R288). -/
def State.launchDelta (s : State) (t : TimedFrame) : Int :=
  let now := s.tb t.tb
  (toSigned 32 ((t.sec + 2 ^ 32 - now.sec % 2 ^ 32) % 2 ^ 32) * 1000000000 + (t.ns : Int) - (now.ns : Int)) * 2 ^ 40 - (now.frac : Int)

/-- Code that discards a timed frame, 0 where it is held or sent (R286, R288). -/
def State.timedCode (s : State) (e : Nat) (it : Item) (t : TimedFrame) : Nat :=
  let mac := s.get .PKT_TX_MAC_A e
  let unit : Int := 2 ^ 40
  if timedBad it t then 0x85
  else if !s.running .tb t.tb then 0x80
  else if !t.launch then 0
  else if (s.get .TIM_MAC_LAUNCH_HORIZON_MS mac : Int) * 1000000 * unit < s.launchDelta t then 0x86
  else if s.launchDelta t < -((s.get .TIM_MAC_LAUNCH_LATE_US mac : Int) * 1000 * unit) then 0x87
  else 0

/-- Write the departure item of a timed frame (R287). -/
def departureItem (e tag : Nat) (t : TimedFrame) (d : Stamp) (code q : Nat) (s : State) : State :=
  if !t.report then s
  else if s.cqCode t.cq ≠ 0 then refuseItem (s.cqCode t.cq) q s
  else queuePush t.cq 3 (itemHeader 0x22 2 tag)
    [d.sec % 2 ^ 48, d.ns * 2 ^ 32 + d.frac * 2 ^ 16 + 256 * s.get .PKT_TX_MAC_A e + code] s

/-- Discard the timed frame at the head of the queue of entry `e` (R286 to R288). -/
def discardTimed (e code : Nat) (it : Item) (s : State) : State :=
  let q := s.get .PKT_TX_TARGET e
  let t := timedOf it
  let s := { s with txWork := s.txWork.filter (fun x => x.tx != e) }
  let s := tbCause t.tb (if code = 0x85 then 6 else 4) (refuseItem code q s)
  queuePop q (departureItem e (itemTag it.header) t ⟨0, 0, 0⟩ code q s)

/-- TIMED_FRAME: the timed-frame item at the head of the queue of entry `e` is discarded, held or begun (R286, R288). -/
def execTimedFrame (e : Nat) (s : State) : Outcome State Fault Refusal :=
  let q := s.get .PKT_TX_TARGET e
  .next (if !s.takesFrom e || (s.workOf e).isSome then s
  else
    let s := skipForeign q (s.qItems q).length s
    match s.qHead q with
    | some it =>
      if itemType it.header ≠ 0x20 then s
      else
        let t := timedOf it
        let c := s.timedCode e it t
        if c ≠ 0 then discardTimed e c it s
        else { s with txWork := ⟨e, true, t.launch && decide (0 < s.launchDelta t), 0, 1, 0⟩ :: s.txWork }
    | none => s)

/-- LAUNCH_TIME: the time base reaches the launch time of the frame that entry `e` holds (R288). -/
def execLaunchTime (e : Nat) (s : State) : Outcome State Fault Refusal :=
  .next (match s.workOf e, s.qHead (s.get .PKT_TX_TARGET e) with
    | some w, some it =>
      if w.held && s.takesFrom e && decide (s.launchDelta (timedOf it) ≤ 0) then
        { s with txWork := s.txWork.map (fun (x : TxWork) => if x.tx = e then { x with held := false } else x) }
      else s
    | _, _ => s)

/-- The frame with its departure time inserted (R286). -/
def insertDeparture (t : TimedFrame) (d : Stamp) : List Byte :=
  let l := t.bytes
  let o := t.ptpOff
  let field := (l.drop (o + 8)).take 8
  let corr := leNat field.reverse
  let secs := toSigned 16 ((d.sec + 65536 - t.refSec) % 65536)
  let diff : Int := (secs * 1000000000 + (d.ns : Int) - (t.refNs : Int)) * 65536 + (d.frac : Int) - (t.refFrac : Int)
  let add : Int := (if t.origin then (d.frac : Int) else 0) + (if t.corr then diff else 0)
  let l := if t.origin then patch (o + 34) (beBytes 6 d.sec ++ beBytes 4 d.ns) l else l
  let l := if t.origin || t.corr then patch (o + 8) (beBytes 8 (ofSigned 64 ((corr : Int) + add))) l else l
  match ipv4Of l with
  | some h =>
    if h.proto = 17 ∧ be16 l (h.body + 6) ≠ 0 then patch (h.body + 6) (beBytes 2 (udpChecksum h.src h.dst (udpOf l h))) l else l
  | none => l

/-- TIMED_FRAME_DEPARTURE: the frame that entry `e` has begun leaves, `sixteenths` of a tick after the last tick (R286 to
R289). -/
def execTimedFrameDeparture (e sixteenths : Nat) (s : State) : Outcome State Fault Refusal :=
  let q := s.get .PKT_TX_TARGET e
  let m := s.get .PKT_TX_MAC_A e
  .next (match s.workOf e, s.qHead q with
    | some w, some it =>
      let t := timedOf it
      if !w.timed || w.held || !s.sending e || !s.mayStart m t.bytes t.bytes.length then s
      else
        let d := stampOfTime (s.tbAt t.tb sixteenths (toSigned 20 (s.get .TIM_MAC_TX_ADJ m)))
        let s := { s with txWork := s.txWork.filter (fun x => x.tx != e) }
        let s := ((s.inc .PKT_TX_SENT e).bump .PKT_MAC_TX_FRAMES m).emit (.frame m (insertDeparture t d) false)
        queuePop q (departureItem e (itemTag it.header) t d 0 q s)
    | _, _ => s)

/-- Held frames that a backward step moved beyond the horizon are discarded (R289). -/
def recheckHeld (tb : Nat) (s : State) : State :=
  forAll (s.txWork.filter (·.held)) (fun w s =>
    match s.qHead (s.get .PKT_TX_TARGET w.tx) with
    | some it => onlyIf ((timedOf it).tb == tb && s.timedCode w.tx it (timedOf it) == 0x86) (discardTimed w.tx 0x86 it) s
    | none => s) s

/-! ### Steps and ticks of the time bases (R273 to R277) -/

/-- What an applied step or set does beside the value (R88, R263, R276, R289, R292). -/
def tbStepped (n : Nat) (s : State) : State :=
  let s := tbCause n 0 (s.put .TIM_TB_STAT_STEPS n (s.get .TIM_TB_STAT_STEPS n + 1))
  let s := onlyIf (n == 0) (fun s => notice 194 (s.put .ATL_STAT_MISALIGNED 0 1)) s
  let s := forAll (List.range 16) (fun c s =>
    onlyIf (s.running .cap c && s.get .TIM_CAP_CTRL_TB c == n) (·.put .CAP_STEPPED c 1) s) s
  recheckHeld n (restartGates n s)

/-- Apply one step or set. -/
def applyStep (d : StepDue) (s : State) : State :=
  match steppedValue d (s.tb d.tb) with
  | some t => tbStepped d.tb (putTb d.tb t s)
  | none => s

/-- A write of TIM_TB_CMD (R276, R280): accepted whole, or refused whole. -/
def tbCommand (m : Master) (n v : Nat) (s : State) : State :=
  let c := s.tbCmdCode n v
  if c ≠ 0 then refuse c (wordOf (tbOff n 0x10)) m s
  else
    let s := alarmBits n v s
    if bitsAt v 0 2 = 0 then s
    else
      let d := s.adjOf n (bitsAt v 1 1 == 1)
      if s.running .tb n then { s with stepsDue := s.stepsDue ++ [d] } else applyStep d s

/-- A write of TIM_TB_CMD that passes the gate. -/
def tbCmdRow (m : Master) (n v : Nat) (s : State) : State := onlyIf (n < 8) (writeGated m (tbOff n 0x10) (tbCommand m n v)) s

/-- STEP: a write of TIM_TB_CMD with STEP set (R276). -/
def execTbStep (m : Master) (n v : Nat) (s : State) : Outcome State Fault Refusal := .next (tbCmdRow m n (v ||| 1) s)
/-- SET: a write of TIM_TB_CMD with SET set (R276). -/
def execTbSet (m : Master) (n v : Nat) (s : State) : Outcome State Fault Refusal := .next (tbCmdRow m n (v ||| 2) s)
/-- ARM: a write of TIM_TB_CMD with ARM set (R280). -/
def execTbArm (m : Master) (n v : Nat) (s : State) : Outcome State Fault Refusal := .next (tbCmdRow m n (v ||| 4) s)
/-- DISARM: a write of TIM_TB_CMD with DISARM set (R280). -/
def execTbDisarm (m : Master) (n v : Nat) (s : State) : Outcome State Fault Refusal := .next (tbCmdRow m n (v ||| 8) s)

/-- One tick of TBn: the steps that are due, then the increment (R273, R277). -/
def tickTb (n : Nat) (s : State) : State :=
  let s := takeInc n s
  if s.running .tb n then
    putTb n (timeOfTotal ((s.tb n).total + s.tbInc n)) s
  else s

/-- One tick of the 400 MHz clock (R273, R277). -/
def tickAll (s : State) : State :=
  let due := s.stepsDue
  let s := forAll due applyStep { s with stepsDue := [], tick := s.tick + 1 }
  forAll (List.range 8) tickTb s

end Sys2Proof.Machine
end

