-- ==== Sys2Proof/Machine/Cmp.lean ====
section
/-!
DEFINITION. The composition unit: shadows, flips and commits, latch points, fences, look-up table banks, and the lines of the
heads (R425 to R454).
-/
namespace Sys2Proof.Machine

open Host (Outcome)

/-- 100 µs and 50 µs in ticks of 400 MHz. -/
def ticks100us : Nat := 40000
/-- 50 µs. -/
def ticks50us : Nat := 20000

/-- Offset of a register in the window of head `n` (R451). -/
def headOff (n o : Nat) : Nat := 0x1280000 + 0x20000 * n + o

/-- Offset of word `k` of layer `l` of head `n`: tiles 0 to 63, overlays 64 to 71 (R451, R452). -/
def layerOff (n l k : Nat) : Nat := headOff n ((if l < 64 then 0x1000 + 64 * l else 0x2000 + 64 * (l - 64)) + 4 * k)

/-- Layer numbers of a head, in order. -/
def layers : List Nat := List.range 72

/-- Head `n` is fitted (R7, R8, R425). -/
def State.hasHead (s : State) (n : Nat) : Bool := s.variant.hasCmp && n < s.variant.heads

/-- A write to a head's register. -/
def headGated (m : Master) (n off : Nat) (eff : State → State) (s : State) : State := onlyIf (n < 4) (writeGated m off eff) s

/-- Set causes of head `n` (R453). -/
def headCause (n bit cls : Nat) (s : State) : State := setCauses .CMP_HEAD_EVT .CMP_HEAD_EVT_EN n (2 ^ bit) (392 + n) cls s

/-! ### Layers -/

/-- Index of tile `l` of head `n`. -/
def tileIdx (n l : Nat) : Nat := 64 * n + l
/-- Index of overlay layer `l` of head `n`. -/
def ovlIdx (n l : Nat) : Nat := 8 * n + (l - 64)

/-- Shadow words 0 to 3 of a layer. -/
def State.shadowOf (s : State) (n l : Nat) : List Nat := (List.range 4).map (fun k => s.wordAt (layerOff n l k))

/-- Live words 0 to 3 of a layer. -/
def State.liveOf (s : State) (n l : Nat) : List Nat :=
  if l < 64 then [.CMP_TILE_L0, .CMP_TILE_L1, .CMP_TILE_L2, .CMP_TILE_L3].map (fun f => s.get f (tileIdx n l))
  else [.CMP_OVL_L0, .CMP_OVL_L1, .CMP_OVL_L2, .CMP_OVL_L3].map (fun f => s.get f (ovlIdx n l))

/-- EN of a layer's word 0. -/
def layerOn (ws : List Nat) : Bool := bitsAt (ws.getD 0 0) 31 1 == 1

/-- Live enabled layers of a head (LAYERS). -/
def State.liveLayers (s : State) (n : Nat) : Nat := (layers.filter (fun l => layerOn (s.liveOf n l))).length

/-- A flip of a layer is armed. -/
def State.armed (s : State) (n l : Nat) : Bool :=
  if l < 64 then s.flag .CMP_TILE_W8_ARMED (tileIdx n l) else s.flag .CMP_OVL_ARMED (ovlIdx n l)

/-- Set or clear ARMED of a layer. -/
def putArmed (n l : Nat) (b : Bool) (s : State) : State :=
  if l < 64 then s.putFlag .CMP_TILE_W8_ARMED (tileIdx n l) b else s.putFlag .CMP_OVL_ARMED (ovlIdx n l) b

/-- WAIT_FRAMES of a layer. -/
def waitField (l : Nat) : Fld := if l < 64 then .CMP_TILE_WAIT_FRAMES else .CMP_OVL_WAIT_FRAMES

/-- Index of a layer among its kind. -/
def layerIdx (n l : Nat) : Nat := if l < 64 then tileIdx n l else ovlIdx n l

/-- LAST_REASON of a layer. -/
def putLayerReason (n l code : Nat) (s : State) : State :=
  s.put (if l < 64 then .CMP_TILE_W8_LAST_REASON else .CMP_OVL_LAST_REASON) (layerIdx n l) code

/-! ### Sources of tiles (R432, R433, R444) -/

/-- A tile's word 0 names a local input's full picture (KIND 1). -/
def kindOne (w0 : Nat) : Bool := bitsAt w0 30 1 == 1

/-- SOURCE of a tile's word 0. -/
def sourceOf (w0 : Nat) : Nat := bitsAt w0 0 11

/-- Local input that a tile reads: of KIND 1 the one named, of KIND 0 that of a local source. -/
def State.tileInput (s : State) (w0 : Nat) : Option Nat :=
  let src := sourceOf w0
  if kindOne w0 then some src
  else if s.positioned ∧ src < 1152 ∧ homeOf src = s.position then some (src - 96 * s.position) else none

/-- Source number of a tile's picture. -/
def State.tileSource (s : State) (w0 : Nat) : Nat := if kindOne w0 then 96 * s.position + sourceOf w0 else sourceOf w0

/-- Receive stream of a remote sketch (R433). -/
def State.sketchStream (s : State) (src : Nat) : Option RxStream := s.streamFor 1 src (homeOf src) 1

/-- Width and height of a tile's source as the gazetteer states it. -/
def State.tileRaster (s : State) (w0 : Nat) : Nat × Nat := s.rasterOf (if kindOne w0 then 0 else 1) (s.tileSource w0)

/-- An input is fitted and enabled. -/
def State.inputOn (s : State) (i : Nat) : Bool := i < s.variant.mediaLanes && s.running .input i

/-- A tile's source is unusable (0xC4). -/
def State.tileUnusable (s : State) (w0 : Nat) : Bool :=
  (!kindOne w0 && (1152 ≤ sourceOf w0 || !s.flag .GAZ_W0_VALID (1152 + sourceOf w0)))
    || (s.tileInput w0).any (fun i => !s.inputOn i)

/-- A tile's source gives no picture at a latch point (R444), its newest span's age apart. -/
def State.tileNotReady (s : State) (i w0 : Nat) : Bool :=
  let src := sourceOf w0
  s.tileUnusable w0 || (!kindOne w0 && s.flag .GAZ_W0_STALE (1152 + src)) || s.get .CMP_TILE_W8_FAB_REASON i != 0
    || (match s.tileInput w0 with
      | some k => s.flag .ATL_IN_STAT_LOST k
      | none => match s.sketchStream src with
        | some r => !((r.st == 1 || r.st == 3) && 2 ≤ r.spans) || (r.markers.head?).any (·.lost)
        | none => true)

/-- Insert a number in rising order, once. -/
def insertRising (x : Nat) : List Nat → List Nat
  | [] => [x]
  | y :: l => if x < y then x :: y :: l else if x = y then y :: l else y :: insertRising x l

/-- Rows of the newest complete span of a sketch stream, by LINE. -/
def State.sketchRows (s : State) (r : RxStream) : List (List Nat) :=
  match r.lastSpan with
  | none => []
  | some sp =>
    let places := ((r.pieces.filter (fun p => p.span == sp && p.typ == 1)).map (·.line)).foldl (fun l x => insertRising x l) []
    places.filterMap (fun line => (s.readRemote r sp line).samples?)

/-- Rows as 12-bit codes (R429). -/
def codes12 (depth : Nat) (rows : List (List Nat)) : List (List Nat) :=
  if depth = 1 then rows else rows.map (·.map (4 * ·))

/-- The newest complete picture of a tile's source, as 12-bit codes (R432, R433). -/
def State.tileRows (s : State) (w0 : Nat) : List (List Nat) :=
  match s.tileInput w0 with
  | some i => match (s.kept i).find? spanComplete with
    | some v => codes12 v.depth (if kindOne w0 then wovenRows v
        else (sketchSpan (s.get .GAZ_W1_SCALE (1152 + sourceOf w0)) v).lines.map (·.2))
    | none => []
  | none => match s.sketchStream (sourceOf w0) with
    | some r => codes12 (s.get .GAZ_W1_DEPTH r.src) (s.sketchRows r)
    | none => []

/-- Label of a tile's source (R434). -/
def State.tileLabel (s : State) (w0 : Nat) : List Byte :=
  let g := if kindOne w0 then s.tileSource w0 else 1152 + sourceOf w0
  [4, 5, 6, 7].flatMap (fun k => leBytes 4 (s.gazWord g k))

/-! ### Validation (R443) -/

/-- First code of a tile's shadow (R432, R435, R436, R443). -/
def State.tileCode (s : State) (n : Nat) (ws : List Nat) : Nat :=
  let w0 := ws.getD 0 0
  let x := bitsAt (ws.getD 1 0) 0 12
  let y := bitsAt (ws.getD 1 0) 16 12
  let w := bitsAt (ws.getD 2 0) 0 12
  let h := bitsAt (ws.getD 2 0) 16 12
  let r := s.headRaster n
  let src := s.tileRaster w0
  if bitsAt w0 27 2 = 3 then 0x04
  else if r.1 < x + w ∨ r.2 < y + h ∨ w % 2 = 1 ∨ w < 16 ∨ h < 16 then 0xC1
  else if s.tileUnusable w0 then 0xC4
  else if 2048 < src.1 then 0xC3
  else if 16 * w < src.1 ∨ 8 * src.1 < w ∨ 16 * h < src.2 ∨ 8 * src.2 < h then 0xC2
  else 0

/-- An address lies in a fitted HBM stack (R438). -/
def State.inHbm (s : State) (a : Nat) : Bool :=
  match s.target (.agent 7) a with
  | .hbm k _ => s.hasStack k
  | _ => false

/-- First code of an overlay's shadow (R438, R443). -/
def State.ovlCode (s : State) (n : Nat) (ws : List Nat) : Nat :=
  let r := s.headRaster n
  let base := ovlBase ws
  let pitch := ovlPitch ws
  if base % 64 ≠ 0 ∨ pitch < 4 * r.1 ∨ !s.inHbm base ∨ !s.inHbm (base + (r.2 - 1) * pitch + 4 * r.1 - 1) then 0xC8 else 0

/-- First code of a layer's shadow; a layer being disabled is never refused (R443). -/
def State.layerCode (s : State) (n l : Nat) : Nat :=
  let ws := s.shadowOf n l
  if !layerOn ws then 0 else if l < 64 then s.tileCode n ws else s.ovlCode n ws

/-- A flip of the layer's shadow would make a 17th layer live (R439). -/
def State.seventeenth (s : State) (n l : Nat) : Bool :=
  layerOn (s.shadowOf n l) && !layerOn (s.liveOf n l) && 16 ≤ s.liveLayers n

/-- Code of an ARM (R442, R443). -/
def State.armCode (s : State) (n l : Nat) : Nat :=
  if !s.flag .CMP_HEAD_CTRL_FENCED n then 0xC7
  else if s.armed n l || s.flag .CMP_HEAD_STAT_PENDING n then 0xC6
  else if s.seventeenth n l then 0xC5 else s.layerCode n l

/-- LAYER_ARM: a write of CMP_LYR_FLIP of layer `l` with ARM 1 (R439, R443). -/
def execLayerArm (m : Master) (n l v : Nat) (s : State) : Outcome State Fault Refusal :=
  let off := layerOff n l 10
  .next (onlyIf (l < 72) (headGated m n off (fun s =>
    let code := s.armCode n l
    let s := putLayerReason n l code (s.put .CMP_HEAD_STAT_LAST_REASON n code)
    if code ≠ 0 then refuse code (wordOf off) m s
    else ((((putArmed n l true s).put .CMP_FLIP_FENCE (72 * n + l) (bitsAt v 16 4)).put .CMP_FLIP_VALUE (72 * n + l)
      (bitsAt v 0 16)).put .CMP_FLIP_MASTER (72 * n + l) m.refuseCode).put (waitField l) (layerIdx n l) 0)) s)

/-- LAYER_CANCEL: a write of CMP_LYR_FLIP with CANCEL 1 (R439). -/
def execLayerCancel (m : Master) (n l : Nat) (s : State) : Outcome State Fault Refusal :=
  .next (onlyIf (l < 72) (headGated m n (layerOff n l 10) (putArmed n l false)) s)

/-- Code of a GO (R442, R443). -/
def State.goCode (s : State) (n : Nat) : Nat :=
  if s.flag .CMP_HEAD_CTRL_FENCED n then 0xC7
  else if s.flag .CMP_HEAD_STAT_PENDING n then 0xC6
  else firstCode (layers.map (s.layerCode n))

/-- HEAD_COMMIT: a write of CMP_HEAD_COMMIT with GO 1 (R441, R443). -/
def execHeadCommit (m : Master) (n : Nat) (s : State) : Outcome State Fault Refusal :=
  let off := headOff n 0x14
  .next (headGated m n off (fun s =>
    let code := s.goCode n
    let s := s.put .CMP_HEAD_STAT_LAST_REASON n code
    if code ≠ 0 then refuse code (wordOf off) m s
    else (s.put .CMP_HEAD_STAT_PENDING n 1).put .CMP_COMMIT_TICK n s.tick) s)

/-- HEAD_CANCEL: a write of CMP_HEAD_COMMIT with CANCEL 1 (R441). -/
def execHeadCancel (m : Master) (n : Nat) (s : State) : Outcome State Fault Refusal :=
  .next (headGated m n (headOff n 0x14) (·.put .CMP_HEAD_STAT_PENDING n 0) s)

/-! ### Fences (R440) -/

/-- FENCE_SIGNAL: a write of CMP_FENCE_SIGNAL. -/
def execFenceSignal (m : Master) (n v : Nat) (s : State) : Outcome State Fault Refusal :=
  .next (headGated m n (headOff n 0x28) (·.put .CMP_FENCE (16 * n + bitsAt v 16 4) (bitsAt v 0 16)) s)

/-- An item sets a fence: TYPE 0x40, LEN 0 (R440). -/
def isFenceItem (h : Nat) : Bool := itemType h == 0x40 && itemLen h == 0

/-- Skip the items at the head of a fence queue that set no fence (R252). -/
def skipToFence (q : Nat) : Nat → State → State
  | 0, s => s
  | fuel + 1, s => match s.qHead q with
    | some it => if isFenceItem it.header then s else skipToFence q fuel (queuePop q s)
    | none => s

/-- FENCE_ITEM: the next fence item of head `n`'s fence queue is taken (R252, R440). -/
def execFenceItem (n : Nat) (s : State) : Outcome State Fault Refusal :=
  let q := s.get .CMP_HEAD_FQ_QUEUE n
  .next (onlyIf (s.running .head n && s.flag .CMP_HEAD_FQ_FQ_EN n && s.qOpen q && s.get .PKT_Q_CONS_AGENT q == 7) (fun s =>
    let s := skipToFence q (s.qOccupancy q) s
    match s.qHead q with
    | some it =>
      let tag := itemTag it.header
      queuePop q (s.put .CMP_FENCE (16 * n + bitsAt tag 16 4) (bitsAt tag 0 16))
    | none => s) s)

/-! ### Look-up tables (R431) -/

/-- LUTSEL_WRITE: a write of CMP_HEAD_LUTSEL. -/
def execLutselWrite (m : Master) (n v : Nat) (s : State) : Outcome State Fault Refusal :=
  .next (headGated m n (headOff n 0x18) (fun s =>
    ((writeWord m (headOff n 0x18) v s).put .CMP_LUT_TICK n s.tick).put .CMP_LUT_PENDING n 1) s)

/-- LUT (0 PRE_V, 1 PRE_G, 2 POST) and bank of an offset in a head's window (R451). -/
def lutOf (o : Nat) : Option (Nat × Nat) :=
  if 0x4000 ≤ o ∧ o < 0x7000 then some (0, (o - 0x4000) / 0x1800)
  else if 0x7000 ≤ o ∧ o < 0xA000 then some (1, (o - 0x7000) / 0x1800)
  else if 0xA000 ≤ o ∧ o < 0x16000 then some (2, (o - 0xA000) / 0x6000) else none

/-- A bank is in use, or a pending selection will bring it into use (R431). -/
def State.bankBusy (s : State) (n lut bank : Nat) : Bool :=
  bitsAt (s.get .CMP_HEAD_LUTSEL_IN_USE n) lut 1 == bank
    || (s.flag .CMP_LUT_PENDING n && bitsAt (s.get .CMP_HEAD_LUTSEL_SEL n) lut 1 == bank)

/-- LUT_WRITE: a write of the LUT entry word at `o` in the window of head `n` (R431). -/
def execLutWrite (m : Master) (n o v : Nat) (s : State) : Outcome State Fault Refusal :=
  .next (match lutOf o with
    | none => s
    | some b => headGated m n (headOff n o) (fun s =>
        if s.bankBusy n b.1 b.2 then refuse 0xC9 (wordOf (headOff n o)) m s else writeWord m (headOff n o) v s) s)

/-! ### Shadow writes (R433, R442) -/

/-- Offset of a shadow word in a head's window (R451, R452). -/
def shadowOff (n : Nat) : Shadow → Nat
  | .layer l k => layerOff n l k
  | .colour c => headOff n (if c = 0 then 0x10 else 0x30 + 4 * (c - 1))

/-- The shadow word exists. -/
def shadowValid : Shadow → Bool
  | .layer l k => l < 72 && k < 4
  | .colour c => c < 5

/-- A tile's shadow with EN 1 names a sketch: a remote one is requested (R433; DEDUCED, log entry 132). -/
def requestTile (n l : Nat) (s : State) : State :=
  let w0 := s.wordAt (layerOff n l 0)
  let src := sourceOf w0
  let s := s.put .CMP_TILE_W8_FAB_REASON (tileIdx n l) 0
  onlyIf (layerOn [w0] && !kindOne w0 && s.isRemote src && s.canRequest) (requestStream 1 src (homeOf src) 1 0 .shared) s

/-- SHADOW_WRITE (R433, R439, R442). -/
def execShadowWrite (m : Master) (n : Nat) (w : Shadow) (v : Nat) (s : State) : Outcome State Fault Refusal :=
  .next (onlyIf (shadowValid w) (headGated m n (shadowOff n w) (fun s =>
    let busy := s.flag .CMP_HEAD_STAT_PENDING n || (match w with
      | .layer l _ => s.armed n l
      | .colour _ => false)
    if busy then refuse 0xC6 (wordOf (shadowOff n w)) m s
    else
      let s := writeWord m (shadowOff n w) v s
      match w with
      | .layer l k => onlyIf (l < 64 && k == 0) (requestTile n l) s
      | .colour c => s.put .CMP_BG_TICK (5 * n + c) s.tick)) s)

/-! ### Latch points (R426, R431, R437, R439, R441, R444, R445, R448) -/

/-- The evacuation slide comes or goes at the first latch point 100 µs after the change (R448). -/
def latchSlide (n : Nat) (s : State) : State :=
  let wait := s.flag .CMP_EVAC_WAIT
  onlyIf (s.flag .CMP_HEAD_STAT_EVAC n != wait && s.get .CMP_EVAC_TICK + ticks100us ≤ s.tick)
    (fun s => notice 396 (s.putFlag .CMP_HEAD_STAT_EVAC n wait)) s

/-- A bank selection takes effect (R431). -/
def latchBanks (n : Nat) (s : State) : State :=
  onlyIf (s.flag .CMP_LUT_PENDING n && s.get .CMP_LUT_TICK n + ticks50us ≤ s.tick)
    (fun s => (s.put .CMP_HEAD_LUTSEL_IN_USE n (s.get .CMP_HEAD_LUTSEL_SEL n)).put .CMP_LUT_PENDING n 0) s

/-- Make colour `c` of head `n` live: the background (0) or a tally colour (1 + e). -/
def colourLive (n c : Nat) (s : State) : State :=
  if c = 0 then s.put .CMP_BG_LIVE n (s.get .CMP_HEAD_BG n)
  else s.put .CMP_TALLY_LIVE (4 * n + (c - 1)) (s.get .CMP_HEAD_TALLY (4 * n + (c - 1)))

/-- Make a layer's shadow live; a tile whose sketch changes keeps the old stream for now (R433). -/
def layerLive (n l : Nat) (s : State) : State :=
  let ws := s.shadowOf n l
  let w := fun k => ws.getD k 0
  if l < 64 then
    let i := tileIdx n l
    let old := s.get .CMP_TILE_L0 i
    let keeps := layerOn [old] && !kindOne old && s.isRemote (sourceOf old) && (!layerOn ws || sourceOf old != sourceOf (w 0) || kindOne (w 0))
    let s := onlyIf (keeps && layerOn ws) (·.put .CMP_TILE_OLD i (sourceOf old + 1)) s
    (((s.put .CMP_TILE_L0 i (w 0)).put .CMP_TILE_L1 i (w 1)).put .CMP_TILE_L2 i (w 2)).put .CMP_TILE_L3 i (w 3)
  else
    let i := ovlIdx n l
    (((s.put .CMP_OVL_L0 i (w 0)).put .CMP_OVL_L1 i (w 1)).put .CMP_OVL_L2 i (w 2)).put .CMP_OVL_L3 i (w 3)

/-- The whole-head commit takes effect (R441). -/
def latchCommit (n : Nat) (s : State) : State :=
  onlyIf (s.flag .CMP_HEAD_STAT_PENDING n && s.get .CMP_COMMIT_TICK n + ticks50us ≤ s.tick) (fun s =>
    let s := forAll layers (layerLive n) (forAll (List.range 5) (colourLive n) s)
    headCause n 4 0 (s.put .CMP_HEAD_STAT_PENDING n 0)) s

/-- A fence counter has reached a value (R439). -/
def reached (counter value : Nat) : Bool := (counter + 65536 - value % 65536) % 65536 < 32768

/-- An armed layer at a latch point (R439); a flip that would make a 17th layer live is refused, under the write that armed it (R443,
R78). -/
def latchFlip (n l : Nat) (s : State) : State :=
  let f := s.get .CMP_FLIP_FENCE (72 * n + l)
  if !s.armed n l then s
  else if !reached (s.get .CMP_FENCE (16 * n + f)) (s.get .CMP_FLIP_VALUE (72 * n + l)) then s.bump (waitField l) (layerIdx n l)
  else if s.seventeenth n l then
    refuse 0xC5 (wordOf (layerOff n l 10)) (masterOf (s.get .CMP_FLIP_MASTER (72 * n + l))) (putLayerReason n l 0xC5 ((putArmed n l false s).put .CMP_HEAD_STAT_LAST_REASON n 0xC5))
  else headCause n 4 0 (layerLive n l (putArmed n l false s))

/-- Shadows become live as FENCED says (R439, R441). -/
def latchShadows (n : Nat) (s : State) : State :=
  if s.flag .CMP_HEAD_CTRL_FENCED n then
    let s := forAll (List.range 5) (fun c s => onlyIf (s.get .CMP_BG_TICK (5 * n + c) + ticks50us ≤ s.tick) (colourLive n c) s) s
    forAll layers (latchFlip n) s
  else latchCommit n s

/-- Enter or leave fallback (R445). -/
def putFallback (n l : Nat) (b : Bool) (s : State) : State :=
  onlyIf (s.flag .CMP_TILE_W8_FALLBACK_ON (tileIdx n l) != b)
    (fun s => headCause n 0 0 (s.putFlag .CMP_TILE_W8_FALLBACK_ON (tileIdx n l) b)) s

/-- A tile that misses (R444, R445). -/
def tileMiss (n l : Nat) (s : State) : State :=
  let i := tileIdx n l
  let s := headCause n 5 0 (((s.put .CMP_TILE_W8_READY i 0).bump .CMP_TILE_W8_MISSES i).bump .CMP_TILE_MISS_TOTAL i)
  let limit := s.get .CMP_HEAD_CTRL_MISS_LIMIT n
  let shown := s.tilePics.any (·.tile == i)
  onlyIf (!shown || (limit != 0 && limit < s.get .CMP_TILE_W8_MISSES i))
    (fun s => (putFallback n l true s).put .CMP_TILE_OLD i 0) s

/-- Pre-decimation follows the width of the source (R437). -/
def putPredec (n l : Nat) (b : Bool) (s : State) : State :=
  onlyIf (s.flag .CMP_TILE_W8_PREDEC (tileIdx n l) != b)
    (fun s => headCause n 1 0 (s.putFlag .CMP_TILE_W8_PREDEC (tileIdx n l) b)) s

/-- A tile that is ready shows the newest complete picture of its source (R432, R437, R445). -/
def tileReady (n l w0 : Nat) (rows : List (List Nat)) (s : State) : State :=
  let i := tileIdx n l
  let wide := 4096 < (rows.headD []).length && kindOne w0
  let pic : TilePic := ⟨i, if wide then rows.map predecRow else rows⟩
  let s := { s with tilePics := pic :: s.tilePics.filter (fun p => p.tile != i) }
  let s := ((s.put .CMP_TILE_W8_READY i 1).put .CMP_TILE_W8_MISSES i 0).put .CMP_TILE_OLD i 0
  putPredec n l wide (putFallback n l false s)

/-- A tile at a latch point; `aged` lists the tiles whose newest complete span is older than R444 allows. -/
def latchTile (n : Nat) (aged : List Nat) (l : Nat) (s : State) : State :=
  let i := tileIdx n l
  let w0 := s.get .CMP_TILE_L0 i
  if !layerOn [w0] then
    ((s.put .CMP_TILE_W8_READY i 0).put .CMP_TILE_W8_MISSES i 0).put .CMP_TILE_W8_FALLBACK_ON i 0 |>.put .CMP_TILE_W8_PREDEC i 0
  else
    let rows := s.tileRows w0
    if s.tileNotReady i w0 || aged.contains l || rows.isEmpty then tileMiss n l s else tileReady n l w0 rows s

/-- A tile as the head composes it for the coming frame. -/
def State.headTile (s : State) (n l : Nat) : HeadTile :=
  let i := tileIdx n l
  let ws := s.liveOf n l
  ⟨l, ws, s.flag .CMP_TILE_W8_FALLBACK_ON i, ((s.tilePics.find? (·.tile == i)).map (·.rows)).getD [], s.tileLabel (ws.getD 0 0)⟩

/-- What head `n` latches for a frame (R426). -/
def State.shotOf (s : State) (n frame : Nat) : HeadShot :=
  { head := n, frame := frame, bg := s.get .CMP_BG_LIVE n
    tally := (List.range 4).map (fun e => s.get .CMP_TALLY_LIVE (4 * n + e))
    banks := s.get .CMP_HEAD_LUTSEL_IN_USE n, evac := s.flag .CMP_HEAD_STAT_EVAC n
    tiles := ((List.range 64).filter (fun l => layerOn (s.liveOf n l))).map (s.headTile n)
    ovls := (((List.range 8).map (· + 64)).filter (fun l => layerOn (s.liveOf n l))).map (fun l => (l - 64, s.liveOf n l)) }

/-- A head composes: it and the composition unit run, and the device is not Quiet (R427, R451). -/
def State.headRuns (s : State) (n : Nat) : Bool := s.running .cmp && s.running .head n && !s.inQuiet

/-- LATCH_POINT of frame `frame` of head `n` (R426). -/
def execLatchPoint (n frame : Nat) (aged : List Nat) (s : State) : Outcome State Fault Refusal :=
  .next (onlyIf (s.headRuns n) (fun s =>
    let s := latchShadows n (latchBanks n (latchSlide n s))
    let s := forAll (List.range 64) (latchTile n aged) s
    let mine := (s.shots.filter (fun h => h.head == n)).take 1
    { s with shots := s.shotOf n frame :: mine ++ s.shots.filter (fun h => h.head != n) }) s)

/-! ### Lines that leave (R95, R426, R438) -/

/-- An overlay line whose read failed (R438): counted, cause FETCH; an uncorrectable word is recorded at its stack (R498). -/
def fetchFault (n o : Nat) (bad : Option Nat) (s : State) : State :=
  let s := match bad with
    | some a => eccNote (s.target (.agent 7) a) .uncorrectable s
    | none => s
  headCause n 3 2 (s.bump .CMP_OVL_FETCH_FAULTS (8 * n + o))

/-- A line of head `n` leaves, composed from what was latched for its frame (R426). -/
def headDeparture (n frame line : Nat) (failed : List (Nat × Option Nat)) (s : State) : State :=
  match s.shots.find? (fun h => h.head == n && h.frame == frame) with
  | none => s
  | some h =>
    if !s.headRuns n then s
    else
      let f := s.get .CMP_HEAD_CTRL_FORMAT n
      let active := Config.activeLine f line
      let bad := failed.filter (fun x => active && h.ovls.any (fun o => o.1 == x.1))
      let s := forAll bad (fun x s => fetchFault n x.1 x.2 s) s
      let row := if active then s.headRow h (bad.map (·.1)) (rowOfLine f line) else []
      s.emit (.head n frame line (s.flag .TWN_STAT_DRIVING) (s.sdiLines 2 n f line row) row)

/-- LINE_DEPARTURE: a line of a destination or of a head leaves (R95, R426). -/
def execLineDeparture (x : Departure) (s : State) : Outcome State Fault Refusal :=
  .next (match x with
    | .dest d n line live => destDeparture d n line live s
    | .head n frame line failed => headDeparture n frame line failed s)

/-! ### Enabling, and the legend assets (R425, R427, R435, R440, R446, R449, R451) -/

/-- The taps of every phase of a head sum to 256 (R435). -/
def State.tapsGood (s : State) (n : Nat) : Bool :=
  (List.range 32).all (fun p => ((List.range 8).map (s.hTap n p)).sum == 256 && ((List.range 4).map (s.vTap n p)).sum == 256)

/-- A head's own codes (R451): 0xC0, 0xCC, 0xCB. -/
def State.headOwnCode (s : State) (n : Nat) : Nat :=
  let f := s.get .CMP_HEAD_CTRL_FORMAT n
  let d := s.get .CMP_HEAD_CTRL_DEPTH n
  let q := s.get .CMP_HEAD_FQ_QUEUE n
  if !formatValid f || interlaced f then 0xC0
  else if (List.range 96).any (fun k => s.txBoundTo k 2 n && !modeCarries (s.txMode k) (s.flag .LAN_BIND_TX_QUAD k) f d) then 0xCC
  else if s.flag .CMP_HEAD_FQ_FQ_EN n && (!s.running .queue q || s.get .PKT_Q_CONS_AGENT q != 7) then 0xCB
  else 0

/-- The legend of head `n` as its enable is accepted (R449): an invalid image is a fault, which refuses nothing. -/
def judgeLegend (n : Nat) (s : State) : State :=
  let s := s.putFlag .CMP_HEAD_STAT_ROM_SLIDE n (s.legendFor true n).isNone
  onlyIf (s.legendBad n) (fun s => notice 397 (s.put .CMP_LEGEND_STAT_FAULT 0 1)) s

/-- The legend assets at hand-over (R446, R449). -/
def placeLegend (s : State) : State :=
  let p := s.sectionOf 0x000A
  let s := (s.putFlag .CMP_LEGEND_STAT_DEFAULT 0 p.isNone).put .CMP_LEGEND_STAT_VERSION 0 ((p.map (·.version)).getD 0)
  forAll (List.range 4) (fun n s => s.putFlag .CMP_HEAD_STAT_ROM_SLIDE n
    (s.hasHead n && p.all (fun x => legendByte x.bytes true n == 0xFF))) s

/-- A head is disabled: what it latched is gone. -/
def headDisabled (n : Nat) (s : State) : State :=
  { s with shots := s.shots.filter (fun h => h.head != n) }.put .CMP_HEAD_STAT_EVAC n 0

/-- While the override is in force, a unit whose enable bit it holds (R450). -/
def State.overrideHolds (s : State) (u : UnitId) : Bool :=
  let headOn := fun n => n < 4 && s.running .head n
  s.flag .CMP_LEGEND_STAT_ACTIVE && (match u.kind with
    | .cmp => true
    | .head => headOn u.idx
    | .lane => u.idx < 96 && s.get .LAN_BIND_TX_KIND u.idx == 2 && headOn (s.get .LAN_BIND_TX_TARGET u.idx)
    | .tx => s.get .PKT_TX_KIND u.idx == 4 && headOn (s.get .PKT_TX_TARGET u.idx)
    | _ => false)

end Sys2Proof.Machine
end

