-- ==== Sys2Proof/Machine/Reference.lean ====
section
/-!
DEFINITION. The reference unit: candidates, selection, dawn to midnight, the oscillator model and its learning (R297 to
R332). Frequencies are in units of 10⁻⁶ ppb, signed.
-/
namespace Sys2Proof.Machine

open Host (Outcome)

/-- A field read as a signed number. -/
def State.int (s : State) (f : Fld) (i : Nat := 0) : Int := toSigned f.info.w (s.get f i)

/-- Write a signed number to a field. -/
def State.putInt (s : State) (f : Fld) (i : Nat) (x : Int) : State := s.put f i (ofSigned f.info.w x)

/-- 1 ppb. -/
def ppb : Int := 1000000

/-! ### The house clocks (R297, R298) -/

/-- Members of the house clock family but the tick, and their nominal frequencies as fractions in Hz (R297). -/
inductive HouseClock where
  | audio | sdi1 | sdiM | madi | eth10 | eth25 | dunbin
deriving DecidableEq, Repr

/-- Nominal frequency of a member (R297). -/
def HouseClock.nominal : HouseClock → Nat × Nat
  | .audio => (24576000, 1)
  | .sdi1 => (148500000, 1)
  | .sdiM => (148500000000, 1001)
  | .madi => (125000000, 1)
  | .eth10 => (156250000, 1)
  | .eth25 => (322265625, 2)
  | .dunbin => (351562500, 2)

/-- The member that a transmit family is made from (R196, R297): families as LAN_QUAD_STAT.FAMILY codes them. -/
def houseClockOf (family : Nat) : Option HouseClock :=
  match family with
  | 1 => some .sdi1
  | 2 => some .sdiM
  | 3 => some .madi
  | 4 => some .eth10
  | 5 => some .eth25
  | 6 => some .dunbin
  | _ => none

/-- INC0 as the rate stage follows it: within 100 ppm of nominal (R297, R298). -/
def State.stageInc0 (s : State) : Int := 0x028000000000 + clampInt (-(0x028000000000 / 10000)) (0x028000000000 / 10000) s.incExcess

/-- Ratio of the cleaned output, and of the tick, to the oscillator: 1 + K (R297). Numerator over 10^15. -/
def State.cleaned (s : State) : Int := 10 ^ 15 + s.int .REF_K

/-- Ratio of a member's frequency to nominal, as counted by the oscillator (R297): numerator and denominator. -/
def State.houseRatio (s : State) : Int × Int := (s.cleaned * s.stageInc0, 10 ^ 15 * 0x028000000000)

/-! ### The image's sections (R301, R302, R326) -/

/-- A signed little-endian field of a section. -/
def sAt (bs : List Byte) (o n : Nat) : Int := toSigned (8 * n) (leAt bs o n)

/-- The reference table, where the image holds one. -/
def State.refTable (s : State) : List Byte := (s.sectionBytes 3).getD []
/-- The oscillator model section, where the image holds one. -/
def State.oscModel (s : State) : List Byte := (s.sectionBytes 2).getD []

/-- DEFAULT, MIN and MAX of parameter `p`, in the order WARN, DISQ, MUTUAL, DRIFT, DRIFT_HOLD, SLOPE, QUAL, HOLD_LIMIT
(R301). -/
def State.refParam (s : State) (p : Nat) : Nat × Nat × Nat :=
  (leAt s.refTable (16 + 6 * p) 2, leAt s.refTable (18 + 6 * p) 2, leAt s.refTable (20 + 6 * p) 2)

/-- Code 0x90: a section is malformed (R332). -/
def State.refMalformed (s : State) : Bool :=
  let t := s.refTable
  let m := s.oscModel
  leAt t 0 4 != 0x31464552 || leAt t 4 2 != 1 || leAt t 6 2 != 16 || leAt m 0 4 != 0x314C444D || leAt m 4 2 != 1
    || (List.range 16).any (fun c => 6 < leAt t (64 + 16 * c) 1 || 95 < leAt t (65 + 16 * c) 1)
    || (List.range 8).any (fun p => let x := s.refParam p; x.1 < x.2.1 || x.2.2 < x.1)

/-- Code 0x93 on the defaults (R329, R330). -/
def State.refDefaultsBad (s : State) : Bool :=
  (s.refParam 1).1 ≤ (s.refParam 0).1 || (s.refParam 1).1 ≤ (s.refParam 2).1

/-! ### The model (R315, R318, R326, R328) -/

/-- A sensor is fitted and the section holds a starting model (R326, R328). -/
def State.modelFlags (s : State) : Nat := leAt s.oscModel 6 2

/-- The temperature terms in ΔT for a temperature in 1/128 °C (R318). -/
def State.tempTerm (s : State) (t : Int) : Int :=
  if s.modelFlags % 4 = 3 then
    let d := t - sAt s.oscModel 16 2
    sAt s.oscModel 24 4 * 1000 * d / 128 + sAt s.oscModel 28 4 * 100 * d * d / 16384
  else 0

/-- The last good temperature. -/
def State.refTemp (s : State) : Int := s.int .REF_TEMP_TEMP

/-- The temperature clamped to T_MIN–T_MAX (R318). -/
def State.clampedTemp (s : State) : Int := clampInt (sAt s.oscModel 18 2) (sAt s.oscModel 20 2) s.refTemp

/-- Least-squares slope of values against their index, per index (R318). -/
def leastSquares (l : List (Nat × Int)) : Int :=
  let n : Int := l.length
  let sx : Int := ((l.map (·.1)).sum : Nat)
  let sy : Int := (l.map (·.2)).sum
  let sxy : Int := (l.map (fun p => (p.1 : Int) * p.2)).sum
  let sxx : Int := ((l.map (fun p => p.1 * p.1)).sum : Nat)
  (n * sxy - sx * sy) / (n * sxx - sx * sx)

/-- The ageing rate A per day (R318, R328). -/
def State.ageing (s : State) : Int :=
  if 7 ≤ s.refDaily.length then leastSquares s.refDaily else s.int .REF_AGE_START * 100

/-- A valid model exists (R328). -/
def State.modelValid (s : State) : Bool := s.flag .REF_MODEL_STAT_VALID

/-- The prediction P now (R318); zero where no valid model exists (R303). -/
def State.predict (s : State) : Int :=
  if s.modelValid then
    s.int .REF_Y + s.ageing * ((s.now.sec : Int) - (s.get .REF_TY : Int)) / 86400 + s.tempTerm s.clampedTemp
  else 0

/-- Daily means of a record, newest first, with their day indexes counted down from `day` (R327). -/
def recordDaily (bs : List Byte) (day : Nat) : List (Nat × Int) :=
  let n := min (leAt bs 36 2) 48
  (List.range n).map (fun i => (day - i, sAt bs (48 + 4 * ((leAt bs 38 2 + 47 - i) % 48)) 4 * 10000))

/-- Take an ageing record as the model (R327, R328). -/
def takeRecord (bs : List Byte) (s : State) : State :=
  let s := (s.putInt .REF_Y 0 (sAt bs 24 4 * 10000)).put .REF_TY 0 (leAt bs 16 6)
  let s := { s with refDaily := recordDaily bs 48 }.put .REF_NEXT 0 (leAt bs 38 2 % 48)
  ((s.put .REF_NOON_SECS 0 (3600 * leAt bs 32 4)).put .REF_MODEL_STAT_VALID 0 1).put .REF_DAY 0 49

/-- The current record of the ageing ring (R81). -/
def State.currentRecord (s : State) : Option (List Byte) :=
  (ringNewest s.nvm ageingRing.1 256 64).map (fun p => Memory.readList s.nvm (ageingRing.1 + 256 * p.1) 256)

/-- Show what the model holds (REF_MODEL_STAT). -/
def showModel (s : State) : State :=
  let range := s.modelFlags / 2 % 2 == 1 && decide (s.refTemp < sAt s.oscModel 18 2 ∨ sAt s.oscModel 20 2 < s.refTemp)
  ((s.put .REF_MODEL_STAT_DAYS 0 s.refDaily.length).putFlag .REF_MODEL_STAT_LEARNED 0 (decide (7 ≤ s.refDaily.length))).putFlag
    .REF_MODEL_STAT_RANGE 0 range

/-- Load the model at the enable (R328). -/
def loadModel (s : State) : State :=
  let starts := s.modelFlags % 2 == 1
  let start := s.oscModel.drop 64
  let s := (({ s with refDaily := [], refResid := [] }.put .REF_MODEL_STAT_VALID 0 0).put .REF_MODEL_STAT_FROM_RING 0 0).put
    .REF_NOON_RUN 0 0
  let s := ((s.putInt .REF_AGE_START 0 (if starts then sAt start 28 4 else 0)).put .REF_DAY 0 0).put .REF_NOON_SECS 0 0
  let s := ((s.put .REF_DAY_SECS 0 0).put .REF_DAY_NOON 0 0).put .REF_DAY_SUM 0 0 |>.put .REF_NEXT 0 0
  match s.currentRecord with
  | some r =>
    if leAt r 4 4 = leAt s.oscModel 8 4 then showModel ((takeRecord r s).put .REF_MODEL_STAT_FROM_RING 0 1)
    else
      let s := notice 320 s
      showModel (if starts then takeRecord start s else s)
  | none => showModel (if starts then takeRecord start s else s)

/-! ### Candidates (R300, R303 to R305) -/

/-- INC0's excess over nominal as a frequency (R323). -/
def State.incOffset (s : State) : Int := s.incExcess * 1000000000000000 / 0x028000000000

/-- The lane of a kind 0x5 candidate can be measured (R300). -/
def State.refLaneGood (s : State) (l : Nat) : Bool :=
  let lead := 4 * quadOf l
  s.running .lane l && isSdi (s.rxMode l) && s.flag .LAN_STAT_LOCK l
    && (l == lead || !(s.running .lane lead && s.flag .LAN_BIND_RX_QUAD lead))

/-- The offset of candidate `c` from the oscillator; none while it is absent (R300, R303). -/
def State.refRaw (s : State) (c : Nat) (edges : List (Nat × Int)) : Option Int :=
  let k := s.get .REF_CAND_KIND c
  if k = 6 then
    if s.running .tb 0 && s.flag .REF_SW_VALID && s.flag .REF_SW_ALIVE then some (s.int .REF_K + s.incOffset) else none
  else if k = 5 ∧ !s.refLaneGood (s.get .REF_CAND_LANE c) then none
  else if 1 ≤ k ∧ k ≤ 5 then (edges.find? (·.1 == c)).map (·.2) else none

/-- The history of a candidate's offsets. -/
def State.histOf (s : State) (c : Nat) : List Int := ((s.refHist.find? (·.1 == c)).map (·.2)).getD []

/-- Replace the history of a candidate. -/
def putHist (c : Nat) (l : List Int) (s : State) : State :=
  { s with refHist := (if l.isEmpty then [] else [(c, l)]) ++ s.refHist.filter (fun x => x.1 != c) }

/-- Drift of a history in 10⁻⁶ ppb per second; zero until 80 s are there (R304). -/
def driftOf (l : List Int) : Int :=
  if l.length < 80 then 0 else ((l.take 16).sum - ((l.drop 64).take 16).sum) / (16 * 64)

/-- The seconds of drift beyond or within DRIFT, and DRIFTING (R304). -/
def judgeDrift (c : Nat) (x : Int) (s : State) : State :=
  let beyond := decide ((s.get .REF_DRIFT_DRIFT : Int) * 1000 < (x.natAbs : Int))
  let s := s.putInt .REF_CAND_DRIFT c (x / 1000)
  if beyond then
    let s := (s.bump .REF_BEYOND c).put .REF_WITHIN c 0
    onlyIf (!s.flag .REF_CAND1_DRIFTING c && decide (s.get .REF_DRIFT_DRIFT_HOLD ≤ s.get .REF_BEYOND c))
      (fun s => notice 316 (s.put .REF_CAND1_DRIFTING c 1)) s
  else
    let s := (s.bump .REF_WITHIN c).put .REF_BEYOND c 0
    onlyIf (s.flag .REF_CAND1_DRIFTING c && decide (s.get .REF_QUAL_QUAL ≤ s.get .REF_WITHIN c)) (·.put .REF_CAND1_DRIFTING c 0) s

/-- Give a candidate a status (R305). -/
def setCstate (c v : Nat) (s : State) : State :=
  if s.get .REF_CAND1_CSTATE c = v then s
  else
    let s := onlyIf (v == 0 || v == 4) (·.bump .REF_CAND4_DISQ_COUNT c) s
    notice 314 (s.put .REF_CAND1_CSTATE c v)

/-- A candidate without a measurement has no history and does not drift. -/
def forgetCandidate (c : Nat) (s : State) : State :=
  (((putHist c [] s).put .REF_CAND1_DRIFTING c 0).put .REF_BEYOND c 0).put .REF_WITHIN c 0

/-- Status of a present, enabled candidate (R305). -/
def judgePresent (c : Nat) (d : Int) (s : State) : State :=
  let warn := decide ((s.get .REF_LIMITS_WARN : Int) * ppb < (d.natAbs : Int)) || s.flag .REF_CAND1_DRIFTING c
  let was := s.get .REF_CAND1_CSTATE c
  if (s.get .REF_LIMITS_DISQ : Int) * ppb < (d.natAbs : Int) then setCstate c 4 (s.put .REF_CAND1_QUAL_LEFT c 0)
  else if was = 2 ∨ was = 3 then setCstate c (if warn then 3 else 2) s
  else if warn then setCstate c 4 (s.put .REF_CAND1_QUAL_LEFT c 0)
  else
    let secs := if was = 1 then s.get .REF_QUAL_SECS c + 1 else 0
    let left := s.get .REF_QUAL_QUAL - secs
    setCstate c (if left = 0 then 2 else 1) ((s.put .REF_QUAL_SECS c secs).put .REF_CAND1_QUAL_LEFT c left)

/-- A candidate's second (R303 to R305). -/
def candidateSecond (e : RefMeas) (c : Nat) (s : State) : State :=
  if !s.flag .REF_CAND_EN c then setCstate c 5 ((forgetCandidate c s).put .REF_CAND1_QUAL_LEFT c 0)
  else match s.refRaw c e.present with
    | none => setCstate c 0 ((forgetCandidate c s).put .REF_CAND1_QUAL_LEFT c 0)
    | some raw =>
      let d := raw + s.predict
      let h := (d :: s.histOf c).take 80
      let s := ((putHist c h s).putInt .REF_RAW c raw).putInt .REF_D c d
      judgePresent c d (judgeDrift c (driftOf h) (s.putInt .REF_CAND_OFFSET c (d / 10000)))

/-- A candidate is eligible (R305). -/
def State.eligible (s : State) (c : Nat) : Bool := s.get .REF_CAND1_CSTATE c == 2 || s.get .REF_CAND1_CSTATE c == 3

/-! ### Selection (R306 to R308) -/

/-- What selection decides: keep, choose a candidate with a cause, enter night or midnight with a cause. -/
inductive Choice where
  | keep
  | pick (c cause : Nat)
  | night (cause : Nat)
  | midnight (cause : Nat)
deriving DecidableEq, Repr

/-- The candidate of a list with the smallest |d|, lowest-numbered on a tie. -/
def State.smallestD (s : State) : List Nat → Option Nat
  | [] => none
  | c :: l => match s.smallestD l with
    | some b => if (s.int .REF_D b).natAbs < (s.int .REF_D c).natAbs then some b else some c
    | none => some c

/-- Selection among the eligible (R306). `base` is the cause where the current candidate has gone, `none_` that of the
rest. -/
def State.choose (s : State) (base : Nat) : Choice × Bool :=
  let cur := s.refCur
  let es := (List.range 16).filter s.eligible
  let rank := fun c => s.get .REF_CAND_PRIORITY c
  let curIn := es.contains cur
  let agree := (s.get .REF_QUAL_MUTUAL : Int) * ppb
  let pick := fun (c cause : Nat) => if c = cur then Choice.keep else Choice.pick c cause
  let cause := fun (better : Nat) => if curIn then better else base
  match (es.map rank).min? with
  | none =>
    (if s.modelValid then .night base else .midnight (if base ∈ [0, 7, 0xB] then base else 9), false)
  | some b =>
    let bs := es.filter (fun c => rank c == b)
    let better := curIn && rank cur != b
    let bs := if better then bs.filter (fun c => s.flag .REF_CAND_REVERTIVE c) else bs
    match bs with
    | [] => (.keep, false)
    | [c] => (pick c (cause 2), false)
    | c :: _ =>
      let spread := bs.all (fun i => bs.all (fun j => decide (((s.int .REF_D i - s.int .REF_D j).natAbs : Int) ≤ agree)))
      if spread then (if bs.contains cur then .keep else pick c (cause 2), false)
      else if !s.modelValid then (if bs.contains cur then .keep else .midnight 9, true)
      else if bs.contains cur ∧ ((s.int .REF_D cur).natAbs : Int) ≤ agree then (.keep, true)
      else
        match s.smallestD (bs.filter (fun c => decide (((s.int .REF_D c).natAbs : Int) ≤ agree))) with
        | none => (.night 5, true)
        | some a => (pick a 5, true)

/-- STATE takes a value; a change raises source 312 (R307). -/
def setRefState (v : Nat) (s : State) : State :=
  if s.get .REF_SEL_STATE_STATE = v then s else notice 312 (s.put .REF_SEL_STATE_STATE 0 v)

/-- A candidate is selected: dawn (R307, R309, R312). -/
def selectCandidate (c cause : Nat) (s : State) : State :=
  let s := ((s.put .REF_SEL_STATE_SELECTED 0 c).put .REF_SEL_STATE_CAUSE 0 cause).put .REF_SEL_STATE_SLEWING 0 1
  setRefState 0 (notice 313 ((s.put .REF_LOCK_SECS 0 0).put .REF_NOON_RUN 0 0))

/-- Leave the selection: night (3) or midnight (4) (R307, R319, R321). -/
def enterHold (st cause : Nat) (s : State) : State :=
  if s.get .REF_SEL_STATE_STATE = st ∧ cause ≠ 0 then s
  else
    let fresh := st == 3 || s.get .REF_SEL_STATE_STATE != 3
    let s := ((s.put .REF_SEL_STATE_SELECTED 0 0xF).put .REF_SEL_STATE_CAUSE 0 cause).put .REF_SEL_STATE_SLEWING 0 0
    let s := onlyIf fresh (fun s => (s.put .REF_HOLD_SECS 0 0).put .REF_SEL_STATE_HOLD_MIN 0 0) (s.put .REF_NOON_RUN 0 0)
    let s := onlyIf (st == 4 && !s.modelValid) (·.put .REF_K 0 0) s
    notice (if st = 3 then 317 else 318) (setRefState st (notice 313 s))

/-- Run selection (R306); `base` is the cause where the current candidate has gone. -/
def runSelection (base : Nat) (s : State) : State :=
  let forced := s.flag .REF_CTRL_FORCE_EN
  let fc := s.get .REF_CTRL_FORCE_CAND
  if forced && s.eligible fc then
    followInc0 (if fc = s.refCur then s else selectCandidate fc 6 s)
  else
    let s := onlyIf forced (fun s => (s.put .REF_CTRL_FORCE_EN 0 0).put .REF_SEL_STATE_CAUSE 0 7) s
    let base := if forced then 7 else base
    let hold := 3 ≤ s.get .REF_SEL_STATE_STATE
    let r := s.choose base
    let s := onlyIf r.2 (notice 315) s
    followInc0 (match r.1 with
      | .keep => onlyIf forced (notice 313) s
      | .pick c cause => selectCandidate c (if forced then 7 else if hold ∧ base ≠ 0 then 1 else cause) s
      | .night cause => if hold && base != 0 && !r.2 then onlyIf forced (notice 313) s else enterHold 3 cause s
      | .midnight cause => enterHold 4 cause s)

/-- Cause of a change that follows from the current candidate's status (R307). -/
def State.goneCause (s : State) : Nat :=
  let c := s.refCur
  if 16 ≤ c then 1 else match s.get .REF_CAND1_CSTATE c with
    | 0 => 4
    | 5 => 0xB
    | _ => 3

/-! ### A second of the unit (R306, R309 to R323) -/

/-- SLOPE per second. -/
def State.slope (s : State) : Int := (s.get .REF_SLOPE_SLOPE : Int) * 100000

/-- The slope limit does not apply: FAST_ACQ, from the enable until the first entry into noon (R311). -/
def State.slopeFree (s : State) : Bool := s.flag .REF_CTRL_FAST_ACQ && !s.flag .REF_ACQUIRED

/-- A change of K as SLOPE limits it (R309, R311). -/
def State.slopeLimit (s : State) (x : Int) : Int := if s.slopeFree then x else clampInt (-s.slope) s.slope x

/-- Move K towards a target, by no more than SLOPE where that applies. -/
def moveK (target : Int) (s : State) : State :=
  let k := s.int .REF_K
  s.putInt .REF_K 0 (k + s.slopeLimit (target - k))

/-- K in this second (R309, R311, R313, R319, R321, R323). -/
def secondK (e : RefMeas) (s : State) : State :=
  let st := s.get .REF_SEL_STATE_STATE
  let c := s.refCur
  if st = 3 then moveK (-s.predict) s
  else if st = 4 then s
  else if s.get .REF_CAND_KIND c = 6 then
    let m := s.slopeLimit (s.incOffset / 1000)
    (s.putInt .REF_K 0 (s.int .REF_K + m)).putInt .REF_MOVED 0 (s.int .REF_MOVED + m)
  else if st = 0 ∧ s.slopeFree then s.putInt .REF_K 0 e.loopK
  else if s.flag .REF_SEL_STATE_SLEWING then moveK (s.int .REF_RAW c) s
  else moveK e.loopK s

/-- The unit leaves dawn, or moves between noon and dusk (R310, R316). -/
def secondState (e : RefMeas) (s : State) : State :=
  let c := s.refCur
  let go := fun (v : Nat) (s : State) =>
    onlyIf (v == 1) (·.put .REF_ACQUIRED 0 1) (setRefState v (s.put .REF_SEL_STATE_CAUSE 0 0xA))
  let warn := s.get .REF_CAND1_CSTATE c == 3
  match s.get .REF_SEL_STATE_STATE with
  | 0 =>
    let good := decide (((s.int .REF_RAW c - s.int .REF_K).natAbs : Int) ≤ ppb ∧ e.phase.natAbs ≤ 20)
    let s := if good then s.bump .REF_LOCK_SECS else s.put .REF_LOCK_SECS 0 0
    if good ∧ s.get .REF_QUAL_QUAL ≤ s.get .REF_LOCK_SECS then
      go (if warn then 2 else 1) (s.put .REF_SEL_STATE_SLEWING 0 0)
    else s
  | 1 => if warn then go 2 s else s
  | 2 => if warn then s else go 1 s
  | _ => s

/-- Learning in noon (R315). -/
def learn (s : State) : State :=
  let s := s.bump .REF_DAY_SECS
  if s.get .REF_SEL_STATE_STATE ≠ 1 then { s with refResid := [] }.put .REF_NOON_RUN 0 0
  else
    let r := -s.int .REF_K - s.tempTerm s.refTemp
    let l := (r :: s.refResid).take 1000
    let s := { s with refResid := l }
    let s := (s.put .REF_NOON_RUN 0 (min 1000 (s.get .REF_NOON_RUN + 1))).bump .REF_NOON_SECS
    let s := (s.bump .REF_DAY_NOON).putInt .REF_DAY_SUM 0 (s.int .REF_DAY_SUM + r)
    if s.get .REF_NOON_RUN < 1000 then s
    else ((s.putInt .REF_Y 0 (l.sum / 1000)).put .REF_TY 0 (s.now.sec - 500)).put .REF_MODEL_STAT_VALID 0 1

/-- Time in night or midnight (R319). -/
def countHold (s : State) : State :=
  if s.get .REF_SEL_STATE_STATE < 3 then s
  else
    let s := s.bump .REF_HOLD_SECS
    s.put .REF_SEL_STATE_HOLD_MIN 0 (min 0xFFFF (s.get .REF_HOLD_SECS / 60))

/-- REF_SECOND (R303 to R323). -/
def execRefSecond (e : RefMeas) (s : State) : Outcome State Fault Refusal :=
  .next (onlyIf (s.running .ref) (fun s =>
    let s := forAll (List.range 16) (candidateSecond e) s
    let s := runSelection s.goneCause s
    let s := secondState e (secondK e s)
    showModel (learn (countHold s))) s)

/-- CANDIDATE_ABSENT: the selected candidate's signal is gone (R306, R317). -/
def execCandidateAbsent (s : State) : Outcome State Fault Refusal :=
  let c := s.refCur
  .next (onlyIf (s.running .ref && c < 16 && (s.get .REF_CAND_KIND c < 5 || (s.refRaw c [(c, 0)]).isNone))
    (fun s => runSelection 4 (setCstate c 0 (forgetCandidate c s))) s)

/-- SLEW_COMPLETE: K has reached the selected candidate's frequency (R309). -/
def execSlewComplete (s : State) : Outcome State Fault Refusal :=
  let c := s.refCur
  .next (onlyIf (s.running .ref && s.flag .REF_SEL_STATE_SLEWING
      && (s.get .REF_CAND_KIND c == 6 || decide (s.int .REF_K = s.int .REF_RAW c)
        || s.slopeFree))
    (·.put .REF_SEL_STATE_SLEWING 0 0) s)

/-- HOLD_LIMIT_EXPIRY: the time in night has reached HOLD_LIMIT (R321). -/
def execHoldLimitExpiry (s : State) : Outcome State Fault Refusal :=
  let h := s.get .REF_SLOPE_HOLD_LIMIT
  .next (onlyIf (s.running .ref && s.get .REF_SEL_STATE_STATE == 3 && h != 0 && 3600 * h ≤ s.get .REF_HOLD_SECS)
    (enterHold 4 8) s)

/-- DAILY_MEAN: a day of learning is over (R315). -/
def execDailyMean (s : State) : Outcome State Fault Refusal :=
  .next (onlyIf (s.running .ref && 86400 ≤ s.get .REF_DAY_SECS) (fun s =>
    let n := s.get .REF_DAY_NOON
    let d := s.get .REF_DAY
    let s := onlyIf (72000 ≤ n) (fun s =>
      { s with refDaily := ((d, s.int .REF_DAY_SUM / (n : Int)) :: s.refDaily).take 48 }.put .REF_NEXT 0 ((s.get .REF_NEXT + 1) % 48)) s
    let s := s.put .REF_DAY 0 (d + 1)
    showModel (((s.put .REF_DAY_SECS 0 0).put .REF_DAY_NOON 0 0).put .REF_DAY_SUM 0 0)) s)

/-- TEMP_READ: a reading in 1/128 °C of the sensor that the image names, or a failed read (R320, R326). -/
def execTempRead (reading : Option Int) (s : State) : Outcome State Fault Refusal :=
  .next (onlyIf (s.running .ref && s.modelFlags / 2 % 2 == 1) (fun s => match reading with
    | some t =>
      let s := showModel ((s.putInt .REF_TEMP_TEMP 0 t).put .REF_TEMP_FAILS 0 0)
      onlyIf (s.flag .REF_TEMP_TEMP_FAULT) (fun s => notice 319 (s.put .REF_TEMP_TEMP_FAULT 0 0)) s
    | none =>
      let s := s.bump .REF_TEMP_FAILS
      onlyIf (s.get .REF_TEMP_FAILS == 3 && !s.flag .REF_TEMP_TEMP_FAULT) (fun s => notice 319 (s.put .REF_TEMP_TEMP_FAULT 0 1)) s) s)

/-! ### Enabling, and the writes that have rows (R302, R308, R324, R330) -/

/-- The parameters and the candidates as the reference table has them (R302, R329). -/
def tableValues (s : State) : State :=
  let d := fun p => (s.refParam p).1
  let s := (((s.put .REF_LIMITS_WARN 0 (d 0)).put .REF_LIMITS_DISQ 0 (d 1)).put .REF_QUAL_MUTUAL 0 (d 2)).put .REF_DRIFT_DRIFT 0 (d 3)
  let s := (((s.put .REF_DRIFT_DRIFT_HOLD 0 (d 4)).put .REF_SLOPE_SLOPE 0 (d 5)).put .REF_QUAL_QUAL 0 (d 6)).put
    .REF_SLOPE_HOLD_LIMIT 0 (d 7)
  let t := s.refTable
  forAll (List.range 16) (fun c s =>
    let f := leAt t (67 + 16 * c) 1
    let s := ((s.put .REF_CAND_KIND c (leAt t (64 + 16 * c) 1)).put .REF_CAND_LANE c (leAt t (65 + 16 * c) 1)).put
      .REF_CAND_FORMAT c (leAt t (66 + 16 * c) 1)
    (((s.put .REF_CAND_EN c (bitsAt f 0 1)).put .REF_CAND_REVERTIVE c (bitsAt f 1 1)).put .REF_CAND_LOCKED c (bitsAt f 2 1)).put
      .REF_CAND_PRIORITY c (leAt t (68 + 16 * c) 1)) s

/-- The table is placed: the registers show its values, which are their reset values (R329). -/
def placeRefTable (s : State) : State := onlyIf (s.sectionBytes 3).isSome tableValues s

/-- An accepted enable: parameters, entries, model, first selection (R302, R322, R328). -/
def refEnabled (s : State) : State :=
  let s := tableValues (loadModel s)
  let s := ((s.put .REF_K 0 0).put .REF_MOVED 0 0).put .REF_ACQUIRED 0 0
  runSelection 0 ({ s with refHist := [] }.put .REF_HOLD_SECS 0 0)

/-- Disabling the unit (R299). -/
def refDisabled (s : State) : State :=
  let s := forAll (List.range 16) (fun c s => ((forgetCandidate c s).put .REF_CAND1_CSTATE c 5).put .REF_CAND1_QUAL_LEFT c 0) s
  let s := ((s.put .REF_K 0 0).put .REF_SEL_STATE_STATE 0 4).put .REF_SEL_STATE_SELECTED 0 0xF
  followInc0 ((s.put .REF_SEL_STATE_SLEWING 0 0).put .REF_SEL_STATE_HOLD_MIN 0 0)

/-- Offset of a register of the REF block (R329). -/
def refOff (o : Nat) : Nat := 0x840000 + o

/-- CANDIDATE_WRITE: a write of word 0 of candidate `c` (R302, R306). -/
def execCandidateWrite (m : Master) (c v : Nat) (s : State) : Outcome State Fault Refusal :=
  let o := refOff (0x100 + 32 * c)
  .next (onlyIf (c < 16) (writeGated m o (fun s =>
    if s.flag .REF_CAND_LOCKED c then refuse 0x92 (wordOf o) m s
    else
      let s := writeWord m o v s
      onlyIf (s.running .ref && bitsAt v 31 1 == 0 && s.refCur == c)
        (fun s => runSelection 0xB (setCstate c 5 (forgetCandidate c s))) s)) s)

/-- Bounds of the parameters of a threshold register: parameter numbers of its high and low half (R301, R302). -/
def thresholdParams (k : Nat) : Nat × Nat := if k = 0 then (1, 0) else if k = 1 then (6, 2) else if k = 2 then (3, 4) else (5, 7)

/-- A parameter lies within the table's bounds; without a table there are none (R302). -/
def State.inBounds (s : State) (p v : Nat) : Bool :=
  s.refTable.isEmpty || ((s.refParam p).2.1 ≤ v && v ≤ (s.refParam p).2.2)

/-- THRESHOLD_WRITE: a write of REF_LIMITS (0), REF_QUAL (1), REF_DRIFT (2) or REF_SLOPE (3) (R302, R330). -/
def execThresholdWrite (m : Master) (k v : Nat) (s : State) : Outcome State Fault Refusal :=
  let o := refOff (0x10 + 4 * k)
  let hi := bitsAt v 16 16
  let lo := bitsAt v 0 16
  .next (onlyIf (k < 4) (writeGated m o (fun s =>
    let warn := if k = 0 then lo else s.get .REF_LIMITS_WARN
    let disq := if k = 0 then hi else s.get .REF_LIMITS_DISQ
    let mut_ := if k = 1 then lo else s.get .REF_QUAL_MUTUAL
    if k = 3 ∧ hi = 0 then refuse 0x04 (wordOf o) m s
    else if !s.inBounds (thresholdParams k).1 hi || !s.inBounds (thresholdParams k).2 lo then refuse 0x94 (wordOf o) m s
    else if k < 2 ∧ (disq ≤ warn ∨ disq ≤ mut_) then refuse 0x93 (wordOf o) m s
    else writeWord m o v s)) s)

/-- The software candidate's keepalive is lost (R324). -/
def swLost (s : State) : State := notice 322 (s.put .REF_SW_ALIVE 0 0)

/-- REF_SW_WRITE (R324). -/
def execRefSwWrite (m : Master) (v : Nat) (s : State) : Outcome State Fault Refusal :=
  .next (writeGated m (refOff 0x60) (fun s =>
    let was := s.flag .REF_SW_VALID
    let s := (s.put .REF_SW_VALID 0 (bitsAt v 31 1)).put .REF_SW_ALIVE 0 1
    onlyIf (was && bitsAt v 31 1 == 0) (notice 322) s) s)

/-- REF_SW_TIMEOUT: no write of REF_SW for 2 s (R324). -/
def execRefSwTimeout (s : State) : Outcome State Fault Refusal :=
  .next (onlyIf (s.flag .REF_SW_ALIVE) (fun s => if s.flag .REF_SW_VALID then swLost s else s.put .REF_SW_ALIVE 0 0) s)

end Sys2Proof.Machine
end

