-- ==== Sys2Proof/Machine/Operands.lean ====
section
/-!
DEFINITION. Operand forms of the DSP cores: the fields of an instruction word, registers by code, addressing modes, the two
move fields, and the core's memories (R380 to R390, R414).
-/
namespace Sys2Proof.Machine

/-! ### Fields of an instruction word (R387 to R389) -/

/-- Form, bits [63:62]. -/
def dwForm (w : Nat) : Nat := bitsAt w 62 2
/-- OPC, bits [61:56]. -/
def dwOpc (w : Nat) : Nat := bitsAt w 56 6
/-- d of the parallel form. -/
def dwD (w : Nat) : Nat := bitsAt w 52 4
/-- s of the parallel form. -/
def dwS (w : Nat) : Nat := bitsAt w 48 4
/-- t of the parallel form. -/
def dwT (w : Nat) : Nat := bitsAt w 44 4
/-- a of the parallel form. -/
def dwA (w : Nat) : Nat := bitsAt w 43 1
/-- k3 of the parallel form, as a signed number. -/
def dwK3 (w : Nat) : Int := toSigned 3 (bitsAt w 40 3)
/-- k5 of the parallel form. -/
def dwK5 (w : Nat) : Nat := bitsAt w 43 5
/-- dst6 of MOVR, which is also REG of the immediate form. -/
def dwReg (w : Nat) : Nat := bitsAt w 50 6
/-- src6 of MOVR. -/
def dwSrc6 (w : Nat) : Nat := bitsAt w 44 6
/-- IMM of the immediate form. -/
def dwImm (w : Nat) : Nat := bitsAt w 0 32
/-- COND of the control form. -/
def dwCond (w : Nat) : Nat := bitsAt w 52 4
/-- DREG of the control form. -/
def dwDreg (w : Nat) : Nat := bitsAt w 48 4
/-- COUNT of the control form. -/
def dwCount (w : Nat) : Nat := bitsAt w 32 16
/-- TARGET of the control form, LEN of LOOP and LOOPR. -/
def dwTarget (w : Nat) : Nat := bitsAt w 0 13

/-- A move field (R389). -/
structure MoveField where
  kind : Nat
  reg : Nat
  an : Nat
  mode : Nat
  rest : Nat
deriving DecidableEq, Repr

/-- The 20 bits of a move field, taken apart. -/
def moveOf (v : Nat) : MoveField := ⟨bitsAt v 18 2, bitsAt v 13 5, bitsAt v 10 3, bitsAt v 7 3, bitsAt v 0 7⟩

/-- X move field. -/
def xMove (w : Nat) : MoveField := moveOf (bitsAt w 20 20)
/-- Y move field. -/
def yMove (w : Nat) : MoveField := moveOf (bitsAt w 0 20)

/-- The move updates its address register (R385). -/
def MoveField.updates (m : MoveField) : Bool := m.kind != 0 && 1 ≤ m.mode && m.mode ≤ 5

/-! ### Registers (R381, R384, R390) -/

/-- D register as held. -/
def DspCore.dReg (c : DspCore) (i : Nat) : Nat := c.d.getD i 0
/-- D register as a signed integer (R383). -/
def DspCore.dInt (c : DspCore) (i : Nat) : Int := toSigned 32 (c.dReg i)
/-- Write a D register. -/
def DspCore.putD (c : DspCore) (i v : Nat) : DspCore := { c with d := c.d.set i (v % 2 ^ 32) }
/-- Write a D register from an integer, wrapping. -/
def DspCore.putDInt (c : DspCore) (i : Nat) (x : Int) : DspCore := c.putD i (ofSigned 32 x)
/-- Accumulator `a`. -/
def DspCore.acc (c : DspCore) (a : Nat) : Int := if a = 0 then c.acc0 else c.acc1
/-- Write accumulator `a`. -/
def DspCore.putAcc (c : DspCore) (a : Nat) (v : Int) : DspCore := if a = 0 then { c with acc0 := v } else { c with acc1 := v }

/-- Bits of SR that a program writes (R384): LACT, IE, SCALE, LS, V, N, Z. -/
def srMask : Nat := 0xA700001E
/-- A bit of SR. -/
def DspCore.srBit (c : DspCore) (b : Nat) : Bool := bitsAt c.sr b 1 == 1
/-- Write a bit of SR. -/
def DspCore.putSr (c : DspCore) (b : Nat) (v : Bool) : DspCore := { c with sr := c.sr - 2 ^ b * bitsAt c.sr b 1 + 2 ^ b * v.toNat }
/-- SCALE (R384). -/
def DspCore.scale (c : DspCore) : Int := toSigned 3 (bitsAt c.sr 24 3)
/-- SR as read: MODE is that of DSP_CORE_CTRL. -/
def DspCore.srRead (c : DspCore) (mode : Nat) : Nat := c.sr + 2 ^ 30 * mode

/-- The register code is not reserved (R390). -/
def regCodeGood (r : Nat) : Bool := r ≤ 0x2B

/-- Value of a register by its code (R390); M is read sign-extended. -/
def DspCore.readCode (c : DspCore) (mode r : Nat) : Nat :=
  if r < 0x10 then c.dReg r
  else if r < 0x18 then c.a.getD (r - 0x10) 0
  else if r < 0x20 then ofSigned 32 (toSigned 16 (c.m.getD (r - 0x18) 0))
  else if r < 0x28 then c.l.getD (r - 0x20) 0
  else if r = 0x28 then c.srRead mode
  else if r = 0x29 then c.lcnt
  else if r = 0x2A then c.lstart else c.lend

/-- Write a register by its code: the register's width from the low bits (R384, R390). -/
def DspCore.writeCode (c : DspCore) (r v : Nat) : DspCore :=
  if r < 0x10 then c.putD r v
  else if r < 0x18 then { c with a := c.a.set (r - 0x10) (v % 2 ^ 14) }
  else if r < 0x20 then { c with m := c.m.set (r - 0x18) (v % 2 ^ 16) }
  else if r < 0x28 then { c with l := c.l.set (r - 0x20) (v % 2 ^ 15) }
  else if r = 0x28 then { c with sr := v &&& srMask }
  else if r = 0x29 then { c with lcnt := v % 2 ^ 16 }
  else if r = 0x2A then { c with lstart := v % 2 ^ 13 } else { c with lend := v % 2 ^ 13 }

/-! ### Addressing (R385, R386) -/

/-- Bits needed below a modulo length: ceil(log2 L) for L ≥ 2. -/
def lowBits (l : Nat) : Nat := Nat.log2 (l - 1) + 1

/-- An plus a step under a length (R386). -/
def addrStep (an : Nat) (delta : Int) (l : Nat) : Nat :=
  if l ≤ 1 then (((an : Int) + delta) % 16384).toNat
  else
    let b := an - an % 2 ^ lowBits l
    (b + ((((an - b : Nat) : Int) + delta) % (l : Int)).toNat) % 16384

/-- Bits [13:0] reversed. -/
def rev14 (x : Nat) : Nat := ((List.range 14).map (fun i => 2 ^ (13 - i) * bitsAt x i 1)).sum

/-- The address a move uses and An afterwards (R385). -/
def DspCore.address (c : DspCore) (m : MoveField) : Nat × Nat :=
  let an := c.a.getD m.an 0
  let mn : Int := toSigned 16 (c.m.getD m.an 0)
  let l := c.l.getD m.an 0
  match m.mode with
  | 1 => (an, addrStep an 1 l)
  | 2 => (an, addrStep an (-1) l)
  | 3 => (an, addrStep an mn l)
  | 4 => (an, addrStep an (-mn) l)
  | 5 => (an, rev14 ((rev14 an + rev14 (c.m.getD m.an 0 % 16384)) % 16384))
  | 6 => (addrStep an mn l, an)
  | _ => (an, an)

/-! ### Memories (R380, R414, R420) -/

/-- DSP core `n`. -/
def State.core (s : State) (n : Nat) : DspCore := s.dsp.getD n .idle
/-- Replace DSP core `n`. -/
def putCore (n : Nat) (c : DspCore) (s : State) : State := { s with dsp := s.dsp.set n c }

/-- Address of core `n`'s window in the internal map (R420). -/
def dspWindow (n : Nat) : Nat := barBase + 0xA00000 + 0x40000 * n

/-- Instruction word at program address `a` (R380, R420). -/
def State.progWord (s : State) (n a : Nat) : Nat := leNat (Memory.readList s.mem (dspWindow n + 8 * a) 8)

/-- Set causes of DSP_CORE_EVT (R423). Bits: 0 FAULT, 1 HALT, 2 LATE, 3 SKIPPED, 4 TRAP, 5 MBOX, 6 ECC_COR, 7 QERR. -/
def dspCause (n bit cls : Nat) (s : State) : State := setCauses .DSP_CORE_EVT .DSP_CORE_EVT_EN n (2 ^ bit) (360 + n) cls s

/-- Samples in a block (R408). -/
def State.blockLen (s : State) (n : Nat) : Nat := match s.get .DSP_CORE_CTRL_BLOCK n with
  | 0 => 8
  | 1 => 16
  | 2 => 32
  | _ => 48

/-- A control word as the core reads it (R414). -/
def State.controlWord (s : State) (n a : Nat) : Nat :=
  let c := s.core n
  match a - 0x3FF0 with
  | 0 => c.qinWr.getD 0 0
  | 1 => c.qinRd.getD 0 0
  | 2 => c.qinWr.getD 1 0
  | 3 => c.qinRd.getD 1 0
  | 4 => c.blkNo % 2 ^ 32
  | 5 => c.blkNo * s.blockLen n % 2 ^ 32
  | 6 => s.get .DSP_CORE_MBOX_IN n
  | 7 => s.get .DSP_CORE_MBOX_OUT n
  | 8 => n
  | 9 => c.cycles % 2 ^ 32
  | _ => 0

/-- X word at an address. -/
def State.readX (s : State) (n a : Nat) : Nat := if 0x3FF0 ≤ a then s.controlWord n a else s.memWord (dspWindow n + 0x10000 + 4 * a)
/-- Y word at an address. -/
def State.readY (s : State) (n a : Nat) : Nat := s.memWord (dspWindow n + 0x20000 + 4 * a)

/-- Words of ring `i` of core `n` (R412). -/
def State.ringSize (s : State) (n i : Nat) : Nat := 2 ^ s.get .DSP_QIN_RING_LOG2 (2 * n + i)
/-- Words that the ring holds (R413). -/
def State.ringFill (s : State) (n i : Nat) : Nat :=
  let p := 2 * s.ringSize n i
  ((s.core n).qinWr.getD i 0 + p - (s.core n).qinRd.getD i 0 % p) % p

/-- A core's write of QINn_RD: an advance beyond the occupancy is ignored and sets QERR (R413). -/
def writeRingRd (n i v : Nat) (s : State) : State :=
  let p := 2 * s.ringSize n i
  let c := s.core n
  let step := (v % p + p - c.qinRd.getD i 0 % p) % p
  if s.ringFill n i < step then dspCause n 7 0 s else putCore n { c with qinRd := c.qinRd.set i (v % p) } s

/-- Store an X word: memory, or a control word (R414). -/
def writeX (n a v : Nat) (s : State) : State :=
  if a < 0x3FF0 then s.memPut (dspWindow n + 0x10000 + 4 * a) 4 v
  else if a = 0x3FF1 then writeRingRd n 0 v s
  else if a = 0x3FF3 then writeRingRd n 1 v s
  else if a = 0x3FF7 then dspCause n 5 0 (s.put .DSP_CORE_MBOX_OUT n v)
  else s
/-- Store a Y word. -/
def writeY (n a v : Nat) (s : State) : State := s.memPut (dspWindow n + 0x20000 + 4 * a) 4 v

/-! ### Scaled words (R382, R383) -/

/-- Lower and upper end of an accumulator (R382). -/
def accMin : Int := -(2 ^ 79)
def accMax : Int := 2 ^ 79 - 1

/-- The exact rounded value that a move from an accumulator delivers before saturation (R383). -/
def scaledExact (v scale : Int) : Int :=
  let k := (39 - scale).toNat
  (v + 2 ^ (k - 1)) / 2 ^ k

/-- The word that a move from an accumulator delivers, and whether it saturated (R383). -/
def scaledWord (v scale : Int) : Nat × Bool :=
  let x := scaledExact v scale
  let y := clampInt (-(2 ^ 31)) (2 ^ 31 - 1) x
  (ofSigned 32 y, x != y)

/-- What a store reads: a D register, or a scaled accumulator (R389). -/
def DspCore.storeWord (c : DspCore) (reg : Nat) : Nat × Bool :=
  if reg < 16 then (c.dReg reg, false) else scaledWord (c.acc (reg - 16)) c.scale

end Sys2Proof.Machine
end

