-- ==== Sys2Proof/Machine/Flags.lean ====
section
/-!
DEFINITION. Flag computations of the DSP cores (R382, R394): Z, N and V of a data result, the sticky LS, and the conditions
that Bcc tests (R396).
-/
namespace Sys2Proof.Machine

/-- Set LS where something saturated; it is sticky (R384). -/
def DspCore.stickLs (c : DspCore) (sat : Bool) : DspCore := if sat then c.putSr 4 true else c

/-- Z and N from a 32-bit result, and V (R394). -/
def DspCore.setZnv (c : DspCore) (w : Nat) (v : Bool) : DspCore :=
  ((c.putSr 1 (w % 2 ^ 32 == 0)).putSr 2 (bitsAt w 31 1 == 1)).putSr 3 v

/-- A result outside the signed 32-bit range (R394). -/
def overflows32 (x : Int) : Bool := x < -(2 ^ 31) || 2 ^ 31 ≤ x

/-- A result limited to the signed 32-bit range. -/
def saturate32 (x : Int) : Int := clampInt (-(2 ^ 31)) (2 ^ 31 - 1) x

/-- An accumulator result: saturated, LS set where it saturates (R382). -/
def DspCore.setAcc (c : DspCore) (a : Nat) (x : Int) : DspCore :=
  let y := clampInt accMin accMax x
  (c.putAcc a y).stickLs (x != y)

/-- A wrapping result: written to `d` where there is a destination, Z and N from it, V on signed overflow (R394). -/
def DspCore.wrapResult (c : DspCore) (d : Option Nat) (x : Int) : DspCore :=
  let w := ofSigned 32 x
  let c := match d with
    | some d => c.putD d w
    | none => c
  c.setZnv w (overflows32 x)

/-- A saturating result: V and LS where it saturates (R394). -/
def DspCore.satResult (c : DspCore) (d : Nat) (x : Int) : DspCore :=
  let w := ofSigned 32 (saturate32 x)
  ((c.putD d w).setZnv w (overflows32 x)).stickLs (overflows32 x)

/-- A result that cannot overflow: V is 0 (R394). -/
def DspCore.plainResult (c : DspCore) (d w : Nat) : DspCore := (c.putD d w).setZnv w false

/-- The condition of a Bcc holds (R396). -/
def DspCore.condHolds (c : DspCore) (cond : Nat) : Bool :=
  let z := c.srBit 1
  let n := c.srBit 2
  match cond with
  | 0 => true
  | 1 => z
  | 2 => !z
  | 3 => n
  | 4 => !n
  | 5 => !n && !z
  | 6 => n || z
  | 7 => c.srBit 3
  | 8 => !c.srBit 3
  | 9 => c.srBit 4
  | _ => false

end Sys2Proof.Machine
end

