-- ==== Sys2Proof/Machine/Dsp.lean ====
section
/-!
DEFINITION. How a DSP core runs: fetching, what is illegal, sequencing with delay slots, REP and the hardware loop, faults,
and the frame every instruction's meaning fills in (R396 to R407, R416 to R419).
-/
namespace Sys2Proof.Machine

/-! ### Illegal instructions (R387 to R390, R402) -/

/-- The OPC is assigned in its form (R391 to R396). -/
def opcAssigned (form opc : Nat) : Bool :=
  match form with
  | 0 => opc ≤ 0x22
  | 1 => opc ≤ 0x06
  | 2 => opc ≤ 0x0B
  | _ => false

/-- Operand bits [55:40] that an operation of the parallel form uses (R388). -/
def usedBits (opc : Nat) : Nat :=
  if opc ≤ 0x00 then 0x0000
  else if opc ≤ 0x03 then 0x0FF8
  else if opc ≤ 0x06 then 0x0FF0
  else if opc ≤ 0x08 then 0x0008
  else if opc = 0x09 then 0x0F08
  else if opc = 0x0A then 0xF008
  else if opc ≤ 0x0C then 0x0008
  else if opc = 0x0D then 0x0F08
  else if opc = 0x0E then 0xF008
  else if opc = 0x0F then 0xFF00
  else if opc ≤ 0x16 then 0xFFF0
  else if opc ≤ 0x18 then 0xFF00
  else if opc ≤ 0x1A then 0xFFF0
  else if opc = 0x1B then 0xFF00
  else if opc ≤ 0x1E then 0xFFF8
  else if opc = 0x1F then 0x0FF0
  else if opc = 0x20 then 0x0F00
  else if opc = 0x21 then 0xFFF0
  else 0x0007

/-- A move field of an instruction other than FIRTAP is legal (R385, R389, R402). -/
def moveLegal (m : MoveField) : Bool :=
  match m.kind with
  | 0 => m.reg == 0 && m.an == 0 && m.mode == 0 && m.rest == 0
  | 1 => m.reg < 16 && m.mode != 7 && m.rest == 0
  | 2 => m.reg ≤ 17 && m.mode != 7 && m.rest == 0
  | _ => m.reg == 0 && m.mode != 7 && m.rest == 0

/-- The parallel form is legal (R388, R389, R392, R402). -/
def parallelLegal (w : Nat) : Bool :=
  let opc := dwOpc w
  let x := xMove w
  let y := yMove w
  let fir := opc == 0x07
  bitsAt w 40 16 &&& (0xFFFF - usedBits opc) == 0
    && moveLegal x && moveLegal y
    && (!fir || (x.kind == 1 && x.reg == 0 && y.kind == 1 && y.reg == 0))
    && !(x.updates && y.updates && x.an == y.an)
    && (fir || !(x.kind == 1 && y.kind == 1 && x.reg == y.reg))
    && (!(0x04 ≤ opc && opc ≤ 0x06) || (dwS w % 2 == 0 && dwT w % 2 == 0))
    && (opc != 0x22 || (-2 ≤ dwK3 w && dwK3 w ≤ 2))
    && (opc != 0x21 || (regCodeGood (dwReg w) && regCodeGood (dwSrc6 w)
          && !(0x10 ≤ dwReg w && dwReg w < 0x18
            && ((x.updates && x.an == dwReg w - 0x10) || (y.updates && y.an == dwReg w - 0x10)))))

/-- The immediate form is legal (R387, R395, R402). -/
def immediateLegal (w : Nat) : Bool :=
  let opc := dwOpc w
  let r := dwReg w
  bitsAt w 32 18 == 0
    && (if opc = 0x00 then regCodeGood r else if opc = 0x05 then 0x10 ≤ r && r < 0x18 else r < 0x10)

/-- Must-be-zero bits of the control form are zero (R387, R396, R402). -/
def controlFields (w : Nat) : Bool :=
  let z := fun (useCond useDreg useCount useTarget : Bool) =>
    bitsAt w 13 19 == 0 && (useCond || dwCond w == 0) && (useDreg || dwDreg w == 0) && (useCount || dwCount w == 0)
      && (useTarget || dwTarget w == 0)
  match dwOpc w with
  | 0x00 => z true false false true && dwCond w ≤ 9
  | 0x01 => z false false false true
  | 0x04 => z false false true true
  | 0x05 => z false true false true
  | 0x06 => z false false true false
  | 0x07 => z false true false false
  | 0x0A => z false false true false && dwCount w < 256
  | _ => z false false false false

/-- The control form is legal where it stands: not in a delay slot, not at the end of a loop body, not under REP; LOOP and
LOOPR not inside a loop, with a body within the memory; a count of at most 4,096 (R398, R399, R402). -/
def controlLegal (c : DspCore) (w : Nat) : Bool :=
  let opc := dwOpc w
  controlFields w && c.slots == 0 && c.rep.isNone && !(c.srBit 31 && c.pc == c.lend)
    && (!(opc == 0x04 || opc == 0x05) || (!c.srBit 31 && dwTarget w != 0 && c.pc + dwTarget w ≤ 0x1FFF))
    && (opc != 0x06 || dwCount w ≤ 4096) && (opc != 0x07 || c.dReg (dwDreg w) ≤ 4096)

/-- The instruction at the core's PC is legal (R402). -/
def dspLegal (c : DspCore) (w : Nat) : Bool :=
  match dwForm w with
  | 0 => opcAssigned 0 (dwOpc w) && parallelLegal w
  | 1 => opcAssigned 1 (dwOpc w) && immediateLegal w
  | 2 => opcAssigned 2 (dwOpc w) && controlLegal c w
  | _ => false

/-! ### Faults (R402, R403, R419) -/

/-- The core faults at its PC: STATE 4, the code, the PC, cause FAULT; a memory fault is uncorrected-contained. -/
def dspFault (n code : Nat) (s : State) : State :=
  dspCause n 0 (if code = 5 then 2 else 0)
    (((s.put .DSP_CORE_STAT_STATE n 4).put .DSP_CORE_STAT_FAULT n code).put .DSP_CORE_STAT_PC n (min 0x1FFF (s.core n).pc))

/-- A word that the core reads is corrected: counted (R419). -/
def dspCorrected (n : Nat) (s : State) : State := dspCause n 6 1 (s.bump .DSP_CORE_ECC_COR n)

/-- A word that the core reads is uncorrectable: counted, and the core faults (R419). -/
def dspUncorrectable (n : Nat) (s : State) : State := dspFault n 5 (s.bump .DSP_CORE_ECC_UNCOR n)

/-- What SECDED finds in a word read: nothing, a correction, or a fault that ends the instruction. -/
def dspRead (n : Nat) (e : EccOutcome) (k : State → State) (s : State) : State :=
  match e with
  | .clean => k s
  | .corrected => k (dspCorrected n s)
  | .uncorrectable => dspUncorrectable n s

/-! ### Sequencing (R397 to R400) -/

/-- Loads of the instruction before land (R400). -/
def DspCore.land (c : DspCore) : DspCore :=
  { c.loads.foldl (fun (x : DspCore) r => x.putD r.1 r.2) c with loads := [] }

/-- The PC after the instruction at the PC has executed, with the end test of the hardware loop (R398). -/
def DspCore.afterLoop (c : DspCore) : DspCore :=
  if c.srBit 31 && c.pc == c.lend then
    if 1 < c.lcnt then { c with lcnt := c.lcnt - 1, pc := c.lstart }
    else { c.putSr 31 false with lcnt := 0, pc := c.pc + 1 }
  else { c with pc := c.pc + 1 }

/-- Count a delay slot; after the second one a taken branch continues at its target (R397). -/
def DspCore.afterSlot (c : DspCore) : DspCore :=
  if c.slots = 0 then c
  else if c.slots = 1 then { c with slots := 0, branch := none, pc := c.branch.getD c.pc }
  else { c with slots := c.slots - 1 }

/-- The core after an instruction that is no control transfer: repetitions, the loop test, delay slots, one cycle. -/
def DspCore.retire (c : DspCore) : DspCore :=
  let c := { c with cycles := c.cycles + 1 }
  match c.rep with
  | some k => if 1 < k then { c with rep := some (k - 1) } else ({ c with rep := none }.afterLoop).afterSlot
  | none => c.afterLoop.afterSlot

/-- Execute the instruction at the PC of core `n` if it is the one of a form and OPC: the word is read through SECDED, an
illegal word faults, another instruction's word leaves everything unchanged (R402, R419). -/
def dspRow (form opc n : Nat) (e : DspEcc) (eff : Nat → State → State) (s : State) : State :=
  let c := s.core n
  let w := s.progWord n c.pc
  if c.pc ≤ 0x1FFF && dwForm w == form && dwOpc w == opc then
    dspRead n e.prog (fun s => if dspLegal c w then eff w s else dspFault n 1 s) s
  else if 0x1FFF < c.pc then dspFault n 1 s
  else if !opcAssigned (dwForm w) (dwOpc w) then dspRead n e.prog (dspFault n 1) s else s

/-- Core `n` executes: its STATE reads running (R396). -/
def State.dspRuns (s : State) (n : Nat) : Bool := s.get .DSP_CORE_STAT_STATE n == 1

/-- Core `n` runs or waits in BLKEND. -/
def State.dspLive (s : State) (n : Nat) : Bool := s.get .DSP_CORE_STAT_STATE n == 1 || s.get .DSP_CORE_STAT_STATE n == 2

/-! ### The parallel form (R387 to R394, R400) -/

/-- Words that the load fields of an instruction bring, for the registers that they load. -/
def dspLoads (n w ax ay : Nat) (s : State) : List (Nat × Nat) :=
  (if (xMove w).kind = 1 then [((xMove w).reg, s.readX n ax)] else [])
    ++ (if (yMove w).kind = 1 then [((yMove w).reg, s.readY n ay)] else [])

/-- Address registers after both move fields. -/
def DspCore.stepAddresses (c : DspCore) (w : Nat) (c0 : DspCore) : DspCore :=
  let one := fun (m : MoveField) (c : DspCore) => if m.updates then { c with a := c.a.set m.an (c0.address m).2 } else c
  one (yMove w) (one (xMove w) c)

/-- The stores of an instruction, with the registers as they stood before it; LS where a scaled store saturates. -/
def dspStores (n w ax ay : Nat) (c0 : DspCore) (s : State) : State :=
  let x := xMove w
  let y := yMove w
  let sat := (x.kind == 2 && (c0.storeWord x.reg).2) || (y.kind == 2 && (c0.storeWord y.reg).2)
  let s := onlyIf (x.kind == 2) (writeX n ax (c0.storeWord x.reg).1) s
  let s := onlyIf (y.kind == 2) (writeY n ay (c0.storeWord y.reg).1) s
  putCore n ((s.core n).stickLs sat) s

/-- SECDED of the data words that an instruction reads. -/
def dspReadData (n : Nat) (e : DspEcc) (rx ry : Bool) (k : State → State) (s : State) : State :=
  dspRead n (if rx then e.x else .clean) (dspRead n (if ry then e.y else .clean) k) s

/-- An instruction of the parallel form other than FIRTAP: every read sees the registers as they stood before it, the loads
of the instruction before land, the operation writes, the moves take place, and the PC moves on. `op` takes the word, the
core before, and the core that it updates. -/
def dspParallel (op : Nat → Nat → DspCore → DspCore → DspCore) (n : Nat) (e : DspEcc) (w : Nat) (s : State) : State :=
  let c0 := s.core n
  let ax := (c0.address (xMove w)).1
  let ay := (c0.address (yMove w)).1
  dspReadData n e ((xMove w).kind == 1 && ax < 0x3FF0) ((yMove w).kind == 1) (fun s =>
    let loads := dspLoads n w ax ay s
    let c1 := ((op (s.get .DSP_CORE_CTRL_MODE n) w c0 c0.land).stepAddresses w c0)
    let s := dspStores n w ax ay c0 (putCore n { c1 with loads := loads } s)
    putCore n (s.core n).retire s) s

/-- A row of the parallel form. -/
def dspParallelRow (opc : Nat) (op : Nat → Nat → DspCore → DspCore → DspCore) (n : Nat) (e : DspEcc) (s : State) : State :=
  dspRow 0 opc n e (dspParallel op n e) s

/-- FIRTAP (R391, R392): the X word moves one place up the delay line, as mode 1 would step. -/
def dspFirtap (n : Nat) (e : DspEcc) (w : Nat) (s : State) : State :=
  let c0 := s.core n
  let p := (c0.address (xMove w)).1
  let q := (c0.address (yMove w)).1
  dspReadData n e (p < 0x3FF0) true (fun s =>
    let x := s.readX n p
    let v := c0.acc (dwA w) + toSigned 32 x * toSigned 32 (s.readY n q) * 2 ^ 8
    let up := addrStep p 1 (c0.l.getD (xMove w).an 0)
    let s := writeX n up x (putCore n ((c0.land.setAcc (dwA w) v).stepAddresses w c0) s)
    putCore n (s.core n).retire s) s

/-! ### Program control (R396 to R399, R407, R409) -/

/-- Begin two delay slots behind a branch; `target` is none where it is not taken (R397). -/
def DspCore.startBranch (c : DspCore) (target : Option Nat) : DspCore :=
  { c with cycles := c.cycles + 1, pc := c.pc + 1, slots := 2, branch := target }

/-- Push an address and SR (R384, R403). -/
def dspPush (n a : Nat) (k : State → State) (s : State) : State :=
  let c := s.core n
  if 16 ≤ c.depth then dspFault n 3 s
  else k (putCore n { c with stack := c.stack.set c.depth (a, c.srRead (s.get .DSP_CORE_CTRL_MODE n)), depth := c.depth + 1 } s)

/-- Pop an address and SR (R403). -/
def dspPop (n : Nat) (k : Nat × Nat → State → State) (s : State) : State :=
  let c := s.core n
  if c.depth = 0 then dspFault n 4 s
  else k (c.stack.getD (c.depth - 1) (0, 0)) (putCore n { c with depth := c.depth - 1 } s)

/-- Start a hardware loop of `count` passes; a count of 0 skips the body (R398). -/
def DspCore.startLoop (c : DspCore) (count len : Nat) : DspCore :=
  let c := { c with cycles := c.cycles + 1, lstart := (c.pc + 1) % 2 ^ 13, lend := c.pc + len }
  if count = 0 then { c with lcnt := 0, pc := c.pc + len + 1 }
  else { c.putSr 31 true with lcnt := count, pc := c.pc + 1 }

/-- Start a repetition; a count of 0 skips the next instruction (R399). -/
def DspCore.startRep (c : DspCore) (count : Nat) : DspCore :=
  let c := { c with cycles := c.cycles + 1, pc := c.pc + 1 }
  if count = 0 then c.afterLoop else { c with rep := some count }

/-- REP and REPR: FAULT 0x02 in MAINTENANCE (R407). -/
def dspRepeat (n count : Nat) (s : State) : State :=
  if s.get .DSP_CORE_CTRL_MODE n = 1 then dspFault n 2 s else putCore n ((s.core n).land.startRep count) s

/-- The core takes the newest pending block; older ones are skipped and counted (R409). -/
def takeBlock (n : Nat) (s : State) : State :=
  let c := s.core n
  let j := c.pendingBlocks.foldl max 0
  let skipped := c.pendingBlocks.length - 1
  let c := { c with pendingBlocks := [], held := some j, blkNo := j, takenAt := c.cycles, pc := c.pc + 1 }
  let s := (putCore n c s).put .DSP_CORE_STAT_STATE n 1
  onlyIf (skipped != 0) (fun s => dspCause n 3 0 (s.bump .DSP_BLK_STAT_SKIPPED n skipped)) s

/-- BLKEND (R409): the block held is released if its returns are not yet due, its cycles are measured, and the core takes a
pending block or waits. -/
def dspBlkend (n : Nat) (s : State) : State :=
  let c := (s.core n).land
  let s := onlyIf (c.held.isSome) (fun s => s.put .DSP_CORE_LOAD_MAX_CYCLES n (max (s.get .DSP_CORE_LOAD_MAX_CYCLES n) (c.cycles - c.takenAt))) s
  let released := match c.held with
    | some j => if c.due.contains j then j :: c.released else c.released
    | none => c.released
  let c := { c with held := none, released := released, cycles := c.cycles + 1, waitTick := s.tick }
  let s := putCore n c s
  if c.pendingBlocks.isEmpty then s.put .DSP_CORE_STAT_STATE n 2 else takeBlock n s

end Sys2Proof.Machine
end

