-- ==== Sys2Proof/Machine/DspOps.lean ====
section
/-!
DEFINITION. The instructions of the DSP cores (R391 to R399, R409), one meaning each, in the order of the spec's tables.
-/
namespace Sys2Proof.Machine

open Host (Outcome)

/-! ### Multiply-accumulate group (R391, R392) -/

/-- s·t·2⁸ of the registers that a word names. -/
def dspProduct (c : DspCore) (i j : Nat) : Int := c.dInt i * c.dInt j * 2 ^ 8

/-- Real part of the complex product of (Ds, Ds+1) and (Dt, Dt+1), `sign` being −1, or +1 for the conjugate. -/
def dspReal (c : DspCore) (w : Nat) (sign : Int) : Int :=
  dspProduct c (dwS w) (dwT w) + sign * dspProduct c (dwS w + 1) (dwT w + 1)

/-- Imaginary part of the complex product. -/
def dspImag (c : DspCore) (w : Nat) : Int := dspProduct c (dwS w) (dwT w + 1) + dspProduct c (dwS w + 1) (dwT w)

/-- Imaginary part of the product with the conjugate. -/
def dspImagConj (c : DspCore) (w : Nat) : Int := dspProduct c (dwS w + 1) (dwT w) - dspProduct c (dwS w) (dwT w + 1)

/-- v ← s·t·2⁸. -/
def opMpy (_ w : Nat) (c0 c : DspCore) : DspCore := c.setAcc (dwA w) (dspProduct c0 (dwS w) (dwT w))

/-- MPY on core `n` (R391). -/
def execMpy (n : Nat) (e : DspEcc) (s : State) : Outcome State Fault Refusal :=
  .next (onlyIf (s.dspRuns n) (dspParallelRow 0x1 opMpy n e) s)

/-- v ← v + s·t·2⁸. -/
def opMac (_ w : Nat) (c0 c : DspCore) : DspCore := c.setAcc (dwA w) (c0.acc (dwA w) + dspProduct c0 (dwS w) (dwT w))

/-- MAC on core `n` (R391). -/
def execMac (n : Nat) (e : DspEcc) (s : State) : Outcome State Fault Refusal :=
  .next (onlyIf (s.dspRuns n) (dspParallelRow 0x2 opMac n e) s)

/-- v ← v − s·t·2⁸. -/
def opMsu (_ w : Nat) (c0 c : DspCore) : DspCore := c.setAcc (dwA w) (c0.acc (dwA w) - dspProduct c0 (dwS w) (dwT w))

/-- MSU on core `n` (R391). -/
def execMsu (n : Nat) (e : DspEcc) (s : State) : Outcome State Fault Refusal :=
  .next (onlyIf (s.dspRuns n) (dspParallelRow 0x3 opMsu n e) s)

/-- ACC0 and ACC1 ← the complex product. -/
def opCmpy (_ w : Nat) (c0 c : DspCore) : DspCore := (c.setAcc 0 (dspReal c0 w (-1))).setAcc 1 (dspImag c0 w)

/-- CMPY on core `n` (R391). -/
def execCmpy (n : Nat) (e : DspEcc) (s : State) : Outcome State Fault Refusal :=
  .next (onlyIf (s.dspRuns n) (dspParallelRow 0x4 opCmpy n e) s)

/-- ACC0 and ACC1 += the complex product. -/
def opCmac (_ w : Nat) (c0 c : DspCore) : DspCore := (c.setAcc 0 (c0.acc0 + dspReal c0 w (-1))).setAcc 1 (c0.acc1 + dspImag c0 w)

/-- CMAC on core `n` (R391). -/
def execCmac (n : Nat) (e : DspEcc) (s : State) : Outcome State Fault Refusal :=
  .next (onlyIf (s.dspRuns n) (dspParallelRow 0x5 opCmac n e) s)

/-- ACC0 and ACC1 += the product with the conjugate. -/
def opCmacj (_ w : Nat) (c0 c : DspCore) : DspCore := (c.setAcc 0 (c0.acc0 + dspReal c0 w 1)).setAcc 1 (c0.acc1 + dspImagConj c0 w)

/-- CMACJ on core `n` (R391). -/
def execCmacj (n : Nat) (e : DspEcc) (s : State) : Outcome State Fault Refusal :=
  .next (onlyIf (s.dspRuns n) (dspParallelRow 0x6 opCmacj n e) s)

/-- FIRTAP on core `n` (R391, R392). -/
def execFirtap (n : Nat) (e : DspEcc) (s : State) : Outcome State Fault Refusal :=
  .next (onlyIf (s.dspRuns n) (dspRow 0 0x07 n e (dspFirtap n e)) s)

/-! ### Accumulator group (R393) -/

/-- Number of bits below the top bit of a `w`-bit two's complement number that repeat it without a break. -/
def signRun (w : Nat) (x : Int) : Nat :=
  let y := ofSigned w (if x < 0 then -x - 1 else x)
  w - 1 - (if y = 0 then 0 else Nat.log2 y + 1)

/-- NORM: a shift left keeps the low 80 bits, a shift right rounds down. -/
def normShift (v n : Int) : Int :=
  let n := clampInt (-80) 80 n
  if 0 ≤ n then toSigned 80 (ofSigned 80 (v * 2 ^ n.toNat)) else v / 2 ^ (-n).toNat

/-- v ← 0. -/
def opClr (_ w : Nat) (_ c : DspCore) : DspCore := c.putAcc (dwA w) 0

/-- CLR on core `n` (R393). -/
def execClr (n : Nat) (e : DspEcc) (s : State) : Outcome State Fault Refusal :=
  .next (onlyIf (s.dspRuns n) (dspParallelRow 0x8 opClr n e) s)

/-- v ← s·2³⁹. -/
def opMovd (_ w : Nat) (c0 c : DspCore) : DspCore := c.putAcc (dwA w) (c0.dInt (dwS w) * 2 ^ 39)

/-- MOVD on core `n` (R393). -/
def execMovd (n : Nat) (e : DspEcc) (s : State) : Outcome State Fault Refusal :=
  .next (onlyIf (s.dspRuns n) (dspParallelRow 0x9 opMovd n e) s)

/-- Dd ← the scaled word of R383. -/
def opMova (_ w : Nat) (c0 c : DspCore) : DspCore := let r := scaledWord (c0.acc (dwA w)) c0.scale
  (c.putD (dwD w) r.1).stickLs r.2

/-- MOVA on core `n` (R393). -/
def execMova (n : Nat) (e : DspEcc) (s : State) : Outcome State Fault Refusal :=
  .next (onlyIf (s.dspRuns n) (dspParallelRow 0xa opMova n e) s)

/-- ACCa ← ACCa + ACC(1 − a). -/
def opAdda (_ w : Nat) (c0 c : DspCore) : DspCore := c.setAcc (dwA w) (c0.acc (dwA w) + c0.acc (1 - dwA w))

/-- ADDA on core `n` (R393). -/
def execAdda (n : Nat) (e : DspEcc) (s : State) : Outcome State Fault Refusal :=
  .next (onlyIf (s.dspRuns n) (dspParallelRow 0xb opAdda n e) s)

/-- ACCa ← ACCa − ACC(1 − a). -/
def opSuba (_ w : Nat) (c0 c : DspCore) : DspCore := c.setAcc (dwA w) (c0.acc (dwA w) - c0.acc (1 - dwA w))

/-- SUBA on core `n` (R393). -/
def execSuba (n : Nat) (e : DspEcc) (s : State) : Outcome State Fault Refusal :=
  .next (onlyIf (s.dspRuns n) (dspParallelRow 0xc opSuba n e) s)

/-- v ← v shifted by Ds. -/
def opNorm (_ w : Nat) (c0 c : DspCore) : DspCore := c.putAcc (dwA w) (normShift (c0.acc (dwA w)) (c0.dInt (dwS w)))

/-- NORM on core `n` (R393). -/
def execNorm (n : Nat) (e : DspEcc) (s : State) : Outcome State Fault Refusal :=
  .next (onlyIf (s.dspRuns n) (dspParallelRow 0xd opNorm n e) s)

/-- Dd ← r − 9. -/
def opExp (_ w : Nat) (c0 c : DspCore) : DspCore := c.putDInt (dwD w) ((signRun 80 (c0.acc (dwA w)) : Int) - 9)

/-- EXP on core `n` (R393). -/
def execExp (n : Nat) (e : DspEcc) (s : State) : Outcome State Fault Refusal :=
  .next (onlyIf (s.dspRuns n) (dspParallelRow 0xe opExp n e) s)

/-- Dd ← the redundant sign bits of Ds. -/
def opExpd (_ w : Nat) (c0 c : DspCore) : DspCore := c.putD (dwD w) (signRun 32 (c0.dInt (dwS w)))

/-- EXPD on core `n` (R393). -/
def execExpd (n : Nat) (e : DspEcc) (s : State) : Outcome State Fault Refusal :=
  .next (onlyIf (s.dspRuns n) (dspParallelRow 0xf opExpd n e) s)

/-! ### Data ALU group (R394) -/

/-- s + t, wrapping. -/
def opAdd (_ w : Nat) (c0 c : DspCore) : DspCore := c.wrapResult (some (dwD w)) (c0.dInt (dwS w) + c0.dInt (dwT w))

/-- ADD on core `n` (R394). -/
def execAdd (n : Nat) (e : DspEcc) (s : State) : Outcome State Fault Refusal :=
  .next (onlyIf (s.dspRuns n) (dspParallelRow 0x10 opAdd n e) s)

/-- s − t, wrapping. -/
def opSub (_ w : Nat) (c0 c : DspCore) : DspCore := c.wrapResult (some (dwD w)) (c0.dInt (dwS w) - c0.dInt (dwT w))

/-- SUB on core `n` (R394). -/
def execSub (n : Nat) (e : DspEcc) (s : State) : Outcome State Fault Refusal :=
  .next (onlyIf (s.dspRuns n) (dspParallelRow 0x11 opSub n e) s)

/-- s + t, saturating. -/
def opAdds (_ w : Nat) (c0 c : DspCore) : DspCore := c.satResult (dwD w) (c0.dInt (dwS w) + c0.dInt (dwT w))

/-- ADDS on core `n` (R394). -/
def execAdds (n : Nat) (e : DspEcc) (s : State) : Outcome State Fault Refusal :=
  .next (onlyIf (s.dspRuns n) (dspParallelRow 0x12 opAdds n e) s)

/-- s − t, saturating. -/
def opSubs (_ w : Nat) (c0 c : DspCore) : DspCore := c.satResult (dwD w) (c0.dInt (dwS w) - c0.dInt (dwT w))

/-- SUBS on core `n` (R394). -/
def execSubs (n : Nat) (e : DspEcc) (s : State) : Outcome State Fault Refusal :=
  .next (onlyIf (s.dspRuns n) (dspParallelRow 0x13 opSubs n e) s)

/-- Bitwise AND. -/
def opAnd (_ w : Nat) (c0 c : DspCore) : DspCore := c.plainResult (dwD w) (c0.dReg (dwS w) &&& c0.dReg (dwT w))

/-- AND on core `n` (R394). -/
def execAnd (n : Nat) (e : DspEcc) (s : State) : Outcome State Fault Refusal :=
  .next (onlyIf (s.dspRuns n) (dspParallelRow 0x14 opAnd n e) s)

/-- Bitwise OR. -/
def opOr (_ w : Nat) (c0 c : DspCore) : DspCore := c.plainResult (dwD w) (c0.dReg (dwS w) ||| c0.dReg (dwT w))

/-- OR on core `n` (R394). -/
def execOr (n : Nat) (e : DspEcc) (s : State) : Outcome State Fault Refusal :=
  .next (onlyIf (s.dspRuns n) (dspParallelRow 0x15 opOr n e) s)

/-- Bitwise exclusive OR. -/
def opXor (_ w : Nat) (c0 c : DspCore) : DspCore := c.plainResult (dwD w) (c0.dReg (dwS w) ^^^ c0.dReg (dwT w))

/-- XOR on core `n` (R394). -/
def execXor (n : Nat) (e : DspEcc) (s : State) : Outcome State Fault Refusal :=
  .next (onlyIf (s.dspRuns n) (dspParallelRow 0x16 opXor n e) s)

/-- abs(s), saturating. -/
def opAbs (_ w : Nat) (c0 c : DspCore) : DspCore := c.satResult (dwD w) (if c0.dInt (dwS w) < 0 then -c0.dInt (dwS w) else c0.dInt (dwS w))

/-- ABS on core `n` (R394). -/
def execAbs (n : Nat) (e : DspEcc) (s : State) : Outcome State Fault Refusal :=
  .next (onlyIf (s.dspRuns n) (dspParallelRow 0x17 opAbs n e) s)

/-- −s, saturating. -/
def opNeg (_ w : Nat) (c0 c : DspCore) : DspCore := c.satResult (dwD w) (-c0.dInt (dwS w))

/-- NEG on core `n` (R394). -/
def execNeg (n : Nat) (e : DspEcc) (s : State) : Outcome State Fault Refusal :=
  .next (onlyIf (s.dspRuns n) (dspParallelRow 0x18 opNeg n e) s)

/-- Signed maximum. -/
def opMax (_ w : Nat) (c0 c : DspCore) : DspCore := c.plainResult (dwD w) (ofSigned 32 (max (c0.dInt (dwS w)) (c0.dInt (dwT w))))

/-- MAX on core `n` (R394). -/
def execMax (n : Nat) (e : DspEcc) (s : State) : Outcome State Fault Refusal :=
  .next (onlyIf (s.dspRuns n) (dspParallelRow 0x19 opMax n e) s)

/-- Signed minimum. -/
def opMin (_ w : Nat) (c0 c : DspCore) : DspCore := c.plainResult (dwD w) (ofSigned 32 (min (c0.dInt (dwS w)) (c0.dInt (dwT w))))

/-- MIN on core `n` (R394). -/
def execMin (n : Nat) (e : DspEcc) (s : State) : Outcome State Fault Refusal :=
  .next (onlyIf (s.dspRuns n) (dspParallelRow 0x1a opMin n e) s)

/-- Copy. -/
def opMov (_ w : Nat) (c0 c : DspCore) : DspCore := c.plainResult (dwD w) (c0.dReg (dwS w))

/-- MOV on core `n` (R394). -/
def execMov (n : Nat) (e : DspEcc) (s : State) : Outcome State Fault Refusal :=
  .next (onlyIf (s.dspRuns n) (dspParallelRow 0x1b opMov n e) s)

/-- Arithmetic shift right. -/
def opAsr (_ w : Nat) (c0 c : DspCore) : DspCore := c.plainResult (dwD w) (ofSigned 32 (c0.dInt (dwS w) / 2 ^ dwK5 w))

/-- ASR on core `n` (R394). -/
def execAsr (n : Nat) (e : DspEcc) (s : State) : Outcome State Fault Refusal :=
  .next (onlyIf (s.dspRuns n) (dspParallelRow 0x1c opAsr n e) s)

/-- Logical shift right. -/
def opLsr (_ w : Nat) (c0 c : DspCore) : DspCore := c.plainResult (dwD w) (c0.dReg (dwS w) / 2 ^ dwK5 w)

/-- LSR on core `n` (R394). -/
def execLsr (n : Nat) (e : DspEcc) (s : State) : Outcome State Fault Refusal :=
  .next (onlyIf (s.dspRuns n) (dspParallelRow 0x1d opLsr n e) s)

/-- Shift left; bits shifted out are lost. -/
def opLsl (_ w : Nat) (c0 c : DspCore) : DspCore := c.plainResult (dwD w) (c0.dReg (dwS w) * 2 ^ dwK5 w % 2 ^ 32)

/-- LSL on core `n` (R394). -/
def execLsl (n : Nat) (e : DspEcc) (s : State) : Outcome State Fault Refusal :=
  .next (onlyIf (s.dspRuns n) (dspParallelRow 0x1e opLsl n e) s)

/-- Flags of s − t. -/
def opCmp (_ w : Nat) (c0 c : DspCore) : DspCore := c.wrapResult none (c0.dInt (dwS w) - c0.dInt (dwT w))

/-- CMP on core `n` (R394). -/
def execCmp (n : Nat) (e : DspEcc) (s : State) : Outcome State Fault Refusal :=
  .next (onlyIf (s.dspRuns n) (dspParallelRow 0x1f opCmp n e) s)

/-- Flags of s. -/
def opTst (_ w : Nat) (c0 c : DspCore) : DspCore := c.setZnv (c0.dReg (dwS w)) false

/-- TST on core `n` (R394). -/
def execTst (n : Nat) (e : DspEcc) (s : State) : Outcome State Fault Refusal :=
  .next (onlyIf (s.dspRuns n) (dspParallelRow 0x20 opTst n e) s)

/-- Register copy (R390): MODE of SR is that of the core. -/
def opMovr (mode w : Nat) (c0 c : DspCore) : DspCore := c.writeCode (dwReg w) (c0.readCode mode (dwSrc6 w))

/-- MOVR on core `n` (R394). -/
def execMovr (n : Nat) (e : DspEcc) (s : State) : Outcome State Fault Refusal :=
  .next (onlyIf (s.dspRuns n) (dspParallelRow 0x21 opMovr n e) s)

/-- SR.SCALE ← k3. -/
def opSetscale (_ w : Nat) (_ c : DspCore) : DspCore :=
  { c with sr := c.sr - 2 ^ 24 * bitsAt c.sr 24 3 + 2 ^ 24 * bitsAt w 40 3 }

/-- SETSCALE on core `n` (R394). -/
def execSetscale (n : Nat) (e : DspEcc) (s : State) : Outcome State Fault Refusal :=
  .next (onlyIf (s.dspRuns n) (dspParallelRow 0x22 opSetscale n e) s)

/-- No operation: only the moves. -/
def opNop (_ _ : Nat) (_ c : DspCore) : DspCore := c

/-- NOP on core `n` (R389, R394). -/
def execNop (n : Nat) (e : DspEcc) (s : State) : Outcome State Fault Refusal :=
  .next (onlyIf (s.dspRuns n) (dspParallelRow 0x00 opNop n e) s)

/-! ### Immediate group (R395) -/

/-- An immediate instruction without a memory access: loads of the instruction before land, registers change, the PC moves
on. -/
def dspImmediate (op : Nat → DspCore → DspCore → DspCore) (n w : Nat) (s : State) : State :=
  let c0 := s.core n
  putCore n (op w c0 c0.land).retire s

/-- A load of the immediate form (R395, R400). -/
def dspImmLoad (n reg v : Nat) (s : State) : State :=
  let c0 := s.core n
  putCore n { c0.land with loads := [(reg, v)] }.retire s

/-- After a store of the immediate form. -/
def dspImmStored (n : Nat) (s : State) : State := putCore n (s.core n).land.retire s

/-- Register ← IMM. -/
def opLdi (w : Nat) (_ c : DspCore) : DspCore := c.writeCode (dwReg w) (dwImm w)
/-- LDI on core `n` (R395). -/
def execLdi (n : Nat) (e : DspEcc) (s : State) : Outcome State Fault Refusal :=
  .next (onlyIf (s.dspRuns n) (dspRow 1 0x00 n e (dspImmediate opLdi n)) s)

/-- Dd ← X[IMM]. -/
def dspLdx (n : Nat) (e : DspEcc) (w : Nat) (s : State) : State :=
  let a := dwImm w % 2 ^ 14
  dspRead n (if a < 0x3FF0 then e.x else .clean) (fun s => dspImmLoad n (dwReg w) (s.readX n a) s) s
/-- LDX on core `n` (R395). -/
def execLdx (n : Nat) (e : DspEcc) (s : State) : Outcome State Fault Refusal :=
  .next (onlyIf (s.dspRuns n) (dspRow 1 0x01 n e (dspLdx n e)) s)

/-- X[IMM] ← Ds. -/
def dspStx (n w : Nat) (s : State) : State :=
  let v := (s.core n).dReg (dwReg w)
  writeX n (dwImm w % 2 ^ 14) v (dspImmStored n s)
/-- STX on core `n` (R395, R414). -/
def execStx (n : Nat) (e : DspEcc) (s : State) : Outcome State Fault Refusal :=
  .next (onlyIf (s.dspRuns n) (dspRow 1 0x02 n e (dspStx n)) s)

/-- Dd ← Y[IMM]. -/
def dspLdy (n : Nat) (e : DspEcc) (w : Nat) (s : State) : State :=
  dspRead n e.y (fun s => dspImmLoad n (dwReg w) (s.readY n (dwImm w % 2 ^ 14)) s) s
/-- LDY on core `n` (R395). -/
def execLdy (n : Nat) (e : DspEcc) (s : State) : Outcome State Fault Refusal :=
  .next (onlyIf (s.dspRuns n) (dspRow 1 0x03 n e (dspLdy n e)) s)

/-- Y[IMM] ← Ds. -/
def dspSty (n w : Nat) (s : State) : State :=
  let v := (s.core n).dReg (dwReg w)
  writeY n (dwImm w % 2 ^ 14) v (dspImmStored n s)
/-- STY on core `n` (R395). -/
def execSty (n : Nat) (e : DspEcc) (s : State) : Outcome State Fault Refusal :=
  .next (onlyIf (s.dspRuns n) (dspRow 1 0x04 n e (dspSty n)) s)

/-- An ← An + IMM[15:0], signed, under Ln. -/
def opLea (w : Nat) (c0 c : DspCore) : DspCore :=
  let i := dwReg w - 0x10
  { c with a := c.a.set i (addrStep (c0.a.getD i 0) (toSigned 16 (dwImm w)) (c0.l.getD i 0)) }
/-- LEA on core `n` (R386, R395). -/
def execLea (n : Nat) (e : DspEcc) (s : State) : Outcome State Fault Refusal :=
  .next (onlyIf (s.dspRuns n) (dspRow 1 0x05 n e (dspImmediate opLea n)) s)

/-- Dd ← Dd + IMM, wrapping, flags as ADD. -/
def opAddi (w : Nat) (c0 c : DspCore) : DspCore := c.wrapResult (some (dwReg w)) (c0.dInt (dwReg w) + toSigned 32 (dwImm w))
/-- ADDI on core `n` (R395). -/
def execAddi (n : Nat) (e : DspEcc) (s : State) : Outcome State Fault Refusal :=
  .next (onlyIf (s.dspRuns n) (dspRow 1 0x06 n e (dspImmediate opAddi n)) s)

/-! ### Program control group (R396 to R399) -/

/-- Bcc: two delay slots, then TARGET where the condition holds. -/
def dspBcc (n w : Nat) (s : State) : State :=
  let c0 := s.core n
  putCore n (c0.land.startBranch (if c0.condHolds (dwCond w) then some (dwTarget w) else none)) s
/-- BCC on core `n` (R396, R397). -/
def execBcc (n : Nat) (e : DspEcc) (s : State) : Outcome State Fault Refusal :=
  .next (onlyIf (s.dspRuns n) (dspRow 2 0x00 n e (dspBcc n)) s)

/-- JSR: push the address after the second slot and SR. -/
def dspJsr (n w : Nat) (s : State) : State :=
  dspPush n ((s.core n).pc + 3) (fun s => putCore n ((s.core n).land.startBranch (some (dwTarget w))) s) s
/-- JSR on core `n` (R396, R403). -/
def execJsr (n : Nat) (e : DspEcc) (s : State) : Outcome State Fault Refusal :=
  .next (onlyIf (s.dspRuns n) (dspRow 2 0x01 n e (dspJsr n)) s)

/-- RTS: pop; the popped SR is discarded. -/
def dspRts (n _w : Nat) (s : State) : State :=
  dspPop n (fun r s => putCore n ((s.core n).land.startBranch (some r.1)) s) s
/-- RTS on core `n` (R396, R403). -/
def execRts (n : Nat) (e : DspEcc) (s : State) : Outcome State Fault Refusal :=
  .next (onlyIf (s.dspRuns n) (dspRow 2 0x02 n e (dspRts n)) s)

/-- RTI: pop PC and SR whole; three cycles, no delay slots. -/
def dspRti (n _w : Nat) (s : State) : State :=
  dspPop n (fun r s =>
    let c := (s.core n).land
    putCore n { c with pc := r.1, sr := r.2 &&& srMask, cycles := c.cycles + 3 } s) s
/-- RTI on core `n` (R396, R403, R405). -/
def execRti (n : Nat) (e : DspEcc) (s : State) : Outcome State Fault Refusal :=
  .next (onlyIf (s.dspRuns n) (dspRow 2 0x03 n e (dspRti n)) s)

/-- LOOP: COUNT passes over the LEN instructions that follow. -/
def dspLoop (n w : Nat) (s : State) : State := putCore n ((s.core n).land.startLoop (dwCount w) (dwTarget w)) s
/-- LOOP on core `n` (R396, R398). -/
def execLoop (n : Nat) (e : DspEcc) (s : State) : Outcome State Fault Refusal :=
  .next (onlyIf (s.dspRuns n) (dspRow 2 0x04 n e (dspLoop n)) s)

/-- LOOPR: the count from Dn[15:0]. -/
def dspLoopr (n w : Nat) (s : State) : State :=
  putCore n ((s.core n).land.startLoop ((s.core n).dReg (dwDreg w) % 2 ^ 16) (dwTarget w)) s
/-- LOOPR on core `n` (R396, R398). -/
def execLoopr (n : Nat) (e : DspEcc) (s : State) : Outcome State Fault Refusal :=
  .next (onlyIf (s.dspRuns n) (dspRow 2 0x05 n e (dspLoopr n)) s)

/-- REP: the next instruction COUNT times. -/
def dspRep (n w : Nat) (s : State) : State := dspRepeat n (dwCount w) s
/-- REP on core `n` (R396, R399, R407). -/
def execRep (n : Nat) (e : DspEcc) (s : State) : Outcome State Fault Refusal :=
  .next (onlyIf (s.dspRuns n) (dspRow 2 0x06 n e (dspRep n)) s)

/-- REPR: the count from Dn. -/
def dspRepr (n w : Nat) (s : State) : State := dspRepeat n ((s.core n).dReg (dwDreg w)) s
/-- REPR on core `n` (R396, R399, R407). -/
def execRepr (n : Nat) (e : DspEcc) (s : State) : Outcome State Fault Refusal :=
  .next (onlyIf (s.dspRuns n) (dspRow 2 0x07 n e (dspRepr n)) s)

/-- LEXIT: LACT and LCNT clear. -/
def dspLexit (n _w : Nat) (s : State) : State :=
  let c := (s.core n).land
  putCore n { c.putSr 31 false with lcnt := 0, pc := c.pc + 1, cycles := c.cycles + 1 } s
/-- LEXIT on core `n` (R396). -/
def execLexit (n : Nat) (e : DspEcc) (s : State) : Outcome State Fault Refusal :=
  .next (onlyIf (s.dspRuns n) (dspRow 2 0x08 n e (dspLexit n)) s)

/-- BLKEND on core `n` (R396, R409). -/
def execBlkend (n : Nat) (e : DspEcc) (s : State) : Outcome State Fault Refusal :=
  .next (onlyIf (s.dspRuns n) (dspRow 2 0x09 n e (fun _ => dspBlkend n)) s)

/-- TRAP: the code and cause TRAP; execution continues. -/
def dspTrap (n w : Nat) (s : State) : State :=
  let c := (s.core n).land
  dspCause n 4 0 ((putCore n { c with pc := c.pc + 1, cycles := c.cycles + 1 } s).put .DSP_CORE_STAT_TRAP_CODE n (dwCount w % 256))
/-- TRAP on core `n` (R396). -/
def execTrap (n : Nat) (e : DspEcc) (s : State) : Outcome State Fault Refusal :=
  .next (onlyIf (s.dspRuns n) (dspRow 2 0x0A n e (dspTrap n)) s)

/-- HALT: the core stops. -/
def dspHalt (n _w : Nat) (s : State) : State :=
  let c := (s.core n).land
  dspCause n 1 0 (((putCore n c s).put .DSP_CORE_STAT_STATE n 3).put .DSP_CORE_STAT_PC n c.pc)
/-- HALT on core `n` (R396). -/
def execHalt (n : Nat) (e : DspEcc) (s : State) : Outcome State Fault Refusal :=
  .next (onlyIf (s.dspRuns n) (dspRow 2 0x0B n e (dspHalt n)) s)

/-! ### Whatever instruction comes next (R552) -/

/-- Execute the instruction at the PC, whichever it is. -/
def dspStep (n : Nat) (e : DspEcc) (s : State) : State :=
  let w := s.progWord n (s.core n).pc
  let opc := dwOpc w
  match dwForm w with
  | 0 => if opc = 0x07 then dspRow 0 opc n e (dspFirtap n e) s else dspParallelRow opc (match opc with
    | 1 => opMpy
    | 2 => opMac
    | 3 => opMsu
    | 4 => opCmpy
    | 5 => opCmac
    | 6 => opCmacj
    | 8 => opClr
    | 9 => opMovd
    | 10 => opMova
    | 11 => opAdda
    | 12 => opSuba
    | 13 => opNorm
    | 14 => opExp
    | 15 => opExpd
    | 16 => opAdd
    | 17 => opSub
    | 18 => opAdds
    | 19 => opSubs
    | 20 => opAnd
    | 21 => opOr
    | 22 => opXor
    | 23 => opAbs
    | 24 => opNeg
    | 25 => opMax
    | 26 => opMin
    | 27 => opMov
    | 28 => opAsr
    | 29 => opLsr
    | 30 => opLsl
    | 31 => opCmp
    | 32 => opTst
    | 33 => opMovr
    | 34 => opSetscale
    | _ => opNop) n e s
  | 1 => dspRow 1 opc n e (match opc with
    | 0 => dspImmediate opLdi n
    | 1 => dspLdx n e
    | 2 => dspStx n
    | 3 => dspLdy n e
    | 4 => dspSty n
    | 5 => dspImmediate opLea n
    | _ => dspImmediate opAddi n) s
  | _ => dspRow 2 opc n e (match opc with
    | 0 => dspBcc n
    | 1 => dspJsr n
    | 2 => dspRts n
    | 3 => dspRti n
    | 4 => dspLoop n
    | 5 => dspLoopr n
    | 6 => dspRep n
    | 7 => dspRepr n
    | 8 => dspLexit n
    | 9 => fun _ => dspBlkend n
    | 10 => dspTrap n
    | _ => dspHalt n) s

end Sys2Proof.Machine
end

