-- ==== Sys2Proof/Machine/DspUnit.lean ====
section
/-!
DEFINITION. What surrounds a DSP core: its enable, interrupts, input queues, the deadlines of its blocks, and its stop
(R401, R404, R405, R407, R409, R410, R412, R413, R416 to R418, R421, R422).
-/
namespace Sys2Proof.Machine

open Host (Outcome)

/-! ### Enable (R417, R422) -/

/-- The queue that engine `i` of core `n` names, where the engine is used. -/
def State.qinQueue (s : State) (n i : Nat) : Option Nat :=
  if s.flag .DSP_QIN_EN (2 * n + i) then some (s.get .DSP_QIN_QUEUE (2 * n + i)) else none

/-- Another engine of an enabled core, or the core's own other engine, names the queue. -/
def State.queueTaken (s : State) (n i q : Nat) : Bool :=
  s.qinQueue n (1 - i) == some q
    || (List.range 32).any (fun x => x != n && s.running .dsp x && (s.qinQueue x 0 == some q || s.qinQueue x 1 == some q))

/-- An input queue is unusable (0xB4). -/
def State.qinBad (s : State) (n i : Nat) : Bool :=
  match s.qinQueue n i with
  | some q => !s.running .queue q || s.get .PKT_Q_CONS_AGENT q != 6 || s.queueTaken n i q
  | none => false

/-- Ring `i` of core `n` as an X address range, where its engine is used. -/
def State.ringRange (s : State) (n i : Nat) : Option (Nat × Nat) :=
  if s.flag .DSP_QIN_EN (2 * n + i) then some (s.get .DSP_QIN_RING_BASE (2 * n + i), s.ringSize n i) else none

/-- A ring is misaligned, outside its range, or of a size out of range (0xB5). -/
def State.ringBad (s : State) (n i : Nat) : Bool :=
  match s.ringRange n i with
  | some r =>
    let l := s.get .DSP_QIN_RING_LOG2 (2 * n + i)
    l < 6 || 13 < l || r.1 % r.2 != 0 || 0x3FF0 < r.1 + r.2
  | none => false

/-- The exchange areas leave their memories, or the tap area meets a ring (0xB3). -/
def State.areaBad (s : State) (n : Nat) : Bool :=
  let b := 2 * s.blockLen n
  let tap := (s.get .DSP_XCH_BUF_X_TAP n, b * s.get .DSP_XCH_TAP_TAP_COUNT n)
  let ret := (s.get .DSP_XCH_BUF_Y_RET n, b * s.get .DSP_XCH_RET_RET_COUNT n)
  let meets := fun i => (s.ringRange n i).any (runsMeet tap)
  (tap.2 != 0 && (0x3FF0 < tap.1 + tap.2 || meets 0 || meets 1)) || (ret.2 != 0 && 0x4000 < ret.1 + ret.2)

/-- A core's own codes, in their order (R417). -/
def State.dspOwnCode (s : State) (n : Nat) : Nat :=
  let tap := (s.get .DSP_XCH_TAP_TAP_BASE n, s.get .DSP_XCH_TAP_TAP_COUNT n)
  let ret := s.coreRun n
  if s.qinBad n 0 || s.qinBad n 1 then 0xB4
  else if s.ringBad n 0 || s.ringBad n 1 then 0xB5
  else if tap.2 ≠ 0 ∧ s.runOutside tap then 0xB2
  else if ret.2 ≠ 0 ∧ (s.runOutside ret ∨ (s.fedRuns 784 n).any (runsMeet ret)) then 0xB1
  else if s.areaBad n then 0xB3 else 0

/-- The core starts at 0x0000 with every register zero (R381, R409, R417). -/
def dspStarted (n : Nat) (s : State) : State := ((putCore n .idle s).put .DSP_CORE_STAT_STATE n 1).put .DSP_CORE_STAT_FAULT n 0

/-- EN was cleared (R407, R418): a core that runs stops at its own step; another is disabled at once. -/
def dspCleared (n : Nat) (s : State) : State :=
  if s.dspLive n then s else s.put .DSP_CORE_STAT_STATE n 0

/-- No REP runs and no delay slot is outstanding (R405). -/
def DspCore.atBoundary (c : DspCore) : Bool := c.rep.isNone && c.slots == 0

/-- DSP_CORE_STOP (R407): a core whose EN was cleared stops at its next boundary. -/
def execDspCoreStop (n : Nat) (s : State) : Outcome State Fault Refusal :=
  .next (onlyIf (n < 32 && !s.en .dsp n && s.dspLive n && (s.core n).atBoundary) (fun s =>
    let c := (s.core n).land
    ((putCore n c s).put .DSP_CORE_STAT_STATE n 0).put .DSP_CORE_STAT_PC n c.pc) s)

/-- Entering Quiet clears EN on every core and loses its memories (R418). -/
def dspQuiet (s : State) : State :=
  forAll (List.range 32) (fun n s =>
    let s := ((s.put .UNIT_EN (UnitKind.code .dsp n) 0).put .CHECK_ENABLED (UnitKind.code .dsp n) 0).put .DSP_CORE_STAT_STATE n 0
    { s with mem := s.mem.filter (fun c => c.1 < dspWindow n || dspWindow n + 0x30000 ≤ c.1) }) s

/-! ### Interrupts (R401, R404, R405) -/

/-- Offset of a register in core `n`'s window (R420). -/
def dspOff (n o : Nat) : Nat := 0xA00000 + 0x40000 * n + o

/-- DSP_DOORBELL: a write of DSP_CORE_DOORBELL (R404, R420). -/
def execDspDoorbell (m : Master) (n : Nat) (s : State) : Outcome State Fault Refusal :=
  .next (onlyIf (n < 32) (writeGated m (dspOff n 0x30014) (fun s =>
    if s.dspLive n then putCore n { s.core n with doorbell := true } s
    else refuse 0xB7 (wordOf (dspOff n 0x30014)) m s)) s)

/-- Entry into a handler (R403, R405): loads complete, the next instruction's address and SR are pushed, IE and LACT clear. -/
def dspEnter (n vector : Nat) (s : State) : State :=
  dspPush n (s.core n).pc (fun s =>
    let c := (s.core n).land
    let waited := if s.get .DSP_CORE_STAT_STATE n = 2 then (s.tick - c.waitTick) * 15 / 4 else 0
    let c := ((c.putSr 29 false).putSr 31 false)
    (putCore n { c with pc := vector, cycles := c.cycles + 4 + waited } s).put .DSP_CORE_STAT_STATE n 1) s

/-- DSP_INTERRUPT (R401, R404, R405): the doorbell first, then the queue interrupt. -/
def execDspInterrupt (n : Nat) (s : State) : Outcome State Fault Refusal :=
  let c := s.core n
  .next (if s.dspLive n && c.srBit 29 && c.atBoundary then
      if c.doorbell && s.flag .DSP_CORE_CTRL_DB_IRQ n then dspEnter n 0x0004 (putCore n { c with doorbell := false } s)
      else if c.queueIrq && s.flag .DSP_CORE_CTRL_Q_IRQ n then dspEnter n 0x0008 (putCore n { c with queueIrq := false } s)
      else s
    else s)

/-! ### Input queues (R412, R413) -/

/-- The 32-bit words of an item, each 64-bit word low half first. -/
def itemHalves (it : Item) : List Nat := (it.header :: it.payload).flatMap (fun w => [w % 2 ^ 32, w / 2 ^ 32 % 2 ^ 32])

/-- Write words into a ring from a pointer value on. -/
def ringPut (n i p : Nat) : List Nat → State → State
  | [], s => s
  | w :: ws, s =>
    let a := s.get .DSP_QIN_RING_BASE (2 * n + i) + p % s.ringSize n i
    ringPut n i (p + 1) ws (s.memPut (dspWindow n + 0x10000 + 4 * a) 4 w)

/-- An engine copies the item at the head of its queue whole, if it fits (R412). -/
def copyItem (n i q : Nat) (it : Item) (s : State) : State :=
  let ws := itemHalves it
  let size := s.ringSize n i
  if itemType it.header = 0xFF then queuePop q s
  else if size < ws.length then
    dspCause n 7 0 (queuePop q (s.bump (if i = 0 then .DSP_QIN_DROP_Q0 else .DSP_QIN_DROP_Q1) n))
  else if size < s.ringFill n i + ws.length then s
  else
    let c := s.core n
    let wr := c.qinWr.getD i 0
    let was := s.ringFill n i == 0
    let s := ringPut n i wr ws (queuePop q s)
    putCore n { s.core n with qinWr := c.qinWr.set i ((wr + ws.length) % (2 * size)), queueIrq := c.queueIrq || was } s

/-- QIN_ITEM_COPY: engine `i` of core `n` (R404, R412, R413). -/
def execQinItemCopy (n i : Nat) (s : State) : Outcome State Fault Refusal :=
  .next (match s.qinQueue n i with
    | some q => onlyIf (i < 2 && s.running .dsp n && s.qOpen q) (fun s =>
        match s.qHead q with
        | some it => copyItem n i q it s
        | none => s) s
    | none => s)

/-! ### Blocks (R409, R410) -/

/-- BLOCK_PENDING: at sample (j+1)B block `j` is pending; a core that waits in BLKEND takes it (R409). -/
def execBlockPending (n j : Nat) (s : State) : Outcome State Fault Refusal :=
  .next (onlyIf (s.dspLive n && s.running .dsp n) (fun s =>
    let c := s.core n
    let waits := s.get .DSP_CORE_STAT_STATE n == 2
    let waited := if waits then (s.tick - c.waitTick) * 15 / 4 else 0
    let s := putCore n { c with pendingBlocks := c.pendingBlocks ++ [j], due := j :: c.due, cycles := c.cycles + waited } s
    onlyIf waits (takeBlock n) s) s)

/-- RETURN_DEADLINE: at sample (j+2)B the returns of block `j` are due (R410): those not released are zero, counted late. -/
def execReturnDeadline (n j : Nat) (s : State) : Outcome State Fault Refusal :=
  .next (onlyIf (s.dspLive n && s.running .dsp n && (s.core n).due.contains j) (fun s =>
    let c := s.core n
    let ok := c.released.contains j
    let s := putCore n { c with due := c.due.filter (· != j), released := c.released.filter (fun x => x == j || j < x) } s
    onlyIf (!ok) (fun s => dspCause n 2 0 (s.bump .DSP_BLK_STAT_LATE n)) s) s)

/-- Return word of channel `c` of core `n` at sample `k` (R408, R410, R495). -/
def State.returnWord (s : State) (n c k : Nat) : Nat :=
  let b := s.blockLen n
  let j := k / b - 2
  if 2 ≤ k / b && !s.inSafe && s.dspLive n && s.running .dsp n && s.get .DSP_CORE_CTRL_MODE n == 0 && (s.core n).released.contains j then
    s.readY n ((s.get .DSP_XCH_BUF_Y_RET n + j % 2 * b * s.get .DSP_XCH_RET_RET_COUNT n + c * b + k % b) % 2 ^ 14)
  else 0

/-- The engine writes the tap words of a sample (R408). -/
def writeTaps (n k : Nat) (word : Nat → Nat) (s : State) : State :=
  let b := s.blockLen n
  let count := s.get .DSP_XCH_TAP_TAP_COUNT n
  let base := s.get .DSP_XCH_BUF_X_TAP n + k / b % 2 * b * count + k % b
  forAll (List.range count) (fun c s =>
    s.memPut (dspWindow n + 0x10000 + 4 * (base + c * b)) 4 (word (s.get .DSP_XCH_TAP_TAP_BASE n + c))) s

end Sys2Proof.Machine
end

