-- ==== Sys2Proof/Machine/Audio.lean ====
section
/-!
DEFINITION. The audio matrix: routing, remote channels, the PDM front end, the output stage, the evacuation override, commits
and ports (R333 to R378), and the crossfade of embedded audio (R121 to R123).
-/
namespace Sys2Proof.Machine

open Host (Outcome)

/-! ### Words (R335, R364, R367) -/

/-- Silence as a SOURCE (R339). -/
def audSilence : Nat := 0x3FFFF

/-- SAMPLE of a word. -/
def sampleOf (w : Nat) : Int := toSigned 24 (w / 256)

/-- The word with another SAMPLE, its low byte unchanged. -/
def withSample (w : Nat) (x : Int) : Nat := 256 * ofSigned 24 x + w % 256

/-- Sample `j` of a ramp over `m` samples (R364): SAMPLE times (j + 1) / m, towards zero. -/
def rampWord (m j w : Nat) : Nat := withSample w ((sampleOf w * (j + 1 : Nat)).tdiv m)

/-- A word under a ramp of which `left` samples remain, this one included; 0 is no ramp. -/
def rampLeft (m left w : Nat) : Nat := if left = 0 ∨ m < left then w else rampWord m (m - left) w

/-- Largest x below 2^n with p x, for a p that holds up to some number and fails from there on. -/
def largestBelow (p : Nat → Bool) : Nat → Nat → Nat
  | 0, x => x
  | n + 1, x => largestBelow p n (if p (x + 2 ^ n) then x + 2 ^ n else x)

/-- 10^(g / 200) in Q4.28, rounded to nearest; zero at −1,200 or below (R367). -/
def gainFactor (g : Int) : Nat :=
  if g ≤ -1200 then 0
  else
    let num := 2 ^ (29 * 200) * 10 ^ g.toNat
    let den := 10 ^ (-g).toNat
    largestBelow (fun x => (2 * x - 1) ^ 200 * den ≤ num) 33 0

/-- The largest magnitude that a ceiling of `c` tenths of a decibel passes (R367). -/
def ceilingMax (c : Nat) : Nat := largestBelow (fun x => x ^ 200 * 10 ^ c ≤ (2 ^ 23 - 1) ^ 200) 23 0

/-- A word times a Q4.28 factor, rounded half up and saturated to 24 bits (R367). -/
def gained (factor w : Nat) : Nat :=
  withSample w (clampInt (-(2 ^ 23)) (2 ^ 23 - 1) ((sampleOf w * (factor : Int) + 2 ^ 27) / 2 ^ 28))

/-- GAIN of output channel `c`. -/
def State.gainOf (s : State) (c : Nat) : Int := toSigned 16 (s.get .AUD_OUT0_GAIN c)

/-- The factor of output channel `c` at this sample, `left` samples of its movement remaining with this one (R367). -/
def State.factorAt (s : State) (c left : Nat) : Nat :=
  let aim := gainFactor (s.gainOf c)
  if left = 0 then aim
  else
    let old : Int := s.get .AUD_GAIN_FROM c
    ((old * 128 + ((aim : Int) - old) * (2 * (65 - left) : Nat) + 64) / 128).toNat

/-- The output stage on one word (R367): the word that leaves, and whether the ceiling clipped it. -/
def State.outputStage (s : State) (c w : Nat) : Nat × Bool :=
  let g := s.get .AUD_GAIN_LEFT c
  let f := s.factorAt c g
  let w := if f = 2 ^ 28 then w else gained f w
  let ceil := s.get .AUD_OUT1_CEILING c
  if ceil = 0 then (w, false)
  else
    let m : Int := ceilingMax ceil
    let x := clampInt (-m) m (sampleOf w)
    (withSample w x, x != sampleOf w)

/-! ### Sources (R339, R340, R346 to R348) -/

/-- The source names a channel of another device (R339). -/
def State.audRemote (s : State) (src : Nat) : Bool := src < 196608 && src / 16384 != s.position

/-- The source exists in some device (R341). -/
def State.audExists (s : State) (src : Nat) : Bool :=
  src == audSilence || (src < 196608
    && (bitsAt (s.get .FAB_POS_MASK_POSITIONS) (src / 16384) 1 == 1 || src / 16384 == s.position) && src % 16384 < s.matrixSize)

/-- The receive stream of a remote source's group. -/
def State.groupStream (s : State) (src : Nat) : Option RxStream :=
  s.rx.find? (fun r => r.kind == 2 && r.src == groupOf src && r.home == src / 16384)

/-- The group was refused, or its stream has ended (R341). -/
def State.groupRefused (s : State) (src : Nat) : Bool :=
  match s.groupStream src with
  | some r => r.st == 4
  | none => !s.subWait.any (fun w => w.kind == 2 && w.src == groupOf src && w.home == src / 16384)

/-- The group of a source is ready: two consecutive complete spans have landed (R346). -/
def State.groupReady (s : State) (src : Nat) : Bool :=
  !s.audRemote src || (s.groupStream src).any (fun r => (r.st == 1 || r.st == 3) && 2 ≤ r.spans)

/-- Request the group of a remote source (R340). -/
def requestGroup (src : Nat) (s : State) : State :=
  onlyIf (s.running .aud && s.canRequest && s.audRemote src)
    (requestStream 2 (groupOf src) (src / 16384) 1 (s.get .AUD_CTRL_FS) .shared) s

/-- Request every group that a draft names: the later of the two enables is accepted, or the drafts were placed (R340). -/
def requestGroups (s : State) : State := forAll ((s.entries .AUD_DRAFT_SOURCE).filter (fun e => e.1 < s.matrixSize)) (fun e => requestGroup e.2) s

/-- Offset of AUD_DRAFT of output channel `c` (R376). -/
def audDraftOff (c : Nat) : Nat := 0x910000 + 4 * c

/-- AUD_DRAFT_WRITE (R339, R340, R376). -/
def execAudDraftWrite (m : Master) (c v : Nat) (s : State) : Outcome State Fault Refusal :=
  .next (onlyIf (c < 16384) (writeGated m (audDraftOff c) (fun s =>
    if s.matrixSize ≤ c then s
    else
      let s := writeWord m (audDraftOff c) v s
      requestGroup (s.get .AUD_DRAFT_SOURCE c) s)) s)

/-- GROUP_RELEASE: no draft or live entry names a channel of group entry `g` (R346): the release takes effect at the end of
the span that follows. -/
def execGroupRelease (g : Nat) (s : State) : Outcome State Fault Refusal :=
  .next (match s.rx.find? (fun r => r.kind == 2 && r.rxg == g) with
    | some r => releaseStream r.slot s
    | none => s)

/-! ### Commits (R341 to R343) -/

/-- Offset of AUD_COMMIT (R376). -/
def audCommitOff : Nat := 0x900014

/-- The draft entries of AUD_COMMIT_RANGE. -/
def State.rangeEntries (s : State) : List (Nat × Nat) :=
  (List.range (s.get .AUD_COMMIT_RANGE_COUNT)).map (fun i =>
    (s.get .AUD_COMMIT_RANGE_FIRST + i, s.get .AUD_DRAFT_SOURCE (s.get .AUD_COMMIT_RANGE_FIRST + i)))

/-- The checks of an audio commit, in their order (R341). -/
def State.audCommitCode (s : State) (v : Nat) : Nat :=
  let at_ := bitsAt v 29 1 == 1
  let count := s.get .AUD_COMMIT_RANGE_COUNT
  let es := s.rangeEntries
  let remote := es.filter (fun e => s.audRemote e.2)
  if !s.running .aud || (at_ && !s.running .atlas) then 0x05
  else if s.inQuiet || s.inSafe then 0x08
  else if s.audCommit.isSome then 0xA7
  else if count = 0 ∨ s.matrixSize < s.get .AUD_COMMIT_RANGE_FIRST + count ∨ (at_ ∧ !formatValid (bitsAt v 0 8)) then 0x04
  else if es.any (fun e => !s.audExists e.2) then 0xA6
  else if !remote.isEmpty && (!s.running .fabric || !s.positioned) then 0xAB
  else if remote.any (fun e => s.groupRefused e.2) then 0xA8
  else 0

/-- AUDIO_COMMIT: a write of AUD_COMMIT with GO (R341, R342, R376). With CANCEL as well it is refused, and is no GO. -/
def execAudioCommit (m : Master) (v : Nat) (s : State) : Outcome State Fault Refusal :=
  .next (writeGated m audCommitOff (fun s =>
    if bitsAt v 30 1 = 1 then refuse 0x04 (wordOf audCommitOff) m s else
    let code := s.audCommitCode v
    let s := (s.inc .AUD_COMMIT_RESULT_TAG).put .AUD_COMMIT_RESULT_REASON 0 code
    if code ≠ 0 then refuse code (wordOf audCommitOff) m s
    else
      let f := bitsAt v 0 8
      let at_ := bitsAt v 29 1 == 1
      let c : AudCommit := ⟨s.rangeEntries, m, if at_ then some f else none, s.get .ATL_N_DECIDED f + 1, 0, s.get .ATL_CTRL_SLIP_LIMIT,
        s.get .AUD_K, false, false⟩
      { s with audCommit := some c }.put .AUD_COMMIT_RESULT_WAITED 0 0) s)

/-- The pending commit is refused after its acceptance (R78, R342, R343, R378). -/
def refuseAudio (code : Nat) (c : AudCommit) (s : State) : State :=
  notice 329 (refuse code (wordOf audCommitOff) c.master ({ s with audCommit := none }.put .AUD_COMMIT_RESULT_REASON 0 code))

/-- AUDIO_CANCEL: a write of AUD_COMMIT with CANCEL and without GO (R343). -/
def execAudioCancel (m : Master) (s : State) : Outcome State Fault Refusal :=
  .next (writeGated m audCommitOff (fun s =>
    match s.audCommit with
    | some c => if c.taken then s else refuseAudio 0xAC c s
    | none => s) s)

/-- Milliseconds, or slips, that a commit has waited. -/
def State.audWaited (s : State) (c : AudCommit) : Nat :=
  min 255 (if c.meridian.isSome then c.slips else (s.get .AUD_K - c.startK) / s.perMs)

/-- AUDIO_COMMIT_TIMEOUT: WAIT_MS milliseconds after validation (R342). -/
def execAudioCommitTimeout (s : State) : Outcome State Fault Refusal :=
  .next (match s.audCommit with
    | some c => onlyIf (c.meridian.isNone && !c.ready)
        (fun s => refuseAudio 0xA5 c (s.put .AUD_COMMIT_RESULT_WAITED 0 (min 255 (s.get .AUD_CTRL_WAIT_MS)))) s
    | none => s)

/-- Every remote group that a commit names is ready (R342). -/
def State.audReady (s : State) (c : AudCommit) : Bool := c.entries.all (fun e => s.groupReady e.2)

/-- The decision point of frame `n` of a format for the audio commit (R105, R342). -/
def audioDecision (f n : Nat) (s : State) : State :=
  match s.audCommit with
  | some c =>
    if c.meridian ≠ some f ∨ c.target ≠ n ∨ c.taken then s
    else if s.audReady c then { s with audCommit := some { c with taken := true } }
    else if c.entries.any (fun e => s.audRemote e.2 && s.groupRefused e.2) then refuseAudio 0xA8 c s
    else if c.slips < c.slipLimit then
      notice 186 ({ s with audCommit := some { c with slips := c.slips + 1, target := c.target + 1 } }.put .AUD_COMMIT_RESULT_WAITED 0
        (min 255 (c.slips + 1)))
    else refuseAudio 0xA5 c s
  | none => s

/-- Sample `k` lies at or after the meridian of frame `n` of a format plus 64 µs (R342). -/
def State.afterMeridian (s : State) (f n k : Nat) : Bool :=
  let p := framePeriod f
  let lines := linesPerFrame f
  decide (s.audRate * (n * p.1 * 1000000000 * lines + (switchLine f - 1) * p.1 * 1000000000 + 64000 * p.2 * lines)
    ≤ k * 1000000000 * p.2 * lines)

/-- The commit takes effect (R343). -/
def applyAudio (c : AudCommit) (s : State) : State :=
  let s := { s with audCommit := none }.put .AUD_COMMIT_RESULT_WAITED 0 (s.audWaited c)
  notice 328 (forAll c.entries (fun e s =>
    (s.put .AUD_LIVE_SOURCE e.1 e.2).putFlag .AUD_LIVE_REMOTE e.1 (s.audRemote e.2) |>.put .AUD_LIVE_MISSING e.1 0) s)

/-- The audio commit at sample `k` (R342): one that was ready at an earlier sample takes effect at this one. -/
def sampleCommit (k : Nat) (s : State) : State :=
  match s.audCommit with
  | some c => match c.meridian with
    | some f => onlyIf (c.taken && s.afterMeridian f c.target k) (applyAudio c) s
    | none => if c.ready then applyAudio c s
      else onlyIf (s.audReady c) (fun s => { s with audCommit := some { c with ready := true } }) s
  | none => s

/-! ### The input side (R337, R347, R352, R355, R361, R364, R365) -/

/-- Word of a channel in a frame of words. -/
def frameWord (fr : List (Nat × Nat)) (c : Nat) : Nat := ((fr.find? (·.1 == c)).map (·.2)).getD 0

/-- Slot of a TDM port carries data in the frame that runs (R355). -/
def slotOpen (now prev slot : Nat) : Bool := bitsAt now slot 1 == 1 && bitsAt prev slot 1 == 1

/-- Words that a packet port reads at sample `k` (R352). -/
def State.packetWords (s : State) (p k : Nat) : Option (List Nat) :=
  let want := (k + 2 ^ 32 - s.get .AUD_PORT_PLAYOUT p % 2 ^ 32) % 2 ^ 32
  (s.audArrived.find? (fun a => a.port == p && a.k == want)).map (·.words)

/-- Words that port `p` brings to sample `k`, before its mute and its ramp, and what the read counts: a missing packet sample
reads zero; elsewhere the last sample is repeated, on TDM and PDM at most twice. The frame that a slip broke is no new sample
(R362; DEDUCED, log entry 130). -/
def portWords (p k : Nat) (given : Option (List Nat)) (last : List Nat) (s : State) : List Nat × State :=
  let n := last.length
  let given := if s.flag .AUD_SLIPPED p then none else given
  let s := s.put .AUD_SLIPPED p 0
  if portKind p = 4 then
    match s.packetWords p k with
    | some ws => (ws, s)
    | none => (List.replicate n 0, portUnderrun p 1 s)
  else match given with
    | some ws => (ws, s.put .AUD_REPEATS p 0)
    | none =>
      if portKind p ≤ 1 ∧ 2 ≤ s.get .AUD_REPEATS p then (List.replicate n 0, s)
      else (last, portUnderrun p 1 (s.bump .AUD_REPEATS p))

/-- The input channels of port `p` at sample `k`, and what reading them leaves. -/
def portFrame (ins : List AudioIn) (k p : Nat) (acc : List (Nat × Nat) × State) : List (Nat × Nat) × State :=
  let s := acc.2
  match s.portInRun p with
  | none => acc
  | some r =>
    if s.portState p ≠ 3 then acc
    else
      let last := (List.range r.2).map (fun i => frameWord (s.audFrames.headD []) (r.1 + i))
      let x := portWords p k (((ins.find? (·.port == p)).bind (·.words)).map (fun ws => (List.range r.2).map (fun i => ws.getD i 0))) last s
      let s := x.2
      let left := s.get .AUD_RAMP_LEFT p
      let tdm := portKind p == 0
      let ws := (List.range r.2).map (fun i =>
        if tdm && !slotOpen (s.get .AUD_MASK_IN_LATCHED p) (s.get .AUD_MASK_IN_PREV p) i then 0
        else
          let w := x.1.getD i 0 % 2 ^ 32
          rampLeft s.perMs left (if tdm then w else w / 16 * 16))
      (acc.1 ++ ((List.range r.2).map (fun i => (r.1 + i, ws.getD i 0))).filter (fun e => e.2 != 0), s)

/-- The input channels that the cores return at sample `k` (R408). -/
def State.coreFrame (s : State) (k : Nat) : List (Nat × Nat) :=
  ((List.range 32).filter (fun n => s.running .dsp n)).flatMap (fun n =>
    let r := s.coreRun n
    ((List.range r.2).map (fun c => (r.1 + c, s.returnWord n c k))).filter (fun e => e.2 != 0))

/-- Repetitions and overwrites at the ports' own clocks (R365). -/
def countBuffers (ins : List AudioIn) (s : State) : State :=
  forAll ins (fun x s => onlyIf (s.portState x.port == 3)
    (fun s => portOverrun x.port x.overwrites (portUnderrun x.port x.repeats s)) s) s

/-- Take in the local input channels of sample `k` (R337). -/
def takeInputs (ins : List AudioIn) (k : Nat) (s : State) : State :=
  let ports := (List.range 784).filter (fun p => s.running .port p)
  let x := ports.foldl (fun acc p => portFrame ins k p acc) ([], s)
  let s := countBuffers ins x.2
  let s := { s with audFrames := (x.1 ++ s.coreFrame k) :: s.audFrames.take 8 }
  let old := fun (a : AudArrival) => behind32 a.k ((k + 2 ^ 32 + 1 - s.get .AUD_PORT_PLAYOUT a.port) % 2 ^ 32)
  { s with audArrived := s.audArrived.filter (fun a => !old a) }

/-- The samples by which remote channels, and local ones with ALIGN_LOCAL, are delayed (R347). -/
def State.audDelay (s : State) : Nat := if s.fs96 then 8 else 4

/-- A local input channel as the outputs read it (R347). -/
def State.localWord (s : State) (c : Nat) : Nat :=
  frameWord (s.audFrames.getD (if s.flag .AUD_CTRL_ALIGN_LOCAL then s.audDelay else 0) []) c

/-- Word of a remote channel at sample `k`, where it has landed (R347). -/
def State.remoteWord (s : State) (src k : Nat) : Option Nat :=
  let j := k - s.audDelay
  (s.groupStream src).bind (fun r =>
    let ps := linePieces r (j / s.perMs % 2 ^ 16) 4 (j % s.perMs)
    ((List.range 4).mapM (fun i => byteAt ps (4 * (src % 64) + i))).map leNat)

/-- Word that the live atlas delivers from a source at sample `k`. -/
def State.routed (s : State) (src k : Nat) : Nat :=
  if 196608 ≤ src then 0
  else if s.audRemote src then (s.remoteWord src k).getD 0
  else s.localWord (src % 16384)

/-- The live entries that name a channel. -/
def State.liveEntries (s : State) : List (Nat × Nat) :=
  (s.entries .AUD_LIVE_SOURCE).filter (fun e => e.1 < s.matrixSize && e.2 != audSilence)

/-- Missing remote samples: MISSING of each group once a sample, and AUD_LIVE.MISSING of every channel (R348). -/
def countMissing (k : Nat) (s : State) : State :=
  let es := s.liveEntries.filter (fun e => s.audRemote e.2)
  let gone := es.filter (fun e => (s.remoteWord e.2 k).isNone)
  let gs := (gone.filterMap (fun e => (s.groupStream e.2).map (·.rxg))).eraseDups
  let s := forAll gs (fun g s => s.bump .AUD_RXG_MISSING g) s
  forAll es (fun e s => s.putFlag .AUD_LIVE_MISSING e.1 (gone.any (·.1 == e.1))) s

/-- A whole span of a group is missing once its last sample has been read (R348). -/
def judgeSpans (k : Nat) (s : State) : State :=
  let j := k - s.audDelay
  if j % s.perMs + 1 ≠ s.perMs then s
  else
    let ms := j / s.perMs
    forAll (s.rx.filter (fun r => r.kind == 2 && r.st == 1 && !behind32 (ms % 2 ^ 32) r.first)) (fun r s =>
      onlyIf (!r.pieces.any (fun p => p.span == ms % 2 ^ 16) && (markerFor r (ms % 2 ^ 16)).isNone)
        (fun s => groupLoss r.rxg true (mapRxSlot r.slot (fun x => { x with spans := 0, good := 0 }) s)) s) s

/-- The words of the home groups that are being sent (R345). -/
def keepGroups (k : Nat) (s : State) : State :=
  let gs := ((s.tx.filter (fun t => t.kind == 2)).map (·.src)).eraseDups
  let fr := s.audFrames.headD []
  let now := gs.map (fun g => (⟨g, k, (List.range 64).map (fun i => frameWord fr (64 * g + i))⟩ : GroupSample))
  { s with groupHist := now ++ s.groupHist.filter (fun x => k ≤ x.k + 3 * s.perMs) }

/-! ### The PDM front end (R356 to R358) -/

/-- One modulator bit through the five integrators. -/
def integrate (bit : Bool) (st : List Int) : List Int :=
  let go := fun (acc : List Int × Int) (y : Int) => (acc.1 ++ [y + acc.2], y + acc.2)
  (st.foldl go ([], if bit then 1 else -1)).1

/-- A decimated value through the five combs: their new states and the result. -/
def combs (x : Int) (st : List Int) : List Int × Int :=
  let go := fun (acc : List Int × Int) (y : Int) => (acc.1 ++ [acc.2], acc.2 - y)
  st.foldl go ([], x)

/-- One CIC output from `m` bits (R357): the states (integrators, combs) and the Q1.31 word. -/
def cicOutput (m : Nat) (bits : List Bool) (st : List Int) : List Int × Nat :=
  let is := bits.foldl (fun x b => integrate b x) (st.take 5)
  let c := combs (is.getD 4 0) (st.drop 5)
  let shift := if m = 8 then 16 else 11
  (is ++ c.1, ofSigned 32 (clampInt (-(2 ^ 31)) (2 ^ 31 - 1) (c.2 * 2 ^ shift)))

/-- The outputs of a channel in one sample period, oldest first. -/
def cicChannel (m : Nat) : Nat → List Bool → List Int → List Int × List Nat
  | 0, _, st => (st, [])
  | n + 1, bits, st =>
    let x := cicOutput m (bits.take m) st
    let y := cicChannel m n (bits.drop m) x.1
    (y.1, x.2 :: y.2)

/-- CIC states of PDM port `p`, one list per channel. -/
def State.cicOf (s : State) (p : Nat) : List (List Int) :=
  ((s.cic.find? (·.1 == p)).map (·.2)).getD (List.replicate 8 (List.replicate 10 0))

/-- Clock edges per CIC output (R357). -/
def State.pdmRatio (s : State) (p : Nat) : Nat := (if bitsAt (s.portSetting p) 0 1 = 1 then 6144000 else 3072000) / (8 * s.audRate)

/-- The item of PDM port `p` at sample `k` (R357, R358): a muted port delivers zero. -/
def pdmItem (ins : List AudioIn) (k p : Nat) (s : State) : State :=
  let bits := ((ins.find? (·.port == p)).map (·.bits)).getD []
  let st := s.cicOf p
  let chans := (List.range 8).map (fun c => cicChannel (s.pdmRatio p) 8 (bits.getD c []) (st.getD c []))
  let runs := s.portState p == 3 && !bits.isEmpty
  let word := fun o => if runs then (((chans.getD (o % 8) ([], [])).2).getD (o / 8) 0) else 0
  let s := if bits.isEmpty then s else { s with cic := (p, chans.map (·.1)) :: s.cic.filter (fun x => x.1 != p) }
  queuePush (s.get .AUD_PORT_QUEUE p) 5 (itemHeader 0x30 32 (65536 * (k % 65536) + (p - 16)))
    ((List.range 32).map (fun w => word (2 * w) + 2 ^ 32 * word (2 * w + 1))) s

/-! ### The evacuation override (R369 to R373) -/

/-- Section 0x000B, where the image in use has it in its form (R369, R373). -/
def State.evacSection (s : State) : Option (List Byte) :=
  (s.sectionBytes 0x000B).filter (fun b => leNat (b.take 4) == 0x31435645 && leNat ((b.drop 4).take 2) == 1 && 18576 ≤ b.length)

/-- Byte `i` of section 0x000B. -/
def evacByte (b : List Byte) (i : Nat) : Nat := (b.getD i 0).toNat

/-- Little-endian field of section 0x000B. -/
def evacField (b : List Byte) (i n : Nat) : Nat := leNat ((b.drop i).take n)

/-- Output channel `c` is a venue destination (R369, R373). -/
def State.isVenue (s : State) (c : Nat) : Bool :=
  match s.evacSection with
  | some b => bitsAt (evacByte b (16 + c / 8)) (c % 8) 1 == 1
  | none => true

/-- The clip plays: its rate is the matrix's and its directory entry lies within the section (R371). -/
def State.clipGood (s : State) (b : List Byte) (clip : Nat) : Bool :=
  let o := evacField b (18448 + 16 * clip) 4
  let n := evacField b (18452 + 16 * clip) 4
  clip < evacByte b 7 && (evacByte b 6 == 1) == s.fs96 && o % 4 == 0 && 1 ≤ n && 18576 ≤ o && o + 4 * n ≤ b.length

/-- Word of a clip after `pos` samples; it repeats without a gap, and a bad clip is silence (R371). -/
def State.clipWord (s : State) (b : List Byte) (clip pos : Nat) : Nat :=
  if s.clipGood b clip then evacField b (evacField b (18448 + 16 * clip) 4 + 4 * (pos % evacField b (18452 + 16 * clip) 4)) 4 else 0

/-- The designated feed is available (R371): its channel is fed, and not by a muted port. -/
def State.designatedUp (s : State) (b : List Byte) : Bool :=
  let c := evacField b 8 2
  c != 0xFFFF && (match s.feederOf c with
    | some x => s.portState x.1 == 3
    | none => (List.range 32).any (fun n => s.running .dsp n && (s.coreRun n).1 ≤ c && c < (s.coreRun n).1 + (s.coreRun n).2))

/-- What CLIP_MAP gives a venue channel. -/
def clipOf (b : List Byte) (c : Nat) : Nat := evacByte b (2064 + c)

/-- Evacuation audio of venue channel `c` (R370, R371). -/
def State.evacWord (s : State) (c : Nat) : Nat :=
  match s.evacSection with
  | none => 0
  | some b =>
    let pos := s.get .AUD_EVAC_POS
    let fall := if evacByte b 10 = 0xFF then 0 else s.clipWord b (evacByte b 10) pos
    let w := if clipOf b c = 0xFE then (if s.designatedUp b then s.localWord (evacField b 8 2) else fall)
      else s.clipWord b (clipOf b c) pos
    gained (gainFactor (toSigned 16 (evacField b 12 2))) (rampLeft s.perMs (s.perMs - pos) w)

/-- Venue channels of the section, or every channel (R369, R373). -/
def State.venueChannels (s : State) : List Nat := (List.range s.matrixSize).filter s.isVenue

/-- Some venue channel that is mapped takes a clip that does not play. -/
def State.clipFault (s : State) : Bool :=
  match s.evacSection with
  | none => false
  | some b => s.venueChannels.any (fun c => clipOf b c != 0xFE && !s.clipGood b (clipOf b c))
      || (s.venueChannels.any (fun c => clipOf b c == 0xFE) && evacByte b 10 != 0xFF && !s.clipGood b (evacByte b 10))

/-- A venue channel is mapped to the designated feed, which is not available. -/
def State.designatedMissing (s : State) : Bool :=
  match s.evacSection with
  | none => false
  | some b => !s.designatedUp b && s.venueChannels.any (fun c => clipOf b c == 0xFE)

/-- DESIGNATED_LOST follows the designated feed (R371). -/
def judgeDesignated (s : State) : State :=
  let lost := s.designatedMissing
  let was := s.flag .AUD_EVAC_DESIGNATED_LOST
  onlyIf (lost && !was) (notice 358) (s.putFlag .AUD_EVAC_DESIGNATED_LOST 0 lost)

/-- The matrix carries sound: enabled, and neither in Boot nor in Quiet (R375). -/
def State.matrixRuns (s : State) : Bool := s.running .aud && !s.inQuiet && s.handedOver

/-- EVAC_AUDIO_START: the safety activation has reached the matrix, 100 µs to 1 ms ago (R370, R371, R373). -/
def execEvacAudioStart (s : State) : Outcome State Fault Refusal :=
  .next (onlyIf (s.matrixRuns && s.flag .AUD_EVAC_WAIT && !s.flag .AUD_EVAC_ACTIVE) (fun s =>
    let fault := s.clipFault
    let s := ((s.put .AUD_EVAC_ACTIVE 0 1).put .AUD_EVAC_POS 0 0).putFlag .AUD_EVAC_CLIP_FAULT 0 fault
    notice 357 (judgeDesignated (onlyIf fault (notice 358) s))) s)

/-- The override ends once nothing calls for it any more: the venue channels ramp back (R372). -/
def endEvac (s : State) : State :=
  onlyIf (s.flag .AUD_EVAC_ACTIVE && !s.flag .AUD_EVAC_WAIT)
    (fun s => notice 357 ((s.put .AUD_EVAC_ACTIVE 0 0).put .AUD_VENUE_RAMP 0 s.perMs)) s

/-! ### The output side (R336, R343, R351, R354, R367, R372, R374, R375) -/

/-- Word of output channel `c` at sample `k`, and whether the ceiling clipped it. -/
def State.channelWord (s : State) (c k : Nat) : Nat × Bool :=
  let venue := s.isVenue c
  if s.flag .AUD_EVAC_ACTIVE && venue then (s.evacWord c, false)
  else if s.inSafe then (0, false)
  else
    let x := s.outputStage c (s.routed (s.get .AUD_LIVE_SOURCE c) k)
    if venue then (rampLeft s.perMs (s.get .AUD_VENUE_RAMP) x.1, x.2) else x

/-- A word on an AES3-family output (R336): with META 0, V and U are 0, C is the channel status and B starts a block. -/
def State.aesWord (s : State) (p k w : Nat) : Nat :=
  if s.flag .AUD_PORT_CTRL_META p then w
  else w / 256 * 256 + 32 * (Config.channelStatus s.fs96 (k % 192) % 2) + 16 * (if k % 192 = 0 then 1 else 0)

/-- Words that port `p` sends at sample `k`: zero while it is muted (R363), disabled slots zero (R355). -/
def State.portSends (s : State) (p k : Nat) (r : Nat × Nat) : List Nat :=
  (List.range r.2).map (fun i =>
    let w := rampLeft s.perMs (s.get .AUD_RAMP_LEFT p) (s.channelWord (r.1 + i) k).1
    if s.portState p ≠ 3 then 0
    else if portKind p = 0 then (if slotOpen (s.get .AUD_MASK_OUT_LATCHED p) (s.get .AUD_MASK_OUT_PREV p) i then w else 0)
    else s.aesWord p k w)

/-- Audio pins are driven: the claim is held, in Run or in Safe (R374, R375). -/
def State.audDriven (s : State) : Bool := s.flag .TWN_STAT_CLAIM && (s.get .PWR_STAT_STATE == 2 || s.inSafe)

/-- Port `p` drives its output: audio pins as R374 and R375 say, a MADI port as its lane sends (R207). -/
def State.portDrives (s : State) (p : Nat) : Bool := if portKind p = 2 then s.laneCarries (p - 80) else s.audDriven

/-- The frame that TDM port `p` sends with the words `ws` (R354): its slots in order, 32 bits each, MSB first. -/
def State.tdmFrame (s : State) (p : Nat) (ws : List Nat) : TdmFrame :=
  let set := s.portSetting p
  { bits := (List.range (s.tdmSlots p)).flatMap (fun i => (List.range 32).map (fun b => (ws.getD i 0).testBit (31 - b))),
    fsLead := bitsAt set 2 1, fsHigh := bitsAt set 4 1 == 0, drivenRising := bitsAt set 3 1 == 1,
    clockRate := s.tdmSlots p * 32 * s.audRate, drivesClock := s.flag .AUD_PORT_CTRL_MASTER p && s.audDriven }

/-- The ports send sample `k`; embedding windows go with their destinations. -/
def sendPorts (k : Nat) (s : State) : State :=
  forAll ((List.range 784).filter (fun p => s.running .port p && portKind p != 3)) (fun p s =>
    match s.portOutRun p with
    | some r =>
      let ws := s.portSends p k r
      s.emit (.audio p k (s.portDrives p) ws (if portKind p = 0 then some (s.tdmFrame p ws) else none))
    | none => s) s

/-- Words of embedding window `d` at sample `k`, none where the window does not send (R351). -/
def State.windowWords (s : State) (d k : Nat) : List (Option Nat) :=
  let p := 176 + d
  match (if s.running .port p then s.portOutRun p else none) with
  | some r => (s.portSends p k r).map some
  | none => List.replicate 16 none

/-- The crossfade of R121 at sample `j`. -/
def crossfade (j a b : Nat) : Nat :=
  ofSigned 32 ((toSigned 32 a * (127 - 2 * (j : Int)) + toSigned 32 b * (2 * j + 1) + 64) / 128)

/-- Embedded audio of a video source as a destination's loss action delivers it (R116). -/
def State.embeddedNow (s : State) (d : Nat) (ws : List (Option Nat)) : List (Option Nat) :=
  let state := if s.inSafe && s.get .ATL_LIVE_SOURCE d != 0x7FF then s.safeState d else s.innerState d
  if state = 0 then ws
  else if state = 3 then ws.map (fun x => some (x.getD 0))
  else List.replicate 16 (some 0)

/-- Embedded audio of destination `d` at sample `k` (R116, R117, R121 to R123, R343, R351). -/
def State.embeddedWords (s : State) (e : EmbeddedIn) (k : Nat) : List (Option Nat) :=
  let d := e.dest
  let window := s.windowWords d k
  let old := match s.get .AUD_AFV_OLD d with
    | 0 => window
    | 1 => e.old
    | _ => List.replicate 16 (some 0)
  let new := if s.flag .ATL_LIVE_AFV d then s.embeddedNow d e.new else window
  let left := s.get .AUD_AFV_LEFT d
  if s.flag .AUD_AFV_DUE d then old
  else if left = 0 then new
  else (List.range 16).map (fun c =>
    let a := old.getD c none
    let b := new.getD c none
    if e.nonAudio.contains (c / 2) then b
    else if a.isNone && b.isNone then none else some (crossfade (64 - left) (a.getD 0) (b.getD 0)))

/-- The destinations send the embedded audio of sample `k`. -/
def sendEmbedded (es : List EmbeddedIn) (k : Nat) (s : State) : State :=
  forAll ((List.range 96).filter (fun d => s.running .dest d)) (fun d s =>
    let e := (es.find? (·.dest == d)).getD ⟨d, List.replicate 16 none, List.replicate 16 none, []⟩
    let s := s.emit (.embedded d k (s.embeddedWords e k))
    s.put .AUD_AFV_LEFT d (s.get .AUD_AFV_LEFT d - 1)) s

/-- Ceilings that clipped set CLIPPED, and each that was clear raises 356 (R367). -/
def countClips (k : Nat) (s : State) : State :=
  let cs := (s.liveEntries.map (·.1)).filter (fun c => (s.channelWord c k).2)
  forAll cs (fun c s => onlyIf (!s.flag .AUD_OUT0_CLIPPED c) (fun s => notice 356 (s.put .AUD_OUT0_CLIPPED c 1)) s) s

/-- Ramps, gain movements and the evacuation clips move on by one sample. -/
def stepRamps (s : State) : State :=
  let s := forAll (s.entries .AUD_RAMP_LEFT) (fun e s => s.put .AUD_RAMP_LEFT e.1 (e.2 - 1)) s
  let s := forAll (s.entries .AUD_GAIN_LEFT) (fun e s => s.put .AUD_GAIN_LEFT e.1 (e.2 - 1)) s
  let s := s.put .AUD_VENUE_RAMP 0 (s.get .AUD_VENUE_RAMP - 1)
  onlyIf (s.flag .AUD_EVAC_ACTIVE) (fun s => s.put .AUD_EVAC_POS 0 (s.get .AUD_EVAC_POS + 1)) s

/-- The cores' engines tap the words of sample `k` (R408). -/
def tapAll (k : Nat) (s : State) : State :=
  forAll ((List.range 32).filter (fun n => s.running .dsp n)) (fun n s =>
    writeTaps n k (fun c => if c < s.matrixSize then s.routed (s.get .AUD_LIVE_SOURCE c) k else 0) s) s

/-- AUDIO_SAMPLE `k` (R333, R335 to R337, R342, R343, R347, R348, R357, R358, R367, R370 to R372, R408): the
de-embedded words of video sources come with the command (DEDUCED, log entry 128). -/
def execAudioSample (k : Nat) (ins : List AudioIn) (es : List EmbeddedIn) (s : State) : Outcome State Fault Refusal :=
  .next (onlyIf s.matrixRuns (fun s =>
    let s := s.put .AUD_K 0 k
    let group := fun (kind _ : Nat) => kind == 2
    let ms := k / s.perMs
    let s := onlyIf (k % s.perMs == 0) (fun s => breakRuns group (ms % 2 ^ 16) (spanBoundary group (ms % 2 ^ 32) s)) s
    let s := sampleCommit k (endEvac s)
    let s := keepGroups k (takeInputs ins k s)
    let s := forAll ((List.range 64).filter (fun i => s.running .port (16 + i))) (fun i => pdmItem ins k (16 + i)) s
    let s := judgeSpans k (countMissing k s)
    let s := onlyIf (s.flag .AUD_EVAC_ACTIVE) judgeDesignated s
    stepRamps (countClips k (sendEmbedded es k (sendPorts k (tapAll k s))))) s)

/-! ### Gain (R367, R368, R372) -/

/-- Offset of AUD_OUT word 0 of output channel `c` (R376). -/
def audOutOff (c : Nat) : Nat := 0x930000 + 8 * c

/-- A write of AUD_OUT word 0 of output channel `c` (R367, R368): refused whole, or the gain and a 1 that clears CLIPPED. -/
def gainWord (m : Master) (c v hw : Nat) (s : State) : State :=
  let g := toSigned 16 v
  if s.matrixSize ≤ c then s
  else if toSigned 16 (s.get .AUD_OUT1_GAIN_LIMIT c) < g then refuse 0x09 (wordOf (audOutOff c)) m s
  else if g < -1200 then refuse 0x04 (wordOf (audOutOff c)) m s
  else
    let left := s.get .AUD_GAIN_LEFT c
    let now := s.factorAt c (if left = 0 then 0 else left + 1)
    let moved := v % 65536 != s.get .AUD_OUT0_GAIN c
    onlyIf moved (fun s => (s.put .AUD_GAIN_FROM c now).put .AUD_GAIN_LEFT c 64) (writeWordHw m (audOutOff c) v hw s)

/-- GAIN_WRITE: a write of AUD_OUT word 0 of output channel `c` (R367, R368). -/
def execGainWrite (m : Master) (c v : Nat) (s : State) : Outcome State Fault Refusal :=
  .next (onlyIf (c < 16384) (writeGated m (audOutOff c) (gainWord m c v 0)) s)

/-! ### Ports (R355, R359 to R366) -/

/-- TDM_FRAME_SYNC on port `p` (R355, R363): a written mask is latched whole; a slot that it newly enables stays zero for
this frame. A port that was stopped qualifies again. -/
def execTdmFrameSync (p : Nat) (s : State) : Outcome State Fault Refusal :=
  .next (onlyIf (p < 16 && s.running .port p) (fun s =>
    let s := onlyIf (s.portState p == 4 && !s.flag .AUD_PORT_STAT_CLK_PRESENT p && s.portSlave p)
      (fun s => (s.put .AUD_PORT_STAT_STATE p 1).put .AUD_PORT_STAT_CLK_PRESENT p 1) s
    let s := (s.put .AUD_MASK_IN_PREV p (s.get .AUD_MASK_IN_LATCHED p)).put .AUD_MASK_OUT_PREV p (s.get .AUD_MASK_OUT_LATCHED p)
    onlyIf (s.flag .AUD_MASK_WRITTEN p) (fun s =>
      portCause p 8 (((s.put .AUD_MASK_IN_LATCHED p (s.get .AUD_PORT_MASK_IN p)).put .AUD_MASK_OUT_LATCHED p
        (s.get .AUD_PORT_MASK_OUT p)).put .AUD_MASK_WRITTEN p 0)) s) s)

/-- The clock of port `p` stops (R361): it mutes and raises cause STOP. -/
def stopPort (p : Nat) (s : State) : State := portCause p 0 ((mutePort p s).put .AUD_PORT_STAT_CLK_PRESENT p 0)

/-- TDM_STOP on port `p`: two edge windows without an edge (R361). -/
def execTdmStop (p : Nat) (s : State) : Outcome State Fault Refusal :=
  .next (onlyIf (p < 16 && s.running .port p && s.portTicks p) (stopPort p) s)

/-- PDM_STOP on PDM port `q`: two sample periods without clock edges (R361). -/
def execPdmStop (q : Nat) (s : State) : Outcome State Fault Refusal :=
  .next (onlyIf (q < 64 && s.running .port (16 + q) && s.portTicks (16 + q)) (stopPort (16 + q)) s)

/-- TDM_SLIP on TDM or PDM port `p` (R362): counted; a TDM port discards the broken frame and realigns. -/
def execTdmSlip (p : Nat) (s : State) : Outcome State Fault Refusal :=
  .next (onlyIf (p < 80 && s.running .port p) (fun s => portCause p 4 ((s.bump .AUD_PORT_SLIPS p).putFlag .AUD_SLIPPED p (p < 16))) s)

/-- GLITCH on TDM or PDM port `p` (R362). -/
def execGlitch (p : Nat) (s : State) : Outcome State Fault Refusal :=
  .next (onlyIf (p < 80 && s.running .port p) (fun s => portCause p 5 (s.bump .AUD_PORT_GLITCHES p)) s)

/-- Offset of a register of port `p`'s window (R376). -/
def portOff (p o : Nat) : Nat := 0x960000 + 64 * p + o

/-- MASK_WRITE: a write of AUD_PORT_MASK_IN or AUD_PORT_MASK_OUT of TDM port `p` (R355). -/
def execMaskWrite (m : Master) (p : Nat) (out : Bool) (v : Nat) (s : State) : Outcome State Fault Refusal :=
  let off := portOff p (if out then 0x10 else 0x0C)
  .next (onlyIf (p < 784) (writeGated m off (fun s =>
    if portKind p = 0 ∧ !s.maskFits p (v % 2 ^ 32) then refuse 0xAD (wordOf off) m s
    else (writeWord m off v s).put .AUD_MASK_WRITTEN p 1)) s)

/-- Port `p` unmutes: it runs, with the ramp of R364 where `ramp` (R363). -/
def unmutePort (p : Nat) (ramp : Bool) (s : State) : State :=
  portCause p 1 (((s.put .AUD_PORT_STAT_STATE p 3).put .AUD_RAMP_LEFT p (if ramp then s.perMs else 0)).put .AUD_REPEATS p 0)

/-- PORT_QUALIFIED: port `p` has had its clock without fault for long enough (R363, R366); after a safety wake it unmutes
whatever RAMP holds (R548). -/
def execPortQualified (p : Nat) (s : State) : Outcome State Fault Refusal :=
  .next (onlyIf (s.running .port p && (s.portState p == 1 || s.portState p == 4)) (fun s =>
    let s := (s.put .AUD_PORT_STAT_RATE_ERR p 0).put .AUD_PORT_STAT_DOMAIN_ERR p 0
    if s.flag .AUD_PORT_CTRL_RAMP p then unmutePort p true s
    else if s.get .AUD_DAYBREAK_SRC = 0 ∨ s.flag .PWR_STAT_SAFETY_WAKE then unmutePort p false s
    else s.put .AUD_PORT_STAT_STATE p 2) s)

/-- Saturated FREQ of a clock offset in 0.1 ppm (R377). -/
def freqField (x : Int) : Nat := ofSigned 16 (clampInt (-32767) 32767 x)

/-- DOMAIN_ERR on port `p` with its offset in 0.1 ppm (R360). -/
def execDomainErr (p : Nat) (freq : Int) (s : State) : Outcome State Fault Refusal :=
  .next (onlyIf (s.running .port p && s.portWatched p) (fun s =>
    portCause p 3 (((mutePort p s).put .AUD_PORT_STAT_DOMAIN_ERR p 1).put .AUD_PORT_STAT_FREQ p (freqField freq))) s)

/-- RATE_ERR on port `p` with its offset in 0.1 ppm (R360). -/
def execRateErr (p : Nat) (freq : Int) (s : State) : Outcome State Fault Refusal :=
  .next (onlyIf (s.running .port p && s.portWatched p) (fun s =>
    portCause p 2 (((mutePort p s).put .AUD_PORT_STAT_RATE_ERR p 1).put .AUD_PORT_STAT_FREQ p (freqField freq))) s)

/-- PDM_CLOCK_RETURN on PDM port `q`: it qualifies again (R363). -/
def execPdmClockReturn (q : Nat) (s : State) : Outcome State Fault Refusal :=
  .next (onlyIf (q < 64 && s.running .port (16 + q) && s.portState (16 + q) == 4)
    (fun s => (s.put .AUD_PORT_STAT_STATE (16 + q) 1).put .AUD_PORT_STAT_CLK_PRESENT (16 + q) 1) s)

/-- A daybreak can happen at sample `k` (R366): the internal one at whole multiples of PERIOD_MS, that of the pin when its
edge is recognised. -/
def State.daybreakAt (s : State) (k : Nat) : Bool :=
  match s.get .AUD_DAYBREAK_SRC with
  | 1 => true
  | 2 => k % (s.get .AUD_DAYBREAK_PERIOD_MS * s.perMs) == 0
  | _ => false

/-- DAYBREAK at sample `k` (R363, R366): recorded, and the ports that wait for it run. -/
def execDaybreak (k : Nat) (s : State) : Outcome State Fault Refusal :=
  .next (onlyIf (s.matrixRuns && s.daybreakAt k) (fun s =>
    let s := notice 355 ((s.put .AUD_DAYBREAK_LAST 0 k).inc .AUD_STAT_DAYBREAKS)
    forAll ((List.range 784).filter (fun p => s.running .port p && s.portState p == 2)) (fun p => unmutePort p false) s) s)

/-! ### Enable checks and placement (R338, R344, R349, R350, R353, R358, R359, R368, R369, R376, R377) -/

/-- Section 0x000C is malformed (R368): too short, or a field outside what the table gives it (DEDUCED, log
entry 129). -/
def ceilingsMalformed (b : List Byte) : Bool :=
  b.length < 65552 || leNat ((b.drop 8).take 8) != 0 || leNat (b.take 4) != 0x314C4943 || leNat ((b.drop 4).take 2) != 1 || leNat ((b.drop 6).take 2) != 16384
    || (pieces 4 16384 (b.drop 16)).any (fun e =>
      let limit := toSigned 16 (leNat (e.drop 2))
      600 < leNat (e.take 2) || limit < -1200 || 240 < limit)

/-- Code of the matrix's own check (R376). -/
def State.matrixCode (s : State) : Nat := match s.sectionBytes 0x000C with
  | some b => if ceilingsMalformed b then 0xAE else 0
  | none => 0

/-- The bound lane of a MADI port, or the input of an embedding window, or the queue of a port is not usable (0xA4). -/
def State.portBindingBad (s : State) (p : Nat) : Bool :=
  let q := s.get .AUD_PORT_QUEUE p
  let queueBad := !s.running .queue q || s.get .PKT_Q_PROD_AGENT q != 5 || s.get .PKT_Q_CONS_AGENT q != 6
  match portKind p with
  | 1 => queueBad
  | 2 => let l := p - 80
    !s.running .lane l || (s.flag .AUD_PORT_CTRL_IN_EN p && s.get .LAN_BIND_RX_KIND l != 2)
      || (s.flag .AUD_PORT_CTRL_OUT_EN p && s.get .LAN_BIND_TX_KIND l != 3)
  | 3 => s.flag .AUD_PORT_CTRL_IN_EN p && !s.running .input (p - 176)
  | 4 => s.flag .AUD_PORT_CTRL_ASRC p && queueBad
  | _ => false

/-- A field of the port's registers is reserved or out of range (0x04). -/
def State.portFieldBad (s : State) (p : Nat) : Bool :=
  let set := s.portSetting p
  (portKind p == 0 && bitsAt set 0 2 == 3) || (portKind p == 3 && set != 0)
    || (portKind p == 4 && s.flag .AUD_PORT_CTRL_IN_EN p
      && (s.get .AUD_PORT_PLAYOUT p == 0 || 4800 < s.get .AUD_PORT_PLAYOUT p))

/-- A port's own codes, in their order (R377). -/
def State.portOwnCode (s : State) (p : Nat) (c : CheckIn) : Nat :=
  let run := s.portInRun p
  if portKind p = 1 ∧ bitsAt (s.portSetting p) 0 1 = 0 ∧ s.fs96 then 0xA0
  else if run.any (fun r => s.runOutside r || (s.fedRuns p 32).any (runsMeet r)) || (s.portOutRun p).any s.runOutside then 0xA1
  else if s.portBindingBad p then 0xA4
  else if portKind p = 0 ∧ (!s.maskFits p (s.get .AUD_PORT_MASK_IN p) ∨ !s.maskFits p (s.get .AUD_PORT_MASK_OUT p)) then 0xAD
  else if s.portSlave p && c.clockAbsent then 0xA3
  else if s.portSlave p && c.clockFar then 0xA2
  else 0

/-- A port's enable is accepted: it qualifies (R355, R357, R363). -/
def portEnabled (p : Nat) (s : State) : State :=
  let s := { s with cic := s.cic.filter (fun x => x.1 != p), audArrived := s.audArrived.filter (fun a => a.port != p) }
  let s := ((s.put .AUD_PORT_STAT_STATE p 1).putFlag .AUD_PORT_STAT_CLK_PRESENT p (s.portSlave p)).put .AUD_MASK_WRITTEN p 1
  let s := ((s.put .AUD_MASK_IN_LATCHED p 0).put .AUD_MASK_OUT_LATCHED p 0).put .AUD_MASK_IN_PREV p 0
  ((s.put .AUD_MASK_OUT_PREV p 0).put .AUD_RAMP_LEFT p 0).put .AUD_REPEATS p 0

/-- A port is disabled. -/
def portDisabled (p : Nat) (s : State) : State :=
  ((((s.put .AUD_PORT_STAT_STATE p 0).put .AUD_PORT_STAT_RATE_ERR p 0).put .AUD_PORT_STAT_DOMAIN_ERR p 0).put
    .AUD_PORT_STAT_CLK_PRESENT p 0).put .AUD_PORT_STAT_FMT_ERR p 0

/-- The matrix is disabled: a pending commit is refused, what is stored of the inputs is forgotten. -/
def matrixDisabled (s : State) : State :=
  let s := match s.audCommit with
    | some c => refuseAudio 0x05 c s
    | none => s
  let s := onlyIf (s.flag .AUD_EVAC_ACTIVE) (notice 357) s
  { s with audFrames := [], groupHist := [] }.put .AUD_EVAC_ACTIVE 0 0

/-- Place the ceilings and gain limits of section 0x000C, and GAIN at the lesser of 0 and its limit (R368). -/
def placeCeilings (s : State) : State :=
  match s.sectionBytes 0x000C with
  | none => s
  | some b => forAll ((pieces 4 16384 (b.drop 16)).zipIdx) (fun e s =>
      let limit := leNat (e.1.drop 2)
      ((s.put .AUD_OUT1_CEILING e.2 (leNat (e.1.take 2))).put .AUD_OUT1_GAIN_LIMIT e.2 limit).put .AUD_OUT0_GAIN e.2
        (ofSigned 16 (min 0 (toSigned 16 limit)))) s

/-- Place the venue destinations of section 0x000B, or the default (R369, R373). -/
def placeVenue (s : State) : State :=
  let s := s.putFlag .AUD_EVAC_DEFAULT 0 s.evacSection.isNone
  s.put .AUD_EVAC_VENUE_COUNT 0 ((List.range 16384).filter s.isVenue).length

/-- Place this device's block of the initial audio atlas (R344). Of a section without all 24 blocks the entries that are there are
placed (DESIGN CHOICE, log entry 112). -/
def placeAudioAtlas (s : State) : State :=
  match s.sectionBytes 0x000E with
  | none => s
  | some b =>
    if !s.positioned then s
    else
      let block := 12 * s.get .GEN_ENUM_PLANE + s.position
      let es := pieces 4 16384 ((b.drop (65536 * block)).take 65536)
      requestGroups (forAll es.zipIdx (fun e s => s.put .AUD_DRAFT_SOURCE e.2 (leNat e.1 % 2 ^ 18)) s)

end Sys2Proof.Machine
end

