-- ==== Sys2Proof/Machine/Twins.lean ====
section
/-!
DEFINITION. Twin operation: the claim and its interlock, heartbeats, takeover, and resynchronising a standby (R507 to R533).
-/
namespace Sys2Proof.Machine

open Host (Outcome)

/-- Offset of TWN_CMD (R532). -/
def twnCmdOff : Nat := 0x138000C

/-- Set a twin cause (R532): its bit, its event source and the class of this assertion. -/
def twinCause (bit src cls : Nat) (s : State) : State := setCauses .TWN_EVT .TWN_EVT_EN 0 (2 ^ bit) src cls s

/-- Cause LINE: a claim line disagrees with a heartbeat or a role (R513, R522, R524). -/
def lineFault (s : State) : State := twinCause 7 447 2 (s.put .TWN_STAT_LINE_FAULT 0 1)

/-- The device is a standby: twin operation on, no claim (R514). -/
def State.standby (s : State) : Bool := s.running .twin && !s.flag .TWN_STAT_CLAIM

/-- The power state is Warm Standby (R543). -/
def State.inWarm (s : State) : Bool := s.get .PWR_STAT_STATE == 3

/-- The power state is Run (R543). -/
def State.inRun (s : State) : Bool := s.get .PWR_STAT_STATE == 2

/-- Both paths are lost (R519, R522). -/
def State.bothLost (s : State) : Bool := s.flag .TWN_STAT_LINK_LOST && s.flag .TWN_STAT_MGMT_LOST

/-- A valid heartbeat no older than TAKEOVER_MS has arrived on some path. -/
def State.twinHeard (s : State) : Bool :=
  (s.flag .TWN_LINK_SEEN && !s.flag .TWN_STAT_LINK_LOST) || (s.flag .TWN_MGMT_SEEN && !s.flag .TWN_STAT_MGMT_LOST)

/-- Bit of the FLAGS of the twin's latest valid heartbeat (R517): 0 CLAIM, 1 DRIVING, 2 READY, 3 RECOVERING, 4 DEFERRED, 5 FATAL. -/
def State.twinFlag (s : State) (k : Nat) : Bool := bitsAt (s.get .TWN_STAT_TWIN_FLAGS) k 1 == 1

/-- The claim may be released to the twin (R527). -/
def State.releasable (s : State) : Bool :=
  s.twinHeard && s.get .TWN_TWIN_POWER == 3 && s.twinFlag 2 && !s.twinFlag 3 && !s.flag .TWN_STAT_MISMATCH

/-! ### The claim (R509 to R514) -/

/-- What a role change ends (R532). -/
def roleChange (s : State) : State :=
  twinCause 0 440 0 (((s.put .TWN_STAT_LINE_FAULT 0 0).put .TWN_SETTLED 0 0).put .TWN_WANT 0 0)

/-- Release the own claim (R512, R513, R527). -/
def releaseClaim (s : State) : State := roleChange ((s.put .TWN_STAT_CLAIM 0 0).put .TWN_STAT_DRIVING 0 0)

/-- The own claim is asserted (R510, R523): the election counter rises and its record is due; a takeover of a standby that
was not READY is logged (R531). -/
def takeClaim (s : State) : State :=
  let blind := s.get .TWN_WANT == 2 && !s.flag .TWN_STAT_READY
  let s := roleChange (s.put .TWN_STAT_CLAIM 0 1)
  let s := onlyIf blind (queueLog 440 0 (logFlags false false false false) false [0]) s
  let s := ((s.inc .TWN_ELECT_COUNT).put .ELECT_DUE 0 1).put .TWN_DROP 0 0
  ((s.put .TWN_STAT_DUE 0 0).put .TWN_STAT_DEFERRED 0 0).put .TWN_STAT_READY 0 0 |>.put .TWN_STAT_SYNC 0 0

/-- Resynchronisation starts at a stage (R529, R531). -/
def startSync (stage : Nat) (s : State) : State :=
  let s := onlyIf (stage ≤ 2) (fun s => (s.clearAll .TWN_COPY_ATL_SEEN).clearAll .TWN_COPY_AUD_SEEN) s
  ((s.put .TWN_STAT_SYNC 0 stage).put .TWN_STAT_READY 0 0).clearAll .TWN_MATCH

/-- The twin holds the claim, as far as the device can tell (R515). -/
def State.twinHolds (s : State) : Bool := s.flag .TWN_STAT_TWIN_CLAIM || (s.twinHeard && s.twinFlag 0)

/-- A standby in Warm Standby whose twin holds the claim begins to resynchronise (R529). -/
def beginSync (s : State) : State :=
  onlyIf (s.standby && s.inWarm && s.twinHolds && s.get .TWN_STAT_SYNC == 0) (startSync 1) s

/-- Enter Warm Standby (R514, R515). -/
def enterWarm (s : State) : State := beginSync (setPower 3 (s.put .TWN_WANT 0 0))

/-- Apply R515 with the ROLE in force: at an accepted enable and on leaving Quiet. -/
def applyRole (s : State) : State :=
  if s.flag .TWN_CTRL_ROLE && !s.twinHolds then (setPower 2 s).put .TWN_WANT 0 1 else enterWarm s

/-- While it waits for the claim after an enable, the device yields to a twin that holds it (R515). -/
def yieldWait (s : State) : State := onlyIf (s.get .TWN_WANT == 1 && s.twinHolds) enterWarm s

/-! ### Takeover (R522 to R525) -/

/-- A takeover condition holds (R522). -/
def State.takeoverDue (s : State) : Bool := s.standby && (s.flag .TWN_DROP || s.bothLost)

/-- A takeover decision (R523, R524): Run, and the claim as soon as R510 allows. -/
def takeOver (s : State) : State :=
  let s := (setPower 2 s).put .TWN_WANT 0 2
  if s.flag .TWN_STAT_TWIN_CLAIM then lineFault s
  else onlyIf (s.flag .TWN_DROP) takeClaim s

/-- Judge the takeover conditions (R523, R525). -/
def judgeTakeover (s : State) : State :=
  let due := s.takeoverDue
  let s := s.putFlag .TWN_STAT_DUE 0 due
  if !due then s.put .TWN_STAT_DEFERRED 0 0
  else if !s.inWarm then s
  else if s.recovering then twinCause 4 444 0 (s.put .TWN_STAT_DEFERRED 0 1)
  else
    let s := s.put .TWN_STAT_DEFERRED 0 0
    onlyIf (!s.flag .TWN_STAT_MISMATCH && s.flag .TWN_CTRL_AUTO) takeOver s

/-- CLAIM_IN_ASSERT (R508, R511 to R513, R515). -/
def execClaimInAssert (s : State) : Outcome State Fault Refusal :=
  .next (onlyIf (!s.flag .TWN_STAT_TWIN_CLAIM) (fun s =>
    let s := ((s.put .TWN_STAT_TWIN_CLAIM 0 1).put .TWN_STAT_DRIVING 0 0).put .TWN_DROP 0 0 |>.put .TWN_VETO 0 0
    if s.flag .TWN_STAT_CLAIM && !s.flag .TWN_SETTLED then
      twinCause 3 443 0 (onlyIf (s.flag .GEN_ENUM_TWIN) releaseClaim s)
    else judgeTakeover (beginSync (yieldWait s))) s)

/-- The outputs drive: the own claim settled, the twin's deasserted, Run or Safe (R511). -/
def State.mayDrive (s : State) : Bool := s.flag .TWN_STAT_CLAIM && !s.flag .TWN_STAT_TWIN_CLAIM && (s.inRun || s.inSafe)

/-- CLAIM_IN_DEASSERT (R508, R511, R522). -/
def execClaimInDeassert (s : State) : Outcome State Fault Refusal :=
  .next (onlyIf (s.flag .TWN_STAT_TWIN_CLAIM) (fun s =>
    let s := (((s.put .TWN_STAT_TWIN_CLAIM 0 0).put .TWN_FELL 0 1).put .TWN_FELL_SEC 0 s.now.sec).put .TWN_FELL_NS 0 s.now.ns
    onlyIf (s.mayDrive && s.flag .TWN_SETTLED) (·.put .TWN_STAT_DRIVING 0 1) s) s)

/-- CLAIM_OUT_ASSERT: the twin's claim has been deasserted for 10 µs (R510, R514, R515, R524). -/
def execClaimOutAssert (s : State) : Outcome State Fault Refusal :=
  .next (onlyIf (s.standby && s.inRun && s.get .TWN_WANT != 0 && !s.flag .TWN_STAT_TWIN_CLAIM) takeClaim s)

/-- DRIVING_START: 2 µs after the own claim (R511). -/
def execDrivingStart (s : State) : Outcome State Fault Refusal :=
  .next (onlyIf s.mayDrive (fun s => (s.put .TWN_SETTLED 0 1).put .TWN_STAT_DRIVING 0 1) s)

/-- LINE_FAULT: the twin's claim has been seen for 10 µs outside contention (R513). -/
def execLineFault (s : State) : Outcome State Fault Refusal :=
  .next (onlyIf (s.flag .TWN_STAT_CLAIM && s.flag .TWN_STAT_TWIN_CLAIM) (fun s => lineFault (releaseClaim s)) s)

/-- STANDBY_ENTRY: no later than 1 ms after a released claim (R514). -/
def execStandbyEntry (s : State) : Outcome State Fault Refusal :=
  .next (onlyIf (s.standby && s.inRun && s.get .TWN_WANT == 0) enterWarm s)

/-- CLAIM_DROP: the twin's claim has been deasserted for 10 µs and no heartbeat vetoes (R522). -/
def execClaimDrop (s : State) : Outcome State Fault Refusal :=
  .next (onlyIf (s.standby && !s.flag .TWN_STAT_TWIN_CLAIM && !s.flag .TWN_VETO) (fun s => judgeTakeover (s.put .TWN_DROP 0 1)) s)

/-- Code of a TAKE (R527, R532). -/
def State.takeCode (s : State) : Nat :=
  if !s.inRun && !s.inWarm then 0x08
  else if !s.takeoverDue then 0xE2
  else if s.recovering then 0xE3
  else if s.flag .TWN_STAT_MISMATCH then 0xE0
  else if s.flag .TWN_STAT_TWIN_CLAIM then 0xE1 else 0

/-- A command of TWN_CMD ends (R532): LAST_REASON, and the refusal or the effect. -/
def twinCommand (m : Master) (code : Nat) (eff : State → State) (s : State) : State :=
  let s := s.put .TWN_STAT_LAST_REASON 0 code
  if code ≠ 0 then refuse code (wordOf twnCmdOff) m s else eff s

/-- CLAIM_TAKE: a write of TWN_CMD with TAKE 1 (R523, R532). -/
def execClaimTake (m : Master) (v : Nat) (s : State) : Outcome State Fault Refusal :=
  .next (writeGated m twnCmdOff (fun s =>
    if bitsAt v 1 1 = 1 then refuse 0x04 (wordOf twnCmdOff) m s
    else twinCommand m s.takeCode takeOver s) s)

/-- CLAIM_RELEASE: a write of TWN_CMD with RELEASE 1 and TAKE 0 (R527, R532). -/
def execClaimRelease (m : Master) (s : State) : Outcome State Fault Refusal :=
  .next (writeGated m twnCmdOff (fun s =>
    twinCommand m (if s.flag .TWN_STAT_CLAIM && s.releasable then 0 else 0xE4) releaseClaim s) s)

/-! ### Heartbeats (R517 to R520) -/

/-- A timestamp as a twin message lays it out: seconds (6 bytes), nanoseconds (4), fraction (2). -/
def stampBytes (t : Stamp) : List Byte := leBytes 6 t.sec ++ leBytes 4 t.ns ++ leBytes 2 t.frac

/-- FLAGS of the own heartbeat (R517). -/
def State.ownFlags (s : State) : Nat :=
  s.get .TWN_STAT_CLAIM + 2 * s.get .TWN_STAT_DRIVING + 4 * s.get .TWN_STAT_READY + 8 * s.recovering.toNat
    + 16 * s.get .TWN_STAT_DEFERRED + 32 * s.get .FLT_STAT_FATAL

/-- The own heartbeat on a path (R517). -/
def State.beatBytes (s : State) (link : Bool) : List Byte :=
  let rx : Stamp × Nat := match link, s.hbGot with
    | true, some g => (g.2, g.1)
    | _, _ => (⟨0, 0, 0⟩, 0)
  let m := [0] ++ leBytes 1 (s.get (if link then .TWN_TX_SEQ else .TWN_MGMT_SEQ)) ++ leBytes 2 s.variant.part
    ++ leBytes 1 (s.position + 16 * s.get .GEN_ENUM_PLANE + 32 * s.get .GEN_ENUM_TWIN) ++ leBytes 1 (s.get .PWR_STAT_STATE)
    ++ leBytes 1 s.ownFlags ++ leBytes 1 (s.get .TWN_STAT_SYNC) ++ leBytes 4 (s.get .TWN_ELECT_COUNT)
    ++ leBytes 4 (s.get .GEN_BOOT_SEQ) ++ stampBytes s.now ++ stampBytes rx.1 ++ leBytes 1 rx.2 ++ [0, 0, 0]
  m ++ leBytes 4 (crc32c m)

/-- TWIN_HEARTBEAT_SEND (R517, R518, R520). -/
def execTwinHeartbeatSend (s : State) : Outcome State Fault Refusal :=
  .next (onlyIf (s.running .twin) (fun s =>
    let sent := (s.get .TWN_TX_SEQ, s.now) :: s.hbSent
    ({ s.emit (.twin (s.beatBytes true)) with hbSent := sent.take 16 }).inc .TWN_TX_SEQ) s)

/-- MGMT_HEARTBEAT_SEND: from the device's individual address to its twin's, EtherType 0x88B5 (R517, R518). -/
def execMgmtHeartbeatSend (s : State) : Outcome State Fault Refusal :=
  .next (onlyIf (s.running .twin)
    (fun s => (s.emit (.mgmt s.ownMac s.twinMac 0x88B5 (s.beatBytes false))).inc .TWN_MGMT_SEQ) s)

/-- Little-endian field of a message. -/
def msgField (bs : List Byte) (o n : Nat) : Nat := leNat ((bs.drop o).take n)

/-- Timestamp of a message. -/
def msgStamp (bs : List Byte) (o : Nat) : Stamp := ⟨msgField bs o 6, msgField bs (o + 6) 4, msgField bs (o + 10) 2⟩

/-- A timestamp in units of 2⁻¹⁶ ns. -/
def stampFine (t : Stamp) : Int := (((t.sec * 1000000000 + t.ns) * 65536 + t.frac : Nat) : Int)

/-- The last four bytes are the CRC-32C of the others (R517, R521). -/
def msgCrcGood (bs : List Byte) : Bool := 4 ≤ bs.length && leNat (bs.drop (bs.length - 4)) == crc32c (bs.take (bs.length - 4))

/-- Path number of the twin link or the management bus. -/
def pathNo (link : Bool) : Nat := if link then 0 else 1

/-- Heartbeats of a path that are missing or invalid are counted (R532). -/
def countMissed (link : Bool) (n : Nat) (s : State) : State :=
  s.bump (if link then .TWN_HB_COUNT_LINK_MISSED else .TWN_HB_COUNT_MGMT_MISSED) 0 n

/-- A message of a SEQ arrives on a path: messages that the count skips are missing (R517, R532). -/
def noteSeq (link : Bool) (seq : Nat) (s : State) : State :=
  let p := pathNo link
  let gap := if s.flag .TWN_RX_SEQ_KNOWN p then (seq + 511 - s.get .TWN_RX_SEQ p) % 256 else 0
  countMissed link gap ((s.put .TWN_RX_SEQ p seq).put .TWN_RX_SEQ_KNOWN p 1)

/-- A path returns or is heard for the first time (R519, R526). -/
def pathHeard (link : Bool) (s : State) : State :=
  let s := s.put (if link then .TWN_LINK_SEEN else .TWN_MGMT_SEEN) 0 1
  let lost : Fld := if link then .TWN_STAT_LINK_LOST else .TWN_STAT_MGMT_LOST
  onlyIf (s.flag lost) (fun s => twinCause 1 441 0 (s.put lost 0 0)) s

/-- What a valid heartbeat says of the twin (R519, R528, R532). -/
def noteTwin (bs : List Byte) (s : State) : State :=
  let s := ((s.put .TWN_STAT_TWIN_FLAGS 0 (msgField bs 6 1)).put .TWN_TWIN_POWER 0 (msgField bs 5 1)).put .TWN_TWIN_SYNC 0 (msgField bs 7 1)
  let s := ((s.put .TWN_TWIN_ELECT 0 (msgField bs 8 4)).put .TWN_TWIN_ID_PART 0 (msgField bs 2 2)).put .TWN_TWIN_IMAGE 0 (msgField bs 12 4)
  let mis := msgField bs 2 2 != s.variant.part
  let img := msgField bs 12 4 != s.get .GEN_BOOT_SEQ
  let s := onlyIf (mis && !s.flag .TWN_STAT_MISMATCH) (twinCause 6 446 2) (s.putFlag .TWN_STAT_MISMATCH 0 mis |>.put .TWN_STAT_WIRING 0 0)
  onlyIf (img && !s.flag .TWN_STAT_IMG_DIFF) (twinCause 8 446 0) (s.putFlag .TWN_STAT_IMG_DIFF 0 img)

/-- Offset of the twin's TB0 (R520), in whole ns rounded towards minus infinity, limited to 32 bits. -/
def State.tbOffset (s : State) (bs : List Byte) : Option Int :=
  (s.hbSent.find? (fun x => x.1 == msgField bs 40 1)).map (fun d2 =>
    let twice := (stampFine (msgStamp bs 28) - stampFine d2.2) - (stampFine s.now - stampFine (msgStamp bs 16))
    clampInt (-2147483647) 2147483647 (twice / 131072))

/-- The offset is published and held against TWN_SYNC_TB (R520, R529, R531). -/
def noteOffset (bs : List Byte) (s : State) : State :=
  match s.tbOffset bs with
  | none => s
  | some o =>
    let s := s.put .TWN_TB0_OFFSET 0 (ofSigned 32 o)
    let inside := o.natAbs ≤ s.get .TWN_SYNC_TB
    let s := onlyIf (inside != s.flag .TWN_OFF_IN) (fun s => (s.putFlag .TWN_OFF_IN 0 inside).put .TWN_OFF_TICK 0 s.tick) s
    onlyIf (!inside && s.flag .TWN_STAT_READY && s.get .TWN_OFF_TICK + ticks1s ≤ s.tick) (startSync 1) s

/-- A heartbeat sent after the claim fell that still reports CLAIM = 1 vetoes the claim drop (R522). -/
def judgeVeto (bs : List Byte) (s : State) : State :=
  let sent := stampFine (msgStamp bs 16) - 65536 * toSigned 32 (s.get .TWN_TB0_OFFSET)
  let fell := stampFine ⟨s.get .TWN_FELL_SEC, s.get .TWN_FELL_NS, 0⟩ + 65536 * 1000
  onlyIf (s.standby && !s.flag .TWN_STAT_TWIN_CLAIM && s.twinFlag 0 && (!s.flag .TWN_FELL || fell ≤ sent))
    (fun s => lineFault ((s.put .TWN_VETO 0 1).put .TWN_DROP 0 0)) s

/-- A valid heartbeat (R515, R519 to R528). -/
def takeBeat (link : Bool) (bs : List Byte) (s : State) : State :=
  let s := pathHeard link (noteSeq link (msgField bs 1 1) s)
  let s := noteTwin bs s
  let s := if link then judgeVeto bs (noteOffset bs { s with hbGot := some (msgField bs 1 1, s.now) }) else s
  let s := onlyIf (s.flag .TWN_STAT_CLAIM && s.twinFlag 4) (twinCause 4 444 0) s
  let s := onlyIf (s.inSafe && s.flag .TWN_STAT_CLAIM && s.releasable) releaseClaim s
  judgeTakeover (beginSync (yieldWait s))

/-- TWIN_HEARTBEAT: a message of 48 bytes arrives on the twin link, or in a frame of the management bus to the address of `path` (R517,
R519). -/
def execTwinHeartbeat (path : Option Nat) (bs : List Byte) (s : State) : Outcome State Fault Refusal :=
  let link := path.isNone
  let addr := msgField bs 4 1
  let wired := bitsAt addr 0 4 == s.position && bitsAt addr 4 1 == s.get .GEN_ENUM_PLANE && bitsAt addr 5 1 != s.get .GEN_ENUM_TWIN
  .next (if path.any (fun dst => !s.mgmtTakes dst) then s
    else if bs.length ≠ 48 ∨ !msgCrcGood bs ∨ msgField bs 0 1 ≠ 0 then countMissed link 1 s
    else if !wired then countMissed link 1 (twinCause 6 446 2 (s.put .TWN_STAT_WIRING 0 1))
    else takeBeat link bs s)

/-- PATH_LOST: no valid heartbeat on a path for TAKEOVER_MS (R519, R522 to R526). -/
def execPathLost (link : Bool) (s : State) : Outcome State Fault Refusal :=
  let lost : Fld := if link then .TWN_STAT_LINK_LOST else .TWN_STAT_MGMT_LOST
  .next (onlyIf (s.running .twin && !s.flag lost) (fun s =>
    let s := ((s.put lost 0 1).put (if link then .TWN_LINK_SEEN else .TWN_MGMT_SEEN) 0 0).put .TWN_RX_SEQ_KNOWN (pathNo link) 0
    let s := twinCause 1 441 2 s
    let s := onlyIf s.bothLost (twinCause 2 442 2) s
    let s := onlyIf (link && s.flag .TWN_STAT_READY) (startSync 1) s
    judgeTakeover s) s)

/-! ### Resynchronisation (R521, R529 to R531) -/

/-- SOURCE and AFV of a live video entry: what the twins compare (R529, R531). OUT_STATE and CODING tell the twins apart and
take no part (DEDUCED, log entry 85; unsafe). -/
def liveWord (w : Nat) : Nat := bitsAt w 0 11 + 2 ^ 30 * bitsAt w 30 1

/-- Word 0 of the live entry of destination `d` (R101). -/
def State.liveWord0 (s : State) (d : Nat) : Nat :=
  s.get .ATL_LIVE_SOURCE d + 2 ^ 24 * s.outState d + 2 ^ 27 * s.liveCoding d + 2 ^ 29 * s.get .ATL_LIVE_REMOTE d
    + 2 ^ 30 * s.get .ATL_LIVE_AFV d

/-- The digest of the live atlases (R521, R531). -/
def State.liveDigest (s : State) : Nat :=
  crc32c ((List.range 96).flatMap (fun d => leBytes 4 (liveWord (s.liveWord0 d)))
    ++ (List.range s.matrixSize).flatMap (fun c => leBytes 4 (s.get .AUD_LIVE_SOURCE c)))

/-- Data of `n` items of a kind from an index (R521): kind 3 takes the times at which the spans began to be written. -/
def State.resyncData (s : State) (kind index n : Nat) (starts : List Stamp) : List Byte :=
  let is := (List.range n).map (index + ·)
  match kind with
  | 1 => is.flatMap (fun d => leBytes 4 (s.liveWord0 d))
  | 2 => is.flatMap (fun c => leBytes 4 (s.get .AUD_LIVE_SOURCE c))
  | 3 => is.flatMap (fun i =>
      let t := starts.getD (i - index) ⟨0, 0, 0⟩
      leBytes 4 (s.get .ATL_N_RECENT (s.formatOf (96 * s.position + i))) ++ leBytes 4 t.sec ++ leBytes 4 t.ns)
  | _ => leBytes 4 s.liveDigest

/-- Items a message of a kind may carry, and the entries there are (R521). -/
def State.resyncFits (s : State) (kind index n : Nat) : Bool :=
  match kind with
  | 1 => 1 ≤ n && n ≤ 7 && index + n ≤ 96
  | 2 => 1 ≤ n && n ≤ 7 && index + n ≤ s.matrixSize
  | 3 => 1 ≤ n && n ≤ 2 && index + n ≤ 96
  | 5 => n == 1 && index == 0
  | _ => false

/-- A message of a kind is due to the twin (R521, R530, R531). -/
def State.resyncDue (s : State) (kind : Nat) : Bool :=
  s.twinLinkUp && (if kind = 5 then s.flag .TWN_STAT_READY || s.twinFlag 2
    else s.flag .TWN_STAT_CLAIM && (kind != 3 || (1 ≤ s.get .TWN_TWIN_SYNC && s.get .TWN_TWIN_SYNC ≤ 5)))

/-- RESYNC_SEND: a message of kind 1, 2, 3 or 5 (R518, R521, R530); `starts` are the TB0 times at which the spans read at the
last meridian began to be written. -/
def execResyncSend (kind index n : Nat) (starts : List Stamp) (s : State) : Outcome State Fault Refusal :=
  .next (onlyIf (s.resyncDue kind && s.resyncFits kind index n) (resyncEmit kind index (s.resyncData kind index n starts)) s)

/-- Bytes of an item of a kind (R521). -/
def itemSize (kind : Nat) : Nat := if kind = 3 then 12 else if kind = 4 then 20 else 4

/-- The live video entry of `d` equals the claimer's. -/
def State.videoEqual (s : State) (d : Nat) : Bool := liveWord (s.liveWord0 d) == s.get .TWN_COPY_ATL d

/-- The live audio entry of `c` equals the claimer's. -/
def State.audioEqual (s : State) (c : Nat) : Bool := s.get .AUD_LIVE_SOURCE c == s.get .TWN_COPY_AUD c

/-- Every live entry of the claimer has been received. -/
def State.copyComplete (s : State) : Bool :=
  (List.range 96).all (fun d => s.flag .TWN_COPY_ATL_SEEN d) && (List.range s.matrixSize).all (fun c => s.flag .TWN_COPY_AUD_SEEN c)

/-- The standby resynchronises at a stage: it is in Warm Standby, its twin is not mismatched and its twin link not lost (R530). -/
def State.syncing (s : State) (stage : Nat) : Bool :=
  s.standby && s.inWarm && s.get .TWN_STAT_SYNC == stage && !s.flag .TWN_STAT_MISMATCH && !s.flag .TWN_STAT_LINK_LOST

/-- A video entry of the claimer is copied into the drafts (R529). -/
def copyVideo (d w : Nat) (s : State) : State :=
  let w := liveWord w
  let s := (s.put .TWN_COPY_ATL d w).put .TWN_COPY_ATL_SEEN d 1
  onlyIf (s.syncing 2 && d < s.variant.mediaLanes && (s.commitOf d).isNone && !s.videoEqual d) (fun s =>
    let old := s.get .ATL_DRAFT_SOURCE d
    draftChanged d old (((s.put .ATL_DRAFT_ARMED d 1).put .ATL_DRAFT_AFV d (bitsAt w 30 1)).put .ATL_DRAFT_SOURCE d (bitsAt w 0 11))) s

/-- An audio entry of the claimer is copied into the drafts (R529). -/
def copyAudio (c w : Nat) (s : State) : State :=
  let s := (s.put .TWN_COPY_AUD c w).put .TWN_COPY_AUD_SEEN c 1
  onlyIf (s.syncing 2 && c < s.matrixSize && !s.audioEqual c)
    (fun s => requestGroup (bitsAt w 0 18) (s.put .AUD_DRAFT_SOURCE c w)) s

/-- Master of the commits that resynchronisation makes (R78). -/
def twinMaster : Master := .agent 0xC

/-- Destinations of the next salvo of stage 2: those that differ and whose formats have the frame period of the first (R529). -/
def State.syncDests (s : State) : List Nat :=
  let ds := (List.range 96).filter (fun d => s.running .dest d && !s.videoEqual d && (s.commitOf d).isNone)
  match ds with
  | [] => []
  | d :: _ => ds.filter (fun e => samePeriods [s.get .ATL_DEST_CTRL_FORMAT d, s.get .ATL_DEST_CTRL_FORMAT e])

/-- The audio commit of stage 2, with AT_MERIDIAN = 0 (R529). -/
def syncAudio (s : State) : State :=
  let es := ((List.range s.matrixSize).filter (fun c => !s.audioEqual c)).map (fun c => (c, s.get .TWN_COPY_AUD c))
  let ready := es.all (fun e => s.audExists e.2 && !(s.audRemote e.2 && s.groupRefused e.2))
  onlyIf (!es.isEmpty && s.running .aud && s.audCommit.isNone && ready) (fun s =>
    { s with audCommit := some ⟨es, twinMaster, none, 0, 0, s.get .ATL_CTRL_SLIP_LIMIT, s.get .AUD_K, false, false⟩ }.inc
      .AUD_COMMIT_RESULT_TAG) s

/-- The commits of stage 2, once every entry of the claimer is there (R529). -/
def syncCommits (s : State) : State :=
  if s.syncing 2 && s.copyComplete then
    let ds := s.syncDests
    syncAudio (onlyIf (!s.salvoPending && !ds.isEmpty && s.running .atlas) (requestSalvo twinMaster ds false) s)
  else s

/-- Half a frame period of a format, in ns. -/
def halfFrameNs (f : Nat) : Nat := (framePeriod f).1 * 1000000000 / (2 * (framePeriod f).2)

/-- An input is compared with the claimer's (R529 stage 4, R531): where the spans differ, one is repeated or dropped. -/
def alignInput (i n : Nat) (twinNs ownNs : Int) (s : State) : State :=
  let f := s.formatOf (96 * s.position + i)
  if !s.running .input i || n % 2 ^ 32 != s.get .ATL_N_RECENT f % 2 ^ 32 then s
  else
    let half := (halfFrameNs f : Int)
    if (ownNs - twinNs).natAbs ≤ half.natAbs then s.bump .TWN_MATCH i
    else
      let s := s.put .TWN_MATCH i 0
      let s := onlyIf (s.flag .TWN_STAT_READY) (startSync 4) s
      let r := s.get .IN_READ i
      onlyIf (s.syncing 4 && 1 < r) (fun s => notice 192
        (if twinNs < ownNs then (s.put .IN_READ i (r - 1)).bump .ATL_IN_COUNT_REPEATS i
          else (s.put .IN_READ i (r + 1)).bump .ATL_IN_COUNT_DROPS i)) s

/-- Half of a home gazetteer entry from the twin: applied with its other half, at the same generation (R43, R521). -/
def takeHalf (index : Nat) (data : List Byte) (s : State) : State :=
  let n := index % 2048 + (if bitsAt index 15 1 = 1 then 1152 else 0)
  let upper := bitsAt index 14 1 == 1
  let gen := msgField data 0 2
  let words := (List.range 4).map (fun k => msgField data (4 + 4 * k) 4)
  if !s.followsTwin || 1152 ≤ index % 2048 || !s.homeEntry n then s
  else
    let rest := s.twinHalves.filter (fun h => !(h.1 == n && h.2.1 == upper))
    match rest.find? (fun h => h.1 == n && h.2.1 != upper && h.2.2.1 == gen) with
    | some o =>
      let e : GazEntry := ⟨n, if upper then o.2.2.2 ++ words else words ++ o.2.2.2⟩
      checkStore n ((takeEntry e { s with twinHalves := rest.filter (fun h => h.1 != n) }).put .GAZ_DIRTY n 1)
    | none => { s with twinHalves := (n, upper, gen, words) :: rest }

/-- Seconds (low 32 bits) and nanoseconds as ns. -/
def ns32 (sec ns : Nat) : Int := ((sec % 2 ^ 32 * 1000000000 + ns : Nat) : Int)

/-- A resynchronisation message is applied (R521, R529, R531); `own` are the times at which the own spans began to be written. -/
def takeResync (bs : List Byte) (own : List Stamp) (s : State) : State :=
  let kind := msgField bs 2 1
  let index := msgField bs 4 2
  let len := msgField bs 6 2
  let data := (bs.drop 8).take len
  let items := (pieces (itemSize kind) (len / itemSize kind) data).zipIdx
  match kind with
  | 1 => syncCommits (forAll items (fun x s => onlyIf (s.standby && index + x.2 < 96) (copyVideo (index + x.2) (leNat x.1)) s) s)
  | 2 => syncCommits (forAll items (fun x s => onlyIf (s.standby && index + x.2 < s.matrixSize) (copyAudio (index + x.2) (leNat x.1)) s) s)
  | 3 => forAll items (fun x s =>
      let t := own.getD x.2 ⟨0, 0, 0⟩
      onlyIf (s.standby && s.inWarm) (alignInput (index + x.2) (leNat (x.1.take 4)) (ns32 (msgField x.1 4 4) (msgField x.1 8 4)) (ns32 t.sec t.ns)) s) s
  | 4 => forAll items (fun x s => takeHalf (index + x.2) x.1 s) s
  | _ => onlyIf (s.standby && s.flag .TWN_STAT_READY && leNat (data.take 4) != s.liveDigest) (startSync 2) s

/-- RESYNC_MESSAGE (R521): one that fails its CRC, carries a reserved KIND or has another length than its layout is discarded. -/
def execResyncMessage (bs : List Byte) (own : List Stamp) (s : State) : Outcome State Fault Refusal :=
  let kind := msgField bs 2 1
  let len := msgField bs 6 2
  .next (onlyIf (s.running .twin) (fun s =>
    if !msgCrcGood bs || msgField bs 0 1 != 1 || kind == 0 || 5 < kind || 28 < len || len % itemSize kind != 0 || bs.length != len + 12 then s
    else takeResync bs own (noteSeq true (msgField bs 1 1) s)) s)

/-- Remote sources and audio groups that live entries name are ready (R529 stage 3). -/
def State.liveReady (s : State) : Bool :=
  (List.range 96).all (fun d =>
    let src := s.get .ATL_LIVE_SOURCE d
    !s.running .dest d || !s.isRemote src || (s.liveRx d).any (fun r => r.runs && 2 ≤ r.spans))
    && (s.entries .AUD_LIVE_SOURCE).all (fun e => s.groupReady e.2)

/-- Request what live entries name (R529 stage 3). -/
def requestLive (s : State) : State :=
  let s := forAll (List.range 96) (fun d s => onlyIf (s.running .dest d && (s.liveRx d).isNone) (requestLiveOf d) s) s
  forAll (s.entries .AUD_LIVE_SOURCE) (fun e s => onlyIf (s.groupStream e.2).isNone (requestGroup e.2) s) s

/-- SYNC_STAGE_COMPLETE: the condition of the stage in progress holds (R529, R530). -/
def execSyncStageComplete (s : State) : Outcome State Fault Refusal :=
  let k := s.get .TWN_STAT_SYNC
  let done := match k with
    | 1 => s.running .tb 0 && s.flag .TWN_OFF_IN && s.get .TWN_OFF_TICK + ticks1s ≤ s.tick
    | 2 => s.running .atlas && s.running .aud && s.copyComplete && (List.range 96).all s.videoEqual && (List.range s.matrixSize).all s.audioEqual
    | 3 => s.liveReady
    | 4 => (List.range 96).all (fun i => !s.running .input i || 2 ≤ s.get .TWN_MATCH i)
    | _ => false
  .next (onlyIf (s.syncing k && done) (fun s =>
    let s := s.put .TWN_STAT_SYNC 0 (k + 1)
    if k = 2 then requestLive s
    else onlyIf (k == 4) (fun s => twinCause 5 445 0 (s.put .TWN_STAT_READY 0 1)) s) s)

/-! ### Enabling (R515, R516, R528, R532) -/

/-- Own codes of the enable check (R532): 0xE5, 0xE0. -/
def State.twinOwnCode (s : State) : Nat := if s.flag .TWN_STAT_WIRING then 0xE5 else if s.twinHeard && s.flag .TWN_STAT_MISMATCH then 0xE0 else 0

/-- Twin operation is disabled by a device without the claim. -/
def twinDisabled (s : State) : State :=
  let s := (((s.put .TWN_WANT 0 0).put .TWN_DROP 0 0).put .TWN_STAT_DUE 0 0).put .TWN_STAT_DEFERRED 0 0
  (((s.put .TWN_STAT_READY 0 0).put .TWN_STAT_SYNC 0 0).put .TWN_STAT_LINK_LOST 0 0).put .TWN_STAT_MGMT_LOST 0 0

end Sys2Proof.Machine
end

