-- ==== Sys2Proof/Machine/Power.lean ====
section
/-!
DEFINITION. Hand-over and the power states: Safe, Quiet and back, the supplies, the end of a recovery (R49, R50, R69, R492,
R495, R543 to R549).
-/
namespace Sys2Proof.Machine

open Host (Outcome)

/-! ### Safe (R495, R496, R544) -/

/-- Entry into Safe: a claim that may be released is released, nothing waits to take one, and the frames that hold lasts are counted from
here (R116). -/
def enterSafe (s : State) : State :=
  let s := ((setPower 5 s).clearAll .DEST_SAFE_COUNT).clearAll .DEST_SAFE_LAST
  let s := notice 508 (s.put .TWN_WANT 0 0)
  onlyIf (s.flag .TWN_STAT_CLAIM && s.releasable) releaseClaim s

/-- SAFE_ENTRY: a fatal assertion was latched, in Run, Warm Standby or Quiet. -/
def execSafeEntry (s : State) : Outcome State Fault Refusal :=
  .next (onlyIf (s.flag .FLT_STAT_FATAL && (s.inRun || s.inWarm || s.inQuiet)) enterSafe s)

/-- RECOVERY_DONE (R492); a takeover that waited for it is judged again (R525). -/
def execRecoveryDone (m : Master) (v : Nat) (s : State) : Outcome State Fault Refusal :=
  .next (writeGated m recovCmdOff (fun s => judgeTakeover (doneRecovery m v s)) s)

/-! ### Quiet (R545 to R548) -/

/-- Offset of PWR_CTRL (R556). -/
def pwrCtrlOff : Nat := 0x1400000

/-- Code of a Quiet request (R545): either safety input active is an input that counts towards the override. -/
def State.quietCode (s : State) : Nat :=
  if !s.inRun && !s.inWarm then 0xD5
  else if s.flag .FLD_SAFE_STAT_HOLDS0 || s.flag .FLD_SAFE_STAT_HOLDS1 then 0xD4
  else if s.flag .TWN_STAT_CLAIM && !s.releasable then 0xE4 else 0

/-- The inputs that run stop being stored: none has a complete recent span (R93, R545). -/
def inputsStall (s : State) : State :=
  forAll (List.range 96) (fun i s => onlyIf (s.running .input i) (fun s => judgeInput i (s.put .IN_STALE i 2)) s) s

/-- Enter Quiet: the claim goes first; the DSP cores are disabled and lose their memories; the inputs stop. -/
def enterQuiet (s : State) : State :=
  let s := onlyIf (s.flag .TWN_STAT_CLAIM) releaseClaim s
  let s := setPower 4 ((s.put .TWN_WANT 0 0).put .PWR_STAT_SAFETY_WAKE 0 0)
  inputsStall (dspQuiet s)

/-- Streams that consumers still name are asked for again, but for those of a lost home (R162, R546): their homes ended them while this
device was silent. -/
def requestAgain (s : State) : State :=
  let s := mapRx (·.runs) (fun r =>
    { r with st := 4, again := true, rejoin := false, spans := 0, good := 0, next := [], dropLast := none }) s
  let s := forAll (s.rx.filter (·.st == 4)) askAgain s
  onlyIf s.canRequest (fun s => forAll (List.range 12) (fun pos s =>
    onlyIf (pos != s.position && !s.homeLost pos) (requestMissing pos) s) s) s

/-- Leave Quiet (R546): Warm Standby, ports requalify, streams are asked for again, the ROLE in force applies. -/
def leaveQuietState (s : State) : State :=
  let s := setPower 3 s
  let s := forAll (List.range 784) (fun p s => onlyIf (s.running .port p) (portEnabled p) s) s
  let s := requestAgain s
  onlyIf (s.running .twin) applyRole s

/-- A write of PWR_CTRL (R545 to R547). -/
def powerRequest (m : Master) (v : Nat) (s : State) : State :=
  let result := fun (code : Nat) (eff : State → State) (s : State) =>
    let s := s.put .PWR_STAT_LAST_REASON 0 code
    if code ≠ 0 then refuse code (wordOf pwrCtrlOff) m s else eff s
  match bitsAt v 0 2 with
  | 1 => result s.quietCode enterQuiet s
  | 2 => result (if s.inQuiet then 0 else 0xD5) leaveQuietState s
  | 3 => result 0x04 id s
  | _ => s

/-- QUIET_REQUEST: PWR_CTRL.REQ 1 (R545). -/
def execQuietRequest (m : Master) (s : State) : Outcome State Fault Refusal :=
  .next (writeGated m pwrCtrlOff (powerRequest m 1) s)

/-- LEAVE_QUIET: PWR_CTRL.REQ 2 (R546, R547). -/
def execLeaveQuiet (m : Master) (s : State) : Outcome State Fault Refusal :=
  .next (writeGated m pwrCtrlOff (powerRequest m 2) s)

/-- SUPPLY_OUT_OF_RANGE (R549): bit `rail` of PWR_MON, a fatal assertion, and the claim released under R509. -/
def execSupplyOutOfRange (rail : Nat) (s : State) : Outcome State Fault Refusal :=
  .next (onlyIf (rail < 8) (fun s =>
    let s := assertEv 449 3 (s.put .PWR_MON_RAIL 0 (s.get .PWR_MON_RAIL ||| 2 ^ rail))
    onlyIf (s.flag .TWN_STAT_CLAIM) releaseClaim (s.put .TWN_WANT 0 0)) s)

/-! ### Resets (R48, R49) -/

/-- POWER_ON_RESET: memories lose what they held; the field die starts too. -/
def execPowerOnReset (plane twin : Bool) (s : State) : Outcome State Fault Refusal := .next (strapReset plane twin false s)

/-- EXTERNAL_RESET. -/
def execExternalReset (plane twin : Bool) (s : State) : Outcome State Fault Refusal := .next (strapReset plane twin true s)

/-! ### The safety-fault contact (R567) -/

/-- STATE of safety input `i` (R559). -/
def State.safetyState (s : State) (i : Nat) : Nat := s.get (if i = 0 then .FLD_SAFE_STAT_STATE0 else .FLD_SAFE_STAT_STATE1)

/-- A recognised band that is a line fault (R559, R560). -/
def bandFaulty (b : Nat) : Bool := 2 ≤ b && b ≤ 4

/-- The safety-fault contact is open (R567). -/
def State.contactOpen (s : State) : Bool :=
  bandFaulty (s.safetyState 0) || bandFaulty (s.safetyState 1) || !s.flag .FLD_STAT_SUPPLY_OK || !s.flag .FLD_STAT_LINK_UP
    || s.flag .GEN_BOOT_STAT_SAFETY_DEFAULT || s.get .PWR_STAT_STATE == 1

/-- CONTACT_FAULT shows the contact (R567). -/
def judgeContact (s : State) : State := s.putFlag .FLD_SAFE_STAT_CONTACT_FAULT 0 s.contactOpen

/-! ### Hand-over (R50, R52, R65, R69, R540, R551) -/

/-- Address of an asset section in HBM (R369, R446). -/
def assetAddr (typ : Nat) : Nat := 0x1000000000 + 64 * (Config.assetPlace typ % 2 ^ 27)

/-- Where the bytes of a section lie in memory, none for a section that only fills registers. -/
def placedAt (p : Placed) : Option Nat :=
  if p.typ = 7 ∨ p.typ = 8 then some p.dest else if p.typ = 0xA ∨ p.typ = 0xB then some (assetAddr p.typ) else none

/-- An asset that is used goes to HBM behind write protection (R369, R446); a section that came encrypted is confidential
(R542). -/
def placeRegion (p : Placed) (s : State) : State :=
  let asset := p.typ == 0xA || p.typ == 0xB
  match placedAt p with
  | none => s
  | some a =>
    if asset && (s.sectionOf p.typ).isNone then s
    else
      let s := onlyIf asset (fun s => { s.memPutBytes a p.bytes with protected_ := (a, p.bytes.length) :: s.protected_ }) s
      onlyIf (bitsAt p.flags 0 1 == 1) (fun s => { s with confidential := (a, p.bytes.length) :: s.confidential }) s

/-- The security policy takes effect (R540, R551). -/
def placePolicy (s : State) : State :=
  match s.sectionBytes 0xD with
  | none => s
  | some b =>
    let level := leNat ((b.drop 6).take 1)
    let s := (s.put .SEC_POLICY0 0 (leNat ((b.drop 8).take 4))).put .SEC_POLICY1_FLAGS 0 (leNat ((b.drop 7).take 1))
    let s := s.put .SEC_POLICY1_DEBUG_MAX 0 level
    onlyIf ((s.inForce.lifecycle == 1 || s.inForce.lifecycle == 2) && level < s.get .SEC_DBG_LEVEL) (setDebugLevel level) s

/-- A word is stored whole in the register at an offset: what a placement does. -/
def placeWord (off v : Nat) (s : State) : State :=
  match lookupReg off with
  | some r => forAll r.desc.flds (fun f s => if f = .UNIT_EN then s else s.put f (r.fieldIdx f) (fieldOf f v)) s
  | none => s

/-- Place the gazetteer of the plane: entries of eight words in the register layout, in entry order. Of a section without all 2,304 the
entries that are there are placed (DESIGN CHOICE, log entry 112). -/
def placeGazetteer (s : State) : State :=
  match s.sectionBytes (if s.flag .GEN_ENUM_PLANE then 6 else 5) with
  | none => s
  | some b => forAll ((pieces 32 2304 b).zipIdx) (fun e s =>
      let w := fun k => leNat ((e.1.drop (4 * k)).take 4)
      takeEntry ⟨e.2, (List.range 8).map w⟩ s) s

/-- Place the initial video atlas (R125): the records of the home destinations. A section that does not hold a record whole places none
for that destination (DESIGN CHOICE, log entry 112). -/
def placeAtlas (s : State) : State :=
  match s.sectionBytes 4 with
  | none => s
  | some b =>
    if !s.positioned then s
    else forAll (List.range s.variant.mediaLanes) (fun d s =>
      let r := (b.drop (16 * (1152 * s.get .GEN_ENUM_PLANE + 96 * s.position + d))).take 16
      if r.length < 16 then s
      else
        let w := fun k => leNat ((r.drop (4 * k)).take 4)
        let s := placeWord (0x101000 + 16 * d) (w 0 ||| 2 ^ 31) s
        let s := placeWord (0x103000 + 32 * d) (w 1) s
        requestDraft d (placeWord (0x10300C + 32 * d) (w 3) (placeWord (0x103008 + 32 * d) (w 2) s))) s

/-- Every placement that takes effect at hand-over (R52). -/
def placeAll (s : State) : State :=
  let s := forAll s.boot.placed placeRegion (placePolicy s)
  let s := placeRefTable (placeEqTable (placeAtlas (placeGazetteer s)))
  placeLegend (placeAudioAtlas (placeVenue (placeCeilings s)))

/-- HAND_OVER (R50, R69, R567, R599). -/
def execHandOver (s : State) : Outcome State Fault Refusal :=
  .next (onlyIf (s.boot.chosen.isSome && !s.boot.streaming && s.get .GEN_BOOT_STAT_PHASE == 5 && s.get .PWR_STAT_STATE == 1) (fun s =>
    let s := (s.put .GEN_CTRL_REMAP 0 1).put .GEN_CTRL_ST_RUN 0 15
    let s := ({ s with boot := { s.boot with aliasOpen := false } }).put .GEN_BOOT_STAT_PHASE 0 6
    judgeContact (logCrcFaults (placeAll (setPower 3 s)))) s)

end Sys2Proof.Machine
end

