-- ==== Sys2Proof/Machine/Field.lean ====
section
/-!
DEFINITION. The field side: safety inputs and the override, general-purpose inputs and outputs, the field supply and the
field-side link (R558 to R576).
-/
namespace Sys2Proof.Machine

open Host (Outcome)

/-! ### Safety inputs (R559 to R564) -/

/-- Band of a loop resistance in ohms (R559). -/
def bandOf (ohms : Nat) : Nat :=
  if ohms < 250 then 3 else if 500 ≤ ohms ∧ ohms ≤ 1500 then 1 else if 3300 ≤ ohms ∧ ohms ≤ 6800 then 0
  else if 15000 < ohms then 2 else 4

/-- Consecutive measurements that recognise a band (R560). -/
def bandRun (b : Nat) : Nat := if b = 4 then 1000 else 20

/-- SAFETY_MEASUREMENT of input `i` (R559, R560); a field die that has stopped measures nothing (R571). -/
def execSafetyMeasurement (i ohms : Nat) (s : State) : Outcome State Fault Refusal :=
  .next (onlyIf (i < 2 && !s.flag .FLD_DIE_OFF) (fun s =>
    let b := bandOf ohms
    let n := if s.get .FLD_RUN_BAND i = b then satAdd 10 (s.get .FLD_RUN i) 1 else 1
    let s := (s.put .FLD_RUN_BAND i b).put .FLD_RUN i n
    onlyIf (s.flag .FLD_STAT_LINK_UP) (·.put .FLD_SAFE_OHM i (min ohms 0xFFFF)) s) s)

/-- HOLDS of input `i` (R561). -/
def holdsField (i : Nat) : Fld := if i = 0 then .FLD_SAFE_STAT_HOLDS0 else .FLD_SAFE_STAT_HOLDS1
/-- ACKED of input `i` (R566). -/
def ackedField (i : Nat) : Fld := if i = 0 then .FLD_SAFE_STAT_ACKED0 else .FLD_SAFE_STAT_ACKED1
/-- STATE of input `i` (R559). -/
def stateField (i : Nat) : Fld := if i = 0 then .FLD_SAFE_STAT_STATE0 else .FLD_SAFE_STAT_STATE1

/-- Either input counts towards the override (R562). -/
def State.anyHolds (s : State) : Bool := s.flag .FLD_SAFE_STAT_HOLDS0 || s.flag .FLD_SAFE_STAT_HOLDS1

/-- The override changes (R562): the audio matrix and the composition unit learn of it at the same instant; an activation in
Quiet ends Quiet (R548). -/
def setOverride (on : Bool) (s : State) : State :=
  let s := (s.putFlag .FLD_SAFE_STAT_OVERRIDE 0 on).putFlag .AUD_EVAC_WAIT 0 on
  let s := ((s.putFlag .CMP_EVAC_WAIT 0 on).put .CMP_EVAC_TICK 0 s.tick).putFlag .CMP_LEGEND_STAT_ACTIVE 0 on
  onlyIf (on && s.inQuiet) (fun s => leaveQuietState (s.put .PWR_STAT_SAFETY_WAKE 0 1)) s

/-- The override is in force while it is armed and either input counts (R562, R563). -/
def judgeOverride (s : State) : State :=
  let on := s.flag .FLD_SAFE_STAT_ARMED && s.anyHolds
  onlyIf (on != s.flag .FLD_SAFE_STAT_OVERRIDE) (setOverride on) s

/-- The field die recognises the band of input `i` (R560, R561). -/
def dieRecognises (i : Nat) (s : State) : State :=
  let b := s.get .FLD_RUN_BAND i
  let s := s.put .FLD_DIE_BAND i b
  if b = 1 then s.put .FLD_DIE_HOLDS i 1 else if b = 0 then s.put .FLD_DIE_HOLDS i 0 else s

/-- STATE of input `i` changes to a band (R560, R565, R566). -/
def stateChange (i b : Nat) (s : State) : State :=
  onlyIf (bandFaulty b) (assertEv 474 2) ((s.put (stateField i) 0 b).put (ackedField i) 0 0)

/-- HOLDS of input `i` changes (R49, R561). -/
def holdsChange (i : Nat) (on : Bool) (s : State) : State :=
  let s := notice (472 + i) (s.putFlag (holdsField i) 0 on)
  onlyIf (on && !s.flag .FLD_SAFE_STAT_ARMED) (·.put .FLD_SAFE_STAT_BOOT_LATCH 0 1) s

/-- The logic side receives what the field die holds of input `i` (R561, R572). -/
def receiveSafety (i : Nat) (s : State) : State :=
  let b := s.get .FLD_DIE_BAND i
  let holds := b != 0 && (s.flag (holdsField i) || s.flag .FLD_DIE_HOLDS i)
  let s := onlyIf (s.safetyState i != b) (stateChange i b) s
  onlyIf (s.flag (holdsField i) != holds) (holdsChange i holds) s

/-- Both inputs reach the logic side in the same instant (R562), while the link is up. -/
def receiveBoth (s : State) : State :=
  onlyIf (s.flag .FLD_STAT_LINK_UP) (fun s => judgeContact (judgeOverride (receiveSafety 1 (receiveSafety 0 s)))) s

/-- BAND_RECOGNISED: the inputs of a list have measured one new band for long enough (R560 to R562). -/
def execBandRecognised (is : List Nat) (s : State) : Outcome State Fault Refusal :=
  let due := fun (i : Nat) => i < 2 && s.get .FLD_RUN_BAND i != s.get .FLD_DIE_BAND i && bandRun (s.get .FLD_RUN_BAND i) ≤ s.get .FLD_RUN i
  .next (receiveBoth (forAll (is.filter due) dieRecognises s))

/-- The override path arms (R563). -/
def armOverride (s : State) : State :=
  onlyIf (!s.flag .FLD_SAFE_STAT_ARMED) (fun s => judgeOverride (s.put .FLD_SAFE_STAT_ARMED 0 1)) s

/-- OVERRIDE_ARM: 1 s after hand-over (R563). -/
def execOverrideArm (s : State) : Outcome State Fault Refusal := .next (onlyIf s.handedOver armOverride s)

/-- SAFETY_REMINDER of input `i` (R565). -/
def execSafetyReminder (i : Nat) (s : State) : Outcome State Fault Refusal :=
  .next (onlyIf (i < 2 && !s.flag (ackedField i)) (fun s =>
    if s.safetyState i = 1 then notice (472 + i) s
    else onlyIf (bandFaulty (s.safetyState i)) (assertEv 474 2) s) s)

/-- Inputs that an acknowledgement names and that are active or in line fault (R566). -/
def State.ackedInputs (s : State) : List Nat :=
  [0, 1].filter (fun i => bitsAt (s.get .SEC_ARG) i 1 == 1 && 1 ≤ s.safetyState i && s.safetyState i ≤ 4)

/-- The slot may acknowledge in the lifecycle state (R535, R566). -/
def State.mayAck (s : State) (slot : Nat) : Bool :=
  if s.inForce.lifecycle = 0 ∨ s.inForce.lifecycle = 3 then slot == 0x80 else s.isSafetyOwner slot

/-- ACK_SAFETY (R537, R538, R566). -/
def execAckSafety (m : Master) (slot : Nat) (s : State) : Outcome State Fault Refusal :=
  let states := if s.get .PWR_STAT_STATE = 1 then [] else [0, 1, 2, 3]
  .next (signedCommand 0x30 slot m states true (s.mayAck slot) (fun s => if s.ackedInputs.isEmpty then 0xF4 else 0)
    (fun s => notice 475 (forAll s.ackedInputs (fun i s => s.put (ackedField i) 0 1) s)) s)

/-! ### General-purpose inputs (R568 to R570) -/

/-- Set a cause of GPI `n` (R570). -/
def gpiCause (f en : Fld) (n : Nat) (s : State) : State :=
  let fresh := !s.flag f n
  onlyIf (fresh && s.flag en n) (notice (464 + n / 4)) (s.put f n 1)

/-- LEVEL of GPI `n` follows its recognised level, after masking (R570). -/
def gpiLevel (n : Nat) (s : State) : State :=
  s.putFlag .FLD_GPI_W2_LEVEL n (s.flag .FLD_GPI_REC n && !s.flag .FLD_GPI_W2_MASKED n)

/-- Make an entry of the FIFO (R570, R572). -/
def gpiPush (n : Nat) (active coalesced : Bool) (t : Stamp) (s : State) : State :=
  let s := gpiCause .FLD_GPI_W2_EDGE_C .FLD_GPI_W0_EDGE_EN n (s.putFlag .FLD_GPI_REPORTED n active)
  if 64 ≤ s.gpiFifo.length then s.put .FLD_GPI_OVERRUN 0 1
  else
    let e : GpiEntry := ⟨n, active, t, coalesced, s.flag .FLD_GPI_LOST⟩
    { s with gpiFifo := s.gpiFifo ++ [e] }.put .FLD_GPI_LOST 0 0

/-- GPI recognition is on (R571). -/
def State.gpiOn (s : State) : Bool := s.running .field && s.flag .FLD_STAT_SUPPLY_OK && !s.flag .FLD_DIE_OFF

/-- An edge that reaches the logic side (R569, R570). -/
def gpiEdge (n : Nat) (active : Bool) (t : Stamp) (s : State) : State :=
  let s := onlyIf (!active) (fun s => (s.put .FLD_GPI_W2_STUCK n 0).put .FLD_GPI_W2_MASKED n 0) s
  let s := gpiLevel n s
  if s.get .FLD_GPI_EDGES n < s.get .FLD_GPI_W0_MAX_RATE n then gpiPush n active false t (s.inc .FLD_GPI_EDGES n)
  else gpiCause .FLD_GPI_W2_EXCESS_C .FLD_GPI_W0_EXCESS_EN n (s.bump .FLD_GPI_W3_EXCESS n)

/-- GPI_EDGE: a level of input `n`, after POL, has been stable for long enough; `t` is the TB0 time of its first sample. -/
def execGpiEdge (n : Nat) (active : Bool) (t : Stamp) (s : State) : Outcome State Fault Refusal :=
  .next (onlyIf (n < 32 && s.gpiOn && s.flag .FLD_GPI_REC n != active) (fun s =>
    let s := s.putFlag .FLD_GPI_REC n active
    if s.flag .FLD_STAT_LINK_UP then gpiEdge n active t s else s.put .FLD_GPI_LOST 0 1) s)

/-- GPI_RATE_WINDOW: a window of 1 s of input `n` ends (R569). -/
def execGpiRateWindow (n : Nat) (s : State) : Outcome State Fault Refusal :=
  .next (onlyIf (n < 32 && s.running .field) (fun s =>
    let full := s.get .FLD_GPI_W0_MAX_RATE n ≤ s.get .FLD_GPI_EDGES n
    let level := s.flag .FLD_GPI_W2_LEVEL n
    let s := s.put .FLD_GPI_EDGES n 0
    onlyIf (full && level != s.flag .FLD_GPI_REPORTED n) (gpiPush n level true s.now) s) s)

/-- GPI_STUCK: input `n` has stayed active for STUCK_S seconds (R570). -/
def execGpiStuck (n : Nat) (s : State) : Outcome State Fault Refusal :=
  .next (onlyIf (n < 32 && s.gpiOn && s.flag .FLD_GPI_REC n && s.get .FLD_GPI_W1_STUCK_S n != 0 && !s.flag .FLD_GPI_W2_STUCK n) (fun s =>
    let s := gpiCause .FLD_GPI_W2_STUCK_C .FLD_GPI_W0_STUCK_EN n (s.put .FLD_GPI_W2_STUCK n 1)
    gpiLevel n (onlyIf (s.flag .FLD_GPI_W0_STUCK_MASK n) (·.put .FLD_GPI_W2_MASKED n 1) s)) s)

/-- Word of FLD_GPI_FIFO for a popped entry with `left` entries behind it (R575). -/
def gpiWord (e : GpiEntry) (overrun : Bool) (left : Nat) : Nat :=
  2 ^ 31 + 2 ^ 30 * (e.overrun || overrun).toNat + 2 ^ 29 * e.active.toNat + 2 ^ 28 * e.coalesced.toNat + 2 ^ 8 * min 31 left + e.input

/-- GPI_FIFO_READ (R570, R575). -/
def execGpiFifoRead (m : Master) (s : State) : Outcome State Fault Refusal :=
  .next (readGated m 0x1440020 (fun s =>
    match s.gpiFifo with
    | [] => s.respond 0 false
    | e :: l =>
      let lost := s.flag .FLD_GPI_OVERRUN
      let s := (({ s with gpiFifo := l }.put .FLD_GPI_NS 0 e.time.ns).put .FLD_GPI_SEC 0 e.time.sec).put .FLD_GPI_OVERRUN 0 0
      s.respond (gpiWord e lost l.length) false) s)

/-! ### Supply and link (R571, R572) -/

/-- VFIELD in millivolts is in range (R571). -/
def vfieldGood (mv : Nat) : Bool := 16000 ≤ mv && mv ≤ 34000

/-- Below 12 V the field die stops and forgets what it measured; from there up it runs (R559, R571). -/
def dieSupplied (mv : Nat) (s : State) : State :=
  if mv < 12000 then
    forAll [0, 1] (fun i s => (((s.put .FLD_RUN i 0).put .FLD_RUN_BAND i 5).put .FLD_DIE_BAND i 5).put .FLD_DIE_HOLDS i 0)
      (s.put .FLD_DIE_OFF 0 1)
  else s.put .FLD_DIE_OFF 0 0

/-- VFIELD_OUT_OF_RANGE (R571): the fault is asserted as the supply leaves its range. -/
def execVfieldOutOfRange (mv : Nat) (s : State) : Outcome State Fault Refusal :=
  .next (onlyIf (!vfieldGood mv) (fun s =>
    let left := s.flag .FLD_STAT_SUPPLY_OK
    let s := dieSupplied mv ((s.put .FLD_STAT_VFIELD 0 (min mv 0xFFFF)).put .FLD_STAT_SUPPLY_OK 0 0)
    judgeContact (onlyIf left (assertEv 477 2) s)) s)

/-- VFIELD_IN_RANGE (R571). -/
def execVfieldInRange (mv : Nat) (s : State) : Outcome State Fault Refusal :=
  .next (onlyIf (vfieldGood mv && !s.flag .FLD_STAT_SUPPLY_OK)
    (fun s => judgeContact (dieSupplied mv ((s.put .FLD_STAT_VFIELD 0 mv).put .FLD_STAT_SUPPLY_OK 0 1))) s)

/-- FIELD_STATUS_FRAME: a frame of the field-side link is due; it is good, with the supply it reports, or missing or bad. -/
def execFieldStatusFrame (good : Bool) (mv : Nat) (s : State) : Outcome State Fault Refusal :=
  .next (if good then
      let s := (s.put .FLD_LINK_BAD 0 0).bump .FLD_LINK_GOOD
      onlyIf (s.flag .FLD_STAT_LINK_UP) (·.put .FLD_STAT_VFIELD 0 (min mv 0xFFFF)) s
    else (s.put .FLD_LINK_GOOD 0 0).bump .FLD_LINK_BAD)

/-- FIELD_LINK_DOWN: three frames in a row were missing or bad (R572). -/
def execFieldLinkDown (s : State) : Outcome State Fault Refusal :=
  .next (onlyIf (s.flag .FLD_STAT_LINK_UP && 3 ≤ s.get .FLD_LINK_BAD)
    (fun s => judgeContact (assertEv 478 2 (s.put .FLD_STAT_LINK_UP 0 0))) s)

/-- FIELD_LINK_UP: 100 good frames in a row (R572): the logic side receives the safety state and the levels again. -/
def execFieldLinkUp (s : State) : Outcome State Fault Refusal :=
  .next (onlyIf (!s.flag .FLD_STAT_LINK_UP && 100 ≤ s.get .FLD_LINK_GOOD) (fun s =>
    let s := s.put .FLD_STAT_LINK_UP 0 1
    let s := forAll (List.range 32) (fun n s =>
      gpiLevel n (onlyIf (!s.flag .FLD_GPI_REC n) (fun s => (s.put .FLD_GPI_W2_STUCK n 0).put .FLD_GPI_W2_MASKED n 0) s)) s
    receiveBoth s) s)

/-! ### General-purpose outputs (R573, R574) -/

/-- MODE's own condition for GPO `n` (R573). -/
def State.gpoWanted (s : State) (n : Nat) : Bool :=
  let src := s.get .FLD_GPO_CTRL_SOURCE n
  match s.get .FLD_GPO_CTRL_MODE n with
  | 0 => bitsAt (s.get .FLD_GPO_SET) n 1 == 1
  | 1 => s.get .ATL_LIVE_SOURCE (s.get .FLD_GPO_CTRL_TARGET n) == src
  | 2 => s.flag .FLD_GPI_W2_LEVEL (src % 32)
  | _ => s.flag .FLD_SAFE_STAT_OVERRIDE

/-- GPO `n` is on (R573, R574). -/
def State.gpoOn (s : State) (n : Nat) : Bool :=
  s.flag .TWN_STAT_DRIVING && s.flag .FLD_STAT_SUPPLY_OK && s.flag .FLD_STAT_LINK_UP
    && bitsAt (s.get .FLD_GPO_FAULT) n 1 == 0 && s.gpoWanted n

/-- GPO_OVERLOAD of GPO `n` (R574). -/
def execGpoOverload (n : Nat) (s : State) : Outcome State Fault Refusal :=
  .next (onlyIf (n < 32 && s.gpoOn n) (fun s => notice 476 (s.put .FLD_GPO_FAULT 0 (s.get .FLD_GPO_FAULT ||| 2 ^ n))) s)

/-- Offset of FLD_GPO_FAULT (R575). -/
def gpoFaultOff : Nat := 0x1440034

/-- GPO_FAULT_CLEAR: a write of FLD_GPO_FAULT; the overloads of a mask persist (R574). -/
def execGpoFaultClear (m : Master) (v overloaded : Nat) (s : State) : Outcome State Fault Refusal :=
  .next (writeGated m gpoFaultOff (fun s =>
    let old := s.get .FLD_GPO_FAULT
    let stay := v % 2 ^ 32 &&& overloaded &&& old
    let s := s.put .FLD_GPO_FAULT 0 ((old &&& (v % 2 ^ 32 ^^^ 0xFFFFFFFF)) ||| stay)
    onlyIf (stay != 0) (refuse 0xF3 (wordOf gpoFaultOff) m) s) s)

end Sys2Proof.Machine
end

