-- ==== Sys2Proof/Machine/Rings.lean ====
section
/-!
DEFINITION. The records that the device writes to configuration memory on its own: the fault log, the election counter and
oscillator ageing (R81 to R83, R327, R497).
-/
namespace Sys2Proof.Machine

open Host (Outcome)

/-- `n` free bytes, of which the first is the `k`th free value. -/
def freeBytes (k n : Nat) : List Byte := (List.range n).map (fun i => BitVec.ofNat 8 (Config.freeValue (k + i)))

/-- Bytes filled up with zeros, or cut, to `n`. -/
def padTo (n : Nat) (bs : List Byte) : List Byte := (bs ++ List.replicate (n - bs.length) 0).take n

/-- A record with its CRC-32C at its end (R81). -/
def sealRecord (bs : List Byte) : List Byte := bs ++ leBytes 4 (crc32c bs)

/-- Write a record at an address of the configuration memory (R81): one that fails its read-back leaves there what the spec
does not say. -/
def writeRecord (a : Nat) (bs : List Byte) (readBackFails : Bool) (s : State) : State :=
  if readBackFails then
    let n := s.freeCount
    { s with nvm := Memory.writeList a (freeBytes n bs.length) s.nvm, freeCount := n + bs.length }.put .CFG_PERSIST_STAT_WRITE_FAULT 0 1
  else { s with nvm := Memory.writeList a bs s.nvm }

/-! ### The fault log (R82, R83, R497) -/

/-- Word 0 of first-cause latch `b` (R505). -/
def State.latchWord (s : State) (b : Nat) : Nat :=
  2 ^ 31 * s.get .FLT_LATCH_VALID b + 2 ^ 16 * s.get .FLT_LATCH_SOURCE b + s.get .FLT_LATCH_OTHERS b

/-- A record of the fault log, 256 bytes (R497). -/
def State.logBytes (s : State) (r : LogRec) : List Byte :=
  let addr := s.position + 16 * s.get .GEN_ENUM_PLANE + 32 * s.get .GEN_ENUM_TWIN + 64 * s.get .TWN_STAT_CLAIM
  let head := leBytes 4 (s.get .FLT_SEQ) ++ leBytes 2 r.source ++ leBytes 1 r.cls ++ leBytes 1 r.flags ++ stampBytes r.time
    ++ leBytes 1 (s.get .PWR_STAT_STATE) ++ leBytes 1 addr ++ leBytes 2 r.count ++ leBytes 4 (s.get .GEN_BOOT_SEQ)
  let first := (List.range 19).flatMap (fun b => leBytes 4 (s.latchWord b))
  sealRecord (padTo 252 (head ++ first ++ padTo 116 (r.detail.flatMap (leBytes 4))))

/-- Write one record to the ring. -/
def logToRing (bs : List Byte) (readBackFails : Bool) (s : State) : State :=
  let s := writeRecord (faultRing.1 + 256 * s.get .FLT_LOG_POS) bs readBackFails s
  { (s.inc .FLT_LOG_POS).inc .FLT_SEQ with logTimes := (s.tick :: s.logTimes).take 3600 }

/-- The same bytes as an item of the log queue (R497); its TAG is left open. -/
def logToQueue (bs : List Byte) (s : State) : State :=
  let tag := Config.freeValue s.freeCount % 2 ^ 32
  let s := { s with freeCount := s.freeCount + 1 }
  queuePush (s.get .FLT_LOGQ) 8 (itemHeader 0x50 32 tag) ((pieces 8 32 bs).map leNat) s

/-- FAULT_LOG_WRITE: the record at the head of those that wait (R497). -/
def execFaultLogWrite (readBackFails : Bool) (s : State) : Outcome State Fault Refusal :=
  .next (match s.logWaiting with
    | [] => s
    | r :: rest =>
      let s := { s with logWaiting := rest }
      let bs := s.logBytes r
      let queued := onlyIf (s.flag .FLT_CTRL_LOGQ_EN) (logToQueue bs)
      if !s.persists then queued s
      else if r.always || s.logRoom then queued (logToRing bs readBackFails s)
      else s.bump .CFG_PERSIST_STAT_DROPPED)

/-! ### The election counter (R82, R532) -/

/-- An election record: sequence number, count, four zero bytes, CRC. -/
def State.electionBytes (s : State) : List Byte :=
  sealRecord (leBytes 4 (s.get .ELECT_SEQ) ++ leBytes 4 (s.get .TWN_ELECT_COUNT) ++ [0, 0, 0, 0])

/-- ELECTION_RECORD: a take of the claim waits to be recorded, no earlier than 1 s after the last record (R82, R532). -/
def execElectionRecord (readBackFails : Bool) (s : State) : Outcome State Fault Refusal :=
  .next (onlyIf s.electionReady (fun s =>
    let s := s.put .ELECT_DUE 0 0
    onlyIf s.persists (fun s =>
      (((writeRecord (electionRing.1 + 16 * s.get .ELECT_POS) s.electionBytes readBackFails s).inc .ELECT_POS).inc .ELECT_SEQ).put
        .ELECT_AT 0 (s.tick + 1)) s) s)

/-! ### Oscillator ageing (R327) -/

/-- Slot `k` of the daily means of a record whose next slot is `next`. -/
def State.dailySlot (s : State) (next k : Nat) : Int := ((s.refDaily[(next + 47 - k) % 48]?).map (·.2)).getD 0 / 10000

/-- An ageing record, 256 bytes (R327). -/
def State.ageingBytes (s : State) : List Byte :=
  let next := s.get .REF_NEXT
  let head := leBytes 4 (s.get .AGE_SEQ) ++ leBytes 4 (leAt s.oscModel 8 4) ++ leBytes 8 s.now.sec ++ leBytes 8 (s.get .REF_TY)
    ++ leBytes 4 (ofSigned 32 (s.int .REF_Y / 10000)) ++ leBytes 4 (ofSigned 32 (s.ageing / 100))
    ++ leBytes 4 (s.get .REF_NOON_SECS / 3600) ++ leBytes 2 s.refDaily.length ++ leBytes 2 next ++ leBytes 8 0
  sealRecord (padTo 252 (head ++ (List.range 48).flatMap (fun k => leBytes 4 (ofSigned 32 (s.dailySlot next k)))))

/-- 1 h has passed since the last ageing record, if there was one (R82). AGE_AT is 1 + its tick. -/
def State.ageingReady (s : State) : Bool := s.get .AGE_AT == 0 || s.get .AGE_AT + ticks1h ≤ s.tick + 1

/-- AGEING_RECORD: an hour of operation is over (R82, R327, R331). -/
def execAgeingRecord (readBackFails : Bool) (s : State) : Outcome State Fault Refusal :=
  .next (onlyIf (s.running .ref && s.flag .REF_CTRL_LEARN && s.persists && s.ageingReady) (fun s =>
    let s := (((writeRecord (ageingRing.1 + 256 * s.get .AGE_POS) s.ageingBytes readBackFails s).inc .AGE_POS).inc .AGE_SEQ).put
      .AGE_AT 0 (s.tick + 1)
    onlyIf readBackFails (notice 320) s) s)

end Sys2Proof.Machine
end

