-- ==== Sys2Proof/Machine/Crossing.lean ====
section
/-!
DEFINITION. Rows whose effect crosses blocks: meridians and their decision points, the detectors of the lanes, check-value
units over media, and the debug port's halts (R87, R106, R212 to R219, R500 to R504, R552).
-/
namespace Sys2Proof.Machine

open Host (Outcome)

/-! ### Meridians (R87, R105, R106, R342) -/

/-- DECISION_POINT of frame `n` of a format: `phis` is φ of each input, in 1/1000 line period (R91). -/
def execDecisionPoint (f n : Nat) (phis : List (Nat × Int)) (s : State) : Outcome State Fault Refusal :=
  .next (onlyIf (s.running .atlas && formatValid f) (fun s => audioDecision f n (atlasDecision f n phis s)) s)

/-- MERIDIAN of frame `n` of a format (R106). -/
def execMeridian (f n : Nat) (s : State) : Outcome State Fault Refusal :=
  .next (onlyIf (s.running .atlas && formatValid f) (atlasMeridian f n) s)

/-! ### Lanes (R90, R93, R212, R213, R218 to R220, R268) -/

/-- What depends on the receive side of lane `l` follows it: the port of a fabric lane, the input, the MAC. -/
def laneFollows (l : Nat) (s : State) : State :=
  forAll (s.bindingsOf l) (fun k s => macLaneChanged k (judgeLane k s)) (laneChanged l s)

/-- LOS_SET (R212). -/
def execLosSet (l : Nat) (s : State) : Outcome State Fault Refusal :=
  .next (onlyIf (s.running .lane l && !s.flag .LAN_STAT_LOS l) (fun s => laneFollows l (losSet l s)) s)

/-- The receive side of lane `l` serves a quad-link group: its own, or that of its running leader (R204). -/
def State.rxGrouped (s : State) (l : Nat) : Bool :=
  let lead := 4 * quadOf l
  (l == lead || s.running .lane lead) && s.flag .LAN_BIND_RX_QUAD lead

/-- The receive side of lane `l` can lock to a signal (R197, R198, R211, R212): the side is used, the offset of `freq` tenths of 1 ppm lies
within 200 ppm, and an SDI signal is of 10 bits in a format that the mode carries. -/
def State.canLock (s : State) (l fmt depth : Nat) (freq : Int) : Bool :=
  let mode := s.rxMode l
  mode != 0 && -2000 ≤ freq && freq ≤ 2000
    && (!isSdi mode || modeCarries mode false fmt depth || (s.rxGrouped l && modeCarries mode true fmt depth))

/-- The receive side of lane `l` locks; an SDI receiver finds the signal's format (R90, R212). -/
def lockTo (l fmt depth : Nat) (s : State) : State :=
  let s := lockChange l true s
  let s := onlyIf (isSdi (s.rxMode l) && s.get .LAN_BIND_RX_KIND l == 1 && s.positioned)
    (detectFormat (s.get .LAN_BIND_RX_TARGET l) fmt depth) s
  laneFollows l s

/-- LOCK_ACQUIRED (R90, R212): the format and depth that an SDI receiver finds, and the receive offset in 0.1 ppm, which is shown whether
or not the receiver can lock to the signal (R211). -/
def execLockAcquired (l fmt depth : Nat) (freq : Int) (s : State) : Outcome State Fault Refusal :=
  .next (onlyIf (s.running .lane l && !s.flag .LAN_STAT_LOS l && !s.flag .LAN_STAT_LOCK l) (fun s =>
    onlyIf (s.canLock l fmt depth freq) (lockTo l fmt depth) (putFreq l freq s)) s)

/-- QUAD_SKEW (R205): the skew of a quad-link receiver passes 2 line periods, or falls within them again; the bound input follows. -/
def execQuadSkew (l : Nat) (beyond : Bool) (s : State) : Outcome State Fault Refusal :=
  .next (onlyIf (s.running .lane l && s.flag .LAN_BIND_RX_QUAD l && s.flag .LAN_STAT_QUAD_SKEW l != beyond) (fun s =>
    laneFollows l (onlyIf beyond (laneCause l 64 0) (s.putFlag .LAN_STAT_QUAD_SKEW l beyond))) s)

/-- LOCK_LOST (R212). -/
def execLockLost (l : Nat) (s : State) : Outcome State Fault Refusal :=
  .next (onlyIf (s.running .lane l && s.flag .LAN_STAT_LOCK l) (fun s => laneFollows l (lockChange l false s)) s)

/-- LAN_TEST_WRITE (R218 to R220). -/
def execLanTestWrite (m : Master) (l v : Nat) (s : State) : Outcome State Fault Refusal :=
  .next (onlyIf (l < 184) (writeGated m (laneOff l 0x40) (fun s => laneFollows l (laneTestWrite m l v s))) s)

/-! ### Check-value units over media (R500 to R504) -/

/-- The target of unit `u` delivers results: it is enabled and not lost (R502). -/
def State.chkTargetLive (s : State) (u : Nat) : Bool :=
  let t := s.get .CHK_TARGET u
  match s.get .CHK_CTRL_KIND u with
  | 2 => s.running .dest t && !s.flag .ATL_DEST_STAT_LOST t
  | 3 => s.running .input t && !s.flag .ATL_IN_STAT_LOST t
  | 4 => s.running .head t
  | _ => s.running .aud

/-- Depth in bits of the samples of unit `u`'s target. -/
def State.chkDepth (s : State) (u : Nat) : Nat :=
  let t := s.get .CHK_TARGET u
  match s.get .CHK_CTRL_KIND u with
  | 2 => depthBits (s.get .ATL_DEST_CTRL_DEPTH t)
  | 3 => depthBits (s.get .GAZ_W1_DEPTH (96 * s.position + t))
  | _ => depthBits (s.get .CMP_HEAD_CTRL_DEPTH t)

/-- CHK_RESULT: a period of unit `u` ends with its data; `gap` says that the target was disabled or lost within it (R502). -/
def execChkResult (u : Nat) (data : List Nat) (id : Nat) (gap : Bool) (s : State) : Outcome State Fault Refusal :=
  let kind := s.get .CHK_CTRL_KIND u
  .next (onlyIf (s.running .chkUnit u && 2 ≤ kind && kind ≤ 6) (fun s =>
    if gap || !s.chkTargetLive u then chkCause u 3 s
    else chkJudge u (chkCrc kind (s.get .CHK_CTRL_POLY u) (s.chkDepth u) data) (s.put .CHK_RESULT_ID u id)) s)

/-! ### Debug (R552) -/

/-- Core `n` is fitted. -/
def State.hasDsp (s : State) (n : Nat) : Bool := n < s.variant.dspCores

/-- DEBUG_HALT: level Halt or above. -/
def execDebugHalt (t : DebugTarget) (s : State) : Outcome State Fault Refusal :=
  .next (onlyIf (2 ≤ s.debugLevel) (fun s => match t with
    | .steward n => if n < 4 ∧ !s.haltedStewards.contains n then { s with haltedStewards := n :: s.haltedStewards } else s
    | .dsp n => onlyIf (s.hasDsp n && s.dspLive n) (·.put .DSP_CORE_STAT_STATE n 5) s) s)

/-- Execute one instruction of a core that debug has halted: it stays halted unless the instruction itself faults, halts or
waits. -/
def dspDebugStep (n : Nat) (e : DspEcc) (s : State) : State :=
  let s := dspStep n e s
  onlyIf (s.dspRuns n) (·.put .DSP_CORE_STAT_STATE n 5) s

/-- DEBUG_STEP: of a steward core the model shows nothing, since its firmware is outside it. -/
def execDebugStep (t : DebugTarget) (e : DspEcc) (s : State) : Outcome State Fault Refusal :=
  .next (onlyIf (2 ≤ s.debugLevel) (fun s => match t with
    | .steward _ => s
    | .dsp n => onlyIf (s.hasDsp n && s.get .DSP_CORE_STAT_STATE n == 5) (dspDebugStep n e) s) s)

end Sys2Proof.Machine
end

