-- ==== Sys2Proof/Machine/Check.lean ====
section
/-!
DEFINITION. Enable bits and consistency checks: the writes that change an enable bit, the conditions of every unit's check in
the order of R77, and what a unit's start and stop do (R17, R74 to R78, and the check of each chapter).
-/
namespace Sys2Proof.Machine

open Host (Outcome)

/-! ### Units and their control registers (R74) -/

/-- Offset of the control register of unit 0 of a kind, distance between units, number of units in the map. -/
def unitPlace : UnitKind → Nat × Nat × Nat
  | .atlas => (0x100000, 0, 1)
  | .input => (0x104000, 32, 96)
  | .dest => (0x103000, 32, 96)
  | .fabric => (0x200000, 0, 1)
  | .mzc => (0x280000, 0, 1)
  | .lane => (0x300000, 0x800, 184)
  | .pkt => (0x400000, 0, 1)
  | .mac => (0x410000, 0x400, 96)
  | .gcl => (0x410100, 0x400, 96)
  | .tx => (0x428000, 32, 2048)
  | .rx => (0x438000, 32, 2048)
  | .queue => (0x600010, 32, 65536)
  | .tb => (0x800000, 0x100, 8)
  | .cap => (0x804000, 64, 16)
  | .ref => (0x840000, 0, 1)
  | .aud => (0x900000, 0, 1)
  | .port => (0x960000, 64, 784)
  | .dsp => (0xA30000, 0x40000, 32)
  | .cmp => (0x1200000, 0, 1)
  | .head => (0x1280000, 0x20000, 4)
  | .chkUnit => (0x1480000, 0x100, 8)
  | .twin => (0x1380000, 0, 1)
  | .field => (0x1440000, 0, 1)

/-- The unit's number is one of the map. -/
def unitValid (u : UnitId) : Bool := u.idx < (unitPlace u.kind).2.2

/-- Offset of the unit's control register. -/
def ctrlOff (u : UnitId) : Nat := (unitPlace u.kind).1 + (unitPlace u.kind).2.1 * u.idx

/-- The unit's enable bit reads 1. -/
def State.unitEn (s : State) (u : UnitId) : Bool := s.flag .UNIT_EN u.code

/-- The unit runs. -/
def State.unitRuns (s : State) (u : UnitId) : Bool := s.flag .CHECK_ENABLED u.code

/-- The units of a kind that run. -/
def State.runningOf (s : State) (k : UnitKind) : List Nat :=
  (s.regs.filter (fun c => c.fld == .CHECK_ENABLED && c.idx % 32 == k.ctorIdx && c.val == 1)).map (fun c => c.idx / 32)

/-! ### Conditions shared by several checks -/

/-- A media lane's number, an input's or a destination's, of no fitted lane but within the map (R7, R8). -/
def State.laneMissing (s : State) (l : Nat) : Bool := s.variant.mediaLanes ≤ l && l < 96

/-- ADJ lies outside −8,000 to 400,000 (R102, R427). -/
def adjBad (raw : Nat) : Bool := toSigned 20 raw < -8000 || 400000 < toSigned 20 raw

/-- Bytes `a` to `a + n − 1` lie in working SRAM, or in HBM (fitted or not). -/
def State.regionKind (s : State) (a n : Nat) : Option (Nat × Bool) :=
  match s.target (.agent 7) a, s.target (.agent 7) (a + n - 1) with
  | .sram _, .sram _ => some (0, true)
  | .hbm j _, .hbm k _ => some (1, s.hasStack j && s.hasStack k)
  | _, _ => none

/-- The region lies in working SRAM or fitted HBM. -/
def State.regionGood (s : State) (a n : Nat) : Bool := (s.regionKind a n).any (·.2)

/-- Two queues' areas meet. -/
def State.queuesMeet (s : State) (p q : Nat) : Bool := runsMeet (s.keyOf (s.qBase p), s.qBytes p) (s.keyOf (s.qBase q), s.qBytes q)

/-- The time base that a unit needs is not enabled. -/
def State.tbOff (s : State) (n : Nat) : Bool := !s.running .tb n

/-- Receive entry `n` feeds the input that entry `e` names, by the same kind of stream (R231). -/
def State.feedsAlike (s : State) (e n : Nat) : Bool :=
  let kind := s.get .PKT_RX_KIND e
  let other := s.get .PKT_RX_KIND n
  let alike := if kind = 3 then other == 3 else other == 1 || other == 2
  let partner := s.flag .PKT_RX_MERGE e && s.flag .PKT_RX_MERGE n && s.get .PKT_RX_PARTNER e == n && s.get .PKT_RX_PARTNER n == e
  alike && s.get .PKT_RX_TARGET n == s.get .PKT_RX_TARGET e && !partner

/-- Entry `e` duplicates the match of running entry `n` (R270). -/
def State.sameMatch (s : State) (e n : Nat) : Bool :=
  s.get .PKT_RX_MAC e == s.get .PKT_RX_MAC n && s.get .PKT_RX_DST_IP e == s.get .PKT_RX_DST_IP n
    && s.get .PKT_RX_DST_PORT e == s.get .PKT_RX_DST_PORT n && s.get .PKT_RX_SRC_MATCH e == s.get .PKT_RX_SRC_MATCH n
    && (!s.flag .PKT_RX_SRC_MATCH e || s.get .PKT_RX_SRC_IP e == s.get .PKT_RX_SRC_IP n)

/-- The partner of a merging entry runs and does not match it (R235). -/
def State.partnerBad (s : State) (e : Nat) : Bool :=
  let p := s.get .PKT_RX_PARTNER e
  s.flag .PKT_RX_MERGE e && p != e && s.running .rx p
    && !(s.flag .PKT_RX_MERGE p && s.get .PKT_RX_PARTNER p == e && s.get .PKT_RX_KIND p == s.get .PKT_RX_KIND e
      && s.get .PKT_RX_TARGET p == s.get .PKT_RX_TARGET e && s.get .PKT_RX_MAC p != s.get .PKT_RX_MAC e)

/-- Format and depth of the unit whose content a transmit entry sends (R237). -/
def State.txPicture (s : State) (e : Nat) : Nat × Nat :=
  let t := s.get .PKT_TX_TARGET e
  if s.get .PKT_TX_KIND e = 4 then (s.get .CMP_HEAD_CTRL_FORMAT t, s.get .CMP_HEAD_CTRL_DEPTH t)
  else (s.get .ATL_DEST_CTRL_FORMAT t, s.get .ATL_DEST_CTRL_DEPTH t)

/-- The entry's KIND cannot carry its target's format (0x62, R237). -/
def State.txFormatBad (s : State) (e : Nat) : Bool :=
  let p := s.txPicture e
  match s.get .PKT_TX_KIND e with
  | 1 | 3 => !formatValid p.1
  | 2 => !formatValid p.1 || 0x40 ≤ p.1 || p.2 == 1
  | 4 => !formatValid p.1 || interlaced p.1
  | _ => false

/-- Header templates of a transmit entry: 2n, and 2n + 1 for the second leg. -/
def State.txTemplates (s : State) (e : Nat) : List Nat := if s.flag .PKT_TX_DUAL e then [2 * e, 2 * e + 1] else [2 * e]

/-- MACs of a transmit entry. -/
def State.txMacs (s : State) (e : Nat) : List Nat :=
  if s.flag .PKT_TX_DUAL e then [s.get .PKT_TX_MAC_A e, s.get .PKT_TX_MAC_B e] else [s.get .PKT_TX_MAC_A e]

/-- MAX_PAYLOAD with the header and the FCS exceeds MAX_FRAME of a leg's MAC (0x67, R269). -/
def State.txTooLong (s : State) (e : Nat) : Bool :=
  ((s.txMacs e).zip (s.txTemplates e)).any (fun p =>
    s.get .PKT_MAC_CTRL_MAX_FRAME p.1 < s.get .PKT_TX_MAX_PAYLOAD e + s.tplByte p.2 62 + 4)

/-- Number of targets of a transmit entry's KIND (R269). -/
def txTargets (kind : Nat) : Nat := if kind ≤ 3 then 96 else if kind = 4 then 4 else if kind ≤ 6 then 512 else 65536

/-- Number of targets of a receive entry's KIND (R270). -/
def rxTargets (kind : Nat) : Nat := if kind ≤ 3 then 96 else if kind ≤ 6 then 512 else 65536

/-- Candidate `c` of the image's table is an enabled one of kind 0x6 (R281). -/
def State.candidateNeedsTb (s : State) (c : Nat) : Bool := leAt s.refTable (64 + 16 * c) 1 == 6 && bitsAt (leAt s.refTable (67 + 16 * c) 1) 0 1 == 1

/-- An enabled candidate of kind 0x6 of the running reference unit (R281). -/
def State.refUsesTb (s : State) : Bool :=
  s.running .ref && (List.range 16).any (fun c => s.flag .REF_CAND_EN c && s.get .REF_CAND_KIND c == 6)

/-- TARGET of a check-value unit as a unit with an enable bit (R500). -/
def State.chkUnitOf (s : State) (u : Nat) : Option UnitId :=
  let t := s.get .CHK_TARGET u
  match s.get .CHK_CTRL_KIND u with
  | 2 => some ⟨.dest, t⟩
  | 3 => some ⟨.input, t⟩
  | 4 => some ⟨.head, t⟩
  | 5 | 6 => some ⟨.aud, 0⟩
  | _ => none

/-- First byte and length of a KIND 1 unit's region (R503). -/
def State.chkRegion (s : State) (u : Nat) : Nat × Nat := (s.get .CHK_ADDR_LO u + 2 ^ 32 * s.get .CHK_ADDR_HI u, s.get .CHK_LEN u)

/-- The lane's bound destination or head is enabled with a format that TX_MODE cannot carry (R206). -/
def State.laneOutputBad (s : State) (l : Nat) : Bool :=
  let t := s.get .LAN_BIND_TX_TARGET l
  let carries := modeCarries (s.txMode l) (s.flag .LAN_BIND_TX_QUAD l)
  match s.get .LAN_BIND_TX_KIND l with
  | 1 => s.running .dest t && !carries (s.get .ATL_DEST_CTRL_FORMAT t) (s.get .ATL_DEST_CTRL_DEPTH t)
  | 2 => s.running .head t && !carries (s.get .CMP_HEAD_CTRL_FORMAT t) (s.get .CMP_HEAD_CTRL_DEPTH t)
  | _ => false

/-- The bound lane cannot carry the destination's format (0x22, R102). -/
def State.destNotCarried (s : State) (d : Nat) : Bool :=
  (List.range 96).any (fun k => s.txBoundTo k 1 d
    && !modeCarries (s.txMode k) (s.flag .LAN_BIND_TX_QUAD k) (s.get .ATL_DEST_CTRL_FORMAT d) (s.get .ATL_DEST_CTRL_DEPTH d))

/-- The channel of a frame-start capture is not usable (0x88): its lane is not an enabled SDI receiver that leads its group. -/
def State.capLaneBad (s : State) (c : Nat) : Bool :=
  let l := s.get .TIM_CAP_CTRL_LANE c
  8 ≤ c && (!s.running .lane l || !isSdi (s.rxMode l) || (s.leadsRx (4 * quadOf l) && l != 4 * quadOf l))

/-! ### The general codes (R77) -/

/-- 0x01: the unit names an absent unit as its target or prerequisite (R7). An area in an HBM stack that the part does not have names
that stack: 0x01 stands before the 0x69 of R247 in R77's order (DEDUCED, log entry 96). -/
def State.namesAbsent (s : State) (u : UnitId) : Bool :=
  let i := u.idx
  match u.kind with
  | .cap => 8 ≤ i && s.laneMissing (s.get .TIM_CAP_CTRL_LANE i)
  | .tx =>
    let t := s.get .PKT_TX_TARGET i
    let k := s.get .PKT_TX_KIND i
    (s.txMacs i).any s.laneMissing || (1 ≤ k && k ≤ 3 && s.laneMissing t) || (k == 4 && t < 4 && !s.hasHead t)
  | .rx =>
    let k := s.get .PKT_RX_KIND i
    s.laneMissing (s.get .PKT_RX_MAC i) || (1 ≤ k && k ≤ 3 && s.laneMissing (s.get .PKT_RX_TARGET i))
  | .chkUnit =>
    let t := s.get .CHK_TARGET i
    let r := s.chkRegion i
    match s.get .CHK_CTRL_KIND i with
    | 1 => r.2 != 0 && (s.regionKind r.1 r.2).any (fun x => !x.2)
    | 2 | 3 => s.laneMissing t
    | 4 => t < 4 && !s.hasHead t
    | _ => false
  | .queue => (s.regionKind (s.qBase i) (s.qBytes i)).any (fun x => !x.2)
  | _ => false

/-- 0x08: not permitted in the power state (R193, R281, R417, R532). -/
def State.powerBad (s : State) (u : UnitId) : Bool :=
  match u.kind with
  | .mzc => s.inQuiet || s.inSafe
  | .tb => s.get .PWR_STAT_STATE == 1
  | .dsp => s.inQuiet
  | .twin => !(s.inRun || s.inWarm)
  | _ => false

/-- 0x0A: a section that the unit needs was not loaded (R42, R329, R376). -/
def State.sectionMissing (s : State) (u : UnitId) : Bool :=
  match u.kind with
  | .atlas => (s.sectionBytes (5 + s.get .GEN_ENUM_PLANE)).isNone
  | .ref => (s.sectionBytes 2).isNone || (s.sectionBytes 3).isNone
  | .aud => (s.sectionBytes 0x000C).isNone
  | _ => false

/-- 0x05: a prerequisite unit is not enabled. -/
def State.prerequisiteOff (s : State) (u : UnitId) : Bool :=
  let i := u.idx
  match u.kind with
  | .atlas | .aud => s.tbOff 0 || !s.running .ref
  | .fabric | .cmp | .twin => !s.running .atlas
  | .mac | .gcl | .tx | .rx => !s.running .pkt
  | .port => !s.running .aud
  | .dsp => (s.get .DSP_XCH_TAP_TAP_COUNT i != 0 || s.get .DSP_XCH_RET_RET_COUNT i != 0) && !s.running .aud
  | .head => !s.running .cmp
  | .field => s.tbOff 0
  | .chkUnit => (s.chkUnitOf i).any (fun t => !s.unitRuns t)
  | _ => false

/-- 0x04: a field that the check reads holds a reserved or out-of-range value. -/
def State.fieldBad (s : State) (u : UnitId) : Bool :=
  let i := u.idx
  match u.kind with
  | .dest => !formatValid (s.get .ATL_DEST_CTRL_FORMAT i) || adjBad (s.get .ATL_DEST_ADJ i)
  | .lane => s.laneFieldBad i
  | .mac => s.get .PKT_MAC_CTRL_MAX_FRAME i < 1518 || 9216 < s.get .PKT_MAC_CTRL_MAX_FRAME i
  | .tx =>
    let k := s.get .PKT_TX_KIND i
    k == 0 || 7 < k || (s.txMacs i).any (96 ≤ ·) || txTargets k ≤ s.get .PKT_TX_TARGET i
  | .rx =>
    let k := s.get .PKT_RX_KIND i
    k == 0 || k == 6 || 7 < k || 96 ≤ s.get .PKT_RX_MAC i || rxTargets k ≤ s.get .PKT_RX_TARGET i
  | .queue => s.get .PKT_Q_LOG2_SIZE i < 6 || 24 < s.get .PKT_Q_LOG2_SIZE i || 9 < s.get .PKT_Q_PROD_AGENT i || 9 < s.get .PKT_Q_CONS_AGENT i
  | .cap => s.get .TIM_CAP_CTRL_EDGE i == 3 || (8 ≤ i && 96 ≤ s.get .TIM_CAP_CTRL_LANE i)
  | .port => s.portFieldBad i
  | .dsp => 512 < s.get .DSP_XCH_TAP_TAP_COUNT i || 512 < s.get .DSP_XCH_RET_RET_COUNT i
  | .head => adjBad (s.get .CMP_HEAD_ADJ i) || !s.tapsGood i
  | .chkUnit =>
    let k := s.get .CHK_CTRL_KIND i
    let r := s.chkRegion i
    k == 0 || 6 < k || (k == 1 && (r.2 == 0 || (s.regionKind r.1 r.2).isNone))
      || (s.get .CHK_CTRL_POLY i == 0 && !(2 ≤ k && k ≤ 4))
      || ((k == 2 || k == 3) && 96 ≤ s.get .CHK_TARGET i) || (k == 4 && 4 ≤ s.get .CHK_TARGET i)
  | _ => false

/-! ### The units' own codes -/

/-- `code` where the condition holds. -/
def codeIf (c : Bool) (code : Nat) : Nat := if c then code else 0

/-- Own code of an input (R90): its home entry is not VALID, or its format or depth is not a valid one. -/
def State.inputOwnCode (s : State) (i : Nat) : Nat :=
  let g := 96 * s.position + i
  codeIf (!s.flag .GAZ_W0_VALID g || !formatValid (s.get .GAZ_W1_FORMAT g) || 1 < s.get .GAZ_W1_DEPTH g) 0x24

/-- Own codes of a transmit entry, in their order (R269). -/
def State.txOwnCode (s : State) (e : Nat) : Nat :=
  let k := s.get .PKT_TX_KIND e
  let t := s.get .PKT_TX_TARGET e
  firstCode
    [codeIf (k == 7 && s.flag .PKT_TX_TWIN_SEAMLESS e) 0x75,
     codeIf (s.txFormatBad e) 0x62,
     codeIf (k != 7 && (s.runningOf .tx).any (fun n => n != e && s.get .PKT_TX_KIND n == k && s.get .PKT_TX_TARGET n == t)) 0x63,
     codeIf (k != 7 && (s.txTemplates e).any (fun x => !s.tplGood x)) 0x68,
     codeIf (k != 7 && s.txTooLong e) 0x67,
     codeIf (k == 7 && s.get .PKT_Q_CONS_AGENT t != 3) 0x6E]

/-- Own codes of a receive entry, in their order (R231, R235, R270). -/
def State.rxOwnCode (s : State) (e : Nat) : Nat :=
  let k := s.get .PKT_RX_KIND e
  let t := s.get .PKT_RX_TARGET e
  let others := (s.runningOf .rx).filter (· != e)
  firstCode
    [codeIf (1 ≤ k && k ≤ 3 && ((s.inputLane t).isSome || others.any (s.feedsAlike e))) 0x63,
     codeIf (others.any (s.sameMatch e)) 0x65,
     codeIf (10000 < s.get .PKT_RX_MERGE_US e) 0x66,
     codeIf (s.partnerBad e) 0x64,
     codeIf (k == 7 && s.get .PKT_Q_PROD_AGENT t != 4) 0x6E]

/-- Own code of a queue (R247, R257): its area is misaligned, outside the memories, or meets another queue's. -/
def State.queueOwnCode (s : State) (q : Nat) : Nat :=
  codeIf (s.qBase q % 64 != 0 || !s.regionGood (s.qBase q) (s.qBytes q) || ((s.runningOf .queue).filter (· != q)).any (s.queuesMeet q)) 0x69

/-- Own codes of the fabric (R164, R168): 0x37 for a LIMIT above the maximum; 0x36 where a fitted port's peer has shown another identity
(DESIGN CHOICE, log entry 103). -/
def State.fabricOwnCode (s : State) : Nat :=
  firstCode
    [codeIf ((List.range 11).any (fun p => portLimitMax s.variant < s.get .FAB_PORT_LIMIT p)) 0x37,
     codeIf ((List.range 11).any (fun p => s.fitted p && s.flag .FAB_PORT_STAT_WIRING p)) 0x36]

/-- The unit's own codes, in its chapter's order; 0x80 where the time base it names is not enabled (R281). -/
def State.ownCode (s : State) (u : UnitId) (c : CheckIn) : Nat :=
  let i := u.idx
  match u.kind with
  | .input => s.inputOwnCode i
  | .dest => codeIf (s.destNotCarried i) 0x22
  | .fabric => s.fabricOwnCode
  | .lane => s.laneOwnCode i (s.laneOutputBad i)
  | .mac => firstCode
      [codeIf (!s.macExists i) 0x60,
       codeIf (s.flag .PKT_MAC_CTRL_PAUSE_RX_EN i && s.get .PKT_MAC_CTRL_PFC_EN i != 0) 0x61,
       codeIf (s.tbOff (s.get .TIM_MAC_CTRL_TB i)) 0x80]
  | .gcl => firstCode [s.gateCode i, codeIf (s.tbOff (s.get .PKT_GCL_CTRL_TB i)) 0x80]
  | .tx => s.txOwnCode i
  | .rx => s.rxOwnCode i
  | .queue => s.queueOwnCode i
  | .cap => firstCode
      [codeIf (s.get .TIM_CAP_DIV i == 0) 0x8A, codeIf (s.capLaneBad i) 0x88, codeIf (s.tbOff (s.get .TIM_CAP_CTRL_TB i)) 0x80]
  | .ref => firstCode
      [codeIf s.refMalformed 0x90, codeIf s.refDefaultsBad 0x93,
       codeIf ((List.range 16).any s.candidateNeedsTb && s.tbOff 0) 0x80]
  | .aud => s.matrixCode
  | .port => s.portOwnCode i c
  | .dsp => s.dspOwnCode i
  | .head => s.headOwnCode i
  | .twin => s.twinOwnCode
  | .field => firstCode [codeIf (!s.flag .FLD_STAT_LINK_UP) 0xF0, codeIf (!s.flag .FLD_STAT_SUPPLY_OK) 0xF1]
  | .atlas | .mzc | .pkt | .tb | .cmp | .chkUnit => 0

/-- The code with which the unit's check ends, 0x00 where it is accepted: the first condition of R77's order that fails. -/
def State.checkCode (s : State) (u : UnitId) (c : CheckIn) : Nat :=
  if c.internalFail then 0x0E
  else firstCode
    [codeIf (s.namesAbsent u) 0x01,
     codeIf (u.kind == .twin && s.inForce.lifecycle == 3) 0x03,
     codeIf (s.powerBad u) 0x08,
     codeIf (u.kind == .queue && overlaps s.protected_ (s.keyOf (s.qBase u.idx)) (s.qBytes u.idx)) 0x09,
     codeIf (s.sectionMissing u) 0x0A,
     codeIf ((u.kind == .input || u.kind == .fabric) && !s.positioned) 0x0B,
     codeIf (u.kind == .port && c.clockMismatch && s.portSlave u.idx) 0x02,
     codeIf (s.prerequisiteOff u) 0x05,
     codeIf (s.fieldBad u) 0x04,
     s.ownCode u c,
     codeIf ((u.kind == .input || u.kind == .dest) && c.noSpace) 0x06]

/-! ### What a start and a stop do -/

/-- An input's store is empty: no span kept, none being written (R89). -/
def emptyStore (i : Nat) (s : State) : State :=
  let s := { s with holes := s.holes.filter (fun h => h.input != i), fills := s.fills.filter (fun f => f.input != i) }
  (keepSpans i [] s).put .IN_LINE_SPAN i 0 |>.put .IN_LINE_READ i 0

/-- An input starts (R90, R92, R93): its store, no span yet; the format detected last is judged again, and a loss goes on until two complete
spans have been written. -/
def inputEnabled (i : Nat) (s : State) : State :=
  let g := 96 * s.position + i
  let s := emptyStore i (s.put .IN_ALLOC i (inputStoreBytes (s.get .GAZ_W1_FORMAT g) (s.get .GAZ_W1_DEPTH g)))
  let s := (((s.put .IN_READ i 0).put .IN_READ_PREV i 0).put .IN_COMPLETED i 0).put .IN_STALE i 0
  judgeInput i (judgeFormat i (((s.put .IN_FRESH i 0).put .IN_GOOD i 0).put .ATL_IN_STAT_STORE_SHORT i 0))

/-- A destination starts (R97, R116). -/
def destEnabled (d : Nat) (s : State) : State :=
  let s := s.put .DEST_ALLOC d (2 * spanBytes (s.get .ATL_DEST_CTRL_FORMAT d) (s.get .ATL_DEST_CTRL_DEPTH d))
  let s := (((s.put .ATL_DEST_STAT_LOST d 0).put .ATL_DEST_STAT_FORMAT_LOST d 0).put .DEST_HOLD_COUNT d 0).put .DEST_RECOVER d 0
  let s := ((s.put .DEST_LOSS_LAST d 0).put .DEST_SAFE_LAST d 0).put .DEST_SAFE_COUNT d 0
  s.put .DEST_LOSS_NOW d (s.get .ATL_DEST_CTRL_LOSS d)

/-- What a receive entry feeds is judged anew: its loss, and whether the KIND carries its format (R230, R233). -/
def judgeFed (n : Nat) (s : State) : State :=
  let i := s.get .PKT_RX_TARGET n
  onlyIf (s.get .PKT_RX_KIND n ≤ 3) (fun s => judgeInput i (judgeFormat i s)) (renewFed n s)

/-- What an entry remembers of its stream is forgotten (R234, R236). -/
def forgetStream (n : Nat) (s : State) : State :=
  { s with mergeSeen := s.mergeSeen.filter (fun x => x.pair != n), seqHoles := s.seqHoles.filter (fun h => h.rx != n) }.put .PKT_RX_SEEN n 0

/-- A receive entry starts (R233 to R236): at once lost where its MAC's lane has no lock. -/
def rxEnabled (n : Nat) (s : State) : State :=
  let s := forgetStream n ((s.put .PKT_RX_LOST n 0).put .PKT_RX_LEG_LOST n 0)
  let s := judgeFed n (pairFormed n s)
  onlyIf (!s.flag .LAN_STAT_LOCK (s.get .PKT_RX_MAC n)) (rxLost n) s

/-- A receive entry stops (R235, R236): its partner goes on alone. -/
def rxDisabled (n : Nat) (s : State) : State :=
  let p := s.get .PKT_RX_PARTNER n
  let pair := s.running .rx p && s.flag .PKT_RX_MERGE n && s.flag .PKT_RX_MERGE p && s.get .PKT_RX_PARTNER p == n
  let s := forgetStream n ((s.put .PKT_RX_LOST n 0).put .PKT_RX_LEG_LOST n 0)
  judgeFed n (onlyIf pair (pairBroken p) s)

/-- A transmit entry starts: the packets per frame of a video stream are fixed (R269). -/
def txEnabled (e : Nat) (s : State) : State :=
  let p := s.txPicture e
  s.put .PKT_TX_PKTS_PER_FRAME e (if 5 ≤ s.get .PKT_TX_KIND e then 0 else Config.packetsPerFrame (s.get .PKT_TX_KIND e) p.1 p.2 (s.get .PKT_TX_MAX_PAYLOAD e))

/-- A check-value unit starts with no result to compare with; a KIND 1 unit begins its pass (R500, R502). -/
def chkEnabled (u : Nat) (s : State) : State :=
  let s := (((s.put .CHK_HAVE u 0).put .CHK_STREAK u 0).put .CHK_STAT_FROZEN u 0).put .CHK_STAT_MEM_ERR u 0
  s.putFlag .CHK_STAT_BUSY u (s.get .CHK_CTRL_KIND u == 1)

/-- What the acceptance of a unit's check does. -/
def unitStarted (u : UnitId) (s : State) : State :=
  let i := u.idx
  match u.kind with
  | .atlas => alignMeridians s
  | .input => inputEnabled i s
  | .dest => destEnabled i s
  | .fabric => onlyIf (s.running .aud) requestGroups (fabricEnabled s)
  | .lane => testOut i (laneFollows i (applyEq i s))
  | .mac => macLaneChanged i s
  | .gcl => latchGates i s
  | .tx => txEnabled i s
  | .rx => rxEnabled i s
  | .queue => (((s.put .PKT_Q_PTR_PROD i 0).put .PKT_Q_PTR_CONS i 0).put .PKT_Q_STAT_FLUSHING i 0).put .PKT_Q_ITEM_ECC i 0
  | .ref => refEnabled s
  | .aud => requestGroups s
  | .port => portEnabled i s
  | .dsp => dspStarted i s
  | .head => judgeLegend i s
  | .chkUnit => chkEnabled i s
  | .twin => applyRole s
  | .field => armOverride (s.clearAll .FLD_GPI_EDGES)
  | .cap => s.put .CAP_EDGES i 0
  | .mzc | .pkt | .tb | .cmp => s

/-- Clearing MZC_CTRL.EN (R193): the home's coded streams go back to the ladder for Pass alone; the destinations that coded streams feed
ask for their sources again, in Pass. -/
def codingDisabled (s : State) : State :=
  let s := forAll (s.tx.filter (fun t => t.kind == 0 && 2 ≤ t.coding)) (fun t => reAdmit t 1 1 0x43) s
  forAll (s.rx.filter (fun r => r.kind == 0 && 2 ≤ r.coding && r.runs)) askPass s

/-- What the stop of a unit does. -/
def unitStopped (u : UnitId) (s : State) : State :=
  let i := u.idx
  match u.kind with
  | .atlas => refuseAll 0x05 s
  | .input => emptyStore i s
  | .fabric => fabricDisabled (atlasFabricDisabled s)
  | .mzc => codingDisabled s
  | .lane => laneFollows i (laneDisabled i s)
  | .mac => macLaneChanged i s
  | .gcl => gatesDisabled i s
  | .tx => { s with txWork := s.txWork.filter (fun w => w.tx != i) }
  | .rx => rxDisabled i s
  | .queue => queueDisabled i s
  | .ref => refDisabled s
  | .aud => matrixDisabled s
  | .port => portDisabled i s
  | .dsp => dspCleared i s
  | .head => headDisabled i s
  | .chkUnit => s.put .CHK_STAT_BUSY i 0
  | .twin => twinDisabled s
  | .dest | .pkt | .tb | .cap | .cmp | .field => s

/-! ### Writes of 0 that are ignored -/

/-- An enabled user names time base `n` (R281). -/
def State.tbUsed (s : State) (n : Nat) : Bool :=
  (n == 0 && (s.running .atlas || s.running .aud || s.running .field || s.refUsesTb))
    || (s.runningOf .gcl).any (fun m => s.get .PKT_GCL_CTRL_TB m == n)
    || s.gates.any (fun g => g.oper.any (·.tb == n) || g.pending.any (·.1.tb == n))
    || (s.runningOf .cap).any (fun c => s.get .TIM_CAP_CTRL_TB c == n)
    || (s.runningOf .mac).any (fun m => s.get .TIM_MAC_CTRL_TB m == n)
    || (List.range 8).any (fun k => s.flag .TIM_DOMAIN_EN k && s.get .TIM_DOMAIN_TB k == n)

/-- The code with which a write of 0 to the unit's enable bit is ignored and refused; 0 where it acts (R204, R281, R329, R376,
R450, R532, R575). -/
def State.clearVeto (s : State) (u : UnitId) : Nat :=
  if s.overrideHolds u then 0x0C
  else match u.kind with
    | .tb => codeIf (s.tbUsed u.idx) 0x82
    | .ref => codeIf (s.running .atlas || !(s.runningOf .lane).isEmpty || !(s.runningOf .port).isEmpty) 0x95
    | .aud => codeIf (!(s.runningOf .port).isEmpty) 0x05
    | .twin => codeIf (s.flag .TWN_STAT_CLAIM) 0xE4
    | .field => codeIf (s.flag .FLD_SAFE_STAT_OVERRIDE) 0x0C
    | .lane => codeIf (s.breaksGroup u.idx) 0x53
    | _ => 0

/-! ### The writes -/

/-- A check of the unit ends with a refusal (R75, R76, R78): `m` is the master that MASTER names. -/
def checkRefused (m : Master) (code : Nat) (u : UnitId) (s : State) : State :=
  let s := ((s.put .UNIT_EN u.code 0).put .CHECK_BUSY u.code 0).bump .CHECK_REFUSALS u.code
  refuse code (wordOf (ctrlOff u)) m (s.put .CHECK_LAST_REASON u.code code)

/-- The enable bit goes from 0 to 1: the check starts (R75). -/
def checkStarts (m : Master) (u : UnitId) (s : State) : State :=
  ((s.put .UNIT_EN u.code 1).put .CHECK_BUSY u.code 1).put .CHECK_MASTER u.code m.refuseCode

/-- The unit stops. A destination whose commit waits refuses it; one whose commit was taken stops after the meridian (R107). -/
def stopUnit (u : UnitId) (s : State) : State :=
  let plain := fun (s : State) => unitStopped u ((s.put .UNIT_EN u.code 0).put .CHECK_ENABLED u.code 0)
  if u.kind = .dest then
    match s.commitOf u.idx with
    | some c => if c.taken then s.put .DEST_DISABLE_DUE u.idx 1 else disableDest u.idx (refuseCommit c 0x14 0x1E s)
    | none => disableDest u.idx s
  else plain s

/-- A write of the unit's control register that passed the gate (R17, R74 to R78, R598). -/
def controlWrite (m : Master) (u : UnitId) (v hw : Nat) (s : State) : State :=
  match lookupReg (ctrlOff u) with
  | none => s
  | some r =>
    if reservedValue r v then refuse 0x04 (wordOf (ctrlOff u)) m s
    else
      let t := writeFields r v hw s
      if !s.unitEn u then (if v % 2 = 1 then checkStarts m u t else t)
      else if v % 2 = 1 then t
      else if s.flag .CHECK_BUSY u.code then checkRefused m 0x07 u t
      else
        let c := s.clearVeto u
        if c ≠ 0 then refuse c (wordOf (ctrlOff u)) m t else stopUnit u t

/-- A write of a control register by its row: the gate, the refusal of an enable of an absent unit (R7), the write. -/
def unitWrite (m : Master) (u : UnitId) (v hw : Nat) (s : State) : State :=
  onlyIf (unitValid u) (fun s =>
    onlyIf (regGate m (ctrlOff u) 4 true s == some 1 && v % 2 == 1) (refuse 0x01 (wordOf (ctrlOff u)) m)
      (writeGated m (ctrlOff u) (controlWrite m u v hw) s)) s

/-- ENABLE_SET: a write of a unit's control register with its enable bit 1 (R17, R75). -/
def execEnableSet (m : Master) (u : UnitId) (v : Nat) (s : State) : Outcome State Fault Refusal := .next (unitWrite m u (v ||| 1) 0 s)

/-- CHECK_ABORT: a write of a unit's control register with its enable bit 0 while its check runs (R76). -/
def execCheckAbort (m : Master) (u : UnitId) (v : Nat) (s : State) : Outcome State Fault Refusal := .next (unitWrite m u (v / 2 * 2) 0 s)

/-- ENABLE_CLEAR: a write of a unit's control register with its enable bit 0 (R17). -/
def execEnableClear (m : Master) (u : UnitId) (v : Nat) (s : State) : Outcome State Fault Refusal := .next (unitWrite m u (v / 2 * 2) 0 s)

/-- The unit's check ends (R75, R77). -/
def checkEnds (u : UnitId) (c : CheckIn) (s : State) : State :=
  let code := s.checkCode u c
  if code = 0 then
    unitStarted u (((s.put .CHECK_BUSY u.code 0).put .CHECK_ENABLED u.code 1).put .CHECK_LAST_REASON u.code 0)
  else onlyIf (code == 0x0E) (assertEv 506 2) (checkRefused (masterOf (s.get .CHECK_MASTER u.code)) code u s)

/-- CHECK_COMPLETE (R75, R77). -/
def execCheckComplete (u : UnitId) (c : CheckIn) (s : State) : Outcome State Fault Refusal :=
  .next (onlyIf (unitValid u && s.unitEn u && s.flag .CHECK_BUSY u.code) (checkEnds u c) s)

end Sys2Proof.Machine
end

