-- ==== Sys2Proof/Machine/Views.lean ====
section
/-!
DEFINITION. Register fields that show state held elsewhere: what a read of each of them gives (the register tables of every
chapter).
-/
namespace Sys2Proof.Machine

/-- A field that shows state held elsewhere, with the value it shows at an index. -/
abbrev View := Fld × (State → Nat → Nat)

/-- Bits `0` to `n − 1` of a word from a predicate. -/
def maskOf (n : Nat) (p : Nat → Bool) : Nat := ((List.range n).map (fun i => if p i then 2 ^ i else 0)).sum

/-- A count as an 8-bit field shows it. -/
def sat8 (n : Nat) : Nat := min n 255

/-! ### Atlas and gazetteer (R40, R98 to R101) -/

/-- The draft of destination `d` needs a subscription, and the fabric can give one (R100). -/
def State.draftSubscribes (s : State) (d : Nat) : Bool :=
  s.flag .ATL_DRAFT_ARMED d && s.isRemote (s.get .ATL_DRAFT_SOURCE d) && s.running .fabric

/-- ATL_DRAFT.SUB (R99, R100): 0 no subscription needed, or refused; 1 requested; 2 granted, not ready; 3 ready. -/
def State.draftSub (s : State) (d : Nat) : Nat :=
  if !s.draftSubscribes d then 0
  else match s.draftRx d with
    | some r => if r.st = 4 then 0 else if r.st = 0 then 1 else if 2 ≤ r.spans then 3 else 2
    | none => (s.subWait.any (fun w => w.who == .draft d)).toNat

/-- Views of the atlas. -/
def atlasViews : List View :=
  [(.ATL_GAZ_DIGEST, fun s _ => if s.positioned then s.digestOf s.position else 0),
   (.ATL_STAT_SALVO_PENDING, fun s _ => s.salvoPending.toNat),
   (.ATL_PENDING, fun s i => maskOf 32 (fun k => (s.commitOf (32 * i + k)).isSome)),
   (.ATL_FRAME_NOW, fun s _ => s.get .ATL_N_RECENT (s.get .ATL_FRAME_SEL) % 2 ^ 32),
   (.ATL_DRAFT_STAT_SUB, State.draftSub),
   (.ATL_DRAFT_SPANS, fun s d => sat8 (if s.draftSubscribes d then ((s.draftRx d).map (·.spans)).getD 0 else 0)),
   (.ATL_LIVE_CODING, State.liveCoding),
   (.ATL_LIVE_OUT_STATE, State.outState)]

/-! ### Fabric and coding (R164, R165, R189, R192) -/

/-- STATE of a receive stream: 0 requested, 1 granted, 2 ready, 3 releasing. -/
def RxStream.state (r : RxStream) : Nat := if r.st = 1 then (if 2 ≤ r.spans then 2 else 1) else if r.st = 3 then 3 else 0

/-- A figure of FAB_RX entry `n`. -/
def State.rxFig (s : State) (n dflt : Nat) (f : RxStream → Nat) : Nat := ((s.rx.find? (fun r => r.slot == n)).map f).getD dflt
/-- A figure of FAB_TX entry `n`. -/
def State.txFig (s : State) (n dflt : Nat) (f : TxStream → Nat) : Nat := ((s.tx.find? (fun t => t.slot == n)).map f).getD dflt
/-- A figure of FAB_WP entry `n`. -/
def State.wpFig (s : State) (n dflt : Nat) (f : WpStream → Nat) : Nat := ((s.wp.find? (fun w => w.slot == n)).map f).getD dflt
/-- A figure of AUD_RXG entry `n`. -/
def State.rxgFig (s : State) (n : Nat) (f : RxStream → Nat) : Nat :=
  ((s.rx.find? (fun r => r.kind == 2 && r.rxg == n)).map f).getD 0

/-- Views of the fabric. -/
def fabricViews : List View :=
  [(.FAB_STAT_DEGRADED, fun s _ => maskOf 11 (fun p => s.portUp p && s.lanesUp p < s.variant.fabPerPeer)),
   (.FAB_STAT_UP, fun s _ => maskOf 11 s.portUp),
   (.FAB_PEER_LOST, fun s _ => maskOf 11 (s.flag .FAB_PORT_STAT_LOST ·)),
   (.FAB_PORT_STAT_UNFITTED, fun s p => (!s.fitted p).toNat),
   (.FAB_PORT_STAT_LANES_UP, State.lanesUpMask),
   (.FAB_PORT_TX_LOAD, State.portLoad),
   (.FAB_RX0_VALID, fun s n => s.rxFig n 0 (fun _ => 1)),
   (.FAB_RX0_SKETCH, fun s n => s.rxFig n 0 (fun r => (r.kind == 1).toNat)),
   (.FAB_RX0_CODING, fun s n => s.rxFig n 0 (·.coding)),
   (.FAB_RX0_WAYPOINT, fun s n => s.rxFig n 15 (·.waypoint)),
   (.FAB_RX0_HOME, fun s n => s.rxFig n 0 (·.home)),
   (.FAB_RX0_STATE, fun s n => s.rxFig n 0 (·.state)),
   (.FAB_RX0_SOURCE, fun s n => s.rxFig n 0 (·.src)),
   (.FAB_RX1_REASON, fun s n => s.rxFig n 0 (·.reason)),
   (.FAB_RX1_USERS, fun s n => s.rxFig n 0 (fun r => sat8 (s.users r))),
   (.FAB_RX1_SPANS, fun s n => s.rxFig n 0 (fun r => sat8 r.spans)),
   (.FAB_RX2_COST, fun s n => s.rxFig n 0 (fun r => s.costOf r.kind r.src r.coding r.fs)),
   (.FAB_RX3_MISSING, fun s n => s.rxFig n 0 (·.missing)),
   (.FAB_RX3_MIGRATIONS, fun s n => s.rxFig n 0 (·.migrations)),
   (.FAB_TX0_VALID, fun s n => s.txFig n 0 (fun _ => 1)),
   (.FAB_TX0_SKETCH, fun s n => s.txFig n 0 (fun t => (t.kind == 1).toNat)),
   (.FAB_TX0_CODING, fun s n => s.txFig n 0 (·.coding)),
   (.FAB_TX0_PORT, fun s n => s.txFig n 0 (·.port)),
   (.FAB_TX0_DEST, fun s n => s.txFig n 0 (·.dest)),
   (.FAB_TX0_WAYPOINT, fun s n => s.txFig n 15 (·.waypoint)),
   (.FAB_TX0_SOURCE, fun s n => s.txFig n 0 (·.src)),
   (.FAB_TX1_COST, fun s n => s.txFig n 0 (·.cost)),
   (.FAB_TX2_START, fun s n => s.txFig n 0 (·.start)),
   (.FAB_TX3_ORDER_NO, fun s n => s.txFig n 0 (·.order)),
   (.FAB_WP0_VALID, fun s n => s.wpFig n 0 (fun _ => 1)),
   (.FAB_WP0_SKETCH, fun s n => s.wpFig n 0 (fun w => (w.kind == 1).toNat)),
   (.FAB_WP0_CODING, fun s n => s.wpFig n 0 (·.coding)),
   (.FAB_WP0_IN_PORT, fun s n => s.wpFig n 0 (·.inPort)),
   (.FAB_WP0_OUT_PORT, fun s n => s.wpFig n 0 (·.outPort)),
   (.FAB_WP0_HOME, fun s n => s.wpFig n 0 (·.home)),
   (.FAB_WP0_DEST, fun s n => s.wpFig n 0 (·.dest)),
   (.FAB_WP0_SOURCE, fun s n => s.wpFig n 0 (·.src)),
   (.FAB_WP1_COST, fun s n => s.wpFig n 0 (·.cost)),
   (.FAB_WP2_CELLS, fun s n => s.wpFig n 0 (·.cells))]

/-- A figure of the decoder entry of the coded stream that feeds destination `d`'s live entry; zero for a local or Pass source
(R192). -/
def State.destDecoder (s : State) (d : Nat) (f : Fld) : Nat :=
  if 2 ≤ s.liveCoding d then ((s.liveRx d).map (fun r => s.get f r.slot)).getD 0 else 0

/-- Coded receive streams, from the grant to the end of the last span after a release or a drop (R189). -/
def State.decStreams (s : State) : Nat := (s.rx.filter (fun r => 2 ≤ r.coding && (r.runs || r.dropLast.isSome))).length

/-- Pairs of input and coding of which some stream is granted, or still leaves by the path it is moving from (R189). -/
def State.encStreams (s : State) : Nat :=
  ((s.tx.flatMap (fun t => (t.paths.filter (fun p => 2 ≤ p.1)).map (fun p => (t.src, p.1)))).eraseDups).length

/-- Views of the coding unit. -/
def codingViews : List View :=
  [(.MZC_STAT_DEC_STREAMS, fun s _ => sat8 s.decStreams),
   (.MZC_STAT_ENC_STREAMS, fun s _ => sat8 s.encStreams),
   (.MZC_DEST_STAT0_CODING, State.liveCoding),
   (.MZC_DEST_STAT0_MAX_ERR, fun s d => s.destDecoder d .MZC_DEC_MAX_ERR),
   (.MZC_DEST_INEXACT, fun s d => s.destDecoder d .MZC_DEC_INEXACT),
   (.MZC_DEST_FRAME, fun s d => s.destDecoder d .MZC_DEC_FRAME),
   (.MZC_DEST_STAT3_COARSE_BLOCKS, fun s d => min 0xFFFF (s.destDecoder d .MZC_DEC_COARSE_BLOCKS))]

/-! ### Lanes (R200, R207, R221, R222) -/

/-- Views of the lanes. -/
def laneViews : List View :=
  [(.LANF_CTRL_RX_MODE, fun _ _ => 0xF),
   (.LANF_CTRL_TX_MODE, fun _ _ => 0xF),
   (.LAN_STAT_TX_ACTIVE, fun s l => (s.txActive l).toNat),
   (.LAN_STAT_TX_PLL_LOCK, fun s l => s.get .LAN_QUAD_STAT_PLL_LOCK (quadOf l)),
   (.LAN_STAT_TEST_ACTIVE, fun s l => (s.underTest l).toNat),
   (.LAN_QUAD_STAT_FAMILY, State.quadFamily),
   (.LAN_QUAD_STAT_TX_LANES, fun s q => maskOf 4 (fun i => s.running .lane (4 * q + i) && s.txMode (4 * q + i) != 0))]

/-! ### Packet engine and time bases (R257, R258, R268, R269, R278, R293) -/

/-- A queue of group `g` has its pending bit set (R258). -/
def State.groupPending (s : State) (g : Nat) : Bool := s.regs.any (fun c => c.fld == .PKT_Q_PENDING && c.idx / 128 == g)

/-- Views of the packet engine and of the time bases. -/
def packetViews : List View :=
  [(.PKT_Q_PEND_SUM, fun s _ => maskOf 16 s.groupPending),
   (.PKT_TX_SENDING, fun s e => (s.sending e).toNat),
   (.PKT_Q_STAT_OCCUPANCY, State.qOccupancy),
   (.TIM_TB_STAT_RUNNING, fun s n => (s.running .tb n).toNat)]

/-! ### Reference (R329, R330) -/

/-- A signed quantity as a 32-bit register shows it. -/
def show32 (x : Int) : Nat := ofSigned 32 (clampInt (-(2 ^ 31)) (2 ^ 31 - 1) x)

/-- Views of the reference unit: 0.01 ppb and 0.0001 ppb/day from 1e-6 ppb. -/
def refViews : List View :=
  [(.REF_MODEL_Y, fun s _ => if s.modelValid then show32 (s.predict.tdiv 10000) else 0),
   (.REF_MODEL_AGE, fun s _ => if s.modelValid then show32 (s.ageing.tdiv 100) else 0),
   (.REF_CORR, fun s _ => show32 ((s.int .REF_K).tdiv 10000)),
   (.REF_SW_MOVED, fun s _ => show32 ((s.int .REF_MOVED).tdiv 10000))]

/-! ### Audio (R376, R377) -/

/-- Views of the audio matrix. -/
def audioViews : List View :=
  [(.AUD_STAT_COMMIT_PENDING, fun s _ => s.audCommit.isSome.toNat),
   (.AUD_STAT_RX_GROUPS, fun s _ => sat8 (s.rxCount 2)),
   (.AUD_COMMIT_RESULT_PENDING, fun s _ => s.audCommit.isSome.toNat),
   (.AUD_RXG0_VALID, fun s n => s.rxgFig n (fun _ => 1)),
   (.AUD_RXG0_STATE, fun s n => s.rxgFig n (·.state)),
   (.AUD_RXG0_LOST, fun s n => s.rxgFig n (fun _ => s.get .AUD_GROUP_LOST n)),
   (.AUD_RXG0_HOME, fun s n => s.rxgFig n (·.home)),
   (.AUD_RXG0_REASON, fun s n => s.rxgFig n (·.reason)),
   (.AUD_RXG0_SPANS, fun s n => s.rxgFig n (fun r => sat8 r.spans)),
   (.AUD_RXG0_GROUP, fun s n => s.rxgFig n (·.src)),
   (.AUD_LIVE_EVAC, fun s c => (s.flag .AUD_EVAC_ACTIVE && s.isVenue c).toNat),
   (.AUD_OUT0_VENUE, fun s c => (s.isVenue c).toNat),
   (.AUD_PORT_STAT_HELD, fun s p => (s.running .port p && portKind p < 2 && !s.audDriven).toNat)]

/-! ### Composition, faults, security, field side (R451, R475, R491 to R493, R505, R555, R575) -/

/-- A stored cause of one of a register's bits whose enable is set. -/
def State.causeSet (s : State) (evt en : Fld) (i : Nat) : Bool := s.get evt i &&& s.get en i != 0

/-- A cause of GPI `n` is set and enabled (R569, R570). -/
def State.gpiCauseSet (s : State) (n : Nat) : Bool :=
  (s.flag .FLD_GPI_W2_EDGE_C n && s.flag .FLD_GPI_W0_EDGE_EN n) || (s.flag .FLD_GPI_W2_STUCK_C n && s.flag .FLD_GPI_W0_STUCK_EN n)
    || (s.flag .FLD_GPI_W2_EXCESS_C n && s.flag .FLD_GPI_W0_EXCESS_EN n)

/-- A cause of the twin block that raises source 440 + k is set and enabled (R532). -/
def State.twinCauseSet (s : State) (k : Nat) : Bool :=
  let e := s.get .TWN_EVT &&& s.get .TWN_EVT_EN
  bitsAt e k 1 == 1 && k != 8 || (k == 6 && bitsAt e 8 1 == 1)

/-- LEVEL of a source: a cause of it is set now (R505). A source without a cause register reads 0. -/
def State.sourceLevel (s : State) (n : Nat) : Bool :=
  if n < 184 then s.causeSet .LAN_EVT .LAN_EVT_EN n
  else if 200 ≤ n && n < 211 then bitsAt (s.get .FAB_PEER_EVENT) (n - 200) 1 == 1
  else if 240 ≤ n && n < 264 then (List.range 4).any (fun i => s.causeSet .PKT_MAC_EVT .PKT_MAC_EVT_EN (4 * (n - 240) + i))
  else if 264 ≤ n && n < 280 then s.groupPending (n - 264)
  else if 304 ≤ n && n < 312 then s.causeSet .TIM_TB_EVT .TIM_TB_EVT_EN (n - 304)
  else if 332 ≤ n && n < 355 then (List.range 784).any (fun p => portSource p == n && s.causeSet .AUD_PORT_EVT .AUD_PORT_EVT_EN p)
  else if 360 ≤ n && n < 392 then s.causeSet .DSP_CORE_EVT .DSP_CORE_EVT_EN (n - 360)
  else if 392 ≤ n && n < 396 then s.causeSet .CMP_HEAD_EVT .CMP_HEAD_EVT_EN (n - 392)
  else if 440 ≤ n && n < 448 then s.twinCauseSet (n - 440)
  else if 464 ≤ n && n < 472 then (List.range 4).any (fun i => s.gpiCauseSet (4 * (n - 464) + i))
  else if 496 ≤ n && n < 504 then s.causeSet .CHK_EVT .CHK_EVT_EN (n - 496)
  else false

/-- The record that FLT_RECOV_HEAD shows: the active one, else the head of the queue (R505). -/
def State.recovShown (s : State) : Option RecovRec := s.recovActive.orElse (fun _ => s.recovQueue.head?)

/-- A figure of the record shown. -/
def State.recovFig (s : State) (f : RecovRec → Nat) : Nat := (s.recovShown.map f).getD 0

/-- Word `w` of public key `k`: 0 root, 1 to 4 owner slots, 5 and 6 safety-owner slots (R555). -/
def State.keyWord (s : State) (k w : Nat) : Nat :=
  let key := if k = 0 then s.fuses.rootKey else if k < 5 then (s.fuses.ownerKeys[k - 1]?).getD [] else (s.fuses.safetyKeys[k - 5]?).getD []
  leNat ((key.drop (4 * w)).take 4)

/-- Views of the blocks from composition on. -/
def systemViews : List View :=
  [(.MSIX_PBA, fun s i => maskOf 32 (fun k => s.flag .MSIX_PENDING (32 * i + k))),
   (.CMP_HEAD_STAT_LAYERS, State.liveLayers),
   (.FLT_RECOV_STAT_RECOVERING, fun s _ => s.recovering.toNat),
   (.FLT_RECOV_STAT_ACTIVE, fun s _ => s.recovActive.isSome.toNat),
   (.FLT_RECOV_STAT_DEPTH, fun s _ => s.recovDepth),
   (.FLT_RECOV_HEAD_VALID, fun s _ => s.recovShown.isSome.toNat),
   (.FLT_RECOV_HEAD_CONCURRENT, fun s _ => s.recovFig (·.concurrent.toNat)),
   (.FLT_RECOV_HEAD_PREEMPTED, fun s _ => s.recovFig (·.preempted.toNat)),
   (.FLT_RECOV_HEAD_IS_ACTIVE, fun s _ => s.recovActive.isSome.toNat),
   (.FLT_RECOV_HEAD_PRIO, fun s _ => s.recovFig (fun r => recovPrio r.source)),
   (.FLT_RECOV_HEAD_COUNT, fun s _ => s.recovFig (·.count)),
   (.FLT_RECOV_HEAD_SOURCE, fun s _ => s.recovFig (·.source)),
   (.FLT_PEND, fun s w => maskOf 32 (fun k => s.flag .FLT_SRC_STAT_PENDING (32 * w + k))),
   (.FLT_SRC_STAT_LEVEL, fun s n => (s.sourceLevel n).toNat),
   (.SEC_LC_KEY_DESTROYED, fun s _ => s.fuses.keyDestroyed.toNat),
   (.SEC_LC_SAFETY_REVOKED, fun s _ => s.fuses.safetyRevoked),
   (.SEC_LC_OWNER_REVOKED, fun s _ => s.fuses.ownerRevoked),
   (.SEC_LC_FLOOR, fun s _ => s.fuses.floor),
   (.SEC_LC_PENDING_VALID, fun s _ => (s.fuses.lifecycle != s.inForce.lifecycle).toNat),
   (.SEC_LC_PENDING, fun s _ => if s.fuses.lifecycle = s.inForce.lifecycle then 0 else s.fuses.lifecycle),
   (.SEC_LC_STATE, fun s _ => s.inForce.lifecycle),
   (.SEC_UID_LO, fun s _ => s.fuses.uid % 2 ^ 32),
   (.SEC_UID_HI, fun s _ => s.fuses.uid / 2 ^ 32 % 2 ^ 32),
   (.SEC_DBG_CEILING, fun s _ => s.debugCeiling),
   (.SEC_KEY, fun s i => s.keyWord (i / 24) (i % 24)),
   (.SEC_PROV, fun _ _ => 0),
   (.FLD_SAFE_STAT_DEFAULT, fun s _ => s.get .GEN_BOOT_STAT_SAFETY_DEFAULT)]

/-! ### Reading a register (R15) -/

/-- Every view that is the same for every reader. -/
def allViews : List View :=
  atlasViews ++ fabricViews ++ codingViews ++ laneViews ++ packetViews ++ refViews ++ audioViews ++ systemViews

/-- TIM_TB_NOW_NS and _SEC_LO and _SEC_HI: the value latched for the reading master (R278). -/
def latchedViews (m : Master) : List View :=
  [(.TIM_TB_NOW_NS, fun s n => s.get .TB_SHADOW_NS (8 * readerOf m + n)),
   (.TIM_TB_NOW_SEC_LO, fun s n => s.get .TB_SHADOW_SEC (8 * readerOf m + n) % 2 ^ 32),
   (.TIM_TB_NOW_SEC_HI, fun s n => s.get .TB_SHADOW_SEC (8 * readerOf m + n) / 2 ^ 32 % 2 ^ 16)]

/-- What a field reads as at an index. -/
def State.shown (s : State) (m : Master) (f : Fld) (i : Nat) : Nat :=
  if f.info.acc = .WO then 0
  else match (allViews ++ latchedViews m).find? (fun v => v.1 == f) with
    | some v => v.2 s i % 2 ^ f.info.w
    | none => s.get f i

/-- The register shows an entry that reads zero and ignores writes: a source that does not exist (R7, R499), or an audio channel
beyond a 96 kHz matrix (R376). -/
def State.blankEntry (s : State) (r : RegRef) : Bool :=
  match r.desc.flds.head? with
  | some .FLT_SRC_MASK | some .FLT_SRC_STAT_LEVEL | some .FLT_SRC_TIME_NS | some .FLT_SRC_TIME_SEC => !s.sourceExists r.idx
  | some .AUD_DRAFT_SOURCE | some .AUD_LIVE_REMOTE | some .AUD_OUT0_CLIPPED | some .AUD_OUT1_GAIN_LIMIT => s.matrixSize ≤ r.idx
  | _ => false

/-- The word that a read of a register returns to a master. -/
def State.shownWord (s : State) (m : Master) (r : RegRef) : Nat :=
  if s.blankEntry r then 0 else (r.desc.flds.map (fun f => s.shown m f (r.fieldIdx f) * 2 ^ f.info.lo)).sum

end Sys2Proof.Machine
end

