-- ==== Sys2Proof/Machine/Access.lean ====
section
/-!
DEFINITION. Accesses of a master at an internal address: a write that no other row is for, and a read. What a register does when
it is written beyond its access codes is that of the row for it, which this file finds by one of the register's fields.
-/
namespace Sys2Proof.Machine

open Host (Outcome)

/-- The state that a command leaves. -/
def after (o : Outcome State Fault Refusal) (s : State) : State :=
  match o with
  | .next t => t
  | _ => s

/-- An effect of a register write: master, register index, value, bits that hardware sets in the same cycle. -/
abbrev Trigger := Master → Nat → Nat → Nat → State → State

/-! ### Commands that share a register with others -/

/-- SEC_CMD with GO (R538, R555). A CMD that names no command is refused with 0x04. -/
def secCommand (m : Master) (v : Nat) (s : State) : State :=
  let slot := bitsAt v 8 8
  if bitsAt v 31 1 = 0 then s
  else match bitsAt v 16 8 with
    | 0x01 => after (execUnlock m slot s) s
    | 0x02 => after (execRelock m slot s) s
    | 0x10 => after (execProvision m slot s) s
    | 0x11 => after (execDeploy m slot s) s
    | 0x12 => after (execSecReturn m slot s) s
    | 0x20 => after (execRevokeOwner m slot s) s
    | 0x21 => after (execRevokeSafety m slot s) s
    | 0x22 => after (execRaiseFloor m slot s) s
    | 0x30 => after (execAckSafety m slot s) s
    | _ => secRefuse 0x04 m s

/-- CFG_NVM_CTRL (R70). -/
def nvmControl (m : Master) (v : Nat) (s : State) : State :=
  match bitsAt v 0 2 with
  | 1 => after (execNvmWritePage m s) s
  | 2 => after (execNvmReadPage m s) s
  | 3 => after (execNvmOverwriteHeader m s) s
  | _ => s

/-- A register with a command in bit 31 and one that withdraws it in bit 30: with both, 0x04 (R376 for AUD_COMMIT). -/
def twoCommands (m : Master) (off v : Nat) (go cancel : State → State) (s : State) : State :=
  if bitsAt v 31 1 = 1 ∧ bitsAt v 30 1 = 1 then refuse 0x04 (wordOf off) m s
  else onlyIf (bitsAt v 31 1 == 1) go (onlyIf (bitsAt v 30 1 == 1) cancel s)

/-- CMP_LYR_FLIP of layer `l` of head `n` (R439). -/
def flipCommand (m : Master) (n l v : Nat) (s : State) : State :=
  twoCommands m (layerOff n l 10) v (fun s => after (execLayerArm m n l v s) s) (fun s => after (execLayerCancel m n l s) s) s

/-- FLT_RECOV_CMD (R492). -/
def recovCommand (m : Master) (v : Nat) (s : State) : State :=
  if bitsAt v 31 1 = 1 then after (execRecoveryTake m v s) s
  else if bitsAt v 30 1 = 1 then after (execRecoveryDone m v s) s else s

/-- TWN_CMD (R532). -/
def twinRegister (m : Master) (v : Nat) (s : State) : State :=
  if bitsAt v 0 1 = 1 then after (execClaimTake m v s) s
  else if bitsAt v 1 1 = 1 then after (execClaimRelease m s) s else s

/-- FLT_SRC word 0 and word 1 (R487, R489). -/
def sourceWord (m : Master) (n v : Nat) (s : State) : State :=
  if v % 2 = 1 then after (execForce m n v s) s else writeWord m (srcOff n) v s

/-- A write cannot clear PENDING of source `n` (R258): it is that of a group of queues, and stays pending while any bit of the group is
set. -/
def State.staysPending (s : State) (n : Nat) : Bool := 264 ≤ n && n < 280 && s.groupPending (n - 264)

/-- FLT_SRC word 1: STORM releases the source (R487). -/
def sourceStatus (m : Master) (n v hw : Nat) (s : State) : State :=
  let hw := if s.staysPending n && s.flag .FLT_SRC_STAT_PENDING n then hw ||| 2 ^ 30 else hw
  if bitsAt v 29 1 = 1 then stormWord m n v hw s else writeWordHw m (srcOff n + 4) v hw s

/-- FLT_PEND: a 1 clears PENDING of its source (R258, R484). -/
def clearPending (i v hw : Nat) (s : State) : State :=
  forAll (List.range 32) (fun k s =>
    onlyIf (bitsAt v k 1 == 1 && bitsAt hw k 1 == 0 && !s.staysPending (32 * i + k)) (·.put .FLT_SRC_STAT_PENDING (32 * i + k) 0) s) s

/-- VALID written 1 clears latch `b` whole (R490). -/
def clearLatch (b v hw : Nat) (s : State) : State :=
  if bitsAt v 31 1 = 1 ∧ bitsAt hw 31 1 = 0 then
    ((((s.put .FLT_LATCH_VALID b 0).put .FLT_LATCH_SOURCE b 0).put .FLT_LATCH_OTHERS b 0).put .FLT_LATCH_NS b 0).put .FLT_LATCH_SEC b 0
  else s

/-- MSIX_CONTROL of vector `n` (R475, R476). -/
def vectorControl (m : Master) (n v : Nat) (s : State) : State :=
  if v % 2 = 0 then after (execMsixUnmask m n s) s else s.put .MSIX_CONTROL_MASK n 1

/-- A word of the look-up tables of a head, entry `i` of its table of `per` words in all, `base` its offset (R431, R451). -/
def lutWord (base per : Nat) (m : Master) (i v : Nat) (s : State) : State :=
  after (execLutWrite m (i / per) (base + 4 * (i % per)) v s) s

/-- A shadow word. -/
def shadowWord (m : Master) (n : Nat) (w : Shadow) (v : Nat) (s : State) : State := after (execShadowWrite m n w v s) s

/-- Word `k` of an overlay. -/
def overlayWord (k : Nat) : Trigger := fun m i v _ s => shadowWord m (i / 8) (.layer (64 + i % 8) k) v s
/-- Word `k` of a tile. -/
def tileWord (k : Nat) : Trigger := fun m i v _ s => shadowWord m (i / 64) (.layer (i % 64) k) v s

/-- Staged word `k` of a gazetteer entry. -/
def gazWord (k : Nat) : Trigger := fun m i v _ s => after (execGazStageWrite m i k v s) s

/-! ### Registers with an effect of their own -/

/-- Effects of the blocks up to the fabric, by one of the register's fields. -/
def earlyTriggers : List (Fld × Trigger) :=
  [(.GEN_CTRL_UNLOCK, fun m _ v _ s => genCtrlWrite m v s),
   (.CFG_NVM_CTRL_CMD, fun m _ v _ s => nvmControl m v s),
   (.MSIX_CONTROL_MASK, fun m i v _ s => vectorControl m i v s),
   (.GAZ_W0_VALID, fun m i v _ s => after (execGazPublish m i v s) s),
   (.GAZ_W1_GENERATION, gazWord 1), (.GAZ_RATE, gazWord 2), (.GAZ_ANC_RATE, gazWord 3),
   (.GAZ_LABEL0, gazWord 4), (.GAZ_LABEL1, gazWord 5), (.GAZ_LABEL2, gazWord 6), (.GAZ_LABEL3, gazWord 7),
   (.ATL_COMMIT_SALVO, fun m _ v _ s =>
      if bitsAt v 31 1 = 1 then after (execAtlSalvo m v s) s else after (execAtlCommit m v s) s),
   (.ATL_CANCEL_SALVO, fun m _ v _ s =>
      if bitsAt v 31 1 = 1 then after (execSalvoCancel m s) s else after (execAtlCancel m v s) s),
   (.ATL_DRAFT_ARMED, fun m i v _ s => after (draftWrite m i v s) s),
   (.FAB_PORT_LIMIT, fun m i v _ s => after (execPortLimitWrite m i v s) s),
   (.LAN_TEST_PRBS_LOCK, fun m i v _ s => after (execLanTestWrite m i v s) s)]

/-- Effects of queues, time bases and the reference unit. -/
def timeTriggers : List (Fld × Trigger) :=
  [(.PKT_Q_PTR_PROD, fun m i v _ s => after (execPktQProd m i v s) s),
   (.PKT_Q_PTR_CONS, fun m i v _ s => after (execPktQCons m i v s) s),
   (.TIM_TB_INC_LO, fun _ i v _ s => stageInc i v s),
   (.TIM_TB_INC_HI, fun m i v _ s => after (execIncCommit m i v s) s),
   (.TIM_TB_CMD_DISARM, fun m i v _ s => tbCmdRow m i v s),
   (.TIM_SNAP_CMD_CAPTURE, fun m _ v _ s => if v % 2 = 1 then after (execSnapshot m s) s else s),
   (.TIM_DOMAIN_EN, fun m i v _ s => after (execDomainWrite m i v s) s),
   (.REF_CAND_EN, fun m i v _ s => after (execCandidateWrite m i v s) s),
   (.REF_LIMITS_DISQ, fun m _ v _ s => after (execThresholdWrite m 0 v s) s),
   (.REF_QUAL_QUAL, fun m _ v _ s => after (execThresholdWrite m 1 v s) s),
   (.REF_DRIFT_DRIFT, fun m _ v _ s => after (execThresholdWrite m 2 v s) s),
   (.REF_SLOPE_SLOPE, fun m _ v _ s => after (execThresholdWrite m 3 v s) s),
   (.REF_SW_VALID, fun m _ v _ s => after (execRefSwWrite m v s) s)]

/-- Effects of the audio matrix, the DSP cores and the composition unit. -/
def mediaTriggers : List (Fld × Trigger) :=
  [(.AUD_DRAFT_SOURCE, fun m i v _ s => after (execAudDraftWrite m i v s) s),
   (.AUD_COMMIT_GO, fun m _ v _ s =>
      twoCommands m audCommitOff v (fun s => after (execAudioCommit m v s) s) (fun s => after (execAudioCancel m s) s) s),
   (.AUD_OUT0_CLIPPED, fun m i v hw s => gainWord m i v hw s),
   (.AUD_PORT_MASK_IN, fun m i v _ s => after (execMaskWrite m i false v s) s),
   (.AUD_PORT_MASK_OUT, fun m i v _ s => after (execMaskWrite m i true v s) s),
   (.DSP_CORE_DOORBELL_RING, fun m i v _ s => if v % 2 = 1 then after (execDspDoorbell m i s) s else s),
   (.CMP_HEAD_LUTSEL_IN_USE, fun m i v _ s => after (execLutselWrite m i v s) s),
   (.CMP_HEAD_COMMIT_GO, fun m i v _ s =>
      twoCommands m (headOff i 0x14) v (fun s => after (execHeadCommit m i s) s) (fun s => after (execHeadCancel m i s) s) s),
   (.CMP_FENCE_SIGNAL_FENCE, fun m i v _ s => after (execFenceSignal m i v s) s),
   (.CMP_HEAD_BG, fun m i v _ s => shadowWord m i (.colour 0) v s),
   (.CMP_HEAD_TALLY, fun m i v _ s => shadowWord m (i / 4) (.colour (1 + i % 4)) v s),
   (.CMP_TILE_W0_EN_T, tileWord 0), (.CMP_TILE_W1_Y, tileWord 1), (.CMP_TILE_W2_HEIGHT, tileWord 2),
   (.CMP_TILE_W3_FALLBACK, tileWord 3),
   (.CMP_OVL_W0_EN_O, overlayWord 0), (.CMP_OVL_W1_BASE_LO, overlayWord 1), (.CMP_OVL_W2_STRIDE, overlayWord 2),
   (.CMP_OVL_W3_FALLBACK, overlayWord 3),
   (.CMP_TILE_FLIP_ARM, fun m i v _ s => flipCommand m (i / 64) (i % 64) v s),
   (.CMP_OVL_FLIP_ARM, fun m i v _ s => flipCommand m (i / 8) (64 + i % 8) v s),
   (.CMP_LUT_PV_ODD, fun m i v _ s => lutWord 0x4000 3072 m i v s),
   (.CMP_LUT_PG_ODD, fun m i v _ s => lutWord 0x7000 3072 m i v s),
   (.CMP_LUT_PO_ODD, fun m i v _ s => lutWord 0xA000 12288 m i v s)]

/-- Effects of the blocks from the fault unit on. -/
def lateTriggers : List (Fld × Trigger) :=
  [(.FLT_SRC_MASK, fun m i v _ s => sourceWord m i v s),
   (.FLT_SRC_STAT_LEVEL, fun m i v hw s => sourceStatus m i v hw s),
   (.FLT_PEND, fun _ i v hw s => clearPending i v hw s),
   (.FLT_LATCH_VALID, fun _ i v hw s => clearLatch i v hw s),
   (.FLT_RECOV_CMD_TAKE, fun m _ v _ s => recovCommand m v s),
   (.TWN_CMD_RELEASE, fun m _ v _ s => twinRegister m v s),
   (.SEC_CMD_GO, fun m _ v _ s => secCommand m v s),
   (.SEC_PROV, fun _ i v _ s => if s.inForce.lifecycle = 0 then s.put .SEC_PROV i v else s),
   (.PWR_CTRL_REQ, fun m _ v _ s => powerRequest m v s),
   (.FLD_GPO_FAULT, fun m _ v hw s => after (execGpoFaultClear m v hw s) s)]

/-- Every register with an effect beyond its access codes, by one of its fields. -/
def triggers : List (Fld × Trigger) := earlyTriggers ++ timeTriggers ++ mediaTriggers ++ lateTriggers

/-! ### Control registers (R17, R88, R245, R254 to R256, R260, R308) -/

/-- The unit whose enable bit a register holds. -/
def RegRef.unit (r : RegRef) : Option UnitId := r.desc.unit.map (fun u => ⟨u.1, if u.2 = 0 then 0 else r.idx / u.2⟩)

/-- CHANGE of PKT_GCL_CTRL (R260): the administrative list is validated and latched. A list that is not enabled keeps nothing pending
(R263; DEDUCED, log entry 126). -/
def changeGates (m : Master) (n : Nat) (s : State) : State :=
  let c := s.gateCode n
  if c ≠ 0 then refuse c (wordOf (gclOff n)) m s else onlyIf (s.running .gcl n) (latchGates n) s

/-- FLUSH of PKT_Q_CTRL (R254 to R256), 1 soft and 2 hard, after the write's other fields: a queue that the same write has disabled refuses
it (DESIGN CHOICE, log entry 125); a soft flush during one is ignored. -/
def flushQueue (m : Master) (q kind : Nat) (s : State) : State :=
  if kind ≠ 1 ∧ kind ≠ 2 then s
  else if !s.running .queue q then refuse 0x6D (wordOf (queueOff q 4)) m s
  else if kind = 1 then s.put .PKT_Q_STAT_FLUSHING q 1 else hardFlush q false s

/-- The actions that some control registers hold beside the enable bit. -/
def controlAction (m : Master) (u : UnitId) (v : Nat) (s : State) : State :=
  match u.kind with
  | .atlas => onlyIf (bitsAt v 8 1 == 1) (fun s => refuseAll 0x25 (alignMeridians (s.put .ATL_STAT_MISALIGNED 0 0))) s
  | .gcl => onlyIf (bitsAt v 1 1 == 1 && !s.flag .CHECK_BUSY u.code) (changeGates m u.idx) s
  | .queue => flushQueue m u.idx (bitsAt v 2 2) s
  | .ref =>
    onlyIf (bitsAt v 15 1 == 1 && s.running .ref && s.eligible (bitsAt v 8 4)) (runSelection s.goneCause) s
  | _ => s

/-- A code that refuses a control register's write whole. -/
def State.controlCode (s : State) (u : UnitId) (v : Nat) : Nat :=
  match u.kind with
  | .queue => codeIf ((bitsAt v 2 2 == 1 || bitsAt v 2 2 == 2) && !s.running .queue u.idx) 0x6D
  | .ref => codeIf (bitsAt v 15 1 == 1 && !s.flag .REF_CTRL_FORCE_EN && !s.eligible (bitsAt v 8 4)) 0x91
  | _ => 0

/-- A write of a register that holds an enable bit. -/
def controlRegister (m : Master) (off v hw : Nat) (r : RegRef) (u : UnitId) (s : State) : State :=
  let code := s.controlCode u v
  if code ≠ 0 then refuse code (wordOf off) m s
  else if reservedValue r v then refuse 0x04 (wordOf off) m s
  else controlAction m u v (controlWrite m u v hw s)

/-- A control register's write by a row of its own. -/
def controlRow (m : Master) (u : UnitId) (off v : Nat) (s : State) : State :=
  match lookupReg off with
  | some r => writeGated m off (controlRegister m off v 0 r u) s
  | none => s

/-- SOFT_FLUSH: a write of PKT_Q_CTRL with FLUSH 1 (R254, R256). -/
def execSoftFlush (m : Master) (q v : Nat) (s : State) : Outcome State Fault Refusal :=
  .next (onlyIf (q < 65536) (controlRow m ⟨.queue, q⟩ (queueOff q 4) (v - 4 * bitsAt v 2 2 + 4)) s)

/-- HARD_FLUSH: a write of PKT_Q_CTRL with FLUSH 2 (R255, R256). -/
def execHardFlush (m : Master) (q v : Nat) (s : State) : Outcome State Fault Refusal :=
  .next (onlyIf (q < 65536) (controlRow m ⟨.queue, q⟩ (queueOff q 4) (v - 4 * bitsAt v 2 2 + 8)) s)

/-- FORCE_SELECT: a write of REF_CTRL with FORCE_EN set (R306, R308). -/
def execForceSelect (m : Master) (v : Nat) (s : State) : Outcome State Fault Refusal :=
  .next (controlRow m ⟨.ref, 0⟩ (refOff 0) (v ||| 2 ^ 15) s)

/-- REALIGN: a write of ATL_CTRL with REALIGN set (R88). -/
def execRealign (m : Master) (v : Nat) (s : State) : Outcome State Fault Refusal :=
  .next (controlRow m ⟨.atlas, 0⟩ 0x100000 (v - 256 * bitsAt v 8 1 + 256) s)

/-- GCL_CHANGE: a write of PKT_GCL_CTRL with CHANGE set (R260). -/
def execGclChange (w : Master) (m v : Nat) (s : State) : Outcome State Fault Refusal :=
  .next (onlyIf (m < 96) (controlRow w ⟨.gcl, m⟩ (gclOff m) (v ||| 2)) s)

/-! ### The windows of the DSP cores (R416, R420, R421) -/

/-- What an offset in a core's window is. -/
inductive DspPlace where
  | program
  | data
  | control
  | core (o : Nat)
  | register
deriving DecidableEq, Repr

/-- The map of a core's window (R420). -/
def dspPlace (o : Nat) : DspPlace :=
  if o < 0x10000 then .program
  else if 0x1FFC0 ≤ o ∧ o < 0x20000 then .control
  else if o < 0x30000 then .data
  else if 0x30080 ≤ o ∧ o < 0x30200 then .core (o - 0x30000)
  else .register

/-- The core registers stand open (R421): the core is disabled, halted, faulted or halted by debug. -/
def State.coreOpen (s : State) (n : Nat) : Bool :=
  let st := s.get .DSP_CORE_STAT_STATE n
  st == 0 || st == 3 || st == 4 || st == 5

/-- 80-bit pattern of an accumulator. -/
def accBits (x : Int) : Nat := ofSigned 80 x

/-- A core register as the window shows it, none where R421 names none. -/
def DspCore.windowRead (c : DspCore) (mode o : Nat) : Option Nat :=
  let k := o / 4
  if o < 0xC0 then some (c.dReg (k - 0x20))
  else if o < 0xE0 then some (c.a.getD (k - 0x30) 0)
  else if o < 0x100 then some (c.m.getD (k - 0x38) 0 % 2 ^ 16)
  else if o < 0x120 then some (c.l.getD (k - 0x40) 0)
  else if o < 0x130 then some (c.readCode mode (0x28 + (k - 0x48)))
  else if o = 0x130 then some (min 0x1FFF c.pc)
  else if 0x140 ≤ o ∧ o < 0x14C then some (accBits c.acc0 / 2 ^ (32 * (k - 0x50)) % 2 ^ 32)
  else if 0x150 ≤ o ∧ o < 0x15C then some (accBits c.acc1 / 2 ^ (32 * (k - 0x54)) % 2 ^ 32)
  else if 0x180 ≤ o ∧ o < 0x200 then
    let e := c.stack.getD ((o - 0x180) / 8) (0, 0)
    some (if k % 2 = 0 then e.1 else e.2)
  else none

/-- Word `w` of an accumulator replaced. -/
def accPut (x : Int) (w v : Nat) : Int :=
  let old := accBits x
  toSigned 80 (old - old / 2 ^ (32 * w) % 2 ^ 32 * 2 ^ (32 * w) + v % 2 ^ (if w = 2 then 16 else 32) * 2 ^ (32 * w))

/-- A write of a core register through the window. -/
def DspCore.windowWrite (c : DspCore) (o v : Nat) : DspCore :=
  let k := o / 4
  if o < 0xC0 then c.writeCode (k - 0x20) v
  else if o < 0xE0 then c.writeCode (0x10 + (k - 0x30)) v
  else if o < 0x100 then c.writeCode (0x18 + (k - 0x38)) v
  else if o < 0x120 then c.writeCode (0x20 + (k - 0x40)) v
  else if o < 0x130 then c.writeCode (0x28 + (k - 0x48)) v
  else if o = 0x130 then { c with pc := v % 2 ^ 13 }
  else if 0x140 ≤ o ∧ o < 0x14C then { c with acc0 := accPut c.acc0 (k - 0x50) v }
  else if 0x150 ≤ o ∧ o < 0x15C then { c with acc1 := accPut c.acc1 (k - 0x54) v }
  else if 0x180 ≤ o ∧ o < 0x200 then
    let i := (o - 0x180) / 8
    let e := c.stack.getD i (0, 0)
    { c with stack := c.stack.set i (if k % 2 = 0 then (v % 2 ^ 13, e.2) else (e.1, v &&& (srMask ||| 2 ^ 30))) }
  else c

/-- A word that the window of core `n` shows in its memories and core registers; none where the offset names nothing. -/
def State.dspWindowRead (s : State) (n o : Nat) : Option Nat :=
  match dspPlace o with
  | .program | .data => some (s.memWord (dspWindow n + o))
  | .control => some 0
  | .core c => ((s.core n).windowRead (s.get .DSP_CORE_CTRL_MODE n) c).map (fun v => if s.coreOpen n then v else 0)
  | .register => none

/-- A write into the window of core `n`; none where the offset names nothing. -/
def dspWindowWrite (m : Master) (n o v : Nat) (s : State) : Option State :=
  match dspPlace o with
  | .program => some (if s.dspLive n then refuse 0xB0 (wordOf (dspOff n o)) m s else s.memPut (dspWindow n + o) 4 v)
  | .data => some (s.memPut (dspWindow n + o) 4 v)
  | .control => some s
  | .core c =>
    ((s.core n).windowRead 0 c).map (fun _ =>
      if s.coreOpen n then putCore n ((s.core n).windowWrite c v) s else refuse 0xB6 (wordOf (dspOff n o)) m s)
  | .register => none

/-- The offset lies in the block of the DSP cores. -/
def inDspBlock (off : Nat) : Bool := 0xA00000 ≤ off && off < 0x1200000
/-- Core of an offset in that block. -/
def dspCoreOf (off : Nat) : Nat := (off - 0xA00000) / 0x40000
/-- Offset in the core's window. -/
def dspOffsetOf (off : Nat) : Nat := (off - 0xA00000) % 0x40000

/-- In Quiet the debug port does not reach the memories of the DSP cores (R554). -/
def debugBarred (m : Master) (off : Nat) (s : State) : Bool :=
  m == .debug && s.inQuiet && inDspBlock off && dspOffsetOf off < 0x30000

/-! ### Writes -/

/-- A write to a register that passed the gate. -/
def registerEffect (m : Master) (off v hw : Nat) (r : RegRef) (s : State) : State :=
  if s.blankEntry r then s
  else match r.unit, r.desc.flds.contains .UNIT_EN with
    | some u, true => controlRegister m off v hw r u s
    | _, _ =>
      match triggers.find? (fun t => r.desc.flds.contains t.1) with
      | some t => t.2 m r.idx v hw s
      | none => plainWrite m off v hw r s

/-- Register space below the gate: a register, a place of a core's window, or nothing. -/
def registerSpaceWrite (m : Master) (off v hw : Nat) (s : State) : State :=
  match lookupReg off with
  | some r => registerEffect m off v hw r (s.respond 0 false)
  | none =>
    match (if inDspBlock off then dspWindowWrite m (dspCoreOf off) (dspOffsetOf off) v (s.respond 0 false) else none) with
    | some t => t
    | none => busError m (barBase + off) true 0 s

/-- A write that would set the enable bit of an absent unit is a refusal besides the error response (R7). -/
def absentEnable (m : Master) (off v : Nat) (s : State) : State :=
  onlyIf (v % 2 == 1 && (lookupReg off).any (fun r => r.desc.flds.contains .UNIT_EN)) (refuse 0x01 (wordOf off) m) s

/-- A register write with its gate (R14, R53, R541, R550). -/
def registerWrite (m : Master) (off size v hw : Nat) (s : State) : State :=
  if debugBarred m off s then busError m (barBase + off) true 7 s
  else match regGate m off size true s with
    | some c => onlyIf (c == 1) (absentEnable m off v) (denyAccess m (barBase + off) true c s)
    | none => registerSpaceWrite m off v hw s

/-- A write of `size` bytes at byte `o` of the mailboxes (R477, R478): MBX_CTRL as a whole word, the payload, nothing between. -/
def mailboxBytes (m : Master) (o size v : Nat) (s : State) : State :=
  let r := o % 0x1000
  let s := onlyIf (r == 0 && 4 ≤ size) (mailboxWrite m (o / 0x1000) (v % 2 ^ 32)) s
  s.memPutBytes (0x5000000 + o + (0x40 - r)) ((leBytes size v).drop (0x40 - r))

/-- An access of several whole words in the register space is a burst (R460; DEDUCED, log entry 131). -/
def isBurst (off size : Nat) : Bool := off % 4 == 0 && size % 4 == 0 && 4 < size

/-- A burst into the register space: its 32-bit writes in ascending order, each judged alone (R460). -/
def burstWrite (m : Master) : Nat → Nat → Nat → Nat → State → State
  | 0, _, _, _, s => s
  | n + 1, off, v, hw, s => burstWrite m n (off + 4) (v / 2 ^ 32) 0 (registerWrite m off 4 (v % 2 ^ 32) hw s)

/-- A write within 4 KiB. -/
def writeAt (m : Master) (addr size v hw : Nat) (s : State) : State :=
  match s.target m addr with
  | .register off => if isBurst off size then burstWrite m (size / 4) off v hw s else registerWrite m off size v hw s
  | t => match s.memGate m addr size true with
    | some c => denyAccess m addr true c s
    | none => match t with
      | .sram o => memoryWrite o size v (s.respond 0 false)
      | .hbm _ b => memoryWrite b size v (s.respond 0 false)
      | .mailbox o => mailboxBytes m o size v (s.respond 0 false)
      | _ => s

/-- Bytes from an address to the next 4 KiB boundary. -/
def toPage (addr : Nat) : Nat := 0x1000 - addr % 0x1000

/-- REGISTER_WRITE: a write of `size` bytes at an internal address (R12, R15, R456, R598); one that would cross a 4 KiB boundary is
split there (R460). -/
def execRegisterWrite (m : Master) (addr size v hw : Nat) (s : State) : Outcome State Fault Refusal :=
  let n := toPage addr
  .next (if size ≤ n then writeAt m addr size v hw s
    else writeAt m (addr + n) (size - n) (v / 2 ^ (8 * n)) 0 (writeAt m addr n (v % 2 ^ (8 * n)) hw s))

/-! ### Reads -/

/-- Clear what a read clears: RC fields, but for the bits hardware sets in the same cycle (R15, R16). -/
def clearRead (r : RegRef) (hw : Nat) (s : State) : State :=
  forAll r.desc.flds (fun f s =>
    onlyIf (f.info.acc == .RC) (·.put f (r.fieldIdx f) (fieldOf f hw)) s) s

/-- Registers whose read does more than clear, by one of their fields. -/
def readTriggers : List (Fld × (Master → Nat → State → State)) :=
  [(.TIM_TB_NOW_FRAC_FRAC, fun m i s => after (execNowLatch m i s) s),
   (.TIM_CAP_HEAD_VALID, fun m i s => after (execCaptureHeadRead m i s) s),
   (.FLD_GPI_FIFO, fun m _ s => after (execGpiFifoRead m s) s)]

/-- A read of a register that passed the gate. SEC_NONCE word 0 draws a nonce (R537). -/
def registerRead (m : Master) (hw : Nat) (r : RegRef) (s : State) : State :=
  if r.desc.flds.head? = some .SEC_NONCE ∧ r.idx = 0 then after (execNonceRead m s) s
  else match readTriggers.find? (fun t => r.desc.flds.contains t.1) with
    | some t => t.2 m r.idx s
    | none => onlyIf (!s.blankEntry r) (clearRead r hw) (s.respond (s.shownWord m r) false)

/-- Register space below the gate. -/
def registerSpaceRead (m : Master) (off hw : Nat) (s : State) : State :=
  match lookupReg off with
  | some r => registerRead m hw r s
  | none =>
    match (if inDspBlock off then s.dspWindowRead (dspCoreOf off) (dspOffsetOf off) else none) with
    | some v => s.respond v false
    | none => busError m (barBase + off) false 0 s

/-- MBX_CTRL as read. -/
def State.mailboxControl (s : State) (b : Nat) : Nat :=
  2 ^ 31 * s.get .MBX_CTRL_REQ b + 2 ^ 30 * s.get .MBX_CTRL_RSP b + 2 ^ 16 * s.get .MBX_CTRL_STEWARD b + s.get .MBX_CTRL_SEQ b

/-- The byte `i` past the address of an access, as a memory target holds it. -/
def State.byteAt (s : State) (t : Target) (addr i : Nat) : Byte :=
  match t with
  | .bootRom => Config.romByte (addr % 0x40000 + i)
  | .mailbox o =>
    let r := (o + i) % 0x1000
    if r < 4 then BitVec.ofNat 8 (s.mailboxControl ((o + i) / 0x1000) / 2 ^ (8 * r))
    else if r < 0x40 then 0 else Memory.read (0x5000000 + o + i) s.mem
  | t => Memory.read (t.key + i) s.mem

/-- The bytes that a read of `size` bytes returns. -/
def State.bytesAt (s : State) (t : Target) (addr size : Nat) : List Byte := (List.range size).map (s.byteAt t addr)

/-- A register read with its gate (R14, R53, R541, R550, R554). -/
def readRegister (m : Master) (off size hw : Nat) (s : State) : State :=
  if debugBarred m off s then busError m (barBase + off) false 7 s
  else match regGate m off size false s with
    | some c => denyAccess m (barBase + off) false c s
    | none => registerSpaceRead m off hw s

/-- The answer to a read in two parts: the data of the first, `n` bytes, below that of the second. -/
def State.joined (first second : State) (n : Nat) : State :=
  second.respond (first.busResp.data + 2 ^ (8 * n) * second.busResp.data) (first.busResp.err || second.busResp.err)

/-- A burst from the register space: its 32-bit reads in ascending order, each judged alone (R460). -/
def burstRead (m : Master) : Nat → Nat → Nat → State → State
  | 0, _, _, s => s.respond 0 false
  | n + 1, off, hw, s =>
    let t := readRegister m off 4 hw s
    t.joined (burstRead m n (off + 4) 0 t) 4

/-- A read within 4 KiB. -/
def readAt (m : Master) (addr size hw : Nat) (ecc : EccOutcome) (s : State) : State :=
  match s.target m addr with
  | .register off => if isBurst off size then burstRead m (size / 4) off hw s else readRegister m off size hw s
  | t => match s.memGate m addr size false with
    | some c => denyAccess m addr false c s
    | none => eccRead t ecc (leNat (s.bytesAt t addr size)) s

/-- READ_TO_CLEAR: a read of `size` bytes at an internal address (R12, R15, R16, R456, R468, R498); one that would cross a 4 KiB
boundary is split there (R460), and one that does not arrive (R1) answers nothing. `hw` holds the bits that hardware sets in the same
cycle, `ecc` what SECDED finds in a memory word. -/
def execReadToClear (m : Master) (addr size hw : Nat) (ecc : EccOutcome) (s : State) : Outcome State Fault Refusal :=
  let n := toPage addr
  .next (if !s.arrives m then s
    else if size ≤ n then readAt m addr size hw ecc s
    else
      let t := readAt m addr n hw ecc s
      t.joined (readAt m (addr + n) (size - n) 0 .clean t) n)

end Sys2Proof.Machine
end

