-- ==== Sys2Proof/Machine/Dispatch.lean ====
section
/-!
DEFINITION. The dispatcher: every command has one meaning, called here and nowhere else by this name.
-/
namespace Sys2Proof.Machine

/-- The effect of a command on everything but the queue. -/
def exec (i : Instr) (s : State) : Host.Outcome State Fault Refusal :=
  match i with
  | .registerWrite m addr size v hw => Sys2Proof.Machine.execRegisterWrite m addr size v hw s
  | .readToClear m addr size hw ecc => Sys2Proof.Machine.execReadToClear m addr size hw ecc s
  | .enableSet m u v => Sys2Proof.Machine.execEnableSet m u v s
  | .checkComplete u c => Sys2Proof.Machine.execCheckComplete u c s
  | .checkAbort m u v => Sys2Proof.Machine.execCheckAbort m u v s
  | .enableClear m u v => Sys2Proof.Machine.execEnableClear m u v s
  | .powerOnReset plane twin => Sys2Proof.Machine.execPowerOnReset plane twin s
  | .externalReset plane twin => Sys2Proof.Machine.execExternalReset plane twin s
  | .deviceReset m v => Sys2Proof.Machine.execDeviceReset m v s
  | .remap m => Sys2Proof.Machine.execRemap m s
  | .stRun m mask => Sys2Proof.Machine.execStRun m mask s
  | .memorySetup a => Sys2Proof.Machine.execMemorySetup a s
  | .slotHeadersRead => Sys2Proof.Machine.execSlotHeadersRead s
  | .sectionStreamed readError => Sys2Proof.Machine.execSectionStreamed readError s
  | .hbmReady fail0 fail1 => Sys2Proof.Machine.execHbmReady fail0 fail1 s
  | .signatureVerify => Sys2Proof.Machine.execSignatureVerify s
  | .handOver => Sys2Proof.Machine.execHandOver s
  | .nvmWritePage m => Sys2Proof.Machine.execNvmWritePage m s
  | .nvmReadPage m => Sys2Proof.Machine.execNvmReadPage m s
  | .nvmOverwriteHeader m => Sys2Proof.Machine.execNvmOverwriteHeader m s
  | .nvmCommandComplete => Sys2Proof.Machine.execNvmCommandComplete s
  | .faultLogWrite readBackFails => Sys2Proof.Machine.execFaultLogWrite readBackFails s
  | .electionRecord readBackFails => Sys2Proof.Machine.execElectionRecord readBackFails s
  | .ageingRecord readBackFails => Sys2Proof.Machine.execAgeingRecord readBackFails s
  | .enumToken framed tok => Sys2Proof.Machine.execEnumToken framed tok s
  | .enumTokenSend => Sys2Proof.Machine.execEnumTokenSend s
  | .enumInLow => Sys2Proof.Machine.execEnumInLow s
  | .enumTokenLoss => Sys2Proof.Machine.execEnumTokenLoss s
  | .enumInHigh => Sys2Proof.Machine.execEnumInHigh s
  | .enumTimeout => Sys2Proof.Machine.execEnumTimeout s
  | .mgmtAnnounce => Sys2Proof.Machine.execMgmtAnnounce s
  | .announceReceived dst place twin => Sys2Proof.Machine.execAnnounceReceived dst place twin s
  | .gazStageWrite m n w v => Sys2Proof.Machine.execGazStageWrite m n w v s
  | .gazPublish m n v => Sys2Proof.Machine.execGazPublish m n v s
  | .gazEntrySend n => Sys2Proof.Machine.execGazEntrySend n s
  | .gazEntry e refresh => Sys2Proof.Machine.execGazEntry e refresh s
  | .gazDigestSend => Sys2Proof.Machine.execGazDigestSend s
  | .gazDigest p digest => Sys2Proof.Machine.execGazDigest p digest s
  | .gazFetch p => Sys2Proof.Machine.execGazFetch p s
  | .gazFetchRetry p => Sys2Proof.Machine.execGazFetchRetry p s
  | .decisionPoint f n phis => Sys2Proof.Machine.execDecisionPoint f n phis s
  | .meridian f n => Sys2Proof.Machine.execMeridian f n s
  | .realign m v => Sys2Proof.Machine.execRealign m v s
  | .inputSpanComplete n v => Sys2Proof.Machine.execInputSpanComplete n v s
  | .atlCommit m v => Sys2Proof.Machine.execAtlCommit m v s
  | .atlSalvo m v => Sys2Proof.Machine.execAtlSalvo m v s
  | .atlCancel m v => Sys2Proof.Machine.execAtlCancel m v s
  | .salvoCancel m => Sys2Proof.Machine.execSalvoCancel m s
  | .atlDraftWrite m d armed low => Sys2Proof.Machine.execAtlDraftWrite m d armed low s
  | .landingSpanComplete n span => Sys2Proof.Machine.execLandingSpanComplete n span s
  | .lineDeparture x => Sys2Proof.Machine.execLineDeparture x s
  | .heartbeatSend => Sys2Proof.Machine.execHeartbeatSend s
  | .heartbeat p pos plane twin cls => Sys2Proof.Machine.execHeartbeat p pos plane twin cls s
  | .loadSend => Sys2Proof.Machine.execLoadSend s
  | .load p ports => Sys2Proof.Machine.execLoad p ports s
  | .loadTimeout p => Sys2Proof.Machine.execLoadTimeout p s
  | .subReqSend n => Sys2Proof.Machine.execSubReqSend n s
  | .subReq p reqNo kind maxCoding src fs => Sys2Proof.Machine.execSubReq p reqNo kind maxCoding src fs s
  | .subGrant reqNo coding waypoint first => Sys2Proof.Machine.execSubGrant reqNo coding waypoint first s
  | .subRefuse reqNo reason codingReason => Sys2Proof.Machine.execSubRefuse reqNo reason codingReason s
  | .subReqTimeout n => Sys2Proof.Machine.execSubReqTimeout n s
  | .wpReq p reqNo key cost => Sys2Proof.Machine.execWpReq p reqNo key cost s
  | .wpAnswer p reqNo reason spare => Sys2Proof.Machine.execWpAnswer p reqNo reason spare s
  | .release key last => Sys2Proof.Machine.execRelease key last s
  | .migrate key coding waypoint first => Sys2Proof.Machine.execMigrate key coding waypoint first s
  | .wpShed key => Sys2Proof.Machine.execWpShed key s
  | .drop key reason last => Sys2Proof.Machine.execDrop key reason last s
  | .controlReserved p => Sys2Proof.Machine.execControlReserved p s
  | .cellReceived p crcGood late c => Sys2Proof.Machine.execCellReceived p crcGood late c s
  | .spanMarker p c => Sys2Proof.Machine.execSpanMarker p c s
  | .streamRelease n => Sys2Proof.Machine.execStreamRelease n s
  | .peerLost p => Sys2Proof.Machine.execPeerLost p s
  | .peerReturn p => Sys2Proof.Machine.execPeerReturn p s
  | .peerLossNotice p => Sys2Proof.Machine.execPeerLossNotice p s
  | .shedDecision p => Sys2Proof.Machine.execShedDecision p s
  | .streamRerequest n => Sys2Proof.Machine.execStreamRerequest n s
  | .revertOffer => Sys2Proof.Machine.execRevertOffer s
  | .portLimitWrite m p v => Sys2Proof.Machine.execPortLimitWrite m p v s
  | .refineDiscard n => Sys2Proof.Machine.execRefineDiscard n s
  | .losSet l => Sys2Proof.Machine.execLosSet l s
  | .losClear l freq => Sys2Proof.Machine.execLosClear l freq s
  | .lockAcquired l fmt depth freq => Sys2Proof.Machine.execLockAcquired l fmt depth freq s
  | .lockLost l => Sys2Proof.Machine.execLockLost l s
  | .quadPllLock q => Sys2Proof.Machine.execQuadPllLock q s
  | .quadPllLoss q => Sys2Proof.Machine.execQuadPllLoss q s
  | .quadSkew l beyond => Sys2Proof.Machine.execQuadSkew l beyond s
  | .rxqEntry l e => Sys2Proof.Machine.execRxqEntry l e s
  | .lanTestWrite m l v => Sys2Proof.Machine.execLanTestWrite m l v s
  | .frameReceived m f => Sys2Proof.Machine.execFrameReceived m f s
  | .pauseFrame m quanta => Sys2Proof.Machine.execPauseFrame m quanta s
  | .pfcFrame m vector times => Sys2Proof.Machine.execPfcFrame m vector times s
  | .pauseExpiry m cls => Sys2Proof.Machine.execPauseExpiry m cls s
  | .rxEntryLost n => Sys2Proof.Machine.execRxEntryLost n s
  | .mediaPacketSend e legB n k len second last => Sys2Proof.Machine.execMediaPacketSend e legB n k len second last s
  | .txPacketLate e => Sys2Proof.Machine.execTxPacketLate e s
  | .largeSend x => Sys2Proof.Machine.execLargeSend x s
  | .largeSendComplete e => Sys2Proof.Machine.execLargeSendComplete e s
  | .timedFrame e => Sys2Proof.Machine.execTimedFrame e s
  | .launchTime e => Sys2Proof.Machine.execLaunchTime e s
  | .timedFrameDeparture e sixteenths => Sys2Proof.Machine.execTimedFrameDeparture e sixteenths s
  | .pktQProd m q v => Sys2Proof.Machine.execPktQProd m q v s
  | .pktQCons m q v => Sys2Proof.Machine.execPktQCons m q v s
  | .softFlush m q v => Sys2Proof.Machine.execSoftFlush m q v s
  | .softFlushComplete q => Sys2Proof.Machine.execSoftFlushComplete q s
  | .hardFlush m q v => Sys2Proof.Machine.execHardFlush m q v s
  | .queueDataWrite m a size v => Sys2Proof.Machine.execQueueDataWrite m a size v s
  | .queueWordRead m q p ecc => Sys2Proof.Machine.execQueueWordRead m q p ecc s
  | .gclChange w m v => Sys2Proof.Machine.execGclChange w m v s
  | .gclCycleStart m => Sys2Proof.Machine.execGclCycleStart m s
  | .gateChange m => Sys2Proof.Machine.execGateChange m s
  | .gateDrop m => Sys2Proof.Machine.execGateDrop m s
  | .incCommit m n v => Sys2Proof.Machine.execIncCommit m n v s
  | .tbStep m n v => Sys2Proof.Machine.execTbStep m n v s
  | .tbSet m n v => Sys2Proof.Machine.execTbSet m n v s
  | .tbArm m n v => Sys2Proof.Machine.execTbArm m n v s
  | .tbDisarm m n v => Sys2Proof.Machine.execTbDisarm m n v s
  | .alarm n => Sys2Proof.Machine.execAlarm n s
  | .nowLatch m n => Sys2Proof.Machine.execNowLatch m n s
  | .snapshot m => Sys2Proof.Machine.execSnapshot m s
  | .captureEdge c sixteenths rising => Sys2Proof.Machine.execCaptureEdge c sixteenths rising s
  | .captureHeadRead m c => Sys2Proof.Machine.execCaptureHeadRead m c s
  | .domainWrite m k v => Sys2Proof.Machine.execDomainWrite m k v s
  | .refSecond e => Sys2Proof.Machine.execRefSecond e s
  | .candidateAbsent => Sys2Proof.Machine.execCandidateAbsent s
  | .candidateWrite m c v => Sys2Proof.Machine.execCandidateWrite m c v s
  | .forceSelect m v => Sys2Proof.Machine.execForceSelect m v s
  | .thresholdWrite m k v => Sys2Proof.Machine.execThresholdWrite m k v s
  | .refSwWrite m v => Sys2Proof.Machine.execRefSwWrite m v s
  | .refSwTimeout => Sys2Proof.Machine.execRefSwTimeout s
  | .tempRead reading => Sys2Proof.Machine.execTempRead reading s
  | .slewComplete => Sys2Proof.Machine.execSlewComplete s
  | .holdLimitExpiry => Sys2Proof.Machine.execHoldLimitExpiry s
  | .dailyMean => Sys2Proof.Machine.execDailyMean s
  | .audioSample k ins es => Sys2Proof.Machine.execAudioSample k ins es s
  | .audioCommit m v => Sys2Proof.Machine.execAudioCommit m v s
  | .audioCancel m => Sys2Proof.Machine.execAudioCancel m s
  | .audioCommitTimeout => Sys2Proof.Machine.execAudioCommitTimeout s
  | .audDraftWrite m c v => Sys2Proof.Machine.execAudDraftWrite m c v s
  | .groupRelease g => Sys2Proof.Machine.execGroupRelease g s
  | .tdmFrameSync p => Sys2Proof.Machine.execTdmFrameSync p s
  | .tdmStop p => Sys2Proof.Machine.execTdmStop p s
  | .pdmStop q => Sys2Proof.Machine.execPdmStop q s
  | .tdmSlip p => Sys2Proof.Machine.execTdmSlip p s
  | .glitch p => Sys2Proof.Machine.execGlitch p s
  | .maskWrite m p out v => Sys2Proof.Machine.execMaskWrite m p out v s
  | .portQualified p => Sys2Proof.Machine.execPortQualified p s
  | .domainErr p freq => Sys2Proof.Machine.execDomainErr p freq s
  | .rateErr p freq => Sys2Proof.Machine.execRateErr p freq s
  | .daybreak k => Sys2Proof.Machine.execDaybreak k s
  | .evacAudioStart => Sys2Proof.Machine.execEvacAudioStart s
  | .gainWrite m c v => Sys2Proof.Machine.execGainWrite m c v s
  | .mpy n e => Sys2Proof.Machine.execMpy n e s
  | .mac n e => Sys2Proof.Machine.execMac n e s
  | .msu n e => Sys2Proof.Machine.execMsu n e s
  | .cmpy n e => Sys2Proof.Machine.execCmpy n e s
  | .cmac n e => Sys2Proof.Machine.execCmac n e s
  | .cmacj n e => Sys2Proof.Machine.execCmacj n e s
  | .firtap n e => Sys2Proof.Machine.execFirtap n e s
  | .clr n e => Sys2Proof.Machine.execClr n e s
  | .movd n e => Sys2Proof.Machine.execMovd n e s
  | .mova n e => Sys2Proof.Machine.execMova n e s
  | .adda n e => Sys2Proof.Machine.execAdda n e s
  | .suba n e => Sys2Proof.Machine.execSuba n e s
  | .norm n e => Sys2Proof.Machine.execNorm n e s
  | .exp n e => Sys2Proof.Machine.execExp n e s
  | .expd n e => Sys2Proof.Machine.execExpd n e s
  | .add n e => Sys2Proof.Machine.execAdd n e s
  | .sub n e => Sys2Proof.Machine.execSub n e s
  | .adds n e => Sys2Proof.Machine.execAdds n e s
  | .subs n e => Sys2Proof.Machine.execSubs n e s
  | .and n e => Sys2Proof.Machine.execAnd n e s
  | .or n e => Sys2Proof.Machine.execOr n e s
  | .xor n e => Sys2Proof.Machine.execXor n e s
  | .abs n e => Sys2Proof.Machine.execAbs n e s
  | .neg n e => Sys2Proof.Machine.execNeg n e s
  | .max n e => Sys2Proof.Machine.execMax n e s
  | .min n e => Sys2Proof.Machine.execMin n e s
  | .mov n e => Sys2Proof.Machine.execMov n e s
  | .asr n e => Sys2Proof.Machine.execAsr n e s
  | .lsr n e => Sys2Proof.Machine.execLsr n e s
  | .lsl n e => Sys2Proof.Machine.execLsl n e s
  | .cmp n e => Sys2Proof.Machine.execCmp n e s
  | .tst n e => Sys2Proof.Machine.execTst n e s
  | .movr n e => Sys2Proof.Machine.execMovr n e s
  | .setscale n e => Sys2Proof.Machine.execSetscale n e s
  | .nop n e => Sys2Proof.Machine.execNop n e s
  | .ldi n e => Sys2Proof.Machine.execLdi n e s
  | .ldx n e => Sys2Proof.Machine.execLdx n e s
  | .stx n e => Sys2Proof.Machine.execStx n e s
  | .ldy n e => Sys2Proof.Machine.execLdy n e s
  | .sty n e => Sys2Proof.Machine.execSty n e s
  | .lea n e => Sys2Proof.Machine.execLea n e s
  | .addi n e => Sys2Proof.Machine.execAddi n e s
  | .bcc n e => Sys2Proof.Machine.execBcc n e s
  | .jsr n e => Sys2Proof.Machine.execJsr n e s
  | .rts n e => Sys2Proof.Machine.execRts n e s
  | .rti n e => Sys2Proof.Machine.execRti n e s
  | .loop n e => Sys2Proof.Machine.execLoop n e s
  | .loopr n e => Sys2Proof.Machine.execLoopr n e s
  | .rep n e => Sys2Proof.Machine.execRep n e s
  | .repr n e => Sys2Proof.Machine.execRepr n e s
  | .lexit n e => Sys2Proof.Machine.execLexit n e s
  | .blkend n e => Sys2Proof.Machine.execBlkend n e s
  | .trap n e => Sys2Proof.Machine.execTrap n e s
  | .halt n e => Sys2Proof.Machine.execHalt n e s
  | .dspDoorbell m n => Sys2Proof.Machine.execDspDoorbell m n s
  | .dspInterrupt n => Sys2Proof.Machine.execDspInterrupt n s
  | .qinItemCopy n k => Sys2Proof.Machine.execQinItemCopy n k s
  | .blockPending n j => Sys2Proof.Machine.execBlockPending n j s
  | .returnDeadline n j => Sys2Proof.Machine.execReturnDeadline n j s
  | .dspCoreStop n => Sys2Proof.Machine.execDspCoreStop n s
  | .debugHalt t => Sys2Proof.Machine.execDebugHalt t s
  | .latchPoint n frame aged => Sys2Proof.Machine.execLatchPoint n frame aged s
  | .layerArm m n l v => Sys2Proof.Machine.execLayerArm m n l v s
  | .layerCancel m n l => Sys2Proof.Machine.execLayerCancel m n l s
  | .headCommit m n => Sys2Proof.Machine.execHeadCommit m n s
  | .headCancel m n => Sys2Proof.Machine.execHeadCancel m n s
  | .fenceSignal m n v => Sys2Proof.Machine.execFenceSignal m n v s
  | .fenceItem n => Sys2Proof.Machine.execFenceItem n s
  | .lutselWrite m n v => Sys2Proof.Machine.execLutselWrite m n v s
  | .lutWrite m n o v => Sys2Proof.Machine.execLutWrite m n o v s
  | .shadowWrite m n w v => Sys2Proof.Machine.execShadowWrite m n w v s
  | .targetTimeout m addr write => Sys2Proof.Machine.execTargetTimeout m addr write s
  | .masterReset m b => Sys2Proof.Machine.execMasterReset m b s
  | .linkTrained repaired => Sys2Proof.Machine.execLinkTrained repaired s
  | .linkRetrain repaired => Sys2Proof.Machine.execLinkRetrain repaired s
  | .linkDown b => Sys2Proof.Machine.execLinkDown b s
  | .hotReset b => Sys2Proof.Machine.execHotReset b s
  | .d3hotEntry b => Sys2Proof.Machine.execD3hotEntry b s
  | .replayThreshold n => Sys2Proof.Machine.execReplayThreshold n s
  | .msixUnmask m n => Sys2Proof.Machine.execMsixUnmask m n s
  | .mbxReq m b v => Sys2Proof.Machine.execMbxReq m b v s
  | .mbxRsp m b v => Sys2Proof.Machine.execMbxRsp m b v s
  | .coalesceWindowClose n => Sys2Proof.Machine.execCoalesceWindowClose n s
  | .stormPeriodEnd => Sys2Proof.Machine.execStormPeriodEnd s
  | .stormRelease m n v => Sys2Proof.Machine.execStormRelease m n v s
  | .stormReleaseTimeout n => Sys2Proof.Machine.execStormReleaseTimeout n s
  | .force m n v => Sys2Proof.Machine.execForce m n v s
  | .recoveryTake m v => Sys2Proof.Machine.execRecoveryTake m v s
  | .recoveryDone m v => Sys2Proof.Machine.execRecoveryDone m v s
  | .recoveryOverdue => Sys2Proof.Machine.execRecoveryOverdue s
  | .safeEntry => Sys2Proof.Machine.execSafeEntry s
  | .scrubPassComplete k => Sys2Proof.Machine.execScrubPassComplete k s
  | .hbmStackFailed k training => Sys2Proof.Machine.execHbmStackFailed k training s
  | .hbmTempHigh k => Sys2Proof.Machine.execHbmTempHigh k s
  | .chkResult u data id gap => Sys2Proof.Machine.execChkResult u data id gap s
  | .chkPassDone u uncorrectable => Sys2Proof.Machine.execChkPassDone u uncorrectable s
  | .claimInAssert => Sys2Proof.Machine.execClaimInAssert s
  | .claimInDeassert => Sys2Proof.Machine.execClaimInDeassert s
  | .claimOutAssert => Sys2Proof.Machine.execClaimOutAssert s
  | .drivingStart => Sys2Proof.Machine.execDrivingStart s
  | .lineFault => Sys2Proof.Machine.execLineFault s
  | .twinHeartbeatSend => Sys2Proof.Machine.execTwinHeartbeatSend s
  | .mgmtHeartbeatSend => Sys2Proof.Machine.execMgmtHeartbeatSend s
  | .twinHeartbeat path bs => Sys2Proof.Machine.execTwinHeartbeat path bs s
  | .pathLost link => Sys2Proof.Machine.execPathLost link s
  | .resyncSend kind index n starts => Sys2Proof.Machine.execResyncSend kind index n starts s
  | .resyncMessage bs own => Sys2Proof.Machine.execResyncMessage bs own s
  | .claimDrop => Sys2Proof.Machine.execClaimDrop s
  | .claimTake m v => Sys2Proof.Machine.execClaimTake m v s
  | .claimRelease m => Sys2Proof.Machine.execClaimRelease m s
  | .syncStageComplete => Sys2Proof.Machine.execSyncStageComplete s
  | .standbyEntry => Sys2Proof.Machine.execStandbyEntry s
  | .nonceRead m => Sys2Proof.Machine.execNonceRead m s
  | .unlock m slot => Sys2Proof.Machine.execUnlock m slot s
  | .relock m slot => Sys2Proof.Machine.execRelock m slot s
  | .provision m slot => Sys2Proof.Machine.execProvision m slot s
  | .deploy m slot => Sys2Proof.Machine.execDeploy m slot s
  | .secReturn m slot => Sys2Proof.Machine.execSecReturn m slot s
  | .revokeOwner m slot => Sys2Proof.Machine.execRevokeOwner m slot s
  | .revokeSafety m slot => Sys2Proof.Machine.execRevokeSafety m slot s
  | .raiseFloor m slot => Sys2Proof.Machine.execRaiseFloor m slot s
  | .ackSafety m slot => Sys2Proof.Machine.execAckSafety m slot s
  | .quietRequest m => Sys2Proof.Machine.execQuietRequest m s
  | .leaveQuiet m => Sys2Proof.Machine.execLeaveQuiet m s
  | .supplyOutOfRange rail => Sys2Proof.Machine.execSupplyOutOfRange rail s
  | .tempWarning t => Sys2Proof.Machine.execTempWarning t s
  | .tempCritical t => Sys2Proof.Machine.execTempCritical t s
  | .clockMonitor domains => Sys2Proof.Machine.execClockMonitor domains s
  | .safetyMeasurement n ohms => Sys2Proof.Machine.execSafetyMeasurement n ohms s
  | .bandRecognised is => Sys2Proof.Machine.execBandRecognised is s
  | .overrideArm => Sys2Proof.Machine.execOverrideArm s
  | .safetyReminder n => Sys2Proof.Machine.execSafetyReminder n s
  | .gpiEdge n active t => Sys2Proof.Machine.execGpiEdge n active t s
  | .gpiRateWindow n => Sys2Proof.Machine.execGpiRateWindow n s
  | .gpiStuck n => Sys2Proof.Machine.execGpiStuck n s
  | .gpiFifoRead m => Sys2Proof.Machine.execGpiFifoRead m s
  | .vfieldOutOfRange mv => Sys2Proof.Machine.execVfieldOutOfRange mv s
  | .fieldStatusFrame good mv => Sys2Proof.Machine.execFieldStatusFrame good mv s
  | .fieldLinkDown => Sys2Proof.Machine.execFieldLinkDown s
  | .fieldLinkUp => Sys2Proof.Machine.execFieldLinkUp s
  | .gpoOverload n => Sys2Proof.Machine.execGpoOverload n s
  | .gpoFaultClear m v overloaded => Sys2Proof.Machine.execGpoFaultClear m v overloaded s
  | .cellRelease slot n typ k live => Sys2Proof.Machine.execCellRelease slot n typ k live s
  | .vfieldInRange mv => Sys2Proof.Machine.execVfieldInRange mv s
  | .scrubRead k ecc => Sys2Proof.Machine.execScrubRead k ecc s
  | .prbsCheckerLock l bits => Sys2Proof.Machine.execPrbsCheckerLock l bits s
  | .pdmClockReturn q => Sys2Proof.Machine.execPdmClockReturn q s
  | .configWrite bme msixEn funcMask dstate => Sys2Proof.Machine.execConfigWrite bme msixEn funcMask dstate s
  | .jtagInstruction ins => Sys2Proof.Machine.execJtagInstruction ins s
  | .debugStep t e => Sys2Proof.Machine.execDebugStep t e s

end Sys2Proof.Machine
end

