-- ==== Sys2Proof/WellFormed.lean ====
section
/-!
DEFINITION. Well-formed commands: every number names a unit, an entry or a word that the spec's maps hold. The meanings are total on
ill-formed commands too; statements name this where an operand's range matters.
-/
namespace Sys2Proof

/-- A 32-bit word (R13). -/
def isWord (v : Nat) : Bool := v < 2 ^ 32

/-- The master is one of R455. -/
def Master.wf : Master → Bool
  | .st n => n < 4
  | .agent c => 7 ≤ c && c < 14
  | _ => true

/-- Units of a kind in the register maps (R74). -/
def UnitKind.count : UnitKind → Nat
  | .input | .dest | .mac | .gcl => 96
  | .lane => 184
  | .tx | .rx => 2048
  | .queue => 65536
  | .tb | .chkUnit => 8
  | .cap => 16
  | .port => 784
  | .dsp => 32
  | .head => 4
  | .atlas | .fabric | .mzc | .pkt | .ref | .aud | .cmp | .twin | .field => 1

/-- The unit stands in its map. -/
def UnitId.wf (u : UnitId) : Bool := u.idx < u.kind.count

/-- The debug target exists in the map (R552). -/
def DebugTarget.wf : DebugTarget → Bool
  | .steward n => n < 4
  | .dsp n => n < 32

/-- The shadow word exists (R451, R452). -/
def Shadow.wf : Shadow → Bool
  | .layer l k => l < 72 && k < 4
  | .colour c => c < 5

/-- The key names a home and a receiver of the plane and a kind of stream (R140). -/
def StreamKey.wf (k : StreamKey) : Bool := k.home < 12 && k.receiver < 12 && k.kind < 3

/-- The departure names a destination or a head (R95, R426). -/
def Departure.wf : Departure → Bool
  | .dest d _ _ _ => d < 96
  | .head n _ _ _ => n < 4

/-- An access of 1 to 256 bytes (R460). -/
def sizeWf (n : Nat) : Bool := 1 ≤ n && n ≤ 256

/-- The entry has a number of the gazetteer and eight words (R39). -/
def GazEntry.wf (e : GazEntry) : Bool := e.n < 2304 && e.words.length == 8

/-- The command is well formed. -/
def Instr.wf (i : Instr) : Bool :=
  match i with
  | .registerWrite m _ size _ hw => m.wf && sizeWf size && isWord hw
  | .readToClear m _ size hw _ => m.wf && sizeWf size && isWord hw
  | .enableSet m u v => m.wf && u.wf && isWord v
  | .checkComplete u _ => u.wf
  | .checkAbort m u v => m.wf && u.wf && isWord v
  | .enableClear m u v => m.wf && u.wf && isWord v
  | .powerOnReset _ _ => true
  | .externalReset _ _ => true
  | .deviceReset m v => m.wf && isWord v
  | .remap m => m.wf
  | .stRun m mask => m.wf && mask < 16
  | .memorySetup _ => true
  | .slotHeadersRead => true
  | .sectionStreamed _ => true
  | .hbmReady _ _ => true
  | .signatureVerify => true
  | .handOver => true
  | .nvmWritePage m => m.wf
  | .nvmReadPage m => m.wf
  | .nvmOverwriteHeader m => m.wf
  | .nvmCommandComplete => true
  | .faultLogWrite _ => true
  | .electionRecord _ => true
  | .ageingRecord _ => true
  | .enumToken _ tok => isWord tok
  | .enumTokenSend => true
  | .enumInLow => true
  | .enumTokenLoss => true
  | .enumInHigh => true
  | .enumTimeout => true
  | .mgmtAnnounce => true
  | .announceReceived dst place _ => dst < 2 ^ 48 && place.position < 16
  | .gazStageWrite m n w v => m.wf && n < 2304 && 1 ≤ w && w < 8 && isWord v
  | .gazPublish m n v => m.wf && n < 2304 && isWord v
  | .gazEntrySend n => n < 2304
  | .gazEntry e _ => e.wf
  | .gazDigestSend => true
  | .gazDigest p digest => p < 11 && isWord digest
  | .gazFetch p => p < 11
  | .gazFetchRetry p => p < 11
  | .decisionPoint f _ _ => f < 256
  | .meridian f _ => f < 256
  | .realign m v => m.wf && isWord v
  | .inputSpanComplete i _ => i < 96
  | .atlCommit m v => m.wf && isWord v
  | .atlSalvo m v => m.wf && isWord v
  | .atlCancel m v => m.wf && isWord v
  | .salvoCancel m => m.wf
  | .atlDraftWrite m d _ low => m.wf && d < 96 && low < 2 ^ 31
  | .landingSpanComplete n span => n < 1024 && isWord span
  | .lineDeparture x => x.wf
  | .heartbeatSend => true
  | .heartbeat p pos plane twin cls => p < 11 && pos < 12 && plane < 2 && twin < 2 && cls < 2
  | .loadSend => true
  | .load p _ => p < 11
  | .loadTimeout p => p < 11
  | .subReqSend n => n < 1024
  | .subReq p reqNo kind maxCoding src _ => p < 11 && reqNo < 65536 && kind < 3 && maxCoding < 3 && src < 262144
  | .subGrant reqNo coding waypoint first => reqNo < 65536 && coding < 4 && waypoint < 16 && isWord first
  | .subRefuse reqNo reason codingReason => reqNo < 65536 && reason < 256 && codingReason < 256
  | .subReqTimeout n => n < 1024
  | .wpReq p reqNo key cost => p < 11 && reqNo < 65536 && key.wf && isWord cost
  | .wpAnswer p reqNo reason spare => p < 11 && reqNo < 65536 && reason < 256 && isWord spare
  | .release key last => key.wf && isWord last
  | .migrate key coding waypoint first => key.wf && coding < 4 && waypoint < 16 && isWord first
  | .wpShed key => key.wf
  | .drop key reason last => key.wf && reason < 256 && isWord last
  | .controlReserved p => p < 11
  | .cellReceived p _ _ _ => p < 11
  | .spanMarker p _ => p < 11
  | .streamRelease n => n < 1024
  | .peerLost p => p < 11
  | .peerReturn p => p < 11
  | .peerLossNotice p => p < 11
  | .shedDecision p => p < 11
  | .streamRerequest n => n < 1024
  | .revertOffer => true
  | .portLimitWrite m p v => m.wf && p < 11 && isWord v
  | .refineDiscard _ => true
  | .losSet l => l < 184
  | .losClear l _ => l < 184
  | .lockAcquired l fmt depth _ => l < 184 && fmt < 256 && depth < 4
  | .lockLost l => l < 184
  | .quadPllLock q => q < 46
  | .quadPllLoss q => q < 46
  | .quadSkew l _ => l < 184
  | .rxqEntry l _ => l < 184
  | .lanTestWrite m l v => m.wf && l < 184 && isWord v
  | .frameReceived m _ => m < 96
  | .pauseFrame m quanta => m < 96 && quanta < 65536
  | .pfcFrame m vector _ => m < 96 && vector < 256
  | .pauseExpiry m _ => m < 96
  | .rxEntryLost n => n < 2048
  | .mediaPacketSend e _ _ _ _ _ _ => e < 2048
  | .txPacketLate e => e < 2048
  | .largeSend x => x.tx < 2048
  | .largeSendComplete e => e < 2048
  | .timedFrame e => e < 2048
  | .launchTime e => e < 2048
  | .timedFrameDeparture e sixteenths => e < 2048 && sixteenths < 16
  | .pktQProd m q v => m.wf && q < 65536 && isWord v
  | .pktQCons m q v => m.wf && q < 65536 && isWord v
  | .softFlush m q v => m.wf && q < 65536 && isWord v
  | .softFlushComplete q => q < 65536
  | .hardFlush m q v => m.wf && q < 65536 && isWord v
  | .queueDataWrite m _ size _ => m.wf && sizeWf size
  | .queueWordRead _ q _ _ => q < 65536
  | .gclChange w m v => w.wf && m < 96 && isWord v
  | .gclCycleStart m => m < 96
  | .gateChange m => m < 96
  | .gateDrop m => m < 96
  | .incCommit m n v => m.wf && n < 8 && isWord v
  | .tbStep m n v => m.wf && n < 8 && isWord v
  | .tbSet m n v => m.wf && n < 8 && isWord v
  | .tbArm m n v => m.wf && n < 8 && isWord v
  | .tbDisarm m n v => m.wf && n < 8 && isWord v
  | .alarm n => n < 8
  | .nowLatch m n => m.wf && n < 8
  | .snapshot m => m.wf
  | .captureEdge c sixteenths _ => c < 16 && sixteenths < 16
  | .captureHeadRead m c => m.wf && c < 16
  | .domainWrite m k v => m.wf && k < 8 && isWord v
  | .refSecond _ => true
  | .candidateAbsent => true
  | .candidateWrite m c v => m.wf && c < 16 && isWord v
  | .forceSelect m v => m.wf && isWord v
  | .thresholdWrite m k v => m.wf && k < 4 && isWord v
  | .refSwWrite m v => m.wf && isWord v
  | .refSwTimeout => true
  | .tempRead _ => true
  | .slewComplete => true
  | .holdLimitExpiry => true
  | .dailyMean => true
  | .audioSample _ _ _ => true
  | .audioCommit m v => m.wf && isWord v
  | .audioCancel m => m.wf
  | .audioCommitTimeout => true
  | .audDraftWrite m c v => m.wf && c < 16384 && isWord v
  | .groupRelease g => g < 128
  | .tdmFrameSync p => p < 16
  | .tdmStop p => p < 16
  | .pdmStop q => q < 4
  | .tdmSlip p => p < 16
  | .glitch p => p < 784
  | .maskWrite m p _ v => m.wf && p < 784 && isWord v
  | .portQualified p => p < 784
  | .domainErr p _ => p < 784
  | .rateErr p _ => p < 784
  | .daybreak _ => true
  | .evacAudioStart => true
  | .gainWrite m c v => m.wf && c < 16384 && isWord v
  | .mpy n _ => n < 32
  | .mac n _ => n < 32
  | .msu n _ => n < 32
  | .cmpy n _ => n < 32
  | .cmac n _ => n < 32
  | .cmacj n _ => n < 32
  | .firtap n _ => n < 32
  | .clr n _ => n < 32
  | .movd n _ => n < 32
  | .mova n _ => n < 32
  | .adda n _ => n < 32
  | .suba n _ => n < 32
  | .norm n _ => n < 32
  | .exp n _ => n < 32
  | .expd n _ => n < 32
  | .add n _ => n < 32
  | .sub n _ => n < 32
  | .adds n _ => n < 32
  | .subs n _ => n < 32
  | .and n _ => n < 32
  | .or n _ => n < 32
  | .xor n _ => n < 32
  | .abs n _ => n < 32
  | .neg n _ => n < 32
  | .max n _ => n < 32
  | .min n _ => n < 32
  | .mov n _ => n < 32
  | .asr n _ => n < 32
  | .lsr n _ => n < 32
  | .lsl n _ => n < 32
  | .cmp n _ => n < 32
  | .tst n _ => n < 32
  | .movr n _ => n < 32
  | .setscale n _ => n < 32
  | .nop n _ => n < 32
  | .ldi n _ => n < 32
  | .ldx n _ => n < 32
  | .stx n _ => n < 32
  | .ldy n _ => n < 32
  | .sty n _ => n < 32
  | .lea n _ => n < 32
  | .addi n _ => n < 32
  | .bcc n _ => n < 32
  | .jsr n _ => n < 32
  | .rts n _ => n < 32
  | .rti n _ => n < 32
  | .loop n _ => n < 32
  | .loopr n _ => n < 32
  | .rep n _ => n < 32
  | .repr n _ => n < 32
  | .lexit n _ => n < 32
  | .blkend n _ => n < 32
  | .trap n _ => n < 32
  | .halt n _ => n < 32
  | .dspDoorbell m n => m.wf && n < 32
  | .dspInterrupt n => n < 32
  | .qinItemCopy n i => n < 32 && i < 2
  | .blockPending n _ => n < 32
  | .returnDeadline n _ => n < 32
  | .dspCoreStop n => n < 32
  | .debugHalt t => t.wf
  | .latchPoint n _ _ => n < 4
  | .layerArm m n l v => m.wf && n < 4 && l < 72 && isWord v
  | .layerCancel m n l => m.wf && n < 4 && l < 72
  | .headCommit m n => m.wf && n < 4
  | .headCancel m n => m.wf && n < 4
  | .fenceSignal m n v => m.wf && n < 4 && isWord v
  | .fenceItem n => n < 4
  | .lutselWrite m n v => m.wf && n < 4 && isWord v
  | .lutWrite m n o v => m.wf && n < 4 && o < 131072 && isWord v
  | .shadowWrite m n w v => m.wf && n < 4 && w.wf && isWord v
  | .targetTimeout m _ _ => m.wf
  | .masterReset m _ => m.wf
  | .linkTrained repaired => repaired < 4
  | .linkRetrain repaired => repaired < 4
  | .linkDown _ => true
  | .hotReset _ => true
  | .d3hotEntry _ => true
  | .replayThreshold _ => true
  | .msixUnmask m n => m.wf && n < 512
  | .mbxReq m b v => m.wf && b < 16 && isWord v
  | .mbxRsp m b v => m.wf && b < 16 && isWord v
  | .coalesceWindowClose n => n < 512
  | .stormPeriodEnd => true
  | .stormRelease m n v => m.wf && n < 512 && isWord v
  | .stormReleaseTimeout n => n < 512
  | .force m n v => m.wf && n < 512 && isWord v
  | .recoveryTake m v => m.wf && isWord v
  | .recoveryDone m v => m.wf && isWord v
  | .recoveryOverdue => true
  | .safeEntry => true
  | .scrubPassComplete k => k < 2
  | .hbmStackFailed k _ => k < 2
  | .hbmTempHigh k => k < 2
  | .chkResult u _ _ _ => u < 8
  | .chkPassDone u _ => u < 8
  | .claimInAssert => true
  | .claimInDeassert => true
  | .claimOutAssert => true
  | .drivingStart => true
  | .lineFault => true
  | .twinHeartbeatSend => true
  | .mgmtHeartbeatSend => true
  | .twinHeartbeat path _ => path.all (· < 2 ^ 48)
  | .pathLost _ => true
  | .resyncSend _ _ _ _ => true
  | .resyncMessage _ _ => true
  | .claimDrop => true
  | .claimTake m v => m.wf && isWord v
  | .claimRelease m => m.wf
  | .syncStageComplete => true
  | .standbyEntry => true
  | .nonceRead m => m.wf
  | .unlock m slot => m.wf && slot < 256
  | .relock m slot => m.wf && slot < 256
  | .provision m slot => m.wf && slot < 256
  | .deploy m slot => m.wf && slot < 256
  | .secReturn m slot => m.wf && slot < 256
  | .revokeOwner m slot => m.wf && slot < 256
  | .revokeSafety m slot => m.wf && slot < 256
  | .raiseFloor m slot => m.wf && slot < 256
  | .ackSafety m slot => m.wf && slot < 256
  | .quietRequest m => m.wf
  | .leaveQuiet m => m.wf
  | .supplyOutOfRange _ => true
  | .tempWarning _ => true
  | .tempCritical _ => true
  | .clockMonitor domains => domains < 8
  | .safetyMeasurement i _ => i < 2
  | .bandRecognised _ => true
  | .overrideArm => true
  | .safetyReminder i => i < 2
  | .gpiEdge n _ _ => n < 32
  | .gpiRateWindow n => n < 32
  | .gpiStuck n => n < 32
  | .gpiFifoRead m => m.wf
  | .vfieldOutOfRange _ => true
  | .fieldStatusFrame _ _ => true
  | .fieldLinkDown => true
  | .fieldLinkUp => true
  | .gpoOverload n => n < 32
  | .gpoFaultClear m v overloaded => m.wf && isWord v && isWord overloaded
  | .cellRelease slot _ typ _ _ => slot < 4096 && 1 ≤ typ && typ < 5
  | .vfieldInRange _ => true
  | .scrubRead k _ => k < 2
  | .prbsCheckerLock l _ => l < 184
  | .pdmClockReturn q => q < 4
  | .configWrite _ _ _ dstate => dstate < 4
  | .jtagInstruction _ => true
  | .debugStep t _ => t.wf

end Sys2Proof
end

