-- ==== Sys2Proof/Safety.lean ====
section
/-!
DEFINITION. What holds of every run: the canonical forms of the register store and of the memories, fuses that stay blown, and what
a command leaves alone.
-/
namespace Sys2Proof.Machine

/-- The store and both memories are in canonical form: equal contents are equal data. -/
def State.canonical (s : State) : Bool := Store.wf s.variant s.regs && Memory.wf s.mem && Memory.wf s.nvm

/-- Every bit of a mask is set in another. -/
def maskWithin (a b : Nat) : Prop := a ||| b = b

/-- No fuse of the second set is less blown than in the first (R534): the lifecycle state advances one way, revocations and the
floor stay, a destroyed image key stays destroyed, and what manufacture fused never changes. -/
structure Fuses.Within (a b : Fuses) : Prop where
  lifecycle : a.lifecycle ≤ b.lifecycle
  ownerRevoked : maskWithin a.ownerRevoked b.ownerRevoked
  safetyRevoked : maskWithin a.safetyRevoked b.safetyRevoked
  floor : a.floor ≤ b.floor
  keyDestroyed : a.keyDestroyed = true → b.keyDestroyed = true
  uid : b.uid = a.uid
  rootKey : b.rootKey = a.rootKey

/-- Fields that asserting an event source may change (R481 to R497): its status, times, windows and counts, first-cause latches,
the fatal record, the recovery queue's flags, pending bits of MSI-X. -/
def reportFields : List Fld :=
  [.FLT_SRC_STAT_PENDING, .FLT_SRC_STAT_STORM, .FLT_SRC_STAT_COUNT, .FLT_SRC_STAT_LAST_CLASS, .FLT_SRC_TIME_NS, .FLT_SRC_TIME_SEC,
   .SRC_WINDOW_OPEN, .SRC_WINDOW_HIT, .SRC_PERIOD_COUNT, .SRC_SINCE_LOG, .MSIX_PENDING, .FLT_LATCH_VALID, .FLT_LATCH_SOURCE,
   .FLT_LATCH_OTHERS, .FLT_LATCH_NS, .FLT_LATCH_SEC, .FLT_STAT_FATAL, .FLT_STAT_FATAL_SRC, .FLT_FATAL_NS, .FLT_FATAL_SEC,
   .FLT_RECOV_STAT_FROZEN, .FLT_RECOV_STAT_OVERFLOW]

/-- Of these the arrays with one element for each source (R481 to R488). -/
def sourceFields : List Fld :=
  [.FLT_SRC_STAT_PENDING, .FLT_SRC_STAT_STORM, .FLT_SRC_STAT_COUNT, .FLT_SRC_STAT_LAST_CLASS, .FLT_SRC_TIME_NS, .FLT_SRC_TIME_SEC,
   .SRC_WINDOW_OPEN, .SRC_WINDOW_HIT, .SRC_PERIOD_COUNT, .SRC_SINCE_LOG]

/-- Fields that recording a refusal or an error response may change besides (R78, R479). -/
def refuseFields : List Fld :=
  [.GEN_REFUSE_LOG0_REASON, .GEN_REFUSE_LOG0_WORD, .GEN_REFUSE_LOG1_COUNT, .GEN_REFUSE_LOG1_MASTER]

/-- Fields in which what depends on a lane's receive side follows it (R93, R130, R213, R233, R268): inputs, ports, MACs and receive entries. -/
def followFields : List Fld :=
  [.ATL_IN_STAT_LOST, .IN_GOOD, .FAB_PORT_CEILING, .FAB_PORT_STAT_UP, .PKT_AUDIO_LOST, .PKT_INPUT_LOST, .PKT_MAC_EVT, .PKT_MAC_STAT_LINK,
   .PKT_RX_LEG_LOST, .PKT_RX_LOST]

/-- What the decoder entry of a receive stream shows and counts (R188, R191). -/
def decoderFields : List Fld :=
  [.DEC_NOW_COARSE, .DEC_NOW_HIST, .DEC_NOW_SPAN, .DEC_SHOWN, .MZC_DEC_COARSE_BLOCKS, .MZC_DEC_FRAME, .MZC_DEC_HIST, .MZC_DEC_INEXACT,
   .MZC_DEC_LAST_REASON, .MZC_DEC_MAX_ERR, .MZC_DEC_MISSING]

/-- Fields that asking for streams, or the end of a request, may change besides (R99, R141 to R145, R150, R169, R348, R433). -/
def requestFields : List Fld :=
  [.FAB_REQ_NO, .ATL_DRAFT_STAT_FAB_REASON, .DEST_DRAFT_RX, .DEST_LIVE_RX, .DEST_PREV_RX, .MZC_DEST_STAT0_LAST_REASON, .CMP_TILE_W8_FAB_REASON,
   .CMP_HEAD_EVT, .AUD_GROUP_LOST, .AUD_RXG_MISSING]

/-- The second state differs from the first only in the listed fields, the answer on the bus, what has left the device, and the
records of the fault unit: every other register field, every byte of memory and every other part of the state is unchanged. -/
def Touches (fs : List Fld) (s t : State) : Prop :=
  t = { s with regs := t.regs, out := t.out, busResp := t.busResp, recovQueue := t.recovQueue, recovActive := t.recovActive, logWaiting := t.logWaiting }
    ∧ ∀ f i, f ∉ fs → t.get f i = s.get f i

/-- As `Touches` of both lists, and of the arrays of the first list only element `n` differs. -/
def TouchesAt (n : Nat) (fs gs : List Fld) (s t : State) : Prop :=
  Touches (fs ++ gs) s t ∧ ∀ f ∈ fs, ∀ j, j ≠ n → t.get f j = s.get f j

/-- Source `n` was asserted with a class (R481, R482): its count is one higher, saturating, and its last class is that one. -/
def Asserted (n cls : Nat) (s t : State) : Prop :=
  t.get .FLT_SRC_STAT_COUNT n = satAdd 16 (s.get .FLT_SRC_STAT_COUNT n) 1 ∧ t.get .FLT_SRC_STAT_LAST_CLASS n = cls

/-- A refusal was recorded for a word and a master, and source 506 was raised (R78). -/
def Refused (code word : Nat) (m : Master) (s t : State) : Prop :=
  t.get .GEN_REFUSE_LOG0_REASON = code ∧ t.get .GEN_REFUSE_LOG0_WORD = word ∧ t.get .GEN_REFUSE_LOG1_MASTER = m.refuseCode
    ∧ t.get .GEN_REFUSE_LOG1_COUNT = satAdd 16 (s.get .GEN_REFUSE_LOG1_COUNT) 1 ∧ Asserted 506 0 s t

/-- A write by `m` to the register at an offset passes the gate of the bus matrix (R7, R14, R53, R541, R550). -/
abbrev Passes (m : Master) (off : Nat) (s : State) : Prop := regGate m off 4 true s = none

/-! ### DSP cores -/

/-- Core `n` runs and the word at its PC is `w`, an instruction of a form and OPC that is legal there; no word that it reads is
uncorrectable (R387, R402, R419). -/
abbrev DspAt (form opc n w : Nat) (e : DspEcc) (s : State) : Prop :=
  s.dspRuns n = true ∧ n < s.dsp.length ∧ (s.core n).pc ≤ 0x1FFF ∧ s.progWord n (s.core n).pc = w ∧ dwForm w = form ∧ dwOpc w = opc
    ∧ dspLegal (s.core n) w = true ∧ e.prog ≠ .uncorrectable ∧ e.x ≠ .uncorrectable ∧ e.y ≠ .uncorrectable

/-- The PC after the instruction at the PC, but for delay slots (R398): back to LSTART at the end of a body that is not done. -/
def dspNextPc (c : DspCore) : Nat := if c.srBit 31 = true ∧ c.pc = c.lend ∧ 1 < c.lcnt then c.lstart else c.pc + 1

/-- A core has executed one instruction that is no control transfer (R397 to R399): one cycle; under a REP with repetitions left it
stays where it is; otherwise the PC moves on, the loop counts at its end, and after the second delay slot a taken branch continues at
its target. -/
def DspAdvanced (c d : DspCore) : Prop :=
  d.cycles = c.cycles + 1
    ∧ (∀ k, c.rep = some k → 1 < k → d.rep = some (k - 1) ∧ d.pc = c.pc ∧ d.slots = c.slots ∧ d.lcnt = c.lcnt ∧ d.srBit 31 = c.srBit 31)
    ∧ ((∀ k, c.rep = some k → k ≤ 1) → d.rep = none ∧ d.slots = c.slots - 1
        ∧ d.pc = (if c.slots = 1 then c.branch.getD (dspNextPc c) else dspNextPc c)
        ∧ d.srBit 31 = (if c.srBit 31 = true ∧ c.pc = c.lend ∧ c.lcnt ≤ 1 then false else c.srBit 31)
        ∧ d.lcnt = (if c.srBit 31 = true ∧ c.pc = c.lend then c.lcnt - 1 else c.lcnt))

/-- What every instruction leaves alone: modifiers, lengths, the stack, the pending interrupts, the blocks, and every other core; of
the rest of the machine only memory, the core's causes and counts of its memories, and its outgoing mailbox may change. -/
def DspTouches (n : Nat) (s t : State) : Prop :=
  (t.core n).m = (s.core n).m ∧ (t.core n).l = (s.core n).l ∧ (t.core n).stack = (s.core n).stack ∧ (t.core n).depth = (s.core n).depth
    ∧ (t.core n).pendingBlocks = (s.core n).pendingBlocks ∧ (t.core n).held = (s.core n).held ∧ (t.core n).qinWr = (s.core n).qinWr
    ∧ (∀ k, k ≠ n → t.core k = s.core k)
    ∧ Touches ([.DSP_CORE_EVT, .DSP_CORE_ECC_COR, .DSP_CORE_MBOX_OUT] ++ reportFields) { s with dsp := t.dsp, mem := t.mem } t

/-- Addresses of the bytes that the move fields of a word store to (R389, R414). -/
def dspStoredBytes (n w : Nat) (c : DspCore) : List Nat :=
  (if (xMove w).kind = 2 ∧ (c.address (xMove w)).1 < 0x3FF0 then
      (List.range 4).map (dspWindow n + 0x10000 + 4 * (c.address (xMove w)).1 + ·) else [])
    ++ (if (yMove w).kind = 2 then (List.range 4).map (dspWindow n + 0x20000 + 4 * (c.address (yMove w)).1 + ·) else [])

/-- Core `n` executed `w`, of the parallel form: it advanced, nothing changed but what `DspTouches` names, and no byte of memory but
those that its moves store to. -/
def DspRan (n w : Nat) (s t : State) : Prop :=
  DspAdvanced (s.core n) (t.core n) ∧ (t.core n).lstart = (s.core n).lstart ∧ (t.core n).lend = (s.core n).lend ∧ DspTouches n s t
    ∧ ∀ a, a ∉ dspStoredBytes n w (s.core n) → Memory.read a t.mem = Memory.read a s.mem

/-- Accumulator `a` holds a result, saturated with LS set where it saturates; the other accumulator and the flags of the data group
are unchanged, and of the D registers only those change that loads of the instruction before reach (R382, R391, R393, R400). -/
def DspAccIs (c d : DspCore) (a : Nat) (x : Int) : Prop :=
  d.acc a = clampInt accMin accMax x ∧ (x ≠ clampInt accMin accMax x → d.srBit 4 = true) ∧ d.acc (1 - a) = c.acc (1 - a)
    ∧ d.d = c.land.d ∧ d.srBit 1 = c.srBit 1 ∧ d.srBit 2 = c.srBit 2 ∧ d.srBit 3 = c.srBit 3

/-- A data result: written to its register where there is one, Z and N from it, V as given; the accumulators are unchanged (R394). -/
def DspDataIs (c d : DspCore) (dst : Option Nat) (r : Nat) (v : Bool) : Prop :=
  d.d = dst.elim c.land.d (fun i => c.land.d.set i (r % 2 ^ 32)) ∧ d.srBit 1 = (r % 2 ^ 32 == 0) ∧ d.srBit 2 = (bitsAt r 31 1 == 1)
    ∧ d.srBit 3 = v ∧ d.acc0 = c.acc0 ∧ d.acc1 = c.acc1

/-- Registers that a control transfer leaves alone, but that loads of the instruction before reach theirs (R392, R396). -/
def DspKept (c d : DspCore) : Prop :=
  d.d = c.land.d ∧ d.acc0 = c.acc0 ∧ d.acc1 = c.acc1 ∧ d.a = c.a ∧ d.m = c.m ∧ d.l = c.l ∧ d.lstart = c.lstart ∧ d.lend = c.lend
    ∧ d.lcnt = c.lcnt ∧ d.rep = c.rep ∧ d.qinWr = c.qinWr ∧ d.doorbell = c.doorbell ∧ d.queueIrq = c.queueIrq

/-- Outside core `n` only the listed fields of that core, its causes, its counts of corrected words and the fault unit's records may
change: no other core and no memory. -/
def DspOnly (n : Nat) (fs : List Fld) (s t : State) : Prop :=
  (∀ k, k ≠ n → t.core k = s.core k) ∧ TouchesAt n (fs ++ [.DSP_CORE_EVT, .DSP_CORE_ECC_COR]) reportFields { s with dsp := t.dsp } t

/-- Fields that a core which stops shows (R402, R404). -/
def dspStopFields : List Fld := [.DSP_CORE_STAT_STATE, .DSP_CORE_STAT_FAULT, .DSP_CORE_STAT_PC]

/-! ### Twins and the field side -/

/-- Fields that taking, releasing or yielding the claim may change (R510 to R515, R523 to R527, R532). -/
def claimFields : List Fld :=
  [.TWN_STAT_CLAIM, .TWN_STAT_DRIVING, .TWN_STAT_LINE_FAULT, .TWN_SETTLED, .TWN_WANT, .TWN_EVT, .TWN_ELECT_COUNT, .ELECT_DUE, .TWN_DROP,
   .TWN_STAT_DUE, .TWN_STAT_DEFERRED, .TWN_STAT_READY, .TWN_STAT_SYNC, .PWR_STAT_STATE, .FLT_STAT_SAFE]

/-- Fields that starting to resynchronise may change (R529). -/
def syncFields : List Fld := [.TWN_STAT_SYNC, .TWN_STAT_READY, .TWN_MATCH, .TWN_COPY_ATL_SEEN, .TWN_COPY_AUD_SEEN]

/-- The claim is taken (R510, R523): CLAIM, the election counter one higher and due to be written, cause ROLE. -/
def ClaimTaken (s t : State) : Prop :=
  t.get .TWN_STAT_CLAIM = 1 ∧ t.get .TWN_ELECT_COUNT = (s.get .TWN_ELECT_COUNT + 1) % 2 ^ 32 ∧ t.get .ELECT_DUE = 1 ∧ t.get .TWN_WANT = 0
    ∧ t.get .TWN_STAT_LINE_FAULT = 0 ∧ bitsAt (t.get .TWN_EVT) 0 1 = 1
    ∧ (bitsAt (s.get .TWN_EVT) 0 1 = 0 → bitsAt (s.get .TWN_EVT_EN) 0 1 = 1 → Asserted 440 0 s t)

/-- The claim is released (R512, R513, R527): no claim, no driving, cause ROLE. -/
def ClaimReleased (s t : State) : Prop :=
  t.get .TWN_STAT_CLAIM = 0 ∧ t.get .TWN_STAT_DRIVING = 0 ∧ t.get .TWN_WANT = 0 ∧ bitsAt (t.get .TWN_EVT) 0 1 = 1
    ∧ (bitsAt (s.get .TWN_EVT) 0 1 = 0 → bitsAt (s.get .TWN_EVT_EN) 0 1 = 1 → Asserted 440 0 s t)

end Sys2Proof.Machine
end

