-- ==== Sys2Proof/Certificates/Slice0/Obligations.lean ====
section
/-!
DEFINITION. The statements of this model, for the provers: what commands do, by the rules of the spec; what every step keeps; what reset
leaves. `Touches` and `TouchesAt` (Safety) say what stays unchanged.
-/
open Sys2Proof Sys2Proof.Machine

/-! ### The machine as a whole -/

/-- A step takes the command in front of the queue and runs it with the queue's rest. -/
def Obligations.StepRunsFrontCommand : Prop :=
  ∀ (c : Instr) (rest : List Instr) (s : State), step { s with pending := c :: rest } = exec c { s with pending := rest }

/-- With no command waiting a step is one tick of the 400 MHz clock (R273; the model's choice, log entry 1): where no step and no
increment is due, every running time base goes forward by its increment, and nothing else changes but the tick count. -/
def Obligations.IdleStepIsOneTick : Prop :=
  ∀ s : State, s.pending = [] → s.stepsDue = [] → s.tbs.length = 8 → (∀ n < 8, s.get .TB_INC_DUE n = 0) →
    ∃ t, step s = .next t ∧ t = { s with tick := s.tick + 1, tbs := t.tbs } ∧
      ∀ n < 8, t.tb n = if s.running .tb n then timeOfTotal ((s.tb n).total + s.tbInc n) else s.tb n

/-- Reset (R48, R49): the state is canonical; nothing waits; and registers of every block read the reset values their tables give. Where
the spec leaves a point open it follows the model's reading (log entries 13, 14, 15 and 16). -/
def Obligations.ResetState : Prop :=
  State.reset.canonical = true ∧ State.reset.pending = [] ∧ State.reset.mem = [] ∧ State.reset.get .GEN_BOOT_STAT_PHASE = 1
    ∧ State.reset.get .GEN_ENUM_POSITION = 0xF ∧ State.reset.get .GEN_ENUM_MGMT_ADDR = 0x0E ∧ State.reset.get .PWR_STAT_STATE = 1
    ∧ (∀ n < 32, State.reset.get .MSIX_CONTROL_MASK n = 1) ∧ (∀ n < 512, State.reset.get .FLT_SRC_STAT_PENDING n = 0)
    ∧ (∀ i < 2000, State.reset.get .UNIT_EN i = 0 ∧ State.reset.get .CHECK_ENABLED i = 0)

/-- Every step keeps the canonical forms of the register store and of both memories, so that equal contents stay equal data. -/
def Obligations.CanonicalFormKept : Prop :=
  ∀ s t : State, s.canonical = true → step s = .next t → t.canonical = true

/-- No step unblows a fuse (R534): the lifecycle never goes back, a revoked signer stays revoked, the floor never falls, a destroyed
image key stays destroyed, and what manufacture fused never changes. The queue is first in, first out: every step of a command
removes that command alone, and no step changes the part. -/
def Obligations.FusesStayBlownAndQueueIsFifo : Prop :=
  (∀ s t : State, step s = .next t → s.fuses.Within t.fuses) ∧
  (∀ s : State, ∃ t, step s = .next t ∧ t.pending = s.pending.tail ∧ t.variant = s.variant)

/-! ### Enumeration -/

/-- A device takes its position (R23, R24, R33): position 0 where ENUM_IN stays low, the offered position on the third identical valid
token; the management address follows from it (but for a device in its recovery responder, which stays at 0x0E), and nothing else
changes. Where the spec leaves a point open it follows the model's reading (log entry 41). -/
def Obligations.EnumerationTakesPosition : Prop :=
  (∀ s : State, s.positioned = false → s.enum.timedOut = false →
    ∃ t, exec .enumInLow s = .next t ∧ t.positioned = true ∧ t.position = 0
      ∧ t.get .GEN_ENUM_MGMT_ADDR = (if s.inRecovery then 0x0E else (0x10 + 12 * s.get .GEN_ENUM_PLANE) % 2 ^ 8)
      ∧ Touches [.GEN_ENUM_POS_VALID, .GEN_ENUM_POSITION, .GEN_ENUM_MGMT_ADDR] { s with enum := { s.enum with takenFrom := none } } t) ∧
  (∀ (tok : Nat) (s : State), s.positioned = false → s.enum.timedOut = false → tokenGood tok = true → s.enum.lastTok = tok →
    s.enum.run = 2 → s.tokenMismatch tok = 0 →
    ∃ t, exec (.enumToken true tok) s = .next t ∧ t.positioned = true ∧ t.position = bitsAt tok 20 4
      ∧ t.get .GEN_ENUM_MGMT_ADDR =
          (if s.inRecovery then 0x0E else (0x10 + 12 * s.get .GEN_ENUM_PLANE + bitsAt tok 20 4) % 2 ^ 8)
      ∧ Touches [.GEN_ENUM_POS_VALID, .GEN_ENUM_POSITION, .GEN_ENUM_MGMT_ADDR]
          { s with enum := { s.enum with lastTok := tok, run := 0, badRun := 0, takenFrom := some (bitsAt tok 16 16) } } t)

/-- A mismatched token (R26, R32): the third identical one records the first mismatch, raises source 505, forwards the token with the
next position, saturating at 15, and leaves the device without a position. A device whose 5 s are over forwards in the same way and
takes no position (R28). Enumeration faults (R27, R28, R30, R32): token loss, ENUM_IN high and a token whose bits [31:16] differ
from the one taken record 0x7, five seconds without a position 0x6, a duplicate announced to one of the device's addresses 0x8; only
the first fault stays, and it raises source 505; the position is kept. That an event whose condition does not hold changes nothing
is DEDUCED (log entry 2). Where the spec leaves a point open it follows the model's reading (log entries 41 and 97). -/
def Obligations.EnumerationFaultsAreRecorded : Prop :=
  (∀ (tok : Nat) (s : State), s.positioned = false → tokenCrc tok = true → tokenSync tok = true ∨ s.enum.badRun ≤ 2 →
    s.enum.lastTok = tok → s.enum.run = 2 →
    let e := { s.enum with lastTok := tok, run := 0, badRun := if tokenSync tok then 0 else s.enum.badRun + 1 }
    (s.tokenMismatch tok ≠ 0 → s.get .GEN_ENUM_FAULT = 0 →
      ∃ t, exec (.enumToken true tok) s = .next t ∧ t.get .GEN_ENUM_FAULT = s.tokenMismatch tok ∧ Asserted 505 0 s t
        ∧ t.out.head? = some (.enumToken (forwardToken tok)) ∧ Touches (.GEN_ENUM_FAULT :: reportFields) { s with enum := e } t) ∧
    (s.tokenMismatch tok = 0 → s.enum.timedOut = true →
      exec (.enumToken true tok) s = .next ({ s with enum := e }.emit (.enumToken (forwardToken tok)))) ∧
    bitsAt (forwardToken tok) 20 4 = min 15 (bitsAt tok 20 4 + 1) ∧ bitsAt (forwardToken tok) 19 1 = bitsAt tok 19 1
      ∧ bitsAt (forwardToken tok) 18 1 = bitsAt tok 18 1 ∧ bitsAt (forwardToken tok) 17 1 = bitsAt tok 17 1
      ∧ tokenGood (forwardToken tok) = true) ∧
  (∀ s : State, s.get .GEN_ENUM_FAULT = 0 →
    (s.positioned = true → s.enum.takenFrom ≠ none → ∃ t, exec .enumTokenLoss s = .next t ∧ t.get .GEN_ENUM_FAULT = 7
      ∧ Asserted 505 0 s t ∧ Touches (.GEN_ENUM_FAULT :: reportFields) s t ∧ exec .enumTokenLoss t = .next t) ∧
    (∀ tok, s.positioned = true → tokenCrc tok = true → s.enum.takenFrom ≠ some (bitsAt tok 16 16) →
      ∃ t, exec (.enumToken true tok) s = .next t ∧ t.get .GEN_ENUM_FAULT = 7 ∧ Asserted 505 0 s t
        ∧ Touches (.GEN_ENUM_FAULT :: reportFields) s t) ∧
    (s.positioned = true → s.enum.takenFrom = none → ∃ t, exec .enumInHigh s = .next t ∧ t.get .GEN_ENUM_FAULT = 7
      ∧ Asserted 505 0 s t ∧ Touches (.GEN_ENUM_FAULT :: reportFields) s t ∧ exec .enumInHigh t = .next t) ∧
    (s.positioned = false → s.enum.timedOut = false → ∃ t, exec .enumTimeout s = .next t ∧ t.get .GEN_ENUM_FAULT = 6
      ∧ Asserted 505 0 s t ∧ Touches (.GEN_ENUM_FAULT :: reportFields) { s with enum := { s.enum with timedOut := true } } t
      ∧ exec .enumInLow t = .next t) ∧
    (∀ (dst : Nat) (plane twin : Bool), s.positioned = true → s.mgmtTakes dst = true → s.get .GEN_ENUM_PLANE = plane.toNat →
      s.get .GEN_ENUM_TWIN = twin.toNat → ∃ t, exec (.announceReceived dst ⟨plane, s.position⟩ twin) s = .next t ∧ t.get .GEN_ENUM_FAULT = 8
        ∧ Asserted 505 0 s t ∧ Touches (.GEN_ENUM_FAULT :: reportFields) s t))

/-- A positioned device offers its position plus one in a good token with its own plane, twin and class (R22, R25); every device
announces its plane, position and twin from its individual address (R30, R34, R35). -/
def Obligations.TokensAndAnnouncementsSent : Prop :=
  (∀ s : State, s.positioned = true → s.position ≤ 11 → s.get .GEN_ENUM_PLANE ≤ 1 → s.get .GEN_ENUM_TWIN ≤ 1 →
    ∃ tok, exec .enumTokenSend s = .next (s.emit (.enumToken tok)) ∧ tokenGood tok = true ∧ bitsAt tok 20 4 = s.position + 1
      ∧ bitsAt tok 19 1 = s.get .GEN_ENUM_PLANE ∧ bitsAt tok 18 1 = s.get .GEN_ENUM_TWIN ∧ bitsAt tok 17 1 = s.variant.tokenClass) ∧
  (∀ s : State, exec .mgmtAnnounce s = .next (s.emit (.announce (0x02C511520000 + 2 ^ 8 * s.get .GEN_ENUM_TWIN + s.get .GEN_ENUM_MGMT_ADDR)
    (s.get .GEN_ENUM_PLANE) s.position (s.get .GEN_ENUM_TWIN))))

/-! ### Resets and the start (R48 to R68) -/

/-- A power-on or external reset latches the straps, reads the fuses, returns every register and every other part of the state to its
reset value, and keeps what lies outside the reset domain: the configuration memory, the fuses, what the field die recorded of the
safety inputs, the level of CLAIM_IN_N, and what waits (R20, R48, R49, R534); the power-on also loses what the memories held. A
device reset needs the unlock value (R67); it then keeps the straps, the position with its address, the enumeration fault, the
memories and what lies outside the reset domain, and returns every other register and every other part of the state to its reset
value (R27, R32, R48). Without the unlock value nothing happens to a master that does not run from the boot ROM. Where the spec
leaves a point open it follows the model's reading (log entries 15, 29, 40 and 98). -/
def Obligations.ResetsKeepWhatTheyMust : Prop :=
  (∀ (plane twin : Bool) (s : State), ∀ c ∈ [(Instr.powerOnReset plane twin, []), (Instr.externalReset plane twin, s.mem)],
    ∃ t, exec c.1 s = .next t ∧ t.get .GEN_ENUM_PLANE = plane.toNat ∧ t.get .GEN_ENUM_TWIN = twin.toNat ∧ t.get .GEN_BOOT_STAT_PHASE = 1
      ∧ t = { State.reset with
                variant := s.variant, regs := t.regs, mem := c.2, nvm := s.nvm, fuses := s.fuses, inForce := s.fuses, tick := s.tick
                resetTick := s.tick, freeCount := s.freeCount, out := s.out, pending := s.pending }
      ∧ (∀ f ∈ dieFields, ∀ i < 2, t.get f i = s.get f i % 2 ^ f.info.w)
      ∧ t.get .TWN_STAT_TWIN_CLAIM = s.get .TWN_STAT_TWIN_CLAIM % 2 ^ Fld.TWN_STAT_TWIN_CLAIM.info.w
      ∧ ∀ f i, f ∉ [.GEN_ENUM_PLANE, .GEN_ENUM_TWIN, .GEN_BOOT_STAT_PHASE, .SEC_DBG_LEVEL, .TWN_STAT_TWIN_CLAIM] ++ dieFields →
          t.get f i = f.resetAt s.variant i) ∧
  (∀ (m : Master) (v : Nat) (s : State), Passes m 4 s →
    (bitsAt v 16 16 = 0xC1A5 → ∃ t, exec (.deviceReset m v) s = .next t ∧ t.get .GEN_BOOT_STAT_PHASE = 1
      ∧ t = { State.reset with
                variant := s.variant, regs := t.regs, mem := s.mem, nvm := s.nvm, fuses := s.fuses, inForce := s.fuses, tick := s.tick
                resetTick := s.tick, freeCount := s.freeCount, enum := s.enum, out := s.out, pending := s.pending }
      ∧ (∀ f ∈ [.GEN_ENUM_POS_VALID, .GEN_ENUM_FAULT, .GEN_ENUM_TWIN, .GEN_ENUM_PLANE, .GEN_ENUM_POSITION, .TWN_STAT_TWIN_CLAIM] ++ dieFields,
          t.get f = s.get f % 2 ^ f.info.w)
      ∧ t.get .GEN_ENUM_MGMT_ADDR =
          (if t.get .GEN_ENUM_POS_VALID = 1 then (0x10 + 12 * t.get .GEN_ENUM_PLANE + t.get .GEN_ENUM_POSITION) % 2 ^ 8 else 0x0E)
      ∧ ∀ f i, f ∉ [.GEN_ENUM_POS_VALID, .GEN_ENUM_FAULT, .GEN_ENUM_MGMT_ADDR, .GEN_ENUM_TWIN, .GEN_ENUM_PLANE, .GEN_ENUM_POSITION,
          .GEN_BOOT_STAT_PHASE, .SEC_DBG_LEVEL, .TWN_STAT_TWIN_CLAIM] ++ dieFields → t.get f i = f.resetAt s.variant i) ∧
    (bitsAt v 16 16 ≠ 0xC1A5 → s.fromRom m = false → exec (.deviceReset m v) s = .next (s.respond 0 false)))

/-- ST0, while it executes from the boot ROM, sets REMAP and the run bits, which stay set (R67, R68); from any other master the same
writes are ignored without error. Hand-over (R50, R69): REMAP and every run bit set, PHASE 0x6, power state Warm Standby. Where the
spec leaves a point open it follows the model's reading (log entries 40 and 91). -/
def Obligations.RemapRunBitsAndHandOver : Prop :=
  (∀ (m : Master) (mask : Nat) (s : State), Passes m 4 s →
    (s.fromRom m = true → ∃ t, exec (.remap m) s = .next t ∧ t.get .GEN_CTRL_REMAP = 1
      ∧ t.get .GEN_CTRL_ST_RUN = s.get .GEN_CTRL_ST_RUN % 16 ∧ Touches [.GEN_CTRL_REMAP, .GEN_CTRL_ST_RUN] s t) ∧
    (s.fromRom m = true → ∃ t, exec (.stRun m mask) s = .next t ∧ t.get .GEN_CTRL_ST_RUN = (s.get .GEN_CTRL_ST_RUN ||| mask % 16) % 16
      ∧ t.get .GEN_CTRL_REMAP = s.get .GEN_CTRL_REMAP % 2 ∧ Touches [.GEN_CTRL_REMAP, .GEN_CTRL_ST_RUN] s t) ∧
    (s.fromRom m = false → exec (.remap m) s = .next (s.respond 0 false) ∧ exec (.stRun m mask) s = .next (s.respond 0 false))) ∧
  (∀ s : State, s.boot.chosen ≠ none → s.boot.streaming = false → s.get .GEN_BOOT_STAT_PHASE = 5 → s.get .PWR_STAT_STATE = 1 →
    ∃ t, exec .handOver s = .next t ∧ t.get .GEN_BOOT_STAT_PHASE = 6 ∧ t.get .GEN_CTRL_REMAP = 1 ∧ t.get .GEN_CTRL_ST_RUN = 15
      ∧ t.get .PWR_STAT_STATE = 3 ∧ t.boot.aliasOpen = false
      ∧ (s.boot.placed = [] → Touches ([.GEN_BOOT_STAT_PHASE, .GEN_CTRL_ST_RUN, .GEN_CTRL_REMAP, .AUD_EVAC_DEFAULT, .AUD_EVAC_VENUE_COUNT,
          .CMP_LEGEND_STAT_DEFAULT, .CMP_LEGEND_STAT_VERSION, .CMP_HEAD_STAT_ROM_SLIDE, .PWR_STAT_STATE, .FLT_STAT_SAFE, .FLD_SAFE_STAT_CONTACT_FAULT, .FLD_SAFE_STAT_DEFAULT]
          ++ reportFields) { s with boot := t.boot } t))

/-- The configuration memory is set up (R50, R55, R81, R84): PHASE 0x2 with the writers placed behind the newest valid records, and
persistence off, with a notice, where the memory needs an erase; PHASE 0xF, and the recovery responder at management address 0x0E,
where it does not answer. Where the spec leaves a point open it follows the model's reading (log entries 26 and 44). -/
def Obligations.MemorySetupPlacesRings : Prop :=
  ∀ (a : SfdpAnswer) (s : State), s.get .GEN_BOOT_STAT_PHASE = 1 →
    ((a.answers && a.gbit && a.readable) = false → ∃ t, exec (.memorySetup a) s = .next t ∧ t.get .GEN_BOOT_STAT_PHASE = 0xF
      ∧ t.get .GEN_ENUM_MGMT_ADDR = 0x0E ∧ Touches [.GEN_BOOT_STAT_PHASE, .GEN_ENUM_MGMT_ADDR] s t) ∧
    ((a.answers && a.gbit && a.readable) = true → ∃ t, exec (.memorySetup a) s = .next t ∧ t.get .GEN_BOOT_STAT_PHASE = 2
      ∧ t.get .FLT_LOG_POS = (ringNext s.nvm 0x7000000 256 65536).1 % 2 ^ 16
      ∧ t.get .TWN_ELECT_COUNT = electionCount s.nvm % 2 ^ 32
      ∧ (a.needsErase = true → t.get .CFG_PERSIST_STAT_OFF = 1 ∧ Asserted 504 0 s t)
      ∧ Touches ([.GEN_BOOT_STAT_PHASE, .FLT_LOG_POS, .FLT_SEQ, .ELECT_POS, .ELECT_SEQ, .TWN_ELECT_COUNT, .AGE_POS, .AGE_SEQ,
          .CFG_PERSIST_STAT_OFF] ++ reportFields) s t)

/-- The two slots' headers are judged and the first slot chosen (R63, R64, R66): each RESULT is its slot's outcome; of two that pass,
the higher IMAGE_SEQ streams first, slot A of two equal; with none, PHASE reads 0xE. A section is streamed (R50, R61 to R63, R599):
opened and checked against its CRC, it is placed and the next one follows; a CRC mismatch is noted and does not stop the slot; with
the last one PHASE reads 0x5. A read error, a failed tag or a malformed security policy rejects the slot. Where the spec leaves a
point open it follows the model's reading (log entries 5, 30, 99 and 100). -/
def Obligations.SlotsAreChosenAndStreamed : Prop :=
  (∀ s : State, s.get .GEN_BOOT_STAT_PHASE = 2 → ∃ t, exec .slotHeadersRead s = .next t
    ∧ t.get .GEN_BOOT_STAT_RESULT_A = s.preCheck 0 ∧ t.get .GEN_BOOT_STAT_RESULT_B = s.preCheck 1
    ∧ (s.preCheck 0 ≠ 0 → s.preCheck 1 ≠ 0 → t.get .GEN_BOOT_STAT_PHASE = 0xE ∧ t.boot.streaming = false
        ∧ t.get .GEN_ENUM_MGMT_ADDR = 0x0E)
    ∧ (s.preCheck 0 = 0 ∨ s.preCheck 1 = 0 → t.get .GEN_BOOT_STAT_PHASE = 3 ∧ t.boot.streaming = true ∧ t.boot.nextSection = 0
        ∧ t.boot.slot = (if s.preCheck 0 ≠ 0 ∨ s.preCheck 1 = 0 ∧ s.imageSeq 0 < s.imageSeq 1 then 1 else 0)
        ∧ Touches [.GEN_BOOT_STAT_PHASE, .GEN_BOOT_STAT_RESULT_A, .GEN_BOOT_STAT_RESULT_B] { s with boot := t.boot } t)) ∧
  (∀ (s : State), s.boot.streaming = true →
    (∀ bs, let e := s.sectionEntry s.boot.slot s.boot.nextSection
      (needsHbm e = true → s.boot.hbmReady = true) → s.openPayload s.boot.slot s.boot.nextSection e = some bs →
      (e.typ = 0xD → policyGood bs = true) →
      ∃ t, exec (.sectionStreamed false) s = .next t
        ∧ t.boot.nextSection = s.boot.nextSection + 1
        ∧ t.boot.placed = s.boot.placed ++ [⟨s.boot.nextSection, e.typ, e.flags, e.dest, e.version, e.param, bs⟩]
        ∧ t.boot.mismatched = (if crc32c (s.payload s.boot.slot e) = e.crc then s.boot.mismatched else s.boot.mismatched ++ [s.boot.nextSection])
        ∧ t.mem = (if e.typ = 7 ∨ e.typ = 8 then Memory.writeList e.dest bs s.mem else s.mem)
        ∧ t.get .GEN_BOOT_STAT_PHASE = (if s.boot.nextSection + 1 < s.sectionCount s.boot.slot then 4 else 5)
        ∧ Touches [.GEN_BOOT_STAT_PHASE] { s with boot := t.boot, mem := t.mem } t) ∧
    (∀ readError : Bool, let e := s.sectionEntry s.boot.slot s.boot.nextSection
      (needsHbm e = true → s.boot.hbmReady = true) → (readError = true ∨ (s.openPayload s.boot.slot s.boot.nextSection e).all (fun bs => e.typ == 0xD && !policyGood bs) = true) →
      ∃ t, exec (.sectionStreamed readError) s = .next t
        ∧ t.get (if s.boot.slot = 0 then .GEN_BOOT_STAT_RESULT_A else .GEN_BOOT_STAT_RESULT_B) =
            (if readError then 0xA else if s.openPayload s.boot.slot s.boot.nextSection e = none then 8 else 9)
        ∧ Touches [.GEN_BOOT_STAT_RESULT_A, .GEN_BOOT_STAT_RESULT_B, .GEN_BOOT_STAT_PHASE, .GEN_ENUM_MGMT_ADDR, .SRC_SINCE_LOG]
            { s with boot := t.boot } t))

/-- The signatures decide (R62 to R65, R536): with the owner's good, a slot whose safety signature is good is used at once; one whose
safety signature fails is partly valid, and in a later pass is used with the safety default; a bad owner signature rejects it. The
CRC mismatches of a slot that is used are counted (R599). Where the spec leaves a point open it follows the model's reading (log
entries 5 and 30). -/
def Obligations.SignaturesDecideTheSlot : Prop :=
  ∀ s : State, s.get .GEN_BOOT_STAT_PHASE = 5 → s.boot.streaming = false → s.boot.chosen = none →
    ∃ t, exec .signatureVerify s = .next t
      ∧ t.get (if s.boot.slot = 0 then .GEN_BOOT_STAT_RESULT_A else .GEN_BOOT_STAT_RESULT_B) =
          (if s.ownerSigned s.boot.slot = false then 5 else if s.safetySigned s.boot.slot then 1 else if s.boot.pass = 0 then 4 else 0xB)
      ∧ t.boot.chosen = (if s.ownerSigned s.boot.slot && (s.safetySigned s.boot.slot || s.boot.pass != 0)
          then some (s.boot.slot, s.safetySigned s.boot.slot) else none)
      ∧ t.get .GEN_BOOT_STAT_SLOT_USED = (if s.ownerSigned s.boot.slot && (s.safetySigned s.boot.slot || s.boot.pass != 0)
          then (s.boot.slot + 1) % 4 else s.get .GEN_BOOT_STAT_SLOT_USED)
      ∧ t.get .GEN_BOOT_STAT_SAFETY_DEFAULT = (if s.ownerSigned s.boot.slot && (s.safetySigned s.boot.slot || s.boot.pass != 0)
          then (!s.safetySigned s.boot.slot).toNat else s.get .GEN_BOOT_STAT_SAFETY_DEFAULT)
      ∧ (t.boot.chosen ≠ none → t.get .GEN_BOOT_STAT_CRC_FAULTS = min 255 s.boot.mismatched.length
          ∧ t.get .GEN_BOOT_SEQ = s.imageSeq s.boot.slot % 2 ^ 32)
      ∧ Touches ([.GEN_BOOT_STAT_RESULT_A, .GEN_BOOT_STAT_RESULT_B, .GEN_BOOT_STAT_PHASE, .GEN_BOOT_STAT_SLOT_USED,
          .GEN_BOOT_STAT_SAFETY_DEFAULT, .GEN_BOOT_STAT_CRC_FAULTS, .GEN_BOOT_STAT_SKIPPED, .GEN_BOOT_SEQ, .GEN_ENUM_MGMT_ADDR] ++ reportFields)
          { s with boot := t.boot } t

/-- The commands of the configuration port (R79, R80, R600): a command sets BUSY; while it is busy further ones are ignored; it takes
effect when it completes, which a waiting record write puts off: a page write and a header overwrite put their bytes into the
addressed slot, a page read fills the buffer. A write outside both slots or into the slot in use is refused with 0x09, one before
hand-over and outside recovery with 0x08. That an event whose condition does not hold changes nothing is DEDUCED (log entry 2).
Where the spec leaves a point open it follows the model's reading (log entries 31 and 101). -/
def Obligations.NvmCommandsActOnSlots : Prop :=
  (∀ (m : Master) (s : State), Passes m 0x10000 s →
    (s.get .CFG_NVM_STAT_BUSY = 0 →
      ∀ c ∈ [(Instr.nvmReadPage m, NvmCmd.readPage), (Instr.nvmWritePage m, .writePage), (Instr.nvmOverwriteHeader m, .overwriteHeader)],
        (c.2 = .readPage ∨ s.slotWriteRefusal = 0) →
        ∃ t, exec c.1 s = .next t ∧ t.get .CFG_NVM_STAT_BUSY = 1 ∧ t.nvmWork = some ⟨c.2, s.nvmPage, s.pageBytes⟩
          ∧ Touches [.CFG_NVM_STAT_BUSY] { s with nvmWork := t.nvmWork } t) ∧
    (s.get .CFG_NVM_STAT_BUSY = 0 → ∀ c ∈ [Instr.nvmWritePage m, .nvmOverwriteHeader m], ∀ r ∈ [0x08, 0x09], s.slotWriteRefusal = r →
      ∃ t, exec c s = .next t ∧ t.get .CFG_NVM_STAT_REASON = r ∧ Refused r 0x4000 m s t
        ∧ Touches (.CFG_NVM_STAT_REASON :: refuseFields ++ reportFields) s t) ∧
    (s.slotWriteRefusal = match slotOf s.nvmPage with
      | none => 0x09
      | some k => if s.get .GEN_BOOT_STAT_SLOT_USED = k + 1 then 0x09 else if s.get .GEN_BOOT_STAT_PHASE < 6 then 0x08 else 0) ∧
    (s.get .CFG_NVM_STAT_BUSY = 1 → ∀ c ∈ [Instr.nvmReadPage m, .nvmWritePage m, .nvmOverwriteHeader m], exec c s = .next (s.respond 0 false))) ∧
  (∀ (w : NvmWork) (s : State), s.nvmWork = some w →
    (s.recordWaits = true → exec .nvmCommandComplete s = .next s) ∧
    (s.recordWaits = false → ∃ t, exec .nvmCommandComplete s = .next t ∧ t.get .CFG_NVM_STAT_BUSY = 0 ∧ t.get .CFG_NVM_STAT_REASON = 0
      ∧ t.nvmWork = none
      ∧ t.nvm = (match w.cmd with
          | .readPage => s.nvm
          | .writePage => Memory.writeList w.page w.bytes s.nvm
          | .overwriteHeader => Memory.writeList (slotBase ((slotOf w.page).getD 0)) (List.replicate 64 0) s.nvm)
      ∧ (w.cmd = .readPage → ∀ i < 64, t.get .CFG_PAGE_BUF i = leNat (Memory.readList s.nvm (w.page + 4 * i) 4) % 2 ^ 32)
      ∧ (w.cmd ≠ .readPage → ∀ i, t.get .CFG_PAGE_BUF i = s.get .CFG_PAGE_BUF i)
      ∧ Touches [.CFG_NVM_STAT_BUSY, .CFG_NVM_STAT_REASON, .CFG_PAGE_BUF] { s with nvm := t.nvm, nvmWork := none } t))

/-! ### Faults, events and check-value units -/

/-- Windows and storms (R485 to R488): a window that closes with an assertion inside raises its source again, and one without, or of a
source that is masked or in a storm, only closes; a window that is not open stays so; the end of a storm period restarts every
count; a release, by a write of 1 to STORM or by its timeout, clears STORM and opens no window. A forced assertion (R489) sets
FORCED and counts as a notice, but enters no first-cause latch, makes no recovery record and no fatal record (a storm that it starts
is reported by source 510, whose own assertion enters the latches); of a source that does not exist it does nothing. That an event
whose condition does not hold changes nothing is DEDUCED (log entry 2). Where the spec leaves a point open it follows the model's
reading (log entry 25). -/
def Obligations.WindowsStormsAndForcedAssertions : Prop :=
  (∀ (n : Nat) (s : State), n < 512 →
    (s.get .SRC_WINDOW_OPEN n = 1 → s.get .SRC_WINDOW_HIT n = 1 → s.get .FLT_SRC_STAT_STORM n = 0 → s.get .FLT_SRC_MASK n = 0 →
      ∃ t, exec (.coalesceWindowClose n) s = .next t ∧ t.get .FLT_SRC_STAT_PENDING n = 1 ∧ t.get .SRC_WINDOW_HIT n = 0
        ∧ t.get .SRC_WINDOW_OPEN n = (if s.get .FLT_SRC_WINDOW n = 0 then 0 else 1) ∧ TouchesAt n sourceFields reportFields s t) ∧
    (s.get .SRC_WINDOW_OPEN n ≠ 1 → exec (.coalesceWindowClose n) s = .next s) ∧
    (s.get .SRC_WINDOW_OPEN n = 1 → s.get .SRC_WINDOW_HIT n = 0 ∨ s.get .FLT_SRC_STAT_STORM n = 1 ∨ s.get .FLT_SRC_MASK n = 1 →
      ∃ t, exec (.coalesceWindowClose n) s = .next t ∧ t.get .SRC_WINDOW_OPEN n = 0
        ∧ TouchesAt n [.SRC_WINDOW_OPEN, .SRC_WINDOW_HIT] [] s t ∧ t.out = s.out) ∧
    (∃ t, exec .stormPeriodEnd s = .next t ∧ (∀ k < 512, t.get .SRC_PERIOD_COUNT k = 0) ∧ Touches [.SRC_PERIOD_COUNT] s t) ∧
    (∀ (m : Master) (v : Nat), Passes m (srcOff n + 4) s → s.get .FLT_SRC_STAT_STORM n = 1 →
      ∃ t, exec (.stormRelease m n v) s = .next t ∧ t.get .FLT_SRC_STAT_STORM n = 0 ∧ t.get .SRC_WINDOW_OPEN n = 0
        ∧ TouchesAt n [.FLT_SRC_STAT_PENDING, .FLT_SRC_STAT_STORM, .FLT_SRC_STAT_FORCED, .FLT_SRC_STAT_LEVEL, .FLT_SRC_STAT_LAST_CLASS,
            .FLT_SRC_STAT_COUNT, .SRC_WINDOW_OPEN, .SRC_WINDOW_HIT] [] s t) ∧
    (s.get .FLT_SRC_STAT_STORM n = 1 → s.get .FLT_CTRL_STORM_RELEASE ≠ 0 →
      ∃ t, exec (.stormReleaseTimeout n) s = .next t ∧ t.get .FLT_SRC_STAT_STORM n = 0 ∧ t.get .SRC_WINDOW_OPEN n = 0
        ∧ TouchesAt n [.FLT_SRC_STAT_STORM, .SRC_WINDOW_OPEN, .SRC_WINDOW_HIT] [] s t)) ∧
  (∀ (m : Master) (n : Nat) (s : State), n < 510 → Passes m (srcOff n) s →
    (s.sourceExists n = true → s.get .FLT_SRC_STEWARD n ≤ 3 →
      ∃ t, exec (.force m n (s.wordAt (srcOff n) ||| 1)) s = .next t ∧ t.get .FLT_SRC_STAT_FORCED n = 1 ∧ Asserted n 0 s t
        ∧ t.recovQueue = s.recovQueue ∧ t.get .FLT_STAT_FATAL = s.get .FLT_STAT_FATAL
        ∧ Touches (.FLT_SRC_STAT_FORCED :: reportFields) s t
        ∧ (s.get .FLT_SRC_STORM_N n = 0 ∨ s.get .FLT_SRC_STAT_STORM n = 1 →
          (∀ b < 19, t.get .FLT_LATCH_VALID b = s.get .FLT_LATCH_VALID b ∧ t.get .FLT_LATCH_OTHERS b = s.get .FLT_LATCH_OTHERS b)
            ∧ TouchesAt n (sourceFields ++ [.FLT_SRC_STAT_FORCED]) reportFields s t)) ∧
    (s.sourceExists n = false → ∀ v, exec (.force m n v) s = .next (s.respond 0 false)))

/-- The recovery queue (R491 to R494): TAKE with the source at the head makes its record the active one; DONE with the active source
ends it; either is refused with 0x08 while the queue is frozen, and with 0x04 for another source; a recovery that outlasts its limit
is reported once by source 509. Where the spec leaves a point open it follows the model's reading (log entry 20). -/
def Obligations.RecoveryIsTakenAndDone : Prop :=
  ∀ (m : Master) (v : Nat) (s : State), Passes m 0x1340024 s →
    (∀ (r : RecovRec) (rest : List RecovRec), s.recovQueue = r :: rest → s.recovActive = none → s.get .FLT_RECOV_STAT_FROZEN = 0 →
      bitsAt v 30 1 = 0 → r.source = bitsAt v 0 9 →
      ∃ t, exec (.recoveryTake m v) s = .next t ∧ t.recovActive = some r ∧ t.recovQueue = rest ∧ t.regs = s.regs ∧ Touches [] s t) ∧
    (∀ r : RecovRec, s.recovActive = some r → s.get .FLT_RECOV_STAT_FROZEN = 0 → bitsAt v 31 1 = 0 → r.source = bitsAt v 0 9 →
      s.takeoverDue = false →
      ∃ t, exec (.recoveryDone m v) s = .next t ∧ t.recovActive = none ∧ t.recovQueue = s.recovQueue
        ∧ t.get .FLT_RECOV_STAT_OVERDUE = 0 ∧ Touches [.FLT_RECOV_STAT_OVERDUE, .TWN_STAT_DUE, .TWN_STAT_DEFERRED] s t) ∧
    (s.get .FLT_RECOV_STAT_FROZEN = 1 → s.takeoverDue = false → ∀ c ∈ [Instr.recoveryTake m v, .recoveryDone m v],
      ∃ t, exec c s = .next t ∧ Refused 0x08 0x4D0009 m s t ∧ Touches ([.TWN_STAT_DUE, .TWN_STAT_DEFERRED] ++ refuseFields ++ reportFields) s t) ∧
    (∀ r : RecovRec, s.recovActive = some r → s.get .FLT_RECOV_STAT_FROZEN = 0 → r.source ≠ bitsAt v 0 9 →
      s.takeoverDue = false → ∀ c ∈ [Instr.recoveryTake m v, .recoveryDone m v],
      ∃ t, exec c s = .next t ∧ Refused 0x04 0x4D0009 m s t ∧ Touches ([.TWN_STAT_DUE, .TWN_STAT_DEFERRED] ++ refuseFields ++ reportFields) s t) ∧
    (s.recovActive ≠ none → s.get .FLT_RECOV_LIMIT ≠ 0 → s.get .FLT_RECOV_STAT_OVERDUE = 0 →
      ∃ t, exec .recoveryOverdue s = .next t ∧ t.get .FLT_RECOV_STAT_OVERDUE = 1 ∧ Asserted 509 0 s t
        ∧ Touches (.FLT_RECOV_STAT_OVERDUE :: reportFields) s t ∧ exec .recoveryOverdue t = .next t)

/-- HBM (R50, R498, R597): readiness lets streaming go on and marks what failed its training; a pass of the scrubber is counted, and
each word it reads is judged as SECDED found it; a stack that fails stays failed and is fatal; a hot one doubles its refresh. Where
the spec leaves a point open it follows the model's reading (log entry 3). -/
def Obligations.HbmIsScrubbedAndWatched : Prop :=
  ∀ (k : Nat) (s : State), k < 2 → s.hasStack k = true →
    (∀ fail0 fail1 : Bool, s.get .PWR_STAT_STATE = 1 → s.boot.hbmReady = false →
      ∃ t, exec (.hbmReady fail0 fail1) s = .next t ∧ t.boot.hbmReady = true
        ∧ (fail0 = true → t.get .FLT_HBM_FAILED 0 = 1 ∧ Asserted 428 3 s t)
        ∧ (fail1 = true → s.hasStack 1 = true → t.get .FLT_HBM_FAILED 1 = 1 ∧ Asserted 429 3 s t)
        ∧ Touches (.FLT_HBM_FAILED :: reportFields) { s with boot := { s.boot with hbmReady := true } } t) ∧
    (s.stackRuns k = true → ∃ t, exec (.scrubPassComplete k) s = .next t ∧ t.get .FLT_HBM_SCRUBS k = (s.get .FLT_HBM_SCRUBS k + 1) % 2 ^ 16
      ∧ t.get .SCRUB_POS k = 0 ∧ Asserted (432 + k) 0 s t ∧ TouchesAt k [.FLT_HBM_SCRUBS, .SCRUB_POS] reportFields s t) ∧
    (s.stackRuns k = true → ∃ t, exec (.scrubRead k .clean) s = .next t
      ∧ t.get .SCRUB_POS k = (s.get .SCRUB_POS k + 32) % 2 ^ 34 ∧ TouchesAt k [.SCRUB_POS] [] s t) ∧
    (s.stackRuns k = true → ∃ t, exec (.scrubRead k .corrected) s = .next t ∧ t.get .FLT_HBM_COR k = satAdd 16 (s.get .FLT_HBM_COR k) 1
      ∧ Asserted (424 + k) 1 s t ∧ TouchesAt k [.SCRUB_POS, .FLT_HBM_COR] reportFields s t) ∧
    (s.stackRuns k = true → ∃ t, exec (.scrubRead k .uncorrectable) s = .next t
      ∧ t.get .FLT_HBM_UNCOR k = satAdd 8 (s.get .FLT_HBM_UNCOR k) 1 ∧ Asserted (426 + k) 2 s t
      ∧ t.get .FLT_HBM_ADDR_LO k = (0x1000000000 + k * 0x400000000 + s.get .SCRUB_POS k) % 2 ^ 32
      ∧ TouchesAt k [.SCRUB_POS, .FLT_HBM_UNCOR, .FLT_HBM_ADDR_LO, .FLT_HBM_ADDR_HI] reportFields s t) ∧
    (∀ training : Bool, (training || s.boot.hbmReady) = true → s.get .FLT_HBM_FAILED k = 0 →
      ∃ t, exec (.hbmStackFailed k training) s = .next t ∧ t.get .FLT_HBM_FAILED k = 1 ∧ Asserted (428 + k) 3 s t
        ∧ TouchesAt k [.FLT_HBM_FAILED] reportFields s t) ∧
    (∃ t, exec (.hbmTempHigh k) s = .next t ∧ t.get .HBM_HOT k = 1 ∧ Asserted (430 + k) 0 s t
      ∧ TouchesAt k [.HBM_HOT] reportFields s t)

/-- Check-value units (R500 to R504): the CRC of a period's data, or of a pass over memory, becomes the result and, with COMPARE 1, is
judged against EXPECT; a target that stopped within the period gives a gap and no result. Where the spec leaves a point open it
follows the model's reading (log entry 84). -/
def Obligations.CheckUnitsJudgeResults : Prop :=
  ∀ (u : Nat) (s : State), s.running .chkUnit u = true →
    (∀ (data : List Nat) (id : Nat), 2 ≤ s.get .CHK_CTRL_KIND u → s.get .CHK_CTRL_KIND u ≤ 6 → s.chkTargetLive u = true →
      s.get .CHK_CTRL_COMPARE u = 1 →
      ∃ t, exec (.chkResult u data id false) s = .next t
        ∧ t.get .CHK_RESULT u = chkCrc (s.get .CHK_CTRL_KIND u) (s.get .CHK_CTRL_POLY u) (s.chkDepth u) data % 2 ^ 32
        ∧ t.get .CHK_RESULT_ID u = id % 2 ^ 32
        ∧ t.get .CHK_STAT_MISMATCHES u = (if chkCrc (s.get .CHK_CTRL_KIND u) (s.get .CHK_CTRL_POLY u) (s.chkDepth u) data = s.get .CHK_EXPECT u
            then s.get .CHK_STAT_MISMATCHES u else satAdd 16 (s.get .CHK_STAT_MISMATCHES u) 1)
        ∧ TouchesAt u [.CHK_RESULT, .CHK_RESULT_ID, .CHK_HAVE, .CHK_STREAK, .CHK_STAT_MISMATCHES, .CHK_EVT] reportFields s t) ∧
    (∀ (data : List Nat) (id : Nat), 2 ≤ s.get .CHK_CTRL_KIND u → s.get .CHK_CTRL_KIND u ≤ 6 →
      ∃ t, exec (.chkResult u data id true) s = .next t ∧ t.get .CHK_EVT u = (s.get .CHK_EVT u ||| 8) % 32
        ∧ TouchesAt u [.CHK_EVT] reportFields s t) ∧
    (s.get .CHK_CTRL_KIND u = 1 → s.get .CHK_STAT_BUSY u = 1 → s.get .CHK_CTRL_COMPARE u = 0 →
      ∃ t, exec (.chkPassDone u false) s = .next t ∧ t.get .CHK_STAT_BUSY u = 0
        ∧ t.get .CHK_RESULT u = chkCrc 1 (s.get .CHK_CTRL_POLY u) 8
            ((Memory.readList s.mem (s.get .CHK_ADDR_LO u + 2 ^ 32 * s.get .CHK_ADDR_HI u) (s.get .CHK_LEN u)).map (·.toNat)) % 2 ^ 32
        ∧ TouchesAt u [.CHK_STAT_BUSY, .CHK_RESULT, .CHK_RESULT_ID, .CHK_HAVE, .CHK_STREAK, .CHK_EVT] reportFields s t) ∧
    (s.get .CHK_CTRL_KIND u = 1 → s.get .CHK_STAT_BUSY u = 1 →
      ∃ t, exec (.chkPassDone u true) s = .next t ∧ t.get .CHK_STAT_BUSY u = 0 ∧ t.get .CHK_STAT_MEM_ERR u = 1
        ∧ t.get .CHK_RESULT u = s.get .CHK_RESULT u
        ∧ TouchesAt u [.CHK_STAT_BUSY, .CHK_STAT_MEM_ERR, .CHK_EVT] reportFields s t)

/-! ### The bus matrix, the host link, interrupts and mailboxes -/

/-- Errors of the matrix (R459, R465, R466, R479): a target that does not answer gives an error response, counted and, as the first
since the count was read, logged; a master's reset amid a burst counts a lost transaction and changes no byte. The host link (R469,
R473, R479, R480): training raises LINK_UP, a retraining and a loss are counted, and each raises source 413; a loss, a hot reset and
D3hot return the endpoint's own state (MSI-X table, pending bits, enables) to reset and leave the rest of the device alone. Where
the spec leaves a point open it follows the model's reading (log entries 19 and 39). -/
def Obligations.BusErrorsAndLinkEvents : Prop :=
  ((∀ (m : Master) (addr : Nat) (write : Bool) (s : State), s.get .BUS_ERR_COUNT = 0 →
    ∃ t, exec (.targetTimeout m addr write) s = .next t ∧ t.busResp = ⟨0, true⟩ ∧ t.get .BUS_ERR_COUNT = 1
      ∧ t.get .BUS_ERR_LOG0 = addr % 2 ^ 32 ∧ t.get .BUS_ERR_LOG1_CAUSE = 6 ∧ t.get .BUS_ERR_LOG1_MASTER = m.busCode % 16
      ∧ t.get .BUS_ERR_LOG1_WRITE = write.toNat ∧ Asserted 408 0 s t ∧ Asserted 410 0 s t
      ∧ Touches ([.BUS_ERR_LOG0, .BUS_ERR_LOG1_MASTER, .BUS_ERR_LOG1_WRITE, .BUS_ERR_LOG1_CAUSE, .BUS_ERR_LOG1_ADDR_HI, .BUS_ERR_COUNT]
          ++ reportFields) s t) ∧
  (∀ (m : Master) (addr : Nat) (write : Bool) (s : State), s.get .BUS_ERR_COUNT ≠ 0 →
    ∃ t, exec (.targetTimeout m addr write) s = .next t ∧ t.busResp = ⟨0, true⟩
      ∧ t.get .BUS_ERR_COUNT = satAdd 32 (s.get .BUS_ERR_COUNT) 1 ∧ Touches (.BUS_ERR_COUNT :: reportFields) s t) ∧
  (∀ (m : Master) (b : Burst) (s : State), s.get .BUS_LOST_COUNT = 0 →
    ∃ t, exec (.masterReset m b) s = .next t ∧ t.get .BUS_LOST_COUNT = 1 ∧ t.get .BUS_LOST_LOG0 = b.addr % 2 ^ 32
      ∧ t.get .BUS_LOST_LOG1_DONE = b.done % 32 ∧ t.mem = s.mem ∧ Asserted 409 0 s t
      ∧ Touches ([.BUS_LOST_LOG0, .BUS_LOST_LOG1_MASTER, .BUS_LOST_LOG1_WRITE, .BUS_LOST_LOG1_LEN, .BUS_LOST_LOG1_DONE,
          .BUS_LOST_LOG1_ADDR_HI, .BUS_LOST_COUNT] ++ reportFields) s t)) ∧
  (∀ s : State,
    (∀ r, ∃ t, exec (.linkTrained r) s = .next t ∧ t.get .BUS_LINK_STAT_LINK_UP = 1 ∧ t.get .BUS_LINK_STAT_REPAIRED = r % 256
      ∧ Asserted 413 0 s t ∧ Touches ([.BUS_LINK_STAT_LINK_UP, .BUS_LINK_STAT_REPAIRED] ++ reportFields) s t) ∧
    (∀ r, ∃ t, exec (.linkRetrain r) s = .next t ∧ t.get .BUS_LINK_COUNT_RETRAINS = satAdd 16 (s.get .BUS_LINK_COUNT_RETRAINS) 1
      ∧ Asserted 413 0 s t ∧ Touches ([.BUS_LINK_COUNT_RETRAINS, .BUS_LINK_STAT_REPAIRED] ++ reportFields) s t) ∧
    (∃ t, exec (.linkDown none) s = .next t ∧ t.get .BUS_LINK_STAT_LINK_UP = 0 ∧ t.get .BUS_LINK_STAT_BME = 0
      ∧ (∀ n < 512, t.get .MSIX_CONTROL_MASK n = 1) ∧ Asserted 413 0 s t
      ∧ Touches ([.MSIX_ADDR_LO, .MSIX_ADDR_HI, .MSIX_DATA, .MSIX_CONTROL_MASK, .MSIX_PENDING, .BUS_LINK_STAT_BME, .BUS_LINK_STAT_MSIX_EN,
          .BUS_LINK_STAT_FUNC_MASK, .BUS_LINK_STAT_DSTATE, .BUS_LINK_COUNT_RETRAINS, .BUS_LINK_STAT_LINK_UP] ++ reportFields) s t) ∧
    (∃ t, exec (.hotReset none) s = .next t ∧ t.get .BUS_LINK_STAT_MSIX_EN = 0
      ∧ (∀ n < 512, t.get .MSIX_CONTROL_MASK n = 1 ∧ t.get .MSIX_PENDING n = 0 ∧ t.get .MSIX_DATA n = 0)
      ∧ Touches [.MSIX_ADDR_LO, .MSIX_ADDR_HI, .MSIX_DATA, .MSIX_CONTROL_MASK, .MSIX_PENDING, .BUS_LINK_STAT_BME, .BUS_LINK_STAT_MSIX_EN,
          .BUS_LINK_STAT_FUNC_MASK, .BUS_LINK_STAT_DSTATE] s t) ∧
    (∀ b : Burst, s.get .BUS_LINK_STAT_LINK_UP = 1 → ∃ t, exec (.d3hotEntry (some b)) s = .next t ∧ t.get .BUS_LINK_STAT_DSTATE = 3
      ∧ t.get .BUS_LOST_COUNT = satAdd 32 (s.get .BUS_LOST_COUNT) 1 ∧ t.mem = s.mem
      ∧ Touches ([.MSIX_ADDR_LO, .MSIX_ADDR_HI, .MSIX_DATA, .MSIX_CONTROL_MASK, .MSIX_PENDING, .BUS_LINK_STAT_BME, .BUS_LINK_STAT_MSIX_EN,
          .BUS_LINK_STAT_FUNC_MASK, .BUS_LINK_STAT_DSTATE, .BUS_LOST_LOG0, .BUS_LOST_LOG1_MASTER, .BUS_LOST_LOG1_WRITE, .BUS_LOST_LOG1_LEN,
          .BUS_LOST_LOG1_DONE, .BUS_LOST_LOG1_ADDR_HI, .BUS_LOST_COUNT] ++ reportFields) s t) ∧
    (∀ n, ∃ t, exec (.replayThreshold n) s = .next t ∧ t.get .BUS_LINK_COUNT_REPLAYS = satAdd 16 (s.get .BUS_LINK_COUNT_REPLAYS) n
      ∧ Asserted 414 0 s t ∧ Touches (.BUS_LINK_COUNT_REPLAYS :: reportFields) s t))

/-- MSI-X and mailboxes (R474 to R478): unmasking a vector whose message is pending sends it; enabling the function sends what is
pending and unmasked; the host's REQ interrupts the steward, and a steward's RSP raises source 415. Where the spec leaves a point
open it follows the model's reading (log entries 35, 36 and 37). -/
def Obligations.InterruptsAndMailboxes : Prop :=
  (∀ (m : Master) (n : Nat) (s : State), n < 512 → Passes m (0x800C + 16 * n) s → s.get .MSIX_PENDING n = 1 →
    s.get .BUS_LINK_STAT_LINK_UP = 1 → s.get .BUS_LINK_STAT_BME = 1 → s.get .BUS_LINK_STAT_MSIX_EN = 1 → s.get .BUS_LINK_STAT_FUNC_MASK = 0 →
    ∃ t, exec (.msixUnmask m n) s = .next t ∧ t.get .MSIX_CONTROL_MASK n = 0 ∧ t.get .MSIX_PENDING n = 0
      ∧ t.out = .msix n (s.get .MSIX_ADDR_LO n + 2 ^ 32 * s.get .MSIX_ADDR_HI n) (s.get .MSIX_DATA n) :: s.out
      ∧ TouchesAt n [.MSIX_CONTROL_MASK, .MSIX_PENDING] [] s t) ∧
  (∀ (n : Nat) (s : State), n < 512 → s.get .BUS_LINK_STAT_LINK_UP = 1 → s.get .MSIX_PENDING n = 1 → s.get .MSIX_CONTROL_MASK n = 0 →
    ∃ t, exec (.configWrite true true false 0) s = .next t ∧ t.get .BUS_LINK_STAT_BME = 1 ∧ t.get .BUS_LINK_STAT_MSIX_EN = 1
      ∧ t.get .BUS_LINK_STAT_FUNC_MASK = 0 ∧ t.get .BUS_LINK_STAT_DSTATE = 0 ∧ t.get .MSIX_PENDING n = 0
      ∧ .msix n (s.get .MSIX_ADDR_LO n + 2 ^ 32 * s.get .MSIX_ADDR_HI n) (s.get .MSIX_DATA n) ∈ t.out
      ∧ Touches [.BUS_LINK_STAT_BME, .BUS_LINK_STAT_MSIX_EN, .BUS_LINK_STAT_FUNC_MASK, .BUS_LINK_STAT_DSTATE, .MSIX_PENDING] s t) ∧
  (∀ (b v : Nat) (s : State), b < 16 → s.handedOver = true → s.get .SEC_POLICY1_FLAGS = 0 → s.confidential = [] →
    s.get .MBX_CTRL_REQ b = 0 →
    ∃ t, exec (.mbxReq .host b v) s = .next t ∧ t.get .MBX_CTRL_REQ b = 1 ∧ t.get .MBX_CTRL_SEQ b = v % 2 ^ 16
      ∧ t.get .MBX_CTRL_STEWARD b = s.get .MBX_CTRL_STEWARD b ∧ t.out = .mailboxIrq (s.get .MBX_CTRL_STEWARD b) b :: s.out
      ∧ TouchesAt b [.MBX_CTRL_REQ, .MBX_CTRL_RSP, .MBX_CTRL_SEQ] [] s t) ∧
  (∀ (n b v : Nat) (s : State), b < 16 → s.get .MBX_CTRL_RSP b = 0 →
    ∃ t, exec (.mbxRsp (.st n) b v) s = .next t ∧ t.get .MBX_CTRL_RSP b = 1 ∧ t.get .MBX_CTRL_SEQ b = v % 2 ^ 16 ∧ Asserted 415 0 s t
      ∧ TouchesAt b [.MBX_CTRL_REQ, .MBX_CTRL_RSP, .MBX_CTRL_SEQ, .MBX_CTRL_STEWARD] reportFields s t)

/-! ### Security, debug and the monitors -/

/-- A nonce read draws a fresh nonce (R537); RELOCK lowers the debug level to None; UNLOCK grants the level asked for, within the
ceiling, where the signature verifies under a permitted signer, uses the nonce up whatever the result, and counts a failure
otherwise (R538, R551). The nonce's words are free values (log entry 4). Where the spec leaves a point open it follows the model's
reading (log entries 5, 32 and 33). -/
def Obligations.UnlockNeedsASignedNonce : Prop :=
  ∀ (m : Master) (slot : Nat) (s : State),
    (regGate m 0x13C0010 4 false s = none → ∃ t, exec (.nonceRead m) s = .next t ∧ t.nonceAt = some s.tick
      ∧ (∀ k < 4, t.get .SEC_NONCE k = Config.nonceWord s.freeCount k % 2 ^ 32) ∧ t.busResp = ⟨Config.nonceWord s.freeCount 0 % 2 ^ 32, false⟩
      ∧ Touches [.SEC_NONCE] { s with freeCount := s.freeCount + 1, nonceAt := some s.tick } t) ∧
    (Passes m 0x13C0020 s → s.get .SEC_RESULT_BUSY = 0 → s.inForce.lifecycle ≤ 3 → s.get .SEC_DBG_LEVEL ≠ 0 →
      ∃ t, exec (.relock m slot) s = .next t ∧ t.get .SEC_DBG_LEVEL = 0 ∧ t.get .SEC_RESULT_REASON = 0 ∧ Asserted 452 0 s t
        ∧ Touches ([.SEC_DBG_LEVEL, .SEC_RESULT_REASON] ++ reportFields) s t) ∧
    (Passes m 0x13C0020 s → s.get .SEC_RESULT_BUSY = 0 → s.get .SEC_DBG_LOCKOUT = 0 → 1 ≤ s.inForce.lifecycle → s.inForce.lifecycle ≤ 3 →
      s.nonceValid = true → s.isPrincipal slot = true → bitsAt (s.get .SEC_ARG) 0 2 ≤ s.debugCeiling →
      ∃ t, exec (.unlock m slot) s = .next t ∧ t.nonceAt = none
        ∧ (if s.signatureVerifies 0x01 slot then t.get .SEC_DBG_LEVEL = bitsAt (s.get .SEC_ARG) 0 2 ∧ t.get .SEC_RESULT_REASON = 0
            ∧ t.get .SEC_RESULT_FAILS = 0
          else t.get .SEC_DBG_LEVEL = s.get .SEC_DBG_LEVEL ∧ t.get .SEC_RESULT_REASON = 0xD0
            ∧ t.get .SEC_RESULT_FAILS = satAdd 8 (s.get .SEC_RESULT_FAILS) 1 ∧ Asserted 453 0 s t)
        ∧ Touches ([.SEC_DBG_LEVEL, .SEC_RESULT_REASON, .SEC_RESULT_FAILS, .SEC_DBG_LOCKOUT] ++ refuseFields ++ reportFields)
            { s with nonceAt := none } t)

/-- The lifecycle (R534, R538, R539): PROVISION fuses the keys of a blank part and opens Provisioned; DEPLOY and RETURN, signed by an
unrevoked owner, open Deployed and Returned, RETURN destroying the image key; each waits for the next reset and lowers the debug
level to None at once. Revocation and the floor (R538): a signed command of another unrevoked signer revokes a slot, unless it would
be the last one (0xD8), and raises the security-version floor, never lowers it (0xD9). Where the spec leaves a point open it follows
the model's reading (log entries 5, 32 and 34). -/
def Obligations.LifecycleRevocationAndFloor : Prop :=
  (∀ (m : Master) (slot : Nat) (s : State), Passes m 0x13C0020 s → s.get .SEC_RESULT_BUSY = 0 →
    (s.inForce.lifecycle = 0 → (∃ i < 4, emptyKey (s.provBytes (24 * i) 24) = false) → (∃ i < 2, emptyKey (s.provBytes (96 + 24 * i) 24) = false) →
      ∃ t, exec (.provision m slot) s = .next t ∧ t.fuses.lifecycle = max s.fuses.lifecycle 1 ∧ t.inForce = s.inForce
        ∧ t.get .SEC_DBG_LEVEL = 0 ∧ t.get .SEC_RESULT_REASON = 0
        ∧ (s.fuses.ownerKeys = [] → t.fuses.ownerKeys = (List.range 4).map (fun i => s.provBytes (24 * i) 24))
        ∧ (s.fuses.safetyKeys = [] → t.fuses.safetyKeys = (List.range 2).map (fun i => s.provBytes (96 + 24 * i) 24))
        ∧ Touches ([.SEC_DBG_LEVEL, .SEC_RESULT_REASON] ++ reportFields) { s with fuses := t.fuses } t) ∧
    (s.get .SEC_DBG_LOCKOUT = 0 → s.nonceValid = true → s.isOwner slot = true → s.inForce.lifecycle = 1 →
      ∃ t, exec (.deploy m slot) s = .next t ∧ t.nonceAt = none ∧ t.inForce = s.inForce
        ∧ t.fuses = (if s.signatureVerifies 0x11 slot then { s.fuses with lifecycle := max s.fuses.lifecycle 2 } else s.fuses)
        ∧ t.get .SEC_DBG_LEVEL = (if s.signatureVerifies 0x11 slot then 0 else s.get .SEC_DBG_LEVEL)
        ∧ t.get .SEC_RESULT_REASON = (if s.signatureVerifies 0x11 slot then 0 else 0xD0)
        ∧ Touches ([.SEC_DBG_LEVEL, .SEC_RESULT_REASON, .SEC_RESULT_FAILS, .SEC_DBG_LOCKOUT] ++ refuseFields ++ reportFields)
            { s with fuses := t.fuses, nonceAt := none } t) ∧
    (s.get .SEC_DBG_LOCKOUT = 0 → s.nonceValid = true → s.isOwner slot = true → (s.inForce.lifecycle = 1 ∨ s.inForce.lifecycle = 2) →
      ∃ t, exec (.secReturn m slot) s = .next t ∧ t.nonceAt = none ∧ t.inForce = s.inForce
        ∧ t.fuses = (if s.signatureVerifies 0x12 slot then
            { s.fuses with lifecycle := max s.fuses.lifecycle 3, imageKey := List.replicate 32 0xFF, keyDestroyed := true } else s.fuses)
        ∧ t.get .SEC_DBG_LEVEL = (if s.signatureVerifies 0x12 slot then 0 else s.get .SEC_DBG_LEVEL)
        ∧ t.get .SEC_RESULT_REASON = (if s.signatureVerifies 0x12 slot then 0 else 0xD0)
        ∧ Touches ([.SEC_DBG_LEVEL, .SEC_RESULT_REASON, .SEC_RESULT_FAILS, .SEC_DBG_LOCKOUT] ++ refuseFields ++ reportFields)
            { s with fuses := t.fuses, nonceAt := none } t)) ∧
  (∀ (m : Master) (slot : Nat) (s : State), Passes m 0x13C0020 s → s.get .SEC_RESULT_BUSY = 0 → s.get .SEC_DBG_LOCKOUT = 0 →
    s.nonceValid = true → (s.inForce.lifecycle = 1 ∨ s.inForce.lifecycle = 2) →
    (s.isOwner slot = true → slot ≠ bitsAt (s.get .SEC_ARG) 0 2 →
      ∃ t, exec (.revokeOwner m slot) s = .next t ∧ t.nonceAt = none
        ∧ t.fuses = (if s.signatureVerifies 0x20 slot ∧ s.fuses.ownerRevoked ||| 2 ^ bitsAt (s.get .SEC_ARG) 0 2 ≠ 15 then
            { s.fuses with ownerRevoked := s.fuses.ownerRevoked ||| 2 ^ bitsAt (s.get .SEC_ARG) 0 2 } else s.fuses)
        ∧ t.get .SEC_RESULT_REASON = (if !s.signatureVerifies 0x20 slot then 0xD0
            else if s.fuses.ownerRevoked ||| 2 ^ bitsAt (s.get .SEC_ARG) 0 2 = 15 then 0xD8 else 0)
        ∧ Touches ([.SEC_DBG_LEVEL, .SEC_RESULT_REASON, .SEC_RESULT_FAILS, .SEC_DBG_LOCKOUT] ++ refuseFields ++ reportFields)
            { s with fuses := t.fuses, nonceAt := none } t) ∧
    (s.isSafetyOwner slot = true → slot ≠ 0x10 + bitsAt (s.get .SEC_ARG) 0 1 →
      ∃ t, exec (.revokeSafety m slot) s = .next t ∧ t.nonceAt = none
        ∧ t.fuses = (if s.signatureVerifies 0x21 slot ∧ s.fuses.safetyRevoked ||| 2 ^ bitsAt (s.get .SEC_ARG) 0 1 ≠ 3 then
            { s.fuses with safetyRevoked := s.fuses.safetyRevoked ||| 2 ^ bitsAt (s.get .SEC_ARG) 0 1 } else s.fuses)
        ∧ t.get .SEC_RESULT_REASON = (if !s.signatureVerifies 0x21 slot then 0xD0
            else if s.fuses.safetyRevoked ||| 2 ^ bitsAt (s.get .SEC_ARG) 0 1 = 3 then 0xD8 else 0)
        ∧ Touches ([.SEC_DBG_LEVEL, .SEC_RESULT_REASON, .SEC_RESULT_FAILS, .SEC_DBG_LOCKOUT] ++ refuseFields ++ reportFields)
            { s with fuses := t.fuses, nonceAt := none } t) ∧
    (s.isOwner slot = true →
      ∃ t, exec (.raiseFloor m slot) s = .next t ∧ t.nonceAt = none
        ∧ t.fuses = (if s.signatureVerifies 0x22 slot ∧ s.fuses.floor < bitsAt (s.get .SEC_ARG) 0 7 ∧ bitsAt (s.get .SEC_ARG) 0 7 ≤ 64 then
            { s.fuses with floor := bitsAt (s.get .SEC_ARG) 0 7 } else s.fuses)
        ∧ t.get .SEC_RESULT_REASON = (if !s.signatureVerifies 0x22 slot then 0xD0
            else if s.fuses.floor < bitsAt (s.get .SEC_ARG) 0 7 ∧ bitsAt (s.get .SEC_ARG) 0 7 ≤ 64 then 0 else 0xD9)
        ∧ Touches ([.SEC_DBG_LEVEL, .SEC_RESULT_REASON, .SEC_RESULT_FAILS, .SEC_DBG_LOCKOUT] ++ refuseFields ++ reportFields)
            { s with fuses := t.fuses, nonceAt := none } t))

/-- The monitors and the JTAG port (R549, R550, R554): a reading is shown with its warning and critical bits, a first warning raises
source 450 once and a critical reading that stood is fatal; a clock that fails is fatal, and so is a supply, which also gives up a
wait for the claim; the port takes an instruction beyond its grant as BYPASS. Where the spec leaves a point open it follows the
model's reading (log entry 20). -/
def Obligations.MonitorsAndJtag : Prop :=
  ∀ s : State,
    (∀ t : Int, (s.get .PWR_TEMP_WARN_LIMIT : Int) * 128 ≤ t → s.get .TEMP_RAISED = 0 →
      ∃ u, exec (.tempWarning t) s = .next u ∧ u.get .PWR_TEMP_TEMP = ofSigned 16 t % 2 ^ 16 ∧ u.get .PWR_TEMP_WARN = 1
        ∧ Asserted 450 0 s u ∧ Touches ([.PWR_TEMP_TEMP, .PWR_TEMP_WARN, .PWR_TEMP_CRIT, .TEMP_RAISED] ++ reportFields) s u) ∧
    (∀ t : Int, 110 * 128 ≤ t → ∃ u, exec (.tempCritical t) s = .next u ∧ u.get .PWR_TEMP_CRIT = 1 ∧ Asserted 451 3 s u
      ∧ Touches ([.PWR_TEMP_TEMP, .PWR_TEMP_WARN, .PWR_TEMP_CRIT, .TEMP_RAISED] ++ reportFields) s u) ∧
    (∀ d : Nat, d < 8 → d ≠ 0 → ∃ u, exec (.clockMonitor d) s = .next u ∧ u.get .PWR_MON_CLOCK = (s.get .PWR_MON_CLOCK ||| d) % 8
      ∧ Asserted 455 3 s u ∧ Touches (.PWR_MON_CLOCK :: reportFields) s u) ∧
    (∀ r < 8, s.get .TWN_STAT_CLAIM = 0 → ∃ u, exec (.supplyOutOfRange r) s = .next u
      ∧ u.get .PWR_MON_RAIL = (s.get .PWR_MON_RAIL ||| 2 ^ r) % 256 ∧ u.get .TWN_WANT = 0 ∧ Asserted 449 3 s u
      ∧ Touches ([.PWR_MON_RAIL, .TWN_WANT] ++ reportFields) s u) ∧
    (∀ i : JtagIns, exec (.jtagInstruction i) s = .next { s with jtag :=
      (match i with
        | .idcode => .idcode
        | .samplePreload => if 1 ≤ s.debugLevel then .samplePreload else .bypass
        | .extest => if s.debugLevel = 3 ∧ (s.get .PWR_STAT_STATE = 1 ∨ s.get .PWR_STAT_STATE = 4) then .extest else .bypass
        | .extestPulse => if s.debugLevel = 3 ∧ (s.get .PWR_STAT_STATE = 1 ∨ s.get .PWR_STAT_STATE = 4) then .extestPulse else .bypass
        | .extestTrain => if s.debugLevel = 3 ∧ (s.get .PWR_STAT_STATE = 1 ∨ s.get .PWR_STAT_STATE = 4) then .extestTrain else .bypass
        | _ => .bypass) })

/-! ### Accesses, units and their checks -/

/-- A write of memory lands byte by byte, the low-order byte first (R12), and touches no other byte; a write of a register without
effect of its own follows the access codes (R15): RW takes the bits, RWL takes them while the unit's enable bit is 0, RO, RC and WO
keep what they hold, W1S sets, W1C clears but for bits that hardware sets in the same cycle (R16); one with a reserved value in an
RW field is refused with 0x04 and changes nothing (R598); one where no register is gets an error response of cause 0 (R459). An
aligned write of two words to register space acts as a burst of 32-bit writes in ascending order, and a write that would cross a 4
KiB boundary is split there (R460; log entry 131). Where the spec leaves a point open it follows the model's reading (log entries
16, 19 and 21). -/
def Obligations.WritesFollowTheAccessCodes : Prop :=
  ∀ (m : Master) (addr size v hw : Nat) (s : State),
    (∀ o, s.target m addr = .sram o → size ≤ 0x1000 - addr % 0x1000 → s.memGate m addr size true = none → s.queueAt o = none →
      ∃ t, exec (.registerWrite m addr size v hw) s = .next t ∧ t.busResp = ⟨0, false⟩
        ∧ (∀ i < size, Memory.read (o + i) t.mem = BitVec.ofNat 8 (v / 256 ^ i))
        ∧ (∀ a, (a < o ∨ o + size ≤ a) → Memory.read a t.mem = Memory.read a s.mem) ∧ Touches [] { s with mem := t.mem } t) ∧
    (∀ (off : Nat) (r : RegRef), s.target m addr = .register off → debugBarred m off s = false → regGate m off size true s = none →
      lookupReg off = some r → s.blankEntry r = false → r.desc.flds.contains .UNIT_EN = false →
      (∀ f ∈ r.desc.flds, triggers.any (fun x => x.1 == f) = false) →
      (reservedValue r v = false →
        ∃ t, exec (.registerWrite m addr size v hw) s = .next t ∧ t.busResp = ⟨0, false⟩
          ∧ (∀ f ∈ r.desc.flds, t.get f (r.fieldIdx f) =
              (match f.info.acc with
                | .RW => fieldOf f v
                | .RWL => if r.unitCode.any (fun u => s.flag .UNIT_EN u) then s.get f (r.fieldIdx f) else fieldOf f v
                | .W1S => s.get f (r.fieldIdx f) ||| fieldOf f v
                | .W1C => (s.get f (r.fieldIdx f) &&& (fieldOf f v ^^^ (2 ^ f.info.w - 1))) ||| fieldOf f hw
                | .RO | .WO | .RC => s.get f (r.fieldIdx f)) % 2 ^ f.info.w)
          ∧ Touches r.desc.flds s t) ∧
      (reservedValue r v = true →
        ∃ t, exec (.registerWrite m addr size v hw) s = .next t ∧ Refused 0x04 (wordOf off) m s t
          ∧ Touches (refuseFields ++ reportFields) s t)) ∧
    (∀ off : Nat, s.target m addr = .register off → debugBarred m off s = false → regGate m off size true s = none →
      lookupReg off = none → inDspBlock off = false → s.get .BUS_ERR_COUNT = 0 →
      ∃ t, exec (.registerWrite m addr size v hw) s = .next t ∧ t.busResp = ⟨0, true⟩ ∧ t.get .BUS_ERR_COUNT = 1
        ∧ t.get .BUS_ERR_LOG0 = (barBase + off) % 2 ^ 32 ∧ t.get .BUS_ERR_LOG1_CAUSE = 0 ∧ t.get .BUS_ERR_LOG1_MASTER = m.busCode % 16
        ∧ Asserted 408 0 s t
        ∧ Touches ([.BUS_ERR_LOG0, .BUS_ERR_LOG1_MASTER, .BUS_ERR_LOG1_WRITE, .BUS_ERR_LOG1_CAUSE, .BUS_ERR_LOG1_ADDR_HI, .BUS_ERR_COUNT]
            ++ reportFields) s t) ∧
    (∀ off : Nat, s.target m addr = .register off → addr % 4 = 0 → addr % 0x1000 ≤ 0xFF8 →
      ∃ t u, exec (.registerWrite m addr 4 (v % 2 ^ 32) hw) s = .next t
        ∧ exec (.registerWrite m (addr + 4) 4 (v / 2 ^ 32 % 2 ^ 32) 0) t = .next u ∧ exec (.registerWrite m addr 8 v hw) s = .next u) ∧
    (addr % 0x1000 = 0xFFE → ∃ t u, exec (.registerWrite m addr 2 (v % 2 ^ 16) hw) s = .next t
      ∧ exec (.registerWrite m (addr + 2) 2 (v / 2 ^ 16) 0) t = .next u ∧ exec (.registerWrite m addr 4 v hw) s = .next u)

/-- A read returns what the register shows and clears its RC fields, but for the bits that hardware sets in the same cycle (R15, R16); a
read of memory returns its bytes, the low-order byte first (R12), corrected by SECDED or, with two wrong bits, an error (R468).
Where the spec leaves a point open it follows the model's reading (log entries 16, 19 and 131). -/
def Obligations.ReadsClearAndReturn : Prop :=
  ∀ (m : Master) (addr size hw : Nat) (s : State),
    (∀ (off : Nat) (r : RegRef) (ecc : EccOutcome), s.target m addr = .register off → debugBarred m off s = false →
      regGate m off size false s = none → lookupReg off = some r → s.blankEntry r = false →
      (∀ f ∈ r.desc.flds, readTriggers.any (fun x => x.1 == f) = false ∧ f ≠ .SEC_NONCE) →
      ∃ t, exec (.readToClear m addr size hw ecc) s = .next t ∧ t.busResp = ⟨s.shownWord m r, false⟩
        ∧ (∀ f ∈ r.desc.flds, t.get f (r.fieldIdx f) = (if f.info.acc = .RC then fieldOf f hw % 2 ^ f.info.w else s.get f (r.fieldIdx f)))
        ∧ Touches r.desc.flds s t) ∧
    (∀ o : Nat, s.target m addr = .sram o → size ≤ 0x1000 - addr % 0x1000 → s.memGate m addr size false = none →
      (∃ t, exec (.readToClear m addr size hw .clean) s = .next t ∧ t.busResp = ⟨leNat (Memory.readList s.mem o size), false⟩
        ∧ t.mem = s.mem ∧ Touches [] s t) ∧
      (∃ t, exec (.readToClear m addr size hw .corrected) s = .next t ∧ t.busResp = ⟨leNat (Memory.readList s.mem o size), false⟩
        ∧ t.get .BUS_SRAM_ECC_COR = satAdd 16 (s.get .BUS_SRAM_ECC_COR) 1 ∧ Asserted 411 0 s t
        ∧ Touches (.BUS_SRAM_ECC_COR :: reportFields) s t) ∧
      (∃ t, exec (.readToClear m addr size hw .uncorrectable) s = .next t ∧ t.busResp.err = true
        ∧ t.get .BUS_SRAM_ECC_UNCOR = satAdd 16 (s.get .BUS_SRAM_ECC_UNCOR) 1 ∧ t.get .BUS_SRAM_ADDR = o % 2 ^ 32 ∧ Asserted 412 2 s t
        ∧ Touches ([.BUS_SRAM_ECC_UNCOR, .BUS_SRAM_ADDR] ++ reportFields) s t))

/-- A unit starts only by its check (R17, R75, R76): ENABLE_SET on a disabled unit sets its enable bit and begins the check; the check
that finds every condition met enables the unit; one that ends with a code clears the bit, records the code and a refusal that names
the unit's control register and the master whose write began it. An enable of a unit that the part does not have gets an error
response and is refused with 0x01 (R7). A write of 0 to the enable bit (R17, R76): during the check it ends the check with 0x07;
otherwise the unit stops, unless its chapter has it ignored, with a refusal (R204, R281, R329, R376, R532, R575), and the bit stays
1. Where the spec leaves a point open it follows the model's reading (log entries 20, 22, 23, 24, 96 and 103). -/
def Obligations.UnitsStartAndStopByTheirRules : Prop :=
  (∀ (u : UnitId) (s : State), unitValid u = true →
    (∀ (m : Master) (v : Nat) (r : RegRef), Passes m (ctrlOff u) s → s.get .UNIT_EN u.code = 0 → lookupReg (ctrlOff u) = some r →
      reservedValue r (v ||| 1) = false →
      ∃ t, exec (.enableSet m u v) s = .next t ∧ t.get .UNIT_EN u.code = 1 ∧ t.get .CHECK_BUSY u.code = 1
        ∧ t.get .CHECK_ENABLED u.code = s.get .CHECK_ENABLED u.code
        ∧ (∀ f ∈ r.desc.flds, f ≠ .UNIT_EN → f.info.acc = .RWL ∨ f.info.acc = .RW → t.get f (r.fieldIdx f) = fieldOf f (v ||| 1) % 2 ^ f.info.w)
        ∧ Touches ([.UNIT_EN, .CHECK_BUSY, .CHECK_MASTER] ++ r.desc.flds) s t) ∧
    (∀ (m : Master) (v : Nat), regGate m (ctrlOff u) 4 true s = some 1 →
      ∃ t, exec (.enableSet m u v) s = .next t ∧ t.busResp = ⟨0, true⟩ ∧ t.get .GEN_REFUSE_LOG0_REASON = 1
        ∧ t.get .GEN_REFUSE_LOG0_WORD = wordOf (ctrlOff u)
        ∧ Touches ([.BUS_ERR_LOG0, .BUS_ERR_LOG1_MASTER, .BUS_ERR_LOG1_WRITE, .BUS_ERR_LOG1_CAUSE, .BUS_ERR_LOG1_ADDR_HI, .BUS_ERR_COUNT]
            ++ refuseFields ++ reportFields) s t) ∧
    (∀ c : CheckIn, s.get .UNIT_EN u.code = 1 → s.get .CHECK_BUSY u.code = 1 → s.checkCode u c = 0 →
      ∃ t, exec (.checkComplete u c) s = .next t ∧ t.get .CHECK_ENABLED u.code = 1 ∧ t.get .UNIT_EN u.code = 1
        ∧ t.get .CHECK_BUSY u.code = 0 ∧ t.get .CHECK_LAST_REASON u.code = 0
        ∧ (u.kind ∈ [.mzc, .pkt, .tb, .cmp] → Touches [.CHECK_BUSY, .CHECK_ENABLED, .CHECK_LAST_REASON] s t)
        ∧ (u.kind = .queue → t.get .PKT_Q_PTR_PROD u.idx = 0 ∧ t.get .PKT_Q_PTR_CONS u.idx = 0
          ∧ Touches [.CHECK_BUSY, .CHECK_ENABLED, .CHECK_LAST_REASON, .PKT_Q_PTR_PROD, .PKT_Q_PTR_CONS, .PKT_Q_STAT_FLUSHING,
              .PKT_Q_ITEM_ECC] s t)) ∧
    (∀ c : CheckIn, s.get .UNIT_EN u.code = 1 → s.get .CHECK_BUSY u.code = 1 → s.checkCode u c ≠ 0 → s.checkCode u c ≠ 0x0E →
      ∃ t, exec (.checkComplete u c) s = .next t ∧ t.get .UNIT_EN u.code = 0 ∧ t.get .CHECK_BUSY u.code = 0
        ∧ t.get .CHECK_LAST_REASON u.code = s.checkCode u c % 256
        ∧ t.get .CHECK_REFUSALS u.code = satAdd 8 (s.get .CHECK_REFUSALS u.code) 1
        ∧ Refused (s.checkCode u c % 256) (wordOf (ctrlOff u)) (masterOf (s.get .CHECK_MASTER u.code)) s t
        ∧ Touches ([.UNIT_EN, .CHECK_BUSY, .CHECK_REFUSALS, .CHECK_LAST_REASON] ++ refuseFields ++ reportFields) s t)) ∧
  (∀ (m : Master) (u : UnitId) (v : Nat) (r : RegRef) (s : State), unitValid u = true → Passes m (ctrlOff u) s → s.get .UNIT_EN u.code = 1 →
    lookupReg (ctrlOff u) = some r → reservedValue r (v / 2 * 2) = false →
    (s.get .CHECK_BUSY u.code = 1 →
      ∃ t, exec (.checkAbort m u v) s = .next t ∧ t.get .UNIT_EN u.code = 0 ∧ t.get .CHECK_BUSY u.code = 0
        ∧ t.get .CHECK_LAST_REASON u.code = 7 ∧ t.get .CHECK_ENABLED u.code = s.get .CHECK_ENABLED u.code
        ∧ Refused 0x07 (wordOf (ctrlOff u)) m s t
        ∧ Touches ([.UNIT_EN, .CHECK_BUSY, .CHECK_REFUSALS, .CHECK_LAST_REASON] ++ r.desc.flds ++ refuseFields ++ reportFields) s t) ∧
    (s.get .CHECK_BUSY u.code = 0 → s.clearVeto u = 0 → (u.kind = .dest → s.commitOf u.idx = none) →
      ∃ t, exec (.enableClear m u v) s = .next t ∧ t.get .UNIT_EN u.code = 0 ∧ t.get .CHECK_ENABLED u.code = 0
        ∧ t.get .CHECK_REFUSALS u.code = s.get .CHECK_REFUSALS u.code
        ∧ (u.kind ∈ [.pkt, .tb, .cap, .cmp, .field] → Touches ([.UNIT_EN, .CHECK_ENABLED] ++ r.desc.flds) s t)) ∧
    (s.get .CHECK_BUSY u.code = 0 → s.clearVeto u ≠ 0 →
      ∃ t, exec (.enableClear m u v) s = .next t ∧ t.get .UNIT_EN u.code = 1 ∧ t.get .CHECK_ENABLED u.code = s.get .CHECK_ENABLED u.code
        ∧ Refused (s.clearVeto u % 256) (wordOf (ctrlOff u)) m s t ∧ Touches (r.desc.flds ++ refuseFields ++ reportFields) s t))

/-! ### The gazetteer -/

/-- Staging and publication (R40, R41, R43): a write of words 1 to 7 of a home entry goes to its staging copy; a write of word 0 moves
the staged words into the entry and raises its generation, and marks it to be sent; a write to another entry is ignored and counted.
A changed entry goes to every peer (R42). Entries and digests of the peers (R42, R45, R46): a newer entry replaces the copy, an
older one does not, and a home entry is never taken from a peer; a digest that agrees ends staleness, one that differs asks the peer
for its 192 entries and raises source 196. That an event whose condition does not hold changes nothing is DEDUCED (log entry 2).
Where the spec leaves a point open it follows the model's reading (log entries 42 and 102). -/
def Obligations.GazetteerPublishesAndFollows : Prop :=
  (∀ (n : Nat) (s : State), n < 2304 →
    (∀ (m : Master) (w v : Nat), 1 ≤ w → w ≤ 7 → Passes m (gazOff n w) s →
      (s.gazForeign n = false → ∃ t, exec (.gazStageWrite m n w v) s = .next t ∧ t.get .GAZ_STAGE (8 * n + w) = v % 2 ^ 32
        ∧ t.get .GAZ_STAGED n = (s.get .GAZ_STAGED n ||| 2 ^ w) % 2 ^ 8 ∧ Touches [.GAZ_STAGE, .GAZ_STAGED] s t
        ∧ (∀ i, i ≠ 8 * n + w → t.get .GAZ_STAGE i = s.get .GAZ_STAGE i) ∧ (∀ j, j ≠ n → t.get .GAZ_STAGED j = s.get .GAZ_STAGED j)) ∧
      (s.gazForeign n = true → ∃ t, exec (.gazStageWrite m n w v) s = .next t
        ∧ t.get .ATL_GAZ_STAT_FOREIGN_WR = satAdd 8 (s.get .ATL_GAZ_STAT_FOREIGN_WR) 1 ∧ Touches [.ATL_GAZ_STAT_FOREIGN_WR] s t)) ∧
    (∀ (m : Master) (v : Nat), Passes m (gazOff n 0) s →
      (s.gazForeign n = false → ∃ t, exec (.gazPublish m n v) s = .next t ∧ t.get .GAZ_W0_VALID n = bitsAt v 31 1
        ∧ t.get .GAZ_W1_GENERATION n = (s.get .GAZ_W1_GENERATION n + 1) % 2 ^ 16 ∧ t.get .GAZ_STAGED n = 0 ∧ t.get .GAZ_DIRTY n = 3
        ∧ t.get .GAZ_W1_FORMAT n = (if bitsAt (s.get .GAZ_STAGED n) 1 1 = 1 then bitsAt (s.get .GAZ_STAGE (8 * n + 1)) 8 8 else s.get .GAZ_W1_FORMAT n)
        ∧ t.get .GAZ_LABEL0 n = (if bitsAt (s.get .GAZ_STAGED n) 4 1 = 1 then s.get .GAZ_STAGE (8 * n + 4) % 2 ^ 32 else s.get .GAZ_LABEL0 n)
        ∧ t.get .GAZ_LABEL3 n = (if bitsAt (s.get .GAZ_STAGED n) 7 1 = 1 then s.get .GAZ_STAGE (8 * n + 7) % 2 ^ 32 else s.get .GAZ_LABEL3 n)
        ∧ (n < 1152 → t.get .GAZ_RATE n = (if bitsAt (s.get .GAZ_STAGED n) 2 1 = 1 then s.get .GAZ_STAGE (8 * n + 2) % 2 ^ 32 else s.get .GAZ_RATE n))
        ∧ TouchesAt n [.GAZ_W0_VALID, .GAZ_W1_GENERATION, .GAZ_W1_FORMAT, .GAZ_W1_DEPTH, .GAZ_W1_SCALE, .GAZ_RATE, .GAZ_ANC_RATE, .GAZ_LABEL0,
            .GAZ_LABEL1, .GAZ_LABEL2, .GAZ_LABEL3, .GAZ_STAGED, .GAZ_DIRTY]
            ([.ATL_IN_STAT_STORE_SHORT, .ATL_IN_STAT_FMT_ERR, .ATL_IN_STAT_LOST, .IN_GOOD] ++ reportFields) s t) ∧
      (s.gazForeign n = true → ∃ t, exec (.gazPublish m n v) s = .next t
        ∧ t.get .ATL_GAZ_STAT_FOREIGN_WR = satAdd 8 (s.get .ATL_GAZ_STAT_FOREIGN_WR) 1 ∧ Touches [.ATL_GAZ_STAT_FOREIGN_WR] s t)) ∧
    (s.homeEntry n = true → s.get .GAZ_DIRTY n ≠ 0 →
      ∃ t, exec (.gazEntrySend n) s = .next t ∧ t.get .GAZ_DIRTY n = 0
        ∧ (∀ p < 11, s.fabSends = true → s.portUp p = true →
            controlOut p (s.get .FAB_CTL_SEQ p) (s.peerPos p) (.gazEntry (s.gazEntry n) false) ∈ t.out)
        ∧ TouchesAt n [.GAZ_DIRTY] [.FAB_CTL_SEQ, .TWN_TX_SEQ] s t ∧ exec (.gazEntrySend n) t = .next t)) ∧
  (∀ s : State,
    (∀ e : GazEntry, s.running .fabric = true → e.n < 2304 → s.homeEntry e.n = false →
      newerThan (bitsAt ((e.words[1]?).getD 0) 16 16) (s.get .GAZ_W1_GENERATION e.n) = true →
      ∃ t, exec (.gazEntry e false) s = .next t ∧ t.get .GAZ_W0_VALID e.n = bitsAt ((e.words[0]?).getD 0) 31 1
        ∧ t.get .GAZ_W1_GENERATION e.n = bitsAt ((e.words[1]?).getD 0) 16 16
        ∧ t.get .GAZ_W1_FORMAT e.n = bitsAt ((e.words[1]?).getD 0) 8 8 ∧ t.get .GAZ_RATE e.n = (e.words[2]?).getD 0 % 2 ^ 32
        ∧ t.get .GAZ_LABEL3 e.n = (e.words[7]?).getD 0 % 2 ^ 32
        ∧ TouchesAt e.n [.GAZ_W0_VALID, .GAZ_W1_GENERATION, .GAZ_W1_FORMAT, .GAZ_W1_DEPTH, .GAZ_W1_SCALE, .GAZ_RATE, .GAZ_ANC_RATE, .GAZ_LABEL0,
            .GAZ_LABEL1, .GAZ_LABEL2, .GAZ_LABEL3] [] s t) ∧
    (∀ (e : GazEntry) (r : Bool), s.homeEntry e.n = true → exec (.gazEntry e r) s = .next s) ∧
    (s.positioned = true →
      ∃ t, exec .gazDigestSend s = .next t ∧ Touches [.FAB_CTL_SEQ] s t
        ∧ ∀ p < 11, s.fabSends = true → s.portUp p = true →
            controlOut p (s.get .FAB_CTL_SEQ p) (s.peerPos p) (.gazDigest (s.digestOf s.position)) ∈ t.out) ∧
    (∀ p < 11, s.running .fabric = true → s.get .FAB_PORT_STAT_LOST p = 0 →
      (∃ t, exec (.gazDigest p (s.digestOf (s.peerPos p))) s = .next t
        ∧ bitsAt (t.get .ATL_GAZ_STAT_STALE) (s.peerPos p) 1 = 0 ∧ (∀ n ∈ entriesOf (s.peerPos p), t.get .GAZ_W0_STALE n = 0)
        ∧ Touches [.ATL_GAZ_STAT_STALE, .GAZ_W0_STALE] s t) ∧
      (∀ d, d ≠ s.digestOf (s.peerPos p) → s.mismatch (s.peerPos p) = false →
        ∃ t, exec (.gazDigest p d) s = .next t ∧ t.mismatch (s.peerPos p) = true ∧ Asserted 196 0 s t
          ∧ t.gazFetch = (s.peerPos p, []) :: s.gazFetch
          ∧ (s.fabSends = true → s.portUp p = true → controlOut p (s.get .FAB_CTL_SEQ p) (s.peerPos p) .gazFetch ∈ t.out)
          ∧ Touches ([.ATL_GAZ_STAT_MISMATCH, .FAB_CTL_SEQ] ++ reportFields) { s with gazFetch := t.gazFetch } t)) ∧
    (∀ p < 11, s.running .fabric = true → s.positioned = true → s.fabSends = true → s.portUp p = true →
      ∃ t, exec (.gazFetch p) s = .next t ∧ TouchesAt p [.FAB_CTL_SEQ] [] s t
        ∧ ∀ n ∈ entriesOf s.position, ∃ q, controlOut p q (s.peerPos p) (.gazEntry (s.gazEntry n) true) ∈ t.out) ∧
    (∀ p < 11, s.mismatch (s.peerPos p) = true → s.get .FAB_PORT_STAT_LOST p = 0 → s.fabSends = true → s.portUp p = true →
      ∃ t, exec (.gazFetchRetry p) s = .next t ∧ t.out = controlOut p (s.get .FAB_CTL_SEQ p) (s.peerPos p) .gazFetch :: s.out
        ∧ t.get .FAB_CTL_SEQ p = (s.get .FAB_CTL_SEQ p + 1) % 2 ^ 8 ∧ TouchesAt p [.FAB_CTL_SEQ] [] s t))

/-! ### Hardware queues -/

/-- Pointer writes (R250, R254): accepted from the agent that the descriptor names, with the current GEN, of no more than the queue has
room for (or holds), they advance the pointer modulo twice the size; anything else is refused with 0x6E, 0x6A, 0x6B or 0x6C and
moves nothing. Where the spec leaves a point open it follows the model's reading (log entry 20). -/
def Obligations.QueuePointersAreChecked : Prop :=
  ∀ (m : Master) (q v : Nat) (s : State), q < 65536 →
    (Passes m (queueOff q 2) s →
      (s.get .PKT_Q_PROD_AGENT q = queueAgentOf m → bitsAt v 25 7 = s.get .PKT_Q_PTR_GEN q → s.get .PKT_Q_STAT_FLUSHING q = 0 →
        s.qOccupancy q + s.qDelta q (s.get .PKT_Q_PTR_PROD q) (bitsAt v 0 25) ≤ s.qSize q →
        ∃ t, exec (.pktQProd m q v) s = .next t
          ∧ t.get .PKT_Q_PTR_PROD q = s.qAdvance q (s.get .PKT_Q_PTR_PROD q) (s.qDelta q (s.get .PKT_Q_PTR_PROD q) (bitsAt v 0 25)) % 2 ^ 25
          ∧ TouchesAt q [.PKT_Q_PTR_PROD, .PKT_Q_STAT_WMARK_C] (.PKT_Q_PENDING :: reportFields) s t) ∧
      (s.get .PKT_Q_PROD_AGENT q ≠ queueAgentOf m →
        ∃ t, exec (.pktQProd m q v) s = .next t ∧ Refused 0x6E (wordOf (queueOff q 2)) m s t ∧ Touches (refuseFields ++ reportFields) s t) ∧
      (s.get .PKT_Q_PROD_AGENT q = queueAgentOf m → bitsAt v 25 7 ≠ s.get .PKT_Q_PTR_GEN q →
        ∃ t, exec (.pktQProd m q v) s = .next t ∧ Refused 0x6A (wordOf (queueOff q 2)) m s t ∧ Touches (refuseFields ++ reportFields) s t) ∧
      (s.get .PKT_Q_PROD_AGENT q = queueAgentOf m → bitsAt v 25 7 = s.get .PKT_Q_PTR_GEN q →
        (s.get .PKT_Q_STAT_FLUSHING q = 1 ∨ s.qSize q < s.qOccupancy q + s.qDelta q (s.get .PKT_Q_PTR_PROD q) (bitsAt v 0 25)) →
        ∃ t, exec (.pktQProd m q v) s = .next t ∧ Refused 0x6B (wordOf (queueOff q 2)) m s t ∧ Touches (refuseFields ++ reportFields) s t)) ∧
    (Passes m (queueOff q 3) s → s.get .PKT_Q_CONS_AGENT q ≠ queueAgentOf m →
      ∃ t, exec (.pktQCons m q v) s = .next t ∧ Refused 0x6E (wordOf (queueOff q 3)) m s t ∧ Touches (refuseFields ++ reportFields) s t) ∧
    (Passes m (queueOff q 3) s → s.get .PKT_Q_CONS_AGENT q = queueAgentOf m → bitsAt v 25 7 ≠ s.get .PKT_Q_PTR_GEN q →
      ∃ t, exec (.pktQCons m q v) s = .next t ∧ Refused 0x6A (wordOf (queueOff q 3)) m s t ∧ Touches (refuseFields ++ reportFields) s t) ∧
    (Passes m (queueOff q 3) s → s.get .PKT_Q_CONS_AGENT q = queueAgentOf m → bitsAt v 25 7 = s.get .PKT_Q_PTR_GEN q →
      (s.qDelta q (s.get .PKT_Q_PTR_CONS q) (bitsAt v 0 25) ≤ s.qOccupancy q →
        ∃ t, exec (.pktQCons m q v) s = .next t
          ∧ t.get .PKT_Q_PTR_CONS q = s.qAdvance q (s.get .PKT_Q_PTR_CONS q) (s.qDelta q (s.get .PKT_Q_PTR_CONS q) (bitsAt v 0 25)) % 2 ^ 25
          ∧ TouchesAt q [.PKT_Q_PTR_CONS] [] s t) ∧
      (s.qOccupancy q < s.qDelta q (s.get .PKT_Q_PTR_CONS q) (bitsAt v 0 25) →
        ∃ t, exec (.pktQCons m q v) s = .next t ∧ Refused 0x6C (wordOf (queueOff q 3)) m s t ∧ Touches (refuseFields ++ reportFields) s t))

/-- Flushing (R254, R255): a write of PKT_Q_CTRL with EN still 1 and FLUSH 1 marks the queue, which completes, once no hardware agent is
mid-item, with the pointers equal, GEN one higher and FLUSHED set; with FLUSH 2 the queue, where no agent is mid-item, is left with
the abort marker at the old PROD as its one item. The write's other fields take effect; a queue that does not run refuses the whole
write. A write of PKT_Q_CTRL that clears EN and asks for a flush: the queue is disabled, its items discarded without a marker
(R256), and the flush of a queue that no longer runs is refused with 0x6D. That the two go in this order is the model's choice (log
entry 125). Words of a queue (R248, R253): a write of a whole data word stores it with its check byte, and one into the check bytes
is ignored; a corrected word is counted for the queue and for the engine; an uncorrectable one is counted, marks the item where it
is no header, raises source 287, and flushes the queue where it is one. That an event whose condition does not hold changes nothing
is DEDUCED (log entry 2). Where the spec leaves a point open it follows the model's reading (log entries 11, 62, 64 and 65). -/
def Obligations.QueueFlushesAndCheckBytes : Prop :=
  (∀ (m : Master) (q v : Nat) (s : State), q < 65536 →
    (Passes m (queueOff q 4) s → s.running .queue q = true → s.unitEn ⟨.queue, q⟩ = true → v % 2 = 1 →
      ∃ t, exec (.softFlush m q v) s = .next t ∧ t.get .PKT_Q_STAT_FLUSHING q = 1 ∧ t.get .PKT_Q_WMARK q = bitsAt v 24 8
        ∧ t.get .PKT_Q_EVT_EN q = bitsAt v 1 1 ∧ t.get .PKT_Q_PTR_GEN q = s.get .PKT_Q_PTR_GEN q
        ∧ t.get .PKT_Q_PTR_PROD q = s.get .PKT_Q_PTR_PROD q ∧ t.get .PKT_Q_PTR_CONS q = s.get .PKT_Q_PTR_CONS q
        ∧ TouchesAt q [.PKT_Q_STAT_FLUSHING, .PKT_Q_WMARK, .PKT_Q_EVT_EN] [] s t) ∧
    (Passes m (queueOff q 4) s → s.running .queue q = false → ∀ c ∈ [Instr.softFlush m q v, .hardFlush m q v],
      ∃ t, exec c s = .next t ∧ Refused 0x6D (wordOf (queueOff q 4)) m s t ∧ Touches (refuseFields ++ reportFields) s t) ∧
    (s.get .PKT_Q_STAT_FLUSHING q = 1 → s.workOn q = none →
      ∃ t, exec (.softFlushComplete q) s = .next t ∧ t.get .PKT_Q_PTR_CONS q = s.get .PKT_Q_PTR_PROD q % 2 ^ 25
        ∧ t.get .PKT_Q_PTR_PROD q = s.get .PKT_Q_PTR_PROD q ∧ t.get .PKT_Q_PTR_GEN q = (s.get .PKT_Q_PTR_GEN q + 1) % 2 ^ 7
        ∧ t.get .PKT_Q_STAT_FLUSHING q = 0 ∧ t.get .PKT_Q_STAT_FLUSHED q = 1
        ∧ TouchesAt q [.PKT_Q_PTR_CONS, .PKT_Q_PTR_GEN, .PKT_Q_STAT_FLUSHING, .PKT_Q_STAT_FLUSHED, .PKT_Q_ITEM_ECC]
            (.PKT_Q_PENDING :: reportFields)
            { s with txWork := s.txWork.filter (fun w => !(w.held && s.get .PKT_TX_TARGET w.tx == q)) } t) ∧
    (Passes m (queueOff q 4) s → s.running .queue q = true → s.unitEn ⟨.queue, q⟩ = true → v % 2 = 1 → s.cutWork q = none →
      ∃ t, exec (.hardFlush m q v) s = .next t ∧ t.get .PKT_Q_WMARK q = bitsAt v 24 8 ∧ t.get .PKT_Q_PTR_CONS q = s.get .PKT_Q_PTR_PROD q % 2 ^ 25
        ∧ t.get .PKT_Q_PTR_PROD q = s.qAdvance q (s.get .PKT_Q_PTR_PROD q) 1 % 2 ^ 25
        ∧ t.get .PKT_Q_PTR_GEN q = (s.get .PKT_Q_PTR_GEN q + 1) % 2 ^ 7 ∧ t.get .PKT_Q_STAT_FLUSHED q = 1
        ∧ (∀ a, (a < s.keyOf (s.qAddr q (s.get .PKT_Q_PTR_PROD q)) ∨ s.keyOf (s.qAddr q (s.get .PKT_Q_PTR_PROD q)) + 8 ≤ a) →
            a ≠ s.keyOf (s.qBase q + 8 * s.qSize q + s.get .PKT_Q_PTR_PROD q % s.qSize q) → Memory.read a t.mem = Memory.read a s.mem)
        ∧ (s.keyOf (s.qAddr q (s.get .PKT_Q_PTR_PROD q)) + 8 ≤ s.keyOf (s.qBase q + 8 * s.qSize q + s.get .PKT_Q_PTR_PROD q % s.qSize q) →
            leNat (Memory.readList t.mem (s.keyOf (s.qAddr q (s.get .PKT_Q_PTR_PROD q))) 8)
              = 2 ^ 56 * 0xFF + 2 ^ 48 + 65536 * min (s.qItems q).length 0xFFFF)
        ∧ TouchesAt q [.PKT_Q_PTR_CONS, .PKT_Q_PTR_GEN, .PKT_Q_PTR_PROD, .PKT_Q_STAT_FLUSHING, .PKT_Q_STAT_FLUSHED, .PKT_Q_WMARK,
            .PKT_Q_EVT_EN, .PKT_Q_ITEM_ECC] (.PKT_Q_PENDING :: reportFields)
            { s with mem := t.mem, txWork := s.txWork.filter (fun w => s.get .PKT_TX_TARGET w.tx != q) } t)) ∧
  (∀ (m : Master) (q v : Nat) (s : State), q < 65536 → Passes m (queueOff q 4) s → s.running .queue q = true →
    s.unitEn ⟨.queue, q⟩ = true → s.flag .CHECK_BUSY ((⟨.queue, q⟩ : UnitId).code) = false → s.cutWork q = none → v % 2 = 0 →
    ∀ c ∈ [Instr.softFlush m q v, .hardFlush m q v],
      ∃ t, exec c s = .next t ∧ Refused 0x6D (wordOf (queueOff q 4)) m s t ∧ t.running .queue q = false
        ∧ t.unitEn ⟨.queue, q⟩ = false ∧ t.get .PKT_Q_PTR_CONS q = s.get .PKT_Q_PTR_PROD q % 2 ^ 25 ∧ t.get .PKT_Q_PTR_PROD q = s.get .PKT_Q_PTR_PROD q
        ∧ t.get .PKT_Q_STAT_FLUSHING q = 0 ∧ t.get .PKT_Q_WMARK q = bitsAt v 24 8
        ∧ Touches ([.UNIT_EN, .CHECK_ENABLED, .PKT_Q_PTR_CONS, .PKT_Q_STAT_FLUSHING, .PKT_Q_ITEM_ECC, .PKT_Q_WMARK, .PKT_Q_EVT_EN]
            ++ refuseFields ++ reportFields) { s with txWork := s.txWork.filter (fun w => s.get .PKT_TX_TARGET w.tx != q) } t) ∧
  ((∀ (m : Master) (a v o q k : Nat) (s : State), s.target m a = .sram o → s.memGate m a 8 true = none → s.queueAt o = some q →
    k < s.qSize q → o = s.keyOf (s.qBase q) + 8 * k → s.keyOf (s.qBase q + 8 * k) = o → o + 8 ≤ s.keyOf (s.qBase q + 8 * s.qSize q + k) →
    ∃ t, exec (.queueDataWrite m a 8 v) s = .next t ∧ t.qWord q k = v % 2 ^ 64 ∧ t.busResp = ⟨0, false⟩
      ∧ Memory.read (s.keyOf (s.qBase q + 8 * s.qSize q + k)) t.mem = Config.checkByte (v % 2 ^ 64)
      ∧ (∀ b, (b < o ∨ o + 8 ≤ b) → b ≠ s.keyOf (s.qBase q + 8 * s.qSize q + k) → Memory.read b t.mem = Memory.read b s.mem)
      ∧ Touches [] { s with mem := t.mem } t) ∧
  (∀ (m : Master) (a size v o q : Nat) (s : State), s.target m a = .sram o → s.memGate m a size true = none → s.queueAt o = some q →
    s.keyOf (s.qBase q) + 8 * s.qSize q ≤ o →
    ∃ t, exec (.queueDataWrite m a size v) s = .next t ∧ t.mem = s.mem ∧ Touches [] s t) ∧
  (∀ (q p : Nat) (s : State), q < 65536 → s.running .queue q = true →
    exec (.queueWordRead none q p .clean) s = .next s ∧
    (∃ t, exec (.queueWordRead none q p .corrected) s = .next t ∧ t.get .PKT_QW_COR q = satAdd 16 (s.get .PKT_QW_COR q) 1
      ∧ t.get .PKT_Q_ECC_COR = satAdd 32 (s.get .PKT_Q_ECC_COR) 1 ∧ TouchesAt q [.PKT_QW_COR] [.PKT_Q_ECC_COR] s t) ∧
    ((s.qItems q).contains (p % (2 * s.qSize q)) = false →
      ∃ t, exec (.queueWordRead none q p .uncorrectable) s = .next t ∧ t.get .PKT_QW_UNCOR q = satAdd 8 (s.get .PKT_QW_UNCOR q) 1
        ∧ t.get .PKT_Q_ECC_UNCOR = satAdd 32 (s.get .PKT_Q_ECC_UNCOR) 1 ∧ t.get .PKT_Q_ITEM_ECC q = 1 ∧ Asserted 287 0 s t
        ∧ TouchesAt q [.PKT_QW_UNCOR, .PKT_Q_ITEM_ECC, .PKT_Q_STAT_UNCOR_C] ([.PKT_Q_ECC_UNCOR, .PKT_Q_PENDING] ++ reportFields) s t) ∧
    ((s.qItems q).contains (p % (2 * s.qSize q)) = true →
      ∃ t, exec (.queueWordRead none q p .uncorrectable) s = .next t ∧ t.get .PKT_QW_UNCOR q = satAdd 8 (s.get .PKT_QW_UNCOR q) 1
        ∧ t.get .PKT_Q_PTR_GEN q = (s.get .PKT_Q_PTR_GEN q + 1) % 2 ^ 7 ∧ t.get .PKT_Q_PTR_CONS q = s.get .PKT_Q_PTR_PROD q % 2 ^ 25
        ∧ (s.cutWork q = none →
            TouchesAt q [.PKT_QW_UNCOR, .PKT_Q_ITEM_ECC, .PKT_Q_STAT_UNCOR_C, .PKT_Q_PTR_CONS, .PKT_Q_PTR_GEN, .PKT_Q_PTR_PROD, .PKT_Q_STAT_FLUSHING,
              .PKT_Q_STAT_FLUSHED] ([.PKT_Q_ECC_UNCOR, .PKT_Q_PENDING] ++ reportFields) { s with mem := t.mem } t))) ∧
  (∀ (m : Master) (q p : Nat) (s : State), s.running .queue q = true → s.memGate m (s.qAddr q p) 8 false = none →
    ∃ t, exec (.queueWordRead (some m) q p .clean) s = .next t ∧ t.busResp = ⟨s.qWord q p, false⟩ ∧ Touches [] s t))

/-! ### Records in configuration memory, and the power states -/

/-- The device's own records (R82, R327, R497): the oldest waiting fault record goes to the next place of the fault ring, unless the
rate limit leaves no room for it and it is then counted; a take of the claim is recorded in the election ring, no earlier than 1 s
after the record before it; the ageing record, at most one an hour, in its ring. Nothing outside the record's place changes. Where
the spec leaves a point open it follows the model's reading (log entries 28, 44 and 98). -/
def Obligations.RecordsGoToTheirRings : Prop :=
  ∀ s : State, s.get .CFG_PERSIST_STAT_OFF = 0 →
    (∀ (r : LogRec) (rest : List LogRec), s.logWaiting = r :: rest → s.get .FLT_CTRL_LOGQ_EN = 0 → (r.always || s.logRoom) = true →
      ∃ t, exec (.faultLogWrite false) s = .next t ∧ t.logWaiting = rest ∧ t.logTimes = (s.tick :: s.logTimes).take 3600
        ∧ (∀ i < 256, Memory.read (0x7000000 + 256 * s.get .FLT_LOG_POS + i) t.nvm = (s.logBytes r).getD i 0)
        ∧ (∀ a, (a < 0x7000000 + 256 * s.get .FLT_LOG_POS ∨ 0x7000000 + 256 * s.get .FLT_LOG_POS + 256 ≤ a) →
            Memory.read a t.nvm = Memory.read a s.nvm)
        ∧ t.get .FLT_LOG_POS = (s.get .FLT_LOG_POS + 1) % 2 ^ 16 ∧ t.get .FLT_SEQ = (s.get .FLT_SEQ + 1) % 2 ^ 32
        ∧ Touches [.FLT_LOG_POS, .FLT_SEQ] { s with nvm := t.nvm, logTimes := t.logTimes } t) ∧
    (∀ (r : LogRec) (rest : List LogRec) (fails : Bool), s.logWaiting = r :: rest → (r.always || s.logRoom) = false →
      ∃ t, exec (.faultLogWrite fails) s = .next t ∧ t.logWaiting = rest
        ∧ t.get .CFG_PERSIST_STAT_DROPPED = satAdd 16 (s.get .CFG_PERSIST_STAT_DROPPED) 1 ∧ Touches [.CFG_PERSIST_STAT_DROPPED] s t) ∧
    (s.electionReady = true →
      ∃ t, exec (.electionRecord false) s = .next t ∧ t.get .ELECT_DUE = 0
        ∧ (∀ i < 16, Memory.read (0x6010000 + 16 * s.get .ELECT_POS + i) t.nvm = s.electionBytes.getD i 0)
        ∧ (∀ a, (a < 0x6010000 + 16 * s.get .ELECT_POS ∨ 0x6010000 + 16 * s.get .ELECT_POS + 16 ≤ a) →
            Memory.read a t.nvm = Memory.read a s.nvm)
        ∧ t.get .ELECT_POS = (s.get .ELECT_POS + 1) % 2 ^ 12 ∧ t.get .ELECT_SEQ = (s.get .ELECT_SEQ + 1) % 2 ^ 32
        ∧ t.get .ELECT_AT = (s.tick + 1) % 2 ^ 64 ∧ Touches [.ELECT_DUE, .ELECT_POS, .ELECT_SEQ, .ELECT_AT] { s with nvm := t.nvm } t) ∧
    (s.running .ref = true → s.get .REF_CTRL_LEARN = 1 → s.ageingReady = true →
      ∃ t, exec (.ageingRecord false) s = .next t
        ∧ (∀ i < 256, Memory.read (0x6000000 + 256 * s.get .AGE_POS + i) t.nvm = s.ageingBytes.getD i 0)
        ∧ (∀ a, (a < 0x6000000 + 256 * s.get .AGE_POS ∨ 0x6000000 + 256 * s.get .AGE_POS + 256 ≤ a) →
            Memory.read a t.nvm = Memory.read a s.nvm)
        ∧ t.get .AGE_POS = (s.get .AGE_POS + 1) % 2 ^ 6 ∧ t.get .AGE_SEQ = (s.get .AGE_SEQ + 1) % 2 ^ 32
        ∧ t.get .AGE_AT = (s.tick + 1) % 2 ^ 64 ∧ Touches [.AGE_POS, .AGE_SEQ, .AGE_AT] { s with nvm := t.nvm } t)

/-- The power states (R495, R545, R546): a fatal assertion leads from Run, Warm Standby or Quiet into Safe, which raises sources 448 and
508; a Quiet request is granted from Run and Warm Standby with no safety input held active and a claim that may be released, and
refused with 0xD5, 0xD4 or 0xE4 otherwise; Quiet is left into Warm Standby, and in no other state is there a leave. That an event
whose condition does not hold changes nothing is DEDUCED (log entry 2). Where the spec leaves a point open it follows the model's
reading (log entry 90). -/
def Obligations.PowerStatesFollowRequests : Prop :=
  ∀ s : State,
    (s.get .FLT_STAT_FATAL = 1 → (s.get .PWR_STAT_STATE = 2 ∨ s.get .PWR_STAT_STATE = 3 ∨ s.get .PWR_STAT_STATE = 4) →
      ∃ t, exec .safeEntry s = .next t ∧ t.get .PWR_STAT_STATE = 5 ∧ t.get .FLT_STAT_SAFE = 1 ∧ t.get .TWN_WANT = 0 ∧ Asserted 448 0 s t
        ∧ (s.get .TWN_STAT_CLAIM = 0 → Asserted 508 0 s t ∧ Touches ([.PWR_STAT_STATE, .FLT_STAT_SAFE, .TWN_WANT, .DEST_SAFE_COUNT, .DEST_SAFE_LAST] ++ reportFields) s t)
        ∧ (s.get .TWN_STAT_CLAIM = 1 → s.releasable = true → t.get .TWN_STAT_CLAIM = 0 ∧ t.get .TWN_STAT_DRIVING = 0)) ∧
    (∀ m : Master, Passes m 0x1400000 s →
      ((s.get .PWR_STAT_STATE = 2 ∨ s.get .PWR_STAT_STATE = 3) → s.get .FLD_SAFE_STAT_HOLDS0 = 0 → s.get .FLD_SAFE_STAT_HOLDS1 = 0 →
        (s.get .TWN_STAT_CLAIM = 0 ∨ s.releasable = true) →
        ∃ t, exec (.quietRequest m) s = .next t ∧ t.get .PWR_STAT_STATE = 4 ∧ t.get .PWR_STAT_LAST_REASON = 0 ∧ t.get .TWN_WANT = 0
          ∧ t.get .TWN_STAT_CLAIM ≠ 1 ∧ (s.flag .TWN_STAT_CLAIM = false → Touches ([.PWR_STAT_STATE, .PWR_STAT_LAST_REASON, .PWR_STAT_SAFETY_WAKE, .FLT_STAT_SAFE, .TWN_WANT, .IN_GOOD,
              .IN_STALE, .DSP_CORE_STAT_STATE, .AUD_PORT_STAT_STATE, .AUD_RAMP_LEFT, .AUD_REPEATS, .AUD_PORT_STAT_CLK_PRESENT, .UNIT_EN, .CHECK_ENABLED,
              .ATL_IN_STAT_LOST] ++ reportFields) { s with cic := t.cic, audArrived := t.audArrived } t)) ∧
      (s.get .PWR_STAT_STATE ≠ 2 → s.get .PWR_STAT_STATE ≠ 3 →
        ∃ t, exec (.quietRequest m) s = .next t ∧ t.get .PWR_STAT_LAST_REASON = 0xD5 ∧ Refused 0xD5 0x500000 m s t
          ∧ Touches (.PWR_STAT_LAST_REASON :: refuseFields ++ reportFields) s t) ∧
      ((s.get .PWR_STAT_STATE = 2 ∨ s.get .PWR_STAT_STATE = 3) → (s.get .FLD_SAFE_STAT_HOLDS0 = 1 ∨ s.get .FLD_SAFE_STAT_HOLDS1 = 1) →
        ∃ t, exec (.quietRequest m) s = .next t ∧ t.get .PWR_STAT_LAST_REASON = 0xD4 ∧ Refused 0xD4 0x500000 m s t
          ∧ Touches (.PWR_STAT_LAST_REASON :: refuseFields ++ reportFields) s t) ∧
      (s.get .PWR_STAT_STATE = 4 →
        ∃ t, exec (.leaveQuiet m) s = .next t ∧ t.get .PWR_STAT_LAST_REASON = 0 ∧ t.get .PWR_STAT_STATE ≠ 4
          ∧ (s.running .twin = false → t.get .PWR_STAT_STATE = 3)
          ∧ (s.running .twin = false → Touches ([.PWR_STAT_STATE, .PWR_STAT_LAST_REASON, .PWR_STAT_SAFETY_WAKE, .FLT_STAT_SAFE, .AUD_MASK_IN_LATCHED,
              .AUD_MASK_IN_PREV, .AUD_MASK_OUT_LATCHED, .AUD_MASK_OUT_PREV, .AUD_MASK_WRITTEN, .AUD_PORT_STAT_CLK_PRESENT, .AUD_PORT_STAT_STATE,
              .AUD_RAMP_LEFT, .AUD_REPEATS, .AUD_GROUP_LOST, .AUD_RXG_MISSING, .ATL_DRAFT_STAT_FAB_REASON, .CMP_TILE_W8_FAB_REASON, .CMP_HEAD_EVT,
              .MZC_DEST_STAT0_LAST_REASON, .FAB_REQ_NO, .DEC_NOW_COARSE, .DEC_NOW_HIST, .DEC_NOW_SPAN, .DEC_SHOWN, .DEST_DRAFT_RX,
              .DEST_LIVE_RX, .MZC_DEC_COARSE_BLOCKS, .MZC_DEC_FRAME, .MZC_DEC_HIST, .MZC_DEC_INEXACT, .MZC_DEC_LAST_REASON,
              .MZC_DEC_MAX_ERR, .MZC_DEC_MISSING] ++ reportFields)
              { s with rx := t.rx, subWait := t.subWait, cic := t.cic, audArrived := t.audArrived } t)) ∧
      (s.get .PWR_STAT_STATE ≠ 4 →
        ∃ t, exec (.leaveQuiet m) s = .next t ∧ t.get .PWR_STAT_LAST_REASON = 0xD5 ∧ Refused 0xD5 0x500000 m s t
          ∧ Touches (.PWR_STAT_LAST_REASON :: refuseFields ++ reportFields) s t))

/-! ### Time bases -/

/-- Commands of a time base (R275, R276, R280, R294): an increment within 1,000 ppm of nominal is due at the next tick and another is
refused with 0x81; a step or a set of a running time base acts at its next tick, and a step that would lead below zero is refused
with 0x83; an alarm is armed at the time that its registers hold, and disarmed by its command or by being reached, which sets cause
1; an entry of the domain table names a running time base and a domain of its own. Reading and capturing time (R278, R279, R292): a
read of TIM_TB_NOW_FRAC latches the whole value for its master; a snapshot captures every time base and the tick count at one
instant; every DIVth selected edge enters the channel's FIFO with its time, or is counted as lost where the FIFO is full; a read of
TIM_CAP_HEAD pops the oldest entry into the capture registers. Where the spec leaves a point open it follows the model's reading
(log entries 66 and 67). -/
def Obligations.TimeIsSteeredAndCaptured : Prop :=
  (∀ (m : Master) (n v : Nat) (s : State), n < 8 →
    (Passes m (tbOff n 0xC) s →
      (24975 * 2 ^ 40 ≤ (s.get .TB_INC_STAGED n + 2 ^ 32 * bitsAt v 0 16) * 10000 →
        (s.get .TB_INC_STAGED n + 2 ^ 32 * bitsAt v 0 16) * 10000 ≤ 25025 * 2 ^ 40 →
        ∃ t, exec (.incCommit m n v) s = .next t ∧ t.get .TB_INC_NEXT n = (s.get .TB_INC_STAGED n + 2 ^ 32 * bitsAt v 0 16) % 2 ^ 48
          ∧ t.get .TB_INC_DUE n = 1 ∧ TouchesAt n [.TB_INC_NEXT, .TB_INC_DUE] [] s t) ∧
      (25025 * 2 ^ 40 < (s.get .TB_INC_STAGED n + 2 ^ 32 * bitsAt v 0 16) * 10000 →
        ∃ t, exec (.incCommit m n v) s = .next t ∧ Refused 0x81 (wordOf (tbOff n 0xC)) m s t ∧ Touches (refuseFields ++ reportFields) s t)) ∧
    (Passes m (tbOff n 0x10) s →
      (s.tbCmdCode n (v ||| 1) = 0 → s.running .tb n = true →
        ∃ t, exec (.tbStep m n v) s = .next t
          ∧ t.stepsDue = s.stepsDue ++ [⟨n, false, toSigned 48 (s.get .TIM_TB_ADJ_SEC_LO n + 2 ^ 32 * s.get .TIM_TB_ADJ_SEC_HI n),
              toSigned 32 (s.get .TIM_TB_ADJ_NS n)⟩]
          ∧ TouchesAt n [.TB_ALARM_NS, .TB_ALARM_SEC, .TIM_TB_STAT_ARMED] [] { s with stepsDue := t.stepsDue } t) ∧
      (s.tbCmdCode n (v ||| 2) = 0 → s.running .tb n = true →
        ∃ t, exec (.tbSet m n v) s = .next t
          ∧ t.stepsDue = s.stepsDue ++ [⟨n, true, ((s.get .TIM_TB_ADJ_SEC_LO n + 2 ^ 32 * s.get .TIM_TB_ADJ_SEC_HI n : Nat) : Int),
              (s.get .TIM_TB_ADJ_NS n : Int)⟩]
          ∧ TouchesAt n [.TB_ALARM_NS, .TB_ALARM_SEC, .TIM_TB_STAT_ARMED] [] { s with stepsDue := t.stepsDue } t) ∧
      (v % 16 = 4 → s.get .TIM_TB_ALARM_NS n < 1000000000 →
        ∃ t, exec (.tbArm m n v) s = .next t ∧ t.get .TIM_TB_STAT_ARMED n = 1
          ∧ t.get .TB_ALARM_NS n = s.get .TIM_TB_ALARM_NS n % 2 ^ 32
          ∧ t.get .TB_ALARM_SEC n = (s.get .TIM_TB_ALARM_SEC_LO n + 2 ^ 32 * s.get .TIM_TB_ALARM_SEC_HI n) % 2 ^ 48
          ∧ TouchesAt n [.TB_ALARM_NS, .TB_ALARM_SEC, .TIM_TB_STAT_ARMED] [] s t) ∧
      (v % 16 = 8 → ∃ t, exec (.tbDisarm m n v) s = .next t ∧ t.get .TIM_TB_STAT_ARMED n = 0 ∧ TouchesAt n [.TIM_TB_STAT_ARMED] [] s t) ∧
      (v % 16 = 1 → -999999999 ≤ (s.adjOf n false).ns → (s.adjOf n false).ns ≤ 999999999 → (steppedValue (s.adjOf n false) (s.tbSoon n)).isNone = true →
        ∃ t, exec (.tbStep m n v) s = .next t ∧ Refused 0x83 (wordOf (tbOff n 0x10)) m s t ∧ Touches (refuseFields ++ reportFields) s t) ∧
      ((s.adjOf n true).ns > 999999999 → v % 16 = 2 →
        ∃ t, exec (.tbSet m n v) s = .next t ∧ Refused 0x04 (wordOf (tbOff n 0x10)) m s t ∧ Touches (refuseFields ++ reportFields) s t)) ∧
    (s.alarmDue n = true →
      ∃ t, exec (.alarm n) s = .next t ∧ t.get .TIM_TB_STAT_ARMED n = 0 ∧ t.get .TIM_TB_EVT n = (s.get .TIM_TB_EVT n ||| 2) % 2 ^ 7
        ∧ (bitsAt (s.get .TIM_TB_EVT n) 1 1 = 0 → bitsAt (s.get .TIM_TB_EVT_EN n) 1 1 = 1 → Asserted (304 + n) 0 s t)
        ∧ TouchesAt n [.TIM_TB_STAT_ARMED, .TIM_TB_EVT] reportFields s t) ∧
    (Passes m (0x803000 + 4 * n) s →
      (bitsAt v 31 1 = 0 ∨ (s.running .tb (bitsAt v 28 3) = true
          ∧ ∀ j < 8, j ≠ n → s.get .TIM_DOMAIN_EN j = 1 → s.get .TIM_DOMAIN_DOMAIN j ≠ bitsAt v 0 8) →
        ∃ t, exec (.domainWrite m n v) s = .next t ∧ t.get .TIM_DOMAIN_EN n = bitsAt v 31 1 ∧ t.get .TIM_DOMAIN_TB n = bitsAt v 28 3
          ∧ t.get .TIM_DOMAIN_DOMAIN n = bitsAt v 0 8 ∧ TouchesAt n [.TIM_DOMAIN_EN, .TIM_DOMAIN_TB, .TIM_DOMAIN_DOMAIN] [] s t) ∧
      (∀ j < 8, bitsAt v 31 1 = 1 → j ≠ n → s.get .TIM_DOMAIN_EN j = 1 → s.get .TIM_DOMAIN_DOMAIN j = bitsAt v 0 8 →
        ∃ t, exec (.domainWrite m n v) s = .next t ∧ Refused 0x89 (wordOf (0x803000 + 4 * n)) m s t
          ∧ Touches (refuseFields ++ reportFields) s t))) ∧
  ((∀ (m : Master) (n : Nat) (s : State), n < 8 → regGate m (tbOff n 0x20) 4 false s = none →
    ∃ t, exec (.nowLatch m n) s = .next t ∧ t.busResp = ⟨(s.tb n).frac / 2 ^ 24 * 2 ^ 16, false⟩
      ∧ t.get .TB_SHADOW_NS (8 * readerOf m + n) = (s.tb n).ns % 2 ^ 32 ∧ t.get .TB_SHADOW_SEC (8 * readerOf m + n) = (s.tb n).sec % 2 ^ 48
      ∧ TouchesAt (8 * readerOf m + n) [.TB_SHADOW_NS, .TB_SHADOW_SEC] [] s t) ∧
  (∀ (m : Master) (s : State), Passes m 0x801000 s →
    ∃ t, exec (.snapshot m) s = .next t
      ∧ (∀ n < 8, t.get .TIM_SNAP_NS n = (s.tb n).ns % 2 ^ 32 ∧ t.get .TIM_SNAP_SEC_LO n = (s.tb n).sec % 2 ^ 32
        ∧ t.get .TIM_SNAP_SEC_HI n = (s.tb n).sec / 2 ^ 32 % 2 ^ 16 ∧ t.get .TIM_SNAP_FRAC_FRAC n = (s.tb n).frac / 2 ^ 24 % 2 ^ 16
        ∧ t.get .TIM_SNAP_FRAC_VALID n = (s.running .tb n).toNat)
      ∧ t.get .TIM_SNAP_TICKS_LO = (s.tick - s.resetTick) % 2 ^ 32 ∧ t.get .TIM_SNAP_TICKS_HI = (s.tick - s.resetTick) / 2 ^ 32 % 2 ^ 32
      ∧ Touches [.TIM_SNAP_FRAC_FRAC, .TIM_SNAP_FRAC_VALID, .TIM_SNAP_NS, .TIM_SNAP_SEC_LO, .TIM_SNAP_SEC_HI, .TIM_SNAP_TICKS_LO,
          .TIM_SNAP_TICKS_HI] s t) ∧
  (∀ (c q : Nat) (r : Bool) (s : State), s.running .cap c = true → s.edgeSelected c r = true →
    (s.get .CAP_EDGES c + 1 < s.get .TIM_CAP_DIV c →
      ∃ t, exec (.captureEdge c q r) s = .next t ∧ t.get .CAP_EDGES c = (s.get .CAP_EDGES c + 1) % 2 ^ 24 ∧ TouchesAt c [.CAP_EDGES] [] s t) ∧
    (s.get .TIM_CAP_DIV c ≤ s.get .CAP_EDGES c + 1 → (s.capFifo c).length < 16 →
      ∃ t, exec (.captureEdge c q r) s = .next t ∧ t.get .CAP_EDGES c = 0 ∧ t.get .CAP_STEPPED c = 0
        ∧ t.capFifo c = s.capFifo c ++ [⟨stampOfTime (s.tbAt (s.get .TIM_CAP_CTRL_TB c) q 0), r, s.flag .CAP_STEPPED c⟩]
        ∧ t.get .TIM_TB_EVT (s.get .TIM_CAP_CTRL_TB c) = (s.get .TIM_TB_EVT (s.get .TIM_CAP_CTRL_TB c) ||| 4) % 2 ^ 7
        ∧ Touches ([.CAP_EDGES, .CAP_STEPPED, .TIM_TB_EVT] ++ reportFields) { s with caps := t.caps } t) ∧
    (s.get .TIM_CAP_DIV c ≤ s.get .CAP_EDGES c + 1 → 16 ≤ (s.capFifo c).length →
      ∃ t, exec (.captureEdge c q r) s = .next t ∧ t.get .TIM_CAP_LOST c = satAdd 32 (s.get .TIM_CAP_LOST c) 1 ∧ t.get .CAP_OVERRUN c = 1
        ∧ t.caps = s.caps ∧ Touches ([.CAP_EDGES, .TIM_CAP_LOST, .CAP_OVERRUN, .TIM_TB_EVT] ++ reportFields) s t)) ∧
  (∀ (m : Master) (c : Nat) (s : State), c < 16 → regGate m (0x80400C + 64 * c) 4 false s = none →
    (s.capFifo c = [] → ∃ t, exec (.captureHeadRead m c) s = .next t ∧ t.busResp = ⟨0, false⟩ ∧ Touches [] s t) ∧
    (∀ (e : CapEntry) (l : List CapEntry), s.capFifo c = e :: l →
      ∃ t, exec (.captureHeadRead m c) s = .next t ∧ t.capFifo c = l
        ∧ t.busResp = ⟨2 ^ 31 + 2 ^ 30 * (s.flag .CAP_OVERRUN c).toNat + 2 ^ 29 * e.rising.toNat + 2 ^ 28 * e.stepped.toNat + 2 ^ 16 * l.length
            + e.stamp.sec / 2 ^ 32 % 2 ^ 16, false⟩
        ∧ t.get .TIM_CAP_SEC c = e.stamp.sec % 2 ^ 32 ∧ t.get .TIM_CAP_NS c = e.stamp.ns % 2 ^ 32 ∧ t.get .TIM_CAP_FRAC_FRAC c = e.stamp.frac % 2 ^ 16
        ∧ t.get .CAP_OVERRUN c = 0
        ∧ TouchesAt c [.TIM_CAP_SEC, .TIM_CAP_NS, .TIM_CAP_FRAC_FRAC, .CAP_OVERRUN] [] { s with caps := t.caps } t)))

/-! ### The reference unit -/

/-- Candidates (R302, R305, R306, R308): each second a disabled candidate is Disabled, one without a signal is Absent, and one whose
offset from the prediction exceeds DISQ is Disqualified; when the selected candidate's signal goes, another choice follows at once;
a locked candidate refuses a write with 0x92; forcing an ineligible candidate is refused with 0x91, and an eligible one is selected
with cause 6. Thresholds, the software candidate, the sensor and the hold (R309, R315, R320, R321, R324, R330): a threshold outside
the table's bounds is refused with 0x94, DISQ not above WARN and MUTUAL with 0x93, a SLOPE of 0 with 0x04; a write of REF_SW keeps
the software candidate alive and 2 s without one loses it; the third failed read of the sensor is a fault; slewing ends when K has
arrived; HOLD_LIMIT ends night; a day with enough of noon leaves a daily mean. Where the spec leaves a point open it follows the
model's reading (log entries 68, 69, 70, 71 and 127). -/
def Obligations.ReferenceSelectsAndLearns : Prop :=
  (∀ s : State,
    (∀ (e : RefMeas) (c : Nat), s.running .ref = true → c < 16 →
      (s.get .REF_CAND_EN c ≠ 1 → ∃ t, exec (.refSecond e) s = .next t ∧ t.get .REF_CAND1_CSTATE c = 5 ∧ t.get .REF_CAND1_DRIFTING c = 0
        ∧ Touches ([.REF_ACQUIRED, .REF_BEYOND, .REF_CAND1_CSTATE, .REF_CAND1_DRIFTING, .REF_CAND1_QUAL_LEFT, .REF_CAND4_DISQ_COUNT,
            .REF_CAND_DRIFT, .REF_CAND_OFFSET, .REF_CTRL_FORCE_EN, .REF_D, .REF_DAY_NOON, .REF_DAY_SECS, .REF_DAY_SUM, .REF_HOLD_SECS, .REF_K,
            .REF_LOCK_SECS, .REF_MODEL_STAT_DAYS, .REF_MODEL_STAT_LEARNED, .REF_MODEL_STAT_RANGE, .REF_MODEL_STAT_VALID, .REF_MOVED, .REF_NOON_RUN,
            .REF_NOON_SECS, .REF_RAW, .REF_SEL_STATE_CAUSE, .REF_SEL_STATE_HOLD_MIN, .REF_SEL_STATE_INC0_DEV, .REF_SEL_STATE_RATE_CLAMP,
            .REF_SEL_STATE_SELECTED, .REF_SEL_STATE_SLEWING, .REF_SEL_STATE_STATE, .REF_TY, .REF_WITHIN, .REF_Y] ++ reportFields)
            { s with refHist := t.refHist, refResid := t.refResid } t) ∧
      (s.get .REF_CAND_EN c = 1 → s.refRaw c e.present = none →
        ∃ t, exec (.refSecond e) s = .next t ∧ t.get .REF_CAND1_CSTATE c = 0 ∧ t.get .REF_CAND1_QUAL_LEFT c = 0
        ∧ Touches ([.REF_ACQUIRED, .REF_BEYOND, .REF_CAND1_CSTATE, .REF_CAND1_DRIFTING, .REF_CAND1_QUAL_LEFT, .REF_CAND4_DISQ_COUNT,
            .REF_CAND_DRIFT, .REF_CAND_OFFSET, .REF_CTRL_FORCE_EN, .REF_D, .REF_DAY_NOON, .REF_DAY_SECS, .REF_DAY_SUM, .REF_HOLD_SECS, .REF_K,
            .REF_LOCK_SECS, .REF_MODEL_STAT_DAYS, .REF_MODEL_STAT_LEARNED, .REF_MODEL_STAT_RANGE, .REF_MODEL_STAT_VALID, .REF_MOVED, .REF_NOON_RUN,
            .REF_NOON_SECS, .REF_RAW, .REF_SEL_STATE_CAUSE, .REF_SEL_STATE_HOLD_MIN, .REF_SEL_STATE_INC0_DEV, .REF_SEL_STATE_RATE_CLAMP,
            .REF_SEL_STATE_SELECTED, .REF_SEL_STATE_SLEWING, .REF_SEL_STATE_STATE, .REF_TY, .REF_WITHIN, .REF_Y] ++ reportFields)
            { s with refHist := t.refHist, refResid := t.refResid } t) ∧
      (∀ raw : Int, s.get .REF_CAND_EN c = 1 → s.refRaw c e.present = some raw →
        (s.get .REF_LIMITS_DISQ : Int) * 1000000 < ((raw + s.predict).natAbs : Int) →
        ∃ t, exec (.refSecond e) s = .next t ∧ t.get .REF_CAND1_CSTATE c = 4 ∧ t.get .REF_CAND_OFFSET c = ofSigned 32 ((raw + s.predict) / 10000)
        ∧ Touches ([.REF_ACQUIRED, .REF_BEYOND, .REF_CAND1_CSTATE, .REF_CAND1_DRIFTING, .REF_CAND1_QUAL_LEFT, .REF_CAND4_DISQ_COUNT,
            .REF_CAND_DRIFT, .REF_CAND_OFFSET, .REF_CTRL_FORCE_EN, .REF_D, .REF_DAY_NOON, .REF_DAY_SECS, .REF_DAY_SUM, .REF_HOLD_SECS, .REF_K,
            .REF_LOCK_SECS, .REF_MODEL_STAT_DAYS, .REF_MODEL_STAT_LEARNED, .REF_MODEL_STAT_RANGE, .REF_MODEL_STAT_VALID, .REF_MOVED, .REF_NOON_RUN,
            .REF_NOON_SECS, .REF_RAW, .REF_SEL_STATE_CAUSE, .REF_SEL_STATE_HOLD_MIN, .REF_SEL_STATE_INC0_DEV, .REF_SEL_STATE_RATE_CLAMP,
            .REF_SEL_STATE_SELECTED, .REF_SEL_STATE_SLEWING, .REF_SEL_STATE_STATE, .REF_TY, .REF_WITHIN, .REF_Y] ++ reportFields)
            { s with refHist := t.refHist, refResid := t.refResid } t)) ∧
    (s.running .ref = true → s.get .REF_SEL_STATE_SELECTED < 15 → s.get .REF_CAND_KIND (s.get .REF_SEL_STATE_SELECTED) < 5 →
      s.get .REF_SEL_STATE_STATE < 3 →
      ∃ t, exec .candidateAbsent s = .next t ∧ t.get .REF_CAND1_CSTATE (s.get .REF_SEL_STATE_SELECTED) = 0
        ∧ t.get .REF_SEL_STATE_SELECTED ≠ s.get .REF_SEL_STATE_SELECTED
        ∧ Touches ([.REF_BEYOND, .REF_CAND1_CSTATE, .REF_CAND1_DRIFTING, .REF_CAND4_DISQ_COUNT, .REF_CTRL_FORCE_EN, .REF_HOLD_SECS, .REF_K,
            .REF_LOCK_SECS, .REF_NOON_RUN, .REF_SEL_STATE_CAUSE, .REF_SEL_STATE_HOLD_MIN, .REF_SEL_STATE_INC0_DEV, .REF_SEL_STATE_RATE_CLAMP,
            .REF_SEL_STATE_SELECTED, .REF_SEL_STATE_SLEWING, .REF_SEL_STATE_STATE, .REF_WITHIN] ++ reportFields) { s with refHist := t.refHist } t) ∧
    (∀ (m : Master) (c v : Nat), c < 16 → Passes m (0x840100 + 32 * c) s →
      (s.get .REF_CAND_LOCKED c = 1 →
        ∃ t, exec (.candidateWrite m c v) s = .next t ∧ Refused 0x92 (wordOf (0x840100 + 32 * c)) m s t
          ∧ Touches (refuseFields ++ reportFields) s t) ∧
      (s.get .REF_CAND_LOCKED c = 0 → (s.running .ref = false ∨ bitsAt v 31 1 = 1 ∨ s.get .REF_SEL_STATE_SELECTED ≠ c) →
        ∃ t, exec (.candidateWrite m c v) s = .next t ∧ t.get .REF_CAND_EN c = bitsAt v 31 1 ∧ t.get .REF_CAND_REVERTIVE c = bitsAt v 30 1
          ∧ t.get .REF_CAND_PRIORITY c = bitsAt v 24 4
          ∧ (∀ i, t.get .REF_CAND_KIND i % 2 ^ 4 = s.get .REF_CAND_KIND i % 2 ^ 4)
          ∧ TouchesAt c [.REF_CAND_EN, .REF_CAND_REVERTIVE, .REF_CAND_LOCKED, .REF_CAND_PRIORITY, .REF_CAND_KIND, .REF_CAND_FORMAT,
              .REF_CAND_LANE] [] s t)) ∧
    (∀ (m : Master) (v : Nat), Passes m 0x840000 s →
      (s.get .REF_CTRL_FORCE_EN = 0 → s.eligible (bitsAt v 8 4) = false →
        ∃ t, exec (.forceSelect m v) s = .next t ∧ Refused 0x91 0x210000 m s t ∧ Touches (refuseFields ++ reportFields) s t) ∧
      (s.running .ref = true → s.eligible (bitsAt v 8 4) = true → v % 2 = 0 →
        ∃ t, exec (.forceSelect m v) s = .next t ∧ t.running .ref = false ∧ t.get .REF_CTRL_FORCE_EN = 1) ∧
      (s.running .ref = true → s.eligible (bitsAt v 8 4) = true → bitsAt v 8 4 < 15 → s.get .REF_SEL_STATE_SELECTED ≠ bitsAt v 8 4 →
        v % 2 = 1 → s.get .UNIT_EN (UnitKind.ref.code 0) = 1 →
        ∃ t, exec (.forceSelect m v) s = .next t ∧ t.get .REF_SEL_STATE_SELECTED = bitsAt v 8 4 ∧ t.get .REF_SEL_STATE_CAUSE = 6
          ∧ t.get .REF_SEL_STATE_STATE = 0 ∧ t.get .REF_SEL_STATE_SLEWING = 1 ∧ t.get .REF_CTRL_FORCE_EN = 1 ∧ Asserted 313 0 s t
          ∧ Touches ([.REF_CTRL_FORCE_EN, .REF_CTRL_FORCE_CAND, .REF_CTRL_BW, .REF_CTRL_FAST_ACQ, .REF_CTRL_LEARN, .REF_HOLD_SECS, .REF_K,
              .REF_LOCK_SECS, .REF_NOON_RUN, .REF_SEL_STATE_CAUSE, .REF_SEL_STATE_HOLD_MIN, .REF_SEL_STATE_INC0_DEV, .REF_SEL_STATE_RATE_CLAMP,
              .REF_SEL_STATE_SELECTED, .REF_SEL_STATE_SLEWING, .REF_SEL_STATE_STATE] ++ reportFields) s t))) ∧
  (∀ s : State,
    (∀ (m : Master) (k v : Nat), k < 4 → Passes m (0x840010 + 4 * k) s →
      (k = 0 → s.inBounds 1 (bitsAt v 16 16) = true → s.inBounds 0 (bitsAt v 0 16) = true → bitsAt v 0 16 < bitsAt v 16 16 →
        s.get .REF_QUAL_MUTUAL < bitsAt v 16 16 →
        ∃ t, exec (.thresholdWrite m k v) s = .next t ∧ t.get .REF_LIMITS_DISQ = bitsAt v 16 16 ∧ t.get .REF_LIMITS_WARN = bitsAt v 0 16
          ∧ TouchesAt 0 [.REF_LIMITS_DISQ, .REF_LIMITS_WARN] [] s t) ∧
      (k = 3 → bitsAt v 16 16 ≠ 0 → s.inBounds 5 (bitsAt v 16 16) = true → s.inBounds 7 (bitsAt v 0 16) = true →
        ∃ t, exec (.thresholdWrite m k v) s = .next t ∧ t.get .REF_SLOPE_SLOPE = bitsAt v 16 16 ∧ t.get .REF_SLOPE_HOLD_LIMIT = bitsAt v 0 16
          ∧ TouchesAt 0 [.REF_SLOPE_SLOPE, .REF_SLOPE_HOLD_LIMIT] [] s t) ∧
      (k = 3 → bitsAt v 16 16 = 0 →
        ∃ t, exec (.thresholdWrite m k v) s = .next t ∧ Refused 0x04 (wordOf (0x840010 + 4 * k)) m s t
          ∧ Touches (refuseFields ++ reportFields) s t) ∧
      (k ≠ 3 → s.inBounds (thresholdParams k).1 (bitsAt v 16 16) = false →
        ∃ t, exec (.thresholdWrite m k v) s = .next t ∧ Refused 0x94 (wordOf (0x840010 + 4 * k)) m s t
          ∧ Touches (refuseFields ++ reportFields) s t) ∧
      (k = 0 → s.inBounds 1 (bitsAt v 16 16) = true → s.inBounds 0 (bitsAt v 0 16) = true → bitsAt v 16 16 ≤ bitsAt v 0 16 →
        ∃ t, exec (.thresholdWrite m k v) s = .next t ∧ Refused 0x93 (wordOf (0x840010 + 4 * k)) m s t
          ∧ Touches (refuseFields ++ reportFields) s t)) ∧
    (∀ (m : Master) (v : Nat), Passes m 0x840060 s →
      ∃ t, exec (.refSwWrite m v) s = .next t ∧ t.get .REF_SW_VALID = bitsAt v 31 1 ∧ t.get .REF_SW_ALIVE = 1
        ∧ (s.get .REF_SW_VALID = 1 → bitsAt v 31 1 = 0 → Asserted 322 0 s t)
        ∧ Touches ([.REF_SW_VALID, .REF_SW_ALIVE] ++ reportFields) s t) ∧
    (s.get .REF_SW_ALIVE = 1 → s.get .REF_SW_VALID = 1 →
      ∃ t, exec .refSwTimeout s = .next t ∧ t.get .REF_SW_ALIVE = 0 ∧ Asserted 322 0 s t ∧ Touches (.REF_SW_ALIVE :: reportFields) s t) ∧
    (s.running .ref = true →
      (∀ x : Int, ∃ t, exec (.tempRead (some x)) s = .next t ∧ (s.modelFlags / 2 % 2 = 0 → t = s) ∧ (s.modelFlags / 2 % 2 = 1 →
        t.get .REF_TEMP_TEMP = ofSigned 16 x ∧ t.get .REF_TEMP_FAILS = 0 ∧ t.get .REF_TEMP_TEMP_FAULT ≠ 1
          ∧ Touches ([.REF_TEMP_TEMP, .REF_TEMP_FAILS, .REF_TEMP_TEMP_FAULT, .REF_MODEL_STAT_DAYS, .REF_MODEL_STAT_LEARNED,
              .REF_MODEL_STAT_RANGE] ++ reportFields) s t)) ∧
      (s.modelFlags / 2 % 2 = 1 → s.get .REF_TEMP_FAILS = 2 → s.get .REF_TEMP_TEMP_FAULT = 0 →
        ∃ t, exec (.tempRead none) s = .next t ∧ t.get .REF_TEMP_TEMP_FAULT = 1 ∧ t.get .REF_TEMP_TEMP = s.get .REF_TEMP_TEMP
          ∧ Asserted 319 0 s t ∧ Touches ([.REF_TEMP_FAILS, .REF_TEMP_TEMP_FAULT] ++ reportFields) s t) ∧
      (s.get .REF_SEL_STATE_SLEWING = 1 → s.int .REF_K = s.int .REF_RAW (s.get .REF_SEL_STATE_SELECTED) →
        ∃ t, exec .slewComplete s = .next t ∧ t.get .REF_SEL_STATE_SLEWING = 0 ∧ TouchesAt 0 [.REF_SEL_STATE_SLEWING] [] s t) ∧
      (s.get .REF_SEL_STATE_STATE = 3 → s.get .REF_SLOPE_HOLD_LIMIT ≠ 0 → 3600 * s.get .REF_SLOPE_HOLD_LIMIT ≤ s.get .REF_HOLD_SECS →
        ∃ t, exec .holdLimitExpiry s = .next t ∧ t.get .REF_SEL_STATE_STATE = 4 ∧ t.get .REF_SEL_STATE_CAUSE = 8
          ∧ t.get .REF_SEL_STATE_SELECTED = 15 ∧ Asserted 318 0 s t
          ∧ Touches ([.REF_SEL_STATE_STATE, .REF_SEL_STATE_CAUSE, .REF_SEL_STATE_SELECTED, .REF_SEL_STATE_SLEWING, .REF_NOON_RUN, .REF_K]
              ++ reportFields) s t) ∧
      (86400 ≤ s.get .REF_DAY_SECS →
        ∃ t, exec .dailyMean s = .next t ∧ t.get .REF_DAY = (s.get .REF_DAY + 1) % 2 ^ 32 ∧ t.get .REF_DAY_SECS = 0 ∧ t.get .REF_DAY_NOON = 0
          ∧ t.refDaily = (if 72000 ≤ s.get .REF_DAY_NOON
              then ((s.get .REF_DAY, s.int .REF_DAY_SUM / (s.get .REF_DAY_NOON : Int)) :: s.refDaily).take 48 else s.refDaily)
          ∧ Touches [.REF_DAY, .REF_DAY_SECS, .REF_DAY_NOON, .REF_DAY_SUM, .REF_NEXT, .REF_MODEL_STAT_DAYS, .REF_MODEL_STAT_LEARNED,
              .REF_MODEL_STAT_RANGE] { s with refDaily := t.refDaily } t)))

/-! ### The packet engine -/

/-- Received frames (R225, R227, R228, R264, R265, R268): on a MAC that exists and whose lane delivers, a frame with a wrong FCS, or
shorter than 64 or longer than MAX_FRAME bytes, is counted and goes nowhere; a PAUSE frame pauses the port for its time, or ends the
pause; a PFC frame pauses each enabled class that it names; an expired pause ends. That an event whose condition does not hold
changes nothing is DEDUCED (log entry 2). Where the spec leaves a point open it follows the model's reading (log entry 61). -/
def Obligations.FramesAreJudgedAndPause : Prop :=
  ∀ (m : Nat) (s : State), s.macUp m = true →
    (∀ f : RxFrame, f.fcsGood = false →
      ∃ t, exec (.frameReceived m f) s = .next t ∧ t.get .PKT_MAC_RX_FCS_ERR m = satAdd 32 (s.get .PKT_MAC_RX_FCS_ERR m) 1
        ∧ t.get .PKT_MAC_EVT m = (s.get .PKT_MAC_EVT m ||| 4) % 2 ^ 6
        ∧ TouchesAt m [.PKT_MAC_RX_FCS_ERR, .PKT_MAC_EVT] reportFields s t) ∧
    (∀ f : RxFrame, f.fcsGood = true → (f.bytes.length + 4 < 64 ∨ s.get .PKT_MAC_CTRL_MAX_FRAME m < f.bytes.length + 4) →
      ∃ t, exec (.frameReceived m f) s = .next t ∧ t.get .PKT_MAC_RX_DROP m = satAdd 32 (s.get .PKT_MAC_RX_DROP m) 1
        ∧ t.get .PKT_MAC_EVT m = (s.get .PKT_MAC_EVT m ||| 2) % 2 ^ 6 ∧ TouchesAt m [.PKT_MAC_RX_DROP, .PKT_MAC_EVT] reportFields s t) ∧
    (∀ f : RxFrame, f.fcsGood = true → 64 ≤ f.bytes.length + 4 → f.bytes.length + 4 ≤ s.get .PKT_MAC_CTRL_MAX_FRAME m →
      be16 f.bytes 12 = 0x8808 → be16 f.bytes 14 = 1 → s.get .PKT_MAC_CTRL_PAUSE_RX_EN m = 1 →
      ∃ t, exec (.frameReceived m f) s = .next t ∧ t.get .PKT_MAC_RX_FRAMES m = satAdd 32 (s.get .PKT_MAC_RX_FRAMES m) 1
        ∧ t.get .PKT_MAC_PAUSE_RX m = satAdd 32 (s.get .PKT_MAC_PAUSE_RX m) 1 ∧ t.get .PKT_PAUSE_QUANTA m = be16 f.bytes 16 % 2 ^ 16
        ∧ TouchesAt m [.PKT_MAC_RX_FRAMES, .PKT_MAC_PAUSE_RX, .PKT_PAUSE_QUANTA, .PKT_MAC_STAT_PAUSED, .PKT_MAC_EVT] reportFields s t) ∧
    (∀ q : Nat, s.get .PKT_MAC_CTRL_PAUSE_RX_EN m = 1 →
      ∃ t, exec (.pauseFrame m q) s = .next t ∧ t.get .PKT_MAC_PAUSE_RX m = satAdd 32 (s.get .PKT_MAC_PAUSE_RX m) 1
        ∧ t.get .PKT_MAC_RX_FRAMES m = satAdd 32 (s.get .PKT_MAC_RX_FRAMES m) 1
        ∧ t.get .PKT_PAUSE_QUANTA m = q % 2 ^ 16 ∧ t.get .PKT_MAC_STAT_PAUSED m = (if q = 0 then 0 else 1)
        ∧ t.get .PKT_MAC_EVT m = (s.get .PKT_MAC_EVT m ||| 8) % 2 ^ 6
        ∧ TouchesAt m [.PKT_MAC_RX_FRAMES, .PKT_MAC_PAUSE_RX, .PKT_PAUSE_QUANTA, .PKT_MAC_STAT_PAUSED, .PKT_MAC_EVT] reportFields s t) ∧
    (∀ (vector : Nat) (times : List Nat),
      ∃ t, exec (.pfcFrame m vector times) s = .next t ∧ t.get .PKT_MAC_RX_FRAMES m = satAdd 32 (s.get .PKT_MAC_RX_FRAMES m) 1 ∧ t.get .PKT_MAC_PFC_RX m = satAdd 32 (s.get .PKT_MAC_PFC_RX m) 1
        ∧ (∀ k < 8, bitsAt vector k 1 = 1 → bitsAt (s.get .PKT_MAC_CTRL_PFC_EN m) k 1 = 1 →
            t.get .PKT_PFC_QUANTA (8 * m + k) = times.getD k 0 % 2 ^ 16
              ∧ bitsAt (t.get .PKT_MAC_STAT_PFC_PAUSED m) k 1 = (if times.getD k 0 = 0 then 0 else 1))
        ∧ (∀ k < 8, bitsAt vector k 1 = 0 ∨ bitsAt (s.get .PKT_MAC_CTRL_PFC_EN m) k 1 = 0 →
            t.get .PKT_PFC_QUANTA (8 * m + k) = s.get .PKT_PFC_QUANTA (8 * m + k)
              ∧ bitsAt (t.get .PKT_MAC_STAT_PFC_PAUSED m) k 1 = bitsAt (s.get .PKT_MAC_STAT_PFC_PAUSED m) k 1)
        ∧ TouchesAt m [.PKT_MAC_RX_FRAMES, .PKT_MAC_PFC_RX, .PKT_MAC_STAT_PFC_PAUSED, .PKT_MAC_EVT] (.PKT_PFC_QUANTA :: reportFields) s t) ∧
    (∃ t, exec (.pauseExpiry m none) s = .next t ∧ t.get .PKT_MAC_STAT_PAUSED m = 0 ∧ t.get .PKT_PAUSE_QUANTA m = 0
      ∧ TouchesAt m [.PKT_MAC_STAT_PAUSED, .PKT_PAUSE_QUANTA] [] s t) ∧
    (∀ k < 8, ∃ t, exec (.pauseExpiry m (some k)) s = .next t ∧ bitsAt (t.get .PKT_MAC_STAT_PFC_PAUSED m) k 1 = 0
      ∧ (∀ j < 8, j ≠ k → bitsAt (t.get .PKT_MAC_STAT_PFC_PAUSED m) j 1 = bitsAt (s.get .PKT_MAC_STAT_PFC_PAUSED m) j 1)
      ∧ t.get .PKT_PFC_QUANTA (8 * m + k) = 0 ∧ TouchesAt m [.PKT_MAC_STAT_PFC_PAUSED] [.PKT_PFC_QUANTA] s t)

/-- Streams in and out (R233, R236 to R238, R240, R244): a receive entry that gets no valid packet is lost, as a pair only when both
legs are; a media packet whose content has left carries that content behind its template's header, with the sequence number and
timestamp of its frame and its index in the RTP fields, and takes the next identification of its template; one told with another
length, field or marker is none that leaves; a late one is counted. Large sends (R245, R246, R253): a sound item is cut into packets
of MSS bytes, the last one shorter, which leave in order as far as they may start, all of them where no gate list runs; an unsound
one sends nothing and completes with its code, which raises source 286; one whose completion queue is not enabled is discarded with
a refusal; a completed one leaves its queue, and its completion goes to its completion queue. Timed frames (R286 to R288): an item
whose time can be kept is held until its launch time or begun at once; one whose time cannot be kept, or that is malformed, is
discarded with a refusal; a begun one departs with its departure time inserted and leaves its queue. That an event whose condition
does not hold changes nothing is DEDUCED (log entry 2). Where the spec leaves a point open it follows the model's reading (log
entries 8, 61, 62, 118, 119, 122, 124 and 134). -/
def Obligations.PacketsAndItemsAreSent : Prop :=
  ((∀ (n : Nat) (s : State), s.running .rx n = true →
    (s.paired n = false → s.get .PKT_RX_LOST n = 0 →
      ∃ t, exec (.rxEntryLost n) s = .next t ∧ t.get .PKT_RX_LOST n = 1 ∧ Asserted 280 0 s t
        ∧ Touches ([.PKT_RX_LOST, .PKT_INPUT_LOST, .PKT_AUDIO_LOST, .ATL_IN_STAT_LOST, .IN_GOOD] ++ reportFields) s t) ∧
    (s.paired n = true → s.get .PKT_RX_LEG_LOST n = 0 → s.get .PKT_RX_LEG_LOST (s.get .PKT_RX_PARTNER n) = 0 →
      ∃ t, exec (.rxEntryLost n) s = .next t ∧ t.get .PKT_RX_LEG_LOST n = 1 ∧ t.get .PKT_RX_LOST n = s.get .PKT_RX_LOST n ∧ Asserted 281 0 s t
        ∧ TouchesAt n [.PKT_RX_LEG_LOST] reportFields s t)) ∧
  (∀ (e n k : Nat) (legB : Bool) (s : State),
    let mac := s.get (if legB then .PKT_TX_MAC_B else .PKT_TX_MAC_A) e
    let tpl := 2 * e + legB.toNat
    s.sending e = true → s.get .PKT_TX_KIND e ≠ 7 → (legB = true → s.get .PKT_TX_DUAL e = 1) → ∀ body : List Byte,
    s.mediaPayload e n k = some body →
    (∀ (len : Nat) (second last : Bool), s.packetShape e k body ≠ (len, second, last) →
      exec (.mediaPacketSend e legB n k len second last) s = .next s) ∧
    (s.mayStart mac (s.tplHeader tpl) (s.tplByte tpl 62 + body.length) = true →
    ∀ (len : Nat) (second last : Bool), s.packetShape e k body = (len, second, last) →
    ∃ t, exec (.mediaPacketSend e legB n k len second last) s = .next t
      ∧ (∃ h : List Byte, t.out = .media mac h body (s.rtpFields e n k).1 (s.rtpFields e n k).2 last
            ⟨s.get .PKT_TX_KIND e, s.get .PKT_TX_TARGET e, n, k⟩ :: s.out
          ∧ (s.tplGood tpl = true → h.length = s.tplByte tpl 62 ∧ h.take 14 = (s.tplHeader tpl).take 14)
          ∧ (s.tplGood tpl = true → s.tplByte tpl 63 % 4 = 2 →
              be16 h 44 = (s.rtpFields e n k).1 % 65536 ∧ be32 h 46 = (s.rtpFields e n k).2 ∧ be16 h 16 = (40 + body.length) % 65536))
      ∧ (s.get .PKT_TX_KIND e = 1 → s.rtpFields e n k
          = ((n * s.get .PKT_TX_PKTS_PER_FRAME e + k) % 2 ^ 32,
             (2 * n + (s.txSecond e k).toNat) * (framePeriod (s.txFormat e)).1 * 90000 / (2 * (framePeriod (s.txFormat e)).2) % 2 ^ 32))
      ∧ t.tplByte tpl 60 + 256 * t.tplByte tpl 61 = (s.tplByte tpl 60 + 256 * s.tplByte tpl 61 + 1) % 65536
      ∧ t.get .PKT_TX_SENT e = (s.get .PKT_TX_SENT e + 1) % 2 ^ 32
      ∧ t.get .PKT_MAC_TX_FRAMES mac = satAdd 32 (s.get .PKT_MAC_TX_FRAMES mac) 1
      ∧ (∀ i, i ≠ 16 * tpl + 15 → t.get .PKT_TPL i = s.get .PKT_TPL i) ∧ (∀ i, i ≠ e → t.get .PKT_TX_SENT i = s.get .PKT_TX_SENT i)
      ∧ (∀ i, i ≠ mac → t.get .PKT_MAC_TX_FRAMES i = s.get .PKT_MAC_TX_FRAMES i)
      ∧ Touches [.PKT_TPL, .PKT_TX_SENT, .PKT_MAC_TX_FRAMES] s t)) ∧
  (∀ (e : Nat) (s : State), s.sending e = true → s.get .PKT_TX_KIND e ≠ 7 →
    ∃ t, exec (.txPacketLate e) s = .next t ∧ t.get .PKT_TX_LATE e = satAdd 32 (s.get .PKT_TX_LATE e) 1 ∧ Asserted 282 0 s t
      ∧ TouchesAt e [.PKT_TX_LATE] reportFields s t)) ∧
  (∀ (e mac : Nat) (it : Item) (l : LargeSend) (s : State), s.qHead (s.get .PKT_TX_TARGET e) = some it → l = largeOf it.payload →
    mac = s.get .PKT_TX_MAC_A e →
    (s.takesFrom e = true → s.workOf e = none → itemType it.header = 0x10 →
      (∀ bad : Option Nat, s.largeDiscard l = 0 → s.largeCode e it.header l bad = 0 →
        s.mayStart mac (s.tplHeader l.tpl) (s.tplByte l.tpl 62 + min l.mss l.len) = true →
        ∃ t left k, exec (.largeSend ⟨e, bad⟩) s = .next t ∧ k = (l.len + l.mss - 1) / l.mss ∧ left < k ∧ (s.running .gcl mac = false → left = 0)
          ∧ t.txWork = ⟨e, false, false, k - left, left, 0⟩ :: s.txWork.filter (fun x => x.tx != e)
          ∧ t.out.length = s.out.length + (k - left)
          ∧ (∀ i < k - left, ∃ h : List Byte, t.out[k - left - 1 - i]?
              = some (.frame mac (h ++ ((s.payloadBytes l.addr l.len).drop (i * l.mss)).take l.mss) false))
          ∧ Touches [.PKT_TX_SENT, .PKT_MAC_TX_FRAMES, .PKT_TPL] { s with txWork := t.txWork } t) ∧
      (∀ (bad : Option Nat) (c : Nat), s.largeDiscard l = 0 → s.largeCode e it.header l bad = c → c ≠ 0 →
        ∃ t, exec (.largeSend ⟨e, bad⟩) s = .next t ∧ t.txWork = ⟨e, false, false, 0, 0, c⟩ :: s.txWork
          ∧ (bad = none → t = { s with txWork := t.txWork })
          ∧ Touches ([.BUS_SRAM_ECC_UNCOR, .BUS_SRAM_ADDR, .FLT_HBM_UNCOR, .FLT_HBM_ADDR_LO, .FLT_HBM_ADDR_HI] ++ reportFields)
              { s with txWork := t.txWork } t) ∧
      (∀ bad : Option Nat, s.largeDiscard l ≠ 0 →
        ∃ t, exec (.largeSend ⟨e, bad⟩) s = .next t
          ∧ (s.get .PKT_TX_TARGET e < 65536 → Refused (s.largeDiscard l) (wordOf (queueOff (s.get .PKT_TX_TARGET e) 2)) (.agent 0) s t)
          ∧ t.get .PKT_Q_PTR_CONS (s.get .PKT_TX_TARGET e)
              = s.qAdvance (s.get .PKT_TX_TARGET e) (s.get .PKT_Q_PTR_CONS (s.get .PKT_TX_TARGET e)) (1 + itemLen it.header) % 2 ^ 25
          ∧ TouchesAt (s.get .PKT_TX_TARGET e) [.PKT_Q_PTR_CONS, .PKT_Q_ITEM_ECC] (refuseFields ++ reportFields) s t)) ∧
    (∀ (w : TxWork) (bad : Option Nat), s.workOf e = some w → s.sending e = true → w.timed = false → w.left ≠ 0 → 0 < l.mss →
      w.packets + w.left = ((s.payloadBytes l.addr l.len).length + l.mss - 1) / l.mss →
      ∃ t left, exec (.largeSend ⟨e, bad⟩) s = .next t ∧ left ≤ w.left
        ∧ t.txWork = ⟨e, false, false, w.packets + w.left - left, left, 0⟩ :: s.txWork.filter (fun x => x.tx != e)
        ∧ t.out.length = s.out.length + (w.left - left)
        ∧ (∀ i < w.left - left, ∃ h : List Byte, t.out[w.left - left - 1 - i]?
            = some (.frame mac (h ++ ((s.payloadBytes l.addr l.len).drop ((w.packets + i) * l.mss)).take l.mss) false))
        ∧ Touches [.PKT_TX_SENT, .PKT_MAC_TX_FRAMES, .PKT_TPL] { s with txWork := t.txWork } t) ∧
    (∀ w : TxWork, s.workOf e = some w → w.timed = false → w.left = 0 →
      (l.complete = false →
        ∃ t, exec (.largeSendComplete e) s = .next t ∧ t.txWork = s.txWork.filter (fun x => x.tx != e) ∧ t.mem = s.mem
          ∧ t.get .PKT_Q_PTR_CONS (s.get .PKT_TX_TARGET e)
              = s.qAdvance (s.get .PKT_TX_TARGET e) (s.get .PKT_Q_PTR_CONS (s.get .PKT_TX_TARGET e)) (1 + itemLen it.header) % 2 ^ 25
          ∧ (w.code ≠ 0 → Asserted 286 0 s t)
          ∧ TouchesAt (s.get .PKT_TX_TARGET e) [.PKT_Q_PTR_CONS, .PKT_Q_ITEM_ECC] reportFields { s with txWork := t.txWork } t) ∧
      (l.complete = true → s.cqCode l.cq = 0 → l.cq ≠ s.get .PKT_TX_TARGET e → s.get .PKT_Q_STAT_FLUSHING l.cq = 0 →
        s.qOccupancy l.cq + 2 ≤ s.qSize l.cq →
        ∃ t, exec (.largeSendComplete e) s = .next t ∧ t.txWork = s.txWork.filter (fun x => x.tx != e)
          ∧ t.get .PKT_Q_PTR_PROD l.cq = s.qAdvance l.cq (s.get .PKT_Q_PTR_PROD l.cq) 2 % 2 ^ 25
          ∧ (w.code ≠ 0 → Asserted 286 0 s t)
          ∧ Touches ([.PKT_Q_PTR_PROD, .PKT_Q_PTR_CONS, .PKT_Q_ITEM_ECC, .PKT_Q_PENDING, .PKT_Q_STAT_WMARK_C] ++ reportFields)
              { s with txWork := t.txWork, mem := t.mem } t))) ∧
  (∀ (e mac : Nat) (it : Item) (s : State), s.qHead (s.get .PKT_TX_TARGET e) = some it → mac = s.get .PKT_TX_MAC_A e →
    (s.takesFrom e = true → s.workOf e = none → itemType it.header = 0x20 →
      (s.timedCode e it (timedOf it) = 0 →
        exec (.timedFrame e) s
          = .next { s with txWork := ⟨e, true, (timedOf it).launch && decide (0 < s.launchDelta (timedOf it)), 0, 1, 0⟩ :: s.txWork }) ∧
      (s.timedCode e it (timedOf it) ≠ 0 → (timedOf it).report = false → s.get .PKT_TX_TARGET e < 65536 →
        ∃ t, exec (.timedFrame e) s = .next t
          ∧ Refused (s.timedCode e it (timedOf it)) (wordOf (queueOff (s.get .PKT_TX_TARGET e) 2)) (.agent 0) s t
          ∧ t.get .PKT_Q_PTR_CONS (s.get .PKT_TX_TARGET e)
              = s.qAdvance (s.get .PKT_TX_TARGET e) (s.get .PKT_Q_PTR_CONS (s.get .PKT_TX_TARGET e)) (1 + itemLen it.header) % 2 ^ 25
          ∧ Touches ([.PKT_Q_PTR_CONS, .PKT_Q_ITEM_ECC, .TIM_TB_EVT] ++ refuseFields ++ reportFields) { s with txWork := t.txWork } t)) ∧
    (∀ w : TxWork, s.workOf e = some w → w.held = true → s.takesFrom e = true → s.launchDelta (timedOf it) ≤ 0 →
      ∃ t, exec (.launchTime e) s = .next t ∧ t = { s with txWork := t.txWork } ∧ t.workOf e = some { w with held := false }) ∧
    (∀ (w : TxWork) (q : Nat), s.workOf e = some w → w.timed = true → w.held = false → s.sending e = true →
      s.mayStart mac (timedOf it).bytes (timedOf it).bytes.length = true →
      ∃ t, exec (.timedFrameDeparture e q) s = .next t ∧ t.txWork = s.txWork.filter (fun x => x.tx != e)
        ∧ t.out = .frame mac (insertDeparture (timedOf it) (stampOfTime (s.tbAt (timedOf it).tb q (toSigned 20 (s.get .TIM_MAC_TX_ADJ mac)))))
            false :: s.out
        ∧ t.get .PKT_TX_SENT e = (s.get .PKT_TX_SENT e + 1) % 2 ^ 32
        ∧ ((timedOf it).report = false → t.get .PKT_Q_PTR_CONS (s.get .PKT_TX_TARGET e)
            = s.qAdvance (s.get .PKT_TX_TARGET e) (s.get .PKT_Q_PTR_CONS (s.get .PKT_TX_TARGET e)) (1 + itemLen it.header) % 2 ^ 25)
        ∧ ((timedOf it).report = false → Touches [.PKT_TX_SENT, .PKT_MAC_TX_FRAMES, .PKT_Q_PTR_CONS, .PKT_Q_ITEM_ECC] { s with txWork := t.txWork } t)
        ∧ ((timedOf it).report = true → s.cqCode (timedOf it).cq = 0 → (timedOf it).cq ≠ s.get .PKT_TX_TARGET e →
            s.get .PKT_Q_STAT_FLUSHING (timedOf it).cq = 0 → s.qOccupancy (timedOf it).cq + 3 ≤ s.qSize (timedOf it).cq →
            t.get .PKT_Q_PTR_PROD (timedOf it).cq = s.qAdvance (timedOf it).cq (s.get .PKT_Q_PTR_PROD (timedOf it).cq) 3 % 2 ^ 25
              ∧ Touches ([.PKT_TX_SENT, .PKT_MAC_TX_FRAMES, .PKT_Q_PTR_PROD, .PKT_Q_PTR_CONS, .PKT_Q_ITEM_ECC, .PKT_Q_PENDING, .PKT_Q_STAT_WMARK_C]
                  ++ reportFields) { s with txWork := t.txWork, mem := t.mem } t)))

/-- Gate lists (R260 to R263): CHANGE latches a sound administrative list with the first cycle start that is BASE plus whole cycles and
not before now, and is refused with the code of what is wrong; at that start the list becomes operational; cycles and entries follow
in order; a frame without a window is counted. CHANGE written to a gate list that is not enabled and that the write leaves so: the
administrative list is judged, a sound one leaves nothing pending. That nothing stays pending is the model's choice (log entry 126).
Where the spec leaves a point open it follows the model's reading (log entries 63 and 123). -/
def Obligations.GateListsRunInCycles : Prop :=
  (∀ (m : Nat) (s : State), m < 96 →
    (∀ (w : Master) (v : Nat) (u : State), u = (s.put .PKT_GCL_CTRL_TB m (bitsAt v 29 3)).put .PKT_GCL_CTRL_LIST_LEN m (bitsAt v 16 11) →
      Passes w (gclOff m) s → s.unitEn ⟨.gcl, m⟩ = true → v % 2 = 1 → s.get .CHECK_BUSY ((⟨.gcl, m⟩ : UnitId).code) = 0 →
      (u.gateCode m = 0 → s.running .gcl m = true →
        ∃ t x, exec (.gclChange w m v) s = .next t ∧ (t.gateOf m).pending = some (u.adminConf m, x) ∧ (t.gateOf m).oper = (s.gateOf m).oper
          ∧ t.get .PKT_GCL_STAT_PENDING m = 1
          ∧ (∃ n, x.1 * (u.adminConf m).den + x.2 = (u.adminConf m).base * (u.adminConf m).den + n * (u.adminConf m).num
              ∧ (s.tbNs (u.adminConf m).tb) * (u.adminConf m).den ≤ x.1 * (u.adminConf m).den + x.2
              ∧ (n = 0 ∨ (u.adminConf m).base * (u.adminConf m).den + (n - 1) * (u.adminConf m).num
                  < (s.tbNs (u.adminConf m).tb + 1) * (u.adminConf m).den))
          ∧ TouchesAt m [.PKT_GCL_CTRL_TB, .PKT_GCL_CTRL_LIST_LEN, .PKT_GCL_STAT_PENDING, .PKT_GCL_STAT_RUNNING, .PKT_GCL_STAT_ENTRY] []
              { s with gates := t.gates } t) ∧
      (u.gateCode m ≠ 0 →
        ∃ t, exec (.gclChange w m v) s = .next t ∧ Refused (u.gateCode m) (wordOf (gclOff m)) w s t ∧ t.gates = s.gates
          ∧ Touches ([.PKT_GCL_CTRL_TB, .PKT_GCL_CTRL_LIST_LEN] ++ refuseFields ++ reportFields) s t)) ∧
    (s.running .gcl m = true →
      (∀ (c : GateConf) (x : Nat × Nat), (s.gateOf m).pending = some (c, x) → s.reached c x = true →
        ∃ t, exec (.gclCycleStart m) s = .next t ∧ (t.gateOf m).oper = some c ∧ (t.gateOf m).pending = none ∧ (t.gateOf m).cur = x
          ∧ (t.gateOf m).entry = 0 ∧ t.get .PKT_GCL_STAT_RUNNING m = 1 ∧ t.get .PKT_GCL_STAT_PENDING m = 0 ∧ Asserted 283 0 s t
          ∧ TouchesAt m [.PKT_GCL_STAT_PENDING, .PKT_GCL_STAT_RUNNING, .PKT_GCL_STAT_ENTRY] reportFields { s with gates := t.gates } t) ∧
      (∀ c : GateConf, (s.gateOf m).pending = none → (s.gateOf m).oper = some c → s.reached c (s.gateOf m).next = true →
        ∃ t, exec (.gclCycleStart m) s = .next t ∧ (t.gateOf m).cur = (s.gateOf m).next ∧ (t.gateOf m).entry = 0
          ∧ (t.gateOf m).oper = some c
          ∧ TouchesAt m [.PKT_GCL_STAT_PENDING, .PKT_GCL_STAT_RUNNING, .PKT_GCL_STAT_ENTRY] [] { s with gates := t.gates } t) ∧
      (∀ c : GateConf, (s.gateOf m).oper = some c → (s.gateOf m).entry + 1 < c.entries.length →
        s.reached c ((s.gateOf m).cur.1 + ((c.entries.take ((s.gateOf m).entry + 1)).map (·.2)).sum, (s.gateOf m).cur.2) = true →
        ((c.entries.take ((s.gateOf m).entry + 1)).map (·.2)).sum * c.den < c.num →
        ∃ t, exec (.gateChange m) s = .next t ∧ (t.gateOf m).entry = (s.gateOf m).entry + 1 ∧ (t.gateOf m).cur = (s.gateOf m).cur
          ∧ t.get .PKT_GCL_STAT_ENTRY m = ((s.gateOf m).entry + 1) % 2 ^ 11
          ∧ TouchesAt m [.PKT_GCL_STAT_PENDING, .PKT_GCL_STAT_RUNNING, .PKT_GCL_STAT_ENTRY] [] { s with gates := t.gates } t) ∧
      ((s.gateOf m).oper.isSome = true →
        ∃ t, exec (.gateDrop m) s = .next t ∧ t.get .PKT_MAC_GATE_DROP m = satAdd 32 (s.get .PKT_MAC_GATE_DROP m) 1 ∧ Asserted 284 0 s t
          ∧ TouchesAt m [.PKT_MAC_GATE_DROP, .PKT_MAC_EVT] reportFields s t))) ∧
  (∀ (m v : Nat) (w : Master) (s : State), m < 96 → Passes w (gclOff m) s → s.unitEn ⟨.gcl, m⟩ = false → s.running .gcl m = false →
    v % 2 = 0 → s.get .CHECK_BUSY ((⟨.gcl, m⟩ : UnitId).code) = 0 →
    ∀ u : State, u = (s.put .PKT_GCL_CTRL_TB m (bitsAt v 29 3)).put .PKT_GCL_CTRL_LIST_LEN m (bitsAt v 16 11) →
    ∃ t, exec (.gclChange w m v) s = .next t ∧ t.gates = s.gates
      ∧ (u.gateCode m = 0 → TouchesAt m [.PKT_GCL_CTRL_TB, .PKT_GCL_CTRL_LIST_LEN] [] s t)
      ∧ (u.gateCode m ≠ 0 → Refused (u.gateCode m) (wordOf (gclOff m)) w s t))

/-! ### Media lanes -/

/-- The detectors of a lane (R198, R205, R211, R212, R214, R217, R223): loss of signal takes lock with it; lock comes back only with a
signal that the mode carries and whose offset lies within 200 ppm, which FREQ shows either way; each change sets its cause of
LAN_EVT; a skew beyond two lines is a cause; entries of the receive queue wait, are corrected, are discarded where 64 wait or as
they are read, or fail their check: each is counted, an uncorrectable one as uncorrected-contained. Transmit PLLs and tests (R200,
R218, R219): a PLL that locks or loses lock changes its quad's status, and a loss is a cause of every running lane of the quad;
LAN_TEST takes a permitted pattern and loopback, which the lane then sends in place of its content, and refuses the write in Quiet
and Safe (0x08), a reserved code (0x04) and a test of an unused side (0x57); the checker locks after 64 error-free bits of its
polynomial, and counts each wrong bit once it is locked. Where the spec leaves a point open it follows the model's reading (log
entries 58, 59, 107, 116, 117 and 120). -/
def Obligations.LanesDetectAndTest : Prop :=
  (∀ (l : Nat) (s : State), s.running .lane l = true →
    (s.get .LAN_STAT_LOS l = 0 →
      ∃ t, exec (.losSet l) s = .next t ∧ t.get .LAN_STAT_LOS l = 1 ∧ t.get .LAN_STAT_LOCK l = 0
        ∧ t.get .LAN_EVT l = (s.get .LAN_EVT l ||| (if s.get .LAN_STAT_LOCK l = 1 then 3 else 1)) % 2 ^ 8
        ∧ (l < 96 → l % 4 = 0 → s.get .LAN_BIND_RX_KIND l = 1 → s.running .input (s.get .LAN_BIND_RX_TARGET l) = true →
            s.inputLane (s.get .LAN_BIND_RX_TARGET l) = some l → t.get .ATL_IN_STAT_LOST (s.get .LAN_BIND_RX_TARGET l) = 1)
        ∧ TouchesAt l [.LAN_STAT_LOS, .LAN_STAT_LOCK, .LAN_EVT] (followFields ++ reportFields) s t) ∧
    (∀ freq : Int, s.get .LAN_STAT_LOS l = 1 →
      ∃ t, exec (.losClear l freq) s = .next t ∧ t.get .LAN_STAT_LOS l = 0 ∧ t.get .LAN_STAT_LOCK l = s.get .LAN_STAT_LOCK l
        ∧ t.get .LAN_STAT_FREQ l = ofSigned 16 (clampInt (-20000) 20000 freq) ∧ t.get .LAN_EVT l = (s.get .LAN_EVT l ||| 1) % 2 ^ 8
        ∧ TouchesAt l [.LAN_STAT_LOS, .LAN_STAT_FREQ, .LAN_EVT] reportFields s t) ∧
    (∀ (fmt depth : Nat) (freq : Int), s.get .LAN_STAT_LOS l = 0 → s.get .LAN_STAT_LOCK l = 0 → s.rxMode l ≠ 0 → -2000 ≤ freq → freq ≤ 2000 →
      (isSdi (s.rxMode l) = true → modeCarries (s.rxMode l) false fmt depth = true) →
      ∃ t, exec (.lockAcquired l fmt depth freq) s = .next t ∧ t.get .LAN_STAT_LOCK l = 1 ∧ t.get .LAN_STAT_LOS l = 0
        ∧ t.get .LAN_STAT_FREQ l = ofSigned 16 (clampInt (-20000) 20000 freq) ∧ t.get .LAN_EVT l = (s.get .LAN_EVT l ||| 2) % 2 ^ 8
        ∧ TouchesAt l [.LAN_STAT_LOCK, .LAN_STAT_FREQ, .LAN_EVT] ([.ATL_IN_STAT_FMT_ERR, .IN_DETECTED, .IN_FMT, .IN_DEPTH] ++ followFields ++ reportFields) s t) ∧
    (∀ (fmt depth : Nat) (freq : Int), s.get .LAN_STAT_LOS l = 0 → s.get .LAN_STAT_LOCK l = 0 →
      (s.rxMode l = 0 ∨ freq < -2000 ∨ 2000 < freq ∨ (isSdi (s.rxMode l) = true ∧ modeCarries (s.rxMode l) false fmt depth = false
        ∧ s.rxGrouped l = false)) →
      ∃ t, exec (.lockAcquired l fmt depth freq) s = .next t ∧ t.get .LAN_STAT_LOCK l = 0
        ∧ t.get .LAN_STAT_FREQ l = ofSigned 16 (clampInt (-20000) 20000 freq) ∧ TouchesAt l [.LAN_STAT_FREQ] [] s t) ∧
    (s.get .LAN_STAT_LOCK l = 1 →
      ∃ t, exec (.lockLost l) s = .next t ∧ t.get .LAN_STAT_LOCK l = 0 ∧ t.get .LAN_STAT_LOS l = s.get .LAN_STAT_LOS l
        ∧ t.get .LAN_EVT l = (s.get .LAN_EVT l ||| 2) % 2 ^ 8
        ∧ TouchesAt l [.LAN_STAT_LOCK, .LAN_EVT] (followFields ++ reportFields) s t) ∧
    (∀ beyond : Bool, s.get .LAN_BIND_RX_QUAD l = 1 → s.flag .LAN_STAT_QUAD_SKEW l = !beyond →
      ∃ t, exec (.quadSkew l beyond) s = .next t ∧ t.get .LAN_STAT_QUAD_SKEW l = beyond.toNat
        ∧ t.get .LAN_EVT l = (if beyond then (s.get .LAN_EVT l ||| 64) % 2 ^ 8 else s.get .LAN_EVT l)
        ∧ (beyond = true → s.running .input (s.get .LAN_BIND_RX_TARGET l) = true → s.inputLane (s.get .LAN_BIND_RX_TARGET l) = some l →
            l % 4 = 0 → l < 96 → s.get .LAN_BIND_RX_KIND l = 1 → t.get .ATL_IN_STAT_LOST (s.get .LAN_BIND_RX_TARGET l) = 1)
        ∧ TouchesAt l [.LAN_STAT_QUAD_SKEW, .LAN_EVT] (followFields ++ reportFields) s t) ∧
    (∀ (drained wrong line first count : Nat), s.get .LAN_RXQ_FILL l < 64 + drained →
      (wrong = 0 → ∃ t, exec (.rxqEntry l (.entry drained wrong line first count)) s = .next t
        ∧ t.get .LAN_RXQ_FILL l = s.get .LAN_RXQ_FILL l - drained + 1 ∧ TouchesAt l [.LAN_RXQ_FILL] [] s t) ∧
      (wrong = 1 → ∃ t, exec (.rxqEntry l (.entry drained wrong line first count)) s = .next t
        ∧ t.get .LAN_RXQ_FILL l = s.get .LAN_RXQ_FILL l - drained + 1 ∧ t.get .LAN_ECC_COR l = satAdd 32 (s.get .LAN_ECC_COR l) 1
        ∧ TouchesAt l [.LAN_RXQ_FILL, .LAN_ECC_COR] [] s t) ∧
      (wrong = 2 → ∃ t, exec (.rxqEntry l (.entry drained wrong line first count)) s = .next t
        ∧ t.get .LAN_RXQ_DROP l = satAdd 32 (s.get .LAN_RXQ_DROP l) 1
        ∧ t.holes = (s.inputServed l).toList.map (fun i => ⟨i, line, first, count⟩) ++ s.holes
        ∧ (bitsAt (s.get .LAN_EVT l) 4 1 = 0 → bitsAt (s.get .LAN_EVT_EN l) 4 1 = 1 → l < 184 → Asserted l 2 s t)
        ∧ TouchesAt l [.LAN_RXQ_FILL, .LAN_RXQ_DROP, .LAN_EVT] reportFields { s with holes := t.holes } t)) ∧
    (∀ (drained wrong line first count : Nat), 64 + drained ≤ s.get .LAN_RXQ_FILL l →
      ∃ t, exec (.rxqEntry l (.entry drained wrong line first count)) s = .next t
        ∧ t.get .LAN_RXQ_DROP l = satAdd 32 (s.get .LAN_RXQ_DROP l) 1
        ∧ t.get .LAN_EVT l = (s.get .LAN_EVT l ||| 8) % 2 ^ 8
        ∧ t.holes = (s.inputServed l).toList.map (fun i => ⟨i, line, first, count⟩) ++ s.holes
        ∧ TouchesAt l [.LAN_RXQ_FILL, .LAN_RXQ_DROP, .LAN_EVT] reportFields { s with holes := t.holes } t) ∧
    (∃ t, exec (.rxqEntry l .fecCorrected) s = .next t ∧ t.get .LAN_FEC_COR l = satAdd 32 (s.get .LAN_FEC_COR l) 1
      ∧ TouchesAt l [.LAN_FEC_COR] [] s t) ∧
    (∃ t, exec (.rxqEntry l .mismatch) s = .next t ∧ t.get .LAN_CRC_ERR l = satAdd 32 (s.get .LAN_CRC_ERR l) 1
      ∧ t.get .LAN_EVT l = (s.get .LAN_EVT l ||| 4) % 2 ^ 8 ∧ TouchesAt l [.LAN_CRC_ERR, .LAN_EVT] reportFields s t)) ∧
  ((∀ (q : Nat) (s : State),
    (s.running .lane (4 * q) = true → ∃ t, exec (.quadPllLock q) s = .next t ∧ t.get .LAN_QUAD_STAT_PLL_LOCK q = 1
      ∧ TouchesAt q [.LAN_QUAD_STAT_PLL_LOCK] [] s t) ∧
    (∀ k < 4, s.running .lane (4 * q + k) = true → s.get .LAN_QUAD_STAT_PLL_LOCK q = 0 →
      ∃ t, exec (.quadPllLock q) s = .next t ∧ t.get .LAN_QUAD_STAT_PLL_LOCK q = 1 ∧ TouchesAt q [.LAN_QUAD_STAT_PLL_LOCK] [] s t) ∧
    (s.get .LAN_QUAD_STAT_PLL_LOCK q = 1 → ∃ t, exec (.quadPllLoss q) s = .next t ∧ t.get .LAN_QUAD_STAT_PLL_LOCK q = 0
      ∧ (∀ k < 4, s.running .lane (4 * q + k) = true → t.get .LAN_EVT (4 * q + k) = (s.get .LAN_EVT (4 * q + k) ||| 128) % 2 ^ 8)
      ∧ TouchesAt q [.LAN_QUAD_STAT_PLL_LOCK] (.LAN_EVT :: reportFields) s t)) ∧
  (∀ (m : Master) (l v : Nat) (s : State), l < 184 → Passes m (0x300040 + 0x800 * l) s →
    (s.get .PWR_STAT_STATE ≠ 4 → s.get .PWR_STAT_STATE ≠ 5 → bitsAt v 8 2 ≠ 3 → bitsAt v 4 3 ≤ 5 → bitsAt v 0 3 ≤ 5 →
      (bitsAt v 8 2 = 2 → s.rxMode l = s.txMode l) → (bitsAt v 4 3 ≠ 0 → s.txMode l ≠ 0) → (bitsAt v 0 3 ≠ 0 → s.rxMode l ≠ 0) →
      ∃ t, exec (.lanTestWrite m l v) s = .next t ∧ t.get .LAN_TEST_LOOP l = bitsAt v 8 2 ∧ t.get .LAN_TEST_PRBS_TX l = bitsAt v 4 3
        ∧ t.get .LAN_TEST_PRBS_RX l = bitsAt v 0 3 ∧ t.get .LAN_TEST_PRBS_LOCK l = 0
        ∧ (s.txReady l = true → (bitsAt v 4 3 ≠ 0 ∨ bitsAt v 8 2 = 2) → .laneTest l (bitsAt v 8 2) (bitsAt v 4 3) ∈ t.out)
        ∧ TouchesAt l [.LAN_TEST_LOOP, .LAN_TEST_PRBS_TX, .LAN_TEST_PRBS_RX, .LAN_TEST_PRBS_LOCK, .LAN_PRBS_SR, .LAN_PRBS_RUN] (followFields ++ reportFields) s t) ∧
    ((s.get .PWR_STAT_STATE = 4 ∨ s.get .PWR_STAT_STATE = 5) →
      ∃ t, exec (.lanTestWrite m l v) s = .next t ∧ Refused 0x08 (wordOf (0x300040 + 0x800 * l)) m s t
        ∧ t.get .LAN_TEST_LOOP l = s.get .LAN_TEST_LOOP l ∧ t.get .LAN_TEST_PRBS_TX l = s.get .LAN_TEST_PRBS_TX l
        ∧ Touches (followFields ++ refuseFields ++ reportFields) s t) ∧
    (s.get .PWR_STAT_STATE = 2 → bitsAt v 8 2 ≠ 3 → bitsAt v 4 3 ≤ 5 → bitsAt v 0 3 ≤ 5 → bitsAt v 4 3 ≠ 0 → s.txMode l = 0 →
      ∃ t, exec (.lanTestWrite m l v) s = .next t ∧ Refused 0x57 (wordOf (0x300040 + 0x800 * l)) m s t
        ∧ t.get .LAN_TEST_PRBS_TX l = s.get .LAN_TEST_PRBS_TX l
        ∧ Touches (followFields ++ refuseFields ++ reportFields) s t)) ∧
  (∀ (l : Nat) (bits : List Bool) (s : State), s.running .lane l = true → s.get .LAN_TEST_PRBS_RX l ≠ 0 →
    ∃ t, exec (.prbsCheckerLock l bits) s = .next t
      ∧ TouchesAt l [.LAN_TEST_PRBS_LOCK, .LAN_PRBS_ERR, .LAN_PRBS_SR, .LAN_PRBS_RUN, .LAN_EVT] reportFields s t
      ∧ (s.get .LAN_TEST_PRBS_LOCK l = 1 → t.get .LAN_TEST_PRBS_LOCK l = 1) ∧ s.get .LAN_PRBS_ERR l ≤ t.get .LAN_PRBS_ERR l) ∧
  (∀ (l a b : Nat) (bits : List Bool) (s : State), s.running .lane l = true → s.get .LAN_TEST_PRBS_LOCK l = 0 → s.get .LAN_PRBS_RUN l = 0 →
    (s.get .LAN_TEST_PRBS_RX l, a, b) ∈ [(1, 7, 6), (2, 9, 5), (3, 15, 14), (4, 23, 18), (5, 31, 28)] → bits.length = a + 64 →
    (∀ i, a ≤ i → i < a + 64 → bits[i]? = some (bits.getD (i - a) false ^^ bits.getD (i - b) false)) →
    ∃ t, exec (.prbsCheckerLock l bits) s = .next t ∧ t.get .LAN_TEST_PRBS_LOCK l = 1 ∧ t.get .LAN_PRBS_ERR l = s.get .LAN_PRBS_ERR l
      ∧ TouchesAt l [.LAN_TEST_PRBS_LOCK, .LAN_PRBS_SR, .LAN_PRBS_RUN] [] s t) ∧
  (∀ (l : Nat) (b : Bool) (s : State), s.running .lane l = true → s.get .LAN_TEST_PRBS_RX l ≠ 0 → s.get .LAN_TEST_PRBS_LOCK l = 1 →
    b.toNat ≠ prbsNext (s.get .LAN_TEST_PRBS_RX l) (s.get .LAN_PRBS_SR l) →
    ∃ t, exec (.prbsCheckerLock l [b]) s = .next t ∧ t.get .LAN_PRBS_ERR l = satAdd 32 (s.get .LAN_PRBS_ERR l) 1
      ∧ t.get .LAN_EVT l = (s.get .LAN_EVT l ||| 32) % 2 ^ 8 ∧ TouchesAt l [.LAN_PRBS_ERR, .LAN_PRBS_SR, .LAN_EVT] reportFields s t))

/-! ### The atlas -/

/-- Commits and salvos are validated whole (R98, R103 to R105, R107, R110): one that every check accepts is pending with the next TAG,
for the frame after the last decision point or the frame that ATL_COMMIT_FRAME names, which must come after that decision point
(0x16) and not more than 65,535 frames ahead (0x17); one that a check rejects is refused with the first code and nothing is pending;
a cancel refuses what is pending, with 0x1F, a salvo whole. Drafts and realignment (R88, R99, R100, R142, R145): a draft takes its
write unless a commit of it is pending (0x15); an armed one with a remote source for which there is no stream yet requests it, and
where the landing store it needs has no space, the fabric's reason is 0x06; REALIGN refuses every pending commit with 0x25 and sets
the generators to TB0. Where the spec leaves a point open it follows the model's reading (log entries 46, 47, 67, 104, 109, 133 and
134). -/
def Obligations.CommitsDraftsAndRealignment : Prop :=
  (∀ (m : Master) (v : Nat) (s : State),
    (Passes m 0x100010 s → s.commitGeneral = 0 → s.destCode (bitsAt v 0 7) = 0 → s.commitDest (bitsAt v 0 7) = 0 → bitsAt v 30 1 = 0 →
      ∃ t, exec (.atlCommit m v) s = .next t ∧ t.get .ATL_COMMIT_RESULT_TAG = (s.get .ATL_COMMIT_RESULT_TAG + 1) % 2 ^ 8
        ∧ t.get .ATL_COMMIT_RESULT_REASON = 0 ∧ t.get .ATL_DRAFT_STAT_STATE (bitsAt v 0 7) = 1
        ∧ t.get .ATL_DRAFT_STAT_TAG (bitsAt v 0 7) = t.get .ATL_COMMIT_RESULT_TAG
        ∧ t.commits = s.commits ++ [⟨bitsAt v 0 7, t.get .ATL_COMMIT_RESULT_TAG,
            s.get .ATL_N_DECIDED (s.get .ATL_DEST_CTRL_FORMAT (bitsAt v 0 7)) + 1, s.get .ATL_CTRL_SLIP_LIMIT, 0, false, false, [], false, m⟩]
        ∧ TouchesAt (bitsAt v 0 7) [.ATL_DRAFT_STAT_STATE, .ATL_DRAFT_STAT_TAG, .ATL_DRAFT_STAT_SLIPS, .ATL_DRAFT_STAT_REASON]
            [.ATL_COMMIT_RESULT_TAG, .ATL_COMMIT_RESULT_REASON] { s with commits := t.commits } t) ∧
    (∀ n f : Nat, Passes m 0x100010 s → s.commitGeneral = 0 → s.destCode (bitsAt v 0 7) = 0 → s.commitDest (bitsAt v 0 7) = 0 → bitsAt v 30 1 = 1 →
      f = s.get .ATL_DEST_CTRL_FORMAT (bitsAt v 0 7) → n % 2 ^ 32 = s.get .ATL_COMMIT_FRAME % 2 ^ 32 → s.get .ATL_N_RECENT f ≤ n →
      n < s.get .ATL_N_RECENT f + 2 ^ 32 →
      (n ≤ s.get .ATL_N_RECENT f + 65535 → s.get .ATL_N_DECIDED f < n →
        ∃ t, exec (.atlCommit m v) s = .next t ∧ t.get .ATL_COMMIT_RESULT_REASON = 0
          ∧ t.commits = s.commits ++ [⟨bitsAt v 0 7, t.get .ATL_COMMIT_RESULT_TAG, n, s.get .ATL_CTRL_SLIP_LIMIT, 0, false, false, [], false, m⟩]
          ∧ TouchesAt (bitsAt v 0 7) [.ATL_DRAFT_STAT_STATE, .ATL_DRAFT_STAT_TAG, .ATL_DRAFT_STAT_SLIPS, .ATL_DRAFT_STAT_REASON]
              [.ATL_COMMIT_RESULT_TAG, .ATL_COMMIT_RESULT_REASON] { s with commits := t.commits } t) ∧
      (n ≤ s.get .ATL_N_DECIDED f →
        ∃ t, exec (.atlCommit m v) s = .next t ∧ t.get .ATL_COMMIT_RESULT_REASON = 0x16 ∧ Refused 0x16 0x40004 m s t
          ∧ Touches ([.ATL_COMMIT_RESULT_TAG, .ATL_COMMIT_RESULT_REASON] ++ refuseFields ++ reportFields) s t) ∧
      (s.get .ATL_N_RECENT f + 65535 < n → s.get .ATL_N_DECIDED f < n →
        ∃ t, exec (.atlCommit m v) s = .next t ∧ t.get .ATL_COMMIT_RESULT_REASON = 0x17 ∧ Refused 0x17 0x40004 m s t
          ∧ Touches ([.ATL_COMMIT_RESULT_TAG, .ATL_COMMIT_RESULT_REASON] ++ refuseFields ++ reportFields) s t)) ∧
    (∀ c, Passes m 0x100010 s → bitsAt v 30 1 = 0 → c = firstCode [s.commitGeneral, s.destCode (bitsAt v 0 7), s.commitDest (bitsAt v 0 7)] →
      c ≠ 0 →
      ∃ t, exec (.atlCommit m v) s = .next t ∧ t.get .ATL_COMMIT_RESULT_REASON = c ∧ Refused c 0x40004 m s t
        ∧ (s.running .atlas = false → c = 0x05)
        ∧ (s.running .atlas = true → s.get .PWR_STAT_STATE = 2 → bitsAt v 0 7 < s.variant.mediaLanes → s.running .dest (bitsAt v 0 7) = false →
            c = 0x14)
        ∧ Touches ([.ATL_COMMIT_RESULT_TAG, .ATL_COMMIT_RESULT_REASON] ++ refuseFields ++ reportFields) s t) ∧
    (Passes m 0x100010 s → s.commitGeneral = 0 → s.salvoDests ≠ [] → (∀ d ∈ s.salvoDests, s.destCode d = 0 ∧ s.commitDest d = 0) →
      s.salvoPending = false → samePeriods (s.salvoDests.map (fun d => s.get .ATL_DEST_CTRL_FORMAT d)) = true → bitsAt v 30 1 = 0 →
      ∃ t, exec (.atlSalvo m v) s = .next t ∧ t.get .ATL_COMMIT_RESULT_REASON = 0 ∧ t.get .ATL_STAT_SALVO_SLIPS = 0
        ∧ t.get .ATL_STAT_SALVO_TAG = t.get .ATL_COMMIT_RESULT_TAG
        ∧ (∃ n, t.commits = s.commits ++ s.salvoDests.map (fun d =>
            (⟨d, t.get .ATL_COMMIT_RESULT_TAG, n, s.get .ATL_CTRL_SLIP_LIMIT, 0, true, false, [], false, m⟩ : PendCommit)))
        ∧ Touches [.ATL_COMMIT_RESULT_TAG, .ATL_COMMIT_RESULT_REASON, .ATL_DRAFT_STAT_STATE, .ATL_DRAFT_STAT_TAG, .ATL_DRAFT_STAT_SLIPS,
            .ATL_DRAFT_STAT_REASON, .ATL_STAT_SALVO_TAG, .ATL_STAT_SALVO_SLIPS] { s with commits := t.commits } t) ∧
    (Passes m 0x100010 s → s.commitGeneral = 0 → s.salvoDests = [] →
      ∃ t, exec (.atlSalvo m v) s = .next t ∧ t.get .ATL_COMMIT_RESULT_REASON = 0x19 ∧ Refused 0x19 0x40004 m s t ∧ t.commits = s.commits
        ∧ Touches ([.ATL_COMMIT_RESULT_TAG, .ATL_COMMIT_RESULT_REASON] ++ refuseFields ++ reportFields) s t) ∧
    (∀ c : PendCommit, Passes m 0x10001C s → s.destCode (bitsAt v 0 7) = 0 → s.commitOf (bitsAt v 0 7) = some c → c.taken = false →
      c.salvo = false →
      ∃ t, exec (.atlCancel m v) s = .next t ∧ t.commits = s.commits.filter (fun x => x.dest != c.dest)
        ∧ t.get .ATL_DRAFT_STAT_STATE c.dest = 3 ∧ t.get .ATL_DRAFT_STAT_REASON c.dest = 0x1F ∧ Refused 0x1F 0x40004 c.master s t
        ∧ TouchesAt c.dest [.ATL_DRAFT_STAT_STATE, .ATL_DRAFT_STAT_REASON] (refuseFields ++ reportFields) { s with commits := t.commits } t) ∧
    (Passes m 0x10001C s → (∃ c ∈ s.commits, c.salvo = true ∧ c.taken = false) →
      ∃ t, exec (.salvoCancel m) s = .next t ∧ (∀ c ∈ t.commits, c.salvo = false)
        ∧ (∀ c ∈ s.commits, c.salvo = true → t.get .ATL_DRAFT_STAT_REASON c.dest = 0x1F ∧ t.get .ATL_DRAFT_STAT_STATE c.dest = 3)
        ∧ Asserted 188 0 s t
        ∧ Touches ([.ATL_DRAFT_STAT_STATE, .ATL_DRAFT_STAT_REASON] ++ refuseFields ++ reportFields) { s with commits := t.commits } t)) ∧
  (∀ (m : Master) (v : Nat) (s : State),
    (∀ (d src low : Nat) (armed : Bool), d < 96 → src = bitsAt low 0 11 → Passes m (0x101000 + 16 * d) s →
      (∀ c, s.commitOf d = some c →
        ∃ t, exec (.atlDraftWrite m d armed low) s = .next t ∧ Refused 0x15 (wordOf (0x101000 + 16 * d)) m s t
          ∧ Touches (refuseFields ++ reportFields) s t) ∧
      (s.commitOf d = none → (s.running .fabric = false ∨ armed = false ∨ s.isRemote src = false) →
        ∃ t, exec (.atlDraftWrite m d armed low) s = .next t ∧ t.get .ATL_DRAFT_ARMED d = armed.toNat
          ∧ t.get .ATL_DRAFT_SOURCE d = src ∧ t.get .ATL_DRAFT_STAT_FAB_REASON d = 0
          ∧ TouchesAt d [.ATL_DRAFT_ARMED, .ATL_DRAFT_AFV, .ATL_DRAFT_SOURCE, .ATL_DRAFT_STAT_FAB_REASON, .DEST_DRAFT_RX] [] s t) ∧
      (∀ n, s.commitOf d = none → s.canRequest = true → armed = true → s.isRemote src = true → s.homeLost (homeOf src) = false →
        (∀ r ∈ s.rx, r.src ≠ src) → freeSlot 1024 (s.rx.map (·.slot)) = some n →
        (s.landingStore 0 src (.draft d) = none →
          ∃ t, exec (.atlDraftWrite m d armed low) s = .next t ∧ t.get .ATL_DRAFT_SOURCE d = src
            ∧ t.get .ATL_DRAFT_STAT_FAB_REASON d = 6 ∧ t.rx = s.rx ∧ Asserted 222 0 s t
            ∧ TouchesAt d [.ATL_DRAFT_ARMED, .ATL_DRAFT_AFV, .ATL_DRAFT_SOURCE, .ATL_DRAFT_STAT_FAB_REASON, .DEST_DRAFT_RX] reportFields s t) ∧
        (∀ st, s.landingStore 0 src (.draft d) = some st →
          ∃ t, exec (.atlDraftWrite m d armed low) s = .next t ∧ t.get .ATL_DRAFT_SOURCE d = src ∧ t.get .ATL_DRAFT_STAT_FAB_REASON d = 0
            ∧ t.rx = s.rx ++ [newRx n 0 0 src (homeOf src) (s.destCoding d) 0 (s.get .FAB_REQ_NO) st.1 st.2]
            ∧ t.get .DEST_DRAFT_RX d = (n + 1) % 2 ^ 11
            ∧ Touches ([.ATL_DRAFT_ARMED, .ATL_DRAFT_AFV, .ATL_DRAFT_SOURCE, .ATL_DRAFT_STAT_FAB_REASON, .DEST_DRAFT_RX, .FAB_REQ_NO]
                ++ decoderFields ++ reportFields) { s with rx := t.rx } t))) ∧
    (Passes m 0x100000 s → s.unitEn ⟨.atlas, 0⟩ = true → v % 2 = 1 →
      ∃ t, exec (.realign m v) s = .next t ∧ t.commits = [] ∧ t.get .ATL_STAT_MISALIGNED = 0 ∧ t.get .ATL_CTRL_SLIP_LIMIT = bitsAt v 4 4
        ∧ (∀ c ∈ s.commits, t.get .ATL_DRAFT_STAT_REASON c.dest = 0x25 ∧ t.get .ATL_DRAFT_STAT_STATE c.dest = 3)
        ∧ (∀ f ∈ formatCodes, t.get .ATL_N_RECENT f = s.frameByClock f 0 % 2 ^ 64 ∧ t.get .ATL_N_DECIDED f = s.frameByClock f 250000 % 2 ^ 64)
        ∧ Touches ([.ATL_CTRL_SLIP_LIMIT, .ATL_STAT_MISALIGNED, .ATL_N_RECENT, .ATL_N_DECIDED, .ATL_DRAFT_STAT_STATE, .ATL_DRAFT_STAT_REASON]
            ++ refuseFields ++ reportFields) { s with commits := [] } t))

/-- Switching (R87, R105, R106, R113): at the decision point of its format and frame a commit of a local source is taken, with the
source's entry as it stands; at the meridian a taken commit becomes the live entry, unless the entry has changed, which refuses it
with 0x20 and leaves the live entry alone. Where the spec leaves a point open it follows the model's reading (log entries 45, 48,
108, 111 and 113). -/
def Obligations.SwitchesHappenAtMeridians : Prop :=
  ∀ (f n : Nat) (s : State), s.running .atlas = true → formatValid f = true →
    (∀ phis : List (Nat × Int), ∃ t, exec (.decisionPoint f n phis) s = .next t ∧ t.get .ATL_N_DECIDED f = n % 2 ^ 64
      ∧ (∀ c : PendCommit, s.commits = [c] → c.salvo = false → c.taken = false → c.target = n →
          s.get .ATL_DEST_CTRL_FORMAT c.dest = f → s.isRemote (s.commitSource c) = false →
          ∃ lost, t.commits = [{ c with taken := true, snap := s.snapOf (s.commitSource c), newLost := lost }])
      ∧ (s.commits = [] → s.audCommit = none → Touches ([.ATL_N_DECIDED, .ATL_DEST_STAT_FORMAT_LOST, .ATL_DEST_STAT_LOSS_COUNT, .ATL_DEST_STAT_LOST,
          .DEST_HOLD_COUNT, .DEST_RECOVER, .ATL_IN_COUNT_DROPS, .ATL_IN_COUNT_REPEATS, .ATL_IN_STAT_LOST, .ATL_IN_STAT_PHASE, .IN_FRESH, .IN_GOOD,
          .IN_READ, .IN_READ_PREV, .IN_STALE] ++ reportFields) { s with rx := t.rx } t)) ∧
    (∃ t, exec (.meridian f n) s = .next t ∧ t.get .ATL_N_RECENT f = n % 2 ^ 64
      ∧ (∀ d < 96, s.running .dest d = true → s.get .ATL_DEST_CTRL_FORMAT d = f → t.get .DEST_FRAME d = n % 2 ^ 64)
      ∧ (∀ c : PendCommit, s.commits = [c] → c.salvo = false → c.taken = true → c.target = n → c.dest < 96 → s.running .dest c.dest = true →
          s.get .ATL_DEST_CTRL_FORMAT c.dest = f →
          (s.snapOf (s.commitSource c) = c.snap →
            t.commits = [] ∧ t.get .ATL_LIVE_SOURCE c.dest = s.get .ATL_DRAFT_SOURCE c.dest % 2 ^ 11 ∧ t.get .ATL_LIVE_FRAME c.dest = n % 2 ^ 32
              ∧ t.get .ATL_LIVE_INFO_TAG c.dest = c.tag % 2 ^ 8 ∧ t.get .ATL_DRAFT_STAT_STATE c.dest = 2 ∧ Asserted 184 0 s t) ∧
          (s.snapOf (s.commitSource c) ≠ c.snap →
            t.commits = [] ∧ t.get .ATL_LIVE_SOURCE c.dest = s.get .ATL_LIVE_SOURCE c.dest ∧ t.get .ATL_DRAFT_STAT_REASON c.dest = 0x20
              ∧ t.get .ATL_DRAFT_STAT_STATE c.dest = 3 ∧ Asserted 185 0 s t))
      ∧ (s.commits = [] → Touches ([.ATL_N_RECENT, .ATL_DEST_STAT_FORMAT_LOST, .ATL_DEST_STAT_LOSS_COUNT, .ATL_DEST_STAT_LOST, .ATL_LIVE_LOSS_FRAMES,
          .AUD_AFV_DUE, .AUD_AFV_OLD, .CHECK_ENABLED, .UNIT_EN, .DEST_DISABLE_DUE, .DEST_FRAME, .DEST_HOLD_COUNT, .DEST_LOSS_NOW, .DEST_OLD_OUT,
          .DEST_OLD_SOURCE, .DEST_PREV_SOURCE, .DEST_PREV_RX, .ENC_SEEN, .MZC_ENC_FRAME, .MZC_ENC_HIST, .MZC_ENC_INEXACT, .MZC_ENC_MAX_ERR,
          .MZC_ENC_TOTAL, .DEST_RECOVER, .FAB_CTL_SEQ] ++ reportFields) { s with rx := t.rx, tx := t.tx, wp := t.wp } t))

/-! ### Cells and streams of the fabric -/

/-- Cells (R89, R90, R93, R131 to R138, R152, R163, R179 to R182, R187, R188, R215): a span of an input's own format is stored as its
newest, with the store's earlier content where words were discarded; the home device puts a stream's marker, once, and after it the
data of a span not marked lost on the path of the span, with the stream's count; an arriving cell with a bad CRC or an unknown TYPE
is counted and discarded, one for another device is forwarded unchanged, a late one is counted, one of a receive stream is placed in
its landing store. That an event whose condition does not hold changes nothing is DEDUCED (log entry 2). Where the spec leaves a
point open it follows the model's reading (log entries 50, 53, 57, 105 and 121). -/
def Obligations.CellsAreReleasedLandedAndForwarded : Prop :=
  (∀ (i : Nat) (v : VideoSpan) (s : State), s.running .input i = true → s.positioned = true →
    (s.get .GAZ_W1_FORMAT (96 * s.position + i) = v.fmt % 2 ^ 8 → v.fmt < 2 ^ 8 → s.get .GAZ_W1_DEPTH (96 * s.position + i) = v.depth → v.depth < 2 →
      s.kindCarries i v.fmt v.depth = true →
      ∃ t, exec (.inputSpanComplete i v) s = .next t ∧ t.get .IN_COMPLETED i = (s.get .IN_COMPLETED i + 1) % 2 ^ 64
        ∧ t.get .IN_FRESH i = (if spanComplete (s.spanWritten i v) then 1 else s.get .IN_FRESH i) ∧ t.get .ATL_IN_STAT_FMT_ERR i = 0
        ∧ t.kept i = (s.spanWritten i v :: s.kept i).take 3 ∧ (spanComplete (s.spanWritten i v) = false → t.get .IN_GOOD i = 0)
        ∧ (s.fedByKind [1, 2] i = false → (∀ h ∈ s.holes, h.input ≠ i) → s.spanWritten i v = v)
        ∧ (∀ (h : Hole) (row : List Nat), s.fedByKind [1, 2] i = false → s.holes = [h] → h.input = i → v.lines = [(h.line, row)] →
            ∀ k < row.length, ((t.kept i).headD v).lines.map (fun l => l.2[k]?)
              = [some (if h.first ≤ k ∧ k < h.first + h.count then s.slotBefore i h.line k else row.getD k 0)])
        ∧ t.holes = s.holes.filter (fun h => h.input != i)
        ∧ TouchesAt i [.IN_COMPLETED, .IN_FRESH, .IN_STALE, .IN_GOOD, .IN_DETECTED, .IN_FMT, .IN_DEPTH, .ATL_IN_STAT_FMT_ERR, .ATL_IN_STAT_LOST]
            reportFields { s with spans := t.spans, fills := t.fills, holes := t.holes } t) ∧
    (s.get .GAZ_W1_FORMAT (96 * s.position + i) ≠ v.fmt % 2 ^ 8 →
      ∃ t, exec (.inputSpanComplete i v) s = .next t ∧ t.get .ATL_IN_STAT_FMT_ERR i = 1 ∧ t.get .IN_GOOD i = 0
        ∧ t.get .ATL_IN_STAT_LOST i = (if s.flag .ATL_IN_STAT_LOST i then s.get .ATL_IN_STAT_LOST i else 1)
        ∧ (s.flag .ATL_IN_STAT_FMT_ERR i = false → Asserted 193 0 s t)
        ∧ TouchesAt i [.IN_GOOD, .ATL_IN_STAT_FMT_ERR, .ATL_IN_STAT_LOST, .IN_DETECTED, .IN_FMT, .IN_DEPTH] reportFields
            { s with fills := t.fills, holes := s.holes.filter (fun h => h.input != i) } t)) ∧
  (∀ (n typ k span : Nat) (x : TxStream) (live : Option VideoSpan) (s : State), span < 2 ^ 32 →
    s.tx.find? (fun y => y.slot == n) = some x → s.fabSends = true → s.portUp (pathOf x span).1 = true → sendsSpan x span = true →
    (x.marks.find? (fun m => m.1 == span) = none →
      (∃ t, exec (.cellRelease n span 3 k live) s = .next t
        ∧ (∃ c, t.out = cellOut (pathOf x span).1 c :: s.out ∧ c.typ = 3 ∧ c.coding = (pathOf x span).2 ∧ c.last = true
            ∧ c.lost = s.homeLostSpan x ∧ c.source = x.src ∧ c.dest = x.dest ∧ c.seq = x.seq ∧ c.span = span % 2 ^ 16)
        ∧ t.tx = s.tx.map (fun y => if y.slot = n then
            { y with seq := (y.seq + 1) % 256, marks := (span, (pathOf x span).2, s.homeLostSpan x) :: y.marks.take 2 } else y)
        ∧ Touches [.ENC_SEEN, .MZC_ENC_FRAME, .MZC_ENC_INEXACT, .MZC_ENC_MAX_ERR, .MZC_ENC_TOTAL, .MZC_ENC_HIST] { s with tx := t.tx } t) ∧
      (typ ≠ 3 → exec (.cellRelease n span typ k live) s = .next s)) ∧
    (∀ (cod : Nat) (lost : Bool), x.marks.find? (fun m => m.1 == span) = some (span, cod, lost) →
      exec (.cellRelease n span 3 k live) s = .next s ∧
      (typ ≠ 3 → lost = true → exec (.cellRelease n span typ k live) s = .next s) ∧
      (typ ≠ 3 → lost = false → ∀ d, s.dataOf x span typ k live = some d →
        ∃ t, exec (.cellRelease n span typ k live) s = .next t
          ∧ t.out = cellOut (pathOf x span).1 { d with sketch := x.kind == 1, source := x.src, dest := x.dest, seq := x.seq } :: s.out
          ∧ t.tx = s.tx.map (fun y => if y.slot = n then { y with seq := (y.seq + 1) % 256 } else y) ∧ Touches [] { s with tx := t.tx } t) ∧
      (typ ≠ 3 → lost = false → s.dataOf x span typ k live = none → exec (.cellRelease n span typ k live) s = .next s)) ∧
    (∀ v, x.kind ≤ 1 → s.pictureOf x span live = some v → s.lineLength x.kind x.src (pathOf x span).2 ≠ 0 →
      cellBytes k (v.lines.flatMap (fun l => (codeLine (pathOf x span).2 (depthBits v.depth) l.2).bytes)) ≠ [] →
      ∃ d, s.dataOf x span 1 k live = some d ∧ d.typ = 1 ∧ d.coding = (pathOf x span).2 ∧ d.lost = false ∧ d.span = span % 2 ^ 16
        ∧ d.payload = cellBytes k (v.lines.flatMap (fun l => (codeLine (pathOf x span).2 (depthBits v.depth) l.2).bytes))
        ∧ d.offset = 240 * k % s.lineLength x.kind x.src (pathOf x span).2) ∧
    (x.kind = 2 → k < 48 →
      ∃ d, s.dataOf x span 4 k live = some d ∧ d.typ = 4 ∧ d.span = span % 2 ^ 16 ∧ d.payload = cellBytes k (s.groupBytes x.src span)
        ∧ d.line = 240 * k / 256 ∧ d.offset = 240 * k % 256)) ∧
  (∀ (p : Nat) (crc late : Bool) (c : Cell) (s : State), s.running .fabric = true → p < 11 →
    ((crc = false ∨ c.typ ∉ [1, 2, 3, 4, 8]) →
      ∃ t, exec (.cellReceived p crc late c) s = .next t ∧ t.get .FAB_PORT_BAD p = satAdd 32 (s.get .FAB_PORT_BAD p) 1
        ∧ TouchesAt p [.FAB_PORT_BAD] [] s t) ∧
    (crc = true → c.typ ∈ [1, 2, 3, 4] → c.dest ≠ s.position → ∀ w, s.wpOf p c = some w →
      (s.fabSends = true → s.portUp w.outPort = true →
        ∃ t, exec (.cellReceived p crc late c) s = .next t ∧ t.out = cellOut w.outPort c :: s.out
          ∧ t.wp = s.wp.map (fun x => if x.slot = w.slot then { x with cells := (x.cells + 1) % 2 ^ 32 } else x)
          ∧ Touches [] { s with wp := t.wp } t) ∧
      ((s.fabSends = false ∨ s.portUp w.outPort = false) → exec (.cellReceived p crc late c) s = .next s)) ∧
    (crc = true → c.typ ∈ [1, 2, 4] → c.dest = s.position → s.takersOf p c = [] →
      ∃ t, exec (.cellReceived p crc late c) s = .next t
        ∧ t.get .FAB_PORT_LATE p = (if late then satAdd 32 (s.get .FAB_PORT_LATE p) 1 else s.get .FAB_PORT_LATE p)
        ∧ (late = true → Asserted 227 0 s t) ∧ TouchesAt p [.FAB_PORT_LATE] reportFields s t) ∧
    (crc = true → c.typ ∈ [1, 4] → c.dest = s.position → ∀ r, s.takersOf p c = [r] → c.payload ≠ [] →
      c.offset + c.payload.length ≤ s.lineLength r.kind r.src c.coding →
      ∃ t, exec (.cellReceived p crc late c) s = .next t
        ∧ t.rx = s.rx.map (fun x => if x.slot = r.slot then
            { x with pieces := ⟨c.span, c.typ, c.line, c.offset, c.payload⟩
                :: r.pieces.filter (fun y => recentSpan c.span y.span || r.held == some y.span) } else x)
        ∧ TouchesAt p [.FAB_PORT_LATE] reportFields { s with rx := t.rx } t) ∧
    (crc = true → late = false → c.typ = 1 → c.coding = 3 → c.dest = s.position → ∀ r, s.takersOf p c = [r] →
      s.lineLength r.kind r.src 3 ≤ c.offset → (c.offset - s.lineLength r.kind r.src 3) % 2 = 0 →
      (alreadyRead r c.span c.line = true →
        ∃ t, exec (.cellReceived p crc late c) s = .next t ∧ t.get .MZC_REFINE_LATE_CELLS = satAdd 32 (s.get .MZC_REFINE_LATE_CELLS) 1
          ∧ Touches [.MZC_REFINE_LATE_CELLS] s t) ∧
      (alreadyRead r c.span c.line = false →
        exec (.cellReceived p crc late c) s = .next { s with rx := s.rx.map (fun x => if x.slot = r.slot then
          { x with pieces := ⟨c.span, refinementTyp, c.line, c.offset - s.lineLength r.kind r.src 3, c.payload⟩
              :: r.pieces.filter (fun y => recentSpan c.span y.span || r.held == some y.span) } else x) })) ∧
    (c.typ = 3 → c.dest ≠ s.position → ∀ w, s.wpOf p c = some w → s.fabSends = true → s.portUp w.outPort = true →
      ∃ t, exec (.spanMarker p c) s = .next t ∧ t.out = cellOut w.outPort c :: s.out
        ∧ t.wp = s.wp.map (fun x => if x.slot = w.slot then { x with cells := (x.cells + 1) % 2 ^ 32 } else x)
        ∧ Touches [] { s with wp := t.wp } t) ∧
    (c.typ = 3 → c.dest = s.position → ∀ r, s.takersOf p c = [r] →
      ∃ t, exec (.spanMarker p c) s = .next t
        ∧ t.rx = s.rx.map (fun x => if x.slot = r.slot then
            { x with markers := markerOf c :: x.markers.filter (fun m => m.span != c.span && (recentSpan c.span m.span || x.pieces.any (fun y => y.span == m.span))) } else x)
        ∧ (r.kind ≠ 2 → reportsFigures r c = false → Touches [] { s with rx := t.rx } t)
        ∧ (r.kind = 2 → c.lost = true → t.get .AUD_GROUP_LOST r.rxg = 1)
        ∧ (reportsFigures r c = true → t.get .MZC_DEC_FRAME r.slot = payloadField c.payload 16 4 % 2 ^ 32
            ∧ t.get .MZC_DEC_INEXACT r.slot = payloadField c.payload 20 4 % 2 ^ 32
            ∧ t.get .MZC_DEC_MAX_ERR r.slot = payloadField c.payload 24 2 % 2 ^ 16
            ∧ (s.get .DEC_NOW_SPAN r.slot = payloadField c.payload 16 4 % 2 ^ 16 + 1 →
                t.get .MZC_DEC_COARSE_BLOCKS r.slot = s.get .DEC_NOW_COARSE r.slot % 2 ^ 16)
            ∧ Touches ([.MZC_DEST_STAT3_ALARMS, .MZC_OVER_LIMIT] ++ decoderFields ++ reportFields) { s with rx := t.rx } t))) ∧
  (∀ (n span : Nat) (r : RxStream) (s : State), s.rx.find? (fun x => x.slot == n) = some r → r.st ≠ 0 →
    s.spanLanded r (span % 2 ^ 16) = true →
    ∃ t, exec (.landingSpanComplete n span) s = .next t
      ∧ (∀ x ∈ t.rx, x.slot = n → x.lastSpan = some (span % 2 ^ 16)
          ∧ x.spans = (if r.lastSpan.any (fun l => (l + 1) % 2 ^ 16 == span % 2 ^ 16) then satAdd 8 r.spans 1 else 1)
          ∧ ((markerFor r (span % 2 ^ 16)).any (·.lost) = true → x.good = 0)
          ∧ ((markerFor r (span % 2 ^ 16)).any (·.lost) = false → x.held = some (span % 2 ^ 16)))
      ∧ t.rx.filter (fun x => x.slot != n) = s.rx.filter (fun x => x.slot != n)
      ∧ (r.kind ≠ 2 → t = { s with rx := t.rx })
      ∧ (r.kind = 2 → TouchesAt r.rxg [.AUD_GROUP_LOST] reportFields { s with rx := t.rx } t)
      ∧ (r.kind = 2 → (markerFor r (span % 2 ^ 16)).any (·.lost) = true → t.get .AUD_GROUP_LOST r.rxg = 1)) ∧
  (∀ (n : Nat) (s : State), ∃ t, exec (.refineDiscard n) s = .next t
      ∧ t.get .MZC_REFINE_DROP_CELLS = satAdd 32 (s.get .MZC_REFINE_DROP_CELLS) n ∧ Touches [.MZC_REFINE_DROP_CELLS] s t)

/-- Peers and ports (R129, R130, R139, R140, R147, R149, R159 to R162, R164, R165, R167): heartbeats and loads go out on the ports, a
valid heartbeat brings a port up and one of wrong wiring takes it down with 225, a load is noted; a peer's loss takes its streams
and latches its bit, its return clears the bit; the loss is announced once, with its time, from the device's address to its plane's;
a port limit beyond the greatest is refused with 0x37. Where the spec leaves a point open it follows the model's reading (log
entries 51, 54, 55 and 103). -/
def Obligations.PeersAreHeardLostAndReturn : Prop :=
  (∀ s : State, s.fabSends = true → s.positioned = true →
    ∃ t, exec .heartbeatSend s = .next t
      ∧ t.out = ((List.range 11).filter (fun p => s.fitted p)).reverse.map
          (fun p => controlOut p (s.get .FAB_CTL_SEQ p) (s.peerPos p) s.heartbeat) ++ s.out
      ∧ (∀ p < 11, t.get .FAB_CTL_SEQ p = if s.fitted p then (s.get .FAB_CTL_SEQ p + 1) % 2 ^ 8 else s.get .FAB_CTL_SEQ p)
      ∧ Touches [.FAB_CTL_SEQ] s t) ∧
  (∀ s : State, s.fabSends = true →
    ∃ t, exec .loadSend s = .next t
      ∧ t.out = ((List.range 11).filter (fun p => s.portUp p)).reverse.map
          (fun p => controlOut p (s.get .FAB_CTL_SEQ p) (s.peerPos p)
            (.load ((List.range 11).map (fun q => (s.portLoad q, s.get .FAB_PORT_CEILING q))))) ++ s.out
      ∧ Touches [.FAB_CTL_SEQ] s t) ∧
  (∀ (p pos plane twin cls : Nat) (s : State), s.running .fabric = true → s.positioned = true → p < 11 → s.fitted p = true → 0 < s.lanesUp p →
    ∃ t, exec (.heartbeat p pos plane twin cls) s = .next t ∧ t.get .FAB_PORT_STAT_PEER_POS p = pos % 2 ^ 4
      ∧ t.get .FAB_PORT_STAT_PEER_PLANE p = plane % 2 ∧ t.get .FAB_PORT_STAT_PEER_TWIN p = twin % 2
      ∧ t.get .FAB_PORT_STAT_PEER_CLASS p = cls % 2
      ∧ (pos = s.peerPos p ∧ plane = s.get .GEN_ENUM_PLANE ∧ twin = s.get .GEN_ENUM_TWIN ∧ cls = s.variant.tokenClass →
          t.get .FAB_PORT_STAT_UP p = 1 ∧ t.get .FAB_PORT_STAT_WIRING p = 0)
      ∧ (¬ (pos = s.peerPos p ∧ plane = s.get .GEN_ENUM_PLANE ∧ twin = s.get .GEN_ENUM_TWIN ∧ cls = s.variant.tokenClass) →
          t.get .FAB_PORT_STAT_UP p = 0 ∧ t.get .FAB_PORT_STAT_WIRING p = 1 ∧ (s.flag .FAB_PORT_STAT_WIRING p = false → Asserted 225 0 s t))
      ∧ TouchesAt p [.FAB_PORT_STAT_PEER_POS, .FAB_PORT_STAT_PEER_PLANE, .FAB_PORT_STAT_PEER_TWIN, .FAB_PORT_STAT_PEER_CLASS,
          .FAB_PORT_STAT_UP, .FAB_PORT_STAT_WIRING, .FAB_HB_SEEN] reportFields s t) ∧
  (∀ (p : Nat) (loads : List (Nat × Nat)) (s : State), s.running .fabric = true → p < 11 → loads.length = 11 → s.position < 12 →
    ∃ t, exec (.load p loads) s = .next t
      ∧ (s.homeLost (s.peerPos p) = false → ∀ q < 11, t.get .FAB_SPARE_KNOWN (16 * s.peerPos p + (s.peerPos p + q + 1) % 12) = 1
          ∧ t.get .FAB_SPARE (16 * s.peerPos p + (s.peerPos p + q + 1) % 12) = ((loads[q]?).elim 0 (fun x => x.2 - x.1)) % 2 ^ 32)
      ∧ (s.homeLost (s.peerPos p) = true → Touches [.FAB_PORT_RX_LOAD] s t)
      ∧ t.get .FAB_PORT_RX_LOAD p = ((loads[10 - p]?).elim 0 (·.1)) % 2 ^ 32
      ∧ Touches [.FAB_SPARE_KNOWN, .FAB_SPARE, .FAB_PORT_RX_LOAD] s t) ∧
  (∀ (p : Nat) (s : State), s.running .fabric = true → p < 11 →
    (s.fitted p = true → ∃ t, exec (.loadTimeout p) s = .next t ∧ Asserted 226 0 s t ∧ Touches reportFields s t) ∧
    (∃ t, exec (.controlReserved p) s = .next t ∧ t.get .FAB_PORT_BAD p = satAdd 32 (s.get .FAB_PORT_BAD p) 1 ∧ Asserted 228 0 s t
      ∧ TouchesAt p [.FAB_PORT_BAD] reportFields s t) ∧
    (s.fitted p = true → s.flag .FAB_PORT_STAT_LOST p = false → s.admits = [] → (∀ x ∈ s.tx, x.waypoint ≠ s.peerPos p) →
      ∃ t, exec (.peerLost p) s = .next t ∧ t.get .FAB_PORT_STAT_LOST p = 1 ∧ t.get .FAB_PORT_STAT_UP p = 0
        ∧ t.get .FAB_PEER_EVENT = (s.get .FAB_PEER_EVENT ||| 2 ^ p) % 2 ^ 11 ∧ t.get .FAB_NOTICE_DUE p = 1 ∧ Asserted (200 + p) 2 s t
        ∧ t.get .FAB_LOSS_SEC p = s.now.sec % 2 ^ 48 ∧ t.get .FAB_LOSS_NS p = s.now.ns % 2 ^ 32
        ∧ (∀ r ∈ t.rx, r.home = s.peerPos p → r.st = 4 ∧ r.reason = 0x32 ∧ r.spans = 0)
        ∧ t.rx.filter (fun r => r.home != s.peerPos p) = s.rx.filter (fun r => r.home != s.peerPos p)
        ∧ t.tx = s.tx.filter (fun x => x.dest != s.peerPos p)
        ∧ t.wp = s.wp.filter (fun w => w.dest != s.peerPos p && w.home != s.peerPos p)
        ∧ t.subWait = s.subWait.filter (fun w => w.home != s.peerPos p)
        ∧ bitsAt (t.get .ATL_GAZ_STAT_STALE) (s.peerPos p) 1 = 1
        ∧ Touches ([.FAB_PORT_STAT_LOST, .FAB_PORT_STAT_UP, .FAB_PEER_EVENT, .FAB_NOTICE_DUE, .FAB_LOSS_SEC, .FAB_LOSS_NS, .FAB_LOSS_FRAC,
            .FAB_HB_SEEN, .FAB_SPARE_KNOWN, .ATL_GAZ_STAT_MISMATCH, .ATL_GAZ_STAT_STALE, .GAZ_W0_STALE] ++ requestFields ++ reportFields)
            { s with rx := t.rx, tx := t.tx, wp := t.wp, admits := t.admits, subWait := t.subWait, gazFetch := t.gazFetch } t) ∧
    (s.portUp p = true → s.flag .FAB_PORT_STAT_LOST p = true →
      ∃ t, exec (.peerReturn p) s = .next t ∧ t.get .FAB_PORT_STAT_LOST p = 0 ∧ t.get .FAB_NOTICE_DUE p = 0
        ∧ t.get .FAB_PEER_EVENT = (s.get .FAB_PEER_EVENT ||| 2 ^ p) % 2 ^ 11 ∧ Asserted (200 + p) 0 s t
        ∧ (∀ d < 12, t.get .FAB_SPARE_KNOWN (16 * s.peerPos p + d) = 0)
        ∧ (∀ r, s.rx = [r] → r.home = s.peerPos p → r.st = 4 → s.canRequest = true → s.stillWanted r = true → s.portOf (s.peerPos p) = p →
            ∃ x l, t.rx = x :: l ∧ x.slot = r.slot ∧ x.st = 0 ∧ x.sent = false ∧ x.reqNo = s.get .FAB_REQ_NO)
        ∧ Touches ([.FAB_PORT_STAT_LOST, .FAB_PEER_EVENT, .FAB_NOTICE_DUE, .FAB_SPARE_KNOWN] ++ requestFields ++ decoderFields ++ reportFields)
            { s with rx := t.rx, subWait := t.subWait } t) ∧
    (s.flag .FAB_NOTICE_DUE p = true →
      ∃ t, exec (.peerLossNotice p) s = .next t ∧ t.get .FAB_NOTICE_DUE p = 0
        ∧ t.out = .peerLoss s.ownMac (macPlane (s.get .GEN_ENUM_PLANE)) (s.peerPos p) p
            ⟨s.get .FAB_LOSS_SEC p, s.get .FAB_LOSS_NS p, s.get .FAB_LOSS_FRAC p⟩ :: s.out
        ∧ TouchesAt p [.FAB_NOTICE_DUE] [] s t)) ∧
  (∀ (m : Master) (p v : Nat) (s : State), p < 11 → Passes m (0x201000 + 64 * p) s →
    (v ≤ portLimitMax s.variant →
      ∃ t, exec (.portLimitWrite m p v) s = .next t ∧ t.get .FAB_PORT_LIMIT p = v ∧ t.get .FAB_PORT_CEILING p % 2 ^ 32
          = (if s.get .FAB_PORT_CEILING p = min v (s.lanesUp p * 26846590) then s.get .FAB_PORT_CEILING p else min v (s.lanesUp p * 26846590)) % 2 ^ 32
        ∧ (s.fitted p = true → s.get .FAB_PORT_CEILING p ≠ min v (s.lanesUp p * 26846590) → Asserted (211 + p) 0 s t)
        ∧ (s.fitted p = false → TouchesAt p [.FAB_PORT_LIMIT, .FAB_PORT_CEILING, .FAB_PORT_STAT_UP] [] s t)
        ∧ TouchesAt p [.FAB_PORT_LIMIT, .FAB_PORT_CEILING, .FAB_PORT_STAT_UP] reportFields s t) ∧
    (portLimitMax s.variant < v →
      ∃ t, exec (.portLimitWrite m p v) s = .next t ∧ Refused 0x37 (wordOf (0x201000 + 64 * p)) m s t ∧ Touches (refuseFields ++ reportFields) s t))

/-- Requests (R100, R142 to R144, R146, R148 to R151, R155, R168, R169): a waiting request leaves once, one of a source at a time, with
its number; the home device answers at once with the reason that bars it, grants the first rung or what the receiver holds already,
or refuses with 0x30 what fits no port; a grant, a refusal or 5 ms settle the request; a waypoint takes a stream that its port
towards the receiver can carry, and its answer settles the admission; a stream that nobody uses is released, and one that was
dropped is requested again. Streams move, are shed and end (R144, R153 to R156, R162, R193): RELEASE and DROP name the last span,
MIGRATE the first one of the new path; a shed stream that fits no rung is dropped with 0x39; shedding marks the youngest reservation
first, and goes on until the load is within the ceiling; a coded stream is offered the rungs above its coding. That an event whose
condition does not hold changes nothing is DEDUCED (log entry 2). Where the spec leaves a point open it follows the model's reading
(log entries 51, 52, 53, 54, 55, 103, 104 and 106). -/
def Obligations.StreamsAreAdmittedMovedAndEnded : Prop :=
  ((∀ (n : Nat) (r : RxStream) (s : State), s.rx.find? (fun x => x.slot == n) = some r →
    (r.asking = true → r.sent = false → (∀ x ∈ s.rx, x.slot ≠ n → x.src = r.src → x.sent = false) → s.fabSends = true →
      s.portUp (s.portOf r.home) = true →
      ∃ t, exec (.subReqSend n) s = .next t
        ∧ t.rx = s.rx.map (fun x => if x.slot = n then { x with sent := true, maxCoding := if s.running .mzc then r.maxCoding else 1 } else x)
        ∧ t.out = controlOut (s.portOf r.home) (s.get .FAB_CTL_SEQ (s.portOf r.home)) (s.peerPos (s.portOf r.home))
            (.subReq r.reqNo r.kind (if s.running .mzc then r.maxCoding else 1) r.src r.fs) :: s.out
        ∧ TouchesAt (s.portOf r.home) [.FAB_CTL_SEQ] [] { s with rx := t.rx } t) ∧
    (r.st = 1 → r.rejoin = false → s.needed r = false →
      (s.fabSends = true → s.portUp (s.portOf r.home) = true →
        ∃ t, exec (.streamRelease n) s = .next t
          ∧ t.rx = s.rx.map (fun x => if x.slot = n then
              { x with st := 3, relSent := true, relLast := some ((s.spanNow r.kind r.src + if r.kind = 2 then 1 else 0) % 2 ^ 32) } else x)
          ∧ t.out = controlOut (s.portOf r.home) (s.get .FAB_CTL_SEQ (s.portOf r.home)) (s.peerPos (s.portOf r.home))
              (.release (s.rxKey r) ((s.spanNow r.kind r.src + if r.kind = 2 then 1 else 0) % 2 ^ 32)) :: s.out
          ∧ TouchesAt (s.portOf r.home) [.FAB_CTL_SEQ] [] { s with rx := t.rx } t) ∧
      (s.portUp (s.portOf r.home) = false →
        exec (.streamRelease n) s = .next { s with rx := s.rx.map (fun x => if x.slot = n then
          { x with st := 3, relSent := false, relLast := some ((s.spanNow r.kind r.src + if r.kind = 2 then 1 else 0) % 2 ^ 32) } else x) })) ∧
    (r.st = 4 → s.needed r = false →
      ∃ t, exec (.streamRelease n) s = .next t ∧ t.rx = s.rx.filter (fun x => x.slot != n)
        ∧ Touches [.DEST_DRAFT_RX, .DEST_LIVE_RX, .DEST_PREV_RX] { s with rx := t.rx } t) ∧
    (s.needed r = true → exec (.streamRelease n) s = .next s) ∧
    (r.st = 4 → r.again = true → s.canRequest = true → s.stillWanted r = true → s.homeLost r.home = false →
      (∀ x ∈ s.rx, x.src = r.src → x.slot = n ∧ x.st = 4) →
      ∃ t, exec (.streamRerequest n) s = .next t ∧ t.get .FAB_REQ_NO = (s.get .FAB_REQ_NO + 1) % 2 ^ 16
        ∧ (∀ x ∈ t.rx, x.slot = n → x.st = 0 ∧ x.sent = false ∧ x.reqNo = s.get .FAB_REQ_NO ∧ x.maxCoding = s.policyOf r ∧ x.coding = 0
            ∧ x.relLast = none ∧ x.next = [] ∧ x.spans = 0)
        ∧ t.rx.filter (fun x => x.slot != n) = s.rx.filter (fun x => x.slot != n) ∧ t.rx.length = s.rx.length
        ∧ Touches ([.FAB_REQ_NO, .ATL_DRAFT_STAT_FAB_REASON, .CMP_TILE_W8_FAB_REASON] ++ decoderFields) { s with rx := t.rx } t)) ∧
  (∀ (reqNo coding waypoint first code why : Nat) (r : RxStream) (s : State),
    s.rx.find? (fun x => x.reqNo == reqNo && x.asking && x.sent) = some r → (∀ w ∈ s.subWait, w.src ≠ r.src) →
    (r.st = 0 → (∀ x ∈ s.rx, x.slot ≠ r.slot → x.src ≠ r.src) → (s.running .mzc = true ∨ coding ≤ 1) →
      ∃ t, exec (.subGrant reqNo coding waypoint first) s = .next t
        ∧ (∀ x ∈ t.rx, x.slot = r.slot → x.st = 1 ∧ x.coding = coding ∧ x.waypoint = waypoint ∧ x.first = first ∧ x.reason = 0)
        ∧ t.rx.filter (fun x => x.slot != r.slot) = s.rx.filter (fun x => x.slot != r.slot) ∧ t.rx.length = s.rx.length
        ∧ (r.kind = 0 → ∀ d < 96, r.is (s.draftRx d) = true → t.get .ATL_DRAFT_STAT_FAB_REASON d = 0)
        ∧ Touches [.ATL_DRAFT_STAT_FAB_REASON, .CMP_TILE_W8_FAB_REASON] { s with rx := t.rx, subWait := t.subWait } t) ∧
    (r.st ≠ 0 → r.next = [] → (s.running .mzc = true ∨ coding ≤ 1) →
      ∃ t, exec (.subGrant reqNo coding waypoint first) s = .next t
        ∧ t.rx = s.rx.map (fun x => if x.slot = r.slot then (if x.next = [] then
              { x with st := 1, rejoin := false, relLast := none, relSent := false, reason := 0, coding := coding, waypoint := waypoint }
            else { x with st := 1, rejoin := false, relLast := none, relSent := false, reason := 0 }) else x)
        ∧ Touches [.ATL_DRAFT_STAT_FAB_REASON, .CMP_TILE_W8_FAB_REASON] { s with rx := t.rx, subWait := t.subWait } t) ∧
    (r.kind = 0 → r.st ≠ 1 → r.again = false → s.fedBy r = [] →
      ∃ t, exec (.subRefuse reqNo code why) s = .next t ∧ t.rx = s.rx.filter (fun x => x.slot != r.slot) ∧ Asserted 222 0 s t
        ∧ (∀ d < 96, t.get .ATL_DRAFT_STAT_FAB_REASON d = if r.is (s.draftRx d) then code % 2 ^ 8 else s.get .ATL_DRAFT_STAT_FAB_REASON d)
        ∧ Touches ([.ATL_DRAFT_STAT_FAB_REASON, .MZC_DEST_STAT0_LAST_REASON, .DEST_DRAFT_RX, .DEST_LIVE_RX, .DEST_PREV_RX] ++ reportFields)
            { s with rx := t.rx, subWait := t.subWait } t) ∧
    (r.st = 1 → ∃ t, exec (.subRefuse reqNo code why) s = .next t
        ∧ t.rx = s.rx.map (fun x => if x.slot = r.slot then { x with rejoin := false } else x)
        ∧ Touches [] { s with rx := t.rx, subWait := t.subWait } t)) ∧
  (∀ (n : Nat) (r : RxStream) (s : State), s.rx.find? (fun x => x.slot == n && x.asking) = some r → (∀ w ∈ s.subWait, w.src ≠ r.src) →
    r.kind = 0 → r.st ≠ 1 → r.again = false → s.fedBy r = [] →
    ∃ t, exec (.subReqTimeout n) s = .next t ∧ t.rx = s.rx.filter (fun x => x.slot != r.slot) ∧ Asserted 222 0 s t
      ∧ (∀ d < 96, t.get .ATL_DRAFT_STAT_FAB_REASON d = if r.is (s.draftRx d) then 0x3A else s.get .ATL_DRAFT_STAT_FAB_REASON d)
      ∧ Touches ([.ATL_DRAFT_STAT_FAB_REASON, .DEST_DRAFT_RX, .DEST_LIVE_RX, .DEST_PREV_RX] ++ reportFields)
          { s with rx := t.rx, subWait := t.subWait } t) ∧
  (∀ (p reqNo kind hi src fs : Nat) (s : State), p < 11 → s.positioned = true → s.running .fabric = false → s.inQuiet = false → s.inSafe = false →
    ∃ t, exec (.subReq p reqNo kind hi src fs) s = .next t
      ∧ t.out = controlOut p (s.get .FAB_CTL_SEQ p) (s.peerPos p) (.subRefuse reqNo 0x3B 0) :: s.out ∧ TouchesAt p [.FAB_CTL_SEQ] [] s t) ∧
  (∀ (p reqNo kind hi src fs : Nat) (s : State), p < 11 → s.positioned = true → s.fabSends = true → ∀ d, d = s.peerPos p → ∀ q, q = s.portOf d →
    s.portUp q = true →
    (∀ x, s.heldStream kind src d (if kind = 0 then hi else 1) = some x →
      ∃ t, exec (.subReq p reqNo kind hi src fs) s = .next t
        ∧ t.tx = s.tx.map (fun y => if y.slot = x.slot then { y with last := none, released := false, maxCoding := if kind = 0 then hi else 1 } else y)
        ∧ t.out = controlOut q (s.get .FAB_CTL_SEQ q) (s.peerPos q) (.subGrant reqNo x.coding x.waypoint (s.spanNext kind src % 2 ^ 32)) :: s.out
        ∧ TouchesAt q [.FAB_CTL_SEQ] [] { s with tx := t.tx } t) ∧
    ((∀ x ∈ s.tx, x.dest = d → x.src ≠ src) →
      (s.requestRefusal kind src fs ≠ 0 →
        ∃ t, exec (.subReq p reqNo kind hi src fs) s = .next t
          ∧ t.out = controlOut q (s.get .FAB_CTL_SEQ q) (s.peerPos q) (.subRefuse reqNo (s.requestRefusal kind src fs) 0) :: s.out
          ∧ TouchesAt q [.FAB_CTL_SEQ] [] s t) ∧
      (∀ n, s.requestRefusal kind src fs = 0 → 1 ≤ hi → s.tx.length < 4095 → freeSlot 4096 (s.tx.map (·.slot)) = some n →
        s.fits q (s.costOf kind src 1 fs) = true →
        ∃ t, exec (.subReq p reqNo kind hi src fs) s = .next t
          ∧ t.tx = s.tx ++ [⟨n, kind, src, d, 1, q, 15, s.costOf kind src 1 fs, s.spanNext kind src % 2 ^ 32, s.get .FAB_ORDER_NEXT q, fs,
              if kind = 0 then hi else 1, 0, none, false, false, 0, [], []⟩]
          ∧ t.out = controlOut q (s.get .FAB_CTL_SEQ q) (s.peerPos q) (.subGrant reqNo 1 15 (s.spanNext kind src % 2 ^ 32)) :: s.out
          ∧ TouchesAt q [.FAB_CTL_SEQ, .FAB_ORDER_NEXT] [] { s with tx := t.tx } t) ∧
      (s.requestRefusal kind src fs = 0 → s.tx.length < 4096 → (∀ k < 12, ∀ c ≤ 3, s.fits k (s.costOf kind src c fs) = false) →
        ∃ t, exec (.subReq p reqNo kind hi src fs) s = .next t ∧ t.tx = s.tx
          ∧ t.out = controlOut q (s.get .FAB_CTL_SEQ q) (s.peerPos q)
              (.subRefuse reqNo 0x30 (s.homeCodingReason kind src (if kind = 0 then hi else 1))) :: s.out
          ∧ TouchesAt q [.FAB_CTL_SEQ] [] s t))) ∧
  (∀ (p reqNo cost : Nat) (key : StreamKey) (s : State), p < 11 → s.fabSends = true → s.portUp p = true → ∀ out, out = s.portOf key.receiver →
    (∀ n, freeSlot 1024 (s.wp.map (·.slot)) = some n → s.get .FAB_PORT_STAT_WIRING out = 0 → s.wp.length < 1023 → s.fits out cost = true →
      ∃ t, exec (.wpReq p reqNo key cost) s = .next t
        ∧ t.wp = s.wp ++ [⟨n, key.kind, key.source, key.coding, p, out, key.home, key.receiver, cost, 0, s.get .FAB_ORDER_NEXT out, none, false⟩]
        ∧ t.out = controlOut p (s.get .FAB_CTL_SEQ p) (s.peerPos p) (.wpAnswer reqNo 0 (t.portSpare out)) :: s.out
        ∧ Touches [.FAB_CTL_SEQ, .FAB_ORDER_NEXT] { s with wp := t.wp } t) ∧
    (∀ n, freeSlot 1024 (s.wp.map (·.slot)) = some n → s.fits out cost = false →
      ∃ t, exec (.wpReq p reqNo key cost) s = .next t ∧ t.wp = s.wp
        ∧ t.out = controlOut p (s.get .FAB_CTL_SEQ p) (s.peerPos p)
            (.wpAnswer reqNo (if s.flag .FAB_PORT_STAT_WIRING out then 0x36 else if s.flag .FAB_PORT_STAT_LOST out || !s.portUp out then 0x32 else 0x30)
              (s.portSpare out)) :: s.out
        ∧ TouchesAt p [.FAB_CTL_SEQ] [] s t)) ∧
  (∀ (p reqNo code spare : Nat) (a : Admit) (s : State), s.admits.find? (fun x => x.reqNo == reqNo && x.waypoint == s.peerPos p) = some a →
    a.moves = none → s.fabSends = true → s.portUp (s.portOf a.dest) = true → s.homeLost (s.peerPos p) = false →
    (∀ n, code = 0 → s.mayTake a a.coding = true → freeSlot 4096 (s.tx.map (·.slot)) = some n → s.tx.length < 4095 →
      ∃ t, exec (.wpAnswer p reqNo code spare) s = .next t
        ∧ t.tx = s.tx ++ [⟨n, a.kind, a.src, a.dest, a.coding, a.port, s.peerPos p, a.cost, s.spanNext a.kind a.src % 2 ^ 32,
            s.get .FAB_ORDER_NEXT a.port, a.fs, a.maxCoding, 0, none, false, false, 0, [], []⟩]
        ∧ t.admits = s.admits.filter (fun x => !(x.reqNo == reqNo && x.waypoint == s.peerPos p))
        ∧ t.out = controlOut (s.portOf a.dest) (s.get .FAB_CTL_SEQ (s.portOf a.dest)) (s.peerPos (s.portOf a.dest))
            (.subGrant a.reqNo a.coding (s.peerPos p) (s.spanNext a.kind a.src % 2 ^ 32)) :: s.out
        ∧ t.get .FAB_SPARE (16 * s.peerPos p + a.dest) = spare % 2 ^ 32
        ∧ Touches [.FAB_CTL_SEQ, .FAB_ORDER_NEXT, .FAB_SPARE, .FAB_SPARE_KNOWN] { s with tx := t.tx, admits := t.admits } t) ∧
    (code ≠ 0 → a.tries ≤ 1 → a.rungs = [] →
      ∃ t, exec (.wpAnswer p reqNo code spare) s = .next t
        ∧ t.admits = s.admits.filter (fun x => !(x.reqNo == reqNo && x.waypoint == s.peerPos p))
        ∧ t.out = controlOut (s.portOf a.dest) (s.get .FAB_CTL_SEQ (s.portOf a.dest)) (s.peerPos (s.portOf a.dest))
            (.subRefuse a.reqNo 0x30 (s.homeCodingReason a.kind a.src a.maxCoding)) :: s.out
        ∧ Touches [.FAB_CTL_SEQ, .FAB_SPARE, .FAB_SPARE_KNOWN] { s with admits := t.admits } t))) ∧
  ((∀ (key : StreamKey) (last coding waypoint first code : Nat) (s : State),
    (key.home = s.position → exec (.release key last) s = .next { s with tx := s.tx.map (fun x =>
      if x.src = key.source ∧ x.kind = key.kind ∧ x.dest = key.receiver ∧ (x.coding = key.coding ∨ ∃ o ∈ x.old, o.coding = key.coding) then
        { x with last := some last, released := true }
      else x) }) ∧
    (key.home ≠ s.position → exec (.release key last) s = .next { s with wp := s.wp.map (fun w =>
      if w.src = key.source ∧ w.kind = key.kind ∧ w.coding = key.coding ∧ w.dest = key.receiver ∧ w.home = key.home then
        { w with last := some last } else w) }) ∧
    (key.receiver = s.position → (key.kind ≠ 0 ∨ coding ≤ 1 ∨ s.running .mzc = true) →
      exec (.migrate key coding waypoint first) s = .next { s with rx := s.rx.map (fun r =>
        if r.src = key.source ∧ r.kind = key.kind ∧ r.home = key.home ∧ (r.coding = key.coding ∨ ∃ n ∈ r.next, n.1 = key.coding) ∧ (r.st = 1 ∨ r.st = 3) then
          { r with next := r.next.filter (fun n => behind32 n.2.2 first) ++ [(coding, waypoint, first)], migrations := satAdd 16 r.migrations 1 } else r) }) ∧
    (key.receiver ≠ s.position → (waypoint ≠ s.position ∨ coding ≠ key.coding) →
      exec (.migrate key coding waypoint first) s = .next { s with wp := s.wp.map (fun w =>
        if w.src = key.source ∧ w.kind = key.kind ∧ w.coding = key.coding ∧ w.dest = key.receiver ∧ w.home = key.home then
          { w with last := some ((first + 2 ^ 32 - 1) % 2 ^ 32) } else w) }) ∧
    (∀ r, key.receiver = s.position → key.kind = 0 → s.rx.find? (fun r => rxMatches key r && r.runs) = some r →
      ∃ t, exec (.drop key code last) s = .next t ∧ Asserted (if code = 0x43 then 234 else 224) 2 s t
        ∧ t.rx = s.rx.map (fun x => if x.slot = r.slot then
              { x with st := 4, rejoin := false, reason := code, again := code == 0x39, dropLast := some last, spans := 0, good := 0 } else x)
        ∧ (code = 0x43 → t.get .MZC_DEC_LAST_REASON r.slot = 0x43)
        ∧ (code ≠ 0x43 → Touches reportFields { s with rx := t.rx } t)
        ∧ Touches ([.MZC_DEC_LAST_REASON, .MZC_DEST_STAT0_LAST_REASON] ++ reportFields) { s with rx := t.rx } t) ∧
    (key.receiver ≠ s.position → exec (.drop key code last) s = .next { s with wp := s.wp.map (fun w =>
      if w.src = key.source ∧ w.kind = key.kind ∧ w.coding = key.coding ∧ w.dest = key.receiver ∧ w.home = key.home then
        { w with last := some last } else w) })) ∧
  (∀ (key : StreamKey) (x : TxStream) (s : State), s.tx = [x] →
    x.src = key.source → x.kind = key.kind → x.coding = key.coding → x.dest = key.receiver → x.last = none → s.admits = [] →
    (∀ k < 12, ∀ c ≤ 3, ({ s with tx := [{ x with shedding := true }] } : State).fits k (s.costOf x.kind x.src c x.fs) = false) →
    ∃ t, exec (.wpShed key) s = .next t ∧ Asserted 224 2 s t
      ∧ t.tx = [{ x with shedding := true, last := some (s.spanNow x.kind x.src % 2 ^ 32), reason := 0x39 }]
      ∧ Touches ([.FAB_REQ_NO, .FAB_CTL_SEQ] ++ reportFields) { s with tx := t.tx } t) ∧
  (∀ (p : Nat) (s : State),
    (s.portLoad p - s.shedLoad p ≤ s.get .FAB_PORT_CEILING p → exec (.shedDecision p) s = .next s) ∧
    (∀ w : WpStream, s.tx = [] → s.wp = [w] → w.outPort = p → w.shedding = false → w.last = none → s.get .FAB_PORT_CEILING p < s.portLoad p →
      s.fabSends = true → s.portUp (s.portOf w.home) = true →
      ∃ t, exec (.shedDecision p) s = .next t ∧ t.wp = [{ w with shedding := true }]
        ∧ t.out = controlOut (s.portOf w.home) (s.get .FAB_CTL_SEQ (s.portOf w.home)) (s.peerPos (s.portOf w.home))
            (.wpShed ⟨w.src, w.kind, w.coding, w.dest, w.home⟩ 0x39) :: s.out
        ∧ TouchesAt (s.portOf w.home) [.FAB_CTL_SEQ] [] { s with wp := t.wp } t)) ∧
  (∀ (x : TxStream) (s : State), s.running .fabric = true → s.tx = [x] → s.admits = [] →
    (s.flag .FAB_CTRL_REVERT = false → exec .revertOffer s = .next s) ∧
    (x.coding ≤ 1 → exec .revertOffer s = .next s) ∧
    (s.flag .FAB_CTRL_REVERT = true → 2 ≤ x.coding → x.kind = 0 → x.last = none → x.old = [] → x.waypoint = 15 →
      s.fits (s.portOf x.dest) (s.costOf 0 x.src 1 x.fs) = true →
      ∃ t, exec .revertOffer s = .next t ∧ Asserted 223 0 s t
        ∧ t.tx = [
          { x with coding := 1, port := s.portOf x.dest, cost := s.costOf 0 x.src 1 x.fs, shedding := false, order := s.get .FAB_ORDER_NEXT (s.portOf x.dest)
                   old := [⟨x.port, 15, x.cost, x.coding, prevSpan (s.spanNext 0 x.src % 2 ^ 32), x.order, x.shedding⟩] }]
        ∧ Touches ([.FAB_REQ_NO, .FAB_CTL_SEQ, .FAB_ORDER_NEXT] ++ reportFields) { s with tx := t.tx } t)))

/-! ### Composition and the lines that leave -/

/-- Lines (R95, R115, R116, R426, R438): a line of a running destination leaves as what its store, its stream or its loss action gives;
a missing line of its remote source is counted at the stream and starts the loss; a line of a head is composed from what was latched
for its frame, and an overlay line that could not be read is counted. That an event whose condition does not hold changes nothing is
DEDUCED (log entry 2). Where the spec leaves a point open it follows the model's reading (log entries 49, 81, 113, 115 and 116). -/
def Obligations.LinesLeaveAsTheyWereLatched : Prop :=
  (∀ (d n line : Nat) (live : Option (List Nat × List Byte)) (s : State),
    (s.running .dest d = false → exec (.lineDeparture (.dest d n line live)) s = .next s) ∧
    (s.running .dest d = true → n % 2 ^ 32 = s.get .DEST_FRAME d % 2 ^ 32 → s.innerState d = 0 → s.inSafe = false →
      s.flag .AUD_AFV_DUE d = false → s.flag .ATL_DEST_STAT_LOST d = false →
      (s.isRemote (s.get .ATL_LIVE_SOURCE d) = false →
        ∃ t, exec (.lineDeparture (.dest d n line live)) s = .next t
          ∧ t.out = .line d n line (s.flag .TWN_STAT_DRIVING) (s.sdiLines 1 d (s.get .ATL_DEST_CTRL_FORMAT d) line
              (s.lineUnder 0 d (s.liveRx d) (s.get .ATL_LIVE_SOURCE d) n line live).words)
              (s.lineUnder 0 d (s.liveRx d) (s.get .ATL_LIVE_SOURCE d) n line live) :: s.out
          ∧ Touches [.IN_LINE_SPAN, .IN_LINE_READ] s t) ∧
      (∀ r, s.isRemote (s.get .ATL_LIVE_SOURCE d) = true → s.liveRx d = some r → (markerFor r (n % 2 ^ 16)).any (·.lost) = false →
        alreadyRead r (n % 2 ^ 16) line = false →
        (s.readRemote r (n % 2 ^ 16) line = .missing →
          ∃ t, exec (.lineDeparture (.dest d n line live)) s = .next t
            ∧ (if Config.activeLine (s.formatOf (s.get .ATL_LIVE_SOURCE d)) line then
                t.get .ATL_DEST_STAT_LOST d = 1 ∧ t.get .ATL_DEST_STAT_LOSS_COUNT d = satAdd 16 (s.get .ATL_DEST_STAT_LOSS_COUNT d) 1
                  ∧ Asserted 189 0 s t ∧ (∀ x ∈ t.rx, x.slot = r.slot → x.spans = 0 ∧ x.good = 0 ∧ x.read = some (n % 2 ^ 16, line))
                  ∧ t.rx.map (fun x => (x.slot, x.missing))
                      = s.rx.map (fun x => (x.slot, if x.slot = r.slot then satAdd 16 x.missing 1 else x.missing))
                  ∧ (s.get .DEST_LOSS_LAST d ≠ n % 2 ^ 32 + 1 →
                      t.get .ATL_LIVE_LOSS_FRAMES d = satAdd 32 (s.get .ATL_LIVE_LOSS_FRAMES d) 1)
              else t.rx = s.rx ∧ t.get .ATL_DEST_STAT_LOST d = s.get .ATL_DEST_STAT_LOST d)
            ∧ TouchesAt d [.ATL_DEST_STAT_LOST, .ATL_DEST_STAT_LOSS_COUNT, .DEST_HOLD_COUNT, .DEST_RECOVER, .DEST_LOSS_LAST, .ATL_LIVE_LOSS_FRAMES,
                .AUD_AFV_DUE, .AUD_AFV_LEFT] reportFields { s with rx := t.rx } t) ∧
        (∀ xs shifts coarse, Config.activeLine (s.formatOf (s.get .ATL_LIVE_SOURCE d)) line = true →
          s.readRemote r (n % 2 ^ 16) line = .samples xs shifts coarse → codingOfSpan r (n % 2 ^ 16) ≤ 1 →
          ∃ t, exec (.lineDeparture (.dest d n line live)) s = .next t
            ∧ t.out = .line d n line (s.flag .TWN_STAT_DRIVING) (s.sdiLines 1 d (s.get .ATL_DEST_CTRL_FORMAT d) line xs)
                (.samples xs (ancBytes r (n % 2 ^ 16) line)) :: s.out
            ∧ t.rx = s.rx.map (fun x => if x.slot = r.slot then { x with read := some (n % 2 ^ 16, line) } else x)
            ∧ Touches [] { s with rx := t.rx } t)))) ∧
  (∀ (n frame line : Nat) (s : State),
    (s.shots.find? (fun h => h.head == n && h.frame == frame) = none → ∀ failed,
      exec (.lineDeparture (.head n frame line failed)) s = .next s) ∧
    (∀ h, s.shots.find? (fun h => h.head == n && h.frame == frame) = some h → s.headRuns n = true →
      (∀ row, row = (if Config.activeLine (s.get .CMP_HEAD_CTRL_FORMAT n) line then s.headRow h [] (rowOfLine (s.get .CMP_HEAD_CTRL_FORMAT n) line) else []) →
        exec (.lineDeparture (.head n frame line [])) s = .next (s.emit (.head n frame line (s.flag .TWN_STAT_DRIVING)
          (s.sdiLines 2 n (s.get .CMP_HEAD_CTRL_FORMAT n) line row) row))) ∧
      (∀ o, h.ovls.any (fun x => x.1 == o) = true → n < 4 → o < 8 →
        ∃ t, exec (.lineDeparture (.head n frame line [(o, none)])) s = .next t
          ∧ (if Config.activeLine (s.get .CMP_HEAD_CTRL_FORMAT n) line then
              t.get .CMP_OVL_FETCH_FAULTS (8 * n + o) = satAdd 32 (s.get .CMP_OVL_FETCH_FAULTS (8 * n + o)) 1
                ∧ t.get .CMP_HEAD_EVT n = (s.get .CMP_HEAD_EVT n ||| 8) % 2 ^ 6
            else t.regs = s.regs)
          ∧ Touches ([.CMP_OVL_FETCH_FAULTS, .CMP_HEAD_EVT] ++ reportFields) s t)))

/-- Shadows and commands of a head (R431, R433, R439 to R443): ARM and GO are validated, the first code is recorded and refuses; CANCEL
withdraws; a fence takes its value from a signal or an item; a bank in use or coming into use refuses its writes with 0xC9, a shadow
under a pending flip or commit with 0xC6. Where the spec leaves a point open it follows the model's reading (log entries 67, 82 and
132). -/
def Obligations.ShadowsAndFencesAreGuarded : Prop :=
  (∀ (m : Master) (n l v : Nat) (s : State), n < 4 → l < 72 → Passes m (layerOff n l 10) s →
    (s.armCode n l = 0 →
      ∃ t, exec (.layerArm m n l v) s = .next t ∧ t.armed n l = true ∧ t.get .CMP_HEAD_STAT_LAST_REASON n = 0
        ∧ t.get (waitField l) (layerIdx n l) = 0 ∧ t.get .CMP_FLIP_FENCE (72 * n + l) = bitsAt v 16 4
        ∧ t.get .CMP_FLIP_VALUE (72 * n + l) = bitsAt v 0 16
        ∧ Touches [.CMP_HEAD_STAT_LAST_REASON, .CMP_TILE_W8_LAST_REASON, .CMP_OVL_LAST_REASON, .CMP_TILE_W8_ARMED, .CMP_OVL_ARMED,
            .CMP_TILE_WAIT_FRAMES, .CMP_OVL_WAIT_FRAMES, .CMP_FLIP_FENCE, .CMP_FLIP_VALUE] s t) ∧
    (∀ c, c = s.armCode n l → c ≠ 0 →
      ∃ t, exec (.layerArm m n l v) s = .next t ∧ Refused c (wordOf (layerOff n l 10)) m s t ∧ t.get .CMP_HEAD_STAT_LAST_REASON n = c % 2 ^ 8
        ∧ t.armed n l = s.armed n l
        ∧ Touches ([.CMP_HEAD_STAT_LAST_REASON, .CMP_TILE_W8_LAST_REASON, .CMP_OVL_LAST_REASON] ++ refuseFields ++ reportFields) s t) ∧
    (s.flag .CMP_HEAD_CTRL_FENCED n = false → s.armCode n l = 0xC7) ∧
    (s.flag .CMP_HEAD_CTRL_FENCED n = true → s.armed n l = true → s.armCode n l = 0xC6) ∧
    (∃ t, exec (.layerCancel m n l) s = .next t ∧ t.armed n l = false
      ∧ TouchesAt (layerIdx n l) [if l < 64 then .CMP_TILE_W8_ARMED else .CMP_OVL_ARMED] [] s t)) ∧
  (∀ (m : Master) (n : Nat) (s : State), n < 4 → Passes m (0x1280014 + 0x20000 * n) s →
    (s.goCode n = 0 →
      ∃ t, exec (.headCommit m n) s = .next t ∧ t.get .CMP_HEAD_STAT_PENDING n = 1 ∧ t.get .CMP_HEAD_STAT_LAST_REASON n = 0
        ∧ t.get .CMP_COMMIT_TICK n = s.tick % 2 ^ 64
        ∧ TouchesAt n [.CMP_HEAD_STAT_PENDING, .CMP_HEAD_STAT_LAST_REASON, .CMP_COMMIT_TICK] [] s t) ∧
    (∀ c, c = s.goCode n → c ≠ 0 →
      ∃ t, exec (.headCommit m n) s = .next t ∧ Refused c (wordOf (0x1280014 + 0x20000 * n)) m s t
        ∧ t.get .CMP_HEAD_STAT_PENDING n = s.get .CMP_HEAD_STAT_PENDING n ∧ t.get .CMP_HEAD_STAT_LAST_REASON n = c % 2 ^ 8
        ∧ TouchesAt n [.CMP_HEAD_STAT_LAST_REASON] (refuseFields ++ reportFields) s t) ∧
    (s.flag .CMP_HEAD_CTRL_FENCED n = true → s.goCode n = 0xC7) ∧
    (∃ t, exec (.headCancel m n) s = .next t ∧ t.get .CMP_HEAD_STAT_PENDING n = 0 ∧ TouchesAt n [.CMP_HEAD_STAT_PENDING] [] s t)) ∧
  (∀ (m : Master) (n v : Nat) (s : State), n < 4 → Passes m (0x1280028 + 0x20000 * n) s →
    ∃ t, exec (.fenceSignal m n v) s = .next t ∧ t.get .CMP_FENCE (16 * n + bitsAt v 16 4) = bitsAt v 0 16
      ∧ TouchesAt (16 * n + bitsAt v 16 4) [.CMP_FENCE] [] s t) ∧
  (∀ (n q : Nat) (it : Item) (s : State), s.running .head n = true → s.flag .CMP_HEAD_FQ_FQ_EN n = true → q = s.get .CMP_HEAD_FQ_QUEUE n →
    s.running .queue q = true → s.get .PKT_Q_CONS_AGENT q = 7 → s.qHead q = some it → isFenceItem it.header = true →
    ∃ t, exec (.fenceItem n) s = .next t ∧ t.get .CMP_FENCE (16 * n + bitsAt (itemTag it.header) 16 4) = bitsAt (itemTag it.header) 0 16
      ∧ t.get .PKT_Q_PTR_CONS q = s.qAdvance q (s.get .PKT_Q_PTR_CONS q) 1 % 2 ^ 25
      ∧ Touches [.CMP_FENCE, .PKT_Q_PTR_CONS, .PKT_Q_ITEM_ECC] s t) ∧
  (∀ (m : Master) (n v : Nat) (s : State), n < 4 → Passes m (0x1280018 + 0x20000 * n) s →
    ∃ t, exec (.lutselWrite m n v) s = .next t ∧ t.get .CMP_HEAD_LUTSEL_SEL n = v % 8 ∧ t.get .CMP_LUT_PENDING n = 1
      ∧ t.get .CMP_LUT_TICK n = s.tick % 2 ^ 64 ∧ TouchesAt n [.CMP_HEAD_LUTSEL_SEL, .CMP_LUT_PENDING, .CMP_LUT_TICK] [] s t) ∧
  (∀ (m : Master) (n o v lut bank : Nat) (s : State), n < 4 → lutOf o = some (lut, bank) → Passes m (0x1280000 + 0x20000 * n + o) s →
    (s.bankBusy n lut bank = true →
      ∃ t, exec (.lutWrite m n o v) s = .next t ∧ Refused 0xC9 (wordOf (0x1280000 + 0x20000 * n + o)) m s t
        ∧ Touches (refuseFields ++ reportFields) s t) ∧
    (s.bankBusy n lut bank = false → exec (.lutWrite m n o v) s = .next (writeWord m (0x1280000 + 0x20000 * n + o) v s)) ∧
    (bitsAt (s.get .CMP_HEAD_LUTSEL_IN_USE n) lut 1 = bank → s.bankBusy n lut bank = true)) ∧
  (∀ (m : Master) (n v : Nat) (w : Shadow) (s : State), n < 4 → shadowValid w = true → Passes m (shadowOff n w) s →
    ((s.flag .CMP_HEAD_STAT_PENDING n = true ∨ ∃ l k, w = .layer l k ∧ s.armed n l = true) →
      ∃ t, exec (.shadowWrite m n w v) s = .next t ∧ Refused 0xC6 (wordOf (shadowOff n w)) m s t ∧ Touches (refuseFields ++ reportFields) s t) ∧
    (∀ l k, w = .layer l k → s.flag .CMP_HEAD_STAT_PENDING n = false → s.armed n l = false →
      ((64 ≤ l ∨ k ≠ 0) → exec (.shadowWrite m n w v) s = .next (writeWord m (layerOff n l k) v s)) ∧
      (l < 64 → k = 0 → (writeWord m (layerOff n l k) v s).isRemote (bitsAt v 0 11) = false →
        sourceOf ((writeWord m (layerOff n l k) v s).wordAt (layerOff n l 0)) = bitsAt v 0 11 →
        exec (.shadowWrite m n w v) s = .next ((writeWord m (layerOff n l k) v s).put .CMP_TILE_W8_FAB_REASON (64 * n + l) 0))) ∧
    (w = .colour 0 → s.flag .CMP_HEAD_STAT_PENDING n = false →
      ∃ t, exec (.shadowWrite m n w v) s = .next t ∧ t.get .CMP_HEAD_BG n = v % 2 ^ 30 ∧ t.get .CMP_BG_TICK (5 * n) = s.tick % 2 ^ 64
        ∧ Touches [.CMP_HEAD_BG, .CMP_BG_TICK] s t))

/-- Latch points (R426, R431, R439, R441, R443 to R445): a pending commit whose 50 µs have passed makes every shadow live together; a
flip alone goes live when its fence has reached its value, and counts the latch points it waits; a bank selection takes effect; a
tile that is not ready counts a miss and one that is ready restores its picture; the frame is composed from what is live then. That
an event whose condition does not hold changes nothing is DEDUCED (log entry 2). Where the spec leaves a point open it follows the
model's reading (log entry 82). -/
def Obligations.LatchPointsMakeShadowsLive : Prop :=
  ∀ (n frame : Nat) (aged : List Nat) (s : State), n < 4 →
    (s.headRuns n = false → exec (.latchPoint n frame aged) s = .next s) ∧
    (s.headRuns n = true → ∃ t, exec (.latchPoint n frame aged) s = .next t
      ∧ t.shots = t.shotOf n frame :: (s.shots.filter (fun h => h.head == n)).take 1 ++ s.shots.filter (fun h => h.head != n)
      ∧ (s.flag .CMP_LUT_PENDING n = true → s.get .CMP_LUT_TICK n + 20000 ≤ s.tick →
          t.get .CMP_HEAD_LUTSEL_IN_USE n = s.get .CMP_HEAD_LUTSEL_SEL n % 8 ∧ t.get .CMP_LUT_PENDING n = 0)
      ∧ (s.flag .CMP_HEAD_CTRL_FENCED n = false → s.flag .CMP_HEAD_STAT_PENDING n = true → s.get .CMP_COMMIT_TICK n + 20000 ≤ s.tick →
          t.get .CMP_HEAD_STAT_PENDING n = 0 ∧ t.get .CMP_BG_LIVE n = s.get .CMP_HEAD_BG n % 2 ^ 30
          ∧ (∀ l < 72, t.liveOf n l = (s.shadowOf n l).map (· % 2 ^ 32)))
      ∧ (s.flag .CMP_HEAD_CTRL_FENCED n = false → s.flag .CMP_HEAD_STAT_PENDING n = false →
          t.get .CMP_BG_LIVE n = s.get .CMP_BG_LIVE n ∧ ∀ l < 72, t.liveOf n l = s.liveOf n l)
      ∧ (∀ l < 72, s.flag .CMP_HEAD_CTRL_FENCED n = true → s.armed n l = false → t.liveOf n l = s.liveOf n l)
      ∧ (∀ l < 72, s.flag .CMP_HEAD_CTRL_FENCED n = true → s.armed n l = true →
          reached (s.get .CMP_FENCE (16 * n + s.get .CMP_FLIP_FENCE (72 * n + l))) (s.get .CMP_FLIP_VALUE (72 * n + l)) = false →
          t.armed n l = true ∧ t.liveOf n l = s.liveOf n l
            ∧ t.get (waitField l) (layerIdx n l) = satAdd 16 (s.get (waitField l) (layerIdx n l)) 1)
      ∧ (∀ l < 72, s.flag .CMP_HEAD_CTRL_FENCED n = true → s.armed n l = true → (∀ k < 72, k ≠ l → s.armed n k = false) →
          reached (s.get .CMP_FENCE (16 * n + s.get .CMP_FLIP_FENCE (72 * n + l))) (s.get .CMP_FLIP_VALUE (72 * n + l)) = true →
          t.armed n l = false ∧ (s.seventeenth n l = false → t.liveOf n l = (s.shadowOf n l).map (· % 2 ^ 32))
            ∧ (s.seventeenth n l = true → t.liveOf n l = s.liveOf n l ∧ t.get .CMP_HEAD_STAT_LAST_REASON n = 0xC5))
      ∧ (∀ l < 64, t.flag .CMP_TILE_W8_READY (64 * n + l) = false → layerOn (t.liveOf n l) = true →
          t.get .CMP_TILE_W8_MISSES (64 * n + l) = satAdd 8 (s.get .CMP_TILE_W8_MISSES (64 * n + l)) 1)
      ∧ (∀ l < 64, t.flag .CMP_TILE_W8_READY (64 * n + l) = true →
          t.get .CMP_TILE_W8_MISSES (64 * n + l) = 0 ∧ t.get .CMP_TILE_W8_FALLBACK_ON (64 * n + l) = 0)
      ∧ (∀ l < 64, l ∈ aged → t.flag .CMP_TILE_W8_READY (64 * n + l) = false)
      ∧ Touches ([.CMP_BG_LIVE, .CMP_HEAD_EVT, .CMP_HEAD_LUTSEL_IN_USE, .CMP_HEAD_STAT_EVAC, .CMP_HEAD_STAT_LAST_REASON, .CMP_HEAD_STAT_PENDING,
          .CMP_LUT_PENDING, .CMP_OVL_ARMED, .CMP_OVL_L0, .CMP_OVL_L1, .CMP_OVL_L2, .CMP_OVL_L3, .CMP_OVL_LAST_REASON, .CMP_OVL_WAIT_FRAMES,
          .CMP_TALLY_LIVE, .CMP_TILE_L0, .CMP_TILE_L1, .CMP_TILE_L2, .CMP_TILE_L3, .CMP_TILE_MISS_TOTAL, .CMP_TILE_OLD, .CMP_TILE_W8_ARMED,
          .CMP_TILE_W8_FALLBACK_ON, .CMP_TILE_W8_LAST_REASON, .CMP_TILE_W8_MISSES, .CMP_TILE_W8_PREDEC, .CMP_TILE_W8_READY, .CMP_TILE_WAIT_FRAMES]
          ++ refuseFields ++ reportFields) { s with shots := t.shots, tilePics := t.tilePics } t)

/-! ### The audio matrix -/

/-- The audio atlas (R337 to R343, R346, R367): drafts are taken and request the group of a remote source; a commit that every check
accepts is pending, takes effect as one change at the sample after its groups are ready, and raises 328; one refused, cancelled or
out of time changes nothing. That an event whose condition does not hold changes nothing is DEDUCED (log entry 2). Where the spec
leaves a point open it follows the model's reading (log entries 72 and 128). -/
def Obligations.AudioCommitsTakeEffectWhole : Prop :=
  (∀ (m : Master) (c v : Nat) (s : State), c < 16384 → Passes m (0x910000 + 4 * c) s →
    (s.matrixSize ≤ c → ∃ t, exec (.audDraftWrite m c v) s = .next t ∧ Touches [] s t) ∧
    (c < s.matrixSize → (s.running .aud = false ∨ s.canRequest = false ∨ s.audRemote (bitsAt v 0 18) = false) →
      ∃ t, exec (.audDraftWrite m c v) s = .next t ∧ t.get .AUD_DRAFT_SOURCE c = bitsAt v 0 18 ∧ TouchesAt c [.AUD_DRAFT_SOURCE] [] s t) ∧
    (c < s.matrixSize → s.running .aud = true → s.canRequest = true → s.audRemote (bitsAt v 0 18) = true → s.rx = [] →
      s.homeLost (bitsAt v 0 18 / 16384) = false →
      ∃ t, exec (.audDraftWrite m c v) s = .next t ∧ t.get .AUD_DRAFT_SOURCE c = bitsAt v 0 18
        ∧ t.rx.map (fun x => [x.kind, x.src, x.home, x.st, x.maxCoding, x.fs, x.reqNo])
            = [[2, bitsAt v 0 18 % 16384 / 64, bitsAt v 0 18 / 16384, 0, 1, s.get .AUD_CTRL_FS, s.get .FAB_REQ_NO]]
        ∧ Touches ([.AUD_DRAFT_SOURCE, .AUD_GROUP_LOST, .AUD_RXG_MISSING, .FAB_REQ_NO] ++ decoderFields) { s with rx := t.rx } t)) ∧
  (∀ (g : Nat) (r : RxStream) (s : State), s.rx.find? (fun r => r.kind == 2 && r.rxg == g) = some r →
    s.rx.find? (fun x => x.slot == r.slot) = some r →
    (s.channelsOf r.home r.src ≠ [] → exec (.groupRelease g) s = .next s) ∧
    (s.channelsOf r.home r.src = [] → r.st = 4 →
      ∃ t, exec (.groupRelease g) s = .next t ∧ t.rx = s.rx.filter (fun x => x.slot != r.slot)
        ∧ Touches [.DEST_DRAFT_RX, .DEST_LIVE_RX, .DEST_PREV_RX] { s with rx := t.rx } t) ∧
    (s.channelsOf r.home r.src = [] → r.st = 1 → r.rejoin = false → s.fabSends = true → s.portUp (s.portOf r.home) = true →
      ∃ t, exec (.groupRelease g) s = .next t
        ∧ t.rx = s.rx.map (fun x => if x.slot = r.slot then
            { x with st := 3, relLast := some ((msOf s.now + 1) % 2 ^ 32), relSent := true } else x)
        ∧ t.out = controlOut (s.portOf r.home) (s.get .FAB_CTL_SEQ (s.portOf r.home)) (s.peerPos (s.portOf r.home))
            (.release (s.rxKey r) ((msOf s.now + 1) % 2 ^ 32)) :: s.out
        ∧ TouchesAt (s.portOf r.home) [.FAB_CTL_SEQ] [] { s with rx := t.rx } t)) ∧
  (∀ (m : Master) (v : Nat) (s : State), Passes m 0x900014 s →
    (s.audCommitCode v = 0 →
      ∃ t, exec (.audioCommit m v) s = .next t ∧ t.get .AUD_COMMIT_RESULT_TAG = (s.get .AUD_COMMIT_RESULT_TAG + 1) % 2 ^ 8
        ∧ t.get .AUD_COMMIT_RESULT_REASON = 0 ∧ t.get .AUD_COMMIT_RESULT_WAITED = 0
        ∧ t.audCommit = some ⟨s.rangeEntries, m, if bitsAt v 29 1 = 1 then some (bitsAt v 0 8) else none,
            s.get .ATL_N_DECIDED (bitsAt v 0 8) + 1, 0, s.get .ATL_CTRL_SLIP_LIMIT, s.get .AUD_K, false, false⟩
        ∧ Touches [.AUD_COMMIT_RESULT_TAG, .AUD_COMMIT_RESULT_REASON, .AUD_COMMIT_RESULT_WAITED] { s with audCommit := t.audCommit } t) ∧
    (∀ c, c = s.audCommitCode v → c ≠ 0 →
      ∃ t, exec (.audioCommit m v) s = .next t ∧ Refused c 0x240005 m s t ∧ t.get .AUD_COMMIT_RESULT_REASON = c % 2 ^ 8
        ∧ t.audCommit = s.audCommit
        ∧ (s.running .aud = false → c = 0x05)
        ∧ (s.running .aud = true → bitsAt v 29 1 = 0 → s.inQuiet = false → s.inSafe = false → s.audCommit.isSome = true → c = 0xA7)
        ∧ Touches ([.AUD_COMMIT_RESULT_TAG, .AUD_COMMIT_RESULT_REASON] ++ refuseFields ++ reportFields) s t) ∧
    (∀ c, s.audCommit = some c →
      (c.taken = true → ∃ t, exec (.audioCancel m) s = .next t ∧ t.audCommit = some c ∧ Touches [] s t) ∧
      (c.taken = false → ∃ t, exec (.audioCancel m) s = .next t ∧ t.audCommit = none ∧ t.get .AUD_COMMIT_RESULT_REASON = 0xAC
        ∧ Refused 0xAC 0x240005 c.master s t ∧ Asserted 329 0 s t
        ∧ Touches ([.AUD_COMMIT_RESULT_REASON] ++ refuseFields ++ reportFields) { s with audCommit := none } t))) ∧
  (∀ (c : AudCommit) (s : State), s.audCommit = some c → c.meridian = none → c.ready = false →
    ∃ t, exec .audioCommitTimeout s = .next t ∧ t.audCommit = none ∧ t.get .AUD_COMMIT_RESULT_REASON = 0xA5
      ∧ t.get .AUD_COMMIT_RESULT_WAITED = min 255 (s.get .AUD_CTRL_WAIT_MS) ∧ Refused 0xA5 0x240005 c.master s t ∧ Asserted 329 0 s t
      ∧ Touches ([.AUD_COMMIT_RESULT_REASON, .AUD_COMMIT_RESULT_WAITED] ++ refuseFields ++ reportFields) { s with audCommit := none } t) ∧
  (∀ (k : Nat) (ins : List AudioIn) (es : List EmbeddedIn) (s : State),
    (s.matrixRuns = false → exec (.audioSample k ins es) s = .next s) ∧
    (s.matrixRuns = true → ∃ t, exec (.audioSample k ins es) s = .next t ∧ t.get .AUD_K = k % 2 ^ 64
      ∧ t.audFrames.tail = s.audFrames.take 8
      ∧ (∀ c, t.get .AUD_DRAFT_SOURCE c = s.get .AUD_DRAFT_SOURCE c ∧ t.get .AUD_OUT0_GAIN c = s.get .AUD_OUT0_GAIN c)
      ∧ (s.audCommit = none → t.audCommit = none ∧ ∀ c, t.get .AUD_LIVE_SOURCE c = s.get .AUD_LIVE_SOURCE c)
      ∧ (∀ c, s.audCommit = some c → c.meridian = none → c.ready = true → (c.entries.map (·.1)).Nodup →
          t.audCommit = none ∧ Asserted 328 0 s t ∧ (∀ e ∈ c.entries, t.get .AUD_LIVE_SOURCE e.1 = e.2 % 2 ^ 18)
            ∧ ∀ n, n ∉ c.entries.map (·.1) → t.get .AUD_LIVE_SOURCE n = s.get .AUD_LIVE_SOURCE n)
      ∧ (∀ c, s.audCommit = some c → c.meridian = none → c.ready = false → k % s.perMs ≠ 0 →
          t.audCommit = some { c with ready := s.audReady c } ∧ ∀ n, t.get .AUD_LIVE_SOURCE n = s.get .AUD_LIVE_SOURCE n)
      ∧ (∀ p < 784, s.running .port p = true → portKind p ≠ 3 → ∀ r, s.portOutRun p = some r →
          ∃ ws, Out.audio p k (s.portDrives p) ws (if portKind p = 0 then some (s.tdmFrame p ws) else none) ∈ t.out ∧ ws.length = r.2 ∧ (s.portState p ≠ 3 → ∀ w ∈ ws, w = 0))
      ∧ (∀ (p : Nat) (x : AudioIn) (ws : List Nat) (r : Nat × Nat), 80 ≤ p → p < 176 → s.running .port p = true → s.portState p = 3 →
          s.portInRun p = some r → s.get .AUD_RAMP_LEFT p = 0 → (∀ q < 784, q ≠ p → s.running .port q = false) →
          (∀ n < 32, s.running .dsp n = false) → ins = [x] → x.port = p → x.words = some ws →
          s.flag .AUD_SLIPPED p = false →
          ∀ i < r.2, frameWord (t.audFrames.headD []) (r.1 + i) = ws.getD i 0 % 2 ^ 32 / 16 * 16)
      ∧ Touches ([.AUD_K, .AUD_AFV_LEFT, .AUD_COMMIT_RESULT_WAITED, .AUD_EVAC_ACTIVE, .AUD_EVAC_DESIGNATED_LOST, .AUD_EVAC_POS, .AUD_GAIN_LEFT,
          .AUD_GROUP_LOST, .AUD_LIVE_MISSING, .AUD_LIVE_REMOTE, .AUD_LIVE_SOURCE, .AUD_OUT0_CLIPPED, .AUD_PORT_EVT, .AUD_PORT_OVERRUNS,
          .AUD_PORT_UNDERRUNS, .AUD_RAMP_LEFT, .AUD_REPEATS, .AUD_RXG_MISSING, .AUD_SLIPPED, .AUD_VENUE_RAMP, .DEST_DRAFT_RX, .DEST_LIVE_RX, .DEST_PREV_RX, .FAB_CTL_SEQ, .PKT_QW_DROPS, .PKT_Q_PENDING, .PKT_Q_PTR_PROD,
          .PKT_Q_STAT_WMARK_C] ++ reportFields)
          { s with audFrames := t.audFrames, audCommit := t.audCommit, audArrived := t.audArrived, cic := t.cic, groupHist := t.groupHist, dsp := t.dsp,
                   mem := t.mem, rx := t.rx, tx := t.tx, wp := t.wp } t))

/-- Ports, gain and the override of the matrix (R355, R359 to R364, R366 to R368, R370 to R373, R377): a stop, a clock out of its domain
or off its rate mutes a port and sets its cause, slips and glitches are counted; a port that has qualified runs at once, with its
ramp, or waits for a daybreak; masks are latched whole at the frame sync; a gain beyond its limit is refused with 0x09; the
evacuation audio starts from the first sample of its clips. Where the spec leaves a point open it follows the model's reading (log
entries 73, 74 and 130). -/
def Obligations.AudioPortsAreSupervised : Prop :=
  (∀ (p : Nat) (freq : Int) (s : State), p < 784 → s.running .port p = true →
    (p < 16 → s.portTicks p = true → ∃ t, exec (.tdmStop p) s = .next t ∧ t.get .AUD_PORT_STAT_CLK_PRESENT p = 0
      ∧ t.get .AUD_PORT_STAT_STATE p = (if 1 ≤ s.portState p then 4 else s.portState p)
      ∧ t.get .AUD_PORT_EVT p = (s.get .AUD_PORT_EVT p ||| 1) % 2 ^ 10
      ∧ (bitsAt (s.get .AUD_PORT_EVT p) 0 1 = 0 → bitsAt (s.get .AUD_PORT_EVT_EN p) 0 1 = 1 → Asserted (332 + p) 0 s t)
      ∧ TouchesAt p [.AUD_PORT_STAT_CLK_PRESENT, .AUD_PORT_STAT_STATE, .AUD_PORT_EVT] reportFields s t) ∧
    (16 ≤ p → p < 80 → s.portTicks p = true → ∃ t, exec (.pdmStop (p - 16)) s = .next t ∧ t.get .AUD_PORT_STAT_CLK_PRESENT p = 0
      ∧ t.get .AUD_PORT_STAT_STATE p = (if 1 ≤ s.portState p then 4 else s.portState p)
      ∧ t.get .AUD_PORT_EVT p = (s.get .AUD_PORT_EVT p ||| 1) % 2 ^ 10
      ∧ TouchesAt p [.AUD_PORT_STAT_CLK_PRESENT, .AUD_PORT_STAT_STATE, .AUD_PORT_EVT] reportFields s t) ∧
    (16 ≤ p → p < 80 → s.portState p = 4 → ∃ t, exec (.pdmClockReturn (p - 16)) s = .next t
      ∧ t.get .AUD_PORT_STAT_STATE p = 1 ∧ t.get .AUD_PORT_STAT_CLK_PRESENT p = 1
      ∧ TouchesAt p [.AUD_PORT_STAT_CLK_PRESENT, .AUD_PORT_STAT_STATE] [] s t) ∧
    (p < 80 → ∃ t, exec (.tdmSlip p) s = .next t ∧ t.get .AUD_PORT_SLIPS p = satAdd 32 (s.get .AUD_PORT_SLIPS p) 1
      ∧ t.get .AUD_PORT_EVT p = (s.get .AUD_PORT_EVT p ||| 16) % 2 ^ 10 ∧ t.get .AUD_SLIPPED p = (if p < 16 then 1 else 0)
      ∧ TouchesAt p [.AUD_PORT_SLIPS, .AUD_PORT_EVT, .AUD_SLIPPED] reportFields s t) ∧
    (p < 80 → ∃ t, exec (.glitch p) s = .next t ∧ t.get .AUD_PORT_GLITCHES p = satAdd 32 (s.get .AUD_PORT_GLITCHES p) 1
      ∧ t.get .AUD_PORT_EVT p = (s.get .AUD_PORT_EVT p ||| 32) % 2 ^ 10 ∧ TouchesAt p [.AUD_PORT_GLITCHES, .AUD_PORT_EVT] reportFields s t) ∧
    (s.portWatched p = true → ∃ t, exec (.domainErr p freq) s = .next t ∧ t.get .AUD_PORT_STAT_DOMAIN_ERR p = 1
      ∧ t.get .AUD_PORT_STAT_STATE p = (if 1 ≤ s.portState p then 4 else s.portState p)
      ∧ t.get .AUD_PORT_STAT_FREQ p = ofSigned 16 (clampInt (-32767) 32767 freq)
      ∧ t.get .AUD_PORT_EVT p = (s.get .AUD_PORT_EVT p ||| 8) % 2 ^ 10
      ∧ TouchesAt p [.AUD_PORT_STAT_DOMAIN_ERR, .AUD_PORT_STAT_FREQ, .AUD_PORT_STAT_STATE, .AUD_PORT_EVT] reportFields s t) ∧
    (s.portWatched p = true → ∃ t, exec (.rateErr p freq) s = .next t ∧ t.get .AUD_PORT_STAT_RATE_ERR p = 1
      ∧ t.get .AUD_PORT_STAT_STATE p = (if 1 ≤ s.portState p then 4 else s.portState p)
      ∧ t.get .AUD_PORT_STAT_FREQ p = ofSigned 16 (clampInt (-32767) 32767 freq)
      ∧ t.get .AUD_PORT_EVT p = (s.get .AUD_PORT_EVT p ||| 4) % 2 ^ 10
      ∧ TouchesAt p [.AUD_PORT_STAT_RATE_ERR, .AUD_PORT_STAT_FREQ, .AUD_PORT_STAT_STATE, .AUD_PORT_EVT] reportFields s t) ∧
    ((s.portState p = 1 ∨ s.portState p = 4) → ∃ t, exec (.portQualified p) s = .next t
      ∧ t.get .AUD_PORT_STAT_RATE_ERR p = 0 ∧ t.get .AUD_PORT_STAT_DOMAIN_ERR p = 0
      ∧ (s.flag .AUD_PORT_CTRL_RAMP p = true → t.get .AUD_PORT_STAT_STATE p = 3 ∧ t.get .AUD_RAMP_LEFT p = s.perMs)
      ∧ (s.flag .AUD_PORT_CTRL_RAMP p = false → (s.get .AUD_DAYBREAK_SRC = 0 ∨ s.flag .PWR_STAT_SAFETY_WAKE = true) →
          t.get .AUD_PORT_STAT_STATE p = 3 ∧ t.get .AUD_RAMP_LEFT p = 0 ∧ t.get .AUD_PORT_EVT p = (s.get .AUD_PORT_EVT p ||| 2) % 2 ^ 10)
      ∧ (s.flag .AUD_PORT_CTRL_RAMP p = false → s.get .AUD_DAYBREAK_SRC ≠ 0 → s.flag .PWR_STAT_SAFETY_WAKE = false →
          t.get .AUD_PORT_STAT_STATE p = 2)
      ∧ TouchesAt p [.AUD_PORT_STAT_RATE_ERR, .AUD_PORT_STAT_DOMAIN_ERR, .AUD_PORT_STAT_STATE, .AUD_RAMP_LEFT, .AUD_REPEATS, .AUD_PORT_EVT]
          reportFields s t) ∧
    (p < 16 → ∃ t, exec (.tdmFrameSync p) s = .next t
      ∧ t.get .AUD_MASK_IN_PREV p = s.get .AUD_MASK_IN_LATCHED p % 2 ^ 32 ∧ t.get .AUD_MASK_OUT_PREV p = s.get .AUD_MASK_OUT_LATCHED p % 2 ^ 32
      ∧ (s.flag .AUD_MASK_WRITTEN p = true → t.get .AUD_MASK_IN_LATCHED p = s.get .AUD_PORT_MASK_IN p % 2 ^ 32
          ∧ t.get .AUD_MASK_OUT_LATCHED p = s.get .AUD_PORT_MASK_OUT p % 2 ^ 32 ∧ t.get .AUD_MASK_WRITTEN p = 0
          ∧ t.get .AUD_PORT_EVT p = (s.get .AUD_PORT_EVT p ||| 256) % 2 ^ 10)
      ∧ (s.flag .AUD_MASK_WRITTEN p = false → t.get .AUD_MASK_IN_LATCHED p = s.get .AUD_MASK_IN_LATCHED p)
      ∧ (s.portState p = 4 → s.flag .AUD_PORT_STAT_CLK_PRESENT p = false → s.portSlave p = true → t.get .AUD_PORT_STAT_STATE p = 1)
      ∧ TouchesAt p [.AUD_MASK_IN_PREV, .AUD_MASK_OUT_PREV, .AUD_MASK_IN_LATCHED, .AUD_MASK_OUT_LATCHED, .AUD_MASK_WRITTEN, .AUD_PORT_EVT,
          .AUD_PORT_STAT_STATE, .AUD_PORT_STAT_CLK_PRESENT] reportFields s t)) ∧
  (∀ (m : Master) (p v : Nat) (out : Bool) (s : State), p < 16 →
    Passes m (0x960000 + 64 * p + (if out then 0x10 else 0x0C)) s →
    (s.maskFits p (v % 2 ^ 32) = true → ∃ t, exec (.maskWrite m p out v) s = .next t ∧ t.get .AUD_MASK_WRITTEN p = 1
      ∧ t.get (if out then .AUD_PORT_MASK_OUT else .AUD_PORT_MASK_IN) p = v % 2 ^ 32
      ∧ TouchesAt p [if out then .AUD_PORT_MASK_OUT else .AUD_PORT_MASK_IN, .AUD_MASK_WRITTEN] [] s t) ∧
    (s.maskFits p (v % 2 ^ 32) = false → ∃ t, exec (.maskWrite m p out v) s = .next t
      ∧ Refused 0xAD (wordOf (0x960000 + 64 * p + (if out then 0x10 else 0x0C))) m s t ∧ Touches (refuseFields ++ reportFields) s t)) ∧
  (∀ (k : Nat) (s : State), s.matrixRuns = true →
    (s.daybreakAt k = true → ∃ t, exec (.daybreak k) s = .next t ∧ t.get .AUD_DAYBREAK_LAST = k % 2 ^ 32
      ∧ t.get .AUD_STAT_DAYBREAKS = (s.get .AUD_STAT_DAYBREAKS + 1) % 2 ^ 16
      ∧ (∀ p < 784, t.get .AUD_PORT_STAT_STATE p = if s.running .port p = true ∧ s.portState p = 2 then 3 else s.portState p)
      ∧ Touches ([.AUD_DAYBREAK_LAST, .AUD_STAT_DAYBREAKS, .AUD_PORT_STAT_STATE, .AUD_RAMP_LEFT, .AUD_REPEATS, .AUD_PORT_EVT]
          ++ reportFields) s t) ∧
    (s.flag .AUD_EVAC_WAIT = true → s.flag .AUD_EVAC_ACTIVE = false → ∃ t, exec .evacAudioStart s = .next t ∧ t.get .AUD_EVAC_ACTIVE = 1
      ∧ t.get .AUD_EVAC_POS = 0 ∧ t.flag .AUD_EVAC_CLIP_FAULT = s.clipFault ∧ t.flag .AUD_EVAC_DESIGNATED_LOST = s.designatedMissing
      ∧ Asserted 357 0 s t
      ∧ Touches ([.AUD_EVAC_ACTIVE, .AUD_EVAC_POS, .AUD_EVAC_CLIP_FAULT, .AUD_EVAC_DESIGNATED_LOST] ++ reportFields) s t)) ∧
  (∀ (m : Master) (c v : Nat) (s : State), c < s.matrixSize → Passes m (0x930000 + 8 * c) s →
    (toSigned 16 v ≤ toSigned 16 (s.get .AUD_OUT1_GAIN_LIMIT c) → -1200 ≤ toSigned 16 v →
      ∃ t, exec (.gainWrite m c v) s = .next t ∧ t.get .AUD_OUT0_GAIN c = v % 2 ^ 16
        ∧ (v % 2 ^ 16 ≠ s.get .AUD_OUT0_GAIN c → t.get .AUD_GAIN_LEFT c = 64
          ∧ t.get .AUD_GAIN_FROM c = s.factorAt c (if s.get .AUD_GAIN_LEFT c = 0 then 0 else s.get .AUD_GAIN_LEFT c + 1) % 2 ^ 32)
        ∧ (v % 2 ^ 16 = s.get .AUD_OUT0_GAIN c → t.get .AUD_GAIN_LEFT c = s.get .AUD_GAIN_LEFT c)
        ∧ TouchesAt c [.AUD_OUT0_GAIN, .AUD_OUT0_CLIPPED, .AUD_GAIN_LEFT, .AUD_GAIN_FROM] [] s t) ∧
    (toSigned 16 (s.get .AUD_OUT1_GAIN_LIMIT c) < toSigned 16 v → ∃ t, exec (.gainWrite m c v) s = .next t
      ∧ Refused 0x09 (wordOf (0x930000 + 8 * c)) m s t ∧ t.get .AUD_OUT0_GAIN c = s.get .AUD_OUT0_GAIN c
      ∧ Touches (refuseFields ++ reportFields) s t) ∧
    (toSigned 16 v ≤ toSigned 16 (s.get .AUD_OUT1_GAIN_LIMIT c) → toSigned 16 v < -1200 → ∃ t, exec (.gainWrite m c v) s = .next t
      ∧ Refused 0x04 (wordOf (0x930000 + 8 * c)) m s t ∧ t.get .AUD_OUT0_GAIN c = s.get .AUD_OUT0_GAIN c
      ∧ Touches (refuseFields ++ reportFields) s t))

/-! ### The DSP cores -/

/-- The multiply-accumulate and accumulator groups (R382, R383, R391 to R393): every form of each instruction, whatever moves stand
beside it. Where the spec leaves a point open it follows the model's reading (log entries 75 and 77). -/
def Obligations.DspAccumulatesExactly : Prop :=
  ∀ (n w : Nat) (e : DspEcc) (s : State),
    let c := s.core n
    let a := dwA w
    let x := c.dInt (dwS w)
    let y := c.dInt (dwT w)
    let x1 := c.dInt (dwS w + 1)
    let y1 := c.dInt (dwT w + 1)
    (DspAt 0 0x01 n w e s → ∃ t, exec (.mpy n e) s = .next t ∧ DspAccIs c (t.core n) a (x * y * 256) ∧ DspRan n w s t) ∧
    (DspAt 0 0x02 n w e s → ∃ t, exec (.mac n e) s = .next t ∧ DspAccIs c (t.core n) a (c.acc a + x * y * 256) ∧ DspRan n w s t) ∧
    (DspAt 0 0x03 n w e s → ∃ t, exec (.msu n e) s = .next t ∧ DspAccIs c (t.core n) a (c.acc a - x * y * 256) ∧ DspRan n w s t) ∧
    (DspAt 0 0x04 n w e s → ∃ t, exec (.cmpy n e) s = .next t ∧ (t.core n).acc0 = clampInt accMin accMax ((x * y - x1 * y1) * 256)
      ∧ (t.core n).acc1 = clampInt accMin accMax ((x * y1 + x1 * y) * 256) ∧ (t.core n).d = c.land.d ∧ DspRan n w s t) ∧
    (DspAt 0 0x05 n w e s → ∃ t, exec (.cmac n e) s = .next t ∧ (t.core n).acc0 = clampInt accMin accMax (c.acc0 + (x * y - x1 * y1) * 256)
      ∧ (t.core n).acc1 = clampInt accMin accMax (c.acc1 + (x * y1 + x1 * y) * 256) ∧ (t.core n).d = c.land.d ∧ DspRan n w s t) ∧
    (DspAt 0 0x06 n w e s → ∃ t, exec (.cmacj n e) s = .next t ∧ (t.core n).acc0 = clampInt accMin accMax (c.acc0 + (x * y + x1 * y1) * 256)
      ∧ (t.core n).acc1 = clampInt accMin accMax (c.acc1 + (x1 * y - x * y1) * 256) ∧ (t.core n).d = c.land.d ∧ DspRan n w s t) ∧
    (DspAt 0 0x07 n w e s →
      let p := (c.address (xMove w)).1
      let q := (c.address (yMove w)).1
      let up := addrStep p 1 (c.l.getD (xMove w).an 0)
      ∃ t, exec (.firtap n e) s = .next t
        ∧ DspAccIs c (t.core n) a (c.acc a + toSigned 32 (s.readX n p) * toSigned 32 (s.readY n q) * 256)
        ∧ (up < 0x3FF0 → t.memWord (dspWindow n + 0x10000 + 4 * up) = s.readX n p % 2 ^ 32
          ∧ ∀ b, (b < dspWindow n + 0x10000 + 4 * up ∨ dspWindow n + 0x10000 + 4 * up + 4 ≤ b) → Memory.read b t.mem = Memory.read b s.mem)
        ∧ DspAdvanced c (t.core n) ∧ (t.core n).loads = [] ∧ DspTouches n s t) ∧
    (DspAt 0 0x08 n w e s → ∃ t, exec (.clr n e) s = .next t ∧ DspAccIs c (t.core n) a 0 ∧ DspRan n w s t) ∧
    (DspAt 0 0x09 n w e s → ∃ t, exec (.movd n e) s = .next t ∧ DspAccIs c (t.core n) a (x * 2 ^ 39) ∧ DspRan n w s t) ∧
    (DspAt 0 0x0A n w e s →
      let k := (39 - c.scale).toNat
      ∃ t, exec (.mova n e) s = .next t
      ∧ (t.core n).d = c.land.d.set (dwD w) (ofSigned 32 (clampInt (-(2 ^ 31)) (2 ^ 31 - 1) ((c.acc a + 2 ^ (k - 1)) / 2 ^ k)))
      ∧ (clampInt (-(2 ^ 31)) (2 ^ 31 - 1) ((c.acc a + 2 ^ (k - 1)) / 2 ^ k) ≠ (c.acc a + 2 ^ (k - 1)) / 2 ^ k → (t.core n).srBit 4 = true)
      ∧ (t.core n).acc0 = c.acc0 ∧ (t.core n).acc1 = c.acc1 ∧ DspRan n w s t) ∧
    (DspAt 0 0x0B n w e s → ∃ t, exec (.adda n e) s = .next t ∧ DspAccIs c (t.core n) a (c.acc a + c.acc (1 - a)) ∧ DspRan n w s t) ∧
    (DspAt 0 0x0C n w e s → ∃ t, exec (.suba n e) s = .next t ∧ DspAccIs c (t.core n) a (c.acc a - c.acc (1 - a)) ∧ DspRan n w s t) ∧
    (DspAt 0 0x0D n w e s → ∃ t, exec (.norm n e) s = .next t
      ∧ (0 ≤ x → (t.core n).acc a = toSigned 80 (ofSigned 80 (c.acc a * 2 ^ (min 80 x).toNat)))
      ∧ (x < 0 → (t.core n).acc a = c.acc a / 2 ^ (min 80 (-x)).toNat)
      ∧ (t.core n).acc (1 - a) = c.acc (1 - a) ∧ (t.core n).d = c.land.d ∧ DspRan n w s t) ∧
    (DspAt 0 0x0E n w e s → accMin ≤ c.acc a → c.acc a ≤ accMax →
      let r := signRun 80 (c.acc a)
      ∃ t, exec (.exp n e) s = .next t
      ∧ (t.core n).d = c.land.d.set (dwD w) (ofSigned 32 ((r : Int) - 9))
      ∧ r ≤ 79 ∧ -(2 ^ (79 - r)) ≤ c.acc a ∧ c.acc a < 2 ^ (79 - r) ∧ (r < 79 → ¬ (-(2 ^ (78 - r)) ≤ c.acc a ∧ c.acc a < 2 ^ (78 - r)))
      ∧ (t.core n).acc0 = c.acc0 ∧ (t.core n).acc1 = c.acc1 ∧ DspRan n w s t) ∧
    (DspAt 0 0x0F n w e s →
      let r := signRun 32 x
      ∃ t, exec (.expd n e) s = .next t ∧ (t.core n).d = c.land.d.set (dwD w) r
      ∧ r ≤ 31 ∧ -(2 ^ (31 - r)) ≤ x ∧ x < 2 ^ (31 - r) ∧ (r < 31 → ¬ (-(2 ^ (30 - r)) ≤ x ∧ x < 2 ^ (30 - r)))
      ∧ (t.core n).acc0 = c.acc0 ∧ (t.core n).acc1 = c.acc1 ∧ DspRan n w s t)

/-- The data ALU group and ADDI (R394, R395): results, Z, N and V, and LS where a result saturates. Where the spec leaves a point open
it follows the model's reading (log entries 75 and 77). -/
def Obligations.DspComputesAndSetsFlags : Prop :=
  ∀ (n w : Nat) (e : DspEcc) (s : State),
    let c := s.core n
    let x := c.dInt (dwS w)
    let y := c.dInt (dwT w)
    let u := c.dReg (dwS w)
    let v := c.dReg (dwT w)
    let k := dwK5 w
    let d := dwD w
    (DspAt 0 0x10 n w e s → ∃ t, exec (.add n e) s = .next t ∧ DspDataIs c (t.core n) (some d) (ofSigned 32 (x + y)) (overflows32 (x + y)) ∧ DspRan n w s t) ∧
    (DspAt 0 0x11 n w e s → ∃ t, exec (.sub n e) s = .next t ∧ DspDataIs c (t.core n) (some d) (ofSigned 32 (x - y)) (overflows32 (x - y)) ∧ DspRan n w s t) ∧
    (DspAt 0 0x12 n w e s → ∃ t, exec (.adds n e) s = .next t
      ∧ DspDataIs c (t.core n) (some d) (ofSigned 32 (clampInt (-(2 ^ 31)) (2 ^ 31 - 1) (x + y))) (overflows32 (x + y))
      ∧ (overflows32 (x + y) = true → (t.core n).srBit 4 = true) ∧ DspRan n w s t) ∧
    (DspAt 0 0x13 n w e s → ∃ t, exec (.subs n e) s = .next t
      ∧ DspDataIs c (t.core n) (some d) (ofSigned 32 (clampInt (-(2 ^ 31)) (2 ^ 31 - 1) (x - y))) (overflows32 (x - y))
      ∧ (overflows32 (x - y) = true → (t.core n).srBit 4 = true) ∧ DspRan n w s t) ∧
    (DspAt 0 0x14 n w e s → ∃ t, exec (.and n e) s = .next t ∧ DspDataIs c (t.core n) (some d) (u &&& v) false ∧ DspRan n w s t) ∧
    (DspAt 0 0x15 n w e s → ∃ t, exec (.or n e) s = .next t ∧ DspDataIs c (t.core n) (some d) (u ||| v) false ∧ DspRan n w s t) ∧
    (DspAt 0 0x16 n w e s → ∃ t, exec (.xor n e) s = .next t ∧ DspDataIs c (t.core n) (some d) (u ^^^ v) false ∧ DspRan n w s t) ∧
    (DspAt 0 0x17 n w e s → ∃ t, exec (.abs n e) s = .next t
      ∧ DspDataIs c (t.core n) (some d) (if x = -(2 ^ 31) then 0x7FFFFFFF else x.natAbs) (x == -(2 ^ 31))
      ∧ (x = -(2 ^ 31) → (t.core n).srBit 4 = true) ∧ DspRan n w s t) ∧
    (DspAt 0 0x18 n w e s → ∃ t, exec (.neg n e) s = .next t
      ∧ DspDataIs c (t.core n) (some d) (if x = -(2 ^ 31) then 0x7FFFFFFF else ofSigned 32 (-x)) (x == -(2 ^ 31))
      ∧ (x = -(2 ^ 31) → (t.core n).srBit 4 = true) ∧ DspRan n w s t) ∧
    (DspAt 0 0x19 n w e s → ∃ t, exec (.max n e) s = .next t ∧ DspDataIs c (t.core n) (some d) (ofSigned 32 (if x ≤ y then y else x)) false ∧ DspRan n w s t) ∧
    (DspAt 0 0x1A n w e s → ∃ t, exec (.min n e) s = .next t ∧ DspDataIs c (t.core n) (some d) (ofSigned 32 (if x ≤ y then x else y)) false ∧ DspRan n w s t) ∧
    (DspAt 0 0x1B n w e s → ∃ t, exec (.mov n e) s = .next t ∧ DspDataIs c (t.core n) (some d) u false ∧ DspRan n w s t) ∧
    (DspAt 0 0x1C n w e s → ∃ t, exec (.asr n e) s = .next t ∧ DspDataIs c (t.core n) (some d) (ofSigned 32 (x / 2 ^ k)) false ∧ DspRan n w s t) ∧
    (DspAt 0 0x1D n w e s → ∃ t, exec (.lsr n e) s = .next t ∧ DspDataIs c (t.core n) (some d) (u / 2 ^ k) false ∧ DspRan n w s t) ∧
    (DspAt 0 0x1E n w e s → ∃ t, exec (.lsl n e) s = .next t ∧ DspDataIs c (t.core n) (some d) (u * 2 ^ k % 2 ^ 32) false ∧ DspRan n w s t) ∧
    (DspAt 0 0x1F n w e s → ∃ t, exec (.cmp n e) s = .next t ∧ DspDataIs c (t.core n) none (ofSigned 32 (x - y)) (overflows32 (x - y)) ∧ DspRan n w s t) ∧
    (DspAt 0 0x20 n w e s → ∃ t, exec (.tst n e) s = .next t ∧ DspDataIs c (t.core n) none u false ∧ DspRan n w s t) ∧
    (DspAt 1 0x06 n w e s →
      let z := c.dInt (dwReg w) + toSigned 32 (dwImm w)
      ∃ t, exec (.addi n e) s = .next t ∧ DspDataIs c (t.core n) (some (dwReg w)) (ofSigned 32 z) (overflows32 z)
        ∧ DspAdvanced c (t.core n) ∧ (t.core n).a = c.a ∧ (t.core n).loads = [] ∧ t.mem = s.mem ∧ DspTouches n s t)

/-- Moves and registers (R383, R385, R386, R389, R390, R395, R400, R414): a load reaches its register behind the next instruction, a
store writes memory, the address registers step as the modes say; MOVR and LDI write any register by its code in its width; SETSCALE
writes SCALE alone. Where the spec leaves a point open it follows the model's reading (log entries 75, 76 and 77). -/
def Obligations.DspMovesWordsAndRegisters : Prop :=
  ∀ (n w : Nat) (e : DspEcc) (s : State),
    let c := s.core n
    let x := xMove w
    let y := yMove w
    (DspAt 0 0x00 n w e s →
      let ax := (c.address x).1
      let ay := (c.address y).1
      ∃ t, exec (.nop n e) s = .next t
      ∧ (t.core n).loads = (if x.kind = 1 then [(x.reg, s.readX n ax)] else []) ++ (if y.kind = 1 then [(y.reg, s.readY n ay)] else [])
      ∧ (t.core n).d = c.land.d ∧ (t.core n).acc0 = c.acc0 ∧ (t.core n).acc1 = c.acc1
      ∧ (x.kind = 2 → x.reg < 16 → ax < 0x3FF0 → t.memWord (dspWindow n + 0x10000 + 4 * ax) = c.dReg x.reg % 2 ^ 32)
      ∧ (y.kind = 2 → y.reg < 16 → t.memWord (dspWindow n + 0x20000 + 4 * ay) = c.dReg y.reg % 2 ^ 32)
      ∧ (∀ i, i < 8 → c.a.length = 8 → (t.core n).a.getD i 0
          = if y.updates = true ∧ y.an = i then (c.address y).2 else if x.updates = true ∧ x.an = i then (c.address x).2 else c.a.getD i 0)
      ∧ DspRan n w s t) ∧
    (DspAt 0 0x22 n w e s → ∃ t, exec (.setscale n e) s = .next t ∧ bitsAt (t.core n).sr 24 3 = bitsAt w 40 3
      ∧ (∀ b ∈ [1, 2, 3, 29], (t.core n).srBit b = c.srBit b) ∧ (t.core n).d = c.land.d ∧ (t.core n).acc0 = c.acc0
      ∧ (t.core n).acc1 = c.acc1 ∧ DspRan n w s t) ∧
    (DspAt 0 0x21 n w e s → c.d.length = 16 → c.m.length = 8 → c.l.length = 8 →
      let r := dwReg w
      let v := c.readCode (s.get .DSP_CORE_CTRL_MODE n) (dwSrc6 w)
      ∃ t, exec (.movr n e) s = .next t
        ∧ (r < 0x10 → (t.core n).dReg r = v % 2 ^ 32 ∧ DspRan n w s t)
        ∧ (0x18 ≤ r → r < 0x20 → (t.core n).m.getD (r - 0x18) 0 = v % 2 ^ 16) ∧ (0x20 ≤ r → r < 0x28 → (t.core n).l.getD (r - 0x20) 0 = v % 2 ^ 15)
        ∧ (r = 0x2A → (t.core n).lstart = v % 2 ^ 13) ∧ (r = 0x2B → (t.core n).lend = v % 2 ^ 13)
        ∧ (r ≠ 0x28 → ∀ b ∈ [1, 2, 3, 24, 25, 26, 29], (t.core n).srBit b = c.srBit b)
        ∧ (0x10 ≤ r → (t.core n).d = c.land.d) ∧ (¬(0x18 ≤ r ∧ r < 0x20) → (t.core n).m = c.m) ∧ (¬(0x20 ≤ r ∧ r < 0x28) → (t.core n).l = c.l)
        ∧ (r < 0x2A → (t.core n).lend = c.lend ∧ (t.core n).lstart = c.lstart) ∧ (t.core n).stack = c.stack ∧ (t.core n).depth = c.depth
        ∧ (∀ k, k ≠ n → t.core k = s.core k)
        ∧ (∀ a, a ∉ dspStoredBytes n w c → Memory.read a t.mem = Memory.read a s.mem)
        ∧ Touches ([.DSP_CORE_EVT, .DSP_CORE_ECC_COR, .DSP_CORE_MBOX_OUT] ++ reportFields) { s with dsp := t.dsp, mem := t.mem } t) ∧
    (DspAt 1 0x00 n w e s → c.d.length = 16 → c.a.length = 8 → c.m.length = 8 → c.l.length = 8 →
      let r := dwReg w
      let v := dwImm w
      ∃ t, exec (.ldi n e) s = .next t
        ∧ (r < 0x10 → (t.core n).dReg r = v) ∧ (0x10 ≤ r → r < 0x18 → (t.core n).a.getD (r - 0x10) 0 = v % 2 ^ 14)
        ∧ (0x18 ≤ r → r < 0x20 → (t.core n).m.getD (r - 0x18) 0 = v % 2 ^ 16) ∧ (0x20 ≤ r → r < 0x28 → (t.core n).l.getD (r - 0x20) 0 = v % 2 ^ 15)
        ∧ (r = 0x28 → ∀ b ∈ [1, 2, 3, 4, 24, 25, 26, 29], (t.core n).srBit b = (bitsAt v b 1 == 1))
        ∧ (r = 0x2A → (t.core n).lstart = v % 2 ^ 13) ∧ (r = 0x2B → (t.core n).lend = v % 2 ^ 13)
        ∧ (t.core n).acc0 = c.acc0 ∧ (t.core n).acc1 = c.acc1 ∧ (r < 0x28 → DspAdvanced c (t.core n))
        ∧ (0x10 ≤ r → (t.core n).d = c.land.d) ∧ (¬(0x10 ≤ r ∧ r < 0x18) → (t.core n).a = c.a) ∧ (¬(0x18 ≤ r ∧ r < 0x20) → (t.core n).m = c.m)
        ∧ (¬(0x20 ≤ r ∧ r < 0x28) → (t.core n).l = c.l) ∧ (t.core n).stack = c.stack ∧ (t.core n).depth = c.depth ∧ DspOnly n [] s t) ∧
    (DspAt 1 0x01 n w e s → ∃ t, exec (.ldx n e) s = .next t ∧ (t.core n).loads = [(dwReg w, s.readX n (dwImm w % 2 ^ 14))]
      ∧ (t.core n).d = c.land.d ∧ (t.core n).a = c.a ∧ t.mem = s.mem ∧ DspAdvanced c (t.core n) ∧ DspTouches n s t) ∧
    (DspAt 1 0x03 n w e s → ∃ t, exec (.ldy n e) s = .next t ∧ (t.core n).loads = [(dwReg w, s.readY n (dwImm w % 2 ^ 14))]
      ∧ (t.core n).d = c.land.d ∧ (t.core n).a = c.a ∧ t.mem = s.mem ∧ DspAdvanced c (t.core n) ∧ DspTouches n s t) ∧
    (DspAt 1 0x02 n w e s →
      let a := dwImm w % 2 ^ 14
      ∃ t, exec (.stx n e) s = .next t
      ∧ (a < 0x3FF0 → t.memWord (dspWindow n + 0x10000 + 4 * a) = c.dReg (dwReg w) % 2 ^ 32
        ∧ ∀ b, (b < dspWindow n + 0x10000 + 4 * a ∨ dspWindow n + 0x10000 + 4 * a + 4 ≤ b) → Memory.read b t.mem = Memory.read b s.mem)
      ∧ (0x3FF0 ≤ a → t.mem = s.mem) ∧ (a = 0x3FF7 → t.get .DSP_CORE_MBOX_OUT n = c.dReg (dwReg w) % 2 ^ 32)
      ∧ (t.core n).d = c.land.d ∧ (t.core n).a = c.a ∧ DspAdvanced c (t.core n) ∧ DspTouches n s t) ∧
    (DspAt 1 0x04 n w e s →
      let a := dspWindow n + 0x20000 + 4 * (dwImm w % 2 ^ 14)
      ∃ t, exec (.sty n e) s = .next t
      ∧ t.memWord a = c.dReg (dwReg w) % 2 ^ 32 ∧ (∀ b, (b < a ∨ a + 4 ≤ b) → Memory.read b t.mem = Memory.read b s.mem)
      ∧ (t.core n).d = c.land.d ∧ (t.core n).a = c.a ∧ DspAdvanced c (t.core n) ∧ DspTouches n s t) ∧
    (DspAt 1 0x05 n w e s →
      let i := dwReg w - 0x10
      ∃ t, exec (.lea n e) s = .next t
      ∧ (t.core n).a = c.a.set i (addrStep (c.a.getD i 0) (toSigned 16 (dwImm w)) (c.l.getD i 0)) ∧ (t.core n).d = c.land.d ∧ t.mem = s.mem
      ∧ DspAdvanced c (t.core n) ∧ DspTouches n s t)

/-- Program control (R384, R396 to R399, R403, R407, R409): branches with two delay slots, the stack, loops, repetitions, and how a core
stops. Where the spec leaves a point open it follows the model's reading (log entries 75, 76, 77 and 78). -/
def Obligations.DspControlsItsProgram : Prop :=
  ∀ (n w : Nat) (e : DspEcc) (s : State),
    let c := s.core n
    (DspAt 2 0x00 n w e s → ∃ t, exec (.bcc n e) s = .next t ∧ (t.core n).pc = c.pc + 1 ∧ (t.core n).slots = 2
      ∧ (t.core n).branch = (if c.condHolds (dwCond w) then some (dwTarget w) else none) ∧ (t.core n).cycles = c.cycles + 1
      ∧ (t.core n).d = c.land.d ∧ (t.core n).sr = c.sr ∧ t.mem = s.mem ∧ DspTouches n s t) ∧
    (DspAt 2 0x01 n w e s → c.depth < 16 → ∃ t, exec (.jsr n e) s = .next t ∧ (t.core n).pc = c.pc + 1 ∧ (t.core n).slots = 2
      ∧ (t.core n).branch = some (dwTarget w) ∧ (t.core n).depth = c.depth + 1
      ∧ (t.core n).stack = c.stack.set c.depth (c.pc + 3, c.sr + 2 ^ 30 * s.get .DSP_CORE_CTRL_MODE n) ∧ (t.core n).sr = c.sr
      ∧ DspKept c (t.core n) ∧ DspOnly n [] s t) ∧
    (DspAt 2 0x01 n w e s → 16 ≤ c.depth → ∃ t, exec (.jsr n e) s = .next t ∧ t.get .DSP_CORE_STAT_STATE n = 4
      ∧ t.get .DSP_CORE_STAT_FAULT n = 3 ∧ t.get .DSP_CORE_STAT_PC n = c.pc ∧ t.core n = c ∧ DspOnly n dspStopFields s t) ∧
    (DspAt 2 0x02 n w e s → 0 < c.depth → ∃ t, exec (.rts n e) s = .next t ∧ (t.core n).pc = c.pc + 1 ∧ (t.core n).slots = 2
      ∧ (t.core n).branch = some (c.stack.getD (c.depth - 1) (0, 0)).1 ∧ (t.core n).depth = c.depth - 1 ∧ (t.core n).sr = c.sr ∧ (t.core n).stack = c.stack
      ∧ DspKept c (t.core n) ∧ DspOnly n [] s t) ∧
    (DspAt 2 0x02 n w e s → c.depth = 0 → ∃ t, exec (.rts n e) s = .next t ∧ t.get .DSP_CORE_STAT_STATE n = 4
      ∧ t.get .DSP_CORE_STAT_FAULT n = 4 ∧ t.get .DSP_CORE_STAT_PC n = c.pc ∧ t.core n = c ∧ DspOnly n dspStopFields s t) ∧
    (DspAt 2 0x03 n w e s → 0 < c.depth → ∃ t, exec (.rti n e) s = .next t ∧ (t.core n).pc = (c.stack.getD (c.depth - 1) (0, 0)).1
      ∧ (t.core n).sr = (c.stack.getD (c.depth - 1) (0, 0)).2 &&& 0xA700001E ∧ (t.core n).depth = c.depth - 1
      ∧ (t.core n).slots = c.slots ∧ (t.core n).cycles = c.cycles + 3 ∧ (t.core n).stack = c.stack
      ∧ DspKept c (t.core n) ∧ DspOnly n [] s t) ∧
    (DspAt 2 0x04 n w e s →
      let k := dwCount w
      ∃ t, exec (.loop n e) s = .next t ∧ (t.core n).lcnt = k
      ∧ (t.core n).lstart = (c.pc + 1) % 2 ^ 13 ∧ (t.core n).lend = c.pc + dwTarget w
      ∧ (t.core n).pc = (if k = 0 then c.pc + dwTarget w + 1 else c.pc + 1) ∧ (t.core n).srBit 31 = (k != 0) ∧ t.mem = s.mem ∧ DspTouches n s t) ∧
    (DspAt 2 0x05 n w e s →
      let k := c.dReg (dwDreg w) % 2 ^ 16
      ∃ t, exec (.loopr n e) s = .next t ∧ (t.core n).lcnt = k
      ∧ (t.core n).lstart = (c.pc + 1) % 2 ^ 13 ∧ (t.core n).lend = c.pc + dwTarget w
      ∧ (t.core n).pc = (if k = 0 then c.pc + dwTarget w + 1 else c.pc + 1) ∧ (t.core n).srBit 31 = (k != 0) ∧ t.mem = s.mem ∧ DspTouches n s t) ∧
    (DspAt 2 0x06 n w e s → s.get .DSP_CORE_CTRL_MODE n = 0 →
      let k := dwCount w
      ∃ t, exec (.rep n e) s = .next t
      ∧ (k ≠ 0 → (t.core n).rep = some k ∧ (t.core n).pc = c.pc + 1) ∧ (k = 0 → (t.core n).rep = none ∧ (t.core n).pc = dspNextPc { c with pc := c.pc + 1 })
      ∧ (t.core n).cycles = c.cycles + 1 ∧ t.mem = s.mem ∧ DspTouches n s t) ∧
    (DspAt 2 0x07 n w e s → s.get .DSP_CORE_CTRL_MODE n = 0 →
      let k := c.dReg (dwDreg w)
      ∃ t, exec (.repr n e) s = .next t
      ∧ (k ≠ 0 → (t.core n).rep = some k ∧ (t.core n).pc = c.pc + 1) ∧ (k = 0 → (t.core n).rep = none ∧ (t.core n).pc = dspNextPc { c with pc := c.pc + 1 })
      ∧ (t.core n).cycles = c.cycles + 1 ∧ t.mem = s.mem ∧ DspTouches n s t) ∧
    (DspAt 2 0x06 n w e s → s.get .DSP_CORE_CTRL_MODE n = 1 → ∃ t, exec (.rep n e) s = .next t ∧ t.get .DSP_CORE_STAT_STATE n = 4
      ∧ t.get .DSP_CORE_STAT_FAULT n = 2 ∧ t.core n = c ∧ DspOnly n dspStopFields s t) ∧
    (DspAt 2 0x08 n w e s → ∃ t, exec (.lexit n e) s = .next t ∧ (t.core n).srBit 31 = false ∧ (t.core n).lcnt = 0 ∧ (t.core n).pc = c.pc + 1
      ∧ (t.core n).cycles = c.cycles + 1 ∧ t.mem = s.mem ∧ DspTouches n s t) ∧
    (DspAt 2 0x09 n w e s → ∃ t, exec (.blkend n e) s = .next t
      ∧ (∀ j, c.held = some j → (t.core n).released = (if c.due.contains j then j :: c.released else c.released))
      ∧ (c.pendingBlocks = [] → t.get .DSP_CORE_STAT_STATE n = 2 ∧ (t.core n).held = none ∧ (t.core n).pc = c.pc)
      ∧ (c.pendingBlocks ≠ [] → t.get .DSP_CORE_STAT_STATE n = 1 ∧ (t.core n).held = some (c.pendingBlocks.foldl max 0)
        ∧ (t.core n).pendingBlocks = [] ∧ (t.core n).pc = c.pc + 1
        ∧ (1 < c.pendingBlocks.length →
            t.get .DSP_BLK_STAT_SKIPPED n = satAdd 16 (s.get .DSP_BLK_STAT_SKIPPED n) (c.pendingBlocks.length - 1)))
      ∧ (t.core n).sr = c.sr ∧ (t.core n).stack = c.stack ∧ (t.core n).depth = c.depth
      ∧ DspKept c (t.core n) ∧ DspOnly n [.DSP_CORE_STAT_STATE, .DSP_BLK_STAT_SKIPPED] s t) ∧
    (DspAt 2 0x0A n w e s → ∃ t, exec (.trap n e) s = .next t ∧ t.get .DSP_CORE_STAT_TRAP_CODE n = dwCount w % 256
      ∧ t.get .DSP_CORE_STAT_STATE n = 1 ∧ bitsAt (t.get .DSP_CORE_EVT n) 4 1 = 1 ∧ (t.core n).pc = c.pc + 1 ∧ (t.core n).sr = c.sr
      ∧ (t.core n).stack = c.stack ∧ (t.core n).depth = c.depth ∧ DspKept c (t.core n) ∧ DspOnly n [.DSP_CORE_STAT_TRAP_CODE] s t) ∧
    (DspAt 2 0x0B n w e s → ∃ t, exec (.halt n e) s = .next t ∧ t.get .DSP_CORE_STAT_STATE n = 3 ∧ t.get .DSP_CORE_STAT_PC n = c.pc
      ∧ bitsAt (t.get .DSP_CORE_EVT n) 1 1 = 1 ∧ (t.core n).pc = c.pc ∧ (t.core n).sr = c.sr ∧ (t.core n).stack = c.stack ∧ (t.core n).depth = c.depth
      ∧ DspKept c (t.core n) ∧ DspOnly n [.DSP_CORE_STAT_STATE, .DSP_CORE_STAT_PC] s t)

/-- What stops a core, and what surrounds it (R402 to R405, R407, R409, R410, R412, R413, R419, R552): an illegal word faults it with
0x01, an uncorrectable one with 0x05, and a command that is not the word at the PC leaves it alone; the doorbell is rung and refused
with 0xB7 at a core that does not run; an interrupt is taken at a boundary; a pending block is noted or taken, a return not released
in time is late; an item is copied to its ring; a cleared enable stops the core; debug halts and steps it. That an event whose
condition does not hold changes nothing is DEDUCED (log entry 2). Where the spec leaves a point open it follows the model's reading
(log entries 75, 78, 79 and 80). -/
def Obligations.DspCoresAreSupervised : Prop :=
  (∀ (n w : Nat) (e : DspEcc) (s : State), s.dspRuns n = true → n < s.dsp.length → (s.core n).pc ≤ 0x1FFF → s.progWord n (s.core n).pc = w →
    (dwForm w = 0 → dwOpc w = 0x10 → dspLegal (s.core n) w = false → e.prog = .clean →
      ∃ t, exec (.add n e) s = .next t ∧ t.get .DSP_CORE_STAT_STATE n = 4 ∧ t.get .DSP_CORE_STAT_FAULT n = 1
        ∧ t.get .DSP_CORE_STAT_PC n = (s.core n).pc ∧ bitsAt (t.get .DSP_CORE_EVT n) 0 1 = 1
        ∧ TouchesAt n [.DSP_CORE_STAT_STATE, .DSP_CORE_STAT_FAULT, .DSP_CORE_STAT_PC, .DSP_CORE_EVT] reportFields s t) ∧
    (dwForm w = 3 → e.prog = .clean → ∃ t, exec (.nop n e) s = .next t ∧ t.get .DSP_CORE_STAT_STATE n = 4 ∧ t.get .DSP_CORE_STAT_FAULT n = 1
      ∧ TouchesAt n [.DSP_CORE_STAT_STATE, .DSP_CORE_STAT_FAULT, .DSP_CORE_STAT_PC, .DSP_CORE_EVT] reportFields s t) ∧
    (dwForm w = 0 → dwOpc w = 0x10 → e.prog = .uncorrectable →
      ∃ t, exec (.add n e) s = .next t ∧ t.get .DSP_CORE_STAT_STATE n = 4 ∧ t.get .DSP_CORE_STAT_FAULT n = 5
        ∧ t.get .DSP_CORE_ECC_UNCOR n = satAdd 8 (s.get .DSP_CORE_ECC_UNCOR n) 1 ∧ t.dsp = s.dsp
        ∧ TouchesAt n [.DSP_CORE_STAT_STATE, .DSP_CORE_STAT_FAULT, .DSP_CORE_STAT_PC, .DSP_CORE_EVT, .DSP_CORE_ECC_UNCOR] reportFields s t) ∧
    (dwForm w = 0 → dwOpc w = 0x11 → exec (.add n e) s = .next s)) ∧
  (∀ (m : Master) (n : Nat) (s : State), n < 32 → n < s.dsp.length → Passes m (0xA30014 + 0x40000 * n) s →
    (s.dspLive n = true → ∃ t, exec (.dspDoorbell m n) s = .next t ∧ t.core n = { s.core n with doorbell := true }
      ∧ (∀ k, k ≠ n → t.core k = s.core k) ∧ Touches [] { s with dsp := t.dsp } t) ∧
    (s.dspLive n = false → ∃ t, exec (.dspDoorbell m n) s = .next t ∧ Refused 0xB7 (wordOf (0xA30014 + 0x40000 * n)) m s t
      ∧ Touches (refuseFields ++ reportFields) s t)) ∧
  (∀ (n : Nat) (s : State), n < s.dsp.length →
    let c := s.core n
    s.dspLive n = true → c.srBit 29 = true → c.rep = none → c.slots = 0 →
    c.depth < 16 →
    (c.doorbell = true → s.flag .DSP_CORE_CTRL_DB_IRQ n = true →
      ∃ t, exec (.dspInterrupt n) s = .next t ∧ (t.core n).pc = 4 ∧ (t.core n).doorbell = false ∧ (t.core n).queueIrq = c.queueIrq
        ∧ (t.core n).srBit 29 = false ∧ (t.core n).srBit 31 = false ∧ (t.core n).d = c.land.d ∧ (t.core n).loads = []
        ∧ (t.core n).stack = c.stack.set c.depth (c.pc, c.sr + 2 ^ 30 * s.get .DSP_CORE_CTRL_MODE n) ∧ (t.core n).depth = c.depth + 1
        ∧ t.get .DSP_CORE_STAT_STATE n = 1 ∧ TouchesAt n [.DSP_CORE_STAT_STATE] [] { s with dsp := t.dsp } t) ∧
    (c.doorbell = false → c.queueIrq = true → s.flag .DSP_CORE_CTRL_Q_IRQ n = true →
      ∃ t, exec (.dspInterrupt n) s = .next t ∧ (t.core n).pc = 8 ∧ (t.core n).queueIrq = false ∧ (t.core n).depth = c.depth + 1
        ∧ (t.core n).srBit 29 = false ∧ (t.core n).srBit 31 = false ∧ (t.core n).d = c.land.d ∧ (t.core n).loads = []
        ∧ (t.core n).stack = c.stack.set c.depth (c.pc, c.sr + 2 ^ 30 * s.get .DSP_CORE_CTRL_MODE n)
        ∧ t.get .DSP_CORE_STAT_STATE n = 1 ∧ TouchesAt n [.DSP_CORE_STAT_STATE] [] { s with dsp := t.dsp } t)) ∧
  (∀ (n j : Nat) (s : State), n < s.dsp.length →
    let c := s.core n
    s.running .dsp n = true →
    (s.get .DSP_CORE_STAT_STATE n = 1 → ∃ t, exec (.blockPending n j) s = .next t ∧ (t.core n).pendingBlocks = c.pendingBlocks ++ [j]
      ∧ (t.core n).due = j :: c.due ∧ (t.core n).held = c.held ∧ (t.core n).pc = c.pc ∧ Touches [] { s with dsp := t.dsp } t) ∧
    (s.get .DSP_CORE_STAT_STATE n = 2 → c.pendingBlocks = [] → ∃ t, exec (.blockPending n j) s = .next t ∧ (t.core n).held = some j
      ∧ (t.core n).pendingBlocks = [] ∧ (t.core n).due = j :: c.due ∧ (t.core n).pc = c.pc + 1 ∧ t.get .DSP_CORE_STAT_STATE n = 1
      ∧ TouchesAt n [.DSP_CORE_STAT_STATE] [] { s with dsp := t.dsp } t) ∧
    (s.dspLive n = true → c.due.contains j = true → ∃ t, exec (.returnDeadline n j) s = .next t ∧ (t.core n).due = c.due.filter (· != j)
      ∧ t.get .DSP_BLK_STAT_LATE n = (if c.released.contains j then s.get .DSP_BLK_STAT_LATE n else satAdd 16 (s.get .DSP_BLK_STAT_LATE n) 1)
      ∧ (c.released.contains j = false → bitsAt (t.get .DSP_CORE_EVT n) 2 1 = 1)
      ∧ TouchesAt n [.DSP_BLK_STAT_LATE, .DSP_CORE_EVT] reportFields { s with dsp := t.dsp } t)) ∧
  (∀ (n i q : Nat) (it : Item) (s : State), n < s.dsp.length → i < 2 → s.qinQueue n i = some q → s.running .dsp n = true → s.running .queue q = true →
    s.qHead q = some it → itemType it.header ≠ 0xFF → s.ringFill n i + 2 * (1 + itemLen it.header) ≤ s.ringSize n i → (s.core n).qinWr.length = 2 →
      (s.core n).qinWr.getD i 0 < 2 * s.ringSize n i → it.payload.length = itemLen it.header →
    ∃ t, exec (.qinItemCopy n i) s = .next t
      ∧ (t.core n).qinWr.getD i 0 = ((s.core n).qinWr.getD i 0 + 2 * (1 + itemLen it.header)) % (2 * s.ringSize n i)
      ∧ (t.core n).queueIrq = ((s.core n).queueIrq || s.ringFill n i == 0)
      ∧ t.get .PKT_Q_PTR_CONS q = s.qAdvance q (s.get .PKT_Q_PTR_CONS q) (1 + itemLen it.header) % 2 ^ 25
      ∧ (∀ k, k ≠ n → t.core k = s.core k) ∧ TouchesAt q [.PKT_Q_PTR_CONS, .PKT_Q_ITEM_ECC] [] { s with dsp := t.dsp, mem := t.mem } t) ∧
  (∀ (n : Nat) (s : State), n < 32 → n < s.dsp.length →
    (s.en .dsp n = false → s.dspLive n = true → (s.core n).rep = none → (s.core n).slots = 0 →
      ∃ t, exec (.dspCoreStop n) s = .next t ∧ t.get .DSP_CORE_STAT_STATE n = 0 ∧ t.core n = (s.core n).land
        ∧ TouchesAt n [.DSP_CORE_STAT_STATE, .DSP_CORE_STAT_PC] [] { s with dsp := t.dsp } t) ∧
    (2 ≤ s.debugLevel → s.hasDsp n = true → s.dspLive n = true → ∃ t, exec (.debugHalt (.dsp n)) s = .next t
      ∧ t.get .DSP_CORE_STAT_STATE n = 5 ∧ TouchesAt n [.DSP_CORE_STAT_STATE] [] s t) ∧
    (2 ≤ s.debugLevel → n < 4 → n ∉ s.haltedStewards → exec (.debugHalt (.steward n)) s = .next { s with haltedStewards := n :: s.haltedStewards }) ∧
    (s.debugLevel < 2 → exec (.debugHalt (.dsp n)) s = .next s ∧ exec (.debugHalt (.steward n)) s = .next s) ∧
    (∀ (w : Nat) (e : DspEcc), 2 ≤ s.debugLevel → s.hasDsp n = true → s.get .DSP_CORE_STAT_STATE n = 5 → (s.core n).pc ≤ 0x1FFF →
      s.progWord n (s.core n).pc = w → dwForm w = 0 → dwOpc w = 0x10 → dspLegal (s.core n) w = true → e = ⟨.clean, .clean, .clean⟩ →
      ∃ t, exec (.debugStep (.dsp n) e) s = .next t ∧ t.get .DSP_CORE_STAT_STATE n = 5 ∧ DspRan n w s t
        ∧ (t.core n).d = (s.core n).land.d.set (dwD w) (ofSigned 32 ((s.core n).dInt (dwS w) + (s.core n).dInt (dwT w)))))

/-! ### Twins -/

/-- The claim and its interlock (R508 to R514): the twin's claim stops driving at once; within contention twin B releases and twin A
keeps its claim, and both raise TIE; a wait for the claim yields to it; the claim is taken only with the twin's deasserted; driving
starts only with the own claim, the twin's deasserted, in Run or Safe; a claim seen outside contention for 10 µs releases the own
one. That an event whose condition does not hold changes nothing is DEDUCED (log entry 2). Where the spec leaves a point open it
follows the model's reading (log entry 87). -/
def Obligations.ClaimIsInterlocked : Prop :=
  ∀ (s : State),
    (s.flag .TWN_STAT_TWIN_CLAIM = true → exec .claimInAssert s = .next s) ∧
    (s.flag .TWN_STAT_TWIN_CLAIM = false →
      ∃ t, exec .claimInAssert s = .next t ∧ t.get .TWN_STAT_TWIN_CLAIM = 1 ∧ t.get .TWN_STAT_DRIVING = 0
        ∧ (s.flag .TWN_STAT_CLAIM = true → s.flag .TWN_SETTLED = false → s.flag .GEN_ENUM_TWIN = true →
            ClaimReleased s t ∧ bitsAt (t.get .TWN_EVT) 3 1 = 1)
        ∧ (s.flag .TWN_STAT_CLAIM = true → s.flag .TWN_SETTLED = false → s.flag .GEN_ENUM_TWIN = false →
            t.get .TWN_STAT_CLAIM = 1 ∧ t.get .TWN_EVT = (s.get .TWN_EVT ||| 8) % 2 ^ 9)
        ∧ (s.flag .TWN_STAT_CLAIM = true → s.flag .TWN_SETTLED = true → t.get .TWN_STAT_CLAIM = 1 ∧ t.get .TWN_EVT = s.get .TWN_EVT)
        ∧ (s.flag .TWN_STAT_CLAIM = false → s.get .TWN_WANT = 1 → s.bothLost = false →
            t.get .PWR_STAT_STATE = 3 ∧ t.get .TWN_WANT = 0 ∧ t.get .TWN_STAT_CLAIM = s.get .TWN_STAT_CLAIM
            ∧ (s.running .twin = true → s.get .TWN_STAT_SYNC = 0 → t.get .TWN_STAT_SYNC = 1))
        ∧ Touches (claimFields ++ syncFields ++ [.TWN_STAT_TWIN_CLAIM, .TWN_VETO] ++ reportFields) s t) ∧
    (s.flag .TWN_STAT_TWIN_CLAIM = false → exec .claimInDeassert s = .next s) ∧
    (s.flag .TWN_STAT_TWIN_CLAIM = true →
      ∃ t, exec .claimInDeassert s = .next t ∧ t.get .TWN_STAT_TWIN_CLAIM = 0 ∧ t.get .TWN_FELL = 1
        ∧ t.get .TWN_FELL_SEC = s.now.sec % 2 ^ 48 ∧ t.get .TWN_FELL_NS = s.now.ns % 2 ^ 32
        ∧ t.get .TWN_STAT_DRIVING = (if s.flag .TWN_STAT_CLAIM = true ∧ s.flag .TWN_SETTLED = true
            ∧ (s.get .PWR_STAT_STATE = 2 ∨ s.get .PWR_STAT_STATE = 5) then 1 else s.get .TWN_STAT_DRIVING)
        ∧ Touches [.TWN_STAT_TWIN_CLAIM, .TWN_STAT_DRIVING, .TWN_FELL, .TWN_FELL_SEC, .TWN_FELL_NS] s t) ∧
    (s.running .twin = true → s.flag .TWN_STAT_CLAIM = false → s.get .PWR_STAT_STATE = 2 → s.get .TWN_WANT ≠ 0 → s.flag .TWN_STAT_TWIN_CLAIM = false →
      ∃ t, exec .claimOutAssert s = .next t ∧ ClaimTaken s t ∧ t.get .TWN_STAT_TWIN_CLAIM = s.get .TWN_STAT_TWIN_CLAIM
        ∧ t.get .PWR_STAT_STATE = 2 ∧ Touches (claimFields ++ reportFields) s t) ∧
    ((s.flag .TWN_STAT_TWIN_CLAIM = true ∨ s.flag .TWN_STAT_CLAIM = true ∨ s.get .PWR_STAT_STATE ≠ 2 ∨ s.get .TWN_WANT = 0 ∨ s.running .twin = false) →
      exec .claimOutAssert s = .next s) ∧
    (s.flag .TWN_STAT_CLAIM = true → s.flag .TWN_STAT_TWIN_CLAIM = false → (s.get .PWR_STAT_STATE = 2 ∨ s.get .PWR_STAT_STATE = 5) →
      ∃ t, exec .drivingStart s = .next t ∧ t.get .TWN_STAT_DRIVING = 1 ∧ t.get .TWN_SETTLED = 1
        ∧ Touches [.TWN_STAT_DRIVING, .TWN_SETTLED] s t) ∧
    ((s.flag .TWN_STAT_CLAIM = false ∨ s.flag .TWN_STAT_TWIN_CLAIM = true ∨ (s.get .PWR_STAT_STATE ≠ 2 ∧ s.get .PWR_STAT_STATE ≠ 5)) →
      exec .drivingStart s = .next s) ∧
    (s.flag .TWN_STAT_CLAIM = true → s.flag .TWN_STAT_TWIN_CLAIM = true →
      ∃ t, exec .lineFault s = .next t ∧ ClaimReleased s t ∧ t.get .TWN_STAT_LINE_FAULT = 1 ∧ t.get .TWN_EVT = (s.get .TWN_EVT ||| 0x81) % 2 ^ 9
        ∧ (bitsAt (s.get .TWN_EVT) 7 1 = 0 → bitsAt (s.get .TWN_EVT_EN) 7 1 = 1 → Asserted 447 2 s t)
        ∧ t.get .PWR_STAT_STATE = s.get .PWR_STAT_STATE ∧ Touches (claimFields ++ reportFields) s t) ∧
    ((s.flag .TWN_STAT_CLAIM = false ∨ s.flag .TWN_STAT_TWIN_CLAIM = false) → exec .lineFault s = .next s) ∧
    (s.running .twin = true → s.flag .TWN_STAT_CLAIM = false → s.get .PWR_STAT_STATE = 2 → s.get .TWN_WANT = 0 →
      ∃ t, exec .standbyEntry s = .next t ∧ t.get .PWR_STAT_STATE = 3 ∧ Asserted 448 0 s t
        ∧ t.get .TWN_STAT_SYNC = (if s.twinHolds = true ∧ s.get .TWN_STAT_SYNC = 0 then 1 else s.get .TWN_STAT_SYNC)
        ∧ t.get .TWN_STAT_CLAIM = 0
        ∧ Touches (syncFields ++ [.PWR_STAT_STATE, .FLT_STAT_SAFE, .TWN_WANT] ++ reportFields) s t) ∧
    ((s.running .twin = false ∨ s.flag .TWN_STAT_CLAIM = true ∨ s.get .PWR_STAT_STATE ≠ 2 ∨ s.get .TWN_WANT ≠ 0) → exec .standbyEntry s = .next s)

/-- Heartbeats (R517 to R520, R522, R525 to R528): what leaves on each path and its layout; an invalid heartbeat is counted and one from
a wrong address also sets WIRING; a valid one tells of the twin, brings its path back, measures the offset of TB0, vetoes a claim
drop it denies, and lets a claimer in Safe hand over to a twin that is ready; a path is lost in silence. That an event whose
condition does not hold changes nothing is DEDUCED (log entry 2). Where the spec leaves a point open it follows the model's reading
(log entries 86 and 134). -/
def Obligations.HeartbeatsTellOfTheTwin : Prop :=
  (∀ (s : State),
    (s.running .twin = false → exec .twinHeartbeatSend s = .next s ∧ exec .mgmtHeartbeatSend s = .next s) ∧
    (s.running .twin = true →
      (∃ t, exec .twinHeartbeatSend s = .next t ∧ t.out = .twin (s.beatBytes true) :: s.out
        ∧ t.get .TWN_TX_SEQ = (s.get .TWN_TX_SEQ + 1) % 2 ^ 8 ∧ t.hbSent = ((s.get .TWN_TX_SEQ, s.now) :: s.hbSent).take 16
        ∧ Touches [.TWN_TX_SEQ] { s with hbSent := t.hbSent } t) ∧
      (∃ t, exec .mgmtHeartbeatSend s = .next t ∧ t.out = .mgmt s.ownMac s.twinMac 0x88B5 (s.beatBytes false) :: s.out
        ∧ t.get .TWN_MGMT_SEQ = (s.get .TWN_MGMT_SEQ + 1) % 2 ^ 8 ∧ Touches [.TWN_MGMT_SEQ] s t)) ∧
    (∀ link, (s.beatBytes link).length = 48 ∧ msgCrcGood (s.beatBytes link) = true ∧ msgField (s.beatBytes link) 0 1 = 0
      ∧ msgField (s.beatBytes link) 1 1 = s.get (if link then .TWN_TX_SEQ else .TWN_MGMT_SEQ) % 2 ^ 8
      ∧ msgField (s.beatBytes link) 2 2 = s.variant.part
      ∧ msgField (s.beatBytes link) 4 1 = (s.position + 16 * s.get .GEN_ENUM_PLANE + 32 * s.get .GEN_ENUM_TWIN) % 2 ^ 8
      ∧ msgField (s.beatBytes link) 5 1 = s.get .PWR_STAT_STATE % 2 ^ 8
      ∧ msgField (s.beatBytes link) 6 1 = (s.get .TWN_STAT_CLAIM + 2 * s.get .TWN_STAT_DRIVING + 4 * s.get .TWN_STAT_READY
          + 8 * s.recovering.toNat + 16 * s.get .TWN_STAT_DEFERRED + 32 * s.get .FLT_STAT_FATAL) % 2 ^ 8
      ∧ msgField (s.beatBytes link) 7 1 = s.get .TWN_STAT_SYNC % 2 ^ 8
      ∧ msgField (s.beatBytes link) 8 4 = s.get .TWN_ELECT_COUNT % 2 ^ 32 ∧ msgField (s.beatBytes link) 12 4 = s.get .GEN_BOOT_SEQ % 2 ^ 32
      ∧ msgStamp (s.beatBytes link) 16 = ⟨s.now.sec % 2 ^ 48, s.now.ns % 2 ^ 32, s.now.frac % 2 ^ 16⟩
      ∧ (∀ g, s.hbGot = some g → link = true → msgStamp (s.beatBytes link) 28 = ⟨g.2.sec % 2 ^ 48, g.2.ns % 2 ^ 32, g.2.frac % 2 ^ 16⟩
          ∧ msgField (s.beatBytes link) 40 1 = g.1 % 2 ^ 8)
      ∧ (link = false → msgField (s.beatBytes link) 28 13 = 0))) ∧
  (∀ (path : Option Nat) (link : Bool) (bs : List Byte) (s : State), link = path.isNone →
    (∀ dst, path = some dst → s.mgmtTakes dst = false → exec (.twinHeartbeat path bs) s = .next s) ∧
    ((∀ dst, path = some dst → s.mgmtTakes dst = true) → (bs.length ≠ 48 ∨ msgCrcGood bs = false ∨ msgField bs 0 1 ≠ 0) →
      ∃ t, exec (.twinHeartbeat path bs) s = .next t
        ∧ t.get (if link then .TWN_HB_COUNT_LINK_MISSED else .TWN_HB_COUNT_MGMT_MISSED)
            = satAdd 16 (s.get (if link then .TWN_HB_COUNT_LINK_MISSED else .TWN_HB_COUNT_MGMT_MISSED)) 1
        ∧ Touches [if link then .TWN_HB_COUNT_LINK_MISSED else .TWN_HB_COUNT_MGMT_MISSED] s t) ∧
    ((∀ dst, path = some dst → s.mgmtTakes dst = true) → bs.length = 48 → msgCrcGood bs = true → msgField bs 0 1 = 0 →
      ((bitsAt (msgField bs 4 1) 0 4 ≠ s.position ∨ bitsAt (msgField bs 4 1) 4 1 ≠ s.get .GEN_ENUM_PLANE
          ∨ bitsAt (msgField bs 4 1) 5 1 = s.get .GEN_ENUM_TWIN) →
        ∃ t, exec (.twinHeartbeat path bs) s = .next t ∧ t.get .TWN_STAT_WIRING = 1 ∧ t.get .TWN_EVT = (s.get .TWN_EVT ||| 0x40) % 2 ^ 9
          ∧ t.get (if link then .TWN_HB_COUNT_LINK_MISSED else .TWN_HB_COUNT_MGMT_MISSED)
              = satAdd 16 (s.get (if link then .TWN_HB_COUNT_LINK_MISSED else .TWN_HB_COUNT_MGMT_MISSED)) 1
          ∧ (bitsAt (s.get .TWN_EVT) 6 1 = 0 → bitsAt (s.get .TWN_EVT_EN) 6 1 = 1 → Asserted 446 2 s t)
          ∧ Touches ([.TWN_STAT_WIRING, .TWN_EVT, if link then .TWN_HB_COUNT_LINK_MISSED else .TWN_HB_COUNT_MGMT_MISSED] ++ reportFields) s t) ∧
      (bitsAt (msgField bs 4 1) 0 4 = s.position → bitsAt (msgField bs 4 1) 4 1 = s.get .GEN_ENUM_PLANE →
          bitsAt (msgField bs 4 1) 5 1 ≠ s.get .GEN_ENUM_TWIN →
        ∃ t, exec (.twinHeartbeat path bs) s = .next t
          ∧ t.get .TWN_STAT_TWIN_FLAGS = msgField bs 6 1 ∧ t.get .TWN_TWIN_POWER = msgField bs 5 1 ∧ t.get .TWN_TWIN_ELECT = msgField bs 8 4
          ∧ t.get .TWN_TWIN_ID_PART = msgField bs 2 2 ∧ t.get .TWN_TWIN_IMAGE = msgField bs 12 4
          ∧ t.flag .TWN_STAT_MISMATCH = (msgField bs 2 2 != s.variant.part) ∧ t.flag .TWN_STAT_IMG_DIFF = (msgField bs 12 4 != s.get .GEN_BOOT_SEQ)
          ∧ t.flag (if link then .TWN_STAT_LINK_LOST else .TWN_STAT_MGMT_LOST) = false
          ∧ t.flag (if link then .TWN_LINK_SEEN else .TWN_MGMT_SEEN) = true
          ∧ (s.flag (if link then .TWN_STAT_LINK_LOST else .TWN_STAT_MGMT_LOST) = true → bitsAt (t.get .TWN_EVT) 1 1 = 1
              ∧ (bitsAt (s.get .TWN_EVT) 1 1 = 0 → bitsAt (s.get .TWN_EVT_EN) 1 1 = 1 → Asserted 441 0 s t))
          ∧ (msgField bs 2 2 ≠ s.variant.part → s.flag .TWN_STAT_MISMATCH = false → bitsAt (t.get .TWN_EVT) 6 1 = 1)
          ∧ (msgField bs 12 4 ≠ s.get .GEN_BOOT_SEQ → s.flag .TWN_STAT_IMG_DIFF = false → bitsAt (t.get .TWN_EVT) 8 1 = 1)
          ∧ t.hbGot = (if link then some (msgField bs 1 1, s.now) else s.hbGot)
          ∧ (∀ d, s.hbSent.find? (fun x => x.1 == msgField bs 40 1) = some d → link = true →
              t.get .TWN_TB0_OFFSET = ofSigned 32 (clampInt (-2147483647) 2147483647
                (((stampFine (msgStamp bs 28) - stampFine d.2) - (stampFine s.now - stampFine (msgStamp bs 16))) / 131072)))
          ∧ (link = true → s.running .twin = true → s.flag .TWN_STAT_CLAIM = false → s.flag .TWN_STAT_TWIN_CLAIM = false →
              bitsAt (msgField bs 6 1) 0 1 = 1 → s.flag .TWN_FELL = false →
              t.get .TWN_VETO = 1 ∧ t.get .TWN_DROP = 0 ∧ t.get .TWN_STAT_LINE_FAULT = 1 ∧ bitsAt (t.get .TWN_EVT) 7 1 = 1)
          ∧ (s.flag .TWN_STAT_CLAIM = true → bitsAt (msgField bs 6 1) 4 1 = 1 → bitsAt (t.get .TWN_EVT) 4 1 = 1)
          ∧ (s.flag .TWN_STAT_CLAIM = true → s.get .PWR_STAT_STATE = 5 → msgField bs 2 2 = s.variant.part → msgField bs 5 1 = 3 →
              bitsAt (msgField bs 6 1) 2 1 = 1 → bitsAt (msgField bs 6 1) 3 1 = 0 → ClaimReleased s t)
          ∧ (s.flag .TWN_STAT_CLAIM = true → s.get .PWR_STAT_STATE ≠ 5 → t.get .TWN_STAT_CLAIM = s.get .TWN_STAT_CLAIM)
          ∧ Touches (claimFields ++ syncFields ++ [.TWN_RX_SEQ, .TWN_RX_SEQ_KNOWN, .TWN_HB_COUNT_LINK_MISSED, .TWN_HB_COUNT_MGMT_MISSED,
              .TWN_LINK_SEEN, .TWN_MGMT_SEEN, .TWN_STAT_LINK_LOST, .TWN_STAT_MGMT_LOST, .TWN_STAT_TWIN_FLAGS, .TWN_TWIN_POWER, .TWN_TWIN_SYNC,
              .TWN_TWIN_ELECT, .TWN_TWIN_ID_PART, .TWN_TWIN_IMAGE, .TWN_STAT_MISMATCH, .TWN_STAT_WIRING, .TWN_STAT_IMG_DIFF, .TWN_TB0_OFFSET,
              .TWN_OFF_IN, .TWN_OFF_TICK, .TWN_VETO] ++ reportFields) { s with hbGot := t.hbGot } t))) ∧
  (∀ (link : Bool) (s : State),
    ((s.running .twin = false ∨ s.flag (if link then .TWN_STAT_LINK_LOST else .TWN_STAT_MGMT_LOST) = true) →
      exec (.pathLost link) s = .next s) ∧
    (s.running .twin = true → s.flag (if link then .TWN_STAT_LINK_LOST else .TWN_STAT_MGMT_LOST) = false →
      ∃ t, exec (.pathLost link) s = .next t ∧ t.get (if link then .TWN_STAT_LINK_LOST else .TWN_STAT_MGMT_LOST) = 1
        ∧ t.get (if link then .TWN_LINK_SEEN else .TWN_MGMT_SEEN) = 0 ∧ bitsAt (t.get .TWN_EVT) 1 1 = 1
        ∧ (bitsAt (s.get .TWN_EVT) 1 1 = 0 → bitsAt (s.get .TWN_EVT_EN) 1 1 = 1 → Asserted 441 2 s t)
        ∧ (s.flag (if link then .TWN_STAT_MGMT_LOST else .TWN_STAT_LINK_LOST) = true → bitsAt (t.get .TWN_EVT) 2 1 = 1)
        ∧ (s.flag (if link then .TWN_STAT_MGMT_LOST else .TWN_STAT_LINK_LOST) = false → s.flag .TWN_DROP = false →
            t.get .TWN_STAT_CLAIM = s.get .TWN_STAT_CLAIM ∧ t.get .PWR_STAT_STATE = s.get .PWR_STAT_STATE ∧ t.get .TWN_STAT_DUE = 0)
        ∧ (link = true → s.flag .TWN_STAT_READY = true → t.get .TWN_STAT_READY = 0)
        ∧ (s.flag .TWN_STAT_CLAIM = true → t.get .TWN_STAT_CLAIM = s.get .TWN_STAT_CLAIM ∧ t.get .PWR_STAT_STATE = s.get .PWR_STAT_STATE)
        ∧ (s.flag (if link then .TWN_STAT_MGMT_LOST else .TWN_STAT_LINK_LOST) = true → s.flag .TWN_STAT_CLAIM = false →
            s.get .PWR_STAT_STATE = 3 → t.flag .TWN_DROP = false →
            (s.recovering = true → t.get .TWN_STAT_DUE = 1 ∧ t.get .TWN_STAT_DEFERRED = 1 ∧ t.get .PWR_STAT_STATE = 3 ∧ bitsAt (t.get .TWN_EVT) 4 1 = 1)
            ∧ (s.recovering = false → s.flag .TWN_STAT_MISMATCH = false → s.flag .TWN_CTRL_AUTO = true → s.flag .TWN_DROP = false →
                t.get .TWN_STAT_DUE = 1 ∧ t.get .PWR_STAT_STATE = 2 ∧ t.get .TWN_WANT = 2 ∧ t.get .TWN_STAT_CLAIM = s.get .TWN_STAT_CLAIM
                ∧ (s.flag .TWN_STAT_TWIN_CLAIM = true → t.get .TWN_STAT_LINE_FAULT = 1 ∧ bitsAt (t.get .TWN_EVT) 7 1 = 1))
            ∧ (s.recovering = false → s.flag .TWN_STAT_MISMATCH = true → t.get .TWN_STAT_DUE = 1 ∧ t.get .PWR_STAT_STATE = 3))
        ∧ Touches (claimFields ++ syncFields ++ [if link then .TWN_STAT_LINK_LOST else .TWN_STAT_MGMT_LOST,
            if link then .TWN_LINK_SEEN else .TWN_MGMT_SEEN, .TWN_RX_SEQ_KNOWN] ++ reportFields) s t))

/-- Takeover and release (R522, R523, R525, R527, R532): a claim drop lets a standby take the claim, unless it recovers, its twin is
mismatched, or AUTO = 0; TAKE answers with the first failure in the order 0x08, 0xE2, 0xE3, 0xE0, 0xE1; RELEASE gives the claim only
to a twin that is heard, in Warm Standby, READY, not recovering and not mismatched, and is refused with 0xE4 otherwise. That an
event whose condition does not hold changes nothing is DEDUCED (log entry 2). Where the spec leaves a point open it follows the
model's reading (log entry 87). -/
def Obligations.TakeoverAndRelease : Prop :=
  (∀ (s : State),
    ((s.running .twin = false ∨ s.flag .TWN_STAT_CLAIM = true ∨ s.flag .TWN_STAT_TWIN_CLAIM = true ∨ s.flag .TWN_VETO = true) →
      exec .claimDrop s = .next s) ∧
    (s.running .twin = true → s.flag .TWN_STAT_CLAIM = false → s.flag .TWN_STAT_TWIN_CLAIM = false → s.flag .TWN_VETO = false →
      s.get .PWR_STAT_STATE = 3 →
      ∃ t, exec .claimDrop s = .next t
        ∧ (s.recovering = true → t.get .TWN_STAT_DUE = 1 ∧ t.get .TWN_STAT_DEFERRED = 1 ∧ t.get .TWN_EVT = (s.get .TWN_EVT ||| 0x10) % 2 ^ 9
            ∧ t.get .TWN_STAT_CLAIM = s.get .TWN_STAT_CLAIM ∧ t.get .PWR_STAT_STATE = 3)
        ∧ (s.recovering = false → (s.flag .TWN_STAT_MISMATCH = true ∨ s.flag .TWN_CTRL_AUTO = false) →
            t.get .TWN_STAT_DUE = 1 ∧ t.get .TWN_DROP = 1 ∧ t.get .TWN_STAT_CLAIM = s.get .TWN_STAT_CLAIM ∧ t.get .PWR_STAT_STATE = 3)
        ∧ (s.recovering = false → s.flag .TWN_STAT_MISMATCH = false → s.flag .TWN_CTRL_AUTO = true →
            ClaimTaken s t ∧ t.get .PWR_STAT_STATE = 2 ∧ Asserted 448 0 s t)
        ∧ Touches (claimFields ++ reportFields) s t)) ∧
  (∀ (m : Master) (v : Nat) (s : State), Passes m 0x138000C s →
    (bitsAt v 1 1 = 1 → ∃ t, exec (.claimTake m v) s = .next t ∧ Refused 0x04 (wordOf 0x138000C) m s t ∧ Touches (refuseFields ++ reportFields) s t) ∧
    (∀ c, c = (if s.get .PWR_STAT_STATE ≠ 2 ∧ s.get .PWR_STAT_STATE ≠ 3 then 0x08
        else if s.flag .TWN_STAT_CLAIM = true ∨ s.running .twin = false
          ∨ (s.flag .TWN_DROP = false ∧ (s.flag .TWN_STAT_LINK_LOST = false ∨ s.flag .TWN_STAT_MGMT_LOST = false)) then 0xE2
        else if s.recovering = true then 0xE3 else if s.flag .TWN_STAT_MISMATCH = true then 0xE0
        else if s.flag .TWN_STAT_TWIN_CLAIM = true then 0xE1 else 0) → bitsAt v 1 1 = 0 →
      ∃ t, exec (.claimTake m v) s = .next t ∧ t.get .TWN_STAT_LAST_REASON = c
        ∧ (c ≠ 0 → Refused c (wordOf 0x138000C) m s t ∧ Touches ([.TWN_STAT_LAST_REASON] ++ refuseFields ++ reportFields) s t)
        ∧ (c = 0 → t.get .PWR_STAT_STATE = 2 ∧ (s.flag .TWN_DROP = true → ClaimTaken s t)
            ∧ (s.flag .TWN_DROP = false → t.get .TWN_WANT = 2 ∧ t.get .TWN_STAT_CLAIM = s.get .TWN_STAT_CLAIM)
            ∧ Touches ([.TWN_STAT_LAST_REASON] ++ claimFields ++ reportFields) s t)) ∧
    (s.flag .TWN_STAT_CLAIM = true → s.twinHeard = true → s.get .TWN_TWIN_POWER = 3 → bitsAt (s.get .TWN_STAT_TWIN_FLAGS) 2 2 = 1 →
      s.flag .TWN_STAT_MISMATCH = false →
      ∃ t, exec (.claimRelease m) s = .next t ∧ ClaimReleased s t ∧ t.get .TWN_STAT_LAST_REASON = 0
        ∧ Touches ([.TWN_STAT_LAST_REASON] ++ claimFields ++ reportFields) s t) ∧
    ((s.flag .TWN_STAT_CLAIM = false ∨ s.twinHeard = false ∨ s.get .TWN_TWIN_POWER ≠ 3 ∨ bitsAt (s.get .TWN_STAT_TWIN_FLAGS) 2 2 ≠ 1
        ∨ s.flag .TWN_STAT_MISMATCH = true) →
      ∃ t, exec (.claimRelease m) s = .next t ∧ Refused 0xE4 (wordOf 0x138000C) m s t ∧ t.get .TWN_STAT_LAST_REASON = 0xE4
        ∧ Touches ([.TWN_STAT_LAST_REASON] ++ refuseFields ++ reportFields) s t))

/-- Resynchronisation (R521, R529 to R531): the messages and their layout, sent only when due; a message that is damaged, reserved or of
another length is discarded; entries of the claimer are noted and copied into the drafts at stage 2; an input is matched or moved at
stage 4; a digest that differs clears READY and restarts stage 2; each stage completes when its condition holds. That an event whose
condition does not hold changes nothing is DEDUCED (log entry 2). Where the spec leaves a point open it follows the model's reading
(log entry 85). -/
def Obligations.StandbyResynchronises : Prop :=
  (∀ (kind index n : Nat) (starts : List Stamp) (s : State),
    ((s.resyncDue kind = false ∨ s.resyncFits kind index n = false) → exec (.resyncSend kind index n starts) s = .next s) ∧
    (s.flag .TWN_STAT_CLAIM = false → kind < 5 → exec (.resyncSend kind index n starts) s = .next s) ∧
    (s.resyncDue kind = true → s.resyncFits kind index n = true →
      ∃ t, exec (.resyncSend kind index n starts) s = .next t ∧ t.get .TWN_TX_SEQ = (s.get .TWN_TX_SEQ + 1) % 2 ^ 8
        ∧ (∃ bs, t.out = .twin bs :: s.out ∧ msgCrcGood bs = true ∧ msgField bs 0 1 = 1 ∧ msgField bs 1 1 = s.get .TWN_TX_SEQ % 2 ^ 8
            ∧ msgField bs 2 1 = kind ∧ msgField bs 4 2 = index ∧ msgField bs 6 2 = n * itemSize kind ∧ bs.length = n * itemSize kind + 12
            ∧ (bs.drop 8).take (n * itemSize kind) = s.resyncData kind index n starts)
        ∧ Touches [.TWN_TX_SEQ] s t)) ∧
  (∀ (bs : List Byte) (own : List Stamp) (s : State),
    ((s.running .twin = false ∨ msgCrcGood bs = false ∨ msgField bs 0 1 ≠ 1 ∨ msgField bs 2 1 = 0 ∨ 5 < msgField bs 2 1 ∨ 28 < msgField bs 6 2
        ∨ msgField bs 6 2 % itemSize (msgField bs 2 1) ≠ 0 ∨ bs.length ≠ msgField bs 6 2 + 12) →
      exec (.resyncMessage bs own) s = .next s) ∧
    (s.running .twin = true → s.flag .TWN_STAT_CLAIM = false → msgCrcGood bs = true → msgField bs 0 1 = 1 → bs.length = msgField bs 6 2 + 12 →
      (msgField bs 2 1 = 5 → msgField bs 6 2 = 4 →
        ∃ t, exec (.resyncMessage bs own) s = .next t ∧ t.get .TWN_RX_SEQ 0 = msgField bs 1 1
          ∧ (if s.flag .TWN_STAT_READY = true ∧ msgField bs 8 4 ≠ s.liveDigest then t.get .TWN_STAT_SYNC = 2 ∧ t.get .TWN_STAT_READY = 0
            else Touches [.TWN_RX_SEQ, .TWN_RX_SEQ_KNOWN, .TWN_HB_COUNT_LINK_MISSED] s t)
          ∧ Touches ([.TWN_RX_SEQ, .TWN_RX_SEQ_KNOWN, .TWN_HB_COUNT_LINK_MISSED] ++ syncFields) s t) ∧
      (msgField bs 2 1 = 1 → msgField bs 6 2 = 4 → (∃ e < 96, e ≠ msgField bs 4 2 ∧ s.flag .TWN_COPY_ATL_SEEN e = false) →
        ∃ t, exec (.resyncMessage bs own) s = .next t ∧ (msgField bs 4 2 < 96 → t.get .TWN_COPY_ATL_SEEN (msgField bs 4 2) = 1
            ∧ t.get .TWN_COPY_ATL (msgField bs 4 2) = liveWord (msgField bs 8 4)
            ∧ (s.get .PWR_STAT_STATE = 3 → s.get .TWN_STAT_SYNC = 2 → s.flag .TWN_STAT_MISMATCH = false → s.flag .TWN_STAT_LINK_LOST = false →
                msgField bs 4 2 < s.variant.mediaLanes → (s.commitOf (msgField bs 4 2)).isNone = true →
                liveWord (s.liveWord0 (msgField bs 4 2)) ≠ liveWord (msgField bs 8 4) →
                t.get .ATL_DRAFT_ARMED (msgField bs 4 2) = 1 ∧ t.get .ATL_DRAFT_SOURCE (msgField bs 4 2) = bitsAt (msgField bs 8 4) 0 11
                  ∧ t.get .ATL_DRAFT_AFV (msgField bs 4 2) = bitsAt (msgField bs 8 4) 30 1))
          ∧ (s.isRemote (bitsAt (msgField bs 8 4) 0 11) = false →
              TouchesAt (msgField bs 4 2) [.TWN_COPY_ATL, .TWN_COPY_ATL_SEEN, .ATL_DRAFT_ARMED, .ATL_DRAFT_AFV, .ATL_DRAFT_SOURCE, .ATL_DRAFT_STAT_FAB_REASON,
                .DEST_DRAFT_RX] [.TWN_RX_SEQ, .TWN_RX_SEQ_KNOWN, .TWN_HB_COUNT_LINK_MISSED] s t)) ∧
      (msgField bs 2 1 = 2 → msgField bs 6 2 = 4 → (∃ e < 96, s.flag .TWN_COPY_ATL_SEEN e = false) →
        ∃ t, exec (.resyncMessage bs own) s = .next t ∧ (msgField bs 4 2 < s.matrixSize → t.get .TWN_COPY_AUD_SEEN (msgField bs 4 2) = 1
            ∧ t.get .TWN_COPY_AUD (msgField bs 4 2) = bitsAt (msgField bs 8 4) 0 18
            ∧ (s.get .PWR_STAT_STATE = 3 → s.get .TWN_STAT_SYNC = 2 → s.flag .TWN_STAT_MISMATCH = false → s.flag .TWN_STAT_LINK_LOST = false →
                s.get .AUD_LIVE_SOURCE (msgField bs 4 2) ≠ bitsAt (msgField bs 8 4) 0 18 →
                t.get .AUD_DRAFT_SOURCE (msgField bs 4 2) = bitsAt (msgField bs 8 4) 0 18))
          ∧ (s.matrixSize ≤ msgField bs 4 2 → Touches [.TWN_RX_SEQ, .TWN_RX_SEQ_KNOWN, .TWN_HB_COUNT_LINK_MISSED] s t)) ∧
      (∀ i, i = msgField bs 4 2 → ∀ f, f = s.formatOf (96 * s.position + i) → msgField bs 2 1 = 3 → msgField bs 6 2 = 12 → s.get .PWR_STAT_STATE = 3 →
          s.running .input i = true → msgField bs 8 4 = s.get .ATL_N_RECENT f % 2 ^ 32 →
        ∃ t, exec (.resyncMessage bs own) s = .next t
          ∧ (∀ o : Stamp, own.head? = some o → ∀ dt, dt = (ns32 o.sec o.ns - ns32 (msgField bs 12 4) (msgField bs 16 4)).natAbs →
            (dt ≤ (framePeriod f).1 * 1000000000 / (2 * (framePeriod f).2) →
              t.get .TWN_MATCH i = satAdd 2 (s.get .TWN_MATCH i) 1 ∧ t.get .IN_READ i = s.get .IN_READ i ∧ t.get .TWN_STAT_READY = s.get .TWN_STAT_READY) ∧
            ((framePeriod f).1 * 1000000000 / (2 * (framePeriod f).2) < dt →
              t.get .TWN_MATCH i = 0 ∧ t.flag .TWN_STAT_READY = false
                ∧ (s.flag .TWN_STAT_READY = true → t.get .TWN_STAT_SYNC = 4)
                ∧ (s.flag .TWN_STAT_READY = false → s.get .TWN_STAT_SYNC = 4 → s.flag .TWN_STAT_MISMATCH = false → s.flag .TWN_STAT_LINK_LOST = false →
                    1 < s.get .IN_READ i → Asserted 192 0 s t
                    ∧ (ns32 (msgField bs 12 4) (msgField bs 16 4) < ns32 o.sec o.ns → t.get .ATL_IN_COUNT_REPEATS i = satAdd 16 (s.get .ATL_IN_COUNT_REPEATS i) 1
                        ∧ t.get .IN_READ i = (s.get .IN_READ i - 1) % 2 ^ 64)
                    ∧ (ns32 o.sec o.ns < ns32 (msgField bs 12 4) (msgField bs 16 4) → t.get .ATL_IN_COUNT_DROPS i = satAdd 16 (s.get .ATL_IN_COUNT_DROPS i) 1
                        ∧ t.get .IN_READ i = (s.get .IN_READ i + 1) % 2 ^ 64))))
          ∧ TouchesAt i [.IN_READ, .ATL_IN_COUNT_REPEATS, .ATL_IN_COUNT_DROPS]
              (syncFields ++ [.TWN_RX_SEQ, .TWN_RX_SEQ_KNOWN, .TWN_HB_COUNT_LINK_MISSED] ++ reportFields) s t))) ∧
  (∀ (k : Nat) (s : State), k = s.get .TWN_STAT_SYNC →
    ((s.syncing k = false ∨ k = 0 ∨ 4 < k) → exec .syncStageComplete s = .next s) ∧
    (s.syncing k = true →
      (k = 1 → s.running .tb 0 = true → s.flag .TWN_OFF_IN = true → s.get .TWN_OFF_TICK + 400000000 ≤ s.tick →
        ∃ t, exec .syncStageComplete s = .next t ∧ t.get .TWN_STAT_SYNC = 2 ∧ Touches [.TWN_STAT_SYNC] s t) ∧
      (k = 1 → (s.running .tb 0 = false ∨ s.flag .TWN_OFF_IN = false ∨ s.tick < s.get .TWN_OFF_TICK + 400000000) → exec .syncStageComplete s = .next s) ∧
      (k = 2 → ∃ t, exec .syncStageComplete s = .next t
        ∧ (if s.running .atlas = true ∧ s.running .aud = true ∧ s.copyComplete = true ∧ (List.range 96).all s.videoEqual = true
              ∧ (List.range s.matrixSize).all s.audioEqual = true then t.get .TWN_STAT_SYNC = 3
              ∧ Touches ([.TWN_STAT_SYNC, .AUD_GROUP_LOST, .AUD_RXG_MISSING] ++ requestFields ++ decoderFields ++ reportFields) { s with rx := t.rx, subWait := t.subWait } t
            else t = s)) ∧
      (k = 3 → s.liveReady = true → ∃ t, exec .syncStageComplete s = .next t ∧ t.get .TWN_STAT_SYNC = 4 ∧ Touches [.TWN_STAT_SYNC] s t) ∧
      (k = 3 → s.liveReady = false → exec .syncStageComplete s = .next s) ∧
      (k = 4 → (∀ i < 96, s.running .input i = true → 2 ≤ s.get .TWN_MATCH i) →
        ∃ t, exec .syncStageComplete s = .next t ∧ t.get .TWN_STAT_SYNC = 5 ∧ t.get .TWN_STAT_READY = 1
          ∧ t.get .TWN_EVT = (s.get .TWN_EVT ||| 0x20) % 2 ^ 9
          ∧ (bitsAt (s.get .TWN_EVT) 5 1 = 0 → bitsAt (s.get .TWN_EVT_EN) 5 1 = 1 → Asserted 445 0 s t)
          ∧ Touches ([.TWN_STAT_SYNC, .TWN_STAT_READY, .TWN_EVT] ++ reportFields) s t) ∧
      (∀ i, k = 4 → i < 96 → s.running .input i = true → s.get .TWN_MATCH i < 2 → exec .syncStageComplete s = .next s)))

/-! ### The field side -/

/-- Safety inputs and the override (R559 to R563, R565 to R567): measurements are banded and counted; a band measured for long enough is
recognised; an input counts from active to normal, line faults neither start nor end it; the override is in force while it is armed
and an input counts; reminders repeat until a signed acknowledgement of the safety owner, which never ends the override. That an
event whose condition does not hold changes nothing is DEDUCED (log entry 2). Where the spec leaves a point open it follows the
model's reading (log entry 89). -/
def Obligations.SafetyInputsDecideTheOverride : Prop :=
  (∀ (i ohms : Nat) (s : State),
    ((2 ≤ i ∨ s.flag .FLD_DIE_OFF = true) → exec (.safetyMeasurement i ohms) s = .next s) ∧
    (∀ b, b = (if ohms < 250 then 3 else if 500 ≤ ohms ∧ ohms ≤ 1500 then 1 else if 3300 ≤ ohms ∧ ohms ≤ 6800 then 0
        else if 15000 < ohms then 2 else 4) → i < 2 → s.flag .FLD_DIE_OFF = false →
      ∃ t, exec (.safetyMeasurement i ohms) s = .next t ∧ t.get .FLD_RUN_BAND i = b
        ∧ t.get .FLD_RUN i = (if s.get .FLD_RUN_BAND i = b then satAdd 10 (s.get .FLD_RUN i) 1 else 1)
        ∧ t.get .FLD_SAFE_OHM i = (if s.flag .FLD_STAT_LINK_UP then min ohms 0xFFFF else s.get .FLD_SAFE_OHM i)
        ∧ TouchesAt i [.FLD_RUN_BAND, .FLD_RUN, .FLD_SAFE_OHM] [] s t)) ∧
  (∀ (is : List Nat) (s : State), (∀ i < 2, s.get .FLD_RUN_BAND i < 8 ∧ s.get .FLD_DIE_BAND i < 8 ∧ s.safetyState i < 8) → s.inQuiet = false →
    ∃ t, exec (.bandRecognised is) s = .next t
      ∧ (∀ i < 2, t.get .FLD_DIE_BAND i = (if i ∈ is ∧ (if s.get .FLD_RUN_BAND i = 4 then 1000 else 20) ≤ s.get .FLD_RUN i
            then s.get .FLD_RUN_BAND i else s.get .FLD_DIE_BAND i)
          ∧ (t.get .FLD_DIE_BAND i ≠ s.get .FLD_DIE_BAND i → t.get .FLD_DIE_BAND i = 1 → t.get .FLD_DIE_HOLDS i = 1)
          ∧ (t.get .FLD_DIE_BAND i ≠ s.get .FLD_DIE_BAND i → t.get .FLD_DIE_BAND i = 0 → t.get .FLD_DIE_HOLDS i = 0)
          ∧ (t.get .FLD_DIE_BAND i ≠ 0 → t.get .FLD_DIE_BAND i ≠ 1 → t.get .FLD_DIE_HOLDS i = s.get .FLD_DIE_HOLDS i)
          ∧ (s.flag .FLD_STAT_LINK_UP = true → t.safetyState i = t.get .FLD_DIE_BAND i
            ∧ t.flag (holdsField i) = (t.get .FLD_DIE_BAND i != 0 && (s.flag (holdsField i) || t.flag .FLD_DIE_HOLDS i))
            ∧ t.get (ackedField i) = (if s.safetyState i = t.get .FLD_DIE_BAND i then s.get (ackedField i) else 0)
            ∧ (s.flag (holdsField i) = false → t.flag (holdsField i) = true → Asserted (472 + i) 0 s t
                ∧ (s.flag .FLD_SAFE_STAT_ARMED = false → t.get .FLD_SAFE_STAT_BOOT_LATCH = 1))
            ∧ (s.safetyState i ≠ t.get .FLD_DIE_BAND i → 2 ≤ t.get .FLD_DIE_BAND i → t.get .FLD_DIE_BAND i ≤ 4 →
                s.safetyState (1 - i) = t.get .FLD_DIE_BAND (1 - i) → Asserted 474 2 s t)))
      ∧ (s.flag .FLD_STAT_LINK_UP = true →
          t.flag .FLD_SAFE_STAT_OVERRIDE = (s.flag .FLD_SAFE_STAT_ARMED && (t.flag .FLD_SAFE_STAT_HOLDS0 || t.flag .FLD_SAFE_STAT_HOLDS1))
          ∧ (t.flag .FLD_SAFE_STAT_OVERRIDE ≠ s.flag .FLD_SAFE_STAT_OVERRIDE →
              t.flag .AUD_EVAC_WAIT = t.flag .FLD_SAFE_STAT_OVERRIDE ∧ t.flag .CMP_EVAC_WAIT = t.flag .FLD_SAFE_STAT_OVERRIDE
              ∧ t.get .CMP_EVAC_TICK = s.tick % 2 ^ 64 ∧ t.flag .CMP_LEGEND_STAT_ACTIVE = t.flag .FLD_SAFE_STAT_OVERRIDE)
          ∧ t.flag .FLD_SAFE_STAT_CONTACT_FAULT = t.contactOpen)
      ∧ (s.flag .FLD_STAT_LINK_UP = false → Touches [.FLD_DIE_BAND, .FLD_DIE_HOLDS] s t)
      ∧ Touches ([.FLD_DIE_BAND, .FLD_DIE_HOLDS, .FLD_SAFE_STAT_STATE0, .FLD_SAFE_STAT_STATE1, .FLD_SAFE_STAT_ACKED0, .FLD_SAFE_STAT_ACKED1,
          .FLD_SAFE_STAT_HOLDS0, .FLD_SAFE_STAT_HOLDS1, .FLD_SAFE_STAT_BOOT_LATCH, .FLD_SAFE_STAT_OVERRIDE, .AUD_EVAC_WAIT, .CMP_EVAC_WAIT,
          .CMP_EVAC_TICK, .CMP_LEGEND_STAT_ACTIVE, .FLD_SAFE_STAT_CONTACT_FAULT] ++ reportFields) s t) ∧
  (∀ (s : State),
    ((s.handedOver = false ∨ s.flag .FLD_SAFE_STAT_ARMED = true) → exec .overrideArm s = .next s) ∧
    (s.handedOver = true → s.flag .FLD_SAFE_STAT_ARMED = false →
      ∃ t, exec .overrideArm s = .next t ∧ t.get .FLD_SAFE_STAT_ARMED = 1
        ∧ t.flag .FLD_SAFE_STAT_OVERRIDE = (s.flag .FLD_SAFE_STAT_HOLDS0 || s.flag .FLD_SAFE_STAT_HOLDS1)
        ∧ (s.flag .FLD_SAFE_STAT_OVERRIDE = false → (s.flag .FLD_SAFE_STAT_HOLDS0 = true ∨ s.flag .FLD_SAFE_STAT_HOLDS1 = true) →
            t.get .AUD_EVAC_WAIT = 1 ∧ t.get .CMP_EVAC_WAIT = 1 ∧ t.get .CMP_LEGEND_STAT_ACTIVE = 1
            ∧ (s.inQuiet = true → t.inQuiet = false ∧ t.get .PWR_STAT_SAFETY_WAKE = 1))
        ∧ (s.inQuiet = false → Touches [.FLD_SAFE_STAT_ARMED, .FLD_SAFE_STAT_OVERRIDE, .AUD_EVAC_WAIT, .CMP_EVAC_WAIT, .CMP_EVAC_TICK,
            .CMP_LEGEND_STAT_ACTIVE] s t))) ∧
  (∀ (i : Nat) (s : State),
    ((2 ≤ i ∨ s.flag (ackedField i) = true ∨ s.safetyState i = 0 ∨ 4 < s.safetyState i) → exec (.safetyReminder i) s = .next s) ∧
    (i < 2 → s.flag (ackedField i) = false → s.safetyState i = 1 →
      ∃ t, exec (.safetyReminder i) s = .next t ∧ Asserted (472 + i) 0 s t ∧ Touches reportFields s t) ∧
    (i < 2 → s.flag (ackedField i) = false → 2 ≤ s.safetyState i → s.safetyState i ≤ 4 →
      ∃ t, exec (.safetyReminder i) s = .next t ∧ Asserted 474 2 s t ∧ Touches reportFields s t)) ∧
  (∀ (m : Master) (slot : Nat) (s : State), Passes m 0x13C0020 s → s.get .SEC_RESULT_BUSY = 0 → s.get .SEC_DBG_LOCKOUT = 0 →
    (s.get .PWR_STAT_STATE = 1 →
      ∃ t, exec (.ackSafety m slot) s = .next t ∧ Refused 0xD3 (wordOf 0x13C0020) m s t ∧ t.get .SEC_RESULT_REASON = 0xD3 ∧ t.nonceAt = none
        ∧ Touches ([.SEC_RESULT_REASON] ++ refuseFields ++ reportFields) { s with nonceAt := none } t) ∧
    (s.get .PWR_STAT_STATE ≠ 1 → s.inForce.lifecycle < 4 → s.nonceValid = true →
        (if s.inForce.lifecycle = 0 ∨ s.inForce.lifecycle = 3 then slot = 0x80 else s.isSafetyOwner slot = true) →
      ∃ t, exec (.ackSafety m slot) s = .next t ∧ t.nonceAt = none
        ∧ (if s.signatureVerifies 0x30 slot = true then
            (if [0, 1].any (fun i => bitsAt (s.get .SEC_ARG) i 1 = 1 ∧ 1 ≤ s.safetyState i ∧ s.safetyState i ≤ 4) = true then
              t.get .SEC_RESULT_REASON = 0 ∧ t.get .SEC_RESULT_FAILS = 0 ∧ Asserted 475 0 s t
              ∧ (∀ i < 2, t.get (ackedField i) = (if bitsAt (s.get .SEC_ARG) i 1 = 1 ∧ 1 ≤ s.safetyState i ∧ s.safetyState i ≤ 4 then 1
                  else s.get (ackedField i)))
            else t.get .SEC_RESULT_REASON = 0xF4 ∧ Refused 0xF4 (wordOf 0x13C0020) m s t)
          else t.get .SEC_RESULT_REASON = 0xD0)
        ∧ t.get .FLD_SAFE_STAT_OVERRIDE = s.get .FLD_SAFE_STAT_OVERRIDE
        ∧ Touches ([.FLD_SAFE_STAT_ACKED0, .FLD_SAFE_STAT_ACKED1, .SEC_RESULT_REASON, .SEC_RESULT_FAILS, .SEC_DBG_LOCKOUT] ++ refuseFields ++ reportFields)
            { s with nonceAt := none } t))

/-- General-purpose inputs (R568 to R570, R572, R575): a recognised edge makes an entry up to MAX_RATE in a window, is lost while the
link is down, and is discarded where the FIFO is full; the end of a full window reports a level that differs; a stuck input is
marked and may be masked; a read pops the oldest entry. That an entry of a window's end sets cause EDGE, and an excess edge does
not, is the model's choice (log entry 88). That an event whose condition does not hold changes nothing is DEDUCED (log entry 2). -/
def Obligations.GpiEdgesAreReported : Prop :=
  (∀ (n : Nat) (active : Bool) (tm : Stamp) (s : State),
    ((32 ≤ n ∨ s.running .field = false ∨ s.flag .FLD_STAT_SUPPLY_OK = false ∨ s.flag .FLD_DIE_OFF = true ∨ s.flag .FLD_GPI_REC n = active) →
      exec (.gpiEdge n active tm) s = .next s) ∧
    (n < 32 → s.running .field = true → s.flag .FLD_STAT_SUPPLY_OK = true → s.flag .FLD_DIE_OFF = false → s.flag .FLD_GPI_REC n = !active →
      (s.flag .FLD_STAT_LINK_UP = false →
        ∃ t, exec (.gpiEdge n active tm) s = .next t ∧ t.flag .FLD_GPI_REC n = active ∧ t.get .FLD_GPI_LOST = 1
          ∧ TouchesAt n [.FLD_GPI_REC] [.FLD_GPI_LOST] s t) ∧
      (s.flag .FLD_STAT_LINK_UP = true →
        ∃ t, exec (.gpiEdge n active tm) s = .next t ∧ t.flag .FLD_GPI_REC n = active
          ∧ (active = false → t.get .FLD_GPI_W2_STUCK n = 0 ∧ t.get .FLD_GPI_W2_MASKED n = 0)
          ∧ t.flag .FLD_GPI_W2_LEVEL n = (active && !s.flag .FLD_GPI_W2_MASKED n)
          ∧ (s.get .FLD_GPI_EDGES n < s.get .FLD_GPI_W0_MAX_RATE n →
              t.get .FLD_GPI_EDGES n = (s.get .FLD_GPI_EDGES n + 1) % 2 ^ 10 ∧ t.get .FLD_GPI_W2_EDGE_C n = 1
              ∧ (s.flag .FLD_GPI_W2_EDGE_C n = false → s.flag .FLD_GPI_W0_EDGE_EN n = true → Asserted (464 + n / 4) 0 s t)
              ∧ (s.gpiFifo.length < 64 → t.gpiFifo = s.gpiFifo ++ [⟨n, active, tm, false, s.flag .FLD_GPI_LOST⟩] ∧ t.get .FLD_GPI_LOST = 0)
              ∧ (64 ≤ s.gpiFifo.length → t.gpiFifo = s.gpiFifo ∧ t.get .FLD_GPI_OVERRUN = 1))
          ∧ (s.get .FLD_GPI_W0_MAX_RATE n ≤ s.get .FLD_GPI_EDGES n →
              t.gpiFifo = s.gpiFifo ∧ t.get .FLD_GPI_W3_EXCESS n = satAdd 16 (s.get .FLD_GPI_W3_EXCESS n) 1 ∧ t.get .FLD_GPI_W2_EXCESS_C n = 1
              ∧ t.get .FLD_GPI_EDGES n = s.get .FLD_GPI_EDGES n
              ∧ (s.flag .FLD_GPI_W2_EXCESS_C n = false → s.flag .FLD_GPI_W0_EXCESS_EN n = true → Asserted (464 + n / 4) 0 s t))
          ∧ TouchesAt n [.FLD_GPI_REC, .FLD_GPI_W2_STUCK, .FLD_GPI_W2_MASKED, .FLD_GPI_W2_LEVEL, .FLD_GPI_EDGES, .FLD_GPI_REPORTED,
              .FLD_GPI_W2_EDGE_C, .FLD_GPI_W2_EXCESS_C, .FLD_GPI_W3_EXCESS] ([.FLD_GPI_LOST, .FLD_GPI_OVERRUN] ++ reportFields)
              { s with gpiFifo := t.gpiFifo } t))) ∧
  (∀ (n : Nat) (s : State),
    ((32 ≤ n ∨ s.running .field = false) → exec (.gpiRateWindow n) s = .next s) ∧
    (n < 32 → s.running .field = true →
      ∃ t, exec (.gpiRateWindow n) s = .next t ∧ t.get .FLD_GPI_EDGES n = 0
        ∧ ((s.get .FLD_GPI_EDGES n < s.get .FLD_GPI_W0_MAX_RATE n ∨ s.flag .FLD_GPI_W2_LEVEL n = s.flag .FLD_GPI_REPORTED n) →
            TouchesAt n [.FLD_GPI_EDGES] [] s t)
        ∧ (s.get .FLD_GPI_W0_MAX_RATE n ≤ s.get .FLD_GPI_EDGES n → s.flag .FLD_GPI_W2_LEVEL n = !s.flag .FLD_GPI_REPORTED n →
            t.flag .FLD_GPI_REPORTED n = s.flag .FLD_GPI_W2_LEVEL n
            ∧ (s.gpiFifo.length < 64 → t.gpiFifo = s.gpiFifo ++ [⟨n, s.flag .FLD_GPI_W2_LEVEL n, s.now, true, s.flag .FLD_GPI_LOST⟩])
            ∧ (64 ≤ s.gpiFifo.length → t.gpiFifo = s.gpiFifo ∧ t.get .FLD_GPI_OVERRUN = 1))
        ∧ TouchesAt n [.FLD_GPI_EDGES, .FLD_GPI_REPORTED, .FLD_GPI_W2_EDGE_C] ([.FLD_GPI_LOST, .FLD_GPI_OVERRUN] ++ reportFields)
            { s with gpiFifo := t.gpiFifo } t) ∧
    ((32 ≤ n ∨ s.running .field = false ∨ s.flag .FLD_STAT_SUPPLY_OK = false ∨ s.flag .FLD_DIE_OFF = true ∨ s.flag .FLD_GPI_REC n = false ∨ s.get .FLD_GPI_W1_STUCK_S n = 0
        ∨ s.flag .FLD_GPI_W2_STUCK n = true) → exec (.gpiStuck n) s = .next s) ∧
    (n < 32 → s.running .field = true → s.flag .FLD_STAT_SUPPLY_OK = true → s.flag .FLD_DIE_OFF = false → s.flag .FLD_GPI_REC n = true → s.get .FLD_GPI_W1_STUCK_S n ≠ 0 →
        s.flag .FLD_GPI_W2_STUCK n = false →
      ∃ t, exec (.gpiStuck n) s = .next t ∧ t.get .FLD_GPI_W2_STUCK n = 1 ∧ t.get .FLD_GPI_W2_STUCK_C n = 1
        ∧ (s.flag .FLD_GPI_W2_STUCK_C n = false → s.flag .FLD_GPI_W0_STUCK_EN n = true → Asserted (464 + n / 4) 0 s t)
        ∧ (s.flag .FLD_GPI_W0_STUCK_MASK n = true → t.get .FLD_GPI_W2_MASKED n = 1 ∧ t.get .FLD_GPI_W2_LEVEL n = 0)
        ∧ (s.flag .FLD_GPI_W0_STUCK_MASK n = false → t.get .FLD_GPI_W2_MASKED n = s.get .FLD_GPI_W2_MASKED n
            ∧ t.flag .FLD_GPI_W2_LEVEL n = !s.flag .FLD_GPI_W2_MASKED n)
        ∧ TouchesAt n [.FLD_GPI_W2_STUCK, .FLD_GPI_W2_STUCK_C, .FLD_GPI_W2_MASKED, .FLD_GPI_W2_LEVEL] reportFields s t)) ∧
  (∀ (m : Master) (s : State), regGate m 0x1440020 4 false s = none →
    (s.gpiFifo = [] → exec (.gpiFifoRead m) s = .next { s with busResp := ⟨0, false⟩ }) ∧
    (∀ e, s.gpiFifo.head? = some e →
      ∃ t, exec (.gpiFifoRead m) s = .next t ∧ t.gpiFifo = s.gpiFifo.tail
        ∧ t.busResp = ⟨2 ^ 31 + 2 ^ 30 * (e.overrun || s.flag .FLD_GPI_OVERRUN).toNat + 2 ^ 29 * e.active.toNat + 2 ^ 28 * e.coalesced.toNat
            + 2 ^ 8 * min 31 (s.gpiFifo.length - 1) + e.input, false⟩
        ∧ t.get .FLD_GPI_NS = e.time.ns % 2 ^ 32 ∧ t.get .FLD_GPI_SEC = e.time.sec % 2 ^ 32 ∧ t.get .FLD_GPI_OVERRUN = 0
        ∧ Touches [.FLD_GPI_NS, .FLD_GPI_SEC, .FLD_GPI_OVERRUN] { s with gpiFifo := t.gpiFifo } t))

/-- Field supply, field-side link and general-purpose outputs (R567, R571 to R573): a supply out of range and a link that is down open
the contact; below 12 V the field die stops; frames are counted, three bad ones take the link down and 100 good ones bring it back
with what the field die holds; the overload of an output that is not on changes nothing. That an event whose condition does not hold
changes nothing is DEDUCED (log entry 2). Where the spec leaves a point open it follows the model's reading (log entry 88). -/
def Obligations.FieldSupplyLinkAndOutputs : Prop :=
  (∀ (mv : Nat) (s : State),
    (16000 ≤ mv → mv ≤ 34000 → exec (.vfieldOutOfRange mv) s = .next s) ∧
    ((mv < 16000 ∨ 34000 < mv) →
      ∃ t, exec (.vfieldOutOfRange mv) s = .next t ∧ t.get .FLD_STAT_VFIELD = min mv 0xFFFF ∧ t.get .FLD_STAT_SUPPLY_OK = 0
        ∧ t.get .FLD_SAFE_STAT_CONTACT_FAULT = 1 ∧ t.flag .FLD_DIE_OFF = decide (mv < 12000)
        ∧ (s.flag .FLD_STAT_SUPPLY_OK = true → Asserted 477 2 s t)
        ∧ (12000 ≤ mv → Touches ([.FLD_STAT_VFIELD, .FLD_STAT_SUPPLY_OK, .FLD_SAFE_STAT_CONTACT_FAULT, .FLD_DIE_OFF] ++ reportFields) s t)
        ∧ (mv < 12000 → ∀ i < 2, t.get .FLD_DIE_BAND i = 5 ∧ t.get .FLD_RUN i = 0 ∧ t.get .FLD_RUN_BAND i = 5 ∧ t.get .FLD_DIE_HOLDS i = 0)
        ∧ Touches ([.FLD_STAT_VFIELD, .FLD_STAT_SUPPLY_OK, .FLD_SAFE_STAT_CONTACT_FAULT, .FLD_DIE_BAND, .FLD_RUN, .FLD_RUN_BAND, .FLD_DIE_HOLDS,
            .FLD_DIE_OFF] ++ reportFields) s t) ∧
    ((mv < 16000 ∨ 34000 < mv ∨ s.flag .FLD_STAT_SUPPLY_OK = true) → exec (.vfieldInRange mv) s = .next s) ∧
    (16000 ≤ mv → mv ≤ 34000 → s.flag .FLD_STAT_SUPPLY_OK = false →
      ∃ t, exec (.vfieldInRange mv) s = .next t ∧ t.get .FLD_STAT_VFIELD = mv ∧ t.get .FLD_STAT_SUPPLY_OK = 1
        ∧ t.flag .FLD_SAFE_STAT_CONTACT_FAULT = t.contactOpen
        ∧ t.get .FLD_DIE_OFF = 0 ∧ Touches [.FLD_STAT_VFIELD, .FLD_STAT_SUPPLY_OK, .FLD_SAFE_STAT_CONTACT_FAULT, .FLD_DIE_OFF] s t) ∧
    (∃ t, exec (.fieldStatusFrame true mv) s = .next t ∧ t.get .FLD_LINK_BAD = 0 ∧ t.get .FLD_LINK_GOOD = satAdd 8 (s.get .FLD_LINK_GOOD) 1
      ∧ t.get .FLD_STAT_VFIELD = (if s.flag .FLD_STAT_LINK_UP then min mv 0xFFFF else s.get .FLD_STAT_VFIELD)
      ∧ Touches [.FLD_LINK_BAD, .FLD_LINK_GOOD, .FLD_STAT_VFIELD] s t) ∧
    (∃ t, exec (.fieldStatusFrame false mv) s = .next t ∧ t.get .FLD_LINK_GOOD = 0 ∧ t.get .FLD_LINK_BAD = satAdd 8 (s.get .FLD_LINK_BAD) 1
      ∧ Touches [.FLD_LINK_BAD, .FLD_LINK_GOOD] s t)) ∧
  (∀ (s : State),
    ((s.flag .FLD_STAT_LINK_UP = false ∨ s.get .FLD_LINK_BAD < 3) → exec .fieldLinkDown s = .next s) ∧
    (s.flag .FLD_STAT_LINK_UP = true → 3 ≤ s.get .FLD_LINK_BAD →
      ∃ t, exec .fieldLinkDown s = .next t ∧ t.get .FLD_STAT_LINK_UP = 0 ∧ t.get .FLD_SAFE_STAT_CONTACT_FAULT = 1 ∧ Asserted 478 2 s t
        ∧ Touches ([.FLD_STAT_LINK_UP, .FLD_SAFE_STAT_CONTACT_FAULT] ++ reportFields) s t) ∧
    ((s.flag .FLD_STAT_LINK_UP = true ∨ s.get .FLD_LINK_GOOD < 100) → exec .fieldLinkUp s = .next s) ∧
    (s.flag .FLD_STAT_LINK_UP = false → 100 ≤ s.get .FLD_LINK_GOOD → (∀ i < 2, s.get .FLD_DIE_BAND i < 8 ∧ s.safetyState i < 8) → s.inQuiet = false →
      ∃ t, exec .fieldLinkUp s = .next t ∧ t.get .FLD_STAT_LINK_UP = 1
        ∧ (∀ i < 2, t.safetyState i = s.get .FLD_DIE_BAND i
            ∧ t.flag (holdsField i) = (s.get .FLD_DIE_BAND i != 0 && (s.flag (holdsField i) || s.flag .FLD_DIE_HOLDS i)))
        ∧ t.flag .FLD_SAFE_STAT_OVERRIDE = (s.flag .FLD_SAFE_STAT_ARMED && (t.flag .FLD_SAFE_STAT_HOLDS0 || t.flag .FLD_SAFE_STAT_HOLDS1))
        ∧ t.flag .FLD_SAFE_STAT_CONTACT_FAULT = t.contactOpen
        ∧ (∀ n < 32, t.flag .FLD_GPI_W2_LEVEL n = (s.flag .FLD_GPI_REC n && !t.flag .FLD_GPI_W2_MASKED n)
            ∧ (s.flag .FLD_GPI_REC n = false → t.get .FLD_GPI_W2_STUCK n = 0 ∧ t.get .FLD_GPI_W2_MASKED n = 0)
            ∧ (s.flag .FLD_GPI_REC n = true → t.get .FLD_GPI_W2_STUCK n = s.get .FLD_GPI_W2_STUCK n ∧ t.get .FLD_GPI_W2_MASKED n = s.get .FLD_GPI_W2_MASKED n))
        ∧ Touches ([.FLD_STAT_LINK_UP, .FLD_GPI_W2_LEVEL, .FLD_GPI_W2_STUCK, .FLD_GPI_W2_MASKED, .FLD_SAFE_STAT_STATE0, .FLD_SAFE_STAT_STATE1,
            .FLD_SAFE_STAT_ACKED0, .FLD_SAFE_STAT_ACKED1, .FLD_SAFE_STAT_HOLDS0, .FLD_SAFE_STAT_HOLDS1, .FLD_SAFE_STAT_BOOT_LATCH,
            .FLD_SAFE_STAT_OVERRIDE, .AUD_EVAC_WAIT, .CMP_EVAC_WAIT, .CMP_EVAC_TICK, .CMP_LEGEND_STAT_ACTIVE, .FLD_SAFE_STAT_CONTACT_FAULT]
            ++ reportFields) s t)) ∧
  (∀ (n : Nat) (s : State),
    ((32 ≤ n ∨ s.flag .TWN_STAT_DRIVING = false ∨ s.flag .FLD_STAT_SUPPLY_OK = false ∨ s.flag .FLD_STAT_LINK_UP = false
        ∨ bitsAt (s.get .FLD_GPO_FAULT) n 1 = 1) → exec (.gpoOverload n) s = .next s) ∧
    (s.get .FLD_GPO_CTRL_MODE n = 0 → bitsAt (s.get .FLD_GPO_SET) n 1 = 0 → exec (.gpoOverload n) s = .next s))

/-- An overloaded GPO (R574): an output that is on and overloaded sets its bit in FLD_GPO_FAULT, asserts source 476 and is off; it stays
off until software writes 1 to the bit, and a write of 1 while the overload persists leaves the bit set and is refused with 0xF3. -/
def Obligations.OverloadedGpoStaysOff : Prop :=
  (∀ (n : Nat) (s : State),
    n < 32 → s.flag .TWN_STAT_DRIVING = true → s.flag .FLD_STAT_SUPPLY_OK = true → s.flag .FLD_STAT_LINK_UP = true →
        bitsAt (s.get .FLD_GPO_FAULT) n 1 = 0 →
        ((s.get .FLD_GPO_CTRL_MODE n = 0 ∧ bitsAt (s.get .FLD_GPO_SET) n 1 = 1)
          ∨ (s.get .FLD_GPO_CTRL_MODE n = 1 ∧ s.get .ATL_LIVE_SOURCE (s.get .FLD_GPO_CTRL_TARGET n) = s.get .FLD_GPO_CTRL_SOURCE n)
          ∨ (s.get .FLD_GPO_CTRL_MODE n = 2 ∧ s.flag .FLD_GPI_W2_LEVEL (s.get .FLD_GPO_CTRL_SOURCE n % 32) = true)
          ∨ (s.get .FLD_GPO_CTRL_MODE n = 3 ∧ s.flag .FLD_SAFE_STAT_OVERRIDE = true)) →
      ∃ t, exec (.gpoOverload n) s = .next t ∧ t.get .FLD_GPO_FAULT = (s.get .FLD_GPO_FAULT ||| 2 ^ n) % 2 ^ 32 ∧ t.gpoOn n = false
        ∧ Asserted 476 0 s t
        ∧ Touches ([.FLD_GPO_FAULT] ++ reportFields) s t) ∧
  (∀ (m : Master) (v ov : Nat) (s : State), Passes m 0x1440034 s →
    ∃ t, exec (.gpoFaultClear m v ov) s = .next t
      ∧ (∀ n < 32, (t.get .FLD_GPO_FAULT).testBit n = ((s.get .FLD_GPO_FAULT).testBit n && (!v.testBit n || ov.testBit n)))
      ∧ ((∃ n < 32, (s.get .FLD_GPO_FAULT).testBit n = true ∧ v.testBit n = true ∧ ov.testBit n = true) →
          Refused 0xF3 (wordOf 0x1440034) m s t)
      ∧ ((∀ n < 32, ((s.get .FLD_GPO_FAULT).testBit n && v.testBit n && ov.testBit n) = false) → Touches [.FLD_GPO_FAULT] s t)
      ∧ Touches ([.FLD_GPO_FAULT] ++ refuseFields ++ reportFields) s t)
end

