-- ==== Sys2Proof/Laws/State.lean ====
section
/-!
SUPPORT. One lemma for each field under each named update of the state: every field but the one that the update is for stays.
-/
namespace Sys2Proof.Machine

variable (s : State)

/-! ### `put` -/

@[simp] theorem State.put_variant (f : Fld) (i v : Nat) : (s.put f i v).variant = s.variant := rfl
@[simp] theorem State.put_mem (f : Fld) (i v : Nat) : (s.put f i v).mem = s.mem := rfl
@[simp] theorem State.put_nvm (f : Fld) (i v : Nat) : (s.put f i v).nvm = s.nvm := rfl
@[simp] theorem State.put_nvmWork (f : Fld) (i v : Nat) : (s.put f i v).nvmWork = s.nvmWork := rfl
@[simp] theorem State.put_fuses (f : Fld) (i v : Nat) : (s.put f i v).fuses = s.fuses := rfl
@[simp] theorem State.put_inForce (f : Fld) (i v : Nat) : (s.put f i v).inForce = s.inForce := rfl
@[simp] theorem State.put_tick (f : Fld) (i v : Nat) : (s.put f i v).tick = s.tick := rfl
@[simp] theorem State.put_freeCount (f : Fld) (i v : Nat) : (s.put f i v).freeCount = s.freeCount := rfl
@[simp] theorem State.put_busResp (f : Fld) (i v : Nat) : (s.put f i v).busResp = s.busResp := rfl
@[simp] theorem State.put_confidential (f : Fld) (i v : Nat) : (s.put f i v).confidential = s.confidential := rfl
@[simp] theorem State.put_protected_ (f : Fld) (i v : Nat) : (s.put f i v).protected_ = s.protected_ := rfl
@[simp] theorem State.put_haltedStewards (f : Fld) (i v : Nat) : (s.put f i v).haltedStewards = s.haltedStewards := rfl
@[simp] theorem State.put_jtag (f : Fld) (i v : Nat) : (s.put f i v).jtag = s.jtag := rfl
@[simp] theorem State.put_nonceAt (f : Fld) (i v : Nat) : (s.put f i v).nonceAt = s.nonceAt := rfl
@[simp] theorem State.put_boot (f : Fld) (i v : Nat) : (s.put f i v).boot = s.boot := rfl
@[simp] theorem State.put_enum (f : Fld) (i v : Nat) : (s.put f i v).enum = s.enum := rfl
@[simp] theorem State.put_recovQueue (f : Fld) (i v : Nat) : (s.put f i v).recovQueue = s.recovQueue := rfl
@[simp] theorem State.put_recovActive (f : Fld) (i v : Nat) : (s.put f i v).recovActive = s.recovActive := rfl
@[simp] theorem State.put_logWaiting (f : Fld) (i v : Nat) : (s.put f i v).logWaiting = s.logWaiting := rfl
@[simp] theorem State.put_logTimes (f : Fld) (i v : Nat) : (s.put f i v).logTimes = s.logTimes := rfl
@[simp] theorem State.put_tbs (f : Fld) (i v : Nat) : (s.put f i v).tbs = s.tbs := rfl
@[simp] theorem State.put_spans (f : Fld) (i v : Nat) : (s.put f i v).spans = s.spans := rfl
@[simp] theorem State.put_commits (f : Fld) (i v : Nat) : (s.put f i v).commits = s.commits := rfl
@[simp] theorem State.put_rx (f : Fld) (i v : Nat) : (s.put f i v).rx = s.rx := rfl
@[simp] theorem State.put_tx (f : Fld) (i v : Nat) : (s.put f i v).tx = s.tx := rfl
@[simp] theorem State.put_wp (f : Fld) (i v : Nat) : (s.put f i v).wp = s.wp := rfl
@[simp] theorem State.put_admits (f : Fld) (i v : Nat) : (s.put f i v).admits = s.admits := rfl
@[simp] theorem State.put_subWait (f : Fld) (i v : Nat) : (s.put f i v).subWait = s.subWait := rfl
@[simp] theorem State.put_groupHist (f : Fld) (i v : Nat) : (s.put f i v).groupHist = s.groupHist := rfl
@[simp] theorem State.put_gazFetch (f : Fld) (i v : Nat) : (s.put f i v).gazFetch = s.gazFetch := rfl
@[simp] theorem State.put_resetTick (f : Fld) (i v : Nat) : (s.put f i v).resetTick = s.resetTick := rfl
@[simp] theorem State.put_stepsDue (f : Fld) (i v : Nat) : (s.put f i v).stepsDue = s.stepsDue := rfl
@[simp] theorem State.put_caps (f : Fld) (i v : Nat) : (s.put f i v).caps = s.caps := rfl
@[simp] theorem State.put_gates (f : Fld) (i v : Nat) : (s.put f i v).gates = s.gates := rfl
@[simp] theorem State.put_txWork (f : Fld) (i v : Nat) : (s.put f i v).txWork = s.txWork := rfl
@[simp] theorem State.put_mergeSeen (f : Fld) (i v : Nat) : (s.put f i v).mergeSeen = s.mergeSeen := rfl
@[simp] theorem State.put_seqHoles (f : Fld) (i v : Nat) : (s.put f i v).seqHoles = s.seqHoles := rfl
@[simp] theorem State.put_holes (f : Fld) (i v : Nat) : (s.put f i v).holes = s.holes := rfl
@[simp] theorem State.put_fills (f : Fld) (i v : Nat) : (s.put f i v).fills = s.fills := rfl
@[simp] theorem State.put_refHist (f : Fld) (i v : Nat) : (s.put f i v).refHist = s.refHist := rfl
@[simp] theorem State.put_refResid (f : Fld) (i v : Nat) : (s.put f i v).refResid = s.refResid := rfl
@[simp] theorem State.put_refDaily (f : Fld) (i v : Nat) : (s.put f i v).refDaily = s.refDaily := rfl
@[simp] theorem State.put_dsp (f : Fld) (i v : Nat) : (s.put f i v).dsp = s.dsp := rfl
@[simp] theorem State.put_audArrived (f : Fld) (i v : Nat) : (s.put f i v).audArrived = s.audArrived := rfl
@[simp] theorem State.put_audFrames (f : Fld) (i v : Nat) : (s.put f i v).audFrames = s.audFrames := rfl
@[simp] theorem State.put_cic (f : Fld) (i v : Nat) : (s.put f i v).cic = s.cic := rfl
@[simp] theorem State.put_audCommit (f : Fld) (i v : Nat) : (s.put f i v).audCommit = s.audCommit := rfl
@[simp] theorem State.put_hbSent (f : Fld) (i v : Nat) : (s.put f i v).hbSent = s.hbSent := rfl
@[simp] theorem State.put_hbGot (f : Fld) (i v : Nat) : (s.put f i v).hbGot = s.hbGot := rfl
@[simp] theorem State.put_twinHalves (f : Fld) (i v : Nat) : (s.put f i v).twinHalves = s.twinHalves := rfl
@[simp] theorem State.put_tilePics (f : Fld) (i v : Nat) : (s.put f i v).tilePics = s.tilePics := rfl
@[simp] theorem State.put_shots (f : Fld) (i v : Nat) : (s.put f i v).shots = s.shots := rfl
@[simp] theorem State.put_gpiFifo (f : Fld) (i v : Nat) : (s.put f i v).gpiFifo = s.gpiFifo := rfl
@[simp] theorem State.put_out (f : Fld) (i v : Nat) : (s.put f i v).out = s.out := rfl
@[simp] theorem State.put_pending (f : Fld) (i v : Nat) : (s.put f i v).pending = s.pending := rfl

/-! ### `clear` -/

@[simp] theorem State.clear_variant (f : Fld) (i : Nat) : (s.clear f i).variant = s.variant := rfl
@[simp] theorem State.clear_mem (f : Fld) (i : Nat) : (s.clear f i).mem = s.mem := rfl
@[simp] theorem State.clear_nvm (f : Fld) (i : Nat) : (s.clear f i).nvm = s.nvm := rfl
@[simp] theorem State.clear_nvmWork (f : Fld) (i : Nat) : (s.clear f i).nvmWork = s.nvmWork := rfl
@[simp] theorem State.clear_fuses (f : Fld) (i : Nat) : (s.clear f i).fuses = s.fuses := rfl
@[simp] theorem State.clear_inForce (f : Fld) (i : Nat) : (s.clear f i).inForce = s.inForce := rfl
@[simp] theorem State.clear_tick (f : Fld) (i : Nat) : (s.clear f i).tick = s.tick := rfl
@[simp] theorem State.clear_freeCount (f : Fld) (i : Nat) : (s.clear f i).freeCount = s.freeCount := rfl
@[simp] theorem State.clear_busResp (f : Fld) (i : Nat) : (s.clear f i).busResp = s.busResp := rfl
@[simp] theorem State.clear_confidential (f : Fld) (i : Nat) : (s.clear f i).confidential = s.confidential := rfl
@[simp] theorem State.clear_protected_ (f : Fld) (i : Nat) : (s.clear f i).protected_ = s.protected_ := rfl
@[simp] theorem State.clear_haltedStewards (f : Fld) (i : Nat) : (s.clear f i).haltedStewards = s.haltedStewards := rfl
@[simp] theorem State.clear_jtag (f : Fld) (i : Nat) : (s.clear f i).jtag = s.jtag := rfl
@[simp] theorem State.clear_nonceAt (f : Fld) (i : Nat) : (s.clear f i).nonceAt = s.nonceAt := rfl
@[simp] theorem State.clear_boot (f : Fld) (i : Nat) : (s.clear f i).boot = s.boot := rfl
@[simp] theorem State.clear_enum (f : Fld) (i : Nat) : (s.clear f i).enum = s.enum := rfl
@[simp] theorem State.clear_recovQueue (f : Fld) (i : Nat) : (s.clear f i).recovQueue = s.recovQueue := rfl
@[simp] theorem State.clear_recovActive (f : Fld) (i : Nat) : (s.clear f i).recovActive = s.recovActive := rfl
@[simp] theorem State.clear_logWaiting (f : Fld) (i : Nat) : (s.clear f i).logWaiting = s.logWaiting := rfl
@[simp] theorem State.clear_logTimes (f : Fld) (i : Nat) : (s.clear f i).logTimes = s.logTimes := rfl
@[simp] theorem State.clear_tbs (f : Fld) (i : Nat) : (s.clear f i).tbs = s.tbs := rfl
@[simp] theorem State.clear_spans (f : Fld) (i : Nat) : (s.clear f i).spans = s.spans := rfl
@[simp] theorem State.clear_commits (f : Fld) (i : Nat) : (s.clear f i).commits = s.commits := rfl
@[simp] theorem State.clear_rx (f : Fld) (i : Nat) : (s.clear f i).rx = s.rx := rfl
@[simp] theorem State.clear_tx (f : Fld) (i : Nat) : (s.clear f i).tx = s.tx := rfl
@[simp] theorem State.clear_wp (f : Fld) (i : Nat) : (s.clear f i).wp = s.wp := rfl
@[simp] theorem State.clear_admits (f : Fld) (i : Nat) : (s.clear f i).admits = s.admits := rfl
@[simp] theorem State.clear_subWait (f : Fld) (i : Nat) : (s.clear f i).subWait = s.subWait := rfl
@[simp] theorem State.clear_groupHist (f : Fld) (i : Nat) : (s.clear f i).groupHist = s.groupHist := rfl
@[simp] theorem State.clear_gazFetch (f : Fld) (i : Nat) : (s.clear f i).gazFetch = s.gazFetch := rfl
@[simp] theorem State.clear_resetTick (f : Fld) (i : Nat) : (s.clear f i).resetTick = s.resetTick := rfl
@[simp] theorem State.clear_stepsDue (f : Fld) (i : Nat) : (s.clear f i).stepsDue = s.stepsDue := rfl
@[simp] theorem State.clear_caps (f : Fld) (i : Nat) : (s.clear f i).caps = s.caps := rfl
@[simp] theorem State.clear_gates (f : Fld) (i : Nat) : (s.clear f i).gates = s.gates := rfl
@[simp] theorem State.clear_txWork (f : Fld) (i : Nat) : (s.clear f i).txWork = s.txWork := rfl
@[simp] theorem State.clear_mergeSeen (f : Fld) (i : Nat) : (s.clear f i).mergeSeen = s.mergeSeen := rfl
@[simp] theorem State.clear_seqHoles (f : Fld) (i : Nat) : (s.clear f i).seqHoles = s.seqHoles := rfl
@[simp] theorem State.clear_holes (f : Fld) (i : Nat) : (s.clear f i).holes = s.holes := rfl
@[simp] theorem State.clear_fills (f : Fld) (i : Nat) : (s.clear f i).fills = s.fills := rfl
@[simp] theorem State.clear_refHist (f : Fld) (i : Nat) : (s.clear f i).refHist = s.refHist := rfl
@[simp] theorem State.clear_refResid (f : Fld) (i : Nat) : (s.clear f i).refResid = s.refResid := rfl
@[simp] theorem State.clear_refDaily (f : Fld) (i : Nat) : (s.clear f i).refDaily = s.refDaily := rfl
@[simp] theorem State.clear_dsp (f : Fld) (i : Nat) : (s.clear f i).dsp = s.dsp := rfl
@[simp] theorem State.clear_audArrived (f : Fld) (i : Nat) : (s.clear f i).audArrived = s.audArrived := rfl
@[simp] theorem State.clear_audFrames (f : Fld) (i : Nat) : (s.clear f i).audFrames = s.audFrames := rfl
@[simp] theorem State.clear_cic (f : Fld) (i : Nat) : (s.clear f i).cic = s.cic := rfl
@[simp] theorem State.clear_audCommit (f : Fld) (i : Nat) : (s.clear f i).audCommit = s.audCommit := rfl
@[simp] theorem State.clear_hbSent (f : Fld) (i : Nat) : (s.clear f i).hbSent = s.hbSent := rfl
@[simp] theorem State.clear_hbGot (f : Fld) (i : Nat) : (s.clear f i).hbGot = s.hbGot := rfl
@[simp] theorem State.clear_twinHalves (f : Fld) (i : Nat) : (s.clear f i).twinHalves = s.twinHalves := rfl
@[simp] theorem State.clear_tilePics (f : Fld) (i : Nat) : (s.clear f i).tilePics = s.tilePics := rfl
@[simp] theorem State.clear_shots (f : Fld) (i : Nat) : (s.clear f i).shots = s.shots := rfl
@[simp] theorem State.clear_gpiFifo (f : Fld) (i : Nat) : (s.clear f i).gpiFifo = s.gpiFifo := rfl
@[simp] theorem State.clear_out (f : Fld) (i : Nat) : (s.clear f i).out = s.out := rfl
@[simp] theorem State.clear_pending (f : Fld) (i : Nat) : (s.clear f i).pending = s.pending := rfl

/-! ### `clearAll` -/

@[simp] theorem State.clearAll_variant (f : Fld) : (s.clearAll f).variant = s.variant := rfl
@[simp] theorem State.clearAll_mem (f : Fld) : (s.clearAll f).mem = s.mem := rfl
@[simp] theorem State.clearAll_nvm (f : Fld) : (s.clearAll f).nvm = s.nvm := rfl
@[simp] theorem State.clearAll_nvmWork (f : Fld) : (s.clearAll f).nvmWork = s.nvmWork := rfl
@[simp] theorem State.clearAll_fuses (f : Fld) : (s.clearAll f).fuses = s.fuses := rfl
@[simp] theorem State.clearAll_inForce (f : Fld) : (s.clearAll f).inForce = s.inForce := rfl
@[simp] theorem State.clearAll_tick (f : Fld) : (s.clearAll f).tick = s.tick := rfl
@[simp] theorem State.clearAll_freeCount (f : Fld) : (s.clearAll f).freeCount = s.freeCount := rfl
@[simp] theorem State.clearAll_busResp (f : Fld) : (s.clearAll f).busResp = s.busResp := rfl
@[simp] theorem State.clearAll_confidential (f : Fld) : (s.clearAll f).confidential = s.confidential := rfl
@[simp] theorem State.clearAll_protected_ (f : Fld) : (s.clearAll f).protected_ = s.protected_ := rfl
@[simp] theorem State.clearAll_haltedStewards (f : Fld) : (s.clearAll f).haltedStewards = s.haltedStewards := rfl
@[simp] theorem State.clearAll_jtag (f : Fld) : (s.clearAll f).jtag = s.jtag := rfl
@[simp] theorem State.clearAll_nonceAt (f : Fld) : (s.clearAll f).nonceAt = s.nonceAt := rfl
@[simp] theorem State.clearAll_boot (f : Fld) : (s.clearAll f).boot = s.boot := rfl
@[simp] theorem State.clearAll_enum (f : Fld) : (s.clearAll f).enum = s.enum := rfl
@[simp] theorem State.clearAll_recovQueue (f : Fld) : (s.clearAll f).recovQueue = s.recovQueue := rfl
@[simp] theorem State.clearAll_recovActive (f : Fld) : (s.clearAll f).recovActive = s.recovActive := rfl
@[simp] theorem State.clearAll_logWaiting (f : Fld) : (s.clearAll f).logWaiting = s.logWaiting := rfl
@[simp] theorem State.clearAll_logTimes (f : Fld) : (s.clearAll f).logTimes = s.logTimes := rfl
@[simp] theorem State.clearAll_tbs (f : Fld) : (s.clearAll f).tbs = s.tbs := rfl
@[simp] theorem State.clearAll_spans (f : Fld) : (s.clearAll f).spans = s.spans := rfl
@[simp] theorem State.clearAll_commits (f : Fld) : (s.clearAll f).commits = s.commits := rfl
@[simp] theorem State.clearAll_rx (f : Fld) : (s.clearAll f).rx = s.rx := rfl
@[simp] theorem State.clearAll_tx (f : Fld) : (s.clearAll f).tx = s.tx := rfl
@[simp] theorem State.clearAll_wp (f : Fld) : (s.clearAll f).wp = s.wp := rfl
@[simp] theorem State.clearAll_admits (f : Fld) : (s.clearAll f).admits = s.admits := rfl
@[simp] theorem State.clearAll_subWait (f : Fld) : (s.clearAll f).subWait = s.subWait := rfl
@[simp] theorem State.clearAll_groupHist (f : Fld) : (s.clearAll f).groupHist = s.groupHist := rfl
@[simp] theorem State.clearAll_gazFetch (f : Fld) : (s.clearAll f).gazFetch = s.gazFetch := rfl
@[simp] theorem State.clearAll_resetTick (f : Fld) : (s.clearAll f).resetTick = s.resetTick := rfl
@[simp] theorem State.clearAll_stepsDue (f : Fld) : (s.clearAll f).stepsDue = s.stepsDue := rfl
@[simp] theorem State.clearAll_caps (f : Fld) : (s.clearAll f).caps = s.caps := rfl
@[simp] theorem State.clearAll_gates (f : Fld) : (s.clearAll f).gates = s.gates := rfl
@[simp] theorem State.clearAll_txWork (f : Fld) : (s.clearAll f).txWork = s.txWork := rfl
@[simp] theorem State.clearAll_mergeSeen (f : Fld) : (s.clearAll f).mergeSeen = s.mergeSeen := rfl
@[simp] theorem State.clearAll_seqHoles (f : Fld) : (s.clearAll f).seqHoles = s.seqHoles := rfl
@[simp] theorem State.clearAll_holes (f : Fld) : (s.clearAll f).holes = s.holes := rfl
@[simp] theorem State.clearAll_fills (f : Fld) : (s.clearAll f).fills = s.fills := rfl
@[simp] theorem State.clearAll_refHist (f : Fld) : (s.clearAll f).refHist = s.refHist := rfl
@[simp] theorem State.clearAll_refResid (f : Fld) : (s.clearAll f).refResid = s.refResid := rfl
@[simp] theorem State.clearAll_refDaily (f : Fld) : (s.clearAll f).refDaily = s.refDaily := rfl
@[simp] theorem State.clearAll_dsp (f : Fld) : (s.clearAll f).dsp = s.dsp := rfl
@[simp] theorem State.clearAll_audArrived (f : Fld) : (s.clearAll f).audArrived = s.audArrived := rfl
@[simp] theorem State.clearAll_audFrames (f : Fld) : (s.clearAll f).audFrames = s.audFrames := rfl
@[simp] theorem State.clearAll_cic (f : Fld) : (s.clearAll f).cic = s.cic := rfl
@[simp] theorem State.clearAll_audCommit (f : Fld) : (s.clearAll f).audCommit = s.audCommit := rfl
@[simp] theorem State.clearAll_hbSent (f : Fld) : (s.clearAll f).hbSent = s.hbSent := rfl
@[simp] theorem State.clearAll_hbGot (f : Fld) : (s.clearAll f).hbGot = s.hbGot := rfl
@[simp] theorem State.clearAll_twinHalves (f : Fld) : (s.clearAll f).twinHalves = s.twinHalves := rfl
@[simp] theorem State.clearAll_tilePics (f : Fld) : (s.clearAll f).tilePics = s.tilePics := rfl
@[simp] theorem State.clearAll_shots (f : Fld) : (s.clearAll f).shots = s.shots := rfl
@[simp] theorem State.clearAll_gpiFifo (f : Fld) : (s.clearAll f).gpiFifo = s.gpiFifo := rfl
@[simp] theorem State.clearAll_out (f : Fld) : (s.clearAll f).out = s.out := rfl
@[simp] theorem State.clearAll_pending (f : Fld) : (s.clearAll f).pending = s.pending := rfl

/-! ### `putFlag` -/

@[simp] theorem State.putFlag_variant (f : Fld) (i : Nat) (b : Bool) : (s.putFlag f i b).variant = s.variant := rfl
@[simp] theorem State.putFlag_mem (f : Fld) (i : Nat) (b : Bool) : (s.putFlag f i b).mem = s.mem := rfl
@[simp] theorem State.putFlag_nvm (f : Fld) (i : Nat) (b : Bool) : (s.putFlag f i b).nvm = s.nvm := rfl
@[simp] theorem State.putFlag_nvmWork (f : Fld) (i : Nat) (b : Bool) : (s.putFlag f i b).nvmWork = s.nvmWork := rfl
@[simp] theorem State.putFlag_fuses (f : Fld) (i : Nat) (b : Bool) : (s.putFlag f i b).fuses = s.fuses := rfl
@[simp] theorem State.putFlag_inForce (f : Fld) (i : Nat) (b : Bool) : (s.putFlag f i b).inForce = s.inForce := rfl
@[simp] theorem State.putFlag_tick (f : Fld) (i : Nat) (b : Bool) : (s.putFlag f i b).tick = s.tick := rfl
@[simp] theorem State.putFlag_freeCount (f : Fld) (i : Nat) (b : Bool) : (s.putFlag f i b).freeCount = s.freeCount := rfl
@[simp] theorem State.putFlag_busResp (f : Fld) (i : Nat) (b : Bool) : (s.putFlag f i b).busResp = s.busResp := rfl
@[simp] theorem State.putFlag_confidential (f : Fld) (i : Nat) (b : Bool) : (s.putFlag f i b).confidential = s.confidential := rfl
@[simp] theorem State.putFlag_protected_ (f : Fld) (i : Nat) (b : Bool) : (s.putFlag f i b).protected_ = s.protected_ := rfl
@[simp] theorem State.putFlag_haltedStewards (f : Fld) (i : Nat) (b : Bool) : (s.putFlag f i b).haltedStewards = s.haltedStewards := rfl
@[simp] theorem State.putFlag_jtag (f : Fld) (i : Nat) (b : Bool) : (s.putFlag f i b).jtag = s.jtag := rfl
@[simp] theorem State.putFlag_nonceAt (f : Fld) (i : Nat) (b : Bool) : (s.putFlag f i b).nonceAt = s.nonceAt := rfl
@[simp] theorem State.putFlag_boot (f : Fld) (i : Nat) (b : Bool) : (s.putFlag f i b).boot = s.boot := rfl
@[simp] theorem State.putFlag_enum (f : Fld) (i : Nat) (b : Bool) : (s.putFlag f i b).enum = s.enum := rfl
@[simp] theorem State.putFlag_recovQueue (f : Fld) (i : Nat) (b : Bool) : (s.putFlag f i b).recovQueue = s.recovQueue := rfl
@[simp] theorem State.putFlag_recovActive (f : Fld) (i : Nat) (b : Bool) : (s.putFlag f i b).recovActive = s.recovActive := rfl
@[simp] theorem State.putFlag_logWaiting (f : Fld) (i : Nat) (b : Bool) : (s.putFlag f i b).logWaiting = s.logWaiting := rfl
@[simp] theorem State.putFlag_logTimes (f : Fld) (i : Nat) (b : Bool) : (s.putFlag f i b).logTimes = s.logTimes := rfl
@[simp] theorem State.putFlag_tbs (f : Fld) (i : Nat) (b : Bool) : (s.putFlag f i b).tbs = s.tbs := rfl
@[simp] theorem State.putFlag_spans (f : Fld) (i : Nat) (b : Bool) : (s.putFlag f i b).spans = s.spans := rfl
@[simp] theorem State.putFlag_commits (f : Fld) (i : Nat) (b : Bool) : (s.putFlag f i b).commits = s.commits := rfl
@[simp] theorem State.putFlag_rx (f : Fld) (i : Nat) (b : Bool) : (s.putFlag f i b).rx = s.rx := rfl
@[simp] theorem State.putFlag_tx (f : Fld) (i : Nat) (b : Bool) : (s.putFlag f i b).tx = s.tx := rfl
@[simp] theorem State.putFlag_wp (f : Fld) (i : Nat) (b : Bool) : (s.putFlag f i b).wp = s.wp := rfl
@[simp] theorem State.putFlag_admits (f : Fld) (i : Nat) (b : Bool) : (s.putFlag f i b).admits = s.admits := rfl
@[simp] theorem State.putFlag_subWait (f : Fld) (i : Nat) (b : Bool) : (s.putFlag f i b).subWait = s.subWait := rfl
@[simp] theorem State.putFlag_groupHist (f : Fld) (i : Nat) (b : Bool) : (s.putFlag f i b).groupHist = s.groupHist := rfl
@[simp] theorem State.putFlag_gazFetch (f : Fld) (i : Nat) (b : Bool) : (s.putFlag f i b).gazFetch = s.gazFetch := rfl
@[simp] theorem State.putFlag_resetTick (f : Fld) (i : Nat) (b : Bool) : (s.putFlag f i b).resetTick = s.resetTick := rfl
@[simp] theorem State.putFlag_stepsDue (f : Fld) (i : Nat) (b : Bool) : (s.putFlag f i b).stepsDue = s.stepsDue := rfl
@[simp] theorem State.putFlag_caps (f : Fld) (i : Nat) (b : Bool) : (s.putFlag f i b).caps = s.caps := rfl
@[simp] theorem State.putFlag_gates (f : Fld) (i : Nat) (b : Bool) : (s.putFlag f i b).gates = s.gates := rfl
@[simp] theorem State.putFlag_txWork (f : Fld) (i : Nat) (b : Bool) : (s.putFlag f i b).txWork = s.txWork := rfl
@[simp] theorem State.putFlag_mergeSeen (f : Fld) (i : Nat) (b : Bool) : (s.putFlag f i b).mergeSeen = s.mergeSeen := rfl
@[simp] theorem State.putFlag_seqHoles (f : Fld) (i : Nat) (b : Bool) : (s.putFlag f i b).seqHoles = s.seqHoles := rfl
@[simp] theorem State.putFlag_holes (f : Fld) (i : Nat) (b : Bool) : (s.putFlag f i b).holes = s.holes := rfl
@[simp] theorem State.putFlag_fills (f : Fld) (i : Nat) (b : Bool) : (s.putFlag f i b).fills = s.fills := rfl
@[simp] theorem State.putFlag_refHist (f : Fld) (i : Nat) (b : Bool) : (s.putFlag f i b).refHist = s.refHist := rfl
@[simp] theorem State.putFlag_refResid (f : Fld) (i : Nat) (b : Bool) : (s.putFlag f i b).refResid = s.refResid := rfl
@[simp] theorem State.putFlag_refDaily (f : Fld) (i : Nat) (b : Bool) : (s.putFlag f i b).refDaily = s.refDaily := rfl
@[simp] theorem State.putFlag_dsp (f : Fld) (i : Nat) (b : Bool) : (s.putFlag f i b).dsp = s.dsp := rfl
@[simp] theorem State.putFlag_audArrived (f : Fld) (i : Nat) (b : Bool) : (s.putFlag f i b).audArrived = s.audArrived := rfl
@[simp] theorem State.putFlag_audFrames (f : Fld) (i : Nat) (b : Bool) : (s.putFlag f i b).audFrames = s.audFrames := rfl
@[simp] theorem State.putFlag_cic (f : Fld) (i : Nat) (b : Bool) : (s.putFlag f i b).cic = s.cic := rfl
@[simp] theorem State.putFlag_audCommit (f : Fld) (i : Nat) (b : Bool) : (s.putFlag f i b).audCommit = s.audCommit := rfl
@[simp] theorem State.putFlag_hbSent (f : Fld) (i : Nat) (b : Bool) : (s.putFlag f i b).hbSent = s.hbSent := rfl
@[simp] theorem State.putFlag_hbGot (f : Fld) (i : Nat) (b : Bool) : (s.putFlag f i b).hbGot = s.hbGot := rfl
@[simp] theorem State.putFlag_twinHalves (f : Fld) (i : Nat) (b : Bool) : (s.putFlag f i b).twinHalves = s.twinHalves := rfl
@[simp] theorem State.putFlag_tilePics (f : Fld) (i : Nat) (b : Bool) : (s.putFlag f i b).tilePics = s.tilePics := rfl
@[simp] theorem State.putFlag_shots (f : Fld) (i : Nat) (b : Bool) : (s.putFlag f i b).shots = s.shots := rfl
@[simp] theorem State.putFlag_gpiFifo (f : Fld) (i : Nat) (b : Bool) : (s.putFlag f i b).gpiFifo = s.gpiFifo := rfl
@[simp] theorem State.putFlag_out (f : Fld) (i : Nat) (b : Bool) : (s.putFlag f i b).out = s.out := rfl
@[simp] theorem State.putFlag_pending (f : Fld) (i : Nat) (b : Bool) : (s.putFlag f i b).pending = s.pending := rfl

/-! ### `bump` -/

@[simp] theorem State.bump_variant (f : Fld) (i k : Nat) : (s.bump f i k).variant = s.variant := rfl
@[simp] theorem State.bump_mem (f : Fld) (i k : Nat) : (s.bump f i k).mem = s.mem := rfl
@[simp] theorem State.bump_nvm (f : Fld) (i k : Nat) : (s.bump f i k).nvm = s.nvm := rfl
@[simp] theorem State.bump_nvmWork (f : Fld) (i k : Nat) : (s.bump f i k).nvmWork = s.nvmWork := rfl
@[simp] theorem State.bump_fuses (f : Fld) (i k : Nat) : (s.bump f i k).fuses = s.fuses := rfl
@[simp] theorem State.bump_inForce (f : Fld) (i k : Nat) : (s.bump f i k).inForce = s.inForce := rfl
@[simp] theorem State.bump_tick (f : Fld) (i k : Nat) : (s.bump f i k).tick = s.tick := rfl
@[simp] theorem State.bump_freeCount (f : Fld) (i k : Nat) : (s.bump f i k).freeCount = s.freeCount := rfl
@[simp] theorem State.bump_busResp (f : Fld) (i k : Nat) : (s.bump f i k).busResp = s.busResp := rfl
@[simp] theorem State.bump_confidential (f : Fld) (i k : Nat) : (s.bump f i k).confidential = s.confidential := rfl
@[simp] theorem State.bump_protected_ (f : Fld) (i k : Nat) : (s.bump f i k).protected_ = s.protected_ := rfl
@[simp] theorem State.bump_haltedStewards (f : Fld) (i k : Nat) : (s.bump f i k).haltedStewards = s.haltedStewards := rfl
@[simp] theorem State.bump_jtag (f : Fld) (i k : Nat) : (s.bump f i k).jtag = s.jtag := rfl
@[simp] theorem State.bump_nonceAt (f : Fld) (i k : Nat) : (s.bump f i k).nonceAt = s.nonceAt := rfl
@[simp] theorem State.bump_boot (f : Fld) (i k : Nat) : (s.bump f i k).boot = s.boot := rfl
@[simp] theorem State.bump_enum (f : Fld) (i k : Nat) : (s.bump f i k).enum = s.enum := rfl
@[simp] theorem State.bump_recovQueue (f : Fld) (i k : Nat) : (s.bump f i k).recovQueue = s.recovQueue := rfl
@[simp] theorem State.bump_recovActive (f : Fld) (i k : Nat) : (s.bump f i k).recovActive = s.recovActive := rfl
@[simp] theorem State.bump_logWaiting (f : Fld) (i k : Nat) : (s.bump f i k).logWaiting = s.logWaiting := rfl
@[simp] theorem State.bump_logTimes (f : Fld) (i k : Nat) : (s.bump f i k).logTimes = s.logTimes := rfl
@[simp] theorem State.bump_tbs (f : Fld) (i k : Nat) : (s.bump f i k).tbs = s.tbs := rfl
@[simp] theorem State.bump_spans (f : Fld) (i k : Nat) : (s.bump f i k).spans = s.spans := rfl
@[simp] theorem State.bump_commits (f : Fld) (i k : Nat) : (s.bump f i k).commits = s.commits := rfl
@[simp] theorem State.bump_rx (f : Fld) (i k : Nat) : (s.bump f i k).rx = s.rx := rfl
@[simp] theorem State.bump_tx (f : Fld) (i k : Nat) : (s.bump f i k).tx = s.tx := rfl
@[simp] theorem State.bump_wp (f : Fld) (i k : Nat) : (s.bump f i k).wp = s.wp := rfl
@[simp] theorem State.bump_admits (f : Fld) (i k : Nat) : (s.bump f i k).admits = s.admits := rfl
@[simp] theorem State.bump_subWait (f : Fld) (i k : Nat) : (s.bump f i k).subWait = s.subWait := rfl
@[simp] theorem State.bump_groupHist (f : Fld) (i k : Nat) : (s.bump f i k).groupHist = s.groupHist := rfl
@[simp] theorem State.bump_gazFetch (f : Fld) (i k : Nat) : (s.bump f i k).gazFetch = s.gazFetch := rfl
@[simp] theorem State.bump_resetTick (f : Fld) (i k : Nat) : (s.bump f i k).resetTick = s.resetTick := rfl
@[simp] theorem State.bump_stepsDue (f : Fld) (i k : Nat) : (s.bump f i k).stepsDue = s.stepsDue := rfl
@[simp] theorem State.bump_caps (f : Fld) (i k : Nat) : (s.bump f i k).caps = s.caps := rfl
@[simp] theorem State.bump_gates (f : Fld) (i k : Nat) : (s.bump f i k).gates = s.gates := rfl
@[simp] theorem State.bump_txWork (f : Fld) (i k : Nat) : (s.bump f i k).txWork = s.txWork := rfl
@[simp] theorem State.bump_mergeSeen (f : Fld) (i k : Nat) : (s.bump f i k).mergeSeen = s.mergeSeen := rfl
@[simp] theorem State.bump_seqHoles (f : Fld) (i k : Nat) : (s.bump f i k).seqHoles = s.seqHoles := rfl
@[simp] theorem State.bump_holes (f : Fld) (i k : Nat) : (s.bump f i k).holes = s.holes := rfl
@[simp] theorem State.bump_fills (f : Fld) (i k : Nat) : (s.bump f i k).fills = s.fills := rfl
@[simp] theorem State.bump_refHist (f : Fld) (i k : Nat) : (s.bump f i k).refHist = s.refHist := rfl
@[simp] theorem State.bump_refResid (f : Fld) (i k : Nat) : (s.bump f i k).refResid = s.refResid := rfl
@[simp] theorem State.bump_refDaily (f : Fld) (i k : Nat) : (s.bump f i k).refDaily = s.refDaily := rfl
@[simp] theorem State.bump_dsp (f : Fld) (i k : Nat) : (s.bump f i k).dsp = s.dsp := rfl
@[simp] theorem State.bump_audArrived (f : Fld) (i k : Nat) : (s.bump f i k).audArrived = s.audArrived := rfl
@[simp] theorem State.bump_audFrames (f : Fld) (i k : Nat) : (s.bump f i k).audFrames = s.audFrames := rfl
@[simp] theorem State.bump_cic (f : Fld) (i k : Nat) : (s.bump f i k).cic = s.cic := rfl
@[simp] theorem State.bump_audCommit (f : Fld) (i k : Nat) : (s.bump f i k).audCommit = s.audCommit := rfl
@[simp] theorem State.bump_hbSent (f : Fld) (i k : Nat) : (s.bump f i k).hbSent = s.hbSent := rfl
@[simp] theorem State.bump_hbGot (f : Fld) (i k : Nat) : (s.bump f i k).hbGot = s.hbGot := rfl
@[simp] theorem State.bump_twinHalves (f : Fld) (i k : Nat) : (s.bump f i k).twinHalves = s.twinHalves := rfl
@[simp] theorem State.bump_tilePics (f : Fld) (i k : Nat) : (s.bump f i k).tilePics = s.tilePics := rfl
@[simp] theorem State.bump_shots (f : Fld) (i k : Nat) : (s.bump f i k).shots = s.shots := rfl
@[simp] theorem State.bump_gpiFifo (f : Fld) (i k : Nat) : (s.bump f i k).gpiFifo = s.gpiFifo := rfl
@[simp] theorem State.bump_out (f : Fld) (i k : Nat) : (s.bump f i k).out = s.out := rfl
@[simp] theorem State.bump_pending (f : Fld) (i k : Nat) : (s.bump f i k).pending = s.pending := rfl

/-! ### `inc` -/

@[simp] theorem State.inc_variant (f : Fld) (i : Nat) : (s.inc f i).variant = s.variant := rfl
@[simp] theorem State.inc_mem (f : Fld) (i : Nat) : (s.inc f i).mem = s.mem := rfl
@[simp] theorem State.inc_nvm (f : Fld) (i : Nat) : (s.inc f i).nvm = s.nvm := rfl
@[simp] theorem State.inc_nvmWork (f : Fld) (i : Nat) : (s.inc f i).nvmWork = s.nvmWork := rfl
@[simp] theorem State.inc_fuses (f : Fld) (i : Nat) : (s.inc f i).fuses = s.fuses := rfl
@[simp] theorem State.inc_inForce (f : Fld) (i : Nat) : (s.inc f i).inForce = s.inForce := rfl
@[simp] theorem State.inc_tick (f : Fld) (i : Nat) : (s.inc f i).tick = s.tick := rfl
@[simp] theorem State.inc_freeCount (f : Fld) (i : Nat) : (s.inc f i).freeCount = s.freeCount := rfl
@[simp] theorem State.inc_busResp (f : Fld) (i : Nat) : (s.inc f i).busResp = s.busResp := rfl
@[simp] theorem State.inc_confidential (f : Fld) (i : Nat) : (s.inc f i).confidential = s.confidential := rfl
@[simp] theorem State.inc_protected_ (f : Fld) (i : Nat) : (s.inc f i).protected_ = s.protected_ := rfl
@[simp] theorem State.inc_haltedStewards (f : Fld) (i : Nat) : (s.inc f i).haltedStewards = s.haltedStewards := rfl
@[simp] theorem State.inc_jtag (f : Fld) (i : Nat) : (s.inc f i).jtag = s.jtag := rfl
@[simp] theorem State.inc_nonceAt (f : Fld) (i : Nat) : (s.inc f i).nonceAt = s.nonceAt := rfl
@[simp] theorem State.inc_boot (f : Fld) (i : Nat) : (s.inc f i).boot = s.boot := rfl
@[simp] theorem State.inc_enum (f : Fld) (i : Nat) : (s.inc f i).enum = s.enum := rfl
@[simp] theorem State.inc_recovQueue (f : Fld) (i : Nat) : (s.inc f i).recovQueue = s.recovQueue := rfl
@[simp] theorem State.inc_recovActive (f : Fld) (i : Nat) : (s.inc f i).recovActive = s.recovActive := rfl
@[simp] theorem State.inc_logWaiting (f : Fld) (i : Nat) : (s.inc f i).logWaiting = s.logWaiting := rfl
@[simp] theorem State.inc_logTimes (f : Fld) (i : Nat) : (s.inc f i).logTimes = s.logTimes := rfl
@[simp] theorem State.inc_tbs (f : Fld) (i : Nat) : (s.inc f i).tbs = s.tbs := rfl
@[simp] theorem State.inc_spans (f : Fld) (i : Nat) : (s.inc f i).spans = s.spans := rfl
@[simp] theorem State.inc_commits (f : Fld) (i : Nat) : (s.inc f i).commits = s.commits := rfl
@[simp] theorem State.inc_rx (f : Fld) (i : Nat) : (s.inc f i).rx = s.rx := rfl
@[simp] theorem State.inc_tx (f : Fld) (i : Nat) : (s.inc f i).tx = s.tx := rfl
@[simp] theorem State.inc_wp (f : Fld) (i : Nat) : (s.inc f i).wp = s.wp := rfl
@[simp] theorem State.inc_admits (f : Fld) (i : Nat) : (s.inc f i).admits = s.admits := rfl
@[simp] theorem State.inc_subWait (f : Fld) (i : Nat) : (s.inc f i).subWait = s.subWait := rfl
@[simp] theorem State.inc_groupHist (f : Fld) (i : Nat) : (s.inc f i).groupHist = s.groupHist := rfl
@[simp] theorem State.inc_gazFetch (f : Fld) (i : Nat) : (s.inc f i).gazFetch = s.gazFetch := rfl
@[simp] theorem State.inc_resetTick (f : Fld) (i : Nat) : (s.inc f i).resetTick = s.resetTick := rfl
@[simp] theorem State.inc_stepsDue (f : Fld) (i : Nat) : (s.inc f i).stepsDue = s.stepsDue := rfl
@[simp] theorem State.inc_caps (f : Fld) (i : Nat) : (s.inc f i).caps = s.caps := rfl
@[simp] theorem State.inc_gates (f : Fld) (i : Nat) : (s.inc f i).gates = s.gates := rfl
@[simp] theorem State.inc_txWork (f : Fld) (i : Nat) : (s.inc f i).txWork = s.txWork := rfl
@[simp] theorem State.inc_mergeSeen (f : Fld) (i : Nat) : (s.inc f i).mergeSeen = s.mergeSeen := rfl
@[simp] theorem State.inc_seqHoles (f : Fld) (i : Nat) : (s.inc f i).seqHoles = s.seqHoles := rfl
@[simp] theorem State.inc_holes (f : Fld) (i : Nat) : (s.inc f i).holes = s.holes := rfl
@[simp] theorem State.inc_fills (f : Fld) (i : Nat) : (s.inc f i).fills = s.fills := rfl
@[simp] theorem State.inc_refHist (f : Fld) (i : Nat) : (s.inc f i).refHist = s.refHist := rfl
@[simp] theorem State.inc_refResid (f : Fld) (i : Nat) : (s.inc f i).refResid = s.refResid := rfl
@[simp] theorem State.inc_refDaily (f : Fld) (i : Nat) : (s.inc f i).refDaily = s.refDaily := rfl
@[simp] theorem State.inc_dsp (f : Fld) (i : Nat) : (s.inc f i).dsp = s.dsp := rfl
@[simp] theorem State.inc_audArrived (f : Fld) (i : Nat) : (s.inc f i).audArrived = s.audArrived := rfl
@[simp] theorem State.inc_audFrames (f : Fld) (i : Nat) : (s.inc f i).audFrames = s.audFrames := rfl
@[simp] theorem State.inc_cic (f : Fld) (i : Nat) : (s.inc f i).cic = s.cic := rfl
@[simp] theorem State.inc_audCommit (f : Fld) (i : Nat) : (s.inc f i).audCommit = s.audCommit := rfl
@[simp] theorem State.inc_hbSent (f : Fld) (i : Nat) : (s.inc f i).hbSent = s.hbSent := rfl
@[simp] theorem State.inc_hbGot (f : Fld) (i : Nat) : (s.inc f i).hbGot = s.hbGot := rfl
@[simp] theorem State.inc_twinHalves (f : Fld) (i : Nat) : (s.inc f i).twinHalves = s.twinHalves := rfl
@[simp] theorem State.inc_tilePics (f : Fld) (i : Nat) : (s.inc f i).tilePics = s.tilePics := rfl
@[simp] theorem State.inc_shots (f : Fld) (i : Nat) : (s.inc f i).shots = s.shots := rfl
@[simp] theorem State.inc_gpiFifo (f : Fld) (i : Nat) : (s.inc f i).gpiFifo = s.gpiFifo := rfl
@[simp] theorem State.inc_out (f : Fld) (i : Nat) : (s.inc f i).out = s.out := rfl
@[simp] theorem State.inc_pending (f : Fld) (i : Nat) : (s.inc f i).pending = s.pending := rfl

/-! ### `emit` -/

@[simp] theorem State.emit_variant (o : Out) : (s.emit o).variant = s.variant := rfl
@[simp] theorem State.emit_regs (o : Out) : (s.emit o).regs = s.regs := rfl
@[simp] theorem State.emit_mem (o : Out) : (s.emit o).mem = s.mem := rfl
@[simp] theorem State.emit_nvm (o : Out) : (s.emit o).nvm = s.nvm := rfl
@[simp] theorem State.emit_nvmWork (o : Out) : (s.emit o).nvmWork = s.nvmWork := rfl
@[simp] theorem State.emit_fuses (o : Out) : (s.emit o).fuses = s.fuses := rfl
@[simp] theorem State.emit_inForce (o : Out) : (s.emit o).inForce = s.inForce := rfl
@[simp] theorem State.emit_tick (o : Out) : (s.emit o).tick = s.tick := rfl
@[simp] theorem State.emit_freeCount (o : Out) : (s.emit o).freeCount = s.freeCount := rfl
@[simp] theorem State.emit_busResp (o : Out) : (s.emit o).busResp = s.busResp := rfl
@[simp] theorem State.emit_confidential (o : Out) : (s.emit o).confidential = s.confidential := rfl
@[simp] theorem State.emit_protected_ (o : Out) : (s.emit o).protected_ = s.protected_ := rfl
@[simp] theorem State.emit_haltedStewards (o : Out) : (s.emit o).haltedStewards = s.haltedStewards := rfl
@[simp] theorem State.emit_jtag (o : Out) : (s.emit o).jtag = s.jtag := rfl
@[simp] theorem State.emit_nonceAt (o : Out) : (s.emit o).nonceAt = s.nonceAt := rfl
@[simp] theorem State.emit_boot (o : Out) : (s.emit o).boot = s.boot := rfl
@[simp] theorem State.emit_enum (o : Out) : (s.emit o).enum = s.enum := rfl
@[simp] theorem State.emit_recovQueue (o : Out) : (s.emit o).recovQueue = s.recovQueue := rfl
@[simp] theorem State.emit_recovActive (o : Out) : (s.emit o).recovActive = s.recovActive := rfl
@[simp] theorem State.emit_logWaiting (o : Out) : (s.emit o).logWaiting = s.logWaiting := rfl
@[simp] theorem State.emit_logTimes (o : Out) : (s.emit o).logTimes = s.logTimes := rfl
@[simp] theorem State.emit_tbs (o : Out) : (s.emit o).tbs = s.tbs := rfl
@[simp] theorem State.emit_spans (o : Out) : (s.emit o).spans = s.spans := rfl
@[simp] theorem State.emit_commits (o : Out) : (s.emit o).commits = s.commits := rfl
@[simp] theorem State.emit_rx (o : Out) : (s.emit o).rx = s.rx := rfl
@[simp] theorem State.emit_tx (o : Out) : (s.emit o).tx = s.tx := rfl
@[simp] theorem State.emit_wp (o : Out) : (s.emit o).wp = s.wp := rfl
@[simp] theorem State.emit_admits (o : Out) : (s.emit o).admits = s.admits := rfl
@[simp] theorem State.emit_subWait (o : Out) : (s.emit o).subWait = s.subWait := rfl
@[simp] theorem State.emit_groupHist (o : Out) : (s.emit o).groupHist = s.groupHist := rfl
@[simp] theorem State.emit_gazFetch (o : Out) : (s.emit o).gazFetch = s.gazFetch := rfl
@[simp] theorem State.emit_resetTick (o : Out) : (s.emit o).resetTick = s.resetTick := rfl
@[simp] theorem State.emit_stepsDue (o : Out) : (s.emit o).stepsDue = s.stepsDue := rfl
@[simp] theorem State.emit_caps (o : Out) : (s.emit o).caps = s.caps := rfl
@[simp] theorem State.emit_gates (o : Out) : (s.emit o).gates = s.gates := rfl
@[simp] theorem State.emit_txWork (o : Out) : (s.emit o).txWork = s.txWork := rfl
@[simp] theorem State.emit_mergeSeen (o : Out) : (s.emit o).mergeSeen = s.mergeSeen := rfl
@[simp] theorem State.emit_seqHoles (o : Out) : (s.emit o).seqHoles = s.seqHoles := rfl
@[simp] theorem State.emit_holes (o : Out) : (s.emit o).holes = s.holes := rfl
@[simp] theorem State.emit_fills (o : Out) : (s.emit o).fills = s.fills := rfl
@[simp] theorem State.emit_refHist (o : Out) : (s.emit o).refHist = s.refHist := rfl
@[simp] theorem State.emit_refResid (o : Out) : (s.emit o).refResid = s.refResid := rfl
@[simp] theorem State.emit_refDaily (o : Out) : (s.emit o).refDaily = s.refDaily := rfl
@[simp] theorem State.emit_dsp (o : Out) : (s.emit o).dsp = s.dsp := rfl
@[simp] theorem State.emit_audArrived (o : Out) : (s.emit o).audArrived = s.audArrived := rfl
@[simp] theorem State.emit_audFrames (o : Out) : (s.emit o).audFrames = s.audFrames := rfl
@[simp] theorem State.emit_cic (o : Out) : (s.emit o).cic = s.cic := rfl
@[simp] theorem State.emit_audCommit (o : Out) : (s.emit o).audCommit = s.audCommit := rfl
@[simp] theorem State.emit_hbSent (o : Out) : (s.emit o).hbSent = s.hbSent := rfl
@[simp] theorem State.emit_hbGot (o : Out) : (s.emit o).hbGot = s.hbGot := rfl
@[simp] theorem State.emit_twinHalves (o : Out) : (s.emit o).twinHalves = s.twinHalves := rfl
@[simp] theorem State.emit_tilePics (o : Out) : (s.emit o).tilePics = s.tilePics := rfl
@[simp] theorem State.emit_shots (o : Out) : (s.emit o).shots = s.shots := rfl
@[simp] theorem State.emit_gpiFifo (o : Out) : (s.emit o).gpiFifo = s.gpiFifo := rfl
@[simp] theorem State.emit_pending (o : Out) : (s.emit o).pending = s.pending := rfl

/-! ### `respond` -/

@[simp] theorem State.respond_variant (d : Nat) (e : Bool) : (s.respond d e).variant = s.variant := rfl
@[simp] theorem State.respond_regs (d : Nat) (e : Bool) : (s.respond d e).regs = s.regs := rfl
@[simp] theorem State.respond_mem (d : Nat) (e : Bool) : (s.respond d e).mem = s.mem := rfl
@[simp] theorem State.respond_nvm (d : Nat) (e : Bool) : (s.respond d e).nvm = s.nvm := rfl
@[simp] theorem State.respond_nvmWork (d : Nat) (e : Bool) : (s.respond d e).nvmWork = s.nvmWork := rfl
@[simp] theorem State.respond_fuses (d : Nat) (e : Bool) : (s.respond d e).fuses = s.fuses := rfl
@[simp] theorem State.respond_inForce (d : Nat) (e : Bool) : (s.respond d e).inForce = s.inForce := rfl
@[simp] theorem State.respond_tick (d : Nat) (e : Bool) : (s.respond d e).tick = s.tick := rfl
@[simp] theorem State.respond_freeCount (d : Nat) (e : Bool) : (s.respond d e).freeCount = s.freeCount := rfl
@[simp] theorem State.respond_confidential (d : Nat) (e : Bool) : (s.respond d e).confidential = s.confidential := rfl
@[simp] theorem State.respond_protected_ (d : Nat) (e : Bool) : (s.respond d e).protected_ = s.protected_ := rfl
@[simp] theorem State.respond_haltedStewards (d : Nat) (e : Bool) : (s.respond d e).haltedStewards = s.haltedStewards := rfl
@[simp] theorem State.respond_jtag (d : Nat) (e : Bool) : (s.respond d e).jtag = s.jtag := rfl
@[simp] theorem State.respond_nonceAt (d : Nat) (e : Bool) : (s.respond d e).nonceAt = s.nonceAt := rfl
@[simp] theorem State.respond_boot (d : Nat) (e : Bool) : (s.respond d e).boot = s.boot := rfl
@[simp] theorem State.respond_enum (d : Nat) (e : Bool) : (s.respond d e).enum = s.enum := rfl
@[simp] theorem State.respond_recovQueue (d : Nat) (e : Bool) : (s.respond d e).recovQueue = s.recovQueue := rfl
@[simp] theorem State.respond_recovActive (d : Nat) (e : Bool) : (s.respond d e).recovActive = s.recovActive := rfl
@[simp] theorem State.respond_logWaiting (d : Nat) (e : Bool) : (s.respond d e).logWaiting = s.logWaiting := rfl
@[simp] theorem State.respond_logTimes (d : Nat) (e : Bool) : (s.respond d e).logTimes = s.logTimes := rfl
@[simp] theorem State.respond_tbs (d : Nat) (e : Bool) : (s.respond d e).tbs = s.tbs := rfl
@[simp] theorem State.respond_spans (d : Nat) (e : Bool) : (s.respond d e).spans = s.spans := rfl
@[simp] theorem State.respond_commits (d : Nat) (e : Bool) : (s.respond d e).commits = s.commits := rfl
@[simp] theorem State.respond_rx (d : Nat) (e : Bool) : (s.respond d e).rx = s.rx := rfl
@[simp] theorem State.respond_tx (d : Nat) (e : Bool) : (s.respond d e).tx = s.tx := rfl
@[simp] theorem State.respond_wp (d : Nat) (e : Bool) : (s.respond d e).wp = s.wp := rfl
@[simp] theorem State.respond_admits (d : Nat) (e : Bool) : (s.respond d e).admits = s.admits := rfl
@[simp] theorem State.respond_subWait (d : Nat) (e : Bool) : (s.respond d e).subWait = s.subWait := rfl
@[simp] theorem State.respond_groupHist (d : Nat) (e : Bool) : (s.respond d e).groupHist = s.groupHist := rfl
@[simp] theorem State.respond_gazFetch (d : Nat) (e : Bool) : (s.respond d e).gazFetch = s.gazFetch := rfl
@[simp] theorem State.respond_resetTick (d : Nat) (e : Bool) : (s.respond d e).resetTick = s.resetTick := rfl
@[simp] theorem State.respond_stepsDue (d : Nat) (e : Bool) : (s.respond d e).stepsDue = s.stepsDue := rfl
@[simp] theorem State.respond_caps (d : Nat) (e : Bool) : (s.respond d e).caps = s.caps := rfl
@[simp] theorem State.respond_gates (d : Nat) (e : Bool) : (s.respond d e).gates = s.gates := rfl
@[simp] theorem State.respond_txWork (d : Nat) (e : Bool) : (s.respond d e).txWork = s.txWork := rfl
@[simp] theorem State.respond_mergeSeen (d : Nat) (e : Bool) : (s.respond d e).mergeSeen = s.mergeSeen := rfl
@[simp] theorem State.respond_seqHoles (d : Nat) (e : Bool) : (s.respond d e).seqHoles = s.seqHoles := rfl
@[simp] theorem State.respond_holes (d : Nat) (e : Bool) : (s.respond d e).holes = s.holes := rfl
@[simp] theorem State.respond_fills (d : Nat) (e : Bool) : (s.respond d e).fills = s.fills := rfl
@[simp] theorem State.respond_refHist (d : Nat) (e : Bool) : (s.respond d e).refHist = s.refHist := rfl
@[simp] theorem State.respond_refResid (d : Nat) (e : Bool) : (s.respond d e).refResid = s.refResid := rfl
@[simp] theorem State.respond_refDaily (d : Nat) (e : Bool) : (s.respond d e).refDaily = s.refDaily := rfl
@[simp] theorem State.respond_dsp (d : Nat) (e : Bool) : (s.respond d e).dsp = s.dsp := rfl
@[simp] theorem State.respond_audArrived (d : Nat) (e : Bool) : (s.respond d e).audArrived = s.audArrived := rfl
@[simp] theorem State.respond_audFrames (d : Nat) (e : Bool) : (s.respond d e).audFrames = s.audFrames := rfl
@[simp] theorem State.respond_cic (d : Nat) (e : Bool) : (s.respond d e).cic = s.cic := rfl
@[simp] theorem State.respond_audCommit (d : Nat) (e : Bool) : (s.respond d e).audCommit = s.audCommit := rfl
@[simp] theorem State.respond_hbSent (d : Nat) (e : Bool) : (s.respond d e).hbSent = s.hbSent := rfl
@[simp] theorem State.respond_hbGot (d : Nat) (e : Bool) : (s.respond d e).hbGot = s.hbGot := rfl
@[simp] theorem State.respond_twinHalves (d : Nat) (e : Bool) : (s.respond d e).twinHalves = s.twinHalves := rfl
@[simp] theorem State.respond_tilePics (d : Nat) (e : Bool) : (s.respond d e).tilePics = s.tilePics := rfl
@[simp] theorem State.respond_shots (d : Nat) (e : Bool) : (s.respond d e).shots = s.shots := rfl
@[simp] theorem State.respond_gpiFifo (d : Nat) (e : Bool) : (s.respond d e).gpiFifo = s.gpiFifo := rfl
@[simp] theorem State.respond_out (d : Nat) (e : Bool) : (s.respond d e).out = s.out := rfl
@[simp] theorem State.respond_pending (d : Nat) (e : Bool) : (s.respond d e).pending = s.pending := rfl

/-! ### `memPut` -/

@[simp] theorem State.memPut_variant (a n v : Nat) : (s.memPut a n v).variant = s.variant := rfl
@[simp] theorem State.memPut_regs (a n v : Nat) : (s.memPut a n v).regs = s.regs := rfl
@[simp] theorem State.memPut_nvm (a n v : Nat) : (s.memPut a n v).nvm = s.nvm := rfl
@[simp] theorem State.memPut_nvmWork (a n v : Nat) : (s.memPut a n v).nvmWork = s.nvmWork := rfl
@[simp] theorem State.memPut_fuses (a n v : Nat) : (s.memPut a n v).fuses = s.fuses := rfl
@[simp] theorem State.memPut_inForce (a n v : Nat) : (s.memPut a n v).inForce = s.inForce := rfl
@[simp] theorem State.memPut_tick (a n v : Nat) : (s.memPut a n v).tick = s.tick := rfl
@[simp] theorem State.memPut_freeCount (a n v : Nat) : (s.memPut a n v).freeCount = s.freeCount := rfl
@[simp] theorem State.memPut_busResp (a n v : Nat) : (s.memPut a n v).busResp = s.busResp := rfl
@[simp] theorem State.memPut_confidential (a n v : Nat) : (s.memPut a n v).confidential = s.confidential := rfl
@[simp] theorem State.memPut_protected_ (a n v : Nat) : (s.memPut a n v).protected_ = s.protected_ := rfl
@[simp] theorem State.memPut_haltedStewards (a n v : Nat) : (s.memPut a n v).haltedStewards = s.haltedStewards := rfl
@[simp] theorem State.memPut_jtag (a n v : Nat) : (s.memPut a n v).jtag = s.jtag := rfl
@[simp] theorem State.memPut_nonceAt (a n v : Nat) : (s.memPut a n v).nonceAt = s.nonceAt := rfl
@[simp] theorem State.memPut_boot (a n v : Nat) : (s.memPut a n v).boot = s.boot := rfl
@[simp] theorem State.memPut_enum (a n v : Nat) : (s.memPut a n v).enum = s.enum := rfl
@[simp] theorem State.memPut_recovQueue (a n v : Nat) : (s.memPut a n v).recovQueue = s.recovQueue := rfl
@[simp] theorem State.memPut_recovActive (a n v : Nat) : (s.memPut a n v).recovActive = s.recovActive := rfl
@[simp] theorem State.memPut_logWaiting (a n v : Nat) : (s.memPut a n v).logWaiting = s.logWaiting := rfl
@[simp] theorem State.memPut_logTimes (a n v : Nat) : (s.memPut a n v).logTimes = s.logTimes := rfl
@[simp] theorem State.memPut_tbs (a n v : Nat) : (s.memPut a n v).tbs = s.tbs := rfl
@[simp] theorem State.memPut_spans (a n v : Nat) : (s.memPut a n v).spans = s.spans := rfl
@[simp] theorem State.memPut_commits (a n v : Nat) : (s.memPut a n v).commits = s.commits := rfl
@[simp] theorem State.memPut_rx (a n v : Nat) : (s.memPut a n v).rx = s.rx := rfl
@[simp] theorem State.memPut_tx (a n v : Nat) : (s.memPut a n v).tx = s.tx := rfl
@[simp] theorem State.memPut_wp (a n v : Nat) : (s.memPut a n v).wp = s.wp := rfl
@[simp] theorem State.memPut_admits (a n v : Nat) : (s.memPut a n v).admits = s.admits := rfl
@[simp] theorem State.memPut_subWait (a n v : Nat) : (s.memPut a n v).subWait = s.subWait := rfl
@[simp] theorem State.memPut_groupHist (a n v : Nat) : (s.memPut a n v).groupHist = s.groupHist := rfl
@[simp] theorem State.memPut_gazFetch (a n v : Nat) : (s.memPut a n v).gazFetch = s.gazFetch := rfl
@[simp] theorem State.memPut_resetTick (a n v : Nat) : (s.memPut a n v).resetTick = s.resetTick := rfl
@[simp] theorem State.memPut_stepsDue (a n v : Nat) : (s.memPut a n v).stepsDue = s.stepsDue := rfl
@[simp] theorem State.memPut_caps (a n v : Nat) : (s.memPut a n v).caps = s.caps := rfl
@[simp] theorem State.memPut_gates (a n v : Nat) : (s.memPut a n v).gates = s.gates := rfl
@[simp] theorem State.memPut_txWork (a n v : Nat) : (s.memPut a n v).txWork = s.txWork := rfl
@[simp] theorem State.memPut_mergeSeen (a n v : Nat) : (s.memPut a n v).mergeSeen = s.mergeSeen := rfl
@[simp] theorem State.memPut_seqHoles (a n v : Nat) : (s.memPut a n v).seqHoles = s.seqHoles := rfl
@[simp] theorem State.memPut_holes (a n v : Nat) : (s.memPut a n v).holes = s.holes := rfl
@[simp] theorem State.memPut_fills (a n v : Nat) : (s.memPut a n v).fills = s.fills := rfl
@[simp] theorem State.memPut_refHist (a n v : Nat) : (s.memPut a n v).refHist = s.refHist := rfl
@[simp] theorem State.memPut_refResid (a n v : Nat) : (s.memPut a n v).refResid = s.refResid := rfl
@[simp] theorem State.memPut_refDaily (a n v : Nat) : (s.memPut a n v).refDaily = s.refDaily := rfl
@[simp] theorem State.memPut_dsp (a n v : Nat) : (s.memPut a n v).dsp = s.dsp := rfl
@[simp] theorem State.memPut_audArrived (a n v : Nat) : (s.memPut a n v).audArrived = s.audArrived := rfl
@[simp] theorem State.memPut_audFrames (a n v : Nat) : (s.memPut a n v).audFrames = s.audFrames := rfl
@[simp] theorem State.memPut_cic (a n v : Nat) : (s.memPut a n v).cic = s.cic := rfl
@[simp] theorem State.memPut_audCommit (a n v : Nat) : (s.memPut a n v).audCommit = s.audCommit := rfl
@[simp] theorem State.memPut_hbSent (a n v : Nat) : (s.memPut a n v).hbSent = s.hbSent := rfl
@[simp] theorem State.memPut_hbGot (a n v : Nat) : (s.memPut a n v).hbGot = s.hbGot := rfl
@[simp] theorem State.memPut_twinHalves (a n v : Nat) : (s.memPut a n v).twinHalves = s.twinHalves := rfl
@[simp] theorem State.memPut_tilePics (a n v : Nat) : (s.memPut a n v).tilePics = s.tilePics := rfl
@[simp] theorem State.memPut_shots (a n v : Nat) : (s.memPut a n v).shots = s.shots := rfl
@[simp] theorem State.memPut_gpiFifo (a n v : Nat) : (s.memPut a n v).gpiFifo = s.gpiFifo := rfl
@[simp] theorem State.memPut_out (a n v : Nat) : (s.memPut a n v).out = s.out := rfl
@[simp] theorem State.memPut_pending (a n v : Nat) : (s.memPut a n v).pending = s.pending := rfl

/-! ### `memPutBytes` -/

@[simp] theorem State.memPutBytes_variant (a : Nat) (bs : List Byte) : (s.memPutBytes a bs).variant = s.variant := rfl
@[simp] theorem State.memPutBytes_regs (a : Nat) (bs : List Byte) : (s.memPutBytes a bs).regs = s.regs := rfl
@[simp] theorem State.memPutBytes_nvm (a : Nat) (bs : List Byte) : (s.memPutBytes a bs).nvm = s.nvm := rfl
@[simp] theorem State.memPutBytes_nvmWork (a : Nat) (bs : List Byte) : (s.memPutBytes a bs).nvmWork = s.nvmWork := rfl
@[simp] theorem State.memPutBytes_fuses (a : Nat) (bs : List Byte) : (s.memPutBytes a bs).fuses = s.fuses := rfl
@[simp] theorem State.memPutBytes_inForce (a : Nat) (bs : List Byte) : (s.memPutBytes a bs).inForce = s.inForce := rfl
@[simp] theorem State.memPutBytes_tick (a : Nat) (bs : List Byte) : (s.memPutBytes a bs).tick = s.tick := rfl
@[simp] theorem State.memPutBytes_freeCount (a : Nat) (bs : List Byte) : (s.memPutBytes a bs).freeCount = s.freeCount := rfl
@[simp] theorem State.memPutBytes_busResp (a : Nat) (bs : List Byte) : (s.memPutBytes a bs).busResp = s.busResp := rfl
@[simp] theorem State.memPutBytes_confidential (a : Nat) (bs : List Byte) : (s.memPutBytes a bs).confidential = s.confidential := rfl
@[simp] theorem State.memPutBytes_protected_ (a : Nat) (bs : List Byte) : (s.memPutBytes a bs).protected_ = s.protected_ := rfl
@[simp] theorem State.memPutBytes_haltedStewards (a : Nat) (bs : List Byte) : (s.memPutBytes a bs).haltedStewards = s.haltedStewards := rfl
@[simp] theorem State.memPutBytes_jtag (a : Nat) (bs : List Byte) : (s.memPutBytes a bs).jtag = s.jtag := rfl
@[simp] theorem State.memPutBytes_nonceAt (a : Nat) (bs : List Byte) : (s.memPutBytes a bs).nonceAt = s.nonceAt := rfl
@[simp] theorem State.memPutBytes_boot (a : Nat) (bs : List Byte) : (s.memPutBytes a bs).boot = s.boot := rfl
@[simp] theorem State.memPutBytes_enum (a : Nat) (bs : List Byte) : (s.memPutBytes a bs).enum = s.enum := rfl
@[simp] theorem State.memPutBytes_recovQueue (a : Nat) (bs : List Byte) : (s.memPutBytes a bs).recovQueue = s.recovQueue := rfl
@[simp] theorem State.memPutBytes_recovActive (a : Nat) (bs : List Byte) : (s.memPutBytes a bs).recovActive = s.recovActive := rfl
@[simp] theorem State.memPutBytes_logWaiting (a : Nat) (bs : List Byte) : (s.memPutBytes a bs).logWaiting = s.logWaiting := rfl
@[simp] theorem State.memPutBytes_logTimes (a : Nat) (bs : List Byte) : (s.memPutBytes a bs).logTimes = s.logTimes := rfl
@[simp] theorem State.memPutBytes_tbs (a : Nat) (bs : List Byte) : (s.memPutBytes a bs).tbs = s.tbs := rfl
@[simp] theorem State.memPutBytes_spans (a : Nat) (bs : List Byte) : (s.memPutBytes a bs).spans = s.spans := rfl
@[simp] theorem State.memPutBytes_commits (a : Nat) (bs : List Byte) : (s.memPutBytes a bs).commits = s.commits := rfl
@[simp] theorem State.memPutBytes_rx (a : Nat) (bs : List Byte) : (s.memPutBytes a bs).rx = s.rx := rfl
@[simp] theorem State.memPutBytes_tx (a : Nat) (bs : List Byte) : (s.memPutBytes a bs).tx = s.tx := rfl
@[simp] theorem State.memPutBytes_wp (a : Nat) (bs : List Byte) : (s.memPutBytes a bs).wp = s.wp := rfl
@[simp] theorem State.memPutBytes_admits (a : Nat) (bs : List Byte) : (s.memPutBytes a bs).admits = s.admits := rfl
@[simp] theorem State.memPutBytes_subWait (a : Nat) (bs : List Byte) : (s.memPutBytes a bs).subWait = s.subWait := rfl
@[simp] theorem State.memPutBytes_groupHist (a : Nat) (bs : List Byte) : (s.memPutBytes a bs).groupHist = s.groupHist := rfl
@[simp] theorem State.memPutBytes_gazFetch (a : Nat) (bs : List Byte) : (s.memPutBytes a bs).gazFetch = s.gazFetch := rfl
@[simp] theorem State.memPutBytes_resetTick (a : Nat) (bs : List Byte) : (s.memPutBytes a bs).resetTick = s.resetTick := rfl
@[simp] theorem State.memPutBytes_stepsDue (a : Nat) (bs : List Byte) : (s.memPutBytes a bs).stepsDue = s.stepsDue := rfl
@[simp] theorem State.memPutBytes_caps (a : Nat) (bs : List Byte) : (s.memPutBytes a bs).caps = s.caps := rfl
@[simp] theorem State.memPutBytes_gates (a : Nat) (bs : List Byte) : (s.memPutBytes a bs).gates = s.gates := rfl
@[simp] theorem State.memPutBytes_txWork (a : Nat) (bs : List Byte) : (s.memPutBytes a bs).txWork = s.txWork := rfl
@[simp] theorem State.memPutBytes_mergeSeen (a : Nat) (bs : List Byte) : (s.memPutBytes a bs).mergeSeen = s.mergeSeen := rfl
@[simp] theorem State.memPutBytes_seqHoles (a : Nat) (bs : List Byte) : (s.memPutBytes a bs).seqHoles = s.seqHoles := rfl
@[simp] theorem State.memPutBytes_holes (a : Nat) (bs : List Byte) : (s.memPutBytes a bs).holes = s.holes := rfl
@[simp] theorem State.memPutBytes_fills (a : Nat) (bs : List Byte) : (s.memPutBytes a bs).fills = s.fills := rfl
@[simp] theorem State.memPutBytes_refHist (a : Nat) (bs : List Byte) : (s.memPutBytes a bs).refHist = s.refHist := rfl
@[simp] theorem State.memPutBytes_refResid (a : Nat) (bs : List Byte) : (s.memPutBytes a bs).refResid = s.refResid := rfl
@[simp] theorem State.memPutBytes_refDaily (a : Nat) (bs : List Byte) : (s.memPutBytes a bs).refDaily = s.refDaily := rfl
@[simp] theorem State.memPutBytes_dsp (a : Nat) (bs : List Byte) : (s.memPutBytes a bs).dsp = s.dsp := rfl
@[simp] theorem State.memPutBytes_audArrived (a : Nat) (bs : List Byte) : (s.memPutBytes a bs).audArrived = s.audArrived := rfl
@[simp] theorem State.memPutBytes_audFrames (a : Nat) (bs : List Byte) : (s.memPutBytes a bs).audFrames = s.audFrames := rfl
@[simp] theorem State.memPutBytes_cic (a : Nat) (bs : List Byte) : (s.memPutBytes a bs).cic = s.cic := rfl
@[simp] theorem State.memPutBytes_audCommit (a : Nat) (bs : List Byte) : (s.memPutBytes a bs).audCommit = s.audCommit := rfl
@[simp] theorem State.memPutBytes_hbSent (a : Nat) (bs : List Byte) : (s.memPutBytes a bs).hbSent = s.hbSent := rfl
@[simp] theorem State.memPutBytes_hbGot (a : Nat) (bs : List Byte) : (s.memPutBytes a bs).hbGot = s.hbGot := rfl
@[simp] theorem State.memPutBytes_twinHalves (a : Nat) (bs : List Byte) : (s.memPutBytes a bs).twinHalves = s.twinHalves := rfl
@[simp] theorem State.memPutBytes_tilePics (a : Nat) (bs : List Byte) : (s.memPutBytes a bs).tilePics = s.tilePics := rfl
@[simp] theorem State.memPutBytes_shots (a : Nat) (bs : List Byte) : (s.memPutBytes a bs).shots = s.shots := rfl
@[simp] theorem State.memPutBytes_gpiFifo (a : Nat) (bs : List Byte) : (s.memPutBytes a bs).gpiFifo = s.gpiFifo := rfl
@[simp] theorem State.memPutBytes_out (a : Nat) (bs : List Byte) : (s.memPutBytes a bs).out = s.out := rfl
@[simp] theorem State.memPutBytes_pending (a : Nat) (bs : List Byte) : (s.memPutBytes a bs).pending = s.pending := rfl

/-! ### `putCore` -/

@[simp] theorem State.putCore_variant (n : Nat) (c : DspCore) : (putCore n c s).variant = s.variant := rfl
@[simp] theorem State.putCore_regs (n : Nat) (c : DspCore) : (putCore n c s).regs = s.regs := rfl
@[simp] theorem State.putCore_mem (n : Nat) (c : DspCore) : (putCore n c s).mem = s.mem := rfl
@[simp] theorem State.putCore_nvm (n : Nat) (c : DspCore) : (putCore n c s).nvm = s.nvm := rfl
@[simp] theorem State.putCore_nvmWork (n : Nat) (c : DspCore) : (putCore n c s).nvmWork = s.nvmWork := rfl
@[simp] theorem State.putCore_fuses (n : Nat) (c : DspCore) : (putCore n c s).fuses = s.fuses := rfl
@[simp] theorem State.putCore_inForce (n : Nat) (c : DspCore) : (putCore n c s).inForce = s.inForce := rfl
@[simp] theorem State.putCore_tick (n : Nat) (c : DspCore) : (putCore n c s).tick = s.tick := rfl
@[simp] theorem State.putCore_freeCount (n : Nat) (c : DspCore) : (putCore n c s).freeCount = s.freeCount := rfl
@[simp] theorem State.putCore_busResp (n : Nat) (c : DspCore) : (putCore n c s).busResp = s.busResp := rfl
@[simp] theorem State.putCore_confidential (n : Nat) (c : DspCore) : (putCore n c s).confidential = s.confidential := rfl
@[simp] theorem State.putCore_protected_ (n : Nat) (c : DspCore) : (putCore n c s).protected_ = s.protected_ := rfl
@[simp] theorem State.putCore_haltedStewards (n : Nat) (c : DspCore) : (putCore n c s).haltedStewards = s.haltedStewards := rfl
@[simp] theorem State.putCore_jtag (n : Nat) (c : DspCore) : (putCore n c s).jtag = s.jtag := rfl
@[simp] theorem State.putCore_nonceAt (n : Nat) (c : DspCore) : (putCore n c s).nonceAt = s.nonceAt := rfl
@[simp] theorem State.putCore_boot (n : Nat) (c : DspCore) : (putCore n c s).boot = s.boot := rfl
@[simp] theorem State.putCore_enum (n : Nat) (c : DspCore) : (putCore n c s).enum = s.enum := rfl
@[simp] theorem State.putCore_recovQueue (n : Nat) (c : DspCore) : (putCore n c s).recovQueue = s.recovQueue := rfl
@[simp] theorem State.putCore_recovActive (n : Nat) (c : DspCore) : (putCore n c s).recovActive = s.recovActive := rfl
@[simp] theorem State.putCore_logWaiting (n : Nat) (c : DspCore) : (putCore n c s).logWaiting = s.logWaiting := rfl
@[simp] theorem State.putCore_logTimes (n : Nat) (c : DspCore) : (putCore n c s).logTimes = s.logTimes := rfl
@[simp] theorem State.putCore_tbs (n : Nat) (c : DspCore) : (putCore n c s).tbs = s.tbs := rfl
@[simp] theorem State.putCore_spans (n : Nat) (c : DspCore) : (putCore n c s).spans = s.spans := rfl
@[simp] theorem State.putCore_commits (n : Nat) (c : DspCore) : (putCore n c s).commits = s.commits := rfl
@[simp] theorem State.putCore_rx (n : Nat) (c : DspCore) : (putCore n c s).rx = s.rx := rfl
@[simp] theorem State.putCore_tx (n : Nat) (c : DspCore) : (putCore n c s).tx = s.tx := rfl
@[simp] theorem State.putCore_wp (n : Nat) (c : DspCore) : (putCore n c s).wp = s.wp := rfl
@[simp] theorem State.putCore_admits (n : Nat) (c : DspCore) : (putCore n c s).admits = s.admits := rfl
@[simp] theorem State.putCore_subWait (n : Nat) (c : DspCore) : (putCore n c s).subWait = s.subWait := rfl
@[simp] theorem State.putCore_groupHist (n : Nat) (c : DspCore) : (putCore n c s).groupHist = s.groupHist := rfl
@[simp] theorem State.putCore_gazFetch (n : Nat) (c : DspCore) : (putCore n c s).gazFetch = s.gazFetch := rfl
@[simp] theorem State.putCore_resetTick (n : Nat) (c : DspCore) : (putCore n c s).resetTick = s.resetTick := rfl
@[simp] theorem State.putCore_stepsDue (n : Nat) (c : DspCore) : (putCore n c s).stepsDue = s.stepsDue := rfl
@[simp] theorem State.putCore_caps (n : Nat) (c : DspCore) : (putCore n c s).caps = s.caps := rfl
@[simp] theorem State.putCore_gates (n : Nat) (c : DspCore) : (putCore n c s).gates = s.gates := rfl
@[simp] theorem State.putCore_txWork (n : Nat) (c : DspCore) : (putCore n c s).txWork = s.txWork := rfl
@[simp] theorem State.putCore_mergeSeen (n : Nat) (c : DspCore) : (putCore n c s).mergeSeen = s.mergeSeen := rfl
@[simp] theorem State.putCore_seqHoles (n : Nat) (c : DspCore) : (putCore n c s).seqHoles = s.seqHoles := rfl
@[simp] theorem State.putCore_holes (n : Nat) (c : DspCore) : (putCore n c s).holes = s.holes := rfl
@[simp] theorem State.putCore_fills (n : Nat) (c : DspCore) : (putCore n c s).fills = s.fills := rfl
@[simp] theorem State.putCore_refHist (n : Nat) (c : DspCore) : (putCore n c s).refHist = s.refHist := rfl
@[simp] theorem State.putCore_refResid (n : Nat) (c : DspCore) : (putCore n c s).refResid = s.refResid := rfl
@[simp] theorem State.putCore_refDaily (n : Nat) (c : DspCore) : (putCore n c s).refDaily = s.refDaily := rfl
@[simp] theorem State.putCore_audArrived (n : Nat) (c : DspCore) : (putCore n c s).audArrived = s.audArrived := rfl
@[simp] theorem State.putCore_audFrames (n : Nat) (c : DspCore) : (putCore n c s).audFrames = s.audFrames := rfl
@[simp] theorem State.putCore_cic (n : Nat) (c : DspCore) : (putCore n c s).cic = s.cic := rfl
@[simp] theorem State.putCore_audCommit (n : Nat) (c : DspCore) : (putCore n c s).audCommit = s.audCommit := rfl
@[simp] theorem State.putCore_hbSent (n : Nat) (c : DspCore) : (putCore n c s).hbSent = s.hbSent := rfl
@[simp] theorem State.putCore_hbGot (n : Nat) (c : DspCore) : (putCore n c s).hbGot = s.hbGot := rfl
@[simp] theorem State.putCore_twinHalves (n : Nat) (c : DspCore) : (putCore n c s).twinHalves = s.twinHalves := rfl
@[simp] theorem State.putCore_tilePics (n : Nat) (c : DspCore) : (putCore n c s).tilePics = s.tilePics := rfl
@[simp] theorem State.putCore_shots (n : Nat) (c : DspCore) : (putCore n c s).shots = s.shots := rfl
@[simp] theorem State.putCore_gpiFifo (n : Nat) (c : DspCore) : (putCore n c s).gpiFifo = s.gpiFifo := rfl
@[simp] theorem State.putCore_out (n : Nat) (c : DspCore) : (putCore n c s).out = s.out := rfl
@[simp] theorem State.putCore_pending (n : Nat) (c : DspCore) : (putCore n c s).pending = s.pending := rfl

end Sys2Proof.Machine
end

