-- ==== Sys2Proof/Laws/Store.lean ====
section
/-!
SUPPORT. The register store: what a field reads as after another is written, and that every update keeps the canonical form.
-/
namespace Sys2Proof.Machine

/-! ### Reading after writing -/

theorem Store.find_erase_self (f : Fld) (i : Nat) (l : Store) : Store.find f i (Store.erase f i l) = none := by
  induction l with
  | nil => rfl
  | cons c l ih => by_cases h : c.fld = f ∧ c.idx = i <;> simp [Store.erase, Store.find, h, ih]

theorem Store.find_erase_other {f g : Fld} {i j : Nat} (h : ¬(f = g ∧ i = j)) (l : Store) :
    Store.find g j (Store.erase f i l) = Store.find g j l := by
  induction l with
  | nil => rfl
  | cons c l ih =>
    by_cases h1 : c.fld = f ∧ c.idx = i
    · obtain ⟨rfl, rfl⟩ := h1
      simp [Store.erase, Store.find, ih, h]
    · simp [Store.erase, Store.find, ih, h1]

theorem Store.find_insert_self (c : RegCell) (l : Store) (h : Store.find c.fld c.idx l = none) :
    Store.find c.fld c.idx (Store.insert c l) = some c.val := by
  induction l with
  | nil => simp [Store.insert, Store.find]
  | cons d l ih =>
    by_cases hd : d.fld = c.fld ∧ d.idx = c.idx
    · simp [Store.find, hd] at h
    · simp only [Store.find, if_neg hd] at h
      by_cases hb : c.before d <;> simp [Store.insert, Store.find, hb, hd, ih h]

theorem Store.find_insert_other {g : Fld} {j : Nat} (c : RegCell) (h : ¬(c.fld = g ∧ c.idx = j)) (l : Store) :
    Store.find g j (Store.insert c l) = Store.find g j l := by
  induction l with
  | nil => simp [Store.insert, Store.find, h]
  | cons d l ih => by_cases hb : c.before d <;> simp [Store.insert, Store.find, hb, h, ih]

/-- A field after an update of the store: the new value at its own place, the old one elsewhere. -/
theorem State.get_put (s : State) (f g : Fld) (i j v : Nat) :
    (s.put f i v).get g j = if f = g ∧ i = j then v % 2 ^ f.info.w else s.get g j := by
  by_cases h : f = g ∧ i = j
  · obtain ⟨rfl, rfl⟩ := h
    by_cases hw : v % 2 ^ f.info.w = f.resetAt s.variant i
    · simp [State.get, State.put, hw, Store.find_erase_self]
    · simp only [State.get, State.put, hw, if_false, and_self, if_true]
      rw [Store.find_insert_self ⟨f, i, v % 2 ^ f.info.w⟩ _ (Store.find_erase_self f i s.regs)]
      rfl
  · by_cases hw : v % 2 ^ f.info.w = f.resetAt s.variant i
    · simp [State.get, State.put, hw, h, Store.find_erase_other h]
    · simp [State.get, State.put, hw, h, Store.find_insert_other ⟨f, i, v % 2 ^ f.info.w⟩ h, Store.find_erase_other h]

@[simp] theorem State.get_put_self (s : State) (f : Fld) (i v : Nat) : (s.put f i v).get f i = v % 2 ^ f.info.w := by
  simp [State.get_put]

theorem State.get_put_other (s : State) {f g : Fld} (h : f ≠ g) (i j v : Nat) : (s.put f i v).get g j = s.get g j := by
  simp [State.get_put, h]

theorem State.get_put_index (s : State) (f g : Fld) {i j : Nat} (h : i ≠ j) (v : Nat) : (s.put f i v).get g j = s.get g j := by
  simp [State.get_put, h]

theorem State.get_clear (s : State) (f g : Fld) (i j : Nat) :
    (s.clear f i).get g j = if f = g ∧ i = j then f.resetAt s.variant i else s.get g j := by
  by_cases h : f = g ∧ i = j
  · obtain ⟨rfl, rfl⟩ := h
    simp [State.get, State.clear, Store.find_erase_self]
  · simp [State.get, State.clear, h, Store.find_erase_other h]

/-- Reading a field looks at the store and the variant alone. -/
theorem State.get_congr {s t : State} (hr : t.regs = s.regs) (hv : t.variant = s.variant) (f : Fld) (i : Nat) :
    t.get f i = s.get f i := by
  simp [State.get, hr, hv]

@[simp] theorem State.get_emit (s : State) (o : Out) (f : Fld) (i : Nat) : (s.emit o).get f i = s.get f i := rfl
@[simp] theorem State.get_respond (s : State) (d : Nat) (e : Bool) (f : Fld) (i : Nat) : (s.respond d e).get f i = s.get f i := rfl
@[simp] theorem State.get_memPut (s : State) (a n v : Nat) (f : Fld) (i : Nat) : (s.memPut a n v).get f i = s.get f i := rfl
@[simp] theorem State.get_memPutBytes (s : State) (a : Nat) (bs : List Byte) (f : Fld) (i : Nat) :
    (s.memPutBytes a bs).get f i = s.get f i := rfl
@[simp] theorem State.get_putCore (s : State) (n : Nat) (c : DspCore) (f : Fld) (i : Nat) : (putCore n c s).get f i = s.get f i := rfl

/-! ### The canonical form -/

/-- Every entry of the store is later in key order than a given one. -/
def Store.after (c : RegCell) (l : Store) : Prop := ∀ d ∈ l, c.before d = true

theorem RegCell.before_iff (a b : RegCell) :
    a.before b = true ↔ a.fld.ctorIdx < b.fld.ctorIdx ∨ (a.fld.ctorIdx = b.fld.ctorIdx ∧ a.idx < b.idx) := by
  simp [RegCell.before]

theorem RegCell.before_trans {a b c : RegCell} (h : a.before b = true) (k : b.before c = true) : a.before c = true := by
  rw [RegCell.before_iff] at *
  omega

/-- Fields are told apart by their place in the list. -/
theorem Fld.eq_of_ctorIdx {f g : Fld} (h : f.ctorIdx = g.ctorIdx) : f = g := by
  rw [← Fld.ofNat_ctorIdx f, ← Fld.ofNat_ctorIdx g, h]

/-- The canonical form, element by element. -/
theorem Store.wf_cons (v : Variant) (c : RegCell) (l : Store) :
    Store.wf v (c :: l) = true ↔ c.wf v = true ∧ Store.after c l ∧ Store.wf v l = true := by
  induction l generalizing c with
  | nil => simp [Store.wf, Store.after]
  | cons d l ih =>
    simp only [Store.wf, Bool.and_eq_true]
    constructor
    · rintro ⟨⟨hc, hb⟩, hl⟩
      refine ⟨hc, ?_, hl⟩
      intro e he
      rcases List.mem_cons.1 he with rfl | he
      · exact hb
      · exact RegCell.before_trans hb (((ih d).1 hl).2.1 e he)
    · rintro ⟨hc, ha, hl⟩
      exact ⟨⟨hc, ha d (by simp)⟩, hl⟩

theorem Store.mem_erase {f : Fld} {i : Nat} {d : RegCell} {l : Store} (h : d ∈ Store.erase f i l) :
    d ∈ l ∧ ¬(d.fld = f ∧ d.idx = i) := by
  induction l with
  | nil => simp [Store.erase] at h
  | cons c l ih =>
    by_cases hc : c.fld = f ∧ c.idx = i
    · simp only [Store.erase, hc, and_self, if_true] at h
      exact ⟨List.mem_cons_of_mem _ (ih h).1, (ih h).2⟩
    · simp only [Store.erase, if_neg hc, List.mem_cons] at h
      rcases h with rfl | h
      · exact ⟨by simp, hc⟩
      · exact ⟨List.mem_cons_of_mem _ (ih h).1, (ih h).2⟩

theorem Store.wf_erase {v : Variant} (f : Fld) (i : Nat) {l : Store} (h : Store.wf v l = true) :
    Store.wf v (Store.erase f i l) = true := by
  induction l with
  | nil => rfl
  | cons c l ih =>
    have hl := (Store.wf_cons v c l).1 h
    by_cases hc : c.fld = f ∧ c.idx = i
    · simpa [Store.erase, hc] using ih hl.2.2
    · simp only [Store.erase, if_neg hc]
      exact (Store.wf_cons v c _).2 ⟨hl.1, fun d hd => hl.2.1 d (Store.mem_erase hd).1, ih hl.2.2⟩

theorem Store.mem_insert {c d : RegCell} {l : Store} (h : d ∈ Store.insert c l) : d = c ∨ d ∈ l := by
  induction l with
  | nil => simpa [Store.insert] using h
  | cons e l ih =>
    by_cases hb : c.before e
    · simpa [Store.insert, hb] using h
    · simp only [Store.insert, hb, Bool.false_eq_true, if_false, List.mem_cons] at h
      rcases h with rfl | h
      · simp
      · rcases ih h with rfl | h <;> simp [*]

theorem Store.wf_insert {v : Variant} {c : RegCell} {l : Store} (hc : c.wf v = true) (h : Store.wf v l = true)
    (hn : ∀ d ∈ l, ¬(d.fld = c.fld ∧ d.idx = c.idx)) : Store.wf v (Store.insert c l) = true := by
  induction l with
  | nil => simpa [Store.insert, Store.wf] using hc
  | cons d l ih =>
    have hl := (Store.wf_cons v d l).1 h
    by_cases hb : c.before d
    · simp only [Store.insert, hb, if_true]
      refine (Store.wf_cons v c _).2 ⟨hc, ?_, h⟩
      intro e he
      rcases List.mem_cons.1 he with rfl | he
      · exact hb
      · exact RegCell.before_trans hb (hl.2.1 e he)
    · simp only [Store.insert, hb, Bool.false_eq_true, if_false]
      have hdc : d.before c = true := by
        have hne := hn d (by simp)
        have hb' : ¬ c.before d = true := hb
        rw [RegCell.before_iff] at *
        by_cases hf : d.fld.ctorIdx = c.fld.ctorIdx
        · have : d.fld = c.fld := Fld.eq_of_ctorIdx hf
          have hi : d.idx ≠ c.idx := fun hi => hne ⟨this, hi⟩
          omega
        · omega
      refine (Store.wf_cons v d _).2 ⟨hl.1, ?_, ih hl.2.2 (fun e he => hn e (by simp [he]))⟩
      intro e he
      rcases Store.mem_insert he with rfl | he
      · exact hdc
      · exact hl.2.1 e he

/-- Writing a field keeps the canonical form. -/
theorem State.put_wf {s : State} (f : Fld) (i v : Nat) (h : Store.wf s.variant s.regs = true) :
    Store.wf s.variant (s.put f i v).regs = true := by
  by_cases hw : v % 2 ^ f.info.w = f.resetAt s.variant i
  · simpa [State.put, hw] using Store.wf_erase f i h
  · simp only [State.put, hw, if_false]
    refine Store.wf_insert ?_ (Store.wf_erase f i h) (fun d hd => (Store.mem_erase hd).2)
    have hlt : v % 2 ^ f.info.w < 2 ^ f.info.w := Nat.mod_lt _ (Nat.two_pow_pos _)
    simp [RegCell.wf, hw, hlt]

/-- Returning a field to its reset value keeps the canonical form. -/
theorem State.clear_wf {s : State} (f : Fld) (i : Nat) (h : Store.wf s.variant s.regs = true) :
    Store.wf s.variant (s.clear f i).regs = true := Store.wf_erase f i h

/-- A filtered store is in canonical form. -/
theorem Store.wf_filter {v : Variant} (p : RegCell → Bool) {l : Store} (h : Store.wf v l = true) :
    Store.wf v (l.filter p) = true := by
  induction l with
  | nil => rfl
  | cons c l ih =>
    have hl := (Store.wf_cons v c l).1 h
    by_cases hp : p c
    · simp only [List.filter_cons, hp, if_true]
      exact (Store.wf_cons v c _).2 ⟨hl.1, fun d hd => hl.2.1 d ((List.mem_filter.1 hd).1), ih hl.2.2⟩
    · simpa [List.filter_cons, hp] using ih hl.2.2

theorem State.clearAll_wf {s : State} (f : Fld) (h : Store.wf s.variant s.regs = true) :
    Store.wf s.variant (s.clearAll f).regs = true := Store.wf_filter _ h

end Sys2Proof.Machine
end

