-- ==== Sys2Proof/Laws/Memory.lean ====
section
/-!
SUPPORT. Memories: a read after a write, and that every write keeps the canonical form.
-/
namespace Sys2Proof.Machine

theorem Memory.read_erase_self (a : Nat) (m : List Host.Cell) : Memory.read a (Memory.erase a m) = unwrittenByte := by
  induction m with
  | nil => rfl
  | cons c m ih =>
    obtain ⟨b, v⟩ := c
    by_cases h : a = b <;> simp [Memory.erase, Memory.read, h, ih]
    subst h; exact ih

theorem Memory.read_erase_other {a b : Nat} (h : a ≠ b) (m : List Host.Cell) :
    Memory.read b (Memory.erase a m) = Memory.read b m := by
  induction m with
  | nil => rfl
  | cons c m ih =>
    obtain ⟨d, v⟩ := c
    by_cases hd : a = d
    · subst hd
      simp [Memory.erase, Memory.read, ih, Ne.symm h]
    · simp [Memory.erase, Memory.read, hd, ih]

theorem Memory.read_insert_self (a : Nat) (v : Byte) (m : List Host.Cell) (h : ∀ c ∈ m, c.1 ≠ a) :
    Memory.read a (Memory.insert (a, v) m) = v := by
  induction m with
  | nil => simp [Memory.insert, Memory.read]
  | cons c m ih =>
    obtain ⟨d, w⟩ := c
    have hd : a ≠ d := fun e => h (d, w) (by simp) e.symm
    by_cases hb : a < d <;> simp [Memory.insert, Memory.read, hb, hd]
    exact ih (fun c hc => h c (by simp [hc]))

theorem Memory.read_insert_other {a b : Nat} (h : a ≠ b) (v : Byte) (m : List Host.Cell) :
    Memory.read b (Memory.insert (a, v) m) = Memory.read b m := by
  induction m with
  | nil => simp [Memory.insert, Memory.read, Ne.symm h]
  | cons c m ih =>
    obtain ⟨d, w⟩ := c
    by_cases hb : a < d <;> simp [Memory.insert, Memory.read, hb, Ne.symm h, ih]

theorem Memory.mem_erase {a : Nat} {c : Host.Cell} {m : List Host.Cell} (h : c ∈ Memory.erase a m) : c ∈ m ∧ c.1 ≠ a := by
  induction m with
  | nil => simp [Memory.erase] at h
  | cons d m ih =>
    obtain ⟨b, v⟩ := d
    by_cases hb : a = b
    · simp only [Memory.erase, hb, if_true] at h
      exact ⟨List.mem_cons_of_mem _ (ih (hb ▸ h)).1, (ih (hb ▸ h)).2⟩
    · simp only [Memory.erase, if_neg hb, List.mem_cons] at h
      rcases h with rfl | h
      · exact ⟨by simp, fun e => hb e.symm⟩
      · exact ⟨List.mem_cons_of_mem _ (ih h).1, (ih h).2⟩

/-- A byte after a write of one byte. -/
theorem Memory.read_write (a b : Nat) (v : Byte) (m : List Host.Cell) :
    Memory.read b (Memory.write a v m) = if a = b then v else Memory.read b m := by
  by_cases h : a = b
  · subst h
    by_cases hv : v = unwrittenByte
    · simp [Memory.write, hv, Memory.read_erase_self]
    · simp only [Memory.write, hv, if_false, if_true]
      exact Memory.read_insert_self a v _ (fun c hc => (Memory.mem_erase hc).2)
  · by_cases hv : v = unwrittenByte
    · simp [Memory.write, hv, h, Memory.read_erase_other h]
    · simp [Memory.write, hv, h, Memory.read_insert_other h, Memory.read_erase_other h]

/-- A byte after a write of several: the byte written there, or the old one outside. -/
theorem Memory.read_writeList (bs : List Byte) (a b : Nat) (m : List Host.Cell) :
    Memory.read b (Memory.writeList a bs m) = if a ≤ b ∧ b < a + bs.length then bs.getD (b - a) 0 else Memory.read b m := by
  induction bs generalizing a m with
  | nil =>
    have h : ¬(a ≤ b ∧ b < a + ([] : List Byte).length) := by rw [List.length_nil]; omega
    rw [if_neg h, Memory.writeList]
  | cons v bs ih =>
    simp only [Memory.writeList, ih, Memory.read_write, List.length_cons]
    by_cases h0 : a = b
    · subst h0
      have h1 : ¬(a + 1 ≤ a ∧ a < a + 1 + bs.length) := by omega
      simp [h1]
    · by_cases h1 : a + 1 ≤ b ∧ b < a + 1 + bs.length
      · have h2 : a ≤ b ∧ b < a + (bs.length + 1) := by omega
        have h3 : b - a = (b - (a + 1)) + 1 := by omega
        rw [if_pos h1, if_pos h2, h3, List.getD_cons_succ]
      · have h2 : ¬(a ≤ b ∧ b < a + (bs.length + 1)) := by omega
        rw [if_neg h1, if_neg h2, if_neg h0]

/-! ### The canonical form -/

/-- The canonical form, cell by cell. -/
theorem Memory.wf_cons (c : Host.Cell) (m : List Host.Cell) :
    Memory.wf (c :: m) = true ↔ c.2 ≠ unwrittenByte ∧ (∀ d ∈ m, c.1 < d.1) ∧ Memory.wf m = true := by
  induction m generalizing c with
  | nil => simp [Memory.wf]
  | cons d m ih =>
    simp only [Memory.wf, Bool.and_eq_true, bne_iff_ne, decide_eq_true_eq]
    constructor
    · rintro ⟨⟨hc, hb⟩, hm⟩
      refine ⟨hc, ?_, hm⟩
      intro e he
      rcases List.mem_cons.1 he with rfl | he
      · exact hb
      · exact Nat.lt_trans hb (((ih d).1 hm).2.1 e he)
    · rintro ⟨hc, ha, hm⟩
      exact ⟨⟨hc, ha d (by simp)⟩, hm⟩

theorem Memory.wf_erase (a : Nat) {m : List Host.Cell} (h : Memory.wf m = true) : Memory.wf (Memory.erase a m) = true := by
  induction m with
  | nil => rfl
  | cons c m ih =>
    obtain ⟨b, v⟩ := c
    have hm := (Memory.wf_cons (b, v) m).1 h
    by_cases hb : a = b
    · simpa [Memory.erase, hb] using (hb ▸ ih hm.2.2 : Memory.wf (Memory.erase b m) = true)
    · simp only [Memory.erase, if_neg hb]
      exact (Memory.wf_cons (b, v) _).2 ⟨hm.1, fun d hd => hm.2.1 d (Memory.mem_erase hd).1, ih hm.2.2⟩

theorem Memory.mem_insert {c d : Host.Cell} {m : List Host.Cell} (h : d ∈ Memory.insert c m) : d = c ∨ d ∈ m := by
  induction m with
  | nil => simpa [Memory.insert] using h
  | cons e m ih =>
    by_cases hb : c.1 < e.1
    · simpa [Memory.insert, hb] using h
    · simp only [Memory.insert, hb, if_false, List.mem_cons] at h
      rcases h with rfl | h
      · simp
      · rcases ih h with rfl | h <;> simp [*]

theorem Memory.wf_insert {c : Host.Cell} {m : List Host.Cell} (hc : c.2 ≠ unwrittenByte) (h : Memory.wf m = true)
    (hn : ∀ d ∈ m, d.1 ≠ c.1) : Memory.wf (Memory.insert c m) = true := by
  induction m with
  | nil => simpa [Memory.insert, Memory.wf] using hc
  | cons d m ih =>
    have hm := (Memory.wf_cons d m).1 h
    by_cases hb : c.1 < d.1
    · simp only [Memory.insert, hb, if_true]
      refine (Memory.wf_cons c _).2 ⟨hc, ?_, h⟩
      intro e he
      rcases List.mem_cons.1 he with rfl | he
      · exact hb
      · exact Nat.lt_trans hb (hm.2.1 e he)
    · simp only [Memory.insert, hb, if_false]
      have hdc : d.1 < c.1 := by
        have := hn d (by simp)
        omega
      refine (Memory.wf_cons d _).2 ⟨hm.1, ?_, ih hm.2.2 (fun e he => hn e (by simp [he]))⟩
      intro e he
      rcases Memory.mem_insert he with rfl | he
      · exact hdc
      · exact hm.2.1 e he

/-- A write of one byte keeps the canonical form. -/
theorem Memory.wf_write (a : Nat) (v : Byte) {m : List Host.Cell} (h : Memory.wf m = true) :
    Memory.wf (Memory.write a v m) = true := by
  by_cases hv : v = unwrittenByte
  · simpa [Memory.write, hv] using Memory.wf_erase a h
  · simp only [Memory.write, hv, if_false]
    exact Memory.wf_insert hv (Memory.wf_erase a h) (fun d hd => (Memory.mem_erase hd).2)

/-- A write of several bytes keeps the canonical form. -/
theorem Memory.wf_writeList (bs : List Byte) (a : Nat) {m : List Host.Cell} (h : Memory.wf m = true) :
    Memory.wf (Memory.writeList a bs m) = true := by
  induction bs generalizing a m with
  | nil => exact h
  | cons v bs ih => exact ih (a + 1) (Memory.wf_write a v h)

/-- Dropping cells keeps the canonical form. -/
theorem Memory.wf_filter (p : Host.Cell → Bool) {m : List Host.Cell} (h : Memory.wf m = true) :
    Memory.wf (m.filter p) = true := by
  induction m with
  | nil => rfl
  | cons c m ih =>
    have hm := (Memory.wf_cons c m).1 h
    by_cases hp : p c
    · simp only [List.filter_cons, hp, if_true]
      exact (Memory.wf_cons c _).2 ⟨hm.1, fun d hd => hm.2.1 d (List.mem_filter.1 hd).1, ih hm.2.2⟩
    · simpa [List.filter_cons, hp] using ih hm.2.2

theorem State.memPut_wf {s : State} (a n v : Nat) (h : Memory.wf s.mem = true) : Memory.wf (s.memPut a n v).mem = true :=
  Memory.wf_writeList _ a h

theorem State.memPutBytes_wf {s : State} (a : Nat) (bs : List Byte) (h : Memory.wf s.mem = true) :
    Memory.wf (s.memPutBytes a bs).mem = true := Memory.wf_writeList bs a h

theorem leBytes_length (n v : Nat) : (leBytes n v).length = n := by
  induction n generalizing v with
  | zero => rfl
  | succ n ih => simp [leBytes, ih]

end Sys2Proof.Machine
end

