-- ==== Sys2Proof/Laws/Keeps.lean ====
section
/-!
SUPPORT. What every operation of the machine keeps: the part, the queue of waiting commands, blown fuses, and the canonical forms of
the register store and of both memories. One lemma for each way a state is built.
-/
namespace Sys2Proof.Machine

/-- What every operation but the queue's own keeps. -/
structure Keeps (s t : State) : Prop where
  variant : t.variant = s.variant
  pending : t.pending = s.pending
  fuses : s.fuses.Within t.fuses
  store : Store.wf s.variant s.regs = true → Store.wf t.variant t.regs = true
  mem : Memory.wf s.mem = true → Memory.wf t.mem = true
  nvm : Memory.wf s.nvm = true → Memory.wf t.nvm = true

namespace Keeps

variable {s t u : State}

theorem within_refl (f : Fuses) : f.Within f :=
  ⟨Nat.le_refl _, Nat.or_self _, Nat.or_self _, Nat.le_refl _, id, rfl, rfl⟩

theorem within_trans {a b c : Fuses} (h : a.Within b) (k : b.Within c) : a.Within c := by
  refine ⟨Nat.le_trans h.1 k.1, ?_, ?_, Nat.le_trans h.4 k.4, k.5 ∘ h.5, k.6.trans h.6, k.7.trans h.7⟩
  · have h2 := h.2; have k2 := k.2
    unfold maskWithin at *
    rw [← k2, ← Nat.or_assoc, h2]
  · have h2 := h.3; have k2 := k.3
    unfold maskWithin at *
    rw [← k2, ← Nat.or_assoc, h2]

theorem refl (s : State) : Keeps s s := ⟨rfl, rfl, within_refl _, id, id, id⟩

theorem trans (h : Keeps s t) (k : Keeps t u) : Keeps s u :=
  ⟨k.1.trans h.1, k.2.trans h.2, within_trans h.3 k.3, k.4 ∘ h.4, k.5 ∘ h.5, k.6 ∘ h.6⟩

/-- A state with the same part, queue, fuses, store and memories. -/
theorem same (h : Keeps s t) (hv : u.variant = t.variant) (hp : u.pending = t.pending) (hf : u.fuses = t.fuses)
    (hr : u.regs = t.regs) (hm : u.mem = t.mem) (hn : u.nvm = t.nvm) : Keeps s u := by
  refine ⟨hv.trans h.1, hp.trans h.2, hf ▸ h.3, ?_, hm ▸ h.5, hn ▸ h.6⟩
  rw [hv, hr]
  exact h.4

/-- A state with a memory written. -/
theorem sameMem (h : Keeps s t) (hv : u.variant = t.variant) (hp : u.pending = t.pending) (hf : u.fuses = t.fuses)
    (hr : u.regs = t.regs) (hm : Memory.wf t.mem = true → Memory.wf u.mem = true) (hn : Memory.wf t.nvm = true → Memory.wf u.nvm = true) :
    Keeps s u := by
  refine ⟨hv.trans h.1, hp.trans h.2, hf ▸ h.3, ?_, hm ∘ h.5, hn ∘ h.6⟩
  rw [hv, hr]
  exact h.4

/-- A record update that leaves the part, the queue, the fuses, the store and the memories alone. -/
theorem update_iff
    (x5 : Option NvmWork) (x7 : Fuses) (x8 : Nat) (x9 : Nat) (x10 : Resp) (x11 : List (Nat × Nat))
    (x12 : List (Nat × Nat)) (x13 : List Nat) (x14 : JtagIns) (x15 : Option Nat) (x16 : BootState) (x17 : EnumState)
    (x18 : List RecovRec) (x19 : Option RecovRec) (x20 : List LogRec) (x21 : List Nat) (x22 : List TimeBase)
    (x23 : List (Nat × List VideoSpan)) (x24 : List Hole) (x25 : List Fill) (x26 : List PendCommit)
    (x27 : List RxStream) (x28 : List TxStream) (x29 : List WpStream) (x30 : List Admit) (x31 : List SubWait)
    (x32 : List GroupSample) (x33 : List (Nat × List Nat)) (x34 : Nat) (x35 : List StepDue)
    (x36 : List (Nat × List CapEntry)) (x37 : List GateState) (x38 : List TxWork) (x39 : List MergeSeen)
    (x40 : List SeqHole) (x41 : List (Nat × List Int)) (x42 : List Int) (x43 : List (Nat × Int)) (x44 : List DspCore)
    (x45 : List AudArrival) (x46 : List (List (Nat × Nat))) (x47 : List (Nat × List (List Int)))
    (x48 : Option AudCommit) (x49 : List (Nat × Stamp)) (x50 : Option (Nat × Stamp))
    (x51 : List (Nat × Bool × Nat × List Nat)) (x52 : List TilePic) (x53 : List HeadShot) (x54 : List GpiEntry)
    (x55 : List Out)
    : Keeps s
      ⟨t.variant, t.regs, t.mem, t.nvm, x5, t.fuses, x7, x8, x9, x10, x11, x12, x13, x14, x15, x16, x17, x18, x19, x20,
       x21, x22, x23, x24, x25, x26, x27, x28, x29, x30, x31, x32, x33, x34, x35, x36, x37, x38, x39, x40, x41, x42,
       x43, x44, x45, x46, x47, x48, x49, x50, x51, x52, x53, x54, x55, t.pending⟩ ↔
      Keeps s t :=
  ⟨fun h => ⟨h.1, h.2, h.3, h.4, h.5, h.6⟩, fun h => ⟨h.1, h.2, h.3, h.4, h.5, h.6⟩⟩

theorem put (f : Fld) (i v : Nat) (h : Keeps s t) : Keeps s (t.put f i v) :=
  ⟨h.1, h.2, h.3, fun k => State.put_wf f i v (h.4 k), h.5, h.6⟩

theorem clear (f : Fld) (i : Nat) (h : Keeps s t) : Keeps s (t.clear f i) :=
  ⟨h.1, h.2, h.3, fun k => State.clear_wf f i (h.4 k), h.5, h.6⟩

theorem clearAll (f : Fld) (h : Keeps s t) : Keeps s (t.clearAll f) :=
  ⟨h.1, h.2, h.3, fun k => State.clearAll_wf f (h.4 k), h.5, h.6⟩

theorem putFlag (f : Fld) (i : Nat) (b : Bool) (h : Keeps s t) : Keeps s (t.putFlag f i b) := put _ _ _ h
theorem bump (f : Fld) (i k : Nat) (h : Keeps s t) : Keeps s (t.bump f i k) := put _ _ _ h
theorem inc (f : Fld) (i : Nat) (h : Keeps s t) : Keeps s (t.inc f i) := put _ _ _ h
theorem emit (o : Out) (h : Keeps s t) : Keeps s (t.emit o) := same h rfl rfl rfl rfl rfl rfl
theorem respond (d : Nat) (e : Bool) (h : Keeps s t) : Keeps s (t.respond d e) := same h rfl rfl rfl rfl rfl rfl
theorem memPut (a n v : Nat) (h : Keeps s t) : Keeps s (t.memPut a n v) :=
  sameMem h rfl rfl rfl rfl (State.memPut_wf a n v) id
theorem memPutBytes (a : Nat) (bs : List Byte) (h : Keeps s t) : Keeps s (t.memPutBytes a bs) :=
  sameMem h rfl rfl rfl rfl (State.memPutBytes_wf a bs) id

theorem ite {c : Prop} [Decidable c] {a b : State} (ha : Keeps s a) (hb : Keeps s b) : Keeps s (if c then a else b) := by
  split <;> assumption

theorem onlyIf (c : Bool) {f : State → State} (hf : ∀ u, Keeps u (f u)) (h : Keeps s t) : Keeps s (onlyIf c f t) := by
  unfold Machine.onlyIf
  exact ite (trans h (hf t)) h

theorem forAll {α : Type} (l : List α) {f : α → State → State} (hf : ∀ a u, Keeps u (f a u)) (h : Keeps s t) :
    Keeps s (forAll l f t) := by
  unfold Machine.forAll
  induction l generalizing t with
  | nil => exact h
  | cons a l ih => exact ih (trans h (hf a t))

/-- A blow of fuses. -/
theorem fused (f : Fuses) (h : Keeps s t) (hf : t.fuses.Within f) : Keeps s { t with fuses := f } :=
  ⟨h.1, h.2, within_trans h.3 hf, h.4, h.5, h.6⟩

/-- A write of the configuration memory. -/
theorem nvmWrite (a : Nat) (bs : List Byte) (h : Keeps s t) : Keeps s { t with nvm := Memory.writeList a bs t.nvm } :=
  sameMem h rfl rfl rfl rfl id (fun k => Memory.wf_writeList bs a k)

/-- A write of the memory. -/
theorem memWrite (a : Nat) (bs : List Byte) (h : Keeps s t) : Keeps s { t with mem := Memory.writeList a bs t.mem } :=
  sameMem h rfl rfl rfl rfl (fun k => Memory.wf_writeList bs a k) id

/-- Bytes of the memory dropped. -/
theorem memFilter (p : Host.Cell → Bool) (h : Keeps s t) : Keeps s { t with mem := t.mem.filter p } :=
  sameMem h rfl rfl rfl rfl (fun k => Memory.wf_filter p k) id

/-- More bits of a mask. -/
theorem maskWithin_or (a b : Nat) : maskWithin a (a ||| b) := by
  unfold maskWithin
  rw [← Nat.or_assoc, Nat.or_self]

theorem after_id (h : Keeps s t) : Keeps s (id t) := h

end Keeps

/-- Whatever next state an outcome holds keeps what `Keeps` says. -/
structure KeepsO (s : State) (o : Host.Outcome State Fault Refusal) : Prop where
  keep : ∀ t, o = .next t → Keeps s t

namespace KeepsO

theorem next {s t : State} (h : Keeps s t) : KeepsO s (.next t) := by
  refine ⟨fun u hu => ?_⟩
  cases hu
  exact h

theorem ite {s : State} {c : Prop} [Decidable c] {a b : Host.Outcome State Fault Refusal} (ha : KeepsO s a) (hb : KeepsO s b) :
    KeepsO s (if c then a else b) := by
  split <;> assumption

end KeepsO

end Sys2Proof.Machine
end

