-- ==== Sys2Proof/Laws/KeepsBase.lean ====
section
/-!
SUPPORT. Every operation of these files keeps what `Keeps` says: Ops, Regs, Faults, Bus, Security, Queues, Time, Boot, Enum.
-/
namespace Sys2Proof.Machine

/-! ### Ops -/

theorem msixSend_keeps (n : Nat) {s t : State} (h : Keeps s t) : Keeps s (msixSend n t) := by
  unfold msixSend
  repeat' first
    | with_reducible exact h | with_reducible apply Keeps.put | with_reducible apply Keeps.emit | with_reducible apply Keeps.ite
    | split

theorem raiseSource_keeps (n : Nat) {s t : State} (h : Keeps s t) : Keeps s (raiseSource n t) := by
  unfold raiseSource
  repeat' first
    | with_reducible exact h | with_reducible exact Keeps.refl _ | intro _ | with_reducible apply Keeps.put
    | with_reducible apply Keeps.emit | with_reducible apply Keeps.onlyIf | with_reducible apply Keeps.ite
    | with_reducible apply msixSend_keeps | split

theorem raiseAndOpen_keeps (n : Nat) {s t : State} (h : Keeps s t) : Keeps s (raiseAndOpen n t) := by
  unfold raiseAndOpen
  repeat' first
    | with_reducible exact h | with_reducible apply Keeps.put | with_reducible apply Keeps.putFlag
    | with_reducible apply raiseSource_keeps

theorem latchFirst_keeps (b n : Nat) {s t : State} (h : Keeps s t) : Keeps s (latchFirst b n t) := by
  unfold latchFirst
  repeat' first
    | with_reducible exact h | with_reducible apply Keeps.put | with_reducible apply Keeps.bump | with_reducible apply Keeps.ite
    | split

theorem queueLog_keeps (n cls flags : Nat) (always : Bool) (detail : List Nat) {s t : State} (h : Keeps s t) : Keeps s (queueLog n cls flags always detail t) := by
  unfold queueLog
  repeat' first
    | with_reducible exact h | with_reducible apply Keeps.put | simp only [Keeps.update_iff]

theorem recordRecovery_keeps (n : Nat) (detail : List Nat) {s t : State} (h : Keeps s t) : Keeps s (recordRecovery n detail t) := by
  unfold recordRecovery
  repeat' first
    | with_reducible exact h | with_reducible exact Keeps.refl _ | intro _ | with_reducible apply Keeps.bump
    | with_reducible apply Keeps.ite | with_reducible apply queueLog_keeps | split | simp only [Keeps.update_iff]

theorem recordFatal_keeps (n : Nat) (detail : List Nat) {s t : State} (h : Keeps s t) : Keeps s (recordFatal n detail t) := by
  unfold recordFatal
  repeat' first
    | with_reducible exact h | with_reducible exact Keeps.refl _ | intro _ | with_reducible apply Keeps.put
    | with_reducible apply Keeps.onlyIf | with_reducible apply queueLog_keeps | simp only [Keeps.update_iff]

theorem raiseControlled_keeps (n : Nat) (other : State → State) (hother : ∀  u, Keeps u (other  u)) {s t : State} (h : Keeps s t) : Keeps s (raiseControlled n other t) := by
  unfold raiseControlled
  repeat' first
    | with_reducible exact h | with_reducible exact Keeps.refl _ | intro _ | with_reducible apply Keeps.put
    | with_reducible apply Keeps.ite | with_reducible apply raiseAndOpen_keeps | with_reducible refine Keeps.trans ?_ (hother _)
    | split

theorem assertWith_keeps (other : State → State) (n cls : Nat) (forced : Bool) (detail : List Nat) (hother : ∀  u, Keeps u (other  u)) {s t : State} (h : Keeps s t) : Keeps s (assertWith other n cls forced detail t) := by
  unfold assertWith
  repeat' first
    | with_reducible exact h | with_reducible exact Keeps.refl _ | intro _ | with_reducible apply Keeps.put
    | with_reducible apply Keeps.bump | with_reducible apply Keeps.onlyIf | with_reducible apply latchFirst_keeps
    | with_reducible apply recordRecovery_keeps | with_reducible apply recordFatal_keeps
    | with_reducible apply raiseControlled_keeps | with_reducible refine Keeps.trans ?_ (hother _)

theorem assertStorm_keeps {s t : State} (h : Keeps s t) : Keeps s (assertStorm t) := by
  unfold assertStorm
  repeat' first
    | with_reducible exact h | with_reducible exact Keeps.refl _ | intro _ | with_reducible apply Keeps.after_id
    | with_reducible apply assertWith_keeps

theorem assertDetail_keeps (n cls : Nat) (detail : List Nat) {s t : State} (h : Keeps s t) : Keeps s (assertDetail n cls detail t) := by
  unfold assertDetail
  repeat' first
    | with_reducible exact h | with_reducible exact Keeps.refl _ | intro _ | with_reducible apply assertWith_keeps
    | with_reducible apply assertStorm_keeps

theorem assertEv_keeps (n cls : Nat) {s t : State} (h : Keeps s t) : Keeps s (assertEv n cls t) := by
  unfold assertEv
  repeat' first
    | with_reducible exact h | with_reducible apply assertDetail_keeps

theorem notice_keeps (n : Nat) {s t : State} (h : Keeps s t) : Keeps s (notice n t) := by
  unfold notice
  repeat' first
    | with_reducible exact h | with_reducible apply assertEv_keeps

theorem refuse_keeps (code word : Nat) (m : Master) {s t : State} (h : Keeps s t) : Keeps s (refuse code word m t) := by
  unfold refuse
  repeat' first
    | with_reducible exact h | with_reducible apply Keeps.put | with_reducible apply Keeps.bump
    | with_reducible apply notice_keeps

theorem refuseAgent_keeps (code : Nat) {s t : State} (h : Keeps s t) : Keeps s (refuseAgent code t) := by
  unfold refuseAgent
  repeat' first
    | with_reducible exact h | with_reducible apply refuse_keeps

theorem busError_keeps (m : Master) (addr : Nat) (write : Bool) (cause : Nat) {s t : State} (h : Keeps s t) : Keeps s (busError m addr write cause t) := by
  unfold busError
  repeat' first
    | with_reducible exact h | with_reducible apply Keeps.put | with_reducible apply Keeps.putFlag
    | with_reducible apply Keeps.bump | with_reducible apply Keeps.respond | with_reducible apply Keeps.ite
    | with_reducible apply notice_keeps | split

theorem busLost_keeps (m : Master) (b : Burst) {s t : State} (h : Keeps s t) : Keeps s (busLost m b t) := by
  unfold busLost
  repeat' first
    | with_reducible exact h | with_reducible apply Keeps.put | with_reducible apply Keeps.putFlag
    | with_reducible apply Keeps.bump | with_reducible apply Keeps.ite | with_reducible apply notice_keeps | split

/-! ### Regs -/

theorem denyAccess_keeps (m : Master) (addr : Nat) (write : Bool) (cause : Nat) {s t : State} (h : Keeps s t) : Keeps s (denyAccess m addr write cause t) := by
  unfold denyAccess
  repeat' first
    | with_reducible exact h | with_reducible exact Keeps.refl _ | intro _ | with_reducible apply Keeps.onlyIf
    | with_reducible apply Keeps.ite | with_reducible apply notice_keeps | with_reducible apply busError_keeps | split

theorem writeGated_keeps (m : Master) (off : Nat) (eff : State → State) (heff : ∀  u, Keeps u (eff  u)) {s t : State} (h : Keeps s t) : Keeps s (writeGated m off eff t) := by
  unfold writeGated
  repeat' first
    | with_reducible exact h | with_reducible exact Keeps.refl _ | intro _ | with_reducible apply Keeps.respond
    | with_reducible apply denyAccess_keeps | with_reducible refine Keeps.trans ?_ (heff _) | split
    | simp only [Keeps.update_iff]

theorem readGated_keeps (m : Master) (off : Nat) (eff : State → State) (heff : ∀  u, Keeps u (eff  u)) {s t : State} (h : Keeps s t) : Keeps s (readGated m off eff t) := by
  unfold readGated
  repeat' first
    | with_reducible exact h | with_reducible exact Keeps.refl _ | intro _ | with_reducible apply denyAccess_keeps
    | with_reducible refine Keeps.trans ?_ (heff _) | split | simp only [Keeps.update_iff]

theorem writeFields_keeps (r : RegRef) (v hw : Nat) {s t : State} (h : Keeps s t) : Keeps s (writeFields r v hw t) := by
  unfold writeFields
  repeat' first
    | with_reducible exact h | with_reducible exact Keeps.refl _ | intro _ | with_reducible apply Keeps.put
    | with_reducible apply Keeps.forAll | with_reducible apply Keeps.ite | split | simp only [Keeps.update_iff]

theorem plainWrite_keeps (m : Master) (off v hw : Nat) (r : RegRef) {s t : State} (h : Keeps s t) : Keeps s (plainWrite m off v hw r t) := by
  unfold plainWrite
  repeat' first
    | with_reducible exact h | with_reducible apply Keeps.ite | with_reducible apply refuse_keeps
    | with_reducible apply writeFields_keeps | split

theorem writeWordHw_keeps (m : Master) (off v hw : Nat) {s t : State} (h : Keeps s t) : Keeps s (writeWordHw m off v hw t) := by
  unfold writeWordHw
  repeat' first
    | with_reducible exact h | with_reducible apply plainWrite_keeps | split | simp only [Keeps.update_iff]

theorem writeWord_keeps (m : Master) (off v : Nat) {s t : State} (h : Keeps s t) : Keeps s (writeWord m off v t) := by
  unfold writeWord
  repeat' first
    | with_reducible exact h | with_reducible apply writeWordHw_keeps

theorem setCauses_keeps (evt en : Fld) (i mask src cls : Nat) {s t : State} (h : Keeps s t) : Keeps s (setCauses evt en i mask src cls t) := by
  unfold setCauses
  repeat' first
    | with_reducible exact h | with_reducible exact Keeps.refl _ | intro _ | with_reducible apply Keeps.put
    | with_reducible apply Keeps.onlyIf | with_reducible apply assertEv_keeps

/-! ### Faults -/

theorem closeWindow_keeps (n : Nat) {s t : State} (h : Keeps s t) : Keeps s (closeWindow n t) := by
  unfold closeWindow
  repeat' first
    | with_reducible exact h | with_reducible apply Keeps.put | with_reducible apply Keeps.ite
    | with_reducible apply raiseAndOpen_keeps | split

theorem execCoalesceWindowClose_keeps (n : Nat) (s : State) : KeepsO s (execCoalesceWindowClose n s) := by
  unfold execCoalesceWindowClose
  repeat' first
    | with_reducible apply KeepsO.next | with_reducible apply KeepsO.ite | with_reducible exact Keeps.refl _ | intro _
    | with_reducible apply closeWindow_keeps

theorem execStormPeriodEnd_keeps (s : State) : KeepsO s (execStormPeriodEnd s) := by
  unfold execStormPeriodEnd
  repeat' first
    | with_reducible apply KeepsO.next | with_reducible apply KeepsO.ite | with_reducible exact Keeps.refl _ | intro _
    | with_reducible apply Keeps.clearAll

theorem releaseStorm_keeps (n : Nat) {s t : State} (h : Keeps s t) : Keeps s (releaseStorm n t) := by
  unfold releaseStorm
  repeat' first
    | with_reducible exact h | with_reducible apply Keeps.put

theorem stormWord_keeps (m : Master) (n v hw : Nat) {s t : State} (h : Keeps s t) : Keeps s (stormWord m n v hw t) := by
  unfold stormWord
  repeat' first
    | with_reducible exact h | with_reducible exact Keeps.refl _ | intro _ | with_reducible apply Keeps.onlyIf
    | with_reducible apply writeWordHw_keeps | with_reducible apply releaseStorm_keeps

theorem execStormRelease_keeps (m : Master) (n v : Nat) (s : State) : KeepsO s (execStormRelease m n v s) := by
  unfold execStormRelease
  repeat' first
    | with_reducible apply KeepsO.next | with_reducible apply KeepsO.ite | with_reducible exact Keeps.refl _ | intro _
    | with_reducible apply writeGated_keeps | with_reducible apply stormWord_keeps

theorem execStormReleaseTimeout_keeps (n : Nat) (s : State) : KeepsO s (execStormReleaseTimeout n s) := by
  unfold execStormReleaseTimeout
  repeat' first
    | with_reducible apply KeepsO.next | with_reducible apply KeepsO.ite | with_reducible exact Keeps.refl _ | intro _
    | with_reducible apply Keeps.onlyIf | with_reducible apply releaseStorm_keeps

theorem forceSource_keeps (n : Nat) {s t : State} (h : Keeps s t) : Keeps s (forceSource n t) := by
  unfold forceSource
  repeat' first
    | with_reducible exact h | with_reducible exact Keeps.refl _ | intro _ | with_reducible apply Keeps.put
    | with_reducible apply assertWith_keeps | with_reducible apply assertStorm_keeps

theorem execForce_keeps (m : Master) (n v : Nat) (s : State) : KeepsO s (execForce m n v s) := by
  unfold execForce
  repeat' first
    | with_reducible apply KeepsO.next | with_reducible apply KeepsO.ite | with_reducible exact Keeps.refl _ | intro _
    | with_reducible apply Keeps.onlyIf | with_reducible apply writeGated_keeps | with_reducible apply writeWord_keeps
    | with_reducible apply forceSource_keeps

theorem takeRecovery_keeps (m : Master) (v : Nat) {s t : State} (h : Keeps s t) : Keeps s (takeRecovery m v t) := by
  unfold takeRecovery
  repeat' first
    | with_reducible exact h | with_reducible exact Keeps.refl _ | intro _ | with_reducible apply Keeps.ite
    | with_reducible apply refuse_keeps | split | simp only [Keeps.update_iff]

theorem doneRecovery_keeps (m : Master) (v : Nat) {s t : State} (h : Keeps s t) : Keeps s (doneRecovery m v t) := by
  unfold doneRecovery
  repeat' first
    | with_reducible exact h | with_reducible exact Keeps.refl _ | intro _ | with_reducible apply Keeps.put
    | with_reducible apply Keeps.ite | with_reducible apply refuse_keeps | split | simp only [Keeps.update_iff]

theorem execRecoveryTake_keeps (m : Master) (v : Nat) (s : State) : KeepsO s (execRecoveryTake m v s) := by
  unfold execRecoveryTake
  repeat' first
    | with_reducible apply KeepsO.next | with_reducible apply KeepsO.ite | with_reducible exact Keeps.refl _ | intro _
    | with_reducible apply writeGated_keeps | with_reducible apply takeRecovery_keeps

theorem execRecoveryOverdue_keeps (s : State) : KeepsO s (execRecoveryOverdue s) := by
  unfold execRecoveryOverdue
  repeat' first
    | with_reducible apply KeepsO.next | with_reducible apply KeepsO.ite | with_reducible exact Keeps.refl _ | intro _
    | with_reducible apply Keeps.put | with_reducible apply Keeps.onlyIf | with_reducible apply notice_keeps

theorem execScrubPassComplete_keeps (k : Nat) (s : State) : KeepsO s (execScrubPassComplete k s) := by
  unfold execScrubPassComplete
  repeat' first
    | with_reducible apply KeepsO.next | with_reducible apply KeepsO.ite | with_reducible exact Keeps.refl _ | intro _
    | with_reducible apply Keeps.put | with_reducible apply Keeps.inc | with_reducible apply Keeps.onlyIf
    | with_reducible apply notice_keeps

theorem failStack_keeps (k : Nat) {s t : State} (h : Keeps s t) : Keeps s (failStack k t) := by
  unfold failStack
  repeat' first
    | with_reducible exact h | with_reducible apply Keeps.put | with_reducible apply assertEv_keeps

theorem execHbmStackFailed_keeps (k : Nat) (training : Bool) (s : State) : KeepsO s (execHbmStackFailed k training s) := by
  unfold execHbmStackFailed
  repeat' first
    | with_reducible apply KeepsO.next | with_reducible apply KeepsO.ite | with_reducible exact Keeps.refl _ | intro _
    | with_reducible apply Keeps.onlyIf | with_reducible apply failStack_keeps

theorem execHbmTempHigh_keeps (k : Nat) (s : State) : KeepsO s (execHbmTempHigh k s) := by
  unfold execHbmTempHigh
  repeat' first
    | with_reducible apply KeepsO.next | with_reducible apply KeepsO.ite | with_reducible exact Keeps.refl _ | intro _
    | with_reducible apply Keeps.put | with_reducible apply Keeps.onlyIf | with_reducible apply notice_keeps

theorem hbmUncorrectable_keeps (k a : Nat) {s t : State} (h : Keeps s t) : Keeps s (hbmUncorrectable k a t) := by
  unfold hbmUncorrectable
  repeat' first
    | with_reducible exact h | with_reducible apply Keeps.put | with_reducible apply Keeps.bump
    | with_reducible apply assertDetail_keeps

theorem hbmCorrected_keeps (k : Nat) {s t : State} (h : Keeps s t) : Keeps s (hbmCorrected k t) := by
  unfold hbmCorrected
  repeat' first
    | with_reducible exact h | with_reducible apply Keeps.bump | with_reducible apply assertEv_keeps

theorem execScrubRead_keeps (k : Nat) (ecc : EccOutcome) (s : State) : KeepsO s (execScrubRead k ecc s) := by
  unfold execScrubRead
  repeat' first
    | with_reducible apply KeepsO.next | with_reducible apply KeepsO.ite | with_reducible exact Keeps.refl _ | intro _
    | with_reducible apply Keeps.put | with_reducible apply Keeps.onlyIf | with_reducible apply hbmUncorrectable_keeps
    | with_reducible apply hbmCorrected_keeps | split | simp only [Keeps.update_iff]

theorem chkCause_keeps (u bit : Nat) {s t : State} (h : Keeps s t) : Keeps s (chkCause u bit t) := by
  unfold chkCause
  repeat' first
    | with_reducible exact h | with_reducible apply setCauses_keeps

theorem chkJudge_keeps (u res : Nat) {s t : State} (h : Keeps s t) : Keeps s (chkJudge u res t) := by
  unfold chkJudge
  repeat' first
    | with_reducible exact h | with_reducible exact Keeps.refl _ | intro _ | with_reducible apply Keeps.put
    | with_reducible apply Keeps.bump | with_reducible apply Keeps.onlyIf | with_reducible apply Keeps.ite
    | with_reducible apply chkCause_keeps | split | simp only [Keeps.update_iff]

theorem execChkPassDone_keeps (u : Nat) (uncorrectable : Bool) (s : State) : KeepsO s (execChkPassDone u uncorrectable s) := by
  unfold execChkPassDone
  repeat' first
    | with_reducible apply KeepsO.next | with_reducible apply KeepsO.ite | with_reducible exact Keeps.refl _ | intro _
    | with_reducible apply Keeps.put | with_reducible apply Keeps.onlyIf | with_reducible apply Keeps.ite
    | with_reducible apply chkCause_keeps | with_reducible apply chkJudge_keeps | split

/-! ### Bus -/

theorem eccNote_keeps (tg : Target) (ecc : EccOutcome) {s t : State} (h : Keeps s t) : Keeps s (eccNote tg ecc t) := by
  unfold eccNote
  repeat' first
    | with_reducible exact h | with_reducible apply Keeps.put | with_reducible apply Keeps.bump
    | with_reducible apply assertDetail_keeps | with_reducible apply notice_keeps | with_reducible apply hbmUncorrectable_keeps
    | with_reducible apply hbmCorrected_keeps | split | simp only [Keeps.update_iff]

theorem eccRead_keeps (tg : Target) (ecc : EccOutcome) (data : Nat) {s t : State} (h : Keeps s t) : Keeps s (eccRead tg ecc data t) := by
  unfold eccRead
  repeat' first
    | with_reducible exact h | with_reducible apply Keeps.respond | with_reducible apply eccNote_keeps

theorem execTargetTimeout_keeps (m : Master) (addr : Nat) (write : Bool) (s : State) : KeepsO s (execTargetTimeout m addr write s) := by
  unfold execTargetTimeout
  repeat' first
    | with_reducible apply KeepsO.next | with_reducible apply KeepsO.ite | with_reducible exact Keeps.refl _ | intro _
    | with_reducible apply notice_keeps | with_reducible apply busError_keeps

theorem execMasterReset_keeps (m : Master) (b : Burst) (s : State) : KeepsO s (execMasterReset m b s) := by
  unfold execMasterReset
  repeat' first
    | with_reducible apply KeepsO.next | with_reducible apply KeepsO.ite | with_reducible exact Keeps.refl _ | intro _
    | with_reducible apply busLost_keeps

theorem endpointReset_keeps {s t : State} (h : Keeps s t) : Keeps s (endpointReset t) := by
  unfold endpointReset
  repeat' first
    | with_reducible exact h | with_reducible apply Keeps.put | with_reducible apply Keeps.clearAll

theorem hostReset_keeps (b : Option Burst) {s t : State} (h : Keeps s t) : Keeps s (hostReset b t) := by
  unfold hostReset
  repeat' first
    | with_reducible exact h | with_reducible apply busLost_keeps | with_reducible apply endpointReset_keeps | split
    | simp only [Keeps.update_iff]

theorem execLinkTrained_keeps (repaired : Nat) (s : State) : KeepsO s (execLinkTrained repaired s) := by
  unfold execLinkTrained
  repeat' first
    | with_reducible apply KeepsO.next | with_reducible apply KeepsO.ite | with_reducible exact Keeps.refl _ | intro _
    | with_reducible apply Keeps.put | with_reducible apply notice_keeps

theorem execLinkRetrain_keeps (repaired : Nat) (s : State) : KeepsO s (execLinkRetrain repaired s) := by
  unfold execLinkRetrain
  repeat' first
    | with_reducible apply KeepsO.next | with_reducible apply KeepsO.ite | with_reducible exact Keeps.refl _ | intro _
    | with_reducible apply Keeps.put | with_reducible apply Keeps.bump | with_reducible apply notice_keeps

theorem execLinkDown_keeps (b : Option Burst) (s : State) : KeepsO s (execLinkDown b s) := by
  unfold execLinkDown
  repeat' first
    | with_reducible apply KeepsO.next | with_reducible apply KeepsO.ite | with_reducible exact Keeps.refl _ | intro _
    | with_reducible apply Keeps.put | with_reducible apply Keeps.bump | with_reducible apply notice_keeps
    | with_reducible apply hostReset_keeps

theorem execHotReset_keeps (b : Option Burst) (s : State) : KeepsO s (execHotReset b s) := by
  unfold execHotReset
  repeat' first
    | with_reducible apply KeepsO.next | with_reducible apply KeepsO.ite | with_reducible exact Keeps.refl _ | intro _
    | with_reducible apply hostReset_keeps

theorem execD3hotEntry_keeps (b : Option Burst) (s : State) : KeepsO s (execD3hotEntry b s) := by
  unfold execD3hotEntry
  repeat' first
    | with_reducible apply KeepsO.next | with_reducible apply KeepsO.ite | with_reducible exact Keeps.refl _ | intro _
    | with_reducible apply Keeps.put | with_reducible apply Keeps.onlyIf | with_reducible apply hostReset_keeps

theorem execReplayThreshold_keeps (n : Nat) (s : State) : KeepsO s (execReplayThreshold n s) := by
  unfold execReplayThreshold
  repeat' first
    | with_reducible apply KeepsO.next | with_reducible apply KeepsO.ite | with_reducible exact Keeps.refl _ | intro _
    | with_reducible apply Keeps.bump | with_reducible apply notice_keeps

theorem releasePending_keeps {s t : State} (h : Keeps s t) : Keeps s (releasePending t) := by
  unfold releasePending
  repeat' first
    | with_reducible exact h | with_reducible exact Keeps.refl _ | intro _ | with_reducible apply Keeps.onlyIf
    | with_reducible apply Keeps.forAll | with_reducible apply msixSend_keeps

theorem execMsixUnmask_keeps (m : Master) (n : Nat) (s : State) : KeepsO s (execMsixUnmask m n s) := by
  unfold execMsixUnmask
  repeat' first
    | with_reducible apply KeepsO.next | with_reducible apply KeepsO.ite | with_reducible exact Keeps.refl _ | intro _
    | with_reducible apply Keeps.put | with_reducible apply Keeps.onlyIf | with_reducible apply msixSend_keeps
    | with_reducible apply writeGated_keeps

theorem execConfigWrite_keeps (bme msixEn funcMask : Bool) (dstate : Nat) (s : State) : KeepsO s (execConfigWrite bme msixEn funcMask dstate s) := by
  unfold execConfigWrite
  repeat' first
    | with_reducible apply KeepsO.next | with_reducible apply KeepsO.ite | with_reducible exact Keeps.refl _ | intro _
    | with_reducible apply Keeps.put | with_reducible apply Keeps.putFlag | with_reducible apply Keeps.onlyIf
    | with_reducible apply Keeps.ite | with_reducible apply hostReset_keeps | with_reducible apply releasePending_keeps | split

theorem mailboxWrite_keeps (m : Master) (b v : Nat) {s t : State} (h : Keeps s t) : Keeps s (mailboxWrite m b v t) := by
  unfold mailboxWrite
  repeat' first
    | with_reducible exact h | with_reducible exact Keeps.refl _ | intro _ | with_reducible apply Keeps.put
    | with_reducible apply Keeps.putFlag | with_reducible apply Keeps.emit | with_reducible apply Keeps.onlyIf
    | with_reducible apply Keeps.ite | with_reducible apply notice_keeps | split

theorem mailboxGated_keeps (m : Master) (b : Nat) (eff : State → State) (heff : ∀  u, Keeps u (eff  u)) {s t : State} (h : Keeps s t) : Keeps s (mailboxGated m b eff t) := by
  unfold mailboxGated
  repeat' first
    | with_reducible exact h | with_reducible exact Keeps.refl _ | intro _ | with_reducible apply Keeps.respond
    | with_reducible apply denyAccess_keeps | with_reducible refine Keeps.trans ?_ (heff _) | split
    | simp only [Keeps.update_iff]

theorem execMbxReq_keeps (m : Master) (b v : Nat) (s : State) : KeepsO s (execMbxReq m b v s) := by
  unfold execMbxReq
  repeat' first
    | with_reducible apply KeepsO.next | with_reducible apply KeepsO.ite | with_reducible exact Keeps.refl _ | intro _
    | with_reducible apply Keeps.onlyIf | with_reducible apply mailboxWrite_keeps | with_reducible apply mailboxGated_keeps

theorem execMbxRsp_keeps (m : Master) (b v : Nat) (s : State) : KeepsO s (execMbxRsp m b v s) := by
  unfold execMbxRsp
  repeat' first
    | with_reducible apply KeepsO.next | with_reducible apply KeepsO.ite | with_reducible exact Keeps.refl _ | intro _
    | with_reducible apply Keeps.onlyIf | with_reducible apply mailboxWrite_keeps | with_reducible apply mailboxGated_keeps

/-! ### Security -/

theorem setDebugLevel_keeps (l : Nat) {s t : State} (h : Keeps s t) : Keeps s (setDebugLevel l t) := by
  unfold setDebugLevel
  repeat' first
    | with_reducible exact h | with_reducible apply Keeps.put | with_reducible apply Keeps.ite
    | with_reducible apply notice_keeps | split

theorem setPower_keeps (p : Nat) {s t : State} (h : Keeps s t) : Keeps s (setPower p t) := by
  unfold setPower
  repeat' first
    | with_reducible exact h | with_reducible apply Keeps.put | with_reducible apply Keeps.putFlag
    | with_reducible apply Keeps.ite | with_reducible apply notice_keeps | split

theorem secRefuse_keeps (code : Nat) (m : Master) {s t : State} (h : Keeps s t) : Keeps s (secRefuse code m t) := by
  unfold secRefuse
  repeat' first
    | with_reducible exact h | with_reducible apply Keeps.put | with_reducible apply Keeps.respond
    | with_reducible apply refuse_keeps

theorem secFail_keeps (code : Nat) (m : Master) {s t : State} (h : Keeps s t) : Keeps s (secFail code m t) := by
  unfold secFail
  repeat' first
    | with_reducible exact h | with_reducible exact Keeps.refl _ | intro _ | with_reducible apply Keeps.put
    | with_reducible apply Keeps.bump | with_reducible apply Keeps.onlyIf | with_reducible apply notice_keeps
    | with_reducible apply secRefuse_keeps

theorem signedCommand_keeps (cmd slot : Nat) (m : Master) (states : List Nat) (needsSignature permitted : Bool) (argument : State → Nat) (eff : State → State) (heff : ∀  u, Keeps u (eff  u)) {s t : State} (h : Keeps s t) : Keeps s (signedCommand cmd slot m states needsSignature permitted argument eff t) := by
  unfold signedCommand
  repeat' first
    | with_reducible exact h | with_reducible exact Keeps.refl _ | intro _ | with_reducible apply Keeps.put
    | with_reducible apply Keeps.ite | with_reducible apply refuse_keeps | with_reducible apply writeGated_keeps
    | with_reducible apply secRefuse_keeps | with_reducible apply secFail_keeps | with_reducible refine Keeps.trans ?_ (heff _)
    | split | simp only [Keeps.update_iff]

theorem unsignedCommand_keeps (m : Master) (states : List Nat) (argument : State → Nat) (eff : State → State) (heff : ∀  u, Keeps u (eff  u)) {s t : State} (h : Keeps s t) : Keeps s (unsignedCommand m states argument eff t) := by
  unfold unsignedCommand
  repeat' first
    | with_reducible exact h | with_reducible exact Keeps.refl _ | intro _ | with_reducible apply Keeps.put
    | with_reducible apply Keeps.ite | with_reducible apply refuse_keeps | with_reducible apply writeGated_keeps
    | with_reducible apply secRefuse_keeps | with_reducible refine Keeps.trans ?_ (heff _) | split

theorem execNonceRead_keeps (m : Master) (s : State) : KeepsO s (execNonceRead m s) := by
  unfold execNonceRead
  repeat' first
    | with_reducible apply KeepsO.next | with_reducible apply KeepsO.ite | with_reducible exact Keeps.refl _ | intro _
    | with_reducible apply Keeps.put | with_reducible apply Keeps.respond | with_reducible apply Keeps.forAll
    | with_reducible apply readGated_keeps | simp only [Keeps.update_iff]

theorem execUnlock_keeps (m : Master) (slot : Nat) (s : State) : KeepsO s (execUnlock m slot s) := by
  unfold execUnlock
  repeat' first
    | with_reducible apply KeepsO.next | with_reducible apply KeepsO.ite | with_reducible exact Keeps.refl _ | intro _
    | with_reducible apply Keeps.ite | with_reducible apply setDebugLevel_keeps | with_reducible apply signedCommand_keeps
    | split

theorem execRelock_keeps (m : Master) (slot : Nat) (s : State) : KeepsO s (execRelock m slot s) := by
  unfold execRelock
  repeat' first
    | with_reducible apply KeepsO.next | with_reducible apply KeepsO.ite | with_reducible exact Keeps.refl _ | intro _
    | with_reducible apply setDebugLevel_keeps | with_reducible apply unsignedCommand_keeps

theorem advanceLifecycle_keeps (lc : Nat) {s t : State} (h : Keeps s t) : Keeps s (advanceLifecycle lc t) := by
  unfold advanceLifecycle
  apply setDebugLevel_keeps
  exact Keeps.fused _ h ⟨Nat.le_max_left _ _, Nat.or_self _, Nat.or_self _, Nat.le_refl _, id, rfl, rfl⟩

theorem execProvision_keeps (m : Master) (slot : Nat) (s : State) : KeepsO s (execProvision m slot s) := by
  unfold execProvision
  apply KeepsO.next
  apply unsignedCommand_keeps
  · intro u
    apply advanceLifecycle_keeps
    exact Keeps.fused _ (Keeps.refl u) ⟨Nat.le_refl _, Keeps.maskWithin_or _ _, Keeps.maskWithin_or _ _, Nat.le_refl _, id, rfl, rfl⟩
  · exact Keeps.refl s

theorem execDeploy_keeps (m : Master) (slot : Nat) (s : State) : KeepsO s (execDeploy m slot s) := by
  unfold execDeploy
  repeat' first
    | with_reducible apply KeepsO.next | with_reducible apply KeepsO.ite | with_reducible exact Keeps.refl _ | intro _
    | with_reducible apply signedCommand_keeps | with_reducible apply advanceLifecycle_keeps

theorem execSecReturn_keeps (m : Master) (slot : Nat) (s : State) : KeepsO s (execSecReturn m slot s) := by
  unfold execSecReturn
  apply KeepsO.next
  apply signedCommand_keeps
  · intro u
    apply advanceLifecycle_keeps
    exact Keeps.fused _ (Keeps.refl u) ⟨Nat.le_refl _, Nat.or_self _, Nat.or_self _, Nat.le_refl _, fun _ => rfl, rfl, rfl⟩
  · exact Keeps.refl s

theorem execRevokeOwner_keeps (m : Master) (slot : Nat) (s : State) : KeepsO s (execRevokeOwner m slot s) := by
  unfold execRevokeOwner
  apply KeepsO.next
  apply signedCommand_keeps
  · intro u
    skip
    exact Keeps.fused _ (Keeps.refl u) ⟨Nat.le_refl _, Keeps.maskWithin_or _ _, Nat.or_self _, Nat.le_refl _, id, rfl, rfl⟩
  · exact Keeps.refl s

theorem execRevokeSafety_keeps (m : Master) (slot : Nat) (s : State) : KeepsO s (execRevokeSafety m slot s) := by
  unfold execRevokeSafety
  apply KeepsO.next
  apply signedCommand_keeps
  · intro u
    skip
    exact Keeps.fused _ (Keeps.refl u) ⟨Nat.le_refl _, Nat.or_self _, Keeps.maskWithin_or _ _, Nat.le_refl _, id, rfl, rfl⟩
  · exact Keeps.refl s

theorem execRaiseFloor_keeps (m : Master) (slot : Nat) (s : State) : KeepsO s (execRaiseFloor m slot s) := by
  unfold execRaiseFloor
  apply KeepsO.next
  apply signedCommand_keeps
  · intro u
    skip
    exact Keeps.fused _ (Keeps.refl u) ⟨Nat.le_refl _, Nat.or_self _, Nat.or_self _, Nat.le_max_left _ _, id, rfl, rfl⟩
  · exact Keeps.refl s

theorem tempReading_keeps (tg : Int) {s t : State} (h : Keeps s t) : Keeps s (tempReading tg t) := by
  unfold tempReading
  repeat' first
    | with_reducible exact h | with_reducible exact Keeps.refl _ | intro _ | with_reducible apply Keeps.put
    | with_reducible apply Keeps.putFlag | with_reducible apply Keeps.onlyIf | with_reducible apply notice_keeps

theorem execTempWarning_keeps (tg : Int) (s : State) : KeepsO s (execTempWarning tg s) := by
  unfold execTempWarning
  repeat' first
    | with_reducible apply KeepsO.next | with_reducible apply KeepsO.ite | with_reducible exact Keeps.refl _ | intro _
    | with_reducible apply tempReading_keeps

theorem execTempCritical_keeps (tg : Int) (s : State) : KeepsO s (execTempCritical tg s) := by
  unfold execTempCritical
  repeat' first
    | with_reducible apply KeepsO.next | with_reducible apply KeepsO.ite | with_reducible exact Keeps.refl _ | intro _
    | with_reducible apply Keeps.onlyIf | with_reducible apply assertEv_keeps | with_reducible apply tempReading_keeps

theorem execClockMonitor_keeps (domains : Nat) (s : State) : KeepsO s (execClockMonitor domains s) := by
  unfold execClockMonitor
  repeat' first
    | with_reducible apply KeepsO.next | with_reducible apply KeepsO.ite | with_reducible exact Keeps.refl _ | intro _
    | with_reducible apply Keeps.put | with_reducible apply Keeps.onlyIf | with_reducible apply assertEv_keeps

theorem execJtagInstruction_keeps (i : JtagIns) (s : State) : KeepsO s (execJtagInstruction i s) := by
  unfold execJtagInstruction
  repeat' first
    | with_reducible apply KeepsO.next | with_reducible apply KeepsO.ite | with_reducible exact Keeps.refl _ | intro _
    | with_reducible apply Keeps.ite | split | simp only [Keeps.update_iff]

/-! ### Queues -/

theorem writeCheck_keeps (q i w : Nat) {s t : State} (h : Keeps s t) : Keeps s (writeCheck q i w t) := by
  unfold writeCheck
  repeat' first
    | with_reducible exact h | with_reducible apply Keeps.memPutBytes

theorem qPutWord_keeps (q p w : Nat) {s t : State} (h : Keeps s t) : Keeps s (qPutWord q p w t) := by
  unfold qPutWord
  repeat' first
    | with_reducible exact h | with_reducible apply Keeps.memPut | with_reducible apply writeCheck_keeps

theorem qPutWords_keeps (q p : Nat) (ws : List Nat) {s t : State} (h : Keeps s t) : Keeps s (qPutWords q p ws t) := by
  induction ws generalizing p t with
  | nil => exact h
  | cons w ws ih => exact ih _ (qPutWord_keeps _ _ _ h)

theorem queueCause_keeps (f : Fld) (q : Nat) {s t : State} (h : Keeps s t) : Keeps s (queueCause f q t) := by
  unfold queueCause
  repeat' first
    | with_reducible exact h | with_reducible exact Keeps.refl _ | intro _ | with_reducible apply Keeps.put
    | with_reducible apply Keeps.onlyIf | with_reducible apply notice_keeps

theorem checkWatermark_keeps (q before : Nat) {s t : State} (h : Keeps s t) : Keeps s (checkWatermark q before t) := by
  unfold checkWatermark
  repeat' first
    | with_reducible exact h | with_reducible exact Keeps.refl _ | intro _ | with_reducible apply Keeps.onlyIf
    | with_reducible apply queueCause_keeps

theorem advanceProd_keeps (q n : Nat) {s t : State} (h : Keeps s t) : Keeps s (advanceProd q n t) := by
  unfold advanceProd
  repeat' first
    | with_reducible exact h | with_reducible apply Keeps.put | with_reducible apply checkWatermark_keeps

theorem advanceCons_keeps (q n : Nat) {s t : State} (h : Keeps s t) : Keeps s (advanceCons q n t) := by
  unfold advanceCons
  repeat' first
    | with_reducible exact h | with_reducible apply Keeps.put

theorem queuePush_keeps (q agent header : Nat) (payload : List Nat) {s t : State} (h : Keeps s t) : Keeps s (queuePush q agent header payload t) := by
  unfold queuePush
  repeat' first
    | with_reducible exact h | with_reducible apply Keeps.bump | with_reducible apply Keeps.ite
    | with_reducible apply qPutWords_keeps | with_reducible apply advanceProd_keeps | split

theorem queuePop_keeps (q : Nat) {s t : State} (h : Keeps s t) : Keeps s (queuePop q t) := by
  unfold queuePop
  repeat' first
    | with_reducible exact h | with_reducible apply Keeps.put | with_reducible apply advanceCons_keeps | split
    | simp only [Keeps.update_iff]

theorem execPktQProd_keeps (m : Master) (q v : Nat) (s : State) : KeepsO s (execPktQProd m q v s) := by
  unfold execPktQProd
  repeat' first
    | with_reducible apply KeepsO.next | with_reducible apply KeepsO.ite | with_reducible exact Keeps.refl _ | intro _
    | with_reducible apply Keeps.ite | with_reducible apply refuse_keeps | with_reducible apply writeGated_keeps
    | with_reducible apply advanceProd_keeps | split

theorem execPktQCons_keeps (m : Master) (q v : Nat) (s : State) : KeepsO s (execPktQCons m q v s) := by
  unfold execPktQCons
  repeat' first
    | with_reducible apply KeepsO.next | with_reducible apply KeepsO.ite | with_reducible exact Keeps.refl _ | intro _
    | with_reducible apply Keeps.ite | with_reducible apply refuse_keeps | with_reducible apply writeGated_keeps
    | with_reducible apply advanceCons_keeps | split

theorem flushed_keeps (q : Nat) {s t : State} (h : Keeps s t) : Keeps s (flushed q t) := by
  unfold flushed
  repeat' first
    | with_reducible exact h | with_reducible apply Keeps.put | with_reducible apply Keeps.inc
    | with_reducible apply queueCause_keeps

theorem softFlushDone_keeps (q : Nat) {s t : State} (h : Keeps s t) : Keeps s (softFlushDone q t) := by
  unfold softFlushDone
  repeat' first
    | with_reducible exact h | with_reducible exact Keeps.refl _ | intro _ | with_reducible apply Keeps.put
    | with_reducible apply flushed_keeps | simp only [Keeps.update_iff]

theorem macCause_keeps (m bit : Nat) {s t : State} (h : Keeps s t) : Keeps s (macCause m bit t) := by
  unfold macCause
  repeat' first
    | with_reducible exact h | with_reducible apply setCauses_keeps

theorem abortFrame_keeps (n : Nat) {s t : State} (h : Keeps s t) : Keeps s (abortFrame n t) := by
  unfold abortFrame
  repeat' first
    | with_reducible exact h | with_reducible apply Keeps.bump | with_reducible apply Keeps.emit
    | with_reducible apply macCause_keeps

theorem stopConsumer_keeps (q : Nat) {s t : State} (h : Keeps s t) : Keeps s (stopConsumer q t) := by
  unfold stopConsumer
  repeat' first
    | with_reducible exact h | with_reducible exact Keeps.refl _ | intro _ | with_reducible apply abortFrame_keeps | split
    | simp only [Keeps.update_iff]

theorem hardFlush_keeps (q : Nat) (byEcc : Bool) {s t : State} (h : Keeps s t) : Keeps s (hardFlush q byEcc t) := by
  unfold hardFlush
  repeat' first
    | with_reducible exact h | with_reducible apply Keeps.put | with_reducible apply Keeps.ite
    | with_reducible apply qPutWord_keeps | with_reducible apply flushed_keeps | with_reducible apply stopConsumer_keeps | split

theorem queueDisabled_keeps (q : Nat) {s t : State} (h : Keeps s t) : Keeps s (queueDisabled q t) := by
  unfold queueDisabled
  repeat' first
    | with_reducible exact h | with_reducible apply Keeps.put | with_reducible apply stopConsumer_keeps

theorem execSoftFlushComplete_keeps (q : Nat) (s : State) : KeepsO s (execSoftFlushComplete q s) := by
  unfold execSoftFlushComplete
  repeat' first
    | with_reducible apply KeepsO.next | with_reducible apply KeepsO.ite | with_reducible exact Keeps.refl _ | intro _
    | with_reducible apply Keeps.onlyIf | with_reducible apply softFlushDone_keeps

theorem memoryWrite_keeps (key size v : Nat) {s t : State} (h : Keeps s t) : Keeps s (memoryWrite key size v t) := by
  unfold memoryWrite
  repeat' first
    | with_reducible exact h | with_reducible exact Keeps.refl _ | intro _ | with_reducible apply Keeps.memPut
    | with_reducible apply Keeps.forAll | with_reducible apply writeCheck_keeps | split | simp only [Keeps.update_iff]

theorem execQueueDataWrite_keeps (m : Master) (a size v : Nat) (s : State) : KeepsO s (execQueueDataWrite m a size v s) := by
  unfold execQueueDataWrite
  repeat' first
    | with_reducible apply KeepsO.next | with_reducible apply KeepsO.ite | with_reducible exact Keeps.refl _ | intro _
    | with_reducible apply Keeps.respond | with_reducible apply denyAccess_keeps | with_reducible apply memoryWrite_keeps | split
    | simp only [Keeps.update_iff]

theorem queueUncorrectable_keeps (q cls : Nat) {s t : State} (h : Keeps s t) : Keeps s (queueUncorrectable q cls t) := by
  unfold queueUncorrectable
  repeat' first
    | with_reducible exact h | with_reducible apply Keeps.bump | with_reducible apply assertEv_keeps
    | with_reducible apply queueCause_keeps

theorem execQueueWordRead_keeps (m : Option Master) (q p : Nat) (ecc : EccOutcome) (s : State) : KeepsO s (execQueueWordRead m q p ecc s) := by
  unfold execQueueWordRead
  repeat' first
    | with_reducible apply KeepsO.next | with_reducible apply KeepsO.ite | with_reducible exact Keeps.refl _ | intro _
    | with_reducible apply Keeps.put | with_reducible apply Keeps.bump | with_reducible apply Keeps.respond
    | with_reducible apply Keeps.onlyIf | with_reducible apply Keeps.ite | with_reducible apply denyAccess_keeps
    | with_reducible apply hardFlush_keeps | with_reducible apply queueUncorrectable_keeps | split | simp only [Keeps.update_iff]

/-! ### Time -/

theorem putTb_keeps (n : Nat) (tg : TimeBase) {s t : State} (h : Keeps s t) : Keeps s (putTb n tg t) := by
  unfold putTb
  repeat' first
    | with_reducible exact h | simp only [Keeps.update_iff]

theorem tbCause_keeps (n bit : Nat) {s t : State} (h : Keeps s t) : Keeps s (tbCause n bit t) := by
  unfold tbCause
  repeat' first
    | with_reducible exact h | with_reducible apply setCauses_keeps

theorem stageInc_keeps (n v : Nat) {s t : State} (h : Keeps s t) : Keeps s (stageInc n v t) := by
  unfold stageInc
  repeat' first
    | with_reducible exact h | with_reducible apply Keeps.put

theorem execIncCommit_keeps (m : Master) (n v : Nat) (s : State) : KeepsO s (execIncCommit m n v s) := by
  unfold execIncCommit
  repeat' first
    | with_reducible apply KeepsO.next | with_reducible apply KeepsO.ite | with_reducible exact Keeps.refl _ | intro _
    | with_reducible apply Keeps.put | with_reducible apply Keeps.onlyIf | with_reducible apply Keeps.ite
    | with_reducible apply refuse_keeps | with_reducible apply writeGated_keeps | split

theorem followInc0_keeps {s t : State} (h : Keeps s t) : Keeps s (followInc0 t) := by
  unfold followInc0
  repeat' first
    | with_reducible exact h | with_reducible exact Keeps.refl _ | intro _ | with_reducible apply Keeps.putFlag
    | with_reducible apply Keeps.onlyIf | with_reducible apply notice_keeps

theorem takeInc_keeps (n : Nat) {s t : State} (h : Keeps s t) : Keeps s (takeInc n t) := by
  unfold takeInc
  repeat' first
    | with_reducible exact h | with_reducible exact Keeps.refl _ | intro _ | with_reducible apply Keeps.put
    | with_reducible apply Keeps.onlyIf | with_reducible apply Keeps.ite | with_reducible apply tbCause_keeps
    | with_reducible apply followInc0_keeps | split

theorem execAlarm_keeps (n : Nat) (s : State) : KeepsO s (execAlarm n s) := by
  unfold execAlarm
  repeat' first
    | with_reducible apply KeepsO.next | with_reducible apply KeepsO.ite | with_reducible exact Keeps.refl _ | intro _
    | with_reducible apply Keeps.put | with_reducible apply Keeps.onlyIf | with_reducible apply tbCause_keeps

theorem alarmBits_keeps (n v : Nat) {s t : State} (h : Keeps s t) : Keeps s (alarmBits n v t) := by
  unfold alarmBits
  repeat' first
    | with_reducible exact h | with_reducible exact Keeps.refl _ | intro _ | with_reducible apply Keeps.put
    | with_reducible apply Keeps.onlyIf

theorem execNowLatch_keeps (m : Master) (n : Nat) (s : State) : KeepsO s (execNowLatch m n s) := by
  unfold execNowLatch
  repeat' first
    | with_reducible apply KeepsO.next | with_reducible apply KeepsO.ite | with_reducible exact Keeps.refl _ | intro _
    | with_reducible apply Keeps.put | with_reducible apply Keeps.respond | with_reducible apply Keeps.onlyIf
    | with_reducible apply readGated_keeps

theorem captureAll_keeps {s t : State} (h : Keeps s t) : Keeps s (captureAll t) := by
  unfold captureAll
  repeat' first
    | with_reducible exact h | with_reducible exact Keeps.refl _ | intro _ | with_reducible apply Keeps.put
    | with_reducible apply Keeps.putFlag | with_reducible apply Keeps.forAll

theorem execSnapshot_keeps (m : Master) (s : State) : KeepsO s (execSnapshot m s) := by
  unfold execSnapshot
  repeat' first
    | with_reducible apply KeepsO.next | with_reducible apply KeepsO.ite | with_reducible exact Keeps.refl _ | intro _
    | with_reducible apply writeGated_keeps | with_reducible apply captureAll_keeps

theorem execDomainWrite_keeps (m : Master) (k v : Nat) (s : State) : KeepsO s (execDomainWrite m k v s) := by
  unfold execDomainWrite
  repeat' first
    | with_reducible apply KeepsO.next | with_reducible apply KeepsO.ite | with_reducible exact Keeps.refl _ | intro _
    | with_reducible apply Keeps.put | with_reducible apply Keeps.onlyIf | with_reducible apply Keeps.ite
    | with_reducible apply refuse_keeps | with_reducible apply writeGated_keeps | split

theorem putCapFifo_keeps (c : Nat) (l : List CapEntry) {s t : State} (h : Keeps s t) : Keeps s (putCapFifo c l t) := by
  unfold putCapFifo
  repeat' first
    | with_reducible exact h | with_reducible exact Keeps.refl _ | intro _ | with_reducible apply Keeps.ite | split
    | simp only [Keeps.update_iff]

theorem captureStamp_keeps (c sixteenths : Nat) (rising : Bool) {s t : State} (h : Keeps s t) : Keeps s (captureStamp c sixteenths rising t) := by
  unfold captureStamp
  repeat' first
    | with_reducible exact h | with_reducible apply Keeps.put | with_reducible apply Keeps.bump | with_reducible apply Keeps.ite
    | with_reducible apply tbCause_keeps | with_reducible apply putCapFifo_keeps | split

theorem execCaptureEdge_keeps (c sixteenths : Nat) (rising : Bool) (s : State) : KeepsO s (execCaptureEdge c sixteenths rising s) := by
  unfold execCaptureEdge
  repeat' first
    | with_reducible apply KeepsO.next | with_reducible apply KeepsO.ite | with_reducible exact Keeps.refl _ | intro _
    | with_reducible apply Keeps.put | with_reducible apply Keeps.onlyIf | with_reducible apply Keeps.ite
    | with_reducible apply captureStamp_keeps | split

theorem execCaptureHeadRead_keeps (m : Master) (c : Nat) (s : State) : KeepsO s (execCaptureHeadRead m c s) := by
  unfold execCaptureHeadRead
  repeat' first
    | with_reducible apply KeepsO.next | with_reducible apply KeepsO.ite | with_reducible exact Keeps.refl _ | intro _
    | with_reducible apply Keeps.put | with_reducible apply Keeps.respond | with_reducible apply Keeps.onlyIf
    | with_reducible apply readGated_keeps | with_reducible apply putCapFifo_keeps | split | simp only [Keeps.update_iff]

/-! ### Boot -/

theorem keepOutside_keeps (r : State) {s t : State} (h : Keeps s t) : Keeps s (keepOutside r t) := by
  unfold keepOutside
  exact Keeps.forAll _ (fun _ _ => Keeps.put _ _ _ (Keeps.put _ _ _ (Keeps.refl _))) (Keeps.put _ _ _ h)

/-- The register store of the reset state is in canonical form on either part. -/
theorem reset_regs_wf (v : Variant) : Store.wf v State.reset.regs = true := by
  cases v <;> decide

theorem rebooted_keeps (keepMemory : Bool) {s t : State} (h : Keeps s t) : Keeps s (rebooted t keepMemory) := by
  refine Keeps.trans h ?_
  unfold rebooted
  apply keepOutside_keeps t
  apply Keeps.put
  apply Keeps.put
  refine ⟨rfl, rfl, Keeps.within_refl _, fun _ => reset_regs_wf _, fun hm => ?_, id⟩
  cases keepMemory
  · rfl
  · exact hm

theorem strapReset_keeps (plane twin keepMemory : Bool) {s t : State} (h : Keeps s t) : Keeps s (strapReset plane twin keepMemory t) := by
  unfold strapReset
  repeat' first
    | with_reducible exact h | with_reducible apply Keeps.putFlag | with_reducible apply rebooted_keeps

theorem renewAddr_keeps {s t : State} (h : Keeps s t) : Keeps s (renewAddr t) := by
  unfold renewAddr
  repeat' first
    | with_reducible exact h | with_reducible apply Keeps.put

theorem deviceResetState_keeps {s t : State} (h : Keeps s t) : Keeps s (deviceResetState t) := by
  unfold deviceResetState
  repeat' first
    | with_reducible exact h | with_reducible exact Keeps.refl _ | intro _ | with_reducible apply Keeps.put
    | with_reducible apply Keeps.forAll | with_reducible apply rebooted_keeps | with_reducible apply renewAddr_keeps
    | simp only [Keeps.update_iff]

theorem genCtrlWrite_keeps (m : Master) (v : Nat) {s t : State} (h : Keeps s t) : Keeps s (genCtrlWrite m v t) := by
  unfold genCtrlWrite
  repeat' first
    | with_reducible exact h | with_reducible apply Keeps.put | with_reducible apply Keeps.ite
    | with_reducible apply deviceResetState_keeps | split

theorem execDeviceReset_keeps (m : Master) (v : Nat) (s : State) : KeepsO s (execDeviceReset m v s) := by
  unfold execDeviceReset
  repeat' first
    | with_reducible apply KeepsO.next | with_reducible apply KeepsO.ite | with_reducible exact Keeps.refl _ | intro _
    | with_reducible apply writeGated_keeps | with_reducible apply genCtrlWrite_keeps

theorem execRemap_keeps (m : Master) (s : State) : KeepsO s (execRemap m s) := by
  unfold execRemap
  repeat' first
    | with_reducible apply KeepsO.next | with_reducible apply KeepsO.ite | with_reducible exact Keeps.refl _ | intro _
    | with_reducible apply writeGated_keeps | with_reducible apply genCtrlWrite_keeps

theorem execStRun_keeps (m : Master) (mask : Nat) (s : State) : KeepsO s (execStRun m mask s) := by
  unfold execStRun
  repeat' first
    | with_reducible apply KeepsO.next | with_reducible apply KeepsO.ite | with_reducible exact Keeps.refl _ | intro _
    | with_reducible apply writeGated_keeps | with_reducible apply genCtrlWrite_keeps

theorem execMemorySetup_keeps (a : SfdpAnswer) (s : State) : KeepsO s (execMemorySetup a s) := by
  unfold execMemorySetup
  repeat' first
    | with_reducible apply KeepsO.next | with_reducible apply KeepsO.ite | with_reducible exact Keeps.refl _ | intro _
    | with_reducible apply Keeps.put | with_reducible apply Keeps.onlyIf | with_reducible apply Keeps.ite
    | with_reducible apply notice_keeps | with_reducible apply renewAddr_keeps | split

theorem setResult_keeps (slot r : Nat) {s t : State} (h : Keeps s t) : Keeps s (setResult slot r t) := by
  unfold setResult
  repeat' first
    | with_reducible exact h | with_reducible apply Keeps.put | with_reducible apply Keeps.ite | split

theorem logCrcFaults_keeps {s t : State} (h : Keeps s t) : Keeps s (logCrcFaults t) := by
  unfold logCrcFaults
  repeat' first
    | with_reducible exact h | with_reducible exact Keeps.refl _ | intro _ | with_reducible apply Keeps.forAll
    | with_reducible apply queueLog_keeps | simp only [Keeps.update_iff]

theorem streamSlot_keeps (slot pass : Nat) {s t : State} (h : Keeps s t) : Keeps s (streamSlot slot pass t) := by
  unfold streamSlot
  repeat' first
    | with_reducible exact h | split | simp only [Keeps.update_iff]

theorem noSlot_keeps {s t : State} (h : Keeps s t) : Keeps s (noSlot t) := by
  unfold noSlot
  repeat' first
    | with_reducible exact h | with_reducible apply Keeps.put | with_reducible apply renewAddr_keeps
    | with_reducible apply logCrcFaults_keeps | simp only [Keeps.update_iff]

theorem execSlotHeadersRead_keeps (s : State) : KeepsO s (execSlotHeadersRead s) := by
  unfold execSlotHeadersRead
  repeat' first
    | with_reducible apply KeepsO.next | with_reducible apply KeepsO.ite | with_reducible exact Keeps.refl _ | intro _
    | with_reducible apply Keeps.put | with_reducible apply Keeps.onlyIf | with_reducible apply Keeps.ite
    | with_reducible apply setResult_keeps | with_reducible apply streamSlot_keeps | with_reducible apply noSlot_keeps | split
    | simp only [Keeps.update_iff]

theorem afterFirstPass_keeps {s t : State} (h : Keeps s t) : Keeps s (afterFirstPass t) := by
  unfold afterFirstPass
  repeat' first
    | with_reducible exact h | with_reducible apply Keeps.ite | with_reducible apply streamSlot_keeps
    | with_reducible apply noSlot_keeps | split

theorem rejectSlot_keeps (outcome : Nat) {s t : State} (h : Keeps s t) : Keeps s (rejectSlot outcome t) := by
  unfold rejectSlot
  repeat' first
    | with_reducible exact h | with_reducible apply Keeps.ite | with_reducible apply setResult_keeps
    | with_reducible apply streamSlot_keeps | with_reducible apply noSlot_keeps | with_reducible apply afterFirstPass_keeps
    | split | simp only [Keeps.update_iff]

theorem takeSlot_keeps (safetyGood : Bool) {s t : State} (h : Keeps s t) : Keeps s (takeSlot safetyGood t) := by
  unfold takeSlot
  repeat' first
    | with_reducible exact h | with_reducible exact Keeps.refl _ | intro _ | with_reducible apply Keeps.put
    | with_reducible apply Keeps.putFlag | with_reducible apply Keeps.forAll | with_reducible apply Keeps.ite
    | with_reducible apply assertEv_keeps | with_reducible apply setResult_keeps | split | simp only [Keeps.update_iff]

theorem placeSection_keeps (k : Nat) (e : SectionEntry) (bs : List Byte) {s t : State} (h : Keeps s t) : Keeps s (placeSection k e bs t) := by
  unfold placeSection
  repeat' first
    | with_reducible exact h | with_reducible exact Keeps.refl _ | intro _ | with_reducible apply Keeps.memPutBytes
    | with_reducible apply Keeps.onlyIf | simp only [Keeps.update_iff]

theorem noteCrc_keeps (e : SectionEntry) {s t : State} (h : Keeps s t) : Keeps s (noteCrc e t) := by
  unfold noteCrc
  repeat' first
    | with_reducible exact h | with_reducible apply Keeps.ite | split | simp only [Keeps.update_iff]

theorem execSectionStreamed_keeps (readError : Bool) (s : State) : KeepsO s (execSectionStreamed readError s) := by
  unfold execSectionStreamed
  repeat' first
    | with_reducible apply KeepsO.next | with_reducible apply KeepsO.ite | with_reducible exact Keeps.refl _ | intro _
    | with_reducible apply Keeps.put | with_reducible apply Keeps.onlyIf | with_reducible apply Keeps.ite
    | with_reducible apply rejectSlot_keeps | with_reducible apply placeSection_keeps | with_reducible apply noteCrc_keeps
    | split | simp only [Keeps.update_iff]

theorem execHbmReady_keeps (fail0 fail1 : Bool) (s : State) : KeepsO s (execHbmReady fail0 fail1 s) := by
  unfold execHbmReady
  repeat' first
    | with_reducible apply KeepsO.next | with_reducible apply KeepsO.ite | with_reducible exact Keeps.refl _ | intro _
    | with_reducible apply Keeps.onlyIf | with_reducible apply failStack_keeps | simp only [Keeps.update_iff]

theorem execSignatureVerify_keeps (s : State) : KeepsO s (execSignatureVerify s) := by
  unfold execSignatureVerify
  repeat' first
    | with_reducible apply KeepsO.next | with_reducible apply KeepsO.ite | with_reducible exact Keeps.refl _ | intro _
    | with_reducible apply Keeps.onlyIf | with_reducible apply Keeps.ite | with_reducible apply setResult_keeps
    | with_reducible apply afterFirstPass_keeps | with_reducible apply rejectSlot_keeps | with_reducible apply takeSlot_keeps
    | split | simp only [Keeps.update_iff]

theorem nvmCommand_keeps (m : Master) (cmd : NvmCmd) (code : Nat) {s t : State} (h : Keeps s t) : Keeps s (nvmCommand m cmd code t) := by
  unfold nvmCommand
  repeat' first
    | with_reducible exact h | with_reducible exact Keeps.refl _ | intro _ | with_reducible apply Keeps.put
    | with_reducible apply Keeps.ite | with_reducible apply refuse_keeps | with_reducible apply writeGated_keeps | split
    | simp only [Keeps.update_iff]

theorem execNvmWritePage_keeps (m : Master) (s : State) : KeepsO s (execNvmWritePage m s) := by
  unfold execNvmWritePage
  repeat' first
    | with_reducible apply KeepsO.next | with_reducible apply KeepsO.ite | with_reducible exact Keeps.refl _ | intro _
    | with_reducible apply nvmCommand_keeps

theorem execNvmReadPage_keeps (m : Master) (s : State) : KeepsO s (execNvmReadPage m s) := by
  unfold execNvmReadPage
  repeat' first
    | with_reducible apply KeepsO.next | with_reducible apply KeepsO.ite | with_reducible exact Keeps.refl _ | intro _
    | with_reducible apply nvmCommand_keeps

theorem execNvmOverwriteHeader_keeps (m : Master) (s : State) : KeepsO s (execNvmOverwriteHeader m s) := by
  unfold execNvmOverwriteHeader
  repeat' first
    | with_reducible apply KeepsO.next | with_reducible apply KeepsO.ite | with_reducible exact Keeps.refl _ | intro _
    | with_reducible apply nvmCommand_keeps

theorem nvmEffect_keeps (w : NvmWork) {s t : State} (h : Keeps s t) : Keeps s (nvmEffect w t) := by
  unfold nvmEffect
  repeat' first
    | with_reducible exact h | with_reducible exact Keeps.refl _ | intro _ | with_reducible apply Keeps.put
    | with_reducible apply Keeps.nvmWrite | with_reducible apply Keeps.forAll | split | simp only [Keeps.update_iff]

theorem execNvmCommandComplete_keeps (s : State) : KeepsO s (execNvmCommandComplete s) := by
  unfold execNvmCommandComplete
  repeat' first
    | with_reducible apply KeepsO.next | with_reducible apply KeepsO.ite | with_reducible exact Keeps.refl _ | intro _
    | with_reducible apply Keeps.put | with_reducible apply Keeps.onlyIf | with_reducible apply nvmEffect_keeps | split
    | simp only [Keeps.update_iff]

/-! ### Enum -/

theorem enumFault_keeps (f : Nat) {s t : State} (h : Keeps s t) : Keeps s (enumFault f t) := by
  unfold enumFault
  repeat' first
    | with_reducible exact h | with_reducible apply Keeps.put | with_reducible apply Keeps.ite
    | with_reducible apply notice_keeps | split

theorem takePosition_keeps (p : Nat) (from_ : Option Nat) {s t : State} (h : Keeps s t) : Keeps s (takePosition p from_ t) := by
  unfold takePosition
  repeat' first
    | with_reducible exact h | with_reducible apply Keeps.put | with_reducible apply renewAddr_keeps
    | simp only [Keeps.update_iff]

theorem threeTokens_keeps (tok : Nat) {s t : State} (h : Keeps s t) : Keeps s (threeTokens tok t) := by
  unfold threeTokens
  repeat' first
    | with_reducible exact h | with_reducible exact Keeps.refl _ | intro _ | with_reducible apply Keeps.emit
    | with_reducible apply Keeps.onlyIf | with_reducible apply Keeps.ite | with_reducible apply enumFault_keeps
    | with_reducible apply takePosition_keeps | split | simp only [Keeps.update_iff]

theorem countBad_keeps (good : Bool) {s t : State} (h : Keeps s t) : Keeps s (countBad good t) := by
  unfold countBad
  repeat' first
    | with_reducible exact h | with_reducible exact Keeps.refl _ | intro _ | with_reducible apply Keeps.onlyIf
    | with_reducible apply Keeps.ite | with_reducible apply enumFault_keeps | split | simp only [Keeps.update_iff]

theorem execEnumToken_keeps (framed : Bool) (tok : Nat) (s : State) : KeepsO s (execEnumToken framed tok s) := by
  unfold execEnumToken
  repeat' first
    | with_reducible apply KeepsO.next | with_reducible apply KeepsO.ite | with_reducible exact Keeps.refl _ | intro _
    | with_reducible apply Keeps.onlyIf | with_reducible apply Keeps.ite | with_reducible apply enumFault_keeps
    | with_reducible apply threeTokens_keeps | with_reducible apply countBad_keeps | split | simp only [Keeps.update_iff]

theorem execEnumTokenSend_keeps (s : State) : KeepsO s (execEnumTokenSend s) := by
  unfold execEnumTokenSend
  repeat' first
    | with_reducible apply KeepsO.next | with_reducible apply KeepsO.ite | with_reducible exact Keeps.refl _ | intro _
    | with_reducible apply Keeps.emit | with_reducible apply Keeps.onlyIf

theorem execEnumInLow_keeps (s : State) : KeepsO s (execEnumInLow s) := by
  unfold execEnumInLow
  repeat' first
    | with_reducible apply KeepsO.next | with_reducible apply KeepsO.ite | with_reducible exact Keeps.refl _ | intro _
    | with_reducible apply Keeps.onlyIf | with_reducible apply takePosition_keeps

theorem execEnumTokenLoss_keeps (s : State) : KeepsO s (execEnumTokenLoss s) := by
  unfold execEnumTokenLoss
  repeat' first
    | with_reducible apply KeepsO.next | with_reducible apply KeepsO.ite | with_reducible exact Keeps.refl _ | intro _
    | with_reducible apply Keeps.onlyIf | with_reducible apply enumFault_keeps

theorem execEnumInHigh_keeps (s : State) : KeepsO s (execEnumInHigh s) := by
  unfold execEnumInHigh
  repeat' first
    | with_reducible apply KeepsO.next | with_reducible apply KeepsO.ite | with_reducible exact Keeps.refl _ | intro _
    | with_reducible apply Keeps.onlyIf | with_reducible apply enumFault_keeps

theorem execEnumTimeout_keeps (s : State) : KeepsO s (execEnumTimeout s) := by
  unfold execEnumTimeout
  repeat' first
    | with_reducible apply KeepsO.next | with_reducible apply KeepsO.ite | with_reducible exact Keeps.refl _ | intro _
    | with_reducible apply Keeps.onlyIf | with_reducible apply enumFault_keeps | simp only [Keeps.update_iff]

theorem execMgmtAnnounce_keeps (s : State) : KeepsO s (execMgmtAnnounce s) := by
  unfold execMgmtAnnounce
  repeat' first
    | with_reducible apply KeepsO.next | with_reducible apply KeepsO.ite | with_reducible exact Keeps.refl _ | intro _
    | with_reducible apply Keeps.emit

theorem execAnnounceReceived_keeps (dst : Nat) (place : Place) (twin : Bool) (s : State) : KeepsO s (execAnnounceReceived dst place twin s) := by
  unfold execAnnounceReceived
  repeat' first
    | with_reducible apply KeepsO.next | with_reducible apply KeepsO.ite | with_reducible exact Keeps.refl _ | intro _
    | with_reducible apply Keeps.onlyIf | with_reducible apply enumFault_keeps

end Sys2Proof.Machine
end

