-- ==== Sys2Proof/Laws/KeepsMedia.lean ====
section
/-!
SUPPORT. Every operation of these files keeps what `Keeps` says: Coding, Lanes, Gaz, Fabric, Cells, Atlas, AudioPorts, Packet.
-/
namespace Sys2Proof.Machine

/-! ### Lanes -/

theorem placeEqTable_keeps {s t : State} (h : Keeps s t) : Keeps s (placeEqTable t) := by
  unfold placeEqTable
  repeat' first
    | with_reducible exact h | with_reducible apply Keeps.after_id | with_reducible apply Keeps.put

theorem applyEq_keeps (l : Nat) {s t : State} (h : Keeps s t) : Keeps s (applyEq l t) := by
  unfold applyEq
  repeat' first
    | with_reducible exact h | with_reducible apply Keeps.put | with_reducible apply Keeps.putFlag
    | with_reducible apply Keeps.ite | split | simp only [Keeps.update_iff]

theorem laneDisabled_keeps (l : Nat) {s t : State} (h : Keeps s t) : Keeps s (laneDisabled l t) := by
  unfold laneDisabled
  repeat' first
    | with_reducible exact h | with_reducible apply Keeps.put

theorem testOut_keeps (l : Nat) {s t : State} (h : Keeps s t) : Keeps s (testOut l t) := by
  unfold testOut
  repeat' first
    | with_reducible exact h | with_reducible exact Keeps.refl _ | intro _ | with_reducible apply Keeps.emit
    | with_reducible apply Keeps.onlyIf

theorem putFreq_keeps (l : Nat) (freq : Int) {s t : State} (h : Keeps s t) : Keeps s (putFreq l freq t) := by
  unfold putFreq
  repeat' first
    | with_reducible exact h | with_reducible apply Keeps.put

theorem laneCause_keeps (l mask cls : Nat) {s t : State} (h : Keeps s t) : Keeps s (laneCause l mask cls t) := by
  unfold laneCause
  repeat' first
    | with_reducible exact h | with_reducible apply setCauses_keeps

theorem losSet_keeps (l : Nat) {s t : State} (h : Keeps s t) : Keeps s (losSet l t) := by
  unfold losSet
  repeat' first
    | with_reducible exact h | with_reducible apply Keeps.put | with_reducible apply Keeps.ite
    | with_reducible apply laneCause_keeps | split

theorem lockChange_keeps (l : Nat) (lock : Bool) {s t : State} (h : Keeps s t) : Keeps s (lockChange l lock t) := by
  unfold lockChange
  repeat' first
    | with_reducible exact h | with_reducible apply Keeps.putFlag | with_reducible apply laneCause_keeps

theorem execLosClear_keeps (l : Nat) (freq : Int) (s : State) : KeepsO s (execLosClear l freq s) := by
  unfold execLosClear
  repeat' first
    | with_reducible apply KeepsO.next | with_reducible apply KeepsO.ite | with_reducible exact Keeps.refl _ | intro _
    | with_reducible apply Keeps.put | with_reducible apply Keeps.onlyIf | with_reducible apply putFreq_keeps
    | with_reducible apply laneCause_keeps

theorem execQuadPllLock_keeps (q : Nat) (s : State) : KeepsO s (execQuadPllLock q s) := by
  unfold execQuadPllLock
  repeat' first
    | with_reducible apply KeepsO.next | with_reducible apply KeepsO.ite | with_reducible exact Keeps.refl _ | intro _
    | with_reducible apply Keeps.put | with_reducible apply Keeps.onlyIf | with_reducible apply Keeps.forAll
    | with_reducible apply testOut_keeps

theorem execQuadPllLoss_keeps (q : Nat) (s : State) : KeepsO s (execQuadPllLoss q s) := by
  unfold execQuadPllLoss
  repeat' first
    | with_reducible apply KeepsO.next | with_reducible apply KeepsO.ite | with_reducible exact Keeps.refl _ | intro _
    | with_reducible apply Keeps.put | with_reducible apply Keeps.onlyIf | with_reducible apply Keeps.forAll
    | with_reducible apply laneCause_keeps

theorem discardEntry_keeps (l line first count : Nat) {s t : State} (h : Keeps s t) : Keeps s (discardEntry l line first count t) := by
  unfold discardEntry
  repeat' first
    | with_reducible exact h | with_reducible apply Keeps.bump | split | simp only [Keeps.update_iff]

theorem rxqEntry_keeps (l drained wrong line first count : Nat) {s t : State} (h : Keeps s t) : Keeps s (rxqEntry l drained wrong line first count t) := by
  unfold rxqEntry
  repeat' first
    | with_reducible exact h | with_reducible apply Keeps.put | with_reducible apply Keeps.bump | with_reducible apply Keeps.ite
    | with_reducible apply laneCause_keeps | with_reducible apply discardEntry_keeps | split | simp only [Keeps.update_iff]

theorem execRxqEntry_keeps (l : Nat) (e : RxqEvent) (s : State) : KeepsO s (execRxqEntry l e s) := by
  unfold execRxqEntry
  repeat' first
    | with_reducible apply KeepsO.next | with_reducible apply KeepsO.ite | with_reducible exact Keeps.refl _ | intro _
    | with_reducible apply Keeps.bump | with_reducible apply Keeps.onlyIf | with_reducible apply laneCause_keeps
    | with_reducible apply rxqEntry_keeps | split | simp only [Keeps.update_iff]

theorem prbsBit_keeps (l : Nat) (b : Bool) {s t : State} (h : Keeps s t) : Keeps s (prbsBit l b t) := by
  unfold prbsBit
  repeat' first
    | with_reducible exact h | with_reducible exact Keeps.refl _ | intro _ | with_reducible apply Keeps.put
    | with_reducible apply Keeps.bump | with_reducible apply Keeps.onlyIf | with_reducible apply Keeps.ite
    | with_reducible apply laneCause_keeps | split

theorem execPrbsCheckerLock_keeps (l : Nat) (bits : List Bool) (s : State) : KeepsO s (execPrbsCheckerLock l bits s) := by
  unfold execPrbsCheckerLock
  repeat' first
    | with_reducible apply KeepsO.next | with_reducible apply KeepsO.ite | with_reducible exact Keeps.refl _ | intro _
    | with_reducible apply Keeps.onlyIf | with_reducible apply Keeps.forAll | with_reducible apply prbsBit_keeps

theorem laneTestWrite_keeps (m : Master) (l v : Nat) {s t : State} (h : Keeps s t) : Keeps s (laneTestWrite m l v t) := by
  unfold laneTestWrite
  repeat' first
    | with_reducible exact h | with_reducible apply Keeps.put | with_reducible apply Keeps.ite
    | with_reducible apply refuse_keeps | with_reducible apply testOut_keeps | split

/-! ### Gaz -/

theorem ctlEmit_keeps (p : Nat) (msg : FabMsg) {s t : State} (h : Keeps s t) : Keeps s (ctlEmit p msg t) := by
  unfold ctlEmit
  repeat' first
    | with_reducible exact h | with_reducible apply Keeps.inc | with_reducible apply Keeps.emit

theorem ctlSend_keeps (p : Nat) (msg : FabMsg) {s t : State} (h : Keeps s t) : Keeps s (ctlSend p msg t) := by
  unfold ctlSend
  repeat' first
    | with_reducible exact h | with_reducible exact Keeps.refl _ | intro _ | with_reducible apply Keeps.onlyIf
    | with_reducible apply ctlEmit_keeps

theorem ctlTo_keeps (pos : Nat) (msg : FabMsg) {s t : State} (h : Keeps s t) : Keeps s (ctlTo pos msg t) := by
  unfold ctlTo
  repeat' first
    | with_reducible exact h | with_reducible apply ctlSend_keeps

theorem ctlAll_keeps (msg : FabMsg) {s t : State} (h : Keeps s t) : Keeps s (ctlAll msg t) := by
  unfold ctlAll
  repeat' first
    | with_reducible exact h | with_reducible exact Keeps.refl _ | intro _ | with_reducible apply Keeps.forAll
    | with_reducible apply ctlSend_keeps

theorem putGazWord_keeps (n k v : Nat) {s t : State} (h : Keeps s t) : Keeps s (putGazWord n k v t) := by
  unfold putGazWord
  repeat' first
    | with_reducible exact h | with_reducible apply Keeps.put | split | simp only [Keeps.update_iff]

theorem takeEntry_keeps (e : GazEntry) {s t : State} (h : Keeps s t) : Keeps s (takeEntry e t) := by
  unfold takeEntry
  repeat' first
    | with_reducible exact h | with_reducible exact Keeps.refl _ | intro _ | with_reducible apply Keeps.put
    | with_reducible apply Keeps.forAll | with_reducible apply putGazWord_keeps

theorem foreignWrite_keeps {s t : State} (h : Keeps s t) : Keeps s (foreignWrite t) := by
  unfold foreignWrite
  repeat' first
    | with_reducible exact h | with_reducible apply Keeps.bump

theorem judgeInput_keeps (i : Nat) {s t : State} (h : Keeps s t) : Keeps s (judgeInput i t) := by
  unfold judgeInput
  repeat' first
    | with_reducible exact h | with_reducible exact Keeps.refl _ | intro _ | with_reducible apply Keeps.put
    | with_reducible apply Keeps.onlyIf | with_reducible apply Keeps.ite | with_reducible apply notice_keeps | split

theorem judgeLane_keeps (l : Nat) {s t : State} (h : Keeps s t) : Keeps s (judgeLane l t) := by
  unfold judgeLane
  repeat' first
    | with_reducible exact h | with_reducible exact Keeps.refl _ | intro _ | with_reducible apply Keeps.onlyIf
    | with_reducible apply judgeInput_keeps

theorem judgeFormat_keeps (i : Nat) {s t : State} (h : Keeps s t) : Keeps s (judgeFormat i t) := by
  unfold judgeFormat
  repeat' first
    | with_reducible exact h | with_reducible exact Keeps.refl _ | intro _ | with_reducible apply Keeps.putFlag
    | with_reducible apply Keeps.onlyIf | with_reducible apply notice_keeps

theorem detectFormat_keeps (i f d : Nat) {s t : State} (h : Keeps s t) : Keeps s (detectFormat i f d t) := by
  unfold detectFormat
  repeat' first
    | with_reducible exact h | with_reducible apply Keeps.put | with_reducible apply judgeFormat_keeps

theorem checkStore_keeps (n : Nat) {s t : State} (h : Keeps s t) : Keeps s (checkStore n t) := by
  unfold checkStore
  repeat' first
    | with_reducible exact h | with_reducible exact Keeps.refl _ | intro _ | with_reducible apply Keeps.put
    | with_reducible apply Keeps.onlyIf | with_reducible apply judgeInput_keeps | with_reducible apply judgeFormat_keeps

theorem publishSketch_keeps (n : Nat) {s t : State} (h : Keeps s t) : Keeps s (publishSketch n t) := by
  unfold publishSketch
  repeat' first
    | with_reducible exact h | with_reducible exact Keeps.refl _ | intro _ | with_reducible apply Keeps.put
    | with_reducible apply Keeps.onlyIf

theorem execGazStageWrite_keeps (m : Master) (n w v : Nat) (s : State) : KeepsO s (execGazStageWrite m n w v s) := by
  unfold execGazStageWrite
  repeat' first
    | with_reducible apply KeepsO.next | with_reducible apply KeepsO.ite | with_reducible exact Keeps.refl _ | intro _
    | with_reducible apply Keeps.put | with_reducible apply Keeps.ite | with_reducible apply writeGated_keeps
    | with_reducible apply foreignWrite_keeps | split

theorem publish_keeps (n v : Nat) {s t : State} (h : Keeps s t) : Keeps s (publish n v t) := by
  unfold publish
  repeat' first
    | with_reducible exact h | with_reducible exact Keeps.refl _ | intro _ | with_reducible apply Keeps.put
    | with_reducible apply Keeps.inc | with_reducible apply Keeps.onlyIf | with_reducible apply Keeps.forAll
    | with_reducible apply putGazWord_keeps | with_reducible apply checkStore_keeps | with_reducible apply publishSketch_keeps

theorem execGazPublish_keeps (m : Master) (n v : Nat) (s : State) : KeepsO s (execGazPublish m n v s) := by
  unfold execGazPublish
  repeat' first
    | with_reducible apply KeepsO.next | with_reducible apply KeepsO.ite | with_reducible exact Keeps.refl _ | intro _
    | with_reducible apply Keeps.ite | with_reducible apply writeGated_keeps | with_reducible apply foreignWrite_keeps
    | with_reducible apply publish_keeps | split

theorem resyncEmit_keeps (kind index : Nat) (data : List Byte) {s t : State} (h : Keeps s t) : Keeps s (resyncEmit kind index data t) := by
  unfold resyncEmit
  repeat' first
    | with_reducible exact h | with_reducible apply Keeps.inc | with_reducible apply Keeps.emit

theorem execGazEntrySend_keeps (n : Nat) (s : State) : KeepsO s (execGazEntrySend n s) := by
  unfold execGazEntrySend
  repeat' first
    | with_reducible apply KeepsO.next | with_reducible apply KeepsO.ite | with_reducible exact Keeps.refl _ | intro _
    | with_reducible apply Keeps.put | with_reducible apply Keeps.onlyIf | with_reducible apply ctlAll_keeps
    | with_reducible apply resyncEmit_keeps

theorem noteFetched_keeps (n : Nat) {s t : State} (h : Keeps s t) : Keeps s (noteFetched n t) := by
  unfold noteFetched
  repeat' first
    | with_reducible exact h | with_reducible exact Keeps.refl _ | intro _ | with_reducible apply Keeps.put
    | with_reducible apply Keeps.ite | split | simp only [Keeps.update_iff]

theorem execGazEntry_keeps (e : GazEntry) (refresh : Bool) (s : State) : KeepsO s (execGazEntry e refresh s) := by
  unfold execGazEntry
  repeat' first
    | with_reducible apply KeepsO.next | with_reducible apply KeepsO.ite | with_reducible exact Keeps.refl _ | intro _
    | with_reducible apply Keeps.onlyIf | with_reducible apply takeEntry_keeps | with_reducible apply noteFetched_keeps

theorem execGazDigestSend_keeps (s : State) : KeepsO s (execGazDigestSend s) := by
  unfold execGazDigestSend
  repeat' first
    | with_reducible apply KeepsO.next | with_reducible apply KeepsO.ite | with_reducible exact Keeps.refl _ | intro _
    | with_reducible apply Keeps.onlyIf | with_reducible apply ctlAll_keeps

theorem setStale_keeps (pos : Nat) (b : Bool) {s t : State} (h : Keeps s t) : Keeps s (setStale pos b t) := by
  unfold setStale
  repeat' first
    | with_reducible exact h | with_reducible exact Keeps.refl _ | intro _ | with_reducible apply Keeps.putFlag
    | with_reducible apply Keeps.forAll

theorem execGazDigest_keeps (p digest : Nat) (s : State) : KeepsO s (execGazDigest p digest s) := by
  unfold execGazDigest
  repeat' first
    | with_reducible apply KeepsO.next | with_reducible apply KeepsO.ite | with_reducible exact Keeps.refl _ | intro _
    | with_reducible apply Keeps.put | with_reducible apply Keeps.onlyIf | with_reducible apply Keeps.ite
    | with_reducible apply notice_keeps | with_reducible apply ctlSend_keeps | with_reducible apply setStale_keeps | split
    | simp only [Keeps.update_iff]

theorem execGazFetch_keeps (p : Nat) (s : State) : KeepsO s (execGazFetch p s) := by
  unfold execGazFetch
  repeat' first
    | with_reducible apply KeepsO.next | with_reducible apply KeepsO.ite | with_reducible exact Keeps.refl _ | intro _
    | with_reducible apply Keeps.onlyIf | with_reducible apply Keeps.forAll | with_reducible apply ctlSend_keeps

theorem execGazFetchRetry_keeps (p : Nat) (s : State) : KeepsO s (execGazFetchRetry p s) := by
  unfold execGazFetchRetry
  repeat' first
    | with_reducible apply KeepsO.next | with_reducible apply KeepsO.ite | with_reducible exact Keeps.refl _ | intro _
    | with_reducible apply Keeps.onlyIf | with_reducible apply ctlSend_keeps | split

theorem positionLost_keeps (pos : Nat) {s t : State} (h : Keeps s t) : Keeps s (positionLost pos t) := by
  unfold positionLost
  repeat' first
    | with_reducible exact h | with_reducible exact Keeps.refl _ | intro _ | with_reducible apply Keeps.put
    | with_reducible apply Keeps.onlyIf | with_reducible apply notice_keeps | with_reducible apply setStale_keeps
    | simp only [Keeps.update_iff]

/-! ### Fabric -/

theorem renewCeiling_keeps (p : Nat) {s t : State} (h : Keeps s t) : Keeps s (renewCeiling p t) := by
  unfold renewCeiling
  repeat' first
    | with_reducible exact h | with_reducible exact Keeps.refl _ | intro _ | with_reducible apply Keeps.put
    | with_reducible apply Keeps.onlyIf | with_reducible apply Keeps.ite | with_reducible apply notice_keeps | split

theorem laneChanged_keeps (l : Nat) {s t : State} (h : Keeps s t) : Keeps s (laneChanged l t) := by
  unfold laneChanged
  repeat' first
    | with_reducible exact h | with_reducible exact Keeps.refl _ | intro _ | with_reducible apply Keeps.onlyIf
    | with_reducible apply renewCeiling_keeps

theorem mapRx_keeps (p : RxStream → Bool) (f : RxStream → RxStream) {s t : State} (h : Keeps s t) : Keeps s (mapRx p f t) := by
  unfold mapRx
  repeat' first
    | with_reducible exact h | with_reducible exact Keeps.refl _ | intro _ | with_reducible apply Keeps.ite | split
    | simp only [Keeps.update_iff]

theorem mapRxSlot_keeps (n : Nat) (f : RxStream → RxStream) {s t : State} (h : Keeps s t) : Keeps s (mapRxSlot n f t) := by
  unfold mapRxSlot
  repeat' first
    | with_reducible exact h | with_reducible exact Keeps.refl _ | intro _ | with_reducible apply mapRx_keeps

theorem mapTx_keeps (n : Nat) (f : TxStream → TxStream) {s t : State} (h : Keeps s t) : Keeps s (mapTx n f t) := by
  unfold mapTx
  repeat' first
    | with_reducible exact h | with_reducible exact Keeps.refl _ | intro _ | with_reducible apply Keeps.ite | split
    | simp only [Keeps.update_iff]

theorem rebindField_keeps (f : Fld) (a b : Nat) {s t : State} (h : Keeps s t) : Keeps s (rebindField f a b t) := by
  unfold rebindField
  repeat' first
    | with_reducible exact h | with_reducible exact Keeps.refl _ | intro _ | with_reducible apply Keeps.put
    | with_reducible apply Keeps.onlyIf | with_reducible apply Keeps.forAll

theorem rebind_keeps (a b : Nat) {s t : State} (h : Keeps s t) : Keeps s (rebind a b t) := by
  unfold rebind
  repeat' first
    | with_reducible exact h | with_reducible apply rebindField_keeps

theorem freeRx_keeps (p : RxStream → Bool) {s t : State} (h : Keeps s t) : Keeps s (freeRx p t) := by
  unfold freeRx
  repeat' first
    | with_reducible exact h | with_reducible exact Keeps.refl _ | intro _ | with_reducible apply Keeps.forAll
    | with_reducible apply rebind_keeps | simp only [Keeps.update_iff]

theorem bindRx_keeps (who : Asker) (n : Nat) {s t : State} (h : Keeps s t) : Keeps s (bindRx who n t) := by
  unfold bindRx
  repeat' first
    | with_reducible exact h | with_reducible apply Keeps.put | split | simp only [Keeps.update_iff]

theorem codingReason_keeps (d code : Nat) {s t : State} (h : Keeps s t) : Keeps s (codingReason d code t) := by
  unfold codingReason
  repeat' first
    | with_reducible exact h | with_reducible apply Keeps.put

theorem noteRefusal_keeps (kind src : Nat) (drafts lives : List Nat) (code fromHome : Nat) {s t : State} (h : Keeps s t) : Keeps s (noteRefusal kind src drafts lives code fromHome t) := by
  unfold noteRefusal
  repeat' first
    | with_reducible exact h | with_reducible exact Keeps.refl _ | intro _ | with_reducible apply Keeps.put
    | with_reducible apply Keeps.onlyIf | with_reducible apply Keeps.forAll | with_reducible apply Keeps.ite
    | with_reducible apply notice_keeps | with_reducible apply setCauses_keeps | with_reducible apply codingReason_keeps | split

theorem noteAsker_keeps (kind src : Nat) (who : Asker) (code : Nat) {s t : State} (h : Keeps s t) : Keeps s (noteAsker kind src who code t) := by
  unfold noteAsker
  repeat' first
    | with_reducible exact h | with_reducible apply noteRefusal_keeps | split | simp only [Keeps.update_iff]

theorem noteEntry_keeps (r : RxStream) (code fromHome : Nat) {s t : State} (h : Keeps s t) : Keeps s (noteEntry r code fromHome t) := by
  unfold noteEntry
  repeat' first
    | with_reducible exact h | with_reducible exact Keeps.refl _ | intro _ | with_reducible apply noteRefusal_keeps

theorem clearReasons_keeps (r : RxStream) {s t : State} (h : Keeps s t) : Keeps s (clearReasons r t) := by
  unfold clearReasons
  repeat' first
    | with_reducible exact h | with_reducible exact Keeps.refl _ | intro _ | with_reducible apply Keeps.put
    | with_reducible apply Keeps.forAll | with_reducible apply Keeps.ite | split

theorem failRequest_keeps (r : RxStream) (code fromHome : Nat) (silent : Bool) {s t : State} (h : Keeps s t) : Keeps s (failRequest r code fromHome silent t) := by
  unfold failRequest
  repeat' first
    | with_reducible exact h | with_reducible exact Keeps.refl _ | intro _ | with_reducible apply Keeps.onlyIf
    | with_reducible apply Keeps.ite | with_reducible apply notice_keeps | with_reducible apply mapRxSlot_keeps
    | with_reducible apply freeRx_keeps | with_reducible apply noteEntry_keeps | split | simp only [Keeps.update_iff]

theorem refuseAtOnce_keeps (kind src : Nat) (who : Asker) (code : Nat) {s t : State} (h : Keeps s t) : Keeps s (refuseAtOnce kind src who code t) := by
  unfold refuseAtOnce
  repeat' first
    | with_reducible exact h | with_reducible apply notice_keeps | with_reducible apply noteAsker_keeps

theorem nextReq_keeps {s t : State} (h : Keeps s t) : Keeps s (nextReq t) := by
  unfold nextReq
  repeat' first
    | with_reducible exact h | with_reducible apply Keeps.inc

theorem freshCounts_keeps (n : Nat) {s t : State} (h : Keeps s t) : Keeps s (freshCounts n t) := by
  unfold freshCounts
  repeat' first
    | with_reducible exact h | with_reducible exact Keeps.refl _ | intro _ | with_reducible apply Keeps.put
    | with_reducible apply Keeps.forAll

theorem forgetCounts_keeps (n : Nat) {s t : State} (h : Keeps s t) : Keeps s (forgetCounts n t) := by
  unfold forgetCounts
  repeat' first
    | with_reducible exact h | with_reducible apply Keeps.put | with_reducible apply freshCounts_keeps

theorem clearDecoder_keeps (n : Nat) {s t : State} (h : Keeps s t) : Keeps s (clearDecoder n t) := by
  unfold clearDecoder
  repeat' first
    | with_reducible exact h | with_reducible exact Keeps.refl _ | intro _ | with_reducible apply Keeps.put
    | with_reducible apply Keeps.forAll | with_reducible apply forgetCounts_keeps

theorem reRequest_keeps (r : RxStream) (maxCoding : Nat) {s t : State} (h : Keeps s t) : Keeps s (reRequest r maxCoding t) := by
  unfold reRequest
  repeat' first
    | with_reducible exact h | with_reducible exact Keeps.refl _ | intro _ | with_reducible apply mapRxSlot_keeps
    | with_reducible apply clearReasons_keeps | with_reducible apply nextReq_keeps | with_reducible apply forgetCounts_keeps
    | simp only [Keeps.update_iff]

theorem askRunning_keeps (r : RxStream) (maxCoding : Nat) {s t : State} (h : Keeps s t) : Keeps s (askRunning r maxCoding t) := by
  unfold askRunning
  repeat' first
    | with_reducible exact h | with_reducible exact Keeps.refl _ | intro _ | with_reducible apply mapRxSlot_keeps
    | with_reducible apply nextReq_keeps | simp only [Keeps.update_iff]

theorem joinStream_keeps (r : RxStream) (who : Asker) {s t : State} (h : Keeps s t) : Keeps s (joinStream r who t) := by
  unfold joinStream
  repeat' first
    | with_reducible exact h | with_reducible exact Keeps.refl _ | intro _ | with_reducible apply Keeps.onlyIf
    | with_reducible apply Keeps.ite | with_reducible apply mapRxSlot_keeps | with_reducible apply bindRx_keeps
    | with_reducible apply askRunning_keeps | split | simp only [Keeps.update_iff]

theorem openRequest_keeps (kind src home maxCoding fs : Nat) (who : Asker) {s t : State} (h : Keeps s t) : Keeps s (openRequest kind src home maxCoding fs who t) := by
  unfold openRequest
  repeat' first
    | with_reducible exact h | with_reducible exact Keeps.refl _ | intro _ | with_reducible apply Keeps.put
    | with_reducible apply Keeps.onlyIf | with_reducible apply Keeps.ite | with_reducible apply notice_keeps
    | with_reducible apply bindRx_keeps | with_reducible apply refuseAtOnce_keeps | with_reducible apply nextReq_keeps
    | with_reducible apply clearDecoder_keeps | split | simp only [Keeps.update_iff]

theorem requestStream_keeps (kind src home maxCoding fs : Nat) (who : Asker) {s t : State} (h : Keeps s t) : Keeps s (requestStream kind src home maxCoding fs who t) := by
  unfold requestStream
  repeat' first
    | with_reducible exact h | with_reducible exact Keeps.refl _ | intro _ | with_reducible apply Keeps.ite
    | with_reducible apply bindRx_keeps | with_reducible apply refuseAtOnce_keeps | with_reducible apply reRequest_keeps
    | with_reducible apply joinStream_keeps | with_reducible apply openRequest_keeps | split | simp only [Keeps.update_iff]

theorem afterAnswer_keeps (kind src home : Nat) {s t : State} (h : Keeps s t) : Keeps s (afterAnswer kind src home t) := by
  unfold afterAnswer
  repeat' first
    | with_reducible exact h | with_reducible exact Keeps.refl _ | intro _ | with_reducible apply Keeps.forAll
    | with_reducible apply requestStream_keeps | simp only [Keeps.update_iff]

theorem requestDraft_keeps (d : Nat) {s t : State} (h : Keeps s t) : Keeps s (requestDraft d t) := by
  unfold requestDraft
  repeat' first
    | with_reducible exact h | with_reducible exact Keeps.refl _ | intro _ | with_reducible apply Keeps.onlyIf
    | with_reducible apply requestStream_keeps

theorem requestLiveOf_keeps (d : Nat) {s t : State} (h : Keeps s t) : Keeps s (requestLiveOf d t) := by
  unfold requestLiveOf
  repeat' first
    | with_reducible exact h | with_reducible exact Keeps.refl _ | intro _ | with_reducible apply Keeps.onlyIf
    | with_reducible apply requestStream_keeps

theorem askAgain_keeps (r : RxStream) {s t : State} (h : Keeps s t) : Keeps s (askAgain r t) := by
  unfold askAgain
  repeat' first
    | with_reducible exact h | with_reducible exact Keeps.refl _ | intro _ | with_reducible apply Keeps.onlyIf
    | with_reducible apply rebind_keeps | with_reducible apply freeRx_keeps | with_reducible apply reRequest_keeps
    | with_reducible apply joinStream_keeps | split | simp only [Keeps.update_iff]

theorem askPass_keeps (r : RxStream) {s t : State} (h : Keeps s t) : Keeps s (askPass r t) := by
  unfold askPass
  repeat' first
    | with_reducible exact h | with_reducible exact Keeps.refl _ | intro _ | with_reducible apply Keeps.forAll
    | with_reducible apply requestDraft_keeps | with_reducible apply requestLiveOf_keeps

theorem execSubReqSend_keeps (n : Nat) (s : State) : KeepsO s (execSubReqSend n s) := by
  unfold execSubReqSend
  repeat' first
    | with_reducible apply KeepsO.next | with_reducible apply KeepsO.ite | with_reducible exact Keeps.refl _ | intro _
    | with_reducible apply Keeps.onlyIf | with_reducible apply Keeps.ite | with_reducible apply ctlTo_keeps
    | with_reducible apply mapRxSlot_keeps | split | simp only [Keeps.update_iff]

theorem grantEntry_keeps (r : RxStream) (coding waypoint first : Nat) {s t : State} (h : Keeps s t) : Keeps s (grantEntry r coding waypoint first t) := by
  unfold grantEntry
  repeat' first
    | with_reducible exact h | with_reducible exact Keeps.refl _ | intro _ | with_reducible apply Keeps.ite
    | with_reducible apply mapRxSlot_keeps | with_reducible apply rebind_keeps | with_reducible apply freeRx_keeps | split
    | simp only [Keeps.update_iff]

theorem execSubGrant_keeps (reqNo coding waypoint first : Nat) (s : State) : KeepsO s (execSubGrant reqNo coding waypoint first s) := by
  unfold execSubGrant
  repeat' first
    | with_reducible apply KeepsO.next | with_reducible apply KeepsO.ite | with_reducible exact Keeps.refl _ | intro _
    | with_reducible apply Keeps.onlyIf | with_reducible apply clearReasons_keeps | with_reducible apply afterAnswer_keeps
    | with_reducible apply askPass_keeps | with_reducible apply grantEntry_keeps | split | simp only [Keeps.update_iff]

theorem execSubRefuse_keeps (reqNo reason codingReason : Nat) (s : State) : KeepsO s (execSubRefuse reqNo reason codingReason s) := by
  unfold execSubRefuse
  repeat' first
    | with_reducible apply KeepsO.next | with_reducible apply KeepsO.ite | with_reducible exact Keeps.refl _ | intro _
    | with_reducible apply codingReason_keeps | with_reducible apply failRequest_keeps | with_reducible apply afterAnswer_keeps
    | split | simp only [Keeps.update_iff]

theorem execSubReqTimeout_keeps (n : Nat) (s : State) : KeepsO s (execSubReqTimeout n s) := by
  unfold execSubReqTimeout
  repeat' first
    | with_reducible apply KeepsO.next | with_reducible apply KeepsO.ite | with_reducible exact Keeps.refl _ | intro _
    | with_reducible apply failRequest_keeps | with_reducible apply afterAnswer_keeps | split | simp only [Keeps.update_iff]

theorem sendRelease_keeps (r : RxStream) (last : Nat) {s t : State} (h : Keeps s t) : Keeps s (sendRelease r last t) := by
  unfold sendRelease
  repeat' first
    | with_reducible exact h | with_reducible exact Keeps.refl _ | intro _ | with_reducible apply ctlTo_keeps
    | with_reducible apply mapRxSlot_keeps | simp only [Keeps.update_iff]

theorem releaseStream_keeps (n : Nat) {s t : State} (h : Keeps s t) : Keeps s (releaseStream n t) := by
  unfold releaseStream
  repeat' first
    | with_reducible exact h | with_reducible exact Keeps.refl _ | intro _ | with_reducible apply Keeps.ite
    | with_reducible apply freeRx_keeps | with_reducible apply sendRelease_keeps | split | simp only [Keeps.update_iff]

theorem execStreamRelease_keeps (n : Nat) (s : State) : KeepsO s (execStreamRelease n s) := by
  unfold execStreamRelease
  repeat' first
    | with_reducible apply KeepsO.next | with_reducible apply KeepsO.ite | with_reducible exact Keeps.refl _ | intro _
    | with_reducible apply releaseStream_keeps

theorem execStreamRerequest_keeps (n : Nat) (s : State) : KeepsO s (execStreamRerequest n s) := by
  unfold execStreamRerequest
  repeat' first
    | with_reducible apply KeepsO.next | with_reducible apply KeepsO.ite | with_reducible exact Keeps.refl _ | intro _
    | with_reducible apply Keeps.onlyIf | with_reducible apply askAgain_keeps | split | simp only [Keeps.update_iff]

theorem dropStream_keeps (tg : TxStream) (reason : Nat) {s t : State} (h : Keeps s t) : Keeps s (dropStream tg reason t) := by
  unfold dropStream
  repeat' first
    | with_reducible exact h | with_reducible exact Keeps.refl _ | intro _ | with_reducible apply Keeps.forAll
    | with_reducible apply Keeps.ite | with_reducible apply assertEv_keeps | with_reducible apply ctlTo_keeps
    | with_reducible apply mapTx_keeps | split | simp only [Keeps.update_iff]

theorem admitFails_keeps (a : Admit) {s t : State} (h : Keeps s t) : Keeps s (admitFails a t) := by
  unfold admitFails
  repeat' first
    | with_reducible exact h | with_reducible exact Keeps.refl _ | intro _ | with_reducible apply Keeps.onlyIf
    | with_reducible apply ctlTo_keeps | with_reducible apply dropStream_keeps | split | simp only [Keeps.update_iff]

theorem freeWaypoint_keeps (a : Admit) (coding waypoint : Nat) {s t : State} (h : Keeps s t) : Keeps s (freeWaypoint a coding waypoint t) := by
  unfold freeWaypoint
  repeat' first
    | with_reducible exact h | with_reducible exact Keeps.refl _ | intro _ | with_reducible apply Keeps.onlyIf
    | with_reducible apply ctlTo_keeps

theorem takeOrder_keeps (p : Nat) {s t : State} (h : Keeps s t) : Keeps s (takeOrder p t) := by
  unfold takeOrder
  repeat' first
    | with_reducible exact h | with_reducible apply Keeps.inc

theorem grantNew_keeps (a : Admit) (coding port waypoint cost : Nat) {s t : State} (h : Keeps s t) : Keeps s (grantNew a coding port waypoint cost t) := by
  unfold grantNew
  repeat' first
    | with_reducible exact h | with_reducible exact Keeps.refl _ | intro _ | with_reducible apply Keeps.onlyIf
    | with_reducible apply notice_keeps | with_reducible apply ctlTo_keeps | with_reducible apply freeWaypoint_keeps
    | with_reducible apply takeOrder_keeps | split | simp only [Keeps.update_iff]

theorem moveStream_keeps (tg : TxStream) (coding port waypoint cost : Nat) {s t : State} (h : Keeps s t) : Keeps s (moveStream tg coding port waypoint cost t) := by
  unfold moveStream
  repeat' first
    | with_reducible exact h | with_reducible exact Keeps.refl _ | intro _ | with_reducible apply Keeps.onlyIf
    | with_reducible apply Keeps.ite | with_reducible apply notice_keeps | with_reducible apply ctlTo_keeps
    | with_reducible apply mapTx_keeps | with_reducible apply takeOrder_keeps | split | simp only [Keeps.update_iff]

theorem admitGrants_keeps (a : Admit) (coding port waypoint cost : Nat) {s t : State} (h : Keeps s t) : Keeps s (admitGrants a coding port waypoint cost t) := by
  unfold admitGrants
  repeat' first
    | with_reducible exact h | with_reducible apply Keeps.ite | with_reducible apply freeWaypoint_keeps
    | with_reducible apply grantNew_keeps | with_reducible apply moveStream_keeps | split | simp only [Keeps.update_iff]

theorem askCandidate_keeps (a : Admit) (coding cost : Nat) (l : List Nat) {s t : State} {r : State × Admit} (h : Keeps s t)
    (hr : askCandidate a coding cost t l = some r) : Keeps s r.1 := by
  induction l with
  | nil => cases hr
  | cons w ws ih =>
    unfold askCandidate at hr
    split at hr
    · cases hr
      exact ctlTo_keeps _ _ h
    · exact ih hr

theorem climb_keeps (a : Admit) (l : List (Nat × Bool)) {s t : State} (h : Keeps s t) : Keeps s (climb a t l) := by
  induction l generalizing a with
  | nil => exact admitFails_keeps _ h
  | cons r rest ih =>
    unfold climb
    dsimp only
    split
    · exact ih _
    · split
      · split
        · rename_i hr
          exact (Keeps.update_iff ..).mpr (askCandidate_keeps _ _ _ _ h hr)
        · exact ih _
      · split
        · exact admitGrants_keeps _ _ _ _ _ h
        · exact ih _

theorem startAdmission_keeps (a : Admit) {s t : State} (h : Keeps s t) : Keeps s (startAdmission a t) := climb_keeps _ _ h

theorem reAdmit_keeps (tg : TxStream) (lo hi dropReason : Nat) {s t : State} (h : Keeps s t) : Keeps s (reAdmit tg lo hi dropReason t) := by
  unfold reAdmit
  repeat' first
    | with_reducible exact h | with_reducible exact Keeps.refl _ | intro _ | with_reducible apply Keeps.onlyIf
    | with_reducible apply Keeps.ite | with_reducible apply nextReq_keeps | with_reducible apply startAdmission_keeps | split
    | simp only [Keeps.update_iff]

theorem execSubReq_keeps (p reqNo kind maxCoding src fs : Nat) (s : State) : KeepsO s (execSubReq p reqNo kind maxCoding src fs s) := by
  unfold execSubReq
  repeat' first
    | with_reducible apply KeepsO.next | with_reducible apply KeepsO.ite | with_reducible exact Keeps.refl _ | intro _
    | with_reducible apply Keeps.onlyIf | with_reducible apply Keeps.ite | with_reducible apply ctlEmit_keeps
    | with_reducible apply ctlTo_keeps | with_reducible apply mapTx_keeps | with_reducible apply startAdmission_keeps | split
    | simp only [Keeps.update_iff]

theorem execWpReq_keeps (p reqNo : Nat) (key : StreamKey) (cost : Nat) (s : State) : KeepsO s (execWpReq p reqNo key cost s) := by
  unfold execWpReq
  repeat' first
    | with_reducible apply KeepsO.next | with_reducible apply KeepsO.ite | with_reducible exact Keeps.refl _ | intro _
    | with_reducible apply Keeps.onlyIf | with_reducible apply Keeps.ite | with_reducible apply notice_keeps
    | with_reducible apply ctlSend_keeps | with_reducible apply takeOrder_keeps | split | simp only [Keeps.update_iff]

theorem noteSpare_keeps (w d spare : Nat) {s t : State} (h : Keeps s t) : Keeps s (noteSpare w d spare t) := by
  unfold noteSpare
  repeat' first
    | with_reducible exact h | with_reducible exact Keeps.refl _ | intro _ | with_reducible apply Keeps.put
    | with_reducible apply Keeps.onlyIf

theorem nextCandidate_keeps (a : Admit) {s t : State} (h : Keeps s t) : Keeps s (nextCandidate a t) := by
  unfold nextCandidate
  dsimp only
  split
  · rename_i hr
    split at hr
    · cases hr
    · exact (Keeps.update_iff ..).mpr (askCandidate_keeps _ _ _ _ h hr)
  · exact climb_keeps _ _ h

theorem execWpAnswer_keeps (p reqNo reason spare : Nat) (s : State) : KeepsO s (execWpAnswer p reqNo reason spare s) := by
  unfold execWpAnswer
  repeat' first
    | with_reducible apply KeepsO.next | with_reducible apply KeepsO.ite | with_reducible exact Keeps.refl _ | intro _
    | with_reducible apply Keeps.ite | with_reducible apply freeWaypoint_keeps | with_reducible apply admitGrants_keeps
    | with_reducible apply climb_keeps | with_reducible apply noteSpare_keeps | with_reducible apply nextCandidate_keeps | split
    | simp only [Keeps.update_iff]

theorem mapWp_keeps (k : StreamKey) (f : WpStream → WpStream) {s t : State} (h : Keeps s t) : Keeps s (mapWp k f t) := by
  unfold mapWp
  repeat' first
    | with_reducible exact h | with_reducible exact Keeps.refl _ | intro _ | with_reducible apply Keeps.ite | split
    | simp only [Keeps.update_iff]

theorem execRelease_keeps (key : StreamKey) (last : Nat) (s : State) : KeepsO s (execRelease key last s) := by
  unfold execRelease
  repeat' first
    | with_reducible apply KeepsO.next | with_reducible apply KeepsO.ite | with_reducible exact Keeps.refl _ | intro _
    | with_reducible apply Keeps.ite | with_reducible apply mapWp_keeps | split | simp only [Keeps.update_iff]

theorem noteMigrate_keeps (key : StreamKey) (coding waypoint first : Nat) {s t : State} (h : Keeps s t) : Keeps s (noteMigrate key coding waypoint first t) := by
  unfold noteMigrate
  repeat' first
    | with_reducible exact h | with_reducible exact Keeps.refl _ | intro _ | with_reducible apply Keeps.onlyIf
    | with_reducible apply Keeps.forAll | with_reducible apply mapRx_keeps | with_reducible apply askPass_keeps
    | simp only [Keeps.update_iff]

theorem execMigrate_keeps (key : StreamKey) (coding waypoint first : Nat) (s : State) : KeepsO s (execMigrate key coding waypoint first s) := by
  unfold execMigrate
  repeat' first
    | with_reducible apply KeepsO.next | with_reducible apply KeepsO.ite | with_reducible exact Keeps.refl _ | intro _
    | with_reducible apply Keeps.ite | with_reducible apply mapWp_keeps | with_reducible apply noteMigrate_keeps | split
    | simp only [Keeps.update_iff]

theorem execWpShed_keeps (key : StreamKey) (s : State) : KeepsO s (execWpShed key s) := by
  unfold execWpShed
  repeat' first
    | with_reducible apply KeepsO.next | with_reducible apply KeepsO.ite | with_reducible exact Keeps.refl _ | intro _
    | with_reducible apply mapTx_keeps | with_reducible apply reAdmit_keeps | split | simp only [Keeps.update_iff]

theorem noteDrop_keeps (r : RxStream) (reason : Nat) {s t : State} (h : Keeps s t) : Keeps s (noteDrop r reason t) := by
  unfold noteDrop
  repeat' first
    | with_reducible exact h | with_reducible exact Keeps.refl _ | intro _ | with_reducible apply Keeps.put
    | with_reducible apply Keeps.onlyIf | with_reducible apply Keeps.forAll | with_reducible apply Keeps.ite
    | with_reducible apply notice_keeps | with_reducible apply codingReason_keeps | with_reducible apply noteRefusal_keeps
    | split

theorem execDrop_keeps (key : StreamKey) (reason last : Nat) (s : State) : KeepsO s (execDrop key reason last s) := by
  unfold execDrop
  repeat' first
    | with_reducible apply KeepsO.next | with_reducible apply KeepsO.ite | with_reducible exact Keeps.refl _ | intro _
    | with_reducible apply Keeps.ite | with_reducible apply assertEv_keeps | with_reducible apply mapRxSlot_keeps
    | with_reducible apply mapWp_keeps | with_reducible apply noteDrop_keeps | split | simp only [Keeps.update_iff]

theorem execControlReserved_keeps (p : Nat) (s : State) : KeepsO s (execControlReserved p s) := by
  unfold execControlReserved
  repeat' first
    | with_reducible apply KeepsO.next | with_reducible apply KeepsO.ite | with_reducible exact Keeps.refl _ | intro _
    | with_reducible apply Keeps.bump | with_reducible apply Keeps.onlyIf | with_reducible apply notice_keeps

theorem execLoadSend_keeps (s : State) : KeepsO s (execLoadSend s) := by
  unfold execLoadSend
  repeat' first
    | with_reducible apply KeepsO.next | with_reducible apply KeepsO.ite | with_reducible exact Keeps.refl _ | intro _
    | with_reducible apply ctlAll_keeps

theorem execLoad_keeps (p : Nat) (ports : List (Nat × Nat)) (s : State) : KeepsO s (execLoad p ports s) := by
  unfold execLoad
  repeat' first
    | with_reducible apply KeepsO.next | with_reducible apply KeepsO.ite | with_reducible exact Keeps.refl _ | intro _
    | with_reducible apply Keeps.put | with_reducible apply Keeps.onlyIf | with_reducible apply Keeps.forAll
    | with_reducible apply noteSpare_keeps

theorem execLoadTimeout_keeps (p : Nat) (s : State) : KeepsO s (execLoadTimeout p s) := by
  unfold execLoadTimeout
  repeat' first
    | with_reducible apply KeepsO.next | with_reducible apply KeepsO.ite | with_reducible exact Keeps.refl _ | intro _
    | with_reducible apply Keeps.onlyIf | with_reducible apply notice_keeps

theorem markShed_keeps (p fuel : Nat) {s t : State} (h : Keeps s t) : Keeps s (markShed p fuel t).2 := by
  induction fuel generalizing t with
  | zero => exact h
  | succ k ih =>
    unfold markShed
    split
    · exact h
    · split
      · exact h
      · exact ih (mapTx_keeps _ _ h)
      · dsimp only
        split
        · apply ih
          apply ctlTo_keeps
          simpa only [Keeps.update_iff] using h
        · apply ih
          simpa only [Keeps.update_iff] using h

theorem execShedDecision_keeps (p : Nat) (s : State) : KeepsO s (execShedDecision p s) := by
  unfold execShedDecision
  apply KeepsO.next
  refine Keeps.forAll _ (fun n u => ?_) (markShed_keeps _ _ (Keeps.refl s))
  split
  · exact reAdmit_keeps _ _ _ _ (Keeps.refl u)
  · exact Keeps.refl u

theorem execRevertOffer_keeps (s : State) : KeepsO s (execRevertOffer s) := by
  unfold execRevertOffer
  repeat' first
    | with_reducible apply KeepsO.next | with_reducible apply KeepsO.ite | with_reducible exact Keeps.refl _ | intro _
    | with_reducible apply Keeps.onlyIf | with_reducible apply Keeps.forAll | with_reducible apply reAdmit_keeps

theorem execPortLimitWrite_keeps (m : Master) (p v : Nat) (s : State) : KeepsO s (execPortLimitWrite m p v s) := by
  unfold execPortLimitWrite
  repeat' first
    | with_reducible apply KeepsO.next | with_reducible apply KeepsO.ite | with_reducible exact Keeps.refl _ | intro _
    | with_reducible apply Keeps.put | with_reducible apply Keeps.ite | with_reducible apply refuse_keeps
    | with_reducible apply writeGated_keeps | with_reducible apply renewCeiling_keeps | split

theorem execHeartbeatSend_keeps (s : State) : KeepsO s (execHeartbeatSend s) := by
  unfold execHeartbeatSend
  repeat' first
    | with_reducible apply KeepsO.next | with_reducible apply KeepsO.ite | with_reducible exact Keeps.refl _ | intro _
    | with_reducible apply Keeps.onlyIf | with_reducible apply Keeps.forAll | with_reducible apply ctlEmit_keeps

theorem execHeartbeat_keeps (p pos plane twin cls : Nat) (s : State) : KeepsO s (execHeartbeat p pos plane twin cls s) := by
  unfold execHeartbeat
  repeat' first
    | with_reducible apply KeepsO.next | with_reducible apply KeepsO.ite | with_reducible exact Keeps.refl _ | intro _
    | with_reducible apply Keeps.put | with_reducible apply Keeps.onlyIf | with_reducible apply Keeps.ite
    | with_reducible apply notice_keeps | split

theorem peerEdge_keeps (p : Nat) (lost : Bool) {s t : State} (h : Keeps s t) : Keeps s (peerEdge p lost t) := by
  unfold peerEdge
  repeat' first
    | with_reducible exact h | with_reducible apply Keeps.put | with_reducible apply Keeps.putFlag
    | with_reducible apply Keeps.ite | with_reducible apply assertEv_keeps | split

theorem groupLoss_keeps (g : Nat) (lost : Bool) {s t : State} (h : Keeps s t) : Keeps s (groupLoss g lost t) := by
  unfold groupLoss
  repeat' first
    | with_reducible exact h | with_reducible apply Keeps.putFlag | with_reducible apply Keeps.ite
    | with_reducible apply assertEv_keeps | split

theorem noteLossTime_keeps (p : Nat) {s t : State} (h : Keeps s t) : Keeps s (noteLossTime p t) := by
  unfold noteLossTime
  repeat' first
    | with_reducible exact h | with_reducible apply Keeps.put

theorem forgetSpare_keeps (pos : Nat) {s t : State} (h : Keeps s t) : Keeps s (forgetSpare pos t) := by
  unfold forgetSpare
  repeat' first
    | with_reducible exact h | with_reducible exact Keeps.refl _ | intro _ | with_reducible apply Keeps.put
    | with_reducible apply Keeps.forAll

theorem peerLost_keeps (p : Nat) {s t : State} (h : Keeps s t) : Keeps s (peerLost p t) := by
  unfold peerLost
  repeat' first
    | with_reducible exact h | with_reducible exact Keeps.refl _ | intro _ | with_reducible apply Keeps.put
    | with_reducible apply Keeps.forAll | with_reducible apply positionLost_keeps | with_reducible apply mapRx_keeps
    | with_reducible apply noteAsker_keeps | with_reducible apply failRequest_keeps | with_reducible apply reAdmit_keeps
    | with_reducible apply nextCandidate_keeps | with_reducible apply peerEdge_keeps | with_reducible apply groupLoss_keeps
    | with_reducible apply noteLossTime_keeps | with_reducible apply forgetSpare_keeps | simp only [Keeps.update_iff]

theorem execPeerLost_keeps (p : Nat) (s : State) : KeepsO s (execPeerLost p s) := by
  unfold execPeerLost
  repeat' first
    | with_reducible apply KeepsO.next | with_reducible apply KeepsO.ite | with_reducible exact Keeps.refl _ | intro _
    | with_reducible apply Keeps.onlyIf | with_reducible apply peerLost_keeps

theorem requestMissing_keeps (pos : Nat) {s t : State} (h : Keeps s t) : Keeps s (requestMissing pos t) := by
  unfold requestMissing
  repeat' first
    | with_reducible exact h | with_reducible exact Keeps.refl _ | intro _ | with_reducible apply Keeps.onlyIf
    | with_reducible apply Keeps.forAll | with_reducible apply requestStream_keeps | with_reducible apply requestDraft_keeps
    | with_reducible apply requestLiveOf_keeps

theorem execPeerReturn_keeps (p : Nat) (s : State) : KeepsO s (execPeerReturn p s) := by
  unfold execPeerReturn
  repeat' first
    | with_reducible apply KeepsO.next | with_reducible apply KeepsO.ite | with_reducible exact Keeps.refl _ | intro _
    | with_reducible apply Keeps.put | with_reducible apply Keeps.onlyIf | with_reducible apply Keeps.forAll
    | with_reducible apply askAgain_keeps | with_reducible apply peerEdge_keeps | with_reducible apply forgetSpare_keeps
    | with_reducible apply requestMissing_keeps

theorem execPeerLossNotice_keeps (p : Nat) (s : State) : KeepsO s (execPeerLossNotice p s) := by
  unfold execPeerLossNotice
  repeat' first
    | with_reducible apply KeepsO.next | with_reducible apply KeepsO.ite | with_reducible exact Keeps.refl _ | intro _
    | with_reducible apply Keeps.put | with_reducible apply Keeps.emit | with_reducible apply Keeps.onlyIf

theorem spanBoundary_keeps (mine : Nat → Nat → Bool) (now : Nat) {s t : State} (h : Keeps s t) : Keeps s (spanBoundary mine now t) := by
  unfold spanBoundary
  repeat' first
    | with_reducible exact h | with_reducible exact Keeps.refl _ | intro _ | with_reducible apply Keeps.forAll
    | with_reducible apply Keeps.ite | with_reducible apply ctlTo_keeps | with_reducible apply mapRx_keeps
    | with_reducible apply freeRx_keeps | split | simp only [Keeps.update_iff]

theorem fabricDisabled_keeps {s t : State} (h : Keeps s t) : Keeps s (fabricDisabled t) := by
  unfold fabricDisabled
  repeat' first
    | with_reducible exact h | with_reducible exact Keeps.refl _ | intro _ | with_reducible apply Keeps.put
    | with_reducible apply Keeps.clearAll | with_reducible apply Keeps.forAll | simp only [Keeps.update_iff]

theorem fabricEnabled_keeps {s t : State} (h : Keeps s t) : Keeps s (fabricEnabled t) := by
  unfold fabricEnabled
  repeat' first
    | with_reducible exact h | with_reducible exact Keeps.refl _ | intro _ | with_reducible apply Keeps.forAll
    | with_reducible apply renewCeiling_keeps | with_reducible apply requestDraft_keeps

/-! ### Cells -/

theorem keepSpans_keeps (i : Nat) (l : List VideoSpan) {s t : State} (h : Keeps s t) : Keeps s (keepSpans i l t) := by
  unfold keepSpans
  repeat' first
    | with_reducible exact h | with_reducible exact Keeps.refl _ | intro _ | simp only [Keeps.update_iff]

theorem reportSpan_keeps (i coding n : Nat) {s t : State} (h : Keeps s t) : Keeps s (reportSpan i coding n t) := by
  unfold reportSpan
  dsimp only
  split
  · exact h
  · split
    · exact h
    · exact Keeps.forAll _ (fun _ u => Keeps.put _ _ _ (Keeps.refl u))
        (Keeps.bump _ _ _ (Keeps.put _ _ _ (Keeps.put _ _ _ (Keeps.put _ _ _ (Keeps.put _ _ _ h)))))

theorem reportSpans_keeps (f n : Nat) {s t : State} (h : Keeps s t) : Keeps s (reportSpans f n t) := by
  unfold reportSpans
  repeat' first
    | with_reducible exact h | with_reducible exact Keeps.refl _ | intro _ | with_reducible apply Keeps.forAll
    | with_reducible apply reportSpan_keeps

theorem releaseCell_keeps (tg : TxStream) (port : Nat) (c : Cell) {s t : State} (h : Keeps s t) : Keeps s (releaseCell tg port c t) := by
  unfold releaseCell
  repeat' first
    | with_reducible exact h | with_reducible exact Keeps.refl _ | intro _ | with_reducible apply Keeps.emit
    | with_reducible apply mapTx_keeps | simp only [Keeps.update_iff]

theorem releaseMarker_keeps (tg : TxStream) (n : Nat) {s t : State} (h : Keeps s t) : Keeps s (releaseMarker tg n t) := by
  unfold releaseMarker
  repeat' first
    | with_reducible exact h | with_reducible exact Keeps.refl _ | intro _ | with_reducible apply Keeps.onlyIf
    | with_reducible apply mapTx_keeps | with_reducible apply reportSpan_keeps | with_reducible apply releaseCell_keeps
    | simp only [Keeps.update_iff]

theorem execCellRelease_keeps (slot n typ k : Nat) (live : Option VideoSpan) (s : State) : KeepsO s (execCellRelease slot n typ k live s) := by
  unfold execCellRelease
  repeat' first
    | with_reducible apply KeepsO.next | with_reducible apply KeepsO.ite | with_reducible exact Keeps.refl _ | intro _
    | with_reducible apply Keeps.onlyIf | with_reducible apply Keeps.ite | with_reducible apply releaseCell_keeps
    | with_reducible apply releaseMarker_keeps | split | simp only [Keeps.update_iff]

theorem execRefineDiscard_keeps (n : Nat) (s : State) : KeepsO s (execRefineDiscard n s) := by
  unfold execRefineDiscard
  repeat' first
    | with_reducible apply KeepsO.next | with_reducible apply KeepsO.ite | with_reducible exact Keeps.refl _ | intro _
    | with_reducible apply Keeps.bump

theorem placeCell_keeps (c : Cell) (r : RxStream) {s t : State} (h : Keeps s t) : Keeps s (placeCell c r t) := by
  unfold placeCell
  repeat' first
    | with_reducible exact h | with_reducible exact Keeps.refl _ | intro _ | with_reducible apply Keeps.bump
    | with_reducible apply Keeps.ite | with_reducible apply mapRxSlot_keeps | split | simp only [Keeps.update_iff]

theorem forwardCell_keeps (w : WpStream) (c : Cell) {s t : State} (h : Keeps s t) : Keeps s (forwardCell w c t) := by
  unfold forwardCell
  repeat' first
    | with_reducible exact h | with_reducible exact Keeps.refl _ | intro _ | with_reducible apply Keeps.emit
    | with_reducible apply Keeps.onlyIf | with_reducible apply Keeps.ite | split | simp only [Keeps.update_iff]

theorem showFigures_keeps (r : RxStream) (c : Cell) {s t : State} (h : Keeps s t) : Keeps s (showFigures r c t) := by
  unfold showFigures
  repeat' first
    | with_reducible exact h | with_reducible exact Keeps.refl _ | intro _ | with_reducible apply Keeps.put
    | with_reducible apply Keeps.onlyIf | with_reducible apply Keeps.forAll | with_reducible apply Keeps.ite
    | with_reducible apply forgetCounts_keeps | split

theorem publishStats_keeps (r : RxStream) (c : Cell) {s t : State} (h : Keeps s t) : Keeps s (publishStats r c t) := by
  unfold publishStats
  repeat' first
    | with_reducible exact h | with_reducible exact Keeps.refl _ | intro _ | with_reducible apply Keeps.put
    | with_reducible apply Keeps.bump | with_reducible apply Keeps.onlyIf | with_reducible apply Keeps.forAll
    | with_reducible apply Keeps.ite | with_reducible apply notice_keeps | with_reducible apply showFigures_keeps | split

theorem landMarker_keeps (c : Cell) (r : RxStream) {s t : State} (h : Keeps s t) : Keeps s (landMarker c r t) := by
  unfold landMarker
  repeat' first
    | with_reducible exact h | with_reducible exact Keeps.refl _ | intro _ | with_reducible apply Keeps.onlyIf
    | with_reducible apply mapRxSlot_keeps | with_reducible apply groupLoss_keeps | with_reducible apply publishStats_keeps
    | simp only [Keeps.update_iff]

theorem takeCell_keeps (p : Nat) (c : Cell) {s t : State} (h : Keeps s t) : Keeps s (takeCell p c t) := by
  unfold takeCell
  repeat' first
    | with_reducible exact h | with_reducible exact Keeps.refl _ | intro _ | with_reducible apply Keeps.forAll
    | with_reducible apply Keeps.ite | with_reducible apply placeCell_keeps | with_reducible apply forwardCell_keeps
    | with_reducible apply landMarker_keeps | split | simp only [Keeps.update_iff]

theorem execSpanMarker_keeps (p : Nat) (c : Cell) (s : State) : KeepsO s (execSpanMarker p c s) := by
  unfold execSpanMarker
  repeat' first
    | with_reducible apply KeepsO.next | with_reducible apply KeepsO.ite | with_reducible exact Keeps.refl _ | intro _
    | with_reducible apply Keeps.onlyIf | with_reducible apply takeCell_keeps | simp only [Keeps.update_iff]

theorem execCellReceived_keeps (p : Nat) (crcGood late : Bool) (c : Cell) (s : State) : KeepsO s (execCellReceived p crcGood late c s) := by
  unfold execCellReceived
  repeat' first
    | with_reducible apply KeepsO.next | with_reducible apply KeepsO.ite | with_reducible exact Keeps.refl _ | intro _
    | with_reducible apply Keeps.bump | with_reducible apply Keeps.onlyIf | with_reducible apply Keeps.ite
    | with_reducible apply notice_keeps | with_reducible apply takeCell_keeps | split

theorem execLandingSpanComplete_keeps (n span : Nat) (s : State) : KeepsO s (execLandingSpanComplete n span s) := by
  unfold execLandingSpanComplete
  repeat' first
    | with_reducible apply KeepsO.next | with_reducible apply KeepsO.ite | with_reducible exact Keeps.refl _ | intro _
    | with_reducible apply Keeps.onlyIf | with_reducible apply Keeps.ite | with_reducible apply mapRxSlot_keeps
    | with_reducible apply groupLoss_keeps | split | simp only [Keeps.update_iff]

theorem breakRuns_keeps (mine : Nat → Nat → Bool) (now : Nat) {s t : State} (h : Keeps s t) : Keeps s (breakRuns mine now t) := by
  unfold breakRuns
  repeat' first
    | with_reducible exact h | with_reducible exact Keeps.refl _ | intro _ | with_reducible apply mapRx_keeps
    | simp only [Keeps.update_iff]

/-! ### Atlas -/

theorem alignMeridians_keeps {s t : State} (h : Keeps s t) : Keeps s (alignMeridians t) := by
  unfold alignMeridians
  repeat' first
    | with_reducible exact h | with_reducible exact Keeps.refl _ | intro _ | with_reducible apply Keeps.put
    | with_reducible apply Keeps.forAll

theorem closeFill_keeps (i : Nat) (stored : Bool) (n : Nat) {s t : State} (h : Keeps s t) : Keeps s (closeFill i stored n t) := by
  unfold closeFill
  repeat' first
    | with_reducible exact h | with_reducible exact Keeps.refl _ | intro _ | with_reducible apply Keeps.ite | split
    | simp only [Keeps.update_iff]

theorem execInputSpanComplete_keeps (i : Nat) (v : VideoSpan) (s : State) : KeepsO s (execInputSpanComplete i v s) := by
  unfold execInputSpanComplete
  repeat' first
    | with_reducible apply KeepsO.next | with_reducible apply KeepsO.ite | with_reducible exact Keeps.refl _ | intro _
    | with_reducible apply Keeps.put | with_reducible apply Keeps.bump | with_reducible apply Keeps.inc
    | with_reducible apply Keeps.onlyIf | with_reducible apply Keeps.ite | with_reducible apply judgeInput_keeps
    | with_reducible apply detectFormat_keeps | with_reducible apply keepSpans_keeps | with_reducible apply closeFill_keeps
    | split | simp only [Keeps.update_iff]

theorem selectSpan_keeps (i f : Nat) (phi : Int) {s t : State} (h : Keeps s t) : Keeps s (selectSpan i f phi t) := by
  unfold selectSpan
  repeat' first
    | with_reducible exact h | with_reducible exact Keeps.refl _ | intro _ | with_reducible apply Keeps.put
    | with_reducible apply Keeps.bump | with_reducible apply Keeps.onlyIf | with_reducible apply Keeps.ite
    | with_reducible apply notice_keeps | split

theorem decideInput_keeps (f : Nat) (phis : List (Nat × Int)) (i : Nat) {s t : State} (h : Keeps s t) : Keeps s (decideInput f phis i t) := by
  unfold decideInput
  repeat' first
    | with_reducible exact h | with_reducible exact Keeps.refl _ | intro _ | with_reducible apply Keeps.put
    | with_reducible apply Keeps.bump | with_reducible apply Keeps.ite | with_reducible apply judgeInput_keeps
    | with_reducible apply selectSpan_keeps | split | simp only [Keeps.update_iff]

theorem enterLoss_keeps (d : Nat) {s t : State} (h : Keeps s t) : Keeps s (enterLoss d t) := by
  unfold enterLoss
  repeat' first
    | with_reducible exact h | with_reducible apply Keeps.put | with_reducible apply Keeps.bump
    | with_reducible apply notice_keeps

theorem judgeLoss_keeps (d : Nat) {s t : State} (h : Keeps s t) : Keeps s (judgeLoss d t) := by
  unfold judgeLoss
  repeat' first
    | with_reducible exact h | with_reducible exact Keeps.refl _ | intro _ | with_reducible apply Keeps.put
    | with_reducible apply Keeps.putFlag | with_reducible apply Keeps.onlyIf | with_reducible apply Keeps.ite
    | with_reducible apply notice_keeps | with_reducible apply enterLoss_keeps | split

theorem refuseOne_keeps (c : PendCommit) (code : Nat) {s t : State} (h : Keeps s t) : Keeps s (refuseOne c code t) := by
  unfold refuseOne
  repeat' first
    | with_reducible exact h | with_reducible exact Keeps.refl _ | intro _ | with_reducible apply Keeps.put
    | with_reducible apply refuse_keeps | simp only [Keeps.update_iff]

theorem refuseCommit_keeps (c : PendCommit) (code other : Nat) {s t : State} (h : Keeps s t) : Keeps s (refuseCommit c code other t) := by
  unfold refuseCommit
  repeat' first
    | with_reducible exact h | with_reducible exact Keeps.refl _ | intro _ | with_reducible apply Keeps.forAll
    | with_reducible apply Keeps.ite | with_reducible apply notice_keeps | with_reducible apply refuseOne_keeps | split

theorem mapCommit_keeps (d : Nat) (f : PendCommit → PendCommit) {s t : State} (h : Keeps s t) : Keeps s (mapCommit d f t) := by
  unfold mapCommit
  repeat' first
    | with_reducible exact h | with_reducible exact Keeps.refl _ | intro _ | with_reducible apply Keeps.ite | split
    | simp only [Keeps.update_iff]

theorem takeCommit_keeps (c : PendCommit) {s t : State} (h : Keeps s t) : Keeps s (takeCommit c t) := by
  unfold takeCommit
  repeat' first
    | with_reducible exact h | with_reducible exact Keeps.refl _ | intro _ | with_reducible apply mapCommit_keeps | split
    | simp only [Keeps.update_iff]

theorem slipCommit_keeps (c : PendCommit) {s t : State} (h : Keeps s t) : Keeps s (slipCommit c t) := by
  unfold slipCommit
  repeat' first
    | with_reducible exact h | with_reducible exact Keeps.refl _ | intro _ | with_reducible apply Keeps.put
    | with_reducible apply mapCommit_keeps | simp only [Keeps.update_iff]

theorem decideCommit_keeps (c : PendCommit) {s t : State} (h : Keeps s t) : Keeps s (decideCommit c t) := by
  unfold decideCommit
  repeat' first
    | with_reducible exact h | with_reducible apply Keeps.ite | with_reducible apply notice_keeps
    | with_reducible apply refuseCommit_keeps | with_reducible apply takeCommit_keeps | with_reducible apply slipCommit_keeps
    | split | simp only [Keeps.update_iff]

theorem refuseSalvo_keeps (ms : List PendCommit) (code : PendCommit → Option Nat) {s t : State} (h : Keeps s t) : Keeps s (refuseSalvo ms code t) := by
  unfold refuseSalvo
  repeat' first
    | with_reducible exact h | with_reducible exact Keeps.refl _ | intro _ | with_reducible apply Keeps.forAll
    | with_reducible apply notice_keeps | with_reducible apply refuseOne_keeps

theorem decideSalvo_keeps (ms : List PendCommit) {s t : State} (h : Keeps s t) : Keeps s (decideSalvo ms t) := by
  unfold decideSalvo
  repeat' first
    | with_reducible exact h | with_reducible exact Keeps.refl _ | intro _ | with_reducible apply Keeps.put
    | with_reducible apply Keeps.forAll | with_reducible apply Keeps.ite | with_reducible apply notice_keeps
    | with_reducible apply takeCommit_keeps | with_reducible apply slipCommit_keeps | with_reducible apply refuseSalvo_keeps
    | split

theorem atlasDecision_keeps (f n : Nat) (phis : List (Nat × Int)) {s t : State} (h : Keeps s t) : Keeps s (atlasDecision f n phis t) := by
  unfold atlasDecision
  repeat' first
    | with_reducible exact h | with_reducible exact Keeps.refl _ | intro _ | with_reducible apply Keeps.put
    | with_reducible apply Keeps.onlyIf | with_reducible apply Keeps.forAll | with_reducible apply breakRuns_keeps
    | with_reducible apply decideInput_keeps | with_reducible apply judgeLoss_keeps | with_reducible apply decideCommit_keeps
    | with_reducible apply decideSalvo_keeps

theorem audioDue_keeps (d old : Nat) {s t : State} (h : Keeps s t) : Keeps s (audioDue d old t) := by
  unfold audioDue
  repeat' first
    | with_reducible exact h | with_reducible apply Keeps.put

theorem putLive_keeps (c : PendCommit) (n : Nat) {s t : State} (h : Keeps s t) : Keeps s (putLive c n t) := by
  unfold putLive
  repeat' first
    | with_reducible exact h | with_reducible exact Keeps.refl _ | intro _ | with_reducible apply Keeps.put
    | with_reducible apply Keeps.putFlag | with_reducible apply Keeps.onlyIf | with_reducible apply Keeps.ite
    | with_reducible apply audioDue_keeps | split

theorem applyCommit_keeps (c : PendCommit) (n : Nat) {s t : State} (h : Keeps s t) : Keeps s (applyCommit c n t) := by
  unfold applyCommit
  repeat' first
    | with_reducible exact h | with_reducible exact Keeps.refl _ | intro _ | with_reducible apply Keeps.put
    | with_reducible apply Keeps.onlyIf | with_reducible apply Keeps.ite | with_reducible apply notice_keeps
    | with_reducible apply enterLoss_keeps | with_reducible apply putLive_keeps | split | simp only [Keeps.update_iff]

theorem meridianCommit_keeps (n : Nat) (c : PendCommit) {s t : State} (h : Keeps s t) : Keeps s (meridianCommit n c t) := by
  unfold meridianCommit
  repeat' first
    | with_reducible exact h | with_reducible exact Keeps.refl _ | intro _ | with_reducible apply Keeps.ite
    | with_reducible apply notice_keeps | with_reducible apply refuseCommit_keeps | with_reducible apply refuseSalvo_keeps
    | with_reducible apply applyCommit_keeps | split | simp only [Keeps.update_iff]

theorem disableDest_keeps (d : Nat) {s t : State} (h : Keeps s t) : Keeps s (disableDest d t) := by
  unfold disableDest
  repeat' first
    | with_reducible exact h | with_reducible apply Keeps.put

theorem dropPrev_keeps (d : Nat) {s t : State} (h : Keeps s t) : Keeps s (dropPrev d t) := by
  unfold dropPrev
  repeat' first
    | with_reducible exact h | with_reducible apply Keeps.put

theorem meridianDest_keeps (n d : Nat) {s t : State} (h : Keeps s t) : Keeps s (meridianDest n d t) := by
  unfold meridianDest
  repeat' first
    | with_reducible exact h | with_reducible exact Keeps.refl _ | intro _ | with_reducible apply Keeps.put
    | with_reducible apply Keeps.onlyIf | with_reducible apply notice_keeps | with_reducible apply audioDue_keeps
    | with_reducible apply meridianCommit_keeps | with_reducible apply disableDest_keeps | with_reducible apply dropPrev_keeps
    | split | simp only [Keeps.update_iff]

theorem atlasMeridian_keeps (f n : Nat) {s t : State} (h : Keeps s t) : Keeps s (atlasMeridian f n t) := by
  unfold atlasMeridian
  repeat' first
    | with_reducible exact h | with_reducible exact Keeps.refl _ | intro _ | with_reducible apply Keeps.put
    | with_reducible apply Keeps.onlyIf | with_reducible apply Keeps.forAll | with_reducible apply Keeps.ite
    | with_reducible apply spanBoundary_keeps | with_reducible apply reportSpans_keeps | with_reducible apply dropPrev_keeps
    | with_reducible apply meridianDest_keeps | split

theorem refuseAll_keeps (code : Nat) {s t : State} (h : Keeps s t) : Keeps s (refuseAll code t) := by
  unfold refuseAll
  repeat' first
    | with_reducible exact h | with_reducible exact Keeps.refl _ | intro _ | with_reducible apply Keeps.onlyIf
    | with_reducible apply Keeps.forAll | with_reducible apply notice_keeps | with_reducible apply refuseOne_keeps

theorem commitResult_keeps (m : Master) (code : Nat) (accept : Nat → State → State) (haccept : ∀ a0 u, Keeps u (accept a0 u)) {s t : State} (h : Keeps s t) : Keeps s (commitResult m code accept t) := by
  unfold commitResult
  repeat' first
    | with_reducible exact h | with_reducible exact Keeps.refl _ | intro _ | with_reducible apply Keeps.put
    | with_reducible apply Keeps.inc | with_reducible apply Keeps.ite | with_reducible apply refuse_keeps
    | with_reducible refine Keeps.trans ?_ (haccept _ _) | split

theorem addCommit_keeps (m : Master) (d tag target : Nat) (salvo : Bool) {s t : State} (h : Keeps s t) : Keeps s (addCommit m d tag target salvo t) := by
  unfold addCommit
  repeat' first
    | with_reducible exact h | with_reducible apply Keeps.put | simp only [Keeps.update_iff]

theorem execAtlCommit_keeps (m : Master) (v : Nat) (s : State) : KeepsO s (execAtlCommit m v s) := by
  unfold execAtlCommit
  repeat' first
    | with_reducible apply KeepsO.next | with_reducible apply KeepsO.ite | with_reducible exact Keeps.refl _ | intro _
    | with_reducible apply writeGated_keeps | with_reducible apply commitResult_keeps | with_reducible apply addCommit_keeps

theorem requestSalvo_keeps (m : Master) (ds : List Nat) (atFrame : Bool) {s t : State} (h : Keeps s t) : Keeps s (requestSalvo m ds atFrame t) := by
  unfold requestSalvo
  repeat' first
    | with_reducible exact h | with_reducible exact Keeps.refl _ | intro _ | with_reducible apply Keeps.put
    | with_reducible apply Keeps.forAll | with_reducible apply Keeps.ite | with_reducible apply commitResult_keeps
    | with_reducible apply addCommit_keeps | split

theorem execAtlSalvo_keeps (m : Master) (v : Nat) (s : State) : KeepsO s (execAtlSalvo m v s) := by
  unfold execAtlSalvo
  repeat' first
    | with_reducible apply KeepsO.next | with_reducible apply KeepsO.ite | with_reducible exact Keeps.refl _ | intro _
    | with_reducible apply writeGated_keeps | with_reducible apply requestSalvo_keeps

theorem execAtlCancel_keeps (m : Master) (v : Nat) (s : State) : KeepsO s (execAtlCancel m v s) := by
  unfold execAtlCancel
  repeat' first
    | with_reducible apply KeepsO.next | with_reducible apply KeepsO.ite | with_reducible exact Keeps.refl _ | intro _
    | with_reducible apply Keeps.onlyIf | with_reducible apply Keeps.ite | with_reducible apply refuse_keeps
    | with_reducible apply writeGated_keeps | with_reducible apply refuseCommit_keeps | split | simp only [Keeps.update_iff]

theorem execSalvoCancel_keeps (m : Master) (s : State) : KeepsO s (execSalvoCancel m s) := by
  unfold execSalvoCancel
  repeat' first
    | with_reducible apply KeepsO.next | with_reducible apply KeepsO.ite | with_reducible exact Keeps.refl _ | intro _
    | with_reducible apply writeGated_keeps | with_reducible apply refuseCommit_keeps | split | simp only [Keeps.update_iff]

theorem draftChanged_keeps (d old : Nat) {s t : State} (h : Keeps s t) : Keeps s (draftChanged d old t) := by
  unfold draftChanged
  repeat' first
    | with_reducible exact h | with_reducible exact Keeps.refl _ | intro _ | with_reducible apply Keeps.put
    | with_reducible apply Keeps.onlyIf | with_reducible apply requestDraft_keeps

theorem draftWrite_keeps (m : Master) (d v : Nat) (s : State) : KeepsO s (draftWrite m d v s) := by
  unfold draftWrite
  repeat' first
    | with_reducible apply KeepsO.next | with_reducible apply KeepsO.ite | with_reducible exact Keeps.refl _ | intro _
    | with_reducible apply Keeps.onlyIf | with_reducible apply Keeps.ite | with_reducible apply refuse_keeps
    | with_reducible apply writeGated_keeps | with_reducible apply writeWord_keeps | with_reducible apply draftChanged_keeps
    | split

theorem execAtlDraftWrite_keeps (m : Master) (d : Nat) (armed : Bool) (low : Nat) (s : State) :
    KeepsO s (execAtlDraftWrite m d armed low s) := draftWrite_keeps ..

theorem atlasFabricDisabled_keeps {s t : State} (h : Keeps s t) : Keeps s (atlasFabricDisabled t) := by
  unfold atlasFabricDisabled
  repeat' first
    | with_reducible exact h | with_reducible exact Keeps.refl _ | intro _ | with_reducible apply Keeps.onlyIf
    | with_reducible apply Keeps.forAll | with_reducible apply Keeps.ite | with_reducible apply enterLoss_keeps
    | with_reducible apply refuseCommit_keeps | split

theorem missLine_keeps (d : Nat) (r : RxStream) (what : RemoteLine) {s t : State} (h : Keeps s t) : Keeps s (missLine d r what t) := by
  unfold missLine
  repeat' first
    | with_reducible exact h | with_reducible exact Keeps.refl _ | intro _ | with_reducible apply Keeps.put
    | with_reducible apply Keeps.bump | with_reducible apply Keeps.ite | with_reducible apply notice_keeps
    | with_reducible apply mapRxSlot_keeps | with_reducible apply codingReason_keeps | split | simp only [Keeps.update_iff]

theorem countBlocks_keeps (r : RxStream) (span : Nat) (shifts : List Nat) (coarse : Nat) {s t : State} (h : Keeps s t) : Keeps s (countBlocks r span shifts coarse t) := by
  unfold countBlocks
  repeat' first
    | with_reducible exact h | with_reducible exact Keeps.refl _ | intro _ | with_reducible apply Keeps.put
    | with_reducible apply Keeps.bump | with_reducible apply Keeps.onlyIf | with_reducible apply Keeps.forAll
    | with_reducible apply Keeps.ite | with_reducible apply notice_keeps | with_reducible apply freshCounts_keeps | split

theorem remoteDeparture_keeps (d : Nat) (rx : Option RxStream) (src n line : Nat) {s t : State} (h : Keeps s t) :
    Keeps s (remoteDeparture d rx src n line t).1 := by
  unfold remoteDeparture
  dsimp only
  repeat' first
    | with_reducible exact h | intro _ | with_reducible apply Keeps.onlyIf | with_reducible apply missLine_keeps
    | with_reducible apply countBlocks_keeps | with_reducible apply codingReason_keeps | with_reducible apply mapRxSlot_keeps
    | with_reducible exact Keeps.refl _ | split

theorem localDeparture_keeps (src n line : Nat) {s t : State} (h : Keeps s t) : Keeps s (localDeparture src n line t) := by
  unfold localDeparture
  repeat' first
    | with_reducible exact h | with_reducible apply Keeps.put | with_reducible apply Keeps.ite | split
    | simp only [Keeps.update_iff]

theorem countLoss_keeps (d n : Nat) {s t : State} (h : Keeps s t) : Keeps s (countLoss d n t) := by
  unfold countLoss
  repeat' first
    | with_reducible exact h | with_reducible exact Keeps.refl _ | intro _ | with_reducible apply Keeps.put
    | with_reducible apply Keeps.bump | with_reducible apply Keeps.onlyIf

theorem countSafe_keeps (d n : Nat) {s t : State} (h : Keeps s t) : Keeps s (countSafe d n t) := by
  unfold countSafe
  repeat' first
    | with_reducible exact h | with_reducible exact Keeps.refl _ | intro _ | with_reducible apply Keeps.put
    | with_reducible apply Keeps.bump | with_reducible apply Keeps.onlyIf

theorem lossLine_keeps (d n : Nat) (cur missing : Bool) {s t : State} (h : Keeps s t) : Keeps s (lossLine d n cur missing t) := by
  unfold lossLine
  repeat' first
    | with_reducible exact h | with_reducible exact Keeps.refl _ | intro _ | with_reducible apply Keeps.onlyIf
    | with_reducible apply enterLoss_keeps | with_reducible apply countLoss_keeps

theorem destDeparture_keeps (d n line : Nat) (live : Option (List Nat × List Byte)) {s t : State} (h : Keeps s t) :
    Keeps s (destDeparture d n line live t) := by
  unfold destDeparture
  dsimp only
  apply Keeps.ite h
  apply Keeps.emit
  apply Keeps.onlyIf _ (fun u => Keeps.put _ _ _ (Keeps.put _ _ _ (Keeps.refl u)))
  apply Keeps.onlyIf _ (fun u => Keeps.put _ _ _ (Keeps.refl u))
  apply Keeps.onlyIf _ (fun u => countSafe_keeps _ _ (Keeps.refl u))
  apply Keeps.onlyIf _ (fun u => lossLine_keeps _ _ _ _ (Keeps.refl u))
  repeat' first
    | with_reducible exact h | with_reducible exact remoteDeparture_keeps _ _ _ _ _ h | with_reducible exact localDeparture_keeps _ _ _ h
    | split

/-! ### AudioPorts -/

theorem portCause_keeps (p bit : Nat) {s t : State} (h : Keeps s t) : Keeps s (portCause p bit t) := by
  unfold portCause
  repeat' first
    | with_reducible exact h | with_reducible apply setCauses_keeps

theorem portUnderrun_keeps (p k : Nat) {s t : State} (h : Keeps s t) : Keeps s (portUnderrun p k t) := by
  unfold portUnderrun
  repeat' first
    | with_reducible exact h | with_reducible exact Keeps.refl _ | intro _ | with_reducible apply Keeps.bump
    | with_reducible apply Keeps.onlyIf | with_reducible apply portCause_keeps

theorem portOverrun_keeps (p k : Nat) {s t : State} (h : Keeps s t) : Keeps s (portOverrun p k t) := by
  unfold portOverrun
  repeat' first
    | with_reducible exact h | with_reducible exact Keeps.refl _ | intro _ | with_reducible apply Keeps.bump
    | with_reducible apply Keeps.onlyIf | with_reducible apply portCause_keeps

theorem mutePort_keeps (p : Nat) {s t : State} (h : Keeps s t) : Keeps s (mutePort p t) := by
  unfold mutePort
  repeat' first
    | with_reducible exact h | with_reducible exact Keeps.refl _ | intro _ | with_reducible apply Keeps.put
    | with_reducible apply Keeps.onlyIf

/-! ### Packet -/

theorem renewFeed_keeps (kindLow kindHigh i : Nat) {s t : State} (h : Keeps s t) : Keeps s (renewFeed kindLow kindHigh i t) := by
  unfold renewFeed
  repeat' first
    | with_reducible exact h | with_reducible exact Keeps.refl _ | intro _ | with_reducible apply Keeps.putFlag
    | with_reducible apply Keeps.ite | with_reducible apply judgeInput_keeps | split

theorem renewFed_keeps (n : Nat) {s t : State} (h : Keeps s t) : Keeps s (renewFed n t) := by
  unfold renewFed
  repeat' first
    | with_reducible exact h | with_reducible apply Keeps.ite | with_reducible apply renewFeed_keeps | split

theorem rxLost_keeps (n : Nat) {s t : State} (h : Keeps s t) : Keeps s (rxLost n t) := by
  unfold rxLost
  repeat' first
    | with_reducible exact h | with_reducible exact Keeps.refl _ | intro _ | with_reducible apply Keeps.put
    | with_reducible apply Keeps.onlyIf | with_reducible apply Keeps.ite | with_reducible apply notice_keeps
    | with_reducible apply renewFed_keeps | split

theorem pairFormed_keeps (n : Nat) {s t : State} (h : Keeps s t) : Keeps s (pairFormed n t) := by
  unfold pairFormed
  repeat' first
    | with_reducible exact h | with_reducible exact Keeps.refl _ | intro _ | with_reducible apply Keeps.put
    | with_reducible apply Keeps.onlyIf | with_reducible apply notice_keeps | with_reducible apply renewFed_keeps

theorem pairBroken_keeps (n : Nat) {s t : State} (h : Keeps s t) : Keeps s (pairBroken n t) := by
  unfold pairBroken
  repeat' first
    | with_reducible exact h | with_reducible exact Keeps.refl _ | intro _ | with_reducible apply Keeps.put
    | with_reducible apply Keeps.putFlag | with_reducible apply Keeps.onlyIf | with_reducible apply notice_keeps
    | with_reducible apply renewFed_keeps

theorem rxRecovered_keeps (n : Nat) {s t : State} (h : Keeps s t) : Keeps s (rxRecovered n t) := by
  unfold rxRecovered
  repeat' first
    | with_reducible exact h | with_reducible exact Keeps.refl _ | intro _ | with_reducible apply Keeps.put
    | with_reducible apply Keeps.onlyIf | with_reducible apply Keeps.ite | with_reducible apply notice_keeps
    | with_reducible apply renewFed_keeps | split

theorem execRxEntryLost_keeps (n : Nat) (s : State) : KeepsO s (execRxEntryLost n s) := by
  unfold execRxEntryLost
  repeat' first
    | with_reducible apply KeepsO.next | with_reducible apply KeepsO.ite | with_reducible exact Keeps.refl _ | intro _
    | with_reducible apply Keeps.onlyIf | with_reducible apply rxLost_keeps

theorem rememberSeq_keeps (pair w q : Nat) {s t : State} (h : Keeps s t) : Keeps s (rememberSeq pair w q t) := by
  unfold rememberSeq
  repeat' first
    | with_reducible exact h | with_reducible exact Keeps.refl _ | intro _ | simp only [Keeps.update_iff]

theorem closeHoles_keeps (n lead window : Nat) {s t : State} (h : Keeps s t) : Keeps s (closeHoles n lead window t) := by
  unfold closeHoles
  repeat' first
    | with_reducible exact h | with_reducible exact Keeps.refl _ | intro _ | with_reducible apply Keeps.bump
    | simp only [Keeps.update_iff]

theorem followSeq_keeps (n lead w q : Nat) {s t : State} (h : Keeps s t) : Keeps s (followSeq n lead w q t) := by
  unfold followSeq
  repeat' first
    | with_reducible exact h | with_reducible exact Keeps.refl _ | intro _ | with_reducible apply Keeps.put
    | with_reducible apply Keeps.bump | with_reducible apply Keeps.ite | with_reducible apply closeHoles_keeps | split
    | simp only [Keeps.update_iff]

theorem audioPacket_keeps (n : Nat) (f : RxFrame) (hk : Ipv4) {s t : State} (h : Keeps s t) : Keeps s (audioPacket n f hk t) := by
  unfold audioPacket
  repeat' first
    | with_reducible exact h | with_reducible exact Keeps.refl _ | intro _ | with_reducible apply Keeps.put
    | with_reducible apply Keeps.ite | with_reducible apply queuePush_keeps | with_reducible apply portCause_keeps | split
    | simp only [Keeps.update_iff]

theorem openFillAt_keeps (i ts : Nat) {s t : State} (h : Keeps s t) : Keeps s (openFillAt i ts t) := by
  unfold openFillAt
  repeat' first
    | with_reducible exact h | with_reducible exact Keeps.refl _ | intro _ | simp only [Keeps.update_iff]

theorem patchSpan_keeps (fl : Fill) (ps : List (Nat × Nat × List Nat)) {s t : State} (h : Keeps s t) : Keeps s (patchSpan fl ps t) := by
  unfold patchSpan
  repeat' first
    | with_reducible exact h | with_reducible exact Keeps.refl _ | intro _ | with_reducible apply Keeps.put
    | with_reducible apply Keeps.ite | with_reducible apply keepSpans_keeps | split | simp only [Keeps.update_iff]

theorem fillPieces_keeps (i fmt ts : Nat) (ps : List (Nat × Nat × List Nat)) (anc : List (Nat × List Byte)) {s t : State} (h : Keeps s t) : Keeps s (fillPieces i fmt ts ps anc t) := by
  unfold fillPieces
  repeat' first
    | with_reducible exact h | with_reducible exact Keeps.refl _ | intro _ | with_reducible apply Keeps.ite
    | with_reducible apply openFillAt_keeps | with_reducible apply patchSpan_keeps | split | simp only [Keeps.update_iff]

theorem videoPacket_keeps (n q : Nat) (l : List Byte) (hk : Ipv4) {s t : State} (h : Keeps s t) : Keeps s (videoPacket n q l hk t) := by
  unfold videoPacket
  repeat' first
    | with_reducible exact h | with_reducible exact Keeps.refl _ | intro _ | with_reducible apply Keeps.bump
    | with_reducible apply Keeps.onlyIf | with_reducible apply Keeps.ite | with_reducible apply notice_keeps
    | with_reducible apply fillPieces_keeps | split | simp only [Keeps.update_iff]

theorem placePacket_keeps (n q : Nat) (f : RxFrame) (hk : Ipv4) {s t : State} (h : Keeps s t) : Keeps s (placePacket n q f hk t) := by
  unfold placePacket
  repeat' first
    | with_reducible exact h | with_reducible apply Keeps.ite | with_reducible apply audioPacket_keeps
    | with_reducible apply videoPacket_keeps | split

theorem mergeCopy_keeps (n q : Nat) (take : State → State) (htake : ∀  u, Keeps u (take  u)) {s t : State} (h : Keeps s t) : Keeps s (mergeCopy n q take t) := by
  unfold mergeCopy
  repeat' first
    | with_reducible exact h | with_reducible exact Keeps.refl _ | intro _ | with_reducible apply Keeps.bump
    | with_reducible apply Keeps.onlyIf | with_reducible apply rememberSeq_keeps | with_reducible refine Keeps.trans ?_ (htake _)
    | split | simp only [Keeps.update_iff]

theorem mediaPacket_keeps (n q : Nat) (f : RxFrame) (hk : Ipv4) {s t : State} (h : Keeps s t) : Keeps s (mediaPacket n q f hk t) := by
  unfold mediaPacket
  repeat' first
    | with_reducible exact h | with_reducible exact Keeps.refl _ | intro _ | with_reducible apply Keeps.ite
    | with_reducible apply rxRecovered_keeps | with_reducible apply followSeq_keeps | with_reducible apply placePacket_keeps
    | with_reducible apply mergeCopy_keeps | split

theorem deliverFrame_keeps (q m : Nat) (tg : Stamp) (l : List Byte) {s t : State} (h : Keeps s t) : Keeps s (deliverFrame q m tg l t) := by
  unfold deliverFrame
  repeat' first
    | with_reducible exact h | with_reducible apply queuePush_keeps

theorem dropFrame_keeps (m : Nat) {s t : State} (h : Keeps s t) : Keeps s (dropFrame m t) := by
  unfold dropFrame
  repeat' first
    | with_reducible exact h | with_reducible apply Keeps.bump | with_reducible apply macCause_keeps

theorem toSoftware_keeps (m : Nat) (f : RxFrame) {s t : State} (h : Keeps s t) : Keeps s (toSoftware m f t) := by
  unfold toSoftware
  repeat' first
    | with_reducible exact h | with_reducible apply Keeps.ite | with_reducible apply deliverFrame_keeps
    | with_reducible apply dropFrame_keeps | split

theorem toEntry_keeps (m n : Nat) (hk : Ipv4) (f : RxFrame) {s t : State} (h : Keeps s t) : Keeps s (toEntry m n hk f t) := by
  unfold toEntry
  repeat' first
    | with_reducible exact h | with_reducible exact Keeps.refl _ | intro _ | with_reducible apply Keeps.ite
    | with_reducible apply rxRecovered_keeps | with_reducible apply mergeCopy_keeps | with_reducible apply mediaPacket_keeps
    | with_reducible apply deliverFrame_keeps | split

theorem classifyFrame_keeps (m : Nat) (f : RxFrame) {s t : State} (h : Keeps s t) : Keeps s (classifyFrame m f t) := by
  unfold classifyFrame
  repeat' first
    | with_reducible exact h | with_reducible apply Keeps.ite | with_reducible apply toSoftware_keeps
    | with_reducible apply toEntry_keeps | split | simp only [Keeps.update_iff]

theorem pausePort_keeps (m quanta : Nat) {s t : State} (h : Keeps s t) : Keeps s (pausePort m quanta t) := by
  unfold pausePort
  repeat' first
    | with_reducible exact h | with_reducible apply Keeps.put | with_reducible apply Keeps.putFlag
    | with_reducible apply Keeps.bump | with_reducible apply Keeps.ite | with_reducible apply macCause_keeps | split

theorem pauseClasses_keeps (m vector : Nat) (times : List Nat) {s t : State} (h : Keeps s t) : Keeps s (pauseClasses m vector times t) := by
  unfold pauseClasses
  repeat' first
    | with_reducible exact h | with_reducible exact Keeps.refl _ | intro _ | with_reducible apply Keeps.put
    | with_reducible apply Keeps.bump | with_reducible apply Keeps.forAll | with_reducible apply Keeps.ite
    | with_reducible apply macCause_keeps | split

theorem controlFrame_keeps (m o : Nat) (l : List Byte) {s t : State} (h : Keeps s t) : Keeps s (controlFrame m o l t) := by
  unfold controlFrame
  repeat' first
    | with_reducible exact h | with_reducible exact Keeps.refl _ | intro _ | with_reducible apply Keeps.ite
    | with_reducible apply dropFrame_keeps | with_reducible apply pausePort_keeps | with_reducible apply pauseClasses_keeps
    | split

theorem ptpFrame_keeps (m : Nat) (f : RxFrame) {s t : State} (h : Keeps s t) : Keeps s (ptpFrame m f t) := by
  unfold ptpFrame
  repeat' first
    | with_reducible exact h | with_reducible apply Keeps.ite | with_reducible apply deliverFrame_keeps
    | with_reducible apply classifyFrame_keeps | split

theorem goodFrame_keeps (m : Nat) (f : RxFrame) {s t : State} (h : Keeps s t) : Keeps s (goodFrame m f t) := by
  unfold goodFrame
  repeat' first
    | with_reducible exact h | with_reducible apply Keeps.bump | with_reducible apply Keeps.ite
    | with_reducible apply dropFrame_keeps | with_reducible apply classifyFrame_keeps | with_reducible apply controlFrame_keeps
    | with_reducible apply ptpFrame_keeps | split | simp only [Keeps.update_iff]

theorem execFrameReceived_keeps (m : Nat) (f : RxFrame) (s : State) : KeepsO s (execFrameReceived m f s) := by
  unfold execFrameReceived
  repeat' first
    | with_reducible apply KeepsO.next | with_reducible apply KeepsO.ite | with_reducible exact Keeps.refl _ | intro _
    | with_reducible apply Keeps.bump | with_reducible apply Keeps.onlyIf | with_reducible apply Keeps.ite
    | with_reducible apply macCause_keeps | with_reducible apply goodFrame_keeps | split

theorem execPauseFrame_keeps (m quanta : Nat) (s : State) : KeepsO s (execPauseFrame m quanta s) := by
  unfold execPauseFrame
  repeat' first
    | with_reducible apply KeepsO.next | with_reducible apply KeepsO.ite | with_reducible exact Keeps.refl _ | intro _
    | with_reducible apply Keeps.bump | with_reducible apply Keeps.onlyIf | with_reducible apply pausePort_keeps

theorem execPfcFrame_keeps (m vector : Nat) (times : List Nat) (s : State) : KeepsO s (execPfcFrame m vector times s) := by
  unfold execPfcFrame
  repeat' first
    | with_reducible apply KeepsO.next | with_reducible apply KeepsO.ite | with_reducible exact Keeps.refl _ | intro _
    | with_reducible apply Keeps.bump | with_reducible apply Keeps.onlyIf | with_reducible apply pauseClasses_keeps

theorem execPauseExpiry_keeps (m : Nat) (cls : Option Nat) (s : State) : KeepsO s (execPauseExpiry m cls s) := by
  unfold execPauseExpiry
  repeat' first
    | with_reducible apply KeepsO.next | with_reducible apply KeepsO.ite | with_reducible exact Keeps.refl _ | intro _
    | with_reducible apply Keeps.put | with_reducible apply Keeps.ite | split | simp only [Keeps.update_iff]

theorem macLaneChanged_keeps (m : Nat) {s t : State} (h : Keeps s t) : Keeps s (macLaneChanged m t) := by
  unfold macLaneChanged
  repeat' first
    | with_reducible exact h | with_reducible exact Keeps.refl _ | intro _ | with_reducible apply Keeps.putFlag
    | with_reducible apply Keeps.onlyIf | with_reducible apply Keeps.forAll | with_reducible apply macCause_keeps
    | with_reducible apply rxLost_keeps

theorem putGate_keeps (g : GateState) {s t : State} (h : Keeps s t) : Keeps s (putGate g t) := by
  unfold putGate
  repeat' first
    | with_reducible exact h | with_reducible exact Keeps.refl _ | intro _ | with_reducible apply Keeps.put
    | with_reducible apply Keeps.putFlag | with_reducible apply Keeps.ite | split | simp only [Keeps.update_iff]

theorem latchGates_keeps (m : Nat) {s t : State} (h : Keeps s t) : Keeps s (latchGates m t) := by
  unfold latchGates
  repeat' first
    | with_reducible exact h | with_reducible apply Keeps.ite | with_reducible apply putGate_keeps | split
    | simp only [Keeps.update_iff]

theorem gatesDisabled_keeps (m : Nat) {s t : State} (h : Keeps s t) : Keeps s (gatesDisabled m t) := by
  unfold gatesDisabled
  repeat' first
    | with_reducible exact h | with_reducible apply putGate_keeps

theorem cycleStart_keeps (g : GateState) {s t : State} (h : Keeps s t) : Keeps s (cycleStart g t) := by
  unfold cycleStart
  repeat' first
    | with_reducible exact h | with_reducible exact Keeps.refl _ | intro _ | with_reducible apply Keeps.onlyIf
    | with_reducible apply putGate_keeps | split | simp only [Keeps.update_iff]

theorem execGclCycleStart_keeps (m : Nat) (s : State) : KeepsO s (execGclCycleStart m s) := by
  unfold execGclCycleStart
  repeat' first
    | with_reducible apply KeepsO.next | with_reducible apply KeepsO.ite | with_reducible exact Keeps.refl _ | intro _
    | with_reducible apply Keeps.onlyIf | with_reducible apply Keeps.ite | with_reducible apply notice_keeps
    | with_reducible apply putGate_keeps | with_reducible apply cycleStart_keeps | split | simp only [Keeps.update_iff]

theorem execGateChange_keeps (m : Nat) (s : State) : KeepsO s (execGateChange m s) := by
  unfold execGateChange
  repeat' first
    | with_reducible apply KeepsO.next | with_reducible apply KeepsO.ite | with_reducible exact Keeps.refl _ | intro _
    | with_reducible apply Keeps.ite | with_reducible apply putGate_keeps | split | simp only [Keeps.update_iff]

theorem execGateDrop_keeps (m : Nat) (s : State) : KeepsO s (execGateDrop m s) := by
  unfold execGateDrop
  repeat' first
    | with_reducible apply KeepsO.next | with_reducible apply KeepsO.ite | with_reducible exact Keeps.refl _ | intro _
    | with_reducible apply Keeps.bump | with_reducible apply Keeps.onlyIf | with_reducible apply notice_keeps
    | with_reducible apply macCause_keeps

theorem restartGates_keeps (tb : Nat) {s t : State} (h : Keeps s t) : Keeps s (restartGates tb t) := by
  unfold restartGates
  repeat' first
    | with_reducible exact h | with_reducible exact Keeps.refl _ | intro _ | with_reducible apply Keeps.forAll
    | with_reducible apply Keeps.ite | with_reducible apply putGate_keeps | split | simp only [Keeps.update_iff]

theorem tplPut16_keeps (tg i v : Nat) {s t : State} (h : Keeps s t) : Keeps s (tplPut16 tg i v t) := by
  unfold tplPut16
  repeat' first
    | with_reducible exact h | with_reducible apply Keeps.put

theorem takeIdent_keeps (n : Nat) {s t : State} (h : Keeps s t) : Keeps s (takeIdent n t).2 := tplPut16_keeps _ _ _ h

theorem sendMedia_keeps (m tg e n k : Nat) (body : List Byte) {s t : State} (h : Keeps s t) : Keeps s (sendMedia m tg e n k body t) := by
  unfold sendMedia
  repeat' first
    | with_reducible exact h | with_reducible apply Keeps.bump | with_reducible apply Keeps.inc | with_reducible apply Keeps.emit
    | with_reducible apply takeIdent_keeps

theorem execMediaPacketSend_keeps (e : Nat) (legB : Bool) (n k len : Nat) (second last : Bool) (s : State) : KeepsO s (execMediaPacketSend e legB n k len second last s) := by
  unfold execMediaPacketSend
  repeat' first
    | with_reducible apply KeepsO.next | with_reducible apply KeepsO.ite | with_reducible exact Keeps.refl _ | intro _
    | with_reducible apply Keeps.onlyIf | with_reducible apply Keeps.ite | with_reducible apply sendMedia_keeps | split
    | simp only [Keeps.update_iff]

theorem execTxPacketLate_keeps (e : Nat) (s : State) : KeepsO s (execTxPacketLate e s) := by
  unfold execTxPacketLate
  repeat' first
    | with_reducible apply KeepsO.next | with_reducible apply KeepsO.ite | with_reducible exact Keeps.refl _ | intro _
    | with_reducible apply Keeps.bump | with_reducible apply Keeps.onlyIf | with_reducible apply notice_keeps

theorem refuseItem_keeps (code q : Nat) {s t : State} (h : Keeps s t) : Keeps s (refuseItem code q t) := by
  unfold refuseItem
  repeat' first
    | with_reducible exact h | with_reducible apply refuse_keeps

theorem skipForeign_keeps (q fuel : Nat) {s t : State} (h : Keeps s t) : Keeps s (skipForeign q fuel t) := by
  induction fuel generalizing t with
  | zero => exact h
  | succ k ih =>
    unfold skipForeign
    split
    · split
      · exact h
      · exact ih (queuePop_keeps _ (Keeps.onlyIf _ (fun u => refuseItem_keeps _ _ (Keeps.refl u)) h))
    · exact h

theorem largePackets_keeps (e : Nat) (l : LargeSend) (ps : List (List Byte)) {s t : State} (h : Keeps s t) :
    Keeps s (largePackets e l ps t).1 := by
  induction ps generalizing t with
  | nil => exact h
  | cons p ps ih =>
    unfold largePackets
    dsimp only
    split
    · exact h
    · apply ih
      apply Keeps.emit
      apply Keeps.bump
      apply Keeps.inc
      apply Keeps.ite
      · exact tplPut16_keeps _ _ _ (takeIdent_keeps _ h)
      · exact takeIdent_keeps _ h

theorem sendLarge_keeps (e : Nat) (l : LargeSend) (sent : Nat) {s t : State} (h : Keeps s t) : Keeps s (sendLarge e l sent t) := by
  unfold sendLarge
  simp only [Keeps.update_iff]
  exact largePackets_keeps _ _ _ h

theorem execLargeSend_keeps (x : LargeStep) (s : State) : KeepsO s (execLargeSend x s) := by
  unfold execLargeSend
  repeat' first
    | with_reducible apply KeepsO.next | with_reducible apply KeepsO.ite | with_reducible exact Keeps.refl _ | intro _
    | with_reducible apply Keeps.onlyIf | with_reducible apply Keeps.ite | with_reducible apply eccNote_keeps
    | with_reducible apply queuePop_keeps | with_reducible apply refuseItem_keeps | with_reducible apply skipForeign_keeps
    | with_reducible apply sendLarge_keeps | split | simp only [Keeps.update_iff]

theorem execLargeSendComplete_keeps (e : Nat) (s : State) : KeepsO s (execLargeSendComplete e s) := by
  unfold execLargeSendComplete
  repeat' first
    | with_reducible apply KeepsO.next | with_reducible apply KeepsO.ite | with_reducible exact Keeps.refl _ | intro _
    | with_reducible apply Keeps.onlyIf | with_reducible apply Keeps.ite | with_reducible apply notice_keeps
    | with_reducible apply queuePush_keeps | with_reducible apply queuePop_keeps | split | simp only [Keeps.update_iff]

theorem departureItem_keeps (e tag : Nat) (tg : TimedFrame) (d : Stamp) (code q : Nat) {s t : State} (h : Keeps s t) : Keeps s (departureItem e tag tg d code q t) := by
  unfold departureItem
  repeat' first
    | with_reducible exact h | with_reducible apply Keeps.ite | with_reducible apply queuePush_keeps
    | with_reducible apply refuseItem_keeps | split

theorem discardTimed_keeps (e code : Nat) (it : Item) {s t : State} (h : Keeps s t) : Keeps s (discardTimed e code it t) := by
  unfold discardTimed
  repeat' first
    | with_reducible exact h | with_reducible exact Keeps.refl _ | intro _ | with_reducible apply Keeps.ite
    | with_reducible apply queuePop_keeps | with_reducible apply tbCause_keeps | with_reducible apply refuseItem_keeps
    | with_reducible apply departureItem_keeps | split | simp only [Keeps.update_iff]

theorem execTimedFrame_keeps (e : Nat) (s : State) : KeepsO s (execTimedFrame e s) := by
  unfold execTimedFrame
  repeat' first
    | with_reducible apply KeepsO.next | with_reducible apply KeepsO.ite | with_reducible exact Keeps.refl _ | intro _
    | with_reducible apply Keeps.ite | with_reducible apply skipForeign_keeps | with_reducible apply discardTimed_keeps | split
    | simp only [Keeps.update_iff]

theorem execLaunchTime_keeps (e : Nat) (s : State) : KeepsO s (execLaunchTime e s) := by
  unfold execLaunchTime
  repeat' first
    | with_reducible apply KeepsO.next | with_reducible apply KeepsO.ite | with_reducible exact Keeps.refl _ | intro _
    | with_reducible apply Keeps.ite | split | simp only [Keeps.update_iff]

theorem execTimedFrameDeparture_keeps (e sixteenths : Nat) (s : State) : KeepsO s (execTimedFrameDeparture e sixteenths s) := by
  unfold execTimedFrameDeparture
  repeat' first
    | with_reducible apply KeepsO.next | with_reducible apply KeepsO.ite | with_reducible exact Keeps.refl _ | intro _
    | with_reducible apply Keeps.bump | with_reducible apply Keeps.inc | with_reducible apply Keeps.emit
    | with_reducible apply Keeps.ite | with_reducible apply queuePop_keeps | with_reducible apply departureItem_keeps | split
    | simp only [Keeps.update_iff]

theorem recheckHeld_keeps (tb : Nat) {s t : State} (h : Keeps s t) : Keeps s (recheckHeld tb t) := by
  unfold recheckHeld
  repeat' first
    | with_reducible exact h | with_reducible exact Keeps.refl _ | intro _ | with_reducible apply Keeps.onlyIf
    | with_reducible apply Keeps.forAll | with_reducible apply discardTimed_keeps | split | simp only [Keeps.update_iff]

theorem tbStepped_keeps (n : Nat) {s t : State} (h : Keeps s t) : Keeps s (tbStepped n t) := by
  unfold tbStepped
  repeat' first
    | with_reducible exact h | with_reducible exact Keeps.refl _ | intro _ | with_reducible apply Keeps.put
    | with_reducible apply Keeps.onlyIf | with_reducible apply Keeps.forAll | with_reducible apply notice_keeps
    | with_reducible apply tbCause_keeps | with_reducible apply restartGates_keeps | with_reducible apply recheckHeld_keeps

theorem applyStep_keeps (d : StepDue) {s t : State} (h : Keeps s t) : Keeps s (applyStep d t) := by
  unfold applyStep
  repeat' first
    | with_reducible exact h | with_reducible apply putTb_keeps | with_reducible apply tbStepped_keeps | split
    | simp only [Keeps.update_iff]

theorem tbCommand_keeps (m : Master) (n v : Nat) {s t : State} (h : Keeps s t) : Keeps s (tbCommand m n v t) := by
  unfold tbCommand
  repeat' first
    | with_reducible exact h | with_reducible apply Keeps.ite | with_reducible apply refuse_keeps
    | with_reducible apply alarmBits_keeps | with_reducible apply applyStep_keeps | split | simp only [Keeps.update_iff]

theorem tbCmdRow_keeps (m : Master) (n v : Nat) {s t : State} (h : Keeps s t) : Keeps s (tbCmdRow m n v t) := by
  unfold tbCmdRow
  repeat' first
    | with_reducible exact h | with_reducible exact Keeps.refl _ | intro _ | with_reducible apply Keeps.onlyIf
    | with_reducible apply writeGated_keeps | with_reducible apply tbCommand_keeps

theorem execTbStep_keeps (m : Master) (n v : Nat) (s : State) : KeepsO s (execTbStep m n v s) := by
  unfold execTbStep
  repeat' first
    | with_reducible apply KeepsO.next | with_reducible apply KeepsO.ite | with_reducible exact Keeps.refl _ | intro _
    | with_reducible apply tbCmdRow_keeps

theorem execTbSet_keeps (m : Master) (n v : Nat) (s : State) : KeepsO s (execTbSet m n v s) := by
  unfold execTbSet
  repeat' first
    | with_reducible apply KeepsO.next | with_reducible apply KeepsO.ite | with_reducible exact Keeps.refl _ | intro _
    | with_reducible apply tbCmdRow_keeps

theorem execTbArm_keeps (m : Master) (n v : Nat) (s : State) : KeepsO s (execTbArm m n v s) := by
  unfold execTbArm
  repeat' first
    | with_reducible apply KeepsO.next | with_reducible apply KeepsO.ite | with_reducible exact Keeps.refl _ | intro _
    | with_reducible apply tbCmdRow_keeps

theorem execTbDisarm_keeps (m : Master) (n v : Nat) (s : State) : KeepsO s (execTbDisarm m n v s) := by
  unfold execTbDisarm
  repeat' first
    | with_reducible apply KeepsO.next | with_reducible apply KeepsO.ite | with_reducible exact Keeps.refl _ | intro _
    | with_reducible apply tbCmdRow_keeps

theorem tickTb_keeps (n : Nat) {s t : State} (h : Keeps s t) : Keeps s (tickTb n t) := by
  unfold tickTb
  repeat' first
    | with_reducible exact h | with_reducible apply Keeps.ite | with_reducible apply putTb_keeps
    | with_reducible apply takeInc_keeps | split

theorem tickAll_keeps {s t : State} (h : Keeps s t) : Keeps s (tickAll t) := by
  unfold tickAll
  repeat' first
    | with_reducible exact h | with_reducible exact Keeps.refl _ | intro _ | with_reducible apply Keeps.forAll
    | with_reducible apply applyStep_keeps | with_reducible apply tickTb_keeps | simp only [Keeps.update_iff]

end Sys2Proof.Machine
end

