-- ==== Sys2Proof/Laws/KeepsDsp.lean ====
section
/-!
SUPPORT. Every operation of these files keeps what `Keeps` says: Operands, Flags, Dsp, DspOps, DspUnit, Audio.
-/
namespace Sys2Proof.Machine

/-! ### Operands -/

theorem putCore_keeps (n : Nat) (c : DspCore) {s t : State} (h : Keeps s t) : Keeps s (putCore n c t) := by
  unfold putCore
  repeat' first
    | with_reducible exact h | simp only [Keeps.update_iff]

theorem dspCause_keeps (n bit cls : Nat) {s t : State} (h : Keeps s t) : Keeps s (dspCause n bit cls t) := by
  unfold dspCause
  repeat' first
    | with_reducible exact h | with_reducible apply setCauses_keeps

theorem writeRingRd_keeps (n i v : Nat) {s t : State} (h : Keeps s t) : Keeps s (writeRingRd n i v t) := by
  unfold writeRingRd
  repeat' first
    | with_reducible exact h | with_reducible apply Keeps.ite | with_reducible apply putCore_keeps
    | with_reducible apply dspCause_keeps | split | simp only [Keeps.update_iff]

theorem writeX_keeps (n a v : Nat) {s t : State} (h : Keeps s t) : Keeps s (writeX n a v t) := by
  unfold writeX
  repeat' first
    | with_reducible exact h | with_reducible apply Keeps.put | with_reducible apply Keeps.memPut
    | with_reducible apply Keeps.ite | with_reducible apply dspCause_keeps | with_reducible apply writeRingRd_keeps | split

theorem writeY_keeps (n a v : Nat) {s t : State} (h : Keeps s t) : Keeps s (writeY n a v t) := by
  unfold writeY
  repeat' first
    | with_reducible exact h | with_reducible apply Keeps.memPut

/-! ### Dsp -/

theorem dspFault_keeps (n code : Nat) {s t : State} (h : Keeps s t) : Keeps s (dspFault n code t) := by
  unfold dspFault
  repeat' first
    | with_reducible exact h | with_reducible apply Keeps.put | with_reducible apply Keeps.ite
    | with_reducible apply dspCause_keeps | split

theorem dspCorrected_keeps (n : Nat) {s t : State} (h : Keeps s t) : Keeps s (dspCorrected n t) := by
  unfold dspCorrected
  repeat' first
    | with_reducible exact h | with_reducible apply Keeps.bump | with_reducible apply dspCause_keeps

theorem dspUncorrectable_keeps (n : Nat) {s t : State} (h : Keeps s t) : Keeps s (dspUncorrectable n t) := by
  unfold dspUncorrectable
  repeat' first
    | with_reducible exact h | with_reducible apply Keeps.bump | with_reducible apply dspFault_keeps

theorem dspRead_keeps (n : Nat) (e : EccOutcome) (k : State → State) (hk : ∀  u, Keeps u (k  u)) {s t : State} (h : Keeps s t) : Keeps s (dspRead n e k t) := by
  unfold dspRead
  repeat' first
    | with_reducible exact h | with_reducible exact Keeps.refl _ | intro _ | with_reducible apply dspCorrected_keeps
    | with_reducible apply dspUncorrectable_keeps | with_reducible refine Keeps.trans ?_ (hk _) | split
    | simp only [Keeps.update_iff]

theorem dspRow_keeps (form opc n : Nat) (e : DspEcc) (eff : Nat → State → State) (heff : ∀ a0 u, Keeps u (eff a0 u)) {s t : State} (h : Keeps s t) : Keeps s (dspRow form opc n e eff t) := by
  unfold dspRow
  repeat' first
    | with_reducible exact h | with_reducible exact Keeps.refl _ | intro _ | with_reducible apply Keeps.ite
    | with_reducible apply dspFault_keeps | with_reducible apply dspRead_keeps | with_reducible refine Keeps.trans ?_ (heff _ _)
    | split

theorem dspStores_keeps (n w ax ay : Nat) (c0 : DspCore) {s t : State} (h : Keeps s t) : Keeps s (dspStores n w ax ay c0 t) := by
  unfold dspStores
  repeat' first
    | with_reducible exact h | with_reducible exact Keeps.refl _ | intro _ | with_reducible apply Keeps.onlyIf
    | with_reducible apply putCore_keeps | with_reducible apply writeX_keeps | with_reducible apply writeY_keeps

theorem dspReadData_keeps (n : Nat) (e : DspEcc) (rx ry : Bool) (k : State → State) (hk : ∀  u, Keeps u (k  u)) {s t : State} (h : Keeps s t) : Keeps s (dspReadData n e rx ry k t) := by
  unfold dspReadData
  repeat' first
    | with_reducible exact h | with_reducible exact Keeps.refl _ | intro _ | with_reducible apply Keeps.ite
    | with_reducible apply dspRead_keeps | with_reducible refine Keeps.trans ?_ (hk _) | split

theorem dspParallel_keeps (op : Nat → Nat → DspCore → DspCore → DspCore) (n : Nat) (e : DspEcc) (w : Nat) {s t : State} (h : Keeps s t) : Keeps s (dspParallel op n e w t) := by
  unfold dspParallel
  repeat' first
    | with_reducible exact h | with_reducible exact Keeps.refl _ | intro _ | with_reducible apply putCore_keeps
    | with_reducible apply dspStores_keeps | with_reducible apply dspReadData_keeps | simp only [Keeps.update_iff]

theorem dspParallelRow_keeps (opc : Nat) (op : Nat → Nat → DspCore → DspCore → DspCore) (n : Nat) (e : DspEcc) {s t : State} (h : Keeps s t) : Keeps s (dspParallelRow opc op n e t) := by
  unfold dspParallelRow
  repeat' first
    | with_reducible exact h | with_reducible exact Keeps.refl _ | intro _ | with_reducible apply dspRow_keeps
    | with_reducible apply dspParallel_keeps

theorem dspFirtap_keeps (n : Nat) (e : DspEcc) (w : Nat) {s t : State} (h : Keeps s t) : Keeps s (dspFirtap n e w t) := by
  unfold dspFirtap
  repeat' first
    | with_reducible exact h | with_reducible exact Keeps.refl _ | intro _ | with_reducible apply putCore_keeps
    | with_reducible apply writeX_keeps | with_reducible apply dspReadData_keeps

theorem dspPush_keeps (n a : Nat) (k : State → State) (hk : ∀  u, Keeps u (k  u)) {s t : State} (h : Keeps s t) : Keeps s (dspPush n a k t) := by
  unfold dspPush
  repeat' first
    | with_reducible exact h | with_reducible exact Keeps.refl _ | intro _ | with_reducible apply Keeps.ite
    | with_reducible apply putCore_keeps | with_reducible apply dspFault_keeps | with_reducible refine Keeps.trans ?_ (hk _)
    | split | simp only [Keeps.update_iff]

theorem dspPop_keeps (n : Nat) (k : Nat × Nat → State → State) (hk : ∀ a0 u, Keeps u (k a0 u)) {s t : State} (h : Keeps s t) : Keeps s (dspPop n k t) := by
  unfold dspPop
  repeat' first
    | with_reducible exact h | with_reducible exact Keeps.refl _ | intro _ | with_reducible apply Keeps.ite
    | with_reducible apply putCore_keeps | with_reducible apply dspFault_keeps | with_reducible refine Keeps.trans ?_ (hk _ _)
    | split | simp only [Keeps.update_iff]

theorem dspRepeat_keeps (n count : Nat) {s t : State} (h : Keeps s t) : Keeps s (dspRepeat n count t) := by
  unfold dspRepeat
  repeat' first
    | with_reducible exact h | with_reducible apply Keeps.ite | with_reducible apply putCore_keeps
    | with_reducible apply dspFault_keeps | split

theorem takeBlock_keeps (n : Nat) {s t : State} (h : Keeps s t) : Keeps s (takeBlock n t) := by
  unfold takeBlock
  repeat' first
    | with_reducible exact h | with_reducible exact Keeps.refl _ | intro _ | with_reducible apply Keeps.put
    | with_reducible apply Keeps.bump | with_reducible apply Keeps.onlyIf | with_reducible apply putCore_keeps
    | with_reducible apply dspCause_keeps | simp only [Keeps.update_iff]

theorem dspBlkend_keeps (n : Nat) {s t : State} (h : Keeps s t) : Keeps s (dspBlkend n t) := by
  unfold dspBlkend
  repeat' first
    | with_reducible exact h | with_reducible exact Keeps.refl _ | intro _ | with_reducible apply Keeps.put
    | with_reducible apply Keeps.onlyIf | with_reducible apply Keeps.ite | with_reducible apply putCore_keeps
    | with_reducible apply takeBlock_keeps | split | simp only [Keeps.update_iff]

/-! ### DspOps -/

theorem execMpy_keeps (n : Nat) (e : DspEcc) (s : State) : KeepsO s (execMpy n e s) := by
  unfold execMpy
  repeat' first
    | with_reducible apply KeepsO.next | with_reducible apply KeepsO.ite | with_reducible exact Keeps.refl _ | intro _
    | with_reducible apply Keeps.onlyIf | with_reducible apply dspParallelRow_keeps

theorem execMac_keeps (n : Nat) (e : DspEcc) (s : State) : KeepsO s (execMac n e s) := by
  unfold execMac
  repeat' first
    | with_reducible apply KeepsO.next | with_reducible apply KeepsO.ite | with_reducible exact Keeps.refl _ | intro _
    | with_reducible apply Keeps.onlyIf | with_reducible apply dspParallelRow_keeps

theorem execMsu_keeps (n : Nat) (e : DspEcc) (s : State) : KeepsO s (execMsu n e s) := by
  unfold execMsu
  repeat' first
    | with_reducible apply KeepsO.next | with_reducible apply KeepsO.ite | with_reducible exact Keeps.refl _ | intro _
    | with_reducible apply Keeps.onlyIf | with_reducible apply dspParallelRow_keeps

theorem execCmpy_keeps (n : Nat) (e : DspEcc) (s : State) : KeepsO s (execCmpy n e s) := by
  unfold execCmpy
  repeat' first
    | with_reducible apply KeepsO.next | with_reducible apply KeepsO.ite | with_reducible exact Keeps.refl _ | intro _
    | with_reducible apply Keeps.onlyIf | with_reducible apply dspParallelRow_keeps

theorem execCmac_keeps (n : Nat) (e : DspEcc) (s : State) : KeepsO s (execCmac n e s) := by
  unfold execCmac
  repeat' first
    | with_reducible apply KeepsO.next | with_reducible apply KeepsO.ite | with_reducible exact Keeps.refl _ | intro _
    | with_reducible apply Keeps.onlyIf | with_reducible apply dspParallelRow_keeps

theorem execCmacj_keeps (n : Nat) (e : DspEcc) (s : State) : KeepsO s (execCmacj n e s) := by
  unfold execCmacj
  repeat' first
    | with_reducible apply KeepsO.next | with_reducible apply KeepsO.ite | with_reducible exact Keeps.refl _ | intro _
    | with_reducible apply Keeps.onlyIf | with_reducible apply dspParallelRow_keeps

theorem execFirtap_keeps (n : Nat) (e : DspEcc) (s : State) : KeepsO s (execFirtap n e s) := by
  unfold execFirtap
  repeat' first
    | with_reducible apply KeepsO.next | with_reducible apply KeepsO.ite | with_reducible exact Keeps.refl _ | intro _
    | with_reducible apply Keeps.onlyIf | with_reducible apply dspRow_keeps | with_reducible apply dspFirtap_keeps

theorem execClr_keeps (n : Nat) (e : DspEcc) (s : State) : KeepsO s (execClr n e s) := by
  unfold execClr
  repeat' first
    | with_reducible apply KeepsO.next | with_reducible apply KeepsO.ite | with_reducible exact Keeps.refl _ | intro _
    | with_reducible apply Keeps.onlyIf | with_reducible apply dspParallelRow_keeps

theorem execMovd_keeps (n : Nat) (e : DspEcc) (s : State) : KeepsO s (execMovd n e s) := by
  unfold execMovd
  repeat' first
    | with_reducible apply KeepsO.next | with_reducible apply KeepsO.ite | with_reducible exact Keeps.refl _ | intro _
    | with_reducible apply Keeps.onlyIf | with_reducible apply dspParallelRow_keeps

theorem execMova_keeps (n : Nat) (e : DspEcc) (s : State) : KeepsO s (execMova n e s) := by
  unfold execMova
  repeat' first
    | with_reducible apply KeepsO.next | with_reducible apply KeepsO.ite | with_reducible exact Keeps.refl _ | intro _
    | with_reducible apply Keeps.onlyIf | with_reducible apply dspParallelRow_keeps

theorem execAdda_keeps (n : Nat) (e : DspEcc) (s : State) : KeepsO s (execAdda n e s) := by
  unfold execAdda
  repeat' first
    | with_reducible apply KeepsO.next | with_reducible apply KeepsO.ite | with_reducible exact Keeps.refl _ | intro _
    | with_reducible apply Keeps.onlyIf | with_reducible apply dspParallelRow_keeps

theorem execSuba_keeps (n : Nat) (e : DspEcc) (s : State) : KeepsO s (execSuba n e s) := by
  unfold execSuba
  repeat' first
    | with_reducible apply KeepsO.next | with_reducible apply KeepsO.ite | with_reducible exact Keeps.refl _ | intro _
    | with_reducible apply Keeps.onlyIf | with_reducible apply dspParallelRow_keeps

theorem execNorm_keeps (n : Nat) (e : DspEcc) (s : State) : KeepsO s (execNorm n e s) := by
  unfold execNorm
  repeat' first
    | with_reducible apply KeepsO.next | with_reducible apply KeepsO.ite | with_reducible exact Keeps.refl _ | intro _
    | with_reducible apply Keeps.onlyIf | with_reducible apply dspParallelRow_keeps

theorem execExp_keeps (n : Nat) (e : DspEcc) (s : State) : KeepsO s (execExp n e s) := by
  unfold execExp
  repeat' first
    | with_reducible apply KeepsO.next | with_reducible apply KeepsO.ite | with_reducible exact Keeps.refl _ | intro _
    | with_reducible apply Keeps.onlyIf | with_reducible apply dspParallelRow_keeps

theorem execExpd_keeps (n : Nat) (e : DspEcc) (s : State) : KeepsO s (execExpd n e s) := by
  unfold execExpd
  repeat' first
    | with_reducible apply KeepsO.next | with_reducible apply KeepsO.ite | with_reducible exact Keeps.refl _ | intro _
    | with_reducible apply Keeps.onlyIf | with_reducible apply dspParallelRow_keeps

theorem execAdd_keeps (n : Nat) (e : DspEcc) (s : State) : KeepsO s (execAdd n e s) := by
  unfold execAdd
  repeat' first
    | with_reducible apply KeepsO.next | with_reducible apply KeepsO.ite | with_reducible exact Keeps.refl _ | intro _
    | with_reducible apply Keeps.onlyIf | with_reducible apply dspParallelRow_keeps

theorem execSub_keeps (n : Nat) (e : DspEcc) (s : State) : KeepsO s (execSub n e s) := by
  unfold execSub
  repeat' first
    | with_reducible apply KeepsO.next | with_reducible apply KeepsO.ite | with_reducible exact Keeps.refl _ | intro _
    | with_reducible apply Keeps.onlyIf | with_reducible apply dspParallelRow_keeps

theorem execAdds_keeps (n : Nat) (e : DspEcc) (s : State) : KeepsO s (execAdds n e s) := by
  unfold execAdds
  repeat' first
    | with_reducible apply KeepsO.next | with_reducible apply KeepsO.ite | with_reducible exact Keeps.refl _ | intro _
    | with_reducible apply Keeps.onlyIf | with_reducible apply dspParallelRow_keeps

theorem execSubs_keeps (n : Nat) (e : DspEcc) (s : State) : KeepsO s (execSubs n e s) := by
  unfold execSubs
  repeat' first
    | with_reducible apply KeepsO.next | with_reducible apply KeepsO.ite | with_reducible exact Keeps.refl _ | intro _
    | with_reducible apply Keeps.onlyIf | with_reducible apply dspParallelRow_keeps

theorem execAnd_keeps (n : Nat) (e : DspEcc) (s : State) : KeepsO s (execAnd n e s) := by
  unfold execAnd
  repeat' first
    | with_reducible apply KeepsO.next | with_reducible apply KeepsO.ite | with_reducible exact Keeps.refl _ | intro _
    | with_reducible apply Keeps.onlyIf | with_reducible apply dspParallelRow_keeps

theorem execOr_keeps (n : Nat) (e : DspEcc) (s : State) : KeepsO s (execOr n e s) := by
  unfold execOr
  repeat' first
    | with_reducible apply KeepsO.next | with_reducible apply KeepsO.ite | with_reducible exact Keeps.refl _ | intro _
    | with_reducible apply Keeps.onlyIf | with_reducible apply dspParallelRow_keeps

theorem execXor_keeps (n : Nat) (e : DspEcc) (s : State) : KeepsO s (execXor n e s) := by
  unfold execXor
  repeat' first
    | with_reducible apply KeepsO.next | with_reducible apply KeepsO.ite | with_reducible exact Keeps.refl _ | intro _
    | with_reducible apply Keeps.onlyIf | with_reducible apply dspParallelRow_keeps

theorem execAbs_keeps (n : Nat) (e : DspEcc) (s : State) : KeepsO s (execAbs n e s) := by
  unfold execAbs
  repeat' first
    | with_reducible apply KeepsO.next | with_reducible apply KeepsO.ite | with_reducible exact Keeps.refl _ | intro _
    | with_reducible apply Keeps.onlyIf | with_reducible apply dspParallelRow_keeps

theorem execNeg_keeps (n : Nat) (e : DspEcc) (s : State) : KeepsO s (execNeg n e s) := by
  unfold execNeg
  repeat' first
    | with_reducible apply KeepsO.next | with_reducible apply KeepsO.ite | with_reducible exact Keeps.refl _ | intro _
    | with_reducible apply Keeps.onlyIf | with_reducible apply dspParallelRow_keeps

theorem execMax_keeps (n : Nat) (e : DspEcc) (s : State) : KeepsO s (execMax n e s) := by
  unfold execMax
  repeat' first
    | with_reducible apply KeepsO.next | with_reducible apply KeepsO.ite | with_reducible exact Keeps.refl _ | intro _
    | with_reducible apply Keeps.onlyIf | with_reducible apply dspParallelRow_keeps

theorem execMin_keeps (n : Nat) (e : DspEcc) (s : State) : KeepsO s (execMin n e s) := by
  unfold execMin
  repeat' first
    | with_reducible apply KeepsO.next | with_reducible apply KeepsO.ite | with_reducible exact Keeps.refl _ | intro _
    | with_reducible apply Keeps.onlyIf | with_reducible apply dspParallelRow_keeps

theorem execMov_keeps (n : Nat) (e : DspEcc) (s : State) : KeepsO s (execMov n e s) := by
  unfold execMov
  repeat' first
    | with_reducible apply KeepsO.next | with_reducible apply KeepsO.ite | with_reducible exact Keeps.refl _ | intro _
    | with_reducible apply Keeps.onlyIf | with_reducible apply dspParallelRow_keeps

theorem execAsr_keeps (n : Nat) (e : DspEcc) (s : State) : KeepsO s (execAsr n e s) := by
  unfold execAsr
  repeat' first
    | with_reducible apply KeepsO.next | with_reducible apply KeepsO.ite | with_reducible exact Keeps.refl _ | intro _
    | with_reducible apply Keeps.onlyIf | with_reducible apply dspParallelRow_keeps

theorem execLsr_keeps (n : Nat) (e : DspEcc) (s : State) : KeepsO s (execLsr n e s) := by
  unfold execLsr
  repeat' first
    | with_reducible apply KeepsO.next | with_reducible apply KeepsO.ite | with_reducible exact Keeps.refl _ | intro _
    | with_reducible apply Keeps.onlyIf | with_reducible apply dspParallelRow_keeps

theorem execLsl_keeps (n : Nat) (e : DspEcc) (s : State) : KeepsO s (execLsl n e s) := by
  unfold execLsl
  repeat' first
    | with_reducible apply KeepsO.next | with_reducible apply KeepsO.ite | with_reducible exact Keeps.refl _ | intro _
    | with_reducible apply Keeps.onlyIf | with_reducible apply dspParallelRow_keeps

theorem execCmp_keeps (n : Nat) (e : DspEcc) (s : State) : KeepsO s (execCmp n e s) := by
  unfold execCmp
  repeat' first
    | with_reducible apply KeepsO.next | with_reducible apply KeepsO.ite | with_reducible exact Keeps.refl _ | intro _
    | with_reducible apply Keeps.onlyIf | with_reducible apply dspParallelRow_keeps

theorem execTst_keeps (n : Nat) (e : DspEcc) (s : State) : KeepsO s (execTst n e s) := by
  unfold execTst
  repeat' first
    | with_reducible apply KeepsO.next | with_reducible apply KeepsO.ite | with_reducible exact Keeps.refl _ | intro _
    | with_reducible apply Keeps.onlyIf | with_reducible apply dspParallelRow_keeps

theorem execMovr_keeps (n : Nat) (e : DspEcc) (s : State) : KeepsO s (execMovr n e s) := by
  unfold execMovr
  repeat' first
    | with_reducible apply KeepsO.next | with_reducible apply KeepsO.ite | with_reducible exact Keeps.refl _ | intro _
    | with_reducible apply Keeps.onlyIf | with_reducible apply dspParallelRow_keeps

theorem execSetscale_keeps (n : Nat) (e : DspEcc) (s : State) : KeepsO s (execSetscale n e s) := by
  unfold execSetscale
  repeat' first
    | with_reducible apply KeepsO.next | with_reducible apply KeepsO.ite | with_reducible exact Keeps.refl _ | intro _
    | with_reducible apply Keeps.onlyIf | with_reducible apply dspParallelRow_keeps

theorem execNop_keeps (n : Nat) (e : DspEcc) (s : State) : KeepsO s (execNop n e s) := by
  unfold execNop
  repeat' first
    | with_reducible apply KeepsO.next | with_reducible apply KeepsO.ite | with_reducible exact Keeps.refl _ | intro _
    | with_reducible apply Keeps.onlyIf | with_reducible apply dspParallelRow_keeps

theorem dspImmediate_keeps (op : Nat → DspCore → DspCore → DspCore) (n w : Nat) {s t : State} (h : Keeps s t) : Keeps s (dspImmediate op n w t) := by
  unfold dspImmediate
  repeat' first
    | with_reducible exact h | with_reducible apply putCore_keeps

theorem dspImmLoad_keeps (n reg v : Nat) {s t : State} (h : Keeps s t) : Keeps s (dspImmLoad n reg v t) := by
  unfold dspImmLoad
  repeat' first
    | with_reducible exact h | with_reducible apply putCore_keeps | simp only [Keeps.update_iff]

theorem dspImmStored_keeps (n : Nat) {s t : State} (h : Keeps s t) : Keeps s (dspImmStored n t) := by
  unfold dspImmStored
  repeat' first
    | with_reducible exact h | with_reducible apply putCore_keeps

theorem execLdi_keeps (n : Nat) (e : DspEcc) (s : State) : KeepsO s (execLdi n e s) := by
  unfold execLdi
  repeat' first
    | with_reducible apply KeepsO.next | with_reducible apply KeepsO.ite | with_reducible exact Keeps.refl _ | intro _
    | with_reducible apply Keeps.onlyIf | with_reducible apply dspRow_keeps | with_reducible apply dspImmediate_keeps

theorem dspLdx_keeps (n : Nat) (e : DspEcc) (w : Nat) {s t : State} (h : Keeps s t) : Keeps s (dspLdx n e w t) := by
  unfold dspLdx
  repeat' first
    | with_reducible exact h | with_reducible exact Keeps.refl _ | intro _ | with_reducible apply Keeps.ite
    | with_reducible apply dspRead_keeps | with_reducible apply dspImmLoad_keeps | split

theorem execLdx_keeps (n : Nat) (e : DspEcc) (s : State) : KeepsO s (execLdx n e s) := by
  unfold execLdx
  repeat' first
    | with_reducible apply KeepsO.next | with_reducible apply KeepsO.ite | with_reducible exact Keeps.refl _ | intro _
    | with_reducible apply Keeps.onlyIf | with_reducible apply dspRow_keeps | with_reducible apply dspLdx_keeps

theorem dspStx_keeps (n w : Nat) {s t : State} (h : Keeps s t) : Keeps s (dspStx n w t) := by
  unfold dspStx
  repeat' first
    | with_reducible exact h | with_reducible apply writeX_keeps | with_reducible apply dspImmStored_keeps

theorem execStx_keeps (n : Nat) (e : DspEcc) (s : State) : KeepsO s (execStx n e s) := by
  unfold execStx
  repeat' first
    | with_reducible apply KeepsO.next | with_reducible apply KeepsO.ite | with_reducible exact Keeps.refl _ | intro _
    | with_reducible apply Keeps.onlyIf | with_reducible apply dspRow_keeps | with_reducible apply dspStx_keeps

theorem dspLdy_keeps (n : Nat) (e : DspEcc) (w : Nat) {s t : State} (h : Keeps s t) : Keeps s (dspLdy n e w t) := by
  unfold dspLdy
  repeat' first
    | with_reducible exact h | with_reducible exact Keeps.refl _ | intro _ | with_reducible apply dspRead_keeps
    | with_reducible apply dspImmLoad_keeps

theorem execLdy_keeps (n : Nat) (e : DspEcc) (s : State) : KeepsO s (execLdy n e s) := by
  unfold execLdy
  repeat' first
    | with_reducible apply KeepsO.next | with_reducible apply KeepsO.ite | with_reducible exact Keeps.refl _ | intro _
    | with_reducible apply Keeps.onlyIf | with_reducible apply dspRow_keeps | with_reducible apply dspLdy_keeps

theorem dspSty_keeps (n w : Nat) {s t : State} (h : Keeps s t) : Keeps s (dspSty n w t) := by
  unfold dspSty
  repeat' first
    | with_reducible exact h | with_reducible apply writeY_keeps | with_reducible apply dspImmStored_keeps

theorem execSty_keeps (n : Nat) (e : DspEcc) (s : State) : KeepsO s (execSty n e s) := by
  unfold execSty
  repeat' first
    | with_reducible apply KeepsO.next | with_reducible apply KeepsO.ite | with_reducible exact Keeps.refl _ | intro _
    | with_reducible apply Keeps.onlyIf | with_reducible apply dspRow_keeps | with_reducible apply dspSty_keeps

theorem execLea_keeps (n : Nat) (e : DspEcc) (s : State) : KeepsO s (execLea n e s) := by
  unfold execLea
  repeat' first
    | with_reducible apply KeepsO.next | with_reducible apply KeepsO.ite | with_reducible exact Keeps.refl _ | intro _
    | with_reducible apply Keeps.onlyIf | with_reducible apply dspRow_keeps | with_reducible apply dspImmediate_keeps

theorem execAddi_keeps (n : Nat) (e : DspEcc) (s : State) : KeepsO s (execAddi n e s) := by
  unfold execAddi
  repeat' first
    | with_reducible apply KeepsO.next | with_reducible apply KeepsO.ite | with_reducible exact Keeps.refl _ | intro _
    | with_reducible apply Keeps.onlyIf | with_reducible apply dspRow_keeps | with_reducible apply dspImmediate_keeps

theorem dspBcc_keeps (n w : Nat) {s t : State} (h : Keeps s t) : Keeps s (dspBcc n w t) := by
  unfold dspBcc
  repeat' first
    | with_reducible exact h | with_reducible apply Keeps.ite | with_reducible apply putCore_keeps | split

theorem execBcc_keeps (n : Nat) (e : DspEcc) (s : State) : KeepsO s (execBcc n e s) := by
  unfold execBcc
  repeat' first
    | with_reducible apply KeepsO.next | with_reducible apply KeepsO.ite | with_reducible exact Keeps.refl _ | intro _
    | with_reducible apply Keeps.onlyIf | with_reducible apply dspRow_keeps | with_reducible apply dspBcc_keeps

theorem dspJsr_keeps (n w : Nat) {s t : State} (h : Keeps s t) : Keeps s (dspJsr n w t) := by
  unfold dspJsr
  repeat' first
    | with_reducible exact h | with_reducible exact Keeps.refl _ | intro _ | with_reducible apply putCore_keeps
    | with_reducible apply dspPush_keeps

theorem execJsr_keeps (n : Nat) (e : DspEcc) (s : State) : KeepsO s (execJsr n e s) := by
  unfold execJsr
  repeat' first
    | with_reducible apply KeepsO.next | with_reducible apply KeepsO.ite | with_reducible exact Keeps.refl _ | intro _
    | with_reducible apply Keeps.onlyIf | with_reducible apply dspRow_keeps | with_reducible apply dspJsr_keeps

theorem dspRts_keeps (n _w : Nat) {s t : State} (h : Keeps s t) : Keeps s (dspRts n _w t) := by
  unfold dspRts
  repeat' first
    | with_reducible exact h | with_reducible exact Keeps.refl _ | intro _ | with_reducible apply putCore_keeps
    | with_reducible apply dspPop_keeps

theorem execRts_keeps (n : Nat) (e : DspEcc) (s : State) : KeepsO s (execRts n e s) := by
  unfold execRts
  repeat' first
    | with_reducible apply KeepsO.next | with_reducible apply KeepsO.ite | with_reducible exact Keeps.refl _ | intro _
    | with_reducible apply Keeps.onlyIf | with_reducible apply dspRow_keeps | with_reducible apply dspRts_keeps

theorem dspRti_keeps (n _w : Nat) {s t : State} (h : Keeps s t) : Keeps s (dspRti n _w t) := by
  unfold dspRti
  repeat' first
    | with_reducible exact h | with_reducible exact Keeps.refl _ | intro _ | with_reducible apply putCore_keeps
    | with_reducible apply dspPop_keeps | simp only [Keeps.update_iff]

theorem execRti_keeps (n : Nat) (e : DspEcc) (s : State) : KeepsO s (execRti n e s) := by
  unfold execRti
  repeat' first
    | with_reducible apply KeepsO.next | with_reducible apply KeepsO.ite | with_reducible exact Keeps.refl _ | intro _
    | with_reducible apply Keeps.onlyIf | with_reducible apply dspRow_keeps | with_reducible apply dspRti_keeps

theorem dspLoop_keeps (n w : Nat) {s t : State} (h : Keeps s t) : Keeps s (dspLoop n w t) := by
  unfold dspLoop
  repeat' first
    | with_reducible exact h | with_reducible apply putCore_keeps

theorem execLoop_keeps (n : Nat) (e : DspEcc) (s : State) : KeepsO s (execLoop n e s) := by
  unfold execLoop
  repeat' first
    | with_reducible apply KeepsO.next | with_reducible apply KeepsO.ite | with_reducible exact Keeps.refl _ | intro _
    | with_reducible apply Keeps.onlyIf | with_reducible apply dspRow_keeps | with_reducible apply dspLoop_keeps

theorem dspLoopr_keeps (n w : Nat) {s t : State} (h : Keeps s t) : Keeps s (dspLoopr n w t) := by
  unfold dspLoopr
  repeat' first
    | with_reducible exact h | with_reducible apply putCore_keeps

theorem execLoopr_keeps (n : Nat) (e : DspEcc) (s : State) : KeepsO s (execLoopr n e s) := by
  unfold execLoopr
  repeat' first
    | with_reducible apply KeepsO.next | with_reducible apply KeepsO.ite | with_reducible exact Keeps.refl _ | intro _
    | with_reducible apply Keeps.onlyIf | with_reducible apply dspRow_keeps | with_reducible apply dspLoopr_keeps

theorem dspRep_keeps (n w : Nat) {s t : State} (h : Keeps s t) : Keeps s (dspRep n w t) := by
  unfold dspRep
  repeat' first
    | with_reducible exact h | with_reducible apply dspRepeat_keeps

theorem execRep_keeps (n : Nat) (e : DspEcc) (s : State) : KeepsO s (execRep n e s) := by
  unfold execRep
  repeat' first
    | with_reducible apply KeepsO.next | with_reducible apply KeepsO.ite | with_reducible exact Keeps.refl _ | intro _
    | with_reducible apply Keeps.onlyIf | with_reducible apply dspRow_keeps | with_reducible apply dspRep_keeps

theorem dspRepr_keeps (n w : Nat) {s t : State} (h : Keeps s t) : Keeps s (dspRepr n w t) := by
  unfold dspRepr
  repeat' first
    | with_reducible exact h | with_reducible apply dspRepeat_keeps

theorem execRepr_keeps (n : Nat) (e : DspEcc) (s : State) : KeepsO s (execRepr n e s) := by
  unfold execRepr
  repeat' first
    | with_reducible apply KeepsO.next | with_reducible apply KeepsO.ite | with_reducible exact Keeps.refl _ | intro _
    | with_reducible apply Keeps.onlyIf | with_reducible apply dspRow_keeps | with_reducible apply dspRepr_keeps

theorem dspLexit_keeps (n _w : Nat) {s t : State} (h : Keeps s t) : Keeps s (dspLexit n _w t) := by
  unfold dspLexit
  repeat' first
    | with_reducible exact h | with_reducible apply putCore_keeps | simp only [Keeps.update_iff]

theorem execLexit_keeps (n : Nat) (e : DspEcc) (s : State) : KeepsO s (execLexit n e s) := by
  unfold execLexit
  repeat' first
    | with_reducible apply KeepsO.next | with_reducible apply KeepsO.ite | with_reducible exact Keeps.refl _ | intro _
    | with_reducible apply Keeps.onlyIf | with_reducible apply dspRow_keeps | with_reducible apply dspLexit_keeps

theorem execBlkend_keeps (n : Nat) (e : DspEcc) (s : State) : KeepsO s (execBlkend n e s) := by
  unfold execBlkend
  repeat' first
    | with_reducible apply KeepsO.next | with_reducible apply KeepsO.ite | with_reducible exact Keeps.refl _ | intro _
    | with_reducible apply Keeps.onlyIf | with_reducible apply dspRow_keeps | with_reducible apply dspBlkend_keeps

theorem dspTrap_keeps (n w : Nat) {s t : State} (h : Keeps s t) : Keeps s (dspTrap n w t) := by
  unfold dspTrap
  repeat' first
    | with_reducible exact h | with_reducible apply Keeps.put | with_reducible apply putCore_keeps
    | with_reducible apply dspCause_keeps | simp only [Keeps.update_iff]

theorem execTrap_keeps (n : Nat) (e : DspEcc) (s : State) : KeepsO s (execTrap n e s) := by
  unfold execTrap
  repeat' first
    | with_reducible apply KeepsO.next | with_reducible apply KeepsO.ite | with_reducible exact Keeps.refl _ | intro _
    | with_reducible apply Keeps.onlyIf | with_reducible apply dspRow_keeps | with_reducible apply dspTrap_keeps

theorem dspHalt_keeps (n _w : Nat) {s t : State} (h : Keeps s t) : Keeps s (dspHalt n _w t) := by
  unfold dspHalt
  repeat' first
    | with_reducible exact h | with_reducible apply Keeps.put | with_reducible apply putCore_keeps
    | with_reducible apply dspCause_keeps

theorem execHalt_keeps (n : Nat) (e : DspEcc) (s : State) : KeepsO s (execHalt n e s) := by
  unfold execHalt
  repeat' first
    | with_reducible apply KeepsO.next | with_reducible apply KeepsO.ite | with_reducible exact Keeps.refl _ | intro _
    | with_reducible apply Keeps.onlyIf | with_reducible apply dspRow_keeps | with_reducible apply dspHalt_keeps

theorem dspStep_keeps (n : Nat) (e : DspEcc) {s t : State} (h : Keeps s t) : Keeps s (dspStep n e t) := by
  unfold dspStep
  dsimp only
  split
  · split
    · exact dspRow_keeps _ _ _ _ _ (fun w u => dspFirtap_keeps _ _ _ (Keeps.refl u)) h
    · exact dspParallelRow_keeps _ _ _ _ h
  · split <;> refine dspRow_keeps _ _ _ _ _ (fun w u => ?_) h <;> first
      | exact dspImmediate_keeps _ _ _ (Keeps.refl u)
      | exact dspLdx_keeps _ _ _ (Keeps.refl u)
      | exact dspStx_keeps _ _ (Keeps.refl u)
      | exact dspLdy_keeps _ _ _ (Keeps.refl u)
      | exact dspSty_keeps _ _ (Keeps.refl u)
  · split <;> refine dspRow_keeps _ _ _ _ _ (fun w u => ?_) h <;> first
      | exact dspBcc_keeps _ _ (Keeps.refl u)
      | exact dspJsr_keeps _ _ (Keeps.refl u)
      | exact dspRts_keeps _ _ (Keeps.refl u)
      | exact dspRti_keeps _ _ (Keeps.refl u)
      | exact dspLoop_keeps _ _ (Keeps.refl u)
      | exact dspLoopr_keeps _ _ (Keeps.refl u)
      | exact dspRep_keeps _ _ (Keeps.refl u)
      | exact dspRepr_keeps _ _ (Keeps.refl u)
      | exact dspLexit_keeps _ _ (Keeps.refl u)
      | exact dspBlkend_keeps _ (Keeps.refl u)
      | exact dspTrap_keeps _ _ (Keeps.refl u)
      | exact dspHalt_keeps _ _ (Keeps.refl u)

/-! ### DspUnit -/

theorem dspStarted_keeps (n : Nat) {s t : State} (h : Keeps s t) : Keeps s (dspStarted n t) := by
  unfold dspStarted
  repeat' first
    | with_reducible exact h | with_reducible apply Keeps.put | with_reducible apply putCore_keeps

theorem dspCleared_keeps (n : Nat) {s t : State} (h : Keeps s t) : Keeps s (dspCleared n t) := by
  unfold dspCleared
  repeat' first
    | with_reducible exact h | with_reducible apply Keeps.put | with_reducible apply Keeps.ite | split

theorem execDspCoreStop_keeps (n : Nat) (s : State) : KeepsO s (execDspCoreStop n s) := by
  unfold execDspCoreStop
  repeat' first
    | with_reducible apply KeepsO.next | with_reducible apply KeepsO.ite | with_reducible exact Keeps.refl _ | intro _
    | with_reducible apply Keeps.put | with_reducible apply Keeps.onlyIf | with_reducible apply putCore_keeps

theorem dspQuiet_keeps {s t : State} (h : Keeps s t) : Keeps s (dspQuiet t) := by
  unfold dspQuiet
  repeat' first
    | with_reducible exact h | with_reducible exact Keeps.refl _ | intro _ | with_reducible apply Keeps.put
    | with_reducible apply Keeps.memWrite | with_reducible apply Keeps.memFilter | with_reducible apply Keeps.forAll
    | simp only [Keeps.update_iff]

theorem execDspDoorbell_keeps (m : Master) (n : Nat) (s : State) : KeepsO s (execDspDoorbell m n s) := by
  unfold execDspDoorbell
  repeat' first
    | with_reducible apply KeepsO.next | with_reducible apply KeepsO.ite | with_reducible exact Keeps.refl _ | intro _
    | with_reducible apply Keeps.onlyIf | with_reducible apply Keeps.ite | with_reducible apply refuse_keeps
    | with_reducible apply writeGated_keeps | with_reducible apply putCore_keeps | split | simp only [Keeps.update_iff]

theorem dspEnter_keeps (n vector : Nat) {s t : State} (h : Keeps s t) : Keeps s (dspEnter n vector t) := by
  unfold dspEnter
  repeat' first
    | with_reducible exact h | with_reducible exact Keeps.refl _ | intro _ | with_reducible apply Keeps.put
    | with_reducible apply Keeps.ite | with_reducible apply putCore_keeps | with_reducible apply dspPush_keeps | split
    | simp only [Keeps.update_iff]

theorem execDspInterrupt_keeps (n : Nat) (s : State) : KeepsO s (execDspInterrupt n s) := by
  unfold execDspInterrupt
  repeat' first
    | with_reducible apply KeepsO.next | with_reducible apply KeepsO.ite | with_reducible exact Keeps.refl _ | intro _
    | with_reducible apply Keeps.ite | with_reducible apply putCore_keeps | with_reducible apply dspEnter_keeps | split
    | simp only [Keeps.update_iff]

theorem ringPut_keeps (n i p : Nat) (ws : List Nat) {s t : State} (h : Keeps s t) : Keeps s (ringPut n i p ws t) := by
  induction ws generalizing p t with
  | nil => exact h
  | cons w ws ih => exact ih _ (Keeps.memPut _ _ _ h)

theorem copyItem_keeps (n i q : Nat) (it : Item) {s t : State} (h : Keeps s t) : Keeps s (copyItem n i q it t) := by
  unfold copyItem
  repeat' first
    | with_reducible exact h | with_reducible apply Keeps.bump | with_reducible apply Keeps.ite
    | with_reducible apply queuePop_keeps | with_reducible apply putCore_keeps | with_reducible apply dspCause_keeps
    | with_reducible apply ringPut_keeps | split | simp only [Keeps.update_iff]

theorem execQinItemCopy_keeps (n i : Nat) (s : State) : KeepsO s (execQinItemCopy n i s) := by
  unfold execQinItemCopy
  repeat' first
    | with_reducible apply KeepsO.next | with_reducible apply KeepsO.ite | with_reducible exact Keeps.refl _ | intro _
    | with_reducible apply Keeps.onlyIf | with_reducible apply copyItem_keeps | split | simp only [Keeps.update_iff]

theorem execBlockPending_keeps (n j : Nat) (s : State) : KeepsO s (execBlockPending n j s) := by
  unfold execBlockPending
  repeat' first
    | with_reducible apply KeepsO.next | with_reducible apply KeepsO.ite | with_reducible exact Keeps.refl _ | intro _
    | with_reducible apply Keeps.onlyIf | with_reducible apply Keeps.ite | with_reducible apply putCore_keeps
    | with_reducible apply takeBlock_keeps | split | simp only [Keeps.update_iff]

theorem execReturnDeadline_keeps (n j : Nat) (s : State) : KeepsO s (execReturnDeadline n j s) := by
  unfold execReturnDeadline
  repeat' first
    | with_reducible apply KeepsO.next | with_reducible apply KeepsO.ite | with_reducible exact Keeps.refl _ | intro _
    | with_reducible apply Keeps.bump | with_reducible apply Keeps.onlyIf | with_reducible apply putCore_keeps
    | with_reducible apply dspCause_keeps | simp only [Keeps.update_iff]

theorem writeTaps_keeps (n k : Nat) (word : Nat → Nat) {s t : State} (h : Keeps s t) : Keeps s (writeTaps n k word t) := by
  unfold writeTaps
  repeat' first
    | with_reducible exact h | with_reducible exact Keeps.refl _ | intro _ | with_reducible apply Keeps.memPut
    | with_reducible apply Keeps.forAll

/-! ### Audio -/

theorem requestGroup_keeps (src : Nat) {s t : State} (h : Keeps s t) : Keeps s (requestGroup src t) := by
  unfold requestGroup
  repeat' first
    | with_reducible exact h | with_reducible exact Keeps.refl _ | intro _ | with_reducible apply Keeps.onlyIf
    | with_reducible apply requestStream_keeps

theorem requestGroups_keeps {s t : State} (h : Keeps s t) : Keeps s (requestGroups t) := by
  unfold requestGroups
  repeat' first
    | with_reducible exact h | with_reducible exact Keeps.refl _ | intro _ | with_reducible apply Keeps.forAll
    | with_reducible apply requestGroup_keeps

theorem execAudDraftWrite_keeps (m : Master) (c v : Nat) (s : State) : KeepsO s (execAudDraftWrite m c v s) := by
  unfold execAudDraftWrite
  repeat' first
    | with_reducible apply KeepsO.next | with_reducible apply KeepsO.ite | with_reducible exact Keeps.refl _ | intro _
    | with_reducible apply Keeps.onlyIf | with_reducible apply Keeps.ite | with_reducible apply writeGated_keeps
    | with_reducible apply writeWord_keeps | with_reducible apply requestGroup_keeps | split

theorem execGroupRelease_keeps (g : Nat) (s : State) : KeepsO s (execGroupRelease g s) := by
  unfold execGroupRelease
  repeat' first
    | with_reducible apply KeepsO.next | with_reducible apply KeepsO.ite | with_reducible exact Keeps.refl _ | intro _
    | with_reducible apply releaseStream_keeps | split | simp only [Keeps.update_iff]

theorem execAudioCommit_keeps (m : Master) (v : Nat) (s : State) : KeepsO s (execAudioCommit m v s) := by
  unfold execAudioCommit
  repeat' first
    | with_reducible apply KeepsO.next | with_reducible apply KeepsO.ite | with_reducible exact Keeps.refl _ | intro _
    | with_reducible apply Keeps.put | with_reducible apply Keeps.inc | with_reducible apply Keeps.ite
    | with_reducible apply refuse_keeps | with_reducible apply writeGated_keeps | split | simp only [Keeps.update_iff]

theorem refuseAudio_keeps (code : Nat) (c : AudCommit) {s t : State} (h : Keeps s t) : Keeps s (refuseAudio code c t) := by
  unfold refuseAudio
  repeat' first
    | with_reducible exact h | with_reducible apply Keeps.put | with_reducible apply notice_keeps
    | with_reducible apply refuse_keeps | simp only [Keeps.update_iff]

theorem execAudioCancel_keeps (m : Master) (s : State) : KeepsO s (execAudioCancel m s) := by
  unfold execAudioCancel
  repeat' first
    | with_reducible apply KeepsO.next | with_reducible apply KeepsO.ite | with_reducible exact Keeps.refl _ | intro _
    | with_reducible apply Keeps.ite | with_reducible apply writeGated_keeps | with_reducible apply refuseAudio_keeps | split
    | simp only [Keeps.update_iff]

theorem execAudioCommitTimeout_keeps (s : State) : KeepsO s (execAudioCommitTimeout s) := by
  unfold execAudioCommitTimeout
  repeat' first
    | with_reducible apply KeepsO.next | with_reducible apply KeepsO.ite | with_reducible exact Keeps.refl _ | intro _
    | with_reducible apply Keeps.put | with_reducible apply Keeps.onlyIf | with_reducible apply refuseAudio_keeps | split
    | simp only [Keeps.update_iff]

theorem audioDecision_keeps (f n : Nat) {s t : State} (h : Keeps s t) : Keeps s (audioDecision f n t) := by
  unfold audioDecision
  repeat' first
    | with_reducible exact h | with_reducible exact Keeps.refl _ | intro _ | with_reducible apply Keeps.put
    | with_reducible apply Keeps.ite | with_reducible apply notice_keeps | with_reducible apply refuseAudio_keeps | split
    | simp only [Keeps.update_iff]

theorem applyAudio_keeps (c : AudCommit) {s t : State} (h : Keeps s t) : Keeps s (applyAudio c t) := by
  unfold applyAudio
  repeat' first
    | with_reducible exact h | with_reducible exact Keeps.refl _ | intro _ | with_reducible apply Keeps.put
    | with_reducible apply Keeps.putFlag | with_reducible apply Keeps.forAll | with_reducible apply notice_keeps
    | simp only [Keeps.update_iff]

theorem sampleCommit_keeps (k : Nat) {s t : State} (h : Keeps s t) : Keeps s (sampleCommit k t) := by
  unfold sampleCommit
  repeat' first
    | with_reducible exact h | with_reducible exact Keeps.refl _ | intro _ | with_reducible apply Keeps.onlyIf
    | with_reducible apply Keeps.ite | with_reducible apply applyAudio_keeps | split | simp only [Keeps.update_iff]

theorem portWords_keeps (p k : Nat) (given : Option (List Nat)) (last : List Nat) {s t : State} (h : Keeps s t) :
    Keeps s (portWords p k given last t).2 := by
  unfold portWords
  dsimp only
  repeat' first
    | with_reducible exact h | with_reducible apply Keeps.put | with_reducible apply portUnderrun_keeps
    | with_reducible apply Keeps.bump | split

theorem portFrame_keeps (ins : List AudioIn) (k p : Nat) (acc : List (Nat × Nat) × State) {s : State} (h : Keeps s acc.2) :
    Keeps s (portFrame ins k p acc).2 := by
  unfold portFrame
  dsimp only
  split
  · exact h
  · split
    · exact h
    · exact portWords_keeps _ _ _ _ h

theorem countBuffers_keeps (ins : List AudioIn) {s t : State} (h : Keeps s t) : Keeps s (countBuffers ins t) := by
  unfold countBuffers
  repeat' first
    | with_reducible exact h | with_reducible exact Keeps.refl _ | intro _ | with_reducible apply Keeps.onlyIf
    | with_reducible apply Keeps.forAll | with_reducible apply portUnderrun_keeps | with_reducible apply portOverrun_keeps

theorem portFrames_keeps (ins : List AudioIn) (k : Nat) (ps : List Nat) {acc : List (Nat × Nat) × State} {s : State}
    (h : Keeps s acc.2) : Keeps s (ps.foldl (fun acc p => portFrame ins k p acc) acc).2 := by
  induction ps generalizing acc with
  | nil => exact h
  | cons p ps ih => exact ih (portFrame_keeps _ _ _ _ h)

theorem takeInputs_keeps (ins : List AudioIn) (k : Nat) {s t : State} (h : Keeps s t) : Keeps s (takeInputs ins k t) := by
  unfold takeInputs
  dsimp only
  simp only [Keeps.update_iff]
  exact countBuffers_keeps _ (portFrames_keeps _ _ _ h)

theorem countMissing_keeps (k : Nat) {s t : State} (h : Keeps s t) : Keeps s (countMissing k t) := by
  unfold countMissing
  repeat' first
    | with_reducible exact h | with_reducible exact Keeps.refl _ | intro _ | with_reducible apply Keeps.putFlag
    | with_reducible apply Keeps.bump | with_reducible apply Keeps.forAll

theorem judgeSpans_keeps (k : Nat) {s t : State} (h : Keeps s t) : Keeps s (judgeSpans k t) := by
  unfold judgeSpans
  repeat' first
    | with_reducible exact h | with_reducible exact Keeps.refl _ | intro _ | with_reducible apply Keeps.onlyIf
    | with_reducible apply Keeps.forAll | with_reducible apply Keeps.ite | with_reducible apply mapRxSlot_keeps
    | with_reducible apply groupLoss_keeps | split | simp only [Keeps.update_iff]

theorem keepGroups_keeps (k : Nat) {s t : State} (h : Keeps s t) : Keeps s (keepGroups k t) := by
  unfold keepGroups
  repeat' first
    | with_reducible exact h | with_reducible exact Keeps.refl _ | intro _ | simp only [Keeps.update_iff]

theorem pdmItem_keeps (ins : List AudioIn) (k p : Nat) {s t : State} (h : Keeps s t) : Keeps s (pdmItem ins k p t) := by
  unfold pdmItem
  repeat' first
    | with_reducible exact h | with_reducible exact Keeps.refl _ | intro _ | with_reducible apply Keeps.ite
    | with_reducible apply queuePush_keeps | split | simp only [Keeps.update_iff]

theorem judgeDesignated_keeps {s t : State} (h : Keeps s t) : Keeps s (judgeDesignated t) := by
  unfold judgeDesignated
  repeat' first
    | with_reducible exact h | with_reducible exact Keeps.refl _ | intro _ | with_reducible apply Keeps.putFlag
    | with_reducible apply Keeps.onlyIf | with_reducible apply notice_keeps

theorem execEvacAudioStart_keeps (s : State) : KeepsO s (execEvacAudioStart s) := by
  unfold execEvacAudioStart
  repeat' first
    | with_reducible apply KeepsO.next | with_reducible apply KeepsO.ite | with_reducible exact Keeps.refl _ | intro _
    | with_reducible apply Keeps.put | with_reducible apply Keeps.putFlag | with_reducible apply Keeps.onlyIf
    | with_reducible apply notice_keeps | with_reducible apply judgeDesignated_keeps

theorem endEvac_keeps {s t : State} (h : Keeps s t) : Keeps s (endEvac t) := by
  unfold endEvac
  repeat' first
    | with_reducible exact h | with_reducible exact Keeps.refl _ | intro _ | with_reducible apply Keeps.put
    | with_reducible apply Keeps.onlyIf | with_reducible apply notice_keeps

theorem sendPorts_keeps (k : Nat) {s t : State} (h : Keeps s t) : Keeps s (sendPorts k t) := by
  unfold sendPorts
  repeat' first
    | with_reducible exact h | with_reducible exact Keeps.refl _ | intro _ | with_reducible apply Keeps.emit
    | with_reducible apply Keeps.forAll | with_reducible apply Keeps.ite | split | simp only [Keeps.update_iff]

theorem sendEmbedded_keeps (es : List EmbeddedIn) (k : Nat) {s t : State} (h : Keeps s t) : Keeps s (sendEmbedded es k t) := by
  unfold sendEmbedded
  repeat' first
    | with_reducible exact h | with_reducible exact Keeps.refl _ | intro _ | with_reducible apply Keeps.put
    | with_reducible apply Keeps.emit | with_reducible apply Keeps.forAll

theorem countClips_keeps (k : Nat) {s t : State} (h : Keeps s t) : Keeps s (countClips k t) := by
  unfold countClips
  repeat' first
    | with_reducible exact h | with_reducible exact Keeps.refl _ | intro _ | with_reducible apply Keeps.put
    | with_reducible apply Keeps.onlyIf | with_reducible apply Keeps.forAll | with_reducible apply notice_keeps

theorem stepRamps_keeps {s t : State} (h : Keeps s t) : Keeps s (stepRamps t) := by
  unfold stepRamps
  repeat' first
    | with_reducible exact h | with_reducible exact Keeps.refl _ | intro _ | with_reducible apply Keeps.put
    | with_reducible apply Keeps.onlyIf | with_reducible apply Keeps.forAll

theorem tapAll_keeps (k : Nat) {s t : State} (h : Keeps s t) : Keeps s (tapAll k t) := by
  unfold tapAll
  repeat' first
    | with_reducible exact h | with_reducible exact Keeps.refl _ | intro _ | with_reducible apply Keeps.forAll
    | with_reducible apply Keeps.ite | with_reducible apply writeTaps_keeps | split

theorem execAudioSample_keeps (k : Nat) (ins : List AudioIn) (es : List EmbeddedIn) (s : State) : KeepsO s (execAudioSample k ins es s) := by
  unfold execAudioSample
  repeat' first
    | with_reducible apply KeepsO.next | with_reducible apply KeepsO.ite | with_reducible exact Keeps.refl _ | intro _
    | with_reducible apply Keeps.put | with_reducible apply Keeps.onlyIf | with_reducible apply Keeps.forAll
    | with_reducible apply spanBoundary_keeps | with_reducible apply breakRuns_keeps | with_reducible apply sampleCommit_keeps
    | with_reducible apply takeInputs_keeps | with_reducible apply countMissing_keeps | with_reducible apply judgeSpans_keeps
    | with_reducible apply keepGroups_keeps | with_reducible apply pdmItem_keeps | with_reducible apply judgeDesignated_keeps
    | with_reducible apply endEvac_keeps | with_reducible apply sendPorts_keeps | with_reducible apply sendEmbedded_keeps
    | with_reducible apply countClips_keeps | with_reducible apply stepRamps_keeps | with_reducible apply tapAll_keeps

theorem gainWord_keeps (m : Master) (c v hw : Nat) {s t : State} (h : Keeps s t) : Keeps s (gainWord m c v hw t) := by
  unfold gainWord
  repeat' first
    | with_reducible exact h | with_reducible exact Keeps.refl _ | intro _ | with_reducible apply Keeps.put
    | with_reducible apply Keeps.onlyIf | with_reducible apply Keeps.ite | with_reducible apply refuse_keeps
    | with_reducible apply writeWordHw_keeps | split

theorem execGainWrite_keeps (m : Master) (c v : Nat) (s : State) : KeepsO s (execGainWrite m c v s) := by
  unfold execGainWrite
  repeat' first
    | with_reducible apply KeepsO.next | with_reducible apply KeepsO.ite | with_reducible exact Keeps.refl _ | intro _
    | with_reducible apply Keeps.onlyIf | with_reducible apply writeGated_keeps | with_reducible apply gainWord_keeps

theorem execTdmFrameSync_keeps (p : Nat) (s : State) : KeepsO s (execTdmFrameSync p s) := by
  unfold execTdmFrameSync
  repeat' first
    | with_reducible apply KeepsO.next | with_reducible apply KeepsO.ite | with_reducible exact Keeps.refl _ | intro _
    | with_reducible apply Keeps.put | with_reducible apply Keeps.onlyIf | with_reducible apply portCause_keeps

theorem stopPort_keeps (p : Nat) {s t : State} (h : Keeps s t) : Keeps s (stopPort p t) := by
  unfold stopPort
  repeat' first
    | with_reducible exact h | with_reducible apply Keeps.put | with_reducible apply portCause_keeps
    | with_reducible apply mutePort_keeps

theorem execTdmStop_keeps (p : Nat) (s : State) : KeepsO s (execTdmStop p s) := by
  unfold execTdmStop
  repeat' first
    | with_reducible apply KeepsO.next | with_reducible apply KeepsO.ite | with_reducible exact Keeps.refl _ | intro _
    | with_reducible apply Keeps.onlyIf | with_reducible apply stopPort_keeps

theorem execPdmStop_keeps (q : Nat) (s : State) : KeepsO s (execPdmStop q s) := by
  unfold execPdmStop
  repeat' first
    | with_reducible apply KeepsO.next | with_reducible apply KeepsO.ite | with_reducible exact Keeps.refl _ | intro _
    | with_reducible apply Keeps.onlyIf | with_reducible apply stopPort_keeps

theorem execTdmSlip_keeps (p : Nat) (s : State) : KeepsO s (execTdmSlip p s) := by
  unfold execTdmSlip
  repeat' first
    | with_reducible apply KeepsO.next | with_reducible apply KeepsO.ite | with_reducible exact Keeps.refl _ | intro _
    | with_reducible apply Keeps.putFlag | with_reducible apply Keeps.bump | with_reducible apply Keeps.onlyIf
    | with_reducible apply portCause_keeps

theorem execGlitch_keeps (p : Nat) (s : State) : KeepsO s (execGlitch p s) := by
  unfold execGlitch
  repeat' first
    | with_reducible apply KeepsO.next | with_reducible apply KeepsO.ite | with_reducible exact Keeps.refl _ | intro _
    | with_reducible apply Keeps.bump | with_reducible apply Keeps.onlyIf | with_reducible apply portCause_keeps

theorem execMaskWrite_keeps (m : Master) (p : Nat) (out : Bool) (v : Nat) (s : State) : KeepsO s (execMaskWrite m p out v s) := by
  unfold execMaskWrite
  repeat' first
    | with_reducible apply KeepsO.next | with_reducible apply KeepsO.ite | with_reducible exact Keeps.refl _ | intro _
    | with_reducible apply Keeps.put | with_reducible apply Keeps.onlyIf | with_reducible apply Keeps.ite
    | with_reducible apply refuse_keeps | with_reducible apply writeGated_keeps | with_reducible apply writeWord_keeps | split

theorem unmutePort_keeps (p : Nat) (ramp : Bool) {s t : State} (h : Keeps s t) : Keeps s (unmutePort p ramp t) := by
  unfold unmutePort
  repeat' first
    | with_reducible exact h | with_reducible apply Keeps.put | with_reducible apply Keeps.ite
    | with_reducible apply portCause_keeps | split

theorem execPortQualified_keeps (p : Nat) (s : State) : KeepsO s (execPortQualified p s) := by
  unfold execPortQualified
  repeat' first
    | with_reducible apply KeepsO.next | with_reducible apply KeepsO.ite | with_reducible exact Keeps.refl _ | intro _
    | with_reducible apply Keeps.put | with_reducible apply Keeps.onlyIf | with_reducible apply Keeps.ite
    | with_reducible apply unmutePort_keeps | split

theorem execDomainErr_keeps (p : Nat) (freq : Int) (s : State) : KeepsO s (execDomainErr p freq s) := by
  unfold execDomainErr
  repeat' first
    | with_reducible apply KeepsO.next | with_reducible apply KeepsO.ite | with_reducible exact Keeps.refl _ | intro _
    | with_reducible apply Keeps.put | with_reducible apply Keeps.onlyIf | with_reducible apply portCause_keeps
    | with_reducible apply mutePort_keeps

theorem execRateErr_keeps (p : Nat) (freq : Int) (s : State) : KeepsO s (execRateErr p freq s) := by
  unfold execRateErr
  repeat' first
    | with_reducible apply KeepsO.next | with_reducible apply KeepsO.ite | with_reducible exact Keeps.refl _ | intro _
    | with_reducible apply Keeps.put | with_reducible apply Keeps.onlyIf | with_reducible apply portCause_keeps
    | with_reducible apply mutePort_keeps

theorem execPdmClockReturn_keeps (q : Nat) (s : State) : KeepsO s (execPdmClockReturn q s) := by
  unfold execPdmClockReturn
  repeat' first
    | with_reducible apply KeepsO.next | with_reducible apply KeepsO.ite | with_reducible exact Keeps.refl _ | intro _
    | with_reducible apply Keeps.put | with_reducible apply Keeps.onlyIf

theorem execDaybreak_keeps (k : Nat) (s : State) : KeepsO s (execDaybreak k s) := by
  unfold execDaybreak
  repeat' first
    | with_reducible apply KeepsO.next | with_reducible apply KeepsO.ite | with_reducible exact Keeps.refl _ | intro _
    | with_reducible apply Keeps.put | with_reducible apply Keeps.inc | with_reducible apply Keeps.onlyIf
    | with_reducible apply Keeps.forAll | with_reducible apply notice_keeps | with_reducible apply unmutePort_keeps

theorem portEnabled_keeps (p : Nat) {s t : State} (h : Keeps s t) : Keeps s (portEnabled p t) := by
  unfold portEnabled
  repeat' first
    | with_reducible exact h | with_reducible exact Keeps.refl _ | intro _ | with_reducible apply Keeps.put
    | with_reducible apply Keeps.putFlag | simp only [Keeps.update_iff]

theorem portDisabled_keeps (p : Nat) {s t : State} (h : Keeps s t) : Keeps s (portDisabled p t) := by
  unfold portDisabled
  repeat' first
    | with_reducible exact h | with_reducible apply Keeps.put

theorem matrixDisabled_keeps {s t : State} (h : Keeps s t) : Keeps s (matrixDisabled t) := by
  unfold matrixDisabled
  repeat' first
    | with_reducible exact h | with_reducible exact Keeps.refl _ | intro _ | with_reducible apply Keeps.put
    | with_reducible apply Keeps.onlyIf | with_reducible apply notice_keeps | with_reducible apply refuseAudio_keeps | split
    | simp only [Keeps.update_iff]

theorem placeCeilings_keeps {s t : State} (h : Keeps s t) : Keeps s (placeCeilings t) := by
  unfold placeCeilings
  repeat' first
    | with_reducible exact h | with_reducible exact Keeps.refl _ | intro _ | with_reducible apply Keeps.put
    | with_reducible apply Keeps.forAll | split | simp only [Keeps.update_iff]

theorem placeVenue_keeps {s t : State} (h : Keeps s t) : Keeps s (placeVenue t) := by
  unfold placeVenue
  repeat' first
    | with_reducible exact h | with_reducible apply Keeps.put | with_reducible apply Keeps.putFlag

theorem placeAudioAtlas_keeps {s t : State} (h : Keeps s t) : Keeps s (placeAudioAtlas t) := by
  unfold placeAudioAtlas
  repeat' first
    | with_reducible exact h | with_reducible exact Keeps.refl _ | intro _ | with_reducible apply Keeps.put
    | with_reducible apply Keeps.forAll | with_reducible apply Keeps.ite | with_reducible apply requestGroups_keeps | split
    | simp only [Keeps.update_iff]

end Sys2Proof.Machine
end

