-- ==== Sys2Proof/Laws/KeepsSystem.lean ====
section
/-!
SUPPORT. Every operation of these files keeps what `Keeps` says: Twins, Compose, Cmp, Reference, Power, Field, Rings, Crossing, Check, Views, Access.
-/
namespace Sys2Proof.Machine

/-! ### Twins -/

theorem twinCause_keeps (bit src cls : Nat) {s t : State} (h : Keeps s t) : Keeps s (twinCause bit src cls t) := by
  unfold twinCause
  repeat' first
    | with_reducible exact h | with_reducible apply setCauses_keeps

theorem lineFault_keeps {s t : State} (h : Keeps s t) : Keeps s (lineFault t) := by
  unfold lineFault
  repeat' first
    | with_reducible exact h | with_reducible apply Keeps.put | with_reducible apply twinCause_keeps

theorem roleChange_keeps {s t : State} (h : Keeps s t) : Keeps s (roleChange t) := by
  unfold roleChange
  repeat' first
    | with_reducible exact h | with_reducible apply Keeps.put | with_reducible apply twinCause_keeps

theorem releaseClaim_keeps {s t : State} (h : Keeps s t) : Keeps s (releaseClaim t) := by
  unfold releaseClaim
  repeat' first
    | with_reducible exact h | with_reducible apply Keeps.put | with_reducible apply roleChange_keeps

theorem takeClaim_keeps {s t : State} (h : Keeps s t) : Keeps s (takeClaim t) := by
  unfold takeClaim
  repeat' first
    | with_reducible exact h | with_reducible exact Keeps.refl _ | intro _ | with_reducible apply Keeps.put
    | with_reducible apply Keeps.inc | with_reducible apply Keeps.onlyIf | with_reducible apply queueLog_keeps
    | with_reducible apply roleChange_keeps

theorem startSync_keeps (stage : Nat) {s t : State} (h : Keeps s t) : Keeps s (startSync stage t) := by
  unfold startSync
  repeat' first
    | with_reducible exact h | with_reducible exact Keeps.refl _ | intro _ | with_reducible apply Keeps.put
    | with_reducible apply Keeps.clearAll | with_reducible apply Keeps.onlyIf

theorem beginSync_keeps {s t : State} (h : Keeps s t) : Keeps s (beginSync t) := by
  unfold beginSync
  repeat' first
    | with_reducible exact h | with_reducible exact Keeps.refl _ | intro _ | with_reducible apply Keeps.onlyIf
    | with_reducible apply startSync_keeps

theorem enterWarm_keeps {s t : State} (h : Keeps s t) : Keeps s (enterWarm t) := by
  unfold enterWarm
  repeat' first
    | with_reducible exact h | with_reducible apply Keeps.put | with_reducible apply setPower_keeps
    | with_reducible apply beginSync_keeps

theorem applyRole_keeps {s t : State} (h : Keeps s t) : Keeps s (applyRole t) := by
  unfold applyRole
  repeat' first
    | with_reducible exact h | with_reducible apply Keeps.put | with_reducible apply Keeps.ite
    | with_reducible apply setPower_keeps | with_reducible apply enterWarm_keeps | split

theorem yieldWait_keeps {s t : State} (h : Keeps s t) : Keeps s (yieldWait t) := by
  unfold yieldWait
  repeat' first
    | with_reducible exact h | with_reducible exact Keeps.refl _ | intro _ | with_reducible apply Keeps.onlyIf
    | with_reducible apply enterWarm_keeps

theorem takeOver_keeps {s t : State} (h : Keeps s t) : Keeps s (takeOver t) := by
  unfold takeOver
  repeat' first
    | with_reducible exact h | with_reducible exact Keeps.refl _ | intro _ | with_reducible apply Keeps.put
    | with_reducible apply Keeps.onlyIf | with_reducible apply Keeps.ite | with_reducible apply setPower_keeps
    | with_reducible apply lineFault_keeps | with_reducible apply takeClaim_keeps | split

theorem judgeTakeover_keeps {s t : State} (h : Keeps s t) : Keeps s (judgeTakeover t) := by
  unfold judgeTakeover
  repeat' first
    | with_reducible exact h | with_reducible exact Keeps.refl _ | intro _ | with_reducible apply Keeps.put
    | with_reducible apply Keeps.putFlag | with_reducible apply Keeps.onlyIf | with_reducible apply Keeps.ite
    | with_reducible apply twinCause_keeps | with_reducible apply takeOver_keeps | split

theorem execClaimInAssert_keeps (s : State) : KeepsO s (execClaimInAssert s) := by
  unfold execClaimInAssert
  repeat' first
    | with_reducible apply KeepsO.next | with_reducible apply KeepsO.ite | with_reducible exact Keeps.refl _ | intro _
    | with_reducible apply Keeps.put | with_reducible apply Keeps.onlyIf | with_reducible apply Keeps.ite
    | with_reducible apply twinCause_keeps | with_reducible apply releaseClaim_keeps | with_reducible apply beginSync_keeps
    | with_reducible apply yieldWait_keeps | with_reducible apply judgeTakeover_keeps | split

theorem execClaimInDeassert_keeps (s : State) : KeepsO s (execClaimInDeassert s) := by
  unfold execClaimInDeassert
  repeat' first
    | with_reducible apply KeepsO.next | with_reducible apply KeepsO.ite | with_reducible exact Keeps.refl _ | intro _
    | with_reducible apply Keeps.put | with_reducible apply Keeps.onlyIf

theorem execClaimOutAssert_keeps (s : State) : KeepsO s (execClaimOutAssert s) := by
  unfold execClaimOutAssert
  repeat' first
    | with_reducible apply KeepsO.next | with_reducible apply KeepsO.ite | with_reducible exact Keeps.refl _ | intro _
    | with_reducible apply Keeps.onlyIf | with_reducible apply takeClaim_keeps

theorem execDrivingStart_keeps (s : State) : KeepsO s (execDrivingStart s) := by
  unfold execDrivingStart
  repeat' first
    | with_reducible apply KeepsO.next | with_reducible apply KeepsO.ite | with_reducible exact Keeps.refl _ | intro _
    | with_reducible apply Keeps.put | with_reducible apply Keeps.onlyIf

theorem execLineFault_keeps (s : State) : KeepsO s (execLineFault s) := by
  unfold execLineFault
  repeat' first
    | with_reducible apply KeepsO.next | with_reducible apply KeepsO.ite | with_reducible exact Keeps.refl _ | intro _
    | with_reducible apply Keeps.onlyIf | with_reducible apply lineFault_keeps | with_reducible apply releaseClaim_keeps

theorem execStandbyEntry_keeps (s : State) : KeepsO s (execStandbyEntry s) := by
  unfold execStandbyEntry
  repeat' first
    | with_reducible apply KeepsO.next | with_reducible apply KeepsO.ite | with_reducible exact Keeps.refl _ | intro _
    | with_reducible apply Keeps.onlyIf | with_reducible apply enterWarm_keeps

theorem execClaimDrop_keeps (s : State) : KeepsO s (execClaimDrop s) := by
  unfold execClaimDrop
  repeat' first
    | with_reducible apply KeepsO.next | with_reducible apply KeepsO.ite | with_reducible exact Keeps.refl _ | intro _
    | with_reducible apply Keeps.put | with_reducible apply Keeps.onlyIf | with_reducible apply judgeTakeover_keeps

theorem twinCommand_keeps (m : Master) (code : Nat) (eff : State → State) (heff : ∀  u, Keeps u (eff  u)) {s t : State} (h : Keeps s t) : Keeps s (twinCommand m code eff t) := by
  unfold twinCommand
  repeat' first
    | with_reducible exact h | with_reducible exact Keeps.refl _ | intro _ | with_reducible apply Keeps.put
    | with_reducible apply Keeps.ite | with_reducible apply refuse_keeps | with_reducible refine Keeps.trans ?_ (heff _) | split

theorem execClaimTake_keeps (m : Master) (v : Nat) (s : State) : KeepsO s (execClaimTake m v s) := by
  unfold execClaimTake
  repeat' first
    | with_reducible apply KeepsO.next | with_reducible apply KeepsO.ite | with_reducible exact Keeps.refl _ | intro _
    | with_reducible apply Keeps.ite | with_reducible apply refuse_keeps | with_reducible apply writeGated_keeps
    | with_reducible apply takeOver_keeps | with_reducible apply twinCommand_keeps | split

theorem execClaimRelease_keeps (m : Master) (s : State) : KeepsO s (execClaimRelease m s) := by
  unfold execClaimRelease
  repeat' first
    | with_reducible apply KeepsO.next | with_reducible apply KeepsO.ite | with_reducible exact Keeps.refl _ | intro _
    | with_reducible apply Keeps.ite | with_reducible apply writeGated_keeps | with_reducible apply releaseClaim_keeps
    | with_reducible apply twinCommand_keeps | split

theorem execTwinHeartbeatSend_keeps (s : State) : KeepsO s (execTwinHeartbeatSend s) := by
  unfold execTwinHeartbeatSend
  repeat' first
    | with_reducible apply KeepsO.next | with_reducible apply KeepsO.ite | with_reducible exact Keeps.refl _ | intro _
    | with_reducible apply Keeps.inc | with_reducible apply Keeps.emit | with_reducible apply Keeps.onlyIf
    | simp only [Keeps.update_iff]

theorem execMgmtHeartbeatSend_keeps (s : State) : KeepsO s (execMgmtHeartbeatSend s) := by
  unfold execMgmtHeartbeatSend
  repeat' first
    | with_reducible apply KeepsO.next | with_reducible apply KeepsO.ite | with_reducible exact Keeps.refl _ | intro _
    | with_reducible apply Keeps.inc | with_reducible apply Keeps.emit | with_reducible apply Keeps.onlyIf

theorem countMissed_keeps (link : Bool) (n : Nat) {s t : State} (h : Keeps s t) : Keeps s (countMissed link n t) := by
  unfold countMissed
  repeat' first
    | with_reducible exact h | with_reducible apply Keeps.bump | with_reducible apply Keeps.ite | split

theorem noteSeq_keeps (link : Bool) (seq : Nat) {s t : State} (h : Keeps s t) : Keeps s (noteSeq link seq t) := by
  unfold noteSeq
  repeat' first
    | with_reducible exact h | with_reducible apply Keeps.put | with_reducible apply Keeps.ite
    | with_reducible apply countMissed_keeps | split

theorem pathHeard_keeps (link : Bool) {s t : State} (h : Keeps s t) : Keeps s (pathHeard link t) := by
  unfold pathHeard
  repeat' first
    | with_reducible exact h | with_reducible exact Keeps.refl _ | intro _ | with_reducible apply Keeps.put
    | with_reducible apply Keeps.onlyIf | with_reducible apply Keeps.ite | with_reducible apply twinCause_keeps | split

theorem noteTwin_keeps (bs : List Byte) {s t : State} (h : Keeps s t) : Keeps s (noteTwin bs t) := by
  unfold noteTwin
  repeat' first
    | with_reducible exact h | with_reducible exact Keeps.refl _ | intro _ | with_reducible apply Keeps.put
    | with_reducible apply Keeps.putFlag | with_reducible apply Keeps.onlyIf | with_reducible apply twinCause_keeps

theorem noteOffset_keeps (bs : List Byte) {s t : State} (h : Keeps s t) : Keeps s (noteOffset bs t) := by
  unfold noteOffset
  repeat' first
    | with_reducible exact h | with_reducible exact Keeps.refl _ | intro _ | with_reducible apply Keeps.put
    | with_reducible apply Keeps.putFlag | with_reducible apply Keeps.onlyIf | with_reducible apply startSync_keeps | split
    | simp only [Keeps.update_iff]

theorem judgeVeto_keeps (bs : List Byte) {s t : State} (h : Keeps s t) : Keeps s (judgeVeto bs t) := by
  unfold judgeVeto
  repeat' first
    | with_reducible exact h | with_reducible exact Keeps.refl _ | intro _ | with_reducible apply Keeps.put
    | with_reducible apply Keeps.onlyIf | with_reducible apply lineFault_keeps

theorem takeBeat_keeps (link : Bool) (bs : List Byte) {s t : State} (h : Keeps s t) : Keeps s (takeBeat link bs t) := by
  unfold takeBeat
  repeat' first
    | with_reducible exact h | with_reducible exact Keeps.refl _ | intro _ | with_reducible apply Keeps.onlyIf
    | with_reducible apply Keeps.ite | with_reducible apply twinCause_keeps | with_reducible apply releaseClaim_keeps
    | with_reducible apply beginSync_keeps | with_reducible apply yieldWait_keeps | with_reducible apply judgeTakeover_keeps
    | with_reducible apply noteSeq_keeps | with_reducible apply pathHeard_keeps | with_reducible apply noteTwin_keeps
    | with_reducible apply noteOffset_keeps | with_reducible apply judgeVeto_keeps | split | simp only [Keeps.update_iff]

theorem execTwinHeartbeat_keeps (path : Option Nat) (bs : List Byte) (s : State) : KeepsO s (execTwinHeartbeat path bs s) := by
  unfold execTwinHeartbeat
  repeat' first
    | with_reducible apply KeepsO.next | with_reducible apply KeepsO.ite | with_reducible exact Keeps.refl _ | intro _
    | with_reducible apply Keeps.put | with_reducible apply Keeps.ite | with_reducible apply twinCause_keeps
    | with_reducible apply countMissed_keeps | with_reducible apply takeBeat_keeps | split

theorem execPathLost_keeps (link : Bool) (s : State) : KeepsO s (execPathLost link s) := by
  unfold execPathLost
  repeat' first
    | with_reducible apply KeepsO.next | with_reducible apply KeepsO.ite | with_reducible exact Keeps.refl _ | intro _
    | with_reducible apply Keeps.put | with_reducible apply Keeps.onlyIf | with_reducible apply Keeps.ite
    | with_reducible apply twinCause_keeps | with_reducible apply startSync_keeps | with_reducible apply judgeTakeover_keeps
    | split

theorem execResyncSend_keeps (kind index n : Nat) (starts : List Stamp) (s : State) : KeepsO s (execResyncSend kind index n starts s) := by
  unfold execResyncSend
  repeat' first
    | with_reducible apply KeepsO.next | with_reducible apply KeepsO.ite | with_reducible exact Keeps.refl _ | intro _
    | with_reducible apply Keeps.onlyIf | with_reducible apply resyncEmit_keeps

theorem copyVideo_keeps (d w : Nat) {s t : State} (h : Keeps s t) : Keeps s (copyVideo d w t) := by
  unfold copyVideo
  repeat' first
    | with_reducible exact h | with_reducible exact Keeps.refl _ | intro _ | with_reducible apply Keeps.put
    | with_reducible apply Keeps.onlyIf | with_reducible apply draftChanged_keeps

theorem copyAudio_keeps (c w : Nat) {s t : State} (h : Keeps s t) : Keeps s (copyAudio c w t) := by
  unfold copyAudio
  repeat' first
    | with_reducible exact h | with_reducible exact Keeps.refl _ | intro _ | with_reducible apply Keeps.put
    | with_reducible apply Keeps.onlyIf | with_reducible apply requestGroup_keeps

theorem syncAudio_keeps {s t : State} (h : Keeps s t) : Keeps s (syncAudio t) := by
  unfold syncAudio
  repeat' first
    | with_reducible exact h | with_reducible exact Keeps.refl _ | intro _ | with_reducible apply Keeps.inc
    | with_reducible apply Keeps.onlyIf | simp only [Keeps.update_iff]

theorem syncCommits_keeps {s t : State} (h : Keeps s t) : Keeps s (syncCommits t) := by
  unfold syncCommits
  repeat' first
    | with_reducible exact h | with_reducible exact Keeps.refl _ | intro _ | with_reducible apply Keeps.onlyIf
    | with_reducible apply Keeps.ite | with_reducible apply requestSalvo_keeps | with_reducible apply syncAudio_keeps | split

theorem alignInput_keeps (i n : Nat) (twinNs ownNs : Int) {s t : State} (h : Keeps s t) : Keeps s (alignInput i n twinNs ownNs t) := by
  unfold alignInput
  repeat' first
    | with_reducible exact h | with_reducible exact Keeps.refl _ | intro _ | with_reducible apply Keeps.put
    | with_reducible apply Keeps.bump | with_reducible apply Keeps.onlyIf | with_reducible apply Keeps.ite
    | with_reducible apply notice_keeps | with_reducible apply startSync_keeps | split

theorem takeHalf_keeps (index : Nat) (data : List Byte) {s t : State} (h : Keeps s t) : Keeps s (takeHalf index data t) := by
  unfold takeHalf
  repeat' first
    | with_reducible exact h | with_reducible exact Keeps.refl _ | intro _ | with_reducible apply Keeps.put
    | with_reducible apply Keeps.ite | with_reducible apply takeEntry_keeps | with_reducible apply checkStore_keeps | split
    | simp only [Keeps.update_iff]

theorem takeResync_keeps (bs : List Byte) (own : List Stamp) {s t : State} (h : Keeps s t) : Keeps s (takeResync bs own t) := by
  unfold takeResync
  repeat' first
    | with_reducible exact h | with_reducible exact Keeps.refl _ | intro _ | with_reducible apply Keeps.onlyIf
    | with_reducible apply Keeps.forAll | with_reducible apply startSync_keeps | with_reducible apply copyVideo_keeps
    | with_reducible apply copyAudio_keeps | with_reducible apply syncCommits_keeps | with_reducible apply alignInput_keeps
    | with_reducible apply takeHalf_keeps | split | simp only [Keeps.update_iff]

theorem execResyncMessage_keeps (bs : List Byte) (own : List Stamp) (s : State) : KeepsO s (execResyncMessage bs own s) := by
  unfold execResyncMessage
  repeat' first
    | with_reducible apply KeepsO.next | with_reducible apply KeepsO.ite | with_reducible exact Keeps.refl _ | intro _
    | with_reducible apply Keeps.onlyIf | with_reducible apply Keeps.ite | with_reducible apply noteSeq_keeps
    | with_reducible apply takeResync_keeps | split

theorem requestLive_keeps {s t : State} (h : Keeps s t) : Keeps s (requestLive t) := by
  unfold requestLive
  repeat' first
    | with_reducible exact h | with_reducible exact Keeps.refl _ | intro _ | with_reducible apply Keeps.onlyIf
    | with_reducible apply Keeps.forAll | with_reducible apply requestLiveOf_keeps | with_reducible apply requestGroup_keeps

theorem execSyncStageComplete_keeps (s : State) : KeepsO s (execSyncStageComplete s) := by
  unfold execSyncStageComplete
  repeat' first
    | with_reducible apply KeepsO.next | with_reducible apply KeepsO.ite | with_reducible exact Keeps.refl _ | intro _
    | with_reducible apply Keeps.put | with_reducible apply Keeps.onlyIf | with_reducible apply Keeps.ite
    | with_reducible apply twinCause_keeps | with_reducible apply requestLive_keeps | split | simp only [Keeps.update_iff]

theorem twinDisabled_keeps {s t : State} (h : Keeps s t) : Keeps s (twinDisabled t) := by
  unfold twinDisabled
  repeat' first
    | with_reducible exact h | with_reducible apply Keeps.put

/-! ### Cmp -/

theorem headGated_keeps (m : Master) (n off : Nat) (eff : State → State) (heff : ∀  u, Keeps u (eff  u)) {s t : State} (h : Keeps s t) : Keeps s (headGated m n off eff t) := by
  unfold headGated
  repeat' first
    | with_reducible exact h | with_reducible exact Keeps.refl _ | intro _ | with_reducible apply Keeps.onlyIf
    | with_reducible apply writeGated_keeps | with_reducible refine Keeps.trans ?_ (heff _)

theorem headCause_keeps (n bit cls : Nat) {s t : State} (h : Keeps s t) : Keeps s (headCause n bit cls t) := by
  unfold headCause
  repeat' first
    | with_reducible exact h | with_reducible apply setCauses_keeps

theorem putArmed_keeps (n l : Nat) (b : Bool) {s t : State} (h : Keeps s t) : Keeps s (putArmed n l b t) := by
  unfold putArmed
  repeat' first
    | with_reducible exact h | with_reducible apply Keeps.putFlag | with_reducible apply Keeps.ite | split

theorem putLayerReason_keeps (n l code : Nat) {s t : State} (h : Keeps s t) : Keeps s (putLayerReason n l code t) := by
  unfold putLayerReason
  repeat' first
    | with_reducible exact h | with_reducible apply Keeps.put | with_reducible apply Keeps.ite | split

theorem execLayerArm_keeps (m : Master) (n l v : Nat) (s : State) : KeepsO s (execLayerArm m n l v s) := by
  unfold execLayerArm
  repeat' first
    | with_reducible apply KeepsO.next | with_reducible apply KeepsO.ite | with_reducible exact Keeps.refl _ | intro _
    | with_reducible apply Keeps.put | with_reducible apply Keeps.onlyIf | with_reducible apply Keeps.ite
    | with_reducible apply refuse_keeps | with_reducible apply headGated_keeps | with_reducible apply putArmed_keeps
    | with_reducible apply putLayerReason_keeps | split

theorem execLayerCancel_keeps (m : Master) (n l : Nat) (s : State) : KeepsO s (execLayerCancel m n l s) := by
  unfold execLayerCancel
  repeat' first
    | with_reducible apply KeepsO.next | with_reducible apply KeepsO.ite | with_reducible exact Keeps.refl _ | intro _
    | with_reducible apply Keeps.onlyIf | with_reducible apply headGated_keeps | with_reducible apply putArmed_keeps

theorem execHeadCommit_keeps (m : Master) (n : Nat) (s : State) : KeepsO s (execHeadCommit m n s) := by
  unfold execHeadCommit
  repeat' first
    | with_reducible apply KeepsO.next | with_reducible apply KeepsO.ite | with_reducible exact Keeps.refl _ | intro _
    | with_reducible apply Keeps.put | with_reducible apply Keeps.ite | with_reducible apply refuse_keeps
    | with_reducible apply headGated_keeps | split

theorem execHeadCancel_keeps (m : Master) (n : Nat) (s : State) : KeepsO s (execHeadCancel m n s) := by
  unfold execHeadCancel
  repeat' first
    | with_reducible apply KeepsO.next | with_reducible apply KeepsO.ite | with_reducible exact Keeps.refl _ | intro _
    | with_reducible apply Keeps.put | with_reducible apply headGated_keeps

theorem execFenceSignal_keeps (m : Master) (n v : Nat) (s : State) : KeepsO s (execFenceSignal m n v s) := by
  unfold execFenceSignal
  repeat' first
    | with_reducible apply KeepsO.next | with_reducible apply KeepsO.ite | with_reducible exact Keeps.refl _ | intro _
    | with_reducible apply Keeps.put | with_reducible apply headGated_keeps

theorem skipToFence_keeps (q fuel : Nat) {s t : State} (h : Keeps s t) : Keeps s (skipToFence q fuel t) := by
  induction fuel generalizing t with
  | zero => exact h
  | succ k ih =>
    unfold skipToFence
    split
    · split
      · exact h
      · exact ih (queuePop_keeps _ h)
    · exact h

theorem execFenceItem_keeps (n : Nat) (s : State) : KeepsO s (execFenceItem n s) := by
  unfold execFenceItem
  repeat' first
    | with_reducible apply KeepsO.next | with_reducible apply KeepsO.ite | with_reducible exact Keeps.refl _ | intro _
    | with_reducible apply Keeps.put | with_reducible apply Keeps.onlyIf | with_reducible apply queuePop_keeps
    | with_reducible apply skipToFence_keeps | split | simp only [Keeps.update_iff]

theorem execLutselWrite_keeps (m : Master) (n v : Nat) (s : State) : KeepsO s (execLutselWrite m n v s) := by
  unfold execLutselWrite
  repeat' first
    | with_reducible apply KeepsO.next | with_reducible apply KeepsO.ite | with_reducible exact Keeps.refl _ | intro _
    | with_reducible apply Keeps.put | with_reducible apply writeWord_keeps | with_reducible apply headGated_keeps

theorem execLutWrite_keeps (m : Master) (n o v : Nat) (s : State) : KeepsO s (execLutWrite m n o v s) := by
  unfold execLutWrite
  repeat' first
    | with_reducible apply KeepsO.next | with_reducible apply KeepsO.ite | with_reducible exact Keeps.refl _ | intro _
    | with_reducible apply Keeps.ite | with_reducible apply refuse_keeps | with_reducible apply writeWord_keeps
    | with_reducible apply headGated_keeps | split | simp only [Keeps.update_iff]

theorem requestTile_keeps (n l : Nat) {s t : State} (h : Keeps s t) : Keeps s (requestTile n l t) := by
  unfold requestTile
  repeat' first
    | with_reducible exact h | with_reducible exact Keeps.refl _ | intro _ | with_reducible apply Keeps.put
    | with_reducible apply Keeps.onlyIf | with_reducible apply requestStream_keeps

theorem execShadowWrite_keeps (m : Master) (n : Nat) (w : Shadow) (v : Nat) (s : State) : KeepsO s (execShadowWrite m n w v s) := by
  unfold execShadowWrite
  repeat' first
    | with_reducible apply KeepsO.next | with_reducible apply KeepsO.ite | with_reducible exact Keeps.refl _ | intro _
    | with_reducible apply Keeps.put | with_reducible apply Keeps.onlyIf | with_reducible apply Keeps.ite
    | with_reducible apply refuse_keeps | with_reducible apply writeWord_keeps | with_reducible apply headGated_keeps
    | with_reducible apply requestTile_keeps | split | simp only [Keeps.update_iff]

theorem latchSlide_keeps (n : Nat) {s t : State} (h : Keeps s t) : Keeps s (latchSlide n t) := by
  unfold latchSlide
  repeat' first
    | with_reducible exact h | with_reducible exact Keeps.refl _ | intro _ | with_reducible apply Keeps.putFlag
    | with_reducible apply Keeps.onlyIf | with_reducible apply notice_keeps

theorem latchBanks_keeps (n : Nat) {s t : State} (h : Keeps s t) : Keeps s (latchBanks n t) := by
  unfold latchBanks
  repeat' first
    | with_reducible exact h | with_reducible exact Keeps.refl _ | intro _ | with_reducible apply Keeps.put
    | with_reducible apply Keeps.onlyIf

theorem colourLive_keeps (n c : Nat) {s t : State} (h : Keeps s t) : Keeps s (colourLive n c t) := by
  unfold colourLive
  repeat' first
    | with_reducible exact h | with_reducible apply Keeps.put | with_reducible apply Keeps.ite | split

theorem layerLive_keeps (n l : Nat) {s t : State} (h : Keeps s t) : Keeps s (layerLive n l t) := by
  unfold layerLive
  repeat' first
    | with_reducible exact h | with_reducible exact Keeps.refl _ | intro _ | with_reducible apply Keeps.put
    | with_reducible apply Keeps.onlyIf | with_reducible apply Keeps.ite | split

theorem latchCommit_keeps (n : Nat) {s t : State} (h : Keeps s t) : Keeps s (latchCommit n t) := by
  unfold latchCommit
  repeat' first
    | with_reducible exact h | with_reducible exact Keeps.refl _ | intro _ | with_reducible apply Keeps.put
    | with_reducible apply Keeps.onlyIf | with_reducible apply Keeps.forAll | with_reducible apply headCause_keeps
    | with_reducible apply colourLive_keeps | with_reducible apply layerLive_keeps

theorem latchFlip_keeps (n l : Nat) {s t : State} (h : Keeps s t) : Keeps s (latchFlip n l t) := by
  unfold latchFlip
  repeat' first
    | with_reducible exact h | with_reducible apply Keeps.put | with_reducible apply Keeps.bump | with_reducible apply Keeps.ite
    | with_reducible apply refuse_keeps | with_reducible apply headCause_keeps | with_reducible apply putArmed_keeps
    | with_reducible apply putLayerReason_keeps | with_reducible apply layerLive_keeps | split

theorem latchShadows_keeps (n : Nat) {s t : State} (h : Keeps s t) : Keeps s (latchShadows n t) := by
  unfold latchShadows
  repeat' first
    | with_reducible exact h | with_reducible exact Keeps.refl _ | intro _ | with_reducible apply Keeps.onlyIf
    | with_reducible apply Keeps.forAll | with_reducible apply Keeps.ite | with_reducible apply colourLive_keeps
    | with_reducible apply latchCommit_keeps | with_reducible apply latchFlip_keeps | split

theorem putFallback_keeps (n l : Nat) (b : Bool) {s t : State} (h : Keeps s t) : Keeps s (putFallback n l b t) := by
  unfold putFallback
  repeat' first
    | with_reducible exact h | with_reducible exact Keeps.refl _ | intro _ | with_reducible apply Keeps.putFlag
    | with_reducible apply Keeps.onlyIf | with_reducible apply headCause_keeps

theorem tileMiss_keeps (n l : Nat) {s t : State} (h : Keeps s t) : Keeps s (tileMiss n l t) := by
  unfold tileMiss
  repeat' first
    | with_reducible exact h | with_reducible exact Keeps.refl _ | intro _ | with_reducible apply Keeps.put
    | with_reducible apply Keeps.bump | with_reducible apply Keeps.onlyIf | with_reducible apply headCause_keeps
    | with_reducible apply putFallback_keeps

theorem putPredec_keeps (n l : Nat) (b : Bool) {s t : State} (h : Keeps s t) : Keeps s (putPredec n l b t) := by
  unfold putPredec
  repeat' first
    | with_reducible exact h | with_reducible exact Keeps.refl _ | intro _ | with_reducible apply Keeps.putFlag
    | with_reducible apply Keeps.onlyIf | with_reducible apply headCause_keeps

theorem tileReady_keeps (n l w0 : Nat) (rows : List (List Nat)) {s t : State} (h : Keeps s t) : Keeps s (tileReady n l w0 rows t) := by
  unfold tileReady
  repeat' first
    | with_reducible exact h | with_reducible exact Keeps.refl _ | intro _ | with_reducible apply Keeps.put
    | with_reducible apply Keeps.ite | with_reducible apply putFallback_keeps | with_reducible apply putPredec_keeps | split
    | simp only [Keeps.update_iff]

theorem latchTile_keeps (n : Nat) (aged : List Nat) (l : Nat) {s t : State} (h : Keeps s t) : Keeps s (latchTile n aged l t) := by
  unfold latchTile
  repeat' first
    | with_reducible exact h | with_reducible apply Keeps.put | with_reducible apply Keeps.ite
    | with_reducible apply tileMiss_keeps | with_reducible apply tileReady_keeps | split

theorem execLatchPoint_keeps (n frame : Nat) (aged : List Nat) (s : State) : KeepsO s (execLatchPoint n frame aged s) := by
  unfold execLatchPoint
  repeat' first
    | with_reducible apply KeepsO.next | with_reducible apply KeepsO.ite | with_reducible exact Keeps.refl _ | intro _
    | with_reducible apply Keeps.onlyIf | with_reducible apply Keeps.forAll | with_reducible apply latchSlide_keeps
    | with_reducible apply latchBanks_keeps | with_reducible apply latchShadows_keeps | with_reducible apply latchTile_keeps
    | simp only [Keeps.update_iff]

theorem fetchFault_keeps (n o : Nat) (bad : Option Nat) {s t : State} (h : Keeps s t) : Keeps s (fetchFault n o bad t) := by
  unfold fetchFault
  repeat' first
    | with_reducible exact h | with_reducible apply Keeps.bump | with_reducible apply eccNote_keeps
    | with_reducible apply headCause_keeps | split | simp only [Keeps.update_iff]

theorem headDeparture_keeps (n frame line : Nat) (failed : List (Nat × Option Nat)) {s t : State} (h : Keeps s t) : Keeps s (headDeparture n frame line failed t) := by
  unfold headDeparture
  repeat' first
    | with_reducible exact h | with_reducible exact Keeps.refl _ | intro _ | with_reducible apply Keeps.emit
    | with_reducible apply Keeps.forAll | with_reducible apply Keeps.ite | with_reducible apply fetchFault_keeps | split
    | simp only [Keeps.update_iff]

theorem execLineDeparture_keeps (x : Departure) (s : State) : KeepsO s (execLineDeparture x s) := by
  unfold execLineDeparture
  repeat' first
    | with_reducible apply KeepsO.next | with_reducible apply KeepsO.ite | with_reducible exact Keeps.refl _ | intro _
    | with_reducible apply destDeparture_keeps | with_reducible apply headDeparture_keeps | split | simp only [Keeps.update_iff]

theorem judgeLegend_keeps (n : Nat) {s t : State} (h : Keeps s t) : Keeps s (judgeLegend n t) := by
  unfold judgeLegend
  repeat' first
    | with_reducible exact h | with_reducible exact Keeps.refl _ | intro _ | with_reducible apply Keeps.put
    | with_reducible apply Keeps.putFlag | with_reducible apply Keeps.onlyIf | with_reducible apply notice_keeps

theorem placeLegend_keeps {s t : State} (h : Keeps s t) : Keeps s (placeLegend t) := by
  unfold placeLegend
  repeat' first
    | with_reducible exact h | with_reducible exact Keeps.refl _ | intro _ | with_reducible apply Keeps.put
    | with_reducible apply Keeps.putFlag | with_reducible apply Keeps.forAll

theorem headDisabled_keeps (n : Nat) {s t : State} (h : Keeps s t) : Keeps s (headDisabled n t) := by
  unfold headDisabled
  repeat' first
    | with_reducible exact h | with_reducible exact Keeps.refl _ | intro _ | with_reducible apply Keeps.put
    | simp only [Keeps.update_iff]

/-! ### Reference -/

theorem putInt_keeps (f : Fld) (i : Nat) (x : Int) {s t : State} (h : Keeps s t) : Keeps s (t.putInt f i x) := by
  unfold State.putInt
  repeat' first
    | with_reducible exact h | with_reducible apply Keeps.put

theorem takeRecord_keeps (bs : List Byte) {s t : State} (h : Keeps s t) : Keeps s (takeRecord bs t) := by
  unfold takeRecord
  repeat' first
    | with_reducible exact h | with_reducible apply Keeps.put | with_reducible apply putInt_keeps | simp only [Keeps.update_iff]

theorem showModel_keeps {s t : State} (h : Keeps s t) : Keeps s (showModel t) := by
  unfold showModel
  repeat' first
    | with_reducible exact h | with_reducible apply Keeps.put | with_reducible apply Keeps.putFlag

theorem loadModel_keeps {s t : State} (h : Keeps s t) : Keeps s (loadModel t) := by
  unfold loadModel
  repeat' first
    | with_reducible exact h | with_reducible apply Keeps.put | with_reducible apply Keeps.ite
    | with_reducible apply notice_keeps | with_reducible apply putInt_keeps | with_reducible apply takeRecord_keeps
    | with_reducible apply showModel_keeps | split | simp only [Keeps.update_iff]

theorem putHist_keeps (c : Nat) (l : List Int) {s t : State} (h : Keeps s t) : Keeps s (putHist c l t) := by
  unfold putHist
  repeat' first
    | with_reducible exact h | with_reducible exact Keeps.refl _ | intro _ | with_reducible apply Keeps.ite | split
    | simp only [Keeps.update_iff]

theorem judgeDrift_keeps (c : Nat) (x : Int) {s t : State} (h : Keeps s t) : Keeps s (judgeDrift c x t) := by
  unfold judgeDrift
  repeat' first
    | with_reducible exact h | with_reducible exact Keeps.refl _ | intro _ | with_reducible apply Keeps.put
    | with_reducible apply Keeps.bump | with_reducible apply Keeps.onlyIf | with_reducible apply Keeps.ite
    | with_reducible apply notice_keeps | with_reducible apply putInt_keeps | split

theorem setCstate_keeps (c v : Nat) {s t : State} (h : Keeps s t) : Keeps s (setCstate c v t) := by
  unfold setCstate
  repeat' first
    | with_reducible exact h | with_reducible exact Keeps.refl _ | intro _ | with_reducible apply Keeps.put
    | with_reducible apply Keeps.bump | with_reducible apply Keeps.onlyIf | with_reducible apply Keeps.ite
    | with_reducible apply notice_keeps | split

theorem forgetCandidate_keeps (c : Nat) {s t : State} (h : Keeps s t) : Keeps s (forgetCandidate c t) := by
  unfold forgetCandidate
  repeat' first
    | with_reducible exact h | with_reducible apply Keeps.put | with_reducible apply putHist_keeps

theorem judgePresent_keeps (c : Nat) (d : Int) {s t : State} (h : Keeps s t) : Keeps s (judgePresent c d t) := by
  unfold judgePresent
  repeat' first
    | with_reducible exact h | with_reducible apply Keeps.put | with_reducible apply Keeps.ite
    | with_reducible apply setCstate_keeps | split

theorem candidateSecond_keeps (e : RefMeas) (c : Nat) {s t : State} (h : Keeps s t) : Keeps s (candidateSecond e c t) := by
  unfold candidateSecond
  repeat' first
    | with_reducible exact h | with_reducible apply Keeps.put | with_reducible apply Keeps.ite
    | with_reducible apply putInt_keeps | with_reducible apply putHist_keeps | with_reducible apply judgeDrift_keeps
    | with_reducible apply setCstate_keeps | with_reducible apply forgetCandidate_keeps | with_reducible apply judgePresent_keeps
    | split | simp only [Keeps.update_iff]

theorem setRefState_keeps (v : Nat) {s t : State} (h : Keeps s t) : Keeps s (setRefState v t) := by
  unfold setRefState
  repeat' first
    | with_reducible exact h | with_reducible apply Keeps.put | with_reducible apply Keeps.ite
    | with_reducible apply notice_keeps | split

theorem selectCandidate_keeps (c cause : Nat) {s t : State} (h : Keeps s t) : Keeps s (selectCandidate c cause t) := by
  unfold selectCandidate
  repeat' first
    | with_reducible exact h | with_reducible apply Keeps.put | with_reducible apply notice_keeps
    | with_reducible apply setRefState_keeps

theorem enterHold_keeps (st cause : Nat) {s t : State} (h : Keeps s t) : Keeps s (enterHold st cause t) := by
  unfold enterHold
  repeat' first
    | with_reducible exact h | with_reducible exact Keeps.refl _ | intro _ | with_reducible apply Keeps.put
    | with_reducible apply Keeps.onlyIf | with_reducible apply Keeps.ite | with_reducible apply notice_keeps
    | with_reducible apply setRefState_keeps | split

theorem runSelection_keeps (base : Nat) {s t : State} (h : Keeps s t) : Keeps s (runSelection base t) := by
  unfold runSelection
  repeat' first
    | with_reducible exact h | with_reducible exact Keeps.refl _ | intro _ | with_reducible apply Keeps.put
    | with_reducible apply Keeps.onlyIf | with_reducible apply Keeps.ite | with_reducible apply notice_keeps
    | with_reducible apply followInc0_keeps | with_reducible apply selectCandidate_keeps | with_reducible apply enterHold_keeps
    | split | simp only [Keeps.update_iff]

theorem moveK_keeps (target : Int) {s t : State} (h : Keeps s t) : Keeps s (moveK target t) := by
  unfold moveK
  repeat' first
    | with_reducible exact h | with_reducible apply putInt_keeps

theorem secondK_keeps (e : RefMeas) {s t : State} (h : Keeps s t) : Keeps s (secondK e t) := by
  unfold secondK
  repeat' first
    | with_reducible exact h | with_reducible apply Keeps.ite | with_reducible apply putInt_keeps
    | with_reducible apply moveK_keeps | split

theorem secondState_keeps (e : RefMeas) {s t : State} (h : Keeps s t) : Keeps s (secondState e t) := by
  unfold secondState
  repeat' first
    | with_reducible exact h | with_reducible exact Keeps.refl _ | intro _ | with_reducible apply Keeps.put
    | with_reducible apply Keeps.bump | with_reducible apply Keeps.onlyIf | with_reducible apply Keeps.ite
    | with_reducible apply setRefState_keeps | split | simp only [Keeps.update_iff]

theorem learn_keeps {s t : State} (h : Keeps s t) : Keeps s (learn t) := by
  unfold learn
  repeat' first
    | with_reducible exact h | with_reducible apply Keeps.put | with_reducible apply Keeps.bump | with_reducible apply Keeps.ite
    | with_reducible apply putInt_keeps | split | simp only [Keeps.update_iff]

theorem countHold_keeps {s t : State} (h : Keeps s t) : Keeps s (countHold t) := by
  unfold countHold
  repeat' first
    | with_reducible exact h | with_reducible apply Keeps.put | with_reducible apply Keeps.bump | with_reducible apply Keeps.ite
    | split

theorem execRefSecond_keeps (e : RefMeas) (s : State) : KeepsO s (execRefSecond e s) := by
  unfold execRefSecond
  repeat' first
    | with_reducible apply KeepsO.next | with_reducible apply KeepsO.ite | with_reducible exact Keeps.refl _ | intro _
    | with_reducible apply Keeps.onlyIf | with_reducible apply Keeps.forAll | with_reducible apply showModel_keeps
    | with_reducible apply candidateSecond_keeps | with_reducible apply runSelection_keeps | with_reducible apply secondK_keeps
    | with_reducible apply secondState_keeps | with_reducible apply learn_keeps | with_reducible apply countHold_keeps

theorem execCandidateAbsent_keeps (s : State) : KeepsO s (execCandidateAbsent s) := by
  unfold execCandidateAbsent
  repeat' first
    | with_reducible apply KeepsO.next | with_reducible apply KeepsO.ite | with_reducible exact Keeps.refl _ | intro _
    | with_reducible apply Keeps.onlyIf | with_reducible apply setCstate_keeps | with_reducible apply forgetCandidate_keeps
    | with_reducible apply runSelection_keeps

theorem execSlewComplete_keeps (s : State) : KeepsO s (execSlewComplete s) := by
  unfold execSlewComplete
  repeat' first
    | with_reducible apply KeepsO.next | with_reducible apply KeepsO.ite | with_reducible exact Keeps.refl _ | intro _
    | with_reducible apply Keeps.put | with_reducible apply Keeps.onlyIf

theorem execHoldLimitExpiry_keeps (s : State) : KeepsO s (execHoldLimitExpiry s) := by
  unfold execHoldLimitExpiry
  repeat' first
    | with_reducible apply KeepsO.next | with_reducible apply KeepsO.ite | with_reducible exact Keeps.refl _ | intro _
    | with_reducible apply Keeps.onlyIf | with_reducible apply enterHold_keeps

theorem execDailyMean_keeps (s : State) : KeepsO s (execDailyMean s) := by
  unfold execDailyMean
  repeat' first
    | with_reducible apply KeepsO.next | with_reducible apply KeepsO.ite | with_reducible exact Keeps.refl _ | intro _
    | with_reducible apply Keeps.put | with_reducible apply Keeps.onlyIf | with_reducible apply showModel_keeps
    | simp only [Keeps.update_iff]

theorem execTempRead_keeps (reading : Option Int) (s : State) : KeepsO s (execTempRead reading s) := by
  unfold execTempRead
  repeat' first
    | with_reducible apply KeepsO.next | with_reducible apply KeepsO.ite | with_reducible exact Keeps.refl _ | intro _
    | with_reducible apply Keeps.put | with_reducible apply Keeps.bump | with_reducible apply Keeps.onlyIf
    | with_reducible apply notice_keeps | with_reducible apply putInt_keeps | with_reducible apply showModel_keeps | split
    | simp only [Keeps.update_iff]

theorem tableValues_keeps {s t : State} (h : Keeps s t) : Keeps s (tableValues t) := by
  unfold tableValues
  repeat' first
    | with_reducible exact h | with_reducible exact Keeps.refl _ | intro _ | with_reducible apply Keeps.put
    | with_reducible apply Keeps.forAll

theorem placeRefTable_keeps {s t : State} (h : Keeps s t) : Keeps s (placeRefTable t) := by
  unfold placeRefTable
  repeat' first
    | with_reducible exact h | with_reducible exact Keeps.refl _ | intro _ | with_reducible apply Keeps.onlyIf
    | with_reducible apply tableValues_keeps

theorem refEnabled_keeps {s t : State} (h : Keeps s t) : Keeps s (refEnabled t) := by
  unfold refEnabled
  repeat' first
    | with_reducible exact h | with_reducible apply Keeps.put | with_reducible apply loadModel_keeps
    | with_reducible apply runSelection_keeps | with_reducible apply tableValues_keeps | simp only [Keeps.update_iff]

theorem refDisabled_keeps {s t : State} (h : Keeps s t) : Keeps s (refDisabled t) := by
  unfold refDisabled
  repeat' first
    | with_reducible exact h | with_reducible exact Keeps.refl _ | intro _ | with_reducible apply Keeps.put
    | with_reducible apply Keeps.forAll | with_reducible apply followInc0_keeps | with_reducible apply forgetCandidate_keeps

theorem execCandidateWrite_keeps (m : Master) (c v : Nat) (s : State) : KeepsO s (execCandidateWrite m c v s) := by
  unfold execCandidateWrite
  repeat' first
    | with_reducible apply KeepsO.next | with_reducible apply KeepsO.ite | with_reducible exact Keeps.refl _ | intro _
    | with_reducible apply Keeps.onlyIf | with_reducible apply Keeps.ite | with_reducible apply refuse_keeps
    | with_reducible apply writeGated_keeps | with_reducible apply writeWord_keeps | with_reducible apply setCstate_keeps
    | with_reducible apply forgetCandidate_keeps | with_reducible apply runSelection_keeps | split

theorem execThresholdWrite_keeps (m : Master) (k v : Nat) (s : State) : KeepsO s (execThresholdWrite m k v s) := by
  unfold execThresholdWrite
  repeat' first
    | with_reducible apply KeepsO.next | with_reducible apply KeepsO.ite | with_reducible exact Keeps.refl _ | intro _
    | with_reducible apply Keeps.onlyIf | with_reducible apply Keeps.ite | with_reducible apply refuse_keeps
    | with_reducible apply writeGated_keeps | with_reducible apply writeWord_keeps | split

theorem swLost_keeps {s t : State} (h : Keeps s t) : Keeps s (swLost t) := by
  unfold swLost
  repeat' first
    | with_reducible exact h | with_reducible apply Keeps.put | with_reducible apply notice_keeps

theorem execRefSwWrite_keeps (m : Master) (v : Nat) (s : State) : KeepsO s (execRefSwWrite m v s) := by
  unfold execRefSwWrite
  repeat' first
    | with_reducible apply KeepsO.next | with_reducible apply KeepsO.ite | with_reducible exact Keeps.refl _ | intro _
    | with_reducible apply Keeps.put | with_reducible apply Keeps.onlyIf | with_reducible apply notice_keeps
    | with_reducible apply writeGated_keeps

theorem execRefSwTimeout_keeps (s : State) : KeepsO s (execRefSwTimeout s) := by
  unfold execRefSwTimeout
  repeat' first
    | with_reducible apply KeepsO.next | with_reducible apply KeepsO.ite | with_reducible exact Keeps.refl _ | intro _
    | with_reducible apply Keeps.put | with_reducible apply Keeps.onlyIf | with_reducible apply Keeps.ite
    | with_reducible apply swLost_keeps | split

/-! ### Power -/

theorem enterSafe_keeps {s t : State} (h : Keeps s t) : Keeps s (enterSafe t) := by
  unfold enterSafe
  repeat' first
    | with_reducible exact h | with_reducible exact Keeps.refl _ | intro _ | with_reducible apply Keeps.put
    | with_reducible apply Keeps.clearAll | with_reducible apply Keeps.onlyIf | with_reducible apply notice_keeps
    | with_reducible apply setPower_keeps | with_reducible apply releaseClaim_keeps

theorem execSafeEntry_keeps (s : State) : KeepsO s (execSafeEntry s) := by
  unfold execSafeEntry
  repeat' first
    | with_reducible apply KeepsO.next | with_reducible apply KeepsO.ite | with_reducible exact Keeps.refl _ | intro _
    | with_reducible apply Keeps.onlyIf | with_reducible apply enterSafe_keeps

theorem execRecoveryDone_keeps (m : Master) (v : Nat) (s : State) : KeepsO s (execRecoveryDone m v s) := by
  unfold execRecoveryDone
  repeat' first
    | with_reducible apply KeepsO.next | with_reducible apply KeepsO.ite | with_reducible exact Keeps.refl _ | intro _
    | with_reducible apply writeGated_keeps | with_reducible apply doneRecovery_keeps | with_reducible apply judgeTakeover_keeps

theorem inputsStall_keeps {s t : State} (h : Keeps s t) : Keeps s (inputsStall t) := by
  unfold inputsStall
  repeat' first
    | with_reducible exact h | with_reducible exact Keeps.refl _ | intro _ | with_reducible apply Keeps.put
    | with_reducible apply Keeps.onlyIf | with_reducible apply Keeps.forAll | with_reducible apply judgeInput_keeps

theorem enterQuiet_keeps {s t : State} (h : Keeps s t) : Keeps s (enterQuiet t) := by
  unfold enterQuiet
  repeat' first
    | with_reducible exact h | with_reducible exact Keeps.refl _ | intro _ | with_reducible apply Keeps.put
    | with_reducible apply Keeps.onlyIf | with_reducible apply setPower_keeps | with_reducible apply dspQuiet_keeps
    | with_reducible apply releaseClaim_keeps | with_reducible apply inputsStall_keeps

theorem requestAgain_keeps {s t : State} (h : Keeps s t) : Keeps s (requestAgain t) := by
  unfold requestAgain
  repeat' first
    | with_reducible exact h | with_reducible exact Keeps.refl _ | intro _ | with_reducible apply Keeps.onlyIf
    | with_reducible apply Keeps.forAll | with_reducible apply mapRx_keeps | with_reducible apply askAgain_keeps
    | with_reducible apply requestMissing_keeps | simp only [Keeps.update_iff]

theorem leaveQuietState_keeps {s t : State} (h : Keeps s t) : Keeps s (leaveQuietState t) := by
  unfold leaveQuietState
  repeat' first
    | with_reducible exact h | with_reducible exact Keeps.refl _ | intro _ | with_reducible apply Keeps.onlyIf
    | with_reducible apply Keeps.forAll | with_reducible apply setPower_keeps | with_reducible apply portEnabled_keeps
    | with_reducible apply applyRole_keeps | with_reducible apply requestAgain_keeps

theorem powerRequest_keeps (m : Master) (v : Nat) {s t : State} (h : Keeps s t) : Keeps s (powerRequest m v t) := by
  unfold powerRequest
  repeat' first
    | with_reducible exact h | with_reducible exact Keeps.refl _ | intro _ | with_reducible apply Keeps.after_id
    | with_reducible apply Keeps.put | with_reducible apply Keeps.ite | with_reducible apply refuse_keeps
    | with_reducible apply enterQuiet_keeps | with_reducible apply leaveQuietState_keeps | split | simp only [Keeps.update_iff]

theorem execQuietRequest_keeps (m : Master) (s : State) : KeepsO s (execQuietRequest m s) := by
  unfold execQuietRequest
  repeat' first
    | with_reducible apply KeepsO.next | with_reducible apply KeepsO.ite | with_reducible exact Keeps.refl _ | intro _
    | with_reducible apply writeGated_keeps | with_reducible apply powerRequest_keeps

theorem execLeaveQuiet_keeps (m : Master) (s : State) : KeepsO s (execLeaveQuiet m s) := by
  unfold execLeaveQuiet
  repeat' first
    | with_reducible apply KeepsO.next | with_reducible apply KeepsO.ite | with_reducible exact Keeps.refl _ | intro _
    | with_reducible apply writeGated_keeps | with_reducible apply powerRequest_keeps

theorem execSupplyOutOfRange_keeps (rail : Nat) (s : State) : KeepsO s (execSupplyOutOfRange rail s) := by
  unfold execSupplyOutOfRange
  repeat' first
    | with_reducible apply KeepsO.next | with_reducible apply KeepsO.ite | with_reducible exact Keeps.refl _ | intro _
    | with_reducible apply Keeps.put | with_reducible apply Keeps.onlyIf | with_reducible apply assertEv_keeps
    | with_reducible apply releaseClaim_keeps

theorem execPowerOnReset_keeps (plane twin : Bool) (s : State) : KeepsO s (execPowerOnReset plane twin s) := by
  unfold execPowerOnReset
  repeat' first
    | with_reducible apply KeepsO.next | with_reducible apply KeepsO.ite | with_reducible exact Keeps.refl _ | intro _
    | with_reducible apply strapReset_keeps

theorem execExternalReset_keeps (plane twin : Bool) (s : State) : KeepsO s (execExternalReset plane twin s) := by
  unfold execExternalReset
  repeat' first
    | with_reducible apply KeepsO.next | with_reducible apply KeepsO.ite | with_reducible exact Keeps.refl _ | intro _
    | with_reducible apply strapReset_keeps

theorem judgeContact_keeps {s t : State} (h : Keeps s t) : Keeps s (judgeContact t) := by
  unfold judgeContact
  repeat' first
    | with_reducible exact h | with_reducible apply Keeps.putFlag

theorem placeRegion_keeps (p : Placed) {s t : State} (h : Keeps s t) : Keeps s (placeRegion p t) := by
  unfold placeRegion
  repeat' first
    | with_reducible exact h | with_reducible exact Keeps.refl _ | intro _ | with_reducible apply Keeps.memPutBytes
    | with_reducible apply Keeps.onlyIf | with_reducible apply Keeps.ite | split | simp only [Keeps.update_iff]

theorem placePolicy_keeps {s t : State} (h : Keeps s t) : Keeps s (placePolicy t) := by
  unfold placePolicy
  repeat' first
    | with_reducible exact h | with_reducible exact Keeps.refl _ | intro _ | with_reducible apply Keeps.put
    | with_reducible apply Keeps.onlyIf | with_reducible apply setDebugLevel_keeps | split | simp only [Keeps.update_iff]

theorem placeWord_keeps (off v : Nat) {s t : State} (h : Keeps s t) : Keeps s (placeWord off v t) := by
  unfold placeWord
  repeat' first
    | with_reducible exact h | with_reducible exact Keeps.refl _ | intro _ | with_reducible apply Keeps.put
    | with_reducible apply Keeps.forAll | with_reducible apply Keeps.ite | split | simp only [Keeps.update_iff]

theorem placeGazetteer_keeps {s t : State} (h : Keeps s t) : Keeps s (placeGazetteer t) := by
  unfold placeGazetteer
  repeat' first
    | with_reducible exact h | with_reducible exact Keeps.refl _ | intro _ | with_reducible apply Keeps.forAll
    | with_reducible apply Keeps.ite | with_reducible apply takeEntry_keeps | split | simp only [Keeps.update_iff]

theorem placeAtlas_keeps {s t : State} (h : Keeps s t) : Keeps s (placeAtlas t) := by
  unfold placeAtlas
  repeat' first
    | with_reducible exact h | with_reducible exact Keeps.refl _ | intro _ | with_reducible apply Keeps.forAll
    | with_reducible apply Keeps.ite | with_reducible apply requestDraft_keeps | with_reducible apply placeWord_keeps | split
    | simp only [Keeps.update_iff]

theorem placeAll_keeps {s t : State} (h : Keeps s t) : Keeps s (placeAll t) := by
  unfold placeAll
  repeat' first
    | with_reducible exact h | with_reducible exact Keeps.refl _ | intro _ | with_reducible apply Keeps.forAll
    | with_reducible apply placeEqTable_keeps | with_reducible apply placeCeilings_keeps | with_reducible apply placeVenue_keeps
    | with_reducible apply placeAudioAtlas_keeps | with_reducible apply placeLegend_keeps
    | with_reducible apply placeRefTable_keeps | with_reducible apply placeRegion_keeps | with_reducible apply placePolicy_keeps
    | with_reducible apply placeGazetteer_keeps | with_reducible apply placeAtlas_keeps

theorem execHandOver_keeps (s : State) : KeepsO s (execHandOver s) := by
  unfold execHandOver
  repeat' first
    | with_reducible apply KeepsO.next | with_reducible apply KeepsO.ite | with_reducible exact Keeps.refl _ | intro _
    | with_reducible apply Keeps.put | with_reducible apply Keeps.onlyIf | with_reducible apply setPower_keeps
    | with_reducible apply logCrcFaults_keeps | with_reducible apply judgeContact_keeps | with_reducible apply placeAll_keeps
    | simp only [Keeps.update_iff]

/-! ### Field -/

theorem execSafetyMeasurement_keeps (i ohms : Nat) (s : State) : KeepsO s (execSafetyMeasurement i ohms s) := by
  unfold execSafetyMeasurement
  repeat' first
    | with_reducible apply KeepsO.next | with_reducible apply KeepsO.ite | with_reducible exact Keeps.refl _ | intro _
    | with_reducible apply Keeps.put | with_reducible apply Keeps.onlyIf | with_reducible apply Keeps.ite | split

theorem setOverride_keeps (on : Bool) {s t : State} (h : Keeps s t) : Keeps s (setOverride on t) := by
  unfold setOverride
  repeat' first
    | with_reducible exact h | with_reducible exact Keeps.refl _ | intro _ | with_reducible apply Keeps.put
    | with_reducible apply Keeps.putFlag | with_reducible apply Keeps.onlyIf | with_reducible apply leaveQuietState_keeps

theorem judgeOverride_keeps {s t : State} (h : Keeps s t) : Keeps s (judgeOverride t) := by
  unfold judgeOverride
  repeat' first
    | with_reducible exact h | with_reducible exact Keeps.refl _ | intro _ | with_reducible apply Keeps.onlyIf
    | with_reducible apply setOverride_keeps

theorem dieRecognises_keeps (i : Nat) {s t : State} (h : Keeps s t) : Keeps s (dieRecognises i t) := by
  unfold dieRecognises
  repeat' first
    | with_reducible exact h | with_reducible apply Keeps.put | with_reducible apply Keeps.ite | split

theorem stateChange_keeps (i b : Nat) {s t : State} (h : Keeps s t) : Keeps s (stateChange i b t) := by
  unfold stateChange
  repeat' first
    | with_reducible exact h | with_reducible exact Keeps.refl _ | intro _ | with_reducible apply Keeps.put
    | with_reducible apply Keeps.onlyIf | with_reducible apply assertEv_keeps

theorem holdsChange_keeps (i : Nat) (on : Bool) {s t : State} (h : Keeps s t) : Keeps s (holdsChange i on t) := by
  unfold holdsChange
  repeat' first
    | with_reducible exact h | with_reducible exact Keeps.refl _ | intro _ | with_reducible apply Keeps.put
    | with_reducible apply Keeps.putFlag | with_reducible apply Keeps.onlyIf | with_reducible apply notice_keeps

theorem receiveSafety_keeps (i : Nat) {s t : State} (h : Keeps s t) : Keeps s (receiveSafety i t) := by
  unfold receiveSafety
  repeat' first
    | with_reducible exact h | with_reducible exact Keeps.refl _ | intro _ | with_reducible apply Keeps.onlyIf
    | with_reducible apply stateChange_keeps | with_reducible apply holdsChange_keeps

theorem receiveBoth_keeps {s t : State} (h : Keeps s t) : Keeps s (receiveBoth t) := by
  unfold receiveBoth
  repeat' first
    | with_reducible exact h | with_reducible exact Keeps.refl _ | intro _ | with_reducible apply Keeps.onlyIf
    | with_reducible apply judgeContact_keeps | with_reducible apply judgeOverride_keeps
    | with_reducible apply receiveSafety_keeps

theorem execBandRecognised_keeps (is : List Nat) (s : State) : KeepsO s (execBandRecognised is s) := by
  unfold execBandRecognised
  repeat' first
    | with_reducible apply KeepsO.next | with_reducible apply KeepsO.ite | with_reducible exact Keeps.refl _ | intro _
    | with_reducible apply Keeps.forAll | with_reducible apply dieRecognises_keeps | with_reducible apply receiveBoth_keeps

theorem armOverride_keeps {s t : State} (h : Keeps s t) : Keeps s (armOverride t) := by
  unfold armOverride
  repeat' first
    | with_reducible exact h | with_reducible exact Keeps.refl _ | intro _ | with_reducible apply Keeps.put
    | with_reducible apply Keeps.onlyIf | with_reducible apply judgeOverride_keeps

theorem execOverrideArm_keeps (s : State) : KeepsO s (execOverrideArm s) := by
  unfold execOverrideArm
  repeat' first
    | with_reducible apply KeepsO.next | with_reducible apply KeepsO.ite | with_reducible exact Keeps.refl _ | intro _
    | with_reducible apply Keeps.onlyIf | with_reducible apply armOverride_keeps

theorem execSafetyReminder_keeps (i : Nat) (s : State) : KeepsO s (execSafetyReminder i s) := by
  unfold execSafetyReminder
  repeat' first
    | with_reducible apply KeepsO.next | with_reducible apply KeepsO.ite | with_reducible exact Keeps.refl _ | intro _
    | with_reducible apply Keeps.onlyIf | with_reducible apply Keeps.ite | with_reducible apply assertEv_keeps
    | with_reducible apply notice_keeps | split

theorem execAckSafety_keeps (m : Master) (slot : Nat) (s : State) : KeepsO s (execAckSafety m slot s) := by
  unfold execAckSafety
  repeat' first
    | with_reducible apply KeepsO.next | with_reducible apply KeepsO.ite | with_reducible exact Keeps.refl _ | intro _
    | with_reducible apply Keeps.put | with_reducible apply Keeps.forAll | with_reducible apply Keeps.ite
    | with_reducible apply notice_keeps | with_reducible apply signedCommand_keeps | split

theorem gpiCause_keeps (f en : Fld) (n : Nat) {s t : State} (h : Keeps s t) : Keeps s (gpiCause f en n t) := by
  unfold gpiCause
  repeat' first
    | with_reducible exact h | with_reducible exact Keeps.refl _ | intro _ | with_reducible apply Keeps.put
    | with_reducible apply Keeps.onlyIf | with_reducible apply notice_keeps

theorem gpiLevel_keeps (n : Nat) {s t : State} (h : Keeps s t) : Keeps s (gpiLevel n t) := by
  unfold gpiLevel
  repeat' first
    | with_reducible exact h | with_reducible apply Keeps.putFlag

theorem gpiPush_keeps (n : Nat) (active coalesced : Bool) (tg : Stamp) {s t : State} (h : Keeps s t) : Keeps s (gpiPush n active coalesced tg t) := by
  unfold gpiPush
  repeat' first
    | with_reducible exact h | with_reducible apply Keeps.put | with_reducible apply Keeps.putFlag
    | with_reducible apply Keeps.ite | with_reducible apply gpiCause_keeps | split | simp only [Keeps.update_iff]

theorem gpiEdge_keeps (n : Nat) (active : Bool) (tg : Stamp) {s t : State} (h : Keeps s t) : Keeps s (gpiEdge n active tg t) := by
  unfold gpiEdge
  repeat' first
    | with_reducible exact h | with_reducible exact Keeps.refl _ | intro _ | with_reducible apply Keeps.put
    | with_reducible apply Keeps.bump | with_reducible apply Keeps.inc | with_reducible apply Keeps.onlyIf
    | with_reducible apply Keeps.ite | with_reducible apply gpiCause_keeps | with_reducible apply gpiLevel_keeps
    | with_reducible apply gpiPush_keeps | split

theorem execGpiEdge_keeps (n : Nat) (active : Bool) (tg : Stamp) (s : State) : KeepsO s (execGpiEdge n active tg s) := by
  unfold execGpiEdge
  repeat' first
    | with_reducible apply KeepsO.next | with_reducible apply KeepsO.ite | with_reducible exact Keeps.refl _ | intro _
    | with_reducible apply Keeps.put | with_reducible apply Keeps.putFlag | with_reducible apply Keeps.onlyIf
    | with_reducible apply Keeps.ite | with_reducible apply gpiEdge_keeps | split

theorem execGpiRateWindow_keeps (n : Nat) (s : State) : KeepsO s (execGpiRateWindow n s) := by
  unfold execGpiRateWindow
  repeat' first
    | with_reducible apply KeepsO.next | with_reducible apply KeepsO.ite | with_reducible exact Keeps.refl _ | intro _
    | with_reducible apply Keeps.put | with_reducible apply Keeps.onlyIf | with_reducible apply gpiPush_keeps

theorem execGpiStuck_keeps (n : Nat) (s : State) : KeepsO s (execGpiStuck n s) := by
  unfold execGpiStuck
  repeat' first
    | with_reducible apply KeepsO.next | with_reducible apply KeepsO.ite | with_reducible exact Keeps.refl _ | intro _
    | with_reducible apply Keeps.put | with_reducible apply Keeps.onlyIf | with_reducible apply gpiCause_keeps
    | with_reducible apply gpiLevel_keeps

theorem execGpiFifoRead_keeps (m : Master) (s : State) : KeepsO s (execGpiFifoRead m s) := by
  unfold execGpiFifoRead
  repeat' first
    | with_reducible apply KeepsO.next | with_reducible apply KeepsO.ite | with_reducible exact Keeps.refl _ | intro _
    | with_reducible apply Keeps.put | with_reducible apply Keeps.respond | with_reducible apply readGated_keeps | split
    | simp only [Keeps.update_iff]

theorem dieSupplied_keeps (mv : Nat) {s t : State} (h : Keeps s t) : Keeps s (dieSupplied mv t) := by
  unfold dieSupplied
  repeat' first
    | with_reducible exact h | with_reducible exact Keeps.refl _ | intro _ | with_reducible apply Keeps.put
    | with_reducible apply Keeps.forAll | with_reducible apply Keeps.ite | split

theorem execVfieldOutOfRange_keeps (mv : Nat) (s : State) : KeepsO s (execVfieldOutOfRange mv s) := by
  unfold execVfieldOutOfRange
  repeat' first
    | with_reducible apply KeepsO.next | with_reducible apply KeepsO.ite | with_reducible exact Keeps.refl _ | intro _
    | with_reducible apply Keeps.put | with_reducible apply Keeps.onlyIf | with_reducible apply assertEv_keeps
    | with_reducible apply judgeContact_keeps | with_reducible apply dieSupplied_keeps

theorem execVfieldInRange_keeps (mv : Nat) (s : State) : KeepsO s (execVfieldInRange mv s) := by
  unfold execVfieldInRange
  repeat' first
    | with_reducible apply KeepsO.next | with_reducible apply KeepsO.ite | with_reducible exact Keeps.refl _ | intro _
    | with_reducible apply Keeps.put | with_reducible apply Keeps.onlyIf | with_reducible apply judgeContact_keeps
    | with_reducible apply dieSupplied_keeps

theorem execFieldStatusFrame_keeps (good : Bool) (mv : Nat) (s : State) : KeepsO s (execFieldStatusFrame good mv s) := by
  unfold execFieldStatusFrame
  repeat' first
    | with_reducible apply KeepsO.next | with_reducible apply KeepsO.ite | with_reducible exact Keeps.refl _ | intro _
    | with_reducible apply Keeps.put | with_reducible apply Keeps.bump | with_reducible apply Keeps.onlyIf
    | with_reducible apply Keeps.ite | split

theorem execFieldLinkDown_keeps (s : State) : KeepsO s (execFieldLinkDown s) := by
  unfold execFieldLinkDown
  repeat' first
    | with_reducible apply KeepsO.next | with_reducible apply KeepsO.ite | with_reducible exact Keeps.refl _ | intro _
    | with_reducible apply Keeps.put | with_reducible apply Keeps.onlyIf | with_reducible apply assertEv_keeps
    | with_reducible apply judgeContact_keeps

theorem execFieldLinkUp_keeps (s : State) : KeepsO s (execFieldLinkUp s) := by
  unfold execFieldLinkUp
  repeat' first
    | with_reducible apply KeepsO.next | with_reducible apply KeepsO.ite | with_reducible exact Keeps.refl _ | intro _
    | with_reducible apply Keeps.put | with_reducible apply Keeps.onlyIf | with_reducible apply Keeps.forAll
    | with_reducible apply receiveBoth_keeps | with_reducible apply gpiLevel_keeps

theorem execGpoOverload_keeps (n : Nat) (s : State) : KeepsO s (execGpoOverload n s) := by
  unfold execGpoOverload
  repeat' first
    | with_reducible apply KeepsO.next | with_reducible apply KeepsO.ite | with_reducible exact Keeps.refl _ | intro _
    | with_reducible apply Keeps.put | with_reducible apply Keeps.onlyIf | with_reducible apply notice_keeps

theorem execGpoFaultClear_keeps (m : Master) (v overloaded : Nat) (s : State) : KeepsO s (execGpoFaultClear m v overloaded s) := by
  unfold execGpoFaultClear
  repeat' first
    | with_reducible apply KeepsO.next | with_reducible apply KeepsO.ite | with_reducible exact Keeps.refl _ | intro _
    | with_reducible apply Keeps.put | with_reducible apply Keeps.onlyIf | with_reducible apply refuse_keeps
    | with_reducible apply writeGated_keeps

/-! ### Rings -/

theorem writeRecord_keeps (a : Nat) (bs : List Byte) (readBackFails : Bool) {s t : State} (h : Keeps s t) :
    Keeps s (writeRecord a bs readBackFails t) := by
  unfold writeRecord
  apply Keeps.ite
  · exact Keeps.put _ _ _ (Keeps.sameMem h rfl rfl rfl rfl id (fun k => Memory.wf_writeList _ _ k))
  · exact Keeps.nvmWrite _ _ h

theorem logToRing_keeps (bs : List Byte) (readBackFails : Bool) {s t : State} (h : Keeps s t) : Keeps s (logToRing bs readBackFails t) := by
  unfold logToRing
  repeat' first
    | with_reducible exact h | with_reducible apply Keeps.inc | with_reducible apply writeRecord_keeps
    | simp only [Keeps.update_iff]

theorem logToQueue_keeps (bs : List Byte) {s t : State} (h : Keeps s t) : Keeps s (logToQueue bs t) := by
  unfold logToQueue
  repeat' first
    | with_reducible exact h | with_reducible apply queuePush_keeps | simp only [Keeps.update_iff]

theorem execFaultLogWrite_keeps (readBackFails : Bool) (s : State) : KeepsO s (execFaultLogWrite readBackFails s) := by
  unfold execFaultLogWrite
  repeat' first
    | with_reducible apply KeepsO.next | with_reducible apply KeepsO.ite | with_reducible exact Keeps.refl _ | intro _
    | with_reducible apply Keeps.bump | with_reducible apply Keeps.onlyIf | with_reducible apply Keeps.ite
    | with_reducible apply logToRing_keeps | with_reducible apply logToQueue_keeps | split | simp only [Keeps.update_iff]

theorem execElectionRecord_keeps (readBackFails : Bool) (s : State) : KeepsO s (execElectionRecord readBackFails s) := by
  unfold execElectionRecord
  repeat' first
    | with_reducible apply KeepsO.next | with_reducible apply KeepsO.ite | with_reducible exact Keeps.refl _ | intro _
    | with_reducible apply Keeps.put | with_reducible apply Keeps.inc | with_reducible apply Keeps.onlyIf
    | with_reducible apply writeRecord_keeps

theorem execAgeingRecord_keeps (readBackFails : Bool) (s : State) : KeepsO s (execAgeingRecord readBackFails s) := by
  unfold execAgeingRecord
  repeat' first
    | with_reducible apply KeepsO.next | with_reducible apply KeepsO.ite | with_reducible exact Keeps.refl _ | intro _
    | with_reducible apply Keeps.put | with_reducible apply Keeps.inc | with_reducible apply Keeps.onlyIf
    | with_reducible apply notice_keeps | with_reducible apply writeRecord_keeps

/-! ### Crossing -/

theorem execDecisionPoint_keeps (f n : Nat) (phis : List (Nat × Int)) (s : State) : KeepsO s (execDecisionPoint f n phis s) := by
  unfold execDecisionPoint
  repeat' first
    | with_reducible apply KeepsO.next | with_reducible apply KeepsO.ite | with_reducible exact Keeps.refl _ | intro _
    | with_reducible apply Keeps.onlyIf | with_reducible apply atlasDecision_keeps | with_reducible apply audioDecision_keeps

theorem execMeridian_keeps (f n : Nat) (s : State) : KeepsO s (execMeridian f n s) := by
  unfold execMeridian
  repeat' first
    | with_reducible apply KeepsO.next | with_reducible apply KeepsO.ite | with_reducible exact Keeps.refl _ | intro _
    | with_reducible apply Keeps.onlyIf | with_reducible apply atlasMeridian_keeps

theorem laneFollows_keeps (l : Nat) {s t : State} (h : Keeps s t) : Keeps s (laneFollows l t) := by
  unfold laneFollows
  repeat' first
    | with_reducible exact h | with_reducible exact Keeps.refl _ | intro _ | with_reducible apply Keeps.forAll
    | with_reducible apply judgeLane_keeps | with_reducible apply laneChanged_keeps | with_reducible apply macLaneChanged_keeps

theorem execLosSet_keeps (l : Nat) (s : State) : KeepsO s (execLosSet l s) := by
  unfold execLosSet
  repeat' first
    | with_reducible apply KeepsO.next | with_reducible apply KeepsO.ite | with_reducible exact Keeps.refl _ | intro _
    | with_reducible apply Keeps.onlyIf | with_reducible apply losSet_keeps | with_reducible apply laneFollows_keeps

theorem lockTo_keeps (l fmt depth : Nat) {s t : State} (h : Keeps s t) : Keeps s (lockTo l fmt depth t) := by
  unfold lockTo
  repeat' first
    | with_reducible exact h | with_reducible exact Keeps.refl _ | intro _ | with_reducible apply Keeps.onlyIf
    | with_reducible apply lockChange_keeps | with_reducible apply detectFormat_keeps | with_reducible apply laneFollows_keeps

theorem execLockAcquired_keeps (l fmt depth : Nat) (freq : Int) (s : State) : KeepsO s (execLockAcquired l fmt depth freq s) := by
  unfold execLockAcquired
  repeat' first
    | with_reducible apply KeepsO.next | with_reducible apply KeepsO.ite | with_reducible exact Keeps.refl _ | intro _
    | with_reducible apply Keeps.onlyIf | with_reducible apply putFreq_keeps | with_reducible apply lockTo_keeps

theorem execQuadSkew_keeps (l : Nat) (beyond : Bool) (s : State) : KeepsO s (execQuadSkew l beyond s) := by
  unfold execQuadSkew
  repeat' first
    | with_reducible apply KeepsO.next | with_reducible apply KeepsO.ite | with_reducible exact Keeps.refl _ | intro _
    | with_reducible apply Keeps.putFlag | with_reducible apply Keeps.onlyIf | with_reducible apply laneCause_keeps
    | with_reducible apply laneFollows_keeps

theorem execLockLost_keeps (l : Nat) (s : State) : KeepsO s (execLockLost l s) := by
  unfold execLockLost
  repeat' first
    | with_reducible apply KeepsO.next | with_reducible apply KeepsO.ite | with_reducible exact Keeps.refl _ | intro _
    | with_reducible apply Keeps.onlyIf | with_reducible apply lockChange_keeps | with_reducible apply laneFollows_keeps

theorem execLanTestWrite_keeps (m : Master) (l v : Nat) (s : State) : KeepsO s (execLanTestWrite m l v s) := by
  unfold execLanTestWrite
  repeat' first
    | with_reducible apply KeepsO.next | with_reducible apply KeepsO.ite | with_reducible exact Keeps.refl _ | intro _
    | with_reducible apply Keeps.onlyIf | with_reducible apply writeGated_keeps | with_reducible apply laneTestWrite_keeps
    | with_reducible apply laneFollows_keeps

theorem execChkResult_keeps (u : Nat) (data : List Nat) (id : Nat) (gap : Bool) (s : State) : KeepsO s (execChkResult u data id gap s) := by
  unfold execChkResult
  repeat' first
    | with_reducible apply KeepsO.next | with_reducible apply KeepsO.ite | with_reducible exact Keeps.refl _ | intro _
    | with_reducible apply Keeps.after_id | with_reducible apply Keeps.put | with_reducible apply Keeps.onlyIf
    | with_reducible apply Keeps.ite | with_reducible apply chkCause_keeps | with_reducible apply chkJudge_keeps | split

theorem execDebugHalt_keeps (tg : DebugTarget) (s : State) : KeepsO s (execDebugHalt tg s) := by
  unfold execDebugHalt
  repeat' first
    | with_reducible apply KeepsO.next | with_reducible apply KeepsO.ite | with_reducible exact Keeps.refl _ | intro _
    | with_reducible apply Keeps.put | with_reducible apply Keeps.onlyIf | with_reducible apply Keeps.ite | split
    | simp only [Keeps.update_iff]

theorem dspDebugStep_keeps (n : Nat) (e : DspEcc) {s t : State} (h : Keeps s t) : Keeps s (dspDebugStep n e t) := by
  unfold dspDebugStep
  repeat' first
    | with_reducible exact h | with_reducible exact Keeps.refl _ | intro _ | with_reducible apply Keeps.put
    | with_reducible apply Keeps.onlyIf | with_reducible apply dspStep_keeps

theorem execDebugStep_keeps (tg : DebugTarget) (e : DspEcc) (s : State) : KeepsO s (execDebugStep tg e s) := by
  unfold execDebugStep
  repeat' first
    | with_reducible apply KeepsO.next | with_reducible apply KeepsO.ite | with_reducible exact Keeps.refl _ | intro _
    | with_reducible apply Keeps.onlyIf | with_reducible apply dspDebugStep_keeps | split | simp only [Keeps.update_iff]

/-! ### Check -/

theorem emptyStore_keeps (i : Nat) {s t : State} (h : Keeps s t) : Keeps s (emptyStore i t) := by
  unfold emptyStore
  repeat' first
    | with_reducible exact h | with_reducible exact Keeps.refl _ | intro _ | with_reducible apply Keeps.put
    | with_reducible apply keepSpans_keeps | simp only [Keeps.update_iff]

theorem inputEnabled_keeps (i : Nat) {s t : State} (h : Keeps s t) : Keeps s (inputEnabled i t) := by
  unfold inputEnabled
  repeat' first
    | with_reducible exact h | with_reducible apply Keeps.put | with_reducible apply judgeInput_keeps
    | with_reducible apply judgeFormat_keeps | with_reducible apply emptyStore_keeps

theorem destEnabled_keeps (d : Nat) {s t : State} (h : Keeps s t) : Keeps s (destEnabled d t) := by
  unfold destEnabled
  repeat' first
    | with_reducible exact h | with_reducible apply Keeps.put

theorem judgeFed_keeps (n : Nat) {s t : State} (h : Keeps s t) : Keeps s (judgeFed n t) := by
  unfold judgeFed
  repeat' first
    | with_reducible exact h | with_reducible exact Keeps.refl _ | intro _ | with_reducible apply Keeps.onlyIf
    | with_reducible apply judgeInput_keeps | with_reducible apply judgeFormat_keeps | with_reducible apply renewFed_keeps

theorem forgetStream_keeps (n : Nat) {s t : State} (h : Keeps s t) : Keeps s (forgetStream n t) := by
  unfold forgetStream
  repeat' first
    | with_reducible exact h | with_reducible exact Keeps.refl _ | intro _ | with_reducible apply Keeps.put
    | simp only [Keeps.update_iff]

theorem rxEnabled_keeps (n : Nat) {s t : State} (h : Keeps s t) : Keeps s (rxEnabled n t) := by
  unfold rxEnabled
  repeat' first
    | with_reducible exact h | with_reducible exact Keeps.refl _ | intro _ | with_reducible apply Keeps.put
    | with_reducible apply Keeps.onlyIf | with_reducible apply rxLost_keeps | with_reducible apply pairFormed_keeps
    | with_reducible apply judgeFed_keeps | with_reducible apply forgetStream_keeps

theorem rxDisabled_keeps (n : Nat) {s t : State} (h : Keeps s t) : Keeps s (rxDisabled n t) := by
  unfold rxDisabled
  repeat' first
    | with_reducible exact h | with_reducible exact Keeps.refl _ | intro _ | with_reducible apply Keeps.put
    | with_reducible apply Keeps.onlyIf | with_reducible apply pairBroken_keeps | with_reducible apply judgeFed_keeps
    | with_reducible apply forgetStream_keeps

theorem txEnabled_keeps (e : Nat) {s t : State} (h : Keeps s t) : Keeps s (txEnabled e t) := by
  unfold txEnabled
  repeat' first
    | with_reducible exact h | with_reducible apply Keeps.put | with_reducible apply Keeps.ite | split

theorem chkEnabled_keeps (u : Nat) {s t : State} (h : Keeps s t) : Keeps s (chkEnabled u t) := by
  unfold chkEnabled
  repeat' first
    | with_reducible exact h | with_reducible apply Keeps.put | with_reducible apply Keeps.putFlag

theorem unitStarted_keeps (u : UnitId) {s t : State} (h : Keeps s t) : Keeps s (unitStarted u t) := by
  unfold unitStarted
  repeat' first
    | with_reducible exact h | with_reducible exact Keeps.refl _ | intro _ | with_reducible apply Keeps.put
    | with_reducible apply Keeps.clearAll | with_reducible apply Keeps.onlyIf | with_reducible apply applyEq_keeps
    | with_reducible apply testOut_keeps | with_reducible apply fabricEnabled_keeps | with_reducible apply alignMeridians_keeps
    | with_reducible apply macLaneChanged_keeps | with_reducible apply latchGates_keeps | with_reducible apply dspStarted_keeps
    | with_reducible apply requestGroups_keeps | with_reducible apply portEnabled_keeps | with_reducible apply applyRole_keeps
    | with_reducible apply judgeLegend_keeps | with_reducible apply refEnabled_keeps | with_reducible apply armOverride_keeps
    | with_reducible apply laneFollows_keeps | with_reducible apply inputEnabled_keeps | with_reducible apply destEnabled_keeps
    | with_reducible apply rxEnabled_keeps | with_reducible apply txEnabled_keeps | with_reducible apply chkEnabled_keeps | split
    | simp only [Keeps.update_iff]

theorem codingDisabled_keeps {s t : State} (h : Keeps s t) : Keeps s (codingDisabled t) := by
  unfold codingDisabled
  repeat' first
    | with_reducible exact h | with_reducible exact Keeps.refl _ | intro _ | with_reducible apply Keeps.forAll
    | with_reducible apply askPass_keeps | with_reducible apply reAdmit_keeps

theorem unitStopped_keeps (u : UnitId) {s t : State} (h : Keeps s t) : Keeps s (unitStopped u t) := by
  unfold unitStopped
  repeat' first
    | with_reducible exact h | with_reducible exact Keeps.refl _ | intro _ | with_reducible apply Keeps.put
    | with_reducible apply queueDisabled_keeps | with_reducible apply laneDisabled_keeps
    | with_reducible apply fabricDisabled_keeps | with_reducible apply refuseAll_keeps
    | with_reducible apply atlasFabricDisabled_keeps | with_reducible apply macLaneChanged_keeps
    | with_reducible apply gatesDisabled_keeps | with_reducible apply dspCleared_keeps | with_reducible apply portDisabled_keeps
    | with_reducible apply matrixDisabled_keeps | with_reducible apply twinDisabled_keeps
    | with_reducible apply headDisabled_keeps | with_reducible apply refDisabled_keeps | with_reducible apply laneFollows_keeps
    | with_reducible apply emptyStore_keeps | with_reducible apply rxDisabled_keeps | with_reducible apply codingDisabled_keeps
    | split | simp only [Keeps.update_iff]

theorem checkRefused_keeps (m : Master) (code : Nat) (u : UnitId) {s t : State} (h : Keeps s t) : Keeps s (checkRefused m code u t) := by
  unfold checkRefused
  repeat' first
    | with_reducible exact h | with_reducible apply Keeps.put | with_reducible apply Keeps.bump
    | with_reducible apply refuse_keeps

theorem checkStarts_keeps (m : Master) (u : UnitId) {s t : State} (h : Keeps s t) : Keeps s (checkStarts m u t) := by
  unfold checkStarts
  repeat' first
    | with_reducible exact h | with_reducible apply Keeps.put

theorem stopUnit_keeps (u : UnitId) {s t : State} (h : Keeps s t) : Keeps s (stopUnit u t) := by
  unfold stopUnit
  repeat' first
    | with_reducible exact h | with_reducible exact Keeps.refl _ | intro _ | with_reducible apply Keeps.put
    | with_reducible apply Keeps.ite | with_reducible apply refuseCommit_keeps | with_reducible apply disableDest_keeps
    | with_reducible apply unitStopped_keeps | split | simp only [Keeps.update_iff]

theorem controlWrite_keeps (m : Master) (u : UnitId) (v hw : Nat) {s t : State} (h : Keeps s t) : Keeps s (controlWrite m u v hw t) := by
  unfold controlWrite
  repeat' first
    | with_reducible exact h | with_reducible apply Keeps.ite | with_reducible apply refuse_keeps
    | with_reducible apply writeFields_keeps | with_reducible apply checkRefused_keeps | with_reducible apply checkStarts_keeps
    | with_reducible apply stopUnit_keeps | split | simp only [Keeps.update_iff]

theorem unitWrite_keeps (m : Master) (u : UnitId) (v hw : Nat) {s t : State} (h : Keeps s t) : Keeps s (unitWrite m u v hw t) := by
  unfold unitWrite
  repeat' first
    | with_reducible exact h | with_reducible exact Keeps.refl _ | intro _ | with_reducible apply Keeps.onlyIf
    | with_reducible apply refuse_keeps | with_reducible apply writeGated_keeps | with_reducible apply controlWrite_keeps

theorem execEnableSet_keeps (m : Master) (u : UnitId) (v : Nat) (s : State) : KeepsO s (execEnableSet m u v s) := by
  unfold execEnableSet
  repeat' first
    | with_reducible apply KeepsO.next | with_reducible apply KeepsO.ite | with_reducible exact Keeps.refl _ | intro _
    | with_reducible apply unitWrite_keeps

theorem execCheckAbort_keeps (m : Master) (u : UnitId) (v : Nat) (s : State) : KeepsO s (execCheckAbort m u v s) := by
  unfold execCheckAbort
  repeat' first
    | with_reducible apply KeepsO.next | with_reducible apply KeepsO.ite | with_reducible exact Keeps.refl _ | intro _
    | with_reducible apply unitWrite_keeps

theorem execEnableClear_keeps (m : Master) (u : UnitId) (v : Nat) (s : State) : KeepsO s (execEnableClear m u v s) := by
  unfold execEnableClear
  repeat' first
    | with_reducible apply KeepsO.next | with_reducible apply KeepsO.ite | with_reducible exact Keeps.refl _ | intro _
    | with_reducible apply unitWrite_keeps

theorem checkEnds_keeps (u : UnitId) (c : CheckIn) {s t : State} (h : Keeps s t) : Keeps s (checkEnds u c t) := by
  unfold checkEnds
  repeat' first
    | with_reducible exact h | with_reducible exact Keeps.refl _ | intro _ | with_reducible apply Keeps.put
    | with_reducible apply Keeps.onlyIf | with_reducible apply Keeps.ite | with_reducible apply assertEv_keeps
    | with_reducible apply unitStarted_keeps | with_reducible apply checkRefused_keeps | split

theorem execCheckComplete_keeps (u : UnitId) (c : CheckIn) (s : State) : KeepsO s (execCheckComplete u c s) := by
  unfold execCheckComplete
  repeat' first
    | with_reducible apply KeepsO.next | with_reducible apply KeepsO.ite | with_reducible exact Keeps.refl _ | intro _
    | with_reducible apply Keeps.onlyIf | with_reducible apply checkEnds_keeps

/-! ### Access -/

theorem after_keeps {o : Host.Outcome State Fault Refusal} {s t : State} (ho : KeepsO t o) (h : Keeps s t) : Keeps s (after o t) := by
  unfold after
  split
  · exact h.trans (ho.keep _ rfl)
  · exact h

theorem secCommand_keeps (m : Master) (v : Nat) {s t : State} (h : Keeps s t) : Keeps s (secCommand m v t) := by
  unfold secCommand
  repeat' first
    | with_reducible exact h | with_reducible apply Keeps.ite | with_reducible apply secRefuse_keeps
    | with_reducible apply execUnlock_keeps | with_reducible apply execRelock_keeps | with_reducible apply execProvision_keeps
    | with_reducible apply execDeploy_keeps | with_reducible apply execSecReturn_keeps
    | with_reducible apply execRevokeOwner_keeps | with_reducible apply execRevokeSafety_keeps
    | with_reducible apply execRaiseFloor_keeps | with_reducible apply execAckSafety_keeps | with_reducible apply after_keeps
    | split | simp only [Keeps.update_iff]

theorem nvmControl_keeps (m : Master) (v : Nat) {s t : State} (h : Keeps s t) : Keeps s (nvmControl m v t) := by
  unfold nvmControl
  repeat' first
    | with_reducible exact h | with_reducible apply execNvmWritePage_keeps | with_reducible apply execNvmReadPage_keeps
    | with_reducible apply execNvmOverwriteHeader_keeps | with_reducible apply after_keeps | split | simp only [Keeps.update_iff]

theorem twoCommands_keeps (m : Master) (off v : Nat) (go cancel : State → State) (hgo : ∀  u, Keeps u (go  u)) (hcancel : ∀  u, Keeps u (cancel  u)) {s t : State} (h : Keeps s t) : Keeps s (twoCommands m off v go cancel t) := by
  unfold twoCommands
  repeat' first
    | with_reducible exact h | with_reducible exact Keeps.refl _ | intro _ | with_reducible apply Keeps.onlyIf
    | with_reducible apply Keeps.ite | with_reducible apply refuse_keeps | with_reducible refine Keeps.trans ?_ (hgo _)
    | with_reducible refine Keeps.trans ?_ (hcancel _) | split

theorem flipCommand_keeps (m : Master) (n l v : Nat) {s t : State} (h : Keeps s t) : Keeps s (flipCommand m n l v t) := by
  unfold flipCommand
  repeat' first
    | with_reducible exact h | with_reducible exact Keeps.refl _ | intro _ | with_reducible apply execLayerArm_keeps
    | with_reducible apply execLayerCancel_keeps | with_reducible apply after_keeps | with_reducible apply twoCommands_keeps

theorem recovCommand_keeps (m : Master) (v : Nat) {s t : State} (h : Keeps s t) : Keeps s (recovCommand m v t) := by
  unfold recovCommand
  repeat' first
    | with_reducible exact h | with_reducible apply Keeps.ite | with_reducible apply execRecoveryTake_keeps
    | with_reducible apply execRecoveryDone_keeps | with_reducible apply after_keeps | split

theorem twinRegister_keeps (m : Master) (v : Nat) {s t : State} (h : Keeps s t) : Keeps s (twinRegister m v t) := by
  unfold twinRegister
  repeat' first
    | with_reducible exact h | with_reducible apply Keeps.ite | with_reducible apply execClaimTake_keeps
    | with_reducible apply execClaimRelease_keeps | with_reducible apply after_keeps | split

theorem sourceWord_keeps (m : Master) (n v : Nat) {s t : State} (h : Keeps s t) : Keeps s (sourceWord m n v t) := by
  unfold sourceWord
  repeat' first
    | with_reducible exact h | with_reducible apply Keeps.ite | with_reducible apply writeWord_keeps
    | with_reducible apply execForce_keeps | with_reducible apply after_keeps | split

theorem sourceStatus_keeps (m : Master) (n v hw : Nat) {s t : State} (h : Keeps s t) : Keeps s (sourceStatus m n v hw t) := by
  unfold sourceStatus
  repeat' first
    | with_reducible exact h | with_reducible apply Keeps.ite | with_reducible apply writeWordHw_keeps
    | with_reducible apply stormWord_keeps | split

theorem clearPending_keeps (i v hw : Nat) {s t : State} (h : Keeps s t) : Keeps s (clearPending i v hw t) := by
  unfold clearPending
  repeat' first
    | with_reducible exact h | with_reducible exact Keeps.refl _ | intro _ | with_reducible apply Keeps.put
    | with_reducible apply Keeps.onlyIf | with_reducible apply Keeps.forAll

theorem clearLatch_keeps (b v hw : Nat) {s t : State} (h : Keeps s t) : Keeps s (clearLatch b v hw t) := by
  unfold clearLatch
  repeat' first
    | with_reducible exact h | with_reducible apply Keeps.put | with_reducible apply Keeps.ite | split

theorem vectorControl_keeps (m : Master) (n v : Nat) {s t : State} (h : Keeps s t) : Keeps s (vectorControl m n v t) := by
  unfold vectorControl
  repeat' first
    | with_reducible exact h | with_reducible apply Keeps.put | with_reducible apply Keeps.ite
    | with_reducible apply execMsixUnmask_keeps | with_reducible apply after_keeps | split

theorem lutWord_keeps (base per : Nat) (m : Master) (i v : Nat) {s t : State} (h : Keeps s t) : Keeps s (lutWord base per m i v t) := by
  unfold lutWord
  repeat' first
    | with_reducible exact h | with_reducible apply execLutWrite_keeps | with_reducible apply after_keeps

theorem shadowWord_keeps (m : Master) (n : Nat) (w : Shadow) (v : Nat) {s t : State} (h : Keeps s t) : Keeps s (shadowWord m n w v t) := by
  unfold shadowWord
  repeat' first
    | with_reducible exact h | with_reducible apply execShadowWrite_keeps | with_reducible apply after_keeps

theorem changeGates_keeps (m : Master) (n : Nat) {s t : State} (h : Keeps s t) : Keeps s (changeGates m n t) := by
  unfold changeGates
  repeat' first
    | with_reducible exact h | with_reducible exact Keeps.refl _ | intro _ | with_reducible apply Keeps.onlyIf
    | with_reducible apply Keeps.ite | with_reducible apply refuse_keeps | with_reducible apply latchGates_keeps | split

theorem flushQueue_keeps (m : Master) (q kind : Nat) {s t : State} (h : Keeps s t) : Keeps s (flushQueue m q kind t) := by
  unfold flushQueue
  repeat' first
    | with_reducible exact h | with_reducible apply Keeps.put | with_reducible apply Keeps.ite
    | with_reducible apply refuse_keeps | with_reducible apply hardFlush_keeps | split

theorem controlAction_keeps (m : Master) (u : UnitId) (v : Nat) {s t : State} (h : Keeps s t) : Keeps s (controlAction m u v t) := by
  unfold controlAction
  repeat' first
    | with_reducible exact h | with_reducible exact Keeps.refl _ | intro _ | with_reducible apply Keeps.put
    | with_reducible apply Keeps.onlyIf | with_reducible apply alignMeridians_keeps | with_reducible apply refuseAll_keeps
    | with_reducible apply runSelection_keeps | with_reducible apply changeGates_keeps | with_reducible apply flushQueue_keeps
    | split | simp only [Keeps.update_iff]

theorem controlRegister_keeps (m : Master) (off v hw : Nat) (r : RegRef) (u : UnitId) {s t : State} (h : Keeps s t) : Keeps s (controlRegister m off v hw r u t) := by
  unfold controlRegister
  repeat' first
    | with_reducible exact h | with_reducible apply Keeps.ite | with_reducible apply refuse_keeps
    | with_reducible apply controlWrite_keeps | with_reducible apply controlAction_keeps | split

theorem controlRow_keeps (m : Master) (u : UnitId) (off v : Nat) {s t : State} (h : Keeps s t) : Keeps s (controlRow m u off v t) := by
  unfold controlRow
  repeat' first
    | with_reducible exact h | with_reducible exact Keeps.refl _ | intro _ | with_reducible apply writeGated_keeps
    | with_reducible apply controlRegister_keeps | split | simp only [Keeps.update_iff]

theorem execSoftFlush_keeps (m : Master) (q v : Nat) (s : State) : KeepsO s (execSoftFlush m q v s) := by
  unfold execSoftFlush
  repeat' first
    | with_reducible apply KeepsO.next | with_reducible apply KeepsO.ite | with_reducible exact Keeps.refl _ | intro _
    | with_reducible apply Keeps.onlyIf | with_reducible apply controlRow_keeps

theorem execHardFlush_keeps (m : Master) (q v : Nat) (s : State) : KeepsO s (execHardFlush m q v s) := by
  unfold execHardFlush
  repeat' first
    | with_reducible apply KeepsO.next | with_reducible apply KeepsO.ite | with_reducible exact Keeps.refl _ | intro _
    | with_reducible apply Keeps.onlyIf | with_reducible apply controlRow_keeps

theorem execForceSelect_keeps (m : Master) (v : Nat) (s : State) : KeepsO s (execForceSelect m v s) := by
  unfold execForceSelect
  repeat' first
    | with_reducible apply KeepsO.next | with_reducible apply KeepsO.ite | with_reducible exact Keeps.refl _ | intro _
    | with_reducible apply controlRow_keeps

theorem execRealign_keeps (m : Master) (v : Nat) (s : State) : KeepsO s (execRealign m v s) := by
  unfold execRealign
  repeat' first
    | with_reducible apply KeepsO.next | with_reducible apply KeepsO.ite | with_reducible exact Keeps.refl _ | intro _
    | with_reducible apply controlRow_keeps

theorem execGclChange_keeps (w : Master) (m v : Nat) (s : State) : KeepsO s (execGclChange w m v s) := by
  unfold execGclChange
  repeat' first
    | with_reducible apply KeepsO.next | with_reducible apply KeepsO.ite | with_reducible exact Keeps.refl _ | intro _
    | with_reducible apply Keeps.onlyIf | with_reducible apply controlRow_keeps

theorem dspWindowWrite_keeps (m : Master) (n o v : Nat) {s t r : State} (h : Keeps s t) (hr : dspWindowWrite m n o v t = some r) :
    Keeps s r := by
  unfold dspWindowWrite at hr
  split at hr
  · cases hr
    exact Keeps.ite (refuse_keeps _ _ _ h) (Keeps.memPut _ _ _ h)
  · cases hr
    exact Keeps.memPut _ _ _ h
  · cases hr
    exact h
  · rw [Option.map_eq_some_iff] at hr
    obtain ⟨_, _, rfl⟩ := hr
    exact Keeps.ite (putCore_keeps _ _ h) (refuse_keeps _ _ _ h)
  · cases hr

theorem earlyTriggers_keeps : ∀ p ∈ earlyTriggers, ∀ m i v hw u, Keeps u (p.2 m i v hw u) := by
  unfold earlyTriggers
  simp only [List.forall_mem_cons, List.not_mem_nil, false_implies, implies_true, and_true]
  simp only [gazWord, overlayWord, tileWord]
  repeat' apply And.intro
  all_goals
    repeat' first
      | with_reducible exact Keeps.refl _ | intro _ | with_reducible apply Keeps.put | with_reducible apply Keeps.onlyIf
      | with_reducible apply Keeps.ite | with_reducible apply genCtrlWrite_keeps
      | with_reducible apply execGazPublish_keeps | with_reducible apply execPortLimitWrite_keeps
      | with_reducible apply execAtlCommit_keeps | with_reducible apply execAtlSalvo_keeps
      | with_reducible apply execAtlCancel_keeps | with_reducible apply execSalvoCancel_keeps
      | with_reducible apply draftWrite_keeps | with_reducible apply execLanTestWrite_keeps
      | with_reducible apply after_keeps | with_reducible apply nvmControl_keeps | with_reducible apply vectorControl_keeps
      | with_reducible apply execGazStageWrite_keeps | with_reducible apply shadowWord_keeps | split

theorem timeTriggers_keeps : ∀ p ∈ timeTriggers, ∀ m i v hw u, Keeps u (p.2 m i v hw u) := by
  unfold timeTriggers
  simp only [List.forall_mem_cons, List.not_mem_nil, false_implies, implies_true, and_true]
  repeat' apply And.intro
  all_goals
    repeat' first
      | with_reducible exact Keeps.refl _ | intro _ | with_reducible apply Keeps.put | with_reducible apply Keeps.onlyIf
      | with_reducible apply Keeps.ite | with_reducible apply execPktQProd_keeps | with_reducible apply execPktQCons_keeps
      | with_reducible apply stageInc_keeps | with_reducible apply execIncCommit_keeps
      | with_reducible apply execSnapshot_keeps | with_reducible apply execDomainWrite_keeps
      | with_reducible apply tbCmdRow_keeps | with_reducible apply execCandidateWrite_keeps
      | with_reducible apply execThresholdWrite_keeps | with_reducible apply execRefSwWrite_keeps
      | with_reducible apply after_keeps | split

theorem mediaTriggers_keeps : ∀ p ∈ mediaTriggers, ∀ m i v hw u, Keeps u (p.2 m i v hw u) := by
  unfold mediaTriggers
  simp only [List.forall_mem_cons, List.not_mem_nil, false_implies, implies_true, and_true]
  simp only [gazWord, overlayWord, tileWord]
  repeat' apply And.intro
  all_goals
    repeat' first
      | with_reducible exact Keeps.refl _ | intro _ | with_reducible apply Keeps.put | with_reducible apply Keeps.onlyIf
      | with_reducible apply Keeps.ite | with_reducible apply execDspDoorbell_keeps
      | with_reducible apply execAudDraftWrite_keeps | with_reducible apply execAudioCommit_keeps
      | with_reducible apply execAudioCancel_keeps | with_reducible apply gainWord_keeps
      | with_reducible apply execMaskWrite_keeps | with_reducible apply execHeadCommit_keeps
      | with_reducible apply execHeadCancel_keeps | with_reducible apply execFenceSignal_keeps
      | with_reducible apply execLutselWrite_keeps | with_reducible apply after_keeps
      | with_reducible apply twoCommands_keeps | with_reducible apply flipCommand_keeps
      | with_reducible apply lutWord_keeps | with_reducible apply shadowWord_keeps | split

theorem lateTriggers_keeps : ∀ p ∈ lateTriggers, ∀ m i v hw u, Keeps u (p.2 m i v hw u) := by
  unfold lateTriggers
  simp only [List.forall_mem_cons, List.not_mem_nil, false_implies, implies_true, and_true]
  repeat' apply And.intro
  all_goals
    repeat' first
      | with_reducible exact Keeps.refl _ | intro _ | with_reducible apply Keeps.put | with_reducible apply Keeps.onlyIf
      | with_reducible apply Keeps.ite | with_reducible apply powerRequest_keeps
      | with_reducible apply execGpoFaultClear_keeps | with_reducible apply after_keeps
      | with_reducible apply secCommand_keeps | with_reducible apply recovCommand_keeps
      | with_reducible apply twinRegister_keeps | with_reducible apply sourceWord_keeps
      | with_reducible apply sourceStatus_keeps | with_reducible apply clearPending_keeps
      | with_reducible apply clearLatch_keeps | with_reducible apply shadowWord_keeps | split

theorem triggers_keeps : ∀ p ∈ triggers, ∀ m i v hw u, Keeps u (p.2 m i v hw u) := by
  intro p hp
  unfold triggers at hp
  simp only [List.mem_append] at hp
  obtain ((hp | hp) | hp) | hp := hp
  · exact earlyTriggers_keeps p hp
  · exact timeTriggers_keeps p hp
  · exact mediaTriggers_keeps p hp
  · exact lateTriggers_keeps p hp

theorem registerEffect_keeps (m : Master) (off v hw : Nat) (r : RegRef) {s t : State} (h : Keeps s t) :
    Keeps s (registerEffect m off v hw r t) := by
  unfold registerEffect
  split
  · exact h
  · split
    · exact controlRegister_keeps _ _ _ _ _ _ h
    · split
      · rename_i hf
        exact h.trans (triggers_keeps _ (List.mem_of_find?_eq_some hf) _ _ _ _ _)
      · exact plainWrite_keeps _ _ _ _ _ h

theorem registerSpaceWrite_keeps (m : Master) (off v hw : Nat) {s t : State} (h : Keeps s t) :
    Keeps s (registerSpaceWrite m off v hw t) := by
  unfold registerSpaceWrite
  split
  · exact registerEffect_keeps _ _ _ _ _ (Keeps.respond _ _ h)
  · split
    · rename_i hr
      split at hr
      · exact dspWindowWrite_keeps _ _ _ _ (Keeps.respond _ _ h) hr
      · cases hr
    · exact busError_keeps _ _ _ _ h

theorem absentEnable_keeps (m : Master) (off v : Nat) {s t : State} (h : Keeps s t) : Keeps s (absentEnable m off v t) := by
  unfold absentEnable
  repeat' first
    | with_reducible exact h | with_reducible exact Keeps.refl _ | intro _ | with_reducible apply Keeps.onlyIf
    | with_reducible apply refuse_keeps

theorem registerWrite_keeps (m : Master) (off size v hw : Nat) {s t : State} (h : Keeps s t) : Keeps s (registerWrite m off size v hw t) := by
  unfold registerWrite
  repeat' first
    | with_reducible exact h | with_reducible exact Keeps.refl _ | intro _ | with_reducible apply Keeps.onlyIf
    | with_reducible apply Keeps.ite | with_reducible apply busError_keeps | with_reducible apply denyAccess_keeps
    | with_reducible apply registerSpaceWrite_keeps | with_reducible apply absentEnable_keeps | split
    | simp only [Keeps.update_iff]

theorem mailboxBytes_keeps (m : Master) (o size v : Nat) {s t : State} (h : Keeps s t) : Keeps s (mailboxBytes m o size v t) := by
  unfold mailboxBytes
  repeat' first
    | with_reducible exact h | with_reducible exact Keeps.refl _ | intro _ | with_reducible apply Keeps.memPutBytes
    | with_reducible apply Keeps.onlyIf | with_reducible apply mailboxWrite_keeps

theorem burstWrite_keeps (m : Master) (n off v hw : Nat) {s t : State} (h : Keeps s t) : Keeps s (burstWrite m n off v hw t) := by
  induction n generalizing off v hw t with
  | zero => exact h
  | succ k ih => exact ih _ _ _ (registerWrite_keeps _ _ _ _ _ h)

theorem writeAt_keeps (m : Master) (addr size v hw : Nat) {s t : State} (h : Keeps s t) : Keeps s (writeAt m addr size v hw t) := by
  unfold writeAt
  repeat' first
    | with_reducible exact h | with_reducible apply Keeps.respond | with_reducible apply Keeps.ite
    | with_reducible apply denyAccess_keeps | with_reducible apply memoryWrite_keeps | with_reducible apply registerWrite_keeps
    | with_reducible apply mailboxBytes_keeps | with_reducible apply burstWrite_keeps | split | simp only [Keeps.update_iff]

theorem execRegisterWrite_keeps (m : Master) (addr size v hw : Nat) (s : State) : KeepsO s (execRegisterWrite m addr size v hw s) := by
  unfold execRegisterWrite
  repeat' first
    | with_reducible apply KeepsO.next | with_reducible apply KeepsO.ite | with_reducible exact Keeps.refl _ | intro _
    | with_reducible apply Keeps.ite | with_reducible apply writeAt_keeps | split

theorem clearRead_keeps (r : RegRef) (hw : Nat) {s t : State} (h : Keeps s t) : Keeps s (clearRead r hw t) := by
  unfold clearRead
  repeat' first
    | with_reducible exact h | with_reducible exact Keeps.refl _ | intro _ | with_reducible apply Keeps.put
    | with_reducible apply Keeps.onlyIf | with_reducible apply Keeps.forAll

theorem readTriggers_keeps : ∀ p ∈ readTriggers, ∀ m i u, Keeps u (p.2 m i u) := by
  unfold readTriggers
  simp only [List.forall_mem_cons, List.not_mem_nil, false_implies, implies_true, and_true]
  repeat' apply And.intro
  all_goals
    repeat' first
      | with_reducible exact Keeps.refl _ | intro _ | with_reducible apply Keeps.put | with_reducible apply Keeps.onlyIf
      | with_reducible apply Keeps.ite | with_reducible apply execNowLatch_keeps
      | with_reducible apply execCaptureHeadRead_keeps | with_reducible apply execGpiFifoRead_keeps
      | with_reducible apply after_keeps | split

theorem registerRead_keeps (m : Master) (hw : Nat) (r : RegRef) {s t : State} (h : Keeps s t) :
    Keeps s (registerRead m hw r t) := by
  unfold registerRead
  split
  · exact after_keeps (execNonceRead_keeps _ _) h
  · split
    · rename_i hf
      exact h.trans (readTriggers_keeps _ (List.mem_of_find?_eq_some hf) _ _ _)
    · exact Keeps.onlyIf _ (fun u => clearRead_keeps _ _ (Keeps.refl u)) (Keeps.respond _ _ h)

theorem registerSpaceRead_keeps (m : Master) (off hw : Nat) {s t : State} (h : Keeps s t) : Keeps s (registerSpaceRead m off hw t) := by
  unfold registerSpaceRead
  repeat' first
    | with_reducible exact h | with_reducible apply Keeps.respond | with_reducible apply Keeps.ite
    | with_reducible apply busError_keeps | with_reducible apply registerRead_keeps | split | simp only [Keeps.update_iff]

theorem readRegister_keeps (m : Master) (off size hw : Nat) {s t : State} (h : Keeps s t) : Keeps s (readRegister m off size hw t) := by
  unfold readRegister
  repeat' first
    | with_reducible exact h | with_reducible apply Keeps.ite | with_reducible apply busError_keeps
    | with_reducible apply denyAccess_keeps | with_reducible apply registerSpaceRead_keeps | split | simp only [Keeps.update_iff]

theorem joined_keeps (u : State) (n : Nat) {s t : State} (h : Keeps s t) : Keeps s (u.joined t n) := Keeps.respond _ _ h

theorem burstRead_keeps (m : Master) (n off hw : Nat) {s t : State} (h : Keeps s t) : Keeps s (burstRead m n off hw t) := by
  induction n generalizing off hw t with
  | zero => exact Keeps.respond _ _ h
  | succ k ih => exact joined_keeps _ _ (ih _ _ (readRegister_keeps _ _ _ _ h))

theorem readAt_keeps (m : Master) (addr size hw : Nat) (ecc : EccOutcome) {s t : State} (h : Keeps s t) : Keeps s (readAt m addr size hw ecc t) := by
  unfold readAt
  repeat' first
    | with_reducible exact h | with_reducible apply Keeps.ite | with_reducible apply denyAccess_keeps
    | with_reducible apply eccRead_keeps | with_reducible apply readRegister_keeps | with_reducible apply burstRead_keeps | split
    | simp only [Keeps.update_iff]

theorem execReadToClear_keeps (m : Master) (addr size hw : Nat) (ecc : EccOutcome) (s : State) :
    KeepsO s (execReadToClear m addr size hw ecc s) := by
  unfold execReadToClear
  apply KeepsO.next
  apply Keeps.ite (Keeps.refl s)
  apply Keeps.ite (readAt_keeps _ _ _ _ _ (Keeps.refl s))
  exact joined_keeps _ _ (readAt_keeps _ _ _ _ _ (readAt_keeps _ _ _ _ _ (Keeps.refl s)))

end Sys2Proof.Machine
end

