-- ==== Sys2Proof/Laws/Exec.lean ====
section
/-!
SUPPORT. The dispatch, command by command, and what every command and every step keeps.
-/
namespace Sys2Proof.Machine

theorem exec_registerWrite (m : Master) (addr size v hw : Nat) (s : State) : exec (.registerWrite m addr size v hw) s = execRegisterWrite m addr size v hw s := rfl
theorem exec_readToClear (m : Master) (addr size hw : Nat) (ecc : EccOutcome) (s : State) : exec (.readToClear m addr size hw ecc) s = execReadToClear m addr size hw ecc s := rfl
theorem exec_enableSet (m : Master) (u : UnitId) (v : Nat) (s : State) : exec (.enableSet m u v) s = execEnableSet m u v s := rfl
theorem exec_checkComplete (u : UnitId) (c : CheckIn) (s : State) : exec (.checkComplete u c) s = execCheckComplete u c s := rfl
theorem exec_checkAbort (m : Master) (u : UnitId) (v : Nat) (s : State) : exec (.checkAbort m u v) s = execCheckAbort m u v s := rfl
theorem exec_enableClear (m : Master) (u : UnitId) (v : Nat) (s : State) : exec (.enableClear m u v) s = execEnableClear m u v s := rfl
theorem exec_powerOnReset (plane twin : Bool) (s : State) : exec (.powerOnReset plane twin) s = execPowerOnReset plane twin s := rfl
theorem exec_externalReset (plane twin : Bool) (s : State) : exec (.externalReset plane twin) s = execExternalReset plane twin s := rfl
theorem exec_deviceReset (m : Master) (v : Nat) (s : State) : exec (.deviceReset m v) s = execDeviceReset m v s := rfl
theorem exec_remap (m : Master) (s : State) : exec (.remap m) s = execRemap m s := rfl
theorem exec_stRun (m : Master) (mask : Nat) (s : State) : exec (.stRun m mask) s = execStRun m mask s := rfl
theorem exec_memorySetup (a : SfdpAnswer) (s : State) : exec (.memorySetup a) s = execMemorySetup a s := rfl
theorem exec_slotHeadersRead (s : State) : exec .slotHeadersRead s = execSlotHeadersRead s := rfl
theorem exec_sectionStreamed (readError : Bool) (s : State) : exec (.sectionStreamed readError) s = execSectionStreamed readError s := rfl
theorem exec_hbmReady (fail0 fail1 : Bool) (s : State) : exec (.hbmReady fail0 fail1) s = execHbmReady fail0 fail1 s := rfl
theorem exec_signatureVerify (s : State) : exec .signatureVerify s = execSignatureVerify s := rfl
theorem exec_handOver (s : State) : exec .handOver s = execHandOver s := rfl
theorem exec_nvmWritePage (m : Master) (s : State) : exec (.nvmWritePage m) s = execNvmWritePage m s := rfl
theorem exec_nvmReadPage (m : Master) (s : State) : exec (.nvmReadPage m) s = execNvmReadPage m s := rfl
theorem exec_nvmOverwriteHeader (m : Master) (s : State) : exec (.nvmOverwriteHeader m) s = execNvmOverwriteHeader m s := rfl
theorem exec_nvmCommandComplete (s : State) : exec .nvmCommandComplete s = execNvmCommandComplete s := rfl
theorem exec_faultLogWrite (readBackFails : Bool) (s : State) : exec (.faultLogWrite readBackFails) s = execFaultLogWrite readBackFails s := rfl
theorem exec_electionRecord (readBackFails : Bool) (s : State) : exec (.electionRecord readBackFails) s = execElectionRecord readBackFails s := rfl
theorem exec_ageingRecord (readBackFails : Bool) (s : State) : exec (.ageingRecord readBackFails) s = execAgeingRecord readBackFails s := rfl
theorem exec_enumToken (framed : Bool) (tok : Nat) (s : State) : exec (.enumToken framed tok) s = execEnumToken framed tok s := rfl
theorem exec_enumTokenSend (s : State) : exec .enumTokenSend s = execEnumTokenSend s := rfl
theorem exec_enumInLow (s : State) : exec .enumInLow s = execEnumInLow s := rfl
theorem exec_enumTokenLoss (s : State) : exec .enumTokenLoss s = execEnumTokenLoss s := rfl
theorem exec_enumInHigh (s : State) : exec .enumInHigh s = execEnumInHigh s := rfl
theorem exec_enumTimeout (s : State) : exec .enumTimeout s = execEnumTimeout s := rfl
theorem exec_mgmtAnnounce (s : State) : exec .mgmtAnnounce s = execMgmtAnnounce s := rfl
theorem exec_announceReceived (dst : Nat) (place : Place) (twin : Bool) (s : State) : exec (.announceReceived dst place twin) s = execAnnounceReceived dst place twin s := rfl
theorem exec_gazStageWrite (m : Master) (n w v : Nat) (s : State) : exec (.gazStageWrite m n w v) s = execGazStageWrite m n w v s := rfl
theorem exec_gazPublish (m : Master) (n v : Nat) (s : State) : exec (.gazPublish m n v) s = execGazPublish m n v s := rfl
theorem exec_gazEntrySend (n : Nat) (s : State) : exec (.gazEntrySend n) s = execGazEntrySend n s := rfl
theorem exec_gazEntry (e : GazEntry) (refresh : Bool) (s : State) : exec (.gazEntry e refresh) s = execGazEntry e refresh s := rfl
theorem exec_gazDigestSend (s : State) : exec .gazDigestSend s = execGazDigestSend s := rfl
theorem exec_gazDigest (p digest : Nat) (s : State) : exec (.gazDigest p digest) s = execGazDigest p digest s := rfl
theorem exec_gazFetch (p : Nat) (s : State) : exec (.gazFetch p) s = execGazFetch p s := rfl
theorem exec_gazFetchRetry (p : Nat) (s : State) : exec (.gazFetchRetry p) s = execGazFetchRetry p s := rfl
theorem exec_decisionPoint (f n : Nat) (phis : List (Nat × Int)) (s : State) : exec (.decisionPoint f n phis) s = execDecisionPoint f n phis s := rfl
theorem exec_meridian (f n : Nat) (s : State) : exec (.meridian f n) s = execMeridian f n s := rfl
theorem exec_realign (m : Master) (v : Nat) (s : State) : exec (.realign m v) s = execRealign m v s := rfl
theorem exec_inputSpanComplete (i : Nat) (v : VideoSpan) (s : State) : exec (.inputSpanComplete i v) s = execInputSpanComplete i v s := rfl
theorem exec_atlCommit (m : Master) (v : Nat) (s : State) : exec (.atlCommit m v) s = execAtlCommit m v s := rfl
theorem exec_atlSalvo (m : Master) (v : Nat) (s : State) : exec (.atlSalvo m v) s = execAtlSalvo m v s := rfl
theorem exec_atlCancel (m : Master) (v : Nat) (s : State) : exec (.atlCancel m v) s = execAtlCancel m v s := rfl
theorem exec_salvoCancel (m : Master) (s : State) : exec (.salvoCancel m) s = execSalvoCancel m s := rfl
theorem exec_atlDraftWrite (m : Master) (d : Nat) (armed : Bool) (low : Nat) (s : State) : exec (.atlDraftWrite m d armed low) s = execAtlDraftWrite m d armed low s := rfl
theorem exec_landingSpanComplete (n span : Nat) (s : State) : exec (.landingSpanComplete n span) s = execLandingSpanComplete n span s := rfl
theorem exec_lineDeparture (x : Departure) (s : State) : exec (.lineDeparture x) s = execLineDeparture x s := rfl
theorem exec_heartbeatSend (s : State) : exec .heartbeatSend s = execHeartbeatSend s := rfl
theorem exec_heartbeat (p pos plane twin cls : Nat) (s : State) : exec (.heartbeat p pos plane twin cls) s = execHeartbeat p pos plane twin cls s := rfl
theorem exec_loadSend (s : State) : exec .loadSend s = execLoadSend s := rfl
theorem exec_load (p : Nat) (ports : List (Nat × Nat)) (s : State) : exec (.load p ports) s = execLoad p ports s := rfl
theorem exec_loadTimeout (p : Nat) (s : State) : exec (.loadTimeout p) s = execLoadTimeout p s := rfl
theorem exec_subReqSend (n : Nat) (s : State) : exec (.subReqSend n) s = execSubReqSend n s := rfl
theorem exec_subReq (p reqNo kind maxCoding src fs : Nat) (s : State) : exec (.subReq p reqNo kind maxCoding src fs) s = execSubReq p reqNo kind maxCoding src fs s := rfl
theorem exec_subGrant (reqNo coding waypoint first : Nat) (s : State) : exec (.subGrant reqNo coding waypoint first) s = execSubGrant reqNo coding waypoint first s := rfl
theorem exec_subRefuse (reqNo reason codingReason : Nat) (s : State) : exec (.subRefuse reqNo reason codingReason) s = execSubRefuse reqNo reason codingReason s := rfl
theorem exec_subReqTimeout (n : Nat) (s : State) : exec (.subReqTimeout n) s = execSubReqTimeout n s := rfl
theorem exec_wpReq (p reqNo : Nat) (key : StreamKey) (cost : Nat) (s : State) : exec (.wpReq p reqNo key cost) s = execWpReq p reqNo key cost s := rfl
theorem exec_wpAnswer (p reqNo reason spare : Nat) (s : State) : exec (.wpAnswer p reqNo reason spare) s = execWpAnswer p reqNo reason spare s := rfl
theorem exec_release (key : StreamKey) (last : Nat) (s : State) : exec (.release key last) s = execRelease key last s := rfl
theorem exec_migrate (key : StreamKey) (coding waypoint first : Nat) (s : State) : exec (.migrate key coding waypoint first) s = execMigrate key coding waypoint first s := rfl
theorem exec_wpShed (key : StreamKey) (s : State) : exec (.wpShed key) s = execWpShed key s := rfl
theorem exec_drop (key : StreamKey) (reason last : Nat) (s : State) : exec (.drop key reason last) s = execDrop key reason last s := rfl
theorem exec_controlReserved (p : Nat) (s : State) : exec (.controlReserved p) s = execControlReserved p s := rfl
theorem exec_cellReceived (p : Nat) (crcGood late : Bool) (c : Cell) (s : State) : exec (.cellReceived p crcGood late c) s = execCellReceived p crcGood late c s := rfl
theorem exec_spanMarker (p : Nat) (c : Cell) (s : State) : exec (.spanMarker p c) s = execSpanMarker p c s := rfl
theorem exec_streamRelease (n : Nat) (s : State) : exec (.streamRelease n) s = execStreamRelease n s := rfl
theorem exec_peerLost (p : Nat) (s : State) : exec (.peerLost p) s = execPeerLost p s := rfl
theorem exec_peerReturn (p : Nat) (s : State) : exec (.peerReturn p) s = execPeerReturn p s := rfl
theorem exec_peerLossNotice (p : Nat) (s : State) : exec (.peerLossNotice p) s = execPeerLossNotice p s := rfl
theorem exec_shedDecision (p : Nat) (s : State) : exec (.shedDecision p) s = execShedDecision p s := rfl
theorem exec_streamRerequest (n : Nat) (s : State) : exec (.streamRerequest n) s = execStreamRerequest n s := rfl
theorem exec_revertOffer (s : State) : exec .revertOffer s = execRevertOffer s := rfl
theorem exec_portLimitWrite (m : Master) (p v : Nat) (s : State) : exec (.portLimitWrite m p v) s = execPortLimitWrite m p v s := rfl
theorem exec_refineDiscard (n : Nat) (s : State) : exec (.refineDiscard n) s = execRefineDiscard n s := rfl
theorem exec_losSet (l : Nat) (s : State) : exec (.losSet l) s = execLosSet l s := rfl
theorem exec_losClear (l : Nat) (freq : Int) (s : State) : exec (.losClear l freq) s = execLosClear l freq s := rfl
theorem exec_lockAcquired (l fmt depth : Nat) (freq : Int) (s : State) : exec (.lockAcquired l fmt depth freq) s = execLockAcquired l fmt depth freq s := rfl
theorem exec_lockLost (l : Nat) (s : State) : exec (.lockLost l) s = execLockLost l s := rfl
theorem exec_quadPllLock (q : Nat) (s : State) : exec (.quadPllLock q) s = execQuadPllLock q s := rfl
theorem exec_quadPllLoss (q : Nat) (s : State) : exec (.quadPllLoss q) s = execQuadPllLoss q s := rfl
theorem exec_quadSkew (l : Nat) (beyond : Bool) (s : State) : exec (.quadSkew l beyond) s = execQuadSkew l beyond s := rfl
theorem exec_rxqEntry (l : Nat) (e : RxqEvent) (s : State) : exec (.rxqEntry l e) s = execRxqEntry l e s := rfl
theorem exec_lanTestWrite (m : Master) (l v : Nat) (s : State) : exec (.lanTestWrite m l v) s = execLanTestWrite m l v s := rfl
theorem exec_frameReceived (m : Nat) (f : RxFrame) (s : State) : exec (.frameReceived m f) s = execFrameReceived m f s := rfl
theorem exec_pauseFrame (m quanta : Nat) (s : State) : exec (.pauseFrame m quanta) s = execPauseFrame m quanta s := rfl
theorem exec_pfcFrame (m vector : Nat) (times : List Nat) (s : State) : exec (.pfcFrame m vector times) s = execPfcFrame m vector times s := rfl
theorem exec_pauseExpiry (m : Nat) (cls : Option Nat) (s : State) : exec (.pauseExpiry m cls) s = execPauseExpiry m cls s := rfl
theorem exec_rxEntryLost (n : Nat) (s : State) : exec (.rxEntryLost n) s = execRxEntryLost n s := rfl
theorem exec_mediaPacketSend (e : Nat) (legB : Bool) (n k len : Nat) (second last : Bool) (s : State) : exec (.mediaPacketSend e legB n k len second last) s = execMediaPacketSend e legB n k len second last s := rfl
theorem exec_txPacketLate (e : Nat) (s : State) : exec (.txPacketLate e) s = execTxPacketLate e s := rfl
theorem exec_largeSend (x : LargeStep) (s : State) : exec (.largeSend x) s = execLargeSend x s := rfl
theorem exec_largeSendComplete (e : Nat) (s : State) : exec (.largeSendComplete e) s = execLargeSendComplete e s := rfl
theorem exec_timedFrame (e : Nat) (s : State) : exec (.timedFrame e) s = execTimedFrame e s := rfl
theorem exec_launchTime (e : Nat) (s : State) : exec (.launchTime e) s = execLaunchTime e s := rfl
theorem exec_timedFrameDeparture (e sixteenths : Nat) (s : State) : exec (.timedFrameDeparture e sixteenths) s = execTimedFrameDeparture e sixteenths s := rfl
theorem exec_pktQProd (m : Master) (q v : Nat) (s : State) : exec (.pktQProd m q v) s = execPktQProd m q v s := rfl
theorem exec_pktQCons (m : Master) (q v : Nat) (s : State) : exec (.pktQCons m q v) s = execPktQCons m q v s := rfl
theorem exec_softFlush (m : Master) (q v : Nat) (s : State) : exec (.softFlush m q v) s = execSoftFlush m q v s := rfl
theorem exec_softFlushComplete (q : Nat) (s : State) : exec (.softFlushComplete q) s = execSoftFlushComplete q s := rfl
theorem exec_hardFlush (m : Master) (q v : Nat) (s : State) : exec (.hardFlush m q v) s = execHardFlush m q v s := rfl
theorem exec_queueDataWrite (m : Master) (a size v : Nat) (s : State) : exec (.queueDataWrite m a size v) s = execQueueDataWrite m a size v s := rfl
theorem exec_queueWordRead (m : Option Master) (q p : Nat) (ecc : EccOutcome) (s : State) : exec (.queueWordRead m q p ecc) s = execQueueWordRead m q p ecc s := rfl
theorem exec_gclChange (w : Master) (m v : Nat) (s : State) : exec (.gclChange w m v) s = execGclChange w m v s := rfl
theorem exec_gclCycleStart (m : Nat) (s : State) : exec (.gclCycleStart m) s = execGclCycleStart m s := rfl
theorem exec_gateChange (m : Nat) (s : State) : exec (.gateChange m) s = execGateChange m s := rfl
theorem exec_gateDrop (m : Nat) (s : State) : exec (.gateDrop m) s = execGateDrop m s := rfl
theorem exec_incCommit (m : Master) (n v : Nat) (s : State) : exec (.incCommit m n v) s = execIncCommit m n v s := rfl
theorem exec_tbStep (m : Master) (n v : Nat) (s : State) : exec (.tbStep m n v) s = execTbStep m n v s := rfl
theorem exec_tbSet (m : Master) (n v : Nat) (s : State) : exec (.tbSet m n v) s = execTbSet m n v s := rfl
theorem exec_tbArm (m : Master) (n v : Nat) (s : State) : exec (.tbArm m n v) s = execTbArm m n v s := rfl
theorem exec_tbDisarm (m : Master) (n v : Nat) (s : State) : exec (.tbDisarm m n v) s = execTbDisarm m n v s := rfl
theorem exec_alarm (n : Nat) (s : State) : exec (.alarm n) s = execAlarm n s := rfl
theorem exec_nowLatch (m : Master) (n : Nat) (s : State) : exec (.nowLatch m n) s = execNowLatch m n s := rfl
theorem exec_snapshot (m : Master) (s : State) : exec (.snapshot m) s = execSnapshot m s := rfl
theorem exec_captureEdge (c sixteenths : Nat) (rising : Bool) (s : State) : exec (.captureEdge c sixteenths rising) s = execCaptureEdge c sixteenths rising s := rfl
theorem exec_captureHeadRead (m : Master) (c : Nat) (s : State) : exec (.captureHeadRead m c) s = execCaptureHeadRead m c s := rfl
theorem exec_domainWrite (m : Master) (k v : Nat) (s : State) : exec (.domainWrite m k v) s = execDomainWrite m k v s := rfl
theorem exec_refSecond (e : RefMeas) (s : State) : exec (.refSecond e) s = execRefSecond e s := rfl
theorem exec_candidateAbsent (s : State) : exec .candidateAbsent s = execCandidateAbsent s := rfl
theorem exec_candidateWrite (m : Master) (c v : Nat) (s : State) : exec (.candidateWrite m c v) s = execCandidateWrite m c v s := rfl
theorem exec_forceSelect (m : Master) (v : Nat) (s : State) : exec (.forceSelect m v) s = execForceSelect m v s := rfl
theorem exec_thresholdWrite (m : Master) (k v : Nat) (s : State) : exec (.thresholdWrite m k v) s = execThresholdWrite m k v s := rfl
theorem exec_refSwWrite (m : Master) (v : Nat) (s : State) : exec (.refSwWrite m v) s = execRefSwWrite m v s := rfl
theorem exec_refSwTimeout (s : State) : exec .refSwTimeout s = execRefSwTimeout s := rfl
theorem exec_tempRead (reading : Option Int) (s : State) : exec (.tempRead reading) s = execTempRead reading s := rfl
theorem exec_slewComplete (s : State) : exec .slewComplete s = execSlewComplete s := rfl
theorem exec_holdLimitExpiry (s : State) : exec .holdLimitExpiry s = execHoldLimitExpiry s := rfl
theorem exec_dailyMean (s : State) : exec .dailyMean s = execDailyMean s := rfl
theorem exec_audioSample (k : Nat) (ins : List AudioIn) (es : List EmbeddedIn) (s : State) : exec (.audioSample k ins es) s = execAudioSample k ins es s := rfl
theorem exec_audioCommit (m : Master) (v : Nat) (s : State) : exec (.audioCommit m v) s = execAudioCommit m v s := rfl
theorem exec_audioCancel (m : Master) (s : State) : exec (.audioCancel m) s = execAudioCancel m s := rfl
theorem exec_audioCommitTimeout (s : State) : exec .audioCommitTimeout s = execAudioCommitTimeout s := rfl
theorem exec_audDraftWrite (m : Master) (c v : Nat) (s : State) : exec (.audDraftWrite m c v) s = execAudDraftWrite m c v s := rfl
theorem exec_groupRelease (g : Nat) (s : State) : exec (.groupRelease g) s = execGroupRelease g s := rfl
theorem exec_tdmFrameSync (p : Nat) (s : State) : exec (.tdmFrameSync p) s = execTdmFrameSync p s := rfl
theorem exec_tdmStop (p : Nat) (s : State) : exec (.tdmStop p) s = execTdmStop p s := rfl
theorem exec_pdmStop (q : Nat) (s : State) : exec (.pdmStop q) s = execPdmStop q s := rfl
theorem exec_tdmSlip (p : Nat) (s : State) : exec (.tdmSlip p) s = execTdmSlip p s := rfl
theorem exec_glitch (p : Nat) (s : State) : exec (.glitch p) s = execGlitch p s := rfl
theorem exec_maskWrite (m : Master) (p : Nat) (out : Bool) (v : Nat) (s : State) : exec (.maskWrite m p out v) s = execMaskWrite m p out v s := rfl
theorem exec_portQualified (p : Nat) (s : State) : exec (.portQualified p) s = execPortQualified p s := rfl
theorem exec_domainErr (p : Nat) (freq : Int) (s : State) : exec (.domainErr p freq) s = execDomainErr p freq s := rfl
theorem exec_rateErr (p : Nat) (freq : Int) (s : State) : exec (.rateErr p freq) s = execRateErr p freq s := rfl
theorem exec_daybreak (k : Nat) (s : State) : exec (.daybreak k) s = execDaybreak k s := rfl
theorem exec_evacAudioStart (s : State) : exec .evacAudioStart s = execEvacAudioStart s := rfl
theorem exec_gainWrite (m : Master) (c v : Nat) (s : State) : exec (.gainWrite m c v) s = execGainWrite m c v s := rfl
theorem exec_mpy (n : Nat) (e : DspEcc) (s : State) : exec (.mpy n e) s = execMpy n e s := rfl
theorem exec_mac (n : Nat) (e : DspEcc) (s : State) : exec (.mac n e) s = execMac n e s := rfl
theorem exec_msu (n : Nat) (e : DspEcc) (s : State) : exec (.msu n e) s = execMsu n e s := rfl
theorem exec_cmpy (n : Nat) (e : DspEcc) (s : State) : exec (.cmpy n e) s = execCmpy n e s := rfl
theorem exec_cmac (n : Nat) (e : DspEcc) (s : State) : exec (.cmac n e) s = execCmac n e s := rfl
theorem exec_cmacj (n : Nat) (e : DspEcc) (s : State) : exec (.cmacj n e) s = execCmacj n e s := rfl
theorem exec_firtap (n : Nat) (e : DspEcc) (s : State) : exec (.firtap n e) s = execFirtap n e s := rfl
theorem exec_clr (n : Nat) (e : DspEcc) (s : State) : exec (.clr n e) s = execClr n e s := rfl
theorem exec_movd (n : Nat) (e : DspEcc) (s : State) : exec (.movd n e) s = execMovd n e s := rfl
theorem exec_mova (n : Nat) (e : DspEcc) (s : State) : exec (.mova n e) s = execMova n e s := rfl
theorem exec_adda (n : Nat) (e : DspEcc) (s : State) : exec (.adda n e) s = execAdda n e s := rfl
theorem exec_suba (n : Nat) (e : DspEcc) (s : State) : exec (.suba n e) s = execSuba n e s := rfl
theorem exec_norm (n : Nat) (e : DspEcc) (s : State) : exec (.norm n e) s = execNorm n e s := rfl
theorem exec_exp (n : Nat) (e : DspEcc) (s : State) : exec (.exp n e) s = execExp n e s := rfl
theorem exec_expd (n : Nat) (e : DspEcc) (s : State) : exec (.expd n e) s = execExpd n e s := rfl
theorem exec_add (n : Nat) (e : DspEcc) (s : State) : exec (.add n e) s = execAdd n e s := rfl
theorem exec_sub (n : Nat) (e : DspEcc) (s : State) : exec (.sub n e) s = execSub n e s := rfl
theorem exec_adds (n : Nat) (e : DspEcc) (s : State) : exec (.adds n e) s = execAdds n e s := rfl
theorem exec_subs (n : Nat) (e : DspEcc) (s : State) : exec (.subs n e) s = execSubs n e s := rfl
theorem exec_and (n : Nat) (e : DspEcc) (s : State) : exec (.and n e) s = execAnd n e s := rfl
theorem exec_or (n : Nat) (e : DspEcc) (s : State) : exec (.or n e) s = execOr n e s := rfl
theorem exec_xor (n : Nat) (e : DspEcc) (s : State) : exec (.xor n e) s = execXor n e s := rfl
theorem exec_abs (n : Nat) (e : DspEcc) (s : State) : exec (.abs n e) s = execAbs n e s := rfl
theorem exec_neg (n : Nat) (e : DspEcc) (s : State) : exec (.neg n e) s = execNeg n e s := rfl
theorem exec_max (n : Nat) (e : DspEcc) (s : State) : exec (.max n e) s = execMax n e s := rfl
theorem exec_min (n : Nat) (e : DspEcc) (s : State) : exec (.min n e) s = execMin n e s := rfl
theorem exec_mov (n : Nat) (e : DspEcc) (s : State) : exec (.mov n e) s = execMov n e s := rfl
theorem exec_asr (n : Nat) (e : DspEcc) (s : State) : exec (.asr n e) s = execAsr n e s := rfl
theorem exec_lsr (n : Nat) (e : DspEcc) (s : State) : exec (.lsr n e) s = execLsr n e s := rfl
theorem exec_lsl (n : Nat) (e : DspEcc) (s : State) : exec (.lsl n e) s = execLsl n e s := rfl
theorem exec_cmp (n : Nat) (e : DspEcc) (s : State) : exec (.cmp n e) s = execCmp n e s := rfl
theorem exec_tst (n : Nat) (e : DspEcc) (s : State) : exec (.tst n e) s = execTst n e s := rfl
theorem exec_movr (n : Nat) (e : DspEcc) (s : State) : exec (.movr n e) s = execMovr n e s := rfl
theorem exec_setscale (n : Nat) (e : DspEcc) (s : State) : exec (.setscale n e) s = execSetscale n e s := rfl
theorem exec_nop (n : Nat) (e : DspEcc) (s : State) : exec (.nop n e) s = execNop n e s := rfl
theorem exec_ldi (n : Nat) (e : DspEcc) (s : State) : exec (.ldi n e) s = execLdi n e s := rfl
theorem exec_ldx (n : Nat) (e : DspEcc) (s : State) : exec (.ldx n e) s = execLdx n e s := rfl
theorem exec_stx (n : Nat) (e : DspEcc) (s : State) : exec (.stx n e) s = execStx n e s := rfl
theorem exec_ldy (n : Nat) (e : DspEcc) (s : State) : exec (.ldy n e) s = execLdy n e s := rfl
theorem exec_sty (n : Nat) (e : DspEcc) (s : State) : exec (.sty n e) s = execSty n e s := rfl
theorem exec_lea (n : Nat) (e : DspEcc) (s : State) : exec (.lea n e) s = execLea n e s := rfl
theorem exec_addi (n : Nat) (e : DspEcc) (s : State) : exec (.addi n e) s = execAddi n e s := rfl
theorem exec_bcc (n : Nat) (e : DspEcc) (s : State) : exec (.bcc n e) s = execBcc n e s := rfl
theorem exec_jsr (n : Nat) (e : DspEcc) (s : State) : exec (.jsr n e) s = execJsr n e s := rfl
theorem exec_rts (n : Nat) (e : DspEcc) (s : State) : exec (.rts n e) s = execRts n e s := rfl
theorem exec_rti (n : Nat) (e : DspEcc) (s : State) : exec (.rti n e) s = execRti n e s := rfl
theorem exec_loop (n : Nat) (e : DspEcc) (s : State) : exec (.loop n e) s = execLoop n e s := rfl
theorem exec_loopr (n : Nat) (e : DspEcc) (s : State) : exec (.loopr n e) s = execLoopr n e s := rfl
theorem exec_rep (n : Nat) (e : DspEcc) (s : State) : exec (.rep n e) s = execRep n e s := rfl
theorem exec_repr (n : Nat) (e : DspEcc) (s : State) : exec (.repr n e) s = execRepr n e s := rfl
theorem exec_lexit (n : Nat) (e : DspEcc) (s : State) : exec (.lexit n e) s = execLexit n e s := rfl
theorem exec_blkend (n : Nat) (e : DspEcc) (s : State) : exec (.blkend n e) s = execBlkend n e s := rfl
theorem exec_trap (n : Nat) (e : DspEcc) (s : State) : exec (.trap n e) s = execTrap n e s := rfl
theorem exec_halt (n : Nat) (e : DspEcc) (s : State) : exec (.halt n e) s = execHalt n e s := rfl
theorem exec_dspDoorbell (m : Master) (n : Nat) (s : State) : exec (.dspDoorbell m n) s = execDspDoorbell m n s := rfl
theorem exec_dspInterrupt (n : Nat) (s : State) : exec (.dspInterrupt n) s = execDspInterrupt n s := rfl
theorem exec_qinItemCopy (n i : Nat) (s : State) : exec (.qinItemCopy n i) s = execQinItemCopy n i s := rfl
theorem exec_blockPending (n j : Nat) (s : State) : exec (.blockPending n j) s = execBlockPending n j s := rfl
theorem exec_returnDeadline (n j : Nat) (s : State) : exec (.returnDeadline n j) s = execReturnDeadline n j s := rfl
theorem exec_dspCoreStop (n : Nat) (s : State) : exec (.dspCoreStop n) s = execDspCoreStop n s := rfl
theorem exec_debugHalt (t : DebugTarget) (s : State) : exec (.debugHalt t) s = execDebugHalt t s := rfl
theorem exec_latchPoint (n frame : Nat) (aged : List Nat) (s : State) : exec (.latchPoint n frame aged) s = execLatchPoint n frame aged s := rfl
theorem exec_layerArm (m : Master) (n l v : Nat) (s : State) : exec (.layerArm m n l v) s = execLayerArm m n l v s := rfl
theorem exec_layerCancel (m : Master) (n l : Nat) (s : State) : exec (.layerCancel m n l) s = execLayerCancel m n l s := rfl
theorem exec_headCommit (m : Master) (n : Nat) (s : State) : exec (.headCommit m n) s = execHeadCommit m n s := rfl
theorem exec_headCancel (m : Master) (n : Nat) (s : State) : exec (.headCancel m n) s = execHeadCancel m n s := rfl
theorem exec_fenceSignal (m : Master) (n v : Nat) (s : State) : exec (.fenceSignal m n v) s = execFenceSignal m n v s := rfl
theorem exec_fenceItem (n : Nat) (s : State) : exec (.fenceItem n) s = execFenceItem n s := rfl
theorem exec_lutselWrite (m : Master) (n v : Nat) (s : State) : exec (.lutselWrite m n v) s = execLutselWrite m n v s := rfl
theorem exec_lutWrite (m : Master) (n o v : Nat) (s : State) : exec (.lutWrite m n o v) s = execLutWrite m n o v s := rfl
theorem exec_shadowWrite (m : Master) (n : Nat) (w : Shadow) (v : Nat) (s : State) : exec (.shadowWrite m n w v) s = execShadowWrite m n w v s := rfl
theorem exec_targetTimeout (m : Master) (addr : Nat) (write : Bool) (s : State) : exec (.targetTimeout m addr write) s = execTargetTimeout m addr write s := rfl
theorem exec_masterReset (m : Master) (b : Burst) (s : State) : exec (.masterReset m b) s = execMasterReset m b s := rfl
theorem exec_linkTrained (repaired : Nat) (s : State) : exec (.linkTrained repaired) s = execLinkTrained repaired s := rfl
theorem exec_linkRetrain (repaired : Nat) (s : State) : exec (.linkRetrain repaired) s = execLinkRetrain repaired s := rfl
theorem exec_linkDown (b : Option Burst) (s : State) : exec (.linkDown b) s = execLinkDown b s := rfl
theorem exec_hotReset (b : Option Burst) (s : State) : exec (.hotReset b) s = execHotReset b s := rfl
theorem exec_d3hotEntry (b : Option Burst) (s : State) : exec (.d3hotEntry b) s = execD3hotEntry b s := rfl
theorem exec_replayThreshold (n : Nat) (s : State) : exec (.replayThreshold n) s = execReplayThreshold n s := rfl
theorem exec_msixUnmask (m : Master) (n : Nat) (s : State) : exec (.msixUnmask m n) s = execMsixUnmask m n s := rfl
theorem exec_mbxReq (m : Master) (b v : Nat) (s : State) : exec (.mbxReq m b v) s = execMbxReq m b v s := rfl
theorem exec_mbxRsp (m : Master) (b v : Nat) (s : State) : exec (.mbxRsp m b v) s = execMbxRsp m b v s := rfl
theorem exec_coalesceWindowClose (n : Nat) (s : State) : exec (.coalesceWindowClose n) s = execCoalesceWindowClose n s := rfl
theorem exec_stormPeriodEnd (s : State) : exec .stormPeriodEnd s = execStormPeriodEnd s := rfl
theorem exec_stormRelease (m : Master) (n v : Nat) (s : State) : exec (.stormRelease m n v) s = execStormRelease m n v s := rfl
theorem exec_stormReleaseTimeout (n : Nat) (s : State) : exec (.stormReleaseTimeout n) s = execStormReleaseTimeout n s := rfl
theorem exec_force (m : Master) (n v : Nat) (s : State) : exec (.force m n v) s = execForce m n v s := rfl
theorem exec_recoveryTake (m : Master) (v : Nat) (s : State) : exec (.recoveryTake m v) s = execRecoveryTake m v s := rfl
theorem exec_recoveryDone (m : Master) (v : Nat) (s : State) : exec (.recoveryDone m v) s = execRecoveryDone m v s := rfl
theorem exec_recoveryOverdue (s : State) : exec .recoveryOverdue s = execRecoveryOverdue s := rfl
theorem exec_safeEntry (s : State) : exec .safeEntry s = execSafeEntry s := rfl
theorem exec_scrubPassComplete (k : Nat) (s : State) : exec (.scrubPassComplete k) s = execScrubPassComplete k s := rfl
theorem exec_hbmStackFailed (k : Nat) (training : Bool) (s : State) : exec (.hbmStackFailed k training) s = execHbmStackFailed k training s := rfl
theorem exec_hbmTempHigh (k : Nat) (s : State) : exec (.hbmTempHigh k) s = execHbmTempHigh k s := rfl
theorem exec_chkResult (u : Nat) (data : List Nat) (id : Nat) (gap : Bool) (s : State) : exec (.chkResult u data id gap) s = execChkResult u data id gap s := rfl
theorem exec_chkPassDone (u : Nat) (uncorrectable : Bool) (s : State) : exec (.chkPassDone u uncorrectable) s = execChkPassDone u uncorrectable s := rfl
theorem exec_claimInAssert (s : State) : exec .claimInAssert s = execClaimInAssert s := rfl
theorem exec_claimInDeassert (s : State) : exec .claimInDeassert s = execClaimInDeassert s := rfl
theorem exec_claimOutAssert (s : State) : exec .claimOutAssert s = execClaimOutAssert s := rfl
theorem exec_drivingStart (s : State) : exec .drivingStart s = execDrivingStart s := rfl
theorem exec_lineFault (s : State) : exec .lineFault s = execLineFault s := rfl
theorem exec_twinHeartbeatSend (s : State) : exec .twinHeartbeatSend s = execTwinHeartbeatSend s := rfl
theorem exec_mgmtHeartbeatSend (s : State) : exec .mgmtHeartbeatSend s = execMgmtHeartbeatSend s := rfl
theorem exec_twinHeartbeat (path : Option Nat) (bs : List Byte) (s : State) : exec (.twinHeartbeat path bs) s = execTwinHeartbeat path bs s := rfl
theorem exec_pathLost (link : Bool) (s : State) : exec (.pathLost link) s = execPathLost link s := rfl
theorem exec_resyncSend (kind index n : Nat) (starts : List Stamp) (s : State) : exec (.resyncSend kind index n starts) s = execResyncSend kind index n starts s := rfl
theorem exec_resyncMessage (bs : List Byte) (own : List Stamp) (s : State) : exec (.resyncMessage bs own) s = execResyncMessage bs own s := rfl
theorem exec_claimDrop (s : State) : exec .claimDrop s = execClaimDrop s := rfl
theorem exec_claimTake (m : Master) (v : Nat) (s : State) : exec (.claimTake m v) s = execClaimTake m v s := rfl
theorem exec_claimRelease (m : Master) (s : State) : exec (.claimRelease m) s = execClaimRelease m s := rfl
theorem exec_syncStageComplete (s : State) : exec .syncStageComplete s = execSyncStageComplete s := rfl
theorem exec_standbyEntry (s : State) : exec .standbyEntry s = execStandbyEntry s := rfl
theorem exec_nonceRead (m : Master) (s : State) : exec (.nonceRead m) s = execNonceRead m s := rfl
theorem exec_unlock (m : Master) (slot : Nat) (s : State) : exec (.unlock m slot) s = execUnlock m slot s := rfl
theorem exec_relock (m : Master) (slot : Nat) (s : State) : exec (.relock m slot) s = execRelock m slot s := rfl
theorem exec_provision (m : Master) (slot : Nat) (s : State) : exec (.provision m slot) s = execProvision m slot s := rfl
theorem exec_deploy (m : Master) (slot : Nat) (s : State) : exec (.deploy m slot) s = execDeploy m slot s := rfl
theorem exec_secReturn (m : Master) (slot : Nat) (s : State) : exec (.secReturn m slot) s = execSecReturn m slot s := rfl
theorem exec_revokeOwner (m : Master) (slot : Nat) (s : State) : exec (.revokeOwner m slot) s = execRevokeOwner m slot s := rfl
theorem exec_revokeSafety (m : Master) (slot : Nat) (s : State) : exec (.revokeSafety m slot) s = execRevokeSafety m slot s := rfl
theorem exec_raiseFloor (m : Master) (slot : Nat) (s : State) : exec (.raiseFloor m slot) s = execRaiseFloor m slot s := rfl
theorem exec_ackSafety (m : Master) (slot : Nat) (s : State) : exec (.ackSafety m slot) s = execAckSafety m slot s := rfl
theorem exec_quietRequest (m : Master) (s : State) : exec (.quietRequest m) s = execQuietRequest m s := rfl
theorem exec_leaveQuiet (m : Master) (s : State) : exec (.leaveQuiet m) s = execLeaveQuiet m s := rfl
theorem exec_supplyOutOfRange (rail : Nat) (s : State) : exec (.supplyOutOfRange rail) s = execSupplyOutOfRange rail s := rfl
theorem exec_tempWarning (t : Int) (s : State) : exec (.tempWarning t) s = execTempWarning t s := rfl
theorem exec_tempCritical (t : Int) (s : State) : exec (.tempCritical t) s = execTempCritical t s := rfl
theorem exec_clockMonitor (domains : Nat) (s : State) : exec (.clockMonitor domains) s = execClockMonitor domains s := rfl
theorem exec_safetyMeasurement (i ohms : Nat) (s : State) : exec (.safetyMeasurement i ohms) s = execSafetyMeasurement i ohms s := rfl
theorem exec_bandRecognised (is : List Nat) (s : State) : exec (.bandRecognised is) s = execBandRecognised is s := rfl
theorem exec_overrideArm (s : State) : exec .overrideArm s = execOverrideArm s := rfl
theorem exec_safetyReminder (i : Nat) (s : State) : exec (.safetyReminder i) s = execSafetyReminder i s := rfl
theorem exec_gpiEdge (n : Nat) (active : Bool) (t : Stamp) (s : State) : exec (.gpiEdge n active t) s = execGpiEdge n active t s := rfl
theorem exec_gpiRateWindow (n : Nat) (s : State) : exec (.gpiRateWindow n) s = execGpiRateWindow n s := rfl
theorem exec_gpiStuck (n : Nat) (s : State) : exec (.gpiStuck n) s = execGpiStuck n s := rfl
theorem exec_gpiFifoRead (m : Master) (s : State) : exec (.gpiFifoRead m) s = execGpiFifoRead m s := rfl
theorem exec_vfieldOutOfRange (mv : Nat) (s : State) : exec (.vfieldOutOfRange mv) s = execVfieldOutOfRange mv s := rfl
theorem exec_fieldStatusFrame (good : Bool) (mv : Nat) (s : State) : exec (.fieldStatusFrame good mv) s = execFieldStatusFrame good mv s := rfl
theorem exec_fieldLinkDown (s : State) : exec .fieldLinkDown s = execFieldLinkDown s := rfl
theorem exec_fieldLinkUp (s : State) : exec .fieldLinkUp s = execFieldLinkUp s := rfl
theorem exec_gpoOverload (n : Nat) (s : State) : exec (.gpoOverload n) s = execGpoOverload n s := rfl
theorem exec_gpoFaultClear (m : Master) (v overloaded : Nat) (s : State) : exec (.gpoFaultClear m v overloaded) s = execGpoFaultClear m v overloaded s := rfl
theorem exec_cellRelease (slot n typ k : Nat) (live : Option VideoSpan) (s : State) : exec (.cellRelease slot n typ k live) s = execCellRelease slot n typ k live s := rfl
theorem exec_vfieldInRange (mv : Nat) (s : State) : exec (.vfieldInRange mv) s = execVfieldInRange mv s := rfl
theorem exec_scrubRead (k : Nat) (ecc : EccOutcome) (s : State) : exec (.scrubRead k ecc) s = execScrubRead k ecc s := rfl
theorem exec_prbsCheckerLock (l : Nat) (bits : List Bool) (s : State) : exec (.prbsCheckerLock l bits) s = execPrbsCheckerLock l bits s := rfl
theorem exec_pdmClockReturn (q : Nat) (s : State) : exec (.pdmClockReturn q) s = execPdmClockReturn q s := rfl
theorem exec_configWrite (bme msixEn funcMask : Bool) (dstate : Nat) (s : State) : exec (.configWrite bme msixEn funcMask dstate) s = execConfigWrite bme msixEn funcMask dstate s := rfl
theorem exec_jtagInstruction (i : JtagIns) (s : State) : exec (.jtagInstruction i) s = execJtagInstruction i s := rfl
theorem exec_debugStep (t : DebugTarget) (e : DspEcc) (s : State) : exec (.debugStep t e) s = execDebugStep t e s := rfl

/-- Every command keeps the part, the rest of the queue, blown fuses and the canonical forms. -/
theorem exec_keeps (i : Instr) (s : State) : KeepsO s (exec i s) := by
  cases i with
  | registerWrite m addr size v hw =>
    rw [exec_registerWrite]
    exact execRegisterWrite_keeps ..
  | readToClear m addr size hw ecc =>
    rw [exec_readToClear]
    exact execReadToClear_keeps ..
  | enableSet m u v =>
    rw [exec_enableSet]
    exact execEnableSet_keeps ..
  | checkComplete u c =>
    rw [exec_checkComplete]
    exact execCheckComplete_keeps ..
  | checkAbort m u v =>
    rw [exec_checkAbort]
    exact execCheckAbort_keeps ..
  | enableClear m u v =>
    rw [exec_enableClear]
    exact execEnableClear_keeps ..
  | powerOnReset plane twin =>
    rw [exec_powerOnReset]
    exact execPowerOnReset_keeps ..
  | externalReset plane twin =>
    rw [exec_externalReset]
    exact execExternalReset_keeps ..
  | deviceReset m v =>
    rw [exec_deviceReset]
    exact execDeviceReset_keeps ..
  | remap m =>
    rw [exec_remap]
    exact execRemap_keeps ..
  | stRun m mask =>
    rw [exec_stRun]
    exact execStRun_keeps ..
  | memorySetup a =>
    rw [exec_memorySetup]
    exact execMemorySetup_keeps ..
  | slotHeadersRead =>
    rw [exec_slotHeadersRead]
    exact execSlotHeadersRead_keeps ..
  | sectionStreamed readError =>
    rw [exec_sectionStreamed]
    exact execSectionStreamed_keeps ..
  | hbmReady fail0 fail1 =>
    rw [exec_hbmReady]
    exact execHbmReady_keeps ..
  | signatureVerify =>
    rw [exec_signatureVerify]
    exact execSignatureVerify_keeps ..
  | handOver =>
    rw [exec_handOver]
    exact execHandOver_keeps ..
  | nvmWritePage m =>
    rw [exec_nvmWritePage]
    exact execNvmWritePage_keeps ..
  | nvmReadPage m =>
    rw [exec_nvmReadPage]
    exact execNvmReadPage_keeps ..
  | nvmOverwriteHeader m =>
    rw [exec_nvmOverwriteHeader]
    exact execNvmOverwriteHeader_keeps ..
  | nvmCommandComplete =>
    rw [exec_nvmCommandComplete]
    exact execNvmCommandComplete_keeps ..
  | faultLogWrite readBackFails =>
    rw [exec_faultLogWrite]
    exact execFaultLogWrite_keeps ..
  | electionRecord readBackFails =>
    rw [exec_electionRecord]
    exact execElectionRecord_keeps ..
  | ageingRecord readBackFails =>
    rw [exec_ageingRecord]
    exact execAgeingRecord_keeps ..
  | enumToken framed tok =>
    rw [exec_enumToken]
    exact execEnumToken_keeps ..
  | enumTokenSend =>
    rw [exec_enumTokenSend]
    exact execEnumTokenSend_keeps ..
  | enumInLow =>
    rw [exec_enumInLow]
    exact execEnumInLow_keeps ..
  | enumTokenLoss =>
    rw [exec_enumTokenLoss]
    exact execEnumTokenLoss_keeps ..
  | enumInHigh =>
    rw [exec_enumInHigh]
    exact execEnumInHigh_keeps ..
  | enumTimeout =>
    rw [exec_enumTimeout]
    exact execEnumTimeout_keeps ..
  | mgmtAnnounce =>
    rw [exec_mgmtAnnounce]
    exact execMgmtAnnounce_keeps ..
  | announceReceived dst place twin =>
    rw [exec_announceReceived]
    exact execAnnounceReceived_keeps ..
  | gazStageWrite m n w v =>
    rw [exec_gazStageWrite]
    exact execGazStageWrite_keeps ..
  | gazPublish m n v =>
    rw [exec_gazPublish]
    exact execGazPublish_keeps ..
  | gazEntrySend n =>
    rw [exec_gazEntrySend]
    exact execGazEntrySend_keeps ..
  | gazEntry e refresh =>
    rw [exec_gazEntry]
    exact execGazEntry_keeps ..
  | gazDigestSend =>
    rw [exec_gazDigestSend]
    exact execGazDigestSend_keeps ..
  | gazDigest p digest =>
    rw [exec_gazDigest]
    exact execGazDigest_keeps ..
  | gazFetch p =>
    rw [exec_gazFetch]
    exact execGazFetch_keeps ..
  | gazFetchRetry p =>
    rw [exec_gazFetchRetry]
    exact execGazFetchRetry_keeps ..
  | decisionPoint f n phis =>
    rw [exec_decisionPoint]
    exact execDecisionPoint_keeps ..
  | meridian f n =>
    rw [exec_meridian]
    exact execMeridian_keeps ..
  | realign m v =>
    rw [exec_realign]
    exact execRealign_keeps ..
  | inputSpanComplete i v =>
    rw [exec_inputSpanComplete]
    exact execInputSpanComplete_keeps ..
  | atlCommit m v =>
    rw [exec_atlCommit]
    exact execAtlCommit_keeps ..
  | atlSalvo m v =>
    rw [exec_atlSalvo]
    exact execAtlSalvo_keeps ..
  | atlCancel m v =>
    rw [exec_atlCancel]
    exact execAtlCancel_keeps ..
  | salvoCancel m =>
    rw [exec_salvoCancel]
    exact execSalvoCancel_keeps ..
  | atlDraftWrite m d armed low =>
    rw [exec_atlDraftWrite]
    exact execAtlDraftWrite_keeps ..
  | landingSpanComplete n span =>
    rw [exec_landingSpanComplete]
    exact execLandingSpanComplete_keeps ..
  | lineDeparture x =>
    rw [exec_lineDeparture]
    exact execLineDeparture_keeps ..
  | heartbeatSend =>
    rw [exec_heartbeatSend]
    exact execHeartbeatSend_keeps ..
  | heartbeat p pos plane twin cls =>
    rw [exec_heartbeat]
    exact execHeartbeat_keeps ..
  | loadSend =>
    rw [exec_loadSend]
    exact execLoadSend_keeps ..
  | load p ports =>
    rw [exec_load]
    exact execLoad_keeps ..
  | loadTimeout p =>
    rw [exec_loadTimeout]
    exact execLoadTimeout_keeps ..
  | subReqSend n =>
    rw [exec_subReqSend]
    exact execSubReqSend_keeps ..
  | subReq p reqNo kind maxCoding src fs =>
    rw [exec_subReq]
    exact execSubReq_keeps ..
  | subGrant reqNo coding waypoint first =>
    rw [exec_subGrant]
    exact execSubGrant_keeps ..
  | subRefuse reqNo reason codingReason =>
    rw [exec_subRefuse]
    exact execSubRefuse_keeps ..
  | subReqTimeout n =>
    rw [exec_subReqTimeout]
    exact execSubReqTimeout_keeps ..
  | wpReq p reqNo key cost =>
    rw [exec_wpReq]
    exact execWpReq_keeps ..
  | wpAnswer p reqNo reason spare =>
    rw [exec_wpAnswer]
    exact execWpAnswer_keeps ..
  | release key last =>
    rw [exec_release]
    exact execRelease_keeps ..
  | migrate key coding waypoint first =>
    rw [exec_migrate]
    exact execMigrate_keeps ..
  | wpShed key =>
    rw [exec_wpShed]
    exact execWpShed_keeps ..
  | drop key reason last =>
    rw [exec_drop]
    exact execDrop_keeps ..
  | controlReserved p =>
    rw [exec_controlReserved]
    exact execControlReserved_keeps ..
  | cellReceived p crcGood late c =>
    rw [exec_cellReceived]
    exact execCellReceived_keeps ..
  | spanMarker p c =>
    rw [exec_spanMarker]
    exact execSpanMarker_keeps ..
  | streamRelease n =>
    rw [exec_streamRelease]
    exact execStreamRelease_keeps ..
  | peerLost p =>
    rw [exec_peerLost]
    exact execPeerLost_keeps ..
  | peerReturn p =>
    rw [exec_peerReturn]
    exact execPeerReturn_keeps ..
  | peerLossNotice p =>
    rw [exec_peerLossNotice]
    exact execPeerLossNotice_keeps ..
  | shedDecision p =>
    rw [exec_shedDecision]
    exact execShedDecision_keeps ..
  | streamRerequest n =>
    rw [exec_streamRerequest]
    exact execStreamRerequest_keeps ..
  | revertOffer =>
    rw [exec_revertOffer]
    exact execRevertOffer_keeps ..
  | portLimitWrite m p v =>
    rw [exec_portLimitWrite]
    exact execPortLimitWrite_keeps ..
  | refineDiscard n =>
    rw [exec_refineDiscard]
    exact execRefineDiscard_keeps ..
  | losSet l =>
    rw [exec_losSet]
    exact execLosSet_keeps ..
  | losClear l freq =>
    rw [exec_losClear]
    exact execLosClear_keeps ..
  | lockAcquired l fmt depth freq =>
    rw [exec_lockAcquired]
    exact execLockAcquired_keeps ..
  | lockLost l =>
    rw [exec_lockLost]
    exact execLockLost_keeps ..
  | quadPllLock q =>
    rw [exec_quadPllLock]
    exact execQuadPllLock_keeps ..
  | quadPllLoss q =>
    rw [exec_quadPllLoss]
    exact execQuadPllLoss_keeps ..
  | quadSkew l beyond =>
    rw [exec_quadSkew]
    exact execQuadSkew_keeps ..
  | rxqEntry l e =>
    rw [exec_rxqEntry]
    exact execRxqEntry_keeps ..
  | lanTestWrite m l v =>
    rw [exec_lanTestWrite]
    exact execLanTestWrite_keeps ..
  | frameReceived m f =>
    rw [exec_frameReceived]
    exact execFrameReceived_keeps ..
  | pauseFrame m quanta =>
    rw [exec_pauseFrame]
    exact execPauseFrame_keeps ..
  | pfcFrame m vector times =>
    rw [exec_pfcFrame]
    exact execPfcFrame_keeps ..
  | pauseExpiry m cls =>
    rw [exec_pauseExpiry]
    exact execPauseExpiry_keeps ..
  | rxEntryLost n =>
    rw [exec_rxEntryLost]
    exact execRxEntryLost_keeps ..
  | mediaPacketSend e legB n k len second last =>
    rw [exec_mediaPacketSend]
    exact execMediaPacketSend_keeps ..
  | txPacketLate e =>
    rw [exec_txPacketLate]
    exact execTxPacketLate_keeps ..
  | largeSend x =>
    rw [exec_largeSend]
    exact execLargeSend_keeps ..
  | largeSendComplete e =>
    rw [exec_largeSendComplete]
    exact execLargeSendComplete_keeps ..
  | timedFrame e =>
    rw [exec_timedFrame]
    exact execTimedFrame_keeps ..
  | launchTime e =>
    rw [exec_launchTime]
    exact execLaunchTime_keeps ..
  | timedFrameDeparture e sixteenths =>
    rw [exec_timedFrameDeparture]
    exact execTimedFrameDeparture_keeps ..
  | pktQProd m q v =>
    rw [exec_pktQProd]
    exact execPktQProd_keeps ..
  | pktQCons m q v =>
    rw [exec_pktQCons]
    exact execPktQCons_keeps ..
  | softFlush m q v =>
    rw [exec_softFlush]
    exact execSoftFlush_keeps ..
  | softFlushComplete q =>
    rw [exec_softFlushComplete]
    exact execSoftFlushComplete_keeps ..
  | hardFlush m q v =>
    rw [exec_hardFlush]
    exact execHardFlush_keeps ..
  | queueDataWrite m a size v =>
    rw [exec_queueDataWrite]
    exact execQueueDataWrite_keeps ..
  | queueWordRead m q p ecc =>
    rw [exec_queueWordRead]
    exact execQueueWordRead_keeps ..
  | gclChange w m v =>
    rw [exec_gclChange]
    exact execGclChange_keeps ..
  | gclCycleStart m =>
    rw [exec_gclCycleStart]
    exact execGclCycleStart_keeps ..
  | gateChange m =>
    rw [exec_gateChange]
    exact execGateChange_keeps ..
  | gateDrop m =>
    rw [exec_gateDrop]
    exact execGateDrop_keeps ..
  | incCommit m n v =>
    rw [exec_incCommit]
    exact execIncCommit_keeps ..
  | tbStep m n v =>
    rw [exec_tbStep]
    exact execTbStep_keeps ..
  | tbSet m n v =>
    rw [exec_tbSet]
    exact execTbSet_keeps ..
  | tbArm m n v =>
    rw [exec_tbArm]
    exact execTbArm_keeps ..
  | tbDisarm m n v =>
    rw [exec_tbDisarm]
    exact execTbDisarm_keeps ..
  | alarm n =>
    rw [exec_alarm]
    exact execAlarm_keeps ..
  | nowLatch m n =>
    rw [exec_nowLatch]
    exact execNowLatch_keeps ..
  | snapshot m =>
    rw [exec_snapshot]
    exact execSnapshot_keeps ..
  | captureEdge c sixteenths rising =>
    rw [exec_captureEdge]
    exact execCaptureEdge_keeps ..
  | captureHeadRead m c =>
    rw [exec_captureHeadRead]
    exact execCaptureHeadRead_keeps ..
  | domainWrite m k v =>
    rw [exec_domainWrite]
    exact execDomainWrite_keeps ..
  | refSecond e =>
    rw [exec_refSecond]
    exact execRefSecond_keeps ..
  | candidateAbsent =>
    rw [exec_candidateAbsent]
    exact execCandidateAbsent_keeps ..
  | candidateWrite m c v =>
    rw [exec_candidateWrite]
    exact execCandidateWrite_keeps ..
  | forceSelect m v =>
    rw [exec_forceSelect]
    exact execForceSelect_keeps ..
  | thresholdWrite m k v =>
    rw [exec_thresholdWrite]
    exact execThresholdWrite_keeps ..
  | refSwWrite m v =>
    rw [exec_refSwWrite]
    exact execRefSwWrite_keeps ..
  | refSwTimeout =>
    rw [exec_refSwTimeout]
    exact execRefSwTimeout_keeps ..
  | tempRead reading =>
    rw [exec_tempRead]
    exact execTempRead_keeps ..
  | slewComplete =>
    rw [exec_slewComplete]
    exact execSlewComplete_keeps ..
  | holdLimitExpiry =>
    rw [exec_holdLimitExpiry]
    exact execHoldLimitExpiry_keeps ..
  | dailyMean =>
    rw [exec_dailyMean]
    exact execDailyMean_keeps ..
  | audioSample k ins es =>
    rw [exec_audioSample]
    exact execAudioSample_keeps ..
  | audioCommit m v =>
    rw [exec_audioCommit]
    exact execAudioCommit_keeps ..
  | audioCancel m =>
    rw [exec_audioCancel]
    exact execAudioCancel_keeps ..
  | audioCommitTimeout =>
    rw [exec_audioCommitTimeout]
    exact execAudioCommitTimeout_keeps ..
  | audDraftWrite m c v =>
    rw [exec_audDraftWrite]
    exact execAudDraftWrite_keeps ..
  | groupRelease g =>
    rw [exec_groupRelease]
    exact execGroupRelease_keeps ..
  | tdmFrameSync p =>
    rw [exec_tdmFrameSync]
    exact execTdmFrameSync_keeps ..
  | tdmStop p =>
    rw [exec_tdmStop]
    exact execTdmStop_keeps ..
  | pdmStop q =>
    rw [exec_pdmStop]
    exact execPdmStop_keeps ..
  | tdmSlip p =>
    rw [exec_tdmSlip]
    exact execTdmSlip_keeps ..
  | glitch p =>
    rw [exec_glitch]
    exact execGlitch_keeps ..
  | maskWrite m p out v =>
    rw [exec_maskWrite]
    exact execMaskWrite_keeps ..
  | portQualified p =>
    rw [exec_portQualified]
    exact execPortQualified_keeps ..
  | domainErr p freq =>
    rw [exec_domainErr]
    exact execDomainErr_keeps ..
  | rateErr p freq =>
    rw [exec_rateErr]
    exact execRateErr_keeps ..
  | daybreak k =>
    rw [exec_daybreak]
    exact execDaybreak_keeps ..
  | evacAudioStart =>
    rw [exec_evacAudioStart]
    exact execEvacAudioStart_keeps ..
  | gainWrite m c v =>
    rw [exec_gainWrite]
    exact execGainWrite_keeps ..
  | mpy n e =>
    rw [exec_mpy]
    exact execMpy_keeps ..
  | mac n e =>
    rw [exec_mac]
    exact execMac_keeps ..
  | msu n e =>
    rw [exec_msu]
    exact execMsu_keeps ..
  | cmpy n e =>
    rw [exec_cmpy]
    exact execCmpy_keeps ..
  | cmac n e =>
    rw [exec_cmac]
    exact execCmac_keeps ..
  | cmacj n e =>
    rw [exec_cmacj]
    exact execCmacj_keeps ..
  | firtap n e =>
    rw [exec_firtap]
    exact execFirtap_keeps ..
  | clr n e =>
    rw [exec_clr]
    exact execClr_keeps ..
  | movd n e =>
    rw [exec_movd]
    exact execMovd_keeps ..
  | mova n e =>
    rw [exec_mova]
    exact execMova_keeps ..
  | adda n e =>
    rw [exec_adda]
    exact execAdda_keeps ..
  | suba n e =>
    rw [exec_suba]
    exact execSuba_keeps ..
  | norm n e =>
    rw [exec_norm]
    exact execNorm_keeps ..
  | exp n e =>
    rw [exec_exp]
    exact execExp_keeps ..
  | expd n e =>
    rw [exec_expd]
    exact execExpd_keeps ..
  | add n e =>
    rw [exec_add]
    exact execAdd_keeps ..
  | sub n e =>
    rw [exec_sub]
    exact execSub_keeps ..
  | adds n e =>
    rw [exec_adds]
    exact execAdds_keeps ..
  | subs n e =>
    rw [exec_subs]
    exact execSubs_keeps ..
  | and n e =>
    rw [exec_and]
    exact execAnd_keeps ..
  | or n e =>
    rw [exec_or]
    exact execOr_keeps ..
  | xor n e =>
    rw [exec_xor]
    exact execXor_keeps ..
  | abs n e =>
    rw [exec_abs]
    exact execAbs_keeps ..
  | neg n e =>
    rw [exec_neg]
    exact execNeg_keeps ..
  | max n e =>
    rw [exec_max]
    exact execMax_keeps ..
  | min n e =>
    rw [exec_min]
    exact execMin_keeps ..
  | mov n e =>
    rw [exec_mov]
    exact execMov_keeps ..
  | asr n e =>
    rw [exec_asr]
    exact execAsr_keeps ..
  | lsr n e =>
    rw [exec_lsr]
    exact execLsr_keeps ..
  | lsl n e =>
    rw [exec_lsl]
    exact execLsl_keeps ..
  | cmp n e =>
    rw [exec_cmp]
    exact execCmp_keeps ..
  | tst n e =>
    rw [exec_tst]
    exact execTst_keeps ..
  | movr n e =>
    rw [exec_movr]
    exact execMovr_keeps ..
  | setscale n e =>
    rw [exec_setscale]
    exact execSetscale_keeps ..
  | nop n e =>
    rw [exec_nop]
    exact execNop_keeps ..
  | ldi n e =>
    rw [exec_ldi]
    exact execLdi_keeps ..
  | ldx n e =>
    rw [exec_ldx]
    exact execLdx_keeps ..
  | stx n e =>
    rw [exec_stx]
    exact execStx_keeps ..
  | ldy n e =>
    rw [exec_ldy]
    exact execLdy_keeps ..
  | sty n e =>
    rw [exec_sty]
    exact execSty_keeps ..
  | lea n e =>
    rw [exec_lea]
    exact execLea_keeps ..
  | addi n e =>
    rw [exec_addi]
    exact execAddi_keeps ..
  | bcc n e =>
    rw [exec_bcc]
    exact execBcc_keeps ..
  | jsr n e =>
    rw [exec_jsr]
    exact execJsr_keeps ..
  | rts n e =>
    rw [exec_rts]
    exact execRts_keeps ..
  | rti n e =>
    rw [exec_rti]
    exact execRti_keeps ..
  | loop n e =>
    rw [exec_loop]
    exact execLoop_keeps ..
  | loopr n e =>
    rw [exec_loopr]
    exact execLoopr_keeps ..
  | rep n e =>
    rw [exec_rep]
    exact execRep_keeps ..
  | repr n e =>
    rw [exec_repr]
    exact execRepr_keeps ..
  | lexit n e =>
    rw [exec_lexit]
    exact execLexit_keeps ..
  | blkend n e =>
    rw [exec_blkend]
    exact execBlkend_keeps ..
  | trap n e =>
    rw [exec_trap]
    exact execTrap_keeps ..
  | halt n e =>
    rw [exec_halt]
    exact execHalt_keeps ..
  | dspDoorbell m n =>
    rw [exec_dspDoorbell]
    exact execDspDoorbell_keeps ..
  | dspInterrupt n =>
    rw [exec_dspInterrupt]
    exact execDspInterrupt_keeps ..
  | qinItemCopy n i =>
    rw [exec_qinItemCopy]
    exact execQinItemCopy_keeps ..
  | blockPending n j =>
    rw [exec_blockPending]
    exact execBlockPending_keeps ..
  | returnDeadline n j =>
    rw [exec_returnDeadline]
    exact execReturnDeadline_keeps ..
  | dspCoreStop n =>
    rw [exec_dspCoreStop]
    exact execDspCoreStop_keeps ..
  | debugHalt t =>
    rw [exec_debugHalt]
    exact execDebugHalt_keeps ..
  | latchPoint n frame aged =>
    rw [exec_latchPoint]
    exact execLatchPoint_keeps ..
  | layerArm m n l v =>
    rw [exec_layerArm]
    exact execLayerArm_keeps ..
  | layerCancel m n l =>
    rw [exec_layerCancel]
    exact execLayerCancel_keeps ..
  | headCommit m n =>
    rw [exec_headCommit]
    exact execHeadCommit_keeps ..
  | headCancel m n =>
    rw [exec_headCancel]
    exact execHeadCancel_keeps ..
  | fenceSignal m n v =>
    rw [exec_fenceSignal]
    exact execFenceSignal_keeps ..
  | fenceItem n =>
    rw [exec_fenceItem]
    exact execFenceItem_keeps ..
  | lutselWrite m n v =>
    rw [exec_lutselWrite]
    exact execLutselWrite_keeps ..
  | lutWrite m n o v =>
    rw [exec_lutWrite]
    exact execLutWrite_keeps ..
  | shadowWrite m n w v =>
    rw [exec_shadowWrite]
    exact execShadowWrite_keeps ..
  | targetTimeout m addr write =>
    rw [exec_targetTimeout]
    exact execTargetTimeout_keeps ..
  | masterReset m b =>
    rw [exec_masterReset]
    exact execMasterReset_keeps ..
  | linkTrained repaired =>
    rw [exec_linkTrained]
    exact execLinkTrained_keeps ..
  | linkRetrain repaired =>
    rw [exec_linkRetrain]
    exact execLinkRetrain_keeps ..
  | linkDown b =>
    rw [exec_linkDown]
    exact execLinkDown_keeps ..
  | hotReset b =>
    rw [exec_hotReset]
    exact execHotReset_keeps ..
  | d3hotEntry b =>
    rw [exec_d3hotEntry]
    exact execD3hotEntry_keeps ..
  | replayThreshold n =>
    rw [exec_replayThreshold]
    exact execReplayThreshold_keeps ..
  | msixUnmask m n =>
    rw [exec_msixUnmask]
    exact execMsixUnmask_keeps ..
  | mbxReq m b v =>
    rw [exec_mbxReq]
    exact execMbxReq_keeps ..
  | mbxRsp m b v =>
    rw [exec_mbxRsp]
    exact execMbxRsp_keeps ..
  | coalesceWindowClose n =>
    rw [exec_coalesceWindowClose]
    exact execCoalesceWindowClose_keeps ..
  | stormPeriodEnd =>
    rw [exec_stormPeriodEnd]
    exact execStormPeriodEnd_keeps ..
  | stormRelease m n v =>
    rw [exec_stormRelease]
    exact execStormRelease_keeps ..
  | stormReleaseTimeout n =>
    rw [exec_stormReleaseTimeout]
    exact execStormReleaseTimeout_keeps ..
  | force m n v =>
    rw [exec_force]
    exact execForce_keeps ..
  | recoveryTake m v =>
    rw [exec_recoveryTake]
    exact execRecoveryTake_keeps ..
  | recoveryDone m v =>
    rw [exec_recoveryDone]
    exact execRecoveryDone_keeps ..
  | recoveryOverdue =>
    rw [exec_recoveryOverdue]
    exact execRecoveryOverdue_keeps ..
  | safeEntry =>
    rw [exec_safeEntry]
    exact execSafeEntry_keeps ..
  | scrubPassComplete k =>
    rw [exec_scrubPassComplete]
    exact execScrubPassComplete_keeps ..
  | hbmStackFailed k training =>
    rw [exec_hbmStackFailed]
    exact execHbmStackFailed_keeps ..
  | hbmTempHigh k =>
    rw [exec_hbmTempHigh]
    exact execHbmTempHigh_keeps ..
  | chkResult u data id gap =>
    rw [exec_chkResult]
    exact execChkResult_keeps ..
  | chkPassDone u uncorrectable =>
    rw [exec_chkPassDone]
    exact execChkPassDone_keeps ..
  | claimInAssert =>
    rw [exec_claimInAssert]
    exact execClaimInAssert_keeps ..
  | claimInDeassert =>
    rw [exec_claimInDeassert]
    exact execClaimInDeassert_keeps ..
  | claimOutAssert =>
    rw [exec_claimOutAssert]
    exact execClaimOutAssert_keeps ..
  | drivingStart =>
    rw [exec_drivingStart]
    exact execDrivingStart_keeps ..
  | lineFault =>
    rw [exec_lineFault]
    exact execLineFault_keeps ..
  | twinHeartbeatSend =>
    rw [exec_twinHeartbeatSend]
    exact execTwinHeartbeatSend_keeps ..
  | mgmtHeartbeatSend =>
    rw [exec_mgmtHeartbeatSend]
    exact execMgmtHeartbeatSend_keeps ..
  | twinHeartbeat path bs =>
    rw [exec_twinHeartbeat]
    exact execTwinHeartbeat_keeps ..
  | pathLost link =>
    rw [exec_pathLost]
    exact execPathLost_keeps ..
  | resyncSend kind index n starts =>
    rw [exec_resyncSend]
    exact execResyncSend_keeps ..
  | resyncMessage bs own =>
    rw [exec_resyncMessage]
    exact execResyncMessage_keeps ..
  | claimDrop =>
    rw [exec_claimDrop]
    exact execClaimDrop_keeps ..
  | claimTake m v =>
    rw [exec_claimTake]
    exact execClaimTake_keeps ..
  | claimRelease m =>
    rw [exec_claimRelease]
    exact execClaimRelease_keeps ..
  | syncStageComplete =>
    rw [exec_syncStageComplete]
    exact execSyncStageComplete_keeps ..
  | standbyEntry =>
    rw [exec_standbyEntry]
    exact execStandbyEntry_keeps ..
  | nonceRead m =>
    rw [exec_nonceRead]
    exact execNonceRead_keeps ..
  | unlock m slot =>
    rw [exec_unlock]
    exact execUnlock_keeps ..
  | relock m slot =>
    rw [exec_relock]
    exact execRelock_keeps ..
  | provision m slot =>
    rw [exec_provision]
    exact execProvision_keeps ..
  | deploy m slot =>
    rw [exec_deploy]
    exact execDeploy_keeps ..
  | secReturn m slot =>
    rw [exec_secReturn]
    exact execSecReturn_keeps ..
  | revokeOwner m slot =>
    rw [exec_revokeOwner]
    exact execRevokeOwner_keeps ..
  | revokeSafety m slot =>
    rw [exec_revokeSafety]
    exact execRevokeSafety_keeps ..
  | raiseFloor m slot =>
    rw [exec_raiseFloor]
    exact execRaiseFloor_keeps ..
  | ackSafety m slot =>
    rw [exec_ackSafety]
    exact execAckSafety_keeps ..
  | quietRequest m =>
    rw [exec_quietRequest]
    exact execQuietRequest_keeps ..
  | leaveQuiet m =>
    rw [exec_leaveQuiet]
    exact execLeaveQuiet_keeps ..
  | supplyOutOfRange rail =>
    rw [exec_supplyOutOfRange]
    exact execSupplyOutOfRange_keeps ..
  | tempWarning t =>
    rw [exec_tempWarning]
    exact execTempWarning_keeps ..
  | tempCritical t =>
    rw [exec_tempCritical]
    exact execTempCritical_keeps ..
  | clockMonitor domains =>
    rw [exec_clockMonitor]
    exact execClockMonitor_keeps ..
  | safetyMeasurement i ohms =>
    rw [exec_safetyMeasurement]
    exact execSafetyMeasurement_keeps ..
  | bandRecognised is =>
    rw [exec_bandRecognised]
    exact execBandRecognised_keeps ..
  | overrideArm =>
    rw [exec_overrideArm]
    exact execOverrideArm_keeps ..
  | safetyReminder i =>
    rw [exec_safetyReminder]
    exact execSafetyReminder_keeps ..
  | gpiEdge n active t =>
    rw [exec_gpiEdge]
    exact execGpiEdge_keeps ..
  | gpiRateWindow n =>
    rw [exec_gpiRateWindow]
    exact execGpiRateWindow_keeps ..
  | gpiStuck n =>
    rw [exec_gpiStuck]
    exact execGpiStuck_keeps ..
  | gpiFifoRead m =>
    rw [exec_gpiFifoRead]
    exact execGpiFifoRead_keeps ..
  | vfieldOutOfRange mv =>
    rw [exec_vfieldOutOfRange]
    exact execVfieldOutOfRange_keeps ..
  | fieldStatusFrame good mv =>
    rw [exec_fieldStatusFrame]
    exact execFieldStatusFrame_keeps ..
  | fieldLinkDown =>
    rw [exec_fieldLinkDown]
    exact execFieldLinkDown_keeps ..
  | fieldLinkUp =>
    rw [exec_fieldLinkUp]
    exact execFieldLinkUp_keeps ..
  | gpoOverload n =>
    rw [exec_gpoOverload]
    exact execGpoOverload_keeps ..
  | gpoFaultClear m v overloaded =>
    rw [exec_gpoFaultClear]
    exact execGpoFaultClear_keeps ..
  | cellRelease slot n typ k live =>
    rw [exec_cellRelease]
    exact execCellRelease_keeps ..
  | vfieldInRange mv =>
    rw [exec_vfieldInRange]
    exact execVfieldInRange_keeps ..
  | scrubRead k ecc =>
    rw [exec_scrubRead]
    exact execScrubRead_keeps ..
  | prbsCheckerLock l bits =>
    rw [exec_prbsCheckerLock]
    exact execPrbsCheckerLock_keeps ..
  | pdmClockReturn q =>
    rw [exec_pdmClockReturn]
    exact execPdmClockReturn_keeps ..
  | configWrite bme msixEn funcMask dstate =>
    rw [exec_configWrite]
    exact execConfigWrite_keeps ..
  | jtagInstruction i =>
    rw [exec_jtagInstruction]
    exact execJtagInstruction_keeps ..
  | debugStep t e =>
    rw [exec_debugStep]
    exact execDebugStep_keeps ..

/-- A step of a command is that command on the state with the queue's rest. -/
theorem step_cons {s : State} {c : Instr} {rest : List Instr} (h : s.pending = c :: rest) :
    step s = exec c { s with pending := rest } := by
  rw [step, h]

/-- A step with nothing waiting is a tick. -/
theorem step_nil {s : State} (h : s.pending = []) : step s = .next (tickAll s) := by
  rw [step, h]

/-- What a step can do to the part, the queue, the fuses and the canonical forms. -/
theorem step_keeps {s t : State} (h : step s = .next t) : Keeps { s with pending := s.pending.tail } t := by
  cases hp : s.pending with
  | nil =>
    rw [step_nil hp] at h
    injection h with h
    rw [← h]
    have k := tickAll_keeps (Keeps.refl s)
    exact ⟨k.1, k.2.trans hp, k.3, k.4, k.5, k.6⟩
  | cons c r =>
    rw [step_cons hp] at h
    exact (exec_keeps _ _).keep _ h

end Sys2Proof.Machine
end

