-- ==== Sys2Proof/Laws/Touches.lean ====
section
/-!
SUPPORT. What the shared operations leave alone, in terms of `Touches`: one lemma for each way a state is built, and one for each
report that the machine makes (an asserted source, a refusal, an error response).
-/
namespace Sys2Proof.Machine

variable {fs gs : List Fld} {s t u : State}

namespace Touches

theorem refl (fs : List Fld) (s : State) : Touches fs s s := ⟨rfl, fun _ _ _ => rfl⟩

theorem trans (h : Touches fs s t) (k : Touches fs t u) : Touches fs s u := by
  refine ⟨?_, fun f i hf => (k.2 f i hf).trans (h.2 f i hf)⟩
  rw [k.1, h.1]

theorem mono (h : Touches fs s t) (hs : ∀ f ∈ fs, f ∈ gs) : Touches gs s t :=
  ⟨h.1, fun f i hf => h.2 f i (fun k => hf (hs f k))⟩

/-- A field outside the list keeps its value. -/
theorem get (h : Touches fs s t) {f : Fld} (hf : f ∉ fs) (i : Nat) : t.get f i = s.get f i := h.2 f i hf

theorem put {f : Fld} (hf : f ∈ fs) (i v : Nat) (h : Touches fs s t) : Touches fs s (t.put f i v) := by
  refine trans h ⟨rfl, fun g j hg => ?_⟩
  exact State.get_put_other t (fun e : f = g => hg (e ▸ hf)) i j v

theorem putFlag {f : Fld} (hf : f ∈ fs) (i : Nat) (b : Bool) (h : Touches fs s t) : Touches fs s (t.putFlag f i b) := put hf _ _ h
theorem bump {f : Fld} (hf : f ∈ fs) (i k : Nat) (h : Touches fs s t) : Touches fs s (t.bump f i k) := put hf _ _ h
theorem inc {f : Fld} (hf : f ∈ fs) (i : Nat) (h : Touches fs s t) : Touches fs s (t.inc f i) := put hf _ _ h

theorem clear {f : Fld} (hf : f ∈ fs) (i : Nat) (h : Touches fs s t) : Touches fs s (t.clear f i) := by
  refine trans h ⟨rfl, fun g j hg => ?_⟩
  rw [State.get_clear, if_neg (fun e : f = g ∧ i = j => hg (e.1 ▸ hf))]

/-- A change of the answer on the bus, of what has left the device and of the fault unit's records. -/
theorem records (h : Touches fs s t) (hr : u.regs = t.regs)
    (hu : u = { t with regs := u.regs, out := u.out, busResp := u.busResp, recovQueue := u.recovQueue, recovActive := u.recovActive, logWaiting := u.logWaiting }) :
    Touches fs s u := by
  refine trans h ⟨hu, fun f i _ => State.get_congr hr ?_ f i⟩
  rw [hu]

theorem emit (o : Out) (h : Touches fs s t) : Touches fs s (t.emit o) := records h rfl rfl
theorem respond (d : Nat) (e : Bool) (h : Touches fs s t) : Touches fs s (t.respond d e) := records h rfl rfl

theorem ite {c : Prop} [Decidable c] {a b : State} (ha : Touches fs s a) (hb : Touches fs s b) :
    Touches fs s (if c then a else b) := by
  split <;> assumption

theorem onlyIf (c : Bool) {f : State → State} (hf : ∀ u, Touches fs u (f u)) (h : Touches fs s t) :
    Touches fs s (onlyIf c f t) := by
  unfold Machine.onlyIf
  exact ite (trans h (hf t)) h

theorem forAll {α : Type} (l : List α) {f : α → State → State} (hf : ∀ a u, Touches fs u (f a u)) (h : Touches fs s t) :
    Touches fs s (forAll l f t) := by
  unfold Machine.forAll
  induction l generalizing t with
  | nil => exact h
  | cons a l ih => exact ih (trans h (hf a t))

end Touches

/-! ### Reports -/

theorem msixSend_touches (n : Nat) (h : Touches reportFields s t) : Touches reportFields s (msixSend n t) := by
  unfold msixSend
  refine Touches.ite (Touches.ite ?_ ?_) h
  · exact Touches.put (by decide) _ _ (Touches.emit _ h)
  · exact Touches.put (by decide) _ _ h

theorem raiseSource_touches (n : Nat) (h : Touches reportFields s t) : Touches reportFields s (raiseSource n t) := by
  unfold raiseSource
  refine Touches.onlyIf _ (fun u => msixSend_touches n (Touches.refl _ u)) ?_
  refine Touches.onlyIf _ (fun u => Touches.emit _ (Touches.refl _ u)) ?_
  refine Touches.put (by decide) _ _ (Touches.ite h ?_)
  exact Touches.put (by decide) _ _ (Touches.put (by decide) _ _ h)

theorem raiseAndOpen_touches (n : Nat) (h : Touches reportFields s t) : Touches reportFields s (raiseAndOpen n t) := by
  unfold raiseAndOpen
  exact Touches.put (by decide) _ _ (Touches.putFlag (by decide) _ _ (raiseSource_touches n h))

theorem latchFirst_touches (b n : Nat) (h : Touches reportFields s t) : Touches reportFields s (latchFirst b n t) := by
  unfold latchFirst
  refine Touches.ite (Touches.bump (by decide) _ _ h) ?_
  repeat' first | exact h | refine Touches.put (by decide) _ _ ?_

theorem queueLog_touches (n cls flags : Nat) (always : Bool) (detail : List Nat) (h : Touches reportFields s t) :
    Touches reportFields s (queueLog n cls flags always detail t) := by
  unfold queueLog
  exact Touches.put (by decide) _ _ (Touches.records h rfl rfl)

theorem recordRecovery_touches (n : Nat) (detail : List Nat) (h : Touches reportFields s t) :
    Touches reportFields s (recordRecovery n detail t) := by
  unfold recordRecovery
  refine Touches.ite (Touches.records h rfl rfl) (Touches.ite ?_ ?_)
  · exact queueLog_touches _ _ _ _ _ (Touches.records h rfl rfl)
  · exact queueLog_touches _ _ _ _ _ (Touches.bump (by decide) _ _ h)

theorem recordFatal_touches (n : Nat) (detail : List Nat) (h : Touches reportFields s t) :
    Touches reportFields s (recordFatal n detail t) := by
  unfold recordFatal
  refine queueLog_touches _ _ _ _ _ (Touches.onlyIf _ (fun u => ?_) h)
  refine Touches.put (by decide) _ _ (Touches.trans (t := (((u.put .FLT_STAT_FATAL 0 1).put .FLT_STAT_FATAL_SRC 0 n).put
    .FLT_FATAL_NS 0 t.now.ns).put .FLT_FATAL_SEC 0 t.now.sec) ?_ (Touches.records (Touches.refl _ _) rfl rfl))
  repeat' first | exact Touches.refl _ u | refine Touches.put (by decide) _ _ ?_

theorem raiseControlled_touches (n : Nat) {other : State → State} (ho : ∀ u, Touches reportFields u (other u))
    (h : Touches reportFields s t) : Touches reportFields s (raiseControlled n other t) := by
  have hp := Touches.put (f := .SRC_PERIOD_COUNT) (by decide) n (t.get .SRC_PERIOD_COUNT n + 1) h
  unfold raiseControlled
  refine Touches.ite hp (Touches.ite (Touches.trans ?_ (ho _)) (Touches.ite hp (Touches.ite ?_ (raiseAndOpen_touches n hp))))
  · exact Touches.put (by decide) _ _ (Touches.put (by decide) _ _ hp)
  · exact Touches.put (by decide) _ _ hp

theorem assertWith_touches {other : State → State} (ho : ∀ u, Touches reportFields u (other u)) (n cls : Nat) (forced : Bool)
    (detail : List Nat) (h : Touches reportFields s t) : Touches reportFields s (assertWith other n cls forced detail t) := by
  unfold assertWith
  refine raiseControlled_touches n ho ?_
  refine Touches.onlyIf _ (fun u => recordFatal_touches _ _ (Touches.refl _ u)) ?_
  refine Touches.onlyIf _ (fun u => recordRecovery_touches _ _ (Touches.refl _ u)) ?_
  refine Touches.onlyIf _ (fun u => latchFirst_touches _ _ (latchFirst_touches _ _ (Touches.refl _ u))) ?_
  exact Touches.bump (by decide) _ _ (Touches.put (by decide) _ _ (Touches.bump (by decide) _ _ h))

theorem assertStorm_touches (h : Touches reportFields s t) : Touches reportFields s (assertStorm t) :=
  assertWith_touches (fun u => Touches.refl _ u) _ _ _ _ h

/-- Asserting a source changes what the fault unit reports and nothing else (R481 to R497). -/
theorem assertDetail_report (n cls : Nat) (detail : List Nat) (s : State) : Touches reportFields s (assertDetail n cls detail s) :=
  assertWith_touches (fun u => assertStorm_touches (Touches.refl _ u)) _ _ _ _ (Touches.refl _ s)

theorem assertEv_report (n cls : Nat) (s : State) : Touches reportFields s (assertEv n cls s) := assertDetail_report n cls [] s

theorem notice_report (n : Nat) (s : State) : Touches reportFields s (notice n s) := assertEv_report n 0 s

/-- Recording a refusal changes the refusal log and what the fault unit reports (R78). -/
theorem refuse_report (code word : Nat) (m : Master) (s : State) :
    Touches (refuseFields ++ reportFields) s (refuse code word m s) := by
  unfold refuse
  refine Touches.trans ?_ (Touches.mono (notice_report 506 _) (by decide))
  refine Touches.put (by decide) _ _ (Touches.bump (by decide) _ _ ?_)
  exact Touches.put (by decide) _ _ (Touches.put (by decide) _ _ (Touches.refl _ s))

namespace Touches

variable (hr : ∀ f ∈ reportFields, f ∈ fs)
include hr

theorem assertDetail (n cls : Nat) (detail : List Nat) (h : Touches fs s t) : Touches fs s (assertDetail n cls detail t) :=
  trans h (mono (assertDetail_report n cls detail t) hr)

theorem assertEv (n cls : Nat) (h : Touches fs s t) : Touches fs s (assertEv n cls t) := trans h (mono (assertEv_report n cls t) hr)

theorem notice (n : Nat) (h : Touches fs s t) : Touches fs s (notice n t) := trans h (mono (notice_report n t) hr)

theorem setCauses {evt en : Fld} (he : evt ∈ fs) (i mask src cls : Nat) (h : Touches fs s t) :
    Touches fs s (setCauses evt en i mask src cls t) := by
  unfold Machine.setCauses
  exact onlyIf _ (fun u => assertEv hr _ _ (refl _ u)) (put he _ _ h)

theorem refuse (hl : ∀ f ∈ refuseFields, f ∈ fs) (code word : Nat) (m : Master) (h : Touches fs s t) :
    Touches fs s (refuse code word m t) :=
  trans h (mono (refuse_report code word m t) (fun f hf => (List.mem_append.mp hf).elim (hl f) (hr f)))

end Touches

/-! ### Values behind a report -/

theorem State.get_assertEv (n cls : Nat) (s : State) {f : Fld} (hf : f ∉ reportFields) (i : Nat) :
    (assertEv n cls s).get f i = s.get f i := (assertEv_report n cls s).get hf i

theorem State.get_assertDetail (n cls : Nat) (d : List Nat) (s : State) {f : Fld} (hf : f ∉ reportFields) (i : Nat) :
    (assertDetail n cls d s).get f i = s.get f i := (assertDetail_report n cls d s).get hf i

theorem State.get_notice (n : Nat) (s : State) {f : Fld} (hf : f ∉ reportFields) (i : Nat) :
    (notice n s).get f i = s.get f i := (notice_report n s).get hf i

theorem State.get_refuse (code word : Nat) (m : Master) (s : State) {f : Fld} (hf : f ∉ refuseFields ++ reportFields) (i : Nat) :
    (refuse code word m s).get f i = s.get f i := (refuse_report code word m s).get hf i

theorem State.get_setCauses {evt en : Fld} (i mask src cls : Nat) (s : State) {f : Fld} (hf : f ∉ reportFields) (j : Nat) :
    (setCauses evt en i mask src cls s).get f j = (s.put evt i (s.get evt i ||| mask)).get f j := by
  unfold setCauses onlyIf
  dsimp only
  split
  · exact State.get_assertEv _ _ _ hf j
  · rfl

/-! ### The count and the class of an asserted source -/

/-- Only storm 510 changes a count or a class behind the assertion of another source. -/
def KeepsCount (n : Nat) (s t : State) : Prop :=
  t.get .FLT_SRC_STAT_COUNT n = s.get .FLT_SRC_STAT_COUNT n ∧ t.get .FLT_SRC_STAT_LAST_CLASS n = s.get .FLT_SRC_STAT_LAST_CLASS n

namespace KeepsCount

variable {n : Nat}

theorem refl (n : Nat) (s : State) : KeepsCount n s s := ⟨rfl, rfl⟩

theorem trans (h : KeepsCount n s t) (k : KeepsCount n t u) : KeepsCount n s u := ⟨k.1.trans h.1, k.2.trans h.2⟩

theorem put {f : Fld} (hf : f ≠ .FLT_SRC_STAT_COUNT) (hg : f ≠ .FLT_SRC_STAT_LAST_CLASS) (i v : Nat) (h : KeepsCount n s t) :
    KeepsCount n s (t.put f i v) :=
  trans h ⟨State.get_put_other _ hf .., State.get_put_other _ hg ..⟩

theorem other {f : Fld} {i : Nat} (hi : i ≠ n) (v : Nat) (h : KeepsCount n s t) : KeepsCount n s (t.put f i v) :=
  trans h ⟨State.get_put_index _ _ _ hi _, State.get_put_index _ _ _ hi _⟩

theorem records (h : KeepsCount n s t) (hr : u.regs = t.regs) (hv : u.variant = t.variant) : KeepsCount n s u :=
  trans h ⟨State.get_congr hr hv _ _, State.get_congr hr hv _ _⟩

theorem ite {c : Prop} [Decidable c] {a b : State} (ha : KeepsCount n s a) (hb : KeepsCount n s b) :
    KeepsCount n s (if c then a else b) := by
  split <;> assumption

theorem onlyIf (c : Bool) {f : State → State} (hf : ∀ u, KeepsCount n u (f u)) (h : KeepsCount n s t) :
    KeepsCount n s (onlyIf c f t) := by
  unfold Machine.onlyIf
  exact ite (trans h (hf t)) h

theorem raiseAndOpen (k : Nat) (h : KeepsCount n s t) : KeepsCount n s (raiseAndOpen k t) := by
  have send : ∀ u, KeepsCount n u (msixSend k u) := fun u => by
    unfold msixSend
    refine ite (ite ?_ ?_) (refl n u)
    · exact put (by decide) (by decide) _ _ (records (refl n u) rfl rfl)
    · exact put (by decide) (by decide) _ _ (refl n u)
  unfold Machine.raiseAndOpen raiseSource
  refine put (by decide) (by decide) _ _ (put (by decide) (by decide) _ _ ?_)
  refine onlyIf _ send (onlyIf _ (fun u => records (refl n u) rfl rfl) ?_)
  exact put (by decide) (by decide) _ _ (ite h (put (by decide) (by decide) _ _ (put (by decide) (by decide) _ _ h)))

theorem latchFirst (b k : Nat) (h : KeepsCount n s t) : KeepsCount n s (latchFirst b k t) := by
  unfold Machine.latchFirst
  refine ite (put (by decide) (by decide) _ _ h) ?_
  repeat' first | exact h | refine put (by decide) (by decide) _ _ ?_

theorem queueLog (k cls flags : Nat) (always : Bool) (detail : List Nat) (h : KeepsCount n s t) :
    KeepsCount n s (queueLog k cls flags always detail t) :=
  put (by decide) (by decide) _ _ (records h rfl rfl)

theorem recordRecovery (k : Nat) (detail : List Nat) (h : KeepsCount n s t) : KeepsCount n s (recordRecovery k detail t) := by
  unfold Machine.recordRecovery
  refine ite (records h rfl rfl) (ite ?_ ?_)
  · exact queueLog _ _ _ _ _ (records h rfl rfl)
  · exact queueLog _ _ _ _ _ (put (by decide) (by decide) _ _ h)

theorem recordFatal (k : Nat) (detail : List Nat) (h : KeepsCount n s t) : KeepsCount n s (recordFatal k detail t) := by
  unfold Machine.recordFatal
  refine queueLog _ _ _ _ _ (onlyIf _ (fun u => ?_) h)
  refine put (by decide) (by decide) _ _ (records (t := (((u.put .FLT_STAT_FATAL 0 1).put .FLT_STAT_FATAL_SRC 0 k).put
    .FLT_FATAL_NS 0 t.now.ns).put .FLT_FATAL_SEC 0 t.now.sec) ?_ rfl rfl)
  repeat' first | exact refl n u | refine put (by decide) (by decide) _ _ ?_

theorem raiseControlled (k : Nat) {other : State → State} (ho : ∀ u, KeepsCount n u (other u)) (h : KeepsCount n s t) :
    KeepsCount n s (raiseControlled k other t) := by
  have hp := put (f := .SRC_PERIOD_COUNT) (by decide) (by decide) k (t.get .SRC_PERIOD_COUNT k + 1) h
  unfold Machine.raiseControlled
  refine ite hp (ite (trans ?_ (ho _)) (ite hp (ite ?_ (raiseAndOpen k hp))))
  · exact put (by decide) (by decide) _ _ (put (by decide) (by decide) _ _ hp)
  · exact put (by decide) (by decide) _ _ hp

/-- What an assertion does behind the count and the class. -/
theorem behind (k cls : Nat) (forced : Bool) (detail : List Nat) {other : State → State} (ho : ∀ u, KeepsCount n u (other u))
    (h : KeepsCount n s t) :
    KeepsCount n s (Machine.raiseControlled k other (Machine.onlyIf (!forced && cls == 3) (Machine.recordFatal k detail)
      (Machine.onlyIf (!forced && cls == 2) (Machine.recordRecovery k detail)
        (Machine.onlyIf (!forced) (fun s => Machine.latchFirst 18 k (Machine.latchFirst (sourceRange k) k s)) (t.bump .SRC_SINCE_LOG k))))) := by
  refine raiseControlled k ho (onlyIf _ (fun u => recordFatal _ _ (refl n u)) (onlyIf _ (fun u => recordRecovery _ _ (refl n u)) ?_))
  exact onlyIf _ (fun u => latchFirst _ _ (latchFirst _ _ (refl n u))) (put (by decide) (by decide) _ _ h)

theorem storm (hn : n ≠ 510) (h : KeepsCount n s t) : KeepsCount n s (assertStorm t) := by
  unfold assertStorm assertWith
  exact behind 510 0 false [] (fun u => refl n u) (other hn.symm _ (other hn.symm _ h))

end KeepsCount

/-- An assertion raises the source's count by one and sets its last class (R481, R482). -/
theorem assertDetail_asserted {n cls : Nat} (detail : List Nat) (s : State) (hn : n ≠ 510) (hc : cls < 4) :
    Asserted n cls s (assertDetail n cls detail s) := by
  have k := KeepsCount.behind (n := n) n cls false detail (fun u => KeepsCount.storm hn (KeepsCount.refl n u))
    (KeepsCount.refl n ((s.bump .FLT_SRC_STAT_COUNT n).put .FLT_SRC_STAT_LAST_CLASS n cls))
  refine ⟨k.1.trans ?_, k.2.trans ?_⟩
  · rw [State.get_put_other _ (by decide), State.bump, State.get_put_self]
    refine Nat.mod_eq_of_lt ?_
    show satAdd 16 _ 1 < 2 ^ 16
    unfold satAdd
    split <;> omega
  · rw [State.get_put_self]
    show cls % 2 ^ 2 = cls
    omega

theorem assertEv_asserted {n cls : Nat} (s : State) (hn : n ≠ 510) (hc : cls < 4) : Asserted n cls s (assertEv n cls s) :=
  assertDetail_asserted [] s hn hc

theorem notice_asserted {n : Nat} (s : State) (hn : n ≠ 510) : Asserted n 0 s (notice n s) := assertEv_asserted s hn (by decide)

theorem satAdd_lt (w v k : Nat) : satAdd w v k < 2 ^ w := by
  unfold satAdd
  have := Nat.two_pow_pos w
  split <;> omega

/-- A refusal is recorded whole (R78). -/
theorem refuse_refused {code word : Nat} (m : Master) (s : State) (hc : code < 2 ^ 8) (hw : word < 2 ^ 24) :
    Refused code word m s (refuse code word m s) := by
  unfold refuse
  refine ⟨?_, ?_, ?_, ?_, ?_⟩
  · rw [State.get_notice _ _ (by decide), State.get_put_other _ (by decide), State.bump, State.get_put_other _ (by decide),
      State.get_put_other _ (by decide), State.get_put_self]
    exact Nat.mod_eq_of_lt hc
  · rw [State.get_notice _ _ (by decide), State.get_put_other _ (by decide), State.bump, State.get_put_other _ (by decide),
      State.get_put_self]
    exact Nat.mod_eq_of_lt hw
  · rw [State.get_notice _ _ (by decide), State.get_put_self]
    cases m <;> rfl
  · rw [State.get_notice _ _ (by decide), State.get_put_other _ (by decide), State.bump, State.get_put_self,
      State.get_put_other _ (by decide), State.get_put_other _ (by decide)]
    exact Nat.mod_eq_of_lt (satAdd_lt 16 _ 1)
  · refine ⟨((notice_asserted _ (by decide)).1).trans ?_, (notice_asserted _ (by decide)).2⟩
    rw [State.get_put_other _ (by decide), State.bump, State.get_put_other _ (by decide), State.get_put_other _ (by decide),
      State.get_put_other _ (by decide)]

/-- What precedes an assertion may change any field but the source's count. -/
theorem Asserted.after {n cls : Nat} (hs : t.get .FLT_SRC_STAT_COUNT n = s.get .FLT_SRC_STAT_COUNT n) (h : Asserted n cls t u) :
    Asserted n cls s u := by
  unfold Asserted at *
  rwa [← hs]

/-! ### Gated writes and conditions -/

/-- A write that passes the gate has its effect, and the bus answers without error (R459). -/
theorem writeGated_pass {m : Master} {off : Nat} {s : State} (h : Passes m off s) (eff : State → State) :
    writeGated m off eff s = eff (s.respond 0 false) := by
  unfold writeGated
  rw [show regGate m off 4 true s = none from h]

@[simp] theorem onlyIf_true (f : State → State) (s : State) : onlyIf true f s = f s := rfl
@[simp] theorem onlyIf_false (f : State → State) (s : State) : onlyIf false f s = s := rfl

end Sys2Proof.Machine
end

