-- ==== Sys2Proof/Tests/Slice0.lean ====
section
/-!
SUPPORT. Tests: ill-formed commands that WellFormed refuses, values that the spec's tables and formulas give, and for every statement
with hypotheses a witness theorem that meets them, clause by clause. A witness names its values; nothing here runs more than one step.
-/
namespace Sys2Proof.Tests
open Sys2Proof Sys2Proof.Machine

/-- A small state: reset, with some register fields written. -/
def put (l : List (Fld × Nat × Nat)) : State := l.foldl (fun s c => s.put c.1 c.2.1 c.2.2) State.reset

/-- The state that a meaning answers. -/
def result (o : Host.Outcome State Fault Refusal) : State := match o with | .next t => t | _ => State.reset

/-! ### WellFormed: an ill-formed command for each check -/

theorem test_wellFormed_refuses_1 :
    (∀ x1 x3, Instr.wf (.registerWrite (.st 4) x1 1 x3 1) = false)
    ∧ (∀ x1 x3, Instr.wf (.registerWrite .host x1 257 x3 1) = false)
    ∧ (∀ x1 x3, Instr.wf (.registerWrite .host x1 1 x3 (2 ^ 32)) = false)
    ∧ (Instr.wf (.enableSet .host ⟨.tb, 8⟩ 1) = false)
    ∧ (∀ x1, Instr.wf (.checkComplete ⟨.tb, 8⟩ x1) = false)
    ∧ (Instr.wf (.checkAbort .host ⟨.tb, 8⟩ 1) = false)
    ∧ (Instr.wf (.enableClear .host ⟨.tb, 8⟩ 1) = false)
    ∧ (Instr.wf (.stRun .host 16) = false)
    ∧ (Instr.wf (.gazStageWrite .host 2304 1 1) = false)
    ∧ (Instr.wf (.gazStageWrite .host 1 0 1) = false)
    ∧ (Instr.wf (.gazStageWrite .host 1 8 1) = false)
    ∧ (Instr.wf (.gazPublish .host 2304 1) = false)
    ∧ (Instr.wf (.gazEntrySend 2304) = false)
    ∧ (Instr.wf (.gazDigest 11 1) = false)
    ∧ (Instr.wf (.gazFetch 11) = false)
    ∧ (Instr.wf (.gazFetchRetry 11) = false)
    ∧ (∀ x1 x2, Instr.wf (.decisionPoint 256 x1 x2) = false)
    ∧ (∀ x1, Instr.wf (.meridian 256 x1) = false)
    ∧ (∀ x1, Instr.wf (.inputSpanComplete 96 x1) = false)
    ∧ (∀ x2, Instr.wf (.atlDraftWrite .host 96 x2 1) = false)
    ∧ (Instr.wf (.landingSpanComplete 1024 1) = false)
    ∧ (Instr.wf (.heartbeat 11 1 1 1 1) = false)
    ∧ (Instr.wf (.heartbeat 1 12 1 1 1) = false)
    ∧ (Instr.wf (.heartbeat 1 1 2 1 1) = false)
    ∧ (Instr.wf (.heartbeat 1 1 1 2 1) = false)
    ∧ (Instr.wf (.heartbeat 1 1 1 1 2) = false)
    ∧ (∀ x1, Instr.wf (.load 11 x1) = false)
    ∧ (Instr.wf (.loadTimeout 11) = false)
    ∧ (Instr.wf (.subReqSend 1024) = false)
    ∧ (∀ x5, Instr.wf (.subReq 11 1 1 1 1 x5) = false)
    ∧ (∀ x5, Instr.wf (.subReq 1 65536 1 1 1 x5) = false)
    ∧ (∀ x5, Instr.wf (.subReq 1 1 3 1 1 x5) = false)
    ∧ (∀ x5, Instr.wf (.subReq 1 1 1 3 1 x5) = false)
    ∧ (∀ x5, Instr.wf (.subReq 1 1 1 1 262144 x5) = false)
    ∧ (Instr.wf (.subGrant 65536 1 1 1) = false)
    ∧ (Instr.wf (.subGrant 1 4 1 1) = false)
    ∧ (Instr.wf (.subGrant 1 1 16 1) = false)
    ∧ (Instr.wf (.subRefuse 65536 1 1) = false)
    ∧ (Instr.wf (.subRefuse 1 256 1) = false)
    ∧ (Instr.wf (.subRefuse 1 1 256) = false) := by
  refine ⟨?_, ?_, ?_, ?_, ?_, ?_, ?_, ?_, ?_, ?_, ?_, ?_, ?_, ?_, ?_, ?_, ?_, ?_, ?_, ?_, ?_, ?_, ?_, ?_, ?_, ?_, ?_, ?_, ?_, ?_, ?_, ?_, ?_, ?_, ?_, ?_, ?_, ?_, ?_, ?_⟩ <;> intros <;> rfl

theorem test_wellFormed_refuses_2 :
    (Instr.wf (.subReqTimeout 1024) = false)
    ∧ (Instr.wf (.wpReq 11 1 { source := 0, kind := 0, coding := 0, receiver := 0, home := 0 } 1) = false)
    ∧ (Instr.wf (.wpReq 1 65536 { source := 0, kind := 0, coding := 0, receiver := 0, home := 0 } 1) = false)
    ∧ (Instr.wf (.wpReq 1 1 { source := 0, kind := 0, coding := 0, receiver := 0, home := 12 } 1) = false)
    ∧ (Instr.wf (.wpAnswer 11 1 1 1) = false)
    ∧ (Instr.wf (.wpAnswer 1 65536 1 1) = false)
    ∧ (Instr.wf (.wpAnswer 1 1 256 1) = false)
    ∧ (Instr.wf (.release { source := 0, kind := 0, coding := 0, receiver := 0, home := 12 } 1) = false)
    ∧ (Instr.wf (.migrate { source := 0, kind := 0, coding := 0, receiver := 0, home := 12 } 1 1 1) = false)
    ∧ (Instr.wf (.migrate { source := 0, kind := 0, coding := 0, receiver := 0, home := 0 } 4 1 1) = false)
    ∧ (Instr.wf (.migrate { source := 0, kind := 0, coding := 0, receiver := 0, home := 0 } 1 16 1) = false)
    ∧ (Instr.wf (.wpShed { source := 0, kind := 0, coding := 0, receiver := 0, home := 12 }) = false)
    ∧ (Instr.wf (.drop { source := 0, kind := 0, coding := 0, receiver := 0, home := 12 } 1 1) = false)
    ∧ (Instr.wf (.drop { source := 0, kind := 0, coding := 0, receiver := 0, home := 0 } 256 1) = false)
    ∧ (Instr.wf (.controlReserved 11) = false)
    ∧ (∀ x1 x2 x3, Instr.wf (.cellReceived 11 x1 x2 x3) = false)
    ∧ (∀ x1, Instr.wf (.spanMarker 11 x1) = false)
    ∧ (Instr.wf (.streamRelease 1024) = false)
    ∧ (Instr.wf (.peerLost 11) = false)
    ∧ (Instr.wf (.peerReturn 11) = false)
    ∧ (Instr.wf (.peerLossNotice 11) = false)
    ∧ (Instr.wf (.shedDecision 11) = false)
    ∧ (Instr.wf (.streamRerequest 1024) = false)
    ∧ (Instr.wf (.portLimitWrite .host 11 1) = false)
    ∧ (Instr.wf (.losSet 184) = false)
    ∧ (∀ x1, Instr.wf (.losClear 184 x1) = false)
    ∧ (∀ x3, Instr.wf (.lockAcquired 184 1 1 x3) = false)
    ∧ (∀ x3, Instr.wf (.lockAcquired 1 256 1 x3) = false)
    ∧ (∀ x3, Instr.wf (.lockAcquired 1 1 4 x3) = false)
    ∧ (Instr.wf (.lockLost 184) = false)
    ∧ (Instr.wf (.quadPllLock 46) = false)
    ∧ (Instr.wf (.quadPllLoss 46) = false)
    ∧ (∀ x1, Instr.wf (.quadSkew 184 x1) = false)
    ∧ (∀ x1, Instr.wf (.rxqEntry 184 x1) = false)
    ∧ (Instr.wf (.lanTestWrite .host 184 1) = false)
    ∧ (∀ x1, Instr.wf (.frameReceived 96 x1) = false)
    ∧ (Instr.wf (.pauseFrame 96 1) = false)
    ∧ (Instr.wf (.pauseFrame 1 65536) = false)
    ∧ (∀ x2, Instr.wf (.pfcFrame 96 1 x2) = false)
    ∧ (∀ x2, Instr.wf (.pfcFrame 1 256 x2) = false) := by
  refine ⟨?_, ?_, ?_, ?_, ?_, ?_, ?_, ?_, ?_, ?_, ?_, ?_, ?_, ?_, ?_, ?_, ?_, ?_, ?_, ?_, ?_, ?_, ?_, ?_, ?_, ?_, ?_, ?_, ?_, ?_, ?_, ?_, ?_, ?_, ?_, ?_, ?_, ?_, ?_, ?_⟩ <;> intros <;> rfl

theorem test_wellFormed_refuses_3 :
    (∀ x1, Instr.wf (.pauseExpiry 96 x1) = false)
    ∧ (Instr.wf (.rxEntryLost 2048) = false)
    ∧ (∀ x1 x2 x3 x4 x5 x6, Instr.wf (.mediaPacketSend 2048 x1 x2 x3 x4 x5 x6) = false)
    ∧ (Instr.wf (.txPacketLate 2048) = false)
    ∧ (Instr.wf (.largeSendComplete 2048) = false)
    ∧ (Instr.wf (.timedFrame 2048) = false)
    ∧ (Instr.wf (.launchTime 2048) = false)
    ∧ (Instr.wf (.timedFrameDeparture 2048 1) = false)
    ∧ (Instr.wf (.timedFrameDeparture 1 16) = false)
    ∧ (Instr.wf (.pktQProd .host 65536 1) = false)
    ∧ (Instr.wf (.pktQCons .host 65536 1) = false)
    ∧ (Instr.wf (.softFlush .host 65536 1) = false)
    ∧ (Instr.wf (.softFlushComplete 65536) = false)
    ∧ (Instr.wf (.hardFlush .host 65536 1) = false)
    ∧ (∀ x0 x2 x3, Instr.wf (.queueWordRead x0 65536 x2 x3) = false)
    ∧ (Instr.wf (.gclChange (.st 4) 1 1) = false)
    ∧ (Instr.wf (.gclChange .host 96 1) = false)
    ∧ (Instr.wf (.gclCycleStart 96) = false)
    ∧ (Instr.wf (.gateChange 96) = false)
    ∧ (Instr.wf (.gateDrop 96) = false)
    ∧ (Instr.wf (.incCommit .host 8 1) = false)
    ∧ (Instr.wf (.tbStep .host 8 1) = false)
    ∧ (Instr.wf (.tbSet .host 8 1) = false)
    ∧ (Instr.wf (.tbArm .host 8 1) = false)
    ∧ (Instr.wf (.tbDisarm .host 8 1) = false)
    ∧ (Instr.wf (.alarm 8) = false)
    ∧ (Instr.wf (.nowLatch .host 8) = false)
    ∧ (∀ x2, Instr.wf (.captureEdge 16 1 x2) = false)
    ∧ (∀ x2, Instr.wf (.captureEdge 1 16 x2) = false)
    ∧ (Instr.wf (.captureHeadRead .host 16) = false)
    ∧ (Instr.wf (.domainWrite .host 8 1) = false)
    ∧ (Instr.wf (.candidateWrite .host 16 1) = false)
    ∧ (Instr.wf (.thresholdWrite .host 4 1) = false)
    ∧ (Instr.wf (.audDraftWrite .host 16384 1) = false)
    ∧ (Instr.wf (.groupRelease 128) = false)
    ∧ (Instr.wf (.tdmFrameSync 16) = false)
    ∧ (Instr.wf (.tdmStop 16) = false)
    ∧ (Instr.wf (.pdmStop 4) = false)
    ∧ (Instr.wf (.tdmSlip 16) = false)
    ∧ (Instr.wf (.glitch 784) = false) := by
  refine ⟨?_, ?_, ?_, ?_, ?_, ?_, ?_, ?_, ?_, ?_, ?_, ?_, ?_, ?_, ?_, ?_, ?_, ?_, ?_, ?_, ?_, ?_, ?_, ?_, ?_, ?_, ?_, ?_, ?_, ?_, ?_, ?_, ?_, ?_, ?_, ?_, ?_, ?_, ?_, ?_⟩ <;> intros <;> rfl

theorem test_wellFormed_refuses_4 :
    (∀ x2, Instr.wf (.maskWrite .host 784 x2 1) = false)
    ∧ (Instr.wf (.portQualified 784) = false)
    ∧ (∀ x1, Instr.wf (.domainErr 784 x1) = false)
    ∧ (∀ x1, Instr.wf (.rateErr 784 x1) = false)
    ∧ (Instr.wf (.gainWrite .host 16384 1) = false)
    ∧ (∀ x1, Instr.wf (.mpy 32 x1) = false)
    ∧ (∀ x1, Instr.wf (.mac 32 x1) = false)
    ∧ (∀ x1, Instr.wf (.msu 32 x1) = false)
    ∧ (∀ x1, Instr.wf (.cmpy 32 x1) = false)
    ∧ (∀ x1, Instr.wf (.cmac 32 x1) = false)
    ∧ (∀ x1, Instr.wf (.cmacj 32 x1) = false)
    ∧ (∀ x1, Instr.wf (.firtap 32 x1) = false)
    ∧ (∀ x1, Instr.wf (.clr 32 x1) = false)
    ∧ (∀ x1, Instr.wf (.movd 32 x1) = false)
    ∧ (∀ x1, Instr.wf (.mova 32 x1) = false)
    ∧ (∀ x1, Instr.wf (.adda 32 x1) = false)
    ∧ (∀ x1, Instr.wf (.suba 32 x1) = false)
    ∧ (∀ x1, Instr.wf (.norm 32 x1) = false)
    ∧ (∀ x1, Instr.wf (.exp 32 x1) = false)
    ∧ (∀ x1, Instr.wf (.expd 32 x1) = false)
    ∧ (∀ x1, Instr.wf (.add 32 x1) = false)
    ∧ (∀ x1, Instr.wf (.sub 32 x1) = false)
    ∧ (∀ x1, Instr.wf (.adds 32 x1) = false)
    ∧ (∀ x1, Instr.wf (.subs 32 x1) = false)
    ∧ (∀ x1, Instr.wf (.and 32 x1) = false)
    ∧ (∀ x1, Instr.wf (.or 32 x1) = false)
    ∧ (∀ x1, Instr.wf (.xor 32 x1) = false)
    ∧ (∀ x1, Instr.wf (.abs 32 x1) = false)
    ∧ (∀ x1, Instr.wf (.neg 32 x1) = false)
    ∧ (∀ x1, Instr.wf (.max 32 x1) = false)
    ∧ (∀ x1, Instr.wf (.min 32 x1) = false)
    ∧ (∀ x1, Instr.wf (.mov 32 x1) = false)
    ∧ (∀ x1, Instr.wf (.asr 32 x1) = false)
    ∧ (∀ x1, Instr.wf (.lsr 32 x1) = false)
    ∧ (∀ x1, Instr.wf (.lsl 32 x1) = false)
    ∧ (∀ x1, Instr.wf (.cmp 32 x1) = false)
    ∧ (∀ x1, Instr.wf (.tst 32 x1) = false)
    ∧ (∀ x1, Instr.wf (.movr 32 x1) = false)
    ∧ (∀ x1, Instr.wf (.setscale 32 x1) = false)
    ∧ (∀ x1, Instr.wf (.nop 32 x1) = false) := by
  refine ⟨?_, ?_, ?_, ?_, ?_, ?_, ?_, ?_, ?_, ?_, ?_, ?_, ?_, ?_, ?_, ?_, ?_, ?_, ?_, ?_, ?_, ?_, ?_, ?_, ?_, ?_, ?_, ?_, ?_, ?_, ?_, ?_, ?_, ?_, ?_, ?_, ?_, ?_, ?_, ?_⟩ <;> intros <;> rfl

theorem test_wellFormed_refuses_5 :
    (∀ x1, Instr.wf (.ldi 32 x1) = false)
    ∧ (∀ x1, Instr.wf (.ldx 32 x1) = false)
    ∧ (∀ x1, Instr.wf (.stx 32 x1) = false)
    ∧ (∀ x1, Instr.wf (.ldy 32 x1) = false)
    ∧ (∀ x1, Instr.wf (.sty 32 x1) = false)
    ∧ (∀ x1, Instr.wf (.lea 32 x1) = false)
    ∧ (∀ x1, Instr.wf (.addi 32 x1) = false)
    ∧ (∀ x1, Instr.wf (.bcc 32 x1) = false)
    ∧ (∀ x1, Instr.wf (.jsr 32 x1) = false)
    ∧ (∀ x1, Instr.wf (.rts 32 x1) = false)
    ∧ (∀ x1, Instr.wf (.rti 32 x1) = false)
    ∧ (∀ x1, Instr.wf (.loop 32 x1) = false)
    ∧ (∀ x1, Instr.wf (.loopr 32 x1) = false)
    ∧ (∀ x1, Instr.wf (.rep 32 x1) = false)
    ∧ (∀ x1, Instr.wf (.repr 32 x1) = false)
    ∧ (∀ x1, Instr.wf (.lexit 32 x1) = false)
    ∧ (∀ x1, Instr.wf (.blkend 32 x1) = false)
    ∧ (∀ x1, Instr.wf (.trap 32 x1) = false)
    ∧ (∀ x1, Instr.wf (.halt 32 x1) = false)
    ∧ (Instr.wf (.dspDoorbell .host 32) = false)
    ∧ (Instr.wf (.dspInterrupt 32) = false)
    ∧ (Instr.wf (.qinItemCopy 32 1) = false)
    ∧ (Instr.wf (.qinItemCopy 1 2) = false)
    ∧ (∀ x1, Instr.wf (.blockPending 32 x1) = false)
    ∧ (∀ x1, Instr.wf (.returnDeadline 32 x1) = false)
    ∧ (Instr.wf (.dspCoreStop 32) = false)
    ∧ (Instr.wf (.debugHalt (.dsp 32)) = false)
    ∧ (∀ x1 x2, Instr.wf (.latchPoint 4 x1 x2) = false)
    ∧ (Instr.wf (.layerArm .host 4 1 1) = false)
    ∧ (Instr.wf (.layerArm .host 1 72 1) = false)
    ∧ (Instr.wf (.layerCancel .host 4 1) = false)
    ∧ (Instr.wf (.layerCancel .host 1 72) = false)
    ∧ (Instr.wf (.headCommit .host 4) = false)
    ∧ (Instr.wf (.headCancel .host 4) = false)
    ∧ (Instr.wf (.fenceSignal .host 4 1) = false)
    ∧ (Instr.wf (.fenceItem 4) = false)
    ∧ (Instr.wf (.lutselWrite .host 4 1) = false)
    ∧ (Instr.wf (.lutWrite .host 4 1 1) = false)
    ∧ (Instr.wf (.lutWrite .host 1 131072 1) = false)
    ∧ (Instr.wf (.shadowWrite .host 4 (.colour 0) 1) = false) := by
  refine ⟨?_, ?_, ?_, ?_, ?_, ?_, ?_, ?_, ?_, ?_, ?_, ?_, ?_, ?_, ?_, ?_, ?_, ?_, ?_, ?_, ?_, ?_, ?_, ?_, ?_, ?_, ?_, ?_, ?_, ?_, ?_, ?_, ?_, ?_, ?_, ?_, ?_, ?_, ?_, ?_⟩ <;> intros <;> rfl

theorem test_wellFormed_refuses_6 :
    (Instr.wf (.shadowWrite .host 1 (.colour 5) 1) = false)
    ∧ (Instr.wf (.linkTrained 4) = false)
    ∧ (Instr.wf (.linkRetrain 4) = false)
    ∧ (Instr.wf (.msixUnmask .host 512) = false)
    ∧ (Instr.wf (.mbxReq .host 16 1) = false)
    ∧ (Instr.wf (.mbxRsp .host 16 1) = false)
    ∧ (Instr.wf (.coalesceWindowClose 512) = false)
    ∧ (Instr.wf (.stormRelease .host 512 1) = false)
    ∧ (Instr.wf (.stormReleaseTimeout 512) = false)
    ∧ (Instr.wf (.force .host 512 1) = false)
    ∧ (Instr.wf (.scrubPassComplete 2) = false)
    ∧ (∀ x1, Instr.wf (.hbmStackFailed 2 x1) = false)
    ∧ (Instr.wf (.hbmTempHigh 2) = false)
    ∧ (∀ x1 x2 x3, Instr.wf (.chkResult 8 x1 x2 x3) = false)
    ∧ (∀ x1, Instr.wf (.chkPassDone 8 x1) = false)
    ∧ (Instr.wf (.unlock .host 256) = false)
    ∧ (Instr.wf (.relock .host 256) = false)
    ∧ (Instr.wf (.provision .host 256) = false)
    ∧ (Instr.wf (.deploy .host 256) = false)
    ∧ (Instr.wf (.secReturn .host 256) = false)
    ∧ (Instr.wf (.revokeOwner .host 256) = false)
    ∧ (Instr.wf (.revokeSafety .host 256) = false)
    ∧ (Instr.wf (.raiseFloor .host 256) = false)
    ∧ (Instr.wf (.ackSafety .host 256) = false)
    ∧ (Instr.wf (.clockMonitor 8) = false)
    ∧ (∀ x1, Instr.wf (.safetyMeasurement 2 x1) = false)
    ∧ (Instr.wf (.safetyReminder 2) = false)
    ∧ (∀ x1 x2, Instr.wf (.gpiEdge 32 x1 x2) = false)
    ∧ (Instr.wf (.gpiRateWindow 32) = false)
    ∧ (Instr.wf (.gpiStuck 32) = false)
    ∧ (Instr.wf (.gpoOverload 32) = false)
    ∧ (∀ x1 x3 x4, Instr.wf (.cellRelease 4096 x1 1 x3 x4) = false)
    ∧ (∀ x1 x3 x4, Instr.wf (.cellRelease 1 x1 0 x3 x4) = false)
    ∧ (∀ x1 x3 x4, Instr.wf (.cellRelease 1 x1 5 x3 x4) = false)
    ∧ (∀ x1, Instr.wf (.scrubRead 2 x1) = false)
    ∧ (∀ x1, Instr.wf (.prbsCheckerLock 184 x1) = false)
    ∧ (Instr.wf (.pdmClockReturn 4) = false)
    ∧ (∀ x0 x1 x2, Instr.wf (.configWrite x0 x1 x2 4) = false)
    ∧ (∀ x1, Instr.wf (.debugStep (.dsp 32) x1) = false)
    ∧ (∀ a x, Instr.wf (.announceReceived 1 ⟨a, 16⟩ x) = false) := by
  refine ⟨?_, ?_, ?_, ?_, ?_, ?_, ?_, ?_, ?_, ?_, ?_, ?_, ?_, ?_, ?_, ?_, ?_, ?_, ?_, ?_, ?_, ?_, ?_, ?_, ?_, ?_, ?_, ?_, ?_, ?_, ?_, ?_, ?_, ?_, ?_, ?_, ?_, ?_, ?_, ?_⟩ <;> intros <;> rfl

theorem test_wellFormed_refuses_7 :
    (∀ b, Instr.wf (.largeSend ⟨2048, b⟩) = false)
    ∧ (∀ a, Instr.wf (.atlDraftWrite .host 1 a (2 ^ 31)) = false)
    ∧ (∀ a b, Instr.wf (.announceReceived (2 ^ 48) a b) = false)
    ∧ (∀ b, Instr.wf (.twinHeartbeat (some (2 ^ 48)) b) = false)
    ∧ (Instr.wf (.lineDeparture (.dest 96 1 1 none)) = false)
    ∧ (Instr.wf (.lineDeparture (.head 4 1 1 [])) = false)
    ∧ (∀ d, Instr.wf (.gazEntry ⟨2304, List.replicate 8 0⟩ d) = false)
    ∧ (∀ d, Instr.wf (.gazEntry ⟨0, []⟩ d) = false) := by
  refine ⟨?_, ?_, ?_, ?_, ?_, ?_, ?_, ?_⟩ <;> intros <;> rfl

/-! ### Values that the spec gives -/

/-- The state right after reset is in canonical form. -/
theorem test_reset_canonical : State.reset.canonical = true := by decide

/-- R33: plane B occupies 0x1C to 0x27, so that its position 0 has address 0x1C. -/
theorem test_management_address : (result (execEnumInLow (put [(.GEN_ENUM_PLANE, 0, 1)]))).get .GEN_ENUM_MGMT_ADDR = 0x1C := by decide

/-- R68: a master other than ST0 in the boot ROM does not set REMAP. -/
theorem test_remap_ignored : (result (execRemap (.st 1) State.reset)).get .GEN_CTRL_REMAP = 0 := by decide

/-- R15, R67: the run bits are W1S, and ST0 in the boot ROM sets them. -/
theorem test_run_bits : (result (execStRun .stRom 0b0110 (put [(.GEN_CTRL_ST_RUN, 0, 1)]))).get .GEN_CTRL_ST_RUN = 0b0111 := by decide

/-! ### Accesses and units -/

/-- A check that nothing outside the unit stands against. -/
def quietCheck : CheckIn := ⟨false, false, false, false, false⟩

theorem witness_WritesFollowTheAccessCodes :
    (State.reset.target (.st 1) 0x4000000 = .sram 0 ∧ 4 ≤ 0x1000 - 0x4000000 % 0x1000 ∧ State.reset.memGate (.st 1) 0x4000000 4 true = none
        ∧ State.reset.queueAt 0 = none)
    ∧ (State.reset.target (.st 1) (barBase + 0x1340000) = .register 0x1340000 ∧ debugBarred (.st 1) 0x1340000 State.reset = false
        ∧ regGate (.st 1) 0x1340000 4 true State.reset = none
        ∧ (lookupReg 0x1340000).any (fun r => State.reset.blankEntry r == false && r.desc.flds.contains .UNIT_EN == false
            && r.desc.flds.all (fun f => triggers.any (fun x => x.1 == f) == false) && reservedValue r 0xFFFFFFFF == false && reservedValue r 0) = true)
    ∧ (State.reset.target (.st 1) (barBase + 0x3C) = .register 0x3C ∧ debugBarred (.st 1) 0x3C State.reset = false
        ∧ regGate (.st 1) 0x3C 4 true State.reset = none ∧ lookupReg 0x3C = none ∧ inDspBlock 0x3C = false ∧ State.reset.get .BUS_ERR_COUNT = 0)
    ∧ (State.reset.target (.st 1) (barBase + 0x202000) = .register 0x202000 ∧ debugBarred (.st 1) 0x202000 State.reset = false
        ∧ regGate (.st 1) 0x202000 4 true State.reset = none
        ∧ (lookupReg 0x202000).any (fun r => State.reset.blankEntry r == false && r.desc.flds.contains .UNIT_EN == false
            && r.desc.flds.all (fun f => triggers.any (fun x => x.1 == f) == false) && reservedValue r 0xFFFFFFFF) = true)
    ∧ (State.reset.target (.st 1) (barBase + 0x1340000) = .register 0x1340000 ∧ (barBase + 0x1340000) % 4 = 0
        ∧ (barBase + 0x1340000) % 0x1000 ≤ 0xFF8) ∧ 0x4000FFE % 0x1000 = 0xFFE := by
  decide +kernel

theorem witness_ReadsClearAndReturn :
    (State.reset.target (.st 1) (barBase + 0x1340000) = .register 0x1340000 ∧ debugBarred (.st 1) 0x1340000 State.reset = false
        ∧ regGate (.st 1) 0x1340000 4 false State.reset = none
        ∧ (lookupReg 0x1340000).any (fun r => State.reset.blankEntry r == false
            && r.desc.flds.all (fun f => readTriggers.any (fun x => x.1 == f) == false && f != .SEC_NONCE)) = true)
    ∧ (State.reset.target (.st 1) 0x4000000 = .sram 0 ∧ 8 ≤ 0x1000 - 0x4000000 % 0x1000 ∧ State.reset.memGate (.st 1) 0x4000000 8 false = none) := by
  decide +kernel

theorem witness_UnitsStartAndStopByTheirRules :
    (∀ u ∈ [(⟨.pkt, 0⟩ : UnitId), ⟨.queue, 1151⟩], unitValid u = true ∧ Passes (.st 1) (ctrlOff u) State.reset ∧ State.reset.get .UNIT_EN u.code = 0
        ∧ (lookupReg (ctrlOff u)).any (fun r => reservedValue r 1 == false) = true)
    ∧ (unitValid ⟨.lane, 100⟩ = true ∧ regGate (.st 1) (ctrlOff ⟨.lane, 100⟩) 4 true { State.reset with variant := .cx576 } = some 1)
    ∧ ((((put []).put .UNIT_EN 6 1).put .CHECK_BUSY 6 1).checkCode ⟨.pkt, 0⟩ quietCheck = 0 ∧ UnitId.code ⟨.pkt, 0⟩ = 6)
    ∧ (let s := ((put [(.GEN_BOOT_STAT_PHASE, 0, 6), (.PWR_STAT_STATE, 0, 2)]).put .UNIT_EN 11 1).put .CHECK_BUSY 11 1
       s.checkCode ⟨.queue, 0⟩ quietCheck = 105 ∧ UnitId.code ⟨.queue, 0⟩ = 11)
    ∧ (let s := put [(.UNIT_EN, 12, 1), (.CHECK_ENABLED, 12, 1)]
       Passes (.st 1) (ctrlOff ⟨.tb, 0⟩) s ∧ s.get .UNIT_EN 12 = 1 ∧ s.get .CHECK_BUSY 12 = 0 ∧ s.clearVeto ⟨.tb, 0⟩ = 0
         ∧ (lookupReg (ctrlOff ⟨.tb, 0⟩)).any (fun r => reservedValue r 0 == false) = true)
    ∧ (let s := put [(.UNIT_EN, 12, 1), (.CHECK_BUSY, 12, 1)]
       Passes (.st 1) (ctrlOff ⟨.tb, 0⟩) s ∧ s.get .UNIT_EN 12 = 1 ∧ s.get .CHECK_BUSY 12 = 1)
    ∧ (let s := put [(.UNIT_EN, 22, 1), (.CHECK_ENABLED, 22, 1), (.FLD_SAFE_STAT_OVERRIDE, 0, 1)]
       Passes (.st 1) (ctrlOff ⟨.field, 0⟩) s ∧ s.get .UNIT_EN 22 = 1 ∧ s.get .CHECK_BUSY 22 = 0 ∧ s.clearVeto ⟨.field, 0⟩ = 0x0C) := by
  refine ⟨?_, ?_, ?_, ?_, ?_, ?_, ?_⟩ <;> (try dsimp only) <;> decide +kernel

/-! ### The machine as a whole, and the small statements -/

theorem witness_IdleStepIsOneTick :
    State.reset.pending = [] ∧ State.reset.stepsDue = [] ∧ State.reset.tbs.length = 8 ∧ ∀ n < 8, State.reset.get .TB_INC_DUE n = 0 := by
  decide +kernel

/-- The hypotheses of CanonicalFormKept and FusesStayBlownAndQueueIsFifo meet at reset: the state is canonical, and its step answers a
next state. -/
theorem witness_CanonicalFormKept : State.reset.canonical = true ∧ ∃ t, step State.reset = .next t :=
  ⟨by decide, _, rfl⟩

theorem witness_TokensAndAnnouncementsSent :
    let s := put [(.GEN_ENUM_POS_VALID, 0, 1), (.GEN_ENUM_POSITION, 0, 11), (.GEN_ENUM_PLANE, 0, 1), (.GEN_ENUM_TWIN, 0, 1)]
    s.positioned = true ∧ s.position ≤ 11 ∧ s.get .GEN_ENUM_PLANE ≤ 1 ∧ s.get .GEN_ENUM_TWIN ≤ 1 := by
  dsimp only
  decide +kernel

theorem witness_LatchPointsOfAnIdleHead : State.reset.headRuns 3 = false ∧ 3 < 4 := by
  decide +kernel

theorem witness_ShadowUnderAPendingFlip :
    let s := put [(.CMP_HEAD_STAT_PENDING, 1, 1)]
    1 < 4 ∧ shadowValid (.layer 1 0) = true ∧ Passes (.st 1) (shadowOff 1 (.layer 1 0)) s ∧ s.flag .CMP_HEAD_STAT_PENDING 1 = true := by
  dsimp only
  decide +kernel

/-! ### DSP cores -/

/-- Core 0 runs, at PC 0, a word that stands there, with the registers of `c`. -/
def dspState (w : Nat) (c : DspCore) : State :=
  putCore 0 c ((put [(.DSP_CORE_STAT_STATE, 0, 1)]).memPut (dspWindow 0) 8 w)

/-- Every word is read without an error. -/
def dspClean : DspEcc := ⟨.clean, .clean, .clean⟩

theorem witness_DspAccumulatesExactly :
    (∀ opc ∈ [1, 2, 3, 4, 5, 6, 8, 9, 0xA, 0xB, 0xC, 0xD, 0xE, 0xF], DspAt 0 opc 0 (2 ^ 56 * opc) dspClean (dspState (2 ^ 56 * opc) .idle))
    ∧ (let w := 2 ^ 56 * 7 + 2 ^ 20 * (2 ^ 18 + 2 ^ 7) + 2 ^ 18 + 2 ^ 12 + 2 ^ 7
       DspAt 0 7 0 w dspClean (dspState w .idle) ∧ addrStep (DspCore.idle.address (xMove w)).1 1 0 < 16368)
    ∧ (let c := { DspCore.idle with acc0 := 2 ^ 79 - 1 }
       let w := 2 ^ 56 * 0xA
       DspAt 0 0xA 0 w dspClean (dspState w c)
         ∧ clampInt (-2 ^ 31) (2 ^ 31 - 1) ((c.acc (dwA w) + 2 ^ ((39 - c.scale).toNat - 1)) / 2 ^ (39 - c.scale).toNat)
            ≠ (c.acc (dwA w) + 2 ^ ((39 - c.scale).toNat - 1)) / 2 ^ (39 - c.scale).toNat)
    ∧ (let c := { DspCore.idle with d := List.replicate 16 0x80000000 }
       DspAt 0 0xD 0 (2 ^ 56 * 0xD) dspClean (dspState (2 ^ 56 * 0xD) c) ∧ c.dInt 0 < 0)
    ∧ (let c := { DspCore.idle with acc0 := 1 }
       DspAt 0 0xE 0 (2 ^ 56 * 0xE) dspClean (dspState (2 ^ 56 * 0xE) c) ∧ signRun 80 (c.acc 0) < 79)
    ∧ (let c := { DspCore.idle with d := List.replicate 16 1 }
       DspAt 0 0xF 0 (2 ^ 56 * 0xF) dspClean (dspState (2 ^ 56 * 0xF) c) ∧ signRun 32 (c.dInt 0) < 31) := by
  refine ⟨?_, ?_, ?_, ?_, ?_, ?_⟩ <;> (try dsimp only) <;> decide +kernel

theorem witness_DspComputesAndSetsFlags :
    (∀ opc ∈ [0x10, 0x11, 0x12, 0x13, 0x14, 0x15, 0x16, 0x17, 0x18, 0x19, 0x1A, 0x1B, 0x1C, 0x1D, 0x1E, 0x1F, 0x20],
      DspAt 0 opc 0 (2 ^ 56 * opc) dspClean (dspState (2 ^ 56 * opc) .idle))
    ∧ DspAt 1 6 0 (2 ^ 62 + 2 ^ 56 * 6) dspClean (dspState (2 ^ 62 + 2 ^ 56 * 6) .idle)
    ∧ (let c := { DspCore.idle with d := List.replicate 16 0x80000000 }
       (∀ opc ∈ [0x12, 0x17, 0x18], DspAt 0 opc 0 (2 ^ 56 * opc) dspClean (dspState (2 ^ 56 * opc) c)) ∧ c.dInt 0 = -2 ^ 31
         ∧ overflows32 (c.dInt 0 + c.dInt 0) = true)
    ∧ (let c := { DspCore.idle with d := 0x80000000 :: List.replicate 15 1 }
       let w := 2 ^ 56 * 0x13 + 2 ^ 44
       DspAt 0 0x13 0 w dspClean (dspState w c) ∧ overflows32 (c.dInt (dwS w) - c.dInt (dwT w)) = true) := by
  refine ⟨?_, ?_, ?_, ?_⟩ <;> (try dsimp only) <;> decide +kernel

theorem witness_DspMovesWordsAndRegisters :
    (let w := 2 ^ 20 * (2 * 2 ^ 18 + 2 ^ 13) + 2 * 2 ^ 18 + 2 ^ 10
     DspAt 0 0 0 w dspClean (dspState w .idle) ∧ (xMove w).kind = 2 ∧ (xMove w).reg < 16 ∧ (DspCore.idle.address (xMove w)).1 < 0x3FF0
       ∧ (yMove w).kind = 2 ∧ (yMove w).reg < 16 ∧ DspCore.idle.a.length = 8)
    ∧ DspAt 0 0x22 0 (2 ^ 56 * 0x22) dspClean (dspState (2 ^ 56 * 0x22) .idle)
    ∧ (∀ r ∈ [0, 15, 16, 23, 24, 31, 32, 39, 40, 41, 42, 43],
        DspAt 0 0x21 0 (2 ^ 56 * 0x21 + 2 ^ 50 * r) dspClean (dspState (2 ^ 56 * 0x21 + 2 ^ 50 * r) .idle)
        ∧ dwReg (2 ^ 56 * 0x21 + 2 ^ 50 * r) = r ∧ DspAt 1 0 0 (2 ^ 62 + 2 ^ 50 * r) dspClean (dspState (2 ^ 62 + 2 ^ 50 * r) .idle)
        ∧ dwReg (2 ^ 62 + 2 ^ 50 * r) = r)
    ∧ DspCore.idle.d.length = 16 ∧ DspCore.idle.m.length = 8 ∧ DspCore.idle.l.length = 8
    ∧ (∀ opc ∈ [1, 2, 3, 4,
        5], ∃ r, DspAt 1 opc 0 (2 ^ 62 + 2 ^ 56 * opc + 2 ^ 50 * (r : Nat)) dspClean (dspState (2 ^ 62 + 2 ^ 56 * opc + 2 ^ 50 * r) .idle))
    ∧ (∀ a ∈ [0x3FEF, 0x3FF0, 0x3FF7, 0x3FFF], DspAt 1 2 0 (2 ^ 62 + 2 ^ 56 * 2 + a) dspClean (dspState (2 ^ 62 + 2 ^ 56 * 2 + a) .idle)
        ∧ dwImm (2 ^ 62 + 2 ^ 56 * 2 + a) % 2 ^ 14 = a) := by
  refine ⟨by dsimp only; decide +kernel, by decide +kernel, by decide +kernel, rfl, rfl, rfl, ?_, by decide +kernel⟩
  intro opc h
  refine ⟨if opc = 5 then 16 else 0, ?_⟩
  revert opc
  decide +kernel

theorem witness_DspControlsItsProgram :
    (∀ opc ∈ [0, 1, 4, 5, 8, 9, 0xA, 0xB], DspAt 2 opc 0 (2 * 2 ^ 62 + 2 ^ 56 * opc + (if opc < 6 then 1 else 0)) dspClean
        (dspState (2 * 2 ^ 62 + 2 ^ 56 * opc + (if opc < 6 then 1 else 0)) .idle))
    ∧ (∀ opc ∈ [1, 2, 3], let w := 2 * 2 ^ 62 + 2 ^ 56 * opc + (if opc = 1 then 1 else 0)
        DspAt 2 opc 0 w dspClean (dspState w { DspCore.idle with depth := 16 }))
    ∧ DspAt 2 2 0 (2 * 2 ^ 62 + 2 ^ 56 * 2) dspClean (dspState (2 * 2 ^ 62 + 2 ^ 56 * 2) .idle)
    ∧ (∀ k ∈ [0, 1, 4096], let w := 2 * 2 ^ 62 + 2 ^ 56 * 6 + 2 ^ 32 * k
        DspAt 2 6 0 w dspClean (dspState w .idle) ∧ dwCount w = k ∧ (dspState w .idle).get .DSP_CORE_CTRL_MODE 0 = 0)
    ∧ (∀ k ∈ [0, 1], let w := 2 * 2 ^ 62 + 2 ^ 56 * 7
        let c := { DspCore.idle with d := List.replicate 16 k }
        DspAt 2 7 0 w dspClean (dspState w c) ∧ c.dReg (dwDreg w) = k)
    ∧ (let w := 2 * 2 ^ 62 + 2 ^ 56 * 6
       DspAt 2 6 0 w dspClean ((dspState w .idle).put .DSP_CORE_CTRL_MODE 0 1))
    ∧ (let w := 2 * 2 ^ 62 + 2 ^ 56 * 9
       DspAt 2 9 0 w dspClean (dspState w { DspCore.idle with held := some 4, pendingBlocks := [5, 6] })) := by
  refine ⟨?_, ?_, ?_, ?_, ?_, ?_, ?_⟩ <;> (try dsimp only) <;> decide +kernel

theorem witness_DspCoresAreSupervised :
    (let s := dspState (2 ^ 56 * 0x10 + 2 ^ 40) .idle
     s.dspRuns 0 = true ∧ (s.core 0).pc ≤ 0x1FFF ∧ dwForm (s.progWord 0 0) = 0 ∧ dwOpc (s.progWord 0 0) = 0x10
         ∧ dspLegal (s.core 0) (s.progWord 0 0) = false)
    ∧ (let s := dspState (3 * 2 ^ 62) .idle
       s.dspRuns 0 = true ∧ dwForm (s.progWord 0 0) = 3)
    ∧ (let s := dspState (2 ^ 56 * 0x11) .idle
       dwForm (s.progWord 0 0) = 0 ∧ dwOpc (s.progWord 0 0) = 0x11)
    ∧ (Passes (.st 1) 0xA30014 State.reset ∧ State.reset.dspLive 0 = false ∧ (put [(.DSP_CORE_STAT_STATE, 0, 2)]).dspLive 0 = true
        ∧ Passes (.st 1) (0xA30014 + 0x40000 * 31) (put [(.DSP_CORE_STAT_STATE, 0, 2)]))
    ∧ (let s := (dspState 0 { DspCore.idle with sr := 2 ^ 29, doorbell := true }).put .DSP_CORE_CTRL_DB_IRQ 0 1
       s.dspLive 0 = true ∧ (s.core 0).srBit 29 = true ∧ (s.core 0).depth < 16 ∧ s.flag .DSP_CORE_CTRL_DB_IRQ 0 = true)
    ∧ (let s := (dspState 0 { DspCore.idle with sr := 2 ^ 29, queueIrq := true }).put .DSP_CORE_CTRL_Q_IRQ 0 1
       s.dspLive 0 = true ∧ (s.core 0).srBit 29 = true ∧ (s.core 0).doorbell = false ∧ s.flag .DSP_CORE_CTRL_Q_IRQ 0 = true)
    ∧ (let s := put [(.CHECK_ENABLED, UnitKind.dsp.code 0, 1), (.DSP_CORE_STAT_STATE, 0, 2)]
       s.running .dsp 0 = true ∧ s.get .DSP_CORE_STAT_STATE 0 = 2 ∧ (s.core 0).pendingBlocks = [] ∧ s.en .dsp 0 = false)
    ∧ (let s := (dspState 0 { DspCore.idle with due := [4] }).put .CHECK_ENABLED (UnitKind.dsp.code 0) 1
       s.running .dsp 0 = true ∧ s.get .DSP_CORE_STAT_STATE 0 = 1 ∧ (s.core 0).due.contains 4 = true ∧ (s.core 0).released.contains 4 = false)
    ∧ (let s := put [(.CHECK_ENABLED, UnitKind.dsp.code 0, 1), (.CHECK_ENABLED, UnitKind.queue.code 3, 1), (.DSP_QIN_EN, 0, 1),
        (.DSP_QIN_QUEUE, 0, 3),
          (.DSP_QIN_RING_LOG2, 0, 6), (.PKT_Q_LOG2_SIZE, 3, 6), (.PKT_Q_BASE_LO, 3, 0x40000), (.PKT_Q_PTR_PROD, 3, 4), (.GEN_CTRL_REMAP, 0, 1)]
       s.qinQueue 0 0 = some 3 ∧ s.running .queue 3 = true
           ∧ (s.qHead 3).map (fun it => (itemType it.header, it.payload.length, itemLen it.header)) = some (0, 0, 0)
         ∧ s.ringFill 0 0 + 2 ≤ s.ringSize 0 0)
    ∧ (put [(.SEC_DBG_LEVEL, 0, 2)]).debugLevel = 2 ∧ State.reset.debugLevel < 2 ∧ State.reset.hasDsp 31 = true
    ∧ (let s := (dspState (2 ^ 56 * 0x10) .idle).put .DSP_CORE_STAT_STATE 0 5
       s.get .DSP_CORE_STAT_STATE 0 = 5 ∧ dwOpc (s.progWord 0 0) = 0x10 ∧ dspLegal (s.core 0) (s.progWord 0 0) = true) := by
  refine ⟨?_, ?_, ?_, ?_, ?_, ?_, ?_, ?_, ?_, ?_, ?_⟩ <;> (try dsimp only) <;> decide +kernel

/-- R382, R391: half times half is a quarter, 2 ^ 68 in units of 2⁻⁷⁰. -/
theorem test_mpy_half :
    ((result (execMpy 0 dspClean (dspState (2 ^ 56) { DspCore.idle with d := List.replicate 16 0x40000000 }))).core 0).acc0 = 2 ^ 68 := by
  decide +kernel

/-- R394: the sum of the most positive number and 1 wraps and overflows. -/
theorem test_add_overflows :
    let c := (result (execAdd 0 dspClean (dspState (2 ^ 56 * 0x10 + 2 ^ 44) { DspCore.idle with d := 0x7FFFFFFF :: List.replicate 15 1 }))).core 0
    c.dReg 0 = 0x80000000 ∧ c.srBit 3 = true := by
  dsimp only
  decide +kernel

/-! ### Witnesses over values that the model leaves free -/

/-- A pattern that its checker has followed for 64 bits (R218). -/
def lockedPattern : List Bool :=
  [true, false, true, true, false, false, true, true, true, false, true, false, true, false, false, true, true, true, true, true, false, true,
   false, false, false, false, true, true, true, false, false, false, true, false, false, true, false, false, true, true, false, true, true,
   false, true, false, true, true, false, true, true, true, true, false, true, true, false, false, false, true, true, false, true, false, false,
   true, false, true, true, true, false]

theorem lockedPattern_follows : ∀ i < 71, 7 ≤ i →
    lockedPattern[i]? = some (lockedPattern.getD (i - 7) false ^^ lockedPattern.getD (i - 6) false) := by
  decide

/-- Hypotheses of LanesDetectAndTest. -/
theorem witness_LanePatternLocks :
    ∃ (l a b : Nat) (bits : List Bool) (s : State), s.running .lane l = true ∧ s.get .LAN_TEST_PRBS_LOCK l = 0 ∧ s.get .LAN_PRBS_RUN l = 0
      ∧ (s.get .LAN_TEST_PRBS_RX l, a, b) ∈ [(1, 7, 6), (2, 9, 5), (3, 15, 14), (4, 23, 18), (5, 31, 28)] ∧ bits.length = a + 64
      ∧ ∀ i : Nat, a ≤ i → i < a + 64 → bits[i]? = some (bits.getD (i - a) false ^^ bits.getD (i - b) false) :=
  ⟨4, 7, 6, lockedPattern, put [(.CHECK_ENABLED, 133, 1), (.LAN_TEST_PRBS_RX, 4, 1)], by decide, by decide, by decide, by decide, by decide,
   fun i h1 h2 => lockedPattern_follows i h2 h1⟩

/-- Hypotheses of CommitsDraftsAndRealignment, where the landing stores of a part have no room left. -/
theorem witness_DraftWithoutALandingStore (h : Config.landingRoom 0 (2 * spanBytes 0 0) = false) :
    let s := put [(.CHECK_ENABLED, 3, 1), (.GEN_ENUM_POS_VALID, 0, 1)]
    0 < 96 ∧ 512 = bitsAt 0x80000200 0 11 ∧ Passes (.st 1) 0x101000 s ∧ s.commitOf 0 = none ∧ s.canRequest = true
      ∧ bitsAt 0x80000200 31 1 = 1 ∧ s.isRemote 512 = true ∧ s.homeLost (homeOf 512) = false ∧ (∀ r ∈ s.rx, r.src ≠ 512)
      ∧ freeSlot 1024 (s.rx.map (·.slot)) = some 0 ∧ s.landingStore 0 512 (.draft 0) = none := by
  dsimp only
  refine ⟨by decide, by decide, by decide +kernel, by decide, by decide, by decide, by decide, by decide, by decide, by decide +kernel, ?_⟩
  exact if_neg (by
    show ¬ Config.landingRoom 0 (2 * spanBytes 0 0) = true
    rw [h]; decide)

/-- A map over lines is defined where it is at each of them. -/
theorem mapM_isSome {α β : Type} (f : α → Option β) : ∀ l : List α, (∀ x ∈ l, (f x).isSome = true) → (l.mapM f).isSome = true
  | [], _ => rfl
  | x :: l, h => by
    obtain ⟨y, hy⟩ := Option.isSome_iff_exists.mp (h x (List.mem_cons_self ..))
    obtain ⟨ys, hys⟩ := Option.isSome_iff_exists.mp (mapM_isSome f l (fun z hz => h z (List.mem_cons_of_mem _ hz)))
    rw [List.mapM_cons, hy, hys]
    rfl

/-- Transmit entry 3 sends the video of destination 0, all lines of frame 0 of which have left. -/
def mediaState : State :=
  { put [(.CHECK_ENABLED, 37, 1), (.CHECK_ENABLED, 39, 1), (.CHECK_ENABLED, 105, 1), (.LAN_CTRL_TX_MODE, 1, 11), (.LAN_BIND_RX_KIND, 1, 3),
      (.LAN_BIND_TX_KIND, 1, 4), (.LAN_QUAD_STAT_PLL_LOCK, 0, 1), (.PKT_TX_KIND, 3, 1), (.PKT_TX_MAC_A, 3, 1), (.PKT_TX_MAC_B, 3, 1),
      (.PKT_TX_DUAL, 3, 1), (.PKT_TX_PKTS_PER_FRAME, 3, 100), (.TWN_STAT_CLAIM, 0, 1), (.PWR_STAT_STATE, 0, 2)] with
    out := (Config.packetLines 1 0 0 0 0).map (fun l => .line 0 0 l true [] .noSource) }

theorem mediaState_starts (n : Nat) (head : List Byte) : mediaState.mayStart 1 head n = true := by
  have h1 : mediaState.macSends 1 = true := by decide
  have h2 : mediaState.flag .PKT_MAC_STAT_PAUSED 1 = false := by decide
  have h3 : mediaState.get .PKT_MAC_STAT_PFC_PAUSED 1 = 0 := by decide
  have h4 : (mediaState.gateOf 1).oper = none := by decide
  have h5 : mediaState.running .gcl 1 = false := by decide
  simp [State.mayStart, State.gateOpen, h1, h2, h3, h4, h5, bitsAt]

theorem mediaState_payload : (mediaState.mediaPayload 3 0 0).isSome = true := by
  have h1 : mediaState.get .PKT_TX_KIND 3 = 1 := by decide
  have h2 : mediaState.get .PKT_TX_PKTS_PER_FRAME 3 = 100 := by decide
  have h3 : mediaState.get .PKT_TX_TARGET 3 = 0 := by decide
  have h4 : mediaState.txLines 3 0 = Config.packetLines 1 0 0 0 0 := rfl
  have h5 : mediaState.out = (Config.packetLines 1 0 0 0 0).map (fun l => .line 0 0 l true [] .noSource) := rfl
  simp only [State.mediaPayload, State.videoPayload, h1, h2, h4, h5]
  rw [if_neg (by decide), if_pos (by decide), Option.isSome_map]
  refine mapM_isSome _ _ (fun l hl => ?_)
  rw [Option.isSome_map, List.findSome?_isSome_iff]
  exact ⟨_, List.mem_map.mpr ⟨l, hl, rfl⟩, by simp [State.txLine, h1, h3]⟩

/-- Hypotheses of PacketsAndItemsAreSent, of either leg. -/
theorem witness_MediaPacketSend (legB : Bool) :
    ∃ body len second last, mediaState.sending 3 = true ∧ mediaState.get .PKT_TX_KIND 3 = 1 ∧ (legB = true → mediaState.get .PKT_TX_DUAL 3 = 1)
      ∧ mediaState.mediaPayload 3 0 0 = some body
      ∧ mediaState.mayStart (mediaState.get (if legB then .PKT_TX_MAC_B else .PKT_TX_MAC_A) 3) (mediaState.tplHeader (6 + legB.toNat))
          (mediaState.tplByte (6 + legB.toNat) 62 + body.length) = true
      ∧ mediaState.packetShape 3 0 body = (len, second, last) ∧ mediaState.packetShape 3 0 body ≠ (len + 1, second, last) := by
  obtain ⟨b, hb⟩ := Option.isSome_iff_exists.mp mediaState_payload
  have h : mediaState.get (if legB then .PKT_TX_MAC_B else .PKT_TX_MAC_A) 3 = 1 := by cases legB <;> decide
  exact ⟨b, _, _, _, by decide, by decide, fun _ => by decide, hb, by rw [h]; exact mediaState_starts .., rfl,
    fun e => Nat.succ_ne_self _ (congrArg Prod.fst e).symm⟩

/-! ### Streams of the witnesses -/

/-- A stream of the witnesses below. -/
def rxSample1 : RxStream :=
  { slot := 7, rxg := 3, kind := 0, src := 99, home := 0, coding := 1, waypoint := 15, st := 1, reason := 0, spans := 3, good := 3, missing := 0, migrations := 0, reqNo := 5, maxCoding := 3, fs := 0, sent := true, first := 2, relLast := none, relSent := false, rejoin := false, again := false, next := [], dropLast := none, store := none, extra := 0, pieces := [], markers := [], lastSpan := some 49, held := none, read := none }

/-- A stream of the witnesses below. -/
def rxSample2 : RxStream :=
  { slot := 4, rxg := 3, kind := 2, src := 9, home := 5, coding := 1, waypoint := 15, st := 1, reason := 0, spans := 3, good := 3, missing := 0, migrations := 0, reqNo := 5, maxCoding := 3, fs := 0, sent := true, first := 2, relLast := none, relSent := false, rejoin := false, again := false, next := [], dropLast := none, store := none, extra := 0, pieces := [], markers := [{ span := 50, lost := true, coding := 1, fmt := 49, depthScale := 0, generation := 1, frame := 50, lines := 1, lc := 1 }], lastSpan := some 49, held := none, read := none }

/-- A stream of the witnesses below. -/
def txSample3 : TxStream :=
  { slot := 1, kind := 0, src := 193, dest := 5, coding := 1, port := 2, waypoint := 15, cost := 1000, start := 3, order := 2, fs := 0, maxCoding := 3, seq := 254, last := none, released := false, shedding := false, reason := 0, old := [], marks := [(49, 1, true), (50, 1, false)] }

/-- A stream of the witnesses below. -/
def rxSample4 : RxStream :=
  { slot := 4, rxg := 3, kind := 0, src := 20, home := 1, coding := 3, waypoint := 15, st := 1, reason := 0, spans := 3, good := 3, missing := 0, migrations := 0, reqNo := 5, maxCoding := 3, fs := 0, sent := true, first := 2, relLast := none, relSent := false, rejoin := false, again := false, next := [], dropLast := none, store := none, extra := 0, pieces := [], markers := [{ span := 50, lost := true, coding := 3, fmt := 49, depthScale := 0, generation := 1, frame := 50, lines := 1, lc := 1 }, { span := 49, lost := false, coding := 2, fmt := 49, depthScale := 0, generation := 1, frame := 50, lines := 1, lc := 1 }], lastSpan := none, held := none, read := some (50, 400) }

/-- A stream of the witnesses below. -/
def rxSample5 : RxStream :=
  { slot := 1, rxg := 3, kind := 0, src := 484, home := 5, coding := 1, waypoint := 15, st := 4, reason := 57, spans := 3, good := 3, missing := 0, migrations := 0, reqNo := 1, maxCoding := 3, fs := 0, sent := true, first := 3, relLast := none, relSent := false, rejoin := false, again := true, next := [], dropLast := none, store := none, extra := 0, pieces := [], markers := [], lastSpan := some 49, held := none, read := none }

/-- A stream of the witnesses below. -/
def rxSample6 : RxStream :=
  { slot := 1, rxg := 3, kind := 0, src := 484, home := 5, coding := 1, waypoint := 15, st := 0, reason := 0, spans := 3, good := 3, missing := 0, migrations := 0, reqNo := 1, maxCoding := 3, fs := 0, sent := true, first := 3, relLast := none, relSent := false, rejoin := false, again := false, next := [], dropLast := none, store := none, extra := 0, pieces := [], markers := [], lastSpan := some 49, held := none, read := none }

/-- A stream of the witnesses below. -/
def rxSample7 : RxStream :=
  { slot := 4, rxg := 3, kind := 0, src := 20, home := 1, coding := 3, waypoint := 15, st := 1, reason := 0, spans := 3, good := 3, missing := 0, migrations := 0, reqNo := 5, maxCoding := 3, fs := 0, sent := true, first := 2, relLast := none, relSent := false, rejoin := false, again := false, next := [], dropLast := none, store := none, extra := 0, pieces := [{ span := 50, typ := 1, line := 2, offset := 0, bytes := [0x01#8] }], markers := [{ span := 49, lost := false, coding := 3, fmt := 49, depthScale := 0, generation := 1, frame := 50, lines := 1, lc := 1 }], lastSpan := some 49, held := none, read := none }

/-- A stream of the witnesses below. -/
def rxSample8 : RxStream :=
  { slot := 4, rxg := 3, kind := 0, src := 20, home := 1, coding := 1, waypoint := 15, st := 1, reason := 0, spans := 3, good := 3, missing := 0, migrations := 0, reqNo := 5, maxCoding := 3, fs := 0, sent := true, first := 2, relLast := none, relSent := false, rejoin := false, again := false, next := [], dropLast := none, store := none, extra := 0, pieces := [{ span := 50, typ := 1, line := 2, offset := 0, bytes := [0x01#8] }, { span := 9, typ := 1, line := 2, offset := 0, bytes := [0x01#8] }], markers := [], lastSpan := some 49, held := none, read := some (50, 400) }

/-- A stream of the witnesses below. -/
def rxSample9 : RxStream :=
  { slot := 1, rxg := 3, kind := 0, src := 484, home := 5, coding := 1, waypoint := 15, st := 0, reason := 0, spans := 3, good := 3, missing := 0, migrations := 0, reqNo := 1, maxCoding := 3, fs := 0, sent := false, first := 3, relLast := none, relSent := false, rejoin := false, again := false, next := [], dropLast := none, store := none, extra := 0, pieces := [], markers := [], lastSpan := some 49, held := none, read := none }

/-- A stream of the witnesses below. -/
def rxSample10 : RxStream :=
  { slot := 1, rxg := 3, kind := 0, src := 484, home := 5, coding := 1, waypoint := 15, st := 1, reason := 0, spans := 3, good := 3, missing := 0, migrations := 0, reqNo := 1, maxCoding := 3, fs := 0, sent := true, first := 3, relLast := none, relSent := false, rejoin := false, again := false, next := [], dropLast := none, store := none, extra := 0, pieces := [], markers := [], lastSpan := some 49, held := none, read := none }

/-- A stream of the witnesses below. -/
def rxSample11 : RxStream :=
  { slot := 4, rxg := 3, kind := 0, src := 20, home := 1, coding := 1, waypoint := 15, st := 1, reason := 0, spans := 3, good := 3, missing := 0, migrations := 0, reqNo := 5, maxCoding := 3, fs := 0, sent := true, first := 2, relLast := none, relSent := false, rejoin := false, again := false, next := [], dropLast := none, store := none, extra := 0, pieces := [], markers := [], lastSpan := some 49, held := none, read := none }

/-- A stream of the witnesses below. -/
def rxSample12 : RxStream :=
  { slot := 4, rxg := 3, kind := 2, src := 20, home := 5, coding := 1, waypoint := 15, st := 1, reason := 0, spans := 3, good := 3, missing := 0, migrations := 0, reqNo := 5, maxCoding := 3, fs := 0, sent := true, first := 2, relLast := none, relSent := false, rejoin := false, again := false, next := [], dropLast := none, store := none, extra := 0, pieces := [], markers := [], lastSpan := some 49, held := none, read := none }

/-- A stream of the witnesses below. -/
def txSample13 : TxStream :=
  { slot := 0, kind := 0, src := 193, dest := 5, coding := 1, port := 2, waypoint := 15, cost := 1000, start := 3, order := 2, fs := 0, maxCoding := 3, seq := 254, last := none, released := false, shedding := false, reason := 0, old := [], marks := [] }

/-- A stream of the witnesses below. -/
def txSample14 : TxStream :=
  { slot := 2, kind := 0, src := 5, dest := 5, coding := 1, port := 1, waypoint := 15, cost := 1000, start := 3, order := 2, fs := 0, maxCoding := 3, seq := 254, last := none, released := false, shedding := false, reason := 0, old := [], marks := [] }

/-- A stream of the witnesses below. -/
def rxSample15 : RxStream :=
  { slot := 4, rxg := 3, kind := 0, src := 20, home := 0, coding := 1, waypoint := 15, st := 1, reason := 0, spans := 3, good := 3, missing := 0, migrations := 0, reqNo := 5, maxCoding := 3, fs := 0, sent := true, first := 2, relLast := none, relSent := false, rejoin := false, again := false, next := [], dropLast := none, store := none, extra := 0, pieces := [{ span := 50, typ := 1, line := 2, offset := 0, bytes := [0x01#8] }, { span := 9, typ := 1, line := 2, offset := 0, bytes := [0x01#8] }], markers := [{ span := 50, lost := false, coding := 1, fmt := 49, depthScale := 0, generation := 1, frame := 50, lines := 1080, lc := 4800 }], lastSpan := some 49, held := none, read := some (49, 400) }

/-- A stream of the witnesses below. -/
def rxSample16 : RxStream :=
  { slot := 4, rxg := 3, kind := 2, src := 9, home := 5, coding := 1, waypoint := 15, st := 1, reason := 0, spans := 3, good := 3, missing := 0, migrations := 0, reqNo := 5, maxCoding := 3, fs := 0, sent := true, first := 2, relLast := none, relSent := false, rejoin := false, again := false, next := [], dropLast := none, store := none, extra := 0, pieces := [{ span := 50, typ := 4, line := 0, offset := 0, bytes := (List.replicate 256 5) }], markers := [{ span := 50, lost := false, coding := 1, fmt := 0, depthScale := 0, generation := 1, frame := 50, lines := 1, lc := 1 }], lastSpan := some 49, held := none, read := none }

/-- A stream of the witnesses below. -/
def txSample17 : TxStream :=
  { slot := 0, kind := 0, src := 1, dest := 2, coding := 1, port := 1, waypoint := 15, cost := 1000, start := 3, order := 2, fs := 0, maxCoding := 3, seq := 254, last := none, released := false, shedding := false, reason := 0, old := [], marks := [] }

/-- A stream of the witnesses below. -/
def wpSample18 : WpStream :=
  { slot := 3, kind := 0, src := 20, coding := 1, inPort := 1, outPort := 6, home := 0, dest := 9, cost := 1000, cells := 4294967295, order := 1, last := none, shedding := false }

/-- A stream of the witnesses below. -/
def rxSample19 : RxStream :=
  { slot := 4, rxg := 3, kind := 0, src := 484, home := 5, coding := 1, waypoint := 15, st := 4, reason := 0, spans := 3, good := 3, missing := 0, migrations := 0, reqNo := 5, maxCoding := 3, fs := 0, sent := true, first := 2, relLast := none, relSent := false, rejoin := false, again := false, next := [], dropLast := none, store := none, extra := 0, pieces := [], markers := [], lastSpan := some 49, held := none, read := none }

/-- A stream of the witnesses below. -/
def rxSample20 : RxStream :=
  { slot := 1, rxg := 3, kind := 0, src := 484, home := 5, coding := 1, waypoint := 15, st := 3, reason := 0, spans := 3, good := 3, missing := 0, migrations := 0, reqNo := 1, maxCoding := 3, fs := 0, sent := true, first := 3, relLast := none, relSent := false, rejoin := true, again := false, next := [], dropLast := none, store := none, extra := 0, pieces := [], markers := [], lastSpan := some 49, held := none, read := none }

/-- A stream of the witnesses below. -/
def rxSample21 : RxStream :=
  { slot := 1, rxg := 3, kind := 0, src := 484, home := 5, coding := 1, waypoint := 15, st := 1, reason := 0, spans := 3, good := 3, missing := 0, migrations := 0, reqNo := 1, maxCoding := 3, fs := 0, sent := true, first := 3, relLast := none, relSent := false, rejoin := true, again := false, next := [], dropLast := none, store := none, extra := 0, pieces := [], markers := [], lastSpan := some 49, held := none, read := none }

/-- A stream of the witnesses below. -/
def rxSample22 : RxStream :=
  { slot := 5, rxg := 3, kind := 0, src := 21, home := 1, coding := 1, waypoint := 15, st := 1, reason := 0, spans := 3, good := 3, missing := 0, migrations := 0, reqNo := 5, maxCoding := 3, fs := 0, sent := true, first := 2, relLast := none, relSent := false, rejoin := false, again := false, next := [], dropLast := none, store := none, extra := 0, pieces := [], markers := [], lastSpan := some 49, held := none, read := none }

/-- A stream of the witnesses below. -/
def rxSample23 : RxStream :=
  { slot := 4, rxg := 3, kind := 2, src := 20, home := 5, coding := 1, waypoint := 15, st := 4, reason := 0, spans := 3, good := 3, missing := 0, migrations := 0, reqNo := 5, maxCoding := 3, fs := 0, sent := true, first := 2, relLast := none, relSent := false, rejoin := false, again := false, next := [], dropLast := none, store := none, extra := 0, pieces := [], markers := [], lastSpan := some 49, held := none, read := none }

/-- A stream of the witnesses below. -/
def wpSample24 : WpStream :=
  { slot := 4, kind := 0, src := 21, coding := 1, inPort := 1, outPort := 3, home := 0, dest := 9, cost := 1000, cells := 4294967295, order := 1, last := none, shedding := false }

/-- A stream of the witnesses below. -/
def txSample25 : TxStream :=
  { slot := 1, kind := 2, src := 7, dest := 5, coding := 1, port := 5, waypoint := 15, cost := 1000, start := 3, order := 2, fs := 0, maxCoding := 3, seq := 254, last := none, released := false, shedding := false, reason := 0, old := [], marks := [(50, 1, false)] }

/-- A stream of the witnesses below. -/
def txSample26 : TxStream :=
  { slot := 0, kind := 0, src := 193, dest := 5, coding := 3, port := 2, waypoint := 15, cost := 1000, start := 3, order := 2, fs := 0, maxCoding := 3, seq := 254, last := none, released := false, shedding := false, reason := 0, old := [], marks := [] }

/-- A stream of the witnesses below. -/
def wpSample27 : WpStream :=
  { slot := 3, kind := 0, src := 20, coding := 1, inPort := 1, outPort := 6, home := 1, dest := 9, cost := 1000, cells := 4294967295, order := 1, last := none, shedding := false }

/-! ### Witnesses of the other statements -/

/-- Hypotheses of EnumerationTakesPosition. -/
theorem witness_EnumerationTakesPosition :
    (∃ (s : State), (s.positioned = false) ∧ (s.enum.timedOut = false))
    ∧ (∃ (tok : Nat) (s : State), (s.positioned = false) ∧ (s.enum.timedOut = false) ∧ (tokenGood tok = true) ∧ (s.enum.lastTok = tok)
        ∧ (s.enum.run = 2) ∧ (s.tokenMismatch tok = 0)) :=
  ⟨⟨State.reset, by decide⟩,
   ⟨2771438039, { State.reset with enum := { lastTok := 2771438039, run := 2, badRun := 0, takenFrom := none, timedOut := false } }, by decide⟩⟩

/-- Hypotheses of EnumerationFaultsAreRecorded. -/
theorem witness_MismatchedTokenIsForwarded :
    (∃ (tok : Nat) (s : State), (s.positioned = false) ∧ (tokenCrc tok = true) ∧ (tokenSync tok = true ∨ s.enum.badRun ≤ 2)
        ∧ (s.enum.lastTok = tok) ∧ (s.enum.run = 2) ∧ (s.tokenMismatch tok ≠ 0) ∧ (s.get .GEN_ENUM_FAULT = 0))
    ∧ (∃ (tok : Nat) (s : State), (s.positioned = false) ∧ (tokenCrc tok = true) ∧ (tokenSync tok = true ∨ s.enum.badRun ≤ 2)
        ∧ (s.enum.lastTok = tok) ∧ (s.enum.run = 2) ∧ (s.tokenMismatch tok = 0) ∧ (s.enum.timedOut = true)) :=
  ⟨⟨2784948565, { State.reset with enum := { lastTok := 2784948565, run := 2, badRun := 0, takenFrom := none, timedOut := false } }, by decide⟩,
   ⟨2771438039, { State.reset with enum := { lastTok := 2771438039, run := 2, badRun := 0, takenFrom := none, timedOut := true } }, by decide⟩⟩

/-- Hypotheses of EnumerationFaultsAreRecorded. -/
theorem witness_EnumerationFaultsRecorded :
    (∃ (s : State), (s.get .GEN_ENUM_FAULT = 0) ∧ (s.positioned = true) ∧ (s.enum.takenFrom ≠ none))
    ∧ (∃ (s : State) (tok : Nat), (s.get .GEN_ENUM_FAULT = 0) ∧ (s.positioned = true) ∧ (tokenCrc tok = true)
        ∧ (s.enum.takenFrom ≠ some (bitsAt tok 16 16)))
    ∧ (∃ (s : State), (s.get .GEN_ENUM_FAULT = 0) ∧ (s.positioned = true) ∧ (s.enum.takenFrom = none))
    ∧ (∃ (s : State), (s.get .GEN_ENUM_FAULT = 0) ∧ (s.positioned = false) ∧ (s.enum.timedOut = false))
    ∧ (∃ (s : State) (dst : Nat) (plane : Bool) (twin : Bool), (s.get .GEN_ENUM_FAULT = 0) ∧ (s.positioned = true)
        ∧ (s.mgmtTakes dst = true) ∧ (s.get .GEN_ENUM_PLANE = plane.toNat) ∧ (s.get .GEN_ENUM_TWIN = twin.toNat)) :=
  ⟨⟨{ put [(.GEN_ENUM_POS_VALID, 0, 1)] with enum := { lastTok := 2771438039, run := 2, badRun := 0, takenFrom := some 5, timedOut := false } }, by decide⟩,
   ⟨put [(.GEN_ENUM_POS_VALID, 0, 1)], 2771438039, by decide⟩,
   ⟨put [(.GEN_ENUM_POS_VALID, 0, 1)], by decide⟩,
   ⟨State.reset, by decide⟩,
   ⟨put [(.GEN_ENUM_POS_VALID, 0, 1)], 4144934027775, false, false, by decide⟩⟩

/-- Hypotheses of ResetsKeepWhatTheyMust. -/
theorem witness_DeviceResetKeepsPosition :
    (∃ (m : Master) (v : Nat) (s : State) (f : Fld), (Passes m 4 s) ∧ (bitsAt v 16 16 = 49573)
        ∧ (f ∈ [.GEN_ENUM_POS_VALID, .GEN_ENUM_FAULT, .GEN_ENUM_TWIN, .GEN_ENUM_PLANE, .GEN_ENUM_POSITION, .TWN_STAT_TWIN_CLAIM] ++ dieFields))
    ∧ (∃ (m : Master) (v : Nat) (s : State), (Passes m 4 s) ∧ (bitsAt v 16 16 ≠ 49573) ∧ (s.fromRom m = false)) :=
  ⟨⟨Master.stRom, 3248816384, State.reset, .GEN_ENUM_POS_VALID, by decide⟩,
   ⟨Master.st 1, 0, State.reset, by decide⟩⟩

/-- Hypotheses of RemapRunBitsAndHandOver. -/
theorem witness_RemapAndRunBitsOnlyFromRom :
    (∃ (m : Master) (s : State), (Passes m 4 s) ∧ (s.fromRom m = true))
    ∧ (∃ (m : Master) (s : State), (Passes m 4 s) ∧ (s.fromRom m = false)) :=
  ⟨⟨Master.stRom, State.reset, by decide⟩,
   ⟨Master.st 1, State.reset, by decide⟩⟩

/-- Hypotheses of RemapRunBitsAndHandOver. -/
theorem witness_HandOverReleasesStewards :
    (∃ (s : State), (s.boot.chosen ≠ none) ∧ (s.boot.streaming = false) ∧ (s.get .GEN_BOOT_STAT_PHASE = 5) ∧ (s.get .PWR_STAT_STATE = 1)
        ∧ (s.boot.placed = [])) :=
  ⟨{ put [(.GEN_BOOT_STAT_PHASE, 0, 5)] with boot := { slot := 0, nextSection := 0, condA := SlotCond.notTried, condB := SlotCond.notTried, first := 0, pass := 0, streaming := false, placed := [], mismatched := [], crcLog := [], chosen := some (0, true), hbmReady := true, aliasOpen := true } }, by decide⟩

/-- Hypotheses of MemorySetupPlacesRings. -/
theorem witness_MemorySetupPlacesRings :
    (∃ (a : SfdpAnswer) (s : State), (s.get .GEN_BOOT_STAT_PHASE = 1) ∧ ((a.answers && a.gbit && a.readable) = false))
    ∧ (∃ (a : SfdpAnswer) (s : State), (s.get .GEN_BOOT_STAT_PHASE = 1) ∧ ((a.answers && a.gbit && a.readable) = true) ∧ (a.needsErase = true)) :=
  ⟨⟨{ answers := false, readable := true, gbit := true, needsErase := false }, State.reset, by decide⟩,
   ⟨{ answers := true, readable := true, gbit := true, needsErase := true }, State.reset, by decide⟩⟩

/-- Hypotheses of SlotsAreChosenAndStreamed. -/
theorem witness_FirstSlotIsChosen :
    (∃ (s : State), (s.get .GEN_BOOT_STAT_PHASE = 2) ∧ (s.preCheck 0 ≠ 0) ∧ (s.preCheck 1 ≠ 0))
    ∧ (∃ (s : State), (s.get .GEN_BOOT_STAT_PHASE = 2) ∧ (s.preCheck 0 = 0 ∨ s.preCheck 1 = 0)) :=
  ⟨⟨put [(.GEN_BOOT_STAT_PHASE, 0, 2)], by decide⟩,
   ⟨{ put [(.GEN_BOOT_STAT_PHASE, 0, 2)] with nvm := [(0, 0x43#8), (1, 0x58#8), (2, 0x49#8), (3, 0x31#8), (4, 0x01#8), (6, 0x52#8), (7, 0x11#8), (17, 0x80#8), (20, 0x07#8), (25, 0x01#8), (64, 0x01#8), (69, 0x10#8), (96, 0x02#8), (101, 0x20#8), (128, 0x03#8), (133, 0x30#8), (160, 0x07#8), (165, 0x40#8), (192, 0x0c#8), (194, 0x04#8), (197, 0x50#8), (224, 0x0d#8), (226, 0x04#8), (229, 0x60#8), (256, 0x05#8), (261, 0x70#8)] }, by decide⟩⟩

/-- Hypotheses of SlotsAreChosenAndStreamed. -/
theorem witness_SectionIsStreamed :
    (∃ (s : State) (bs : List Byte), (s.boot.streaming = true) ∧ (needsHbm (s.sectionEntry s.boot.slot s.boot.nextSection) = true →
        s.boot.hbmReady = true) ∧ (s.openPayload s.boot.slot s.boot.nextSection (s.sectionEntry s.boot.slot s.boot.nextSection) = some bs)
        ∧ ((s.sectionEntry s.boot.slot s.boot.nextSection).typ = 13 → policyGood bs = true))
    ∧ (∃ (s : State) (readError : Bool), (s.boot.streaming = true) ∧ (needsHbm (s.sectionEntry s.boot.slot s.boot.nextSection) = true →
        s.boot.hbmReady = true) ∧ (readError = true
        ∨ Option.all (fun bs => (s.sectionEntry s.boot.slot s.boot.nextSection).typ == 13 && !policyGood bs) (s.openPayload s.boot.slot s.boot.nextSection (s.sectionEntry s.boot.slot s.boot.nextSection)) = true)) :=
  ⟨⟨{ State.reset with nvm := [(69, 0x10#8), (72, 0x04#8), (4096, 0x01#8), (4097, 0x02#8), (4098, 0x03#8), (4099, 0x04#8)], boot := { slot := 0, nextSection := 0, condA := SlotCond.notTried, condB := SlotCond.notTried, first := 0, pass := 0, streaming := true, placed := [], mismatched := [], crcLog := [], chosen := none, hbmReady := true, aliasOpen := true } }, [0x01#8, 0x02#8, 0x03#8, 0x04#8], by decide⟩,
   ⟨{ State.reset with boot := { slot := 0, nextSection := 0, condA := SlotCond.notTried, condB := SlotCond.notTried, first := 0, pass := 0, streaming := true, placed := [], mismatched := [], crcLog := [], chosen := none, hbmReady := true, aliasOpen := true } }, true, by decide⟩⟩

/-- Hypotheses of NvmCommandsActOnSlots. -/
theorem witness_NvmCommandsActOnSlots :
    (∃ (m : Master) (s : State) (c : Instr × NvmCmd), (Passes m 65536 s) ∧ (s.get .CFG_NVM_STAT_BUSY = 0)
        ∧ (c ∈ [(Instr.nvmReadPage m, NvmCmd.readPage), (Instr.nvmWritePage m, NvmCmd.writePage),
        (Instr.nvmOverwriteHeader m, NvmCmd.overwriteHeader)]) ∧ (c.snd = NvmCmd.readPage ∨ s.slotWriteRefusal = 0))
    ∧ (∃ (m : Master) (s : State) (c : Instr) (r : Nat), (Passes m 65536 s) ∧ (s.get .CFG_NVM_STAT_BUSY = 0)
        ∧ (c ∈ [Instr.nvmWritePage m, Instr.nvmOverwriteHeader m]) ∧ (r ∈ [8, 9]) ∧ (s.slotWriteRefusal = r))
    ∧ (∃ (m : Master) (s : State) (c : Instr), (Passes m 65536 s) ∧ (s.get .CFG_NVM_STAT_BUSY = 1)
        ∧ (c ∈ [Instr.nvmReadPage m, Instr.nvmWritePage m, Instr.nvmOverwriteHeader m])) :=
  ⟨⟨Master.st 1, State.reset, (Instr.nvmReadPage (Master.st 1), NvmCmd.readPage), by decide⟩,
   ⟨Master.st 1, State.reset, Instr.nvmWritePage (Master.st 1), 8, by decide⟩,
   ⟨Master.st 1, put [(.CFG_NVM_STAT_BUSY, 0, 1)], Instr.nvmReadPage (Master.st 1), by decide⟩⟩

/-- Hypotheses of WindowsStormsAndForcedAssertions. -/
theorem witness_WindowsCloseAndStormsEnd :
    (∃ (n : Nat) (s : State), (n < 512) ∧ (s.get .SRC_WINDOW_OPEN n = 1) ∧ (s.get .SRC_WINDOW_HIT n = 1) ∧ (s.get .FLT_SRC_STAT_STORM n = 0)
        ∧ (s.get .FLT_SRC_MASK n = 0))
    ∧ (∃ (n : Nat) (s : State), (n < 512) ∧ (s.get .SRC_WINDOW_OPEN n ≠ 1))
    ∧ (∃ (n : Nat) (s : State), (n < 512) ∧ (s.get .SRC_WINDOW_OPEN n = 1) ∧ (s.get .SRC_WINDOW_HIT n = 0 ∨ s.get .FLT_SRC_STAT_STORM n = 1
        ∨ s.get .FLT_SRC_MASK n = 1))
    ∧ (∃ (n : Nat) (k : Nat), (n < 512) ∧ (k < 512))
    ∧ (∃ (n : Nat) (s : State) (m : Master), (n < 512) ∧ (Passes m (srcOff n + 4) s) ∧ (s.get .FLT_SRC_STAT_STORM n = 1))
    ∧ (∃ (n : Nat) (s : State), (n < 512) ∧ (s.get .FLT_SRC_STAT_STORM n = 1) ∧ (s.get .FLT_CTRL_STORM_RELEASE ≠ 0)) :=
  ⟨⟨3, put [(.SRC_WINDOW_OPEN, 3, 1), (.SRC_WINDOW_HIT, 3, 1)], by decide⟩,
   ⟨7, State.reset, by decide⟩,
   ⟨3, put [(.SRC_WINDOW_OPEN, 3, 1)], by decide⟩,
   ⟨3, 511, by decide⟩,
   ⟨3, put [(.FLT_SRC_STAT_STORM, 3, 1)], Master.st 1, by decide⟩,
   ⟨3, put [(.FLT_CTRL_STORM_RELEASE, 0, 7), (.FLT_SRC_STAT_STORM, 3, 1)], by decide⟩⟩

/-- Hypotheses of WindowsStormsAndForcedAssertions. -/
theorem witness_ForcedAssertionIsANotice :
    (∃ (m : Master) (n : Nat) (s : State) (b : Nat), (n < 510) ∧ (Passes m (srcOff n) s) ∧ (s.sourceExists n = true)
        ∧ (s.get .FLT_SRC_STEWARD n ≤ 3) ∧ (s.get .FLT_SRC_STORM_N n = 0 ∨ s.get .FLT_SRC_STAT_STORM n = 1) ∧ (b < 19))
    ∧ (∃ (m : Master) (n : Nat) (s : State), (n < 510) ∧ (Passes m (srcOff n) s) ∧ (s.sourceExists n = false)) :=
  ⟨⟨Master.st 1, 3, put [(.FLT_SRC_STAT_STORM, 3, 1)], 18, by decide⟩,
   ⟨Master.st 1, 100, { State.reset with variant := Variant.cx576 }, by decide⟩⟩

/-- Hypotheses of RecoveryIsTakenAndDone. -/
theorem witness_RecoveryIsTakenAndDone :
    (∃ (m : Master) (v : Nat) (s : State) (r : RecovRec) (rest : List RecovRec), (Passes m 20185124 s) ∧ (s.recovQueue = r :: rest)
        ∧ (s.recovActive = none) ∧ (s.get .FLT_RECOV_STAT_FROZEN = 0) ∧ (bitsAt v 30 1 = 0) ∧ (r.source = bitsAt v 0 9))
    ∧ (∃ (m : Master) (v : Nat) (s : State) (r : RecovRec), (Passes m 20185124 s) ∧ (s.recovActive = some r)
        ∧ (s.get .FLT_RECOV_STAT_FROZEN = 0) ∧ (bitsAt v 31 1 = 0) ∧ (r.source = bitsAt v 0 9) ∧ (s.takeoverDue = false))
    ∧ (∃ (m : Master) (v : Nat) (s : State) (c : Instr), (Passes m 20185124 s) ∧ (s.get .FLT_RECOV_STAT_FROZEN = 1)
        ∧ (s.takeoverDue = false) ∧ (c ∈ [Instr.recoveryTake m v, Instr.recoveryDone m v]))
    ∧ (∃ (m : Master) (v : Nat) (s : State) (r : RecovRec) (c : Instr), (Passes m 20185124 s) ∧ (s.recovActive = some r)
        ∧ (s.get .FLT_RECOV_STAT_FROZEN = 0) ∧ (r.source ≠ bitsAt v 0 9) ∧ (s.takeoverDue = false)
        ∧ (c ∈ [Instr.recoveryTake m v, Instr.recoveryDone m v]))
    ∧ (∃ (m : Master) (s : State), (Passes m 20185124 s) ∧ (s.recovActive ≠ none) ∧ (s.get .FLT_RECOV_LIMIT ≠ 0)
        ∧ (s.get .FLT_RECOV_STAT_OVERDUE = 0)) :=
  ⟨⟨Master.st 1, 2147483748, { State.reset with recovQueue := [{ source := 100, count := 1, concurrent := false, preempted := false }, { source := 3, count := 2, concurrent := true, preempted := false }] }, { source := 100, count := 1, concurrent := false, preempted := false }, [{ source := 3, count := 2, concurrent := true, preempted := false }], by decide⟩,
   ⟨Master.st 1, 1073741924, { State.reset with recovActive := some { source := 100, count := 1, concurrent := false, preempted := false } }, { source := 100, count := 1, concurrent := false, preempted := false }, by decide⟩,
   ⟨Master.st 1, 2147483748, put [(.FLT_RECOV_STAT_FROZEN, 0, 1)], Instr.recoveryTake (Master.st 1) 2147483748, by decide⟩,
   ⟨Master.st 1, 5, { State.reset with recovActive := some { source := 100, count := 1, concurrent := false, preempted := false } }, { source := 100, count := 1, concurrent := false, preempted := false }, Instr.recoveryTake (Master.st 1) 5, by decide⟩,
   ⟨Master.st 1, { State.reset with recovActive := some { source := 100, count := 1, concurrent := false, preempted := false } }, by decide⟩⟩

/-- Hypotheses of HbmIsScrubbedAndWatched. -/
theorem witness_HbmIsScrubbedAndWatched :
    (∃ (k : Nat) (s : State) (fail0 : Bool), (k < 2) ∧ (s.hasStack k = true) ∧ (s.get .PWR_STAT_STATE = 1) ∧ (s.boot.hbmReady = false)
        ∧ (fail0 = true))
    ∧ (∃ (k : Nat) (s : State) (fail1 : Bool), (k < 2) ∧ (s.hasStack k = true) ∧ (s.get .PWR_STAT_STATE = 1) ∧ (s.boot.hbmReady = false)
        ∧ (fail1 = true) ∧ (s.hasStack 1 = true))
    ∧ (∃ (k : Nat) (s : State), (k < 2) ∧ (s.hasStack k = true) ∧ (s.stackRuns k = true))
    ∧ (∃ (k : Nat) (s : State) (training : Bool), (k < 2) ∧ (s.hasStack k = true) ∧ ((training || s.boot.hbmReady) = true)
        ∧ (s.get .FLT_HBM_FAILED k = 0)) :=
  ⟨⟨0, State.reset, true, by decide⟩,
   ⟨0, State.reset, true, by decide⟩,
   ⟨0, { State.reset with boot := { slot := 0, nextSection := 0, condA := SlotCond.notTried, condB := SlotCond.notTried, first := 0, pass := 0, streaming := false, placed := [], mismatched := [], crcLog := [], chosen := none, hbmReady := true, aliasOpen := true } }, by decide⟩,
   ⟨0, State.reset, true, by decide⟩⟩

/-- Hypotheses of CheckUnitsJudgeResults. -/
theorem witness_CheckUnitsJudgeResults :
    (∃ (u : Nat) (s : State), (s.running .chkUnit u = true) ∧ (2 ≤ s.get .CHK_CTRL_KIND u) ∧ (s.get .CHK_CTRL_KIND u ≤ 6)
        ∧ (s.chkTargetLive u = true) ∧ (s.get .CHK_CTRL_COMPARE u = 1))
    ∧ (∃ (u : Nat) (s : State), (s.running .chkUnit u = true) ∧ (2 ≤ s.get .CHK_CTRL_KIND u) ∧ (s.get .CHK_CTRL_KIND u ≤ 6))
    ∧ (∃ (u : Nat) (s : State), (s.running .chkUnit u = true) ∧ (s.get .CHK_CTRL_KIND u = 1) ∧ (s.get .CHK_STAT_BUSY u = 1)
        ∧ (s.get .CHK_CTRL_COMPARE u = 0)) :=
  ⟨⟨0, put [(.CHECK_ENABLED, 15, 1), (.CHECK_ENABLED, 20, 1), (.CHK_CTRL_KIND, 0, 6), (.CHK_CTRL_COMPARE, 0, 1)], by decide⟩,
   ⟨0, put [(.CHECK_ENABLED, 20, 1), (.CHK_CTRL_KIND, 0, 6)], by decide⟩,
   ⟨0, put [(.CHECK_ENABLED, 20, 1), (.CHK_CTRL_KIND, 0, 1), (.CHK_STAT_BUSY, 0, 1)], by decide⟩⟩

/-- Hypotheses of BusErrorsAndLinkEvents. -/
theorem witness_BusErrorsAreLogged :
    (∃ (s : State), s.get .BUS_ERR_COUNT = 0)
    ∧ (∃ (s : State), s.get .BUS_ERR_COUNT ≠ 0)
    ∧ (∃ (s : State), s.get .BUS_LOST_COUNT = 0) :=
  ⟨⟨State.reset, by decide⟩,
   ⟨put [(.BUS_ERR_COUNT, 0, 1)], by decide⟩,
   ⟨State.reset, by decide⟩⟩

/-- Hypotheses of BusErrorsAndLinkEvents. -/
theorem witness_LinkEventsResetTheEndpoint :
    (∃ (n : Nat), n < 512)
    ∧ (∃ (s : State), s.get .BUS_LINK_STAT_LINK_UP = 1) :=
  ⟨⟨511, by decide⟩,
   ⟨put [(.BUS_LINK_STAT_LINK_UP, 0, 1)], by decide⟩⟩

/-- Hypotheses of InterruptsAndMailboxes. -/
theorem witness_InterruptsAndMailboxes :
    (∃ (m : Master) (n : Nat) (s : State), (n < 512) ∧ (Passes m (32780 + 16 * n) s) ∧ (s.get .MSIX_PENDING n = 1)
        ∧ (s.get .BUS_LINK_STAT_LINK_UP = 1) ∧ (s.get .BUS_LINK_STAT_BME = 1) ∧ (s.get .BUS_LINK_STAT_MSIX_EN = 1)
        ∧ (s.get .BUS_LINK_STAT_FUNC_MASK = 0))
    ∧ (∃ (n : Nat) (s : State), (n < 512) ∧ (s.get .BUS_LINK_STAT_LINK_UP = 1) ∧ (s.get .MSIX_PENDING n = 1) ∧ (s.get .MSIX_CONTROL_MASK n = 0))
    ∧ (∃ (b : Nat) (s : State), (b < 16) ∧ (s.handedOver = true) ∧ (s.get .SEC_POLICY1_FLAGS = 0) ∧ (s.confidential = [])
        ∧ (s.get .MBX_CTRL_REQ b = 0))
    ∧ (∃ (b : Nat) (s : State), (b < 16) ∧ (s.get .MBX_CTRL_RSP b = 0)) :=
  ⟨⟨Master.st 1, 0, put [(.BUS_LINK_STAT_LINK_UP, 0, 1), (.BUS_LINK_STAT_BME, 0, 1), (.BUS_LINK_STAT_MSIX_EN, 0, 1), (.MSIX_PENDING, 0,
      1)], by decide⟩,
   ⟨3, put [(.MSIX_CONTROL_MASK, 3, 0), (.BUS_LINK_STAT_LINK_UP, 0, 1), (.MSIX_PENDING, 3, 1)], by decide⟩,
   ⟨0, put [(.GEN_BOOT_STAT_PHASE, 0, 6)], by decide⟩,
   ⟨0, State.reset, by decide⟩⟩

/-- Hypotheses of UnlockNeedsASignedNonce. -/
theorem witness_UnlockNeedsASignedNonce :
    (∃ (m : Master) (s : State) (k : Nat), (regGate m 20709392 4 false s = none) ∧ (k < 4))
    ∧ (∃ (m : Master) (s : State), (Passes m 20709408 s) ∧ (s.get .SEC_RESULT_BUSY = 0) ∧ (s.inForce.lifecycle ≤ 3) ∧ (s.get .SEC_DBG_LEVEL ≠ 0))
    ∧ (∃ (m : Master) (slot : Nat) (s : State), (Passes m 20709408 s) ∧ (s.get .SEC_RESULT_BUSY = 0) ∧ (s.get .SEC_DBG_LOCKOUT = 0)
        ∧ (1 ≤ s.inForce.lifecycle) ∧ (s.inForce.lifecycle ≤ 3) ∧ (s.nonceValid = true) ∧ (s.isPrincipal slot = true)
        ∧ (bitsAt (s.get .SEC_ARG) 0 2 ≤ s.debugCeiling)) :=
  ⟨⟨Master.st 1, State.reset, 3, by decide⟩,
   ⟨Master.st 1, State.reset, by decide⟩,
   ⟨Master.st 1, 0, { put [(.SEC_POLICY1_DEBUG_MAX, 0, 3)] with inForce := { lifecycle := 1, uid := 0, rootKey := [], ownerKeys := [], ownerRevoked := 8, safetyKeys := [], safetyRevoked := 0, imageKey := [], keyDestroyed := false, floor := 0 }, nonceAt := some 0 }, by decide⟩⟩

/-- Hypotheses of LifecycleRevocationAndFloor. -/
theorem witness_LifecycleAdvances :
    (∃ (m : Master) (s : State), (Passes m 20709408 s) ∧ (s.get .SEC_RESULT_BUSY = 0) ∧ (s.inForce.lifecycle = 0) ∧ (∃ i, i < 4
        ∧ emptyKey (s.provBytes (24 * i) 24) = false) ∧ (∃ i, i < 2 ∧ emptyKey (s.provBytes (96 + 24 * i) 24) = false) ∧ (s.fuses.ownerKeys = []))
    ∧ (∃ (m : Master) (s : State), (Passes m 20709408 s) ∧ (s.get .SEC_RESULT_BUSY = 0) ∧ (s.inForce.lifecycle = 0) ∧ (∃ i, i < 4
        ∧ emptyKey (s.provBytes (24 * i) 24) = false) ∧ (∃ i, i < 2 ∧ emptyKey (s.provBytes (96 + 24 * i) 24) = false) ∧ (s.fuses.safetyKeys = []))
    ∧ (∃ (m : Master) (slot : Nat) (s : State), (Passes m 20709408 s) ∧ (s.get .SEC_RESULT_BUSY = 0) ∧ (s.get .SEC_DBG_LOCKOUT = 0)
        ∧ (s.nonceValid = true) ∧ (s.isOwner slot = true) ∧ (s.inForce.lifecycle = 1))
    ∧ (∃ (m : Master) (slot : Nat) (s : State), (Passes m 20709408 s) ∧ (s.get .SEC_RESULT_BUSY = 0) ∧ (s.get .SEC_DBG_LOCKOUT = 0)
        ∧ (s.nonceValid = true) ∧ (s.isOwner slot = true) ∧ (s.inForce.lifecycle = 1 ∨ s.inForce.lifecycle = 2)) :=
  ⟨⟨Master.st 1, put [(.SEC_PROV, 0, 1), (.SEC_PROV, 96, 4)], by decide⟩,
   ⟨Master.st 1, put [(.SEC_PROV, 0, 1), (.SEC_PROV, 96, 4)], by decide⟩,
   ⟨Master.st 1, 0, { State.reset with inForce := { lifecycle := 1, uid := 0, rootKey := [], ownerKeys := [], ownerRevoked := 8, safetyKeys := [], safetyRevoked := 0, imageKey := [], keyDestroyed := false, floor := 0 }, nonceAt := some 0 }, by decide⟩,
   ⟨Master.st 1, 0, { State.reset with inForce := { lifecycle := 1, uid := 0, rootKey := [], ownerKeys := [], ownerRevoked := 8, safetyKeys := [], safetyRevoked := 0, imageKey := [], keyDestroyed := false, floor := 0 }, nonceAt := some 0 }, by decide⟩⟩

/-- Hypotheses of LifecycleRevocationAndFloor. -/
theorem witness_RevocationAndFloor :
    (∃ (m : Master) (slot : Nat) (s : State), (Passes m 20709408 s) ∧ (s.get .SEC_RESULT_BUSY = 0) ∧ (s.get .SEC_DBG_LOCKOUT = 0)
        ∧ (s.nonceValid = true) ∧ (s.inForce.lifecycle = 1 ∨ s.inForce.lifecycle = 2) ∧ (s.isOwner slot = true)
        ∧ (slot ≠ bitsAt (s.get .SEC_ARG) 0 2))
    ∧ (∃ (m : Master) (slot : Nat) (s : State), (Passes m 20709408 s) ∧ (s.get .SEC_RESULT_BUSY = 0) ∧ (s.get .SEC_DBG_LOCKOUT = 0)
        ∧ (s.nonceValid = true) ∧ (s.inForce.lifecycle = 1 ∨ s.inForce.lifecycle = 2) ∧ (s.isSafetyOwner slot = true)
        ∧ (slot ≠ 16 + bitsAt (s.get .SEC_ARG) 0 1)) :=
  ⟨⟨Master.st 1, 0, { put [(.SEC_ARG, 0, 1)] with inForce := { lifecycle := 1, uid := 0, rootKey := [], ownerKeys := [], ownerRevoked := 8, safetyKeys := [], safetyRevoked := 0, imageKey := [], keyDestroyed := false, floor := 0 }, nonceAt := some 0 }, by decide⟩,
   ⟨Master.st 1, 16, { put [(.SEC_ARG, 0, 1)] with inForce := { lifecycle := 1, uid := 0, rootKey := [], ownerKeys := [], ownerRevoked := 8, safetyKeys := [], safetyRevoked := 0, imageKey := [], keyDestroyed := false, floor := 0 }, nonceAt := some 0 }, by decide⟩⟩

/-- Hypotheses of MonitorsAndJtag. -/
theorem witness_MonitorsAndJtag :
    (∃ (s : State) (t : Int), (↑(s.get .PWR_TEMP_WARN_LIMIT) * 128 ≤ t) ∧ (s.get .TEMP_RAISED = 0))
    ∧ (∃ (t : Int), 110 * 128 ≤ t)
    ∧ (∃ (d : Nat), (d < 8) ∧ (d ≠ 0))
    ∧ (∃ (s : State) (r : Nat), (r < 8) ∧ (s.get .TWN_STAT_CLAIM = 0)) :=
  ⟨⟨State.reset, 14080, by decide⟩,
   ⟨14080, by decide⟩,
   ⟨7, by decide⟩,
   ⟨State.reset, 7, by decide⟩⟩

/-- Hypotheses of GazetteerPublishesAndFollows. -/
theorem witness_GazetteerPublishesAtomically :
    (∃ (n : Nat) (s : State) (m : Master) (w : Nat) (i : Nat), (n < 2304) ∧ (1 ≤ w) ∧ (w ≤ 7) ∧ (Passes m (gazOff n w) s)
        ∧ (s.gazForeign n = false) ∧ (i ≠ 8 * n + w))
    ∧ (∃ (n : Nat) (s : State) (m : Master) (w : Nat) (j : Nat), (n < 2304) ∧ (1 ≤ w) ∧ (w ≤ 7) ∧ (Passes m (gazOff n w) s)
        ∧ (s.gazForeign n = false) ∧ (j ≠ n))
    ∧ (∃ (n : Nat) (s : State) (m : Master) (w : Nat), (n < 2304) ∧ (1 ≤ w) ∧ (w ≤ 7) ∧ (Passes m (gazOff n w) s) ∧ (s.gazForeign n = true))
    ∧ (∃ (n : Nat) (s : State) (m : Master), (n < 2304) ∧ (Passes m (gazOff n 0) s) ∧ (s.gazForeign n = false) ∧ (n < 1152))
    ∧ (∃ (n : Nat) (s : State) (m : Master), (n < 2304) ∧ (Passes m (gazOff n 0) s) ∧ (s.gazForeign n = true))
    ∧ (∃ (n : Nat) (s : State) (p : Nat), (n < 2304) ∧ (s.homeEntry n = true) ∧ (s.get .GAZ_DIRTY n ≠ 0) ∧ (p < 11) ∧ (s.fabSends = true)
        ∧ (s.portUp p = true)) :=
  ⟨⟨0, put [(.GEN_ENUM_POS_VALID, 0, 1), (.GEN_ENUM_POSITION, 0, 0)], Master.st 1, 1, 0, by decide⟩,
   ⟨0, put [(.GEN_ENUM_POS_VALID, 0, 1), (.GEN_ENUM_POSITION, 0, 0)], Master.st 1, 1, 1, by decide⟩,
   ⟨0, State.reset, Master.st 1, 1, by decide⟩,
   ⟨0, put [(.GEN_ENUM_POS_VALID, 0, 1), (.GEN_ENUM_POSITION, 0, 0)], Master.st 1, by decide⟩,
   ⟨0, State.reset, Master.st 1, by decide⟩,
   ⟨4, put [(.CHECK_ENABLED, 3, 1), (.GEN_ENUM_POS_VALID, 0, 1), (.GEN_ENUM_POSITION, 0, 0), (.GAZ_DIRTY, 4, 2), (.FAB_PORT_STAT_UP, 0,
       1)], 0, by decide⟩⟩

/-- Hypotheses of GazetteerPublishesAndFollows. -/
theorem witness_GazetteerFollowsItsPeers :
    (∃ (s : State) (e : GazEntry), (s.running .fabric = true) ∧ (e.n < 2304) ∧ (s.homeEntry e.n = false)
        ∧ (newerThan (bitsAt (e.words[1]?.getD 0) 16 16) (s.get .GAZ_W1_GENERATION e.n) = true))
    ∧ (∃ (s : State) (e : GazEntry), s.homeEntry e.n = true)
    ∧ (∃ (s : State) (p : Nat), (s.positioned = true) ∧ (p < 11) ∧ (s.fabSends = true) ∧ (s.portUp p = true))
    ∧ (∃ (s : State) (p : Nat) (n : Nat), (p < 11) ∧ (s.running .fabric = true) ∧ (s.get .FAB_PORT_STAT_LOST p = 0) ∧ (n ∈ entriesOf (s.peerPos p)))
    ∧ (∃ (s : State) (p : Nat) (d : Nat), (p < 11) ∧ (s.running .fabric = true) ∧ (s.get .FAB_PORT_STAT_LOST p = 0)
        ∧ (d ≠ s.digestOf (s.peerPos p)) ∧ (s.mismatch (s.peerPos p) = false) ∧ (s.fabSends = true) ∧ (s.portUp p = true))
    ∧ (∃ (s : State) (p : Nat) (n : Nat), (p < 11) ∧ (s.running .fabric = true) ∧ (s.positioned = true) ∧ (s.fabSends = true)
        ∧ (s.portUp p = true) ∧ (n ∈ entriesOf s.position))
    ∧ (∃ (s : State) (p : Nat), (p < 11) ∧ (s.mismatch (s.peerPos p) = true) ∧ (s.get .FAB_PORT_STAT_LOST p = 0) ∧ (s.fabSends = true)
        ∧ (s.portUp p = true)) :=
  ⟨⟨put [(.CHECK_ENABLED, 3, 1)], { n := 100, words := [2147483648, 328195, 7, 8, 9, 10, 11, 12] }, by decide⟩,
   ⟨put [(.GEN_ENUM_POS_VALID, 0, 1), (.GEN_ENUM_POSITION, 0, 1)], { n := 100, words := [2147483648, 328195, 7, 8, 9, 10, 11, 12] }, by decide⟩,
   ⟨put [(.CHECK_ENABLED, 3, 1), (.GEN_ENUM_POS_VALID, 0, 1), (.FAB_PORT_STAT_UP, 0, 1)], 0, by decide⟩,
   ⟨put [(.CHECK_ENABLED, 3, 1), (.GEN_ENUM_POSITION, 0, 0)], 10, 1056, by decide⟩,
   ⟨put [(.CHECK_ENABLED, 3, 1), (.FAB_PORT_STAT_UP, 0, 1)], 0, 0, by decide +kernel⟩,
   ⟨put [(.CHECK_ENABLED, 3, 1), (.GEN_ENUM_POS_VALID, 0, 1), (.GEN_ENUM_POSITION, 0, 0), (.FAB_PORT_STAT_UP, 0, 1)], 0, 0, by decide⟩,
   ⟨put [(.CHECK_ENABLED, 3, 1), (.GEN_ENUM_POSITION, 0, 1), (.ATL_GAZ_STAT_MISMATCH, 0, 77), (.FAB_PORT_STAT_UP, 0, 1)], 0, by decide⟩⟩

/-- Hypotheses of QueuePointersAreChecked. -/
theorem witness_QueuePointersAreChecked :
    (∃ (m : Master) (q : Nat) (v : Nat) (s : State), (q < 65536) ∧ (Passes m (queueOff q 2) s)
        ∧ (s.get .PKT_Q_PROD_AGENT q = queueAgentOf m) ∧ (bitsAt v 25 7 = s.get .PKT_Q_PTR_GEN q) ∧ (s.get .PKT_Q_STAT_FLUSHING q = 0)
        ∧ (s.qOccupancy q + s.qDelta q (s.get .PKT_Q_PTR_PROD q) (bitsAt v 0 25) ≤ s.qSize q))
    ∧ (∃ (m : Master) (q : Nat) (s : State), (q < 65536) ∧ (Passes m (queueOff q 2) s) ∧ (s.get .PKT_Q_PROD_AGENT q ≠ queueAgentOf m))
    ∧ (∃ (m : Master) (q : Nat) (v : Nat) (s : State), (q < 65536) ∧ (Passes m (queueOff q 2) s)
        ∧ (s.get .PKT_Q_PROD_AGENT q = queueAgentOf m) ∧ (bitsAt v 25 7 ≠ s.get .PKT_Q_PTR_GEN q))
    ∧ (∃ (m : Master) (q : Nat) (v : Nat) (s : State), (q < 65536) ∧ (Passes m (queueOff q 2) s)
        ∧ (s.get .PKT_Q_PROD_AGENT q = queueAgentOf m) ∧ (bitsAt v 25 7 = s.get .PKT_Q_PTR_GEN q) ∧ (s.get .PKT_Q_STAT_FLUSHING q = 1
        ∨ s.qSize q < s.qOccupancy q + s.qDelta q (s.get .PKT_Q_PTR_PROD q) (bitsAt v 0 25)))
    ∧ (∃ (m : Master) (q : Nat) (s : State), (q < 65536) ∧ (Passes m (queueOff q 3) s) ∧ (s.get .PKT_Q_CONS_AGENT q ≠ queueAgentOf m))
    ∧ (∃ (m : Master) (q : Nat) (v : Nat) (s : State), (q < 65536) ∧ (Passes m (queueOff q 3) s)
        ∧ (s.get .PKT_Q_CONS_AGENT q = queueAgentOf m) ∧ (bitsAt v 25 7 ≠ s.get .PKT_Q_PTR_GEN q))
    ∧ (∃ (m : Master) (q : Nat) (v : Nat) (s : State), (q < 65536) ∧ (Passes m (queueOff q 3) s)
        ∧ (s.get .PKT_Q_CONS_AGENT q = queueAgentOf m) ∧ (bitsAt v 25 7 = s.get .PKT_Q_PTR_GEN q)
        ∧ (s.qDelta q (s.get .PKT_Q_PTR_CONS q) (bitsAt v 0 25) ≤ s.qOccupancy q))
    ∧ (∃ (m : Master) (q : Nat) (v : Nat) (s : State), (q < 65536) ∧ (Passes m (queueOff q 3) s)
        ∧ (s.get .PKT_Q_CONS_AGENT q = queueAgentOf m) ∧ (bitsAt v 25 7 = s.get .PKT_Q_PTR_GEN q)
        ∧ (s.qOccupancy q < s.qDelta q (s.get .PKT_Q_PTR_CONS q) (bitsAt v 0 25))) :=
  ⟨⟨Master.st 1, 3, 63, put [(.PKT_Q_PROD_AGENT, 3, 1)], by decide⟩,
   ⟨Master.st 1, 3, State.reset, by decide⟩,
   ⟨Master.st 1, 3, 3, put [(.PKT_Q_PROD_AGENT, 3, 1), (.PKT_Q_PTR_GEN, 3, 1)], by decide⟩,
   ⟨Master.st 1, 3, 3, put [(.PKT_Q_PROD_AGENT, 3, 1), (.PKT_Q_PTR_PROD, 3, 61)], by decide⟩,
   ⟨Master.st 1, 5, State.reset, by decide⟩,
   ⟨Master.st 1, 3, 3, put [(.PKT_Q_CONS_AGENT, 3, 1), (.PKT_Q_PTR_GEN, 3, 1)], by decide⟩,
   ⟨Master.st 1, 3, 63, put [(.PKT_Q_CONS_AGENT, 3, 1), (.PKT_Q_PTR_PROD, 3, 69)], by decide⟩,
   ⟨Master.st 1, 3, 3, put [(.PKT_Q_CONS_AGENT, 3, 1), (.PKT_Q_PTR_CONS, 3, 56)], by decide⟩⟩

/-- Hypotheses of QueueFlushesAndCheckBytes. -/
theorem witness_FlushesEndTheGeneration :
    (∃ (m : Master) (q : Nat) (v : Nat) (s : State) (c : Instr), (q < 65536) ∧ (Passes m (queueOff q 4) s) ∧ (s.running .queue q = false)
        ∧ (c ∈ [Instr.softFlush m q v, Instr.hardFlush m q v]))
    ∧ (∃ (q : Nat) (s : State), (q < 65536) ∧ (s.get .PKT_Q_STAT_FLUSHING q = 1) ∧ (s.workOn q = none))
    ∧ (∃ (m : Master) (q : Nat) (v : Nat) (s : State) (a : Nat), (q < 65536) ∧ (Passes m (queueOff q 4) s) ∧ (s.running .queue q = true)
        ∧ (s.unitEn (⟨.queue, q⟩ : UnitId) = true) ∧ (v % 2 = 1) ∧ (s.cutWork q = none) ∧ (a < s.keyOf (s.qAddr q (s.get .PKT_Q_PTR_PROD q))
        ∨ s.keyOf (s.qAddr q (s.get .PKT_Q_PTR_PROD q)) + 8 ≤ a) ∧ (a ≠ s.keyOf (s.qBase q + 8 * s.qSize q + s.get .PKT_Q_PTR_PROD q % s.qSize q)))
    ∧ (∃ (m : Master) (q : Nat) (v : Nat) (s : State), (q < 65536) ∧ (Passes m (queueOff q 4) s) ∧ (s.running .queue q = true)
        ∧ (s.unitEn (⟨.queue, q⟩ : UnitId) = true) ∧ (v % 2 = 1) ∧ (s.cutWork q = none)
        ∧ (s.keyOf (s.qAddr q (s.get .PKT_Q_PTR_PROD q)) + 8 ≤ s.keyOf (s.qBase q + 8 * s.qSize q + s.get .PKT_Q_PTR_PROD q % s.qSize q))) :=
  ⟨⟨Master.st 1, 58, 3, State.reset, Instr.softFlush (Master.st 1) 58 3, by decide⟩,
   ⟨3, put [(.PKT_Q_STAT_FLUSHING, 3, 1)], by decide⟩,
   ⟨Master.st 1, 3, 3, put [(.UNIT_EN, 107, 1), (.CHECK_ENABLED, 107, 1), (.GEN_CTRL_REMAP, 0, 1), (.PKT_Q_BASE_LO, 3, 262144)], 3, by decide⟩,
   ⟨Master.st 1, 3, 3, put [(.UNIT_EN, 107, 1), (.CHECK_ENABLED, 107, 1), (.GEN_CTRL_REMAP, 0, 1)], by decide⟩⟩

/-- Hypotheses of QueueFlushesAndCheckBytes. -/
theorem witness_FlushOfADisabledQueueIsRefused :
    (∃ (m : Master) (q : Nat) (v : Nat) (s : State) (c : Instr), (q < 65536) ∧ (Passes m (queueOff q 4) s) ∧ (s.running .queue q = true)
        ∧ (s.unitEn (⟨.queue, q⟩ : UnitId) = true) ∧ (s.flag .CHECK_BUSY (⟨.queue, q⟩ : UnitId).code = false) ∧ (s.cutWork q = none) ∧ (v % 2 = 0)
        ∧ (c ∈ [Instr.softFlush m q v, Instr.hardFlush m q v])) :=
  ⟨Master.st 1, 3, 58, put [(.UNIT_EN, 107, 1), (.CHECK_ENABLED, 107, 1)], Instr.softFlush (Master.st 1) 3 58, by decide⟩

/-- Hypotheses of QueueFlushesAndCheckBytes. -/
theorem witness_QueueWordsCarryCheckBytes :
    (∃ (m : Master) (a : Nat) (o : Nat) (q : Nat) (k : Nat) (s : State) (b : Nat), (s.target m a = Target.sram o)
        ∧ (s.memGate m a 8 true = none) ∧ (s.queueAt o = some q) ∧ (k < s.qSize q) ∧ (o = s.keyOf (s.qBase q) + 8 * k)
        ∧ (s.keyOf (s.qBase q + 8 * k) = o) ∧ (o + 8 ≤ s.keyOf (s.qBase q + 8 * s.qSize q + k)) ∧ (b < o ∨ o + 8 ≤ b)
        ∧ (b ≠ s.keyOf (s.qBase q + 8 * s.qSize q + k)))
    ∧ (∃ (m : Master) (a : Nat) (size : Nat) (o : Nat) (q : Nat) (s : State), (s.target m a = Target.sram o)
        ∧ (s.memGate m a size true = none) ∧ (s.queueAt o = some q) ∧ (s.keyOf (s.qBase q) + 8 * s.qSize q ≤ o))
    ∧ (∃ (q : Nat) (p : Nat) (s : State), (q < 65536) ∧ (s.running .queue q = true) ∧ ((s.qItems q).contains (p % (2 * s.qSize q)) = false))
    ∧ (∃ (q : Nat) (p : Nat) (s : State), (q < 65536) ∧ (s.running .queue q = true) ∧ ((s.qItems q).contains (p % (2 * s.qSize q)) = true)
        ∧ (s.cutWork q = none))
    ∧ (∃ (m : Master) (q : Nat) (p : Nat) (s : State), (s.running .queue q = true) ∧ (s.memGate m (s.qAddr q p) 8 false = none)) :=
  ⟨⟨Master.st 1, 464, 464, 3, 58, put [(.CHECK_ENABLED, 107, 1), (.GEN_CTRL_REMAP, 0, 1)], 3, by decide⟩,
   ⟨Master.st 1, 520, 3, 520, 3, put [(.CHECK_ENABLED, 107, 1), (.GEN_CTRL_REMAP, 0, 1)], by decide⟩,
   ⟨3, 3, put [(.CHECK_ENABLED, 107, 1), (.PKT_Q_PTR_CONS, 3, 56)], by decide⟩,
   ⟨3, 58, put [(.CHECK_ENABLED, 107, 1), (.PKT_Q_PTR_PROD, 3, 60)], by decide⟩,
   ⟨Master.st 1, 3, 3, put [(.CHECK_ENABLED, 107, 1)], by decide⟩⟩

/-- Hypotheses of RecordsGoToTheirRings. -/
theorem witness_RecordsGoToTheirRings :
    (∃ (s : State) (r : LogRec) (rest : List LogRec) (i : Nat), (s.get .CFG_PERSIST_STAT_OFF = 0) ∧ (s.logWaiting = r :: rest)
        ∧ (s.get .FLT_CTRL_LOGQ_EN = 0) ∧ ((r.always || s.logRoom) = true) ∧ (i < 256))
    ∧ (∃ (s : State) (r : LogRec) (rest : List LogRec) (a : Nat), (s.get .CFG_PERSIST_STAT_OFF = 0) ∧ (s.logWaiting = r :: rest)
        ∧ (s.get .FLT_CTRL_LOGQ_EN = 0) ∧ ((r.always || s.logRoom) = true) ∧ (a < 117440512 + 256 * s.get .FLT_LOG_POS
        ∨ 117440512 + 256 * s.get .FLT_LOG_POS + 256 ≤ a))
    ∧ (∃ (s : State) (r : LogRec) (rest : List LogRec), (s.get .CFG_PERSIST_STAT_OFF = 0) ∧ (s.logWaiting = r :: rest)
        ∧ ((r.always || s.logRoom) = false))
    ∧ (∃ (s : State) (i : Nat), (s.get .CFG_PERSIST_STAT_OFF = 0) ∧ (s.electionReady = true) ∧ (i < 16))
    ∧ (∃ (s : State) (a : Nat), (s.get .CFG_PERSIST_STAT_OFF = 0) ∧ (s.electionReady = true) ∧ (a < 100728832 + 16 * s.get .ELECT_POS
        ∨ 100728832 + 16 * s.get .ELECT_POS + 16 ≤ a))
    ∧ (∃ (s : State) (i : Nat), (s.get .CFG_PERSIST_STAT_OFF = 0) ∧ (s.running .ref = true) ∧ (s.get .REF_CTRL_LEARN = 1)
        ∧ (s.ageingReady = true) ∧ (i < 256))
    ∧ (∃ (s : State) (a : Nat), (s.get .CFG_PERSIST_STAT_OFF = 0) ∧ (s.running .ref = true) ∧ (s.get .REF_CTRL_LEARN = 1)
        ∧ (s.ageingReady = true) ∧ (a < 100663296 + 256 * s.get .AGE_POS ∨ 100663296 + 256 * s.get .AGE_POS + 256 ≤ a)) :=
  ⟨⟨{ State.reset with logWaiting := [{ source := 100, cls := 2, flags := 1, time := { sec := 1, ns := 2, frac := 3 }, count := 4, always := true, detail := [1, 2] }] }, { source := 100, cls := 2, flags := 1, time := { sec := 1, ns := 2, frac := 3 }, count := 4, always := true, detail := [1, 2] }, [], 255, by decide⟩,
   ⟨{ State.reset with logWaiting := [{ source := 100, cls := 2, flags := 1, time := { sec := 1, ns := 2, frac := 3 }, count := 4, always := true, detail := [1, 2] }] }, { source := 100, cls := 2, flags := 1, time := { sec := 1, ns := 2, frac := 3 }, count := 4, always := true, detail := [1, 2] }, [], 0, by decide⟩,
   ⟨{ State.reset with logWaiting := [{ source := 100, cls := 2, flags := 1, time := { sec := 1, ns := 2, frac := 3 }, count := 4, always := false, detail := [1, 2] }], logTimes := (List.replicate 64 0) }, { source := 100, cls := 2, flags := 1, time := { sec := 1, ns := 2, frac := 3 }, count := 4, always := false, detail := [1, 2] }, [], by decide⟩,
   ⟨put [(.ELECT_DUE, 0, 1)], 15, by decide⟩,
   ⟨put [(.ELECT_DUE, 0, 1)], 0, by decide⟩,
   ⟨put [(.CHECK_ENABLED, 14, 1)], 255, by decide⟩,
   ⟨put [(.CHECK_ENABLED, 14, 1)], 0, by decide⟩⟩

/-- Hypotheses of PowerStatesFollowRequests. -/
theorem witness_PowerStatesFollowRequests :
    (∃ (s : State), (s.get .FLT_STAT_FATAL = 1) ∧ (s.get .PWR_STAT_STATE = 2 ∨ s.get .PWR_STAT_STATE = 3 ∨ s.get .PWR_STAT_STATE = 4)
        ∧ (s.get .TWN_STAT_CLAIM = 0))
    ∧ (∃ (s : State), (s.get .FLT_STAT_FATAL = 1) ∧ (s.get .PWR_STAT_STATE = 2 ∨ s.get .PWR_STAT_STATE = 3 ∨ s.get .PWR_STAT_STATE = 4)
        ∧ (s.get .TWN_STAT_CLAIM = 1) ∧ (s.releasable = true))
    ∧ (∃ (s : State) (m : Master), (Passes m 20971520 s) ∧ (s.get .PWR_STAT_STATE = 2 ∨ s.get .PWR_STAT_STATE = 3)
        ∧ (s.get .FLD_SAFE_STAT_HOLDS0 = 0) ∧ (s.get .FLD_SAFE_STAT_HOLDS1 = 0) ∧ (s.get .TWN_STAT_CLAIM = 0 ∨ s.releasable = true)
        ∧ (s.flag .TWN_STAT_CLAIM = false))
    ∧ (∃ (s : State) (m : Master), (Passes m 20971520 s) ∧ (s.get .PWR_STAT_STATE ≠ 2) ∧ (s.get .PWR_STAT_STATE ≠ 3))
    ∧ (∃ (s : State) (m : Master), (Passes m 20971520 s) ∧ (s.get .PWR_STAT_STATE = 2 ∨ s.get .PWR_STAT_STATE = 3)
        ∧ (s.get .FLD_SAFE_STAT_HOLDS0 = 1 ∨ s.get .FLD_SAFE_STAT_HOLDS1 = 1))
    ∧ (∃ (s : State) (m : Master), (Passes m 20971520 s) ∧ (s.get .PWR_STAT_STATE = 4) ∧ (s.running .twin = false))
    ∧ (∃ (s : State) (m : Master), (Passes m 20971520 s) ∧ (s.get .PWR_STAT_STATE ≠ 4)) :=
  ⟨⟨put [(.FLT_STAT_FATAL, 0, 1), (.PWR_STAT_STATE, 0, 4)], by decide⟩,
   ⟨put [(.TWN_LINK_SEEN, 0, 1), (.FLT_STAT_FATAL, 0, 1), (.TWN_STAT_CLAIM, 0, 1), (.TWN_STAT_TWIN_FLAGS, 0, 4), (.TWN_TWIN_POWER, 0, 3),
       (.PWR_STAT_STATE, 0, 2)], by decide⟩,
   ⟨put [(.PWR_STAT_STATE, 0, 2)], Master.st 1, by decide⟩,
   ⟨State.reset, Master.st 1, by decide⟩,
   ⟨put [(.PWR_STAT_STATE, 0, 3), (.FLD_SAFE_STAT_HOLDS0, 0, 1)], Master.st 1, by decide⟩,
   ⟨put [(.PWR_STAT_STATE, 0, 4)], Master.st 1, by decide⟩,
   ⟨State.reset, Master.st 1, by decide⟩⟩

/-- Hypotheses of TimeIsSteeredAndCaptured. -/
theorem witness_TimeBasesAreSteered :
    (∃ (m : Master) (n : Nat) (v : Nat) (s : State), (n < 8) ∧ (Passes m (tbOff n 12) s)
        ∧ (24975 * 2 ^ 40 ≤ (s.get .TB_INC_STAGED n + 2 ^ 32 * bitsAt v 0 16) * 10000)
        ∧ ((s.get .TB_INC_STAGED n + 2 ^ 32 * bitsAt v 0 16) * 10000 ≤ 25025 * 2 ^ 40))
    ∧ (∃ (m : Master) (n : Nat) (v : Nat) (s : State), (n < 8) ∧ (Passes m (tbOff n 12) s)
        ∧ (25025 * 2 ^ 40 < (s.get .TB_INC_STAGED n + 2 ^ 32 * bitsAt v 0 16) * 10000))
    ∧ (∃ (m : Master) (n : Nat) (v : Nat) (s : State), (n < 8) ∧ (Passes m (tbOff n 16) s) ∧ (s.tbCmdCode n (v ||| 1) = 0) ∧ (s.running .tb n = true))
    ∧ (∃ (m : Master) (n : Nat) (v : Nat) (s : State), (n < 8) ∧ (Passes m (tbOff n 16) s) ∧ (s.tbCmdCode n (v ||| 2) = 0) ∧ (s.running .tb n = true))
    ∧ (∃ (m : Master) (n : Nat) (v : Nat) (s : State), (n < 8) ∧ (Passes m (tbOff n 16) s) ∧ (v % 16 = 4) ∧ (s.get .TIM_TB_ALARM_NS n < 1000000000))
    ∧ (∃ (m : Master) (n : Nat) (v : Nat) (s : State), (n < 8) ∧ (Passes m (tbOff n 16) s) ∧ (v % 16 = 8))
    ∧ (∃ (m : Master) (n : Nat) (v : Nat) (s : State), (n < 8) ∧ (Passes m (tbOff n 16) s) ∧ (v % 16 = 1)
        ∧ (-999999999 ≤ (s.adjOf n false).ns) ∧ ((s.adjOf n false).ns ≤ 999999999) ∧ ((steppedValue (s.adjOf n false) (s.tbSoon n)).isNone = true))
    ∧ (∃ (m : Master) (n : Nat) (v : Nat) (s : State), (n < 8) ∧ (Passes m (tbOff n 16) s) ∧ ((s.adjOf n true).ns > 999999999) ∧ (v % 16 = 2))
    ∧ (∃ (n : Nat) (s : State), (n < 8) ∧ (s.alarmDue n = true) ∧ (bitsAt (s.get .TIM_TB_EVT n) 1 1 = 0) ∧ (bitsAt (s.get .TIM_TB_EVT_EN n) 1 1 = 1))
    ∧ (∃ (m : Master) (n : Nat) (v : Nat) (s : State), (n < 8) ∧ (Passes m (8400896 + 4 * n) s) ∧ (bitsAt v 31 1 = 0
        ∨ s.running .tb (bitsAt v 28 3) = true ∧ ∀ (j : Nat), j < 8 → j ≠ n → s.get .TIM_DOMAIN_EN j = 1 →
        s.get .TIM_DOMAIN_DOMAIN j ≠ bitsAt v 0 8))
    ∧ (∃ (m : Master) (n : Nat) (v : Nat) (s : State) (j : Nat), (n < 8) ∧ (Passes m (8400896 + 4 * n) s) ∧ (j < 8) ∧ (bitsAt v 31 1 = 1)
        ∧ (j ≠ n) ∧ (s.get .TIM_DOMAIN_EN j = 1) ∧ (s.get .TIM_DOMAIN_DOMAIN j = bitsAt v 0 8)) :=
  ⟨⟨Master.st 1, 0, 640, State.reset, by decide⟩,
   ⟨Master.st 1, 0, 641, State.reset, by decide⟩,
   ⟨Master.st 1, 0, 0, put [(.CHECK_ENABLED, 12, 1)], by decide⟩,
   ⟨Master.st 1, 0, 0, put [(.CHECK_ENABLED, 12, 1)], by decide⟩,
   ⟨Master.st 1, 0, 4, State.reset, by decide⟩,
   ⟨Master.st 1, 0, 8, State.reset, by decide⟩,
   ⟨Master.st 1, 1, 1, put [(.TIM_TB_ADJ_SEC_HI, 1, 32768)], by decide⟩,
   ⟨Master.st 1, 1, 2, put [(.TIM_TB_ADJ_NS, 1, 4294967291)], by decide⟩,
   ⟨0, put [(.TIM_TB_STAT_ARMED, 0, 1)], by decide⟩,
   ⟨Master.st 1, 0, 0, State.reset, by decide⟩,
   ⟨Master.st 1, 0, 2147483653, put [(.TIM_DOMAIN_EN, 2, 1), (.TIM_DOMAIN_DOMAIN, 2, 5)], 2, by decide⟩⟩

/-- Hypotheses of TimeIsSteeredAndCaptured. -/
theorem witness_TimeIsCapturedWhole :
    (∃ (m : Master) (n : Nat) (s : State), (n < 8) ∧ (regGate m (tbOff n 32) 4 false s = none))
    ∧ (∃ (m : Master) (s : State) (n : Nat), (Passes m 8392704 s) ∧ (n < 8))
    ∧ (∃ (c : Nat) (r : Bool) (s : State), (s.running .cap c = true) ∧ (s.edgeSelected c r = true) ∧ (s.get .CAP_EDGES c + 1 < s.get .TIM_CAP_DIV c))
    ∧ (∃ (c : Nat) (r : Bool) (s : State), (s.running .cap c = true) ∧ (s.edgeSelected c r = true)
        ∧ (s.get .TIM_CAP_DIV c ≤ s.get .CAP_EDGES c + 1) ∧ ((s.capFifo c).length < 16))
    ∧ (∃ (c : Nat) (r : Bool) (s : State), (s.running .cap c = true) ∧ (s.edgeSelected c r = true)
        ∧ (s.get .TIM_CAP_DIV c ≤ s.get .CAP_EDGES c + 1) ∧ (16 ≤ (s.capFifo c).length))
    ∧ (∃ (m : Master) (c : Nat) (s : State), (c < 16) ∧ (regGate m (8405004 + 64 * c) 4 false s = none) ∧ (s.capFifo c = []))
    ∧ (∃ (m : Master) (c : Nat) (s : State) (e : CapEntry) (l : List CapEntry), (c < 16) ∧ (regGate m (8405004 + 64 * c) 4 false s = none)
        ∧ (s.capFifo c = e :: l)) :=
  ⟨⟨Master.st 1, 0, State.reset, by decide⟩,
   ⟨Master.st 1, State.reset, 7, by decide⟩,
   ⟨1, true, put [(.CHECK_ENABLED, 45, 1), (.TIM_CAP_DIV, 1, 2)], by decide⟩,
   ⟨1, true, put [(.CHECK_ENABLED, 45, 1)], by decide⟩,
   ⟨1, true, { put [(.CHECK_ENABLED, 45, 1)] with caps := [(1, (List.replicate 16 { stamp := { sec := 8589934597, ns := 6, frac := 7 }, rising := true, stepped := false })), (3, [])] }, by decide⟩,
   ⟨Master.st 1, 0, State.reset, by decide⟩,
   ⟨Master.st 1, 1, { State.reset with caps := [(1, [{ stamp := { sec := 8589934597, ns := 6, frac := 7 }, rising := true, stepped := false }]), (3, [])] }, { stamp := { sec := 8589934597, ns := 6, frac := 7 }, rising := true, stepped := false }, [], by decide⟩⟩

/-- Hypotheses of ReferenceSelectsAndLearns. -/
theorem witness_CandidatesAreJudgedAndSelected :
    (∃ (s : State) (c : Nat), (s.running .ref = true) ∧ (c < 16) ∧ (s.get .REF_CAND_EN c ≠ 1))
    ∧ (∃ (s : State) (e : RefMeas) (c : Nat), (s.running .ref = true) ∧ (c < 16) ∧ (s.get .REF_CAND_EN c = 1) ∧ (s.refRaw c e.present = none))
    ∧ (∃ (s : State) (e : RefMeas) (c : Nat) (raw : Int), (s.running .ref = true) ∧ (c < 16) ∧ (s.get .REF_CAND_EN c = 1)
        ∧ (s.refRaw c e.present = some raw) ∧ (↑(s.get .REF_LIMITS_DISQ) * 1000000 < ↑(raw + s.predict).natAbs))
    ∧ (∃ (s : State), (s.running .ref = true) ∧ (s.get .REF_SEL_STATE_SELECTED < 15)
        ∧ (s.get .REF_CAND_KIND (s.get .REF_SEL_STATE_SELECTED) < 5) ∧ (s.get .REF_SEL_STATE_STATE < 3))
    ∧ (∃ (s : State) (m : Master) (c : Nat), (c < 16) ∧ (Passes m (8651008 + 32 * c) s) ∧ (s.get .REF_CAND_LOCKED c = 1))
    ∧ (∃ (s : State) (m : Master) (c : Nat) (v : Nat), (c < 16) ∧ (Passes m (8651008 + 32 * c) s) ∧ (s.get .REF_CAND_LOCKED c = 0)
        ∧ (s.running .ref = false ∨ bitsAt v 31 1 = 1 ∨ s.get .REF_SEL_STATE_SELECTED ≠ c))
    ∧ (∃ (s : State) (m : Master) (v : Nat), (Passes m 8650752 s) ∧ (s.get .REF_CTRL_FORCE_EN = 0) ∧ (s.eligible (bitsAt v 8 4) = false))
    ∧ (∃ (s : State) (m : Master) (v : Nat), (Passes m 8650752 s) ∧ (s.running .ref = true) ∧ (s.eligible (bitsAt v 8 4) = true) ∧ (v % 2 = 0))
    ∧ (∃ (s : State) (m : Master) (v : Nat), (Passes m 8650752 s) ∧ (s.running .ref = true) ∧ (s.eligible (bitsAt v 8 4) = true)
        ∧ (bitsAt v 8 4 < 15) ∧ (s.get .REF_SEL_STATE_SELECTED ≠ bitsAt v 8 4) ∧ (v % 2 = 1) ∧ (s.get .UNIT_EN (UnitKind.ref.code 0) = 1)) :=
  ⟨⟨put [(.CHECK_ENABLED, 14, 1)], 5, by decide⟩,
   ⟨put [(.CHECK_ENABLED, 14, 1), (.REF_CAND_EN, 0, 1)], { present := [], loopK := 0, phase := 0 }, 0, by decide⟩,
   ⟨put [(.CHECK_ENABLED, 14, 1), (.REF_CAND_EN, 1, 1), (.REF_CAND_KIND, 1, 1)], { present := [(0, 5), (1, 900000000), (2, -3000000)], loopK := 5, phase := 3 }, 1, 900000000, by decide⟩,
   ⟨put [(.CHECK_ENABLED, 14, 1), (.REF_SEL_STATE_STATE, 0, 0), (.REF_SEL_STATE_SELECTED, 0, 0)], by decide⟩,
   ⟨put [(.REF_CAND_LOCKED, 1, 1)], Master.st 1, 1, by decide⟩,
   ⟨State.reset, Master.st 1, 0, 3238002688, by decide⟩,
   ⟨State.reset, Master.st 1, 256, by decide⟩,
   ⟨put [(.CHECK_ENABLED, 14, 1), (.REF_CAND1_CSTATE, 0, 2)], Master.st 1, 0, by decide⟩,
   ⟨put [(.UNIT_EN, 14, 1), (.CHECK_ENABLED, 14, 1), (.REF_CAND1_CSTATE, 2, 3)], Master.st 1, 513, by decide⟩⟩

/-- Hypotheses of ReferenceSelectsAndLearns. -/
theorem witness_ReferenceLimitsAndLearning :
    (∃ (s : State) (m : Master) (k : Nat) (v : Nat), (k < 4) ∧ (Passes m (8650768 + 4 * k) s) ∧ (k = 0)
        ∧ (s.inBounds 1 (bitsAt v 16 16) = true) ∧ (s.inBounds 0 (bitsAt v 0 16) = true) ∧ (bitsAt v 0 16 < bitsAt v 16 16)
        ∧ (s.get .REF_QUAL_MUTUAL < bitsAt v 16 16))
    ∧ (∃ (s : State) (m : Master) (k : Nat) (v : Nat), (k < 4) ∧ (Passes m (8650768 + 4 * k) s) ∧ (k = 3) ∧ (bitsAt v 16 16 ≠ 0)
        ∧ (s.inBounds 5 (bitsAt v 16 16) = true) ∧ (s.inBounds 7 (bitsAt v 0 16) = true))
    ∧ (∃ (s : State) (m : Master) (k : Nat) (v : Nat), (k < 4) ∧ (Passes m (8650768 + 4 * k) s) ∧ (k = 3) ∧ (bitsAt v 16 16 = 0))
    ∧ (∃ (s : State) (m : Master) (k : Nat) (v : Nat), (k < 4) ∧ (Passes m (8650768 + 4 * k) s) ∧ (k ≠ 3)
        ∧ (s.inBounds (thresholdParams k).fst (bitsAt v 16 16) = false))
    ∧ (∃ (s : State) (m : Master) (k : Nat) (v : Nat), (k < 4) ∧ (Passes m (8650768 + 4 * k) s) ∧ (k = 0)
        ∧ (s.inBounds 1 (bitsAt v 16 16) = true) ∧ (s.inBounds 0 (bitsAt v 0 16) = true) ∧ (bitsAt v 16 16 ≤ bitsAt v 0 16))
    ∧ (∃ (s : State) (m : Master) (v : Nat), (Passes m 8650848 s) ∧ (s.get .REF_SW_VALID = 1) ∧ (bitsAt v 31 1 = 0))
    ∧ (∃ (s : State), (s.get .REF_SW_ALIVE = 1) ∧ (s.get .REF_SW_VALID = 1))
    ∧ (∃ (s : State), (s.running .ref = true) ∧ (s.modelFlags / 2 % 2 = 0))
    ∧ (∃ (s : State), (s.running .ref = true) ∧ (s.modelFlags / 2 % 2 = 1))
    ∧ (∃ (s : State), (s.running .ref = true) ∧ (s.modelFlags / 2 % 2 = 1) ∧ (s.get .REF_TEMP_FAILS = 2) ∧ (s.get .REF_TEMP_TEMP_FAULT = 0))
    ∧ (∃ (s : State), (s.running .ref = true) ∧ (s.get .REF_SEL_STATE_SLEWING = 1) ∧ (s.int .REF_K = s.int .REF_RAW (s.get .REF_SEL_STATE_SELECTED)))
    ∧ (∃ (s : State), (s.running .ref = true) ∧ (s.get .REF_SEL_STATE_STATE = 3) ∧ (s.get .REF_SLOPE_HOLD_LIMIT ≠ 0)
        ∧ (3600 * s.get .REF_SLOPE_HOLD_LIMIT ≤ s.get .REF_HOLD_SECS))
    ∧ (∃ (s : State), (s.running .ref = true) ∧ (86400 ≤ s.get .REF_DAY_SECS)) :=
  ⟨⟨State.reset, Master.st 1, 0, 2097168, by decide⟩,
   ⟨State.reset, Master.st 1, 3, 2097168, by decide⟩,
   ⟨State.reset, Master.st 1, 3, 0, by decide⟩,
   ⟨{ put [(.GEN_BOOT_STAT_PHASE, 0, 6)] with boot := { slot := 0, nextSection := 0, condA := SlotCond.notTried, condB := SlotCond.notTried, first := 0, pass := 0, streaming := false, placed := [{ index := 1, typ := 2, flags := 0, dest := 0, version := 0, param := 0, bytes := [0x00#8, 0x00#8, 0x00#8, 0x00#8, 0x00#8, 0x00#8, 0x02#8, 0x00#8, 0x01#8, 0x01#8, 0x01#8, 0x01#8, 0x01#8, 0x01#8, 0x01#8, 0x01#8, 0x01#8, 0x01#8, 0x01#8, 0x01#8, 0x01#8, 0x01#8, 0x01#8, 0x01#8, 0x01#8, 0x01#8, 0x01#8, 0x01#8, 0x01#8, 0x01#8, 0x01#8, 0x01#8, 0x01#8, 0x01#8, 0x01#8, 0x01#8, 0x01#8, 0x01#8, 0x01#8, 0x01#8, 0x01#8, 0x01#8, 0x01#8, 0x01#8, 0x01#8, 0x01#8, 0x01#8, 0x01#8, 0x01#8, 0x01#8, 0x01#8, 0x01#8, 0x01#8, 0x01#8, 0x01#8, 0x01#8, 0x01#8, 0x01#8, 0x01#8, 0x01#8, 0x01#8, 0x01#8, 0x01#8, 0x01#8, 0x01#8, 0x01#8, 0x01#8, 0x01#8, 0x01#8, 0x01#8, 0x01#8, 0x01#8, 0x01#8, 0x01#8, 0x01#8, 0x01#8, 0x01#8, 0x01#8, 0x01#8, 0x01#8, 0x01#8, 0x01#8, 0x01#8, 0x01#8, 0x01#8, 0x01#8, 0x01#8, 0x01#8] }, { index := 2, typ := 3, flags := 0, dest := 0, version := 0, param := 0, bytes := [0x00#8, 0x00#8, 0x00#8, 0x00#8, 0x00#8, 0x00#8, 0x00#8, 0x00#8, 0x00#8, 0x00#8, 0x00#8, 0x00#8, 0x00#8, 0x00#8, 0x00#8, 0x00#8, 0x14#8, 0x00#8, 0x03#8, 0x00#8, 0x64#8, 0x00#8, 0x14#8, 0x00#8, 0x03#8, 0x00#8, 0x64#8, 0x00#8, 0x14#8, 0x00#8, 0x03#8, 0x00#8, 0x64#8, 0x00#8, 0x14#8, 0x00#8, 0x03#8, 0x00#8, 0x64#8, 0x00#8, 0x14#8, 0x00#8, 0x03#8, 0x00#8, 0x64#8, 0x00#8, 0x14#8, 0x00#8, 0x03#8, 0x00#8, 0x64#8, 0x00#8, 0x14#8, 0x00#8, 0x03#8, 0x00#8, 0x64#8, 0x00#8, 0x14#8, 0x00#8, 0x03#8, 0x00#8, 0x64#8, 0x00#8] }], mismatched := [], crcLog := [], chosen := none, hbmReady := false, aliasOpen := true } }, Master.st 1, 0, 0, by decide⟩,
   ⟨State.reset, Master.st 1, 0, 0, by decide⟩,
   ⟨put [(.REF_SW_VALID, 0, 1)], Master.st 1, 0, by decide⟩,
   ⟨put [(.REF_SW_VALID, 0, 1), (.REF_SW_ALIVE, 0, 1)], by decide⟩,
   ⟨put [(.CHECK_ENABLED, 14, 1)], by decide⟩,
   ⟨{ put [(.CHECK_ENABLED, 14, 1), (.GEN_BOOT_STAT_PHASE, 0, 6)] with boot := { slot := 0, nextSection := 0, condA := SlotCond.notTried, condB := SlotCond.notTried, first := 0, pass := 0, streaming := false, placed := [{ index := 1, typ := 2, flags := 0, dest := 0, version := 0, param := 0, bytes := [0x00#8, 0x00#8, 0x00#8, 0x00#8, 0x00#8, 0x00#8, 0x02#8, 0x00#8, 0x01#8, 0x01#8, 0x01#8, 0x01#8, 0x01#8, 0x01#8, 0x01#8, 0x01#8, 0x01#8, 0x01#8, 0x01#8, 0x01#8, 0x01#8, 0x01#8, 0x01#8, 0x01#8, 0x01#8, 0x01#8, 0x01#8, 0x01#8, 0x01#8, 0x01#8, 0x01#8, 0x01#8, 0x01#8, 0x01#8, 0x01#8, 0x01#8, 0x01#8, 0x01#8, 0x01#8, 0x01#8, 0x01#8, 0x01#8, 0x01#8, 0x01#8, 0x01#8, 0x01#8, 0x01#8, 0x01#8, 0x01#8, 0x01#8, 0x01#8, 0x01#8, 0x01#8, 0x01#8, 0x01#8, 0x01#8, 0x01#8, 0x01#8, 0x01#8, 0x01#8, 0x01#8, 0x01#8, 0x01#8, 0x01#8, 0x01#8, 0x01#8, 0x01#8, 0x01#8, 0x01#8, 0x01#8, 0x01#8, 0x01#8, 0x01#8, 0x01#8, 0x01#8, 0x01#8, 0x01#8, 0x01#8, 0x01#8, 0x01#8, 0x01#8, 0x01#8, 0x01#8, 0x01#8, 0x01#8, 0x01#8, 0x01#8, 0x01#8] }, { index := 2, typ := 3, flags := 0, dest := 0, version := 0, param := 0, bytes := [0x00#8, 0x00#8, 0x00#8, 0x00#8, 0x00#8, 0x00#8, 0x00#8, 0x00#8, 0x00#8, 0x00#8, 0x00#8, 0x00#8, 0x00#8, 0x00#8, 0x00#8, 0x00#8, 0x14#8, 0x00#8, 0x03#8, 0x00#8, 0x64#8, 0x00#8, 0x14#8, 0x00#8, 0x03#8, 0x00#8, 0x64#8, 0x00#8, 0x14#8, 0x00#8, 0x03#8, 0x00#8, 0x64#8, 0x00#8, 0x14#8, 0x00#8, 0x03#8, 0x00#8, 0x64#8, 0x00#8, 0x14#8, 0x00#8, 0x03#8, 0x00#8, 0x64#8, 0x00#8, 0x14#8, 0x00#8, 0x03#8, 0x00#8, 0x64#8, 0x00#8, 0x14#8, 0x00#8, 0x03#8, 0x00#8, 0x64#8, 0x00#8, 0x14#8, 0x00#8, 0x03#8, 0x00#8, 0x64#8, 0x00#8] }], mismatched := [], crcLog := [], chosen := none, hbmReady := false, aliasOpen := true } }, by decide⟩,
   ⟨{ put [(.CHECK_ENABLED, 14, 1), (.GEN_BOOT_STAT_PHASE, 0, 6), (.REF_TEMP_FAILS, 0, 2)] with boot := { slot := 0, nextSection := 0, condA := SlotCond.notTried, condB := SlotCond.notTried, first := 0, pass := 0, streaming := false, placed := [{ index := 1, typ := 2, flags := 0, dest := 0, version := 0, param := 0, bytes := [0x00#8, 0x00#8, 0x00#8, 0x00#8, 0x00#8, 0x00#8, 0x03#8, 0x00#8, 0x01#8, 0x01#8, 0x01#8, 0x01#8, 0x01#8, 0x01#8, 0x01#8, 0x01#8, 0x01#8, 0x01#8, 0x01#8, 0x01#8, 0x01#8, 0x01#8, 0x01#8, 0x01#8, 0x01#8, 0x01#8, 0x01#8, 0x01#8, 0x01#8, 0x01#8, 0x01#8, 0x01#8, 0x01#8, 0x01#8, 0x01#8, 0x01#8, 0x01#8, 0x01#8, 0x01#8, 0x01#8, 0x01#8, 0x01#8, 0x01#8, 0x01#8, 0x01#8, 0x01#8, 0x01#8, 0x01#8, 0x01#8, 0x01#8, 0x01#8, 0x01#8, 0x01#8, 0x01#8, 0x01#8, 0x01#8, 0x01#8, 0x01#8, 0x01#8, 0x01#8, 0x01#8, 0x01#8, 0x01#8, 0x01#8, 0x01#8, 0x01#8, 0x01#8, 0x01#8, 0x01#8, 0x01#8, 0x01#8, 0x01#8, 0x01#8, 0x01#8, 0x01#8, 0x01#8, 0x01#8, 0x01#8, 0x01#8, 0x01#8, 0x01#8, 0x01#8, 0x01#8, 0x01#8, 0x01#8, 0x01#8, 0x01#8, 0x01#8] }], mismatched := [], crcLog := [], chosen := none, hbmReady := false, aliasOpen := true } }, by decide⟩,
   ⟨put [(.CHECK_ENABLED, 14, 1), (.REF_SEL_STATE_SLEWING, 0, 1)], by decide⟩,
   ⟨put [(.CHECK_ENABLED, 14, 1), (.REF_SEL_STATE_STATE, 0, 3), (.REF_SLOPE_HOLD_LIMIT, 0, 1), (.REF_HOLD_SECS, 0, 3600)], by decide⟩,
   ⟨put [(.CHECK_ENABLED, 14, 1), (.REF_DAY_SECS, 0, 86400)], by decide⟩⟩

/-- Hypotheses of FramesAreJudgedAndPause. -/
theorem witness_FramesAreJudgedAndPause :
    (∃ (m : Nat) (s : State) (f : RxFrame), (s.macUp m = true) ∧ (f.fcsGood = false))
    ∧ (∃ (m : Nat) (s : State) (f : RxFrame), (s.macUp m = true) ∧ (f.fcsGood = true) ∧ (f.bytes.length + 4 < 64
        ∨ s.get .PKT_MAC_CTRL_MAX_FRAME m < f.bytes.length + 4))
    ∧ (∃ (m : Nat) (s : State) (f : RxFrame), (s.macUp m = true) ∧ (f.fcsGood = true) ∧ (64 ≤ f.bytes.length + 4)
        ∧ (f.bytes.length + 4 ≤ s.get .PKT_MAC_CTRL_MAX_FRAME m) ∧ (be16 f.bytes 12 = 34824) ∧ (be16 f.bytes 14 = 1)
        ∧ (s.get .PKT_MAC_CTRL_PAUSE_RX_EN m = 1))
    ∧ (∃ (m : Nat) (s : State), (s.macUp m = true) ∧ (s.get .PKT_MAC_CTRL_PAUSE_RX_EN m = 1))
    ∧ (∃ (m : Nat) (s : State) (vector : Nat) (k : Nat), (s.macUp m = true) ∧ (k < 8) ∧ (bitsAt vector k 1 = 1)
        ∧ (bitsAt (s.get .PKT_MAC_CTRL_PFC_EN m) k 1 = 1))
    ∧ (∃ (m : Nat) (s : State) (vector : Nat) (k : Nat), (s.macUp m = true) ∧ (k < 8) ∧ (bitsAt vector k 1 = 0
        ∨ bitsAt (s.get .PKT_MAC_CTRL_PFC_EN m) k 1 = 0))
    ∧ (∃ (m : Nat) (s : State) (k : Nat) (j : Nat), (s.macUp m = true) ∧ (k < 8) ∧ (j < 8) ∧ (j ≠ k)) :=
  ⟨⟨1, put [(.CHECK_ENABLED, 37, 1), (.CHECK_ENABLED, 39, 1), (.LAN_BIND_RX_KIND, 1, 3), (.LAN_BIND_TX_KIND, 1, 4), (.LAN_STAT_LOS, 1, 0), (.LAN_STAT_LOCK, 1, 1)], { bytes := [0x01#8, 0x01#8, 0x01#8, 0x01#8, 0x01#8, 0x01#8, 0x01#8, 0x01#8, 0x01#8, 0x01#8, 0x01#8, 0x01#8, 0x88#8, 0x08#8, 0x00#8, 0x01#8, 0x12#8, 0x34#8, 0x07#8, 0x07#8, 0x07#8, 0x07#8, 0x07#8, 0x07#8, 0x07#8, 0x07#8, 0x07#8, 0x07#8, 0x07#8, 0x07#8, 0x07#8, 0x07#8, 0x07#8, 0x07#8, 0x07#8, 0x07#8, 0x07#8, 0x07#8, 0x07#8, 0x07#8, 0x07#8, 0x07#8, 0x07#8, 0x07#8, 0x07#8, 0x07#8, 0x07#8, 0x07#8, 0x07#8, 0x07#8, 0x07#8, 0x07#8, 0x07#8, 0x07#8, 0x07#8, 0x07#8, 0x07#8, 0x07#8, 0x07#8, 0x07#8, 0x07#8, 0x07#8, 0x07#8, 0x07#8, 0x07#8, 0x07#8, 0x07#8, 0x07#8], fcsGood := false, sixteenths := 3 }, by decide⟩,
   ⟨1, put [(.CHECK_ENABLED, 37, 1), (.CHECK_ENABLED, 39, 1), (.LAN_BIND_RX_KIND, 1, 3), (.LAN_BIND_TX_KIND, 1, 4), (.LAN_STAT_LOS, 1, 0), (.LAN_STAT_LOCK, 1, 1)], { bytes := [0x01#8, 0x01#8, 0x01#8, 0x01#8, 0x01#8, 0x01#8, 0x01#8, 0x01#8, 0x01#8, 0x01#8, 0x01#8, 0x01#8, 0x88#8, 0x08#8, 0x00#8, 0x01#8, 0x12#8, 0x34#8, 0x07#8, 0x07#8, 0x07#8, 0x07#8, 0x07#8], fcsGood := true, sixteenths := 0 }, by decide⟩,
   ⟨1, put [(.CHECK_ENABLED, 37, 1), (.CHECK_ENABLED, 39, 1), (.LAN_BIND_RX_KIND, 1, 3), (.LAN_BIND_TX_KIND, 1, 4), (.LAN_STAT_LOS, 1, 0), (.LAN_STAT_LOCK, 1, 1)], { bytes := [0x01#8, 0x01#8, 0x01#8, 0x01#8, 0x01#8, 0x01#8, 0x01#8, 0x01#8, 0x01#8, 0x01#8, 0x01#8, 0x01#8, 0x88#8, 0x08#8, 0x00#8, 0x01#8, 0x12#8, 0x34#8, 0x07#8, 0x07#8, 0x07#8, 0x07#8, 0x07#8, 0x07#8, 0x07#8, 0x07#8, 0x07#8, 0x07#8, 0x07#8, 0x07#8, 0x07#8, 0x07#8, 0x07#8, 0x07#8, 0x07#8, 0x07#8, 0x07#8, 0x07#8, 0x07#8, 0x07#8, 0x07#8, 0x07#8, 0x07#8, 0x07#8, 0x07#8, 0x07#8, 0x07#8, 0x07#8, 0x07#8, 0x07#8, 0x07#8, 0x07#8, 0x07#8, 0x07#8, 0x07#8, 0x07#8, 0x07#8, 0x07#8, 0x07#8, 0x07#8, 0x07#8, 0x07#8, 0x07#8, 0x07#8, 0x07#8, 0x07#8, 0x07#8, 0x07#8], fcsGood := true, sixteenths := 0 }, by decide⟩,
   ⟨1, put [(.CHECK_ENABLED, 37, 1), (.CHECK_ENABLED, 39, 1), (.LAN_BIND_RX_KIND, 1, 3), (.LAN_BIND_TX_KIND, 1, 4), (.LAN_STAT_LOS, 1, 0),
       (.LAN_STAT_LOCK, 1, 1)], by decide⟩,
   ⟨1, put [(.CHECK_ENABLED, 37, 1), (.CHECK_ENABLED, 39, 1), (.LAN_BIND_RX_KIND, 1, 3), (.LAN_BIND_TX_KIND, 1, 4), (.LAN_STAT_LOS, 1, 0),
       (.LAN_STAT_LOCK, 1, 1), (.PKT_MAC_CTRL_PFC_EN, 1, 51)], 1, 0, by decide⟩,
   ⟨1, put [(.CHECK_ENABLED, 37, 1), (.CHECK_ENABLED, 39, 1), (.LAN_BIND_RX_KIND, 1, 3), (.LAN_BIND_TX_KIND, 1, 4), (.LAN_STAT_LOS, 1, 0),
       (.LAN_STAT_LOCK, 1, 1)], 0, 7, by decide⟩,
   ⟨1, put [(.CHECK_ENABLED, 37, 1), (.CHECK_ENABLED, 39, 1), (.LAN_BIND_RX_KIND, 1, 3), (.LAN_BIND_TX_KIND, 1, 4), (.LAN_STAT_LOS, 1, 0),
       (.LAN_STAT_LOCK, 1, 1)], 7, 0, by decide⟩⟩

/-- Hypotheses of PacketsAndItemsAreSent. -/
theorem witness_MediaStreamsAreSentAndLost :
    (∃ (n : Nat) (s : State), (s.running .rx n = true) ∧ (s.paired n = false) ∧ (s.get .PKT_RX_LOST n = 0))
    ∧ (∃ (n : Nat) (s : State), (s.running .rx n = true) ∧ (s.paired n = true) ∧ (s.get .PKT_RX_LEG_LOST n = 0)
        ∧ (s.get .PKT_RX_LEG_LOST (s.get .PKT_RX_PARTNER n) = 0))
    ∧ (∃ (e : Nat) (s : State), (s.sending e = true) ∧ (s.get .PKT_TX_KIND e ≠ 7)) :=
  ⟨⟨1, put [(.CHECK_ENABLED, 42, 1)], by decide⟩,
   ⟨1, put [(.CHECK_ENABLED, 42, 1), (.CHECK_ENABLED, 106, 1), (.PKT_RX_MERGE, 1, 1), (.PKT_RX_MERGE, 3, 1), (.PKT_RX_PARTNER, 1, 3),
       (.PKT_RX_PARTNER, 3, 1)], by decide⟩,
   ⟨3, put [(.CHECK_ENABLED, 105, 1), (.TWN_STAT_CLAIM, 0, 1), (.PWR_STAT_STATE, 0, 2)], by decide⟩⟩

/-- Hypotheses of PacketsAndItemsAreSent. -/
theorem witness_LargeSendsAreCut :
    (∃ (e : Nat) (mac : Nat) (it : Item) (l : LargeSend) (s : State) (bad : Option Nat), (s.qHead (s.get .PKT_TX_TARGET e) = some it)
        ∧ (l = largeOf it.payload) ∧ (mac = s.get .PKT_TX_MAC_A e) ∧ (s.takesFrom e = true) ∧ (s.workOf e = none) ∧ (itemType it.header = 16)
        ∧ (s.largeDiscard l = 0) ∧ (s.largeCode e it.header l bad = 0)
        ∧ (s.mayStart mac (s.tplHeader l.tpl) (s.tplByte l.tpl 62 + Min.min l.mss l.len) = true))
    ∧ (∃ (e : Nat) (mac : Nat) (it : Item) (l : LargeSend) (s : State) (bad : Option Nat) (c : Nat),
        (s.qHead (s.get .PKT_TX_TARGET e) = some it) ∧ (l = largeOf it.payload) ∧ (mac = s.get .PKT_TX_MAC_A e) ∧ (s.takesFrom e = true)
        ∧ (s.workOf e = none) ∧ (itemType it.header = 16) ∧ (s.largeDiscard l = 0) ∧ (s.largeCode e it.header l bad = c) ∧ (c ≠ 0) ∧ (bad = none))
    ∧ (∃ (e : Nat) (mac : Nat) (it : Item) (l : LargeSend) (s : State), (s.qHead (s.get .PKT_TX_TARGET e) = some it)
        ∧ (l = largeOf it.payload) ∧ (mac = s.get .PKT_TX_MAC_A e) ∧ (s.takesFrom e = true) ∧ (s.workOf e = none) ∧ (itemType it.header = 16)
        ∧ (s.largeDiscard l ≠ 0) ∧ (s.get .PKT_TX_TARGET e < 65536))
    ∧ (∃ (e : Nat) (mac : Nat) (it : Item) (l : LargeSend) (s : State) (w : TxWork), (s.qHead (s.get .PKT_TX_TARGET e) = some it)
        ∧ (l = largeOf it.payload) ∧ (mac = s.get .PKT_TX_MAC_A e) ∧ (s.workOf e = some w) ∧ (s.sending e = true) ∧ (w.timed = false)
        ∧ (w.left ≠ 0) ∧ (0 < l.mss) ∧ (w.packets + w.left = ((s.payloadBytes l.addr l.len).length + l.mss - 1) / l.mss))
    ∧ (∃ (e : Nat) (mac : Nat) (it : Item) (l : LargeSend) (s : State) (w : TxWork), (s.qHead (s.get .PKT_TX_TARGET e) = some it)
        ∧ (l = largeOf it.payload) ∧ (mac = s.get .PKT_TX_MAC_A e) ∧ (s.workOf e = some w) ∧ (w.timed = false) ∧ (w.left = 0)
        ∧ (l.complete = false) ∧ (w.code ≠ 0))
    ∧ (∃ (e : Nat) (mac : Nat) (it : Item) (l : LargeSend) (s : State) (w : TxWork), (s.qHead (s.get .PKT_TX_TARGET e) = some it)
        ∧ (l = largeOf it.payload) ∧ (mac = s.get .PKT_TX_MAC_A e) ∧ (s.workOf e = some w) ∧ (w.timed = false) ∧ (w.left = 0) ∧ (l.complete = true)
        ∧ (s.cqCode l.cq = 0) ∧ (l.cq ≠ s.get .PKT_TX_TARGET e) ∧ (s.get .PKT_Q_STAT_FLUSHING l.cq = 0) ∧ (s.qOccupancy l.cq + 2 ≤ s.qSize l.cq)
        ∧ (w.code ≠ 0)) :=
  ⟨⟨3, 1, { header := 1152921517491748871, payload := [4096, 70446090289352, 5046284] }, { addr := 4096, complete := true, markLast := false, tpl := 9, mss := 70, len := 200, tag := 77, cq := 12 }, { put [(.CHECK_ENABLED, 37, 1), (.CHECK_ENABLED, 39, 1), (.CHECK_ENABLED, 105, 1), (.CHECK_ENABLED, 299, 1), (.CHECK_ENABLED, 395, 1), (.GEN_CTRL_REMAP, 0, 1), (.LAN_CTRL_TX_MODE, 1, 11), (.LAN_BIND_RX_KIND, 1, 3), (.LAN_BIND_TX_KIND, 1, 4), (.LAN_QUAD_STAT_PLL_LOCK, 0, 1), (.PKT_TX_KIND, 3, 7), (.PKT_TX_MAC_A, 3, 1), (.PKT_TX_TARGET, 3, 9), (.PKT_TPL, 159, 2752512), (.PKT_Q_BASE_LO, 9, 262144), (.PKT_Q_PROD_AGENT, 12, 3), (.PKT_Q_CONS_AGENT, 9, 3), (.PKT_Q_PTR_CONS, 9, 5), (.PWR_STAT_STATE, 0, 2)] with mem := [(262184, 0x07#8), (262188, 0x03#8), (262191, 0x10#8), (262193, 0x10#8), (262200, 0xc8#8), (262202, 0x30#8), (262203, 0x02#8), (262204, 0x12#8), (262205, 0x40#8), (262208, 0x0c#8), (262210, 0x4d#8)] }, none, by decide⟩,
   ⟨3, 1, { header := 1152921517491748871, payload := [4096, 77314654408, 5046277] }, { addr := 4096, complete := false, markLast := false, tpl := 9, mss := 10, len := 200, tag := 77, cq := 5 }, { put [(.CHECK_ENABLED, 105, 1), (.CHECK_ENABLED, 171, 1), (.CHECK_ENABLED, 299, 1), (.GEN_CTRL_REMAP, 0, 1), (.PKT_TX_KIND, 3, 7), (.PKT_TX_MAC_A, 3, 1), (.PKT_TX_TARGET, 3, 9), (.PKT_TPL, 159, 2752512), (.PKT_Q_BASE_LO, 9, 262144), (.PKT_Q_CONS_AGENT, 9, 3), (.PKT_Q_PTR_CONS, 9, 5), (.PWR_STAT_STATE, 0, 2)] with mem := [(262184, 0x07#8), (262188, 0x03#8), (262191, 0x10#8), (262193, 0x10#8), (262200, 0xc8#8), (262202, 0x50#8), (262204, 0x12#8), (262208, 0x05#8), (262210, 0x4d#8)] }, none, 111, by decide⟩,
   ⟨3, 1, { header := 1152921517491748871, payload := [4096, 77346111688, 5046277] }, { addr := 4096, complete := false, markLast := false, tpl := 9, mss := 70, len := 200, tag := 77, cq := 5 }, { put [(.CHECK_ENABLED, 105, 1), (.CHECK_ENABLED, 299, 1), (.GEN_CTRL_REMAP, 0, 1), (.PKT_TX_KIND, 3, 7), (.PKT_TX_MAC_A, 3, 1), (.PKT_TX_TARGET, 3, 9), (.PKT_Q_BASE_LO, 9, 262144), (.PKT_Q_CONS_AGENT, 9, 3), (.PKT_Q_PTR_CONS, 9, 5), (.PWR_STAT_STATE, 0, 2)] with mem := [(262184, 0x07#8), (262188, 0x03#8), (262191, 0x10#8), (262193, 0x10#8), (262200, 0xc8#8), (262202, 0x30#8), (262203, 0x02#8), (262204, 0x12#8), (262208, 0x05#8), (262210, 0x4d#8)] }, by decide⟩,
   ⟨3, 1, { header := 1152921517491748871, payload := [4096, 77346111688, 5046277] }, { addr := 4096, complete := false, markLast := false, tpl := 9, mss := 70, len := 200, tag := 77, cq := 5 }, { put [(.CHECK_ENABLED, 105, 1), (.GEN_CTRL_REMAP, 0, 1), (.PKT_TX_KIND, 3, 7), (.PKT_TX_MAC_A, 3, 1), (.PKT_TX_TARGET, 3, 9), (.PKT_Q_BASE_LO, 9, 262144), (.PKT_Q_PTR_CONS, 9, 5), (.PWR_STAT_STATE, 0, 2)] with mem := [(262184, 0x07#8), (262188, 0x03#8), (262191, 0x10#8), (262193, 0x10#8), (262200, 0xc8#8), (262202, 0x30#8), (262203, 0x02#8), (262204, 0x12#8), (262208, 0x05#8), (262210, 0x4d#8)], txWork := [{ tx := 3, timed := false, held := false, packets := 1, left := 2, code := 0 }] }, { tx := 3, timed := false, held := false, packets := 1, left := 2, code := 0 }, by decide +kernel⟩,
   ⟨3, 1, { header := 1152921517491748871, payload := [4096, 77346111688, 5046277] }, { addr := 4096, complete := false, markLast := false, tpl := 9, mss := 70, len := 200, tag := 77, cq := 5 }, { put [(.GEN_CTRL_REMAP, 0, 1), (.PKT_TX_MAC_A, 3, 1), (.PKT_TX_TARGET, 3, 9), (.PKT_Q_BASE_LO, 9, 262144), (.PKT_Q_PTR_CONS, 9, 5)] with mem := [(262184, 0x07#8), (262188, 0x03#8), (262191, 0x10#8), (262193, 0x10#8), (262200, 0xc8#8), (262202, 0x30#8), (262203, 0x02#8), (262204, 0x12#8), (262208, 0x05#8), (262210, 0x4d#8)], txWork := [{ tx := 3, timed := false, held := false, packets := 0, left := 0, code := 111 }] }, { tx := 3, timed := false, held := false, packets := 0, left := 0, code := 111 }, by decide⟩,
   ⟨3, 1, { header := 1152921517491748871, payload := [4096, 70446090289352, 5046284] }, { addr := 4096, complete := true, markLast := false, tpl := 9, mss := 70, len := 200, tag := 77, cq := 12 }, { put [(.CHECK_ENABLED, 395, 1), (.GEN_CTRL_REMAP, 0, 1), (.PKT_TX_MAC_A, 3, 1), (.PKT_TX_TARGET, 3, 9), (.PKT_Q_BASE_LO, 9, 262144), (.PKT_Q_PROD_AGENT, 12, 3), (.PKT_Q_PTR_CONS, 9, 5)] with mem := [(262184, 0x07#8), (262188, 0x03#8), (262191, 0x10#8), (262193, 0x10#8), (262200, 0xc8#8), (262202, 0x30#8), (262203, 0x02#8), (262204, 0x12#8), (262205, 0x40#8), (262208, 0x0c#8), (262210, 0x4d#8)], txWork := [{ tx := 3, timed := false, held := false, packets := 0, left := 0, code := 111 }] }, { tx := 3, timed := false, held := false, packets := 0, left := 0, code := 111 }, by decide⟩⟩

/-- Hypotheses of PacketsAndItemsAreSent. -/
theorem witness_TimedFramesDepart :
    (∃ (e : Nat) (mac : Nat) (it : Item) (s : State), (s.qHead (s.get .PKT_TX_TARGET e) = some it) ∧ (mac = s.get .PKT_TX_MAC_A e)
        ∧ (s.takesFrom e = true) ∧ (s.workOf e = none) ∧ (itemType it.header = 32) ∧ (s.timedCode e it (timedOf it) = 0))
    ∧ (∃ (e : Nat) (mac : Nat) (it : Item) (s : State), (s.qHead (s.get .PKT_TX_TARGET e) = some it) ∧ (mac = s.get .PKT_TX_MAC_A e)
        ∧ (s.takesFrom e = true) ∧ (s.workOf e = none) ∧ (itemType it.header = 32) ∧ (s.timedCode e it (timedOf it) ≠ 0)
        ∧ ((timedOf it).report = false) ∧ (s.get .PKT_TX_TARGET e < 65536))
    ∧ (∃ (e : Nat) (mac : Nat) (it : Item) (s : State) (w : TxWork), (s.qHead (s.get .PKT_TX_TARGET e) = some it)
        ∧ (mac = s.get .PKT_TX_MAC_A e) ∧ (s.workOf e = some w) ∧ (w.held = true) ∧ (s.takesFrom e = true) ∧ (s.launchDelta (timedOf it) ≤ 0))
    ∧ (∃ (e : Nat) (mac : Nat) (it : Item) (s : State) (w : TxWork), (s.qHead (s.get .PKT_TX_TARGET e) = some it)
        ∧ (mac = s.get .PKT_TX_MAC_A e) ∧ (s.workOf e = some w) ∧ (w.timed = true) ∧ (w.held = false) ∧ (s.sending e = true)
        ∧ (s.mayStart mac (timedOf it).bytes (timedOf it).bytes.length = true) ∧ ((timedOf it).report = false))
    ∧ (∃ (e : Nat) (mac : Nat) (it : Item) (s : State) (w : TxWork), (s.qHead (s.get .PKT_TX_TARGET e) = some it)
        ∧ (mac = s.get .PKT_TX_MAC_A e) ∧ (s.workOf e = some w) ∧ (w.timed = true) ∧ (w.held = false) ∧ (s.sending e = true)
        ∧ (s.mayStart mac (timedOf it).bytes (timedOf it).bytes.length = true) ∧ ((timedOf it).report = true) ∧ (s.cqCode (timedOf it).cq = 0)
        ∧ ((timedOf it).cq ≠ s.get .PKT_TX_TARGET e) ∧ (s.get .PKT_Q_STAT_FLUSHING (timedOf it).cq = 0)
        ∧ (s.qOccupancy (timedOf it).cq + 3 ≤ s.qSize (timedOf it).cq)) :=
  ⟨⟨3, 1, { header := 2305843065053511680, payload := ([21474836480, 917504, 0] ++ List.replicate 10 1234605616436508552) }, { put [(.CHECK_ENABLED, 12, 1), (.CHECK_ENABLED, 105, 1), (.CHECK_ENABLED, 299, 1), (.GEN_CTRL_REMAP, 0, 1), (.PKT_TX_KIND, 3, 7), (.PKT_TX_MAC_A, 3, 1), (.PKT_TX_TARGET, 3, 9), (.PKT_Q_BASE_LO, 9, 262144), (.PKT_Q_CONS_AGENT, 9, 3), (.PKT_Q_PTR_CONS, 9, 5), (.PWR_STAT_STATE, 0, 2)] with mem := [(262186, 0x50#8), (262188, 0x0d#8), (262191, 0x20#8), (262196, 0x05#8), (262202, 0x0e#8), (262216, 0x88#8), (262217, 0x77#8), (262218, 0x66#8), (262219, 0x55#8), (262220, 0x44#8), (262221, 0x33#8), (262222, 0x22#8), (262223, 0x11#8), (262224, 0x88#8), (262225, 0x77#8), (262226, 0x66#8), (262227, 0x55#8), (262228, 0x44#8), (262229, 0x33#8), (262230, 0x22#8), (262231, 0x11#8), (262232, 0x88#8), (262233, 0x77#8), (262234, 0x66#8), (262235, 0x55#8), (262236, 0x44#8), (262237, 0x33#8), (262238, 0x22#8), (262239, 0x11#8), (262240, 0x88#8), (262241, 0x77#8), (262242, 0x66#8), (262243, 0x55#8), (262244, 0x44#8), (262245, 0x33#8), (262246, 0x22#8), (262247, 0x11#8), (262248, 0x88#8), (262249, 0x77#8), (262250, 0x66#8), (262251, 0x55#8), (262252, 0x44#8), (262253, 0x33#8), (262254, 0x22#8), (262255, 0x11#8), (262256, 0x88#8), (262257, 0x77#8), (262258, 0x66#8), (262259, 0x55#8), (262260, 0x44#8), (262261, 0x33#8), (262262, 0x22#8), (262263, 0x11#8), (262264, 0x88#8), (262265, 0x77#8), (262266, 0x66#8), (262267, 0x55#8), (262268, 0x44#8), (262269, 0x33#8), (262270, 0x22#8), (262271, 0x11#8), (262272, 0x88#8), (262273, 0x77#8), (262274, 0x66#8), (262275, 0x55#8), (262276, 0x44#8), (262277, 0x33#8), (262278, 0x22#8), (262279, 0x11#8), (262280, 0x88#8), (262281, 0x77#8), (262282, 0x66#8), (262283, 0x55#8), (262284, 0x44#8), (262285, 0x33#8), (262286, 0x22#8), (262287, 0x11#8), (262288, 0x88#8), (262289, 0x77#8), (262290, 0x66#8), (262291, 0x55#8), (262292, 0x44#8), (262293, 0x33#8), (262294, 0x22#8), (262295, 0x11#8)] }, by decide⟩,
   ⟨3, 1, { header := 2306968964960354304, payload := ([4611686018427387904, 917504, 0] ++ List.replicate 10 1234605616436508552) }, { put [(.CHECK_ENABLED, 105, 1), (.CHECK_ENABLED, 299, 1), (.GEN_CTRL_REMAP, 0, 1), (.PKT_TX_KIND, 3, 7), (.PKT_TX_MAC_A, 3, 1), (.PKT_TX_TARGET, 3, 9), (.PKT_Q_BASE_LO, 9, 262144), (.PKT_Q_CONS_AGENT, 9, 3), (.PKT_Q_PTR_CONS, 9, 5), (.PWR_STAT_STATE, 0, 2)] with mem := [(262186, 0x50#8), (262188, 0x0d#8), (262190, 0x04#8), (262191, 0x20#8), (262199, 0x40#8), (262202, 0x0e#8), (262216, 0x88#8), (262217, 0x77#8), (262218, 0x66#8), (262219, 0x55#8), (262220, 0x44#8), (262221, 0x33#8), (262222, 0x22#8), (262223, 0x11#8), (262224, 0x88#8), (262225, 0x77#8), (262226, 0x66#8), (262227, 0x55#8), (262228, 0x44#8), (262229, 0x33#8), (262230, 0x22#8), (262231, 0x11#8), (262232, 0x88#8), (262233, 0x77#8), (262234, 0x66#8), (262235, 0x55#8), (262236, 0x44#8), (262237, 0x33#8), (262238, 0x22#8), (262239, 0x11#8), (262240, 0x88#8), (262241, 0x77#8), (262242, 0x66#8), (262243, 0x55#8), (262244, 0x44#8), (262245, 0x33#8), (262246, 0x22#8), (262247, 0x11#8), (262248, 0x88#8), (262249, 0x77#8), (262250, 0x66#8), (262251, 0x55#8), (262252, 0x44#8), (262253, 0x33#8), (262254, 0x22#8), (262255, 0x11#8), (262256, 0x88#8), (262257, 0x77#8), (262258, 0x66#8), (262259, 0x55#8), (262260, 0x44#8), (262261, 0x33#8), (262262, 0x22#8), (262263, 0x11#8), (262264, 0x88#8), (262265, 0x77#8), (262266, 0x66#8), (262267, 0x55#8), (262268, 0x44#8), (262269, 0x33#8), (262270, 0x22#8), (262271, 0x11#8), (262272, 0x88#8), (262273, 0x77#8), (262274, 0x66#8), (262275, 0x55#8), (262276, 0x44#8), (262277, 0x33#8), (262278, 0x22#8), (262279, 0x11#8), (262280, 0x88#8), (262281, 0x77#8), (262282, 0x66#8), (262283, 0x55#8), (262284, 0x44#8), (262285, 0x33#8), (262286, 0x22#8), (262287, 0x11#8), (262288, 0x88#8), (262289, 0x77#8), (262290, 0x66#8), (262291, 0x55#8), (262292, 0x44#8), (262293, 0x33#8), (262294, 0x22#8), (262295, 0x11#8)] }, by decide⟩,
   ⟨3, 1, { header := 1152921517491748871, payload := [4096, 77346111688, 5046277] }, { put [(.CHECK_ENABLED, 105, 1), (.CHECK_ENABLED, 299, 1), (.GEN_CTRL_REMAP, 0, 1), (.PKT_TX_KIND, 3, 7), (.PKT_TX_MAC_A, 3, 1), (.PKT_TX_TARGET, 3, 9), (.PKT_Q_BASE_LO, 9, 262144), (.PKT_Q_CONS_AGENT, 9, 3), (.PKT_Q_PTR_CONS, 9, 5), (.PWR_STAT_STATE, 0, 2)] with mem := [(262184, 0x07#8), (262188, 0x03#8), (262191, 0x10#8), (262193, 0x10#8), (262200, 0xc8#8), (262202, 0x30#8), (262203, 0x02#8), (262204, 0x12#8), (262208, 0x05#8), (262210, 0x4d#8)], tbs := (List.replicate 8 { sec := 5, ns := 7, frac := 3 }), txWork := [{ tx := 3, timed := true, held := true, packets := 0, left := 1, code := 0 }] }, { tx := 3, timed := true, held := true, packets := 0, left := 1, code := 0 }, by decide⟩,
   ⟨3, 1, { header := 1152921517491748871, payload := [4096, 77346111688, 5046277] }, { put [(.CHECK_ENABLED, 37, 1), (.CHECK_ENABLED, 39, 1), (.CHECK_ENABLED, 105, 1), (.GEN_CTRL_REMAP, 0, 1), (.LAN_CTRL_TX_MODE, 1, 11), (.LAN_BIND_RX_KIND, 1, 3), (.LAN_BIND_TX_KIND, 1, 4), (.LAN_QUAD_STAT_PLL_LOCK, 0, 1), (.PKT_TX_KIND, 3, 7), (.PKT_TX_MAC_A, 3, 1), (.PKT_TX_TARGET, 3, 9), (.PKT_Q_BASE_LO, 9, 262144), (.PKT_Q_PTR_CONS, 9, 5), (.PWR_STAT_STATE, 0, 2)] with mem := [(262184, 0x07#8), (262188, 0x03#8), (262191, 0x10#8), (262193, 0x10#8), (262200, 0xc8#8), (262202, 0x30#8), (262203, 0x02#8), (262204, 0x12#8), (262208, 0x05#8), (262210, 0x4d#8)], txWork := [{ tx := 3, timed := true, held := false, packets := 0, left := 1, code := 0 }] }, { tx := 3, timed := true, held := false, packets := 0, left := 1, code := 0 }, by decide⟩,
   ⟨3, 1, { header := 2306968960664731648, payload := ([0, 562949954338828, 0] ++ List.replicate 9 1234605616436508552) }, { put [(.CHECK_ENABLED, 37, 1), (.CHECK_ENABLED, 39, 1), (.CHECK_ENABLED, 105, 1), (.CHECK_ENABLED, 395, 1), (.GEN_CTRL_REMAP, 0, 1), (.LAN_CTRL_TX_MODE, 1, 11), (.LAN_BIND_RX_KIND, 1, 3), (.LAN_BIND_TX_KIND, 1, 4), (.LAN_QUAD_STAT_PLL_LOCK, 0, 1), (.PKT_TX_KIND, 3, 7), (.PKT_TX_MAC_A, 3, 1), (.PKT_TX_TARGET, 3, 9), (.PKT_Q_BASE_LO, 9, 262144), (.PKT_Q_PROD_AGENT, 12, 3), (.PKT_Q_PTR_CONS, 9, 5), (.PWR_STAT_STATE, 0, 2)] with mem := [(262186, 0x46#8), (262188, 0x0c#8), (262190, 0x04#8), (262191, 0x20#8), (262200, 0x0c#8), (262202, 0x0e#8), (262206, 0x02#8), (262216, 0x88#8), (262217, 0x77#8), (262218, 0x66#8), (262219, 0x55#8), (262220, 0x44#8), (262221, 0x33#8), (262222, 0x22#8), (262223, 0x11#8), (262224, 0x88#8), (262225, 0x77#8), (262226, 0x66#8), (262227, 0x55#8), (262228, 0x44#8), (262229, 0x33#8), (262230, 0x22#8), (262231, 0x11#8), (262232, 0x88#8), (262233, 0x77#8), (262234, 0x66#8), (262235, 0x55#8), (262236, 0x44#8), (262237, 0x33#8), (262238, 0x22#8), (262239, 0x11#8), (262240, 0x88#8), (262241, 0x77#8), (262242, 0x66#8), (262243, 0x55#8), (262244, 0x44#8), (262245, 0x33#8), (262246, 0x22#8), (262247, 0x11#8), (262248, 0x88#8), (262249, 0x77#8), (262250, 0x66#8), (262251, 0x55#8), (262252, 0x44#8), (262253, 0x33#8), (262254, 0x22#8), (262255, 0x11#8), (262256, 0x88#8), (262257, 0x77#8), (262258, 0x66#8), (262259, 0x55#8), (262260, 0x44#8), (262261, 0x33#8), (262262, 0x22#8), (262263, 0x11#8), (262264, 0x88#8), (262265, 0x77#8), (262266, 0x66#8), (262267, 0x55#8), (262268, 0x44#8), (262269, 0x33#8), (262270, 0x22#8), (262271, 0x11#8), (262272, 0x88#8), (262273, 0x77#8), (262274, 0x66#8), (262275, 0x55#8), (262276, 0x44#8), (262277, 0x33#8), (262278, 0x22#8), (262279, 0x11#8), (262280, 0x88#8), (262281, 0x77#8), (262282, 0x66#8), (262283, 0x55#8), (262284, 0x44#8), (262285, 0x33#8), (262286, 0x22#8), (262287, 0x11#8)], txWork := [{ tx := 3, timed := true, held := false, packets := 0, left := 1, code := 0 }] }, { tx := 3, timed := true, held := false, packets := 0, left := 1, code := 0 }, by decide⟩⟩

/-- Hypotheses of GateListsRunInCycles. -/
theorem witness_GateListsRunInCycles :
    (∃ (m : Nat) (s : State) (w : Master) (v : Nat) (u : State), (m < 96)
        ∧ (u = (s.put .PKT_GCL_CTRL_TB m (bitsAt v 29 3)).put .PKT_GCL_CTRL_LIST_LEN m (bitsAt v 16 11)) ∧ (Passes w (gclOff m) s)
        ∧ (s.unitEn (⟨.gcl, m⟩ : UnitId) = true) ∧ (v % 2 = 1) ∧ (s.get .CHECK_BUSY (⟨.gcl, m⟩ : UnitId).code = 0) ∧ (u.gateCode m = 0)
        ∧ (s.running .gcl m = true))
    ∧ (∃ (m : Nat) (s : State) (w : Master) (v : Nat) (u : State), (m < 96)
        ∧ (u = (s.put .PKT_GCL_CTRL_TB m (bitsAt v 29 3)).put .PKT_GCL_CTRL_LIST_LEN m (bitsAt v 16 11)) ∧ (Passes w (gclOff m) s)
        ∧ (s.unitEn (⟨.gcl, m⟩ : UnitId) = true) ∧ (v % 2 = 1) ∧ (s.get .CHECK_BUSY (⟨.gcl, m⟩ : UnitId).code = 0) ∧ (u.gateCode m ≠ 0))
    ∧ (∃ (m : Nat) (s : State) (c : GateConf) (x : Nat × Nat), (m < 96) ∧ (s.running .gcl m = true) ∧ ((s.gateOf m).pending = some (c, x))
        ∧ (s.reached c x = true))
    ∧ (∃ (m : Nat) (s : State) (c : GateConf), (m < 96) ∧ (s.running .gcl m = true) ∧ ((s.gateOf m).pending = none)
        ∧ ((s.gateOf m).oper = some c) ∧ (s.reached c (s.gateOf m).next = true))
    ∧ (∃ (m : Nat) (s : State) (c : GateConf), (m < 96) ∧ (s.running .gcl m = true) ∧ ((s.gateOf m).oper = some c)
        ∧ ((s.gateOf m).entry + 1 < c.entries.length)
        ∧ (s.reached c ((s.gateOf m).cur.fst + (List.map (fun x => x.snd) (List.take ((s.gateOf m).entry + 1) c.entries)).sum, (s.gateOf m).cur.snd) = true)
        ∧ ((List.map (fun x => x.snd) (List.take ((s.gateOf m).entry + 1) c.entries)).sum * c.den < c.num))
    ∧ (∃ (m : Nat) (s : State), (m < 96) ∧ (s.running .gcl m = true) ∧ ((s.gateOf m).oper.isSome = true)) :=
  ⟨⟨1, { put [(.UNIT_EN, 40, 1), (.CHECK_ENABLED, 39, 1), (.CHECK_ENABLED, 40, 1), (.GEN_BOOT_STAT_PHASE, 0, 6), (.PKT_GCL_CYCLE_NUM, 1, 10000), (.PKT_GCL_CYCLE_DEN, 1, 7), (.PKT_GATE_INTERVAL, 1024, 50), (.PKT_GATE_INTERVAL, 1025, 50), (.PKT_GATE_INTERVAL, 1026, 50), (.BUS_LINK_STAT_LINK_UP, 0, 1), (.SEC_DBG_LEVEL, 0, 2), (.PWR_STAT_STATE, 0, 2)] with tbs := (List.replicate 8 { sec := 0, ns := 1000, frac := 3 }) }, Master.st 1, 196611, { put [(.UNIT_EN, 40, 1), (.CHECK_ENABLED, 39, 1), (.CHECK_ENABLED, 40, 1), (.GEN_BOOT_STAT_PHASE, 0, 6), (.PKT_GCL_CTRL_LIST_LEN, 1, 3), (.PKT_GCL_CYCLE_NUM, 1, 10000), (.PKT_GCL_CYCLE_DEN, 1, 7), (.PKT_GATE_INTERVAL, 1024, 50), (.PKT_GATE_INTERVAL, 1025, 50), (.PKT_GATE_INTERVAL, 1026, 50), (.BUS_LINK_STAT_LINK_UP, 0, 1), (.SEC_DBG_LEVEL, 0, 2), (.PWR_STAT_STATE, 0, 2)] with tbs := (List.replicate 8 { sec := 0, ns := 1000, frac := 3 }) }, by decide⟩,
   ⟨1, { put [(.UNIT_EN, 40, 1), (.CHECK_ENABLED, 39, 1), (.CHECK_ENABLED, 40, 1), (.GEN_BOOT_STAT_PHASE, 0, 6), (.PKT_GCL_CYCLE_NUM, 1, 10000), (.PKT_GCL_CYCLE_DEN, 1, 7), (.PKT_GATE_INTERVAL, 1024, 50), (.PKT_GATE_INTERVAL, 1025, 50), (.PKT_GATE_INTERVAL, 1026, 50), (.BUS_LINK_STAT_LINK_UP, 0, 1), (.SEC_DBG_LEVEL, 0, 2), (.PWR_STAT_STATE, 0, 2)] with tbs := (List.replicate 8 { sec := 0, ns := 1000, frac := 3 }) }, Master.st 1, 1, { put [(.UNIT_EN, 40, 1), (.CHECK_ENABLED, 39, 1), (.CHECK_ENABLED, 40, 1), (.GEN_BOOT_STAT_PHASE, 0, 6), (.PKT_GCL_CYCLE_NUM, 1, 10000), (.PKT_GCL_CYCLE_DEN, 1, 7), (.PKT_GATE_INTERVAL, 1024, 50), (.PKT_GATE_INTERVAL, 1025, 50), (.PKT_GATE_INTERVAL, 1026, 50), (.BUS_LINK_STAT_LINK_UP, 0, 1), (.SEC_DBG_LEVEL, 0, 2), (.PWR_STAT_STATE, 0, 2)] with tbs := (List.replicate 8 { sec := 0, ns := 1000, frac := 3 }) }, by decide⟩,
   ⟨1, { put [(.CHECK_ENABLED, 40, 1)] with tbs := (List.replicate 8 { sec := 0, ns := 1003, frac := 3 }), gates := [{ mac := 1, pending := some ({ entries := [(1, 100), (2, 200)], num := 1000, den := 3, base := 50, ext := 10, tb := 0 }, 383, 1), oper := none, cur := (0, 0), next := (0, 0), entry := 0 }] }, { entries := [(1, 100), (2, 200)], num := 1000, den := 3, base := 50, ext := 10, tb := 0 }, (383, 1), by decide⟩,
   ⟨1, { put [(.CHECK_ENABLED, 40, 1)] with tbs := (List.replicate 8 { sec := 0, ns := 1006, frac := 3 }), gates := [{ mac := 1, pending := none, oper := some { entries := [(1, 100), (2, 200)], num := 1000, den := 3, base := 50, ext := 10, tb := 0 }, cur := (383, 1), next := (716, 2), entry := 0 }] }, { entries := [(1, 100), (2, 200)], num := 1000, den := 3, base := 50, ext := 10, tb := 0 }, by decide⟩,
   ⟨1, { put [(.CHECK_ENABLED, 40, 1)] with tbs := (List.replicate 8 { sec := 0, ns := 1006, frac := 3 }), gates := [{ mac := 1, pending := none, oper := some { entries := [(1, 100), (2, 200)], num := 1000, den := 3, base := 50, ext := 10, tb := 0 }, cur := (383, 1), next := (716, 2), entry := 0 }] }, { entries := [(1, 100), (2, 200)], num := 1000, den := 3, base := 50, ext := 10, tb := 0 }, by decide⟩,
   ⟨1, { put [(.CHECK_ENABLED, 40, 1)] with gates := [{ mac := 1, pending := none, oper := some { entries := [(1, 100), (2, 200)], num := 1000, den := 3, base := 50, ext := 10, tb := 0 }, cur := (383, 1), next := (716, 2), entry := 0 }] }, by decide⟩⟩

/-- Hypotheses of GateListsRunInCycles. -/
theorem witness_ChangeOfAStoppedListKeepsNothing :
    (∃ (m : Nat) (v : Nat) (w : Master) (s : State) (u : State), (m < 96) ∧ (Passes w (gclOff m) s)
        ∧ (s.unitEn (⟨.gcl, m⟩ : UnitId) = false) ∧ (s.running .gcl m = false) ∧ (v % 2 = 0) ∧ (s.get .CHECK_BUSY (⟨.gcl, m⟩ : UnitId).code = 0)
        ∧ (u = (s.put .PKT_GCL_CTRL_TB m (bitsAt v 29 3)).put .PKT_GCL_CTRL_LIST_LEN m (bitsAt v 16 11)) ∧ (u.gateCode m = 0))
    ∧ (∃ (m : Nat) (v : Nat) (w : Master) (s : State) (u : State), (m < 96) ∧ (Passes w (gclOff m) s)
        ∧ (s.unitEn (⟨.gcl, m⟩ : UnitId) = false) ∧ (s.running .gcl m = false) ∧ (v % 2 = 0) ∧ (s.get .CHECK_BUSY (⟨.gcl, m⟩ : UnitId).code = 0)
        ∧ (u = (s.put .PKT_GCL_CTRL_TB m (bitsAt v 29 3)).put .PKT_GCL_CTRL_LIST_LEN m (bitsAt v 16 11)) ∧ (u.gateCode m ≠ 0)) :=
  ⟨⟨1, 196610, Master.st 1, { put [(.CHECK_ENABLED, 39, 1), (.GEN_ENUM_FAULT, 3, 1), (.GAZ_W1_DEPTH, 1, 5), (.GEN_BOOT_STAT_PHASE, 0, 6), (.GEN_BOOT_STAT_SAFETY_DEFAULT, 1, 1), (.ATL_CTRL_SLIP_LIMIT, 0, 6), (.ATL_FRAME_NOW, 2, 3), (.ATL_DRAFT_SOURCE, 2, 3), (.ATL_LIVE_INFO_HOME, 0, 1), (.GAZ_STAGED, 2, 3), (.DEST_OLD_SOURCE, 2, 1052), (.IN_LINE_SPAN, 3, 13389236098305), (.FAB_PORT_BAD, 0, 4261269355), (.FAB_PORT_LATE, 2, 2), (.LAN_CTRL_TX_MODE, 3, 6), (.LAN_STAT_FREQ, 0, 1), (.LAN_EVT_EN, 2, 1), (.LAN_PRBS_SR, 3, 1), (.PKT_GCL_CTRL_CHANGE, 3, 1), (.PKT_GCL_CYCLE_NUM, 1, 10000), (.PKT_GCL_CYCLE_DEN, 1, 7), (.PKT_GCL_BASE_NS, 1, 7000), (.PKT_TX_MAC_B, 2, 3), (.PKT_GATE_INTERVAL, 1024, 50), (.PKT_GATE_INTERVAL, 1025, 50), (.PKT_GATE_INTERVAL, 1026, 50), (.PKT_QW_COR, 1, 3), (.TIM_TB_EVT_EN, 0, 0), (.TIM_CAP_FRAC_FRAC, 1, 3), (.TB_INC_DUE, 2, 1), (.TB_ALARM_NS, 1, 2), (.CAP_STEPPED, 0, 1), (.AUD_COMMIT_RESULT_BUSY, 1, 1), (.AUD_OUT0_VENUE, 2, 1), (.AUD_PORT_CTRL_MASTER, 3, 1), (.AUD_PORT_CTRL_RAMP, 0, 1), (.AUD_REPEATS, 3, 166), (.DSP_CORE_STAT_FAULT, 3, 4), (.DSP_QIN_EN, 2, 1), (.CMP_TILE_W0_BORDER, 0, 13), (.CMP_TILE_L1, 3, 2048438376), (.CMP_FLIP_VALUE, 3, 3), (.BUS_LINK_STAT_LINK_UP, 0, 1), (.FLT_RECOV_STAT_FROZEN, 0, 1), (.FLT_RECOV_HEAD_VALID, 0, 1), (.FLT_RECOV_HEAD_PRIO, 1, 4), (.FLT_SRC_STORM_N, 0, 194), (.TWN_TWIN_IMAGE, 2, 1730429691), (.SEC_ARG, 0, 2155352939), (.SEC_DBG_LEVEL, 0, 2), (.SEC_POLICY1_DEBUG_MAX, 3, 201), (.PWR_STAT_STATE, 0, 2), (.FLD_SAFE_STAT_HOLDS1, 2, 1), (.FLD_SAFE_OHM, 0, 33773), (.FLD_LINK_BAD, 3, 184)] with variant := Variant.cx576, tbs := (List.replicate 8 { sec := 0, ns := 1007, frac := 3 }), gates := [{ mac := 1, pending := none, oper := some { entries := [(1, 100), (2, 200)], num := 1000, den := 3, base := 50, ext := 10, tb := 0 }, cur := (383, 1), next := (716, 2), entry := 1 }] }, { put [(.CHECK_ENABLED, 39, 1), (.GEN_ENUM_FAULT, 3, 1), (.GAZ_W1_DEPTH, 1, 5), (.GEN_BOOT_STAT_PHASE, 0, 6), (.GEN_BOOT_STAT_SAFETY_DEFAULT, 1, 1), (.ATL_CTRL_SLIP_LIMIT, 0, 6), (.ATL_FRAME_NOW, 2, 3), (.ATL_DRAFT_SOURCE, 2, 3), (.ATL_LIVE_INFO_HOME, 0, 1), (.GAZ_STAGED, 2, 3), (.DEST_OLD_SOURCE, 2, 1052), (.IN_LINE_SPAN, 3, 13389236098305), (.FAB_PORT_BAD, 0, 4261269355), (.FAB_PORT_LATE, 2, 2), (.LAN_CTRL_TX_MODE, 3, 6), (.LAN_STAT_FREQ, 0, 1), (.LAN_EVT_EN, 2, 1), (.LAN_PRBS_SR, 3, 1), (.PKT_GCL_CTRL_LIST_LEN, 1, 3), (.PKT_GCL_CTRL_CHANGE, 3, 1), (.PKT_GCL_CYCLE_NUM, 1, 10000), (.PKT_GCL_CYCLE_DEN, 1, 7), (.PKT_GCL_BASE_NS, 1, 7000), (.PKT_TX_MAC_B, 2, 3), (.PKT_GATE_INTERVAL, 1024, 50), (.PKT_GATE_INTERVAL, 1025, 50), (.PKT_GATE_INTERVAL, 1026, 50), (.PKT_QW_COR, 1, 3), (.TIM_TB_EVT_EN, 0, 0), (.TIM_CAP_FRAC_FRAC, 1, 3), (.TB_INC_DUE, 2, 1), (.TB_ALARM_NS, 1, 2), (.CAP_STEPPED, 0, 1), (.AUD_COMMIT_RESULT_BUSY, 1, 1), (.AUD_OUT0_VENUE, 2, 1), (.AUD_PORT_CTRL_MASTER, 3, 1), (.AUD_PORT_CTRL_RAMP, 0, 1), (.AUD_REPEATS, 3, 166), (.DSP_CORE_STAT_FAULT, 3, 4), (.DSP_QIN_EN, 2, 1), (.CMP_TILE_W0_BORDER, 0, 13), (.CMP_TILE_L1, 3, 2048438376), (.CMP_FLIP_VALUE, 3, 3), (.BUS_LINK_STAT_LINK_UP, 0, 1), (.FLT_RECOV_STAT_FROZEN, 0, 1), (.FLT_RECOV_HEAD_VALID, 0, 1), (.FLT_RECOV_HEAD_PRIO, 1, 4), (.FLT_SRC_STORM_N, 0, 194), (.TWN_TWIN_IMAGE, 2, 1730429691), (.SEC_ARG, 0, 2155352939), (.SEC_DBG_LEVEL, 0, 2), (.SEC_POLICY1_DEBUG_MAX, 3, 201), (.PWR_STAT_STATE, 0, 2), (.FLD_SAFE_STAT_HOLDS1, 2, 1), (.FLD_SAFE_OHM, 0, 33773), (.FLD_LINK_BAD, 3, 184)] with variant := Variant.cx576, tbs := (List.replicate 8 { sec := 0, ns := 1007, frac := 3 }), gates := [{ mac := 1, pending := none, oper := some { entries := [(1, 100), (2, 200)], num := 1000, den := 3, base := 50, ext := 10, tb := 0 }, cur := (383, 1), next := (716, 2), entry := 1 }] }, by decide⟩,
   ⟨1, 196610, Master.st 1, { put [(.CHECK_ENABLED, 39, 1), (.CHECK_MASTER, 3, 3), (.GAZ_W0_STALE, 0, 1), (.GEN_CTRL_ST_RUN, 3, 1), (.GEN_CAP0_HBM_STACKS, 3, 3), (.GEN_BOOT_STAT_PHASE, 0, 6), (.ATL_FRAME_SEL, 3, 121), (.ATL_DRAFT_ARMED, 2, 1), (.ATL_IN_STAT_STORE_SHORT, 1, 1), (.IN_COMPLETED, 3, 3), (.DEST_OLD_OUT, 0, 2), (.DEST_PREV_RX, 2, 2), (.FAB_PORT_STAT_PEER_CLASS, 0, 1), (.FAB_RX0_HOME, 1, 13), (.FAB_RX0_STATE, 3, 3), (.FAB_TX0_WAYPOINT, 0, 2), (.FAB_TX3_ORDER_NO, 3, 3829941957), (.FAB_LOSS_FRAC, 1, 3), (.LAN_CTRL_TX_MODE, 1, 2), (.PKT_GCL_CYCLE_NUM, 1, 10000), (.PKT_GCL_BASE_NS, 1, 8000), (.PKT_RX_PARTNER, 0, 1435), (.PKT_GATE_INTERVAL, 1024, 50), (.PKT_GATE_INTERVAL, 1025, 50), (.PKT_GATE_INTERVAL, 1026, 50), (.TIM_MAC_CTRL_TB, 1, 2), (.TB_SHADOW_NS, 3, 3), (.REF_MODEL_Y, 0, 2844824350), (.REF_CAND_KIND, 1, 1), (.REF_CAND_OFFSET, 0, 3), (.REF_DAY, 2, 3), (.AUD_PORT_MASK_IN, 3, 3922324692), (.AUD_PORT_GLITCHES, 2, 2109003159), (.AUD_MASK_OUT_LATCHED, 1, 2), (.AUD_MASK_OUT_LATCHED, 3, 1), (.CMP_HEAD_CTRL_FENCED, 0, 1), (.CMP_TILE_W3_FALLBACK, 3, 1), (.CMP_TILE_L0, 3, 2), (.CMP_TILE_FLIP_FENCE, 3, 5), (.CMP_OVL_W0_FALLBACK_A, 3, 185), (.CMP_OVL_W2_STRIDE, 3, 1), (.CMP_OVL_L0, 2, 0), (.CMP_LUT_TICK, 1, 12376878273852), (.BUS_LOST_LOG1_DONE, 0, 10), (.BUS_LINK_STAT_LINK_UP, 0, 1), (.FLT_HBM_SCRUBS, 0, 13927), (.FLT_SRC_TIME_SEC, 2, 1006043025), (.CHK_EVT, 1, 1), (.TWN_STAT_MGMT_LOST, 3, 1), (.TWN_TWIN_POWER, 0, 3), (.SEC_DBG_LEVEL, 0, 2), (.PWR_STAT_STATE, 0, 2), (.PWR_TEMP_TEMP, 0, 2), (.FLD_GPI_LOST, 3, 1)] with tbs := (List.replicate 8 { sec := 0, ns := 1008, frac := 3 }), gates := [{ mac := 1, pending := none, oper := some { entries := [(1, 100), (2, 200)], num := 1000, den := 3, base := 50, ext := 10, tb := 0 }, cur := (383, 1), next := (716, 2), entry := 0 }] }, { put [(.CHECK_ENABLED, 39, 1), (.CHECK_MASTER, 3, 3), (.GAZ_W0_STALE, 0, 1), (.GEN_CTRL_ST_RUN, 3, 1), (.GEN_CAP0_HBM_STACKS, 3, 3), (.GEN_BOOT_STAT_PHASE, 0, 6), (.ATL_FRAME_SEL, 3, 121), (.ATL_DRAFT_ARMED, 2, 1), (.ATL_IN_STAT_STORE_SHORT, 1, 1), (.IN_COMPLETED, 3, 3), (.DEST_OLD_OUT, 0, 2), (.DEST_PREV_RX, 2, 2), (.FAB_PORT_STAT_PEER_CLASS, 0, 1), (.FAB_RX0_HOME, 1, 13), (.FAB_RX0_STATE, 3, 3), (.FAB_TX0_WAYPOINT, 0, 2), (.FAB_TX3_ORDER_NO, 3, 3829941957), (.FAB_LOSS_FRAC, 1, 3), (.LAN_CTRL_TX_MODE, 1, 2), (.PKT_GCL_CTRL_LIST_LEN, 1, 3), (.PKT_GCL_CYCLE_NUM, 1, 10000), (.PKT_GCL_BASE_NS, 1, 8000), (.PKT_RX_PARTNER, 0, 1435), (.PKT_GATE_INTERVAL, 1024, 50), (.PKT_GATE_INTERVAL, 1025, 50), (.PKT_GATE_INTERVAL, 1026, 50), (.TIM_MAC_CTRL_TB, 1, 2), (.TB_SHADOW_NS, 3, 3), (.REF_MODEL_Y, 0, 2844824350), (.REF_CAND_KIND, 1, 1), (.REF_CAND_OFFSET, 0, 3), (.REF_DAY, 2, 3), (.AUD_PORT_MASK_IN, 3, 3922324692), (.AUD_PORT_GLITCHES, 2, 2109003159), (.AUD_MASK_OUT_LATCHED, 1, 2), (.AUD_MASK_OUT_LATCHED, 3, 1), (.CMP_HEAD_CTRL_FENCED, 0, 1), (.CMP_TILE_W3_FALLBACK, 3, 1), (.CMP_TILE_L0, 3, 2), (.CMP_TILE_FLIP_FENCE, 3, 5), (.CMP_OVL_W0_FALLBACK_A, 3, 185), (.CMP_OVL_W2_STRIDE, 3, 1), (.CMP_OVL_L0, 2, 0), (.CMP_LUT_TICK, 1, 12376878273852), (.BUS_LOST_LOG1_DONE, 0, 10), (.BUS_LINK_STAT_LINK_UP, 0, 1), (.FLT_HBM_SCRUBS, 0, 13927), (.FLT_SRC_TIME_SEC, 2, 1006043025), (.CHK_EVT, 1, 1), (.TWN_STAT_MGMT_LOST, 3, 1), (.TWN_TWIN_POWER, 0, 3), (.SEC_DBG_LEVEL, 0, 2), (.PWR_STAT_STATE, 0, 2), (.PWR_TEMP_TEMP, 0, 2), (.FLD_GPI_LOST, 3, 1)] with tbs := (List.replicate 8 { sec := 0, ns := 1008, frac := 3 }), gates := [{ mac := 1, pending := none, oper := some { entries := [(1, 100), (2, 200)], num := 1000, den := 3, base := 50, ext := 10, tb := 0 }, cur := (383, 1), next := (716, 2), entry := 0 }] }, by decide⟩⟩

/-- Hypotheses of LanesDetectAndTest. -/
theorem witness_LanesFollowTheirDetectors :
    (∃ (l : Nat) (s : State), (s.running .lane l = true) ∧ (s.get .LAN_STAT_LOS l = 0) ∧ (l < 96) ∧ (l % 4 = 0)
        ∧ (s.get .LAN_BIND_RX_KIND l = 1) ∧ (s.running .input (s.get .LAN_BIND_RX_TARGET l) = true)
        ∧ (s.inputLane (s.get .LAN_BIND_RX_TARGET l) = some l))
    ∧ (∃ (l : Nat) (s : State), (s.running .lane l = true) ∧ (s.get .LAN_STAT_LOS l = 1))
    ∧ (∃ (l : Nat) (s : State) (fmt : Nat) (depth : Nat) (freq : Int), (s.running .lane l = true) ∧ (s.get .LAN_STAT_LOS l = 0)
        ∧ (s.get .LAN_STAT_LOCK l = 0) ∧ (s.rxMode l = 0 ∨ freq < -2000 ∨ 2000 < freq ∨ isSdi (s.rxMode l) = true
        ∧ modeCarries (s.rxMode l) false fmt depth = false ∧ s.rxGrouped l = false))
    ∧ (∃ (l : Nat) (s : State), (s.running .lane l = true) ∧ (s.get .LAN_STAT_LOCK l = 1))
    ∧ (∃ (l : Nat) (s : State) (beyond : Bool), (s.running .lane l = true) ∧ (s.get .LAN_BIND_RX_QUAD l = 1)
        ∧ (s.flag .LAN_STAT_QUAD_SKEW l = !beyond) ∧ (beyond = true) ∧ (s.running .input (s.get .LAN_BIND_RX_TARGET l) = true)
        ∧ (s.inputLane (s.get .LAN_BIND_RX_TARGET l) = some l) ∧ (l % 4 = 0) ∧ (l < 96) ∧ (s.get .LAN_BIND_RX_KIND l = 1))
    ∧ (∃ (l : Nat) (s : State) (drained : Nat) (wrong : Nat), (s.running .lane l = true) ∧ (s.get .LAN_RXQ_FILL l < 64 + drained) ∧ (wrong = 0))
    ∧ (∃ (l : Nat) (s : State) (drained : Nat) (wrong : Nat), (s.running .lane l = true) ∧ (s.get .LAN_RXQ_FILL l < 64 + drained) ∧ (wrong = 1))
    ∧ (∃ (l : Nat) (s : State) (drained : Nat) (wrong : Nat), (s.running .lane l = true) ∧ (s.get .LAN_RXQ_FILL l < 64 + drained)
        ∧ (wrong = 2) ∧ (bitsAt (s.get .LAN_EVT l) 4 1 = 0) ∧ (bitsAt (s.get .LAN_EVT_EN l) 4 1 = 1) ∧ (l < 184))
    ∧ (∃ (l : Nat) (s : State) (drained : Nat), (s.running .lane l = true) ∧ (64 + drained ≤ s.get .LAN_RXQ_FILL l)) :=
  ⟨⟨4, put [(.CHECK_ENABLED, 133, 1), (.CHECK_ENABLED, 161, 1), (.LAN_BIND_RX_KIND, 4, 1), (.LAN_BIND_RX_TARGET, 4, 5), (.LAN_STAT_LOS, 4,
      0)], by decide⟩,
   ⟨0, put [(.CHECK_ENABLED, 5, 1)], by decide⟩,
   ⟨4, put [(.CHECK_ENABLED, 133, 1), (.LAN_STAT_LOS, 4, 0)], 0, 0, 5, by decide⟩,
   ⟨4, put [(.CHECK_ENABLED, 133, 1), (.LAN_STAT_LOCK, 4, 1)], by decide⟩,
   ⟨4, put [(.CHECK_ENABLED, 133, 1), (.CHECK_ENABLED, 161, 1), (.LAN_BIND_RX_QUAD, 4, 1), (.LAN_BIND_RX_KIND, 4, 1),
       (.LAN_BIND_RX_TARGET, 4, 5)], true, by decide⟩,
   ⟨0, put [(.CHECK_ENABLED, 5, 1)], 0, 0, by decide⟩,
   ⟨0, put [(.CHECK_ENABLED, 5, 1)], 0, 1, by decide⟩,
   ⟨0, put [(.CHECK_ENABLED, 5, 1)], 0, 2, by decide⟩,
   ⟨4, put [(.CHECK_ENABLED, 133, 1), (.LAN_RXQ_FILL, 4, 64)], 0, by decide⟩⟩

/-- Hypotheses of LanesDetectAndTest. -/
theorem witness_LaneTestsAreGuarded :
    (∃ (q : Nat) (s : State), s.running .lane (4 * q) = true)
    ∧ (∃ (q : Nat) (s : State) (k : Nat), (k < 4) ∧ (s.running .lane (4 * q + k) = true) ∧ (s.get .LAN_QUAD_STAT_PLL_LOCK q = 0))
    ∧ (∃ (q : Nat) (s : State) (k : Nat), (s.get .LAN_QUAD_STAT_PLL_LOCK q = 1) ∧ (k < 4) ∧ (s.running .lane (4 * q + k) = true))
    ∧ (∃ (m : Master) (l : Nat) (v : Nat) (s : State), (l < 184) ∧ (Passes m (3145792 + 2048 * l) s) ∧ (s.get .PWR_STAT_STATE ≠ 4)
        ∧ (s.get .PWR_STAT_STATE ≠ 5) ∧ (bitsAt v 8 2 ≠ 3) ∧ (bitsAt v 4 3 ≤ 5) ∧ (bitsAt v 0 3 ≤ 5) ∧ (bitsAt v 8 2 = 2 → s.rxMode l = s.txMode l)
        ∧ (bitsAt v 4 3 ≠ 0 → s.txMode l ≠ 0) ∧ (bitsAt v 0 3 ≠ 0 → s.rxMode l ≠ 0) ∧ (s.txReady l = true) ∧ (bitsAt v 4 3 ≠ 0 ∨ bitsAt v 8 2 = 2))
    ∧ (∃ (m : Master) (l : Nat) (s : State), (l < 184) ∧ (Passes m (3145792 + 2048 * l) s) ∧ (s.get .PWR_STAT_STATE = 4 ∨ s.get .PWR_STAT_STATE = 5))
    ∧ (∃ (m : Master) (l : Nat) (v : Nat) (s : State), (l < 184) ∧ (Passes m (3145792 + 2048 * l) s) ∧ (s.get .PWR_STAT_STATE = 2)
        ∧ (bitsAt v 8 2 ≠ 3) ∧ (bitsAt v 4 3 ≤ 5) ∧ (bitsAt v 0 3 ≤ 5) ∧ (bitsAt v 4 3 ≠ 0) ∧ (s.txMode l = 0))
    ∧ (∃ (l : Nat) (s : State), (s.running .lane l = true) ∧ (s.get .LAN_TEST_PRBS_RX l ≠ 0) ∧ (s.get .LAN_TEST_PRBS_LOCK l = 1))
    ∧ (∃ (l : Nat) (b : Bool) (s : State), (s.running .lane l = true) ∧ (s.get .LAN_TEST_PRBS_RX l ≠ 0) ∧ (s.get .LAN_TEST_PRBS_LOCK l = 1)
        ∧ (b.toNat ≠ prbsNext (s.get .LAN_TEST_PRBS_RX l) (s.get .LAN_PRBS_SR l))) :=
  ⟨⟨0, put [(.CHECK_ENABLED, 5, 1)], by decide⟩,
   ⟨0, put [(.CHECK_ENABLED, 5, 1)], 0, by decide⟩,
   ⟨0, put [(.CHECK_ENABLED, 5, 1), (.LAN_QUAD_STAT_PLL_LOCK, 0, 1)], 0, by decide⟩,
   ⟨Master.st 1, 4, 563, put [(.CHECK_ENABLED, 133, 1), (.LAN_CTRL_RX_MODE, 4, 2), (.LAN_CTRL_TX_MODE, 4, 2), (.LAN_QUAD_STAT_PLL_LOCK, 1,
       1)], by decide⟩,
   ⟨Master.st 1, 0, put [(.PWR_STAT_STATE, 0, 4)], by decide⟩,
   ⟨Master.st 1, 0, 563, put [(.PWR_STAT_STATE, 0, 2)], by decide⟩,
   ⟨4, put [(.CHECK_ENABLED, 133, 1), (.LAN_TEST_PRBS_LOCK, 4, 1), (.LAN_TEST_PRBS_RX, 4, 1)], by decide⟩,
   ⟨4, true, put [(.CHECK_ENABLED, 133, 1), (.LAN_TEST_PRBS_LOCK, 4, 1), (.LAN_TEST_PRBS_RX, 4, 1)], by decide⟩⟩

/-- Hypotheses of CommitsDraftsAndRealignment. -/
theorem witness_CommitsAreValidatedWhole :
    (∃ (m : Master) (v : Nat) (s : State), (Passes m 1048592 s) ∧ (s.commitGeneral = 0) ∧ (s.destCode (bitsAt v 0 7) = 0)
        ∧ (s.commitDest (bitsAt v 0 7) = 0) ∧ (bitsAt v 30 1 = 0))
    ∧ (∃ (m : Master) (v : Nat) (s : State) (n : Nat) (f : Nat), (Passes m 1048592 s) ∧ (s.commitGeneral = 0)
        ∧ (s.destCode (bitsAt v 0 7) = 0) ∧ (s.commitDest (bitsAt v 0 7) = 0) ∧ (bitsAt v 30 1 = 1)
        ∧ (f = s.get .ATL_DEST_CTRL_FORMAT (bitsAt v 0 7)) ∧ (n % 2 ^ 32 = s.get .ATL_COMMIT_FRAME % 2 ^ 32) ∧ (s.get .ATL_N_RECENT f ≤ n)
        ∧ (n < s.get .ATL_N_RECENT f + 2 ^ 32) ∧ (n ≤ s.get .ATL_N_RECENT f + 65535) ∧ (s.get .ATL_N_DECIDED f < n))
    ∧ (∃ (m : Master) (v : Nat) (s : State) (n : Nat) (f : Nat), (Passes m 1048592 s) ∧ (s.commitGeneral = 0)
        ∧ (s.destCode (bitsAt v 0 7) = 0) ∧ (s.commitDest (bitsAt v 0 7) = 0) ∧ (bitsAt v 30 1 = 1)
        ∧ (f = s.get .ATL_DEST_CTRL_FORMAT (bitsAt v 0 7)) ∧ (n % 2 ^ 32 = s.get .ATL_COMMIT_FRAME % 2 ^ 32) ∧ (s.get .ATL_N_RECENT f ≤ n)
        ∧ (n < s.get .ATL_N_RECENT f + 2 ^ 32) ∧ (n ≤ s.get .ATL_N_DECIDED f))
    ∧ (∃ (m : Master) (v : Nat) (s : State) (n : Nat) (f : Nat), (Passes m 1048592 s) ∧ (s.commitGeneral = 0)
        ∧ (s.destCode (bitsAt v 0 7) = 0) ∧ (s.commitDest (bitsAt v 0 7) = 0) ∧ (bitsAt v 30 1 = 1)
        ∧ (f = s.get .ATL_DEST_CTRL_FORMAT (bitsAt v 0 7)) ∧ (n % 2 ^ 32 = s.get .ATL_COMMIT_FRAME % 2 ^ 32) ∧ (s.get .ATL_N_RECENT f ≤ n)
        ∧ (n < s.get .ATL_N_RECENT f + 2 ^ 32) ∧ (s.get .ATL_N_RECENT f + 65535 < n) ∧ (s.get .ATL_N_DECIDED f < n))
    ∧ (∃ (m : Master) (v : Nat) (s : State) (c : Nat), (Passes m 1048592 s) ∧ (bitsAt v 30 1 = 0)
        ∧ (c = firstCode [s.commitGeneral, s.destCode (bitsAt v 0 7), s.commitDest (bitsAt v 0 7)]) ∧ (c ≠ 0) ∧ (s.running .atlas = false))
    ∧ (∃ (m : Master) (v : Nat) (s : State), (Passes m 1048592 s) ∧ (s.commitGeneral = 0) ∧ (s.salvoDests ≠ [])
        ∧ (∀ (d : Nat), d ∈ s.salvoDests → s.destCode d = 0 ∧ s.commitDest d = 0) ∧ (s.salvoPending = false)
        ∧ (samePeriods (List.map (fun d => s.get .ATL_DEST_CTRL_FORMAT d) s.salvoDests) = true) ∧ (bitsAt v 30 1 = 0))
    ∧ (∃ (m : Master) (s : State), (Passes m 1048592 s) ∧ (s.commitGeneral = 0) ∧ (s.salvoDests = []))
    ∧ (∃ (m : Master) (v : Nat) (s : State) (c : PendCommit), (Passes m 1048604 s) ∧ (s.destCode (bitsAt v 0 7) = 0)
        ∧ (s.commitOf (bitsAt v 0 7) = some c) ∧ (c.taken = false) ∧ (c.salvo = false))
    ∧ (∃ (m : Master) (s : State) (c : PendCommit), (Passes m 1048604 s) ∧ (∃ c, c ∈ s.commits ∧ c.salvo = true ∧ c.taken = false)
        ∧ (c ∈ (result (execSalvoCancel m s)).commits))
    ∧ (∃ (m : Master) (s : State) (c : PendCommit), (Passes m 1048604 s) ∧ (∃ c, c ∈ s.commits ∧ c.salvo = true ∧ c.taken = false)
        ∧ (c ∈ s.commits) ∧ (c.salvo = true)) :=
  ⟨⟨Master.st 1, 3, put [(.CHECK_ENABLED, 0, 1), (.CHECK_ENABLED, 98, 1), (.ATL_DRAFT_ARMED, 3, 1), (.ATL_DEST_CTRL_FORMAT, 3, 49)], by decide⟩,
   ⟨Master.st 1, 1073741827, put [(.CHECK_ENABLED, 0, 1), (.CHECK_ENABLED, 98, 1), (.ATL_COMMIT_FRAME, 0, 2147483648), (.ATL_DRAFT_ARMED, 3,
       1), (.ATL_DEST_CTRL_FORMAT, 3, 49), (.ATL_N_RECENT, 49, 6442450943)], 6442450944, 49, by decide⟩,
   ⟨Master.st 1, 1073741827, put [(.CHECK_ENABLED, 0, 1), (.CHECK_ENABLED, 98, 1), (.ATL_COMMIT_FRAME, 0, 2147483648), (.ATL_DRAFT_ARMED, 3,
       1), (.ATL_DEST_CTRL_FORMAT, 3, 49), (.ATL_N_RECENT, 49, 6442450944), (.ATL_N_DECIDED, 49, 6442450944)], 6442450944, 49, by decide⟩,
   ⟨Master.st 1, 1073741827, put [(.CHECK_ENABLED, 0, 1), (.CHECK_ENABLED, 98, 1), (.ATL_COMMIT_FRAME, 0, 2147483648), (.ATL_DRAFT_ARMED, 3,
       1), (.ATL_DEST_CTRL_FORMAT, 3, 49), (.ATL_N_RECENT, 49, 6442380944)], 6442450944, 49, by decide⟩,
   ⟨Master.st 1, 3, State.reset, 5, by decide⟩,
   ⟨Master.st 1, 3, put [(.CHECK_ENABLED, 0, 1), (.CHECK_ENABLED, 98, 1), (.CHECK_ENABLED, 130, 1), (.ATL_SALVO_MASK, 0, 24),
       (.ATL_DRAFT_ARMED, 3, 1), (.ATL_DRAFT_ARMED, 4, 1), (.ATL_DEST_CTRL_FORMAT, 3, 49), (.ATL_DEST_CTRL_FORMAT, 4, 49)], by decide⟩,
   ⟨Master.st 1, put [(.CHECK_ENABLED, 0, 1)], by decide⟩,
   ⟨Master.st 1, 3, { State.reset with commits := [{ dest := 3, tag := 9, target := 77, slipLimit := 3, slips := 1, salvo := false, taken := false, snap := [], newLost := false, master := Master.host }] }, { dest := 3, tag := 9, target := 77, slipLimit := 3, slips := 1, salvo := false, taken := false, snap := [], newLost := false, master := Master.host }, by decide⟩,
   ⟨Master.st 1, { State.reset with commits := [{ dest := 3, tag := 9, target := 77, slipLimit := 3, slips := 1, salvo := true, taken := false, snap := [], newLost := false, master := Master.host }, { dest := 4, tag := 9, target := 77, slipLimit := 3, slips := 1, salvo := true, taken := false, snap := [], newLost := false, master := Master.host }, { dest := 5, tag := 9, target := 77, slipLimit := 3, slips := 1, salvo := false, taken := false, snap := [], newLost := false, master := Master.host }] }, { dest := 5, tag := 9, target := 77, slipLimit := 3, slips := 1, salvo := false, taken := false, snap := [], newLost := false, master := Master.host }, by decide +kernel⟩,
   ⟨Master.st 1, { State.reset with commits := [{ dest := 3, tag := 9, target := 77, slipLimit := 3, slips := 1, salvo := true, taken := false, snap := [], newLost := false, master := Master.host }, { dest := 4, tag := 9, target := 77, slipLimit := 3, slips := 1, salvo := true, taken := false, snap := [], newLost := false, master := Master.host }, { dest := 5, tag := 9, target := 77, slipLimit := 3, slips := 1, salvo := false, taken := false, snap := [], newLost := false, master := Master.host }] }, { dest := 3, tag := 9, target := 77, slipLimit := 3, slips := 1, salvo := true, taken := false, snap := [], newLost := false, master := Master.host }, by decide⟩⟩

/-- Hypotheses of CommitsDraftsAndRealignment. -/
theorem witness_DraftsAndRealignment :
    (∃ (m : Master) (s : State) (d : Nat) (src : Nat) (low : Nat) (c : PendCommit), (d < 96) ∧ (src = bitsAt low 0 11)
        ∧ (Passes m (1052672 + 16 * d) s) ∧ (s.commitOf d = some c))
    ∧ (∃ (m : Master) (s : State) (d : Nat) (src : Nat) (low : Nat) (armed : Bool), (d < 96) ∧ (src = bitsAt low 0 11)
        ∧ (Passes m (1052672 + 16 * d) s) ∧ (s.commitOf d = none) ∧ (s.running .fabric = false ∨ armed = false ∨ s.isRemote src = false))
    ∧ (∃ (m : Master) (s : State) (d : Nat) (src : Nat) (low : Nat) (armed : Bool) (n : Nat) (st : Option Nat × Nat), (d < 96)
        ∧ (src = bitsAt low 0 11) ∧ (Passes m (1052672 + 16 * d) s) ∧ (s.commitOf d = none) ∧ (s.canRequest = true) ∧ (armed = true)
        ∧ (s.isRemote src = true) ∧ (s.homeLost (homeOf src) = false) ∧ (∀ (r : RxStream), r ∈ s.rx → r.src ≠ src)
        ∧ (freeSlot 1024 (List.map (fun x => x.slot) s.rx) = some n) ∧ (s.landingStore 0 src (Asker.draft d) = some st))
    ∧ (∃ (m : Master) (v : Nat) (s : State) (c : PendCommit), (Passes m 1048576 s) ∧ (s.unitEn (⟨.atlas, 0⟩ : UnitId) = true) ∧ (v % 2 = 1)
        ∧ (c ∈ s.commits))
    ∧ (∃ (m : Master) (v : Nat) (s : State) (f : Nat), (Passes m 1048576 s) ∧ (s.unitEn (⟨.atlas, 0⟩ : UnitId) = true) ∧ (v % 2 = 1)
        ∧ (f ∈ formatCodes)) :=
  ⟨⟨Master.st 1, { State.reset with commits := [{ dest := 3, tag := 9, target := 77, slipLimit := 3, slips := 1, salvo := false, taken := false, snap := [], newLost := false, master := Master.host }] }, 3, 3, 3, { dest := 3, tag := 9, target := 77, slipLimit := 3, slips := 1, salvo := false, taken := false, snap := [], newLost := false, master := Master.host }, by decide⟩,
   ⟨Master.st 1, State.reset, 3, 3, 3, true, by decide⟩,
   ⟨Master.st 1, put [(.CHECK_ENABLED, 3, 1), (.CHECK_ENABLED, 98, 1), (.GEN_ENUM_POS_VALID, 0, 1)], 3, 512, 2147484160, true, 0, (some 3,
       0), by decide +kernel⟩,
   ⟨Master.st 1, 3, { put [(.UNIT_EN, 0, 1)] with commits := [{ dest := 3, tag := 9, target := 77, slipLimit := 3, slips := 1, salvo := false, taken := false, snap := [], newLost := false, master := Master.host }] }, { dest := 3, tag := 9, target := 77, slipLimit := 3, slips := 1, salvo := false, taken := false, snap := [], newLost := false, master := Master.host }, by decide⟩,
   ⟨Master.st 1, 3, put [(.UNIT_EN, 0, 1)], 1, by decide⟩⟩

/-- Hypotheses of SwitchesHappenAtMeridians. -/
theorem witness_SwitchesHappenAtMeridians :
    (∃ (f : Nat) (n : Nat) (s : State) (c : PendCommit), (s.running .atlas = true) ∧ (formatValid f = true) ∧ (s.commits = [c])
        ∧ (c.salvo = false) ∧ (c.taken = false) ∧ (c.target = n) ∧ (s.get .ATL_DEST_CTRL_FORMAT c.dest = f)
        ∧ (s.isRemote (s.commitSource c) = false))
    ∧ (∃ (f : Nat) (s : State), (s.running .atlas = true) ∧ (formatValid f = true) ∧ (s.commits = []) ∧ (s.audCommit = none))
    ∧ (∃ (f : Nat) (s : State) (d : Nat), (s.running .atlas = true) ∧ (formatValid f = true) ∧ (d < 96) ∧ (s.running .dest d = true)
        ∧ (s.get .ATL_DEST_CTRL_FORMAT d = f))
    ∧ (∃ (f : Nat) (n : Nat) (s : State) (c : PendCommit), (s.running .atlas = true) ∧ (formatValid f = true) ∧ (s.commits = [c])
        ∧ (c.salvo = false) ∧ (c.taken = true) ∧ (c.target = n) ∧ (c.dest < 96) ∧ (s.running .dest c.dest = true)
        ∧ (s.get .ATL_DEST_CTRL_FORMAT c.dest = f) ∧ (s.snapOf (s.commitSource c) = c.snap))
    ∧ (∃ (f : Nat) (n : Nat) (s : State) (c : PendCommit), (s.running .atlas = true) ∧ (formatValid f = true) ∧ (s.commits = [c])
        ∧ (c.salvo = false) ∧ (c.taken = true) ∧ (c.target = n) ∧ (c.dest < 96) ∧ (s.running .dest c.dest = true)
        ∧ (s.get .ATL_DEST_CTRL_FORMAT c.dest = f) ∧ (s.snapOf (s.commitSource c) ≠ c.snap))
    ∧ (∃ (f : Nat) (s : State), (s.running .atlas = true) ∧ (formatValid f = true) ∧ (s.commits = [])) :=
  ⟨⟨49, 77, { put [(.CHECK_ENABLED, 0, 1), (.ATL_DEST_CTRL_FORMAT, 3, 49)] with commits := [{ dest := 3, tag := 9, target := 77, slipLimit := 3, slips := 1, salvo := false, taken := false, snap := [], newLost := false, master := Master.host }] }, { dest := 3, tag := 9, target := 77, slipLimit := 3, slips := 1, salvo := false, taken := false, snap := [], newLost := false, master := Master.host }, by decide⟩,
   ⟨49, put [(.CHECK_ENABLED, 0, 1)], by decide⟩,
   ⟨49, put [(.CHECK_ENABLED, 0, 1), (.CHECK_ENABLED, 98, 1), (.ATL_DEST_CTRL_FORMAT, 3, 49)], 3, by decide⟩,
   ⟨49, 77, { put [(.CHECK_ENABLED, 0, 1), (.CHECK_ENABLED, 98, 1), (.GAZ_W0_VALID, 9, 1), (.GAZ_W1_FORMAT, 9, 49), (.ATL_DRAFT_SOURCE, 3, 9), (.ATL_DEST_CTRL_FORMAT, 3, 49)] with commits := [{ dest := 3, tag := 9, target := 77, slipLimit := 3, slips := 1, salvo := false, taken := true, snap := [1, 49, 0], newLost := false, master := Master.host }] }, { dest := 3, tag := 9, target := 77, slipLimit := 3, slips := 1, salvo := false, taken := true, snap := [1, 49, 0], newLost := false, master := Master.host }, by decide⟩,
   ⟨49, 77, { put [(.CHECK_ENABLED, 0, 1), (.CHECK_ENABLED, 98, 1), (.ATL_DEST_CTRL_FORMAT, 3, 49)] with commits := [{ dest := 3, tag := 9, target := 77, slipLimit := 3, slips := 1, salvo := false, taken := true, snap := [1, 50, 0], newLost := false, master := Master.host }] }, { dest := 3, tag := 9, target := 77, slipLimit := 3, slips := 1, salvo := false, taken := true, snap := [1, 50, 0], newLost := false, master := Master.host }, by decide⟩,
   ⟨49, put [(.CHECK_ENABLED, 0, 1)], by decide⟩⟩

/-- Hypotheses of CellsAreReleasedLandedAndForwarded. -/
theorem witness_CellsAreReleasedLandedAndForwarded :
    (∃ (i : Nat) (v : VideoSpan) (s : State), (s.running .input i = true) ∧ (s.positioned = true)
        ∧ (s.get .GAZ_W1_FORMAT (96 * s.position + i) = v.fmt % 2 ^ 8) ∧ (v.fmt < 2 ^ 8) ∧ (s.get .GAZ_W1_DEPTH (96 * s.position + i) = v.depth)
        ∧ (v.depth < 2) ∧ (s.kindCarries i v.fmt v.depth = true) ∧ (spanComplete (s.spanWritten i v) = false))
    ∧ (∃ (i : Nat) (v : VideoSpan) (s : State), (s.running .input i = true) ∧ (s.positioned = true)
        ∧ (s.get .GAZ_W1_FORMAT (96 * s.position + i) = v.fmt % 2 ^ 8) ∧ (v.fmt < 2 ^ 8) ∧ (s.get .GAZ_W1_DEPTH (96 * s.position + i) = v.depth)
        ∧ (v.depth < 2) ∧ (s.kindCarries i v.fmt v.depth = true) ∧ (s.fedByKind [1, 2] i = false) ∧ (∀ (h : Hole), h ∈ s.holes → h.input ≠ i))
    ∧ (∃ (i : Nat) (v : VideoSpan) (s : State) (h : Hole) (row : List Nat) (k : Nat), (s.running .input i = true) ∧ (s.positioned = true)
        ∧ (s.get .GAZ_W1_FORMAT (96 * s.position + i) = v.fmt % 2 ^ 8) ∧ (v.fmt < 2 ^ 8) ∧ (s.get .GAZ_W1_DEPTH (96 * s.position + i) = v.depth)
        ∧ (v.depth < 2) ∧ (s.kindCarries i v.fmt v.depth = true) ∧ (s.fedByKind [1, 2] i = false) ∧ (s.holes = [h]) ∧ (h.input = i)
        ∧ (v.lines = [(h.line, row)]) ∧ (k < row.length))
    ∧ (∃ (i : Nat) (v : VideoSpan) (s : State), (s.running .input i = true) ∧ (s.positioned = true)
        ∧ (s.get .GAZ_W1_FORMAT (96 * s.position + i) ≠ v.fmt % 2 ^ 8) ∧ (s.flag .ATL_IN_STAT_FMT_ERR i = false))
    ∧ (∃ (n : Nat) (typ : Nat) (span : Nat) (x : TxStream) (s : State), (span < 2 ^ 32) ∧ (List.find? (fun y => y.slot == n) s.tx = some x)
        ∧ (s.fabSends = true) ∧ (s.portUp (pathOf x span).fst = true) ∧ (sendsSpan x span = true)
        ∧ (List.find? (fun m => m.fst == span) x.marks = none) ∧ (typ ≠ 3))
    ∧ (∃ (n : Nat) (typ : Nat) (span : Nat) (x : TxStream) (s : State) (cod : Nat) (lost : Bool), (span < 2 ^ 32)
        ∧ (List.find? (fun y => y.slot == n) s.tx = some x) ∧ (s.fabSends = true) ∧ (s.portUp (pathOf x span).fst = true)
        ∧ (sendsSpan x span = true) ∧ (List.find? (fun m => m.fst == span) x.marks = some (span, cod, lost)) ∧ (typ ≠ 3) ∧ (lost = true))

        ∧ (∃ (n : Nat) (typ : Nat) (k : Nat) (span : Nat) (x : TxStream) (live : Option VideoSpan) (s : State) (cod : Nat) (lost : Bool) (d : Cell),
        (span < 2 ^ 32) ∧ (List.find? (fun y => y.slot == n) s.tx = some x) ∧ (s.fabSends = true) ∧ (s.portUp (pathOf x span).fst = true)
        ∧ (sendsSpan x span = true) ∧ (List.find? (fun m => m.fst == span) x.marks = some (span, cod, lost)) ∧ (typ ≠ 3) ∧ (lost = false)
        ∧ (s.dataOf x span typ k live = some d))
    ∧ (∃ (n : Nat) (typ : Nat) (k : Nat) (span : Nat) (x : TxStream) (live : Option VideoSpan) (s : State) (cod : Nat) (lost : Bool),
        (span < 2 ^ 32) ∧ (List.find? (fun y => y.slot == n) s.tx = some x) ∧ (s.fabSends = true) ∧ (s.portUp (pathOf x span).fst = true)
        ∧ (sendsSpan x span = true) ∧ (List.find? (fun m => m.fst == span) x.marks = some (span, cod, lost)) ∧ (typ ≠ 3) ∧ (lost = false)
        ∧ (s.dataOf x span typ k live = none))
    ∧ (∃ (n : Nat) (k : Nat) (span : Nat) (x : TxStream) (live : Option VideoSpan) (s : State) (v : VideoSpan), (span < 2 ^ 32)
        ∧ (List.find? (fun y => y.slot == n) s.tx = some x) ∧ (s.fabSends = true) ∧ (s.portUp (pathOf x span).fst = true)
        ∧ (sendsSpan x span = true) ∧ (x.kind ≤ 1) ∧ (s.pictureOf x span live = some v) ∧ (s.lineLength x.kind x.src (pathOf x span).snd ≠ 0)
        ∧ (cellBytes k (List.flatMap (fun l => (codeLine (pathOf x span).snd (depthBits v.depth) l.snd).bytes) v.lines) ≠ []))
    ∧ (∃ (n : Nat) (k : Nat) (span : Nat) (x : TxStream) (s : State), (span < 2 ^ 32) ∧ (List.find? (fun y => y.slot == n) s.tx = some x)
        ∧ (s.fabSends = true) ∧ (s.portUp (pathOf x span).fst = true) ∧ (sendsSpan x span = true) ∧ (x.kind = 2) ∧ (k < 48))
    ∧ (∃ (p : Nat) (crc : Bool) (c : Cell) (s : State), (s.running .fabric = true) ∧ (p < 11) ∧ (crc = false ∨ ¬c.typ ∈ [1, 2, 3, 4, 8]))
    ∧ (∃ (p : Nat) (crc : Bool) (c : Cell) (s : State) (w : WpStream), (s.running .fabric = true) ∧ (p < 11) ∧ (crc = true) ∧ (c.typ ∈ [1,
        2, 3, 4]) ∧ (c.dest ≠ s.position) ∧ (s.wpOf p c = some w) ∧ (s.fabSends = true) ∧ (s.portUp w.outPort = true))
    ∧ (∃ (p : Nat) (crc : Bool) (c : Cell) (s : State) (w : WpStream), (s.running .fabric = true) ∧ (p < 11) ∧ (crc = true) ∧ (c.typ ∈ [1,
        2, 3, 4]) ∧ (c.dest ≠ s.position) ∧ (s.wpOf p c = some w) ∧ (s.fabSends = false ∨ s.portUp w.outPort = false))
    ∧ (∃ (p : Nat) (crc : Bool) (late : Bool) (c : Cell) (s : State), (s.running .fabric = true) ∧ (p < 11) ∧ (crc = true) ∧ (c.typ ∈ [1, 2,
        4]) ∧ (c.dest = s.position) ∧ (s.takersOf p c = []) ∧ (late = true))
    ∧ (∃ (p : Nat) (crc : Bool) (c : Cell) (s : State) (r : RxStream), (s.running .fabric = true) ∧ (p < 11) ∧ (crc = true) ∧ (c.typ ∈ [1,
        4]) ∧ (c.dest = s.position) ∧ (s.takersOf p c = [r]) ∧ (c.payload ≠ [])
        ∧ (c.offset + c.payload.length ≤ s.lineLength r.kind r.src c.coding))
    ∧ (∃ (p : Nat) (crc : Bool) (late : Bool) (c : Cell) (s : State) (r : RxStream), (s.running .fabric = true) ∧ (p < 11) ∧ (crc = true)
        ∧ (late = false) ∧ (c.typ = 1) ∧ (c.coding = 3) ∧ (c.dest = s.position) ∧ (s.takersOf p c = [r]) ∧ (s.lineLength r.kind r.src 3 ≤ c.offset)
        ∧ ((c.offset - s.lineLength r.kind r.src 3) % 2 = 0) ∧ (alreadyRead r c.span c.line = true))
    ∧ (∃ (p : Nat) (crc : Bool) (late : Bool) (c : Cell) (s : State) (r : RxStream), (s.running .fabric = true) ∧ (p < 11) ∧ (crc = true)
        ∧ (late = false) ∧ (c.typ = 1) ∧ (c.coding = 3) ∧ (c.dest = s.position) ∧ (s.takersOf p c = [r]) ∧ (s.lineLength r.kind r.src 3 ≤ c.offset)
        ∧ ((c.offset - s.lineLength r.kind r.src 3) % 2 = 0) ∧ (alreadyRead r c.span c.line = false))
    ∧ (∃ (p : Nat) (c : Cell) (s : State) (w : WpStream), (s.running .fabric = true) ∧ (p < 11) ∧ (c.typ = 3) ∧ (c.dest ≠ s.position)
        ∧ (s.wpOf p c = some w) ∧ (s.fabSends = true) ∧ (s.portUp w.outPort = true))
    ∧ (∃ (p : Nat) (c : Cell) (s : State) (r : RxStream), (s.running .fabric = true) ∧ (p < 11) ∧ (c.typ = 3) ∧ (c.dest = s.position)
        ∧ (s.takersOf p c = [r]) ∧ (r.kind ≠ 2) ∧ (reportsFigures r c = false))
    ∧ (∃ (p : Nat) (c : Cell) (s : State) (r : RxStream), (s.running .fabric = true) ∧ (p < 11) ∧ (c.typ = 3) ∧ (c.dest = s.position)
        ∧ (s.takersOf p c = [r]) ∧ (r.kind = 2) ∧ (c.lost = true))
    ∧ (∃ (p : Nat) (c : Cell) (s : State) (r : RxStream), (s.running .fabric = true) ∧ (p < 11) ∧ (c.typ = 3) ∧ (c.dest = s.position)
        ∧ (s.takersOf p c = [r]) ∧ (reportsFigures r c = true) ∧ (s.get .DEC_NOW_SPAN r.slot = payloadField c.payload 16 4 % 2 ^ 16 + 1))
    ∧ (∃ (n : Nat) (span : Nat) (r : RxStream) (s : State) (x : RxStream), (List.find? (fun x => x.slot == n) s.rx = some r) ∧ (r.st ≠ 0)
        ∧ (s.spanLanded r (span % 2 ^ 16) = true) ∧ (x ∈ (result (execLandingSpanComplete n span s)).rx) ∧ (x.slot = n)
        ∧ (Option.any (fun x => x.lost) (markerFor r (span % 2 ^ 16)) = true))
    ∧ (∃ (n : Nat) (span : Nat) (r : RxStream) (s : State) (x : RxStream), (List.find? (fun x => x.slot == n) s.rx = some r) ∧ (r.st ≠ 0)
        ∧ (s.spanLanded r (span % 2 ^ 16) = true) ∧ (x ∈ (result (execLandingSpanComplete n span s)).rx) ∧ (x.slot = n)
        ∧ (Option.any (fun x => x.lost) (markerFor r (span % 2 ^ 16)) = false))
    ∧ (∃ (n : Nat) (span : Nat) (r : RxStream) (s : State), (List.find? (fun x => x.slot == n) s.rx = some r) ∧ (r.st ≠ 0)
        ∧ (s.spanLanded r (span % 2 ^ 16) = true) ∧ (r.kind ≠ 2))
    ∧ (∃ (n : Nat) (span : Nat) (r : RxStream) (s : State), (List.find? (fun x => x.slot == n) s.rx = some r) ∧ (r.st ≠ 0)
        ∧ (s.spanLanded r (span % 2 ^ 16) = true) ∧ (r.kind = 2) ∧ (Option.any (fun x => x.lost) (markerFor r (span % 2 ^ 16)) = true)) :=
  ⟨⟨1, { fmt := 49, depth := 0, gaps := [], lines := [(1, [5, 6, 7, 8]), (2, [5, 6, 7, 8])], anc := [] }, put [(.CHECK_ENABLED, 33, 1), (.GEN_ENUM_POS_VALID, 0, 1), (.GEN_ENUM_POSITION, 0, 2), (.GAZ_W1_FORMAT, 193, 49)], by decide +kernel⟩,
   ⟨1, { fmt := 49, depth := 0, gaps := [], lines := [(1, [5, 6, 7, 8]), (2, [5, 6, 7, 8])], anc := [] }, put [(.CHECK_ENABLED, 33, 1), (.GEN_ENUM_POS_VALID, 0, 1), (.GEN_ENUM_POSITION, 0, 2), (.GAZ_W1_FORMAT, 193, 49)], by decide +kernel⟩,
   ⟨1, { fmt := 49, depth := 0, gaps := [], lines := [(2, [7, 8, 9, 10])], anc := [] }, { put [(.CHECK_ENABLED, 33, 1), (.GEN_ENUM_POS_VALID, 0, 1), (.GEN_ENUM_POSITION, 0, 2), (.GAZ_W1_FORMAT, 193, 49)] with holes := [{ input := 1, line := 2, first := 1, count := 2 }] }, { input := 1, line := 2, first := 1, count := 2 }, [7, 8, 9, 10], 3, by decide +kernel⟩,
   ⟨1, { fmt := 51, depth := 1, gaps := [], lines := [], anc := [] }, put [(.CHECK_ENABLED, 33, 1), (.GEN_ENUM_POS_VALID, 0, 1)], by decide⟩,
   ⟨1, 1, 4, txSample3, { put [(.CHECK_ENABLED, 3, 1), (.FAB_PORT_STAT_UP, 2, 1)] with tx := [txSample3, txSample14] }, by decide⟩,
   ⟨1, 1, 49, txSample3, { put [(.CHECK_ENABLED, 3, 1), (.FAB_PORT_STAT_UP, 2, 1)] with tx := [txSample3, txSample14] }, 1, true, by decide⟩,
   ⟨1, 1, 0, 50, txSample3, some { fmt := 49, depth := 0, gaps := [], lines := [(1, [5, 6, 7, 8]), (2, [5, 6, 7, 8])], anc := [] }, { put [(.CHECK_ENABLED, 3, 1), (.GEN_ENUM_POSITION, 0, 2), (.IN_READ_PREV, 1, 1), (.FAB_PORT_STAT_UP, 2, 1)] with tx := [txSample3, txSample14] }, 1, false, { typ := 1, coding := 1, lost := false, last := true, sketch := false, source := 0, dest := 0, seq := 0, line := 1, offset := 0, span := 50, payload := [0x01#8, 0x40#8, 0x60#8, 0x1c#8, 0x08#8, 0x01#8, 0x40#8, 0x60#8, 0x1c#8, 0x08#8] }, by decide⟩,
   ⟨1, 1, 1, 50, txSample3, none, { put [(.CHECK_ENABLED, 3, 1), (.FAB_PORT_STAT_UP, 2, 1)] with tx := [txSample3, txSample14] }, 1, false, by decide⟩,
   ⟨1, 0, 4, txSample3, some { fmt := 49, depth := 0, gaps := [], lines := [(1, [5, 6, 7, 8]), (2, [5, 6, 7, 8])], anc := [] }, { put [(.CHECK_ENABLED, 3, 1), (.GEN_ENUM_POSITION, 0, 2), (.IN_READ_PREV, 1, 1), (.FAB_PORT_STAT_UP, 2, 1)] with tx := [txSample3, txSample14] }, { fmt := 49, depth := 0, gaps := [], lines := [(1, [5, 6, 7, 8]), (2, [5, 6, 7, 8])], anc := [] }, by decide⟩,
   ⟨1, 1, 4, txSample25, { put [(.CHECK_ENABLED, 3, 1), (.FAB_PORT_STAT_UP, 5, 1)] with tx := [txSample25, txSample14] }, by decide⟩,
   ⟨1, true, { typ := 7, coding := 0, lost := false, last := false, sketch := false, source := 0, dest := 2, seq := 3, line := 0, offset := 0, span := 50, payload := [0x01#8, 0x02#8, 0x03#8] }, put [(.CHECK_ENABLED, 3, 1)], by decide⟩,
   ⟨1, true, { typ := 1, coding := 1, lost := false, last := false, sketch := false, source := 20, dest := 9, seq := 3, line := 2, offset := 0, span := 50, payload := ((List.range 240).map (fun k => BitVec.ofNat 8 (k + 1))) }, { put [(.CHECK_ENABLED, 3, 1), (.FAB_PORT_STAT_UP, 6, 1)] with wp := [wpSample18, wpSample24] }, wpSample18, by decide⟩,
   ⟨1, true, { typ := 1, coding := 1, lost := false, last := false, sketch := false, source := 21, dest := 9, seq := 3, line := 2, offset := 0, span := 50, payload := ((List.range 240).map (fun k => BitVec.ofNat 8 (k + 1))) }, { put [(.CHECK_ENABLED, 3, 1)] with wp := [wpSample18, wpSample24] }, wpSample24, by decide⟩,
   ⟨1, true, true, { typ := 1, coding := 1, lost := false, last := false, sketch := false, source := 20, dest := 2, seq := 3, line := 2, offset := 0, span := 50, payload := ((List.range 240).map (fun k => BitVec.ofNat 8 (k + 1))) }, put [(.CHECK_ENABLED, 3, 1), (.GEN_ENUM_POSITION, 0, 2)], by decide⟩,
   ⟨1, true, { typ := 1, coding := 1, lost := false, last := false, sketch := false, source := 20, dest := 2, seq := 3, line := 2, offset := 0, span := 50, payload := ((List.range 240).map (fun k => BitVec.ofNat 8 (k + 1))) }, { put [(.CHECK_ENABLED, 3, 1), (.GEN_ENUM_POSITION, 0, 2)] with rx := [rxSample8, rxSample1] }, rxSample8, by decide +kernel⟩,
   ⟨1, true, false, { typ := 1, coding := 3, lost := false, last := false, sketch := false, source := 20, dest := 2, seq := 3, line := 300, offset := 5000, span := 50, payload := [0x01#8, 0x02#8, 0x03#8, 0x04#8, 0x05#8] }, { put [(.CHECK_ENABLED, 3, 1), (.GEN_ENUM_POSITION, 0, 2)] with rx := [rxSample4, rxSample1] }, rxSample4, by decide⟩,
   ⟨1, true, false, { typ := 1, coding := 3, lost := false, last := false, sketch := false, source := 20, dest := 2, seq := 3, line := 300, offset := 5000, span := 50, payload := [0x01#8, 0x02#8, 0x03#8, 0x04#8, 0x05#8] }, { put [(.CHECK_ENABLED, 3, 1), (.GEN_ENUM_POSITION, 0, 2)] with rx := [rxSample7, rxSample1] }, rxSample7, by decide⟩,
   ⟨1, { typ := 3, coding := 1, lost := false, last := false, sketch := false, source := 20, dest := 9, seq := 3, line := 0, offset := 0, span := 50, payload := ((List.range 28).map (fun k => BitVec.ofNat 8 (k + 1))) }, { put [(.CHECK_ENABLED, 3, 1), (.FAB_PORT_STAT_UP, 6, 1)] with wp := [wpSample18, wpSample24] }, wpSample18, by decide⟩,
   ⟨1, { typ := 3, coding := 1, lost := false, last := false, sketch := false, source := 20, dest := 2, seq := 3, line := 0, offset := 0, span := 50, payload := ((List.range 28).map (fun k => BitVec.ofNat 8 (k + 1))) }, { put [(.CHECK_ENABLED, 3, 1), (.GEN_ENUM_POSITION, 0, 2)] with rx := [rxSample8, rxSample1] }, rxSample8, by decide⟩,
   ⟨2, { typ := 3, coding := 1, lost := true, last := false, sketch := false, source := 9, dest := 2, seq := 3, line := 0, offset := 0, span := 50, payload := (List.replicate 28 0) }, { put [(.CHECK_ENABLED, 3, 1), (.GEN_ENUM_POSITION, 0, 2)] with rx := [rxSample2, rxSample1] }, rxSample2, by decide⟩,
   ⟨1, { typ := 3, coding := 3, lost := false, last := false, sketch := false, source := 20, dest := 2, seq := 3, line := 0, offset := 0, span := 50, payload := [0x31#8, 0x00#8, 0x00#8, 0x00#8, 0x32#8, 0x00#8, 0x00#8, 0x00#8, 0x01#8, 0x00#8, 0x02#8, 0x00#8, 0x00#8, 0x00#8, 0x00#8, 0x00#8, 0x31#8, 0x00#8, 0x00#8, 0x00#8, 0x09#8, 0x00#8, 0x00#8, 0x00#8, 0x07#8, 0x00#8, 0x00#8, 0x00#8] }, { put [(.CHECK_ENABLED, 3, 1), (.GEN_ENUM_POSITION, 0, 2), (.DEC_NOW_SPAN, 4, 50)] with rx := [rxSample7, rxSample1] }, rxSample7, by decide⟩,
   ⟨4, 50, rxSample2, { State.reset with rx := [rxSample2, rxSample1] }, { slot := 4, rxg := 3, kind := 2, src := 9, home := 5, coding := 1, waypoint := 15, st := 1, reason := 0, spans := 4, good := 0, missing := 0, migrations := 0, reqNo := 5, maxCoding := 3, fs := 0, sent := true, first := 2, relLast := none, relSent := false, rejoin := false, again := false, next := [], dropLast := none, store := none, extra := 0, pieces := [], markers := [{ span := 50, lost := true, coding := 1, fmt := 49, depthScale := 0, generation := 1, frame := 50, lines := 1, lc := 1 }], lastSpan := some 50, held := none, read := none }, by decide⟩,
   ⟨4, 50, rxSample16, { State.reset with rx := [rxSample16, rxSample1] }, { slot := 4, rxg := 3, kind := 2, src := 9, home := 5, coding := 1, waypoint := 15, st := 1, reason := 0, spans := 4, good := 4, missing := 0, migrations := 0, reqNo := 5, maxCoding := 3, fs := 0, sent := true, first := 2, relLast := none, relSent := false, rejoin := false, again := false, next := [], dropLast := none, store := none, extra := 0, pieces := [{ span := 50, typ := 4, line := 0, offset := 0, bytes := (List.replicate 256 5) }], markers := [{ span := 50, lost := false, coding := 1, fmt := 0, depthScale := 0, generation := 1, frame := 50, lines := 1, lc := 1 }], lastSpan := some 50, held := some 50, read := none }, by decide +kernel⟩,
   ⟨4, 50, rxSample4, { State.reset with rx := [rxSample4, rxSample1] }, by decide⟩,
   ⟨4, 50, rxSample2, { State.reset with rx := [rxSample2, rxSample1] }, by decide⟩⟩

/-- Hypotheses of PeersAreHeardLostAndReturn. -/
theorem witness_PeersAreHeardLostAndReturn :
    (∃ (s : State) (p : Nat), (s.fabSends = true) ∧ (s.positioned = true) ∧ (p < 11))
    ∧ (∃ (s : State), s.fabSends = true)
    ∧ (∃ (p : Nat) (pos : Nat) (plane : Nat) (twin : Nat) (cls : Nat) (s : State), (s.running .fabric = true) ∧ (s.positioned = true)
        ∧ (p < 11) ∧ (s.fitted p = true) ∧ (0 < s.lanesUp p) ∧ (pos = s.peerPos p ∧ plane = s.get .GEN_ENUM_PLANE ∧ twin = s.get .GEN_ENUM_TWIN
        ∧ cls = s.variant.tokenClass))
    ∧ (∃ (p : Nat) (pos : Nat) (plane : Nat) (twin : Nat) (cls : Nat) (s : State), (s.running .fabric = true) ∧ (s.positioned = true)
        ∧ (p < 11) ∧ (s.fitted p = true) ∧ (0 < s.lanesUp p) ∧ (¬(pos = s.peerPos p ∧ plane = s.get .GEN_ENUM_PLANE ∧ twin = s.get .GEN_ENUM_TWIN
        ∧ cls = s.variant.tokenClass)) ∧ (s.flag .FAB_PORT_STAT_WIRING p = false))
    ∧ (∃ (p : Nat) (loads : List (Nat × Nat)) (s : State) (q : Nat), (s.running .fabric = true) ∧ (p < 11) ∧ (loads.length = 11)
        ∧ (s.position < 12) ∧ (s.homeLost (s.peerPos p) = false) ∧ (q < 11))
    ∧ (∃ (p : Nat) (loads : List (Nat × Nat)) (s : State), (s.running .fabric = true) ∧ (p < 11) ∧ (loads.length = 11) ∧ (s.position < 12)
        ∧ (s.homeLost (s.peerPos p) = true))
    ∧ (∃ (p : Nat) (s : State) (r : RxStream), (s.running .fabric = true) ∧ (p < 11) ∧ (s.fitted p = true)
        ∧ (s.flag .FAB_PORT_STAT_LOST p = false) ∧ (s.admits = []) ∧ (∀ (x : TxStream), x ∈ s.tx → x.waypoint ≠ s.peerPos p)
        ∧ (r ∈ (result (execPeerLost p s)).rx) ∧ (r.home = s.peerPos p))
    ∧ (∃ (p : Nat) (s : State) (d : Nat), (s.running .fabric = true) ∧ (p < 11) ∧ (s.portUp p = true)
        ∧ (s.flag .FAB_PORT_STAT_LOST p = true) ∧ (d < 12))
    ∧ (∃ (p : Nat) (s : State) (r : RxStream), (s.running .fabric = true) ∧ (p < 11) ∧ (s.portUp p = true)
        ∧ (s.flag .FAB_PORT_STAT_LOST p = true) ∧ (s.rx = [r]) ∧ (r.home = s.peerPos p) ∧ (r.st = 4) ∧ (s.canRequest = true)
        ∧ (s.stillWanted r = true) ∧ (s.portOf (s.peerPos p) = p))
    ∧ (∃ (p : Nat) (s : State), (s.running .fabric = true) ∧ (p < 11) ∧ (s.flag .FAB_NOTICE_DUE p = true))
    ∧ (∃ (m : Master) (p : Nat) (v : Nat) (s : State), (p < 11) ∧ (Passes m (2101248 + 64 * p) s) ∧ (v ≤ portLimitMax s.variant)
        ∧ (s.fitted p = true) ∧ (s.get .FAB_PORT_CEILING p ≠ Min.min v (s.lanesUp p * 26846590)))
    ∧ (∃ (m : Master) (p : Nat) (v : Nat) (s : State), (p < 11) ∧ (Passes m (2101248 + 64 * p) s) ∧ (v ≤ portLimitMax s.variant)
        ∧ (s.fitted p = false))
    ∧ (∃ (m : Master) (p : Nat) (v : Nat) (s : State), (p < 11) ∧ (Passes m (2101248 + 64 * p) s) ∧ (portLimitMax s.variant < v)) :=
  ⟨⟨put [(.CHECK_ENABLED, 3, 1), (.GEN_ENUM_POS_VALID, 0, 1)], 10, by decide⟩,
   ⟨put [(.CHECK_ENABLED, 3, 1)], by decide⟩,
   ⟨2, 5, 1, 1, 1, { put [(.CHECK_ENABLED, 3, 1), (.CHECK_ENABLED, 3589, 1), (.GEN_ENUM_POS_VALID, 0, 1), (.GEN_ENUM_TWIN, 0, 1), (.GEN_ENUM_PLANE, 0, 1), (.GEN_ENUM_POSITION, 0, 2), (.LAN_STAT_LOCK, 112, 1)] with variant := Variant.cx576 }, by decide⟩,
   ⟨2, 2, 2, 2, 2, put [(.CHECK_ENABLED, 3, 1), (.CHECK_ENABLED, 3589, 1), (.GEN_ENUM_POS_VALID, 0, 1), (.LAN_STAT_LOCK, 112, 1)], by decide⟩,
   ⟨2, [(0, 0), (7, 100), (14, 200), (21, 300), (28, 400), (35, 500), (42, 600), (49, 700), (56, 800), (63, 900), (70,
       1000)], put [(.CHECK_ENABLED, 3, 1), (.GEN_ENUM_POSITION, 0, 2)], 10, by decide⟩,
   ⟨2, [(0, 0), (7, 100), (14, 200), (21, 300), (28, 400), (35, 500), (42, 600), (49, 700), (56, 800), (63, 900), (70,
       1000)], put [(.CHECK_ENABLED, 3, 1), (.GEN_ENUM_POSITION, 0, 2), (.FAB_PORT_STAT_LOST, 2, 1)], by decide⟩,
   ⟨2, { put [(.CHECK_ENABLED, 3, 1), (.GEN_ENUM_POSITION, 0, 2)] with rx := [{ slot := 4, rxg := 3, kind := 0, src := 484, home := 5, coding := 1, waypoint := 15, st := 1, reason := 0, spans := 3, good := 3, missing := 0, migrations := 0, reqNo := 5, maxCoding := 3, fs := 0, sent := true, first := 2, relLast := none, relSent := false, rejoin := false, again := false, next := [], dropLast := none, store := none, extra := 0, pieces := [], markers := [], lastSpan := some 49, held := none, read := none }, { slot := 5, rxg := 3, kind := 0, src := 488, home := 5, coding := 1, waypoint := 15, st := 0, reason := 0, spans := 3, good := 3, missing := 0, migrations := 0, reqNo := 5, maxCoding := 3, fs := 0, sent := true, first := 2, relLast := none, relSent := false, rejoin := false, again := false, next := [], dropLast := none, store := none, extra := 0, pieces := [], markers := [], lastSpan := some 49, held := none, read := none }, { slot := 6, rxg := 3, kind := 2, src := 3, home := 5, coding := 1, waypoint := 15, st := 1, reason := 0, spans := 3, good := 3, missing := 0, migrations := 0, reqNo := 5, maxCoding := 3, fs := 0, sent := true, first := 2, relLast := none, relSent := false, rejoin := false, again := false, next := [], dropLast := none, store := none, extra := 0, pieces := [], markers := [], lastSpan := some 49, held := none, read := none }, { slot := 7, rxg := 3, kind := 0, src := 3, home := 0, coding := 1, waypoint := 15, st := 1, reason := 0, spans := 3, good := 3, missing := 0, migrations := 0, reqNo := 5, maxCoding := 3, fs := 0, sent := true, first := 2, relLast := none, relSent := false, rejoin := false, again := false, next := [], dropLast := none, store := none, extra := 0, pieces := [], markers := [], lastSpan := some 49, held := none, read := none }] }, { slot := 4, rxg := 3, kind := 0, src := 484, home := 5, coding := 1, waypoint := 15, st := 4, reason := 50, spans := 0, good := 0, missing := 0, migrations := 0, reqNo := 5, maxCoding := 3, fs := 0, sent := true, first := 2, relLast := none, relSent := false, rejoin := false, again := false, next := [], dropLast := none, store := none, extra := 0, pieces := [], markers := [], lastSpan := some 49, held := none, read := none }, by decide +kernel⟩,
   ⟨2, put [(.CHECK_ENABLED, 3, 1), (.FAB_PORT_STAT_UP, 2, 1), (.FAB_PORT_STAT_LOST, 2, 1)], 11, by decide⟩,
   ⟨2, { put [(.CHECK_ENABLED, 3, 1), (.GEN_ENUM_POS_VALID, 0, 1), (.GEN_ENUM_POSITION, 0, 2), (.ATL_LIVE_SOURCE, 3, 484), (.DEST_LIVE_RX, 3, 5), (.FAB_PORT_STAT_UP, 2, 1), (.FAB_PORT_STAT_LOST, 2, 1)] with rx := [rxSample19] }, rxSample19, by decide⟩,
   ⟨2, put [(.CHECK_ENABLED, 3, 1), (.FAB_NOTICE_DUE, 2, 1)], by decide⟩,
   ⟨Master.st 1, 2, 2, put [(.FAB_PORT_CEILING, 2, 200000000)], by decide⟩,
   ⟨Master.st 1, 2, 2, put [(.GEN_ENUM_POSITION, 0, 2), (.FAB_POS_MASK_POSITIONS, 0, 4063)], by decide⟩,
   ⟨Master.st 1, 2, 268435456, State.reset, by decide⟩⟩

/-- Hypotheses of StreamsAreAdmittedMovedAndEnded. -/
theorem witness_StreamsAreRequestedAndAdmitted :
    (∃ (n : Nat) (r : RxStream) (s : State), (List.find? (fun x => x.slot == n) s.rx = some r) ∧ (r.asking = true) ∧ (r.sent = false)
        ∧ (∀ (x : RxStream), x ∈ s.rx → x.slot ≠ n → x.src = r.src → x.sent = false) ∧ (s.fabSends = true) ∧ (s.portUp (s.portOf r.home) = true))
    ∧ (∃ (n : Nat) (r : RxStream) (s : State), (List.find? (fun x => x.slot == n) s.rx = some r) ∧ (r.st = 1) ∧ (r.rejoin = false)
        ∧ (s.needed r = false) ∧ (s.fabSends = true) ∧ (s.portUp (s.portOf r.home) = true))
    ∧ (∃ (n : Nat) (r : RxStream) (s : State), (List.find? (fun x => x.slot == n) s.rx = some r) ∧ (r.st = 1) ∧ (r.rejoin = false)
        ∧ (s.needed r = false) ∧ (s.portUp (s.portOf r.home) = false))
    ∧ (∃ (n : Nat) (r : RxStream) (s : State), (List.find? (fun x => x.slot == n) s.rx = some r) ∧ (r.st = 4) ∧ (s.needed r = false))
    ∧ (∃ (n : Nat) (r : RxStream) (s : State), (List.find? (fun x => x.slot == n) s.rx = some r) ∧ (s.needed r = true))
    ∧ (∃ (n : Nat) (r : RxStream) (s : State) (x : RxStream), (List.find? (fun x => x.slot == n) s.rx = some r) ∧ (r.st = 4)
        ∧ (r.again = true) ∧ (s.canRequest = true) ∧ (s.stillWanted r = true) ∧ (s.homeLost r.home = false) ∧ (∀ (x : RxStream), x ∈ s.rx →
        x.src = r.src → x.slot = n ∧ x.st = 4) ∧ (x ∈ (result (execStreamRerequest n s)).rx) ∧ (x.slot = n))
    ∧ (∃ (reqNo : Nat) (coding : Nat) (waypoint : Nat) (first : Nat) (r : RxStream) (s : State) (x : RxStream),
        (List.find? (fun x => x.reqNo == reqNo && x.asking && x.sent) s.rx = some r) ∧ (∀ (w : SubWait), w ∈ s.subWait → w.src ≠ r.src)
        ∧ (r.st = 0) ∧ (∀ (x : RxStream), x ∈ s.rx → x.slot ≠ r.slot → x.src ≠ r.src) ∧ (s.running .mzc = true ∨ coding ≤ 1)
        ∧ (x ∈ (result (execSubGrant reqNo coding waypoint first s)).rx) ∧ (x.slot = r.slot))
    ∧ (∃ (reqNo : Nat) (coding : Nat) (r : RxStream) (s : State) (d : Nat),
        (List.find? (fun x => x.reqNo == reqNo && x.asking && x.sent) s.rx = some r) ∧ (∀ (w : SubWait), w ∈ s.subWait → w.src ≠ r.src)
        ∧ (r.st = 0) ∧ (∀ (x : RxStream), x ∈ s.rx → x.slot ≠ r.slot → x.src ≠ r.src) ∧ (s.running .mzc = true ∨ coding ≤ 1) ∧ (r.kind = 0)
        ∧ (d < 96) ∧ (r.is (s.draftRx d) = true))
    ∧ (∃ (reqNo : Nat) (coding : Nat) (r : RxStream) (s : State),
        (List.find? (fun x => x.reqNo == reqNo && x.asking && x.sent) s.rx = some r) ∧ (∀ (w : SubWait), w ∈ s.subWait → w.src ≠ r.src)
        ∧ (r.st ≠ 0) ∧ (r.next = []) ∧ (s.running .mzc = true ∨ coding ≤ 1))
    ∧ (∃ (reqNo : Nat) (r : RxStream) (s : State) (d : Nat), (List.find? (fun x => x.reqNo == reqNo && x.asking && x.sent) s.rx = some r)
        ∧ (∀ (w : SubWait), w ∈ s.subWait → w.src ≠ r.src) ∧ (r.kind = 0) ∧ (r.st ≠ 1) ∧ (r.again = false) ∧ (s.fedBy r = []) ∧ (d < 96))
    ∧ (∃ (reqNo : Nat) (r : RxStream) (s : State), (List.find? (fun x => x.reqNo == reqNo && x.asking && x.sent) s.rx = some r)
        ∧ (∀ (w : SubWait), w ∈ s.subWait → w.src ≠ r.src) ∧ (r.st = 1))
    ∧ (∃ (n : Nat) (r : RxStream) (s : State) (d : Nat), (List.find? (fun x => x.slot == n && x.asking) s.rx = some r)
        ∧ (∀ (w : SubWait), w ∈ s.subWait → w.src ≠ r.src) ∧ (r.kind = 0) ∧ (r.st ≠ 1) ∧ (r.again = false) ∧ (s.fedBy r = []) ∧ (d < 96))
    ∧ (∃ (p : Nat) (s : State), (p < 11) ∧ (s.positioned = true) ∧ (s.running .fabric = false) ∧ (s.inQuiet = false) ∧ (s.inSafe = false))
    ∧ (∃ (p : Nat) (kind : Nat) (hi : Nat) (src : Nat) (s : State) (d : Nat) (q : Nat) (x : TxStream), (p < 11) ∧ (s.positioned = true)
        ∧ (s.fabSends = true) ∧ (d = s.peerPos p) ∧ (q = s.portOf d) ∧ (s.portUp q = true)
        ∧ (s.heldStream kind src d (if kind = 0 then hi else 1) = some x))
    ∧ (∃ (p : Nat) (kind : Nat) (src : Nat) (fs : Nat) (s : State) (d : Nat) (q : Nat), (p < 11) ∧ (s.positioned = true)
        ∧ (s.fabSends = true) ∧ (d = s.peerPos p) ∧ (q = s.portOf d) ∧ (s.portUp q = true) ∧ (∀ (x : TxStream), x ∈ s.tx → x.dest = d →
        x.src ≠ src) ∧ (s.requestRefusal kind src fs ≠ 0))
    ∧ (∃ (p : Nat) (kind : Nat) (hi : Nat) (src : Nat) (fs : Nat) (s : State) (d : Nat) (q : Nat) (n : Nat), (p < 11)
        ∧ (s.positioned = true) ∧ (s.fabSends = true) ∧ (d = s.peerPos p) ∧ (q = s.portOf d) ∧ (s.portUp q = true) ∧ (∀ (x : TxStream), x ∈ s.tx →
        x.dest = d → x.src ≠ src) ∧ (s.requestRefusal kind src fs = 0) ∧ (1 ≤ hi) ∧ (s.tx.length < 4095)
        ∧ (freeSlot 4096 (List.map (fun x => x.slot) s.tx) = some n) ∧ (s.fits q (s.costOf kind src 1 fs) = true))
    ∧ (∃ (p : Nat) (kind : Nat) (src : Nat) (fs : Nat) (s : State) (d : Nat) (q : Nat), (p < 11) ∧ (s.positioned = true)
        ∧ (s.fabSends = true) ∧ (d = s.peerPos p) ∧ (q = s.portOf d) ∧ (s.portUp q = true) ∧ (∀ (x : TxStream), x ∈ s.tx → x.dest = d →
        x.src ≠ src) ∧ (s.requestRefusal kind src fs = 0) ∧ (s.tx.length < 4096) ∧ (∀ (k : Nat), k < 12 → ∀ (c : Nat), c ≤ 3 →
        s.fits k (s.costOf kind src c fs) = false))
    ∧ (∃ (p : Nat) (cost : Nat) (key : StreamKey) (s : State) (out : Nat) (n : Nat), (p < 11) ∧ (s.fabSends = true) ∧ (s.portUp p = true)
        ∧ (out = s.portOf key.receiver) ∧ (freeSlot 1024 (List.map (fun x => x.slot) s.wp) = some n) ∧ (s.get .FAB_PORT_STAT_WIRING out = 0)
        ∧ (s.wp.length < 1023) ∧ (s.fits out cost = true))
    ∧ (∃ (p : Nat) (cost : Nat) (key : StreamKey) (s : State) (out : Nat) (n : Nat), (p < 11) ∧ (s.fabSends = true) ∧ (s.portUp p = true)
        ∧ (out = s.portOf key.receiver) ∧ (freeSlot 1024 (List.map (fun x => x.slot) s.wp) = some n) ∧ (s.fits out cost = false))
    ∧ (∃ (p : Nat) (reqNo : Nat) (code : Nat) (a : Admit) (s : State) (n : Nat),
        (List.find? (fun x => x.reqNo == reqNo && x.waypoint == s.peerPos p) s.admits = some a) ∧ (a.moves = none) ∧ (s.fabSends = true)
        ∧ (s.portUp (s.portOf a.dest) = true) ∧ (s.homeLost (s.peerPos p) = false) ∧ (code = 0) ∧ (s.mayTake a a.coding = true)
        ∧ (freeSlot 4096 (List.map (fun x => x.slot) s.tx) = some n) ∧ (s.tx.length < 4095))
    ∧ (∃ (p : Nat) (reqNo : Nat) (code : Nat) (a : Admit) (s : State),
        (List.find? (fun x => x.reqNo == reqNo && x.waypoint == s.peerPos p) s.admits = some a) ∧ (a.moves = none) ∧ (s.fabSends = true)
        ∧ (s.portUp (s.portOf a.dest) = true) ∧ (s.homeLost (s.peerPos p) = false) ∧ (code ≠ 0) ∧ (a.tries ≤ 1) ∧ (a.rungs = [])) :=
  ⟨⟨1, rxSample9, { put [(.CHECK_ENABLED, 3, 1), (.GEN_ENUM_POSITION, 0, 0), (.FAB_PORT_STAT_UP, 4, 1)] with rx := [rxSample9] }, by decide⟩,
   ⟨1, rxSample10, { put [(.CHECK_ENABLED, 3, 1), (.GEN_ENUM_POSITION, 0, 0), (.FAB_PORT_STAT_UP, 4, 1)] with rx := [rxSample10] }, by decide⟩,
   ⟨1, rxSample10, { State.reset with rx := [rxSample10] }, by decide⟩,
   ⟨1, rxSample5, { State.reset with rx := [rxSample5] }, by decide⟩,
   ⟨1, rxSample5, { put [(.ATL_LIVE_SOURCE, 3, 484), (.DEST_LIVE_RX, 3, 2)] with rx := [rxSample5] }, by decide⟩,
   ⟨1, rxSample5, { put [(.CHECK_ENABLED, 3, 1), (.GEN_ENUM_POS_VALID, 0, 1), (.ATL_LIVE_SOURCE, 3, 484), (.DEST_LIVE_RX, 3, 2)] with rx := [rxSample5] }, { slot := 1, rxg := 3, kind := 0, src := 484, home := 5, coding := 0, waypoint := 15, st := 0, reason := 57, spans := 0, good := 0, missing := 0, migrations := 0, reqNo := 0, maxCoding := 1, fs := 0, sent := false, first := 3, relLast := none, relSent := false, rejoin := false, again := true, next := [], dropLast := none, store := none, extra := 0, pieces := [], markers := [], lastSpan := some 49, held := none, read := none }, by decide⟩,
   ⟨1, 0, 0, 0, rxSample6, { State.reset with rx := [rxSample6] }, { slot := 1, rxg := 3, kind := 0, src := 484, home := 5, coding := 0, waypoint := 0, st := 1, reason := 0, spans := 3, good := 3, missing := 0, migrations := 0, reqNo := 1, maxCoding := 3, fs := 0, sent := true, first := 0, relLast := none, relSent := false, rejoin := false, again := false, next := [], dropLast := none, store := none, extra := 0, pieces := [], markers := [], lastSpan := some 49, held := none, read := none }, by decide⟩,
   ⟨1, 0, rxSample6, { put [(.ATL_DRAFT_SOURCE, 4, 484), (.DEST_DRAFT_RX, 4, 2)] with rx := [rxSample6] }, 4, by decide⟩,
   ⟨1, 0, rxSample20, { State.reset with rx := [rxSample20] }, by decide⟩,
   ⟨1, rxSample6, { State.reset with rx := [rxSample6] }, 95, by decide⟩,
   ⟨1, rxSample21, { State.reset with rx := [rxSample21] }, by decide⟩,
   ⟨1, rxSample9, { State.reset with rx := [rxSample9] }, 95, by decide⟩,
   ⟨0, put [(.GEN_ENUM_POS_VALID, 0, 1)], by decide⟩,
   ⟨1, 0, 1, 1, { put [(.CHECK_ENABLED, 3, 1), (.GEN_ENUM_POS_VALID, 0, 1), (.GEN_ENUM_POSITION, 0, 0), (.FAB_PORT_STAT_UP, 1, 1)] with tx := [txSample17] }, 2, 1, txSample17, by decide⟩,
   ⟨0, 0, 1, 0, put [(.CHECK_ENABLED, 3, 1), (.GEN_ENUM_POS_VALID, 0, 1), (.GEN_ENUM_POSITION, 0, 0), (.FAB_PORT_STAT_UP, 0, 1)], 1, 0, by decide⟩,
   ⟨0, 0, 1, 0, 0, { put [(.CHECK_ENABLED, 3, 1), (.GEN_ENUM_POS_VALID, 0, 1), (.GEN_ENUM_POSITION, 0, 0), (.GAZ_W0_VALID, 0, 1), (.FAB_PORT_STAT_UP, 0, 1), (.FAB_PORT_CEILING, 0, 200000000)] with tx := [txSample17] }, 1, 0, 1, by decide +kernel⟩,
   ⟨0, 0, 0, 0, put [(.CHECK_ENABLED, 3, 1), (.GEN_ENUM_POS_VALID, 0, 1), (.GEN_ENUM_POSITION, 0, 0), (.GAZ_W0_VALID, 0, 1),
       (.FAB_PORT_STAT_UP, 0, 1)], 1, 0, by decide⟩,
   ⟨0, 0, { source := 20, kind := 0, coding := 1, receiver := 9, home := 1 }, put [(.CHECK_ENABLED, 3, 1), (.GEN_ENUM_POSITION, 0, 0), (.FAB_PORT_STAT_UP, 0, 1), (.FAB_PORT_STAT_UP, 8, 1)], 8, 0, by decide +kernel⟩,
   ⟨0, 0, { source := 20, kind := 0, coding := 1, receiver := 9, home := 1 }, put [(.CHECK_ENABLED, 3, 1), (.GEN_ENUM_POSITION, 0, 0), (.FAB_PORT_STAT_UP, 0, 1)], 8, 0, by decide +kernel⟩,
   ⟨1, 1, 0, { reqNo := 1, dest := 5, kind := 0, src := 1, fs := 0, maxCoding := 3, lo := 1, hi := 3, rungs := [], cands := [], tries := 1, waypoint := 2, coding := 1, cost := 1000, port := 6, moves := none, dropReason := 0 }, { put [(.CHECK_ENABLED, 3, 1), (.GEN_ENUM_POSITION, 0, 0), (.FAB_PORT_STAT_UP, 4, 1)] with tx := [txSample17], admits := [{ reqNo := 1, dest := 5, kind := 0, src := 1, fs := 0, maxCoding := 3, lo := 1, hi := 3, rungs := [], cands := [], tries := 1, waypoint := 2, coding := 1, cost := 1000, port := 6, moves := none, dropReason := 0 }, { reqNo := 6, dest := 5, kind := 0, src := 1, fs := 0, maxCoding := 3, lo := 1, hi := 3, rungs := [], cands := [], tries := 1, waypoint := 2, coding := 1, cost := 1000, port := 6, moves := none, dropReason := 0 }] }, 1, by decide +kernel⟩,
   ⟨1, 1, 1, { reqNo := 1, dest := 5, kind := 0, src := 1, fs := 0, maxCoding := 3, lo := 1, hi := 3, rungs := [], cands := [], tries := 1, waypoint := 2, coding := 1, cost := 1000, port := 6, moves := none, dropReason := 0 }, { put [(.CHECK_ENABLED, 3, 1), (.GEN_ENUM_POSITION, 0, 0), (.FAB_PORT_STAT_UP, 4, 1)] with admits := [{ reqNo := 1, dest := 5, kind := 0, src := 1, fs := 0, maxCoding := 3, lo := 1, hi := 3, rungs := [], cands := [], tries := 1, waypoint := 2, coding := 1, cost := 1000, port := 6, moves := none, dropReason := 0 }, { reqNo := 6, dest := 5, kind := 0, src := 1, fs := 0, maxCoding := 3, lo := 1, hi := 3, rungs := [], cands := [], tries := 1, waypoint := 2, coding := 1, cost := 1000, port := 6, moves := none, dropReason := 0 }] }, by decide⟩⟩

/-- Hypotheses of StreamsAreAdmittedMovedAndEnded. -/
theorem witness_StreamsMoveAndEnd :
    (∃ (key : StreamKey) (s : State), key.home = s.position)
    ∧ (∃ (key : StreamKey) (s : State), key.home ≠ s.position)
    ∧ (∃ (key : StreamKey) (coding : Nat) (s : State), (key.receiver = s.position) ∧ (key.kind ≠ 0 ∨ coding ≤ 1 ∨ s.running .mzc = true))
    ∧ (∃ (key : StreamKey) (coding : Nat) (waypoint : Nat) (s : State), (key.receiver ≠ s.position) ∧ (waypoint ≠ s.position ∨ coding ≠ key.coding))
    ∧ (∃ (key : StreamKey) (code : Nat) (s : State) (r : RxStream), (key.receiver = s.position) ∧ (key.kind = 0)
        ∧ (List.find? (fun r => rxMatches key r && r.runs) s.rx = some r) ∧ (code = 67))
    ∧ (∃ (key : StreamKey) (code : Nat) (s : State) (r : RxStream), (key.receiver = s.position) ∧ (key.kind = 0)
        ∧ (List.find? (fun r => rxMatches key r && r.runs) s.rx = some r) ∧ (code ≠ 67))
    ∧ (∃ (key : StreamKey) (x : TxStream) (s : State), (s.tx = [x]) ∧ (x.src = key.source) ∧ (x.kind = key.kind) ∧ (x.coding = key.coding) ∧ (x.dest = key.receiver) ∧ (x.last = none) ∧ (s.admits = []) ∧ (∀ (k : Nat), k < 12 → ∀ (c : Nat), c ≤ 3 → ({ s with tx := [{ slot := x.slot, kind := x.kind, src := x.src, dest := x.dest, coding := x.coding, port := x.port, waypoint := x.waypoint, cost := x.cost, start := x.start, order := x.order, fs := x.fs, maxCoding := x.maxCoding, seq := x.seq, last := x.last, released := x.released, shedding := true, reason := x.reason, old := x.old, marks := x.marks }] } : State).fits k (s.costOf x.kind x.src c x.fs) = false))
    ∧ (∃ (p : Nat) (s : State), s.portLoad p - s.shedLoad p ≤ s.get .FAB_PORT_CEILING p)
    ∧ (∃ (p : Nat) (s : State) (w : WpStream), (s.tx = []) ∧ (s.wp = [w]) ∧ (w.outPort = p) ∧ (w.shedding = false) ∧ (w.last = none)
        ∧ (s.get .FAB_PORT_CEILING p < s.portLoad p) ∧ (s.fabSends = true) ∧ (s.portUp (s.portOf w.home) = true))
    ∧ (∃ (x : TxStream) (s : State), (s.running .fabric = true) ∧ (s.tx = [x]) ∧ (s.admits = []) ∧ (s.flag .FAB_CTRL_REVERT = false))
    ∧ (∃ (x : TxStream) (s : State), (s.running .fabric = true) ∧ (s.tx = [x]) ∧ (s.admits = []) ∧ (x.coding ≤ 1))
    ∧ (∃ (x : TxStream) (s : State), (s.running .fabric = true) ∧ (s.tx = [x]) ∧ (s.admits = []) ∧ (s.flag .FAB_CTRL_REVERT = true)
        ∧ (2 ≤ x.coding) ∧ (x.kind = 0) ∧ (x.last = none) ∧ (x.old = []) ∧ (x.waypoint = 15)
        ∧ (s.fits (s.portOf x.dest) (s.costOf 0 x.src 1 x.fs) = true)) :=
  ⟨⟨{ source := 193, kind := 0, coding := 1, receiver := 5, home := 2 }, put [(.GEN_ENUM_POSITION, 0, 2)], by decide⟩,
   ⟨{ source := 20, kind := 0, coding := 1, receiver := 9, home := 1 }, State.reset, by decide⟩,
   ⟨{ source := 20, kind := 0, coding := 1, receiver := 2, home := 1 }, 6, put [(.CHECK_ENABLED, 4, 1), (.GEN_ENUM_POSITION, 0, 2)], by decide⟩,
   ⟨{ source := 20, kind := 0, coding := 1, receiver := 9, home := 1 }, 6, 6, State.reset, by decide⟩,
   ⟨{ source := 20, kind := 0, coding := 1, receiver := 2, home := 1 }, 67, { put [(.GEN_ENUM_POSITION, 0, 2)] with rx := [rxSample11, rxSample22] }, rxSample11, by decide⟩,
   ⟨{ source := 20, kind := 0, coding := 1, receiver := 2, home := 1 }, 6, { put [(.GEN_ENUM_POSITION, 0, 2)] with rx := [rxSample11, rxSample22] }, rxSample11, by decide⟩,
   ⟨{ source := 193, kind := 0, coding := 1, receiver := 5, home := 2 }, txSample13, { State.reset with tx := [txSample13] }, by decide⟩,
   ⟨6, State.reset, by decide⟩,
   ⟨6, { put [(.CHECK_ENABLED, 3, 1), (.GEN_ENUM_POSITION, 0, 2), (.FAB_PORT_STAT_UP, 10, 1)] with wp := [wpSample27] }, wpSample27, by decide⟩,
   ⟨txSample13, { put [(.CHECK_ENABLED, 3, 1)] with tx := [txSample13] }, by decide⟩,
   ⟨txSample13, { put [(.CHECK_ENABLED, 3, 1)] with tx := [txSample13] }, by decide⟩,
   ⟨txSample26, { put [(.CHECK_ENABLED, 3, 1), (.GEN_ENUM_POSITION, 0, 2), (.FAB_CTRL_REVERT, 0, 1), (.FAB_PORT_STAT_UP, 2, 1), (.FAB_PORT_CEILING, 2, 200000000)] with tx := [txSample26] }, by decide⟩⟩

/-- Hypotheses of LinesLeaveAsTheyWereLatched. -/
theorem witness_LinesLeaveAsTheyWereLatched :
    (∃ (d : Nat) (s : State), s.running .dest d = false)
    ∧ (∃ (d : Nat) (n : Nat) (s : State), (s.running .dest d = true) ∧ (n % 2 ^ 32 = s.get .DEST_FRAME d % 2 ^ 32) ∧ (s.innerState d = 0)
        ∧ (s.inSafe = false) ∧ (s.flag .AUD_AFV_DUE d = false) ∧ (s.flag .ATL_DEST_STAT_LOST d = false)
        ∧ (s.isRemote (s.get .ATL_LIVE_SOURCE d) = false))
    ∧ (∃ (d : Nat) (n : Nat) (line : Nat) (s : State) (r : RxStream), (s.running .dest d = true)
        ∧ (n % 2 ^ 32 = s.get .DEST_FRAME d % 2 ^ 32) ∧ (s.innerState d = 0) ∧ (s.inSafe = false) ∧ (s.flag .AUD_AFV_DUE d = false)
        ∧ (s.flag .ATL_DEST_STAT_LOST d = false) ∧ (s.isRemote (s.get .ATL_LIVE_SOURCE d) = true) ∧ (s.liveRx d = some r)
        ∧ (Option.any (fun x => x.lost) (markerFor r (n % 2 ^ 16)) = false) ∧ (alreadyRead r (n % 2 ^ 16) line = false)
        ∧ (s.readRemote r (n % 2 ^ 16) line = RemoteLine.missing))
    ∧ (∃ (n : Nat) (frame : Nat) (s : State), List.find? (fun h => h.head == n && h.frame == frame) s.shots = none)
    ∧ (∃ (n : Nat) (frame : Nat) (s : State) (h : HeadShot), (List.find? (fun h => h.head == n && h.frame == frame) s.shots = some h)
        ∧ (s.headRuns n = true))
    ∧ (∃ (n : Nat) (frame : Nat) (s : State) (h : HeadShot) (o : Nat),
        (List.find? (fun h => h.head == n && h.frame == frame) s.shots = some h) ∧ (s.headRuns n = true)
        ∧ ((h.ovls.any fun x => x.fst == o) = true) ∧ (n < 4) ∧ (o < 8)) :=
  ⟨⟨1, State.reset, by decide⟩,
   ⟨3, 50, put [(.CHECK_ENABLED, 98, 1), (.GEN_ENUM_POS_VALID, 0, 1), (.GEN_ENUM_POSITION, 0, 2), (.ATL_LIVE_SOURCE, 3, 193),
       (.DEST_FRAME, 3, 50)], by decide⟩,
   ⟨3, 50, 1, { put [(.CHECK_ENABLED, 98, 1), (.ATL_LIVE_SOURCE, 3, 20), (.DEST_FRAME, 3, 50)] with rx := [rxSample15] }, rxSample15, by decide +kernel⟩,
   ⟨1, 1, State.reset, by decide⟩,
   ⟨1, 7, { put [(.CHECK_ENABLED, 18, 1), (.CHECK_ENABLED, 51, 1)] with shots := [{ head := 1, frame := 7, bg := 268698112, tally := [0, 0, 0, 0], banks := 0, evac := false, tiles := [], ovls := [(2, [2147483648, 0, 0, 0])] }] }, { head := 1, frame := 7, bg := 268698112, tally := [0, 0, 0, 0], banks := 0, evac := false, tiles := [], ovls := [(2, [2147483648, 0, 0, 0])] }, by decide⟩,
   ⟨1, 7, { put [(.CHECK_ENABLED, 18, 1), (.CHECK_ENABLED, 51, 1)] with shots := [{ head := 1, frame := 7, bg := 268698112, tally := [0, 0, 0, 0], banks := 0, evac := false, tiles := [], ovls := [(2, [2147483648, 0, 0, 0])] }] }, { head := 1, frame := 7, bg := 268698112, tally := [0, 0, 0, 0], banks := 0, evac := false, tiles := [], ovls := [(2, [2147483648, 0, 0, 0])] }, 2, by decide⟩⟩

/-- Hypotheses of ShadowsAndFencesAreGuarded. -/
theorem witness_ShadowsAndFencesAreGuarded :
    (∃ (m : Master) (n : Nat) (l : Nat) (s : State), (n < 4) ∧ (l < 72) ∧ (Passes m (layerOff n l 10) s) ∧ (s.armCode n l = 0))
    ∧ (∃ (m : Master) (n : Nat) (l : Nat) (s : State) (c : Nat), (n < 4) ∧ (l < 72) ∧ (Passes m (layerOff n l 10) s) ∧ (c = s.armCode n l) ∧ (c ≠ 0))
    ∧ (∃ (m : Master) (n : Nat) (l : Nat) (s : State), (n < 4) ∧ (l < 72) ∧ (Passes m (layerOff n l 10) s) ∧ (s.flag .CMP_HEAD_CTRL_FENCED n = false))
    ∧ (∃ (m : Master) (n : Nat) (l : Nat) (s : State), (n < 4) ∧ (l < 72) ∧ (Passes m (layerOff n l 10) s)
        ∧ (s.flag .CMP_HEAD_CTRL_FENCED n = true) ∧ (s.armed n l = true))
    ∧ (∃ (m : Master) (n : Nat) (s : State), (n < 4) ∧ (Passes m (19398676 + 131072 * n) s) ∧ (s.goCode n = 0))
    ∧ (∃ (m : Master) (n : Nat) (s : State) (c : Nat), (n < 4) ∧ (Passes m (19398676 + 131072 * n) s) ∧ (c = s.goCode n) ∧ (c ≠ 0))
    ∧ (∃ (m : Master) (n : Nat) (s : State), (n < 4) ∧ (Passes m (19398676 + 131072 * n) s) ∧ (s.flag .CMP_HEAD_CTRL_FENCED n = true))
    ∧ (∃ (m : Master) (n : Nat) (s : State), (n < 4) ∧ (Passes m (19398696 + 131072 * n) s))
    ∧ (∃ (n : Nat) (q : Nat) (it : Item) (s : State), (s.running .head n = true) ∧ (s.flag .CMP_HEAD_FQ_FQ_EN n = true)
        ∧ (q = s.get .CMP_HEAD_FQ_QUEUE n) ∧ (s.running .queue q = true) ∧ (s.get .PKT_Q_CONS_AGENT q = 7) ∧ (s.qHead q = some it)
        ∧ (isFenceItem it.header = true))
    ∧ (∃ (m : Master) (n : Nat) (s : State), (n < 4) ∧ (Passes m (19398680 + 131072 * n) s))
    ∧ (∃ (m : Master) (n : Nat) (o : Nat) (lut : Nat) (bank : Nat) (s : State), (n < 4) ∧ (lutOf o = some (lut, bank))
        ∧ (Passes m (19398656 + 131072 * n + o) s) ∧ (s.bankBusy n lut bank = true))
    ∧ (∃ (m : Master) (n : Nat) (o : Nat) (lut : Nat) (bank : Nat) (s : State), (n < 4) ∧ (lutOf o = some (lut, bank))
        ∧ (Passes m (19398656 + 131072 * n + o) s) ∧ (s.bankBusy n lut bank = false))
    ∧ (∃ (m : Master) (n : Nat) (o : Nat) (lut : Nat) (bank : Nat) (s : State), (n < 4) ∧ (lutOf o = some (lut, bank))
        ∧ (Passes m (19398656 + 131072 * n + o) s) ∧ (bitsAt (s.get .CMP_HEAD_LUTSEL_IN_USE n) lut 1 = bank))
    ∧ (∃ (m : Master) (n : Nat) (w : Shadow) (s : State) (l : Nat) (k : Nat), (n < 4) ∧ (shadowValid w = true)
        ∧ (Passes m (shadowOff n w) s) ∧ (w = Shadow.layer l k) ∧ (s.flag .CMP_HEAD_STAT_PENDING n = false) ∧ (s.armed n l = false) ∧ (64 ≤ l
        ∨ k ≠ 0))
    ∧ (∃ (m : Master) (n : Nat) (v : Nat) (w : Shadow) (s : State) (l : Nat) (k : Nat), (n < 4) ∧ (shadowValid w = true)
        ∧ (Passes m (shadowOff n w) s) ∧ (w = Shadow.layer l k) ∧ (s.flag .CMP_HEAD_STAT_PENDING n = false) ∧ (s.armed n l = false) ∧ (l < 64)
        ∧ (k = 0) ∧ ((writeWord m (layerOff n l k) v s).isRemote (bitsAt v 0 11) = false)
        ∧ (sourceOf ((writeWord m (layerOff n l k) v s).wordAt (layerOff n l 0)) = bitsAt v 0 11))
    ∧ (∃ (m : Master) (n : Nat) (w : Shadow) (s : State), (n < 4) ∧ (shadowValid w = true) ∧ (Passes m (shadowOff n w) s)
        ∧ (w = Shadow.colour 0) ∧ (s.flag .CMP_HEAD_STAT_PENDING n = false)) :=
  ⟨⟨Master.st 1, 1, 1, put [(.CMP_HEAD_CTRL_FENCED, 1, 1)], by decide⟩,
   ⟨Master.st 1, 1, 1, State.reset, 199, by decide⟩,
   ⟨Master.st 1, 1, 1, State.reset, by decide⟩,
   ⟨Master.st 1, 1, 1, put [(.CMP_HEAD_CTRL_FENCED, 1, 1), (.CMP_TILE_W8_ARMED, 65, 1)], by decide⟩,
   ⟨Master.st 1, 1, State.reset, by decide⟩,
   ⟨Master.st 1, 1, put [(.CMP_HEAD_CTRL_FENCED, 1, 1)], 199, by decide⟩,
   ⟨Master.st 1, 1, put [(.CMP_HEAD_CTRL_FENCED, 1, 1)], by decide⟩,
   ⟨Master.st 1, 1, State.reset, by decide⟩,
   ⟨1, 3, { header := 4611686018427715587, payload := [] }, { put [(.CHECK_ENABLED, 51, 1), (.CHECK_ENABLED, 107, 1), (.PKT_Q_CONS_AGENT, 3, 7), (.PKT_Q_PTR_PROD, 3, 1), (.CMP_HEAD_FQ_FQ_EN, 1, 1), (.CMP_HEAD_FQ_QUEUE, 1, 3)] with mem := [(0, 0x03#8), (2, 0x05#8), (7, 0x40#8)] }, by decide⟩,
   ⟨Master.st 1, 1, State.reset, by decide⟩,
   ⟨Master.st 1, 1, 16400, 0, 0, State.reset, by decide⟩,
   ⟨Master.st 1, 1, 16400, 0, 0, put [(.CMP_HEAD_LUTSEL_IN_USE, 1, 7)], by decide⟩,
   ⟨Master.st 1, 1, 16400, 0, 0, State.reset, by decide⟩,
   ⟨Master.st 1, 1, Shadow.layer 1 1, State.reset, 1, 1, by decide⟩,
   ⟨Master.st 1, 1, 195, Shadow.layer 1 0, put [(.GEN_ENUM_POS_VALID, 0, 1), (.GEN_ENUM_POSITION, 0, 2)], 1, 0, by decide⟩,
   ⟨Master.st 1, 1, Shadow.colour 0, State.reset, by decide⟩⟩

/-- Hypotheses of LatchPointsMakeShadowsLive. -/
theorem witness_LatchPointsMakeShadowsLive :
    (∃ (n : Nat) (s : State), (n < 4) ∧ (s.headRuns n = true) ∧ (s.flag .CMP_LUT_PENDING n = true) ∧ (s.get .CMP_LUT_TICK n + 20000 ≤ s.tick))
    ∧ (∃ (n : Nat) (s : State) (l : Nat), (n < 4) ∧ (s.headRuns n = true) ∧ (s.flag .CMP_HEAD_CTRL_FENCED n = false)
        ∧ (s.flag .CMP_HEAD_STAT_PENDING n = true) ∧ (s.get .CMP_COMMIT_TICK n + 20000 ≤ s.tick) ∧ (l < 72))
    ∧ (∃ (n : Nat) (s : State) (l : Nat), (n < 4) ∧ (s.headRuns n = true) ∧ (s.flag .CMP_HEAD_CTRL_FENCED n = false)
        ∧ (s.flag .CMP_HEAD_STAT_PENDING n = false) ∧ (l < 72))
    ∧ (∃ (n : Nat) (s : State) (l : Nat), (n < 4) ∧ (s.headRuns n = true) ∧ (l < 72) ∧ (s.flag .CMP_HEAD_CTRL_FENCED n = true)
        ∧ (s.armed n l = false))
    ∧ (∃ (n : Nat) (s : State) (l : Nat), (n < 4) ∧ (s.headRuns n = true) ∧ (l < 72) ∧ (s.flag .CMP_HEAD_CTRL_FENCED n = true)
        ∧ (s.armed n l = true)
        ∧ (reached (s.get .CMP_FENCE (16 * n + s.get .CMP_FLIP_FENCE (72 * n + l))) (s.get .CMP_FLIP_VALUE (72 * n + l)) = false))
    ∧ (∃ (n : Nat) (s : State) (l : Nat), (n < 4) ∧ (s.headRuns n = true) ∧ (l < 72) ∧ (s.flag .CMP_HEAD_CTRL_FENCED n = true)
        ∧ (s.armed n l = true) ∧ (∀ (k : Nat), k < 72 → k ≠ l → s.armed n k = false)
        ∧ (reached (s.get .CMP_FENCE (16 * n + s.get .CMP_FLIP_FENCE (72 * n + l))) (s.get .CMP_FLIP_VALUE (72 * n + l)) = true)
        ∧ (s.seventeenth n l = false))
    ∧ (∃ (n : Nat) (s : State) (l : Nat), (n < 4) ∧ (s.headRuns n = true) ∧ (l < 72) ∧ (s.flag .CMP_HEAD_CTRL_FENCED n = true)
        ∧ (s.armed n l = true) ∧ (∀ (k : Nat), k < 72 → k ≠ l → s.armed n k = false)
        ∧ (reached (s.get .CMP_FENCE (16 * n + s.get .CMP_FLIP_FENCE (72 * n + l))) (s.get .CMP_FLIP_VALUE (72 * n + l)) = true)
        ∧ (s.seventeenth n l = true))
    ∧ (∃ (n : Nat) (frame : Nat) (aged : List Nat) (s : State) (l : Nat), (n < 4) ∧ (s.headRuns n = true) ∧ (l < 64)
        ∧ ((result (execLatchPoint n frame aged s)).flag .CMP_TILE_W8_READY (64 * n + l) = false)
        ∧ (layerOn ((result (execLatchPoint n frame aged s)).liveOf n l) = true))
    ∧ (∃ (n : Nat) (aged : List Nat) (s : State) (l : Nat), (n < 4) ∧ (s.headRuns n = true) ∧ (l < 64) ∧ (l ∈ aged)) :=
  ⟨⟨1, { put [(.CHECK_ENABLED, 18, 1), (.CHECK_ENABLED, 51, 1), (.CMP_LUT_PENDING, 1, 1)] with tick := 100000 }, by decide⟩,
   ⟨1, { put [(.CHECK_ENABLED, 18, 1), (.CHECK_ENABLED, 51, 1), (.CMP_HEAD_STAT_PENDING, 1, 1)] with tick := 200000 }, 71, by decide⟩,
   ⟨1, put [(.CHECK_ENABLED, 18, 1), (.CHECK_ENABLED, 51, 1)], 71, by decide⟩,
   ⟨1, put [(.CHECK_ENABLED, 18, 1), (.CHECK_ENABLED, 51, 1), (.CMP_HEAD_CTRL_FENCED, 1, 1)], 71, by decide⟩,
   ⟨1, put [(.CHECK_ENABLED, 18, 1), (.CHECK_ENABLED, 51, 1), (.CMP_HEAD_CTRL_FENCED, 1, 1), (.CMP_TILE_W8_ARMED, 67, 1),
       (.CMP_FLIP_VALUE, 75, 10)], 3, by decide⟩,
   ⟨1, put [(.CHECK_ENABLED, 18, 1), (.CHECK_ENABLED, 51, 1), (.CMP_HEAD_CTRL_FENCED, 1, 1), (.CMP_TILE_W8_ARMED, 67, 1)], 3, by decide⟩,
   ⟨1, put [(.CHECK_ENABLED, 18, 1), (.CHECK_ENABLED, 51, 1), (.CMP_HEAD_CTRL_FENCED, 1, 1), (.CMP_TILE_W0_EN_T, 67, 1), (.CMP_TILE_L0, 68,
       2147483648), (.CMP_TILE_L0, 69, 2147483648), (.CMP_TILE_L0, 70, 2147483648), (.CMP_TILE_L0, 71, 2147483648), (.CMP_TILE_L0, 72,
       2147483648), (.CMP_TILE_L0, 73, 2147483648), (.CMP_TILE_L0, 74, 2147483648), (.CMP_TILE_L0, 75, 2147483648), (.CMP_TILE_L0, 76,
       2147483648), (.CMP_TILE_L0, 77, 2147483648), (.CMP_TILE_L0, 78, 2147483648), (.CMP_TILE_L0, 79, 2147483648), (.CMP_TILE_L0, 80,
       2147483648), (.CMP_TILE_L0, 81, 2147483648), (.CMP_TILE_L0, 82, 2147483648), (.CMP_TILE_L0, 83, 2147483648), (.CMP_TILE_W8_ARMED, 67,
       1)], 3, by decide⟩,
   ⟨1, 1, [], put [(.CHECK_ENABLED, 18, 1), (.CHECK_ENABLED, 51, 1), (.CMP_TILE_L0, 68, 2147483648)], 4, by decide +kernel⟩,
   ⟨1, [4], put [(.CHECK_ENABLED, 18, 1), (.CHECK_ENABLED, 51, 1)], 4, by decide⟩⟩

/-- Hypotheses of AudioCommitsTakeEffectWhole. -/
theorem witness_AudioCommitsTakeEffectWhole :
    (∃ (m : Master) (c : Nat) (v : Nat) (s : State), (c < 16384) ∧ (Passes m (9502720 + 4 * c) s) ∧ (c < s.matrixSize)
        ∧ (s.running .aud = false ∨ s.canRequest = false ∨ s.audRemote (bitsAt v 0 18) = false))
    ∧ (∃ (m : Master) (c : Nat) (v : Nat) (s : State), (c < 16384) ∧ (Passes m (9502720 + 4 * c) s) ∧ (c < s.matrixSize)
        ∧ (s.running .aud = true) ∧ (s.canRequest = true) ∧ (s.audRemote (bitsAt v 0 18) = true) ∧ (s.rx = [])
        ∧ (s.homeLost (bitsAt v 0 18 / 16384) = false))
    ∧ (∃ (g : Nat) (r : RxStream) (s : State), (List.find? (fun r => r.kind == 2 && r.rxg == g) s.rx = some r)
        ∧ (List.find? (fun x => x.slot == r.slot) s.rx = some r) ∧ (s.channelsOf r.home r.src ≠ []))
    ∧ (∃ (g : Nat) (r : RxStream) (s : State), (List.find? (fun r => r.kind == 2 && r.rxg == g) s.rx = some r)
        ∧ (List.find? (fun x => x.slot == r.slot) s.rx = some r) ∧ (s.channelsOf r.home r.src = []) ∧ (r.st = 4))
    ∧ (∃ (g : Nat) (r : RxStream) (s : State), (List.find? (fun r => r.kind == 2 && r.rxg == g) s.rx = some r)
        ∧ (List.find? (fun x => x.slot == r.slot) s.rx = some r) ∧ (s.channelsOf r.home r.src = []) ∧ (r.st = 1) ∧ (r.rejoin = false)
        ∧ (s.fabSends = true) ∧ (s.portUp (s.portOf r.home) = true))
    ∧ (∃ (m : Master) (v : Nat) (s : State), (Passes m 9437204 s) ∧ (s.audCommitCode v = 0))
    ∧ (∃ (m : Master) (v : Nat) (s : State) (c : Nat), (Passes m 9437204 s) ∧ (c = s.audCommitCode v) ∧ (c ≠ 0) ∧ (s.running .aud = false))
    ∧ (∃ (m : Master) (v : Nat) (s : State) (c : Nat), (Passes m 9437204 s) ∧ (c = s.audCommitCode v) ∧ (c ≠ 0) ∧ (s.running .aud = true)
        ∧ (bitsAt v 29 1 = 0) ∧ (s.inQuiet = false) ∧ (s.inSafe = false) ∧ (s.audCommit.isSome = true))
    ∧ (∃ (m : Master) (s : State) (c : AudCommit), (Passes m 9437204 s) ∧ (s.audCommit = some c) ∧ (c.taken = true))
    ∧ (∃ (m : Master) (s : State) (c : AudCommit), (Passes m 9437204 s) ∧ (s.audCommit = some c) ∧ (c.taken = false))
    ∧ (∃ (c : AudCommit) (s : State), (s.audCommit = some c) ∧ (c.meridian = none) ∧ (c.ready = false))
    ∧ (∃ (s : State), s.matrixRuns = false)
    ∧ (∃ (s : State), (s.matrixRuns = true) ∧ (s.audCommit = none))
    ∧ (∃ (s : State) (c : AudCommit) (e : Nat × Nat), (s.matrixRuns = true) ∧ (s.audCommit = some c) ∧ (c.meridian = none)
        ∧ (c.ready = true) ∧ ((List.map (fun x => x.fst) c.entries).Nodup) ∧ (e ∈ c.entries))
    ∧ (∃ (s : State) (c : AudCommit) (n : Nat), (s.matrixRuns = true) ∧ (s.audCommit = some c) ∧ (c.meridian = none) ∧ (c.ready = true)
        ∧ ((List.map (fun x => x.fst) c.entries).Nodup) ∧ (¬n ∈ List.map (fun x => x.fst) c.entries))
    ∧ (∃ (k : Nat) (s : State) (c : AudCommit), (s.matrixRuns = true) ∧ (s.audCommit = some c) ∧ (c.meridian = none) ∧ (c.ready = false)
        ∧ (k % s.perMs ≠ 0))
    ∧ (∃ (m : Master) (c : Nat) (s : State), (c < 16384) ∧ (Passes m (9502720 + 4 * c) s) ∧ (s.matrixSize ≤ c))
    ∧ (∃ (s : State) (p : Nat) (r : Nat × Nat), (s.matrixRuns = true) ∧ (p < 784) ∧ (s.running .port p = true) ∧ (portKind p ≠ 3)
        ∧ (s.portOutRun p = some r))
    ∧ (∃ (ins : List AudioIn) (s : State) (p : Nat) (x : AudioIn) (ws : List Nat) (r : Nat × Nat) (i : Nat), (s.matrixRuns = true)
        ∧ (80 ≤ p) ∧ (p < 176) ∧ (s.running .port p = true) ∧ (s.portState p = 3) ∧ (s.portInRun p = some r) ∧ (s.get .AUD_RAMP_LEFT p = 0)
        ∧ (∀ (q : Nat), q < 784 → q ≠ p → s.running .port q = false) ∧ (∀ (n : Nat), n < 32 → s.running .dsp n = false) ∧ (ins = [x])
        ∧ (x.port = p) ∧ (x.words = some ws) ∧ (s.flag .AUD_SLIPPED p = false) ∧ (i < r.snd)) :=
  ⟨⟨Master.st 1, 3, 3, State.reset, by decide⟩,
   ⟨Master.st 1, 3, 3, put [(.CHECK_ENABLED, 3, 1), (.CHECK_ENABLED, 15, 1), (.GEN_ENUM_POS_VALID, 0, 1)], by decide⟩,
   ⟨3, rxSample12, { put [(.AUD_LIVE_SOURCE, 9, 83200)] with rx := [rxSample12] }, by decide⟩,
   ⟨3, rxSample23, { State.reset with rx := [rxSample23] }, by decide⟩,
   ⟨3, rxSample12, { put [(.CHECK_ENABLED, 3, 1), (.GEN_ENUM_POSITION, 0, 2), (.FAB_PORT_STAT_UP, 2, 1)] with rx := [rxSample12] }, by decide⟩,
   ⟨Master.st 1, 3, put [(.CHECK_ENABLED, 15, 1), (.AUD_COMMIT_RANGE_COUNT, 0, 1)], by decide⟩,
   ⟨Master.st 1, 3, State.reset, 5, by decide⟩,
   ⟨Master.st 1, 3, { put [(.CHECK_ENABLED, 15, 1)] with audCommit := some { entries := [(5, 49159), (6, 262143)], master := Master.host, meridian := none, target := 9, slips := 0, slipLimit := 3, startK := 100, ready := true, taken := false } }, 167, by decide⟩,
   ⟨Master.st 1, { State.reset with audCommit := some { entries := [(5, 49159), (6, 262143)], master := Master.host, meridian := some 49, target := 9, slips := 0, slipLimit := 3, startK := 100, ready := false, taken := true } }, { entries := [(5, 49159), (6, 262143)], master := Master.host, meridian := some 49, target := 9, slips := 0, slipLimit := 3, startK := 100, ready := false, taken := true }, by decide⟩,
   ⟨Master.st 1, { State.reset with audCommit := some { entries := [(5, 49159), (6, 262143)], master := Master.host, meridian := none, target := 9, slips := 0, slipLimit := 3, startK := 100, ready := true, taken := false } }, { entries := [(5, 49159), (6, 262143)], master := Master.host, meridian := none, target := 9, slips := 0, slipLimit := 3, startK := 100, ready := true, taken := false }, by decide⟩,
   ⟨{ entries := [(5, 49159), (6, 262143)], master := Master.host, meridian := none, target := 9, slips := 0, slipLimit := 3, startK := 100, ready := false, taken := false }, { State.reset with audCommit := some { entries := [(5, 49159), (6, 262143)], master := Master.host, meridian := none, target := 9, slips := 0, slipLimit := 3, startK := 100, ready := false, taken := false } }, by decide⟩,
   ⟨State.reset, by decide⟩,
   ⟨put [(.CHECK_ENABLED, 15, 1), (.GEN_BOOT_STAT_PHASE, 0, 6)], by decide⟩,
   ⟨{ put [(.CHECK_ENABLED, 15, 1), (.GEN_BOOT_STAT_PHASE, 0, 6)] with audCommit := some { entries := [(5, 49159), (6, 262143)], master := Master.host, meridian := none, target := 9, slips := 0, slipLimit := 3, startK := 100, ready := true, taken := false } }, { entries := [(5, 49159), (6, 262143)], master := Master.host, meridian := none, target := 9, slips := 0, slipLimit := 3, startK := 100, ready := true, taken := false }, (5, 49159), by decide⟩,
   ⟨{ put [(.CHECK_ENABLED, 15, 1), (.GEN_BOOT_STAT_PHASE, 0, 6)] with audCommit := some { entries := [(5, 49159), (6, 262143)], master := Master.host, meridian := none, target := 9, slips := 0, slipLimit := 3, startK := 100, ready := true, taken := false } }, { entries := [(5, 49159), (6, 262143)], master := Master.host, meridian := none, target := 9, slips := 0, slipLimit := 3, startK := 100, ready := true, taken := false }, 3, by decide⟩,
   ⟨3, { put [(.CHECK_ENABLED, 15, 1), (.GEN_BOOT_STAT_PHASE, 0, 6)] with audCommit := some { entries := [(5, 49159), (6, 262143)], master := Master.host, meridian := none, target := 9, slips := 0, slipLimit := 3, startK := 100, ready := false, taken := false } }, { entries := [(5, 49159), (6, 262143)], master := Master.host, meridian := none, target := 9, slips := 0, slipLimit := 3, startK := 100, ready := false, taken := false }, by decide⟩,
   ⟨Master.st 1, 9000, put [(.AUD_CTRL_FS, 0, 1)], by decide⟩,
   ⟨put [(.CHECK_ENABLED, 15, 1), (.CHECK_ENABLED, 3216, 1), (.GEN_BOOT_STAT_PHASE, 0, 6), (.AUD_PORT_CTRL_OUT_EN, 100, 1)], 100, (0, 64), by decide⟩,
   ⟨[{ port := 100, words := some [7, 8589934597, 0, 9], bits := [], repeats := 0, overwrites := 0 }], put [(.CHECK_ENABLED, 15, 1), (.CHECK_ENABLED, 3216, 1), (.GEN_BOOT_STAT_PHASE, 0, 6), (.AUD_PORT_CTRL_IN_EN, 100, 1), (.AUD_PORT_CHAN_IN_BASE, 100, 40), (.AUD_PORT_STAT_STATE, 100, 3)], 100, { port := 100, words := some [7, 8589934597, 0, 9], bits := [], repeats := 0, overwrites := 0 }, [7, 8589934597, 0, 9], (40, 64), 63, by decide +kernel⟩⟩

/-- Hypotheses of AudioPortsAreSupervised. -/
theorem witness_AudioPortsAreSupervised :
    (∃ (p : Nat) (s : State), (p < 784) ∧ (s.running .port p = true) ∧ (p < 16) ∧ (s.portTicks p = true)
        ∧ (bitsAt (s.get .AUD_PORT_EVT p) 0 1 = 0) ∧ (bitsAt (s.get .AUD_PORT_EVT_EN p) 0 1 = 1))
    ∧ (∃ (p : Nat) (s : State), (p < 784) ∧ (s.running .port p = true) ∧ (16 ≤ p) ∧ (p < 80) ∧ (s.portTicks p = true))
    ∧ (∃ (p : Nat) (s : State), (p < 784) ∧ (s.running .port p = true) ∧ (16 ≤ p) ∧ (p < 80) ∧ (s.portState p = 4))
    ∧ (∃ (p : Nat) (s : State), (p < 784) ∧ (s.running .port p = true) ∧ (p < 80))
    ∧ (∃ (p : Nat) (s : State), (p < 784) ∧ (s.running .port p = true) ∧ (s.portWatched p = true))
    ∧ (∃ (p : Nat) (s : State), (p < 784) ∧ (s.running .port p = true) ∧ (s.portState p = 1 ∨ s.portState p = 4)
        ∧ (s.flag .AUD_PORT_CTRL_RAMP p = true))
    ∧ (∃ (p : Nat) (s : State), (p < 784) ∧ (s.running .port p = true) ∧ (s.portState p = 1 ∨ s.portState p = 4)
        ∧ (s.flag .AUD_PORT_CTRL_RAMP p = false) ∧ (s.get .AUD_DAYBREAK_SRC = 0 ∨ s.flag .PWR_STAT_SAFETY_WAKE = true))
    ∧ (∃ (p : Nat) (s : State), (p < 784) ∧ (s.running .port p = true) ∧ (s.portState p = 1 ∨ s.portState p = 4)
        ∧ (s.flag .AUD_PORT_CTRL_RAMP p = false) ∧ (s.get .AUD_DAYBREAK_SRC ≠ 0) ∧ (s.flag .PWR_STAT_SAFETY_WAKE = false))
    ∧ (∃ (p : Nat) (s : State), (p < 784) ∧ (s.running .port p = true) ∧ (p < 16) ∧ (s.flag .AUD_MASK_WRITTEN p = true))
    ∧ (∃ (p : Nat) (s : State), (p < 784) ∧ (s.running .port p = true) ∧ (p < 16) ∧ (s.flag .AUD_MASK_WRITTEN p = false))
    ∧ (∃ (p : Nat) (s : State), (p < 784) ∧ (s.running .port p = true) ∧ (p < 16) ∧ (s.portState p = 4)
        ∧ (s.flag .AUD_PORT_STAT_CLK_PRESENT p = false) ∧ (s.portSlave p = true))
    ∧ (∃ (m : Master) (p : Nat) (v : Nat) (out : Bool) (s : State), (p < 16)
        ∧ (Passes m (9830400 + 64 * p + if out = true then 16 else 12) s) ∧ (s.maskFits p (v % 2 ^ 32) = true))
    ∧ (∃ (m : Master) (p : Nat) (v : Nat) (out : Bool) (s : State), (p < 16)
        ∧ (Passes m (9830400 + 64 * p + if out = true then 16 else 12) s) ∧ (s.maskFits p (v % 2 ^ 32) = false))
    ∧ (∃ (k : Nat) (s : State) (p : Nat), (s.matrixRuns = true) ∧ (s.daybreakAt k = true) ∧ (p < 784))
    ∧ (∃ (s : State), (s.matrixRuns = true) ∧ (s.flag .AUD_EVAC_WAIT = true) ∧ (s.flag .AUD_EVAC_ACTIVE = false))
    ∧ (∃ (m : Master) (c : Nat) (v : Nat) (s : State), (c < s.matrixSize) ∧ (Passes m (9633792 + 8 * c) s)
        ∧ (toSigned 16 v ≤ toSigned 16 (s.get .AUD_OUT1_GAIN_LIMIT c)) ∧ (-1200 ≤ toSigned 16 v) ∧ (v % 2 ^ 16 ≠ s.get .AUD_OUT0_GAIN c))
    ∧ (∃ (m : Master) (c : Nat) (v : Nat) (s : State), (c < s.matrixSize) ∧ (Passes m (9633792 + 8 * c) s)
        ∧ (toSigned 16 v ≤ toSigned 16 (s.get .AUD_OUT1_GAIN_LIMIT c)) ∧ (-1200 ≤ toSigned 16 v) ∧ (v % 2 ^ 16 = s.get .AUD_OUT0_GAIN c))
    ∧ (∃ (m : Master) (c : Nat) (v : Nat) (s : State), (c < s.matrixSize) ∧ (Passes m (9633792 + 8 * c) s)
        ∧ (toSigned 16 (s.get .AUD_OUT1_GAIN_LIMIT c) < toSigned 16 v))
    ∧ (∃ (m : Master) (c : Nat) (v : Nat) (s : State), (c < s.matrixSize) ∧ (Passes m (9633792 + 8 * c) s)
        ∧ (toSigned 16 v ≤ toSigned 16 (s.get .AUD_OUT1_GAIN_LIMIT c)) ∧ (toSigned 16 v < -1200)) :=
  ⟨⟨3, put [(.CHECK_ENABLED, 112, 1), (.AUD_PORT_CTRL_MASTER, 3, 1)], by decide⟩,
   ⟨20, put [(.CHECK_ENABLED, 656, 1), (.AUD_PORT_CTRL_MASTER, 20, 1)], by decide⟩,
   ⟨20, put [(.CHECK_ENABLED, 656, 1), (.AUD_PORT_STAT_STATE, 20, 4)], by decide⟩,
   ⟨3, put [(.CHECK_ENABLED, 112, 1)], by decide⟩,
   ⟨3, put [(.CHECK_ENABLED, 112, 1)], by decide⟩,
   ⟨3, put [(.CHECK_ENABLED, 112, 1), (.AUD_PORT_CTRL_RAMP, 3, 1), (.AUD_PORT_STAT_STATE, 3, 1)], by decide⟩,
   ⟨3, put [(.CHECK_ENABLED, 112, 1), (.AUD_PORT_STAT_STATE, 3, 4)], by decide⟩,
   ⟨3, put [(.CHECK_ENABLED, 112, 1), (.AUD_DAYBREAK_SRC, 0, 1), (.AUD_PORT_STAT_STATE, 3, 1)], by decide⟩,
   ⟨3, put [(.CHECK_ENABLED, 112, 1), (.AUD_MASK_WRITTEN, 3, 1)], by decide⟩,
   ⟨3, put [(.CHECK_ENABLED, 112, 1)], by decide⟩,
   ⟨3, put [(.CHECK_ENABLED, 112, 1), (.AUD_PORT_STAT_STATE, 3, 4)], by decide⟩,
   ⟨Master.st 1, 3, 3, true, State.reset, by decide⟩,
   ⟨Master.st 1, 3, 300, true, State.reset, by decide⟩,
   ⟨3, put [(.CHECK_ENABLED, 15, 1), (.GEN_BOOT_STAT_PHASE, 0, 6), (.AUD_DAYBREAK_SRC, 0, 1)], 783, by decide⟩,
   ⟨put [(.CHECK_ENABLED, 15, 1), (.GEN_BOOT_STAT_PHASE, 0, 6), (.AUD_EVAC_WAIT, 0, 1)], by decide⟩,
   ⟨Master.st 1, 3, 3, put [(.AUD_OUT1_GAIN_LIMIT, 3, 100)], by decide⟩,
   ⟨Master.st 1, 3, 20, put [(.AUD_OUT0_GAIN, 3, 20), (.AUD_OUT1_GAIN_LIMIT, 3, 100)], by decide⟩,
   ⟨Master.st 1, 3, 300, State.reset, by decide⟩,
   ⟨Master.st 1, 3, 61440, State.reset, by decide⟩⟩

/-- Hypotheses of ClaimIsInterlocked. -/
theorem witness_ClaimIsInterlocked :
    (∃ (s : State), s.flag .TWN_STAT_TWIN_CLAIM = true)
    ∧ (∃ (s : State), (s.flag .TWN_STAT_TWIN_CLAIM = false) ∧ (s.flag .TWN_STAT_CLAIM = true) ∧ (s.flag .TWN_SETTLED = false)
        ∧ (s.flag .GEN_ENUM_TWIN = true))
    ∧ (∃ (s : State), (s.flag .TWN_STAT_TWIN_CLAIM = false) ∧ (s.flag .TWN_STAT_CLAIM = true) ∧ (s.flag .TWN_SETTLED = false)
        ∧ (s.flag .GEN_ENUM_TWIN = false))
    ∧ (∃ (s : State), (s.flag .TWN_STAT_TWIN_CLAIM = false) ∧ (s.flag .TWN_STAT_CLAIM = true) ∧ (s.flag .TWN_SETTLED = true))
    ∧ (∃ (s : State), (s.flag .TWN_STAT_TWIN_CLAIM = false) ∧ (s.flag .TWN_STAT_CLAIM = false) ∧ (s.get .TWN_WANT = 1)
        ∧ (s.bothLost = false) ∧ (s.running .twin = true) ∧ (s.get .TWN_STAT_SYNC = 0))
    ∧ (∃ (s : State), (s.running .twin = true) ∧ (s.flag .TWN_STAT_CLAIM = false) ∧ (s.get .PWR_STAT_STATE = 2) ∧ (s.get .TWN_WANT ≠ 0)
        ∧ (s.flag .TWN_STAT_TWIN_CLAIM = false))
    ∧ (∃ (s : State), s.flag .TWN_STAT_TWIN_CLAIM = true ∨ s.flag .TWN_STAT_CLAIM = true ∨ s.get .PWR_STAT_STATE ≠ 2 ∨ s.get .TWN_WANT = 0
        ∨ s.running .twin = false)
    ∧ (∃ (s : State), (s.flag .TWN_STAT_CLAIM = true) ∧ (s.flag .TWN_STAT_TWIN_CLAIM = false) ∧ (s.get .PWR_STAT_STATE = 2
        ∨ s.get .PWR_STAT_STATE = 5))
    ∧ (∃ (s : State), s.flag .TWN_STAT_CLAIM = false ∨ s.flag .TWN_STAT_TWIN_CLAIM = true ∨ s.get .PWR_STAT_STATE ≠ 2 ∧ s.get .PWR_STAT_STATE ≠ 5)
    ∧ (∃ (s : State), (s.flag .TWN_STAT_CLAIM = true) ∧ (s.flag .TWN_STAT_TWIN_CLAIM = true) ∧ (bitsAt (s.get .TWN_EVT) 7 1 = 0)
        ∧ (bitsAt (s.get .TWN_EVT_EN) 7 1 = 1))
    ∧ (∃ (s : State), s.flag .TWN_STAT_CLAIM = false ∨ s.flag .TWN_STAT_TWIN_CLAIM = false)
    ∧ (∃ (s : State), (s.running .twin = true) ∧ (s.flag .TWN_STAT_CLAIM = false) ∧ (s.get .PWR_STAT_STATE = 2) ∧ (s.get .TWN_WANT = 0))
    ∧ (∃ (s : State), s.running .twin = false ∨ s.flag .TWN_STAT_CLAIM = true ∨ s.get .PWR_STAT_STATE ≠ 2 ∨ s.get .TWN_WANT ≠ 0) :=
  ⟨⟨put [(.TWN_STAT_TWIN_CLAIM, 0, 1)], by decide⟩,
   ⟨put [(.GEN_ENUM_TWIN, 0, 1), (.TWN_STAT_CLAIM, 0, 1)], by decide⟩,
   ⟨put [(.TWN_STAT_CLAIM, 0, 1)], by decide⟩,
   ⟨put [(.TWN_STAT_CLAIM, 0, 1), (.TWN_SETTLED, 0, 1)], by decide⟩,
   ⟨put [(.CHECK_ENABLED, 21, 1), (.TWN_WANT, 0, 1)], by decide⟩,
   ⟨put [(.CHECK_ENABLED, 21, 1), (.TWN_WANT, 0, 1), (.PWR_STAT_STATE, 0, 2)], by decide⟩,
   ⟨State.reset, by decide⟩,
   ⟨put [(.TWN_STAT_CLAIM, 0, 1), (.PWR_STAT_STATE, 0, 2)], by decide⟩,
   ⟨State.reset, by decide⟩,
   ⟨put [(.TWN_STAT_CLAIM, 0, 1), (.TWN_STAT_TWIN_CLAIM, 0, 1)], by decide⟩,
   ⟨State.reset, by decide⟩,
   ⟨put [(.CHECK_ENABLED, 21, 1), (.PWR_STAT_STATE, 0, 2)], by decide⟩,
   ⟨State.reset, by decide⟩⟩

/-- Hypotheses of HeartbeatsTellOfTheTwin. -/
theorem witness_HeartbeatsTellOfTheTwin :
    (∃ (s : State), s.running .twin = false)
    ∧ (∃ (s : State), s.running .twin = true)
    ∧ (∃ (s : State) (link : Bool) (g : Nat × Stamp), (s.hbGot = some g) ∧ (link = true))
    ∧ (∃ (link : Bool), link = false)
    ∧ (∃ (path : Option Nat) (link : Bool) (s : State) (dst : Nat), (link = path.isNone) ∧ (path = some dst) ∧ (s.mgmtTakes dst = false))
    ∧ (∃ (path : Option Nat) (link : Bool) (bs : List Byte) (s : State), (link = path.isNone) ∧ (∀ (dst : Nat), path = some dst →
        s.mgmtTakes dst = true) ∧ (bs.length ≠ 48 ∨ msgCrcGood bs = false ∨ msgField bs 0 1 ≠ 0))
    ∧ (∃ (path : Option Nat) (link : Bool) (bs : List Byte) (s : State), (link = path.isNone) ∧ (∀ (dst : Nat), path = some dst →
        s.mgmtTakes dst = true) ∧ (bs.length = 48) ∧ (msgCrcGood bs = true) ∧ (msgField bs 0 1 = 0) ∧ (bitsAt (msgField bs 4 1) 0 4 ≠ s.position
        ∨ bitsAt (msgField bs 4 1) 4 1 ≠ s.get .GEN_ENUM_PLANE ∨ bitsAt (msgField bs 4 1) 5 1 = s.get .GEN_ENUM_TWIN)
        ∧ (bitsAt (s.get .TWN_EVT) 6 1 = 0) ∧ (bitsAt (s.get .TWN_EVT_EN) 6 1 = 1))
    ∧ (∃ (path : Option Nat) (link : Bool) (bs : List Byte) (s : State), (link = path.isNone) ∧ (∀ (dst : Nat), path = some dst →
        s.mgmtTakes dst = true) ∧ (bs.length = 48) ∧ (msgCrcGood bs = true) ∧ (msgField bs 0 1 = 0) ∧ (bitsAt (msgField bs 4 1) 0 4 = s.position)
        ∧ (bitsAt (msgField bs 4 1) 4 1 = s.get .GEN_ENUM_PLANE) ∧ (bitsAt (msgField bs 4 1) 5 1 ≠ s.get .GEN_ENUM_TWIN)
        ∧ (s.flag (if link = true then .TWN_STAT_LINK_LOST else .TWN_STAT_MGMT_LOST) = true) ∧ (bitsAt (s.get .TWN_EVT) 1 1 = 0)
        ∧ (bitsAt (s.get .TWN_EVT_EN) 1 1 = 1))
    ∧ (∃ (path : Option Nat) (link : Bool) (bs : List Byte) (s : State), (link = path.isNone) ∧ (∀ (dst : Nat), path = some dst →
        s.mgmtTakes dst = true) ∧ (bs.length = 48) ∧ (msgCrcGood bs = true) ∧ (msgField bs 0 1 = 0) ∧ (bitsAt (msgField bs 4 1) 0 4 = s.position)
        ∧ (bitsAt (msgField bs 4 1) 4 1 = s.get .GEN_ENUM_PLANE) ∧ (bitsAt (msgField bs 4 1) 5 1 ≠ s.get .GEN_ENUM_TWIN)
        ∧ (msgField bs 2 2 ≠ s.variant.part) ∧ (s.flag .TWN_STAT_MISMATCH = false))
    ∧ (∃ (path : Option Nat) (link : Bool) (bs : List Byte) (s : State), (link = path.isNone) ∧ (∀ (dst : Nat), path = some dst →
        s.mgmtTakes dst = true) ∧ (bs.length = 48) ∧ (msgCrcGood bs = true) ∧ (msgField bs 0 1 = 0) ∧ (bitsAt (msgField bs 4 1) 0 4 = s.position)
        ∧ (bitsAt (msgField bs 4 1) 4 1 = s.get .GEN_ENUM_PLANE) ∧ (bitsAt (msgField bs 4 1) 5 1 ≠ s.get .GEN_ENUM_TWIN)
        ∧ (msgField bs 12 4 ≠ s.get .GEN_BOOT_SEQ) ∧ (s.flag .TWN_STAT_IMG_DIFF = false))
    ∧ (∃ (path : Option Nat) (link : Bool) (bs : List Byte) (s : State) (d : Nat × Stamp), (link = path.isNone)
        ∧ (∀ (dst : Nat), path = some dst → s.mgmtTakes dst = true) ∧ (bs.length = 48) ∧ (msgCrcGood bs = true) ∧ (msgField bs 0 1 = 0)
        ∧ (bitsAt (msgField bs 4 1) 0 4 = s.position) ∧ (bitsAt (msgField bs 4 1) 4 1 = s.get .GEN_ENUM_PLANE)
        ∧ (bitsAt (msgField bs 4 1) 5 1 ≠ s.get .GEN_ENUM_TWIN) ∧ (List.find? (fun x => x.fst == msgField bs 40 1) s.hbSent = some d)
        ∧ (link = true))
    ∧ (∃ (path : Option Nat) (link : Bool) (bs : List Byte) (s : State), (link = path.isNone) ∧ (∀ (dst : Nat), path = some dst →
        s.mgmtTakes dst = true) ∧ (bs.length = 48) ∧ (msgCrcGood bs = true) ∧ (msgField bs 0 1 = 0) ∧ (bitsAt (msgField bs 4 1) 0 4 = s.position)
        ∧ (bitsAt (msgField bs 4 1) 4 1 = s.get .GEN_ENUM_PLANE) ∧ (bitsAt (msgField bs 4 1) 5 1 ≠ s.get .GEN_ENUM_TWIN) ∧ (link = true)
        ∧ (s.running .twin = true) ∧ (s.flag .TWN_STAT_CLAIM = false) ∧ (s.flag .TWN_STAT_TWIN_CLAIM = false) ∧ (bitsAt (msgField bs 6 1) 0 1 = 1)
        ∧ (s.flag .TWN_FELL = false))
    ∧ (∃ (path : Option Nat) (link : Bool) (bs : List Byte) (s : State), (link = path.isNone) ∧ (∀ (dst : Nat), path = some dst →
        s.mgmtTakes dst = true) ∧ (bs.length = 48) ∧ (msgCrcGood bs = true) ∧ (msgField bs 0 1 = 0) ∧ (bitsAt (msgField bs 4 1) 0 4 = s.position)
        ∧ (bitsAt (msgField bs 4 1) 4 1 = s.get .GEN_ENUM_PLANE) ∧ (bitsAt (msgField bs 4 1) 5 1 ≠ s.get .GEN_ENUM_TWIN)
        ∧ (s.flag .TWN_STAT_CLAIM = true) ∧ (bitsAt (msgField bs 6 1) 4 1 = 1))
    ∧ (∃ (path : Option Nat) (link : Bool) (bs : List Byte) (s : State), (link = path.isNone) ∧ (∀ (dst : Nat), path = some dst →
        s.mgmtTakes dst = true) ∧ (bs.length = 48) ∧ (msgCrcGood bs = true) ∧ (msgField bs 0 1 = 0) ∧ (bitsAt (msgField bs 4 1) 0 4 = s.position)
        ∧ (bitsAt (msgField bs 4 1) 4 1 = s.get .GEN_ENUM_PLANE) ∧ (bitsAt (msgField bs 4 1) 5 1 ≠ s.get .GEN_ENUM_TWIN)
        ∧ (s.flag .TWN_STAT_CLAIM = true) ∧ (s.get .PWR_STAT_STATE = 5) ∧ (msgField bs 2 2 = s.variant.part) ∧ (msgField bs 5 1 = 3)
        ∧ (bitsAt (msgField bs 6 1) 2 1 = 1) ∧ (bitsAt (msgField bs 6 1) 3 1 = 0))
    ∧ (∃ (path : Option Nat) (link : Bool) (bs : List Byte) (s : State), (link = path.isNone) ∧ (∀ (dst : Nat), path = some dst →
        s.mgmtTakes dst = true) ∧ (bs.length = 48) ∧ (msgCrcGood bs = true) ∧ (msgField bs 0 1 = 0) ∧ (bitsAt (msgField bs 4 1) 0 4 = s.position)
        ∧ (bitsAt (msgField bs 4 1) 4 1 = s.get .GEN_ENUM_PLANE) ∧ (bitsAt (msgField bs 4 1) 5 1 ≠ s.get .GEN_ENUM_TWIN)
        ∧ (s.flag .TWN_STAT_CLAIM = true) ∧ (s.get .PWR_STAT_STATE ≠ 5))
    ∧ (∃ (link : Bool) (s : State), s.running .twin = false ∨ s.flag (if link = true then .TWN_STAT_LINK_LOST else .TWN_STAT_MGMT_LOST) = true)
    ∧ (∃ (link : Bool) (s : State), (s.running .twin = true)
        ∧ (s.flag (if link = true then .TWN_STAT_LINK_LOST else .TWN_STAT_MGMT_LOST) = false) ∧ (bitsAt (s.get .TWN_EVT) 1 1 = 0)
        ∧ (bitsAt (s.get .TWN_EVT_EN) 1 1 = 1))
    ∧ (∃ (link : Bool) (s : State), (s.running .twin = true)
        ∧ (s.flag (if link = true then .TWN_STAT_LINK_LOST else .TWN_STAT_MGMT_LOST) = false)
        ∧ (s.flag (if link = true then .TWN_STAT_MGMT_LOST else .TWN_STAT_LINK_LOST) = false) ∧ (s.flag .TWN_DROP = false))
    ∧ (∃ (link : Bool) (s : State), (s.running .twin = true)
        ∧ (s.flag (if link = true then .TWN_STAT_LINK_LOST else .TWN_STAT_MGMT_LOST) = false) ∧ (link = true) ∧ (s.flag .TWN_STAT_READY = true))
    ∧ (∃ (link : Bool) (s : State), (s.running .twin = true)
        ∧ (s.flag (if link = true then .TWN_STAT_LINK_LOST else .TWN_STAT_MGMT_LOST) = false) ∧ (s.flag .TWN_STAT_CLAIM = true))
    ∧ (∃ (link : Bool) (s : State), (s.running .twin = true)
        ∧ (s.flag (if link = true then .TWN_STAT_LINK_LOST else .TWN_STAT_MGMT_LOST) = false)
        ∧ (s.flag (if link = true then .TWN_STAT_MGMT_LOST else .TWN_STAT_LINK_LOST) = true) ∧ (s.flag .TWN_STAT_CLAIM = false)
        ∧ (s.get .PWR_STAT_STATE = 3) ∧ ((result (execPathLost link s)).flag .TWN_DROP = false) ∧ (s.recovering = true))
    ∧ (∃ (link : Bool) (s : State), (s.running .twin = true)
        ∧ (s.flag (if link = true then .TWN_STAT_LINK_LOST else .TWN_STAT_MGMT_LOST) = false)
        ∧ (s.flag (if link = true then .TWN_STAT_MGMT_LOST else .TWN_STAT_LINK_LOST) = true) ∧ (s.flag .TWN_STAT_CLAIM = false)
        ∧ (s.get .PWR_STAT_STATE = 3) ∧ ((result (execPathLost link s)).flag .TWN_DROP = false) ∧ (s.recovering = false)
        ∧ (s.flag .TWN_STAT_MISMATCH = false) ∧ (s.flag .TWN_CTRL_AUTO = true) ∧ (s.flag .TWN_DROP = false) ∧ (s.flag .TWN_STAT_TWIN_CLAIM = true))
    ∧ (∃ (link : Bool) (s : State), (s.running .twin = true)
        ∧ (s.flag (if link = true then .TWN_STAT_LINK_LOST else .TWN_STAT_MGMT_LOST) = false)
        ∧ (s.flag (if link = true then .TWN_STAT_MGMT_LOST else .TWN_STAT_LINK_LOST) = true) ∧ (s.flag .TWN_STAT_CLAIM = false)
        ∧ (s.get .PWR_STAT_STATE = 3) ∧ ((result (execPathLost link s)).flag .TWN_DROP = false) ∧ (s.recovering = false)
        ∧ (s.flag .TWN_STAT_MISMATCH = true)) :=
  ⟨⟨State.reset, by decide⟩,
   ⟨put [(.CHECK_ENABLED, 21, 1)], by decide⟩,
   ⟨{ State.reset with hbGot := some (9, { sec := 1, ns := 2, frac := 3 }) }, true, (9, { sec := 1, ns := 2, frac := 3 }), by decide⟩,
   ⟨false, by decide⟩,
   ⟨some 5, false, State.reset, 5, by decide⟩,
   ⟨none, true, [0x00#8, 0x00#8, 0x52#8, 0x07#8, 0x12#8, 0x03#8, 0x01#8, 0x00#8, 0x00#8, 0x00#8, 0x00#8, 0x00#8, 0x01#8, 0x00#8, 0x00#8,
       0x00#8, 0x46#8, 0xd7#8, 0x2f#8, 0x39#8, 0x85#8, 0x00#8, 0xdb#8, 0x7d#8, 0x21#8, 0x1e#8, 0x42#8, 0x25#8, 0xe8#8, 0x03#8, 0x00#8, 0x00#8,
       0x00#8, 0x00#8, 0x70#8, 0x11#8, 0x01#8, 0x00#8, 0x03#8, 0x00#8, 0x01#8, 0x00#8, 0x00#8, 0x00#8, 0x39#8, 0x35#8, 0xe8#8,
       0x1d#8], State.reset, by decide +kernel⟩,
   ⟨none, true, [0x00#8, 0x00#8, 0x52#8, 0x11#8, 0x12#8, 0x03#8, 0x04#8, 0x00#8, 0x00#8, 0x00#8, 0x00#8, 0x00#8, 0x00#8, 0x00#8, 0x00#8,
       0x00#8, 0x19#8, 0x58#8, 0x9a#8, 0xec#8, 0x57#8, 0x00#8, 0xae#8, 0x3e#8, 0x43#8, 0x27#8, 0xf5#8, 0xf7#8, 0xe8#8, 0x03#8, 0x00#8, 0x00#8,
       0x00#8, 0x00#8, 0x70#8, 0x11#8, 0x01#8, 0x00#8, 0x03#8, 0x00#8, 0x01#8, 0x00#8, 0x00#8, 0x00#8, 0xfd#8, 0x5b#8, 0xba#8,
       0x41#8], State.reset, by decide +kernel⟩,
   ⟨none, true, [0x00#8, 0x00#8, 0x52#8, 0x11#8, 0x12#8, 0x03#8, 0x04#8, 0x00#8, 0x00#8, 0x00#8, 0x00#8, 0x00#8, 0x00#8, 0x00#8, 0x00#8,
       0x00#8, 0x19#8, 0x58#8, 0x9a#8, 0xec#8, 0x57#8, 0x00#8, 0xae#8, 0x3e#8, 0x43#8, 0x27#8, 0xf5#8, 0xf7#8, 0xe8#8, 0x03#8, 0x00#8, 0x00#8,
       0x00#8, 0x00#8, 0x70#8, 0x11#8, 0x01#8, 0x00#8, 0x03#8, 0x00#8, 0x01#8, 0x00#8, 0x00#8, 0x00#8, 0xfd#8, 0x5b#8, 0xba#8,
       0x41#8], put [(.GEN_ENUM_TWIN, 0, 1), (.GEN_ENUM_PLANE, 0, 1), (.GEN_ENUM_POSITION, 0, 2), (.TWN_STAT_LINK_LOST, 0,
       1)], by decide +kernel⟩,
   ⟨none, true, [0x00#8, 0x00#8, 0x76#8, 0x05#8, 0x12#8, 0x03#8, 0x11#8, 0x00#8, 0x00#8, 0x00#8, 0x00#8, 0x00#8, 0x00#8, 0x00#8, 0x00#8,
       0x00#8, 0xa0#8, 0xd5#8, 0x5a#8, 0xd2#8, 0xdf#8, 0x00#8, 0x35#8, 0xe0#8, 0x2d#8, 0x1d#8, 0xdb#8, 0x7f#8, 0xe8#8, 0x03#8, 0x00#8, 0x00#8,
       0x00#8, 0x00#8, 0x70#8, 0x11#8, 0x01#8, 0x00#8, 0x03#8, 0x00#8, 0x01#8, 0x00#8, 0x00#8, 0x00#8, 0x39#8, 0x83#8, 0xbb#8,
       0xab#8], put [(.GEN_ENUM_TWIN, 0, 1), (.GEN_ENUM_PLANE, 0, 1), (.GEN_ENUM_POSITION, 0, 2)], by decide +kernel⟩,
   ⟨none, true, [0x00#8, 0x00#8, 0x52#8, 0x11#8, 0x12#8, 0x03#8, 0x04#8, 0x00#8, 0x00#8, 0x00#8, 0x00#8, 0x00#8, 0x00#8, 0x00#8, 0x00#8,
       0x00#8, 0x19#8, 0x58#8, 0x9a#8, 0xec#8, 0x57#8, 0x00#8, 0xae#8, 0x3e#8, 0x43#8, 0x27#8, 0xf5#8, 0xf7#8, 0xe8#8, 0x03#8, 0x00#8, 0x00#8,
       0x00#8, 0x00#8, 0x70#8, 0x11#8, 0x01#8, 0x00#8, 0x03#8, 0x00#8, 0x01#8, 0x00#8, 0x00#8, 0x00#8, 0xfd#8, 0x5b#8, 0xba#8,
       0x41#8], put [(.GEN_ENUM_TWIN, 0, 1), (.GEN_ENUM_PLANE, 0, 1), (.GEN_ENUM_POSITION, 0, 2), (.GEN_BOOT_SEQ, 0,
       3307243421)], by decide +kernel⟩,
   ⟨none, true, [0x00#8, 0x00#8, 0x52#8, 0x11#8, 0x12#8, 0x03#8, 0x04#8, 0x00#8, 0x00#8, 0x00#8, 0x00#8, 0x00#8, 0x00#8, 0x00#8, 0x00#8, 0x00#8, 0x19#8, 0x58#8, 0x9a#8, 0xec#8, 0x57#8, 0x00#8, 0xae#8, 0x3e#8, 0x43#8, 0x27#8, 0xf5#8, 0xf7#8, 0xe8#8, 0x03#8, 0x00#8, 0x00#8, 0x00#8, 0x00#8, 0x70#8, 0x11#8, 0x01#8, 0x00#8, 0x03#8, 0x00#8, 0x01#8, 0x00#8, 0x00#8, 0x00#8, 0xfd#8, 0x5b#8, 0xba#8, 0x41#8], { put [(.GEN_ENUM_TWIN, 0, 1), (.GEN_ENUM_PLANE, 0, 1), (.GEN_ENUM_POSITION, 0, 2)] with hbSent := [(1, { sec := 1000, ns := 5, frac := 7 }), (0, { sec := 999, ns := 3, frac := 9 })] }, (1, { sec := 1000, ns := 5, frac := 7 }), by decide +kernel⟩,
   ⟨none, true, [0x00#8, 0x00#8, 0x52#8, 0x11#8, 0x12#8, 0x03#8, 0x01#8, 0x00#8, 0x00#8, 0x00#8, 0x00#8, 0x00#8, 0x01#8, 0x00#8, 0x00#8,
       0x00#8, 0x46#8, 0xd7#8, 0x2f#8, 0x39#8, 0x85#8, 0x00#8, 0xdb#8, 0x7d#8, 0x21#8, 0x1e#8, 0x42#8, 0x25#8, 0xe8#8, 0x03#8, 0x00#8, 0x00#8,
       0x00#8, 0x00#8, 0x70#8, 0x11#8, 0x01#8, 0x00#8, 0x03#8, 0x00#8, 0x01#8, 0x00#8, 0x00#8, 0x00#8, 0x39#8, 0x35#8, 0xe8#8,
       0x1d#8], put [(.CHECK_ENABLED, 21, 1), (.GEN_ENUM_TWIN, 0, 1), (.GEN_ENUM_PLANE, 0, 1), (.GEN_ENUM_POSITION, 0, 2)], by decide +kernel⟩,
   ⟨none, true, [0x00#8, 0x00#8, 0x52#8, 0x11#8, 0x12#8, 0x03#8, 0x14#8, 0x00#8, 0x00#8, 0x00#8, 0x00#8, 0x00#8, 0x02#8, 0x00#8, 0x00#8,
       0x00#8, 0x73#8, 0x56#8, 0xc5#8, 0x85#8, 0xb2#8, 0x00#8, 0x08#8, 0xa1#8, 0x4f#8, 0x26#8, 0x8e#8, 0x52#8, 0xe8#8, 0x03#8, 0x00#8, 0x00#8,
       0x00#8, 0x00#8, 0x70#8, 0x11#8, 0x01#8, 0x00#8, 0x03#8, 0x00#8, 0x01#8, 0x00#8, 0x00#8, 0x00#8, 0x20#8, 0x19#8, 0x12#8,
       0x03#8], put [(.GEN_ENUM_TWIN, 0, 1), (.GEN_ENUM_PLANE, 0, 1), (.GEN_ENUM_POSITION, 0, 2), (.TWN_STAT_CLAIM, 0, 1)], by decide +kernel⟩,
   ⟨none, true, [0x00#8, 0x00#8, 0x52#8, 0x11#8, 0x12#8, 0x03#8, 0x04#8, 0x00#8, 0x00#8, 0x00#8, 0x00#8, 0x00#8, 0x00#8, 0x00#8, 0x00#8,
       0x00#8, 0x19#8, 0x58#8, 0x9a#8, 0xec#8, 0x57#8, 0x00#8, 0xae#8, 0x3e#8, 0x43#8, 0x27#8, 0xf5#8, 0xf7#8, 0xe8#8, 0x03#8, 0x00#8, 0x00#8,
       0x00#8, 0x00#8, 0x70#8, 0x11#8, 0x01#8, 0x00#8, 0x03#8, 0x00#8, 0x01#8, 0x00#8, 0x00#8, 0x00#8, 0xfd#8, 0x5b#8, 0xba#8,
       0x41#8], put [(.GEN_ENUM_TWIN, 0, 1), (.GEN_ENUM_PLANE, 0, 1), (.GEN_ENUM_POSITION, 0, 2), (.TWN_STAT_CLAIM, 0, 1), (.PWR_STAT_STATE, 0,
       5)], by decide +kernel⟩,
   ⟨none, true, [0x00#8, 0x00#8, 0x52#8, 0x11#8, 0x12#8, 0x03#8, 0x04#8, 0x00#8, 0x00#8, 0x00#8, 0x00#8, 0x00#8, 0x00#8, 0x00#8, 0x00#8,
       0x00#8, 0x19#8, 0x58#8, 0x9a#8, 0xec#8, 0x57#8, 0x00#8, 0xae#8, 0x3e#8, 0x43#8, 0x27#8, 0xf5#8, 0xf7#8, 0xe8#8, 0x03#8, 0x00#8, 0x00#8,
       0x00#8, 0x00#8, 0x70#8, 0x11#8, 0x01#8, 0x00#8, 0x03#8, 0x00#8, 0x01#8, 0x00#8, 0x00#8, 0x00#8, 0xfd#8, 0x5b#8, 0xba#8,
       0x41#8], put [(.GEN_ENUM_TWIN, 0, 1), (.GEN_ENUM_PLANE, 0, 1), (.GEN_ENUM_POSITION, 0, 2), (.TWN_STAT_CLAIM, 0, 1)], by decide +kernel⟩,
   ⟨true, put [(.TWN_STAT_LINK_LOST, 0, 1)], by decide⟩,
   ⟨true, put [(.CHECK_ENABLED, 21, 1)], by decide⟩,
   ⟨true, put [(.CHECK_ENABLED, 21, 1)], by decide⟩,
   ⟨true, put [(.CHECK_ENABLED, 21, 1), (.TWN_STAT_READY, 0, 1)], by decide⟩,
   ⟨true, put [(.CHECK_ENABLED, 21, 1), (.TWN_STAT_CLAIM, 0, 1)], by decide⟩,
   ⟨true, { put [(.CHECK_ENABLED, 21, 1), (.TWN_STAT_MGMT_LOST, 0, 1), (.PWR_STAT_STATE, 0, 3)] with recovQueue := [{ source := 100, count := 2, concurrent := false, preempted := false }] }, by decide⟩,
   ⟨true, put [(.CHECK_ENABLED, 21, 1), (.TWN_STAT_TWIN_CLAIM, 0, 1), (.TWN_STAT_MGMT_LOST, 0, 1), (.PWR_STAT_STATE, 0, 3)], by decide⟩,
   ⟨true, put [(.CHECK_ENABLED, 21, 1), (.TWN_STAT_MGMT_LOST, 0, 1), (.TWN_STAT_MISMATCH, 0, 1), (.PWR_STAT_STATE, 0, 3)], by decide⟩⟩

/-- Hypotheses of TakeoverAndRelease. -/
theorem witness_TakeoverAndRelease :
    (∃ (s : State), s.running .twin = false ∨ s.flag .TWN_STAT_CLAIM = true ∨ s.flag .TWN_STAT_TWIN_CLAIM = true ∨ s.flag .TWN_VETO = true)
    ∧ (∃ (s : State), (s.running .twin = true) ∧ (s.flag .TWN_STAT_CLAIM = false) ∧ (s.flag .TWN_STAT_TWIN_CLAIM = false)
        ∧ (s.flag .TWN_VETO = false) ∧ (s.get .PWR_STAT_STATE = 3) ∧ (s.recovering = true))
    ∧ (∃ (s : State), (s.running .twin = true) ∧ (s.flag .TWN_STAT_CLAIM = false) ∧ (s.flag .TWN_STAT_TWIN_CLAIM = false)
        ∧ (s.flag .TWN_VETO = false) ∧ (s.get .PWR_STAT_STATE = 3) ∧ (s.recovering = false) ∧ (s.flag .TWN_STAT_MISMATCH = true
        ∨ s.flag .TWN_CTRL_AUTO = false))
    ∧ (∃ (s : State), (s.running .twin = true) ∧ (s.flag .TWN_STAT_CLAIM = false) ∧ (s.flag .TWN_STAT_TWIN_CLAIM = false)
        ∧ (s.flag .TWN_VETO = false) ∧ (s.get .PWR_STAT_STATE = 3) ∧ (s.recovering = false) ∧ (s.flag .TWN_STAT_MISMATCH = false)
        ∧ (s.flag .TWN_CTRL_AUTO = true))
    ∧ (∃ (m : Master) (v : Nat) (s : State), (Passes m 20447244 s) ∧ (bitsAt v 1 1 = 1))
    ∧ (∃ (m : Master) (v : Nat) (s : State) (c : Nat), (Passes m 20447244 s) ∧ (c = if s.get .PWR_STAT_STATE ≠ 2
        ∧ s.get .PWR_STAT_STATE ≠ 3 then 8 else if s.flag .TWN_STAT_CLAIM = true ∨ s.running .twin = false ∨ s.flag .TWN_DROP = false
        ∧ (s.flag .TWN_STAT_LINK_LOST = false
        ∨ s.flag .TWN_STAT_MGMT_LOST = false) then 226 else if s.recovering = true then 227 else if s.flag .TWN_STAT_MISMATCH = true then 224 else if s.flag .TWN_STAT_TWIN_CLAIM = true then 225 else 0)
        ∧ (bitsAt v 1 1 = 0) ∧ (c ≠ 0))
    ∧ (∃ (m : Master) (v : Nat) (s : State) (c : Nat), (Passes m 20447244 s) ∧ (c = if s.get .PWR_STAT_STATE ≠ 2
        ∧ s.get .PWR_STAT_STATE ≠ 3 then 8 else if s.flag .TWN_STAT_CLAIM = true ∨ s.running .twin = false ∨ s.flag .TWN_DROP = false
        ∧ (s.flag .TWN_STAT_LINK_LOST = false
        ∨ s.flag .TWN_STAT_MGMT_LOST = false) then 226 else if s.recovering = true then 227 else if s.flag .TWN_STAT_MISMATCH = true then 224 else if s.flag .TWN_STAT_TWIN_CLAIM = true then 225 else 0)
        ∧ (bitsAt v 1 1 = 0) ∧ (c = 0) ∧ (s.flag .TWN_DROP = true))
    ∧ (∃ (m : Master) (v : Nat) (s : State) (c : Nat), (Passes m 20447244 s) ∧ (c = if s.get .PWR_STAT_STATE ≠ 2
        ∧ s.get .PWR_STAT_STATE ≠ 3 then 8 else if s.flag .TWN_STAT_CLAIM = true ∨ s.running .twin = false ∨ s.flag .TWN_DROP = false
        ∧ (s.flag .TWN_STAT_LINK_LOST = false
        ∨ s.flag .TWN_STAT_MGMT_LOST = false) then 226 else if s.recovering = true then 227 else if s.flag .TWN_STAT_MISMATCH = true then 224 else if s.flag .TWN_STAT_TWIN_CLAIM = true then 225 else 0)
        ∧ (bitsAt v 1 1 = 0) ∧ (c = 0) ∧ (s.flag .TWN_DROP = false))
    ∧ (∃ (m : Master) (s : State), (Passes m 20447244 s) ∧ (s.flag .TWN_STAT_CLAIM = true) ∧ (s.twinHeard = true)
        ∧ (s.get .TWN_TWIN_POWER = 3) ∧ (bitsAt (s.get .TWN_STAT_TWIN_FLAGS) 2 2 = 1) ∧ (s.flag .TWN_STAT_MISMATCH = false))
    ∧ (∃ (m : Master) (s : State), (Passes m 20447244 s) ∧ (s.flag .TWN_STAT_CLAIM = false ∨ s.twinHeard = false ∨ s.get .TWN_TWIN_POWER ≠ 3
        ∨ bitsAt (s.get .TWN_STAT_TWIN_FLAGS) 2 2 ≠ 1 ∨ s.flag .TWN_STAT_MISMATCH = true)) :=
  ⟨⟨put [(.TWN_STAT_CLAIM, 0, 1)], by decide⟩,
   ⟨{ put [(.CHECK_ENABLED, 21, 1), (.PWR_STAT_STATE, 0, 3)] with recovQueue := [{ source := 100, count := 2, concurrent := false, preempted := false }] }, by decide⟩,
   ⟨put [(.CHECK_ENABLED, 21, 1), (.TWN_CTRL_AUTO, 0, 0), (.PWR_STAT_STATE, 0, 3)], by decide⟩,
   ⟨put [(.CHECK_ENABLED, 21, 1), (.PWR_STAT_STATE, 0, 3)], by decide⟩,
   ⟨Master.st 1, 3, State.reset, by decide⟩,
   ⟨Master.st 1, 1, put [(.PWR_STAT_STATE, 0, 3)], 226, by decide⟩,
   ⟨Master.st 1, 1, put [(.CHECK_ENABLED, 21, 1), (.TWN_DROP, 0, 1), (.PWR_STAT_STATE, 0, 3)], 0, by decide⟩,
   ⟨Master.st 1, 1, put [(.CHECK_ENABLED, 21, 1), (.TWN_STAT_LINK_LOST, 0, 1), (.TWN_STAT_MGMT_LOST, 0, 1), (.PWR_STAT_STATE, 0, 2)], 0, by decide⟩,
   ⟨Master.st 1, put [(.TWN_LINK_SEEN, 0, 1), (.TWN_STAT_CLAIM, 0, 1), (.TWN_STAT_TWIN_FLAGS, 0, 4), (.TWN_TWIN_POWER, 0, 3)], by decide⟩,
   ⟨Master.st 1, State.reset, by decide⟩⟩

/-- Hypotheses of StandbyResynchronises. -/
theorem witness_StandbyResynchronises :
    (∃ (kind : Nat) (index : Nat) (n : Nat) (s : State), s.resyncDue kind = false ∨ s.resyncFits kind index n = false)
    ∧ (∃ (kind : Nat) (s : State), (s.flag .TWN_STAT_CLAIM = false) ∧ (kind < 5))
    ∧ (∃ (kind : Nat) (index : Nat) (n : Nat) (s : State), (s.resyncDue kind = true) ∧ (s.resyncFits kind index n = true))
    ∧ (∃ (bs : List Byte) (s : State), s.running .twin = false ∨ msgCrcGood bs = false ∨ msgField bs 0 1 ≠ 1 ∨ msgField bs 2 1 = 0
        ∨ 5 < msgField bs 2 1 ∨ 28 < msgField bs 6 2 ∨ msgField bs 6 2 % itemSize (msgField bs 2 1) ≠ 0 ∨ bs.length ≠ msgField bs 6 2 + 12)
    ∧ (∃ (bs : List Byte) (s : State), (s.running .twin = true) ∧ (s.flag .TWN_STAT_CLAIM = false) ∧ (msgCrcGood bs = true)
        ∧ (msgField bs 0 1 = 1) ∧ (bs.length = msgField bs 6 2 + 12) ∧ (msgField bs 2 1 = 5) ∧ (msgField bs 6 2 = 4))
    ∧ (∃ (bs : List Byte) (s : State), (s.running .twin = true) ∧ (s.flag .TWN_STAT_CLAIM = false) ∧ (msgCrcGood bs = true)
        ∧ (msgField bs 0 1 = 1) ∧ (bs.length = msgField bs 6 2 + 12) ∧ (msgField bs 2 1 = 1) ∧ (msgField bs 6 2 = 4) ∧ (∃ e, e < 96
        ∧ e ≠ msgField bs 4 2 ∧ s.flag .TWN_COPY_ATL_SEEN e = false) ∧ (msgField bs 4 2 < 96) ∧ (s.get .PWR_STAT_STATE = 3)
        ∧ (s.get .TWN_STAT_SYNC = 2) ∧ (s.flag .TWN_STAT_MISMATCH = false) ∧ (s.flag .TWN_STAT_LINK_LOST = false)
        ∧ (msgField bs 4 2 < s.variant.mediaLanes) ∧ ((s.commitOf (msgField bs 4 2)).isNone = true)
        ∧ (liveWord (s.liveWord0 (msgField bs 4 2)) ≠ liveWord (msgField bs 8 4)))
    ∧ (∃ (bs : List Byte) (s : State), (s.running .twin = true) ∧ (s.flag .TWN_STAT_CLAIM = false) ∧ (msgCrcGood bs = true)
        ∧ (msgField bs 0 1 = 1) ∧ (bs.length = msgField bs 6 2 + 12) ∧ (msgField bs 2 1 = 1) ∧ (msgField bs 6 2 = 4) ∧ (∃ e, e < 96
        ∧ e ≠ msgField bs 4 2 ∧ s.flag .TWN_COPY_ATL_SEEN e = false) ∧ (s.isRemote (bitsAt (msgField bs 8 4) 0 11) = false))
    ∧ (∃ (bs : List Byte) (s : State), (s.running .twin = true) ∧ (s.flag .TWN_STAT_CLAIM = false) ∧ (msgCrcGood bs = true)
        ∧ (msgField bs 0 1 = 1) ∧ (bs.length = msgField bs 6 2 + 12) ∧ (msgField bs 2 1 = 2) ∧ (msgField bs 6 2 = 4) ∧ (∃ e, e < 96
        ∧ s.flag .TWN_COPY_ATL_SEEN e = false) ∧ (msgField bs 4 2 < s.matrixSize) ∧ (s.get .PWR_STAT_STATE = 3) ∧ (s.get .TWN_STAT_SYNC = 2)
        ∧ (s.flag .TWN_STAT_MISMATCH = false) ∧ (s.flag .TWN_STAT_LINK_LOST = false)
        ∧ (s.get .AUD_LIVE_SOURCE (msgField bs 4 2) ≠ bitsAt (msgField bs 8 4) 0 18))
    ∧ (∃ (bs : List Byte) (s : State), (s.running .twin = true) ∧ (s.flag .TWN_STAT_CLAIM = false) ∧ (msgCrcGood bs = true)
        ∧ (msgField bs 0 1 = 1) ∧ (bs.length = msgField bs 6 2 + 12) ∧ (msgField bs 2 1 = 2) ∧ (msgField bs 6 2 = 4) ∧ (∃ e, e < 96
        ∧ s.flag .TWN_COPY_ATL_SEEN e = false) ∧ (s.matrixSize ≤ msgField bs 4 2))
    ∧ (∃ (bs : List Byte) (own : List Stamp) (s : State) (i : Nat) (f : Nat) (o : Stamp) (dt : Nat), (s.running .twin = true)
        ∧ (s.flag .TWN_STAT_CLAIM = false) ∧ (msgCrcGood bs = true) ∧ (msgField bs 0 1 = 1) ∧ (bs.length = msgField bs 6 2 + 12)
        ∧ (i = msgField bs 4 2) ∧ (f = s.formatOf (96 * s.position + i)) ∧ (msgField bs 2 1 = 3) ∧ (msgField bs 6 2 = 12)
        ∧ (s.get .PWR_STAT_STATE = 3) ∧ (s.running .input i = true) ∧ (msgField bs 8 4 = s.get .ATL_N_RECENT f % 2 ^ 32) ∧ (own.head? = some o)
        ∧ (dt = (ns32 o.sec o.ns - ns32 (msgField bs 12 4) (msgField bs 16 4)).natAbs)
        ∧ (dt ≤ (framePeriod f).fst * 1000000000 / (2 * (framePeriod f).snd)))
    ∧ (∃ (bs : List Byte) (own : List Stamp) (s : State) (i : Nat) (f : Nat) (o : Stamp) (dt : Nat), (s.running .twin = true)
        ∧ (s.flag .TWN_STAT_CLAIM = false) ∧ (msgCrcGood bs = true) ∧ (msgField bs 0 1 = 1) ∧ (bs.length = msgField bs 6 2 + 12)
        ∧ (i = msgField bs 4 2) ∧ (f = s.formatOf (96 * s.position + i)) ∧ (msgField bs 2 1 = 3) ∧ (msgField bs 6 2 = 12)
        ∧ (s.get .PWR_STAT_STATE = 3) ∧ (s.running .input i = true) ∧ (msgField bs 8 4 = s.get .ATL_N_RECENT f % 2 ^ 32) ∧ (own.head? = some o)
        ∧ (dt = (ns32 o.sec o.ns - ns32 (msgField bs 12 4) (msgField bs 16 4)).natAbs)
        ∧ ((framePeriod f).fst * 1000000000 / (2 * (framePeriod f).snd) < dt) ∧ (s.flag .TWN_STAT_READY = true))
    ∧ (∃ (bs : List Byte) (own : List Stamp) (s : State) (i : Nat) (f : Nat) (o : Stamp) (dt : Nat), (s.running .twin = true)
        ∧ (s.flag .TWN_STAT_CLAIM = false) ∧ (msgCrcGood bs = true) ∧ (msgField bs 0 1 = 1) ∧ (bs.length = msgField bs 6 2 + 12)
        ∧ (i = msgField bs 4 2) ∧ (f = s.formatOf (96 * s.position + i)) ∧ (msgField bs 2 1 = 3) ∧ (msgField bs 6 2 = 12)
        ∧ (s.get .PWR_STAT_STATE = 3) ∧ (s.running .input i = true) ∧ (msgField bs 8 4 = s.get .ATL_N_RECENT f % 2 ^ 32) ∧ (own.head? = some o)
        ∧ (dt = (ns32 o.sec o.ns - ns32 (msgField bs 12 4) (msgField bs 16 4)).natAbs)
        ∧ ((framePeriod f).fst * 1000000000 / (2 * (framePeriod f).snd) < dt) ∧ (s.flag .TWN_STAT_READY = false) ∧ (s.get .TWN_STAT_SYNC = 4)
        ∧ (s.flag .TWN_STAT_MISMATCH = false) ∧ (s.flag .TWN_STAT_LINK_LOST = false) ∧ (1 < s.get .IN_READ i)
        ∧ (ns32 (msgField bs 12 4) (msgField bs 16 4) < ns32 o.sec o.ns))
    ∧ (∃ (bs : List Byte) (own : List Stamp) (s : State) (i : Nat) (f : Nat) (o : Stamp) (dt : Nat), (s.running .twin = true)
        ∧ (s.flag .TWN_STAT_CLAIM = false) ∧ (msgCrcGood bs = true) ∧ (msgField bs 0 1 = 1) ∧ (bs.length = msgField bs 6 2 + 12)
        ∧ (i = msgField bs 4 2) ∧ (f = s.formatOf (96 * s.position + i)) ∧ (msgField bs 2 1 = 3) ∧ (msgField bs 6 2 = 12)
        ∧ (s.get .PWR_STAT_STATE = 3) ∧ (s.running .input i = true) ∧ (msgField bs 8 4 = s.get .ATL_N_RECENT f % 2 ^ 32) ∧ (own.head? = some o)
        ∧ (dt = (ns32 o.sec o.ns - ns32 (msgField bs 12 4) (msgField bs 16 4)).natAbs)
        ∧ ((framePeriod f).fst * 1000000000 / (2 * (framePeriod f).snd) < dt) ∧ (s.flag .TWN_STAT_READY = false) ∧ (s.get .TWN_STAT_SYNC = 4)
        ∧ (s.flag .TWN_STAT_MISMATCH = false) ∧ (s.flag .TWN_STAT_LINK_LOST = false) ∧ (1 < s.get .IN_READ i)
        ∧ (ns32 o.sec o.ns < ns32 (msgField bs 12 4) (msgField bs 16 4)))
    ∧ (∃ (k : Nat) (s : State), (k = s.get .TWN_STAT_SYNC) ∧ (s.syncing k = false ∨ k = 0 ∨ 4 < k))
    ∧ (∃ (k : Nat) (s : State), (k = s.get .TWN_STAT_SYNC) ∧ (s.syncing k = true) ∧ (k = 1) ∧ (s.running .tb = false
        ∨ s.flag .TWN_OFF_IN = false ∨ s.tick < s.get .TWN_OFF_TICK + 400000000))
    ∧ (∃ (k : Nat) (s : State), (k = s.get .TWN_STAT_SYNC) ∧ (s.syncing k = true) ∧ (k = 2))
    ∧ (∃ (k : Nat) (s : State), (k = s.get .TWN_STAT_SYNC) ∧ (s.syncing k = true) ∧ (k = 3) ∧ (s.liveReady = true))
    ∧ (∃ (k : Nat) (s : State), (k = s.get .TWN_STAT_SYNC) ∧ (s.syncing k = true) ∧ (k = 3) ∧ (s.liveReady = false))
    ∧ (∃ (k : Nat) (s : State), (k = s.get .TWN_STAT_SYNC) ∧ (s.syncing k = true) ∧ (k = 4) ∧ (∀ (i : Nat), i < 96 →
        s.running .input i = true → 2 ≤ s.get .TWN_MATCH i) ∧ (bitsAt (s.get .TWN_EVT) 5 1 = 0) ∧ (bitsAt (s.get .TWN_EVT_EN) 5 1 = 1))
    ∧ (∃ (k : Nat) (s : State) (i : Nat), (k = s.get .TWN_STAT_SYNC) ∧ (s.syncing k = true) ∧ (k = 4) ∧ (i < 96)
        ∧ (s.running .input i = true) ∧ (s.get .TWN_MATCH i < 2)) :=
  ⟨⟨1, 1, 1, State.reset, by decide⟩,
   ⟨1, State.reset, by decide⟩,
   ⟨1, 1, 1, put [(.CHECK_ENABLED, 21, 1), (.TWN_LINK_SEEN, 0, 1), (.TWN_STAT_CLAIM, 0, 1)], by decide⟩,
   ⟨[0x01#8, 0x05#8, 0x01#8, 0x00#8, 0x03#8, 0x00#8, 0x04#8, 0x00#8, 0xc8#8, 0x00#8, 0x00#8, 0x40#8, 0xe7#8, 0x79#8, 0xe2#8,
       0xe7#8], State.reset, by decide⟩,
   ⟨[0x01#8, 0x05#8, 0x05#8, 0x00#8, 0x00#8, 0x00#8, 0x04#8, 0x00#8, 0x01#8, 0x02#8, 0x03#8, 0x04#8, 0x2c#8, 0x5a#8, 0xe6#8,
       0xe0#8], put [(.CHECK_ENABLED, 21, 1)], by decide +kernel⟩,
   ⟨[0x01#8, 0x05#8, 0x01#8, 0x00#8, 0x09#8, 0x00#8, 0x04#8, 0x00#8, 0xc8#8, 0x00#8, 0x00#8, 0x40#8, 0xe7#8, 0x79#8, 0xe2#8,
       0xe7#8], put [(.CHECK_ENABLED, 21, 1), (.TWN_STAT_SYNC, 0, 2), (.PWR_STAT_STATE, 0, 3)], by decide +kernel⟩,
   ⟨[0x01#8, 0x05#8, 0x01#8, 0x00#8, 0x09#8, 0x00#8, 0x04#8, 0x00#8, 0xc8#8, 0x00#8, 0x00#8, 0x40#8, 0xe7#8, 0x79#8, 0xe2#8,
       0xe7#8], put [(.CHECK_ENABLED, 21, 1), (.GEN_ENUM_POS_VALID, 0, 1), (.GEN_ENUM_POSITION, 0, 2)], by decide +kernel⟩,
   ⟨[0x01#8, 0x05#8, 0x02#8, 0x00#8, 0x4d#8, 0x00#8, 0x04#8, 0x00#8, 0x07#8, 0x01#8, 0x02#8, 0x00#8, 0x7e#8, 0x38#8, 0xd4#8,
       0x51#8], put [(.CHECK_ENABLED, 21, 1), (.TWN_STAT_SYNC, 0, 2), (.PWR_STAT_STATE, 0, 3)], by decide +kernel⟩,
   ⟨[0x01#8, 0x05#8, 0x02#8, 0x00#8, 0x60#8, 0xea#8, 0x04#8, 0x00#8, 0x07#8, 0x01#8, 0x02#8, 0x00#8, 0x87#8, 0x88#8, 0x67#8,
       0x5a#8], put [(.CHECK_ENABLED, 21, 1)], by decide +kernel⟩,
   ⟨[0x01#8, 0x05#8, 0x03#8, 0x00#8, 0x05#8, 0x00#8, 0x0c#8, 0x00#8, 0x4d#8, 0x00#8, 0x00#8, 0x00#8, 0xe8#8, 0x03#8, 0x00#8, 0x00#8, 0x32#8, 0x00#8, 0x00#8, 0x00#8, 0xfe#8, 0x0c#8, 0x42#8, 0x40#8], [{ sec := 1000, ns := 3000, frac := 0 }], put [(.CHECK_ENABLED, 21, 1), (.CHECK_ENABLED, 161, 1), (.GEN_ENUM_POSITION, 0, 2), (.GAZ_W1_FORMAT, 197, 49), (.ATL_N_RECENT, 49, 77), (.PWR_STAT_STATE, 0, 3)], 5, 49, { sec := 1000, ns := 3000, frac := 0 }, 2950, by decide +kernel⟩,
   ⟨[0x01#8, 0x05#8, 0x03#8, 0x00#8, 0x05#8, 0x00#8, 0x0c#8, 0x00#8, 0x4d#8, 0x00#8, 0x00#8, 0x00#8, 0xe8#8, 0x03#8, 0x00#8, 0x00#8, 0x32#8, 0x00#8, 0x00#8, 0x00#8, 0xfe#8, 0x0c#8, 0x42#8, 0x40#8], [{ sec := 1001, ns := 3000, frac := 0 }], put [(.CHECK_ENABLED, 21, 1), (.CHECK_ENABLED, 161, 1), (.GEN_ENUM_POSITION, 0, 2), (.GAZ_W1_FORMAT, 197, 49), (.ATL_N_RECENT, 49, 77), (.TWN_STAT_READY, 0, 1), (.PWR_STAT_STATE, 0, 3)], 5, 49, { sec := 1001, ns := 3000, frac := 0 }, 1000002950, by decide +kernel⟩,
   ⟨[0x01#8, 0x05#8, 0x03#8, 0x00#8, 0x05#8, 0x00#8, 0x0c#8, 0x00#8, 0x4d#8, 0x00#8, 0x00#8, 0x00#8, 0xe8#8, 0x03#8, 0x00#8, 0x00#8, 0x32#8, 0x00#8, 0x00#8, 0x00#8, 0xfe#8, 0x0c#8, 0x42#8, 0x40#8], [{ sec := 1001, ns := 3000, frac := 0 }], put [(.CHECK_ENABLED, 21, 1), (.CHECK_ENABLED, 161, 1), (.GEN_ENUM_POSITION, 0, 2), (.GAZ_W1_FORMAT, 197, 49), (.ATL_N_RECENT, 49, 77), (.IN_READ, 5, 900), (.TWN_STAT_SYNC, 0, 4), (.PWR_STAT_STATE, 0, 3)], 5, 49, { sec := 1001, ns := 3000, frac := 0 }, 1000002950, by decide +kernel⟩,
   ⟨[0x01#8, 0x05#8, 0x03#8, 0x00#8, 0x05#8, 0x00#8, 0x0c#8, 0x00#8, 0x4d#8, 0x00#8, 0x00#8, 0x00#8, 0xe8#8, 0x03#8, 0x00#8, 0x00#8, 0x00#8, 0xe1#8, 0xf5#8, 0x05#8, 0xf0#8, 0xd7#8, 0x60#8, 0xe5#8], [{ sec := 1000, ns := 3000, frac := 0 }], put [(.CHECK_ENABLED, 21, 1), (.CHECK_ENABLED, 161, 1), (.GEN_ENUM_POSITION, 0, 2), (.GAZ_W1_FORMAT, 197, 49), (.ATL_N_RECENT, 49, 77), (.IN_READ, 5, 900), (.TWN_STAT_SYNC, 0, 4), (.PWR_STAT_STATE, 0, 3)], 5, 49, { sec := 1000, ns := 3000, frac := 0 }, 99997000, by decide +kernel⟩,
   ⟨0, State.reset, by decide⟩,
   ⟨1, put [(.CHECK_ENABLED, 21, 1), (.TWN_STAT_SYNC, 0, 1), (.PWR_STAT_STATE, 0, 3)], by decide⟩,
   ⟨2, put [(.CHECK_ENABLED, 21, 1), (.TWN_STAT_SYNC, 0, 2), (.PWR_STAT_STATE, 0, 3)], by decide⟩,
   ⟨3, put [(.CHECK_ENABLED, 21, 1), (.TWN_STAT_SYNC, 0, 3), (.PWR_STAT_STATE, 0, 3)], by decide⟩,
   ⟨3, put [(.CHECK_ENABLED, 21, 1), (.CHECK_ENABLED, 98, 1), (.ATL_LIVE_SOURCE, 3, 999), (.TWN_STAT_SYNC, 0, 3), (.PWR_STAT_STATE, 0,
       3)], by decide⟩,
   ⟨4, put [(.CHECK_ENABLED, 21, 1), (.TWN_STAT_SYNC, 0, 4), (.TWN_MATCH, 5, 2), (.PWR_STAT_STATE, 0, 3)], by decide⟩,
   ⟨4, put [(.CHECK_ENABLED, 21, 1), (.CHECK_ENABLED, 161, 1), (.TWN_STAT_SYNC, 0, 4), (.PWR_STAT_STATE, 0, 3)], 5, by decide⟩⟩

/-- Hypotheses of SafetyInputsDecideTheOverride. -/
theorem witness_SafetyInputsDecideTheOverride :
    (∃ (i : Nat) (s : State), 2 ≤ i ∨ s.flag .FLD_DIE_OFF = true)
    ∧ (∃ (i : Nat) (ohms : Nat) (s : State) (b : Nat), (b = if ohms < 250 then 3 else if 500 ≤ ohms ∧ ohms ≤ 1500 then 1 else if 3300 ≤ ohms
        ∧ ohms ≤ 6800 then 0 else if 15000 < ohms then 2 else 4) ∧ (i < 2) ∧ (s.flag .FLD_DIE_OFF = false))
    ∧ (∃ (is : List Nat) (s : State) (i : Nat), (∀ (i : Nat), i < 2 → s.get .FLD_RUN_BAND i < 8 ∧ s.get .FLD_DIE_BAND i < 8
        ∧ s.safetyState i < 8) ∧ (s.inQuiet = false) ∧ (i < 2) ∧ ((result (execBandRecognised is s)).get .FLD_DIE_BAND i ≠ s.get .FLD_DIE_BAND i)
        ∧ ((result (execBandRecognised is s)).get .FLD_DIE_BAND i = 1))
    ∧ (∃ (is : List Nat) (s : State) (i : Nat), (∀ (i : Nat), i < 2 → s.get .FLD_RUN_BAND i < 8 ∧ s.get .FLD_DIE_BAND i < 8
        ∧ s.safetyState i < 8) ∧ (s.inQuiet = false) ∧ (i < 2) ∧ ((result (execBandRecognised is s)).get .FLD_DIE_BAND i ≠ s.get .FLD_DIE_BAND i)
        ∧ ((result (execBandRecognised is s)).get .FLD_DIE_BAND i = 0))
    ∧ (∃ (is : List Nat) (s : State) (i : Nat), (∀ (i : Nat), i < 2 → s.get .FLD_RUN_BAND i < 8 ∧ s.get .FLD_DIE_BAND i < 8
        ∧ s.safetyState i < 8) ∧ (s.inQuiet = false) ∧ (i < 2) ∧ ((result (execBandRecognised is s)).get .FLD_DIE_BAND i ≠ 0)
        ∧ ((result (execBandRecognised is s)).get .FLD_DIE_BAND i ≠ 1))
    ∧ (∃ (is : List Nat) (s : State) (i : Nat), (∀ (i : Nat), i < 2 → s.get .FLD_RUN_BAND i < 8 ∧ s.get .FLD_DIE_BAND i < 8
        ∧ s.safetyState i < 8) ∧ (s.inQuiet = false) ∧ (i < 2) ∧ (s.flag .FLD_STAT_LINK_UP = true) ∧ (s.flag (holdsField i) = false)
        ∧ ((result (execBandRecognised is s)).flag (holdsField i) = true) ∧ (s.flag .FLD_SAFE_STAT_ARMED = false))
    ∧ (∃ (is : List Nat) (s : State) (i : Nat), (∀ (i : Nat), i < 2 → s.get .FLD_RUN_BAND i < 8 ∧ s.get .FLD_DIE_BAND i < 8
        ∧ s.safetyState i < 8) ∧ (s.inQuiet = false) ∧ (i < 2) ∧ (s.flag .FLD_STAT_LINK_UP = true)
        ∧ (s.safetyState i ≠ (result (execBandRecognised is s)).get .FLD_DIE_BAND i) ∧ (2 ≤ (result (execBandRecognised is s)).get .FLD_DIE_BAND i)
        ∧ ((result (execBandRecognised is s)).get .FLD_DIE_BAND i ≤ 4)
        ∧ (s.safetyState (1 - i) = (result (execBandRecognised is s)).get .FLD_DIE_BAND (1 - i)))
    ∧ (∃ (is : List Nat) (s : State), (∀ (i : Nat), i < 2 → s.get .FLD_RUN_BAND i < 8 ∧ s.get .FLD_DIE_BAND i < 8 ∧ s.safetyState i < 8)
        ∧ (s.inQuiet = false) ∧ (s.flag .FLD_STAT_LINK_UP = true)
        ∧ ((result (execBandRecognised is s)).flag .FLD_SAFE_STAT_OVERRIDE ≠ s.flag .FLD_SAFE_STAT_OVERRIDE))
    ∧ (∃ (s : State), (∀ (i : Nat), i < 2 → s.get .FLD_RUN_BAND i < 8 ∧ s.get .FLD_DIE_BAND i < 8 ∧ s.safetyState i < 8)
        ∧ (s.inQuiet = false) ∧ (s.flag .FLD_STAT_LINK_UP = false))
    ∧ (∃ (s : State), s.handedOver = false ∨ s.flag .FLD_SAFE_STAT_ARMED = true)
    ∧ (∃ (s : State), (s.handedOver = true) ∧ (s.flag .FLD_SAFE_STAT_ARMED = false) ∧ (s.flag .FLD_SAFE_STAT_OVERRIDE = false)
        ∧ (s.flag .FLD_SAFE_STAT_HOLDS0 = true ∨ s.flag .FLD_SAFE_STAT_HOLDS1 = true) ∧ (s.inQuiet = true))
    ∧ (∃ (s : State), (s.handedOver = true) ∧ (s.flag .FLD_SAFE_STAT_ARMED = false) ∧ (s.inQuiet = false))
    ∧ (∃ (i : Nat) (s : State), 2 ≤ i ∨ s.flag (ackedField i) = true ∨ s.safetyState i = 0 ∨ 4 < s.safetyState i)
    ∧ (∃ (i : Nat) (s : State), (i < 2) ∧ (s.flag (ackedField i) = false) ∧ (s.safetyState i = 1))
    ∧ (∃ (i : Nat) (s : State), (i < 2) ∧ (s.flag (ackedField i) = false) ∧ (2 ≤ s.safetyState i) ∧ (s.safetyState i ≤ 4))
    ∧ (∃ (m : Master) (s : State), (Passes m 20709408 s) ∧ (s.get .SEC_RESULT_BUSY = 0) ∧ (s.get .SEC_DBG_LOCKOUT = 0) ∧ (s.get .PWR_STAT_STATE = 1))
    ∧ (∃ (m : Master) (slot : Nat) (s : State), (Passes m 20709408 s) ∧ (s.get .SEC_RESULT_BUSY = 0) ∧ (s.get .SEC_DBG_LOCKOUT = 0)
        ∧ (s.get .PWR_STAT_STATE ≠ 1) ∧ (s.inForce.lifecycle < 4) ∧ (s.nonceValid = true) ∧ (if s.inForce.lifecycle = 0
        ∨ s.inForce.lifecycle = 3 then slot = 128 else s.isSafetyOwner slot = true)) :=
  ⟨⟨0, put [(.FLD_DIE_OFF, 0, 1)], by decide⟩,
   ⟨0, 0, State.reset, 3, by decide⟩,
   ⟨[0], put [(.FLD_RUN_BAND, 0, 1), (.FLD_RUN, 0, 25)], 0, by decide⟩,
   ⟨[0], put [(.FLD_RUN_BAND, 0, 0), (.FLD_RUN, 0, 1000)], 0, by decide⟩,
   ⟨[0], State.reset, 0, by decide⟩,
   ⟨[0], put [(.FLD_STAT_LINK_UP, 0, 1), (.FLD_RUN_BAND, 0, 1), (.FLD_RUN, 0, 25)], 0, by decide⟩,
   ⟨[0], put [(.FLD_STAT_LINK_UP, 0, 1), (.FLD_SAFE_STAT_STATE1, 0, 1), (.FLD_RUN_BAND, 0, 3), (.FLD_RUN, 0, 1000), (.FLD_DIE_BAND, 1,
       1)], 0, by decide⟩,
   ⟨[0], put [(.FLD_STAT_LINK_UP, 0, 1), (.FLD_SAFE_STAT_ARMED, 0, 1), (.FLD_SAFE_STAT_HOLDS1, 0, 1)], by decide⟩,
   ⟨State.reset, by decide⟩,
   ⟨put [(.FLD_SAFE_STAT_ARMED, 0, 1)], by decide⟩,
   ⟨put [(.GEN_BOOT_STAT_PHASE, 0, 6), (.PWR_STAT_STATE, 0, 4), (.FLD_SAFE_STAT_HOLDS1, 0, 1)], by decide⟩,
   ⟨put [(.GEN_BOOT_STAT_PHASE, 0, 6)], by decide⟩,
   ⟨0, State.reset, by decide⟩,
   ⟨0, put [(.FLD_SAFE_STAT_STATE0, 0, 1)], by decide⟩,
   ⟨0, put [(.FLD_SAFE_STAT_STATE0, 0, 2)], by decide⟩,
   ⟨Master.st 1, State.reset, by decide⟩,
   ⟨Master.st 1, 128, { put [(.PWR_STAT_STATE, 0, 4)] with nonceAt := some 0 }, by decide⟩⟩

/-- Hypotheses of GpiEdgesAreReported. -/
theorem witness_GpiEdgesAreReported :
    (∃ (n : Nat) (active : Bool) (s : State), 32 ≤ n ∨ s.running .field = false ∨ s.flag .FLD_STAT_SUPPLY_OK = false
        ∨ s.flag .FLD_DIE_OFF = true ∨ s.flag .FLD_GPI_REC n = active)
    ∧ (∃ (n : Nat) (active : Bool) (s : State), (n < 32) ∧ (s.running .field = true) ∧ (s.flag .FLD_STAT_SUPPLY_OK = true)
        ∧ (s.flag .FLD_DIE_OFF = false) ∧ (s.flag .FLD_GPI_REC n = !active) ∧ (s.flag .FLD_STAT_LINK_UP = false))
    ∧ (∃ (n : Nat) (active : Bool) (s : State), (n < 32) ∧ (s.running .field = true) ∧ (s.flag .FLD_STAT_SUPPLY_OK = true)
        ∧ (s.flag .FLD_DIE_OFF = false) ∧ (s.flag .FLD_GPI_REC n = !active) ∧ (s.flag .FLD_STAT_LINK_UP = true) ∧ (active = false))
    ∧ (∃ (n : Nat) (active : Bool) (s : State), (n < 32) ∧ (s.running .field = true) ∧ (s.flag .FLD_STAT_SUPPLY_OK = true)
        ∧ (s.flag .FLD_DIE_OFF = false) ∧ (s.flag .FLD_GPI_REC n = !active) ∧ (s.flag .FLD_STAT_LINK_UP = true)
        ∧ (s.get .FLD_GPI_EDGES n < s.get .FLD_GPI_W0_MAX_RATE n) ∧ (s.flag .FLD_GPI_W2_EDGE_C n = false) ∧ (s.flag .FLD_GPI_W0_EDGE_EN n = true))
    ∧ (∃ (n : Nat) (active : Bool) (s : State), (n < 32) ∧ (s.running .field = true) ∧ (s.flag .FLD_STAT_SUPPLY_OK = true)
        ∧ (s.flag .FLD_DIE_OFF = false) ∧ (s.flag .FLD_GPI_REC n = !active) ∧ (s.flag .FLD_STAT_LINK_UP = true)
        ∧ (s.get .FLD_GPI_EDGES n < s.get .FLD_GPI_W0_MAX_RATE n) ∧ (s.gpiFifo.length < 64))
    ∧ (∃ (n : Nat) (active : Bool) (s : State), (n < 32) ∧ (s.running .field = true) ∧ (s.flag .FLD_STAT_SUPPLY_OK = true)
        ∧ (s.flag .FLD_DIE_OFF = false) ∧ (s.flag .FLD_GPI_REC n = !active) ∧ (s.flag .FLD_STAT_LINK_UP = true)
        ∧ (s.get .FLD_GPI_EDGES n < s.get .FLD_GPI_W0_MAX_RATE n) ∧ (64 ≤ s.gpiFifo.length))
    ∧ (∃ (n : Nat) (active : Bool) (s : State), (n < 32) ∧ (s.running .field = true) ∧ (s.flag .FLD_STAT_SUPPLY_OK = true)
        ∧ (s.flag .FLD_DIE_OFF = false) ∧ (s.flag .FLD_GPI_REC n = !active) ∧ (s.flag .FLD_STAT_LINK_UP = true)
        ∧ (s.get .FLD_GPI_W0_MAX_RATE n ≤ s.get .FLD_GPI_EDGES n) ∧ (s.flag .FLD_GPI_W2_EXCESS_C n = false)
        ∧ (s.flag .FLD_GPI_W0_EXCESS_EN n = true))
    ∧ (∃ (n : Nat) (s : State), 32 ≤ n ∨ s.running .field = false)
    ∧ (∃ (n : Nat) (s : State), (n < 32) ∧ (s.running .field = true) ∧ (s.get .FLD_GPI_EDGES n < s.get .FLD_GPI_W0_MAX_RATE n
        ∨ s.flag .FLD_GPI_W2_LEVEL n = s.flag .FLD_GPI_REPORTED n))
    ∧ (∃ (n : Nat) (s : State), (n < 32) ∧ (s.running .field = true) ∧ (s.get .FLD_GPI_W0_MAX_RATE n ≤ s.get .FLD_GPI_EDGES n)
        ∧ (s.flag .FLD_GPI_W2_LEVEL n = !s.flag .FLD_GPI_REPORTED n) ∧ (s.gpiFifo.length < 64))
    ∧ (∃ (n : Nat) (s : State), (n < 32) ∧ (s.running .field = true) ∧ (s.get .FLD_GPI_W0_MAX_RATE n ≤ s.get .FLD_GPI_EDGES n)
        ∧ (s.flag .FLD_GPI_W2_LEVEL n = !s.flag .FLD_GPI_REPORTED n) ∧ (64 ≤ s.gpiFifo.length))
    ∧ (∃ (n : Nat) (s : State), 32 ≤ n ∨ s.running .field = false ∨ s.flag .FLD_STAT_SUPPLY_OK = false ∨ s.flag .FLD_DIE_OFF = true
        ∨ s.flag .FLD_GPI_REC n = false ∨ s.get .FLD_GPI_W1_STUCK_S n = 0 ∨ s.flag .FLD_GPI_W2_STUCK n = true)
    ∧ (∃ (n : Nat) (s : State), (n < 32) ∧ (s.running .field = true) ∧ (s.flag .FLD_STAT_SUPPLY_OK = true) ∧ (s.flag .FLD_DIE_OFF = false)
        ∧ (s.flag .FLD_GPI_REC n = true) ∧ (s.get .FLD_GPI_W1_STUCK_S n ≠ 0) ∧ (s.flag .FLD_GPI_W2_STUCK n = false)
        ∧ (s.flag .FLD_GPI_W2_STUCK_C n = false) ∧ (s.flag .FLD_GPI_W0_STUCK_EN n = true))
    ∧ (∃ (n : Nat) (s : State), (n < 32) ∧ (s.running .field = true) ∧ (s.flag .FLD_STAT_SUPPLY_OK = true) ∧ (s.flag .FLD_DIE_OFF = false)
        ∧ (s.flag .FLD_GPI_REC n = true) ∧ (s.get .FLD_GPI_W1_STUCK_S n ≠ 0) ∧ (s.flag .FLD_GPI_W2_STUCK n = false)
        ∧ (s.flag .FLD_GPI_W0_STUCK_MASK n = true))
    ∧ (∃ (n : Nat) (s : State), (n < 32) ∧ (s.running .field = true) ∧ (s.flag .FLD_STAT_SUPPLY_OK = true) ∧ (s.flag .FLD_DIE_OFF = false)
        ∧ (s.flag .FLD_GPI_REC n = true) ∧ (s.get .FLD_GPI_W1_STUCK_S n ≠ 0) ∧ (s.flag .FLD_GPI_W2_STUCK n = false)
        ∧ (s.flag .FLD_GPI_W0_STUCK_MASK n = false))
    ∧ (∃ (m : Master) (s : State), (regGate m 21233696 4 false s = none) ∧ (s.gpiFifo = []))
    ∧ (∃ (m : Master) (s : State) (e : GpiEntry), (regGate m 21233696 4 false s = none) ∧ (s.gpiFifo.head? = some e)) :=
  ⟨⟨3, true, put [(.FLD_GPI_REC, 3, 1)], by decide⟩,
   ⟨3, false, put [(.CHECK_ENABLED, 22, 1), (.FLD_STAT_SUPPLY_OK, 0, 1), (.FLD_GPI_REC, 3, 1)], by decide⟩,
   ⟨3, false, put [(.CHECK_ENABLED, 22, 1), (.FLD_STAT_LINK_UP, 0, 1), (.FLD_STAT_SUPPLY_OK, 0, 1), (.FLD_GPI_REC, 3, 1)], by decide⟩,
   ⟨3, true, put [(.CHECK_ENABLED, 22, 1), (.FLD_STAT_LINK_UP, 0, 1), (.FLD_STAT_SUPPLY_OK, 0, 1)], by decide⟩,
   ⟨3, true, put [(.CHECK_ENABLED, 22, 1), (.FLD_STAT_LINK_UP, 0, 1), (.FLD_STAT_SUPPLY_OK, 0, 1)], by decide⟩,
   ⟨3, true, { put [(.CHECK_ENABLED, 22, 1), (.FLD_STAT_LINK_UP, 0, 1), (.FLD_STAT_SUPPLY_OK, 0, 1)] with gpiFifo := List.replicate 64 { input := 0, active := true, time := { sec := 8589934597, ns := 4294967296, frac := 0 }, coalesced := true, overrun := true } }, by decide⟩,
   ⟨3, true, put [(.CHECK_ENABLED, 22, 1), (.FLD_STAT_LINK_UP, 0, 1), (.FLD_STAT_SUPPLY_OK, 0, 1), (.FLD_GPI_W0_EXCESS_EN, 3, 1),
       (.FLD_GPI_W0_MAX_RATE, 3, 6), (.FLD_GPI_EDGES, 3, 8)], by decide⟩,
   ⟨3, State.reset, by decide⟩,
   ⟨3, put [(.CHECK_ENABLED, 22, 1)], by decide⟩,
   ⟨3, put [(.CHECK_ENABLED, 22, 1), (.FLD_GPI_W0_MAX_RATE, 3, 3), (.FLD_GPI_REPORTED, 3, 1), (.FLD_GPI_EDGES, 3, 5)], by decide⟩,
   ⟨3, { put [(.CHECK_ENABLED, 22, 1), (.FLD_GPI_W0_MAX_RATE, 3, 7), (.FLD_GPI_W2_LEVEL, 3, 1), (.FLD_GPI_EDGES, 3, 7)] with gpiFifo := List.replicate 64 { input := 0, active := true, time := { sec := 8589934597, ns := 4294967296, frac := 0 }, coalesced := true, overrun := true } }, by decide⟩,
   ⟨3, State.reset, by decide⟩,
   ⟨3, put [(.CHECK_ENABLED, 22, 1), (.FLD_STAT_SUPPLY_OK, 0, 1), (.FLD_GPI_W1_STUCK_S, 3, 1), (.FLD_GPI_REC, 3, 1)], by decide⟩,
   ⟨3, put [(.CHECK_ENABLED, 22, 1), (.FLD_STAT_SUPPLY_OK, 0, 1), (.FLD_GPI_W0_STUCK_MASK, 3, 1), (.FLD_GPI_W1_STUCK_S, 3, 2),
       (.FLD_GPI_REC, 3, 1)], by decide⟩,
   ⟨3, put [(.CHECK_ENABLED, 22, 1), (.FLD_STAT_SUPPLY_OK, 0, 1), (.FLD_GPI_W1_STUCK_S, 3, 1), (.FLD_GPI_REC, 3, 1)], by decide⟩,
   ⟨Master.st 1, State.reset, by decide⟩,
   ⟨Master.st 1, { State.reset with gpiFifo := List.replicate 64 { input := 0, active := true, time := { sec := 8589934597, ns := 4294967296, frac := 0 }, coalesced := true, overrun := true } }, { input := 0, active := true, time := { sec := 8589934597, ns := 4294967296, frac := 0 }, coalesced := true, overrun := true }, by decide⟩⟩

/-- Hypotheses of FieldSupplyLinkAndOutputs. -/
theorem witness_FieldSupplyLinkAndOutputs :
    (∃ (mv : Nat) (s : State), (mv < 16000 ∨ 34000 < mv) ∧ (s.flag .FLD_STAT_SUPPLY_OK = true))
    ∧ (∃ (mv : Nat), (mv < 16000 ∨ 34000 < mv) ∧ (12000 ≤ mv))
    ∧ (∃ (mv : Nat) (i : Nat), (mv < 16000 ∨ 34000 < mv) ∧ (mv < 12000) ∧ (i < 2))
    ∧ (∃ (mv : Nat) (s : State), mv < 16000 ∨ 34000 < mv ∨ s.flag .FLD_STAT_SUPPLY_OK = true)
    ∧ (∃ (mv : Nat) (s : State), (16000 ≤ mv) ∧ (mv ≤ 34000) ∧ (s.flag .FLD_STAT_SUPPLY_OK = false))
    ∧ (∃ (s : State), s.flag .FLD_STAT_LINK_UP = false ∨ s.get .FLD_LINK_BAD < 3)
    ∧ (∃ (s : State), (s.flag .FLD_STAT_LINK_UP = true) ∧ (3 ≤ s.get .FLD_LINK_BAD))
    ∧ (∃ (s : State), s.flag .FLD_STAT_LINK_UP = true ∨ s.get .FLD_LINK_GOOD < 100)
    ∧ (∃ (s : State) (i : Nat), (s.flag .FLD_STAT_LINK_UP = false) ∧ (100 ≤ s.get .FLD_LINK_GOOD) ∧ (∀ (i : Nat), i < 2 →
        s.get .FLD_DIE_BAND i < 8 ∧ s.safetyState i < 8) ∧ (s.inQuiet = false) ∧ (i < 2))
    ∧ (∃ (s : State) (n : Nat), (s.flag .FLD_STAT_LINK_UP = false) ∧ (100 ≤ s.get .FLD_LINK_GOOD) ∧ (∀ (i : Nat), i < 2 →
        s.get .FLD_DIE_BAND i < 8 ∧ s.safetyState i < 8) ∧ (s.inQuiet = false) ∧ (n < 32) ∧ (s.flag .FLD_GPI_REC n = false))
    ∧ (∃ (s : State) (n : Nat), (s.flag .FLD_STAT_LINK_UP = false) ∧ (100 ≤ s.get .FLD_LINK_GOOD) ∧ (∀ (i : Nat), i < 2 →
        s.get .FLD_DIE_BAND i < 8 ∧ s.safetyState i < 8) ∧ (s.inQuiet = false) ∧ (n < 32) ∧ (s.flag .FLD_GPI_REC n = true))
    ∧ (∃ (n : Nat) (s : State), 32 ≤ n ∨ s.flag .TWN_STAT_DRIVING = false ∨ s.flag .FLD_STAT_SUPPLY_OK = false
        ∨ s.flag .FLD_STAT_LINK_UP = false ∨ bitsAt (s.get .FLD_GPO_FAULT) n 1 = 1)
    ∧ (∃ (n : Nat) (s : State), (s.get .FLD_GPO_CTRL_MODE n = 0) ∧ (bitsAt (s.get .FLD_GPO_SET) n 1 = 0)) :=
  ⟨⟨3, put [(.FLD_STAT_SUPPLY_OK, 0, 1)], by decide⟩,
   ⟨14000, by decide⟩,
   ⟨3, 1, by decide⟩,
   ⟨3, State.reset, by decide⟩,
   ⟨16000, State.reset, by decide⟩,
   ⟨State.reset, by decide⟩,
   ⟨put [(.FLD_STAT_LINK_UP, 0, 1), (.FLD_LINK_BAD, 0, 4)], by decide⟩,
   ⟨State.reset, by decide⟩,
   ⟨put [(.FLD_LINK_GOOD, 0, 101)], 1, by decide⟩,
   ⟨put [(.FLD_LINK_GOOD, 0, 101)], 0, by decide⟩,
   ⟨put [(.FLD_LINK_GOOD, 0, 101), (.FLD_GPI_REC, 31, 1)], 31, by decide⟩,
   ⟨3, put [(.FLD_GPO_FAULT, 0, 38177486)], by decide⟩,
   ⟨3, State.reset, by decide⟩⟩

/-- Hypotheses of OverloadedGpoStaysOff. -/
theorem witness_OverloadedGpoStaysOff :
    (∃ (n : Nat) (s : State), (n < 32) ∧ (s.flag .TWN_STAT_DRIVING = true) ∧ (s.flag .FLD_STAT_SUPPLY_OK = true)
        ∧ (s.flag .FLD_STAT_LINK_UP = true) ∧ (bitsAt (s.get .FLD_GPO_FAULT) n 1 = 0) ∧ (s.get .FLD_GPO_CTRL_MODE n = 0
        ∧ bitsAt (s.get .FLD_GPO_SET) n 1 = 1 ∨ s.get .FLD_GPO_CTRL_MODE n = 1
        ∧ s.get .ATL_LIVE_SOURCE (s.get .FLD_GPO_CTRL_TARGET n) = s.get .FLD_GPO_CTRL_SOURCE n ∨ s.get .FLD_GPO_CTRL_MODE n = 2
        ∧ s.flag .FLD_GPI_W2_LEVEL (s.get .FLD_GPO_CTRL_SOURCE n % 32) = true ∨ s.get .FLD_GPO_CTRL_MODE n = 3
        ∧ s.flag .FLD_SAFE_STAT_OVERRIDE = true))
    ∧ (∃ (m : Master) (s : State) (n : Nat), (Passes m 21233716 s) ∧ (n < 32))
    ∧ (∃ (m : Master) (v : Nat) (ov : Nat) (s : State), (Passes m 21233716 s) ∧ (∃ n, n < 32 ∧ (s.get .FLD_GPO_FAULT).testBit n = true
        ∧ v.testBit n = true ∧ ov.testBit n = true))
    ∧ (∃ (m : Master) (v : Nat) (ov : Nat) (s : State), (Passes m 21233716 s) ∧ (∀ (n : Nat), n < 32 →
        ((s.get .FLD_GPO_FAULT).testBit n && v.testBit n && ov.testBit n) = false)) :=
  ⟨⟨3, put [(.ATL_LIVE_SOURCE, 7, 1), (.TWN_STAT_DRIVING, 0, 1), (.FLD_STAT_LINK_UP, 0, 1), (.FLD_STAT_SUPPLY_OK, 0, 1),
      (.FLD_GPO_CTRL_MODE, 3, 1), (.FLD_GPO_CTRL_SOURCE, 3, 1), (.FLD_GPO_CTRL_TARGET, 3, 7)], by decide⟩,
   ⟨Master.st 1, State.reset, 31, by decide⟩,
   ⟨Master.st 1, 3, 3, put [(.FLD_GPO_FAULT, 0, 19088743)], by decide⟩,
   ⟨Master.st 1, 3, 3, State.reset, by decide⟩⟩

end Sys2Proof.Tests
end

section
/-!
PROOFS. Accesses: what the register table finds at an offset, what a plain write leaves in each field, and the statements of the
matrix's writes and reads (R12 to R16, R459, R460, R468, R598).
-/
namespace Sys2Proof.Machine

variable {s t : State}

/-! ### Registers found at an offset -/

theorem findReg_some {off : Nat} {r : RegRef} : ∀ {l : List RegDesc}, findReg off l = some r →
    r.desc ∈ l ∧ r.desc.off ≤ off ∧ ∃ i, dimIndex 0 (off - r.desc.off) r.desc.dims = some i ∧ r.idx = r.desc.idx0 + i
  | d :: l, h => by
    have later (h : findReg off l = some r) := (findReg_some h).imp_left (List.mem_cons_of_mem d)
    rw [findReg] at h
    split at h
    case isFalse => exact later h
    case isTrue hd =>
      split at h
      case h_2 => exact later h
      case h_1 i hi =>
        cases h
        exact ⟨List.mem_cons_self .., hd, i, hi, rfl⟩

/-- A register that the map finds at an offset stands in the table of a block, and the offset is that of its element (R457). -/
theorem lookupReg_some {off : Nat} {r : RegRef} (h : lookupReg off = some r) :
    ∃ b ∈ allBlocks, r.desc ∈ b.2.2 ∧ b.1 + r.desc.off ≤ off
      ∧ ∃ i, dimIndex 0 (off - (b.1 + r.desc.off)) r.desc.dims = some i ∧ r.idx = r.desc.idx0 + i := by
  obtain ⟨b, hb, hr⟩ := List.exists_of_findSome?_eq_some h
  split at hr
  case isFalse => cases hr
  case isTrue hin =>
    obtain ⟨hmem, hoff, hidx⟩ := findReg_some hr
    refine ⟨b, hb, hmem, by omega, ?_⟩
    rwa [← Nat.sub_sub]

/-- No register of the map names a field twice. -/
theorem allBlocks_nodup : allBlocks.all (fun b => b.2.2.all (fun d => d.flds.Nodup)) = true := by decide +kernel

theorem lookupReg_nodup {off : Nat} {r : RegRef} (h : lookupReg off = some r) : r.desc.flds.Nodup := by
  obtain ⟨b, hb, hd, -⟩ := lookupReg_some h
  have := List.all_eq_true.mp (List.all_eq_true.mp allBlocks_nodup b hb) _ hd
  exact of_decide_eq_true this

/-! ### Field by field -/

/-- Steps that each change one field alone change the fields they are for. -/
theorem forAll_touches {step : Fld → State → State} (hs : ∀ f u, Touches [f] u (step f u)) (l : List Fld) (s : State) :
    Touches l s (forAll l step s) := by
  induction l generalizing s with
  | nil => exact Touches.refl _ s
  | cons a l ih =>
    exact Touches.trans (Touches.mono (hs a s) (by simp)) (Touches.mono (ih (step a s)) (fun f hf => List.mem_cons_of_mem a hf))

/-- Of such steps over distinct fields, the one of a field alone says what the field holds afterwards. -/
theorem get_forAll {step : Fld → State → State} (hs : ∀ f u, Touches [f] u (step f u)) {f : Fld} {i : Nat} {l : List Fld}
    (s : State) (hnd : l.Nodup) (hf : f ∈ l) (hstep : ∀ u, (∀ j, u.get f j = s.get f j) → (step f u).get f i = (step f s).get f i) :
    (forAll l step s).get f i = (step f s).get f i := by
  induction l generalizing s with
  | nil => cases hf
  | cons a l ih =>
    obtain ⟨ha, hnd⟩ := List.nodup_cons.mp hnd
    show (forAll l step (step a s)).get f i = _
    by_cases hfa : f = a
    · rw [← hfa] at ha ⊢
      exact (forAll_touches hs l _).get ha i
    · have hsame (j : Nat) : (step a s).get f j = s.get f j := (hs a s).get (mt List.mem_singleton.mp hfa) j
      have hl : f ∈ l := (List.mem_cons.mp hf).resolve_left hfa
      rw [ih (step a s) hnd hl (fun u hu => ?_), hstep _ hsame]
      rw [hstep u (fun j => (hu j).trans (hsame j)), hstep _ hsame]

/-- The unit whose enable bit governs a register is enabled, so that RWL fields keep what they hold (R15). -/
def State.locked (s : State) (r : RegRef) : Bool := r.unitCode.any (fun u => s.flag .UNIT_EN u)

/-- A plain write, with the lock read once. -/
theorem writeFields_eq (r : RegRef) (v hw : Nat) (s : State) :
    writeFields r v hw s = forAll r.desc.flds (fun f u => if f = .UNIT_EN then u
      else u.put f (r.fieldIdx f) (fieldAfterWrite f (s.locked r) (u.get f (r.fieldIdx f)) (fieldOf f v) (fieldOf f hw))) s := by
  unfold writeFields State.locked
  cases r.unitCode <;> rfl

theorem writeField_touches (r : RegRef) (v hw : Nat) (lock : Bool) (f : Fld) (u : State) :
    Touches [f] u (if f = .UNIT_EN then u
      else u.put f (r.fieldIdx f) (fieldAfterWrite f lock (u.get f (r.fieldIdx f)) (fieldOf f v) (fieldOf f hw))) :=
  Touches.ite (Touches.refl _ u) (Touches.put (by simp) _ _ (Touches.refl _ u))

theorem writeFields_touches (r : RegRef) (v hw : Nat) (s : State) : Touches r.desc.flds s (writeFields r v hw s) := by
  rw [writeFields_eq]
  exact forAll_touches (writeField_touches r v hw _) _ s

/-- A plain write leaves an enable bit alone (R17). -/
theorem writeFields_keeps_en (r : RegRef) (v hw : Nat) (s : State) (i : Nat) :
    (writeFields r v hw s).get .UNIT_EN i = s.get .UNIT_EN i := by
  rw [writeFields_eq, forAll]
  generalize r.desc.flds = l
  generalize s.locked r = lock
  induction l generalizing s with
  | nil => rfl
  | cons a l ih =>
    rw [List.foldl_cons, ih]
    split
    · rfl
    · exact State.get_put_other _ ‹_› ..

/-- What a plain write leaves in a field of the register but its enable bit (R15, R16). -/
theorem writeFields_get {r : RegRef} (hnd : r.desc.flds.Nodup) (v hw : Nat) (s : State) {f : Fld} (hf : f ∈ r.desc.flds) (hen : f ≠ .UNIT_EN) :
    (writeFields r v hw s).get f (r.fieldIdx f)
      = fieldAfterWrite f (s.locked r) (s.get f (r.fieldIdx f)) (fieldOf f v) (fieldOf f hw) % 2 ^ f.info.w := by
  rw [writeFields_eq, get_forAll (writeField_touches r v hw _) s hnd hf (fun u hu => ?_)] <;> simp only [if_neg hen, State.get_put_self]
  rw [hu]

@[simp] theorem writeFields_busResp (r : RegRef) (v hw : Nat) (s : State) : (writeFields r v hw s).busResp = s.busResp := by
  rw [writeFields_eq, forAll]
  generalize r.desc.flds = l
  generalize s.locked r = lock
  induction l generalizing s with
  | nil => rfl
  | cons a l ih =>
    rw [List.foldl_cons, ih]
    split <;> rfl

/-! ### Where an access goes -/

theorem barBase_eq : barBase = 4294967296 := rfl

/-- An address in register space is `barBase` and the offset (R13, R456). -/
theorem target_register {m : Master} {a off : Nat} (h : s.target m a = .register off) : a = barBase + off ∧ off < 0x4000000 := by
  unfold State.target at h
  rw [barBase_eq] at *
  dsimp only at h
  repeat' split at h
  all_goals simp only [Target.register.injEq, reduceCtorEq] at h
  omega

theorem target_of_register {m : Master} {off : Nat} (h : off < 0x4000000) (s : State) : s.target m (barBase + off) = .register off := by
  unfold State.target
  rw [barBase_eq]
  dsimp only
  rw [if_neg (by omega), if_neg (by omega), if_neg (by omega), if_neg (by omega), if_pos (by omega), Nat.add_sub_cancel_left]

/-- What passes the gate of a register arrives, and is one aligned word (R1, R14). -/
theorem regGate_pass {m : Master} {off size : Nat} {write : Bool} (h : regGate m off size write s = none) :
    s.arrives m = true ∧ size = 4 ∧ off % 4 = 0 := by
  unfold regGate at h
  dsimp only at h
  by_cases harr : (!s.arrives m) = true
  · rw [if_pos harr] at h
    cases h
  · by_cases hword : size ≠ 4 ∨ off % 4 ≠ 0
    · rw [if_neg harr, if_pos hword] at h
      cases h
    · exact ⟨by simpa using harr, by omega, by omega⟩

theorem not_isBurst_word (off : Nat) : isBurst off 4 = false := by simp [isBurst]

/-- A word-aligned place in register space lies within its 4 KiB. -/
theorem word_le_toPage {a : Nat} (h : a % 4 = 0) : 4 ≤ toPage a := by
  unfold toPage
  omega

theorem exec_registerWrite_within {addr size : Nat} (h : size ≤ toPage addr) (m : Master) (v hw : Nat) (s : State) :
    exec (.registerWrite m addr size v hw) s = .next (writeAt m addr size v hw s) := by
  rw [exec_registerWrite]
  unfold execRegisterWrite
  dsimp only
  rw [if_pos h]

/-- One word written to register space meets the gate of the register (R14). -/
theorem exec_registerWrite_word {m : Master} {off : Nat} (hoff : off < 0x4000000) (hal : off % 4 = 0) (v hw : Nat) (s : State) :
    exec (.registerWrite m (barBase + off) 4 v hw) s = .next (registerWrite m off 4 v hw s) := by
  rw [exec_registerWrite_within (word_le_toPage (by rw [barBase_eq]; omega))]
  unfold writeAt
  simp only [target_of_register hoff, not_isBurst_word, Bool.false_eq_true, if_false]

/-- A write that passes the gates of register space reaches what stands there. -/
theorem exec_registerWrite_pass {m : Master} {addr size off : Nat} (ht : s.target m addr = .register off) (hb : debugBarred m off s = false)
    (hg : regGate m off size true s = none) (v hw : Nat) :
    exec (.registerWrite m addr size v hw) s = .next (registerSpaceWrite m off v hw s) := by
  obtain ⟨rfl, hoff⟩ := target_register ht
  obtain ⟨-, rfl, hal⟩ := regGate_pass hg
  rw [exec_registerWrite_word hoff hal]
  unfold registerWrite
  rw [if_neg (by rw [hb]; decide), hg]

theorem find?_eq_none_of_any {α : Type} {l : List (Fld × α)} {flds : List Fld} (h : ∀ f ∈ flds, l.any (fun x => x.1 == f) = false) :
    l.find? (fun t => flds.contains t.1) = none := by
  refine List.find?_eq_none.mpr (fun x hx hc => ?_)
  have hany := h x.1 (List.contains_iff_mem.mp hc)
  rw [List.any_eq_false] at hany
  exact hany x hx (beq_self_eq_true _)

/-- A register with no effect of its own and no enable bit takes a plain write (R15). -/
theorem registerEffect_plain {r : RegRef} (hblank : s.blankEntry r = false) (hen : r.desc.flds.contains .UNIT_EN = false)
    (htr : ∀ f ∈ r.desc.flds, triggers.any (fun x => x.1 == f) = false) (m : Master) (off v hw : Nat) :
    registerEffect m off v hw r s = plainWrite m off v hw r s := by
  unfold registerEffect
  rw [if_neg (by rw [hblank]; decide), hen, find?_eq_none_of_any htr]
  cases r.unit <;> rfl

/-- The word of a BAR0 offset fits the WORD field of the refusal log (R78). -/
theorem wordOf_lt {off : Nat} (h : off < 0x4000000) : wordOf off < 2 ^ 24 := by
  unfold wordOf
  omega

/-! ### What reports leave of the answer on the bus -/

theorem onlyIf_busResp (c : Bool) {f : State → State} (hf : ∀ u, (f u).busResp = u.busResp) (s : State) :
    (onlyIf c f s).busResp = s.busResp := by
  cases c
  · rfl
  · exact hf s

theorem ite_busResp {c : Prop} [Decidable c] {a b : State} (ha : a.busResp = s.busResp) (hb : b.busResp = s.busResp) :
    (if c then a else b).busResp = s.busResp := by
  split <;> assumption

@[simp] theorem raiseAndOpen_busResp (n : Nat) (s : State) : (raiseAndOpen n s).busResp = s.busResp := by
  have send (u : State) : (msixSend n u).busResp = u.busResp := ite_busResp (ite_busResp rfl rfl) rfl
  show (onlyIf _ _ _).busResp = _
  refine (onlyIf_busResp _ send _).trans ((onlyIf_busResp _ (by intro u; rfl) _).trans ?_)
  exact ite_busResp rfl rfl

@[simp] theorem latchFirst_busResp (b n : Nat) (s : State) : (latchFirst b n s).busResp = s.busResp :=
  ite_busResp rfl rfl

@[simp] theorem recordRecovery_busResp (n : Nat) (detail : List Nat) (s : State) : (recordRecovery n detail s).busResp = s.busResp :=
  ite_busResp rfl (ite_busResp rfl rfl)

@[simp] theorem recordFatal_busResp (n : Nat) (detail : List Nat) (s : State) : (recordFatal n detail s).busResp = s.busResp :=
  onlyIf_busResp _ (by intro u; rfl) s

theorem raiseControlled_busResp (n : Nat) {other : State → State} (ho : ∀ u, (other u).busResp = u.busResp) (s : State) :
    (raiseControlled n other s).busResp = s.busResp := by
  unfold raiseControlled
  exact ite_busResp rfl (ite_busResp (ho _) (ite_busResp rfl (ite_busResp rfl (raiseAndOpen_busResp n _))))

theorem assertWith_busResp {other : State → State} (ho : ∀ u, (other u).busResp = u.busResp) (n cls : Nat) (forced : Bool)
    (detail : List Nat) (s : State) : (assertWith other n cls forced detail s).busResp = s.busResp := by
  unfold assertWith
  dsimp only
  rw [raiseControlled_busResp n ho, onlyIf_busResp _ (by simp), onlyIf_busResp _ (by simp), onlyIf_busResp _ (by simp)]
  rfl

/-- Asserting a source answers nothing on the bus. -/
@[simp] theorem assertDetail_busResp (n cls : Nat) (detail : List Nat) (s : State) : (assertDetail n cls detail s).busResp = s.busResp :=
  assertWith_busResp (fun u => assertWith_busResp (fun _ => rfl) _ _ _ _ u) _ _ _ _ s

@[simp] theorem notice_busResp (n : Nat) (s : State) : (notice n s).busResp = s.busResp := assertDetail_busResp n 0 [] s

@[simp] theorem refuse_busResp (code word : Nat) (m : Master) (s : State) : (refuse code word m s).busResp = s.busResp := notice_busResp 506 _

/-! ### The error response -/

/-- Fields that an error response writes (R479). -/
def errorFields : List Fld :=
  [.BUS_ERR_LOG0, .BUS_ERR_LOG1_MASTER, .BUS_ERR_LOG1_WRITE, .BUS_ERR_LOG1_CAUSE, .BUS_ERR_LOG1_ADDR_HI, .BUS_ERR_COUNT]

theorem busError_touches (m : Master) (addr : Nat) (write : Bool) (cause : Nat) (s : State) :
    Touches (errorFields ++ reportFields) s (busError m addr write cause s) := by
  unfold busError
  refine Touches.notice (by decide) 408 (Touches.respond _ _ (Touches.bump (by decide) _ _ (Touches.ite ?_ (Touches.refl _ s))))
  refine Touches.put (by decide) _ _ (Touches.put (by decide) _ _ (Touches.putFlag (by decide) _ _ ?_))
  exact Touches.put (by decide) _ _ (Touches.put (by decide) _ _ (Touches.refl _ s))

@[simp] theorem busError_busResp (m : Master) (addr : Nat) (write : Bool) (cause : Nat) (s : State) :
    (busError m addr write cause s).busResp = ⟨0, true⟩ := notice_busResp 408 _

/-- The first error since its count was read fills the log, and is counted (R479). -/
theorem busError_first {m : Master} {addr cause : Nat} (write : Bool) (h : s.get .BUS_ERR_COUNT = 0) :
    let t := busError m addr write cause s
    t.get .BUS_ERR_COUNT = 1 ∧ t.get .BUS_ERR_LOG0 = addr % 2 ^ 32 ∧ t.get .BUS_ERR_LOG1_CAUSE = cause % 2 ^ 3
      ∧ t.get .BUS_ERR_LOG1_MASTER = m.busCode % 16 ∧ Asserted 408 0 s t := by
  unfold busError
  rw [if_pos (beq_iff_eq.mpr h)]
  refine ⟨?_, ?_, ?_, ?_, Asserted.after ?_ (notice_asserted _ (by decide))⟩
  all_goals simp only [State.get_notice _ _ (show Fld.BUS_ERR_COUNT ∉ reportFields by decide),
    State.get_notice _ _ (show Fld.BUS_ERR_LOG0 ∉ reportFields by decide),
    State.get_notice _ _ (show Fld.BUS_ERR_LOG1_CAUSE ∉ reportFields by decide),
    State.get_notice _ _ (show Fld.BUS_ERR_LOG1_MASTER ∉ reportFields by decide),
    State.get_respond, State.bump, State.putFlag, State.get_put, h, reduceCtorEq, false_and, if_false, and_self, if_true]
  all_goals rfl

end Sys2Proof.Machine
end

section
/-!
PROOFS. Writes and reads of memory and registers by the matrix (R12, R15, R16, R459, R460, R468, R598).
-/
namespace Sys2Proof.Machine

variable {s t : State}

/-! ### Writes -/

/-- A byte written as part of a value, the low-order byte first (R12). -/
theorem leBytes_getD {n i : Nat} (h : i < n) (v : Nat) : (leBytes n v).getD i 0 = BitVec.ofNat 8 (v / 256 ^ i) := by
  induction n generalizing i v with
  | zero => omega
  | succ n ih =>
    cases i with
    | zero => simp [leBytes]
    | succ i =>
      rw [leBytes, List.getD_cons_succ, ih (by omega), Nat.div_div_eq_div_mul, ← Nat.pow_succ']

/-- A write to working SRAM outside every queue (R12). -/
theorem exec_registerWrite_sram {m : Master} {addr size o : Nat} (ht : s.target m addr = .sram o) (hp : size ≤ toPage addr)
    (hg : s.memGate m addr size true = none) (hq : s.queueAt o = none) (v hw : Nat) :
    exec (.registerWrite m addr size v hw) s = .next ((s.respond 0 false).memPut o size v) := by
  rw [exec_registerWrite_within hp]
  unfold writeAt memoryWrite
  simp only [ht, hg]
  rw [show (s.respond 0 false).queueAt o = none from hq]

/-- A write to a register with no effect of its own and no enable bit (R15, R598). -/
theorem exec_registerWrite_plain {m : Master} {addr size off : Nat} {r : RegRef} (ht : s.target m addr = .register off)
    (hb : debugBarred m off s = false) (hg : regGate m off size true s = none) (hr : lookupReg off = some r)
    (hblank : s.blankEntry r = false) (hen : r.desc.flds.contains .UNIT_EN = false)
    (htr : ∀ f ∈ r.desc.flds, triggers.any (fun x => x.1 == f) = false) (v hw : Nat) :
    exec (.registerWrite m addr size v hw) s = .next (plainWrite m off v hw r (s.respond 0 false)) := by
  rw [exec_registerWrite_pass ht hb hg]
  unfold registerSpaceWrite
  simp only [hr]
  rw [registerEffect_plain (s := s.respond 0 false) hblank hen htr]

/-- A write where no register is (R459). -/
theorem exec_registerWrite_nothing {m : Master} {addr size off : Nat} (ht : s.target m addr = .register off)
    (hb : debugBarred m off s = false) (hg : regGate m off size true s = none) (hr : lookupReg off = none)
    (hdsp : inDspBlock off = false) (v hw : Nat) :
    exec (.registerWrite m addr size v hw) s = .next (busError m (barBase + off) true 0 s) := by
  rw [exec_registerWrite_pass ht hb hg]
  unfold registerSpaceWrite
  simp only [hr, hdsp, Bool.false_eq_true, if_false]

/-- A write of two words to register space is a burst of two (R460). -/
theorem exec_registerWrite_burst {m : Master} {off : Nat} (hoff : off + 4 < 0x4000000) (hal : off % 4 = 0)
    (hp : 8 ≤ toPage (barBase + off)) (v hw : Nat) (s : State) :
    exec (.registerWrite m (barBase + off) 8 v hw) s
      = .next (registerWrite m (off + 4) 4 (v / 2 ^ 32 % 2 ^ 32) 0 (registerWrite m off 4 (v % 2 ^ 32) hw s)) := by
  have hburst : isBurst off 8 = true := by simp [isBurst, hal]
  rw [exec_registerWrite_within hp]
  unfold writeAt
  simp only [target_of_register (show off < 0x4000000 by omega), hburst, if_true]
  rfl

/-- What precedes a refusal may change any field but the two counts. -/
theorem Refused.after {code word : Nat} {m : Master} {u : State} (hc : t.get .GEN_REFUSE_LOG1_COUNT = s.get .GEN_REFUSE_LOG1_COUNT)
    (hs : t.get .FLT_SRC_STAT_COUNT 506 = s.get .FLT_SRC_STAT_COUNT 506) (h : Refused code word m t u) : Refused code word m s u := by
  obtain ⟨h1, h2, h3, h4, h5⟩ := h
  exact ⟨h1, h2, h3, hc ▸ h4, Asserted.after hs h5⟩

/-- Settles O24: each kind of write is brought to what it executes (bytes of memory, a plain write, an error response, a burst, two
parts), and the lemma about that says the rest. -/
theorem writesFollowTheAccessCodes : Obligations.WritesFollowTheAccessCodes := by
  unfold Obligations.WritesFollowTheAccessCodes
  intro m addr size v hw s
  refine ⟨fun o ht hp hg hq => ?_, fun off r ht hb hg hr hblank hen htr => ⟨fun hres => ?_, fun hres => ?_⟩,
    fun off ht hb hg hr hdsp hcount => ?_, fun off ht hal hpage => ?_, fun hpage => ?_⟩
  · refine ⟨_, exec_registerWrite_sram ht hp hg hq v hw, rfl, fun i hi => ?_, fun a ha => ?_, rfl, fun _ _ _ => rfl⟩
    · have hin : o ≤ o + i ∧ o + i < o + size := by omega
      rw [State.memPut, Memory.read_writeList, leBytes_length, if_pos hin, Nat.add_sub_cancel_left, leBytes_getD hi]
    · have hout : ¬(o ≤ a ∧ a < o + size) := by omega
      rw [State.memPut, Memory.read_writeList, leBytes_length, if_neg hout]
      rfl
  · refine ⟨_, exec_registerWrite_plain ht hb hg hr hblank hen htr v hw, ?_⟩
    rw [plainWrite, if_neg (by rw [hres]; decide)]
    refine ⟨writeFields_busResp .., fun f hf => ?_, Touches.trans (Touches.respond 0 false (Touches.refl _ s)) (writeFields_touches ..)⟩
    have hne : f ≠ .UNIT_EN := fun e => by
      rw [List.contains_iff_mem.mpr (e ▸ hf)] at hen
      cases hen
    rw [writeFields_get (lookupReg_nodup hr) _ _ _ hf hne, State.get_respond]
    unfold fieldAfterWrite
    cases f.info.acc <;> rfl
  · refine ⟨_, exec_registerWrite_plain ht hb hg hr hblank hen htr v hw, ?_⟩
    rw [plainWrite, if_pos hres]
    exact ⟨Refused.after (t := s.respond 0 false) rfl rfl (refuse_refused m _ (by decide) (wordOf_lt (target_register ht).2)),
      Touches.trans (Touches.respond 0 false (Touches.refl _ s)) (refuse_report ..)⟩
  · obtain ⟨hc, hlog, hcause, hm, hev⟩ := busError_first (m := m) (addr := barBase + off) (cause := 0) true hcount
    exact ⟨_, exec_registerWrite_nothing ht hb hg hr hdsp v hw, busError_busResp .., hc, hlog, hcause, hm, hev, busError_touches ..⟩
  · obtain ⟨rfl, hoff⟩ := target_register ht
    rw [barBase_eq] at hal hpage
    have hnext : barBase + off + 4 = barBase + (off + 4) := Nat.add_assoc ..
    have hpage8 : 8 ≤ toPage (barBase + off) := by
      rw [barBase_eq, toPage]
      omega
    refine ⟨_, _, exec_registerWrite_word hoff (by omega) _ _ s, ?_, exec_registerWrite_burst (by omega) (by omega) hpage8 v hw s⟩
    rw [hnext]
    exact exec_registerWrite_word (by omega) (by omega) _ _ _
  · have h2 : toPage addr = 2 := by
      rw [toPage]
      omega
    refine ⟨_, _, exec_registerWrite_within (by omega) m _ hw s, exec_registerWrite_within (by rw [toPage]; omega) m _ 0 _, ?_⟩
    rw [exec_registerWrite]
    unfold execRegisterWrite
    rw [h2]
    rfl

/-! ### Reads -/

theorem memGate_pass {m : Master} {a n : Nat} {write : Bool} (h : s.memGate m a n write = none) : s.arrives m = true := by
  unfold State.memGate at h
  dsimp only at h
  by_cases harr : (!s.arrives m) = true
  · rw [if_pos harr] at h
    cases h
  · simpa using harr

/-- Reading a run of bytes, byte by byte. -/
theorem Memory.readList_eq_map (mem : List Host.Cell) (a n : Nat) :
    Memory.readList mem a n = (List.range n).map (fun i => Memory.read (a + i) mem) := by
  induction n generalizing a with
  | zero => rfl
  | succ n ih => simp [Memory.readList, ih, List.range_succ_eq_map, Nat.add_assoc, Nat.add_comm 1]

/-- A read of working SRAM (R12, R468). -/
theorem exec_readToClear_sram {m : Master} {addr size o : Nat} (ht : s.target m addr = .sram o) (hp : size ≤ toPage addr)
    (hg : s.memGate m addr size false = none) (hw : Nat) (ecc : EccOutcome) :
    exec (.readToClear m addr size hw ecc) s = .next (eccRead (.sram o) ecc (leNat (Memory.readList s.mem o size)) s) := by
  rw [exec_readToClear]
  unfold execReadToClear readAt
  dsimp only
  rw [if_neg (by rw [memGate_pass hg]; decide), if_pos hp, ht, hg, Memory.readList_eq_map]
  rfl

/-- An uncorrectable word of working SRAM is counted in the eight bits of BUS_SRAM_ECC.UNCOR, which saturate (R468, R479). -/
theorem get_eccRead_uncorrectable (o data : Nat) (s : State) :
    (eccRead (.sram o) .uncorrectable data s).get .BUS_SRAM_ECC_UNCOR = satAdd 8 (s.get .BUS_SRAM_ECC_UNCOR) 1 := by
  unfold eccRead eccNote
  rw [State.get_respond, State.get_assertDetail _ _ _ _ (by decide), State.get_put_other _ (by decide), State.bump, State.get_put_self]
  exact Nat.mod_eq_of_lt (satAdd_lt 8 _ 1)

/-- Reset, but that BUS_SRAM_ECC.UNCOR stands at the highest number its eight bits hold. -/
def fullEccCount : State := State.reset.put .BUS_SRAM_ECC_UNCOR 0 255

/-- Refutes O25: the statement has BUS_SRAM_ECC.UNCOR saturate at 16 bits, while the field has the eight of its table; at 255 a further
uncorrectable word of SRAM leaves it at 255, where the statement wants 256. -/
theorem not_readsClearAndReturn : ¬ Obligations.ReadsClearAndReturn := by
  unfold Obligations.ReadsClearAndReturn
  intro h
  have ht : fullEccCount.target (.st 1) 0x4000000 = .sram 0 := by decide
  have hp : 4 ≤ 0x1000 - 0x4000000 % 0x1000 := by decide
  have hg : fullEccCount.memGate (.st 1) 0x4000000 4 false = none := by decide
  have hfull : fullEccCount.get .BUS_SRAM_ECC_UNCOR = 255 := by decide
  obtain ⟨-, hmem⟩ := h (.st 1) 0x4000000 4 0 fullEccCount
  obtain ⟨-, -, t, hexec, -, hcount, -⟩ := hmem 0 ht hp hg
  rw [exec_readToClear_sram ht hp hg] at hexec
  cases hexec
  rw [get_eccRead_uncorrectable, hfull] at hcount
  exact absurd hcount (by decide)

end Sys2Proof.Machine
end

section
/-!
PROOFS. What a unit's start and stop leave alone: the enable bits and check results of every unit (R74). One lemma for each operation that
they are built from; of all of these only the writes of Check change those fields, and the stop of a destination its own.
-/
namespace Sys2Proof.Machine

variable {s t u : State}

-- A default argument `by …` is read once the kernel has checked all that precedes. Elaborated side by side, the lemmas below would each
-- hold a thread while they wait for that.
set_option Elab.async false

/-- The enable bit and the words of a consistency check, one element for each unit (R74, R75). -/
def unitFields : List Fld := [.UNIT_EN, .CHECK_BUSY, .CHECK_ENABLED, .CHECK_REFUSALS, .CHECK_LAST_REASON]

/-- No unit's enable bit or check result differs. -/
def UnitsKept (s t : State) : Prop := t.variant = s.variant ∧ ∀ f ∈ unitFields, ∀ i, t.get f i = s.get f i

theorem Store.find_filter_other {f g : Fld} (h : f ≠ g) (j : Nat) (l : Store) :
    Store.find g j (l.filter (fun c => c.fld != f)) = Store.find g j l := by
  induction l with
  | nil => rfl
  | cons c l ih =>
    by_cases hc : c.fld = f
    · simp [hc, Store.find, ih, h]
    · simp [hc, Store.find, ih]

/-- Clearing every element of a field leaves the other fields. -/
theorem State.get_clearAll_other (s : State) {f g : Fld} (h : f ≠ g) (j : Nat) : (s.clearAll f).get g j = s.get g j := by
  unfold State.get State.clearAll
  rw [Store.find_filter_other h]

namespace UnitsKept

theorem refl (s : State) : UnitsKept s s := ⟨rfl, fun _ _ _ => rfl⟩

theorem trans (h : UnitsKept s t) (k : UnitsKept t u) : UnitsKept s u :=
  ⟨k.1.trans h.1, fun f hf i => (k.2 f hf i).trans (h.2 f hf i)⟩

theorem get (h : UnitsKept s t) {f : Fld} (hf : f ∈ unitFields) (i : Nat) : t.get f i = s.get f i := h.2 f hf i

theorem touches {fs : List Fld} (h : UnitsKept s t) (k : Touches fs t u) (hfs : ∀ f ∈ unitFields, f ∉ fs) : UnitsKept s u :=
  h.trans ⟨by rw [k.1], fun f hf => k.get (hfs f hf)⟩

theorem put {f : Fld} {i v : Nat} (h : UnitsKept s t) (hf : f ∉ unitFields := by decide) : UnitsKept s (t.put f i v) :=
  h.trans ⟨rfl, fun g hg j => State.get_put_other t (fun e : f = g => hf (e ▸ hg)) i j v⟩

theorem putFlag {f : Fld} {i : Nat} {b : Bool} (h : UnitsKept s t) (hf : f ∉ unitFields := by decide) : UnitsKept s (t.putFlag f i b) :=
  h.put hf

theorem putInt {f : Fld} {i : Nat} {x : Int} (h : UnitsKept s t) (hf : f ∉ unitFields := by decide) : UnitsKept s (t.putInt f i x) :=
  h.put hf

theorem bump {f : Fld} {i k : Nat} (h : UnitsKept s t) (hf : f ∉ unitFields := by decide) : UnitsKept s (t.bump f i k) := h.put hf

theorem inc {f : Fld} {i : Nat} (h : UnitsKept s t) (hf : f ∉ unitFields := by decide) : UnitsKept s (t.inc f i) := h.put hf

theorem clearAll {f : Fld} (h : UnitsKept s t) (hf : f ∉ unitFields := by decide) : UnitsKept s (t.clearAll f) :=
  h.trans ⟨rfl, fun g hg j => State.get_clearAll_other t (fun e : f = g => hf (e ▸ hg)) j⟩

/-- A change of parts of the state other than the register store. -/
theorem records (h : UnitsKept s t) (hr : u.regs = t.regs := by rfl) (hv : u.variant = t.variant := by rfl) : UnitsKept s u :=
  h.trans ⟨hv, fun _ _ _ => State.get_congr hr hv _ _⟩

theorem emit {o : Out} (h : UnitsKept s t) : UnitsKept s (t.emit o) := h

theorem ite {c : Prop} [Decidable c] {a b : State} (ha : UnitsKept s a) (hb : UnitsKept s b) : UnitsKept s (if c then a else b) := by
  split <;> assumption

theorem onlyIf {c : Bool} {f : State → State} (hf : ∀ u, UnitsKept u (f u)) (h : UnitsKept s t) : UnitsKept s (onlyIf c f t) := by
  unfold Machine.onlyIf
  exact ite (h.trans (hf t)) h

theorem forAll {α : Type} {l : List α} {f : α → State → State} (hf : ∀ a u, UnitsKept u (f a u)) (h : UnitsKept s t) :
    UnitsKept s (forAll l f t) := by
  unfold Machine.forAll
  induction l generalizing t with
  | nil => exact h
  | cons a l ih => exact ih (h.trans (hf a t))

theorem assertEv {n cls : Nat} (h : UnitsKept s t) : UnitsKept s (assertEv n cls t) := h.touches (assertEv_report n cls t) (by decide)

theorem notice {n : Nat} (h : UnitsKept s t) : UnitsKept s (notice n t) := h.assertEv

theorem refuse {code word : Nat} {m : Master} (h : UnitsKept s t) : UnitsKept s (refuse code word m t) :=
  h.touches (refuse_report code word m t) (by decide)

theorem setCauses {evt en : Fld} {i mask src cls : Nat} (h : UnitsKept s t) (hf : evt ∉ unitFields := by decide) :
    UnitsKept s (setCauses evt en i mask src cls t) :=
  onlyIf (fun u => (refl u).assertEv) (h.put hf)

end UnitsKept

open UnitsKept (refl)

/-! ### Atlas, inputs and destinations -/

theorem alignMeridians_units (h : UnitsKept s t) : UnitsKept s (alignMeridians t) := .forAll (fun _ u => (refl u).put.put) h

theorem emptyStore_units {i : Nat} (h : UnitsKept s t) : UnitsKept s (emptyStore i t) := (UnitsKept.records h).put.put

theorem judgeInput_units {i : Nat} (h : UnitsKept s t) : UnitsKept s (judgeInput i t) :=
  .ite h (.ite (.onlyIf (fun u => (refl u).put.notice) h.put) (.onlyIf (fun u => (refl u).put.notice) h))

theorem judgeFormat_units {i : Nat} (h : UnitsKept s t) : UnitsKept s (judgeFormat i t) :=
  .onlyIf (fun u => .onlyIf (fun u => (refl u).notice) (refl u).putFlag) h

theorem inputEnabled_units {i : Nat} (h : UnitsKept s t) : UnitsKept s (inputEnabled i t) :=
  judgeInput_units (judgeFormat_units (emptyStore_units h.put).put.put.put.put.put.put.put)

theorem destEnabled_units {d : Nat} (h : UnitsKept s t) : UnitsKept s (destEnabled d t) := h.put.put.put.put.put.put.put.put.put

theorem refuseOne_units {c : PendCommit} {code : Nat} (h : UnitsKept s t) : UnitsKept s (refuseOne c code t) :=
  (UnitsKept.records h).put.put.refuse

theorem refuseAll_units {code : Nat} (h : UnitsKept s t) : UnitsKept s (refuseAll code t) :=
  .onlyIf (fun u => (refl u).notice) (.forAll (fun _ u => refuseOne_units (refl u)) h)

theorem refuseCommit_units {c : PendCommit} {code other : Nat} (h : UnitsKept s t) : UnitsKept s (refuseCommit c code other t) :=
  .ite (UnitsKept.forAll (fun _ u => refuseOne_units (refl u)) (refuseOne_units h)).notice (refuseOne_units h)

theorem enterLoss_units {d : Nat} (h : UnitsKept s t) : UnitsKept s (enterLoss d t) := h.put.bump.put.put.notice

/-! ### Requests of streams -/

theorem bindRx_units {who : Asker} {n : Nat} (h : UnitsKept s t) : UnitsKept s (bindRx who n t) := by
  cases who
  case draft => exact h.put
  case live => exact h.put
  case shared => exact h

theorem mapRxSlot_units {n : Nat} {f : RxStream → RxStream} (h : UnitsKept s t) : UnitsKept s (mapRxSlot n f t) := h

theorem withRx_units {l : List RxStream} (h : UnitsKept s t) : UnitsKept s { t with rx := l } := h

theorem askRunning_units {r : RxStream} {k : Nat} (h : UnitsKept s t) : UnitsKept s (askRunning r k t) := (mapRxSlot_units h).inc

theorem joinStream_units {r : RxStream} {who : Asker} (h : UnitsKept s t) : UnitsKept s (joinStream r who t) := by
  have hb : UnitsKept s (bindRx who r.slot t) := bindRx_units h
  exact .ite (.ite (askRunning_units hb) (mapRxSlot_units hb)) (.onlyIf (fun u => askRunning_units (refl u)) hb)

theorem noteRefusal_units {kind src code home : Nat} {drafts lives : List Nat} (h : UnitsKept s t) :
    UnitsKept s (noteRefusal kind src drafts lives code home t) := by
  refine .ite ?_ (.ite ?_ h.notice)
  · exact .forAll (fun _ u => .onlyIf (fun u => (refl u).put) (refl u)) (.forAll (fun _ u => (refl u).put) h)
  · exact .forAll (fun _ u => (refl u).put.setCauses) h

theorem refuseAtOnce_units {kind src code : Nat} {who : Asker} (h : UnitsKept s t) : UnitsKept s (refuseAtOnce kind src who code t) := by
  refine UnitsKept.notice ?_
  cases who <;> exact noteRefusal_units h

theorem forgetCounts_units {n : Nat} (h : UnitsKept s t) : UnitsKept s (forgetCounts n t) := .forAll (fun _ u => (refl u).put) h.put.put.put

theorem clearReasons_units {r : RxStream} (h : UnitsKept s t) : UnitsKept s (clearReasons r t) :=
  .ite (.forAll (fun _ u => (refl u).put) h) (.ite (.forAll (fun _ u => (refl u).put) h) h)

theorem reRequest_units {r : RxStream} {k : Nat} (h : UnitsKept s t) : UnitsKept s (reRequest r k t) :=
  (mapRxSlot_units (forgetCounts_units (clearReasons_units h))).inc

theorem clearDecoder_units {n : Nat} (h : UnitsKept s t) : UnitsKept s (clearDecoder n t) := by
  unfold clearDecoder
  dsimp only
  refine forgetCounts_units (.forAll (fun _ u => (refl u).put) ?_)
  exact h.put.put.put.put.put.put

theorem openRequest_units {kind src home k fs : Nat} {who : Asker} (h : UnitsKept s t) :
    UnitsKept s (openRequest kind src home k fs who t) := by
  unfold openRequest
  refine .ite (refuseAtOnce_units h) ?_
  split
  · exact refuseAtOnce_units h
  · exact refuseAtOnce_units h
  · refine bindRx_units (.onlyIf (fun u => (refl u).notice) (clearDecoder_units (UnitsKept.inc (withRx_units ?_))))
    exact .onlyIf (fun u => (refl u).put.put) h

theorem requestStream_units {kind src home k fs : Nat} {who : Asker} (h : UnitsKept s t) :
    UnitsKept s (requestStream kind src home k fs who t) := by
  unfold requestStream
  split
  · exact joinStream_units h
  · refine .ite h (.ite (refuseAtOnce_units h) ?_)
    split
    · exact reRequest_units (bindRx_units h)
    · exact openRequest_units h

theorem requestGroups_units (h : UnitsKept s t) : UnitsKept s (requestGroups t) :=
  .forAll (fun _ u => .onlyIf (fun u => requestStream_units (refl u)) (refl u)) h

theorem requestDraft_units {d : Nat} (h : UnitsKept s t) : UnitsKept s (requestDraft d t) := .onlyIf (fun u => requestStream_units (refl u)) h

theorem requestLiveOf_units {d : Nat} (h : UnitsKept s t) : UnitsKept s (requestLiveOf d t) := .onlyIf (fun u => requestStream_units (refl u)) h

theorem rebindField_units {f : Fld} {a b : Nat} (h : UnitsKept s t) (hf : f ∉ unitFields := by decide) : UnitsKept s (rebindField f a b t) :=
  .forAll (fun _ u => .onlyIf (fun u => (refl u).put hf) (refl u)) h

theorem rebind_units {a b : Nat} (h : UnitsKept s t) : UnitsKept s (rebind a b t) :=
  rebindField_units (rebindField_units (rebindField_units h))

theorem freeRx_units {p : RxStream → Bool} (h : UnitsKept s t) : UnitsKept s (freeRx p t) :=
  .forAll (fun _ u => rebind_units (refl u)) (UnitsKept.records h)

theorem askAgain_units {r : RxStream} (h : UnitsKept s t) : UnitsKept s (askAgain r t) := by
  refine .onlyIf (fun u => ?_) h
  split
  · exact joinStream_units (freeRx_units (rebind_units (refl u)))
  · exact reRequest_units (refl u)

theorem requestMissing_units {pos : Nat} (h : UnitsKept s t) : UnitsKept s (requestMissing pos t) := by
  unfold requestMissing
  dsimp only
  refine .onlyIf (fun u => .forAll (fun _ u => ?_) (refl u)) (.forAll (fun _ u => .forAll (fun _ u => ?_) (refl u)) (.forAll (fun _ u => ?_) h))
  · exact .onlyIf (fun u => requestStream_units (refl u)) (refl u)
  · exact .onlyIf (fun u => requestStream_units (refl u)) (refl u)
  · refine .onlyIf (fun u => requestLiveOf_units (refl u)) ?_
    exact .onlyIf (fun u => requestDraft_units (refl u)) (refl u)

theorem requestAgain_units (h : UnitsKept s t) : UnitsKept s (requestAgain t) := by
  refine .onlyIf (fun u => .forAll (fun _ u => .onlyIf (fun u => requestMissing_units (refl u)) (refl u)) (refl u)) ?_
  exact .forAll (fun _ u => askAgain_units (refl u)) (UnitsKept.records h)

/-! ### Fabric and coding -/

theorem renewCeiling_units {p : Nat} (h : UnitsKept s t) : UnitsKept s (renewCeiling p t) := by
  have hu : UnitsKept s (onlyIf (t.lanesUp p == 0) (·.put .FAB_PORT_STAT_UP p 0) t) := .onlyIf (fun u => (refl u).put) h
  exact .ite hu (.onlyIf (fun u => (refl u).notice) hu.put)

theorem fabricEnabled_units (h : UnitsKept s t) : UnitsKept s (fabricEnabled t) :=
  .forAll (fun _ u => requestDraft_units (refl u)) (.forAll (fun _ u => renewCeiling_units (refl u)) h)

theorem fabricDisabled_units (h : UnitsKept s t) : UnitsKept s (fabricDisabled t) :=
  .forAll (fun _ u => (refl u).put.put) (UnitsKept.records h).clearAll.clearAll.clearAll.clearAll.clearAll.put

theorem atlasFabricDisabled_units (h : UnitsKept s t) : UnitsKept s (atlasFabricDisabled t) := by
  refine .forAll (fun _ u => .onlyIf (fun u => enterLoss_units (refl u)) (refl u)) (.forAll (fun _ u => ?_) h)
  exact .ite (refuseCommit_units (refl u)) (refl u)

theorem ctlTo_units {pos : Nat} {msg : FabMsg} (h : UnitsKept s t) : UnitsKept s (ctlTo pos msg t) :=
  .onlyIf (fun u => (refl u).emit.inc) h

theorem dropStream_units {x : TxStream} {reason : Nat} (h : UnitsKept s t) : UnitsKept s (dropStream x reason t) :=
  UnitsKept.assertEv (UnitsKept.records (UnitsKept.forAll (fun _ u => ctlTo_units (refl u)) (ctlTo_units h)))

theorem admitFails_units {a : Admit} (h : UnitsKept s t) : UnitsKept s (admitFails a t) := by
  unfold admitFails
  split
  · exact ctlTo_units h
  · exact .onlyIf (fun u => dropStream_units (refl u)) h
  · exact h

theorem freeWaypoint_units {a : Admit} {coding w : Nat} (h : UnitsKept s t) : UnitsKept s (freeWaypoint a coding w t) :=
  .onlyIf (fun u => ctlTo_units (refl u)) h

theorem grantNew_units {a : Admit} {coding port w cost : Nat} (h : UnitsKept s t) : UnitsKept s (grantNew a coding port w cost t) := by
  unfold grantNew
  dsimp only
  split
  · exact freeWaypoint_units (ctlTo_units h)
  · exact .onlyIf (fun u => (refl u).notice) (UnitsKept.inc (ctlTo_units (UnitsKept.records h)))

theorem moveStream_units {x : TxStream} {coding port w cost : Nat} (h : UnitsKept s t) : UnitsKept s (moveStream x coding port w cost t) := by
  refine .ite (UnitsKept.inc (UnitsKept.records h)) (UnitsKept.notice (UnitsKept.inc (UnitsKept.records (t := onlyIf _ _ _) ?_)))
  exact .onlyIf (fun u => ctlTo_units (refl u)) (.onlyIf (fun u => ctlTo_units (refl u)) (ctlTo_units h))

theorem admitGrants_units {a : Admit} {coding port w cost : Nat} (h : UnitsKept s t) : UnitsKept s (admitGrants a coding port w cost t) := by
  unfold admitGrants
  split
  · exact grantNew_units h
  · exact .ite (freeWaypoint_units h) (moveStream_units h)
  · exact freeWaypoint_units h

theorem askCandidate_units {a : Admit} {coding cost : Nat} {ws : List Nat} {x : State × Admit} (h : UnitsKept s t)
    (hx : askCandidate a coding cost t ws = some x) : UnitsKept s x.1 := by
  induction ws with
  | nil => cases hx
  | cons w ws ih =>
    rw [askCandidate] at hx
    split at hx
    · cases hx
      exact ctlTo_units h
    · exact ih hx

theorem climb_units {a : Admit} {rungs : List (Nat × Bool)} (h : UnitsKept s t) : UnitsKept s (climb a t rungs) := by
  induction rungs generalizing a with
  | nil => exact admitFails_units h
  | cons r rest ih =>
    unfold climb
    dsimp only
    refine .ite ih (.ite ?_ (.ite (admitGrants_units h) ih))
    split
    case h_1 x hx => exact UnitsKept.records (askCandidate_units h hx)
    case h_2 => exact ih

theorem reAdmit_units {x : TxStream} {lo hi reason : Nat} (h : UnitsKept s t) : UnitsKept s (reAdmit x lo hi reason t) :=
  .ite h (.ite (.onlyIf (fun u => UnitsKept.records (refl u)) h) (climb_units h.inc))

theorem codingDisabled_units (h : UnitsKept s t) : UnitsKept s (codingDisabled t) := by
  refine .forAll (fun _ u => ?_) (.forAll (fun _ u => reAdmit_units (refl u)) h)
  exact .forAll (fun _ u => requestLiveOf_units (refl u)) (.forAll (fun _ u => requestDraft_units (refl u)) (refl u))

/-! ### Lanes, MACs and packet entries -/

theorem macCause_units {m bit : Nat} (h : UnitsKept s t) : UnitsKept s (macCause m bit t) := UnitsKept.setCauses h

theorem renewFeed_units {lo hi i : Nat} (h : UnitsKept s t) : UnitsKept s (renewFeed lo hi i t) :=
  .ite (judgeInput_units h.putFlag) h.putFlag

theorem renewFed_units {n : Nat} (h : UnitsKept s t) : UnitsKept s (renewFed n t) :=
  .ite (renewFeed_units h) (.ite (renewFeed_units h) h)

theorem rxLost_units {n : Nat} (h : UnitsKept s t) : UnitsKept s (rxLost n t) := by
  refine .ite (.ite (renewFed_units (UnitsKept.notice (UnitsKept.put (UnitsKept.put ?_)))) ?_)
    (.onlyIf (fun u => renewFed_units (refl u).put.notice) h)
  all_goals exact .onlyIf (fun u => (refl u).notice) h.put

theorem macLaneChanged_units {m : Nat} (h : UnitsKept s t) : UnitsKept s (macLaneChanged m t) := by
  unfold macLaneChanged
  dsimp only
  refine .onlyIf (fun u => .forAll (fun _ u => rxLost_units (refl u)) (refl u)) ?_
  exact .onlyIf (fun u => macCause_units (refl u).putFlag) h

theorem laneFollows_units {l : Nat} (h : UnitsKept s t) : UnitsKept s (laneFollows l t) := by
  refine .forAll (fun _ u => macLaneChanged_units (.onlyIf (fun u => judgeInput_units (refl u)) (refl u))) ?_
  exact .onlyIf (fun u => renewCeiling_units (refl u)) h

theorem testOut_units {l : Nat} (h : UnitsKept s t) : UnitsKept s (testOut l t) := .onlyIf (fun u => (refl u).emit) h

theorem applyEq_units {l : Nat} (h : UnitsKept s t) : UnitsKept s (applyEq l t) := by
  unfold applyEq
  dsimp only
  split <;> split
  · exact h.put.putFlag.put.put.put.put.putFlag
  · exact h.put.put.put.put.putFlag
  · exact h.put.putFlag
  · exact h

theorem laneDisabled_units {l : Nat} (h : UnitsKept s t) : UnitsKept s (laneDisabled l t) := h.put.put.put.put

theorem putGate_units {g : GateState} (h : UnitsKept s t) : UnitsKept s (putGate g t) := (UnitsKept.records h).putFlag.putFlag.put

theorem forgetStream_units {n : Nat} (h : UnitsKept s t) : UnitsKept s (forgetStream n t) := (UnitsKept.records h).put

theorem judgeFed_units {n : Nat} (h : UnitsKept s t) : UnitsKept s (judgeFed n t) :=
  .onlyIf (fun u => judgeInput_units (judgeFormat_units (refl u))) (renewFed_units h)

theorem pairFormed_units {n : Nat} (h : UnitsKept s t) : UnitsKept s (pairFormed n t) := by
  unfold pairFormed
  dsimp only
  refine .onlyIf (fun u => UnitsKept.notice (renewFed_units (UnitsKept.notice ?_))) h
  exact (refl u).put.put

theorem pairBroken_units {n : Nat} (h : UnitsKept s t) : UnitsKept s (pairBroken n t) := by
  unfold pairBroken
  dsimp only
  refine .onlyIf (fun u => renewFed_units (refl u).notice) ?_
  exact h.put.putFlag

theorem rxEnabled_units {n : Nat} (h : UnitsKept s t) : UnitsKept s (rxEnabled n t) :=
  .onlyIf (fun u => rxLost_units (refl u)) (judgeFed_units (pairFormed_units (forgetStream_units h.put.put)))

theorem rxDisabled_units {n : Nat} (h : UnitsKept s t) : UnitsKept s (rxDisabled n t) :=
  judgeFed_units (.onlyIf (fun u => pairBroken_units (refl u)) (forgetStream_units h.put.put))

theorem abortFrame_units {n : Nat} (h : UnitsKept s t) : UnitsKept s (abortFrame n t) := by
  unfold abortFrame
  exact macCause_units h.bump.emit

theorem stopConsumer_units {q : Nat} (h : UnitsKept s t) : UnitsKept s (stopConsumer q t) := by
  unfold stopConsumer
  dsimp only
  split
  · exact UnitsKept.records (abortFrame_units h)
  · exact UnitsKept.records h

theorem queueDisabled_units {q : Nat} (h : UnitsKept s t) : UnitsKept s (queueDisabled q t) := (stopConsumer_units h).put.put.put

/-! ### The reference unit -/

theorem tableValues_units (h : UnitsKept s t) : UnitsKept s (tableValues t) :=
  .forAll (fun _ u => (refl u).put.put.put.put.put.put.put) h.put.put.put.put.put.put.put.put

theorem showModel_units (h : UnitsKept s t) : UnitsKept s (showModel t) := h.put.putFlag.putFlag

theorem withDaily_units {l : List (Nat × Int)} (h : UnitsKept s t) : UnitsKept s { t with refDaily := l } := h

theorem withHist_units {l : List (Nat × List Int)} (h : UnitsKept s t) : UnitsKept s { t with refHist := l } := h

theorem takeRecord_units {bs : List Byte} (h : UnitsKept s t) : UnitsKept s (takeRecord bs t) := by
  unfold takeRecord
  dsimp only
  exact (withDaily_units h.putInt.put).put.put.put.put

theorem loadModel_units (h : UnitsKept s t) : UnitsKept s (loadModel t) := by
  have hz := (UnitsKept.records (u := { t with refDaily := [], refResid := [] }) h).put (f := .REF_MODEL_STAT_VALID) (i := 0) (v := 0)
  unfold loadModel
  dsimp only
  split
  · refine .ite (showModel_units (UnitsKept.put (takeRecord_units ?_))) (showModel_units (.ite (takeRecord_units (UnitsKept.notice ?_))
      (UnitsKept.notice ?_)))
    all_goals exact hz.put.put.putInt.put.put.put.put.put.put
  · refine showModel_units (.ite (takeRecord_units ?_) ?_)
    all_goals exact hz.put.put.putInt.put.put.put.put.put.put

theorem followInc0_units (h : UnitsKept s t) : UnitsKept s (followInc0 t) :=
  .onlyIf (fun u => (refl u).notice) (UnitsKept.putFlag (.onlyIf (fun u => (refl u).notice) h.putFlag))

theorem setRefState_units {v : Nat} (h : UnitsKept s t) : UnitsKept s (setRefState v t) := .ite h h.put.notice

theorem selectCandidate_units {c cause : Nat} (h : UnitsKept s t) : UnitsKept s (selectCandidate c cause t) :=
  setRefState_units h.put.put.put.put.put.notice

theorem enterHold_units {st cause : Nat} (h : UnitsKept s t) : UnitsKept s (enterHold st cause t) := by
  refine .ite h (UnitsKept.notice (setRefState_units (UnitsKept.notice (.onlyIf (fun u => (refl u).put) ?_))))
  exact .onlyIf (fun u => (refl u).put.put) h.put.put.put.put

theorem runSelection_units {base : Nat} (h : UnitsKept s t) : UnitsKept s (runSelection base t) := by
  unfold runSelection
  dsimp only
  refine .ite (followInc0_units (.ite h (selectCandidate_units h))) (followInc0_units ?_)
  have hf : UnitsKept s (onlyIf (t.flag .REF_CTRL_FORCE_EN) (fun s => (s.put .REF_CTRL_FORCE_EN 0 0).put .REF_SEL_STATE_CAUSE 0 7) t) :=
    .onlyIf (fun u => (refl u).put.put) h
  have hn (c : Bool) := UnitsKept.onlyIf (c := c) (fun u => (refl u).notice (n := 315)) hf
  split
  · exact .onlyIf (fun u => (refl u).notice) (hn _)
  · exact selectCandidate_units (hn _)
  · exact .ite (.onlyIf (fun u => (refl u).notice) (hn _)) (enterHold_units (hn _))
  · exact enterHold_units (hn _)

theorem refEnabled_units (h : UnitsKept s t) : UnitsKept s (refEnabled t) := by
  unfold refEnabled
  dsimp only
  exact runSelection_units (withHist_units (tableValues_units (loadModel_units h)).put.put.put).put

theorem refDisabled_units (h : UnitsKept s t) : UnitsKept s (refDisabled t) := by
  refine followInc0_units (UnitsKept.put (UnitsKept.put (UnitsKept.put (UnitsKept.put (UnitsKept.put (.forAll (fun _ u => ?_) h))))))
  exact (UnitsKept.records (refl u)).put.put.put.put.put

/-! ### Audio, DSP cores, heads, check-value units -/

theorem portEnabled_units {p : Nat} (h : UnitsKept s t) : UnitsKept s (portEnabled p t) :=
  (UnitsKept.records h).put.putFlag.put.put.put.put.put.put.put

theorem portDisabled_units {p : Nat} (h : UnitsKept s t) : UnitsKept s (portDisabled p t) := h.put.put.put.put.put

theorem matrixDisabled_units (h : UnitsKept s t) : UnitsKept s (matrixDisabled t) := by
  unfold matrixDisabled
  dsimp only
  refine UnitsKept.put (UnitsKept.records (t := onlyIf _ _ _) (.onlyIf (fun u => (refl u).notice) ?_))
  split
  · exact (UnitsKept.records h).put.refuse.notice
  · exact h

theorem dspStarted_units {n : Nat} (h : UnitsKept s t) : UnitsKept s (dspStarted n t) := (UnitsKept.records h).put.put

theorem dspCleared_units {n : Nat} (h : UnitsKept s t) : UnitsKept s (dspCleared n t) := .ite h h.put

theorem judgeLegend_units {n : Nat} (h : UnitsKept s t) : UnitsKept s (judgeLegend n t) := by
  unfold judgeLegend
  dsimp only
  exact .onlyIf (fun u => (refl u).put.notice) h.putFlag

theorem headDisabled_units {n : Nat} (h : UnitsKept s t) : UnitsKept s (headDisabled n t) := (UnitsKept.records h).put

theorem chkEnabled_units {n : Nat} (h : UnitsKept s t) : UnitsKept s (chkEnabled n t) := h.put.put.put.put.putFlag

/-! ### Twins, power states and the field override -/

theorem setPower_units {p : Nat} (h : UnitsKept s t) : UnitsKept s (setPower p t) := .ite h h.put.putFlag.notice

theorem startSync_units {stage : Nat} (h : UnitsKept s t) : UnitsKept s (startSync stage t) :=
  (UnitsKept.onlyIf (fun u => (refl u).clearAll.clearAll) h).put.put.clearAll

theorem applyRole_units (h : UnitsKept s t) : UnitsKept s (applyRole t) :=
  .ite (setPower_units h).put (.onlyIf (fun u => startSync_units (refl u)) (setPower_units h.put))

theorem twinDisabled_units (h : UnitsKept s t) : UnitsKept s (twinDisabled t) := h.put.put.put.put.put.put.put.put

theorem leaveQuietState_units (h : UnitsKept s t) : UnitsKept s (leaveQuietState t) := by
  refine .onlyIf (fun u => applyRole_units (refl u)) (requestAgain_units (.forAll (fun _ u => ?_) (setPower_units h)))
  exact .onlyIf (fun u => portEnabled_units (refl u)) (refl u)

theorem setOverride_units {on : Bool} (h : UnitsKept s t) : UnitsKept s (setOverride on t) := by
  unfold setOverride
  dsimp only
  exact .onlyIf (fun u => leaveQuietState_units (refl u).put) h.putFlag.putFlag.putFlag.put.putFlag

theorem judgeOverride_units (h : UnitsKept s t) : UnitsKept s (judgeOverride t) := .onlyIf (fun u => setOverride_units (refl u)) h

theorem armOverride_units (h : UnitsKept s t) : UnitsKept s (armOverride t) := .onlyIf (fun u => judgeOverride_units (refl u).put) h

/-! ### Start and stop of a unit -/

/-- What the acceptance of a check does leaves every unit's enable bit and check result alone. -/
theorem unitStarted_units (u : UnitId) (s : State) : UnitsKept s (unitStarted u s) := by
  obtain ⟨k, i⟩ := u
  cases k <;> dsimp only [unitStarted]
  case atlas => exact alignMeridians_units (refl s)
  case input => exact inputEnabled_units (refl s)
  case dest => exact destEnabled_units (refl s)
  case fabric => exact .onlyIf (fun u => requestGroups_units (refl u)) (fabricEnabled_units (refl s))
  case lane => exact testOut_units (laneFollows_units (applyEq_units (refl s)))
  case mac => exact macLaneChanged_units (refl s)
  case gcl => exact putGate_units (refl s)
  case tx => exact (refl s).put
  case rx => exact rxEnabled_units (refl s)
  case queue => exact (refl s).put.put.put.put
  case ref => exact refEnabled_units (refl s)
  case aud => exact requestGroups_units (refl s)
  case port => exact portEnabled_units (refl s)
  case dsp => exact dspStarted_units (refl s)
  case head => exact judgeLegend_units (refl s)
  case chkUnit => exact chkEnabled_units (refl s)
  case twin => exact applyRole_units (refl s)
  case field => exact armOverride_units (refl s).clearAll
  case cap => exact (refl s).put
  all_goals exact refl s

/-- What the stop of a unit does leaves every unit's enable bit and check result alone. -/
theorem unitStopped_units (u : UnitId) (s : State) : UnitsKept s (unitStopped u s) := by
  obtain ⟨k, i⟩ := u
  cases k <;> dsimp only [unitStopped]
  case atlas => exact refuseAll_units (refl s)
  case input => exact emptyStore_units (refl s)
  case fabric => exact fabricDisabled_units (atlasFabricDisabled_units (refl s))
  case mzc => exact codingDisabled_units (refl s)
  case lane => exact laneFollows_units (laneDisabled_units (refl s))
  case mac => exact macLaneChanged_units (refl s)
  case gcl => exact putGate_units (refl s)
  case tx => exact UnitsKept.records (refl s)
  case rx => exact rxDisabled_units (refl s)
  case queue => exact queueDisabled_units (refl s)
  case ref => exact refDisabled_units (refl s)
  case aud => exact matrixDisabled_units (refl s)
  case port => exact portDisabled_units (refl s)
  case dsp => exact dspCleared_units (refl s)
  case head => exact headDisabled_units (refl s)
  case chkUnit => exact (refl s).put
  case twin => exact twinDisabled_units (refl s)
  all_goals exact refl s

end Sys2Proof.Machine
end

section
/-!
PROOFS. Where the control register of a unit stands in the register map, what a write of it leaves in its fields, and how units start
and stop (R7, R17, R74 to R78).
-/
namespace Sys2Proof.Machine

variable {s t : State}

/-! ### The control register of a unit -/

/-- Distance from the first to the last offset of nested arrays of strides and counts. -/
def arraySpan : List (Nat × Nat) → Nat
  | [] => 0
  | (stride, count) :: ds => stride * (count - 1) + arraySpan ds

theorem dimIndex_le_span {acc rel i : Nat} {dims : List (Nat × Nat)} (h : dimIndex acc rel dims = some i) : rel ≤ arraySpan dims := by
  induction dims generalizing acc rel with
  | nil =>
    rw [dimIndex] at h
    split at h
    · exact Nat.le_of_eq ‹_›
    · cases h
  | cons d ds ih =>
    obtain ⟨stride, count⟩ := d
    rw [dimIndex] at h
    split at h
    · have hin : stride * (rel / stride) ≤ stride * (count - 1) := Nat.mul_le_mul_left _ (by omega)
      have := Nat.div_add_mod rel stride
      have := ih h
      rw [arraySpan]
      omega
    · cases h

theorem dimIndex_isNone (acc acc' rel : Nat) (dims : List (Nat × Nat)) : (dimIndex acc rel dims).isNone = (dimIndex acc' rel dims).isNone := by
  induction dims generalizing acc acc' rel with
  | nil =>
    simp only [dimIndex]
    split <;> rfl
  | cons d ds ih =>
    obtain ⟨stride, count⟩ := d
    simp only [dimIndex]
    split
    · exact ih ..
    · rfl

/-- The control registers of a kind of unit all lie before, or all behind, an array of registers at `b`. -/
def placeApart (k : UnitKind) (b : Nat) (dims : List (Nat × Nat)) : Bool :=
  (unitPlace k).1 + (unitPlace k).2.1 * ((unitPlace k).2.2 - 1) < b || b + arraySpan dims < (unitPlace k).1

/-- Remainder by their distance of the control registers' distance from `b`. -/
def placePhase (k : UnitKind) (b : Nat) : Nat := ((unitPlace k).1 + (unitPlace k).2.1 * b - b) % (unitPlace k).2.1

/-- The control registers of a kind of unit stand in step with an array of registers at `b`, and at no place of its elements. -/
def placeBetween (k : UnitKind) (b : Nat) : List (Nat × Nat) → Bool
  | [] => placePhase k b != 0
  | (stride, _) :: ds =>
    stride % (unitPlace k).2.1 == 0 && arraySpan ds < (unitPlace k).2.1 && (dimIndex 0 (placePhase k b) ds).isNone

/-- The description at `b` is that of a control register of a kind of unit, its index the unit's number. -/
def isControl (k : UnitKind) (b : Nat) (d : RegDesc) : Bool :=
  d.flds.contains .UNIT_EN
    && (if (unitPlace k).2.1 = 0 then d.unit == some (k, 0) && (unitPlace k).2.2 == 1
      else d.unit == some (k, 1) && d.dims.map (·.1) == [(unitPlace k).2.1] && b == (unitPlace k).1 + (unitPlace k).2.1 * d.idx0)

/-- Every description of the register map is a kind's control register, or meets none of that kind. -/
theorem allBlocks_control (k : UnitKind) :
    allBlocks.all (fun b => b.2.2.all (fun d =>
      isControl k (b.1 + d.off) d || placeApart k (b.1 + d.off) d.dims || placeBetween k (b.1 + d.off) d.dims)) = true := by
  cases k <;> decide +kernel

theorem ctrlOff_eq_phase {u : UnitId} {b : Nat} (h : b ≤ ctrlOff u) : (ctrlOff u - b) % (unitPlace u.kind).2.1 = placePhase u.kind b := by
  unfold ctrlOff at *
  unfold placePhase
  generalize (unitPlace u.kind).1 = a at *
  generalize (unitPlace u.kind).2.1 = st at *
  rcases Nat.eq_zero_or_pos st with rfl | hst
  · simp
  · have hb : b ≤ st * b := Nat.le_mul_of_pos_left b hst
    have hsum : (a + st * u.idx - b) + st * b = (a + st * b - b) + st * u.idx := by omega
    rw [← Nat.add_mul_mod_self_left (a + st * u.idx - b) st b, hsum, Nat.add_mul_mod_self_left]

theorem ctrlOff_le {u : UnitId} (hu : unitValid u = true) :
    ctrlOff u ≤ (unitPlace u.kind).1 + (unitPlace u.kind).2.1 * ((unitPlace u.kind).2.2 - 1) := by
  unfold unitValid at hu
  exact Nat.add_le_add_left (Nat.mul_le_mul_left _ (Nat.le_sub_one_of_lt (of_decide_eq_true hu))) _

theorem not_placeApart {u : UnitId} {b acc i : Nat} {dims : List (Nat × Nat)} (hu : unitValid u = true) (hb : b ≤ ctrlOff u)
    (hi : dimIndex acc (ctrlOff u - b) dims = some i) : placeApart u.kind b dims = false := by
  have hspan := dimIndex_le_span hi
  have hfirst : (unitPlace u.kind).1 ≤ ctrlOff u := Nat.le_add_right ..
  have hlast := ctrlOff_le hu
  simp only [placeApart, Bool.or_eq_false_iff, decide_eq_false_iff_not]
  omega

theorem not_placeBetween {u : UnitId} {b acc i : Nat} {dims : List (Nat × Nat)} (hb : b ≤ ctrlOff u)
    (hi : dimIndex acc (ctrlOff u - b) dims = some i) : placeBetween u.kind b dims = false := by
  have hphase := ctrlOff_eq_phase hb
  cases dims with
  | nil =>
    rw [dimIndex] at hi
    split at hi
    case isTrue h0 =>
      rw [h0, Nat.zero_mod] at hphase
      simp [placeBetween, ← hphase]
    case isFalse => cases hi
  | cons d ds =>
    obtain ⟨stride, count⟩ := d
    refine Bool.eq_false_iff.mpr (fun hc => ?_)
    simp only [placeBetween, Bool.and_eq_true, beq_iff_eq, decide_eq_true_eq] at hc
    obtain ⟨⟨hdvd, hsmall⟩, hnone⟩ := hc
    rw [dimIndex] at hi
    split at hi
    case isFalse => cases hi
    case isTrue =>
      have hlt : (ctrlOff u - b) % stride < (unitPlace u.kind).2.1 := Nat.lt_of_le_of_lt (dimIndex_le_span hi) hsmall
      have hrel : (ctrlOff u - b) % stride = placePhase u.kind b := by
        rw [← hphase, ← Nat.mod_eq_of_lt hlt, Nat.mod_mod_of_dvd _ (Nat.dvd_of_mod_eq_zero hdvd)]
      rw [dimIndex_isNone 0 (0 * count + 0), ← hrel, dimIndex_isNone _ (acc * count + (ctrlOff u - b) / stride), hi] at hnone
      cases hnone

/-- The register at a unit's control offset holds the enable bit, and that of this unit (R74). -/
theorem lookupReg_ctrlOff {u : UnitId} {r : RegRef} (hu : unitValid u = true) (h : lookupReg (ctrlOff u) = some r) :
    r.desc.flds.contains .UNIT_EN = true ∧ r.unitCode = some u.code := by
  obtain ⟨b, hb, hd, hoff, i, hi, hidx⟩ := lookupReg_some h
  have htab := List.all_eq_true.mp (List.all_eq_true.mp (allBlocks_control u.kind) b hb) _ hd
  rw [not_placeApart hu hoff hi, not_placeBetween hoff hi, Bool.or_false, Bool.or_false, isControl, Bool.and_eq_true] at htab
  obtain ⟨hen, hplace⟩ := htab
  refine ⟨hen, ?_⟩
  unfold unitValid at hu
  unfold ctrlOff at hi
  unfold RegRef.unitCode UnitId.code
  split at hplace
  case isTrue hst =>
    simp only [Bool.and_eq_true, beq_iff_eq] at hplace
    obtain ⟨hunit, hcount⟩ := hplace
    have h0 : u.idx = 0 := by simp [hcount] at hu; exact hu
    rw [hunit, h0]
    rfl
  case isFalse hst =>
    simp only [Bool.and_eq_true, beq_iff_eq] at hplace
    obtain ⟨⟨hunit, hdims⟩, hbase⟩ := hplace
    obtain ⟨⟨stride, count⟩, hdim, rfl⟩ := List.map_eq_singleton_iff.mp hdims
    rw [hbase] at hi hoff
    unfold ctrlOff at hoff
    have hle : r.desc.idx0 ≤ u.idx := Nat.le_of_mul_le_mul_left (by omega) (Nat.pos_of_ne_zero hst)
    have hrel : (unitPlace u.kind).1 + (unitPlace u.kind).2.1 * u.idx - ((unitPlace u.kind).1 + (unitPlace u.kind).2.1 * r.desc.idx0)
        = (unitPlace u.kind).2.1 * (u.idx - r.desc.idx0) := by
      rw [Nat.add_sub_add_left, Nat.mul_sub]
    rw [hrel, hdim, dimIndex, Nat.mul_div_cancel_left _ (Nat.pos_of_ne_zero hst), Nat.mul_mod_right, dimIndex, if_pos rfl] at hi
    split at hi
    case isFalse => cases hi
    case isTrue =>
      have hnum : r.idx = u.idx := by
        cases hi
        omega
      rw [hunit, hnum, Option.map_some, if_neg Nat.one_ne_zero, Nat.div_one]

end Sys2Proof.Machine
end

section
/-!
PROOFS. How units start and stop by a write of their control register and at the end of their check (R7, R17, R74 to R78).
-/
namespace Sys2Proof.Machine

variable {s t : State} {u : UnitId} {r : RegRef} {m : Master}

/-! ### The control register in a write -/

/-- The words of a unit's consistency check, the master that began it included (R75, R78). -/
def checkFields : List Fld := [.CHECK_BUSY, .CHECK_ENABLED, .CHECK_REFUSALS, .CHECK_LAST_REASON, .CHECK_MASTER]

/-- A register with an enable bit holds no result of a check and nothing of the reports. -/
theorem allBlocks_controlFields : allBlocks.all (fun b => b.2.2.all (fun d => !d.flds.contains .UNIT_EN
    || (checkFields ++ refuseFields ++ reportFields).all (fun f => !d.flds.contains f))) = true := by decide +kernel

theorem not_mem_control (hu : unitValid u = true) (hr : lookupReg (ctrlOff u) = some r) {f : Fld}
    (hf : f ∈ checkFields ++ refuseFields ++ reportFields) : f ∉ r.desc.flds := by
  obtain ⟨hen, -⟩ := lookupReg_ctrlOff hu hr
  obtain ⟨b, hb, hd, -⟩ := lookupReg_some hr
  have htab := List.all_eq_true.mp (List.all_eq_true.mp allBlocks_controlFields b hb) _ hd
  rw [hen, Bool.not_true, Bool.false_or] at htab
  have hfree := List.all_eq_true.mp htab f hf
  rw [← List.contains_iff_mem]
  simpa using hfree

/-- A plain write of a control register leaves the unit's enable bit, its check and the reports alone. -/
theorem writeFields_get_control (hu : unitValid u = true) (hr : lookupReg (ctrlOff u) = some r) (v hw : Nat) (s : State) {f : Fld}
    (hf : f ∈ [.UNIT_EN] ++ checkFields ++ refuseFields ++ reportFields) (i : Nat) : (writeFields r v hw s).get f i = s.get f i := by
  rw [List.append_assoc, List.append_assoc, List.mem_append, List.mem_singleton, ← List.append_assoc] at hf
  obtain rfl | hf := hf
  · exact writeFields_keeps_en ..
  · exact (writeFields_touches r v hw s).get (not_mem_control hu hr hf) i

theorem ctrlOff_lt (hu : unitValid u = true) : ctrlOff u < 0x4000000 := by
  have hlast (k : UnitKind) : (unitPlace k).1 + (unitPlace k).2.1 * ((unitPlace k).2.2 - 1) < 0x4000000 := by
    cases k <;> decide
  exact Nat.lt_of_le_of_lt (ctrlOff_le hu) (hlast u.kind)

/-- A write of a valid unit's control register that passes the gate. -/
theorem unitWrite_pass (hu : unitValid u = true) (hp : Passes m (ctrlOff u) s) (v hw : Nat) :
    unitWrite m u v hw s = controlWrite m u v hw (s.respond 0 false) := by
  unfold unitWrite
  rw [hu, onlyIf_true, writeGated_pass hp, show regGate m (ctrlOff u) 4 true s = none from hp]
  rfl

theorem denyAccess_absent (m : Master) (addr : Nat) (write : Bool) (s : State) :
    denyAccess m addr write 1 s = busError m addr write 1 s := by
  unfold denyAccess
  rw [if_neg (by decide), show ((1 : Nat) == 3) = false from rfl, onlyIf_false]

/-- An enable of a unit that the part does not have gets the error response and is refused (R7). -/
theorem unitWrite_absent (hu : unitValid u = true) (hg : regGate m (ctrlOff u) 4 true s = some 1) {v : Nat} (hv : v % 2 = 1) (hw : Nat) :
    unitWrite m u v hw s = refuse 0x01 (wordOf (ctrlOff u)) m (busError m (barBase + ctrlOff u) true 1 s) := by
  unfold unitWrite writeGated
  rw [hu, onlyIf_true, hg, hv]
  dsimp only
  rw [denyAccess_absent, beq_self_eq_true, Bool.true_and, beq_self_eq_true, onlyIf_true]

section
variable (hr : lookupReg (ctrlOff u) = some r) {v : Nat} (hres : reservedValue r v = false) (hw : Nat)
include hr hres

theorem controlWrite_starts (hen : s.get .UNIT_EN u.code = 0) (hv : v % 2 = 1) :
    controlWrite m u v hw s = checkStarts m u (writeFields r v hw s) := by
  have hoff : s.unitEn u = false := by simp [State.unitEn, State.flag, hen]
  simp only [controlWrite, hr, hres, hoff, hv, Bool.false_eq_true, Bool.not_false, if_false, if_true]

theorem controlWrite_aborts (hen : s.get .UNIT_EN u.code = 1) (hv : v % 2 = 0) (hbusy : s.get .CHECK_BUSY u.code = 1) :
    controlWrite m u v hw s = checkRefused m 0x07 u (writeFields r v hw s) := by
  have hon : s.unitEn u = true := by simp [State.unitEn, State.flag, hen]
  have hb : s.flag .CHECK_BUSY u.code = true := by simp [State.flag, hbusy]
  simp only [controlWrite, hr, hres, hon, hv, hb, Bool.false_eq_true, Bool.not_true, if_false, if_true, Nat.zero_ne_one]

theorem controlWrite_clears (hen : s.get .UNIT_EN u.code = 1) (hv : v % 2 = 0) (hbusy : s.get .CHECK_BUSY u.code = 0) :
    controlWrite m u v hw s = if s.clearVeto u ≠ 0 then refuse (s.clearVeto u) (wordOf (ctrlOff u)) m (writeFields r v hw s)
      else stopUnit u (writeFields r v hw s) := by
  have hon : s.unitEn u = true := by simp [State.unitEn, State.flag, hen]
  have hb : s.flag .CHECK_BUSY u.code = false := by simp [State.flag, hbusy]
  simp only [controlWrite, hr, hres, hon, hv, hb, Bool.false_eq_true, Bool.not_true, if_false, Nat.zero_ne_one]

end

/-! ### A check that is refused -/

theorem State.put_mod (s : State) (f : Fld) (i v : Nat) : s.put f i (v % 2 ^ f.info.w) = s.put f i v := by
  unfold State.put
  rw [Nat.mod_mod]

/-- The log holds the low eight bits of a code (R78). -/
theorem refuse_mod (code word : Nat) (m : Master) (s : State) : refuse (code % 256) word m s = refuse code word m s := by
  unfold refuse
  rw [← State.put_mod s .GEN_REFUSE_LOG0_REASON 0 code]
  rfl

/-- A refusal of any code is recorded with the code's low eight bits. -/
theorem refuse_refused_mod {word : Nat} (code : Nat) (m : Master) (s : State) (hw : word < 2 ^ 24) :
    Refused (code % 256) word m s (refuse code word m s) := by
  rw [← refuse_mod]
  exact refuse_refused m s (Nat.mod_lt _ (by decide)) hw

section
variable (m : Master) (code : Nat) (u : UnitId) (s : State)

theorem checkRefused_touches :
    Touches ([.UNIT_EN, .CHECK_BUSY, .CHECK_REFUSALS, .CHECK_LAST_REASON] ++ refuseFields ++ reportFields) s (checkRefused m code u s) := by
  unfold checkRefused
  refine Touches.refuse (by decide) (by decide) _ _ _ (Touches.put (by decide) _ _ (Touches.bump (by decide) _ _ ?_))
  exact Touches.put (by decide) _ _ (Touches.put (by decide) _ _ (Touches.refl _ s))

theorem checkRefused_ends : (checkRefused m code u s).get .UNIT_EN u.code = 0 ∧ (checkRefused m code u s).get .CHECK_BUSY u.code = 0
    ∧ (checkRefused m code u s).get .CHECK_LAST_REASON u.code = code % 256
    ∧ (checkRefused m code u s).get .CHECK_REFUSALS u.code = satAdd 8 (s.get .CHECK_REFUSALS u.code) 1 := by
  unfold checkRefused
  dsimp only
  refine ⟨?_, ?_, ?_, ?_⟩
  all_goals rw [State.get_refuse _ _ _ _ (by decide)]
  · rw [State.get_put_other _ (by decide), State.bump, State.get_put_other _ (by decide), State.get_put_other _ (by decide),
      State.get_put_self]
    rfl
  · rw [State.get_put_other _ (by decide), State.bump, State.get_put_other _ (by decide), State.get_put_self]
    rfl
  · rw [State.get_put_self]
    rfl
  · rw [State.get_put_other _ (by decide), State.bump, State.get_put_self, State.get_put_other _ (by decide),
      State.get_put_other _ (by decide)]
    exact Nat.mod_eq_of_lt (satAdd_lt 8 _ 1)

variable {u} in
theorem checkRefused_refused (hu : unitValid u = true) :
    Refused (code % 256) (wordOf (ctrlOff u)) m s (checkRefused m code u s) := by
  unfold checkRefused
  dsimp only
  refine Refused.after (t := State.put _ _ _ _) ?_ ?_ (refuse_refused_mod code m _ (wordOf_lt (ctrlOff_lt hu)))
  all_goals rw [State.get_put_other _ (by decide), State.bump, State.get_put_other _ (by decide), State.get_put_other _ (by decide),
      State.get_put_other _ (by decide)]

end

/-! ### Start and stop -/

/-- Of a write that starts the check: the fields that software may write while the unit is disabled take their bits (R15, R17, R75). -/
theorem checkStarts_get_written (hu : unitValid u = true) (hr : lookupReg (ctrlOff u) = some r) (hen : s.get .UNIT_EN u.code = 0)
    (m : Master) (v hw : Nat) {f : Fld} (hf : f ∈ r.desc.flds) (hne : f ≠ .UNIT_EN) (hacc : f.info.acc = .RWL ∨ f.info.acc = .RW) :
    (checkStarts m u (writeFields r v hw s)).get f (r.fieldIdx f) = fieldOf f v % 2 ^ f.info.w := by
  have hother {g : Fld} (hg : g ∈ checkFields ++ refuseFields ++ reportFields) : g ≠ f := fun e => not_mem_control hu hr hg (e ▸ hf)
  have hlock : s.locked r = false := by
    obtain ⟨-, hcode⟩ := lookupReg_ctrlOff hu hr
    simp [State.locked, hcode, State.flag, hen]
  unfold checkStarts
  rw [State.get_put_other _ (hother (by decide)), State.get_put_other _ (hother (by decide)), State.get_put_other _ hne.symm,
    writeFields_get (lookupReg_nodup hr) _ _ _ hf hne, hlock]
  unfold fieldAfterWrite
  obtain h | h := hacc <;> rw [h]
  rfl

theorem checkStarts_touches (m : Master) (u : UnitId) (s : State) :
    Touches [.UNIT_EN, .CHECK_BUSY, .CHECK_MASTER] s (checkStarts m u s) := by
  unfold checkStarts
  exact Touches.put (by decide) _ _ (Touches.put (by decide) _ _ (Touches.put (by decide) _ _ (Touches.refl _ s)))

theorem checkStarts_begins (m : Master) (u : UnitId) (s : State) :
    (checkStarts m u s).get .UNIT_EN u.code = 1 ∧ (checkStarts m u s).get .CHECK_BUSY u.code = 1 := by
  unfold checkStarts
  refine ⟨?_, ?_⟩
  · rw [State.get_put_other _ (by decide), State.get_put_other _ (by decide), State.get_put_self]
    rfl
  · rw [State.get_put_other _ (by decide), State.get_put_self]
    rfl

/-- The acceptance of a check, before what the unit itself does at its start (R75). -/
def checkAccepted (u : UnitId) (s : State) : State :=
  ((s.put .CHECK_BUSY u.code 0).put .CHECK_ENABLED u.code 1).put .CHECK_LAST_REASON u.code 0

theorem checkAccepted_touches (u : UnitId) (s : State) :
    Touches [.CHECK_BUSY, .CHECK_ENABLED, .CHECK_LAST_REASON] s (checkAccepted u s) := by
  unfold checkAccepted
  exact Touches.put (by decide) _ _ (Touches.put (by decide) _ _ (Touches.put (by decide) _ _ (Touches.refl _ s)))

theorem checkAccepted_ends (u : UnitId) (s : State) : (checkAccepted u s).get .CHECK_ENABLED u.code = 1
    ∧ (checkAccepted u s).get .CHECK_BUSY u.code = 0 ∧ (checkAccepted u s).get .CHECK_LAST_REASON u.code = 0 := by
  unfold checkAccepted
  refine ⟨?_, ?_, ?_⟩
  · rw [State.get_put_other _ (by decide), State.get_put_self]
    rfl
  · rw [State.get_put_other _ (by decide), State.get_put_other _ (by decide), State.get_put_self]
    rfl
  · rw [State.get_put_self]
    rfl

/-- The end of a running check (R75, R77). -/
theorem exec_checkComplete_running (hu : unitValid u = true) (hen : s.get .UNIT_EN u.code = 1) (hbusy : s.get .CHECK_BUSY u.code = 1)
    (c : CheckIn) : exec (.checkComplete u c) s = .next (checkEnds u c s) := by
  have hon : s.unitEn u = true := by simp [State.unitEn, State.flag, hen]
  have hb : s.flag .CHECK_BUSY u.code = true := by simp [State.flag, hbusy]
  rw [exec_checkComplete]
  unfold execCheckComplete
  rw [hu, hon, hb]
  rfl

/-- What a queue does at its start: both pointers are 0 (R249). -/
def resetQueue (q : Nat) (s : State) : State :=
  (((s.put .PKT_Q_PTR_PROD q 0).put .PKT_Q_PTR_CONS q 0).put .PKT_Q_STAT_FLUSHING q 0).put .PKT_Q_ITEM_ECC q 0

theorem resetQueue_touches (q : Nat) (s : State) :
    Touches [.PKT_Q_PTR_PROD, .PKT_Q_PTR_CONS, .PKT_Q_STAT_FLUSHING, .PKT_Q_ITEM_ECC] s (resetQueue q s) := by
  unfold resetQueue
  refine Touches.put (by decide) _ _ (Touches.put (by decide) _ _ ?_)
  exact Touches.put (by decide) _ _ (Touches.put (by decide) _ _ (Touches.refl _ s))

theorem resetQueue_pointers (q : Nat) (s : State) :
    (resetQueue q s).get .PKT_Q_PTR_PROD q = 0 ∧ (resetQueue q s).get .PKT_Q_PTR_CONS q = 0 := by
  unfold resetQueue
  refine ⟨?_, ?_⟩
  · rw [State.get_put_other _ (by decide), State.get_put_other _ (by decide), State.get_put_other _ (by decide), State.get_put_self,
      Nat.zero_mod]
  · rw [State.get_put_other _ (by decide), State.get_put_other _ (by decide), State.get_put_self, Nat.zero_mod]

theorem unitStarted_queue (hk : u.kind = .queue) (s : State) : unitStarted u s = resetQueue u.idx s := by
  unfold unitStarted
  rw [hk]
  rfl

/-- The units whose start does nothing further. -/
theorem unitStarted_plain (hk : u.kind ∈ [UnitKind.mzc, .pkt, .tb, .cmp]) (s : State) : unitStarted u s = s := by
  obtain ⟨k, i⟩ := u
  simp only [List.mem_cons, List.not_mem_nil, or_false] at hk
  rcases hk with rfl | rfl | rfl | rfl <;> rfl

theorem checkEnds_accepted {c : CheckIn} (hc : s.checkCode u c = 0) : checkEnds u c s = unitStarted u (checkAccepted u s) := by
  unfold checkEnds checkAccepted
  dsimp only
  rw [if_pos hc]

theorem checkEnds_refused {c : CheckIn} (hc : s.checkCode u c ≠ 0) (hc' : s.checkCode u c ≠ 0x0E) :
    checkEnds u c s = checkRefused (masterOf (s.get .CHECK_MASTER u.code)) (s.checkCode u c) u s := by
  unfold checkEnds
  dsimp only
  rw [if_neg hc, beq_false_of_ne hc', onlyIf_false]

/-- A stopped unit's enable bits are 0 (R17, R74). -/
theorem stopUnit_ends (hc : u.kind = .dest → s.commitOf u.idx = none) : (stopUnit u s).get .UNIT_EN u.code = 0
    ∧ (stopUnit u s).get .CHECK_ENABLED u.code = 0 ∧ (stopUnit u s).get .CHECK_REFUSALS u.code = s.get .CHECK_REFUSALS u.code := by
  unfold stopUnit
  dsimp only
  split
  case isTrue hd =>
    obtain ⟨k, i⟩ := u
    subst hd
    rw [hc rfl]
    dsimp only
    unfold disableDest
    refine ⟨?_, ?_, ?_⟩
    · rw [State.get_put_other _ (by decide), State.get_put_other _ (by decide), State.get_put_other _ (by decide),
        State.get_put_other _ (by decide)]
      exact State.get_put_self ..
    · rw [State.get_put_other _ (by decide), State.get_put_other _ (by decide), State.get_put_other _ (by decide)]
      exact State.get_put_self ..
    · rw [State.get_put_other _ (by decide), State.get_put_other _ (by decide), State.get_put_other _ (by decide),
        State.get_put_other _ (by decide), State.get_put_other _ (by decide)]
  case isFalse =>
    have hkept := unitStopped_units u ((s.put .UNIT_EN u.code 0).put .CHECK_ENABLED u.code 0)
    refine ⟨(hkept.get (by decide) _).trans ?_, (hkept.get (by decide) _).trans ?_, (hkept.get (by decide) _).trans ?_⟩
    · rw [State.get_put_other _ (by decide), State.get_put_self]
      rfl
    · rw [State.get_put_self]
      rfl
    · rw [State.get_put_other _ (by decide), State.get_put_other _ (by decide)]

/-- A unit whose stop does nothing further loses its enable bits alone. -/
theorem stopUnit_touches (hk : u.kind ∈ [UnitKind.pkt, .tb, .cap, .cmp, .field]) (s : State) :
    Touches [.UNIT_EN, .CHECK_ENABLED] s (stopUnit u s) := by
  have hstop : stopUnit u s = (s.put .UNIT_EN u.code 0).put .CHECK_ENABLED u.code 0 := by
    obtain ⟨k, i⟩ := u
    simp only [List.mem_cons, List.not_mem_nil, or_false] at hk
    rcases hk with rfl | rfl | rfl | rfl | rfl <;> rfl
  rw [hstop]
  exact Touches.put (by decide) _ _ (Touches.put (by decide) _ _ (Touches.refl _ s))

end Sys2Proof.Machine
end

section
/-!
PROOFS. The statement about the start and the stop of units (R7, R17, R74 to R78).
-/
namespace Sys2Proof.Machine

variable {s : State} {u : UnitId} {r : RegRef} {m : Master}

/-- An answer on the bus vetoes no stop. -/
@[simp] theorem State.clearVeto_respond (s : State) (d : Nat) (e : Bool) (u : UnitId) : (s.respond d e).clearVeto u = s.clearVeto u := rfl

/-- What a write of a control register does as a plain write, before its enable bit takes effect. -/
def plainPart (r : RegRef) (v : Nat) (s : State) : State := writeFields r v 0 (s.respond 0 false)

theorem plainPart_touches (r : RegRef) (v : Nat) (s : State) : Touches r.desc.flds s (plainPart r v s) :=
  Touches.trans (Touches.respond 0 false (Touches.refl _ s)) (writeFields_touches ..)

theorem plainPart_get (hu : unitValid u = true) (hr : lookupReg (ctrlOff u) = some r) (v : Nat) (s : State) {f : Fld}
    (hf : f ∈ [.UNIT_EN] ++ checkFields ++ refuseFields ++ reportFields) (i : Nat) : (plainPart r v s).get f i = s.get f i :=
  writeFields_get_control hu hr v 0 _ hf i

@[simp] theorem plainPart_commitOf (r : RegRef) (v : Nat) (s : State) (d : Nat) : (plainPart r v s).commitOf d = s.commitOf d := by
  unfold State.commitOf
  rw [(plainPart_touches r v s).1]

section
variable (hu : unitValid u = true) (hp : Passes m (ctrlOff u) s) (hr : lookupReg (ctrlOff u) = some r) {v : Nat}
include hu hp hr

theorem exec_enableSet_starts (hen : s.get .UNIT_EN u.code = 0) (hres : reservedValue r (v ||| 1) = false) :
    exec (.enableSet m u v) s = .next (checkStarts m u (plainPart r (v ||| 1) s)) := by
  rw [exec_enableSet, execEnableSet, unitWrite_pass hu hp,
    controlWrite_starts (s := s.respond 0 false) hr hres 0 hen (Nat.or_mod_two_eq_one.mpr (.inr rfl)), plainPart]

variable (hen : s.get .UNIT_EN u.code = 1) (hres : reservedValue r (v / 2 * 2) = false)
include hen hres

theorem exec_checkAbort_busy (hbusy : s.get .CHECK_BUSY u.code = 1) :
    exec (.checkAbort m u v) s = .next (checkRefused m 0x07 u (plainPart r (v / 2 * 2) s)) := by
  rw [exec_checkAbort, execCheckAbort, unitWrite_pass hu hp,
    controlWrite_aborts (s := s.respond 0 false) hr hres 0 hen (Nat.mul_mod_left ..) hbusy, plainPart]

theorem exec_enableClear_stops (hbusy : s.get .CHECK_BUSY u.code = 0) (hveto : s.clearVeto u = 0) :
    exec (.enableClear m u v) s = .next (stopUnit u (plainPart r (v / 2 * 2) s)) := by
  rw [exec_enableClear, execEnableClear, unitWrite_pass hu hp,
    controlWrite_clears (s := s.respond 0 false) hr hres 0 hen (Nat.mul_mod_left ..) hbusy, State.clearVeto_respond,
    if_neg (not_not_intro hveto), plainPart]

theorem exec_enableClear_vetoed (hbusy : s.get .CHECK_BUSY u.code = 0) (hveto : s.clearVeto u ≠ 0) :
    exec (.enableClear m u v) s = .next (refuse (s.clearVeto u) (wordOf (ctrlOff u)) m (plainPart r (v / 2 * 2) s)) := by
  rw [exec_enableClear, execEnableClear, unitWrite_pass hu hp,
    controlWrite_clears (s := s.respond 0 false) hr hres 0 hen (Nat.mul_mod_left ..) hbusy, State.clearVeto_respond,
    if_pos hveto, plainPart]

end

theorem exec_enableSet_absent (hu : unitValid u = true) (hg : regGate m (ctrlOff u) 4 true s = some 1) (v : Nat) :
    exec (.enableSet m u v) s = .next (refuse 0x01 (wordOf (ctrlOff u)) m (busError m (barBase + ctrlOff u) true 1 s)) := by
  rw [exec_enableSet, execEnableSet, unitWrite_absent hu hg (Nat.or_mod_two_eq_one.mpr (.inr rfl))]

section
variable (hu : unitValid u = true) (hen : s.get .UNIT_EN u.code = 1) (hbusy : s.get .CHECK_BUSY u.code = 1) {c : CheckIn}
include hu hen hbusy

theorem exec_checkComplete_accepted (hc : s.checkCode u c = 0) :
    exec (.checkComplete u c) s = .next (unitStarted u (checkAccepted u s)) := by
  rw [exec_checkComplete_running hu hen hbusy, checkEnds_accepted hc]

theorem exec_checkComplete_refused (hc : s.checkCode u c ≠ 0) (hc' : s.checkCode u c ≠ 0x0E) :
    exec (.checkComplete u c) s = .next (checkRefused (masterOf (s.get .CHECK_MASTER u.code)) (s.checkCode u c) u s) := by
  rw [exec_checkComplete_running hu hen hbusy, checkEnds_refused hc hc']

end

/-- Settles O26: a write of a control register is a plain write, which leaves the enable bits, the checks and the reports alone
(`plainPart_get`), followed by the start of the check, its refusal, the stop or the refusal of the stop. -/
theorem unitsStartAndStopByTheirRules : Obligations.UnitsStartAndStopByTheirRules := by
  unfold Obligations.UnitsStartAndStopByTheirRules
  refine ⟨fun u s hu => ⟨fun m v r hp hen hr hres => ?_, fun m v hg => ?_, fun c hen hbusy hc => ?_, fun c hen hbusy hc hc' => ?_⟩,
    fun m u v r s hu hp hen hr hres => ?_⟩
  · -- ENABLE_SET on a disabled unit
    obtain ⟨hset, hbusy⟩ := checkStarts_begins m u (plainPart r (v ||| 1) s)
    have hplain := plainPart_touches r (v ||| 1) s
    have hstart := checkStarts_touches m u (plainPart r (v ||| 1) s)
    refine ⟨_, exec_enableSet_starts hu hp hr hen hres, hset, hbusy, ?_, fun f hf hne hacc => ?_, ?_⟩
    · exact (hstart.get (by decide) _).trans (plainPart_get hu hr _ s (by decide) _)
    · exact checkStarts_get_written hu hr (s := s.respond 0 false) hen m _ _ hf hne hacc
    · exact (hplain.mono (fun f hf => List.mem_append_right _ hf)).trans (hstart.mono (fun f hf => List.mem_append_left _ hf))
  · -- a unit that the part does not have
    obtain ⟨hcode, hword, -⟩ := refuse_refused m (busError m (barBase + ctrlOff u) true 1 s) (show 0x01 < 2 ^ 8 by decide)
      (wordOf_lt (ctrlOff_lt hu))
    refine ⟨_, exec_enableSet_absent hu hg v, (refuse_busResp ..).trans (busError_busResp ..), hcode, hword, ?_⟩
    exact ((busError_touches ..).mono (by decide)).trans ((refuse_report ..).mono (by decide))
  · -- a check with every condition met
    obtain ⟨hena, hidle, hreason⟩ := checkAccepted_ends u s
    have hstart := unitStarted_units u (checkAccepted u s)
    have haccept := checkAccepted_touches u s
    refine ⟨_, exec_checkComplete_accepted hu hen hbusy hc,
      (hstart.get (by decide) _).trans hena, (hstart.get (by decide) _).trans ((haccept.get (by decide) _).trans hen),
      (hstart.get (by decide) _).trans hidle, (hstart.get (by decide) _).trans hreason, fun hk => ?_, fun hk => ?_⟩
    · rwa [unitStarted_plain hk]
    · rw [unitStarted_queue hk]
      obtain ⟨hprod, hcons⟩ := resetQueue_pointers u.idx (checkAccepted u s)
      exact ⟨hprod, hcons, (haccept.mono (by decide)).trans ((resetQueue_touches ..).mono (by decide))⟩
  · -- a check that ends with a code
    obtain ⟨hoff, hidle, hreason, hcount⟩ := checkRefused_ends (masterOf (s.get .CHECK_MASTER u.code)) (s.checkCode u c) u s
    exact ⟨_, exec_checkComplete_refused hu hen hbusy hc hc', hoff, hidle, hreason, hcount, checkRefused_refused _ _ s hu,
      checkRefused_touches ..⟩
  · have hplain := plainPart_touches r (v / 2 * 2) s
    have hkeep {f : Fld} (hf : f ∈ [.UNIT_EN] ++ checkFields ++ refuseFields ++ reportFields) (i : Nat) :=
      plainPart_get hu hr (v / 2 * 2) s hf i
    refine ⟨fun hbusy => ?_, fun hbusy hveto hcommit => ?_, fun hbusy hveto => ?_⟩
    · -- a write of 0 while the check runs
      obtain ⟨hoff, hidle, hreason, -⟩ := checkRefused_ends m 0x07 u (plainPart r (v / 2 * 2) s)
      have hend := checkRefused_touches m 0x07 u (plainPart r (v / 2 * 2) s)
      refine ⟨_, exec_checkAbort_busy hu hp hr hen hres hbusy, hoff, hidle, hreason, (hend.get (by decide) _).trans (hkeep (by decide) _),
        Refused.after (hkeep (by decide) _) (hkeep (by decide) _) (checkRefused_refused m 0x07 _ hu),
        Touches.trans (hplain.mono (fun f hf => ?_)) (hend.mono (fun f hf => ?_))⟩
      · exact List.mem_append_left _ (List.mem_append_left _ (List.mem_append_right _ hf))
      · simp only [List.mem_append] at hf ⊢
        exact hf.imp_left (Or.imp_left .inl)
    · -- a write of 0 that stops the unit
      obtain ⟨hoff, hidle, hcount⟩ := stopUnit_ends (u := u) (s := plainPart r (v / 2 * 2) s) (by simpa using hcommit)
      refine ⟨_, exec_enableClear_stops hu hp hr hen hres hbusy hveto, hoff, hidle, hcount.trans (hkeep (by decide) _), fun hk => ?_⟩
      exact (hplain.mono (fun f hf => List.mem_append_right _ hf)).trans
        ((stopUnit_touches hk _).mono (fun f hf => List.mem_append_left _ hf))
    · -- a write of 0 that is ignored
      refine ⟨_, exec_enableClear_vetoed hu hp hr hen hres hbusy hveto, ?_, ?_, ?_, ?_⟩
      · exact (State.get_refuse _ _ _ _ (by decide) _).trans ((hkeep (by decide) _).trans hen)
      · exact (State.get_refuse _ _ _ _ (by decide) _).trans (hkeep (by decide) _)
      · exact Refused.after (hkeep (by decide) _) (hkeep (by decide) _) (refuse_refused_mod _ m _ (wordOf_lt (ctrlOff_lt hu)))
      · rw [List.append_assoc]
        exact (hplain.mono (fun f hf => List.mem_append_left _ hf)).trans ((refuse_report ..).mono (fun f hf => List.mem_append_right _ hf))

end Sys2Proof.Machine
end

section
/-!
PROOFS. Tokens of the enumeration chain: a token that the device makes is good, and its fields are those it was made from (R22, R25,
R26).
-/
namespace Sys2Proof.Machine

theorem bitsAt_lt (v lo w : Nat) : bitsAt v lo w < 2 ^ w := Nat.mod_lt _ (Nat.two_pow_pos w)

theorem tokenClass_lt (v : Variant) : v.tokenClass < 2 := by
  unfold Variant.tokenClass
  split <;> decide

/-! ### The CRC of a token -/

theorem crcBitL_lt {w p : Nat} (hp : p < 2 ^ w) (bit reg : Nat) : crcBitL w p bit reg < 2 ^ w := by
  refine Nat.xor_lt_two_pow (Nat.mod_lt _ (Nat.two_pow_pos w)) ?_
  split
  · exact hp
  · exact Nat.two_pow_pos w

/-- The CRC fits its field of the token. -/
theorem crc16_lt (bs : List Byte) : crc16 bs < 2 ^ 16 :=
  List.foldlRecOn bs _ (motive := (· < 2 ^ 16)) (by decide)
    (fun _ hr _ _ => List.foldlRecOn _ _ (motive := (· < 2 ^ 16)) hr (fun _ _ _ _ => crcBitL_lt (by decide) _ _))

/-! ### The fields of a token -/

/-- The fields of a token that is made from values within their widths; SYNC and CRC are correct (R22). -/
theorem makeToken_fields {position plane twin cls : Nat} (hpos : position < 16) (hplane : plane < 2) (htwin : twin < 2) (hcls : cls < 2) :
    let tok := makeToken position plane twin cls
    bitsAt tok 20 4 = position ∧ bitsAt tok 19 1 = plane ∧ bitsAt tok 18 1 = twin ∧ bitsAt tok 17 1 = cls ∧ tokenGood tok = true := by
  unfold tokenGood tokenSync tokenCrc makeToken
  dsimp only
  generalize hhi : 0xA500 + 16 * position + 8 * plane + 4 * twin + 2 * cls = hi
  have hcrc := crc16_lt (beBytes 2 hi)
  have hupper : bitsAt (hi * 2 ^ 16 + crc16 (beBytes 2 hi)) 16 16 = hi := by
    unfold bitsAt
    omega
  rw [hupper, Bool.and_eq_true, beq_iff_eq, beq_iff_eq]
  unfold bitsAt
  omega

/-- What a token is forwarded as (R26, R28). -/
theorem forwardToken_fields (tok : Nat) :
    bitsAt (forwardToken tok) 20 4 = min 15 (bitsAt tok 20 4 + 1) ∧ bitsAt (forwardToken tok) 19 1 = bitsAt tok 19 1
      ∧ bitsAt (forwardToken tok) 18 1 = bitsAt tok 18 1 ∧ bitsAt (forwardToken tok) 17 1 = bitsAt tok 17 1
      ∧ tokenGood (forwardToken tok) = true :=
  makeToken_fields (by omega) (bitsAt_lt ..) (bitsAt_lt ..) (bitsAt_lt ..)

end Sys2Proof.Machine
end

section
/-!
PROOFS. Enumeration: what taking a position and recording a fault do, what the third of three tokens leads to, and the statements of the
enumeration chain (R23 to R35).
-/
namespace Sys2Proof.Machine

open Host (Outcome)

variable {s : State} {tok : Nat}

/-! ### Taking a position -/

/-- The address of a device with a position (R33, R66). -/
theorem mgmtAddr_of_positioned (h : s.positioned = true) :
    s.mgmtAddr = if s.inRecovery then 0x0E else 0x10 + 12 * s.get .GEN_ENUM_PLANE + s.position := by
  rw [State.mgmtAddr, show s.flag .GEN_ENUM_POS_VALID = true from h]
  cases s.inRecovery <;> rfl

/-- The position written, before the address follows it. -/
theorem positionPut_fields {p : Nat} (hp : p < 16) (s : State) :
    let u := (s.put .GEN_ENUM_POS_VALID 0 1).put .GEN_ENUM_POSITION 0 p
    u.positioned = true ∧ u.position = p ∧ u.inRecovery = s.inRecovery ∧ u.get .GEN_ENUM_PLANE = s.get .GEN_ENUM_PLANE := by
  refine ⟨?_, ?_, ?_, ?_⟩
  · rw [State.positioned, State.flag, State.get_put_other _ (by decide), State.get_put_self]
    rfl
  · rw [State.position, State.get_put_self]
    exact Nat.mod_eq_of_lt hp
  · simp only [State.inRecovery, State.get_put_other _ (show Fld.GEN_ENUM_POSITION ≠ .GEN_BOOT_STAT_PHASE by decide),
      State.get_put_other _ (show Fld.GEN_ENUM_POS_VALID ≠ .GEN_BOOT_STAT_PHASE by decide)]
  · rw [State.get_put_other _ (by decide), State.get_put_other _ (by decide)]

/-- The position and the address that follows from it (R24, R33). -/
theorem takePosition_takes {p : Nat} (hp : p < 16) (src : Option Nat) (s : State) :
    let t := takePosition p src s
    t.positioned = true ∧ t.position = p
      ∧ t.get .GEN_ENUM_MGMT_ADDR = if s.inRecovery then 0x0E else (0x10 + 12 * s.get .GEN_ENUM_PLANE + p) % 2 ^ 8 := by
  obtain ⟨hvalid, hposition, hphase, hplane⟩ := positionPut_fields hp s
  refine ⟨?_, (State.get_put_other _ (by decide) ..).trans hposition, (State.get_put_self ..).trans ?_⟩
  · exact (congrArg (· == 1) (State.get_put_other _ (by decide) ..)).trans hvalid
  · rw [mgmtAddr_of_positioned hvalid, hposition, hphase, hplane]
    cases s.inRecovery <;> rfl

theorem takePosition_touches (p : Nat) (src : Option Nat) (s : State) :
    Touches [.GEN_ENUM_POS_VALID, .GEN_ENUM_POSITION, .GEN_ENUM_MGMT_ADDR] { s with enum := { s.enum with takenFrom := src } }
      (takePosition p src s) := by
  let u : State := { s with enum := { s.enum with takenFrom := src } }
  exact Touches.put (by simp) 0 _ (Touches.put (by simp) 0 p (Touches.put (by simp) 0 1 (Touches.refl _ u)))

/-! ### Recording a fault -/

theorem enumFault_touches (f : Nat) (s : State) : Touches (.GEN_ENUM_FAULT :: reportFields) s (enumFault f s) := by
  unfold enumFault
  exact Touches.ite (Touches.notice (by decide) 505 (Touches.put (by decide) _ _ (Touches.refl _ s))) (Touches.refl _ s)

/-- A later fault leaves everything unchanged (R32). -/
theorem enumFault_later (h : s.get .GEN_ENUM_FAULT ≠ 0) (c : Bool) (f : Nat) : onlyIf c (enumFault f) s = s := by
  cases c
  · rfl
  · exact if_neg h

/-- The first fault is recorded and raises source 505; the same event again changes nothing (R31, R32). -/
theorem enumFault_first {f : Nat} (hf : f < 16) (hne : f ≠ 0) (h : s.get .GEN_ENUM_FAULT = 0) :
    let t := enumFault f s
    t.get .GEN_ENUM_FAULT = f ∧ Asserted 505 0 s t ∧ Touches (.GEN_ENUM_FAULT :: reportFields) s t ∧ ∀ c, onlyIf c (enumFault f) t = t := by
  have hrec : enumFault f s = notice 505 (s.put .GEN_ENUM_FAULT 0 f) := if_pos h
  have hfault : (enumFault f s).get .GEN_ENUM_FAULT = f := by
    rw [hrec, State.get_notice _ _ (by decide), State.get_put_self]
    exact Nat.mod_eq_of_lt hf
  refine ⟨hfault, ?_, enumFault_touches f s, fun c => enumFault_later (by rwa [hfault]) c f⟩
  rw [hrec]
  exact Asserted.after (State.get_put_other _ (by decide) ..) (notice_asserted _ (by decide))

/-! ### Tokens at a device without a position -/

/-- The first mismatch of a token is one of the faults 0x2 to 0x5, which the field FAULT holds (R32). -/
theorem tokenMismatch_lt (s : State) (tok : Nat) : s.tokenMismatch tok < 16 := by
  unfold State.tokenMismatch
  repeat' split
  all_goals decide

/-- The chain's own state after the third of three tokens: a new run begins, and a token with a wrong SYNC counts as bad (R24, R32). -/
def EnumState.afterThird (e : EnumState) (tok : Nat) : EnumState :=
  { e with lastTok := tok, run := 0, badRun := if tokenSync tok then 0 else e.badRun + 1 }

theorem EnumState.afterThird_of_sync (e : EnumState) (h : tokenSync tok = true) :
    e.afterThird tok = { e with lastTok := tok, run := 0, badRun := 0 } := by
  rw [EnumState.afterThird, if_pos h]

/-- One more token that does not make too many bad ones is counted, and no fault is recorded (R32). -/
theorem countBad_few {good : Bool} (h : good = true ∨ s.enum.badRun ≤ 2) :
    countBad good s = { s with enum := { s.enum with badRun := if good then 0 else s.enum.badRun + 1 } } := by
  have hfew : ¬ 3 < if good then 0 else s.enum.badRun + 1 := by
    split
    · omega
    · have := h.resolve_left ‹_›
      omega
  exact if_neg (mt of_decide_eq_true hfew)

/-- The run of identical tokens after one more with a correct CRC. -/
def EnumState.runAfter (e : EnumState) (tok : Nat) : Nat := if e.run ≠ 0 ∧ e.lastTok = tok then e.run + 1 else 1

theorem exec_enumToken_unpositioned (hpos : s.positioned = false) (hcrc : tokenCrc tok = true) :
    exec (.enumToken true tok) s = .next (onlyIf (s.enum.runAfter tok == 3) (threeTokens tok)
      (countBad (tokenSync tok) { s with enum := { s.enum with run := s.enum.runAfter tok, lastTok := tok } })) := by
  rw [exec_enumToken, execEnumToken, hpos, tokenGood, hcrc, Bool.and_true (tokenSync tok)]
  rfl

/-- The third of three identical tokens with a correct CRC, where it does not make too many bad ones (R24, R26, R32). -/
theorem exec_enumToken_third (hpos : s.positioned = false) (hcrc : tokenCrc tok = true) (hbad : tokenSync tok = true ∨ s.enum.badRun ≤ 2)
    (hlast : s.enum.lastTok = tok) (hrun : s.enum.run = 2) :
    exec (.enumToken true tok) s = .next (threeTokens tok { s with enum := { s.enum.afterThird tok with run := 3 } }) := by
  have hthree : s.enum.runAfter tok = 3 := by
    rw [EnumState.runAfter, hrun]
    exact if_pos ⟨by decide, hlast⟩
  rw [exec_enumToken_unpositioned hpos hcrc, hthree]
  have hcount := countBad_few (s := { s with enum := { s.enum with run := 3, lastTok := tok } }) hbad
  exact congrArg (fun u => Outcome.next (threeTokens tok u)) hcount

section
variable (hpos : s.positioned = false) (hcrc : tokenCrc tok = true) (hbad : tokenSync tok = true ∨ s.enum.badRun ≤ 2)
  (hlast : s.enum.lastTok = tok) (hrun : s.enum.run = 2)
include hpos hcrc hbad hlast hrun

theorem exec_enumToken_mismatched (hmis : s.tokenMismatch tok ≠ 0) :
    exec (.enumToken true tok) s =
      .next ((enumFault (s.tokenMismatch tok) { s with enum := s.enum.afterThird tok }).emit (.enumToken (forwardToken tok))) := by
  rw [exec_enumToken_third hpos hcrc hbad hlast hrun]
  exact congrArg _ (if_pos hmis)

theorem exec_enumToken_late (hmis : s.tokenMismatch tok = 0) (hlate : s.enum.timedOut = true) :
    exec (.enumToken true tok) s = .next ({ s with enum := s.enum.afterThird tok }.emit (.enumToken (forwardToken tok))) := by
  rw [exec_enumToken_third hpos hcrc hbad hlast hrun]
  exact congrArg _ ((if_neg (not_not_intro hmis)).trans (if_pos hlate))

end

theorem exec_enumToken_valid (hpos : s.positioned = false) (hgood : tokenGood tok = true) (hlast : s.enum.lastTok = tok)
    (hrun : s.enum.run = 2) (hmis : s.tokenMismatch tok = 0) (hlate : s.enum.timedOut = false) :
    exec (.enumToken true tok) s =
      .next (takePosition (bitsAt tok 20 4) (some (bitsAt tok 16 16))
        { s with enum := { s.enum with lastTok := tok, run := 0, badRun := 0 } }) := by
  obtain ⟨hsync, hcrc⟩ := Bool.and_eq_true_iff.mp hgood
  rw [exec_enumToken_third hpos hcrc (.inl hsync) hlast hrun, s.enum.afterThird_of_sync hsync]
  have hintime : ¬ s.enum.timedOut = true := by rw [hlate]; decide
  exact congrArg _ ((if_neg (not_not_intro hmis)).trans ((if_neg hintime).trans (if_pos hsync)))

/-! ### The statements -/

/-- Settles O6: ENUM_IN low and the third valid token both come to `takePosition`. -/
theorem enumerationTakesPosition : Obligations.EnumerationTakesPosition := by
  unfold Obligations.EnumerationTakesPosition
  refine ⟨fun s hpos hlate => ?_, fun tok s hpos hlate hgood hlast hrun hmis => ?_⟩
  · have hexec : exec .enumInLow s = .next (takePosition 0 none s) := by
      rw [exec_enumInLow, execEnumInLow, hpos, hlate]
      rfl
    obtain ⟨hvalid, hzero, haddr⟩ := takePosition_takes (show 0 < 16 by decide) none s
    exact ⟨_, hexec, hvalid, hzero, haddr, takePosition_touches 0 none s⟩
  · let u : State := { s with enum := { s.enum with lastTok := tok, run := 0, badRun := 0 } }
    obtain ⟨hvalid, hp, haddr⟩ := takePosition_takes (bitsAt_lt tok 20 4) (some (bitsAt tok 16 16)) u
    exact ⟨_, exec_enumToken_valid hpos hgood hlast hrun hmis hlate, hvalid, hp, haddr, takePosition_touches _ _ u⟩

/-- Settles O7: each event comes to `enumFault`, which records the first fault and meets every later one unchanged; a mismatched or late
token leaves as `forwardToken`. -/
theorem enumerationFaultsAreRecorded : Obligations.EnumerationFaultsAreRecorded := by
  unfold Obligations.EnumerationFaultsAreRecorded
  refine ⟨fun tok s hpos hcrc hbad hlast hrun => ⟨fun hmis h => ?_, fun hmis hlate => ?_, forwardToken_fields tok⟩,
    fun s h => ⟨fun hpos htok => ?_, fun tok hpos hcrc htok => ?_, fun hpos htok => ?_, fun hpos hlate => ?_,
      fun dst plane twin hpos hdst hplane htwin => ?_⟩⟩
  · -- the third mismatched token
    obtain ⟨hfault, hraised, htouch, -⟩ := enumFault_first (s := { s with enum := s.enum.afterThird tok }) (tokenMismatch_lt s tok) hmis h
    exact ⟨_, exec_enumToken_mismatched hpos hcrc hbad hlast hrun hmis, hfault, hraised, rfl, htouch.emit _⟩
  · -- the third token after the 5 s
    exact exec_enumToken_late hpos hcrc hbad hlast hrun hmis hlate
  · -- no token for 3 ms
    obtain ⟨hfault, hraised, htouch, hlater⟩ := enumFault_first (f := 7) (by decide) (by decide) h
    refine ⟨_, ?_, hfault, hraised, htouch, congrArg _ (hlater _)⟩
    rw [exec_enumTokenLoss, execEnumTokenLoss, hpos, Option.isSome_iff_ne_none.mpr htok]
    rfl
  · -- a token other than the one taken
    obtain ⟨hfault, hraised, htouch, -⟩ := enumFault_first (f := 7) (by decide) (by decide) h
    refine ⟨_, ?_, hfault, hraised, htouch⟩
    rw [exec_enumToken, execEnumToken, hcrc, bne_iff_ne.mpr htok, if_pos hpos]
    rfl
  · -- ENUM_IN high at position 0
    obtain ⟨hfault, hraised, htouch, hlater⟩ := enumFault_first (f := 7) (by decide) (by decide) h
    refine ⟨_, ?_, hfault, hraised, htouch, congrArg _ (hlater _)⟩
    rw [exec_enumInHigh, execEnumInHigh, hpos, htok]
    rfl
  · -- 5 s without a position
    let u : State := { s with enum := { s.enum with timedOut := true } }
    obtain ⟨hfault, hraised, htouch, -⟩ := enumFault_first (s := u) (f := 6) (by decide) (by decide) h
    have hlate' : (enumFault 6 u).enum.timedOut = true := by rw [htouch.1]
    refine ⟨_, ?_, hfault, hraised, htouch, ?_⟩
    · rw [exec_enumTimeout, execEnumTimeout, hpos, hlate]
      rfl
    · rw [exec_enumInLow, execEnumInLow, hlate', Bool.not_true, Bool.and_false, onlyIf_false]
  · -- a duplicate
    obtain ⟨hfault, hraised, htouch, -⟩ := enumFault_first (f := 8) (by decide) (by decide) h
    refine ⟨_, ?_, hfault, hraised, htouch⟩
    have hpl : s.flag .GEN_ENUM_PLANE = plane := by cases plane <;> simp [State.flag, hplane]
    have htw : s.flag .GEN_ENUM_TWIN = twin := by cases twin <;> simp [State.flag, htwin]
    rw [exec_announceReceived, execAnnounceReceived, hdst, hpos, hpl, htw]
    simp

/-- Settles O8: the token is `makeToken` of the next position, whose fields are within their widths. -/
theorem tokensAndAnnouncementsSent : Obligations.TokensAndAnnouncementsSent := by
  unfold Obligations.TokensAndAnnouncementsSent
  refine ⟨fun s hpos hp hplane htwin => ?_, fun s => rfl⟩
  obtain ⟨hnext, hpl, htw, hcls, hgood⟩ := makeToken_fields (show s.position + 1 < 16 by omega)
    (Nat.lt_succ_of_le hplane) (Nat.lt_succ_of_le htwin) (tokenClass_lt s.variant)
  refine ⟨_, ?_, hgood, hnext, hpl, htw, hcls⟩
  rw [exec_enumTokenSend, execEnumTokenSend, hpos]
  rfl

end Sys2Proof.Machine
end

section
/-!
PROOFS. Meridians, and the figures that a span marker shows: the statements of switching and of cells are refuted (R106, R144, R188, R191).
-/
namespace Sys2Proof.Machine

variable {s : State} {r : RxStream} {c : Cell}

/-! ### Drafts bound to a released stream -/

/-- A meridian of a valid format while the atlas runs (R106). -/
theorem exec_meridian_running {f : Nat} (hrun : s.running .atlas = true) (hf : formatValid f = true) (n : Nat) :
    exec (.meridian f n) s = .next (atlasMeridian f n s) := by
  rw [exec_meridian, execMeridian, hrun, hf, Bool.and_self, onlyIf_true]

/-- A video stream whose RELEASE was sent: the last span it names is 76 (R144). -/
def releasedStream : RxStream :=
  { newRx 0 0 0 9 0 1 0 0 none 0 with coding := 1, st := 3, relLast := some 76, relSent := true }

/-- The atlas runs, source 9 has format 0x31, and the draft of destination 3 names that source and the released stream that brings it. -/
def releasedDraft : State :=
  { (((State.reset.put .CHECK_ENABLED (UnitKind.code .atlas 0) 1).put .GAZ_W1_FORMAT 9 49).put .ATL_DRAFT_SOURCE 3 9).put .DEST_DRAFT_RX 3 1
    with rx := [releasedStream] }

/-- Refutes O39: at the meridian that ends the last span of a released stream its entry is freed, and the drafts and live entries bound to
it let go of it; the statement's last clause has no commit pending and DEST_DRAFT_RX unchanged, which here falls from 1 to 0. -/
theorem not_switchesHappenAtMeridians : ¬ Obligations.SwitchesHappenAtMeridians := by
  unfold Obligations.SwitchesHappenAtMeridians
  intro h
  have hrun : releasedDraft.running .atlas = true := by decide
  have hbound : releasedDraft.get .DEST_DRAFT_RX 3 = 1 := by decide
  have hfreed : (atlasMeridian 49 77 releasedDraft).get .DEST_DRAFT_RX 3 = 0 := by decide +kernel
  have hvalid : formatValid 49 = true := by decide
  obtain ⟨-, t, hexec, -, -, -, hidle⟩ := h 49 77 releasedDraft hrun hvalid
  have ht : t = atlasMeridian 49 77 releasedDraft := by
    rw [exec_meridian_running hrun hvalid] at hexec
    exact (Host.Outcome.next.inj hexec).symm
  have hkept : t.get .DEST_DRAFT_RX 3 = releasedDraft.get .DEST_DRAFT_RX 3 := (hidle rfl).get (by decide) 3
  rw [ht, hfreed, hbound] at hkept
  exact absurd hkept (by decide)

/-! ### Coarse blocks of a span -/

/-- The decoder's own count of the span that a marker reports becomes COARSE_BLOCKS, in the 32 bits of the field's table (R188, R191). -/
theorem get_showFigures_coarse (h : s.get .DEC_NOW_SPAN r.slot = payloadField c.payload 16 4 % 2 ^ 16 + 1) :
    (showFigures r c s).get .MZC_DEC_COARSE_BLOCKS r.slot = s.get .DEC_NOW_COARSE r.slot % 2 ^ 32 := by
  have forgets (n : Nat) (u : State) : Touches [.DEC_NOW_SPAN, .DEC_SHOWN, .DEC_NOW_COARSE, .DEC_NOW_HIST] u (forgetCounts n u) := by
    unfold forgetCounts freshCounts
    refine .forAll _ (fun k v => .put (by decide) _ _ (.refl _ v)) ?_
    exact .put (by decide) _ _ (.put (by decide) _ _ (.put (by decide) _ _ (.refl _ u)))
  have hist (v : Nat → State → Nat) (u : State) :
      Touches [.MZC_DEC_HIST] u (forAll (List.range 8) (fun k u => u.put .MZC_DEC_HIST (8 * r.slot + k) (v k u)) u) :=
    .forAll _ (fun k w => .put (by decide) _ _ (.refl _ w)) (.refl _ u)
  unfold showFigures
  dsimp only
  rw [h, beq_self_eq_true, onlyIf_true, State.get_put_other _ (by decide), (forgets ..).get (by decide), (hist ..).get (by decide),
    State.get_put_self, if_pos rfl]
  simp only [State.get_put, reduceCtorEq, false_and, if_false]
  rfl

/-- Behind the figures of a span only the alarms of the destinations change (R192). -/
theorem publishStats_touches_shown (r : RxStream) (c : Cell) (s : State) :
    Touches ([.MZC_DEST_STAT3_ALARMS, .MZC_OVER_LIMIT] ++ reportFields) (showFigures r c s) (publishStats r c s) := by
  unfold publishStats
  refine .forAll _ (fun d u => .ite ?_ (.put (by decide) _ _ (.refl _ u))) (.refl _ _)
  refine .onlyIf _ (fun v => .notice (by decide) _ (.refl _ v)) ?_
  exact .put (by decide) _ _ (.bump (by decide) _ _ (.refl _ u))

/-- A marker that reports figures shows the coarse blocks that the decoder counted of that span. -/
theorem get_landMarker_coarse (hrep : reportsFigures r c = true)
    (h : s.get .DEC_NOW_SPAN r.slot = payloadField c.payload 16 4 % 2 ^ 16 + 1) :
    (landMarker c r s).get .MZC_DEC_COARSE_BLOCKS r.slot = s.get .DEC_NOW_COARSE r.slot % 2 ^ 32 := by
  have hvideo : r.kind = 0 := by
    simp only [reportsFigures, Bool.and_eq_true, beq_iff_eq] at hrep
    exact hrep.1.1.1
  unfold landMarker
  rw [hrep, hvideo, onlyIf_true, (publishStats_touches_shown ..).get (by decide)]
  exact get_showFigures_coarse h

/-- A marker for this device lands in the one stream that takes it (R133). -/
theorem exec_spanMarker_landed {p : Nat} (hrun : s.running .fabric = true) (hp : p < 11) (htyp : c.typ = 3) (hdest : c.dest = s.position)
    (htaken : s.takersOf p c = [r]) : exec (.spanMarker p c) s = .next (landMarker c r s) := by
  have hc : { c with typ := 3 } = c := htyp ▸ rfl
  rw [exec_spanMarker, execSpanMarker, hc, hrun, decide_eq_true hp, Bool.and_self, onlyIf_true, takeCell, if_neg (fun hne => hne hdest),
    htaken, if_pos htyp]
  rfl

/-- A granted stream of Quarter spans whose last marker, of span 50, was not marked lost. -/
def quarterStream : RxStream :=
  { newRx 0 0 0 9 0 3 0 0 none 0 with
    coding := 3, st := 1, markers := [{ span := 50, lost := false, coding := 3, fmt := 49, depthScale := 0, generation := 0, frame := 50
                                        lines := 1080, lc := 2400 }] }

/-- The marker of the next span of that stream, for the device at position 2; it reports the figures of span 50 (R187). -/
def figuresOf50 : Cell :=
  { blankCell 3 3 51 with source := 9, dest := 2, last := true, payload := 49 :: List.replicate 15 0 ++ leBytes 4 50 ++ List.replicate 8 0 }

/-- The device at position 2 has decoded 65,536 blocks of span 50 coarse, one more than 16 bits hold. -/
def manyCoarse : State :=
  { (((State.reset.put .CHECK_ENABLED (UnitKind.code .fabric 0) 1).put .GEN_ENUM_POSITION 0 2).put .DEC_NOW_SPAN 0 51).put .DEC_NOW_COARSE 0 65536
    with rx := [quarterStream] }

/-- Refutes O40: the statement has MZC_DEC_COARSE_BLOCKS keep 16 bits of the decoder's count, while the field has the 32 of its table; the
65,536 coarse blocks of a span are shown whole, where the statement wants 0. -/
theorem not_cellsAreReleasedLandedAndForwarded : ¬ Obligations.CellsAreReleasedLandedAndForwarded := by
  unfold Obligations.CellsAreReleasedLandedAndForwarded
  intro h
  have hrun : manyCoarse.running .fabric = true := by decide
  have hdest : figuresOf50.dest = manyCoarse.position := by decide
  have htaken : manyCoarse.takersOf 0 figuresOf50 = [quarterStream] := by decide
  have hrep : reportsFigures quarterStream figuresOf50 = true := by decide
  have hspan : manyCoarse.get .DEC_NOW_SPAN quarterStream.slot = payloadField figuresOf50.payload 16 4 % 2 ^ 16 + 1 := by decide
  have hcount : manyCoarse.get .DEC_NOW_COARSE quarterStream.slot = 65536 := by decide
  obtain ⟨-, -, hcells, -⟩ := h
  obtain ⟨-, -, -, -, -, -, hmarker⟩ := hcells 0 true false figuresOf50 manyCoarse hrun (by decide)
  obtain ⟨t, hexec, -, -, -, hfigures⟩ := hmarker rfl hdest quarterStream htaken
  obtain ⟨-, -, -, hcoarse, -⟩ := hfigures hrep
  have ht : t = landMarker figuresOf50 quarterStream manyCoarse := by
    rw [exec_spanMarker_landed hrun (by decide) rfl hdest htaken] at hexec
    cases hexec
    rfl
  have hshown := hcoarse hspan
  rw [ht, get_landMarker_coarse hrep hspan, hcount] at hshown
  exact absurd hshown (by decide)

end Sys2Proof.Machine
end

section
/-!
PROOFS. Peers: the statement of heartbeats, loads and the loss of a peer is refuted (R142, R143, R159 to R162).
-/
namespace Sys2Proof.Machine

variable {fs : List Fld} {s t u : State}

/-! ### What noting a loss leaves alone -/

/-- Receive and transmit streams, admissions and waiting requests are the same. -/
def SameStreams (s t : State) : Prop := t.rx = s.rx ∧ t.tx = s.tx ∧ t.admits = s.admits ∧ t.subWait = s.subWait

theorem SameStreams.trans (h : SameStreams s t) (k : SameStreams t u) : SameStreams s u := by
  obtain ⟨hrx, htx, hadmits, hwait⟩ := h
  obtain ⟨krx, ktx, kadmits, kwait⟩ := k
  exact ⟨krx.trans hrx, ktx.trans htx, kadmits.trans hadmits, kwait.trans hwait⟩

theorem Touches.sameStreams (h : Touches fs s t) : SameStreams s t := by
  unfold SameStreams
  rw [h.1]
  exact ⟨rfl, rfl, rfl, rfl⟩

theorem peerEdge_touches (p : Nat) (lost : Bool) (s : State) :
    Touches ([.FAB_PORT_STAT_LOST, .FAB_PEER_EVENT] ++ reportFields) s (peerEdge p lost s) :=
  .assertEv (by decide) _ _ (.put (by decide) _ _ (.putFlag (by decide) _ _ (.refl _ s)))

theorem noteLossTime_touches (p : Nat) (s : State) :
    Touches [.FAB_LOSS_SEC, .FAB_LOSS_NS, .FAB_LOSS_FRAC, .FAB_NOTICE_DUE] s (noteLossTime p s) :=
  .put (by decide) _ _ (.put (by decide) _ _ (.put (by decide) _ _ (.put (by decide) _ _ (.refl _ s))))

theorem forgetSpare_touches (pos : Nat) (s : State) : Touches [.FAB_SPARE_KNOWN] s (forgetSpare pos s) :=
  .forAll _ (fun _ u => .put (by decide) _ _ (.refl _ u)) (.refl _ s)

theorem setStale_touches (pos : Nat) (b : Bool) (s : State) : Touches [.GAZ_W0_STALE] s (setStale pos b s) :=
  .forAll _ (fun _ u => .putFlag (by decide) _ _ (.refl _ u)) (.refl _ s)

theorem sameStreams_gazFetch (s : State) (l : List (Nat × List Nat)) : SameStreams s { s with gazFetch := l } := ⟨rfl, rfl, rfl, rfl⟩

/-- The loss of a position gives up its gazetteer fetch, and ends no stream by itself (R45, R46). -/
theorem positionLost_sameStreams (pos : Nat) (s : State) : SameStreams s (positionLost pos s) := by
  have hmask : Touches [.ATL_GAZ_STAT_STALE] s (s.put .ATL_GAZ_STAT_STALE 0 (s.get .ATL_GAZ_STAT_STALE ||| 2 ^ pos)) :=
    .put (by decide) _ _ (.refl _ s)
  have hnotice (c : Bool) (v : Nat) (u : State) :
      Touches (.ATL_GAZ_STAT_MISMATCH :: reportFields) u (onlyIf c (notice 197) (u.put .ATL_GAZ_STAT_MISMATCH 0 v)) :=
    .onlyIf _ (fun w => .notice (by decide) _ (.refl _ w)) (.put (by decide) _ _ (.refl _ u))
  unfold positionLost
  exact hmask.sameStreams.trans ((setStale_touches pos true _).sameStreams.trans
    ((sameStreams_gazFetch _ _).trans (hnotice _ _ _).sameStreams))

/-- What the loss of the peer on port `p` notes before it ends streams (R46, R149, R160, R161). -/
def lossNoted (p : Nat) (s : State) : State :=
  forgetSpare (s.peerPos p) (positionLost (s.peerPos p)
    (peerEdge p true (noteLossTime p ((s.put .FAB_PORT_STAT_UP p 0).put .FAB_HB_SEEN p 0))))

theorem lossNoted_sameStreams (p : Nat) (s : State) : SameStreams s (lossNoted p s) := by
  have hport : Touches [.FAB_PORT_STAT_UP, .FAB_HB_SEEN] s ((s.put .FAB_PORT_STAT_UP p 0).put .FAB_HB_SEEN p 0) :=
    .put (by decide) _ _ (.put (by decide) _ _ (.refl _ s))
  exact hport.sameStreams.trans ((noteLossTime_touches ..).sameStreams.trans ((peerEdge_touches ..).sameStreams.trans
    ((positionLost_sameStreams ..).trans (forgetSpare_touches ..).sameStreams)))

/-! ### The loss of a peer that one running stream asks -/

/-- The loss of a peer that is fitted and not yet counted lost, while the fabric runs (R159). -/
theorem exec_peerLost_present {p : Nat} (hrun : s.running .fabric = true) (hp : p < 11) (hfit : s.fitted p = true)
    (hpresent : s.flag .FAB_PORT_STAT_LOST p = false) : exec (.peerLost p) s = .next (peerLost p s) := by
  rw [exec_peerLost, execPeerLost, hrun, decide_eq_true hp, hfit, hpresent]
  rfl

/-- The end of a request for a running stream closes the request of every entry that has the stream's number (R151). -/
theorem failRequest_running {r : RxStream} (hst : r.st = 1) (code fromHome : Nat) (silent : Bool) (s : State) :
    failRequest r code fromHome silent s = mapRxSlot r.slot (fun x => { x with rejoin := false }) s := if_pos hst

/-- Where one running stream asks the lost peer for itself and nothing else waits, every entry with that stream's number has its request
closed, and the streams of the lost peer end (R160, R162). -/
theorem peerLost_rx {p : Nat} {r : RxStream} (htx : s.tx = []) (hadmits : s.admits = []) (hwait : s.subWait = [])
    (hgroups : ∀ x ∈ s.rx, x.kind ≠ 2) (hasked : s.rx.filter (fun x => x.home == s.peerPos p && x.asking) = [r]) (hst : r.st = 1) :
    (peerLost p s).rx = (s.rx.map (fun x => if x.slot == r.slot then { x with rejoin := false } else x)).map (fun x =>
      if x.home == s.peerPos p then
        { x with st := 4, rejoin := false, reason := 0x32, spans := 0, good := 0, next := [], dropLast := none } else x) := by
  have hnoted := lossNoted_sameStreams p s
  unfold peerLost
  unfold lossNoted at hnoted
  dsimp only
  generalize forgetSpare _ _ = u at hnoted ⊢
  obtain ⟨hurx, hutx, huadmits, huwait⟩ := hnoted
  have hgroupless : (s.rx.map (fun x => if x.slot == r.slot then { x with rejoin := false } else x)).filter
      (fun x => x.home == s.peerPos p && x.kind == 2 && x.st != 0) = [] := by
    simp only [List.filter_eq_nil_iff, List.forall_mem_map]
    intro x hx
    have := hgroups x hx
    split <;> simp [this]
  simp only [hurx, hutx, huadmits, huwait, htx, hadmits, hwait, hasked, forAll, List.filter_nil, List.foldl_nil, List.foldl_cons,
    failRequest_running hst, mapRxSlot, mapRx, hgroupless]

/-! ### Two entries of one number -/

/-- A running stream from position 3 in receive entry 0, whose stricter policy is asked for (R151). -/
def askingFrom3 : RxStream := { newRx 0 0 0 288 3 1 0 0 none 0 with coding := 1, st := 1, rejoin := true, sent := true }

/-- The same from position 5, in receive entry 0 too. -/
def askingFrom5 : RxStream := { newRx 0 0 0 480 5 1 0 1 none 0 with coding := 1, st := 1, rejoin := true, sent := true }

/-- The device at position 2, whose fabric runs, with both streams; its port 0 faces position 3. -/
def sharedEntry : State :=
  { (State.reset.put .CHECK_ENABLED (UnitKind.code .fabric 0) 1).put .GEN_ENUM_POSITION 0 2 with rx := [askingFrom3, askingFrom5] }

/-- Refutes O41: the statement has the streams of other homes stay as they were when a peer is lost, in every state, also in one where two
receive entries have the same number. There the lost peer, position 3, closes the request of its stream by the number of the entry, and
with it the request that position 5 has still to answer. -/
theorem not_peersAreHeardLostAndReturn : ¬ Obligations.PeersAreHeardLostAndReturn := by
  unfold Obligations.PeersAreHeardLostAndReturn
  intro h
  have hrun : sharedEntry.running .fabric = true := by decide
  have hfit : sharedEntry.fitted 0 = true := by decide
  have hpresent : sharedEntry.flag .FAB_PORT_STAT_LOST 0 = false := by decide
  have hasked : sharedEntry.rx.filter (fun x => x.home == sharedEntry.peerPos 0 && x.asking) = [askingFrom3] := by decide
  have hother : sharedEntry.rx.filter (fun x => x.home != sharedEntry.peerPos 0) = [askingFrom5] := by decide
  obtain ⟨-, -, -, -, hports, -⟩ := h
  obtain ⟨-, -, hloss, -⟩ := hports 0 sharedEntry hrun (by decide)
  obtain ⟨t, hexec, -, -, -, -, -, -, -, -, hkept, -⟩ := hloss hfit hpresent rfl (fun _ hx => absurd hx List.not_mem_nil)
  have ht : t = peerLost 0 sharedEntry := by
    rw [exec_peerLost_present hrun (by decide) hfit hpresent] at hexec
    exact (Host.Outcome.next.inj hexec).symm
  rw [ht, peerLost_rx rfl rfl rfl (by decide) hasked rfl, hother] at hkept
  exact absurd hkept (by decide)

end Sys2Proof.Machine
end

section
/-!
PROOFS. What a command leaves alone that writes fields at one index, and what counters and flags read.
-/
namespace Sys2Proof.Machine

variable {n : Nat} {fs gs : List Fld} {s t u : State}

/-! ### Fields written at one index -/

namespace TouchesAt

theorem refl (n : Nat) (fs gs : List Fld) (s : State) : TouchesAt n fs gs s s := ⟨Touches.refl _ s, fun _ _ _ _ => rfl⟩

/-- What follows touches none of the fields that are kept at the other indices. -/
theorem thenTouches {hs : List Fld} (h : TouchesAt n fs gs s t) (k : Touches hs t u) (hsub : ∀ f ∈ hs, f ∈ gs := by decide)
    (hapart : ∀ f ∈ fs, f ∉ hs := by decide) : TouchesAt n fs gs s u :=
  ⟨h.1.trans (k.mono (fun f hf => List.mem_append_right _ (hsub f hf))),
    fun f hf j hj => (k.get (hapart f hf) j).trans (h.2 f hf j hj)⟩

/-- Another change at the index follows. -/
theorem thenAt {fs' gs' : List Fld} (h : TouchesAt n fs gs s t) (k : TouchesAt n fs' gs' t u) (hfs : ∀ f ∈ fs', f ∈ fs := by decide)
    (hgs : ∀ f ∈ gs', f ∈ gs := by decide) (hapart : ∀ f ∈ fs, f ∉ gs' := by decide) : TouchesAt n fs gs s u := by
  refine ⟨h.1.trans (k.1.mono (fun f hf => List.mem_append.mpr ((List.mem_append.mp hf).imp (hfs f) (hgs f)))), fun f hf j hj => ?_⟩
  refine Eq.trans ?_ (h.2 f hf j hj)
  by_cases hin : f ∈ fs'
  · exact k.2 f hin j hj
  · exact k.1.get (fun hm => (List.mem_append.mp hm).elim hin (hapart f hf)) j

/-- A field written at the index. -/
theorem put {f : Fld} {v : Nat} (h : TouchesAt n fs gs s t) (hf : f ∈ fs := by decide) : TouchesAt n fs gs s (t.put f n v) :=
  ⟨h.1.put (List.mem_append_left _ hf) _ _,
    fun g hg j hj => (State.get_put_index t f g (Ne.symm hj) v).trans (h.2 g hg j hj)⟩

theorem putFlag {f : Fld} {b : Bool} (h : TouchesAt n fs gs s t) (hf : f ∈ fs := by decide) : TouchesAt n fs gs s (t.putFlag f n b) := h.put hf

theorem bump {f : Fld} {k : Nat} (h : TouchesAt n fs gs s t) (hf : f ∈ fs := by decide) : TouchesAt n fs gs s (t.bump f n k) := h.put hf

/-- A field written at any index. -/
theorem putAny {f : Fld} {i v : Nat} (h : TouchesAt n fs gs s t) (hf : f ∈ gs := by decide) (hfs : f ∉ fs := by decide) :
    TouchesAt n fs gs s (t.put f i v) :=
  h.thenTouches (hs := [f]) (Touches.put (List.mem_singleton_self f) i v (Touches.refl _ t))
    (fun _ hg => List.mem_singleton.mp hg ▸ hf) (fun _ hg hgf => hfs (List.mem_singleton.mp hgf ▸ hg))

theorem notice {k : Nat} (h : TouchesAt n fs gs s t) (hsub : ∀ f ∈ reportFields, f ∈ gs := by decide)
    (hapart : ∀ f ∈ fs, f ∉ reportFields := by decide) : TouchesAt n fs gs s (notice k t) :=
  h.thenTouches (notice_report k t) hsub hapart

theorem respond {d : Nat} {e : Bool} (h : TouchesAt n fs gs s t) : TouchesAt n fs gs s (t.respond d e) := ⟨h.1.respond d e, h.2⟩

theorem ite {c : Prop} [Decidable c] {a b : State} (ha : TouchesAt n fs gs s a) (hb : TouchesAt n fs gs s b) :
    TouchesAt n fs gs s (if c then a else b) := by
  split <;> assumption

theorem forAll {α : Type} (l : List α) {f : α → State → State} (hf : ∀ a u, TouchesAt n fs gs u (f a u)) (s : State) :
    TouchesAt n fs gs s (forAll l f s) := by
  refine ⟨Touches.forAll l (fun a u => (hf a u).1) (Touches.refl _ s), fun g hg j hj => ?_⟩
  unfold Machine.forAll
  induction l generalizing s with
  | nil => rfl
  | cons a l ih => exact (ih (f a s)).trans ((hf a s).2 g hg j hj)

end TouchesAt

/-- A counter that saturates holds its next value (R15). -/
theorem State.get_bump_self (s : State) (f : Fld) (i k : Nat) : (s.bump f i k).get f i = satAdd f.info.w (s.get f i) k := by
  rw [State.bump, State.get_put_self, Nat.mod_eq_of_lt (satAdd_lt ..)]

theorem State.get_bump_other (s : State) {f g : Fld} (h : f ≠ g) (i j k : Nat) : (s.bump f i k).get g j = s.get g j :=
  State.get_put_other s h ..

theorem State.get_putFlag_self (s : State) (f : Fld) (i : Nat) (b : Bool) : (s.putFlag f i b).get f i = (if b then 1 else 0) % 2 ^ f.info.w :=
  State.get_put_self ..

theorem State.get_putFlag_other (s : State) {f g : Fld} (h : f ≠ g) (i j : Nat) (b : Bool) : (s.putFlag f i b).get g j = s.get g j :=
  State.get_put_other s h ..

/-- A field of value 1 or 0 read as a flag. -/
theorem State.flag_of_one {f : Fld} {i : Nat} (h : s.get f i = 1) : s.flag f i = true := beq_iff_eq.mpr h

theorem State.flag_of_zero {f : Fld} {i : Nat} (h : s.get f i = 0) : s.flag f i = false := by rw [State.flag, h]; rfl

end Sys2Proof.Machine
end

section
/-!
PROOFS. Pointer writes of the hardware queues (R249, R250, R254, R257).
-/
namespace Sys2Proof.Machine

variable {m : Master} {q v : Nat} {s : State}

/-! ### Causes and pointers -/

/-- A cause of queue `q` sets its bit and, where the bit is new and enabled, a pending bit and the group's source (R258). -/
theorem queueCause_touchesAt {f : Fld} (q : Nat) (s : State) (hf : f ∉ .PKT_Q_PENDING :: reportFields) :
    TouchesAt q [f] (.PKT_Q_PENDING :: reportFields) s (queueCause f q s) := by
  have hpending : f ≠ .PKT_Q_PENDING := List.ne_of_not_mem_cons hf
  have hreport : f ∉ reportFields := List.not_mem_of_not_mem_cons hf
  have hset : TouchesAt q [f] (.PKT_Q_PENDING :: reportFields) s (s.put f q 1) := (TouchesAt.refl ..).put (List.mem_singleton_self f)
  have hraised (i v k : Nat) := (hset.putAny (f := .PKT_Q_PENDING) (i := i) (v := v) (by decide) (by simpa using hpending.symm)).notice
    (k := k) (by decide) (by simpa using hreport)
  unfold queueCause onlyIf
  exact TouchesAt.ite (hraised ..) hset

/-- Advancing PROD: the pointer moves, and the watermark cause may follow (R249, R257). -/
theorem advanceProd_touchesAt (q n : Nat) (s : State) :
    TouchesAt q [.PKT_Q_PTR_PROD, .PKT_Q_STAT_WMARK_C] (.PKT_Q_PENDING :: reportFields) s (advanceProd q n s) := by
  have hmoved : TouchesAt q [.PKT_Q_PTR_PROD, .PKT_Q_STAT_WMARK_C] (.PKT_Q_PENDING :: reportFields) s
      (s.put .PKT_Q_PTR_PROD q (s.qAdvance q (s.get .PKT_Q_PTR_PROD q) n)) := (TouchesAt.refl ..).put
  unfold advanceProd checkWatermark onlyIf
  exact TouchesAt.ite (hmoved.thenAt (queueCause_touchesAt q _ (by decide))) hmoved

theorem advanceProd_get (q n : Nat) (s : State) :
    (advanceProd q n s).get .PKT_Q_PTR_PROD q = s.qAdvance q (s.get .PKT_Q_PTR_PROD q) n % 2 ^ 25 := by
  unfold advanceProd checkWatermark onlyIf
  dsimp only
  split
  · rw [(queueCause_touchesAt q _ (by decide)).1.get (by decide)]
    exact State.get_put_self ..
  · exact State.get_put_self ..

/-! ### Pointer writes -/

/-- A refusal of a write that has been answered on the bus (R78). -/
theorem refuse_respond {code word : Nat} (m : Master) (s : State) (hc : code < 2 ^ 8) (hw : word < 2 ^ 24) :
    Refused code word m s (refuse code word m (s.respond 0 false))
      ∧ Touches (refuseFields ++ reportFields) s (refuse code word m (s.respond 0 false)) :=
  ⟨Refused.after (t := s.respond 0 false) rfl rfl (refuse_refused m _ hc hw), ((Touches.refl _ s).respond 0 false).trans (refuse_report ..)⟩

theorem wordOf_queueOff_lt {w : Nat} (hq : q < 65536) (hw : w < 8) : wordOf (queueOff q w) < 2 ^ 24 := by
  unfold wordOf queueOff
  omega

/-- A write of PROD that passes the gate: its agent, its GEN and its distance are judged in this order (R250, R254). -/
theorem exec_pktQProd_pass (hp : Passes m (queueOff q 2) s) :
    exec (.pktQProd m q v) s = .next
      (if s.get .PKT_Q_PROD_AGENT q ≠ queueAgentOf m then refuse 0x6E (wordOf (queueOff q 2)) m (s.respond 0 false)
      else if bitsAt v 25 7 ≠ s.get .PKT_Q_PTR_GEN q then refuse 0x6A (wordOf (queueOff q 2)) m (s.respond 0 false)
      else if s.flag .PKT_Q_STAT_FLUSHING q ∨ s.qSize q < s.qOccupancy q + s.qDelta q (s.get .PKT_Q_PTR_PROD q) (bitsAt v 0 25) then
        refuse 0x6B (wordOf (queueOff q 2)) m (s.respond 0 false)
      else advanceProd q (s.qDelta q (s.get .PKT_Q_PTR_PROD q) (bitsAt v 0 25)) (s.respond 0 false)) := by
  rw [exec_pktQProd, execPktQProd, writeGated_pass hp]
  rfl

/-- A write of CONS that passes the gate: its agent, its GEN and its distance are judged in this order (R250). -/
theorem exec_pktQCons_pass (hp : Passes m (queueOff q 3) s) :
    exec (.pktQCons m q v) s = .next
      (if s.get .PKT_Q_CONS_AGENT q ≠ queueAgentOf m then refuse 0x6E (wordOf (queueOff q 3)) m (s.respond 0 false)
      else if bitsAt v 25 7 ≠ s.get .PKT_Q_PTR_GEN q then refuse 0x6A (wordOf (queueOff q 3)) m (s.respond 0 false)
      else if s.qOccupancy q < s.qDelta q (s.get .PKT_Q_PTR_CONS q) (bitsAt v 0 25) then
        refuse 0x6C (wordOf (queueOff q 3)) m (s.respond 0 false)
      else advanceCons q (s.qDelta q (s.get .PKT_Q_PTR_CONS q) (bitsAt v 0 25)) (s.respond 0 false)) := by
  rw [exec_pktQCons, execPktQCons, writeGated_pass hp]
  rfl

/-- Settles O28: a pointer write that passes the gate is a chain of judgements, whose last branch moves the pointer and whose others
refuse. -/
theorem queuePointersAreChecked : Obligations.QueuePointersAreChecked := by
  unfold Obligations.QueuePointersAreChecked
  intro m q v s hq
  have hprod (code : Nat) (hc : code < 2 ^ 8) := refuse_respond (code := code) m s hc (wordOf_queueOff_lt (w := 2) hq (by decide))
  have hcons (code : Nat) (hc : code < 2 ^ 8) := refuse_respond (code := code) m s hc (wordOf_queueOff_lt (w := 3) hq (by decide))
  refine ⟨fun hp => ⟨fun hagent hgen hopen hroom => ?_, fun hagent => ?_, fun hagent hgen => ?_, fun hagent hgen hfull => ?_⟩,
    fun hp hagent => ?_, fun hp hagent hgen => ?_, fun hp hagent hgen => ⟨fun hheld => ?_, fun hheld => ?_⟩⟩
  · -- PROD advances
    have hfits : ¬(s.flag .PKT_Q_STAT_FLUSHING q = true
        ∨ s.qSize q < s.qOccupancy q + s.qDelta q (s.get .PKT_Q_PTR_PROD q) (bitsAt v 0 25)) := by
      rw [State.flag_of_zero hopen]
      simpa using hroom
    rw [exec_pktQProd_pass hp, if_neg (not_not_intro hagent), if_neg (not_not_intro hgen), if_neg hfits]
    exact ⟨_, rfl, advanceProd_get .., (TouchesAt.refl ..).respond.thenAt (advanceProd_touchesAt ..)⟩
  · -- PROD of another agent
    rw [exec_pktQProd_pass hp, if_pos hagent]
    exact ⟨_, rfl, hprod 0x6E (by decide)⟩
  · -- PROD with an old GEN
    rw [exec_pktQProd_pass hp, if_neg (not_not_intro hagent), if_pos hgen]
    exact ⟨_, rfl, hprod 0x6A (by decide)⟩
  · -- PROD during a flush or beyond the room
    rw [exec_pktQProd_pass hp, if_neg (not_not_intro hagent), if_neg (not_not_intro hgen), if_pos (hfull.imp_left State.flag_of_one)]
    exact ⟨_, rfl, hprod 0x6B (by decide)⟩
  · -- CONS of another agent
    rw [exec_pktQCons_pass hp, if_pos hagent]
    exact ⟨_, rfl, hcons 0x6E (by decide)⟩
  · -- CONS with an old GEN
    rw [exec_pktQCons_pass hp, if_neg (not_not_intro hagent), if_pos hgen]
    exact ⟨_, rfl, hcons 0x6A (by decide)⟩
  · -- CONS advances
    rw [exec_pktQCons_pass hp, if_neg (not_not_intro hagent), if_neg (not_not_intro hgen), if_neg (Nat.not_lt.mpr hheld)]
    exact ⟨_, rfl, State.get_put_self .., (TouchesAt.refl ..).respond.put⟩
  · -- CONS beyond what the queue holds
    rw [exec_pktQCons_pass hp, if_neg (not_not_intro hagent), if_neg (not_not_intro hgen), if_pos hheld]
    exact ⟨_, rfl, hcons 0x6C (by decide)⟩

end Sys2Proof.Machine
end

section
/-!
PROOFS. A hard flush by an uncorrectable header, and what is held for the queue's transmit entry (R253, R255, R289).
-/
namespace Sys2Proof.Machine

variable {q p : Nat} {s : State}

/-! ### What a hard flush leaves of packet transmit -/

theorem Touches.txWork {fs : List Fld} {t : State} (h : Touches fs s t) : t.txWork = s.txWork := by rw [h.1]

theorem abortFrame_touches (n : Nat) (s : State) : Touches (.PKT_MAC_TX_ABORT :: .PKT_MAC_EVT :: reportFields) s (abortFrame n s) :=
  Touches.setCauses (by decide) (by decide) _ _ _ _ (Touches.emit _ (Touches.bump (by decide) _ _ (Touches.refl _ s)))

theorem stopConsumer_txWork (q : Nat) (s : State) :
    (stopConsumer q s).txWork = s.txWork.filter (fun w => s.get .PKT_TX_TARGET w.tx != q) := by
  unfold stopConsumer
  cases s.cutWork q with
  | none => rfl
  | some w =>
    have habort := abortFrame_touches w.tx s
    have htarget (n : Nat) : (abortFrame w.tx s).get .PKT_TX_TARGET n = s.get .PKT_TX_TARGET n := habort.get (by decide) n
    simp only [htarget, habort.txWork]

/-- A hard flush ends whatever packet transmit has of the queue, also what is held for its launch time (R255, R289). -/
theorem hardFlush_txWork (q : Nat) (byEcc : Bool) (s : State) :
    (hardFlush q byEcc s).txWork = s.txWork.filter (fun w => s.get .PKT_TX_TARGET w.tx != q) := by
  unfold hardFlush flushed
  rw [(queueCause_touchesAt q _ (by decide)).1.txWork]
  exact stopConsumer_txWork q s

/-- An uncorrectable word that is counted leaves packet transmit alone (R253). -/
theorem queueUncorrectable_touches (q cls : Nat) (s : State) :
    Touches ([.PKT_QW_UNCOR, .PKT_Q_ECC_UNCOR, .PKT_Q_STAT_UNCOR_C, .PKT_Q_PENDING] ++ reportFields) s (queueUncorrectable q cls s) := by
  unfold queueUncorrectable
  refine Touches.assertEv (by decide) _ _ (Touches.trans (t := (s.bump .PKT_QW_UNCOR q).bump .PKT_Q_ECC_UNCOR) ?_ ?_)
  · exact Touches.bump (by decide) _ _ (Touches.bump (by decide) _ _ (Touches.refl _ s))
  · exact (queueCause_touchesAt q _ (by decide)).1.mono (by decide)

/-- A hardware consumer finds a header word uncorrectable (R253). -/
theorem exec_queueWordRead_header (hrun : s.running .queue q = true) (hhead : (s.qItems q).contains (p % (2 * s.qSize q)) = true) :
    exec (.queueWordRead none q p .uncorrectable) s = .next (hardFlush q true (queueUncorrectable q 2 s)) := by
  rw [exec_queueWordRead, execQueueWordRead]
  simp only [hrun, hhead, Bool.not_true, Bool.false_eq_true, if_false, if_true, Option.bind_none, Option.isSome_none]

/-! ### A timed item that waits -/

/-- The timed item of queue 0 that transmit entry 0 holds until its launch time (R289). -/
def waitingItem : TxWork := ⟨0, true, true, 1, 1, 0⟩

/-- Queue 0 runs and holds that one item, whose frame has not begun. -/
def itemHeld : State :=
  { (State.reset.put .CHECK_ENABLED (UnitKind.queue.code 0) 1).put .PKT_Q_PTR_PROD 0 1 with txWork := [waitingItem] }

/-- Refutes O29: the statement has the flush that follows an uncorrectable header change nothing of packet transmit where no frame is cut. The
flush of a queue that a transmit entry reads also drops the timed item that waits for its launch, which is held and so not cut: the
clauses on the other flushes say so, and this one does not. -/
theorem not_queueFlushesAndCheckBytes : ¬ Obligations.QueueFlushesAndCheckBytes := by
  unfold Obligations.QueueFlushesAndCheckBytes
  intro h
  have hrun : itemHeld.running .queue 0 = true := by decide
  have hhead : (itemHeld.qItems 0).contains (0 % (2 * itemHeld.qSize 0)) = true := by decide
  have hcut : itemHeld.cutWork 0 = none := by decide
  have htarget : itemHeld.get .PKT_TX_TARGET 0 = 0 := by decide
  obtain ⟨-, -, -, -, hread, -⟩ := h
  obtain ⟨-, -, -, hheader⟩ := hread 0 0 itemHeld (by decide) hrun
  obtain ⟨t, hexec, -, -, -, htouch⟩ := hheader hhead
  have ht : t = hardFlush 0 true (queueUncorrectable 0 2 itemHeld) := by
    rw [exec_queueWordRead_header hrun hhead] at hexec
    exact (Host.Outcome.next.inj hexec).symm
  have hcounted := queueUncorrectable_touches 0 2 itemHeld
  have hdropped : t.txWork = [] := by
    rw [ht, hardFlush_txWork, hcounted.txWork]
    refine List.filter_eq_nil_iff.mpr (List.forall_mem_singleton.mpr ?_)
    rw [hcounted.get (by decide), show waitingItem.tx = 0 from rfl, htarget]
    decide
  have hkept : t.txWork = [waitingItem] := (htouch hcut).1.txWork
  rw [hdropped] at hkept
  cases hkept

end Sys2Proof.Machine
end

section
/-!
PROOFS. Received frames: the causes of a MAC, frames that are counted and dropped, PAUSE and PFC (R225 to R228, R264, R265, R268).
-/
namespace Sys2Proof.Machine

variable {m : Nat} {s : State}

/-! ### Bits of a word -/

theorem bitsAt_one (x j : Nat) : bitsAt x j 1 = (x.testBit j).toNat := (Nat.toNat_testBit x j).symm

/-- A low bit of a word cut to its width. -/
theorem bitsAt_mod {w j : Nat} (h : j < w) (x : Nat) : bitsAt (x % 2 ^ w) j 1 = bitsAt x j 1 := by
  rw [bitsAt_one, bitsAt_one, Nat.testBit_mod_two_pow, decide_eq_true h, Bool.true_and]

/-- A word with bit `t` taken out. -/
def withoutBit (x t : Nat) : Nat := x - (if bitsAt x t 1 = 1 then 2 ^ t else 0)

theorem withoutBit_eq (x t : Nat) : withoutBit x t = 2 ^ t * (2 * (x / 2 ^ (t + 1))) + x % 2 ^ t := by
  have hx : 2 ^ t * (2 * (x / 2 ^ (t + 1))) + 2 ^ t * bitsAt x t 1 + x % 2 ^ t = x := by
    rw [← Nat.mul_add, Nat.pow_succ, ← Nat.div_div_eq_div_mul]
    exact (congrArg (2 ^ t * · + x % 2 ^ t) (Nat.div_add_mod (x / 2 ^ t) 2)).trans (Nat.div_add_mod x (2 ^ t))
  have hbit : bitsAt x t 1 < 2 := bitsAt_lt x t 1
  unfold withoutBit
  split
  case isTrue h =>
    rw [h, Nat.mul_one] at hx
    omega
  case isFalse h =>
    rw [show bitsAt x t 1 = 0 by omega, Nat.mul_zero] at hx
    omega

/-- Bit `t` replaced: it is the new bit, and every other bit stays. -/
theorem bitsAt_replace {b : Nat} (hb : b < 2) (x t j : Nat) :
    bitsAt (withoutBit x t + b * 2 ^ t) j 1 = if j = t then b else bitsAt x j 1 := by
  have hsum : withoutBit x t + b * 2 ^ t = 2 ^ t * (2 * (x / 2 ^ (t + 1)) + b) + x % 2 ^ t := by
    rw [withoutBit_eq, Nat.mul_add, Nat.mul_comm b, Nat.add_right_comm]
  rw [hsum, bitsAt_one, bitsAt_one, Nat.testBit_two_pow_mul_add _ (Nat.mod_lt _ (Nat.two_pow_pos t)), Nat.testBit_mod_two_pow]
  rcases Nat.lt_trichotomy j t with h | rfl | h
  · rw [if_pos h, if_neg (Nat.ne_of_lt h), decide_eq_true h, Bool.true_and]
  · rw [if_neg (Nat.lt_irrefl j), if_pos rfl, Nat.sub_self, Nat.toNat_testBit, Nat.pow_zero, Nat.div_one]
    omega
  · rw [if_neg (by omega), if_neg (by omega)]
    obtain ⟨d, rfl⟩ := Nat.exists_eq_add_of_lt h
    rw [show t + d + 1 - t = d + 1 by omega, Nat.testBit_succ, Nat.mul_add_div (by decide), Nat.div_eq_of_lt hb, Nat.add_zero,
      Nat.testBit_div_two_pow]
    congr 2
    omega

theorem bitsAt_withoutBit (x t j : Nat) : bitsAt (withoutBit x t) j 1 = if j = t then 0 else bitsAt x j 1 := by
  simpa using bitsAt_replace (b := 0) (by decide) x t j

/-! ### The causes of a MAC -/

/-- A cause is set beside those that are set (R268). -/
theorem macCause_get_evt (m bit : Nat) (s : State) : (macCause m bit s).get .PKT_MAC_EVT m = (s.get .PKT_MAC_EVT m ||| 2 ^ bit) % 2 ^ 6 :=
  (State.get_setCauses _ _ _ _ _ (by decide) _).trans (State.get_put_self ..)

theorem macCause_touchesAt (m bit : Nat) (s : State) : TouchesAt m [.PKT_MAC_EVT] reportFields s (macCause m bit s) := by
  have hset (mask : Nat) : TouchesAt m [.PKT_MAC_EVT] reportFields s (s.put .PKT_MAC_EVT m mask) := (TouchesAt.refl ..).put
  unfold macCause setCauses onlyIf
  exact TouchesAt.ite ((hset _).thenTouches (assertEv_report ..)) (hset _)

theorem macCause_get (m bit : Nat) (s : State) {f : Fld} (hf : f ∉ .PKT_MAC_EVT :: reportFields) (i : Nat) :
    (macCause m bit s).get f i = s.get f i := (macCause_touchesAt m bit s).1.get hf i

/-- A counter of a MAC goes up and a cause is set. -/
theorem macCause_bump (m bit : Nat) (s : State) {f : Fld} (hf : f ∉ .PKT_MAC_EVT :: reportFields) :
    let t := macCause m bit (s.bump f m)
    t.get f m = satAdd f.info.w (s.get f m) 1 ∧ t.get .PKT_MAC_EVT m = (s.get .PKT_MAC_EVT m ||| 2 ^ bit) % 2 ^ 6
      ∧ TouchesAt m [f, .PKT_MAC_EVT] reportFields s t := by
  refine ⟨?_, ?_, ?_⟩
  · rw [macCause_get _ _ _ hf, State.get_bump_self]
  · rw [macCause_get_evt, State.get_bump_other _ (List.ne_of_not_mem_cons hf)]
  · refine ((TouchesAt.refl ..).bump (List.mem_cons_self ..)).thenAt (macCause_touchesAt ..) (by simp) (fun _ h => h) (fun g hg => ?_)
    simp only [List.mem_cons, List.not_mem_nil, or_false] at hg
    obtain rfl | rfl := hg
    · exact List.not_mem_of_not_mem_cons hf
    · decide

/-! ### A pause of the port -/

theorem exec_frameReceived_up (hup : s.macUp m = true) (f : RxFrame) :
    exec (.frameReceived m f) s = .next (if f.fcsGood then goodFrame m f s else macCause m 2 (s.bump .PKT_MAC_RX_FCS_ERR m)) := by
  rw [exec_frameReceived, execFrameReceived, hup, onlyIf_true]

/-- A PAUSE frame at a port that heeds them: it is counted, and pauses the port for its time or ends the pause (R264). -/
theorem pausePort_counted (hen : s.get .PKT_MAC_CTRL_PAUSE_RX_EN m = 1) (q : Nat) :
    let t := pausePort m q (s.bump .PKT_MAC_RX_FRAMES m)
    t.get .PKT_MAC_RX_FRAMES m = satAdd 32 (s.get .PKT_MAC_RX_FRAMES m) 1 ∧ t.get .PKT_MAC_PAUSE_RX m = satAdd 32 (s.get .PKT_MAC_PAUSE_RX m) 1
      ∧ t.get .PKT_PAUSE_QUANTA m = q % 2 ^ 16 ∧ t.get .PKT_MAC_STAT_PAUSED m = (if q = 0 then 0 else 1)
      ∧ t.get .PKT_MAC_EVT m = (s.get .PKT_MAC_EVT m ||| 8) % 2 ^ 6
      ∧ TouchesAt m [.PKT_MAC_RX_FRAMES, .PKT_MAC_PAUSE_RX, .PKT_PAUSE_QUANTA, .PKT_MAC_STAT_PAUSED, .PKT_MAC_EVT] reportFields s t := by
  have hheeds : (macCause m 3 ((s.bump .PKT_MAC_RX_FRAMES m).bump .PKT_MAC_PAUSE_RX m)).flag .PKT_MAC_CTRL_PAUSE_RX_EN m = true := by
    refine State.flag_of_one ?_
    rw [macCause_get _ _ _ (by decide), State.get_bump_other _ (by decide), State.get_bump_other _ (by decide), hen]
  unfold pausePort
  dsimp only
  rw [if_pos hheeds]
  refine ⟨?_, ?_, ?_, ?_, ?_, ?_⟩
  · rw [State.get_putFlag_other _ (by decide), State.get_put_other _ (by decide), macCause_get _ _ _ (by decide),
      State.get_bump_other _ (by decide), State.get_bump_self]
    rfl
  · rw [State.get_putFlag_other _ (by decide), State.get_put_other _ (by decide), macCause_get _ _ _ (by decide), State.get_bump_self,
      State.get_bump_other _ (by decide)]
    rfl
  · exact (State.get_putFlag_other _ (by decide) ..).trans (State.get_put_self ..)
  · rw [State.get_putFlag_self]
    cases q with
    | zero => rfl
    | succ k => rfl
  · show _ = (s.get .PKT_MAC_EVT m ||| 2 ^ 3) % 2 ^ 6
    rw [State.get_putFlag_other _ (by decide), State.get_put_other _ (by decide), macCause_get_evt, State.get_bump_other _ (by decide),
      State.get_bump_other _ (by decide)]
  · exact ((((TouchesAt.refl ..).bump).bump.thenAt (macCause_touchesAt ..)).put).putFlag

/-! ### Pauses of classes -/

/-- A PFC frame names class `k`, which is enabled (R265). -/
abbrev ClassNamed (vector enabled k : Nat) : Prop := bitsAt vector k 1 = 1 ∧ bitsAt enabled k 1 = 1

/-- A PFC frame's effect on class `t` (R265). -/
def pauseClass (m vector : Nat) (times : List Nat) (t : Nat) (s : State) : State :=
  if ClassNamed vector (s.get .PKT_MAC_CTRL_PFC_EN m) t then
    (s.put .PKT_PFC_QUANTA (8 * m + t) (times.getD t 0)).put .PKT_MAC_STAT_PFC_PAUSED m
      (withoutBit (s.get .PKT_MAC_STAT_PFC_PAUSED m) t + (if times.getD t 0 = 0 then 0 else 2 ^ t))
  else s

theorem pauseClasses_eq (m vector : Nat) (times : List Nat) (s : State) :
    pauseClasses m vector times s = forAll (List.range 8) (pauseClass m vector times) (macCause m 3 (s.bump .PKT_MAC_PFC_RX m)) := rfl

/-- Time and pause bit of class `k`. -/
def State.classPause (s : State) (m k : Nat) : Nat × Nat :=
  (s.get .PKT_PFC_QUANTA (8 * m + k), bitsAt (s.get .PKT_MAC_STAT_PFC_PAUSED m) k 1)

/-- The time of class `t` is written and its pause bit replaced: no other class differs. -/
theorem classPause_put {b t k : Nat} (hb : b < 2) (hk : k < 8) (time : Nat) (s : State) :
    ((s.put .PKT_PFC_QUANTA (8 * m + t) time).put .PKT_MAC_STAT_PFC_PAUSED m
        (withoutBit (s.get .PKT_MAC_STAT_PFC_PAUSED m) t + b * 2 ^ t)).classPause m k
      = if k = t then (time % 2 ^ 16, b) else s.classPause m k := by
  unfold State.classPause
  rw [State.get_put_other _ (by decide), State.get_put_self]
  show (_, bitsAt (_ % 2 ^ 8) k 1) = _
  rw [bitsAt_mod hk, bitsAt_replace hb]
  split
  case isTrue h =>
    rw [h, State.get_put_self]
    rfl
  case isFalse h => rw [State.get_put_index _ _ _ (by omega)]

theorem pauseClass_touchesAt (m vector : Nat) (times : List Nat) (t : Nat) (s : State) :
    TouchesAt m [.PKT_MAC_STAT_PFC_PAUSED] [.PKT_PFC_QUANTA] s (pauseClass m vector times t s) :=
  TouchesAt.ite (TouchesAt.refl ..).putAny.put (TouchesAt.refl ..)

/-- Time and pause bit that a PFC frame gives a class. -/
def newPause (times : List Nat) (k : Nat) : Nat × Nat := (times.getD k 0 % 2 ^ 16, if times.getD k 0 = 0 then 0 else 1)

/-- The frame's effect on a class that it names and that is enabled, as a bit that is replaced. -/
theorem pauseClass_of_named {vector t : Nat} (times : List Nat) (h : ClassNamed vector (s.get .PKT_MAC_CTRL_PFC_EN m) t) :
    pauseClass m vector times t s = (s.put .PKT_PFC_QUANTA (8 * m + t) (times.getD t 0)).put .PKT_MAC_STAT_PFC_PAUSED m
      (withoutBit (s.get .PKT_MAC_STAT_PFC_PAUSED m) t + (newPause times t).2 * 2 ^ t) := by
  have hbit : (if times.getD t 0 = 0 then 0 else 2 ^ t) = (newPause times t).2 * 2 ^ t := by
    unfold newPause
    split <;> simp
  unfold pauseClass
  rw [if_pos h, hbit]

theorem newPause_lt (times : List Nat) (t : Nat) : (newPause times t).2 < 2 := by
  show (if times.getD t 0 = 0 then 0 else 1) < 2
  split <;> decide

theorem pauseClass_named {vector k : Nat} (hk : k < 8) (times : List Nat) (h : ClassNamed vector (s.get .PKT_MAC_CTRL_PFC_EN m) k) :
    (pauseClass m vector times k s).classPause m k = newPause times k := by
  rw [pauseClass_of_named times h, classPause_put (newPause_lt ..) hk, if_pos rfl]
  rfl

/-- The frame's effect on one class leaves another alone, and one that it does not pause. -/
theorem pauseClass_keeps {vector t k : Nat} (hk : k < 8) (times : List Nat) (h : k ≠ t ∨ ¬ClassNamed vector (s.get .PKT_MAC_CTRL_PFC_EN m) k) :
    (pauseClass m vector times t s).classPause m k = s.classPause m k := by
  by_cases hnamed : ClassNamed vector (s.get .PKT_MAC_CTRL_PFC_EN m) t
  · have hother : k ≠ t := h.elim id (fun hn e => hn (e ▸ hnamed))
    rw [pauseClass_of_named times hnamed, classPause_put (newPause_lt ..) hk, if_neg hother]
  · rw [pauseClass, if_neg hnamed]

section
variable {vector k : Nat} (hk : k < 8) (times l : List Nat)
include hk

theorem classPause_forAll_named (h : ClassNamed vector (s.get .PKT_MAC_CTRL_PFC_EN m) k) :
    (forAll l (pauseClass m vector times) s).classPause m k = if k ∈ l then newPause times k else s.classPause m k := by
  induction l generalizing s with
  | nil => rfl
  | cons t l ih =>
    show (forAll l _ (pauseClass m vector times t s)).classPause m k = _
    rw [ih (by rwa [(pauseClass_touchesAt ..).1.get (by decide)])]
    by_cases ht : k = t
    · subst ht
      rw [pauseClass_named hk times h, ite_self, if_pos (List.mem_cons_self ..)]
    · rw [pauseClass_keeps hk times (.inl ht)]
      simp only [List.mem_cons, ht, false_or]

theorem classPause_forAll_other (h : ¬ClassNamed vector (s.get .PKT_MAC_CTRL_PFC_EN m) k) :
    (forAll l (pauseClass m vector times) s).classPause m k = s.classPause m k := by
  induction l generalizing s with
  | nil => rfl
  | cons t l ih =>
    show (forAll l _ (pauseClass m vector times t s)).classPause m k = _
    rw [ih (by rwa [(pauseClass_touchesAt ..).1.get (by decide)]), pauseClass_keeps hk times (.inr h)]

end

/-- A PFC frame: counted, and each enabled class that it names takes its time (R265). -/
theorem pauseClasses_counted (m vector : Nat) (times : List Nat) (s : State) :
    let t := pauseClasses m vector times (s.bump .PKT_MAC_RX_FRAMES m)
    t.get .PKT_MAC_RX_FRAMES m = satAdd 32 (s.get .PKT_MAC_RX_FRAMES m) 1 ∧ t.get .PKT_MAC_PFC_RX m = satAdd 32 (s.get .PKT_MAC_PFC_RX m) 1
      ∧ (∀ k < 8, ClassNamed vector (s.get .PKT_MAC_CTRL_PFC_EN m) k → t.classPause m k = newPause times k)
      ∧ (∀ k < 8, ¬ClassNamed vector (s.get .PKT_MAC_CTRL_PFC_EN m) k → t.classPause m k = s.classPause m k)
      ∧ TouchesAt m [.PKT_MAC_RX_FRAMES, .PKT_MAC_PFC_RX, .PKT_MAC_STAT_PFC_PAUSED, .PKT_MAC_EVT] (.PKT_PFC_QUANTA :: reportFields) s t := by
  rw [pauseClasses_eq]
  dsimp only
  have hnoted : TouchesAt m [.PKT_MAC_RX_FRAMES, .PKT_MAC_PFC_RX, .PKT_MAC_EVT] reportFields s
      (macCause m 3 ((s.bump .PKT_MAC_RX_FRAMES m).bump .PKT_MAC_PFC_RX m)) :=
    ((TouchesAt.refl ..).bump).bump.thenAt (macCause_touchesAt ..)
  have hrun (u : State) := TouchesAt.forAll (List.range 8) (pauseClass_touchesAt m vector times) u
  have hen := hnoted.1.get (show Fld.PKT_MAC_CTRL_PFC_EN ∉ _ by decide) m
  refine ⟨?_, ?_, fun k hk h => ?_, fun k hk h => ?_, ?_⟩
  · rw [(hrun _).1.get (by decide), macCause_get _ _ _ (by decide), State.get_bump_other _ (by decide), State.get_bump_self]
    rfl
  · rw [(hrun _).1.get (by decide), macCause_get _ _ _ (by decide), State.get_bump_self, State.get_bump_other _ (by decide)]
    rfl
  · rw [classPause_forAll_named hk _ _ (by rwa [hen]), if_pos (List.mem_range.mpr hk)]
  · rw [classPause_forAll_other hk _ _ (by rwa [hen]), State.classPause, hnoted.1.get (by decide), hnoted.1.get (by decide)]
    rfl
  · exact (((TouchesAt.refl ..).thenAt hnoted).thenAt (hrun _))

/-- At the end of the pause of class `k` its bit clears, and the others stay (R265). -/
theorem get_pfcPaused_expired {k j : Nat} (hj : j < 8) (s : State) :
    bitsAt (((s.put .PKT_MAC_STAT_PFC_PAUSED m (withoutBit (s.get .PKT_MAC_STAT_PFC_PAUSED m) k)).put .PKT_PFC_QUANTA (8 * m + k) 0).get
      .PKT_MAC_STAT_PFC_PAUSED m) j 1 = if j = k then 0 else bitsAt (s.get .PKT_MAC_STAT_PFC_PAUSED m) j 1 := by
  rw [State.get_put_other _ (by decide), State.get_put_self]
  exact (bitsAt_mod hj _).trans (bitsAt_withoutBit ..)

/-! ### Frames that are judged -/

/-- A frame too short or too long is dropped (R227). -/
theorem goodFrame_badLength {f : RxFrame} (h : f.bytes.length + 4 < 64 ∨ s.get .PKT_MAC_CTRL_MAX_FRAME m < f.bytes.length + 4) :
    goodFrame m f s = dropFrame m s := by
  unfold goodFrame
  dsimp only
  exact if_pos (h.imp_right .inl)

/-- A frame of a MAC control EtherType has no IPv4 header. -/
theorem ipv4Of_control {l : List Byte} (h : be16 l 12 = 0x8808) : ipv4Of l = none ∧ etherType l = (12, 0) := by
  have htag : etherType l = (12, 0) := by
    unfold etherType
    rw [h]
    rfl
  refine ⟨?_, htag⟩
  unfold ipv4Of
  rw [htag]
  dsimp only
  exact if_pos (.inl (by rw [h]; decide))

/-- A PAUSE frame of a permitted length pauses the port (R228, R264). -/
theorem goodFrame_pause {f : RxFrame} (hmin : 64 ≤ f.bytes.length + 4) (hmax : f.bytes.length + 4 ≤ s.get .PKT_MAC_CTRL_MAX_FRAME m)
    (htype : be16 f.bytes 12 = 0x8808) (hop : be16 f.bytes 14 = 1) :
    goodFrame m f s = pausePort m (be16 f.bytes 16) (s.bump .PKT_MAC_RX_FRAMES m) := by
  obtain ⟨hip, htag⟩ := ipv4Of_control htype
  have hptp : ptpOf f.bytes = none := by
    unfold ptpOf
    rw [htag, hip]
    dsimp only
    rw [htype]
    rfl
  have hpart : s.streamFragment m f.bytes = false := by
    unfold State.streamFragment
    rw [hip]
  have hgood : ¬(f.bytes.length + 4 < 64 ∨ s.get .PKT_MAC_CTRL_MAX_FRAME m < f.bytes.length + 4 ∨ 2 ≤ (etherType f.bytes).2
      ∨ s.streamFragment m f.bytes = true) := by
    rw [htag, hpart]
    simp only [Bool.false_eq_true, or_false]
    omega
  unfold goodFrame
  dsimp only
  rw [if_neg hgood, hptp, htag]
  dsimp only
  rw [if_pos htype, controlFrame, if_pos hop]

/-- Settles O34: each frame comes to a counter with its cause, to `pausePort` or to `pauseClasses`, whose run over the classes changes
those that the frame names (`classPause_forAll_named`, `classPause_forAll_other`). -/
theorem framesAreJudgedAndPause : Obligations.FramesAreJudgedAndPause := by
  unfold Obligations.FramesAreJudgedAndPause
  intro m s hup
  refine ⟨fun f hbad => ?_, fun f hgood hlen => ?_, fun f hgood hmin hmax htype hop hen => ?_, fun q hen => ?_, fun vector times => ?_, ?_,
    fun k hk => ?_⟩
  · -- a wrong FCS
    rw [exec_frameReceived_up hup, if_neg (by rw [hbad]; decide)]
    exact ⟨_, rfl, macCause_bump m 2 s (by decide)⟩
  · -- a length out of bounds
    rw [exec_frameReceived_up hup, if_pos hgood, goodFrame_badLength hlen]
    exact ⟨_, rfl, macCause_bump m 1 s (by decide)⟩
  · -- a PAUSE frame among the received frames
    obtain ⟨hframes, hpauses, htime, -, -, htouch⟩ := pausePort_counted hen (be16 f.bytes 16)
    rw [exec_frameReceived_up hup, if_pos hgood, goodFrame_pause hmin hmax htype hop]
    exact ⟨_, rfl, hframes, hpauses, htime, htouch⟩
  · -- a valid PAUSE frame
    obtain ⟨hframes, hpauses, htime, hpaused, hcause, htouch⟩ := pausePort_counted hen q
    rw [exec_pauseFrame, execPauseFrame, hup, onlyIf_true]
    exact ⟨_, rfl, hpauses, hframes, htime, hpaused, hcause, htouch⟩
  · -- a PFC frame
    obtain ⟨hframes, hpfc, hnamed, hother, htouch⟩ := pauseClasses_counted m vector times s
    rw [exec_pfcFrame, execPfcFrame, hup, onlyIf_true]
    refine ⟨_, rfl, hframes, hpfc, fun k hk hv hen => Prod.mk.inj (hnamed k hk ⟨hv, hen⟩), fun k hk h => Prod.mk.inj (hother k hk ?_), htouch⟩
    rintro ⟨hv, hen⟩
    omega
  · -- the port's pause is over
    rw [exec_pauseExpiry]
    exact ⟨_, rfl, (State.get_put_other _ (by decide) ..).trans (State.get_put_self ..), State.get_put_self .., (TouchesAt.refl ..).put.put⟩
  · -- a class's pause is over
    rw [exec_pauseExpiry]
    exact ⟨_, rfl, (get_pfcPaused_expired hk s).trans (if_pos rfl), fun j hj hne => (get_pfcPaused_expired hj s).trans (if_neg hne),
      State.get_put_self .., (TouchesAt.refl ..).put.putAny⟩

end Sys2Proof.Machine
end

section
/-!
PROOFS. A write of PKT_GCL_CTRL and the fields that it stores anew (R15, R260).
-/
namespace Sys2Proof.Machine

variable {m v : Nat} {w : Master} {r : RegRef} {s : State}

/-! ### CHANGE written to an enabled gate list -/

/-- A write that leaves an enabled unit enabled is a plain write (R17). -/
theorem controlWrite_stays {u : UnitId} {x : Nat} (hr : lookupReg (ctrlOff u) = some r) (hres : reservedValue r x = false) (hw : Nat)
    (hen : s.unitEn u = true) (hx : x % 2 = 1) : controlWrite w u x hw s = writeFields r x hw s := by
  simp only [controlWrite, hr, hres, hen, hx, Bool.false_eq_true, Bool.not_true, if_false, if_true]

/-- With CHANGE set, a write that leaves an enabled list enabled is a plain write, behind which the administrative list is judged (R260). -/
theorem exec_gclChange_enabled (hm : m < 96) (hp : Passes w (gclOff m) s) (hr : lookupReg (gclOff m) = some r)
    (hres : reservedValue r (v ||| 2) = false) (hen : s.unitEn ⟨.gcl, m⟩ = true) (hv : v % 2 = 1)
    (hbusy : s.flag .CHECK_BUSY ((⟨.gcl, m⟩ : UnitId).code) = false) :
    exec (.gclChange w m v) s = .next (changeGates w m (writeFields r (v ||| 2) 0 (s.respond 0 false))) := by
  have hu : unitValid ⟨.gcl, m⟩ = true := decide_eq_true hm
  have hchange : bitsAt (v ||| 2) 1 1 = 1 := by
    rw [bitsAt_one, Nat.testBit_or, show Nat.testBit 2 1 = true from rfl, Bool.or_true]
    rfl
  have hwrite : controlWrite w ⟨.gcl, m⟩ (v ||| 2) 0 (s.respond 0 false) = writeFields r (v ||| 2) 0 (s.respond 0 false) :=
    controlWrite_stays (u := ⟨.gcl, m⟩) (s := s.respond 0 false) hr hres 0 hen (Nat.or_mod_two_eq_one.mpr (.inl hv))
  have hidle : (writeFields r (v ||| 2) 0 (s.respond 0 false)).flag .CHECK_BUSY ((⟨.gcl, m⟩ : UnitId).code) = false := by
    rw [State.flag, writeFields_get_control hu hr _ _ _ (by decide)]
    exact hbusy
  have hcode : (s.respond 0 false).controlCode ⟨.gcl, m⟩ (v ||| 2) = 0 := rfl
  rw [exec_gclChange, execGclChange, decide_eq_true hm, onlyIf_true, controlRow, hr]
  dsimp only
  rw [writeGated_pass hp, controlRegister, if_neg (not_not_intro hcode), if_neg (by rw [hres]; decide), hwrite]
  unfold controlAction
  rw [hchange, hidle]
  rfl

/-- Judging and latching a list changes what PKT_GCL_STAT shows, a refusal the log and the reports. -/
theorem changeGates_get (w : Master) (m : Nat) (s : State) {f : Fld}
    (hf : f ∉ [.PKT_GCL_STAT_PENDING, .PKT_GCL_STAT_RUNNING, .PKT_GCL_STAT_ENTRY] ++ (refuseFields ++ reportFields)) (i : Nat) :
    (changeGates w m s).get f i = s.get f i := by
  obtain ⟨hshown, hrefused⟩ := not_or.mp (mt List.mem_append.mpr hf)
  have hput (g : GateState) : (putGate g s).get f i = s.get f i := by
    simp only [List.mem_cons, List.not_mem_nil, or_false, not_or] at hshown
    obtain ⟨hpending, hrunning, hentry⟩ := hshown
    unfold putGate
    rw [State.get_put_other _ (Ne.symm hentry), State.get_putFlag_other _ (Ne.symm hrunning), State.get_putFlag_other _ (Ne.symm hpending)]
    rfl
  unfold changeGates onlyIf latchGates
  dsimp only
  split
  · exact State.get_refuse _ _ _ _ hrefused i
  · split
    · exact hput _
    · rfl

/-- The write-only CHANGE is stored anew, cut to its one bit (R15). -/
theorem gclChange_stored (hr : lookupReg (gclOff m) = some r) (hidx : r.idx = m) (hf : .PKT_GCL_CTRL_CHANGE ∈ r.desc.flds) :
    (changeGates w m (writeFields r (v ||| 2) 0 (s.respond 0 false))).get .PKT_GCL_CTRL_CHANGE m = s.get .PKT_GCL_CTRL_CHANGE m % 2 := by
  subst hidx
  rw [changeGates_get _ _ _ (by decide)]
  exact writeFields_get (lookupReg_nodup hr) _ _ _ hf (by decide)

/-! ### A CHANGE field of more than one bit -/

/-- Gate list 0 is enabled, with an empty administrative list; its write-only field CHANGE is stored as 2, beyond its one bit. -/
def wideChange : State :=
  let enabled := State.reset.put .UNIT_EN (UnitKind.gcl.code 0) 1
  { enabled with regs := ⟨.PKT_GCL_CTRL_CHANGE, 0, 2⟩ :: enabled.regs }

/-- Refutes O36: the statement has a write of PKT_GCL_CTRL leave every field that it does not list as it was, in every state, also in one
whose store is not canonical (no step leads from a canonical store to such a one). A write stores each field of its register anew, cut to
the field's width: where the write-only CHANGE, which the statement does not list, is stored as 2, it is 0 afterwards. -/
theorem not_gateListsRunInCycles : ¬ Obligations.GateListsRunInCycles := by
  unfold Obligations.GateListsRunInCycles
  intro h
  obtain ⟨r, hr, hidx, hres, hf⟩ : ∃ r, lookupReg (gclOff 0) = some r ∧ r.idx = 0 ∧ reservedValue r (1 ||| 2) = false
      ∧ .PKT_GCL_CTRL_CHANGE ∈ r.desc.flds := ⟨_, rfl, by decide⟩
  have hp : Passes (.st 0) (gclOff 0) wideChange := by decide
  have hen : wideChange.unitEn ⟨.gcl, 0⟩ = true := by decide
  have hbusy : wideChange.get .CHECK_BUSY ((⟨.gcl, 0⟩ : UnitId).code) = 0 := by decide
  have hwide : wideChange.get .PKT_GCL_CTRL_CHANGE 0 = 2 := by decide
  obtain ⟨hlists, -⟩ := h
  obtain ⟨hchange, -⟩ := hlists 0 wideChange (by decide)
  obtain ⟨-, hrefused⟩ := hchange (.st 0) 1 _ rfl hp hen (by decide) hbusy
  obtain ⟨t, hexec, -, -, htouch⟩ := hrefused (by decide)
  have hkept : t.get .PKT_GCL_CTRL_CHANGE 0 = 2 := (htouch.get (by decide) 0).trans hwide
  have hcut : t.get .PKT_GCL_CTRL_CHANGE 0 = 0 := by
    rw [exec_gclChange_enabled (by decide) hp hr hres hen (by decide) (State.flag_of_zero hbusy)] at hexec
    rw [← Host.Outcome.next.inj hexec, gclChange_stored hr hidx hf, hwide]
  rw [hcut] at hkept
  cases hkept

end Sys2Proof.Machine
end

section
/-!
PROOFS. The time bases at a tick at which nothing is due (R273).
-/
namespace Sys2Proof.Machine

variable {n k : Nat} {s : State}

/-- The value of TBn one tick later, where no step and no increment is due: a running time base adds its increment (R273). -/
def State.tbTicked (s : State) (n : Nat) : TimeBase :=
  if s.running .tb n then timeOfTotal ((s.tb n).total + s.tbInc n) else s.tb n

/-- The state in which time bases 0 to k - 1 are ticked and the others are not yet. -/
def State.withTicked (s : State) (k : Nat) : State := { s with tbs := (List.range k).map s.tbTicked ++ s.tbs.drop k }

theorem takeInc_idle (h : s.get .TB_INC_DUE n = 0) : takeInc n s = s := by
  rw [takeInc, State.flag_of_zero h, if_neg Bool.false_ne_true]

theorem putTb_tb (h : n < s.tbs.length) : putTb n (s.tb n) s = s := by
  rw [putTb, State.tb, List.getD_eq_getElem?_getD, List.getElem?_eq_getElem h, Option.getD_some, List.set_getElem_self]

theorem tickTb_idle (hlen : n < s.tbs.length) (hinc : s.get .TB_INC_DUE n = 0) : tickTb n s = putTb n (s.tbTicked n) s := by
  unfold tickTb State.tbTicked
  rw [takeInc_idle hinc]
  dsimp only
  split
  · rfl
  · exact (putTb_tb hlen).symm

/-- Ticking a time base reads that one's value alone, which the ticks of those below it leave as it was. -/
theorem withTicked_tbTicked (s : State) (k : Nat) : (s.withTicked k).tbTicked k = s.tbTicked k := by
  have htb : (s.withTicked k).tb k = s.tb k := by simp [State.withTicked, State.tb, List.getElem?_append_right]
  rw [State.tbTicked, htb]
  rfl

theorem putTb_withTicked (h : k < s.tbs.length) : putTb k (s.tbTicked k) (s.withTicked k) = s.withTicked (k + 1) := by
  have hset : (s.withTicked k).tbs.set k (s.tbTicked k) = (s.withTicked (k + 1)).tbs := by
    simp [State.withTicked, -List.getElem_cons_drop, List.set_append_right, List.drop_eq_getElem_cons h, List.range_succ]
  rw [putTb, hset]
  rfl

theorem forAll_tickTb_idle (hlen : s.tbs.length = 8) (hinc : ∀ n < 8, s.get .TB_INC_DUE n = 0) (hk : k ≤ 8) :
    forAll (List.range k) tickTb s = s.withTicked k := by
  induction k with
  | zero => rfl
  | succ k ih =>
    have hlt : k < s.tbs.length := hlen ▸ hk
    have hlt' : k < (s.withTicked k).tbs.length := by simp [State.withTicked]; omega
    calc forAll (List.range (k + 1)) tickTb s
        = tickTb k (forAll (List.range k) tickTb s) := by simp [forAll, List.range_succ]
      _ = tickTb k (s.withTicked k) := by rw [ih (Nat.le_of_succ_le hk)]
      _ = putTb k (s.tbTicked k) (s.withTicked k) := by rw [tickTb_idle hlt' (hinc k hk), withTicked_tbTicked]
      _ = s.withTicked (k + 1) := putTb_withTicked hlt

theorem tickAll_idle (hsteps : s.stepsDue = []) (hlen : s.tbs.length = 8) (hinc : ∀ n < 8, s.get .TB_INC_DUE n = 0) :
    tickAll s = State.withTicked { s with tick := s.tick + 1 } 8 := by
  have hnone : forAll s.stepsDue applyStep { s with stepsDue := [], tick := s.tick + 1 } = { s with tick := s.tick + 1 } := by
    rw [hsteps]
    rfl
  rw [tickAll, hnone]
  exact forAll_tickTb_idle hlen hinc (Nat.le_refl 8)

theorem withTicked_tb (hn : n < k) : (s.withTicked k).tb n = s.tbTicked n := by
  simp [State.withTicked, State.tb, List.getElem?_append_left, hn]

/-- Settles O2: a step is a tick, at which each time base takes its own next value (`tickAll_idle`). -/
theorem idleStepIsOneTick : Obligations.IdleStepIsOneTick := by
  unfold Obligations.IdleStepIsOneTick
  intro s hpending hsteps hlen hinc
  exact ⟨_, (step_nil hpending).trans (congrArg _ (tickAll_idle hsteps hlen hinc)), rfl, fun _ hn => withTicked_tb hn⟩

end Sys2Proof.Machine
end

section
/-!
PROOFS. Writes of AUD_COMMIT that ask for a commit and its cancellation at once, and the fields that a gain write stores anew: the
statements of the audio commits and of the audio ports are refuted (R15, R341, R343, R367, R376).
-/
namespace Sys2Proof.Machine

variable {m : Master} {c v off hw : Nat} {r : RegRef} {s : State}

/-! ### GO and CANCEL in one write of AUD_COMMIT -/

/-- A write with CANCEL is no commit, whatever the checks of a commit would say: it is refused (R341, R343). -/
theorem exec_audioCommit_withCancel (hp : Passes m audCommitOff s) (hcancel : bitsAt v 30 1 = 1) :
    exec (.audioCommit m v) s = .next (refuse 0x04 (wordOf audCommitOff) m (s.respond 0 false)) := by
  rw [exec_audioCommit, execAudioCommit, writeGated_pass hp, if_pos hcancel]

/-- A refusal leaves the pending audio commit as it is (R78). -/
theorem refuse_audCommit (code word : Nat) (m : Master) (s : State) : (refuse code word m s).audCommit = s.audCommit := by
  rw [(refuse_report code word m s).1]

/-- The matrix runs and AUD_COMMIT_RANGE names output channel 0, whose draft is silence. -/
def silentDraft : State :=
  (State.reset.put .CHECK_ENABLED (UnitKind.code .aud 0) 1).put .AUD_COMMIT_RANGE_COUNT 0 1

/-- Refutes O46: the statement has every write that passes the checks of a commit (R341) leave a commit pending, also one that sets CANCEL
beside GO. Such a write is refused with 0x04, and no commit is pending. -/
theorem not_audioCommitsTakeEffectWhole : ¬ Obligations.AudioCommitsTakeEffectWhole := by
  unfold Obligations.AudioCommitsTakeEffectWhole
  intro h
  have hp : Passes (.st 1) audCommitOff silentDraft := by decide
  have hcancel : bitsAt 0xC0000000 30 1 = 1 := by decide
  have hchecks : silentDraft.audCommitCode 0xC0000000 = 0 := by decide
  obtain ⟨-, -, hcommit, -⟩ := h
  obtain ⟨haccepted, -⟩ := hcommit (.st 1) 0xC0000000 silentDraft hp
  obtain ⟨t, hexec, -, -, -, hpending, -⟩ := haccepted hchecks
  have hnone : t.audCommit = none := by
    rw [exec_audioCommit_withCancel hp hcancel] at hexec
    rw [← Host.Outcome.next.inj hexec, refuse_audCommit]
    rfl
  rw [hnone] at hpending
  cases hpending

/-! ### A gain write and the fields of its word -/

/-- A write by the access codes, where no field receives a reserved value (R15, R598). -/
theorem writeWordHw_plain (hr : lookupReg off = some r) (hres : reservedValue r v = false) :
    writeWordHw m off v hw s = writeFields r v hw s := by
  simp only [writeWordHw, hr, plainWrite, hres, Bool.false_eq_true, if_false]

theorem matrixSize_le (s : State) : s.matrixSize ≤ 16384 := by
  unfold State.matrixSize
  split <;> decide

/-- A gain within its limits is written by the access codes; where it moves, its movement starts (R367). -/
theorem exec_gainWrite_within (hc : c < s.matrixSize) (hp : Passes m (audOutOff c) s)
    (hlimit : toSigned 16 v ≤ toSigned 16 (s.get .AUD_OUT1_GAIN_LIMIT c)) (hlow : -1200 ≤ toSigned 16 v) :
    exec (.gainWrite m c v) s = .next (onlyIf (v % 65536 != s.get .AUD_OUT0_GAIN c)
      (fun t => (t.put .AUD_GAIN_FROM c (s.factorAt c (if s.get .AUD_GAIN_LEFT c = 0 then 0 else s.get .AUD_GAIN_LEFT c + 1))).put
        .AUD_GAIN_LEFT c 64)
      (writeWordHw m (audOutOff c) v 0 (s.respond 0 false))) := by
  have hin : c < 16384 := Nat.lt_of_lt_of_le hc (matrixSize_le s)
  have hsize : ¬(s.respond 0 false).matrixSize ≤ c := Nat.not_le.mpr hc
  rw [exec_gainWrite, execGainWrite, decide_eq_true hin, onlyIf_true, writeGated_pass hp]
  unfold gainWord
  dsimp only
  rw [if_neg hsize, State.get_respond, if_neg (Int.not_lt.mpr hlimit), if_neg (Int.not_lt.mpr hlow)]
  rfl

/-- The read-only VENUE of the same word is stored anew, cut to its one bit (R15). -/
theorem gainWritten_venue {moved : Bool} {k : Nat} (hr : lookupReg (audOutOff c) = some r) (hidx : r.idx = c)
    (hf : .AUD_OUT0_VENUE ∈ r.desc.flds) (hres : reservedValue r v = false) :
    (onlyIf moved (fun t => (t.put .AUD_GAIN_FROM c k).put .AUD_GAIN_LEFT c 64) (writeWordHw m (audOutOff c) v 0 s)).get .AUD_OUT0_VENUE c
      = s.get .AUD_OUT0_VENUE c % 2 := by
  subst hidx
  have hwritten : (writeWordHw m (audOutOff r.idx) v 0 s).get .AUD_OUT0_VENUE r.idx = s.get .AUD_OUT0_VENUE r.idx % 2 := by
    rw [writeWordHw_plain hr hres]
    exact writeFields_get (lookupReg_nodup hr) _ _ _ hf (by decide)
  cases moved with
  | false => exact hwritten
  | true => rw [onlyIf_true, State.get_put_other _ (by decide), State.get_put_other _ (by decide), hwritten]

/-! ### A VENUE field of more than one bit -/

/-- Reset, but that the read-only VENUE of output channel 0 is stored as 2, beyond its one bit. -/
def wideVenue : State :=
  { State.reset with regs := ⟨.AUD_OUT0_VENUE, 0, 2⟩ :: State.reset.regs }

/-- Refutes O47: the statement has a gain write leave every field that it does not list as it was, in every state, also in one whose store
is not canonical (no step leads from a canonical store to such a one). A write stores each field of its register anew, cut to the field's
width: where the read-only VENUE, which stands in the word of the gain and not in the statement's list, is stored as 2, it is 0
afterwards. -/
theorem not_audioPortsAreSupervised : ¬ Obligations.AudioPortsAreSupervised := by
  unfold Obligations.AudioPortsAreSupervised
  intro h
  obtain ⟨r, hr, hidx, hf, hres⟩ : ∃ r, lookupReg (audOutOff 0) = some r ∧ r.idx = 0 ∧ .AUD_OUT0_VENUE ∈ r.desc.flds
      ∧ reservedValue r 0 = false := ⟨_, rfl, by decide⟩
  have hc : 0 < wideVenue.matrixSize := by decide
  have hp : Passes (.st 1) (audOutOff 0) wideVenue := by decide
  have hlimit : toSigned 16 0 ≤ toSigned 16 (wideVenue.get .AUD_OUT1_GAIN_LIMIT 0) := by decide
  have hlow : -1200 ≤ toSigned 16 0 := by decide
  have hwide : wideVenue.get .AUD_OUT0_VENUE 0 = 2 := by decide
  obtain ⟨-, -, -, hgain⟩ := h
  obtain ⟨hwithin, -⟩ := hgain (.st 1) 0 0 wideVenue hc hp
  obtain ⟨t, hexec, -, -, -, htouch, -⟩ := hwithin hlimit hlow
  have hkept : t.get .AUD_OUT0_VENUE 0 = 2 := (htouch.get (by decide) 0).trans hwide
  have hcut : t.get .AUD_OUT0_VENUE 0 = 0 := by
    rw [exec_gainWrite_within hc hp hlimit hlow] at hexec
    rw [← Host.Outcome.next.inj hexec, gainWritten_venue hr hidx hf hres, State.get_respond, hwide]
  rw [hcut] at hkept
  cases hkept

end Sys2Proof.Machine
end

section
/-!
PROOFS. DSP cores: the bits of SR, how an instruction retires, what reads and stores of a core leave alone, and the frame that a row
fills in (R384, R397 to R400, R402, R414, R419).
-/
namespace Sys2Proof.Machine

variable {n : Nat} {c d r : DspCore} {s t u : State}

/-! ### The registers of a core -/

/-- A bit of SR after a write of one of its bits (R384). -/
theorem DspCore.srBit_putSr (c : DspCore) (b : Nat) (v : Bool) (j : Nat) :
    (c.putSr b v).srBit j = if j = b then v else c.srBit j := by
  have hbit : bitsAt c.sr b 1 < 2 := bitsAt_lt c.sr b 1
  have hsr : (c.putSr b v).sr = withoutBit c.sr b + v.toNat * 2 ^ b := by
    unfold DspCore.putSr withoutBit
    dsimp only
    rw [Nat.mul_comm v.toNat]
    obtain h | h : bitsAt c.sr b 1 = 0 ∨ bitsAt c.sr b 1 = 1 := by omega
    · simp [h]
    · simp [h]
  unfold DspCore.srBit
  rw [hsr, bitsAt_replace (Bool.toNat_lt v)]
  split
  · cases v <;> rfl
  · rfl

theorem DspCore.srBit_putSr_self (c : DspCore) (b : Nat) (v : Bool) : (c.putSr b v).srBit b = v := by
  rw [srBit_putSr, if_pos rfl]

theorem DspCore.srBit_putSr_other {b j : Nat} (h : j ≠ b) (c : DspCore) (v : Bool) : (c.putSr b v).srBit j = c.srBit j := by
  rw [srBit_putSr, if_neg h]

/-- LS is sticky: a saturation changes no other part of the core (R384). -/
theorem DspCore.stickLs_eq (c : DspCore) (b : Bool) : c.stickLs b = { c with sr := (c.stickLs b).sr } := by
  cases b <;> rfl

theorem DspCore.srBit_stickLs_other {j : Nat} (h : j ≠ 4) (c : DspCore) (b : Bool) : (c.stickLs b).srBit j = c.srBit j := by
  cases b
  · rfl
  · exact srBit_putSr_other h c true

theorem DspCore.srBit_stickLs (c : DspCore) {b : Bool} (h : b = true ∨ c.srBit 4 = true) : (c.stickLs b).srBit 4 = true := by
  cases b
  · exact h.resolve_left (by decide)
  · exact srBit_putSr_self c 4 true

/-- Loads that land write D registers alone (R400). -/
theorem DspCore.land_eq (c : DspCore) : c.land = { c with d := c.land.d, loads := [] } := by
  have hfold (l : List (Nat × Nat)) (x : DspCore) :
      l.foldl (fun x r => x.putD r.1 r.2) x = { x with d := (l.foldl (fun x r => x.putD r.1 r.2) x).d } := by
    induction l generalizing x with
    | nil => rfl
    | cons r l ih =>
      rw [List.foldl_cons, ih]
      rfl
  unfold land
  rw [hfold]

theorem DspCore.land_acc (c : DspCore) (a : Nat) : c.land.acc a = c.acc a := by rw [c.land_eq]; rfl
theorem DspCore.land_acc0 (c : DspCore) : c.land.acc0 = c.acc0 := by rw [c.land_eq]
theorem DspCore.land_acc1 (c : DspCore) : c.land.acc1 = c.acc1 := by rw [c.land_eq]
theorem DspCore.land_a (c : DspCore) : c.land.a = c.a := by rw [c.land_eq]
theorem DspCore.land_loads (c : DspCore) : c.land.loads = [] := by rw [c.land_eq]
theorem DspCore.land_srBit (c : DspCore) (b : Nat) : c.land.srBit b = c.srBit b := by rw [c.land_eq]; rfl

/-- The move fields step address registers alone (R385). -/
theorem DspCore.stepAddresses_eq (c : DspCore) (w : Nat) (c0 : DspCore) :
    c.stepAddresses w c0 = { c with a := (c.stepAddresses w c0).a } := by
  unfold stepAddresses
  dsimp only
  cases (xMove w).updates <;> cases (yMove w).updates <;> rfl

/-! ### The end of an instruction -/

/-- The core is at the end of the body of a hardware loop (R398). -/
abbrev DspCore.AtEnd (c : DspCore) : Prop := c.srBit 31 = true ∧ c.pc = c.lend

theorem DspCore.afterLoop_inside (h : ¬c.AtEnd) : c.afterLoop = { c with pc := c.pc + 1 } := by
  unfold afterLoop
  rw [if_neg (by simpa using h)]

theorem DspCore.afterLoop_again (h : c.AtEnd) (hmore : 1 < c.lcnt) : c.afterLoop = { c with lcnt := c.lcnt - 1, pc := c.lstart } := by
  unfold afterLoop
  rw [if_pos (by simpa using h), if_pos hmore]

theorem DspCore.afterLoop_last (h : c.AtEnd) (hlast : c.lcnt ≤ 1) :
    c.afterLoop = { c.putSr 31 false with lcnt := 0, pc := c.pc + 1 } := by
  unfold afterLoop
  rw [if_pos (by simpa using h), if_neg (by omega)]

/-- Where the loop test leaves the PC, the count and LACT (R398). -/
theorem DspCore.afterLoop_moves (c : DspCore) :
    c.afterLoop.pc = dspNextPc c ∧ c.afterLoop.srBit 31 = (if c.srBit 31 = true ∧ c.pc = c.lend ∧ c.lcnt ≤ 1 then false else c.srBit 31)
      ∧ c.afterLoop.lcnt = if c.AtEnd then c.lcnt - 1 else c.lcnt := by
  unfold dspNextPc
  by_cases hend : c.AtEnd
  · rcases Nat.lt_or_ge 1 c.lcnt with hmore | hlast
    · rw [afterLoop_again hend hmore, if_pos ⟨hend.1, hend.2, hmore⟩, if_neg (fun k => by omega), if_pos hend]
      exact ⟨rfl, rfl, rfl⟩
    · rw [afterLoop_last hend hlast, if_neg (fun k => by omega), if_pos ⟨hend.1, hend.2, hlast⟩, if_pos hend]
      exact ⟨rfl, srBit_putSr_self c 31 false, by dsimp only; omega⟩
  · rw [afterLoop_inside hend, if_neg (fun k => hend ⟨k.1, k.2.1⟩), if_neg (fun k => hend ⟨k.1, k.2.1⟩), if_neg hend]
    exact ⟨rfl, rfl, rfl⟩

/-- The loop test changes SR in LACT alone, and beside SR, the count and the PC nothing (R398). -/
theorem DspCore.afterLoop_eq (c : DspCore) :
    c.afterLoop = { c with sr := c.afterLoop.sr, lcnt := c.afterLoop.lcnt, pc := c.afterLoop.pc }
      ∧ ∀ b, b ≠ 31 → c.afterLoop.srBit b = c.srBit b := by
  by_cases hend : c.AtEnd
  · rcases Nat.lt_or_ge 1 c.lcnt with hmore | hlast
    · rw [afterLoop_again hend hmore]
      exact ⟨rfl, fun _ _ => rfl⟩
    · rw [afterLoop_last hend hlast]
      exact ⟨rfl, fun b hb => srBit_putSr_other hb c false⟩
  · rw [afterLoop_inside hend]
    exact ⟨rfl, fun _ _ => rfl⟩

/-- A delay slot counts, and the branch that waits for the last one ends with it (R397). -/
theorem DspCore.afterSlot_eq (c : DspCore) :
    c.afterSlot = { c with slots := c.slots - 1, branch := if c.slots = 1 then none else c.branch
                           pc := if c.slots = 1 then c.branch.getD c.pc else c.pc } := by
  unfold afterSlot
  by_cases hnone : c.slots = 0
  · have hlast : ¬c.slots = 1 := by omega
    rw [if_pos hnone, if_neg hlast, if_neg hlast, hnone, Nat.zero_sub, ← hnone]
  · by_cases hlast : c.slots = 1
    · rw [if_neg hnone, if_pos hlast, if_pos hlast, if_pos hlast, hlast]
    · rw [if_neg hnone, if_neg hlast, if_neg hlast, if_neg hlast]

theorem DspCore.retire_repeats {k : Nat} (h : c.rep = some k) (hmore : 1 < k) :
    c.retire = { c with cycles := c.cycles + 1, rep := some (k - 1) } := by
  unfold retire
  simp only [h, if_pos hmore]

/-- The cycle of an instruction that is not repeated is counted. -/
def DspCore.oneCycle (c : DspCore) : DspCore := { c with cycles := c.cycles + 1, rep := none }

theorem DspCore.retire_goesOn (h : ∀ k, c.rep = some k → k ≤ 1) : c.retire = c.oneCycle.afterLoop.afterSlot := by
  unfold retire oneCycle
  cases hrep : c.rep with
  | none => rfl
  | some k => simp only [if_neg (Nat.not_lt.mpr (h k hrep))]

theorem DspCore.repeats_or_goesOn (c : DspCore) : (∃ k, c.rep = some k ∧ 1 < k) ∨ ∀ k, c.rep = some k → k ≤ 1 := by
  cases c.rep with
  | none => exact .inr nofun
  | some k =>
    rcases Nat.lt_or_ge 1 k with hmore | hone
    · exact .inl ⟨k, rfl, hmore⟩
    · exact .inr fun j hj => Option.some.inj hj ▸ hone

/-- Sequencing writes no register that holds data, and of SR only LACT. -/
theorem DspCore.retire_eq (c : DspCore) :
    c.retire = { c with cycles := c.cycles + 1, rep := c.retire.rep, lcnt := c.retire.lcnt, pc := c.retire.pc, sr := c.retire.sr,
                        slots := c.retire.slots, branch := c.retire.branch }
      ∧ ∀ b, b ≠ 31 → c.retire.srBit b = c.srBit b := by
  obtain ⟨k, hk, hmore⟩ | hrep := c.repeats_or_goesOn
  · rw [retire_repeats hk hmore]
    exact ⟨rfl, fun _ _ => rfl⟩
  · obtain ⟨hloop, hbits⟩ := c.oneCycle.afterLoop_eq
    rw [retire_goesOn hrep, afterSlot_eq]
    refine ⟨?_, hbits⟩
    rw [hloop]
    rfl

/-- An instruction that retires has advanced (R397 to R399). -/
theorem DspCore.retire_advanced (c : DspCore) : DspAdvanced c c.retire := by
  refine ⟨congrArg cycles c.retire_eq.1, fun k hk hmore => ?_, fun hrep => ?_⟩
  · rw [retire_repeats hk hmore]
    exact ⟨rfl, rfl, rfl, rfl, rfl⟩
  · obtain ⟨hpc, hlact, hlcnt⟩ := c.oneCycle.afterLoop_moves
    obtain ⟨hloop, -⟩ := c.oneCycle.afterLoop_eq
    have hslots : c.oneCycle.afterLoop.slots = c.slots := by rw [hloop]; rfl
    have hbranch : c.oneCycle.afterLoop.branch = c.branch := by rw [hloop]; rfl
    have hnone : c.oneCycle.afterLoop.rep = none := by rw [hloop]; rfl
    rw [retire_goesOn hrep, afterSlot_eq, hslots, hbranch, hpc]
    exact ⟨hnone, rfl, rfl, hlact, hlcnt⟩

/-! ### What an instruction writes before it ends -/

/-- A core beside the one that an instruction found: D registers, accumulators, address registers, SR but for LACT, the loads on their
way and the ring pointers may differ, and nothing else. -/
def Computes (c r : DspCore) : Prop :=
  r = { c with d := r.d, acc0 := r.acc0, acc1 := r.acc1, a := r.a, sr := r.sr, loads := r.loads, qinRd := r.qinRd }
    ∧ r.srBit 31 = c.srBit 31

namespace Computes

theorem trans (h : Computes c r) (k : Computes r d) : Computes c d := by
  refine ⟨?_, k.2.trans h.2⟩
  rw [k.1, h.1]

theorem land (c : DspCore) : Computes c c.land := ⟨by rw [c.land_eq], c.land_srBit 31⟩

theorem putD (h : Computes c r) (i v : Nat) : Computes c (r.putD i v) := h.trans ⟨rfl, rfl⟩

theorem putAcc (h : Computes c r) (a : Nat) (x : Int) : Computes c (r.putAcc a x) := by
  refine h.trans ?_
  unfold DspCore.putAcc
  split <;> exact ⟨rfl, rfl⟩

theorem putSr (h : Computes c r) {b : Nat} (hb : 31 ≠ b) (v : Bool) : Computes c (r.putSr b v) :=
  h.trans ⟨rfl, DspCore.srBit_putSr_other hb r v⟩

theorem stickLs (h : Computes c r) (b : Bool) : Computes c (r.stickLs b) :=
  h.trans ⟨by rw [r.stickLs_eq], DspCore.srBit_stickLs_other (by decide) r b⟩

theorem setAcc (h : Computes c r) (a : Nat) (x : Int) : Computes c (r.setAcc a x) := (h.putAcc a _).stickLs _

theorem setZnv (h : Computes c r) (w : Nat) (v : Bool) : Computes c (r.setZnv w v) :=
  ((h.putSr (by decide) _).putSr (by decide) _).putSr (by decide) _

theorem stepAddresses (h : Computes c r) (w : Nat) (c0 : DspCore) : Computes c (r.stepAddresses w c0) := by
  rw [r.stepAddresses_eq]
  exact h.trans ⟨rfl, rfl⟩

theorem loads (h : Computes c r) (l : List (Nat × Nat)) : Computes c { r with loads := l } := h.trans ⟨rfl, rfl⟩

theorem qinRd (h : Computes c r) (q : List Nat) : Computes c { r with qinRd := q } := h.trans ⟨rfl, rfl⟩

/-- What has been computed does not bear on how the instruction ends. -/
theorem retire_advanced (h : Computes c r) : DspAdvanced c r.retire := by
  have hadvanced := r.retire_advanced
  obtain ⟨hr, hlact⟩ := h
  unfold DspAdvanced dspNextPc at hadvanced ⊢
  rw [hlact] at hadvanced
  rw [hr] at hadvanced
  rw [hr]
  exact hadvanced

/-- Nor does it reach the registers of loops, modifiers, the stack, blocks and the inbox write pointer. -/
theorem retire_kept (h : Computes c r) :
    let d := r.retire
    d.lstart = c.lstart ∧ d.lend = c.lend ∧ d.m = c.m ∧ d.l = c.l ∧ d.stack = c.stack ∧ d.depth = c.depth
      ∧ d.pendingBlocks = c.pendingBlocks ∧ d.held = c.held ∧ d.qinWr = c.qinWr := by
  dsimp only
  rw [r.retire_eq.1]
  dsimp only
  rw [h.1]
  exact ⟨rfl, rfl, rfl, rfl, rfl, rfl, rfl, rfl, rfl⟩

end Computes

/-- The results of an instruction stand in a core: its data, its flags, and LS where it set it. -/
structure Carries (r d : DspCore) : Prop where
  data : d.d = r.d
  acc0 : d.acc0 = r.acc0
  acc1 : d.acc1 = r.acc1
  flags : ∀ b ∈ [1, 2, 3], d.srBit b = r.srBit b
  ls : r.srBit 4 = true → d.srBit 4 = true

namespace Carries

theorem refl (r : DspCore) : Carries r r := ⟨rfl, rfl, rfl, fun _ _ => rfl, id⟩

theorem trans {e : DspCore} (h : Carries r d) (k : Carries d e) : Carries r e :=
  ⟨k.data.trans h.data, k.acc0.trans h.acc0, k.acc1.trans h.acc1, fun b hb => (k.flags b hb).trans (h.flags b hb), k.ls ∘ h.ls⟩

theorem acc (h : Carries r d) (a : Nat) : d.acc a = r.acc a := by
  unfold DspCore.acc
  rw [h.acc0, h.acc1]

theorem stepAddresses (r : DspCore) (w : Nat) (c0 : DspCore) : Carries r (r.stepAddresses w c0) := by
  rw [r.stepAddresses_eq]
  exact ⟨rfl, rfl, rfl, fun _ _ => rfl, id⟩

theorem loads (h : Carries r d) (l : List (Nat × Nat)) : Carries r { d with loads := l } := h.trans ⟨rfl, rfl, rfl, fun _ _ => rfl, id⟩

theorem qinRd (h : Carries r d) (q : List Nat) : Carries r { d with qinRd := q } := h.trans ⟨rfl, rfl, rfl, fun _ _ => rfl, id⟩

theorem stickLs (h : Carries r d) (b : Bool) : Carries r (d.stickLs b) := by
  refine h.trans ?_
  refine ⟨?_, ?_, ?_, fun j hj => DspCore.srBit_stickLs_other (by rintro rfl; revert hj; decide) d b, fun h => d.srBit_stickLs (.inr h)⟩ <;>
    rw [d.stickLs_eq]

theorem retire (h : Carries r d) : Carries r d.retire := by
  obtain ⟨hd, hbits⟩ := d.retire_eq
  refine h.trans ⟨?_, ?_, ?_, fun j hj => hbits j (by rintro rfl; revert hj; decide), (hbits 4 (by decide)).trans⟩ <;> rw [hd]

end Carries

end Sys2Proof.Machine
end

section
/-!
PROOFS. DSP cores: what reads, stores and a whole instruction of the parallel form leave alone (R387 to R394, R400, R402, R414, R419).
-/
namespace Sys2Proof.Machine

variable {n w opc : Nat} {e : DspEcc} {s t u : State}

/-! ### One core among the others -/

theorem core_putCore_self (h : n < s.dsp.length) (c : DspCore) : (putCore n c s).core n = c := by
  simp [State.core, putCore, h]

theorem core_putCore_other {k : Nat} (h : k ≠ n) (c : DspCore) (s : State) : (putCore n c s).core k = s.core k := by
  simp [State.core, putCore, List.getD_eq_getElem?_getD, List.getElem?_set_ne (Ne.symm h)]

/-- Fields beside memory that an instruction of a core may change (R402, R414, R419). -/
def coreFields : List Fld := [.DSP_CORE_EVT, .DSP_CORE_ECC_COR, .DSP_CORE_MBOX_OUT] ++ reportFields

/-- Of the cores only core `n` differs, of the rest of the machine only memory and what instructions may change. -/
def OnCore (n : Nat) (s t : State) : Prop :=
  t.dsp.length = s.dsp.length ∧ (∀ k, k ≠ n → t.core k = s.core k) ∧ Touches coreFields { s with dsp := t.dsp, mem := t.mem } t

namespace OnCore

theorem of_touches (h : Touches coreFields s t) : OnCore n s t := by
  have hdsp : t.dsp = s.dsp := by rw [h.1]
  have hmem : t.mem = s.mem := by rw [h.1]
  refine ⟨congrArg List.length hdsp, fun k _ => by rw [State.core, State.core, hdsp], ?_⟩
  rw [hdsp, hmem]
  exact h

theorem trans (h : OnCore n s t) (k : OnCore n t u) : OnCore n s u := by
  obtain ⟨hlen, hcores, htouch⟩ := h
  obtain ⟨hlen', hcores', htouch'⟩ := k
  refine ⟨hlen'.trans hlen, fun j hj => (hcores' j hj).trans (hcores j hj), ?_⟩
  have hbefore : Touches coreFields { s with dsp := u.dsp, mem := u.mem } { t with dsp := u.dsp, mem := u.mem } := by
    refine ⟨?_, htouch.2⟩
    rw [htouch.1]
  exact hbefore.trans htouch'

theorem putCore (c : DspCore) (s : State) : OnCore n s (putCore n c s) :=
  ⟨List.length_set .., fun _ hk => core_putCore_other hk c s, Touches.refl _ _⟩

theorem memPut (a k v : Nat) (s : State) : OnCore n s (s.memPut a k v) := ⟨rfl, fun _ _ => rfl, Touches.refl _ _⟩

end OnCore

/-! ### Words that an instruction reads -/

theorem dspCause_touchesAt (n bit cls : Nat) (s : State) : TouchesAt n [.DSP_CORE_EVT] reportFields s (dspCause n bit cls s) := by
  have hset (mask : Nat) : TouchesAt n [.DSP_CORE_EVT] reportFields s (s.put .DSP_CORE_EVT n mask) := (TouchesAt.refl ..).put
  unfold dspCause setCauses onlyIf
  exact TouchesAt.ite ((hset _).thenTouches (assertEv_report ..)) (hset _)

/-- The state in which an instruction goes on when a word has been read that is not lost: a correction is counted (R419). -/
def afterRead (n : Nat) (e : EccOutcome) (s : State) : State := if e = .corrected then dspCorrected n s else s

theorem dspRead_usable {e : EccOutcome} (h : e ≠ .uncorrectable) (k : State → State) : dspRead n e k s = k (afterRead n e s) := by
  cases e with
  | clean => rfl
  | corrected => rfl
  | uncorrectable => exact absurd rfl h

theorem afterRead_touchesAt (n : Nat) (e : EccOutcome) (s : State) :
    TouchesAt n [.DSP_CORE_EVT, .DSP_CORE_ECC_COR] reportFields s (afterRead n e s) := by
  unfold afterRead dspCorrected
  exact TouchesAt.ite ((TouchesAt.refl ..).bump.thenAt (dspCause_touchesAt ..)) (TouchesAt.refl ..)

/-- The row of the instruction at the PC reads its word and has its effect (R402, R419). -/
theorem dspRow_at {form : Nat} (h : DspAt form opc n w e s) (eff : Nat → State → State) :
    onlyIf (s.dspRuns n) (dspRow form opc n e eff) s = eff w (afterRead n e.prog s) := by
  obtain ⟨hruns, -, hpc, hw, hform, hopc, hlegal, hread, -⟩ := h
  have hhere : ((s.core n).pc ≤ 0x1FFF && dwForm w == form && dwOpc w == opc) = true := by simp [hpc, hform, hopc]
  rw [hruns, onlyIf_true, dspRow]
  simp only [hw, hhere, if_true, hlegal]
  exact dspRead_usable hread _

/-- Fields that reads of a core may change (R419). -/
def readFields : List Fld := [.DSP_CORE_EVT, .DSP_CORE_ECC_COR] ++ reportFields

/-- The state in which an instruction goes on when no data word that it reads is lost. -/
def afterReads (n : Nat) (e : DspEcc) (rx ry : Bool) (s : State) : State :=
  afterRead n (if ry then e.y else .clean) (afterRead n (if rx then e.x else .clean) s)

/-- A word that is not read is no word lost. -/
theorem usable_of_read {e : EccOutcome} (h : e ≠ .uncorrectable) (b : Bool) : (if b then e else .clean) ≠ .uncorrectable := by
  cases b
  · exact nofun
  · exact h

theorem dspReadData_usable (hx : e.x ≠ .uncorrectable) (hy : e.y ≠ .uncorrectable) (rx ry : Bool) (k : State → State) (s : State) :
    dspReadData n e rx ry k s = k (afterReads n e rx ry s) :=
  (dspRead_usable (usable_of_read hx rx) _).trans (dspRead_usable (usable_of_read hy ry) k)

theorem afterReads_touches (n : Nat) (e : DspEcc) (rx ry : Bool) (s : State) : Touches readFields s (afterReads n e rx ry s) :=
  (afterRead_touchesAt n _ s).1.trans (afterRead_touchesAt n _ _).1

/-- A core's registers and its memories after reads that were corrected. -/
theorem Touches.core_eq {fs : List Fld} (h : Touches fs s t) (n : Nat) : t.core n = s.core n := by rw [State.core, h.1]; rfl
theorem Touches.mem_eq {fs : List Fld} (h : Touches fs s t) : t.mem = s.mem := by rw [h.1]

/-! ### Words that an instruction stores -/

theorem writeRingRd_onCore (n i v : Nat) (s : State) : OnCore n s (writeRingRd n i v s) := by
  unfold writeRingRd
  dsimp only
  split
  · exact .of_touches ((dspCause_touchesAt ..).1.mono (by decide))
  · exact .putCore _ s

/-- A stored X word goes to memory, to a ring pointer, to the outgoing mailbox or nowhere (R413, R414). -/
theorem writeX_cases (n a v : Nat) (s : State) :
    (a < 0x3FF0 ∧ writeX n a v s = s.memPut (dspWindow n + 0x10000 + 4 * a) 4 v)
      ∨ (∃ i, writeX n a v s = writeRingRd n i v s)
      ∨ writeX n a v s = dspCause n 5 0 (s.put .DSP_CORE_MBOX_OUT n v) ∨ writeX n a v s = s := by
  unfold writeX
  split
  case isTrue h => exact .inl ⟨h, rfl⟩
  case isFalse =>
    split
    · exact .inr (.inl ⟨0, rfl⟩)
    · split
      · exact .inr (.inl ⟨1, rfl⟩)
      · split
        · exact .inr (.inr (.inl rfl))
        · exact .inr (.inr (.inr rfl))

theorem writeX_onCore (n a v : Nat) (s : State) : OnCore n s (writeX n a v s) := by
  obtain ⟨-, h⟩ | ⟨i, h⟩ | h | h := writeX_cases n a v s <;> rw [h]
  · exact .memPut ..
  · exact writeRingRd_onCore ..
  · exact .of_touches (((Touches.refl _ s).put (by decide) ..).trans ((dspCause_touchesAt ..).1.mono (by decide)))
  · exact .of_touches (Touches.refl _ s)

theorem writeRingRd_core (h : n < s.dsp.length) (i v : Nat) : ∃ q, (writeRingRd n i v s).core n = { s.core n with qinRd := q } := by
  unfold writeRingRd
  dsimp only
  split
  · exact ⟨_, (dspCause_touchesAt ..).1.core_eq n⟩
  · exact ⟨_, core_putCore_self h _⟩

/-- A stored X word changes of the core's registers at most a ring pointer (R413, R414). -/
theorem writeX_core (h : n < s.dsp.length) (a v : Nat) : ∃ q, (writeX n a v s).core n = { s.core n with qinRd := q } := by
  obtain ⟨-, hx⟩ | ⟨i, hx⟩ | hx | hx := writeX_cases n a v s <;> rw [hx]
  · exact ⟨_, rfl⟩
  · exact writeRingRd_core h ..
  · exact ⟨_, (dspCause_touchesAt ..).1.core_eq n⟩
  · exact ⟨_, rfl⟩

theorem writeRingRd_mem (n i v : Nat) (s : State) : (writeRingRd n i v s).mem = s.mem := by
  unfold writeRingRd
  dsimp only
  split
  · exact (dspCause_touchesAt ..).1.mem_eq
  · rfl

theorem writeX_memory {a : Nat} (h : a < 0x3FF0) (v : Nat) (s : State) :
    writeX n a v s = s.memPut (dspWindow n + 0x10000 + 4 * a) 4 v := by
  unfold writeX
  rw [if_pos h]

theorem writeX_control {a : Nat} (h : ¬a < 0x3FF0) (v : Nat) (s : State) : (writeX n a v s).mem = s.mem := by
  obtain ⟨hsmall, -⟩ | ⟨i, hx⟩ | hx | hx := writeX_cases n a v s
  · exact absurd hsmall h
  · rw [hx, writeRingRd_mem]
  · rw [hx, (dspCause_touchesAt ..).1.mem_eq]
    rfl
  · rw [hx]

/-- A byte outside a stored word. -/
theorem read_memPut_other {a b : Nat} (h : b < a ∨ a + 4 ≤ b) (v : Nat) (s : State) :
    Memory.read b (s.memPut a 4 v).mem = Memory.read b s.mem := by
  unfold State.memPut
  rw [Memory.read_writeList, leBytes_length, if_neg (by omega)]

theorem not_mem_wordBytes {a b : Nat} (h : b ∉ (List.range 4).map (a + ·)) : b < a ∨ a + 4 ≤ b := by
  rw [List.mem_map] at h
  have hin : ¬(a ≤ b ∧ b < a + 4) := fun hin => h ⟨b - a, List.mem_range.mpr (by omega), by omega⟩
  omega

/-- The word that the X move of an instruction stores, with the registers as they stood before it (R389, R414). -/
def xStored (n w : Nat) (c : DspCore) (s : State) : State :=
  onlyIf ((xMove w).kind == 2) (writeX n (c.address (xMove w)).1 (c.storeWord (xMove w).reg).1) s

/-- The word that its Y move stores. -/
def yStored (n w : Nat) (c : DspCore) (s : State) : State :=
  onlyIf ((yMove w).kind == 2) (writeY n (c.address (yMove w)).1 (c.storeWord (yMove w).reg).1) s

theorem xStored_onCore (n w : Nat) (c : DspCore) (s : State) : OnCore n s (xStored n w c s) := by
  unfold xStored onlyIf
  split
  · exact writeX_onCore ..
  · exact .of_touches (Touches.refl _ s)

theorem xStored_core (h : n < s.dsp.length) (w : Nat) (c : DspCore) : ∃ q, (xStored n w c s).core n = { s.core n with qinRd := q } := by
  unfold xStored onlyIf
  split
  · exact writeX_core h ..
  · exact ⟨_, rfl⟩

theorem yStored_onCore (n w : Nat) (c : DspCore) (s : State) : OnCore n s (yStored n w c s) := by
  unfold yStored onlyIf
  split
  · exact .memPut ..
  · exact .of_touches (Touches.refl _ s)

theorem yStored_core (n w : Nat) (c : DspCore) (s : State) : (yStored n w c s).core n = s.core n := by
  unfold yStored onlyIf
  split <;> rfl

/-- The moves change no byte but those of the words that they store (R389, R414). -/
theorem moves_mem {a : Nat} {c : DspCore} (h : a ∉ dspStoredBytes n w c) (s : State) :
    Memory.read a (yStored n w c (xStored n w c s)).mem = Memory.read a s.mem := by
  unfold dspStoredBytes at h
  obtain ⟨hx, hy⟩ := not_or.mp (mt List.mem_append.mpr h)
  have hxmem : Memory.read a (xStored n w c s).mem = Memory.read a s.mem := by
    unfold xStored onlyIf
    split
    case isFalse => rfl
    case isTrue hkind =>
      by_cases hsmall : (c.address (xMove w)).1 < 0x3FF0
      · rw [if_pos ⟨beq_iff_eq.mp hkind, hsmall⟩] at hx
        rw [writeX_memory hsmall, read_memPut_other (not_mem_wordBytes hx)]
      · rw [writeX_control hsmall]
  rw [← hxmem]
  unfold yStored onlyIf
  split
  case isFalse => rfl
  case isTrue hkind =>
    rw [if_pos (beq_iff_eq.mp hkind)] at hy
    exact read_memPut_other (not_mem_wordBytes hy) ..

/-- A scaled store of the instruction saturates (R383, R389). -/
def movesSaturate (w : Nat) (c : DspCore) : Bool :=
  ((xMove w).kind == 2 && (c.storeWord (xMove w).reg).2) || ((yMove w).kind == 2 && (c.storeWord (yMove w).reg).2)

/-- The stores of an instruction with the core `c` before it. -/
abbrev movesStored (n w : Nat) (c : DspCore) (s : State) : State := dspStores n w (c.address (xMove w)).1 (c.address (yMove w)).1 c s

theorem movesStored_eq (n w : Nat) (c : DspCore) (s : State) :
    let t := yStored n w c (xStored n w c s)
    movesStored n w c s = putCore n ((t.core n).stickLs (movesSaturate w c)) t := rfl

theorem movesStored_onCore (n w : Nat) (c : DspCore) (s : State) : OnCore n s (movesStored n w c s) :=
  ((xStored_onCore ..).trans (yStored_onCore ..)).trans (.putCore ..)

theorem movesStored_core (h : n < s.dsp.length) (w : Nat) (c : DspCore) :
    ∃ q sat, (movesStored n w c s).core n = ({ s.core n with qinRd := q } : DspCore).stickLs sat := by
  have hlen : n < (yStored n w c (xStored n w c s)).dsp.length := by rwa [((xStored_onCore ..).trans (yStored_onCore ..)).1]
  obtain ⟨q, hq⟩ := xStored_core h w c
  rw [movesStored_eq, core_putCore_self hlen, yStored_core, hq]
  exact ⟨q, _, rfl⟩

theorem movesStored_mem {a : Nat} {c : DspCore} (h : a ∉ dspStoredBytes n w c) (s : State) :
    Memory.read a (movesStored n w c s).mem = Memory.read a s.mem := moves_mem h s

/-! ### A whole instruction of the parallel form -/

/-- An instruction that ends, when it has computed and stored (R397 to R400). -/
theorem retired_of_computes {r : DspCore} (hn : n < s.dsp.length) (hon : OnCore n s u) (hcomputes : Computes (s.core n) r) :
    let t := putCore n r.retire u
    t.core n = r.retire ∧ DspAdvanced (s.core n) (t.core n) ∧ (t.core n).lstart = (s.core n).lstart
      ∧ (t.core n).lend = (s.core n).lend ∧ DspTouches n s t := by
  obtain ⟨hlen, hcores, htouch⟩ := hon.trans (.putCore r.retire u)
  have hend : (putCore n r.retire u).core n = r.retire := core_putCore_self (by rwa [hon.1]) _
  obtain ⟨hstart, hlast, hm, hl, hstack, hdepth, hpending, hheld, hwr⟩ := hcomputes.retire_kept
  unfold DspTouches
  dsimp only
  rw [hend]
  exact ⟨rfl, hcomputes.retire_advanced, hstart, hlast, hm, hl, hstack, hdepth, hpending, hheld, hwr, hcores, htouch⟩

/-- Core `n` when an operation has written and the move fields have stepped their address registers and brought their loads. -/
def dspOperated (op : Nat → Nat → DspCore → DspCore → DspCore) (n w : Nat) (s : State) : DspCore :=
  { (op (s.get .DSP_CORE_CTRL_MODE n) w (s.core n) (s.core n).land).stepAddresses w (s.core n) with
    loads := dspLoads n w ((s.core n).address (xMove w)).1 ((s.core n).address (yMove w)).1 s }

/-- What has been computed, and the results that stand, when the stores of an instruction are done. -/
theorem movesStored_operated {op : Nat → Nat → DspCore → DspCore → DspCore} {r : DspCore} (hn : n < s.dsp.length)
    (hop : Computes (s.core n) r) (hr : op (s.get .DSP_CORE_CTRL_MODE n) w (s.core n) (s.core n).land = r) :
    let t := movesStored n w (s.core n) (putCore n (dspOperated op n w s) s)
    Computes (s.core n) (t.core n) ∧ Carries r (t.core n) := by
  obtain ⟨q, sat, hcore⟩ := movesStored_core (s := putCore n (dspOperated op n w s) s) (by rwa [(OnCore.putCore ..).1]) w (s.core n)
  dsimp only
  rw [hcore, core_putCore_self hn, dspOperated, hr]
  exact ⟨(((hop.stepAddresses ..).loads _).qinRd q).stickLs sat, (((Carries.stepAddresses ..).loads _).qinRd q).stickLs sat⟩

/-- An instruction of the parallel form reads, operates, stores and retires. -/
theorem parallelRow_eq {op : Nat → Nat → DspCore → DspCore → DspCore} (h : DspAt 0 opc n w e s) :
    ∃ u, Touches readFields s u ∧
      let t := movesStored n w (s.core n) (putCore n (dspOperated op n w u) u)
      onlyIf (s.dspRuns n) (dspParallelRow opc op n e) s = putCore n (t.core n).retire t := by
  have hprog := (afterRead_touchesAt n e.prog s).1
  have hdata := afterReads_touches n e ((xMove w).kind == 1 && decide (((s.core n).address (xMove w)).1 < 0x3FF0)) ((yMove w).kind == 1)
    (afterRead n e.prog s)
  refine ⟨_, hprog.trans hdata, ?_⟩
  have hrow := dspRow_at h (dspParallel op n e)
  obtain ⟨-, -, -, -, -, -, -, -, hx, hy⟩ := h
  refine hrow.trans ?_
  unfold dspParallel dspOperated
  simp only [hprog.core_eq n, dspReadData_usable hx hy, hdata.core_eq n]

/-- What an instruction of the parallel form does, in terms of what its operation leaves of the core that it found (R387 to R394): it
changes nothing but what `DspRan` names, and the operation's results stand. -/
theorem parallelRow_ran {op : Nat → Nat → DspCore → DspCore → DspCore} (h : DspAt 0 opc n w e s)
    (hop : Computes (s.core n) (op (s.get .DSP_CORE_CTRL_MODE n) w (s.core n) (s.core n).land)) :
    let t := onlyIf (s.dspRuns n) (dspParallelRow opc op n e) s
    Carries (op (s.get .DSP_CORE_CTRL_MODE n) w (s.core n) (s.core n).land) (t.core n) ∧ DspRan n w s t := by
  obtain ⟨u, hread, ht⟩ := parallelRow_eq (op := op) h
  obtain ⟨-, hn, -⟩ := h
  have hcore : u.core n = s.core n := hread.core_eq n
  have hmode : u.get .DSP_CORE_CTRL_MODE n = s.get .DSP_CORE_CTRL_MODE n := hread.get (by decide) n
  obtain ⟨hcomputes, hcarries⟩ := movesStored_operated (op := op) (s := u) (by rwa [hread.1]) (hcore ▸ hop) (by rw [hmode, hcore])
  rw [hcore] at hcomputes hcarries
  have hon : OnCore n s (movesStored n w (s.core n) (putCore n (dspOperated op n w u) u)) :=
    ((OnCore.of_touches (hread.mono (by decide))).trans (.putCore ..)).trans (movesStored_onCore ..)
  obtain ⟨hend, hadvanced, hstart, hlast, htouch⟩ := retired_of_computes hn hon hcomputes
  rw [ht]
  refine ⟨by rw [hend]; exact hcarries.retire, hadvanced, hstart, hlast, htouch, fun a ha => ?_⟩
  exact (movesStored_mem ha _).trans (congrArg (Memory.read a) hread.mem_eq)

end Sys2Proof.Machine
end

section
/-!
PROOFS. The multiply-accumulate and accumulator groups of the DSP cores (R382, R383, R391 to R393).
-/
namespace Sys2Proof.Machine

variable {n w opc : Nat} {e : DspEcc} {c d r : DspCore} {s t u : State}

/-! ### Accumulators -/

theorem DspCore.stickLs_acc (c : DspCore) (b : Bool) (a : Nat) : (c.stickLs b).acc a = c.acc a := by rw [c.stickLs_eq]; rfl

theorem DspCore.putAcc_acc (c : DspCore) (a : Nat) (v : Int) : (c.putAcc a v).acc a = v := by
  unfold putAcc acc
  by_cases ha : a = 0
  · simp only [if_pos ha]
  · simp only [if_neg ha]

theorem DspCore.putAcc_acc_other (c : DspCore) (a : Nat) (v : Int) : (c.putAcc a v).acc (1 - a) = c.acc (1 - a) := by
  unfold putAcc acc
  by_cases ha : a = 0
  · simp [ha]
  · simp [if_neg ha, show 1 - a = 0 by omega]

/-- An accumulator is no D register, and holds no flag. -/
theorem DspCore.putAcc_rest (c : DspCore) (a : Nat) (v : Int) : (c.putAcc a v).d = c.d ∧ ∀ b, (c.putAcc a v).srBit b = c.srBit b := by
  unfold putAcc
  split <;> exact ⟨rfl, fun _ => rfl⟩

/-- A result in an accumulator changes beside it SR alone (R382). -/
theorem DspCore.setAcc_eq (c : DspCore) (a : Nat) (x : Int) :
    c.setAcc a x = { c.putAcc a (clampInt accMin accMax x) with sr := (c.setAcc a x).sr } := stickLs_eq ..

theorem DspCore.setAcc_loads (c : DspCore) (a : Nat) (x : Int) : (c.setAcc a x).loads = c.loads := by
  rw [setAcc_eq]
  unfold putAcc
  split <;> rfl

theorem DspCore.setAcc_of_fits {x : Int} (h : clampInt accMin accMax x = x) (c : DspCore) (a : Nat) : c.setAcc a x = c.putAcc a x := by
  unfold setAcc
  simp only [h, bne_self_eq_false]
  rfl

theorem clampInt_of_le {lo hi x : Int} (hlo : lo ≤ x) (hhi : x ≤ hi) : clampInt lo hi x = x := by
  unfold clampInt
  rw [if_neg (by omega), if_neg (by omega)]

/-- An accumulator result, of a core whose loads have landed (R382). -/
theorem setAcc_accIs (c : DspCore) (a : Nat) (x : Int) : DspAccIs c (c.land.setAcc a x) a x := by
  unfold DspCore.setAcc
  dsimp only
  obtain ⟨hd, hbits⟩ := c.land.putAcc_rest a (clampInt accMin accMax x)
  have hflag (b : Nat) (hb : b ≠ 4) :
      ((c.land.putAcc a (clampInt accMin accMax x)).stickLs (x != clampInt accMin accMax x)).srBit b = c.srBit b := by
    rw [DspCore.srBit_stickLs_other hb, hbits, c.land_srBit]
  refine ⟨?_, fun hne => DspCore.srBit_stickLs _ (.inl (bne_iff_ne.mpr hne)), ?_, ?_, hflag 1 (by decide),
    hflag 2 (by decide), hflag 3 (by decide)⟩
  · rw [DspCore.stickLs_acc, DspCore.putAcc_acc]
  · rw [DspCore.stickLs_acc, DspCore.putAcc_acc_other, c.land_acc]
  · rw [DspCore.stickLs_eq]
    exact hd

theorem Carries.accIs {a : Nat} {x : Int} (h : Carries r d) (k : DspAccIs c r a x) : DspAccIs c d a x := by
  obtain ⟨hacc, hls, hother, hd, hz, hn, hv⟩ := k
  exact ⟨(h.acc a).trans hacc, h.ls ∘ hls, (h.acc _).trans hother, h.data.trans hd, (h.flags 1 (by decide)).trans hz,
    (h.flags 2 (by decide)).trans hn, (h.flags 3 (by decide)).trans hv⟩

/-! ### Instructions by what their operation writes -/

section
variable {i : Instr} {op : Nat → Nat → DspCore → DspCore → DspCore}
  (hi : exec i s = .next (onlyIf (s.dspRuns n) (dspParallelRow opc op n e) s)) (h : DspAt 0 opc n w e s)
include hi h

/-- An instruction of the parallel form, by what its operation leaves of the core whose loads have landed. -/
theorem exec_parallel (hr : op (s.get .DSP_CORE_CTRL_MODE n) w (s.core n) (s.core n).land = r) (hop : Computes (s.core n) r) :
    ∃ t, exec i s = .next t ∧ Carries r (t.core n) ∧ DspRan n w s t := by
  subst hr
  exact ⟨_, hi, parallelRow_ran h hop⟩

/-- An operation whose result goes to an accumulator (R382, R391, R393). -/
theorem exec_setAcc {a : Nat} {x : Int}
    (hr : op (s.get .DSP_CORE_CTRL_MODE n) w (s.core n) (s.core n).land = (s.core n).land.setAcc a x) :
    ∃ t, exec i s = .next t ∧ DspAccIs (s.core n) (t.core n) a x ∧ DspRan n w s t := by
  obtain ⟨t, hexec, hcarries, hran⟩ := exec_parallel hi h hr ((Computes.land _).setAcc ..)
  exact ⟨t, hexec, hcarries.accIs (setAcc_accIs ..), hran⟩

/-- An operation that puts a value that fits into an accumulator (R393). -/
theorem exec_putAcc {a : Nat} {v : Int}
    (hr : op (s.get .DSP_CORE_CTRL_MODE n) w (s.core n) (s.core n).land = (s.core n).land.putAcc a v) :
    ∃ t, exec i s = .next t ∧ (t.core n).acc a = v ∧ (t.core n).acc (1 - a) = (s.core n).acc (1 - a)
      ∧ (t.core n).d = (s.core n).land.d ∧ DspRan n w s t := by
  obtain ⟨t, hexec, hcarries, hran⟩ := exec_parallel hi h hr ((Computes.land _).putAcc ..)
  refine ⟨t, hexec, ?_, ?_, hcarries.data.trans (DspCore.putAcc_rest ..).1, hran⟩
  · rw [hcarries.acc, DspCore.putAcc_acc]
  · rw [hcarries.acc, DspCore.putAcc_acc_other, DspCore.land_acc]

/-- An operation whose complex result goes to both accumulators (R391). -/
theorem exec_setBoth {x y : Int}
    (hr : op (s.get .DSP_CORE_CTRL_MODE n) w (s.core n) (s.core n).land = ((s.core n).land.setAcc 0 x).setAcc 1 y) :
    ∃ t, exec i s = .next t ∧ (t.core n).acc0 = clampInt accMin accMax x ∧ (t.core n).acc1 = clampInt accMin accMax y
      ∧ (t.core n).d = (s.core n).land.d ∧ DspRan n w s t := by
  obtain ⟨t, hexec, hcarries, hran⟩ := exec_parallel hi h hr (((Computes.land _).setAcc ..).setAcc ..)
  refine ⟨t, hexec, hcarries.acc0.trans ?_, hcarries.acc1.trans ?_, hcarries.data.trans ?_, hran⟩ <;>
    rw [DspCore.setAcc_eq, DspCore.setAcc_eq] <;> rfl

/-- An operation whose result goes to a D register, and sets no flag but LS (R393). -/
theorem exec_putD {k v : Nat} {sat : Bool}
    (hr : op (s.get .DSP_CORE_CTRL_MODE n) w (s.core n) (s.core n).land = ((s.core n).land.putD k v).stickLs sat) :
    ∃ t, exec i s = .next t ∧ (t.core n).d = (s.core n).land.d.set k (v % 2 ^ 32) ∧ (sat = true → (t.core n).srBit 4 = true)
      ∧ (t.core n).acc0 = (s.core n).acc0 ∧ (t.core n).acc1 = (s.core n).acc1 ∧ DspRan n w s t := by
  obtain ⟨t, hexec, hcarries, hran⟩ := exec_parallel hi h hr (((Computes.land _).putD ..).stickLs _)
  refine ⟨t, hexec, hcarries.data.trans ?_, fun hsat => hcarries.ls (DspCore.srBit_stickLs _ (.inl hsat)), hcarries.acc0.trans ?_,
    hcarries.acc1.trans ?_, hran⟩ <;> rw [DspCore.stickLs_eq]
  · rfl
  · exact (s.core n).land_acc0
  · exact (s.core n).land_acc1

end

/-! ### Numbers -/

section
variable (c : DspCore) (w : Nat)

/-- The parts of the complex products, as sums of products (R391). -/
theorem dspReal_minus : dspReal c w (-1)
    = (c.dInt (dwS w) * c.dInt (dwT w) - c.dInt (dwS w + 1) * c.dInt (dwT w + 1)) * 256 := by
  unfold dspReal dspProduct
  grind

theorem dspReal_plus : dspReal c w 1 = (c.dInt (dwS w) * c.dInt (dwT w) + c.dInt (dwS w + 1) * c.dInt (dwT w + 1)) * 256 := by
  unfold dspReal dspProduct
  grind

theorem dspImag_eq : dspImag c w = (c.dInt (dwS w) * c.dInt (dwT w + 1) + c.dInt (dwS w + 1) * c.dInt (dwT w)) * 256 := by
  unfold dspImag dspProduct
  grind

theorem dspImagConj_eq : dspImagConj c w = (c.dInt (dwS w + 1) * c.dInt (dwT w) - c.dInt (dwS w) * c.dInt (dwT w + 1)) * 256 := by
  unfold dspImagConj dspProduct
  grind

end

theorem ofSigned_lt (k : Nat) (x : Int) : ofSigned k x < 2 ^ k := by
  unfold ofSigned
  have hpos : 0 < ((2 ^ k : Nat) : Int) := Int.natCast_pos.mpr (Nat.two_pow_pos k)
  have := Int.emod_lt_of_pos x hpos
  have := Int.emod_nonneg x (Int.ne_of_gt hpos)
  omega

/-- A D register holds a signed 32-bit number (R383). -/
theorem dInt_mem (c : DspCore) (i : Nat) : -(2 ^ 31) ≤ c.dInt i ∧ c.dInt i < 2 ^ 31 := by
  unfold DspCore.dInt toSigned
  have := Nat.mod_lt (c.dReg i) (Nat.two_pow_pos 32)
  split <;> omega

/-- A shift by NORM (R393). -/
theorem normShift_left {x : Int} (h : 0 ≤ x) (v : Int) : normShift v x = toSigned 80 (ofSigned 80 (v * 2 ^ (min 80 x).toNat)) := by
  have hx : clampInt (-80) 80 x = min 80 x := by
    unfold clampInt
    omega
  unfold normShift
  rw [hx]
  exact if_pos (by omega)

theorem normShift_right {x : Int} (h : x < 0) (v : Int) : normShift v x = v / 2 ^ (min 80 (-x)).toNat := by
  have hx : clampInt (-80) 80 x = -min 80 (-x) := by
    unfold clampInt
    omega
  unfold normShift
  simp only [hx, Int.neg_neg]
  exact if_neg (by omega)

/-- A number fits in `k + 1` bits when its magnitude, the one's complement of a negative number, fits in `k`. -/
theorem fits_iff (x : Int) (k : Nat) : (-(2 ^ k) ≤ x ∧ x < 2 ^ k) ↔ (if x < 0 then -x - 1 else x).toNat < 2 ^ k := by
  have hpow : ((2 ^ k : Nat) : Int) = 2 ^ k := by push_cast; rfl
  rw [← hpow]
  generalize 2 ^ k = p
  split <;> omega

/-- Binary digits of a number, as `signRun` counts them. -/
def bitLength (m : Nat) : Nat := if m = 0 then 0 else Nat.log2 m + 1

theorem bitLength_le {m k : Nat} : bitLength m ≤ k ↔ m < 2 ^ k := by
  unfold bitLength
  split
  case isTrue h => exact ⟨fun _ => h ▸ Nat.two_pow_pos k, fun _ => Nat.zero_le k⟩
  case isFalse h => exact Nat.log2_lt h

theorem signRun_eq {k : Nat} {x : Int} (h : (if x < 0 then -x - 1 else x).toNat < 2 ^ k) :
    signRun (k + 1) x = k - bitLength (if x < 0 then -x - 1 else x).toNat := by
  have hnonneg : 0 ≤ (if x < 0 then -x - 1 else x) := by split <;> omega
  have hlt : (if x < 0 then -x - 1 else x) < ((2 ^ (k + 1) : Nat) : Int) := by
    rw [Nat.pow_succ]
    omega
  unfold signRun ofSigned
  dsimp only
  rw [Int.emod_eq_of_lt hnonneg hlt, Nat.add_sub_cancel, bitLength]

/-- The redundant sign bits of a number: it fits without them, and not without one more (R393). -/
theorem signRun_exact {k : Nat} {x : Int} (h : -(2 ^ k) ≤ x ∧ x < 2 ^ k) :
    let r := signRun (k + 1) x
    r ≤ k ∧ -(2 ^ (k - r)) ≤ x ∧ x < 2 ^ (k - r) ∧ (r < k → ¬(-(2 ^ (k - 1 - r)) ≤ x ∧ x < 2 ^ (k - 1 - r))) := by
  have hfits := (fits_iff x k).mp h
  have hsize := bitLength_le.mpr hfits
  have hwithin := (fits_iff x _).mpr (bitLength_le.mp (Nat.le_refl (bitLength (if x < 0 then -x - 1 else x).toNat)))
  dsimp only
  rw [signRun_eq hfits]
  generalize hm : (if x < 0 then -x - 1 else x).toNat = m at *
  rw [show k - (k - bitLength m) = bitLength m by omega]
  refine ⟨Nat.sub_le .., hwithin.1, hwithin.2, fun hless => ?_⟩
  rw [fits_iff, hm, ← bitLength_le]
  omega

/-! ### FIRTAP -/

/-- A word just stored (R12). -/
theorem leNat_leBytes (k v : Nat) : leNat (leBytes k v) = v % 256 ^ k := by
  induction k generalizing v with
  | zero => exact (Nat.mod_one v).symm
  | succ k ih =>
    rw [leBytes, leNat, ih, BitVec.toNat_ofNat, show 256 ^ (k + 1) = 256 * 256 ^ k from Nat.pow_succ', Nat.mod_mul]

theorem memWord_memPut (a v : Nat) (s : State) : (s.memPut a 4 v).memWord a = v % 2 ^ 32 := by
  have hbytes : Memory.readList (s.memPut a 4 v).mem a 4 = leBytes 4 v := by
    rw [Memory.readList_eq_map]
    refine List.ext_getElem (by simp [leBytes_length]) (fun i _ hi => ?_)
    rw [List.getElem_map, List.getElem_range, State.memPut, Memory.read_writeList, if_pos (by omega), Nat.add_sub_cancel_left,
      List.getD_eq_getElem?_getD, List.getElem?_eq_getElem hi, Option.getD_some]
  unfold State.memWord
  rw [hbytes]
  exact leNat_leBytes 4 v

/-- Corrections that are counted change no word that a core reads (R414, R419). -/
theorem Touches.controlWord_eq (h : Touches readFields s u) (n a : Nat) : u.controlWord n a = s.controlWord n a := by
  have hblock : u.blockLen n = s.blockLen n := by
    unfold State.blockLen
    rw [h.get (by decide)]
  have hin := h.get (f := .DSP_CORE_MBOX_IN) (by decide) n
  have hout := h.get (f := .DSP_CORE_MBOX_OUT) (by decide) n
  unfold State.controlWord
  simp only [h.core_eq, hblock, hin, hout]

theorem Touches.readX_eq (h : Touches readFields s u) (n a : Nat) : u.readX n a = s.readX n a := by
  unfold State.readX State.memWord
  rw [h.controlWord_eq, h.mem_eq]

theorem Touches.readY_eq (h : Touches readFields s u) (n a : Nat) : u.readY n a = s.readY n a := by
  unfold State.readY State.memWord
  rw [h.mem_eq]

/-- Core `n` when FIRTAP has accumulated and stepped its address registers (R391, R392). -/
def firtapAccumulated (n w : Nat) (s : State) : DspCore :=
  let c := s.core n
  (c.land.setAcc (dwA w) (c.acc (dwA w) + toSigned 32 (s.readX n (c.address (xMove w)).1) * toSigned 32 (s.readY n (c.address (yMove w)).1) * 256)
    ).stepAddresses w c

theorem firtapAccumulated_computes (n w : Nat) (s : State) :
    let c := s.core n
    let x := toSigned 32 (s.readX n (c.address (xMove w)).1) * toSigned 32 (s.readY n (c.address (yMove w)).1) * 256
    Computes c (firtapAccumulated n w s) ∧ Carries (c.land.setAcc (dwA w) (c.acc (dwA w) + x)) (firtapAccumulated n w s)
      ∧ (firtapAccumulated n w s).loads = [] := by
  refine ⟨((Computes.land _).setAcc ..).stepAddresses .., .stepAddresses .., ?_⟩
  unfold firtapAccumulated
  dsimp only
  rw [DspCore.stepAddresses_eq, DspCore.setAcc_loads, DspCore.land_loads]

/-- FIRTAP reads, accumulates, moves the X word one place up, and retires (R391, R392). -/
theorem firtapRow_eq (h : DspAt 0 0x07 n w e s) :
    let p := ((s.core n).address (xMove w)).1
    ∃ u, Touches readFields s u ∧
      let t := writeX n (addrStep p 1 ((s.core n).l.getD (xMove w).an 0)) (s.readX n p) (putCore n (firtapAccumulated n w s) u)
      onlyIf (s.dspRuns n) (dspRow 0 0x07 n e (dspFirtap n e)) s = putCore n (t.core n).retire t := by
  have hprog := (afterRead_touchesAt n e.prog s).1
  have hdata := afterReads_touches n e (decide (((s.core n).address (xMove w)).1 < 0x3FF0)) true (afterRead n e.prog s)
  have hread := hprog.trans hdata
  refine ⟨_, hread, (dspRow_at h (dspFirtap n e)).trans ?_⟩
  obtain ⟨-, -, -, -, -, -, -, -, hx, hy⟩ := h
  unfold dspFirtap firtapAccumulated
  simp only [hprog.core_eq n, dspReadData_usable hx hy, hread.readX_eq, hread.readY_eq]
  rfl

/-- What FIRTAP does (R391, R392): the accumulator takes the product, the word read by the X move goes to the place above it, and the
core ends the instruction with no load on its way. -/
theorem exec_firtap_at (h : DspAt 0 0x07 n w e s) :
    let c := s.core n
    let p := (c.address (xMove w)).1
    let q := (c.address (yMove w)).1
    let up := addrStep p 1 (c.l.getD (xMove w).an 0)
    ∃ t, exec (.firtap n e) s = .next t
      ∧ DspAccIs c (t.core n) (dwA w) (c.acc (dwA w) + toSigned 32 (s.readX n p) * toSigned 32 (s.readY n q) * 256)
      ∧ (up < 0x3FF0 → t.memWord (dspWindow n + 0x10000 + 4 * up) = s.readX n p % 2 ^ 32
        ∧ ∀ b, (b < dspWindow n + 0x10000 + 4 * up ∨ dspWindow n + 0x10000 + 4 * up + 4 ≤ b) → Memory.read b t.mem = Memory.read b s.mem)
      ∧ DspAdvanced c (t.core n) ∧ (t.core n).loads = [] ∧ DspTouches n s t := by
  obtain ⟨u, hread, ht⟩ := firtapRow_eq h
  obtain ⟨-, hn, -⟩ := h
  dsimp only at ht ⊢
  obtain ⟨hcomputes, hcarries, hloads⟩ := firtapAccumulated_computes n w s
  generalize firtapAccumulated n w s = r at *
  generalize addrStep ((s.core n).address (xMove w)).1 1 ((s.core n).l.getD (xMove w).an 0) = up at *
  generalize s.readX n ((s.core n).address (xMove w)).1 = x at *
  have hlen : n < u.dsp.length := by rwa [hread.1]
  have hon : OnCore n s (writeX n up x (putCore n r u)) :=
    ((OnCore.of_touches (hread.mono (by decide))).trans (.putCore ..)).trans (writeX_onCore ..)
  obtain ⟨q, hcore⟩ := writeX_core (s := putCore n r u) (by rwa [(OnCore.putCore ..).1]) up x
  rw [core_putCore_self hlen] at hcore
  obtain ⟨hend, hadvanced, -, -, htouch⟩ := retired_of_computes hn hon (hcore ▸ hcomputes.qinRd q)
  refine ⟨_, (exec_firtap n e s).trans (congrArg Host.Outcome.next ht), ?_, fun hsmall => ?_, hadvanced, ?_, htouch⟩
  · rw [hend, hcore]
    exact (hcarries.qinRd q).retire.accIs (setAcc_accIs ..)
  · rw [State.memWord, State.putCore_mem, writeX_memory hsmall]
    exact ⟨memWord_memPut .., fun b hb => (read_memPut_other hb ..).trans (congrArg (Memory.read b) hread.mem_eq)⟩
  · rw [hend, hcore, (DspCore.retire_eq _).1]
    exact hloads

/-- Settles O48: each instruction by what its operation writes, the moves beside it and its end being the same for all. -/
theorem dspAccumulatesExactly : Obligations.DspAccumulatesExactly := by
  unfold Obligations.DspAccumulatesExactly
  intro n w e s
  dsimp only
  refine ⟨fun h => exec_setAcc (exec_mpy n e s) h rfl, fun h => exec_setAcc (exec_mac n e s) h rfl,
    fun h => exec_setAcc (exec_msu n e s) h rfl, fun h => ?_, fun h => ?_, fun h => ?_, exec_firtap_at,
    fun h => ?_, fun h => ?_, fun h => ?_, fun h => exec_setAcc (exec_adda n e s) h rfl, fun h => exec_setAcc (exec_suba n e s) h rfl,
    fun h => ?_, fun h hmin hmax => ?_, fun h => ?_⟩
  · -- CMPY
    refine exec_setBoth (exec_cmpy n e s) h ?_
    rw [opCmpy, dspReal_minus, dspImag_eq]
  · -- CMAC
    refine exec_setBoth (exec_cmac n e s) h ?_
    rw [opCmac, dspReal_minus, dspImag_eq]
  · -- CMACJ
    refine exec_setBoth (exec_cmacj n e s) h ?_
    rw [opCmacj, dspReal_plus, dspImagConj_eq]
  · -- CLR
    exact exec_setAcc (exec_clr n e s) h (DspCore.setAcc_of_fits (by decide) ..).symm
  · -- MOVD
    obtain ⟨hlo, hhi⟩ := dInt_mem (s.core n) (dwS w)
    refine exec_setAcc (exec_movd n e s) h (DspCore.setAcc_of_fits (clampInt_of_le ?_ ?_) ..).symm
    · unfold accMin; omega
    · unfold accMax; omega
  · -- MOVA
    obtain ⟨t, hexec, hd, hls, hacc0, hacc1, hran⟩ := exec_putD (exec_mova n e s) h rfl
    refine ⟨t, hexec, hd.trans ?_, fun hne => hls (bne_iff_ne.mpr hne.symm), hacc0, hacc1, hran⟩
    exact congrArg _ (Nat.mod_eq_of_lt (ofSigned_lt ..))
  · -- NORM
    obtain ⟨t, hexec, hacc, hother, hd, hran⟩ := exec_putAcc (exec_norm n e s) h rfl
    exact ⟨t, hexec, fun hx => hacc.trans (normShift_left hx _), fun hx => hacc.trans (normShift_right hx _), hother, hd, hran⟩
  · -- EXP
    obtain ⟨t, hexec, hd, -, hacc0, hacc1, hran⟩ := exec_putD (sat := false) (exec_exp n e s) h rfl
    obtain ⟨hr, hlo, hhi, htight⟩ := signRun_exact (k := 79) (x := (s.core n).acc (dwA w)) ⟨hmin, Int.lt_of_le_sub_one hmax⟩
    refine ⟨t, hexec, hd.trans ?_, hr, hlo, hhi, htight, hacc0, hacc1, hran⟩
    rw [Nat.mod_eq_of_lt (ofSigned_lt ..)]
  · -- EXPD
    obtain ⟨t, hexec, hd, -, hacc0, hacc1, hran⟩ := exec_putD (sat := false) (exec_expd n e s) h rfl
    obtain ⟨hr, hlo, hhi, htight⟩ := signRun_exact (k := 31) (dInt_mem (s.core n) (dwS w))
    refine ⟨t, hexec, hd.trans ?_, hr, hlo, hhi, htight, hacc0, hacc1, hran⟩
    rw [Nat.mod_eq_of_lt (Nat.lt_of_le_of_lt hr (by decide))]

end Sys2Proof.Machine
end

section
/-!
PROOFS. The data ALU group of the DSP cores and ADDI (R394, R395).
-/
namespace Sys2Proof.Machine

variable {n w opc : Nat} {e : DspEcc} {c d r : DspCore} {s : State}

/-! ### Results and flags -/

/-- The flags that a result leaves (R394). -/
theorem DspCore.setZnv_flags (c : DspCore) (v : Nat) (f : Bool) :
    (c.setZnv v f).srBit 1 = (v % 2 ^ 32 == 0) ∧ (c.setZnv v f).srBit 2 = (bitsAt v 31 1 == 1) ∧ (c.setZnv v f).srBit 3 = f := by
  unfold setZnv
  refine ⟨?_, ?_, srBit_putSr_self ..⟩
  · rw [srBit_putSr_other (by decide), srBit_putSr_other (by decide), srBit_putSr_self]
  · rw [srBit_putSr_other (by decide), srBit_putSr_self]

/-- A result and its flags, of a core whose loads have landed. -/
theorem plainResult_dataIs (c : DspCore) (i v : Nat) (f : Bool) : DspDataIs c ((c.land.putD i v).setZnv v f) (some i) v f := by
  obtain ⟨hz, hn, hv⟩ := (c.land.putD i v).setZnv_flags v f
  exact ⟨rfl, hz, hn, hv, c.land_acc0, c.land_acc1⟩

/-- The flags of a value that is written to no register. -/
theorem setZnv_dataIs (c : DspCore) (v : Nat) (f : Bool) : DspDataIs c (c.land.setZnv v f) none v f := by
  obtain ⟨hz, hn, hv⟩ := c.land.setZnv_flags v f
  exact ⟨rfl, hz, hn, hv, c.land_acc0, c.land_acc1⟩

theorem Carries.dataIs {dst : Option Nat} {v : Nat} {f : Bool} (h : Carries r d) (k : DspDataIs c r dst v f) : DspDataIs c d dst v f := by
  obtain ⟨hd, hz, hn, hv, hacc0, hacc1⟩ := k
  exact ⟨h.data.trans hd, (h.flags 1 (by decide)).trans hz, (h.flags 2 (by decide)).trans hn, (h.flags 3 (by decide)).trans hv,
    h.acc0.trans hacc0, h.acc1.trans hacc1⟩

/-! ### Instructions by what their operation writes -/

section
variable {i : Instr} {op : Nat → Nat → DspCore → DspCore → DspCore} {v : Nat} {f : Bool}
  (hi : exec i s = .next (onlyIf (s.dspRuns n) (dspParallelRow opc op n e) s)) (h : DspAt 0 opc n w e s)
include hi h

/-- An operation that writes a result to a D register and sets Z, N and V from it (R394). -/
theorem exec_result {k : Nat} (hr : op (s.get .DSP_CORE_CTRL_MODE n) w (s.core n) (s.core n).land = ((s.core n).land.putD k v).setZnv v f) :
    ∃ t, exec i s = .next t ∧ DspDataIs (s.core n) (t.core n) (some k) v f ∧ DspRan n w s t := by
  obtain ⟨t, hexec, hcarries, hran⟩ := exec_parallel hi h hr (((Computes.land _).putD ..).setZnv ..)
  exact ⟨t, hexec, hcarries.dataIs (plainResult_dataIs ..), hran⟩

/-- An operation that sets flags alone (R394). -/
theorem exec_flags (hr : op (s.get .DSP_CORE_CTRL_MODE n) w (s.core n) (s.core n).land = (s.core n).land.setZnv v f) :
    ∃ t, exec i s = .next t ∧ DspDataIs (s.core n) (t.core n) none v f ∧ DspRan n w s t := by
  obtain ⟨t, hexec, hcarries, hran⟩ := exec_parallel hi h hr ((Computes.land _).setZnv ..)
  exact ⟨t, hexec, hcarries.dataIs (setZnv_dataIs ..), hran⟩

/-- An operation whose result saturates: LS stands where it does (R394). -/
theorem exec_satResult {k : Nat} {x : Int}
    (hr : op (s.get .DSP_CORE_CTRL_MODE n) w (s.core n) (s.core n).land = (s.core n).land.satResult k x) :
    ∃ t, exec i s = .next t ∧ DspDataIs (s.core n) (t.core n) (some k) (ofSigned 32 (saturate32 x)) (overflows32 x)
      ∧ (overflows32 x = true → (t.core n).srBit 4 = true) ∧ DspRan n w s t := by
  obtain ⟨t, hexec, hcarries, hran⟩ := exec_parallel hi h hr ((((Computes.land _).putD ..).setZnv ..).stickLs _)
  refine ⟨t, hexec, hcarries.dataIs ?_, fun hsat => hcarries.ls (DspCore.srBit_stickLs _ (.inl hsat)), hran⟩
  exact ((Carries.refl _).stickLs _).dataIs (plainResult_dataIs ..)

end

/-! ### Numbers -/

/-- A magnitude or a negated number is out of range for the most negative number alone. -/
theorem saturate32_of_ge {x : Int} (h : -(2 ^ 31) ≤ x) (hx : x ≤ 2 ^ 31) : saturate32 x = if x = 2 ^ 31 then 2 ^ 31 - 1 else x := by
  unfold saturate32 clampInt
  omega

theorem overflows32_of_ge {x : Int} (h : -(2 ^ 31) ≤ x) (hx : x ≤ 2 ^ 31) : overflows32 x = (x == 2 ^ 31) := by
  unfold overflows32
  rw [Bool.eq_iff_iff]
  simp only [Bool.or_eq_true, decide_eq_true_eq, beq_iff_eq]
  omega

/-- The magnitude of a 32-bit number, limited to the signed range (R394). -/
theorem saturate32_abs {x : Int} (h : -(2 ^ 31) ≤ x) (hx : x < 2 ^ 31) :
    ofSigned 32 (saturate32 (if x < 0 then -x else x)) = if x = -(2 ^ 31) then 0x7FFFFFFF else x.natAbs := by
  rw [saturate32_of_ge (by omega) (by omega)]
  unfold ofSigned
  by_cases hmost : x = -(2 ^ 31)
  · rw [hmost]
    decide
  · rw [if_neg hmost]
    omega

theorem overflows32_abs {x : Int} (h : -(2 ^ 31) ≤ x) (hx : x < 2 ^ 31) : overflows32 (if x < 0 then -x else x) = (x == -(2 ^ 31)) := by
  rw [overflows32_of_ge (by omega) (by omega), Bool.eq_iff_iff, beq_iff_eq, beq_iff_eq]
  omega

/-- A 32-bit number negated, limited to the signed range (R394). -/
theorem saturate32_neg {x : Int} (h : -(2 ^ 31) ≤ x) (hx : x < 2 ^ 31) :
    ofSigned 32 (saturate32 (-x)) = if x = -(2 ^ 31) then 0x7FFFFFFF else ofSigned 32 (-x) := by
  rw [saturate32_of_ge (by omega) (by omega), apply_ite (ofSigned 32)]
  exact ite_congr (propext (by omega)) (fun _ => by decide) (fun _ => rfl)

theorem overflows32_neg {x : Int} (h : -(2 ^ 31) ≤ x) (hx : x < 2 ^ 31) : overflows32 (-x) = (x == -(2 ^ 31)) := by
  rw [overflows32_of_ge (by omega) (by omega), Bool.eq_iff_iff, beq_iff_eq, beq_iff_eq]
  omega

/-- What ADDI does (R395): the sum and its flags; no move stands beside it. -/
theorem exec_addi_at (h : DspAt 1 0x06 n w e s) :
    let c := s.core n
    let z := c.dInt (dwReg w) + toSigned 32 (dwImm w)
    ∃ t, exec (.addi n e) s = .next t ∧ DspDataIs c (t.core n) (some (dwReg w)) (ofSigned 32 z) (overflows32 z)
      ∧ DspAdvanced c (t.core n) ∧ (t.core n).a = c.a ∧ (t.core n).loads = [] ∧ t.mem = s.mem ∧ DspTouches n s t := by
  have hread := (afterRead_touchesAt n e.prog s).1
  have hrow := dspRow_at h (dspImmediate opAddi n)
  obtain ⟨-, hn, -⟩ := h
  unfold dspImmediate at hrow
  rw [hread.core_eq n] at hrow
  have hcomputes : Computes (s.core n) (opAddi w (s.core n) (s.core n).land) := ((Computes.land _).putD ..).setZnv ..
  obtain ⟨hend, hadvanced, -, -, htouch⟩ := retired_of_computes hn (.of_touches (hread.mono (by decide))) hcomputes
  refine ⟨_, (exec_addi n e s).trans (congrArg Host.Outcome.next hrow), ?_, hadvanced, ?_, ?_, hread.mem_eq, htouch⟩ <;> rw [hend]
  · exact (Carries.refl _).retire.dataIs (plainResult_dataIs ..)
  · exact (congrArg DspCore.a (DspCore.retire_eq _).1).trans (s.core n).land_a
  · exact (congrArg DspCore.loads (DspCore.retire_eq _).1).trans (s.core n).land_loads

/-- Settles O49: each instruction by what its operation writes, the moves beside it and its end being the same for all. -/
theorem dspComputesAndSetsFlags : Obligations.DspComputesAndSetsFlags := by
  unfold Obligations.DspComputesAndSetsFlags
  intro n w e s
  dsimp only
  obtain ⟨hlo, hhi⟩ := dInt_mem (s.core n) (dwS w)
  refine ⟨fun h => exec_result (exec_add n e s) h rfl, fun h => exec_result (exec_sub n e s) h rfl,
    fun h => exec_satResult (exec_adds n e s) h rfl, fun h => exec_satResult (exec_subs n e s) h rfl,
    fun h => exec_result (exec_and n e s) h rfl, fun h => exec_result (exec_or n e s) h rfl, fun h => exec_result (exec_xor n e s) h rfl,
    fun h => ?_, fun h => ?_, fun h => ?_, fun h => ?_, fun h => exec_result (exec_mov n e s) h rfl,
    fun h => exec_result (exec_asr n e s) h rfl, fun h => exec_result (exec_lsr n e s) h rfl, fun h => exec_result (exec_lsl n e s) h rfl,
    fun h => exec_flags (exec_cmp n e s) h rfl, fun h => exec_flags (exec_tst n e s) h rfl, exec_addi_at⟩
  · -- ABS
    obtain ⟨t, hexec, hdata, hls, hran⟩ := exec_satResult (exec_abs n e s) h rfl
    rw [saturate32_abs hlo hhi, overflows32_abs hlo hhi] at hdata
    rw [overflows32_abs hlo hhi] at hls
    exact ⟨t, hexec, hdata, hls ∘ beq_iff_eq.mpr, hran⟩
  · -- NEG
    obtain ⟨t, hexec, hdata, hls, hran⟩ := exec_satResult (exec_neg n e s) h rfl
    rw [saturate32_neg hlo hhi, overflows32_neg hlo hhi] at hdata
    rw [overflows32_neg hlo hhi] at hls
    exact ⟨t, hexec, hdata, hls ∘ beq_iff_eq.mpr, hran⟩
  · -- MAX
    rw [← Int.max_def]
    exact exec_result (exec_max n e s) h rfl
  · -- MIN
    rw [← Int.min_def]
    exact exec_result (exec_min n e s) h rfl

end Sys2Proof.Machine
end

section
/-!
PROOFS. The load that BLKEND measures: the statement of program control is refuted (R396, R409, DSP_CORE_LOAD).
-/
namespace Sys2Proof.Machine

/-- The word BLKEND: control form, OPC 9, every operand 0 (R387, R396). -/
def blkendWord : Nat := 2 * 2 ^ 62 + 9 * 2 ^ 56

/-- Core 0 has held block 4 for 100 cycles, no block is pending, and BLKEND stands at its PC, 0. -/
def blockHeld : State :=
  putCore 0 { DspCore.idle with held := some 4, cycles := 100 }
    ((State.reset.put .DSP_CORE_STAT_STATE 0 1).memPut (dspWindow 0) 8 blkendWord)

/-- Every word of one instruction is read without an error. -/
def cleanReads : DspEcc := ⟨.clean, .clean, .clean⟩

/-- BLKEND stands at the PC of the running core, and its word is read. -/
theorem blockHeld_at : DspAt 2 0x09 0 blkendWord cleanReads blockHeld := by decide +kernel

/-- BLKEND measures the block that the core held: the largest load rises from 0 to 100 cycles (DSP_CORE_LOAD). -/
theorem blockHeld_measured : blockHeld.get .DSP_CORE_LOAD_MAX_CYCLES 0 = 0
    ∧ (dspBlkend 0 blockHeld).get .DSP_CORE_LOAD_MAX_CYCLES 0 = 100 := by decide +kernel

/-- Refutes O51: the statement lists the fields that BLKEND may change and leaves out DSP_CORE_LOAD.MAX_CYCLES, in which the core
measures the block that it held. Here the block took 100 cycles, and the field rises from 0 to 100. -/
theorem not_dspControlsItsProgram : ¬ Obligations.DspControlsItsProgram := by
  unfold Obligations.DspControlsItsProgram
  intro h
  obtain ⟨-, -, -, -, -, -, -, -, -, -, -, -, hblkend, -⟩ := h 0 blkendWord cleanReads blockHeld
  obtain ⟨t, hexec, -, -, -, -, -, -, -, -, htouch⟩ := hblkend blockHeld_at
  have ht : dspBlkend 0 blockHeld = t :=
    (dspRow_at blockHeld_at fun _ => dspBlkend 0).symm.trans (Host.Outcome.next.inj ((exec_blkend 0 cleanReads blockHeld).symm.trans hexec))
  subst ht
  obtain ⟨hbefore, hafter⟩ := blockHeld_measured
  have hkept := htouch.1.get (f := .DSP_CORE_LOAD_MAX_CYCLES) (by decide) 0
  exact absurd (hafter.symm.trans (hkept.trans hbefore)) (by decide)

end Sys2Proof.Machine
end

section
/-!
PROOFS. Flips and latch points of a head: the master that an accepted ARM records for its later refusal, and a FALLBACK_ON field of more
than one bit. The statements of shadows and of latch points are refuted (R78, R439, R443, R445).
-/
namespace Sys2Proof.Machine

variable {m : Master} {n l v : Nat} {s : State}

/-! ### The master of an armed flip -/

/-- An accepted ARM records its master, whose write a refusal at the latch point is (R78, R439, R443). -/
theorem exec_layerArm_accepted_master (hn : n < 4) (hl : l < 72) (hp : Passes m (layerOff n l 10) s) (hcode : s.armCode n l = 0) :
    ∃ t, exec (.layerArm m n l v) s = .next t ∧ t.get .CMP_FLIP_MASTER (72 * n + l) = m.refuseCode := by
  have hgated (eff : State → State) : headGated m n (layerOff n l 10) eff s = eff (s.respond 0 false) := by
    rw [headGated, decide_eq_true hn, onlyIf_true, writeGated_pass hp]
  have hsame : (s.respond 0 false).armCode n l = 0 := hcode
  have hwait : waitField l ≠ .CMP_FLIP_MASTER := by
    unfold waitField
    split <;> decide
  refine ⟨_, rfl, ?_⟩
  rw [decide_eq_true hl, onlyIf_true, hgated, hsame, if_neg (not_not_intro rfl), State.get_put_other _ hwait, State.get_put_self]
  cases m <;> rfl

/-- After hand-over the link is up and head 0 is fenced; nothing is armed, and no layer is enabled. -/
def fencedHead : State :=
  ((State.reset.put .GEN_BOOT_STAT_PHASE 0 6).put .BUS_LINK_STAT_LINK_UP 0 1).put .CMP_HEAD_CTRL_FENCED 0 1

/-- Refutes O44: the statement lists the fields that an accepted ARM may change and leaves out the hidden field in which the model keeps
the master that armed the flip, for the refusal at a later latch point (R78, R443). Where the host arms tile 0 of head 0, that field
goes from 0 to 1. -/
theorem not_shadowsAndFencesAreGuarded : ¬ Obligations.ShadowsAndFencesAreGuarded := by
  unfold Obligations.ShadowsAndFencesAreGuarded
  intro h
  have hp : Passes .host (layerOff 0 0 10) fencedHead := by decide
  have hcode : fencedHead.armCode 0 0 = 0 := by decide
  have hbefore : fencedHead.get .CMP_FLIP_MASTER 0 = 0 := by decide
  obtain ⟨harm, -⟩ := h
  obtain ⟨haccepted, -⟩ := harm .host 0 0 0 fencedHead (by decide) (by decide) hp
  obtain ⟨t, hexec, -, -, -, -, -, htouch⟩ := haccepted hcode
  obtain ⟨u, hexec', hafter⟩ := exec_layerArm_accepted_master (v := 0) (by decide) (by decide) hp hcode
  obtain rfl : t = u := Host.Outcome.next.inj (hexec.symm.trans hexec')
  have hkept : t.get .CMP_FLIP_MASTER 0 = 0 := (htouch.get (by decide) 0).trans hbefore
  exact absurd (hafter.symm.trans hkept) (by decide)

/-! ### A FALLBACK_ON field of more than one bit -/

/-- A complete span of 720 equal lines, 10 bits deep (R91). -/
def flatSpan : VideoSpan :=
  { fmt := 0x10, depth := 0, gaps := [], lines := (List.range 720).map (fun k => (26 + k, List.replicate 2560 64)), anc := [] }

/-- Head 0 composes, and its tile 0 is live with the full picture of input 0, whose newest span is complete; the read-only FALLBACK_ON of
that tile is stored as 2, beyond its one bit. -/
def wideFallback : State :=
  let composing := [UnitKind.cmp.code 0, UnitKind.head.code 0, UnitKind.input.code 0].foldl (fun s u => s.put .CHECK_ENABLED u 1) State.reset
  let shown := composing.put .CMP_TILE_L0 0 (2 ^ 31 + 2 ^ 30)
  { shown with regs := ⟨.CMP_TILE_W8_FALLBACK_ON, 0, 2⟩ :: shown.regs, spans := [(0, [flatSpan])] }

/-- The tile is ready at the latch point, and its FALLBACK_ON, which does not read 1, is not written (R445). -/
theorem wideFallback_latched : ∃ t, exec (.latchPoint 0 1 []) wideFallback = .next t
    ∧ t.flag .CMP_TILE_W8_READY 0 = true ∧ t.get .CMP_TILE_W8_FALLBACK_ON 0 = 2 :=
  ⟨_, rfl, by decide +kernel⟩

/-- Refutes O45: the statement has a tile that is ready at a latch point end with FALLBACK_ON 0, in every state, also in one whose store
is not canonical (no step leads from a canonical store to such a one). The latch point clears FALLBACK_ON only where it reads 1: where
it is stored as 2, it stays 2. -/
theorem not_latchPointsMakeShadowsLive : ¬ Obligations.LatchPointsMakeShadowsLive := by
  unfold Obligations.LatchPointsMakeShadowsLive
  intro h
  obtain ⟨u, hexec', hready, hwide⟩ := wideFallback_latched
  obtain ⟨-, hruns⟩ := h 0 1 [] wideFallback (by decide)
  obtain ⟨t, hexec, -, -, -, -, -, -, -, -, hrestored, -⟩ := hruns (by decide)
  obtain rfl : t = u := Host.Outcome.next.inj (hexec.symm.trans hexec')
  obtain ⟨-, hfallback⟩ := hrestored 0 (by decide) hready
  exact absurd (hwide.symm.trans hfallback) (by decide)

end Sys2Proof.Machine
end

section
/-!
PROOFS. Accesses that do not arrive at the bus matrix: the statement of interrupts and mailboxes is refuted (R1, R478).
-/
namespace Sys2Proof.Machine

variable {m : Master} {b v : Nat} {s : State}

/-! ### Accesses that do not arrive -/

/-- The host's accesses arrive only while the link is up (R1). -/
theorem arrives_host_of_linkDown (h : s.flag .BUS_LINK_STAT_LINK_UP 0 = false) : s.arrives .host = false := by
  rw [State.arrives, h, Bool.false_and, Bool.or_false]
  rfl

/-- An access that does not arrive leaves no trace (R1). -/
theorem denyAccess_notCarried (m : Master) (addr : Nat) (write : Bool) (s : State) : denyAccess m addr write notCarried s = s :=
  if_pos rfl

/-- The gate of memory and mailboxes turns away first what does not arrive (R1). -/
theorem memGate_notArrived {a n : Nat} {write : Bool} (h : s.arrives m = false) : s.memGate m a n write = some notCarried := by
  unfold State.memGate
  dsimp only
  rw [h]
  exact if_pos rfl

/-- A mailbox write that does not arrive has no effect (R1, R478). -/
theorem mailboxGated_notArrived {eff : State → State} (h : s.arrives m = false) : mailboxGated m b eff s = s := by
  rw [mailboxGated, memGate_notArrived h]
  exact denyAccess_notCarried ..

/-- A request that does not arrive changes nothing, so it sets no REQ and interrupts no steward (R1, R478). -/
theorem exec_mbxReq_notArrived (h : s.arrives m = false) : exec (.mbxReq m b v) s = .next s := by
  rw [exec_mbxReq, execMbxReq]
  cases decide (b < 16)
  · rw [onlyIf_false]
  · rw [onlyIf_true, mailboxGated_notArrived h]

/-! ### The refutation -/

/-- The device has handed over, and the link to the host is down, as at reset; no mailbox is in use and no policy is set. -/
def linkDownAfterBoot : State := State.reset.put .GEN_BOOT_STAT_PHASE 0 6

/-- Refutes O20: the statement has the host's REQ set and the steward interrupted in every state after hand-over whose security policy
is empty, and does not ask that the link is up. While the link is down the host's write does not arrive (R1): here mailbox 0 keeps
REQ = 0. -/
theorem not_interruptsAndMailboxes : ¬ Obligations.InterruptsAndMailboxes := by
  unfold Obligations.InterruptsAndMailboxes
  intro h
  obtain ⟨-, -, hreq, -⟩ := h
  have hclear : linkDownAfterBoot.get .MBX_CTRL_REQ 0 = 0 := by decide
  obtain ⟨t, hexec, hset, -⟩ := hreq 0 0 linkDownAfterBoot (by decide) (by decide) (by decide) rfl hclear
  have hsame : exec (.mbxReq .host 0 0) linkDownAfterBoot = .next linkDownAfterBoot :=
    exec_mbxReq_notArrived (arrives_host_of_linkDown (by decide))
  obtain rfl : t = linkDownAfterBoot := Host.Outcome.next.inj (hexec.symm.trans hsame)
  exact absurd (hclear.symm.trans hset) (by decide)

end Sys2Proof.Machine
end

section
/-!
PROOFS. The machine as a whole: a step runs the command in front, and every command has a next state.
-/
namespace Sys2Proof.Machine

/-- Settles O1: the queue's first command runs with the rest. -/
theorem stepRunsFrontCommand : Obligations.StepRunsFrontCommand := by
  unfold Obligations.StepRunsFrontCommand
  intro c rest s
  exact step_cons (s := { s with pending := c :: rest }) rfl

/-- Every command has a meaning: none faults, and none is refused. -/
theorem exec_next (i : Instr) (s : State) : ∃ t, exec i s = .next t := by
  cases i
  all_goals exact ⟨_, rfl⟩

/-- Every step has a next state. -/
theorem step_next (s : State) : ∃ t, step s = .next t := by
  cases hq : s.pending with
  | nil => exact ⟨_, step_nil hq⟩
  | cons c rest =>
    rw [step_cons hq]
    exact exec_next c _

/-- Settles O5: what a step keeps (`step_keeps`) holds of fuses, queue and part, and every step has a next state. -/
theorem fusesStayBlownAndQueueIsFifo : Obligations.FusesStayBlownAndQueueIsFifo := by
  unfold Obligations.FusesStayBlownAndQueueIsFifo
  refine ⟨fun s t h => (step_keeps h).fuses, fun s => ?_⟩
  obtain ⟨t, h⟩ := step_next s
  have hkeeps := step_keeps h
  exact ⟨t, h, hkeeps.pending, hkeeps.variant⟩

end Sys2Proof.Machine
end

section
/-!
PROOFS. Reports behind one another: what an assertion leaves of another source's count, the causes of a block, and the fields that a
refusal recorded (R78, R481, R486).
-/
namespace Sys2Proof.Machine

variable {n k cls : Nat} {fs : List Fld} {s t u : State}

/-! ### Counts of other sources -/

namespace KeepsCount

/-- An assertion leaves the count of any other source, but for the source that reports storms (R481, R486). -/
theorem assertDetail (hk : k ≠ n) (hn : n ≠ 510) (cls : Nat) (detail : List Nat) (h : KeepsCount n s t) :
    KeepsCount n s (assertDetail k cls detail t) := by
  unfold Machine.assertDetail assertWith
  exact behind k cls false detail (fun u => storm hn (refl n u)) (other hk _ (other hk _ h))

theorem assertEv (hk : k ≠ n) (hn : n ≠ 510) (cls : Nat) (h : KeepsCount n s t) : KeepsCount n s (assertEv k cls t) :=
  h.assertDetail hk hn cls []

theorem of_touches (h : Touches fs s t) (hc : .FLT_SRC_STAT_COUNT ∉ fs := by decide) (hl : .FLT_SRC_STAT_LAST_CLASS ∉ fs := by decide) :
    KeepsCount n s t :=
  ⟨h.get hc n, h.get hl n⟩

theorem setCauses {evt en : Fld} (hk : k ≠ n) (hn : n ≠ 510) (i mask cls : Nat) (h : KeepsCount n s t)
    (hc : evt ≠ .FLT_SRC_STAT_COUNT := by decide) (hl : evt ≠ .FLT_SRC_STAT_LAST_CLASS := by decide) :
    KeepsCount n s (setCauses evt en i mask k cls t) := by
  unfold Machine.setCauses
  exact onlyIf _ (fun u => assertEv hk hn cls (refl n u)) (put hc hl _ _ h)

theorem refuse (hn : n ≠ 510) (hn' : 506 ≠ n) (code word : Nat) (m : Master) (h : KeepsCount n s t) : KeepsCount n s (refuse code word m t) := by
  unfold Machine.refuse
  refine assertEv hn' hn 0 (put (by decide) (by decide) _ _ (put (by decide) (by decide) _ _ ?_))
  exact put (by decide) (by decide) _ _ (put (by decide) (by decide) _ _ h)

end KeepsCount

/-- What follows an assertion keeps its record where it keeps the count. -/
theorem Asserted.then (h : Asserted n cls s t) (k : KeepsCount n t u) : Asserted n cls s u := ⟨k.1.trans h.1, k.2.trans h.2⟩

/-- What precedes an assertion keeps the count. -/
theorem Asserted.since (h : Asserted n cls t u) (k : KeepsCount n s t) : Asserted n cls s u := .after k.1 h

/-- What follows a refusal and touches nothing that it recorded keeps the record. -/
theorem Refused.then {code word : Nat} {m : Master} (h : Refused code word m s t) (k : Touches fs t u)
    (hfs : ∀ f ∈ [.FLT_SRC_STAT_COUNT, .FLT_SRC_STAT_LAST_CLASS] ++ refuseFields, f ∉ fs := by decide) : Refused code word m s u := by
  obtain ⟨hreason, hword, hmaster, hcount, hasserted⟩ := h
  have hkept (f : Fld) (hf : f ∈ [.FLT_SRC_STAT_COUNT, .FLT_SRC_STAT_LAST_CLASS] ++ refuseFields) := k.get (hfs f hf)
  refine ⟨(hkept _ (by decide) 0).trans hreason, (hkept _ (by decide) 0).trans hword, (hkept _ (by decide) 0).trans hmaster,
    (hkept _ (by decide) 0).trans hcount, hasserted.then ⟨hkept _ (by decide) 506, hkept _ (by decide) 506⟩⟩

/-! ### Causes of a block (R481) -/

/-- The cause register holds the old causes and the new ones. -/
theorem setCauses_get {evt en : Fld} (i mask src cls : Nat) (s : State) (he : evt ∉ reportFields := by decide) :
    (setCauses evt en i mask src cls s).get evt i = (s.get evt i ||| mask) % 2 ^ evt.info.w := by
  rw [State.get_setCauses _ _ _ _ _ he, State.get_put_self]

/-- A cause that was clear and is enabled asserts the source of its block. -/
theorem setCauses_asserted {evt en : Fld} {i b src : Nat} (hold : bitsAt (s.get evt i) b 1 = 0) (hen : bitsAt (s.get en i) b 1 = 1)
    (hsrc : src ≠ 510) (hcls : cls < 4) (hc : evt ≠ .FLT_SRC_STAT_COUNT := by decide) :
    Asserted src cls s (setCauses evt en i (2 ^ b) src cls s) := by
  have hfresh : (2 ^ b &&& (s.get evt i ^^^ (s.get evt i ||| 2 ^ b)) &&& s.get en i != 0) = true := by
    rw [bitsAt_one] at hold hen
    refine bne_iff_ne.mpr (fun h0 => ?_)
    have hbit := congrArg (·.testBit b) h0
    clear h0
    simp_all [Nat.testBit_two_pow_self]
  unfold setCauses
  simp only [hfresh, onlyIf_true]
  exact .after (State.get_put_other _ hc ..) (assertEv_asserted _ hsrc hcls)

end Sys2Proof.Machine
end

section
/-!
PROOFS. The recovery queue: TAKE, DONE and a recovery that outlasts its limit (R491 to R494, R525).
-/
namespace Sys2Proof.Machine

variable {m : Master} {v : Nat} {fs : List Fld} {s t : State}

/-! ### A takeover that is not due -/

/-- Whether a takeover is due rests on the twin's own fields (R522). -/
theorem Touches.takeoverDue (h : Touches fs s t)
    (hfs : ∀ f ∈ [.CHECK_ENABLED, .TWN_STAT_CLAIM, .TWN_DROP, .TWN_STAT_LINK_LOST, .TWN_STAT_MGMT_LOST], f ∉ fs := by decide) :
    t.takeoverDue = s.takeoverDue := by
  have hkept (f : Fld) (hf : f ∈ [.CHECK_ENABLED, .TWN_STAT_CLAIM, .TWN_DROP, .TWN_STAT_LINK_LOST, .TWN_STAT_MGMT_LOST]) (i : Nat) :
      t.flag f i = s.flag f i := congrArg (· == 1) (h.get (hfs f hf) i)
  simp only [State.takeoverDue, State.standby, State.running, State.bothLost, hkept _ (show Fld.CHECK_ENABLED ∈ _ by decide),
    hkept _ (show Fld.TWN_STAT_CLAIM ∈ _ by decide), hkept _ (show Fld.TWN_DROP ∈ _ by decide),
    hkept _ (show Fld.TWN_STAT_LINK_LOST ∈ _ by decide), hkept _ (show Fld.TWN_STAT_MGMT_LOST ∈ _ by decide)]

/-- Where no takeover is due, the judgement clears DUE and DEFERRED (R523, R525). -/
theorem judgeTakeover_notDue (h : s.takeoverDue = false) :
    judgeTakeover s = (s.put .TWN_STAT_DUE 0 0).put .TWN_STAT_DEFERRED 0 0 := by
  unfold judgeTakeover
  rw [h]
  rfl

theorem judgeTakeover_notDue_touches (h : s.takeoverDue = false) : Touches [.TWN_STAT_DUE, .TWN_STAT_DEFERRED] s (judgeTakeover s) := by
  rw [judgeTakeover_notDue h]
  exact Touches.put (by decide) _ _ (Touches.put (by decide) _ _ (Touches.refl _ s))

/-! ### The commands -/

theorem exec_recoveryTake_pass (hp : Passes m recovCmdOff s) :
    exec (.recoveryTake m v) s = .next (takeRecovery m v (s.respond 0 false)) := by
  rw [exec_recoveryTake, execRecoveryTake, writeGated_pass hp]

theorem exec_recoveryDone_pass (hp : Passes m recovCmdOff s) :
    exec (.recoveryDone m v) s = .next (judgeTakeover (doneRecovery m v (s.respond 0 false))) := by
  rw [exec_recoveryDone, execRecoveryDone, writeGated_pass hp]

/-- While the queue is frozen both commands are refused (R494). -/
theorem recovery_frozen (h : s.flag .FLT_RECOV_STAT_FROZEN = true) :
    takeRecovery m v s = refuse 0x08 (wordOf recovCmdOff) m s ∧ doneRecovery m v s = refuse 0x08 (wordOf recovCmdOff) m s := by
  constructor
  · exact if_pos h
  · exact if_pos h

/-- TAKE with the source at the head, while no record is active (R492). -/
theorem takeRecovery_head {r : RecovRec} {rest : List RecovRec} (hopen : s.flag .FLT_RECOV_STAT_FROZEN = false)
    (hact : s.recovActive = none) (hq : s.recovQueue = r :: rest) (hv : bitsAt v 30 1 = 0) (hr : r.source = bitsAt v 0 9) :
    takeRecovery m v s = { s with recovQueue := rest, recovActive := some r } := by
  unfold takeRecovery
  simp [hopen, hact, hq, hv, hr]

/-- TAKE while a record is active (R492). -/
theorem takeRecovery_busy (hopen : s.flag .FLT_RECOV_STAT_FROZEN = false) (hact : s.recovActive.isSome = true) :
    takeRecovery m v s = refuse 0x04 (wordOf recovCmdOff) m s := by
  unfold takeRecovery
  simp [hopen, hact]

/-- DONE with the source of the active record (R492). -/
theorem doneRecovery_active {r : RecovRec} (hopen : s.flag .FLT_RECOV_STAT_FROZEN = false) (hact : s.recovActive = some r)
    (hv : bitsAt v 31 1 = 0) (hr : r.source = bitsAt v 0 9) :
    doneRecovery m v s = { s with recovActive := none }.put .FLT_RECOV_STAT_OVERDUE 0 0 := by
  unfold doneRecovery
  simp [hopen, hact, hv, hr]

/-- DONE with another source than the active record's (R492). -/
theorem doneRecovery_other {r : RecovRec} (hopen : s.flag .FLT_RECOV_STAT_FROZEN = false) (hact : s.recovActive = some r)
    (hr : r.source ≠ bitsAt v 0 9) : doneRecovery m v s = refuse 0x04 (wordOf recovCmdOff) m s := by
  unfold doneRecovery
  simp [hopen, hact, hr]

/-- What both commands leave that are refused with one code, while no takeover is due. -/
theorem recovery_refused {code : Nat} (hp : Passes m recovCmdOff s) (hcode : code < 2 ^ 8) (hdue : s.takeoverDue = false)
    (htake : takeRecovery m v (s.respond 0 false) = refuse code (wordOf recovCmdOff) m (s.respond 0 false))
    (hdone : doneRecovery m v (s.respond 0 false) = refuse code (wordOf recovCmdOff) m (s.respond 0 false)) :
    ∀ c ∈ [Instr.recoveryTake m v, .recoveryDone m v], ∃ t, exec c s = .next t ∧ Refused code (wordOf recovCmdOff) m s t
      ∧ Touches ([.TWN_STAT_DUE, .TWN_STAT_DEFERRED] ++ refuseFields ++ reportFields) s t := by
  obtain ⟨hrefused, htouch⟩ := refuse_respond (word := wordOf recovCmdOff) m s hcode (by decide)
  have hjudged := judgeTakeover_notDue_touches (htouch.takeoverDue.trans hdue)
  intro c hc
  rcases List.mem_pair.mp hc with rfl | rfl
  · exact ⟨_, (exec_recoveryTake_pass hp).trans (congrArg _ htake), hrefused, htouch.mono (by decide)⟩
  · rw [← hdone] at hrefused htouch hjudged
    exact ⟨_, exec_recoveryDone_pass hp, hrefused.then hjudged, (htouch.mono (by decide)).trans (hjudged.mono (by decide))⟩

/-- A recovery outlasts its limit, which is reported once (R492). -/
theorem exec_recoveryOverdue_active (hact : s.recovActive ≠ none) (hlim : s.get .FLT_RECOV_LIMIT ≠ 0) (hfresh : s.get .FLT_RECOV_STAT_OVERDUE = 0) :
    exec .recoveryOverdue s = .next (notice 509 (s.put .FLT_RECOV_STAT_OVERDUE 0 1)) := by
  have hsome : s.recovActive.isSome = true := Option.isSome_iff_ne_none.mpr hact
  have hset : (s.get .FLT_RECOV_LIMIT != 0) = true := bne_iff_ne.mpr hlim
  rw [exec_recoveryOverdue, execRecoveryOverdue]
  simp [hsome, hset, State.flag_of_zero hfresh]

theorem exec_recoveryOverdue_reported (h : s.get .FLT_RECOV_STAT_OVERDUE = 1) : exec .recoveryOverdue s = .next s := by
  rw [exec_recoveryOverdue, execRecoveryOverdue]
  simp [State.flag_of_one h]

/-- Settles O16: TAKE and DONE by what they find of the queue; a refusal of either is the same. -/
theorem recoveryIsTakenAndDone : Obligations.RecoveryIsTakenAndDone := by
  unfold Obligations.RecoveryIsTakenAndDone
  intro m v s hp
  refine ⟨fun r rest hq hact hopen hv hr => ?_, fun r hact hopen hv hr hdue => ?_, fun hfrozen hdue => ?_, fun r hact hopen hr hdue => ?_,
    fun hact hlim hfresh => ?_⟩
  · -- TAKE of the record at the head
    refine ⟨_, (exec_recoveryTake_pass hp).trans (congrArg _ (takeRecovery_head ?_ ?_ ?_ hv hr)), rfl, rfl, rfl, ?_⟩
    · exact State.flag_of_zero hopen
    · exact hact
    · exact hq
    · exact Touches.records (Touches.refl _ s) rfl rfl
  · -- DONE of the active record
    have hdone := doneRecovery_active (m := m) (s := s.respond 0 false) (State.flag_of_zero hopen) hact hv hr
    have htouch : Touches [.FLT_RECOV_STAT_OVERDUE] s (doneRecovery m v (s.respond 0 false)) := by
      rw [hdone]
      exact Touches.put (by decide) _ _ (Touches.records (Touches.refl _ s) rfl rfl)
    have hjudge := judgeTakeover_notDue (htouch.takeoverDue.trans hdue)
    have hjudged := judgeTakeover_notDue_touches (htouch.takeoverDue.trans hdue)
    refine ⟨_, exec_recoveryDone_pass hp, ?_, ?_, ?_, (htouch.mono (by decide)).trans (hjudged.mono (by decide))⟩
    · rw [hjudge, hdone]
      rfl
    · rw [hjudge, hdone]
      rfl
    · rw [hjudged.get (by decide), hdone]
      exact State.get_put_self ..
  · -- either while the queue is frozen
    obtain ⟨htake, hdone⟩ := recovery_frozen (m := m) (v := v) (s := s.respond 0 false) (State.flag_of_one hfrozen)
    exact recovery_refused hp (by decide) hdue htake hdone
  · -- either with another source
    exact recovery_refused hp (by decide) hdue (takeRecovery_busy (State.flag_of_zero hopen) (Option.isSome_of_mem hact))
      (doneRecovery_other (State.flag_of_zero hopen) hact hr)
  · -- the limit
    have hset : (notice 509 (s.put .FLT_RECOV_STAT_OVERDUE 0 1)).get .FLT_RECOV_STAT_OVERDUE = 1 := by
      rw [State.get_notice _ _ (by decide)]
      exact State.get_put_self ..
    refine ⟨_, exec_recoveryOverdue_active hact hlim hfresh, hset, ?_, ?_, exec_recoveryOverdue_reported hset⟩
    · exact (notice_asserted _ (by decide)).since (.put (by decide) (by decide) _ _ (.refl ..))
    · exact Touches.notice (by decide) _ (Touches.put (by decide) _ _ (Touches.refl _ s))

end Sys2Proof.Machine
end

section
/-!
PROOFS. Two statements that hold of canonical stores only: a forced assertion (R489) and the entry of standby (R508) each end a field
at a value that a store beyond the field's bits does not give.
-/
namespace Sys2Proof.Machine

/-- The class of source 0 is stored as 4, beyond its two bits. -/
def wideClass : State := { State.reset with regs := ⟨.FLT_SRC_CLASS, 0, 4⟩ :: State.reset.regs }

/-- The write that forces source 0 stores its class anew, within its bits. -/
theorem wideClass_forced :
    ∃ t, exec (.force (.st 1) 0 (wideClass.wordAt (srcOff 0) ||| 1)) wideClass = .next t ∧ t.get .FLT_SRC_CLASS 0 = 0 :=
  ⟨_, rfl, by decide +kernel⟩

/-- Refutes O15: the statement has a forced assertion leave the configuration of its source, in every state, also in one whose store is
not canonical (no step leads from a canonical store to such a one). The write that forces stores the whole word, so a class stored as 4
becomes 0. -/
theorem not_windowsStormsAndForcedAssertions : ¬ Obligations.WindowsStormsAndForcedAssertions := by
  unfold Obligations.WindowsStormsAndForcedAssertions
  intro h
  obtain ⟨u, hexec', hclass⟩ := wideClass_forced
  obtain ⟨-, hforce⟩ := h
  obtain ⟨hforced, -⟩ := hforce (.st 1) 0 wideClass (by decide) (by decide)
  obtain ⟨t, hexec, -, -, -, -, htouch, -⟩ := hforced (by decide) (by decide)
  obtain rfl : t = u := Host.Outcome.next.inj (hexec.symm.trans hexec')
  exact absurd (hclass.symm.trans (htouch.get (by decide) 0)) (by decide)

/-- A twin in Run, without the claim and without a wait for it; the flag of its claim is stored as 2, beyond its one bit. -/
def wideClaim : State :=
  let standby := (State.reset.put .CHECK_ENABLED (UnitKind.twin.code 0) 1).put .PWR_STAT_STATE 0 2
  { standby with regs := ⟨.TWN_STAT_CLAIM, 0, 2⟩ :: standby.regs }

/-- The entry of standby does not write the claim. -/
theorem wideClaim_enters : ∃ t, exec .standbyEntry wideClaim = .next t ∧ t.get .TWN_STAT_CLAIM 0 = 2 :=
  ⟨_, rfl, by decide +kernel⟩

/-- Refutes O53: the statement has the claim read 0 after the entry of standby wherever it does not read 1 before, in every state, also
in one whose store is not canonical (no step leads from a canonical store to such a one). A claim stored as 2 does not read 1, and the
entry leaves it. -/
theorem not_claimIsInterlocked : ¬ Obligations.ClaimIsInterlocked := by
  unfold Obligations.ClaimIsInterlocked
  intro h
  obtain ⟨u, hexec', hclaim⟩ := wideClaim_enters
  obtain ⟨-, -, -, -, -, -, -, -, -, -, hentry, -⟩ := h wideClaim
  obtain ⟨t, hexec, -, -, -, hzero, -⟩ := hentry (by decide) (by decide) (by decide) (by decide)
  obtain rfl : t = u := Host.Outcome.next.inj (hexec.symm.trans hexec')
  exact absurd (hclaim.symm.trans hzero) (by decide)

end Sys2Proof.Machine
end

section
/-!
PROOFS. Check-value units: the result of a period or of a pass is judged, and a gap gives none (R500 to R504).
-/
namespace Sys2Proof.Machine

variable {u res bit : Nat} {fs gs : List Fld} {s t : State}

/-- Causes of a unit's event register, at its own index. -/
theorem TouchesAt.setCauses {n mask src cls : Nat} {evt en : Fld} (h : TouchesAt n fs gs s t) (he : evt ∈ fs := by decide)
    (hsub : ∀ f ∈ reportFields, f ∈ gs := by decide) (hapart : ∀ f ∈ fs, f ∉ reportFields := by decide) :
    TouchesAt n fs gs s (setCauses evt en n mask src cls t) := by
  unfold Machine.setCauses
  exact (h.put he).thenTouches (Touches.onlyIf _ (fun u => assertEv_report _ _ u) (Touches.refl _ _)) hsub hapart

/-- What COMPARE 0 and 1 make of a result: it is stored, and COMPARE 1 counts one that differs from EXPECT (R502). -/
def storeResult (u res : Nat) (s : State) : State :=
  ((s.put .CHK_RESULT u res).put .CHK_HAVE u 1).put .CHK_STREAK u
    (if s.flag .CHK_HAVE u && s.get .CHK_RESULT u == res then satAdd 8 (s.get .CHK_STREAK u) 1 else 0)

theorem storeResult_get {f : Fld} (hf : f ∉ [.CHK_RESULT, .CHK_HAVE, .CHK_STREAK]) (i : Nat) : (storeResult u res s).get f i = s.get f i := by
  simp only [List.mem_cons, List.not_mem_nil, or_false, not_or] at hf
  obtain ⟨hresult, hhave, hstreak⟩ := hf
  rw [storeResult, State.get_put_other _ (Ne.symm hstreak), State.get_put_other _ (Ne.symm hhave), State.get_put_other _ (Ne.symm hresult)]

theorem storeResult_result : (storeResult u res s).get .CHK_RESULT u = res % 2 ^ 32 := by
  rw [storeResult, State.get_put_other _ (by decide), State.get_put_other _ (by decide), State.get_put_self]
  rfl

theorem storeResult_touches (hfs : ∀ f ∈ [.CHK_RESULT, .CHK_HAVE, .CHK_STREAK], f ∈ fs := by decide) : TouchesAt u fs gs s (storeResult u res s) :=
  (((TouchesAt.refl u fs gs s).put (hfs _ (by decide))).put (hfs _ (by decide))).put (hfs _ (by decide))

/-- COMPARE 0 judges nothing (R502). -/
theorem chkJudge_unjudged (h : s.get .CHK_CTRL_COMPARE u = 0) : chkJudge u res s = storeResult u res s := by
  have hkept := (storeResult_get (u := u) (res := res) (s := s) (f := .CHK_CTRL_COMPARE) (by decide) u).trans h
  unfold chkJudge
  dsimp only
  rw [← storeResult, hkept]
  rfl

/-- COMPARE 1 judges the result against EXPECT (R502). -/
theorem chkJudge_expected (h : s.get .CHK_CTRL_COMPARE u = 1) :
    chkJudge u res s = onlyIf (res != s.get .CHK_EXPECT u) (fun s => chkCause u 0 (s.bump .CHK_STAT_MISMATCHES u)) (storeResult u res s) := by
  have hkept := (storeResult_get (u := u) (res := res) (s := s) (f := .CHK_CTRL_COMPARE) (by decide) u).trans h
  have hexpect := storeResult_get (u := u) (res := res) (s := s) (f := .CHK_EXPECT) (by decide) u
  unfold chkJudge
  dsimp only
  rw [← storeResult, hkept, hexpect]
  rfl

theorem chkCause_touches (bit : Nat) (h : TouchesAt u fs reportFields s t) (he : .CHK_EVT ∈ fs := by decide)
    (hapart : ∀ f ∈ fs, f ∉ reportFields := by decide) : TouchesAt u fs reportFields s (chkCause u bit t) :=
  h.setCauses he (fun _ hf => hf) hapart

theorem chkCause_get {f : Fld} (bit : Nat) (hf : f ∉ .CHK_EVT :: reportFields := by decide) (i : Nat) : (chkCause u bit s).get f i = s.get f i :=
  (Touches.setCauses (fun _ h => List.mem_cons_of_mem _ h) List.mem_cons_self _ _ _ _ (Touches.refl _ s)).get hf i

/-- What COMPARE 1 leaves of a result: it is stored, and one that differs from EXPECT is counted (R502). -/
theorem chkJudge_expected_spec (h : s.get .CHK_CTRL_COMPARE u = 1) :
    (chkJudge u res s).get .CHK_RESULT u = res % 2 ^ 32
      ∧ (chkJudge u res s).get .CHK_STAT_MISMATCHES u
          = (if res = s.get .CHK_EXPECT u then s.get .CHK_STAT_MISMATCHES u else satAdd 16 (s.get .CHK_STAT_MISMATCHES u) 1)
      ∧ (∀ i, (chkJudge u res s).get .CHK_RESULT_ID i = s.get .CHK_RESULT_ID i)
      ∧ TouchesAt u [.CHK_RESULT, .CHK_HAVE, .CHK_STREAK, .CHK_STAT_MISMATCHES, .CHK_EVT] reportFields s (chkJudge u res s) := by
  rw [chkJudge_expected h]
  by_cases heq : res = s.get .CHK_EXPECT u
  · rw [bne_eq_false_iff_eq.mpr heq, onlyIf_false, if_pos heq]
    exact ⟨storeResult_result, storeResult_get (by decide) u, fun i => storeResult_get (by decide) i, storeResult_touches⟩
  · rw [bne_iff_ne.mpr heq, onlyIf_true, if_neg heq]
    refine ⟨?_, ?_, fun i => ?_, chkCause_touches 0 (TouchesAt.bump storeResult_touches)⟩
    · rw [chkCause_get, State.get_bump_other _ (by decide), storeResult_result]
    · rw [chkCause_get, State.get_bump_self, storeResult_get (by decide)]
      rfl
    · rw [chkCause_get, State.get_bump_other _ (by decide), storeResult_get (by decide)]

/-! ### The commands -/

/-- A period that ends while the unit watches an output, an input or a stream (R500, R502). -/
theorem exec_chkResult_running {data : List Nat} {id : Nat} {gap : Bool} (hrun : s.running .chkUnit u = true) (hlo : 2 ≤ s.get .CHK_CTRL_KIND u)
    (hhi : s.get .CHK_CTRL_KIND u ≤ 6) :
    exec (.chkResult u data id gap) s = .next (if gap || !s.chkTargetLive u then chkCause u 3 s
      else chkJudge u (chkCrc (s.get .CHK_CTRL_KIND u) (s.get .CHK_CTRL_POLY u) (s.chkDepth u) data) (s.put .CHK_RESULT_ID u id)) := by
  rw [exec_chkResult, execChkResult, hrun, decide_eq_true hlo, decide_eq_true hhi]
  rfl

/-- The pass over memory that is under way ends (R502, R503). -/
theorem exec_chkPassDone_busy {bad : Bool} (hrun : s.running .chkUnit u = true) (hkind : s.get .CHK_CTRL_KIND u = 1) (hbusy : s.get .CHK_STAT_BUSY u = 1) :
    exec (.chkPassDone u bad) s = .next (if bad then chkCause u 4 ((s.put .CHK_STAT_BUSY u 0).put .CHK_STAT_MEM_ERR u 1)
      else chkCause u 4 (chkJudge u (chkCrc 1 (s.get .CHK_CTRL_POLY u) 8
        ((Memory.readList s.mem (s.get .CHK_ADDR_LO u + 2 ^ 32 * s.get .CHK_ADDR_HI u) (s.get .CHK_LEN u)).map (·.toNat)))
        ((s.put .CHK_STAT_BUSY u 0).put .CHK_RESULT_ID u 0))) := by
  have hput (f : Fld) (hf : .CHK_STAT_BUSY ≠ f) : (s.put .CHK_STAT_BUSY u 0).get f u = s.get f u := State.get_put_other s hf ..
  rw [exec_chkPassDone, execChkPassDone, hrun, hkind, State.flag_of_one hbusy]
  simp only [beq_self_eq_true, Bool.and_self, onlyIf_true, hput .CHK_CTRL_POLY (by decide), hput .CHK_ADDR_LO (by decide),
    hput .CHK_ADDR_HI (by decide), hput .CHK_LEN (by decide)]
  rfl

/-- Settles O18: a period's result, a period's gap, a pass over memory, and a pass that met an uncorrectable word. -/
theorem checkUnitsJudgeResults : Obligations.CheckUnitsJudgeResults := by
  unfold Obligations.CheckUnitsJudgeResults
  intro u s hrun
  refine ⟨fun data id hlo hhi hlive hcompare => ?_, fun data id hlo hhi => ?_, fun hkind hbusy hcompare => ?_, fun hkind hbusy => ?_⟩
  · -- a result
    have hput (f : Fld) (hf : .CHK_RESULT_ID ≠ f) (i : Nat) : (s.put .CHK_RESULT_ID u id).get f i = s.get f i := State.get_put_other s hf ..
    obtain ⟨hresult, hcount, hid, htouch⟩ := chkJudge_expected_spec (u := u)
      (res := chkCrc (s.get .CHK_CTRL_KIND u) (s.get .CHK_CTRL_POLY u) (s.chkDepth u) data)
      (s := s.put .CHK_RESULT_ID u id) ((hput _ (by decide) u).trans hcompare)
    refine ⟨_, (exec_chkResult_running hrun hlo hhi).trans (by rw [hlive]; rfl), hresult, ?_, ?_, ?_⟩
    · rw [hid, State.get_put_self]
      rfl
    · rw [hcount, hput _ (by decide), hput _ (by decide)]
    · exact TouchesAt.thenAt (TouchesAt.put (TouchesAt.refl u _ _ s)) htouch
  · -- a gap
    refine ⟨_, exec_chkResult_running hrun hlo hhi, ?_, chkCause_touches 3 (TouchesAt.refl ..)⟩
    exact setCauses_get ..
  · -- a pass
    have hstart : TouchesAt u [.CHK_STAT_BUSY, .CHK_RESULT, .CHK_RESULT_ID, .CHK_HAVE, .CHK_STREAK, .CHK_EVT] reportFields s
        ((s.put .CHK_STAT_BUSY u 0).put .CHK_RESULT_ID u 0) := (TouchesAt.refl ..).put.put
    refine ⟨_, exec_chkPassDone_busy hrun hkind hbusy, ?_⟩
    rw [if_neg Bool.false_ne_true, chkJudge_unjudged ((hstart.1.get (by decide) u).trans hcompare)]
    refine ⟨?_, ?_, chkCause_touches 4 (hstart.thenAt (fs' := [.CHK_RESULT, .CHK_HAVE, .CHK_STREAK]) (gs' := []) storeResult_touches)⟩
    · rw [chkCause_get, storeResult_get (by decide), State.get_put_other _ (by decide), State.get_put_self]
      rfl
    · rw [chkCause_get, storeResult_result]
  · -- a pass that met an uncorrectable word
    refine ⟨_, exec_chkPassDone_busy hrun hkind hbusy, ?_⟩
    rw [if_pos rfl]
    refine ⟨?_, ?_, ?_, chkCause_touches 4 (TouchesAt.put (TouchesAt.put (TouchesAt.refl ..)))⟩
    · rw [chkCause_get, State.get_put_other _ (by decide), State.get_put_self]
      rfl
    · rw [chkCause_get, State.get_put_self]
      rfl
    · rw [chkCause_get, State.get_put_other _ (by decide), State.get_put_other _ (by decide)]

end Sys2Proof.Machine
end

section
/-!
PROOFS. Security commands: what a signed command leaves by how it ends, the debug level, the lifecycle, revocation and the floor
(R534 to R539, R551).
-/
namespace Sys2Proof.Machine

variable {m : Master} {slot cmd code l : Nat} {states : List Nat} {permitted : Bool} {argument : State → Nat} {eff : State → State}
  {F : Fuses} {fs : List Fld} {s t : State}

/-! ### Refusals and failures -/

/-- Fields that a signed command may change, however it ends (R537, R538, R551). -/
def signedFields : List Fld :=
  [.SEC_DBG_LEVEL, .SEC_RESULT_REASON, .SEC_RESULT_FAILS, .SEC_DBG_LOCKOUT] ++ refuseFields ++ reportFields

/-- Of these the fields that a failure may change (R538). -/
def failFields : List Fld := [.SEC_RESULT_REASON, .SEC_RESULT_FAILS, .SEC_DBG_LOCKOUT] ++ refuseFields ++ reportFields

theorem Touches.secRefuse (h : Touches fs s t) (hf : ∀ f ∈ .SEC_RESULT_REASON :: refuseFields ++ reportFields, f ∈ fs := by decide) :
    Touches fs s (secRefuse code m t) := by
  unfold Machine.secRefuse
  exact (((h.put (hf _ (by decide)) _ _).respond 0 false).trans ((refuse_report ..).mono (fun f hm => hf f (List.mem_cons_of_mem _ hm))))

theorem Touches.secFail (h : Touches fs s t) (hf : ∀ f ∈ failFields, f ∈ fs := by decide) : Touches fs s (secFail code m t) := by
  have hreport : ∀ f ∈ reportFields, f ∈ fs := fun f hm => hf f (List.mem_append_right _ hm)
  unfold Machine.secFail
  refine Touches.secRefuse (Touches.notice hreport _ (Touches.onlyIf _ (fun u => ?_) (h.bump (hf _ (by decide)) _ _))) (fun f hm => hf f ?_)
  · exact Touches.put (hf _ (by decide)) _ _ (Touches.refl _ u)
  · exact (show ∀ f ∈ .SEC_RESULT_REASON :: refuseFields ++ reportFields, f ∈ failFields by decide) f hm

theorem secRefuse_get {f : Fld} (hf : f ∉ .SEC_RESULT_REASON :: refuseFields ++ reportFields := by decide) (i : Nat) :
    (secRefuse code m s).get f i = s.get f i :=
  ((Touches.refl (.SEC_RESULT_REASON :: refuseFields ++ reportFields) s).secRefuse (fun _ h => h)).get hf i

theorem secRefuse_reason (hcode : code < 2 ^ 8) : (secRefuse code m s).get .SEC_RESULT_REASON = code := by
  unfold secRefuse
  rw [State.get_refuse _ _ _ _ (by decide)]
  exact (State.get_put_self ..).trans (Nat.mod_eq_of_lt hcode)

theorem secFail_reason (hcode : code < 2 ^ 8) : (secFail code m s).get .SEC_RESULT_REASON = code := by
  unfold secFail
  exact secRefuse_reason hcode

/-- A failure is counted (R538). -/
theorem secFail_fails : (secFail code m s).get .SEC_RESULT_FAILS = satAdd 8 (s.get .SEC_RESULT_FAILS) 1 := by
  have hlock (b : Bool) (u : State) : (onlyIf b (·.put .SEC_DBG_LOCKOUT 0 1) u).get .SEC_RESULT_FAILS = u.get .SEC_RESULT_FAILS := by
    cases b
    · rfl
    · exact State.get_put_other u (by decide) ..
  unfold secFail
  rw [secRefuse_get, State.get_notice _ _ (by decide), hlock, State.get_bump_self]
  rfl

theorem KeepsCount.secRefuse {n : Nat} (hn : n ≠ 510) (hn' : 506 ≠ n) (h : KeepsCount n s t) : KeepsCount n s (secRefuse code m t) := by
  have hput : KeepsCount n s (t.put .SEC_RESULT_REASON 0 code) := .put (by decide) (by decide) _ _ h
  unfold Machine.secRefuse
  exact KeepsCount.refuse hn hn' code _ m (hput.records rfl rfl)

/-- A failure asserts source 453 (R538). -/
theorem secFail_asserted : Asserted 453 0 s (secFail code m s) := by
  unfold secFail
  dsimp only
  refine Asserted.then (t := notice 453 _) ?_ (.secRefuse (by decide) (by decide) (.refl _ _))
  refine (notice_asserted _ (by decide)).since (.onlyIf _ (fun u => ?_) ?_)
  · exact .put (by decide) (by decide) _ _ (.refl _ u)
  · exact .put (by decide) (by decide) _ _ (.refl _ s)

/-! ### The debug level -/

theorem setDebugLevel_touches (l : Nat) (s : State) : Touches (.SEC_DBG_LEVEL :: reportFields) s (setDebugLevel l s) := by
  unfold setDebugLevel
  refine Touches.ite (Touches.refl _ s) (Touches.notice (by decide) _ (Touches.put (by decide) _ _ (Touches.refl _ s)))

theorem setDebugLevel_level (hl : l < 4) : (setDebugLevel l s).get .SEC_DBG_LEVEL = l := by
  unfold setDebugLevel
  split
  next heq => exact heq
  next =>
    rw [State.get_notice _ _ (by decide), State.get_put_self]
    exact Nat.mod_eq_of_lt hl

/-- A change of the level asserts source 452 (R551). -/
theorem setDebugLevel_asserted (hl : s.get .SEC_DBG_LEVEL ≠ l) : Asserted 452 0 s (setDebugLevel l s) := by
  unfold setDebugLevel
  rw [if_neg hl]
  exact (notice_asserted _ (by decide)).since (.put (by decide) (by decide) _ _ (.refl _ s))

/-! ### How a signed command ends -/

/-- The write arrived, and the nonce is used up (R537). -/
def useNonce (s : State) : State := { s.respond 0 false with nonceAt := none }

theorem useNonce_get (s : State) (f : Fld) (i : Nat) : (useNonce s).get f i = s.get f i := rfl

/-- A signed command was accepted: no reason, and no failures counted (R538). -/
def accepted (s : State) : State := ((useNonce s).put .SEC_RESULT_REASON 0 0).put .SEC_RESULT_FAILS 0 0

/-- A signed command whose signer is permitted, in time and in its lifecycle states, turns on its signature and its argument (R538). -/
theorem signedCommand_permitted (hp : Passes m secCmdOff s) (hbusy : s.get .SEC_RESULT_BUSY = 0) (hlock : s.get .SEC_DBG_LOCKOUT = 0)
    (hstate : s.inForce.lifecycle ∈ states) (hnonce : s.nonceValid = true) (hpermitted : permitted = true) :
    signedCommand cmd slot m states true permitted argument eff s =
      if s.signatureVerifies cmd slot = true then
        if argument (s.respond 0 false) ≠ 0 then secRefuse (argument (s.respond 0 false)) m (useNonce s) else eff (accepted s)
      else secFail 0xD0 m (useNonce s) := by
  have hbusy' : (s.respond 0 false).flag .SEC_RESULT_BUSY = false := State.flag_of_zero hbusy
  have hlock' : (s.respond 0 false).flag .SEC_DBG_LOCKOUT = false := State.flag_of_zero hlock
  have hstate' : ¬(s.respond 0 false).inForce.lifecycle ∉ states := not_not_intro hstate
  have hnonce' : (s.respond 0 false).nonceValid = true := hnonce
  have hsame : (s.respond 0 false).signatureVerifies cmd slot = s.signatureVerifies cmd slot := rfl
  unfold signedCommand
  rw [writeGated_pass hp]
  dsimp only
  rw [hbusy', hlock', if_neg Bool.false_ne_true, if_neg Bool.false_ne_true, if_neg hstate', hnonce', hpermitted, hsame]
  cases s.signatureVerifies cmd slot <;>
    simp only [Bool.not_true, Bool.not_false, Bool.and_false, Bool.and_true, Bool.false_eq_true, if_true, if_false, useNonce, accepted]

/-- An unsigned command in its lifecycle states turns on its argument (R538). -/
theorem unsignedCommand_permitted (hp : Passes m secCmdOff s) (hbusy : s.get .SEC_RESULT_BUSY = 0) (hstate : s.inForce.lifecycle ∈ states)
    (harg : argument (s.respond 0 false) = 0) :
    unsignedCommand m states argument eff s = eff ((s.respond 0 false).put .SEC_RESULT_REASON 0 0) := by
  have hbusy' : (s.respond 0 false).flag .SEC_RESULT_BUSY = false := State.flag_of_zero hbusy
  have hstate' : ¬(s.respond 0 false).inForce.lifecycle ∉ states := not_not_intro hstate
  unfold unsignedCommand
  rw [writeGated_pass hp, hbusy', if_neg Bool.false_ne_true, if_neg hstate', if_neg (not_not_intro harg)]

/-- The state with other fuses. -/
def fuse (F : Fuses) (s : State) : State := { s with fuses := F }

theorem fuse_get (F : Fuses) (s : State) (f : Fld) (i : Nat) : (fuse F s).get f i = s.get f i := rfl

theorem Touches.fuse (F : Fuses) (h : Touches fs s t) : Touches fs (fuse F s) (fuse F t) := by
  refine ⟨?_, h.2⟩
  rw [h.1]
  rfl

theorem Touches.fuses (h : Touches fs s t) : t.fuses = s.fuses := by rw [h.1]

theorem Touches.inForce (h : Touches fs s t) : t.inForce = s.inForce := by rw [h.1]

/-- A signed command ended with fuses and a reason, and its nonce is used up. -/
structure SignedEnd (F : Fuses) (code : Nat) (s t : State) : Prop where
  nonceAt : t.nonceAt = none
  inForce : t.inForce = s.inForce
  fuses : t.fuses = F
  reason : t.get .SEC_RESULT_REASON = code
  touches : Touches signedFields { s with fuses := t.fuses, nonceAt := none } t

namespace SignedEnd

theorem of_touches (h : Touches signedFields { s with fuses := F, nonceAt := none } t) (hreason : t.get .SEC_RESULT_REASON = code) :
    SignedEnd F code s t := by
  have hfuses : t.fuses = F := by rw [h.1]
  exact ⟨by rw [h.1], by rw [h.1], hfuses, hreason, hfuses.symm ▸ h⟩

/-- A command that fused nothing. -/
theorem unfused (h : SignedEnd s.fuses code s t) : Touches signedFields { s with nonceAt := none } t := by
  have hfuses : t.fuses = s.fuses := h.fuses
  exact (hfuses ▸ h.touches : Touches signedFields { s with fuses := s.fuses, nonceAt := none } t)

theorem failed : SignedEnd s.fuses 0xD0 s (secFail 0xD0 m (useNonce s)) :=
  of_touches (Touches.secFail (Touches.records (Touches.refl _ _) rfl rfl)) (secFail_reason (by decide))

theorem refused (hcode : code < 2 ^ 8) : SignedEnd s.fuses code s (secRefuse code m (useNonce s)) :=
  of_touches (Touches.secRefuse (Touches.records (Touches.refl _ _) rfl rfl)) (secRefuse_reason hcode)

theorem fused (F : Fuses) (s : State) : SignedEnd F 0 s (fuse F (accepted s)) := by
  have huse : Touches signedFields { s with nonceAt := none } (useNonce s) := Touches.records (Touches.refl _ _) rfl rfl
  have haccepted : Touches signedFields { s with nonceAt := none } (accepted s) :=
    Touches.put (by decide) _ _ (Touches.put (by decide) _ _ huse)
  refine of_touches (haccepted.fuse F) ?_
  rw [fuse_get, accepted, State.get_put_other _ (by decide), State.get_put_self]
  rfl

theorem level (h : SignedEnd F code s t) (l : Nat) : SignedEnd F code s (setDebugLevel l t) := by
  have htouch := setDebugLevel_touches l t
  have hfuses : t.fuses = F := h.fuses
  exact of_touches ((hfuses ▸ h.touches).trans (htouch.mono (by decide))) ((htouch.get (by decide) 0).trans h.reason)

end SignedEnd

/-- A signed command that ended changed no level unless it was accepted (R538). -/
theorem secFail_level : (secFail code m (useNonce s)).get .SEC_DBG_LEVEL = s.get .SEC_DBG_LEVEL := by
  refine Eq.trans ?_ (useNonce_get s _ 0)
  exact ((Touches.refl _ _).secFail (fs := failFields) (fun _ h => h)).get (by decide) 0

/-! ### Nonce, RELOCK and UNLOCK -/

/-- The state with a fresh nonce (R537). -/
def drawNonce (s : State) : State :=
  let fresh := { s with freeCount := s.freeCount + 1, nonceAt := some s.tick }
  (((fresh.put .SEC_NONCE 0 (Config.nonceWord s.freeCount 0)).put .SEC_NONCE 1 (Config.nonceWord s.freeCount 1)).put .SEC_NONCE 2
    (Config.nonceWord s.freeCount 2)).put .SEC_NONCE 3 (Config.nonceWord s.freeCount 3)

theorem drawNonce_word {k : Nat} (hk : k < 4) : (drawNonce s).get .SEC_NONCE k = Config.nonceWord s.freeCount k % 2 ^ 32 := by
  rw [show 32 = Fld.SEC_NONCE.info.w from rfl]
  unfold drawNonce
  interval_cases k <;> simp [State.get_put]

theorem drawNonce_touches : Touches [.SEC_NONCE] { s with freeCount := s.freeCount + 1, nonceAt := some s.tick } (drawNonce s) :=
  Touches.put (by decide) _ _ (Touches.put (by decide) _ _ (Touches.put (by decide) _ _ (Touches.put (by decide) _ _ (Touches.refl _ _))))

/-- A read of the nonce draws a fresh one and answers with its first word (R537). -/
theorem exec_nonceRead_pass (hg : regGate m 0x13C0010 4 false s = none) :
    exec (.nonceRead m) s = .next ((drawNonce s).respond (Config.nonceWord s.freeCount 0 % 2 ^ 32) false) := by
  rw [exec_nonceRead, execNonceRead, readGated, hg]
  rfl

/-- RELOCK in the states that have it (R538). -/
theorem exec_relock_pass (hp : Passes m secCmdOff s) (hbusy : s.get .SEC_RESULT_BUSY = 0) (hstate : s.inForce.lifecycle ≤ 3) :
    exec (.relock m slot) s = .next (setDebugLevel 0 ((s.respond 0 false).put .SEC_RESULT_REASON 0 0)) := by
  have hmem : s.inForce.lifecycle ∈ [0, 1, 2, 3] := by
    simp only [List.mem_cons, List.not_mem_nil, or_false]
    omega
  rw [exec_relock, execRelock, unsignedCommand_permitted hp hbusy hmem rfl]

/-- UNLOCK of a permitted level turns on its signature (R538, R551). -/
theorem exec_unlock_permitted (hp : Passes m secCmdOff s) (hbusy : s.get .SEC_RESULT_BUSY = 0) (hlock : s.get .SEC_DBG_LOCKOUT = 0)
    (hlo : 1 ≤ s.inForce.lifecycle) (hhi : s.inForce.lifecycle ≤ 3) (hnonce : s.nonceValid = true) (hslot : s.isPrincipal slot = true)
    (hceiling : bitsAt (s.get .SEC_ARG) 0 2 ≤ s.debugCeiling) :
    exec (.unlock m slot) s = .next (if s.signatureVerifies 0x01 slot = true then setDebugLevel (bitsAt (s.get .SEC_ARG) 0 2) (accepted s)
      else secFail 0xD0 m (useNonce s)) := by
  have hmem : s.inForce.lifecycle ∈ [0, 1, 2, 3] := by
    simp only [List.mem_cons, List.not_mem_nil, or_false]
    omega
  have hblank : (s.inForce.lifecycle == 0) = false := beq_eq_false_iff_ne.mpr (by omega)
  have harg : (if (s.respond 0 false).debugCeiling < bitsAt (s.get .SEC_ARG) 0 2 then 0xD6 else 0) = 0 := if_neg (Nat.not_lt.mpr hceiling)
  rw [exec_unlock, execUnlock, hblank]
  rw [show (!(false && decide (bitsAt (s.get .SEC_ARG) 0 2 ≤ 1))) = true from rfl, signedCommand_permitted hp hbusy hlock hmem hnonce hslot, harg, if_neg (not_not_intro rfl)]

/-- Settles O21: a nonce read, RELOCK, and UNLOCK by whether its signature verifies. -/
theorem unlockNeedsASignedNonce : Obligations.UnlockNeedsASignedNonce := by
  unfold Obligations.UnlockNeedsASignedNonce
  intro m slot s
  refine ⟨fun hg => ?_, fun hp hbusy hstate hlevel => ?_, fun hp hbusy hlock hlo hhi hnonce hslot hceiling => ?_⟩
  · -- a nonce read
    exact ⟨_, exec_nonceRead_pass hg, rfl, fun k hk => drawNonce_word hk, rfl, drawNonce_touches.respond _ _⟩
  · -- RELOCK
    have hput : (s.put .SEC_RESULT_REASON 0 0).get .SEC_DBG_LEVEL = s.get .SEC_DBG_LEVEL := State.get_put_other _ (by decide) ..
    have hset := setDebugLevel_touches 0 ((s.respond 0 false).put .SEC_RESULT_REASON 0 0)
    refine ⟨_, exec_relock_pass hp hbusy hstate, setDebugLevel_level (by decide), ?_, ?_, ?_⟩
    · exact (hset.get (by decide) 0).trans (State.get_put_self ..)
    · refine (setDebugLevel_asserted (l := 0) ?_).since (.put (by decide) (by decide) _ _ (.records (.refl ..) rfl rfl))
      exact fun h => hlevel (hput.symm.trans h)
    · exact Touches.trans (Touches.put (by decide) _ _ (Touches.respond _ _ (Touches.refl _ s))) (hset.mono (by decide))
  · -- UNLOCK
    have hexec := exec_unlock_permitted hp hbusy hlock hlo hhi hnonce hslot hceiling
    split at hexec
    next hverifies =>
      have hend := (SignedEnd.fused s.fuses s).level (bitsAt (s.get .SEC_ARG) 0 2)
      refine ⟨_, hexec, hend.nonceAt, ?_, hend.unfused⟩
      rw [if_pos hverifies]
      refine ⟨setDebugLevel_level (bitsAt_lt ..), hend.reason, ?_⟩
      exact ((setDebugLevel_touches _ (accepted s)).get (by decide) 0).trans (State.get_put_self ..)
    next hfails =>
      have hend := SignedEnd.failed (m := m) (s := s)
      refine ⟨_, hexec, hend.nonceAt, ?_, hend.unfused⟩
      rw [if_neg hfails]
      refine ⟨secFail_level, hend.reason, ?_, secFail_asserted.since ⟨useNonce_get .., useNonce_get ..⟩⟩
      rw [secFail_fails, useNonce_get]

/-! ### Lifecycle, revocation and the floor -/

section
variable (hp : Passes m secCmdOff s) (hbusy : s.get .SEC_RESULT_BUSY = 0) (hlock : s.get .SEC_DBG_LOCKOUT = 0)
  (hstate : s.inForce.lifecycle ∈ states) (hnonce : s.nonceValid = true) (hpermitted : permitted = true)
include hp hbusy hlock hstate hnonce hpermitted

/-- A signed command without argument that fuses and lowers the debug level (R539). -/
theorem signedCommand_lowers (heff : eff (accepted s) = setDebugLevel 0 (fuse F (accepted s))) :
    ∃ t, signedCommand cmd slot m states true permitted (fun _ => 0) eff s = t ∧ t.nonceAt = none ∧ t.inForce = s.inForce
      ∧ t.fuses = (if s.signatureVerifies cmd slot then F else s.fuses)
      ∧ t.get .SEC_DBG_LEVEL = (if s.signatureVerifies cmd slot then 0 else s.get .SEC_DBG_LEVEL)
      ∧ t.get .SEC_RESULT_REASON = (if s.signatureVerifies cmd slot then 0 else 0xD0)
      ∧ Touches signedFields { s with fuses := t.fuses, nonceAt := none } t := by
  refine ⟨_, signedCommand_permitted hp hbusy hlock hstate hnonce hpermitted, ?_⟩
  rw [if_neg (not_not_intro rfl), heff]
  cases s.signatureVerifies cmd slot
  · simp only [Bool.false_eq_true, if_false]
    have hend := SignedEnd.failed (m := m) (s := s)
    exact ⟨hend.nonceAt, hend.inForce, hend.fuses, secFail_level, hend.reason, hend.touches⟩
  · simp only [if_true]
    have hend := (SignedEnd.fused F s).level 0
    exact ⟨hend.nonceAt, hend.inForce, hend.fuses, setDebugLevel_level (by decide), hend.reason, hend.touches⟩

/-- A signed command that fuses where its argument is right (R538). -/
theorem signedCommand_fuses {ok : Prop} [Decidable ok] (hcode : code < 2 ^ 8) (harg : argument (s.respond 0 false) = if ok then 0 else code)
    (hzero : code ≠ 0) (heff : ok → eff (accepted s) = fuse F (accepted s)) :
    ∃ t, signedCommand cmd slot m states true permitted argument eff s = t ∧ t.nonceAt = none
      ∧ t.fuses = (if s.signatureVerifies cmd slot ∧ ok then F else s.fuses)
      ∧ t.get .SEC_RESULT_REASON = (if !s.signatureVerifies cmd slot then 0xD0 else if ok then 0 else code)
      ∧ Touches signedFields { s with fuses := t.fuses, nonceAt := none } t := by
  refine ⟨_, signedCommand_permitted hp hbusy hlock hstate hnonce hpermitted, ?_⟩
  rw [harg]
  cases s.signatureVerifies cmd slot
  · simp only [Bool.false_eq_true, if_false, false_and, Bool.not_false, if_true]
    have hend := SignedEnd.failed (m := m) (s := s)
    exact ⟨hend.nonceAt, hend.fuses, hend.reason, hend.touches⟩
  · simp only [if_true, true_and, Bool.not_true, Bool.false_eq_true, if_false]
    by_cases hok : ok
    · simp only [if_pos hok, ne_eq, not_true_eq_false, if_false, heff hok]
      have hend := SignedEnd.fused F s
      exact ⟨hend.nonceAt, hend.fuses, hend.reason, hend.touches⟩
    · simp only [if_neg hok, ne_eq, hzero, not_false_eq_true, if_true]
      have hend := SignedEnd.refused (m := m) (s := s) hcode
      exact ⟨hend.nonceAt, hend.fuses, hend.reason, hend.touches⟩

end

/-- The fuses that PROVISION of a part leaves (R538). -/
def provisioned (s : State) : Fuses :=
  let owners := (List.range 4).map (fun i => s.provBytes (24 * i) 24)
  let safeties := (List.range 2).map (fun i => s.provBytes (96 + 24 * i) 24)
  { s.fuses with
    ownerKeys := blowKeys s.fuses.ownerKeys owners, ownerRevoked := s.fuses.ownerRevoked ||| emptyMask owners
    safetyKeys := blowKeys s.fuses.safetyKeys safeties, safetyRevoked := s.fuses.safetyRevoked ||| emptyMask safeties
    imageKey := blowBytes s.fuses.imageKey (s.provBytes 144 8), lifecycle := max s.fuses.lifecycle 1 }

/-- Of keys of which one is not empty, not all are. -/
theorem all_emptyKey_false {n : Nat} {key : Nat → List Byte} (h : ∃ i < n, emptyKey (key i) = false) :
    ((List.range n).map key).all emptyKey = false := by
  obtain ⟨i, hi, hkey⟩ := h
  exact List.all_eq_false.mpr ⟨key i, List.mem_map_of_mem (List.mem_range.mpr hi), by rw [hkey]; exact Bool.false_ne_true⟩

theorem provBytes_of_touches (h : Touches fs s t) (hfs : .SEC_PROV ∉ fs) (w n : Nat) : t.provBytes w n = s.provBytes w n := by
  unfold State.provBytes
  simp only [h.get hfs]

/-- The write of PROVISION arrived, and no reason is recorded. -/
def provisionArrived (s : State) : State := (s.respond 0 false).put .SEC_RESULT_REASON 0 0

theorem provisionArrived_touches : Touches [.SEC_RESULT_REASON] s (provisionArrived s) :=
  Touches.put (by decide) _ _ (Touches.respond 0 false (Touches.refl _ s))

/-- PROVISION of a blank part whose keys are not all empty (R538). -/
theorem exec_provision_pass (hp : Passes m secCmdOff s) (hbusy : s.get .SEC_RESULT_BUSY = 0) (hstate : s.inForce.lifecycle = 0)
    (howner : ∃ i < 4, emptyKey (s.provBytes (24 * i) 24) = false) (hsafety : ∃ i < 2, emptyKey (s.provBytes (96 + 24 * i) 24) = false) :
    exec (.provision m slot) s = .next (setDebugLevel 0 (fuse (provisioned s) (provisionArrived s))) := by
  have hmem : s.inForce.lifecycle ∈ [0] := List.mem_singleton.mpr hstate
  rw [exec_provision, execProvision]
  dsimp only
  rw [all_emptyKey_false howner, all_emptyKey_false hsafety, unsignedCommand_permitted hp hbusy hmem rfl, ← provisionArrived,
    provBytes_of_touches provisionArrived_touches (by decide)]
  rfl

/-- Settles O22: PROVISION, the signed commands of the lifecycle, and the signed commands of revocation and the floor. -/
theorem lifecycleRevocationAndFloor : Obligations.LifecycleRevocationAndFloor := by
  unfold Obligations.LifecycleRevocationAndFloor
  refine ⟨fun m slot s hp hbusy => ⟨fun hstate howner hsafety => ?_, fun hlock hnonce hslot hstate => ?_, fun hlock hnonce hslot hstate => ?_⟩,
    fun m slot s hp hbusy hlock hnonce hstate => ⟨fun hslot hother => ?_, fun hslot hother => ?_, fun hslot => ?_⟩⟩
  · -- PROVISION
    have hstart := (provisionArrived_touches (s := s)).fuse (provisioned s)
    have hset := setDebugLevel_touches 0 (fuse (provisioned s) (provisionArrived s))
    have htouch := (hstart.mono (gs := [.SEC_DBG_LEVEL, .SEC_RESULT_REASON] ++ reportFields) (by decide)).trans (hset.mono (by decide))
    have hfuses : _ = provisioned s := htouch.fuses
    refine ⟨_, exec_provision_pass hp hbusy hstate howner hsafety, ?_, ?_, setDebugLevel_level (by decide), ?_, fun hblank => ?_,
      fun hblank => ?_, ?_⟩
    · rw [hfuses]
      rfl
    · exact htouch.inForce
    · rw [hset.get (by decide) 0, fuse_get, provisionArrived, State.get_put_self]
      rfl
    · rw [hfuses]
      show blowKeys s.fuses.ownerKeys _ = _
      rw [hblank]
      rfl
    · rw [hfuses]
      show blowKeys s.fuses.safetyKeys _ = _
      rw [hblank]
      rfl
    · rw [hfuses]
      exact htouch
  · -- DEPLOY
    obtain ⟨t, heq, h⟩ := signedCommand_lowers (cmd := 0x11) (eff := advanceLifecycle 2) hp hbusy hlock (List.mem_singleton.mpr hstate)
      hnonce hslot rfl
    exact ⟨t, congrArg _ heq, h⟩
  · -- RETURN
    have hmem : s.inForce.lifecycle ∈ [1, 2] := List.mem_pair.mpr hstate
    obtain ⟨t, heq, h⟩ := signedCommand_lowers (cmd := 0x12) (eff := fun s => advanceLifecycle 3 { s with fuses := { s.fuses with imageKey := List.replicate 32 0xFF, keyDestroyed := true } })
      (F := { s.fuses with lifecycle := max s.fuses.lifecycle 3, imageKey := List.replicate 32 0xFF, keyDestroyed := true })
      hp hbusy hlock hmem hnonce hslot rfl
    exact ⟨t, congrArg _ heq, h⟩
  · -- REVOKE_OWNER
    have hmem : s.inForce.lifecycle ∈ [1, 2] := List.mem_pair.mpr hstate
    have hsigner : (s.isOwner slot && slot != bitsAt (s.get .SEC_ARG) 0 2) = true := by rw [hslot, bne_iff_ne.mpr hother]; rfl
    obtain ⟨t, heq, hnone, hfuses, hreason, htouch⟩ := signedCommand_fuses (cmd := 0x20) (code := 0xD8)
      (ok := ¬s.fuses.ownerRevoked ||| 2 ^ bitsAt (s.get .SEC_ARG) 0 2 = 15)
      (F := { s.fuses with ownerRevoked := s.fuses.ownerRevoked ||| 2 ^ bitsAt (s.get .SEC_ARG) 0 2 })
      (argument := fun s' => if s'.fuses.ownerRevoked ||| 2 ^ bitsAt (s.get .SEC_ARG) 0 2 = 15 then 0xD8 else 0)
      (eff := fun s' => { s' with fuses := { s'.fuses with ownerRevoked := s'.fuses.ownerRevoked ||| 2 ^ bitsAt (s.get .SEC_ARG) 0 2 } })
      hp hbusy hlock hmem hnonce hsigner (by decide) (ite_not ..).symm (by decide) (fun _ => rfl)
    exact ⟨t, congrArg _ heq, hnone, hfuses, hreason.trans (congrArg (ite _ 0xD0) (ite_not ..)), htouch⟩
  · -- REVOKE_SAFETY
    have hmem : s.inForce.lifecycle ∈ [1, 2] := List.mem_pair.mpr hstate
    have hsigner : (s.isSafetyOwner slot && slot != 0x10 + bitsAt (s.get .SEC_ARG) 0 1) = true := by rw [hslot, bne_iff_ne.mpr hother]; rfl
    obtain ⟨t, heq, hnone, hfuses, hreason, htouch⟩ := signedCommand_fuses (cmd := 0x21) (code := 0xD8)
      (ok := ¬s.fuses.safetyRevoked ||| 2 ^ bitsAt (s.get .SEC_ARG) 0 1 = 3)
      (F := { s.fuses with safetyRevoked := s.fuses.safetyRevoked ||| 2 ^ bitsAt (s.get .SEC_ARG) 0 1 })
      (argument := fun s' => if s'.fuses.safetyRevoked ||| 2 ^ bitsAt (s.get .SEC_ARG) 0 1 = 3 then 0xD8 else 0)
      (eff := fun s' => { s' with fuses := { s'.fuses with safetyRevoked := s'.fuses.safetyRevoked ||| 2 ^ bitsAt (s.get .SEC_ARG) 0 1 } })
      hp hbusy hlock hmem hnonce hsigner (by decide) (ite_not ..).symm (by decide) (fun _ => rfl)
    exact ⟨t, congrArg _ heq, hnone, hfuses, hreason.trans (congrArg (ite _ 0xD0) (ite_not ..)), htouch⟩
  · -- RAISE_FLOOR
    have hmem : s.inForce.lifecycle ∈ [1, 2] := List.mem_pair.mpr hstate
    have harg : (if 64 < bitsAt (s.get .SEC_ARG) 0 7 ∨ bitsAt (s.get .SEC_ARG) 0 7 ≤ s.fuses.floor then 0xD9 else 0) =
        if s.fuses.floor < bitsAt (s.get .SEC_ARG) 0 7 ∧ bitsAt (s.get .SEC_ARG) 0 7 ≤ 64 then 0 else 0xD9 := by
      split <;> split <;> omega
    have heff (hok : s.fuses.floor < bitsAt (s.get .SEC_ARG) 0 7 ∧ bitsAt (s.get .SEC_ARG) 0 7 ≤ 64) :
        fuse { s.fuses with floor := max s.fuses.floor (bitsAt (s.get .SEC_ARG) 0 7) } (accepted s)
          = fuse { s.fuses with floor := bitsAt (s.get .SEC_ARG) 0 7 } (accepted s) := by
      rw [Nat.max_eq_right (Nat.le_of_lt hok.1)]
    obtain ⟨t, heq, hnone, hfuses, hreason, htouch⟩ := signedCommand_fuses (cmd := 0x22) (code := 0xD9)
      (argument := fun s' => if 64 < bitsAt (s.get .SEC_ARG) 0 7 ∨ bitsAt (s.get .SEC_ARG) 0 7 ≤ s'.fuses.floor then 0xD9 else 0)
      (eff := fun s' => { s' with fuses := { s'.fuses with floor := max s'.fuses.floor (bitsAt (s.get .SEC_ARG) 0 7) } })
      hp hbusy hlock hmem hnonce hslot (by decide) harg (by decide) heff
    exact ⟨t, congrArg _ heq, hnone, hfuses, hreason, htouch⟩

end Sys2Proof.Machine
end

section
/-!
PROOFS. Monitors and the JTAG port (R549, R550, R554).
-/
namespace Sys2Proof.Machine

variable {r d : Nat} {x : Int} {s u : State}

/-! ### The temperature -/

/-- The fields that a reading shows, and whether source 450 is raised (R549). -/
def tempFields : List Fld := [.PWR_TEMP_TEMP, .PWR_TEMP_WARN, .PWR_TEMP_CRIT, .TEMP_RAISED]

/-- A reading is shown with its warning and critical bits (R549, R556). -/
def showTemp (x : Int) (s : State) : State :=
  ((s.put .PWR_TEMP_TEMP 0 (ofSigned 16 x)).putFlag .PWR_TEMP_WARN 0 (decide ((s.get .PWR_TEMP_WARN_LIMIT : Int) * 128 ≤ x))).putFlag
    .PWR_TEMP_CRIT 0 (decide (110 * 128 ≤ x))

/-- A reading is shown; one well below the limit lets the next warning be raised, and a warning that was not raised is (R549). -/
theorem tempReading_eq (x : Int) (s : State) : tempReading x s =
    onlyIf (decide ((s.get .PWR_TEMP_WARN_LIMIT : Int) * 128 ≤ x) &&
        !(onlyIf (decide (x ≤ ((s.get .PWR_TEMP_WARN_LIMIT : Int) - 5) * 128)) (·.put .TEMP_RAISED 0 0) (showTemp x s)).flag .TEMP_RAISED)
      (fun s => notice 450 (s.put .TEMP_RAISED 0 1))
      (onlyIf (decide (x ≤ ((s.get .PWR_TEMP_WARN_LIMIT : Int) - 5) * 128)) (·.put .TEMP_RAISED 0 0) (showTemp x s)) := rfl

theorem showTemp_touches (x : Int) (s : State) : Touches tempFields s (showTemp x s) := by
  unfold showTemp
  exact Touches.putFlag (by decide) _ _ (Touches.putFlag (by decide) _ _ (Touches.put (by decide) _ _ (Touches.refl _ s)))

theorem tempReading_touches (x : Int) (s : State) : Touches (tempFields ++ reportFields) s (tempReading x s) := by
  rw [tempReading_eq]
  refine Touches.onlyIf _ (fun u => ?_) (Touches.onlyIf _ (fun u => ?_) ((showTemp_touches x s).mono (by decide)))
  · exact Touches.notice (by decide) _ (Touches.put (by decide) _ _ (Touches.refl _ u))
  · exact Touches.put (by decide) _ _ (Touches.refl _ u)

/-- What a reading shows stands, whatever it raises. -/
theorem tempReading_get {f : Fld} (hf : f ∉ .TEMP_RAISED :: reportFields) (i : Nat) : (tempReading x s).get f i = (showTemp x s).get f i := by
  have htouch : Touches (.TEMP_RAISED :: reportFields) (showTemp x s) (tempReading x s) := by
    rw [tempReading_eq]
    refine Touches.onlyIf _ (fun u => ?_) (Touches.onlyIf _ (fun u => ?_) (Touches.refl _ _))
    · exact Touches.notice (by decide) _ (Touches.put (by decide) _ _ (Touches.refl _ u))
    · exact Touches.put (by decide) _ _ (Touches.refl _ u)
  exact htouch.get hf i

theorem tempReading_temp : (tempReading x s).get .PWR_TEMP_TEMP = ofSigned 16 x % 2 ^ 16 := by
  rw [tempReading_get (by decide), showTemp, State.get_putFlag_other _ (by decide), State.get_putFlag_other _ (by decide), State.get_put_self]
  rfl

theorem tempReading_warn (h : (s.get .PWR_TEMP_WARN_LIMIT : Int) * 128 ≤ x) : (tempReading x s).get .PWR_TEMP_WARN = 1 := by
  rw [tempReading_get (by decide), showTemp, State.get_putFlag_other _ (by decide), State.get_putFlag_self, decide_eq_true h]
  rfl

theorem tempReading_crit (h : 110 * 128 ≤ x) : (tempReading x s).get .PWR_TEMP_CRIT = 1 := by
  rw [tempReading_get (by decide), showTemp, State.get_putFlag_self, decide_eq_true h]
  rfl

/-- A reading counts for no source but 450 and the source that reports storms. -/
theorem tempReading_keepsCount {n : Nat} (hn : n ≠ 510) (hn' : 450 ≠ n) : KeepsCount n s (tempReading x s) := by
  have hshow : KeepsCount n s (showTemp x s) := .of_touches (showTemp_touches x s)
  rw [tempReading_eq]
  refine .onlyIf _ (fun u => ?_) (.onlyIf _ (fun u => ?_) hshow)
  · exact .assertEv hn' hn 0 (.put (by decide) (by decide) _ _ (.refl _ u))
  · exact .put (by decide) (by decide) _ _ (.refl _ u)

/-- A first warning asserts source 450 (R549). -/
theorem tempReading_asserted (h : (s.get .PWR_TEMP_WARN_LIMIT : Int) * 128 ≤ x) (hfirst : s.get .TEMP_RAISED = 0) :
    Asserted 450 0 s (tempReading x s) := by
  have hshow : KeepsCount 450 s (showTemp x s) := .of_touches (showTemp_touches x s)
  have hraised : (showTemp x s).get .TEMP_RAISED = 0 := by
    rw [showTemp, State.get_putFlag_other _ (by decide), State.get_putFlag_other _ (by decide), State.get_put_other _ (by decide), hfirst]
  have hwarm : decide (x ≤ ((s.get .PWR_TEMP_WARN_LIMIT : Int) - 5) * 128) = false := decide_eq_false (by omega)
  rw [tempReading_eq, hwarm, onlyIf_false, State.flag_of_zero hraised, decide_eq_true h, Bool.not_false, Bool.and_self, onlyIf_true]
  exact (notice_asserted _ (by decide)).since (.put (by decide) (by decide) _ _ hshow)

/-! ### Clocks, supplies and the port -/

/-- A clock that fails is recorded and asserts source 455 as fatal (R549). -/
theorem exec_clockMonitor_fails (hd : d < 8) (hne : d ≠ 0) :
    exec (.clockMonitor d) s = .next (assertEv 455 3 (s.put .PWR_MON_CLOCK 0 (s.get .PWR_MON_CLOCK ||| d))) := by
  have hbit : (d % 8 != 0) = true := bne_iff_ne.mpr (by omega)
  rw [exec_clockMonitor, execClockMonitor, hbit, onlyIf_true, Nat.mod_eq_of_lt hd]

/-- A supply that fails while the part holds no claim (R549). -/
theorem exec_supplyOutOfRange_unclaimed (hr : r < 8) (hclaim : s.get .TWN_STAT_CLAIM = 0) :
    exec (.supplyOutOfRange r) s = .next ((assertEv 449 3 (s.put .PWR_MON_RAIL 0 (s.get .PWR_MON_RAIL ||| 2 ^ r))).put .TWN_WANT 0 0) := by
  have hkept : (assertEv 449 3 (s.put .PWR_MON_RAIL 0 (s.get .PWR_MON_RAIL ||| 2 ^ r))).flag .TWN_STAT_CLAIM = false :=
    State.flag_of_zero (by rw [State.get_assertEv _ _ _ (by decide), State.get_put_other _ (by decide), hclaim])
  rw [exec_supplyOutOfRange, execSupplyOutOfRange, decide_eq_true hr, onlyIf_true]
  dsimp only
  rw [hkept, onlyIf_false]

/-- The boundary-scan instructions that drive pins need the level Full and a part in Reset or Quiet (R550). -/
theorem if_drivesPins (i : JtagIns) (s : State) :
    (if (s.debugLevel == 3 && (s.get .PWR_STAT_STATE == 1 || s.inQuiet)) = true then i else JtagIns.bypass) =
      if s.debugLevel = 3 ∧ (s.get .PWR_STAT_STATE = 1 ∨ s.get .PWR_STAT_STATE = 4) then i else .bypass := by
  simp [State.inQuiet]

/-- Settles O23: the temperature's reading and its critical level, a clock, a supply, and the port's instructions one by one. -/
theorem monitorsAndJtag : Obligations.MonitorsAndJtag := by
  unfold Obligations.MonitorsAndJtag
  intro s
  refine ⟨fun x hwarn hfirst => ?_, fun x hcrit => ?_, fun d hd hne => ?_, fun r hr hclaim => ?_, fun i => ?_⟩
  · exact ⟨_, exec_tempWarning .., tempReading_temp, tempReading_warn hwarn, tempReading_asserted hwarn hfirst, tempReading_touches x s⟩
  · have hexec : exec (.tempCritical x) s = .next (assertEv 451 3 (tempReading x s)) := by
      rw [exec_tempCritical, execTempCritical, decide_eq_true hcrit, onlyIf_true]
    refine ⟨_, hexec, ?_, ?_, Touches.assertEv (by decide) _ _ (tempReading_touches x s)⟩
    · rw [State.get_assertEv _ _ _ (by decide), tempReading_crit hcrit]
    · exact (assertEv_asserted _ (by decide) (by decide)).since (tempReading_keepsCount (by decide) (by decide))
  · refine ⟨_, exec_clockMonitor_fails hd hne, ?_, ?_, ?_⟩
    · rw [State.get_assertEv _ _ _ (by decide)]
      exact State.get_put_self ..
    · exact (assertEv_asserted _ (by decide) (by decide)).since (.put (by decide) (by decide) _ _ (.refl ..))
    · exact Touches.assertEv (by decide) _ _ (Touches.put (by decide) _ _ (Touches.refl _ s))
  · refine ⟨_, exec_supplyOutOfRange_unclaimed hr hclaim, ?_, State.get_put_self .., ?_, ?_⟩
    · rw [State.get_put_other _ (by decide), State.get_assertEv _ _ _ (by decide)]
      exact State.get_put_self ..
    · refine Asserted.then (.since (assertEv_asserted _ (by decide) (by decide)) ?_) (.put (by decide) (by decide) _ _ (.refl ..))
      exact .put (by decide) (by decide) _ _ (.refl ..)
    · exact Touches.put (by decide) _ _ (Touches.assertEv (by decide) _ _ (Touches.put (by decide) _ _ (Touches.refl _ s)))
  · rw [exec_jtagInstruction, execJtagInstruction]
    congr 2
    cases i with
    | idcode => rfl
    | bypass => rfl
    | other => rfl
    | samplePreload => simp [State.jtagAllowed]
    | extest => exact if_drivesPins .extest s
    | extestPulse => exact if_drivesPins .extestPulse s
    | extestTrain => exact if_drivesPins .extestTrain s

end Sys2Proof.Machine
end

section
/-!
PROOFS. General-purpose inputs: causes, levels, the FIFO, and the commands (R568 to R570, R572, R575).
-/
namespace Sys2Proof.Machine

variable {n : Nat} {active coalesced : Bool} {tm : Stamp} {fs gs : List Fld} {m : Master} {s t : State}

/-! ### The FIFO's entries -/

/-- The state with other entries in the FIFO. -/
def setFifo (l : List GpiEntry) (s : State) : State := { s with gpiFifo := l }

theorem setFifo_get (l : List GpiEntry) (s : State) (f : Fld) (i : Nat) : (setFifo l s).get f i = s.get f i := rfl

theorem Touches.setFifo (l : List GpiEntry) (h : Touches fs s t) : Touches fs (setFifo l s) (setFifo l t) := by
  refine ⟨?_, h.2⟩
  rw [h.1]
  rfl

theorem TouchesAt.setFifo (l : List GpiEntry) (h : TouchesAt n fs gs s t) : TouchesAt n fs gs (setFifo l s) (setFifo l t) :=
  ⟨h.1.setFifo l, h.2⟩

theorem Touches.gpiFifo (h : Touches fs s t) : t.gpiFifo = s.gpiFifo := by rw [h.1]

/-- What leaves the FIFO alone, seen from a state with the FIFO that it ends with. -/
theorem TouchesAt.sameFifo (h : TouchesAt n fs gs s t) : TouchesAt n fs gs { s with gpiFifo := t.gpiFifo } t := by
  have hfifo : t.gpiFifo = s.gpiFifo := h.1.gpiFifo
  exact hfifo ▸ h

/-! ### Causes and levels -/

/-- The source of a group of four inputs is none of those that report storms. -/
theorem gpiSource_ne (hn : n < 32) : 464 + n / 4 ≠ 510 := by omega

theorem gpiCause_touches {f : Fld} (en : Fld) (n : Nat) (s : State) (hf : f ∉ reportFields) : TouchesAt n [f] reportFields s (gpiCause f en n s) := by
  have hput : TouchesAt n [f] reportFields s (s.put f n 1) := (TouchesAt.refl n _ _ s).put List.mem_cons_self
  unfold gpiCause
  exact hput.thenTouches (Touches.onlyIf _ (fun u => notice_report _ u) (Touches.refl _ _)) (fun _ h => h)
    (fun g hg => List.mem_singleton.mp hg ▸ hf)

/-- A cause is set (R570). -/
theorem gpiCause_set {f en : Fld} (hf : f ∉ reportFields := by decide) (hw : 1 % 2 ^ f.info.w = 1 := by decide) : (gpiCause f en n s).get f n = 1 := by
  have hkept : Touches reportFields (s.put f n 1) (gpiCause f en n s) := Touches.onlyIf _ (fun u => notice_report _ u) (Touches.refl _ _)
  rw [hkept.get hf, State.get_put_self, hw]

/-- A cause that was clear and is enabled asserts its input's source (R570). -/
theorem gpiCause_asserted {f en : Fld} (hn : n < 32) (hold : s.flag f n = false) (hen : s.flag en n = true)
    (hc : f ≠ .FLT_SRC_STAT_COUNT := by decide) (hl : f ≠ .FLT_SRC_STAT_LAST_CLASS := by decide) :
    Asserted (464 + n / 4) 0 s (gpiCause f en n s) := by
  unfold gpiCause
  dsimp only
  rw [hold, hen, Bool.not_false, Bool.and_self, onlyIf_true]
  exact (notice_asserted _ (gpiSource_ne hn)).since (.put hc hl _ _ (.refl ..))

theorem gpiLevel_touches (n : Nat) (s : State) : TouchesAt n [.FLD_GPI_W2_LEVEL] [] s (gpiLevel n s) := (TouchesAt.refl ..).putFlag

/-- A flag written as a truth value reads as it. -/
theorem State.flag_putFlag (s : State) (f : Fld) (i : Nat) (b : Bool) (hw : 1 % 2 ^ f.info.w = 1 := by decide) : (s.putFlag f i b).flag f i = b := by
  unfold State.flag
  rw [State.get_putFlag_self]
  cases b
  · rw [if_neg Bool.false_ne_true, Nat.zero_mod]
    rfl
  · rw [if_pos rfl, hw]
    rfl

theorem gpiLevel_level : (gpiLevel n s).flag .FLD_GPI_W2_LEVEL n = (s.flag .FLD_GPI_REC n && !s.flag .FLD_GPI_W2_MASKED n) := State.flag_putFlag ..

/-- A field outside the lists reads the same as a flag. -/
theorem Touches.flag (h : Touches fs s t) {f : Fld} (hf : f ∉ fs) (i : Nat) : t.flag f i = s.flag f i := congrArg (· == 1) (h.get hf i)

/-! ### An entry -/

/-- The report that goes with an entry (R570). -/
def pushCause (n : Nat) (active : Bool) (s : State) : State :=
  gpiCause .FLD_GPI_W2_EDGE_C .FLD_GPI_W0_EDGE_EN n (s.putFlag .FLD_GPI_REPORTED n active)

theorem pushCause_touches (n : Nat) (active : Bool) (s : State) :
    TouchesAt n [.FLD_GPI_REPORTED, .FLD_GPI_W2_EDGE_C] reportFields s (pushCause n active s) :=
  TouchesAt.thenAt (TouchesAt.refl ..).putFlag (gpiCause_touches _ n _ (by decide))

/-- An entry that finds room goes last, and the loss it reports is cleared (R570, R572). -/
theorem gpiPush_room (h : s.gpiFifo.length < 64) : gpiPush n active coalesced tm s =
    (setFifo (s.gpiFifo ++ [⟨n, active, tm, coalesced, s.flag .FLD_GPI_LOST⟩]) (pushCause n active s)).put .FLD_GPI_LOST 0 0 := by
  have htouch := (pushCause_touches n active s).1
  unfold gpiPush
  dsimp only
  rw [← pushCause, htouch.gpiFifo, htouch.flag (by decide), if_neg (Nat.not_le.mpr h)]
  rfl

/-- An entry that finds none is discarded, which is recorded (R570). -/
theorem gpiPush_full (h : 64 ≤ s.gpiFifo.length) : gpiPush n active coalesced tm s = (pushCause n active s).put .FLD_GPI_OVERRUN 0 1 := by
  unfold gpiPush
  dsimp only
  rw [← pushCause, (pushCause_touches n active s).1.gpiFifo, if_pos h]

/-- What an entry leaves, whether it finds room or not. -/
theorem gpiPush_spec (n : Nat) (active coalesced : Bool) (tm : Stamp) (s : State) :
    ∃ t, gpiPush n active coalesced tm s = t
      ∧ (s.gpiFifo.length < 64 → t.gpiFifo = s.gpiFifo ++ [⟨n, active, tm, coalesced, s.flag .FLD_GPI_LOST⟩] ∧ t.get .FLD_GPI_LOST = 0)
      ∧ (64 ≤ s.gpiFifo.length → t.gpiFifo = s.gpiFifo ∧ t.get .FLD_GPI_OVERRUN = 1)
      ∧ (∀ f i, f ∉ [.FLD_GPI_LOST, .FLD_GPI_OVERRUN] → t.get f i = (pushCause n active s).get f i)
      ∧ TouchesAt n [.FLD_GPI_REPORTED, .FLD_GPI_W2_EDGE_C] ([.FLD_GPI_LOST, .FLD_GPI_OVERRUN] ++ reportFields) (setFifo t.gpiFifo s) t := by
  have hcause : TouchesAt n [.FLD_GPI_REPORTED, .FLD_GPI_W2_EDGE_C] ([.FLD_GPI_LOST, .FLD_GPI_OVERRUN] ++ reportFields) s (pushCause n active s) :=
    TouchesAt.thenAt (TouchesAt.refl ..) (pushCause_touches n active s)
  by_cases h : s.gpiFifo.length < 64
  · have htouch := (hcause.setFifo (s.gpiFifo ++ [⟨n, active, tm, coalesced, s.flag .FLD_GPI_LOST⟩])).putAny (f := .FLD_GPI_LOST) (i := 0) (v := 0)
    refine ⟨_, gpiPush_room h, fun _ => ⟨rfl, State.get_put_self ..⟩, fun hfull => absurd hfull (Nat.not_le.mpr h), fun f i hf => ?_, htouch⟩
    have hne : .FLD_GPI_LOST ≠ f := fun e => hf (e ▸ List.mem_cons_self)
    rw [State.get_put_other _ hne, setFifo_get]
  · have hfull := Nat.le_of_not_lt h
    have htouch : TouchesAt n _ _ s ((pushCause n active s).put .FLD_GPI_OVERRUN 0 1) := hcause.putAny
    refine ⟨_, gpiPush_full hfull, fun hroom => absurd hroom h, fun _ => ⟨htouch.1.gpiFifo, State.get_put_self ..⟩, fun f i hf => ?_, htouch.sameFifo⟩
    have hne : .FLD_GPI_OVERRUN ≠ f := fun e => hf (e ▸ List.mem_cons_of_mem _ List.mem_cons_self)
    exact State.get_put_other _ hne ..

/-! ### Edges -/

/-- The level that reaches the logic side; an inactive one also ends what was stuck (R570). -/
def edgeLevel (n : Nat) (active : Bool) (s : State) : State :=
  gpiLevel n (onlyIf (!active) (fun s => (s.put .FLD_GPI_W2_STUCK n 0).put .FLD_GPI_W2_MASKED n 0) s)

theorem edgeLevel_touches (n : Nat) (active : Bool) (s : State) :
    TouchesAt n [.FLD_GPI_W2_STUCK, .FLD_GPI_W2_MASKED, .FLD_GPI_W2_LEVEL] [] s (edgeLevel n active s) := by
  refine TouchesAt.thenAt ?_ (gpiLevel_touches n _)
  cases active
  · exact (TouchesAt.refl ..).put.put
  · exact TouchesAt.refl ..

theorem edgeLevel_level (hrec : s.flag .FLD_GPI_REC n = active) :
    (edgeLevel n active s).flag .FLD_GPI_W2_LEVEL n = (active && !s.flag .FLD_GPI_W2_MASKED n) := by
  unfold edgeLevel
  rw [gpiLevel_level]
  cases active
  · have hkept : (((s.put .FLD_GPI_W2_STUCK n 0).put .FLD_GPI_W2_MASKED n 0)).flag .FLD_GPI_REC n = s.flag .FLD_GPI_REC n := by
      unfold State.flag
      rw [State.get_put_other _ (by decide), State.get_put_other _ (by decide)]
    rw [Bool.not_false, onlyIf_true, hkept, hrec]
    rfl
  · rw [Bool.not_true, onlyIf_false, hrec]

theorem edgeLevel_inactive : (edgeLevel n false s).get .FLD_GPI_W2_STUCK n = 0 ∧ (edgeLevel n false s).get .FLD_GPI_W2_MASKED n = 0 := by
  have hlevel (f : Fld) (hf : f ∉ [.FLD_GPI_W2_LEVEL] ++ []) := (gpiLevel_touches n ((s.put .FLD_GPI_W2_STUCK n 0).put .FLD_GPI_W2_MASKED n 0)).1.get hf n
  constructor
  · exact (hlevel _ (by decide)).trans ((State.get_put_other _ (by decide) ..).trans (State.get_put_self ..))
  · exact (hlevel _ (by decide)).trans (State.get_put_self ..)

/-- An edge within the rate makes an entry; one beyond it is counted as excess (R569, R570). -/
theorem gpiEdge_eq (n : Nat) (active : Bool) (tm : Stamp) (s : State) : gpiEdge n active tm s =
    if s.get .FLD_GPI_EDGES n < s.get .FLD_GPI_W0_MAX_RATE n then gpiPush n active false tm ((edgeLevel n active s).inc .FLD_GPI_EDGES n)
    else gpiCause .FLD_GPI_W2_EXCESS_C .FLD_GPI_W0_EXCESS_EN n ((edgeLevel n active s).bump .FLD_GPI_W3_EXCESS n) := by
  have htouch := (edgeLevel_touches n active s).1
  rw [← htouch.get (by decide) (f := .FLD_GPI_EDGES) n, ← htouch.get (by decide) (f := .FLD_GPI_W0_MAX_RATE) n]
  rfl

/-- The fields of an input that its level and its edges may change. -/
def edgeFields : List Fld :=
  [.FLD_GPI_REC, .FLD_GPI_W2_STUCK, .FLD_GPI_W2_MASKED, .FLD_GPI_W2_LEVEL, .FLD_GPI_EDGES, .FLD_GPI_REPORTED, .FLD_GPI_W2_EDGE_C,
   .FLD_GPI_W2_EXCESS_C, .FLD_GPI_W3_EXCESS]

/-- Of these the fields that say how the input stands (R570). -/
def levelFields : List Fld := [.FLD_GPI_REC, .FLD_GPI_W2_STUCK, .FLD_GPI_W2_MASKED, .FLD_GPI_W2_LEVEL]

theorem pushCause_asserted (hn : n < 32) (hold : s.flag .FLD_GPI_W2_EDGE_C n = false) (hen : s.flag .FLD_GPI_W0_EDGE_EN n = true) :
    Asserted (464 + n / 4) 0 s (pushCause n active s) := by
  have hput : Touches [.FLD_GPI_REPORTED] s (s.putFlag .FLD_GPI_REPORTED n active) := Touches.putFlag (by decide) _ _ (Touches.refl _ s)
  exact (gpiCause_asserted hn ((hput.flag (by decide) n).trans hold) ((hput.flag (by decide) n).trans hen)).since (.of_touches hput)

/-- An edge within the rate (R569, R570). -/
theorem gpiEdge_within (hn : n < 32) (hrate : s.get .FLD_GPI_EDGES n < s.get .FLD_GPI_W0_MAX_RATE n) :
    ∃ t, gpiEdge n active tm s = t ∧ (∀ f ∈ levelFields, t.get f n = (edgeLevel n active s).get f n)
      ∧ t.get .FLD_GPI_EDGES n = (s.get .FLD_GPI_EDGES n + 1) % 2 ^ 10 ∧ t.get .FLD_GPI_W2_EDGE_C n = 1
      ∧ (s.flag .FLD_GPI_W2_EDGE_C n = false → s.flag .FLD_GPI_W0_EDGE_EN n = true → Asserted (464 + n / 4) 0 s t)
      ∧ (s.gpiFifo.length < 64 → t.gpiFifo = s.gpiFifo ++ [⟨n, active, tm, false, s.flag .FLD_GPI_LOST⟩] ∧ t.get .FLD_GPI_LOST = 0)
      ∧ (64 ≤ s.gpiFifo.length → t.gpiFifo = s.gpiFifo ∧ t.get .FLD_GPI_OVERRUN = 1)
      ∧ TouchesAt n edgeFields ([.FLD_GPI_LOST, .FLD_GPI_OVERRUN] ++ reportFields) (setFifo t.gpiFifo s) t := by
  have hlevel := edgeLevel_touches n active s
  have hcounted : TouchesAt n [.FLD_GPI_W2_STUCK, .FLD_GPI_W2_MASKED, .FLD_GPI_W2_LEVEL, .FLD_GPI_EDGES] [] s
      ((edgeLevel n active s).inc .FLD_GPI_EDGES n) := TouchesAt.put (TouchesAt.thenAt (TouchesAt.refl ..) hlevel)
  obtain ⟨t, heq, hroom, hfull, hsame, htouch⟩ := gpiPush_spec n active false tm ((edgeLevel n active s).inc .FLD_GPI_EDGES n)
  have hpushed (f : Fld) (hf : f ∉ [.FLD_GPI_LOST, .FLD_GPI_OVERRUN] ++ [.FLD_GPI_REPORTED, .FLD_GPI_W2_EDGE_C] ++ reportFields) (i : Nat) :
      t.get f i = ((edgeLevel n active s).inc .FLD_GPI_EDGES n).get f i := by
    simp only [List.mem_append, not_or] at hf
    obtain ⟨⟨hfifo, hcause⟩, hreport⟩ := hf
    exact (hsame f i hfifo).trans ((pushCause_touches n active _).1.get (mt List.mem_append.mp (not_or.mpr ⟨hcause, hreport⟩)) i)
  refine ⟨t, ?_, fun f hf => ?_, ?_, ?_, fun hold hen => ?_, ?_, ?_, ?_⟩
  · rw [gpiEdge_eq, if_pos hrate, heq]
  · have hout : ∀ f ∈ levelFields, f ∉ [.FLD_GPI_LOST, .FLD_GPI_OVERRUN] ++ [.FLD_GPI_REPORTED, .FLD_GPI_W2_EDGE_C] ++ reportFields
        ∧ .FLD_GPI_EDGES ≠ f := by decide
    obtain ⟨hpush, hne⟩ := hout f hf
    exact (hpushed f hpush n).trans (State.get_put_other _ hne ..)
  · rw [hpushed _ (by decide), State.inc, State.get_put_self, hlevel.1.get (by decide)]
    rfl
  · rw [hsame _ _ (by decide)]
    exact gpiCause_set
  · have hflag (f : Fld) (hf : f ∉ [.FLD_GPI_W2_STUCK, .FLD_GPI_W2_MASKED, .FLD_GPI_W2_LEVEL, .FLD_GPI_EDGES] ++ []) := hcounted.1.flag hf n
    have hasserted := pushCause_asserted (active := active) hn ((hflag _ (by decide)).trans hold) ((hflag _ (by decide)).trans hen)
    exact (hasserted.then ⟨hsame _ _ (by decide), hsame _ _ (by decide)⟩).since (.of_touches hcounted.1)
  · rwa [hcounted.1.gpiFifo, hcounted.1.flag (by decide)] at hroom
  · rwa [hcounted.1.gpiFifo] at hfull
  · exact TouchesAt.thenAt (TouchesAt.thenAt (TouchesAt.refl ..) (hcounted.setFifo t.gpiFifo)) htouch

/-- An edge beyond the rate (R569, R570). -/
theorem gpiEdge_excess (hn : n < 32) (hrate : s.get .FLD_GPI_W0_MAX_RATE n ≤ s.get .FLD_GPI_EDGES n) :
    ∃ t, gpiEdge n active tm s = t ∧ (∀ f ∈ levelFields, t.get f n = (edgeLevel n active s).get f n)
      ∧ t.gpiFifo = s.gpiFifo ∧ t.get .FLD_GPI_W3_EXCESS n = satAdd 16 (s.get .FLD_GPI_W3_EXCESS n) 1 ∧ t.get .FLD_GPI_W2_EXCESS_C n = 1
      ∧ t.get .FLD_GPI_EDGES n = s.get .FLD_GPI_EDGES n
      ∧ (s.flag .FLD_GPI_W2_EXCESS_C n = false → s.flag .FLD_GPI_W0_EXCESS_EN n = true → Asserted (464 + n / 4) 0 s t)
      ∧ TouchesAt n edgeFields ([.FLD_GPI_LOST, .FLD_GPI_OVERRUN] ++ reportFields) s t := by
  have hlevel := edgeLevel_touches n active s
  have hcounted : TouchesAt n [.FLD_GPI_W2_STUCK, .FLD_GPI_W2_MASKED, .FLD_GPI_W2_LEVEL, .FLD_GPI_W3_EXCESS] [] s
      ((edgeLevel n active s).bump .FLD_GPI_W3_EXCESS n) := TouchesAt.bump (TouchesAt.thenAt (TouchesAt.refl ..) hlevel)
  have hcause := gpiCause_touches (f := .FLD_GPI_W2_EXCESS_C) .FLD_GPI_W0_EXCESS_EN n ((edgeLevel n active s).bump .FLD_GPI_W3_EXCESS n) (by decide)
  have htouch : TouchesAt n [.FLD_GPI_W2_STUCK, .FLD_GPI_W2_MASKED, .FLD_GPI_W2_LEVEL, .FLD_GPI_W3_EXCESS, .FLD_GPI_W2_EXCESS_C] reportFields s _ :=
    TouchesAt.thenAt (TouchesAt.thenAt (TouchesAt.refl ..) hcounted) hcause
  have hflag (f : Fld) (hf : f ∉ [.FLD_GPI_W2_STUCK, .FLD_GPI_W2_MASKED, .FLD_GPI_W2_LEVEL, .FLD_GPI_W3_EXCESS] ++ []) := hcounted.1.flag hf n
  refine ⟨_, (gpiEdge_eq ..).trans (if_neg (Nat.not_lt.mpr hrate)), fun f hf => ?_, htouch.1.gpiFifo, ?_, gpiCause_set, htouch.1.get (by decide) n,
    fun hold hen => ?_, TouchesAt.thenAt (TouchesAt.refl ..) htouch⟩
  · have hout : ∀ f ∈ levelFields, f ∉ [.FLD_GPI_W2_EXCESS_C] ++ reportFields ∧ .FLD_GPI_W3_EXCESS ≠ f := by decide
    obtain ⟨hpush, hne⟩ := hout f hf
    exact (hcause.1.get hpush n).trans (State.get_put_other _ hne ..)
  · rw [hcause.1.get (by decide), State.get_bump_self, hlevel.1.get (by decide)]
    rfl
  · exact (gpiCause_asserted hn ((hflag _ (by decide)).trans hold) ((hflag _ (by decide)).trans hen)).since (.of_touches hcounted.1)

/-- Where recognition is off, and where the level is the one recognised, an edge does nothing (R571). -/
theorem exec_gpiEdge_none (h : 32 ≤ n ∨ s.running .field = false ∨ s.flag .FLD_STAT_SUPPLY_OK = false ∨ s.flag .FLD_DIE_OFF = true
    ∨ s.flag .FLD_GPI_REC n = active) : exec (.gpiEdge n active tm) s = .next s := by
  have hoff : (n < 32 && s.gpiOn && s.flag .FLD_GPI_REC n != active) = false := by
    unfold State.gpiOn
    rcases h with h | h | h | h | h
    · rw [decide_eq_false (Nat.not_lt.mpr h), Bool.false_and, Bool.false_and]
    all_goals simp [h]
  rw [exec_gpiEdge, execGpiEdge, hoff, onlyIf_false]

/-- An edge is recognised (R569, R572). -/
theorem exec_gpiEdge_recognised (hn : n < 32) (hrun : s.running .field = true) (hsupply : s.flag .FLD_STAT_SUPPLY_OK = true)
    (hdie : s.flag .FLD_DIE_OFF = false) (hrec : s.flag .FLD_GPI_REC n = !active) :
    exec (.gpiEdge n active tm) s = .next (if s.flag .FLD_STAT_LINK_UP then gpiEdge n active tm (s.putFlag .FLD_GPI_REC n active)
      else (s.putFlag .FLD_GPI_REC n active).put .FLD_GPI_LOST 0 1) := by
  have hon : (n < 32 && s.gpiOn && s.flag .FLD_GPI_REC n != active) = true := by
    unfold State.gpiOn
    rw [decide_eq_true hn, hrun, hsupply, hdie, hrec]
    cases active <;> rfl
  have hlink : (s.putFlag .FLD_GPI_REC n active).flag .FLD_STAT_LINK_UP = s.flag .FLD_STAT_LINK_UP :=
    congrArg (· == 1) (State.get_putFlag_other s (by decide) ..)
  rw [exec_gpiEdge, execGpiEdge, hon, onlyIf_true]
  dsimp only
  rw [hlink]

/-- An edge while the link is down is lost (R572). -/
theorem gpiEdge_linkDown_touches (n : Nat) (active : Bool) (s : State) :
    TouchesAt n [.FLD_GPI_REC] [.FLD_GPI_LOST] s ((s.putFlag .FLD_GPI_REC n active).put .FLD_GPI_LOST 0 1) :=
  (TouchesAt.refl ..).putFlag.putAny

/-! ### Windows, stuck inputs and reads -/

/-- Whether the end of a window of input `n` makes an entry: the window was full, and the level differs from the last reported (R569). -/
def State.windowReports (s : State) (n : Nat) : Bool :=
  s.get .FLD_GPI_W0_MAX_RATE n ≤ s.get .FLD_GPI_EDGES n && s.flag .FLD_GPI_W2_LEVEL n != s.flag .FLD_GPI_REPORTED n

theorem exec_gpiRateWindow_none (h : 32 ≤ n ∨ s.running .field = false) : exec (.gpiRateWindow n) s = .next s := by
  have hoff : (n < 32 && s.running .field) = false := by
    rcases h with h | h
    · rw [decide_eq_false (Nat.not_lt.mpr h), Bool.false_and]
    · rw [h, Bool.and_false]
  rw [exec_gpiRateWindow, execGpiRateWindow, hoff, onlyIf_false]

/-- A window ends (R569). -/
theorem exec_gpiRateWindow_running (hn : n < 32) (hrun : s.running .field = true) :
    exec (.gpiRateWindow n) s = .next (onlyIf (s.windowReports n) (gpiPush n (s.flag .FLD_GPI_W2_LEVEL n) true s.now) (s.put .FLD_GPI_EDGES n 0)) := by
  have hreported : (s.put .FLD_GPI_EDGES n 0).flag .FLD_GPI_REPORTED n = s.flag .FLD_GPI_REPORTED n :=
    congrArg (· == 1) (State.get_put_other s (by decide) ..)
  rw [exec_gpiRateWindow, execGpiRateWindow, decide_eq_true hn, hrun, Bool.and_self, onlyIf_true]
  dsimp only
  rw [hreported]
  rfl

/-- The end of a window (R569). -/
theorem gpiRateWindow_spec (hn : n < 32) (hrun : s.running .field = true) :
    ∃ t, exec (.gpiRateWindow n) s = .next t ∧ t.get .FLD_GPI_EDGES n = 0
      ∧ (s.windowReports n = false → TouchesAt n [.FLD_GPI_EDGES] [] s t)
      ∧ (s.windowReports n = true → t.flag .FLD_GPI_REPORTED n = s.flag .FLD_GPI_W2_LEVEL n
          ∧ (s.gpiFifo.length < 64 → t.gpiFifo = s.gpiFifo ++ [⟨n, s.flag .FLD_GPI_W2_LEVEL n, s.now, true, s.flag .FLD_GPI_LOST⟩])
          ∧ (64 ≤ s.gpiFifo.length → t.gpiFifo = s.gpiFifo ∧ t.get .FLD_GPI_OVERRUN = 1))
      ∧ TouchesAt n [.FLD_GPI_EDGES, .FLD_GPI_REPORTED, .FLD_GPI_W2_EDGE_C] ([.FLD_GPI_LOST, .FLD_GPI_OVERRUN] ++ reportFields) (setFifo t.gpiFifo s) t := by
  have hzero : TouchesAt n [.FLD_GPI_EDGES] [] s (s.put .FLD_GPI_EDGES n 0) := (TouchesAt.refl ..).put
  have hexec := exec_gpiRateWindow_running hn hrun
  cases hreports : s.windowReports n
  · rw [hreports, onlyIf_false] at hexec
    have htouch : TouchesAt n [.FLD_GPI_EDGES, .FLD_GPI_REPORTED, .FLD_GPI_W2_EDGE_C] ([.FLD_GPI_LOST, .FLD_GPI_OVERRUN] ++ reportFields) s
        (s.put .FLD_GPI_EDGES n 0) := TouchesAt.thenAt (TouchesAt.refl ..) hzero
    exact ⟨_, hexec, State.get_put_self .., fun _ => hzero, fun h => absurd h Bool.false_ne_true, htouch⟩
  · rw [hreports, onlyIf_true] at hexec
    obtain ⟨t, heq, hroom, hfull, hsame, htouch⟩ := gpiPush_spec n (s.flag .FLD_GPI_W2_LEVEL n) true s.now (s.put .FLD_GPI_EDGES n 0)
    have hcause := gpiCause_touches (f := .FLD_GPI_W2_EDGE_C) .FLD_GPI_W0_EDGE_EN n
      ((s.put .FLD_GPI_EDGES n 0).putFlag .FLD_GPI_REPORTED n (s.flag .FLD_GPI_W2_LEVEL n)) (by decide)
    rw [heq] at hexec
    refine ⟨t, hexec, ?_, fun h => absurd h.symm Bool.false_ne_true, fun _ => ⟨?_, fun h => (hroom h).1.trans ?_, hfull⟩, ?_⟩
    · rw [hsame _ _ (by decide), (pushCause_touches n _ _).1.get (by decide), State.get_put_self]
      rfl
    · have hreported : t.flag .FLD_GPI_REPORTED n = _ := congrArg (· == 1) (hsame .FLD_GPI_REPORTED n (by decide))
      rw [hreported]
      exact (hcause.1.flag (by decide) n).trans (State.flag_putFlag ..)
    · rw [hzero.1.flag (by decide)]
      rfl
    · exact TouchesAt.thenAt (TouchesAt.thenAt (TouchesAt.refl ..) (hzero.setFifo t.gpiFifo)) htouch

/-- An input that is not on, not active, without a limit or known as stuck is not marked (R570). -/
theorem exec_gpiStuck_none (h : 32 ≤ n ∨ s.running .field = false ∨ s.flag .FLD_STAT_SUPPLY_OK = false ∨ s.flag .FLD_DIE_OFF = true
    ∨ s.flag .FLD_GPI_REC n = false ∨ s.get .FLD_GPI_W1_STUCK_S n = 0 ∨ s.flag .FLD_GPI_W2_STUCK n = true) :
    exec (.gpiStuck n) s = .next s := by
  have hoff : (n < 32 && s.gpiOn && s.flag .FLD_GPI_REC n && s.get .FLD_GPI_W1_STUCK_S n != 0 && !s.flag .FLD_GPI_W2_STUCK n) = false := by
    unfold State.gpiOn
    rcases h with h | h | h | h | h | h | h
    · simp [Nat.not_lt.mpr h]
    all_goals simp [h]
  rw [exec_gpiStuck, execGpiStuck, hoff, onlyIf_false]

/-- The cause of a stuck input (R570). -/
def stuckCause (n : Nat) (s : State) : State := gpiCause .FLD_GPI_W2_STUCK_C .FLD_GPI_W0_STUCK_EN n (s.put .FLD_GPI_W2_STUCK n 1)

theorem stuckCause_touches (n : Nat) (s : State) : TouchesAt n [.FLD_GPI_W2_STUCK, .FLD_GPI_W2_STUCK_C] reportFields s (stuckCause n s) :=
  TouchesAt.thenAt (TouchesAt.refl ..).put (gpiCause_touches _ n _ (by decide))

/-- An input is marked as stuck, and masked where that is asked for (R570). -/
def markStuck (n : Nat) (s : State) : State := onlyIf (s.flag .FLD_GPI_W0_STUCK_MASK n) (·.put .FLD_GPI_W2_MASKED n 1) (stuckCause n s)

theorem markStuck_touches (n : Nat) (s : State) : TouchesAt n [.FLD_GPI_W2_STUCK, .FLD_GPI_W2_STUCK_C, .FLD_GPI_W2_MASKED] reportFields s (markStuck n s) := by
  have hcause : TouchesAt n [.FLD_GPI_W2_STUCK, .FLD_GPI_W2_STUCK_C, .FLD_GPI_W2_MASKED] reportFields s (stuckCause n s) :=
    TouchesAt.thenAt (TouchesAt.refl ..) (stuckCause_touches n s)
  unfold markStuck
  cases s.flag .FLD_GPI_W0_STUCK_MASK n
  · exact hcause
  · exact hcause.put

theorem exec_gpiStuck_marked (hn : n < 32) (hrun : s.running .field = true) (hsupply : s.flag .FLD_STAT_SUPPLY_OK = true)
    (hdie : s.flag .FLD_DIE_OFF = false) (hrec : s.flag .FLD_GPI_REC n = true) (hlimit : s.get .FLD_GPI_W1_STUCK_S n ≠ 0)
    (hstuck : s.flag .FLD_GPI_W2_STUCK n = false) : exec (.gpiStuck n) s = .next (gpiLevel n (markStuck n s)) := by
  have hon : (n < 32 && s.gpiOn && s.flag .FLD_GPI_REC n && s.get .FLD_GPI_W1_STUCK_S n != 0 && !s.flag .FLD_GPI_W2_STUCK n) = true := by
    unfold State.gpiOn
    rw [decide_eq_true hn, hrun, hsupply, hdie, hrec, hstuck, bne_iff_ne.mpr hlimit]
    rfl
  have hmask := (stuckCause_touches n s).1.flag (f := .FLD_GPI_W0_STUCK_MASK) (by decide) n
  rw [exec_gpiStuck, execGpiStuck, hon, onlyIf_true]
  dsimp only
  rw [← stuckCause, hmask, ← markStuck]

theorem markStuck_get {f : Fld} (hf : .FLD_GPI_W2_MASKED ≠ f) (i : Nat) : (markStuck n s).get f i = (stuckCause n s).get f i := by
  unfold markStuck
  cases s.flag .FLD_GPI_W0_STUCK_MASK n
  · rfl
  · exact State.get_put_other _ hf ..

/-- An input that is marked as stuck (R570). -/
theorem gpiStuck_spec (hn : n < 32) (hrec : s.flag .FLD_GPI_REC n = true) :
    ∃ t, gpiLevel n (markStuck n s) = t ∧ t.get .FLD_GPI_W2_STUCK n = 1 ∧ t.get .FLD_GPI_W2_STUCK_C n = 1
      ∧ (s.flag .FLD_GPI_W2_STUCK_C n = false → s.flag .FLD_GPI_W0_STUCK_EN n = true → Asserted (464 + n / 4) 0 s t)
      ∧ (s.flag .FLD_GPI_W0_STUCK_MASK n = true → t.get .FLD_GPI_W2_MASKED n = 1 ∧ t.get .FLD_GPI_W2_LEVEL n = 0)
      ∧ (s.flag .FLD_GPI_W0_STUCK_MASK n = false → t.get .FLD_GPI_W2_MASKED n = s.get .FLD_GPI_W2_MASKED n
          ∧ t.flag .FLD_GPI_W2_LEVEL n = !s.flag .FLD_GPI_W2_MASKED n)
      ∧ TouchesAt n [.FLD_GPI_W2_STUCK, .FLD_GPI_W2_STUCK_C, .FLD_GPI_W2_MASKED, .FLD_GPI_W2_LEVEL] reportFields s t := by
  have hput : Touches [.FLD_GPI_W2_STUCK] s (s.put .FLD_GPI_W2_STUCK n 1) := Touches.put (by decide) _ _ (Touches.refl _ s)
  have hcause := gpiCause_touches (f := .FLD_GPI_W2_STUCK_C) .FLD_GPI_W0_STUCK_EN n (s.put .FLD_GPI_W2_STUCK n 1) (by decide)
  have hmark := markStuck_touches n s
  have hlevel := gpiLevel_touches n (markStuck n s)
  refine ⟨_, rfl, ?_, ?_, fun hold hen => ?_, fun hmask => ?_, fun hmask => ?_, TouchesAt.thenAt (TouchesAt.thenAt (TouchesAt.refl ..) hmark) hlevel⟩
  · rw [hlevel.1.get (by decide), markStuck_get (by decide), stuckCause, hcause.1.get (by decide), State.get_put_self]
    rfl
  · rw [hlevel.1.get (by decide), markStuck_get (by decide)]
    exact gpiCause_set
  · have hasserted := (gpiCause_asserted hn ((hput.flag (by decide) n).trans hold) ((hput.flag (by decide) n).trans hen)).since (.of_touches hput)
    exact (hasserted.then ⟨markStuck_get (by decide) _, markStuck_get (by decide) _⟩).then (.of_touches hlevel.1)
  · have hmasked : (markStuck n s).get .FLD_GPI_W2_MASKED n = 1 := by
      rw [markStuck, hmask, onlyIf_true, State.get_put_self]
      rfl
    refine ⟨(hlevel.1.get (by decide) n).trans hmasked, ?_⟩
    rw [gpiLevel, State.flag_of_one hmasked, Bool.not_true, Bool.and_false, State.get_putFlag_self]
    rfl
  · have hsame : (markStuck n s).get .FLD_GPI_W2_MASKED n = s.get .FLD_GPI_W2_MASKED n := by
      rw [markStuck, hmask, onlyIf_false, (stuckCause_touches n s).1.get (by decide)]
    refine ⟨(hlevel.1.get (by decide) n).trans hsame, ?_⟩
    rw [gpiLevel_level, hmark.1.flag (by decide), hrec, Bool.true_and]
    exact congrArg (fun v => !(v == 1)) hsame

/-- A read of the empty FIFO (R575). -/
theorem exec_gpiFifoRead_empty (hg : regGate m 0x1440020 4 false s = none) (hempty : s.gpiFifo = []) :
    exec (.gpiFifoRead m) s = .next (s.respond 0 false) := by
  rw [exec_gpiFifoRead, execGpiFifoRead, readGated, hg]
  dsimp only
  rw [hempty]

/-- The state after an entry is taken, and what its time registers hold (R575). -/
def takeGpi (e : GpiEntry) (l : List GpiEntry) (s : State) : State :=
  (((setFifo l s).put .FLD_GPI_NS 0 e.time.ns).put .FLD_GPI_SEC 0 e.time.sec).put .FLD_GPI_OVERRUN 0 0

theorem takeGpi_touches (e : GpiEntry) (l : List GpiEntry) (s : State) :
    Touches [.FLD_GPI_NS, .FLD_GPI_SEC, .FLD_GPI_OVERRUN] (setFifo l s) (takeGpi e l s) :=
  Touches.put (by decide) _ _ (Touches.put (by decide) _ _ (Touches.put (by decide) _ _ (Touches.refl _ _)))

theorem takeGpi_words (e : GpiEntry) (l : List GpiEntry) (s : State) : (takeGpi e l s).get .FLD_GPI_NS = e.time.ns % 2 ^ 32
    ∧ (takeGpi e l s).get .FLD_GPI_SEC = e.time.sec % 2 ^ 32 ∧ (takeGpi e l s).get .FLD_GPI_OVERRUN = 0 := by
  unfold takeGpi
  refine ⟨?_, ?_, State.get_put_self ..⟩
  · rw [State.get_put_other _ (by decide), State.get_put_other _ (by decide), State.get_put_self]
    rfl
  · rw [State.get_put_other _ (by decide), State.get_put_self]
    rfl

/-- A read takes the oldest entry (R570, R575). -/
theorem exec_gpiFifoRead_entry {e : GpiEntry} {l : List GpiEntry} (hg : regGate m 0x1440020 4 false s = none) (hfifo : s.gpiFifo = e :: l) :
    exec (.gpiFifoRead m) s = .next ((takeGpi e l s).respond (gpiWord e (s.flag .FLD_GPI_OVERRUN) l.length) false) := by
  rw [exec_gpiFifoRead, execGpiFifoRead, readGated, hg]
  dsimp only
  rw [hfifo]
  rfl

/-- What an edge that arrives leaves of how its input stands (R570). -/
theorem level_of_edge (active : Bool) (s : State)
    (h : ∀ f ∈ levelFields, t.get f n = (edgeLevel n active (s.putFlag .FLD_GPI_REC n active)).get f n) :
    t.flag .FLD_GPI_REC n = active ∧ (active = false → t.get .FLD_GPI_W2_STUCK n = 0 ∧ t.get .FLD_GPI_W2_MASKED n = 0)
      ∧ t.flag .FLD_GPI_W2_LEVEL n = (active && !s.flag .FLD_GPI_W2_MASKED n) := by
  have hrec : (s.putFlag .FLD_GPI_REC n active).flag .FLD_GPI_REC n = active := State.flag_putFlag ..
  have hmasked : (s.putFlag .FLD_GPI_REC n active).flag .FLD_GPI_W2_MASKED n = s.flag .FLD_GPI_W2_MASKED n :=
    congrArg (· == 1) (State.get_putFlag_other s (by decide) ..)
  have hflag (f : Fld) (hf : f ∈ levelFields) : t.flag f n = (edgeLevel n active (s.putFlag .FLD_GPI_REC n active)).flag f n := congrArg (· == 1) (h f hf)
  refine ⟨?_, fun hoff => ?_, ?_⟩
  · rw [hflag _ (by decide), (edgeLevel_touches n active _).1.flag (by decide), hrec]
  · rw [h _ (by decide), h _ (by decide), hoff]
    exact edgeLevel_inactive
  · rw [hflag _ (by decide), edgeLevel_level hrec, hmasked]

/-- Settles O58: an edge by whether it is recognised and arrives, the end of a window, a stuck input, and a read of the FIFO. -/
theorem gpiEdgesAreReported : Obligations.GpiEdgesAreReported := by
  unfold Obligations.GpiEdgesAreReported
  refine ⟨fun n active tm s => ⟨exec_gpiEdge_none, fun hn hrun hsupply hdie hrec => ⟨fun hlink => ?_, fun hlink => ?_⟩⟩,
    fun n s => ⟨exec_gpiRateWindow_none, fun hn hrun => ?_, exec_gpiStuck_none, fun hn hrun hsupply hdie hrec hlimit hstuck => ?_⟩,
    fun m s hg => ⟨fun hempty => ?_, fun e he => ?_⟩⟩
  · -- an edge that is lost
    have hexec := exec_gpiEdge_recognised (tm := tm) hn hrun hsupply hdie hrec
    rw [hlink, if_neg Bool.false_ne_true] at hexec
    refine ⟨_, hexec, ?_, State.get_put_self .., gpiEdge_linkDown_touches n active s⟩
    unfold State.flag
    rw [State.get_put_other _ (by decide)]
    exact State.flag_putFlag ..
  · -- an edge that arrives
    have hexec := exec_gpiEdge_recognised (tm := tm) hn hrun hsupply hdie hrec
    rw [hlink, if_pos rfl] at hexec
    have hput : TouchesAt n edgeFields ([.FLD_GPI_LOST, .FLD_GPI_OVERRUN] ++ reportFields) s (s.putFlag .FLD_GPI_REC n active) :=
      (TouchesAt.refl ..).putFlag
    have hkept (f : Fld) (hf : .FLD_GPI_REC ≠ f) (i : Nat) : (s.putFlag .FLD_GPI_REC n active).get f i = s.get f i :=
      State.get_putFlag_other s hf ..
    have hflag (f : Fld) (hf : .FLD_GPI_REC ≠ f) (i : Nat) : (s.putFlag .FLD_GPI_REC n active).flag f i = s.flag f i := congrArg (· == 1) (hkept f hf i)
    have hcount : KeepsCount (464 + n / 4) s (s.putFlag .FLD_GPI_REC n active) := ⟨hkept _ (by decide) _, hkept _ (by decide) _⟩
    rcases Nat.lt_or_ge (s.get .FLD_GPI_EDGES n) (s.get .FLD_GPI_W0_MAX_RATE n) with hrate | hrate
    · obtain ⟨t, heq, hlevel, hedges, hcause, hasserted, hroom, hfull, htouch⟩ := gpiEdge_within (active := active) (tm := tm) hn
        (s := s.putFlag .FLD_GPI_REC n active) (by rwa [hkept _ (by decide), hkept _ (by decide)])
      obtain ⟨hrec', hinactive, hlevel'⟩ := level_of_edge active s hlevel
      rw [hkept _ (by decide)] at hedges
      rw [hflag _ (by decide), hflag _ (by decide)] at hasserted
      rw [hflag _ (by decide)] at hroom
      exact ⟨t, heq ▸ hexec, hrec', hinactive, hlevel', fun _ => ⟨hedges, hcause, fun hold hen => (hasserted hold hen).since hcount, hroom, hfull⟩,
        fun h => absurd hrate (Nat.not_lt.mpr h), TouchesAt.thenAt (hput.setFifo t.gpiFifo) htouch⟩
    · obtain ⟨t, heq, hlevel, hfifo, hexcess, hcause, hedges, hasserted, htouch⟩ := gpiEdge_excess (active := active) (tm := tm) hn
        (s := s.putFlag .FLD_GPI_REC n active) (by rwa [hkept _ (by decide), hkept _ (by decide)])
      obtain ⟨hrec', hinactive, hlevel'⟩ := level_of_edge active s hlevel
      rw [hkept _ (by decide)] at hexcess hedges
      rw [hflag _ (by decide), hflag _ (by decide)] at hasserted
      exact ⟨t, heq ▸ hexec, hrec', hinactive, hlevel', fun h => absurd h (Nat.not_lt.mpr hrate),
        fun _ => ⟨hfifo, hexcess, hcause, hedges, fun hold hen => (hasserted hold hen).since hcount⟩, (hput.thenAt htouch).sameFifo⟩
  · -- the end of a window
    obtain ⟨t, hexec, hzero, hsilent, hreports, htouch⟩ := gpiRateWindow_spec hn hrun
    refine ⟨t, hexec, hzero, fun h => hsilent ?_, fun hfull hdiffers => hreports ?_, htouch⟩
    · unfold State.windowReports
      rcases h with h | h
      · rw [decide_eq_false (Nat.not_le.mpr h), Bool.false_and]
      · rw [h, bne_self_eq_false, Bool.and_false]
    · unfold State.windowReports
      rw [decide_eq_true hfull, hdiffers]
      cases s.flag .FLD_GPI_REPORTED n <;> rfl
  · -- a stuck input
    obtain ⟨t, heq, h⟩ := gpiStuck_spec hn hrec
    exact ⟨t, (exec_gpiStuck_marked hn hrun hsupply hdie hrec hlimit hstuck).trans (congrArg _ heq), h⟩
  · -- a read of the empty FIFO
    exact exec_gpiFifoRead_empty hg hempty
  · -- a read of an entry
    obtain ⟨l, hl⟩ := List.head?_eq_some_iff.mp he
    obtain ⟨hns, hsec, hoverrun⟩ := takeGpi_words e l s
    refine ⟨_, exec_gpiFifoRead_entry hg hl, ?_, ?_, hns, hsec, hoverrun, (takeGpi_touches e l s).respond _ _⟩
    · rw [hl]
      rfl
    · rw [hl]
      rfl

end Sys2Proof.Machine
end

section
/-!
PROOFS. The claim: power states, role changes, takeover and release (R509 to R515, R522 to R527, R532).
-/
namespace Sys2Proof.Machine

variable {n p b src cls code v : Nat} {m : Master} {fs : List Fld} {s t u : State}

/-! ### Power states (R543, R544) -/

theorem setPower_touches (p : Nat) (s : State) : Touches ([.PWR_STAT_STATE, .FLT_STAT_SAFE] ++ reportFields) s (setPower p s) := by
  unfold setPower
  refine Touches.ite (Touches.refl _ s) (Touches.notice (by decide) _ (Touches.putFlag (by decide) _ _ (Touches.put (by decide) _ _ (Touches.refl _ s))))

theorem setPower_state (hp : p < 8) : (setPower p s).get .PWR_STAT_STATE = p := by
  unfold setPower
  split
  next heq => exact heq
  next =>
    rw [State.get_notice _ _ (by decide), State.get_putFlag_other _ (by decide), State.get_put_self]
    exact Nat.mod_eq_of_lt hp

/-- A change of the power state asserts source 448 (R544). -/
theorem setPower_asserted (hp : s.get .PWR_STAT_STATE ≠ p) : Asserted 448 0 s (setPower p s) := by
  unfold setPower
  rw [if_neg hp]
  exact (notice_asserted _ (by decide)).since (.put (by decide) (by decide) _ _ (.put (by decide) (by decide) _ _ (.refl _ s)))

theorem KeepsCount.setPower (hn : n ≠ 510) (hn' : 448 ≠ n) (p : Nat) (h : KeepsCount n s t) : KeepsCount n s (setPower p t) := by
  unfold Machine.setPower
  exact .ite h (.assertEv hn' hn 0 (.put (by decide) (by decide) _ _ (.put (by decide) (by decide) _ _ h)))

/-! ### Causes of the twin's block (R532) -/

/-- A cause that was set is set. -/
theorem bitsAt_or_two_pow {w : Nat} (x : Nat) (hb : b < w) : bitsAt ((x ||| 2 ^ b) % 2 ^ w) b 1 = 1 := by
  rw [bitsAt_one, Nat.testBit_mod_two_pow, Nat.testBit_or, Nat.testBit_two_pow_self, decide_eq_true hb, Bool.or_true]
  rfl

theorem twinCause_evt (b src cls : Nat) (s : State) : (twinCause b src cls s).get .TWN_EVT = (s.get .TWN_EVT ||| 2 ^ b) % 2 ^ 9 := setCauses_get ..

theorem twinCause_touches (b src cls : Nat) (s : State) : Touches (.TWN_EVT :: reportFields) s (twinCause b src cls s) :=
  Touches.setCauses (fun _ h => List.mem_cons_of_mem _ h) List.mem_cons_self _ _ _ _ (Touches.refl _ s)

theorem twinCause_get (b src cls : Nat) (s : State) {f : Fld} (hf : f ∉ .TWN_EVT :: reportFields := by decide) (i : Nat) :
    (twinCause b src cls s).get f i = s.get f i := (twinCause_touches b src cls s).get hf i

/-- A cause that was clear and is enabled asserts its source (R532). -/
theorem twinCause_asserted (hold : bitsAt (s.get .TWN_EVT) b 1 = 0) (hen : bitsAt (s.get .TWN_EVT_EN) b 1 = 1) (hsrc : src ≠ 510) (hcls : cls < 4) :
    Asserted src cls s (twinCause b src cls s) := setCauses_asserted hold hen hsrc hcls

theorem KeepsCount.twinCause (hk : src ≠ n) (hn : n ≠ 510) (b cls : Nat) (h : KeepsCount n s t) : KeepsCount n s (twinCause b src cls t) :=
  h.setCauses hk hn 0 (2 ^ b) cls

/-! ### Role changes (R510 to R513, R532) -/

/-- The fields of the twin's block that a role change may change. -/
def roleFields : List Fld := [.TWN_STAT_LINE_FAULT, .TWN_SETTLED, .TWN_WANT, .TWN_EVT]

/-- A role ends: no line fault, not settled, no wait for the claim. -/
def endRole (s : State) : State := ((s.put .TWN_STAT_LINE_FAULT 0 0).put .TWN_SETTLED 0 0).put .TWN_WANT 0 0

theorem endRole_touches (s : State) : Touches [.TWN_STAT_LINE_FAULT, .TWN_SETTLED, .TWN_WANT] s (endRole s) :=
  Touches.put (by decide) _ _ (Touches.put (by decide) _ _ (Touches.put (by decide) _ _ (Touches.refl _ s)))

theorem roleChange_touches (s : State) : Touches (roleFields ++ reportFields) s (roleChange s) :=
  ((endRole_touches s).mono (by decide)).trans ((twinCause_touches 0 440 0 (endRole s)).mono (by decide))

theorem roleChange_ends (s : State) : (roleChange s).get .TWN_STAT_LINE_FAULT = 0 ∧ (roleChange s).get .TWN_SETTLED = 0 ∧ (roleChange s).get .TWN_WANT = 0 := by
  have hcause (f : Fld) (hf : f ∉ .TWN_EVT :: reportFields) := twinCause_get 0 440 0 (endRole s) hf 0
  refine ⟨(hcause _ (by decide)).trans ?_, (hcause _ (by decide)).trans ?_, (hcause _ (by decide)).trans ?_⟩
  · rw [endRole, State.get_put_other _ (by decide), State.get_put_other _ (by decide), State.get_put_self]
    rfl
  · rw [endRole, State.get_put_other _ (by decide), State.get_put_self]
    rfl
  · exact State.get_put_self ..

/-- A role change sets cause ROLE (R532). -/
theorem roleChange_role (s : State) : bitsAt ((roleChange s).get .TWN_EVT) 0 1 = 1
    ∧ (bitsAt (s.get .TWN_EVT) 0 1 = 0 → bitsAt (s.get .TWN_EVT_EN) 0 1 = 1 → Asserted 440 0 s (roleChange s)) := by
  have hend := endRole_touches s
  constructor
  · rw [show (roleChange s).get .TWN_EVT = _ from twinCause_evt 0 440 0 (endRole s)]
    exact bitsAt_or_two_pow _ (by decide)
  · intro hold hen
    refine (twinCause_asserted (s := endRole s) ?_ ?_ (by decide) (by decide)).since (.of_touches hend)
    · rwa [hend.get (by decide)]
    · rwa [hend.get (by decide)]

theorem KeepsCount.roleChange (hn : n ≠ 510) (hn' : 440 ≠ n) (h : KeepsCount n s t) : KeepsCount n s (roleChange t) :=
  h.trans ((KeepsCount.of_touches (endRole_touches t)).twinCause hn' hn 0 0)

/-- The claim is released whole (R512, R513, R527). -/
theorem releaseClaim_released (s : State) : ClaimReleased s (releaseClaim s) := by
  obtain ⟨-, -, hwant⟩ := roleChange_ends ((s.put .TWN_STAT_CLAIM 0 0).put .TWN_STAT_DRIVING 0 0)
  obtain ⟨hevt, hasserted⟩ := roleChange_role ((s.put .TWN_STAT_CLAIM 0 0).put .TWN_STAT_DRIVING 0 0)
  have hrole := roleChange_touches ((s.put .TWN_STAT_CLAIM 0 0).put .TWN_STAT_DRIVING 0 0)
  have hput : Touches [.TWN_STAT_CLAIM, .TWN_STAT_DRIVING] s ((s.put .TWN_STAT_CLAIM 0 0).put .TWN_STAT_DRIVING 0 0) :=
    Touches.put (by decide) _ _ (Touches.put (by decide) _ _ (Touches.refl _ s))
  refine ⟨(hrole.get (by decide) 0).trans ?_, (hrole.get (by decide) 0).trans (State.get_put_self ..), hwant, hevt, fun hold hen => ?_⟩
  · rw [State.get_put_other _ (by decide), State.get_put_self]
    rfl
  · rw [hput.get (by decide), hput.get (by decide)] at hasserted
    exact (hasserted hold hen).since (.of_touches hput)

theorem releaseClaim_touches (s : State) : Touches ([.TWN_STAT_CLAIM, .TWN_STAT_DRIVING] ++ roleFields ++ reportFields) s (releaseClaim s) :=
  (Touches.put (by decide) _ _ (Touches.put (by decide) _ _ (Touches.refl _ s))).trans ((roleChange_touches _).mono (by decide))

/-- What taking the claim records behind the role change (R510, R523). -/
def recordTake (s : State) : State :=
  ((((((s.inc .TWN_ELECT_COUNT).put .ELECT_DUE 0 1).put .TWN_DROP 0 0).put .TWN_STAT_DUE 0 0).put .TWN_STAT_DEFERRED 0 0).put .TWN_STAT_READY 0 0).put
    .TWN_STAT_SYNC 0 0

/-- The fields that `recordTake` writes. -/
def takeFields : List Fld :=
  [.TWN_ELECT_COUNT, .ELECT_DUE, .TWN_DROP, .TWN_STAT_DUE, .TWN_STAT_DEFERRED, .TWN_STAT_READY, .TWN_STAT_SYNC]

theorem recordTake_touches (s : State) : Touches takeFields s (recordTake s) := by
  unfold recordTake
  repeat' first | exact Touches.refl _ s | refine Touches.put (by decide) _ _ ?_

/-- The election counter rises (R510). -/
theorem recordTake_elect : (recordTake s).get .TWN_ELECT_COUNT = (s.get .TWN_ELECT_COUNT + 1) % 2 ^ 32 := by
  unfold recordTake State.inc
  simp (disch := decide) only [State.get_put_other, State.get_put_self]
  rfl

/-- The record of an election is due (R510). -/
theorem recordTake_due : (recordTake s).get .ELECT_DUE = 1 := by
  unfold recordTake
  simp (disch := decide) only [State.get_put_other, State.get_put_self]
  rfl

/-- The role change of a device that takes the claim, and the record of a blind takeover (R531). -/
def claimRole (s : State) : State :=
  onlyIf (s.get .TWN_WANT == 2 && !s.flag .TWN_STAT_READY) (queueLog 440 0 (logFlags false false false false) false [0])
    (roleChange (s.put .TWN_STAT_CLAIM 0 1))

theorem takeClaim_eq (s : State) : takeClaim s = recordTake (claimRole s) := rfl

theorem claimRole_log (s : State) : Touches [.SRC_SINCE_LOG] (roleChange (s.put .TWN_STAT_CLAIM 0 1)) (claimRole s) := by
  refine Touches.onlyIf _ (fun u => ?_) (Touches.refl _ _)
  unfold queueLog
  exact Touches.put (by decide) _ _ (Touches.records (Touches.refl _ u) rfl rfl)

theorem takeClaim_touches (s : State) : Touches (.TWN_STAT_CLAIM :: roleFields ++ takeFields ++ reportFields) s (takeClaim s) := by
  have hput : Touches (.TWN_STAT_CLAIM :: roleFields ++ takeFields ++ reportFields) s (s.put .TWN_STAT_CLAIM 0 1) :=
    Touches.put (by decide) _ _ (Touches.refl _ s)
  rw [takeClaim_eq]
  exact ((hput.trans ((roleChange_touches _).mono (by decide))).trans ((claimRole_log s).mono (by decide))).trans ((recordTake_touches _).mono (by decide))

theorem KeepsCount.takeClaim (hn : n ≠ 510) (hn' : 440 ≠ n) (h : KeepsCount n s t) : KeepsCount n s (takeClaim t) := by
  have hrole : KeepsCount n s (Machine.roleChange (t.put .TWN_STAT_CLAIM 0 1)) := .roleChange hn hn' (.put (by decide) (by decide) _ _ h)
  rw [takeClaim_eq]
  exact (hrole.trans (.of_touches (claimRole_log t))).trans (.of_touches (recordTake_touches _))

/-- The claim is taken whole (R510, R523). -/
theorem takeClaim_taken (s : State) : ClaimTaken s (takeClaim s) := by
  have hput : Touches [.TWN_STAT_CLAIM] s (s.put .TWN_STAT_CLAIM 0 1) := Touches.put (by decide) _ _ (Touches.refl _ s)
  have hrole := roleChange_touches (s.put .TWN_STAT_CLAIM 0 1)
  have hlog := claimRole_log s
  have htake := recordTake_touches (claimRole s)
  obtain ⟨hfault, -, hwant⟩ := roleChange_ends (s.put .TWN_STAT_CLAIM 0 1)
  obtain ⟨hevt, hasserted⟩ := roleChange_role (s.put .TWN_STAT_CLAIM 0 1)
  rw [takeClaim_eq]
  have hkept (f : Fld) (hf : f ∉ takeFields) (hf' : f ∉ [.SRC_SINCE_LOG]) (i : Nat) :
      (recordTake (claimRole s)).get f i = (roleChange (s.put .TWN_STAT_CLAIM 0 1)).get f i := (htake.get hf i).trans (hlog.get hf' i)
  refine ⟨?_, ?_, ?_, ?_, ?_, ?_, fun hold hen => ?_⟩
  · rw [hkept _ (by decide) (by decide), hrole.get (by decide), State.get_put_self]
    rfl
  · have hcount : (claimRole s).get .TWN_ELECT_COUNT = s.get .TWN_ELECT_COUNT := by
      rw [hlog.get (by decide), hrole.get (by decide), State.get_put_other _ (by decide)]
    rw [recordTake_elect, hcount]
  · exact recordTake_due
  · rw [hkept _ (by decide) (by decide), hwant]
  · rw [hkept _ (by decide) (by decide), hfault]
  · rw [hkept _ (by decide) (by decide), hevt]
  · rw [hput.get (by decide), hput.get (by decide)] at hasserted
    exact (((hasserted hold hen).since (.of_touches hput)).then (.of_touches hlog)).then (.of_touches htake)

/-- What precedes taking the claim may change what it does not count. -/
theorem ClaimTaken.since (h : ClaimTaken t u) (hcount : t.get .TWN_ELECT_COUNT = s.get .TWN_ELECT_COUNT) (hevt : t.get .TWN_EVT = s.get .TWN_EVT)
    (hen : t.get .TWN_EVT_EN = s.get .TWN_EVT_EN) (k : KeepsCount 440 s t) : ClaimTaken s u := by
  obtain ⟨hclaim, helect, hdue, hwant, hfault, hrole, hasserted⟩ := h
  rw [hevt, hen] at hasserted
  exact ⟨hclaim, hcount ▸ helect, hdue, hwant, hfault, hrole, fun hold hen => (hasserted hold hen).since k⟩

/-! ### Takeover (R522 to R525) -/

/-- A takeover condition that holds in Warm Standby is deferred by a recovery, waits for AUTO and a twin that matches, or takes over
(R523, R525). -/
theorem judgeTakeover_due (hdue : s.takeoverDue = true) (hwarm : s.get .PWR_STAT_STATE = 3) : judgeTakeover s =
    if s.recovering then twinCause 4 444 0 ((s.put .TWN_STAT_DUE 0 1).put .TWN_STAT_DEFERRED 0 1)
    else onlyIf (!s.flag .TWN_STAT_MISMATCH && s.flag .TWN_CTRL_AUTO) takeOver ((s.put .TWN_STAT_DUE 0 1).put .TWN_STAT_DEFERRED 0 0) := by
  have hput (f : Fld) (hf : .TWN_STAT_DUE ≠ f) (hf' : .TWN_STAT_DEFERRED ≠ f) :
      ((s.put .TWN_STAT_DUE 0 1).put .TWN_STAT_DEFERRED 0 0).flag f = s.flag f :=
    congrArg (· == 1) ((State.get_put_other _ hf' ..).trans (State.get_put_other _ hf ..))
  have hstate : (s.put .TWN_STAT_DUE 0 1).inWarm = true := beq_iff_eq.mpr ((State.get_put_other _ (by decide) ..).trans hwarm)
  have hrec : (s.put .TWN_STAT_DUE 0 1).recovering = s.recovering := rfl
  unfold judgeTakeover
  dsimp only
  rw [hdue, Bool.not_true, if_neg Bool.false_ne_true, show s.putFlag .TWN_STAT_DUE 0 true = s.put .TWN_STAT_DUE 0 1 from rfl, hstate,
    Bool.not_true, if_neg Bool.false_ne_true, hrec, hput _ (by decide) (by decide), hput _ (by decide) (by decide)]

/-- A takeover while the twin's claim is deasserted takes the claim where a drop of the claim was seen (R523). -/
theorem takeOver_free (h : s.flag .TWN_STAT_TWIN_CLAIM = false) :
    takeOver s = onlyIf (s.flag .TWN_DROP) takeClaim ((setPower 2 s).put .TWN_WANT 0 2) := by
  have htouch : Touches ([.PWR_STAT_STATE, .FLT_STAT_SAFE, .TWN_WANT] ++ reportFields) s ((setPower 2 s).put .TWN_WANT 0 2) :=
    Touches.put (by decide) _ _ ((setPower_touches 2 s).mono (by decide))
  unfold takeOver
  dsimp only
  rw [htouch.flag (by decide), h, if_neg Bool.false_ne_true, htouch.flag (by decide)]

/-- A takeover that takes the claim (R523). -/
theorem takeOver_takes (htwin : s.flag .TWN_STAT_TWIN_CLAIM = false) (hdrop : s.flag .TWN_DROP = true) :
    ClaimTaken s (takeOver s) ∧ (takeOver s).get .PWR_STAT_STATE = 2 ∧ (s.get .PWR_STAT_STATE ≠ 2 → Asserted 448 0 s (takeOver s))
      ∧ Touches (claimFields ++ reportFields) s (takeOver s) := by
  have hpower : Touches ([.PWR_STAT_STATE, .FLT_STAT_SAFE, .TWN_WANT] ++ reportFields) s ((setPower 2 s).put .TWN_WANT 0 2) :=
    Touches.put (by decide) _ _ ((setPower_touches 2 s).mono (by decide))
  have htake := takeClaim_touches ((setPower 2 s).put .TWN_WANT 0 2)
  have hcount : KeepsCount 440 s ((setPower 2 s).put .TWN_WANT 0 2) :=
    .put (by decide) (by decide) _ _ (.setPower (by decide) (by decide) 2 (.refl _ s))
  rw [takeOver_free htwin, hdrop, onlyIf_true]
  refine ⟨(takeClaim_taken _).since (hpower.get (by decide) 0) (hpower.get (by decide) 0) (hpower.get (by decide) 0) hcount, ?_, fun hstate => ?_,
    (hpower.mono (by decide)).trans (htake.mono (by decide))⟩
  · rw [htake.get (by decide), State.get_put_other _ (by decide), setPower_state (by decide)]
  · exact (setPower_asserted hstate).then (.takeClaim (by decide) (by decide) (.put (by decide) (by decide) _ _ (.refl ..)))

/-- A takeover that waits until the twin's claim drops (R524). -/
theorem takeOver_waits (htwin : s.flag .TWN_STAT_TWIN_CLAIM = false) (hdrop : s.flag .TWN_DROP = false) :
    (takeOver s).get .PWR_STAT_STATE = 2 ∧ (takeOver s).get .TWN_WANT = 2 ∧ (takeOver s).get .TWN_STAT_CLAIM = s.get .TWN_STAT_CLAIM
      ∧ Touches (claimFields ++ reportFields) s (takeOver s) := by
  rw [takeOver_free htwin, hdrop, onlyIf_false]
  refine ⟨?_, State.get_put_self .., ?_, Touches.put (by decide) _ _ ((setPower_touches 2 s).mono (by decide))⟩
  · rw [State.get_put_other _ (by decide), setPower_state (by decide)]
  · rw [State.get_put_other _ (by decide), (setPower_touches 2 s).get (by decide)]

/-! ### Claim drops -/

/-- A drop of the claim is seen by a standby whose twin's claim is deasserted and not vetoed (R522). -/
theorem exec_claimDrop_none (h : s.running .twin = false ∨ s.flag .TWN_STAT_CLAIM = true ∨ s.flag .TWN_STAT_TWIN_CLAIM = true ∨ s.flag .TWN_VETO = true) :
    exec .claimDrop s = .next s := by
  have hoff : (s.standby && !s.flag .TWN_STAT_TWIN_CLAIM && !s.flag .TWN_VETO) = false := by
    unfold State.standby
    rcases h with h | h | h | h
    all_goals simp [h]
  rw [exec_claimDrop, execClaimDrop, hoff, onlyIf_false]

theorem exec_claimDrop_seen (hrun : s.running .twin = true) (hclaim : s.flag .TWN_STAT_CLAIM = false) (htwin : s.flag .TWN_STAT_TWIN_CLAIM = false)
    (hveto : s.flag .TWN_VETO = false) : exec .claimDrop s = .next (judgeTakeover (s.put .TWN_DROP 0 1)) := by
  rw [exec_claimDrop, execClaimDrop, State.standby, hrun, hclaim, htwin, hveto]
  rfl

/-! ### Commands of TWN_CMD (R532) -/

/-- The first failure of a TAKE, in the order of R532. -/
theorem takeCode_eq (s : State) : s.takeCode = (if s.get .PWR_STAT_STATE ≠ 2 ∧ s.get .PWR_STAT_STATE ≠ 3 then 0x08
    else if s.flag .TWN_STAT_CLAIM = true ∨ s.running .twin = false
      ∨ (s.flag .TWN_DROP = false ∧ (s.flag .TWN_STAT_LINK_LOST = false ∨ s.flag .TWN_STAT_MGMT_LOST = false)) then 0xE2
    else if s.recovering = true then 0xE3 else if s.flag .TWN_STAT_MISMATCH = true then 0xE0
    else if s.flag .TWN_STAT_TWIN_CLAIM = true then 0xE1 else 0) := by
  have hstate : (!s.inRun && !s.inWarm) = true ↔ s.get .PWR_STAT_STATE ≠ 2 ∧ s.get .PWR_STAT_STATE ≠ 3 := by
    simp [State.inRun, State.inWarm]
  have hdue : (!s.takeoverDue) = true ↔ s.flag .TWN_STAT_CLAIM = true ∨ s.running .twin = false
      ∨ (s.flag .TWN_DROP = false ∧ (s.flag .TWN_STAT_LINK_LOST = false ∨ s.flag .TWN_STAT_MGMT_LOST = false)) := by
    unfold State.takeoverDue State.standby State.bothLost
    cases s.running .twin <;> cases s.flag .TWN_STAT_CLAIM <;> cases s.flag .TWN_DROP <;> simp
  exact if_congr hstate rfl (if_congr hdue rfl rfl)

/-- A command of TWN_CMD that is refused (R532). -/
theorem twinCommand_refused {eff : State → State} (hcode : code ≠ 0) (hlt : code < 2 ^ 8) :
    Refused code (wordOf twnCmdOff) m s (twinCommand m code eff (s.respond 0 false))
      ∧ (twinCommand m code eff (s.respond 0 false)).get .TWN_STAT_LAST_REASON = code
      ∧ Touches ([.TWN_STAT_LAST_REASON] ++ refuseFields ++ reportFields) s (twinCommand m code eff (s.respond 0 false)) := by
  have hput : Touches [.TWN_STAT_LAST_REASON] s ((s.respond 0 false).put .TWN_STAT_LAST_REASON 0 code) :=
    Touches.put (by decide) _ _ (Touches.respond _ _ (Touches.refl _ s))
  have heq : twinCommand m code eff (s.respond 0 false) =
      refuse code (wordOf twnCmdOff) m ((s.respond 0 false).put .TWN_STAT_LAST_REASON 0 code) := if_pos hcode
  rw [heq]
  refine ⟨(refuse_refused m _ hlt (by decide)).after (hput.get (by decide) 0) (hput.get (by decide) 506), ?_, ?_⟩
  · rw [State.get_refuse _ _ _ _ (by decide), State.get_put_self]
    exact Nat.mod_eq_of_lt hlt
  · exact Touches.refuse (by decide) (by decide) _ _ _ (hput.mono (by decide))

/-- The state of a command of TWN_CMD that is accepted. -/
def twinAccepted (s : State) : State := (s.respond 0 false).put .TWN_STAT_LAST_REASON 0 0

theorem twinCommand_accepted (eff : State → State) : twinCommand m 0 eff (s.respond 0 false) = eff (twinAccepted s) := by
  unfold twinCommand
  dsimp only
  rw [if_neg (not_not_intro rfl), twinAccepted]

theorem twinAccepted_touches (s : State) : Touches [.TWN_STAT_LAST_REASON] s (twinAccepted s) :=
  Touches.put (by decide) _ _ (Touches.respond _ _ (Touches.refl _ s))

theorem exec_claimTake_pass (hp : Passes m twnCmdOff s) (hv : bitsAt v 1 1 = 0) :
    exec (.claimTake m v) s = .next (twinCommand m s.takeCode takeOver (s.respond 0 false)) := by
  rw [exec_claimTake, execClaimTake, writeGated_pass hp, if_neg (by rw [hv]; decide)]
  rfl

/-- TAKE with RELEASE (R532). -/
theorem exec_claimTake_both (hp : Passes m twnCmdOff s) (hv : bitsAt v 1 1 = 1) :
    exec (.claimTake m v) s = .next (refuse 0x04 (wordOf twnCmdOff) m (s.respond 0 false)) := by
  rw [exec_claimTake, execClaimTake, writeGated_pass hp, if_pos hv]

theorem exec_claimRelease_pass (hp : Passes m twnCmdOff s) :
    exec (.claimRelease m) s = .next (twinCommand m (if s.flag .TWN_STAT_CLAIM && s.releasable then 0 else 0xE4) releaseClaim (s.respond 0 false)) := by
  rw [exec_claimRelease, execClaimRelease, writeGated_pass hp]
  rfl

/-- The claim may be released to a twin that is heard, in Warm Standby, READY, not recovering and not mismatched (R527). -/
theorem releasable_iff (s : State) : s.releasable = true ↔ s.twinHeard = true ∧ s.get .TWN_TWIN_POWER = 3
    ∧ bitsAt (s.get .TWN_STAT_TWIN_FLAGS) 2 2 = 1 ∧ s.flag .TWN_STAT_MISMATCH = false := by
  have hflags (x : Nat) : bitsAt x 2 2 = 1 ↔ bitsAt x 2 1 = 1 ∧ ¬bitsAt x 3 1 = 1 := by
    unfold bitsAt
    omega
  simp only [State.releasable, State.twinFlag, Bool.and_eq_true, beq_iff_eq, Bool.not_eq_true', hflags, beq_eq_false_iff_ne, and_assoc]

/-- A drop of the claim in Warm Standby (R522, R523, R525). -/
theorem claimDrop_warm (hrun : s.running .twin = true) (hclaim : s.flag .TWN_STAT_CLAIM = false) (htwin : s.flag .TWN_STAT_TWIN_CLAIM = false)
    (hveto : s.flag .TWN_VETO = false) (hwarm : s.get .PWR_STAT_STATE = 3) :
    ∃ t, exec .claimDrop s = .next t
      ∧ (s.recovering = true → t.get .TWN_STAT_DUE = 1 ∧ t.get .TWN_STAT_DEFERRED = 1 ∧ t.get .TWN_EVT = (s.get .TWN_EVT ||| 0x10) % 2 ^ 9
          ∧ t.get .TWN_STAT_CLAIM = s.get .TWN_STAT_CLAIM ∧ t.get .PWR_STAT_STATE = 3)
      ∧ (s.recovering = false → (s.flag .TWN_STAT_MISMATCH = true ∨ s.flag .TWN_CTRL_AUTO = false) →
          t.get .TWN_STAT_DUE = 1 ∧ t.get .TWN_DROP = 1 ∧ t.get .TWN_STAT_CLAIM = s.get .TWN_STAT_CLAIM ∧ t.get .PWR_STAT_STATE = 3)
      ∧ (s.recovering = false → s.flag .TWN_STAT_MISMATCH = false → s.flag .TWN_CTRL_AUTO = true →
          ClaimTaken s t ∧ t.get .PWR_STAT_STATE = 2 ∧ Asserted 448 0 s t)
      ∧ Touches (claimFields ++ reportFields) s t := by
  have hdrop : Touches [.TWN_DROP] s (s.put .TWN_DROP 0 1) := Touches.put (by decide) _ _ (Touches.refl _ s)
  have hdue : (s.put .TWN_DROP 0 1).takeoverDue = true := by
    have hstandby : (s.put .TWN_DROP 0 1).standby = true := by
      rw [State.standby, State.running, hdrop.flag (by decide), hdrop.flag (by decide), hclaim, show s.flag .CHECK_ENABLED _ = true from hrun]
      rfl
    rw [State.takeoverDue, hstandby, State.flag_of_one (State.get_put_self ..)]
    rfl
  have hexec := exec_claimDrop_seen hrun hclaim htwin hveto
  rw [judgeTakeover_due hdue ((hdrop.get (by decide) 0).trans hwarm), show (s.put .TWN_DROP 0 1).recovering = s.recovering from rfl,
    hdrop.flag (by decide), hdrop.flag (by decide)] at hexec
  -- DUE, and DEFERRED as the judgement has it
  have hjudged (v : Nat) : Touches [.TWN_DROP, .TWN_STAT_DUE, .TWN_STAT_DEFERRED] s
      (((s.put .TWN_DROP 0 1).put .TWN_STAT_DUE 0 1).put .TWN_STAT_DEFERRED 0 v) :=
    Touches.put (by decide) _ _ (Touches.put (by decide) _ _ (hdrop.mono (by decide)))
  have hset (v : Nat) : (((s.put .TWN_DROP 0 1).put .TWN_STAT_DUE 0 1).put .TWN_STAT_DEFERRED 0 v).get .TWN_DROP = 1
      ∧ (((s.put .TWN_DROP 0 1).put .TWN_STAT_DUE 0 1).put .TWN_STAT_DEFERRED 0 v).get .TWN_STAT_DUE = 1 := by
    simp (disch := decide) only [State.get_put_other, State.get_put_self]
    decide
  cases hrec : s.recovering
  · rw [hrec, if_neg Bool.false_ne_true] at hexec
    obtain ⟨hdropped, hset⟩ := hset 0
    have hjudged := hjudged 0
    cases htakes : (!s.flag .TWN_STAT_MISMATCH && s.flag .TWN_CTRL_AUTO)
    · rw [htakes, onlyIf_false] at hexec
      refine ⟨_, hexec, fun h => absurd h Bool.false_ne_true, fun _ _ => ⟨hset, hdropped, hjudged.get (by decide) 0,
        (hjudged.get (by decide) 0).trans hwarm⟩, fun _ hmatch hauto => ?_, hjudged.mono (by decide)⟩
      rw [hmatch, hauto] at htakes
      cases htakes
    · rw [htakes, onlyIf_true] at hexec
      obtain ⟨htaken, hstate, hasserted, htouch⟩ := takeOver_takes ((hjudged.flag (by decide) 0).trans htwin) (State.flag_of_one hdropped)
      have hother : s.get .PWR_STAT_STATE ≠ 2 := by rw [hwarm]; decide
      rw [hjudged.get (by decide)] at hasserted
      refine ⟨_, hexec, fun h => absurd h Bool.false_ne_true, fun _ hno => ?_, fun _ _ _ => ⟨?_, hstate, ?_⟩,
        (hjudged.mono (by decide)).trans htouch⟩
      · rcases hno with hno | hno
        · rw [hno] at htakes
          cases htakes
        · rw [hno, Bool.and_false] at htakes
          cases htakes
      · exact htaken.since (hjudged.get (by decide) 0) (hjudged.get (by decide) 0) (hjudged.get (by decide) 0) (.of_touches hjudged)
      · exact (hasserted hother).since (.of_touches hjudged)
  · rw [hrec, if_pos rfl] at hexec
    obtain ⟨-, hset⟩ := hset 1
    have hjudged := hjudged 1
    have hcause := twinCause_touches 4 444 0 (((s.put .TWN_DROP 0 1).put .TWN_STAT_DUE 0 1).put .TWN_STAT_DEFERRED 0 1)
    refine ⟨_, hexec, fun _ => ⟨(hcause.get (by decide) 0).trans hset, ?_, ?_, ?_, ?_⟩, fun h => absurd h.symm Bool.false_ne_true,
      fun h => absurd h.symm Bool.false_ne_true, (hjudged.mono (by decide)).trans (hcause.mono (by decide))⟩
    · rw [hcause.get (by decide), State.get_put_self]
      rfl
    · rw [twinCause_evt, hjudged.get (by decide)]
      rfl
    · rw [hcause.get (by decide), hjudged.get (by decide)]
    · rw [hcause.get (by decide), hjudged.get (by decide), hwarm]

/-- An accepted TAKE (R523, R532). -/
theorem takeOver_accepted (htwin : s.flag .TWN_STAT_TWIN_CLAIM = false) :
    (takeOver (twinAccepted s)).get .TWN_STAT_LAST_REASON = 0 ∧ (takeOver (twinAccepted s)).get .PWR_STAT_STATE = 2
      ∧ (s.flag .TWN_DROP = true → ClaimTaken s (takeOver (twinAccepted s)))
      ∧ (s.flag .TWN_DROP = false → (takeOver (twinAccepted s)).get .TWN_WANT = 2
          ∧ (takeOver (twinAccepted s)).get .TWN_STAT_CLAIM = s.get .TWN_STAT_CLAIM)
      ∧ Touches ([.TWN_STAT_LAST_REASON] ++ claimFields ++ reportFields) s (takeOver (twinAccepted s)) := by
  have haccepted := twinAccepted_touches s
  have htwin' : (twinAccepted s).flag .TWN_STAT_TWIN_CLAIM = false := (haccepted.flag (by decide) 0).trans htwin
  have hdrop : (twinAccepted s).flag .TWN_DROP = s.flag .TWN_DROP := haccepted.flag (by decide) 0
  have hreason : (twinAccepted s).get .TWN_STAT_LAST_REASON = 0 := State.get_put_self ..
  cases h : s.flag .TWN_DROP
  · obtain ⟨hstate, hwant, hclaim, htouch⟩ := takeOver_waits htwin' (hdrop.trans h)
    exact ⟨(htouch.get (by decide) 0).trans hreason, hstate, fun h => absurd h Bool.false_ne_true,
      fun _ => ⟨hwant, hclaim.trans (haccepted.get (by decide) 0)⟩, (haccepted.mono (by decide)).trans (htouch.mono (by decide))⟩
  · obtain ⟨htaken, hstate, -, htouch⟩ := takeOver_takes htwin' (hdrop.trans h)
    refine ⟨(htouch.get (by decide) 0).trans hreason, hstate, fun _ => ?_, fun h => absurd h.symm Bool.false_ne_true,
      (haccepted.mono (by decide)).trans (htouch.mono (by decide))⟩
    exact htaken.since (haccepted.get (by decide) 0) (haccepted.get (by decide) 0) (haccepted.get (by decide) 0) (.of_touches haccepted)

/-- Settles O55: a drop of the claim, TAKE by its first failure, and RELEASE by whether the twin may have the claim. -/
theorem takeoverAndRelease : Obligations.TakeoverAndRelease := by
  unfold Obligations.TakeoverAndRelease
  refine ⟨fun s => ⟨exec_claimDrop_none, claimDrop_warm⟩, fun m v s hp => ⟨fun hv => ?_, fun c hc hv => ?_, fun hclaim hheard hpower hflags hmatch => ?_,
    fun hno => ?_⟩⟩
  · -- TAKE with RELEASE
    obtain ⟨hrefused, htouch⟩ := refuse_respond (word := wordOf twnCmdOff) m s (show 0x04 < 2 ^ 8 by decide) (by decide)
    exact ⟨_, exec_claimTake_both hp hv, hrefused, htouch⟩
  · -- TAKE
    have hexec := exec_claimTake_pass hp hv
    rw [takeCode_eq, ← hc] at hexec
    by_cases hzero : c = 0
    · rw [hzero, twinCommand_accepted] at hexec
      have htwin : s.flag .TWN_STAT_TWIN_CLAIM = false := by
        rw [hzero] at hc
        by_contra htwin
        rw [Bool.not_eq_false] at htwin
        simp only [htwin, if_true] at hc
        split_ifs at hc
      obtain ⟨hreason, hstate, htaken, hwaits, htouch⟩ := takeOver_accepted htwin
      exact ⟨_, hexec, hreason.trans hzero.symm, fun h => absurd hzero h, fun _ => ⟨hstate, htaken, hwaits, htouch⟩⟩
    · have hlt : c < 2 ^ 8 := by
        rw [hc]
        split_ifs <;> decide
      obtain ⟨hrefused, hreason, htouch⟩ := twinCommand_refused (m := m) (s := s) (eff := takeOver) hzero hlt
      exact ⟨_, hexec, hreason, fun _ => ⟨hrefused, htouch⟩, fun h => absurd h hzero⟩
  · -- RELEASE to a twin that may have the claim
    have hexec := exec_claimRelease_pass hp
    have haccepted := twinAccepted_touches s
    have htouch := releaseClaim_touches (twinAccepted s)
    rw [hclaim, (releasable_iff s).mpr ⟨hheard, hpower, hflags, hmatch⟩, Bool.and_self, if_pos rfl, twinCommand_accepted] at hexec
    obtain ⟨hreleased, hdriving, hwant, hevt, hasserted⟩ := releaseClaim_released (twinAccepted s)
    rw [haccepted.get (by decide), haccepted.get (by decide)] at hasserted
    refine ⟨_, hexec, ⟨hreleased, hdriving, hwant, hevt, fun hold hen => (hasserted hold hen).since (.of_touches haccepted)⟩, ?_,
      (haccepted.mono (by decide)).trans (htouch.mono (by decide))⟩
    exact (htouch.get (by decide) 0).trans (State.get_put_self ..)
  · -- RELEASE otherwise
    have hexec := exec_claimRelease_pass hp
    have hoff : (s.flag .TWN_STAT_CLAIM && s.releasable) = false := by
      by_contra hboth
      rw [Bool.not_eq_false, Bool.and_eq_true, releasable_iff] at hboth
      obtain ⟨hclaim, hheard, hpower, hflags, hmatch⟩ := hboth
      rw [hclaim, hheard, hmatch] at hno
      rcases hno with h | h | h | h | h
      · cases h
      · cases h
      · exact h hpower
      · exact h hflags
      · cases h
    rw [hoff, if_neg Bool.false_ne_true] at hexec
    obtain ⟨hrefused, hreason, htouch⟩ := twinCommand_refused (m := m) (s := s) (eff := releaseClaim) (show 0xE4 ≠ 0 by decide) (by decide)
    exact ⟨_, hexec, hrefused, hreason, htouch⟩

end Sys2Proof.Machine
end

section
/-!
PROOFS. Field supply and field-side link (R559, R567, R571, R572).
-/
namespace Sys2Proof.Machine

variable {n mv : Nat} {fs : List Fld} {s t : State}

/-! ### The safety-fault contact (R567) -/

theorem judgeContact_touches (s : State) : Touches [.FLD_SAFE_STAT_CONTACT_FAULT] s (judgeContact s) :=
  Touches.putFlag (by decide) _ _ (Touches.refl _ s)

/-- What the contact shows is none of the conditions that open it. -/
theorem Touches.contactOpen (h : Touches fs s t)
    (hfs : ∀ f ∈ [.FLD_SAFE_STAT_STATE0, .FLD_SAFE_STAT_STATE1, .FLD_STAT_SUPPLY_OK, .FLD_STAT_LINK_UP, .GEN_BOOT_STAT_SAFETY_DEFAULT, .PWR_STAT_STATE],
      f ∉ fs := by decide) : t.contactOpen = s.contactOpen := by
  have hkept (f : Fld) (hf : f ∈ [.FLD_SAFE_STAT_STATE0, .FLD_SAFE_STAT_STATE1, .FLD_STAT_SUPPLY_OK, .FLD_STAT_LINK_UP,
      .GEN_BOOT_STAT_SAFETY_DEFAULT, .PWR_STAT_STATE]) : t.get f = s.get f := h.get (hfs f hf) 0
  simp only [State.contactOpen, State.safetyState, State.flag, if_pos, if_neg one_ne_zero, hkept .FLD_SAFE_STAT_STATE0 (by decide),
    hkept .FLD_SAFE_STAT_STATE1 (by decide), hkept .FLD_STAT_SUPPLY_OK (by decide), hkept .FLD_STAT_LINK_UP (by decide),
    hkept .GEN_BOOT_STAT_SAFETY_DEFAULT (by decide), hkept .PWR_STAT_STATE (by decide)]

/-- CONTACT_FAULT shows the contact (R567). -/
theorem judgeContact_shows (s : State) : (judgeContact s).flag .FLD_SAFE_STAT_CONTACT_FAULT = (judgeContact s).contactOpen :=
  (State.flag_putFlag ..).trans (judgeContact_touches s).contactOpen.symm

/-- A supply out of range, or a link that is down, opens the contact (R567). -/
theorem judgeContact_opens (h : s.get .FLD_STAT_SUPPLY_OK = 0 ∨ s.get .FLD_STAT_LINK_UP = 0) : (judgeContact s).get .FLD_SAFE_STAT_CONTACT_FAULT = 1 := by
  have hopen : s.contactOpen = true := by
    unfold State.contactOpen
    rcases h with h | h
    · rw [State.flag_of_zero h]
      simp
    · rw [State.flag_of_zero h]
      simp
  unfold judgeContact
  rw [hopen, State.get_putFlag_self]
  rfl

/-! ### The supply of the field die (R571) -/

/-- A field die without supply forgets input `i` (R559, R571). -/
def forgetInput (i : Nat) (s : State) : State := (((s.put .FLD_RUN i 0).put .FLD_RUN_BAND i 5).put .FLD_DIE_BAND i 5).put .FLD_DIE_HOLDS i 0

theorem dieSupplied_low (h : mv < 12000) : dieSupplied mv s = forgetInput 1 (forgetInput 0 (s.put .FLD_DIE_OFF 0 1)) := by
  unfold dieSupplied
  rw [if_pos h]
  rfl

theorem dieSupplied_high (h : 12000 ≤ mv) : dieSupplied mv s = s.put .FLD_DIE_OFF 0 0 := if_neg (Nat.not_lt.mpr h)

theorem forgetInput_touches (i : Nat) (s : State) : Touches [.FLD_RUN, .FLD_RUN_BAND, .FLD_DIE_BAND, .FLD_DIE_HOLDS] s (forgetInput i s) :=
  Touches.put (by decide) _ _ (Touches.put (by decide) _ _ (Touches.put (by decide) _ _ (Touches.put (by decide) _ _ (Touches.refl _ s))))

/-- Input `i` measures nothing: no band, no run, no claim to count. -/
def Forgotten (i : Nat) (s : State) : Prop :=
  s.get .FLD_DIE_BAND i = 5 ∧ s.get .FLD_RUN i = 0 ∧ s.get .FLD_RUN_BAND i = 5 ∧ s.get .FLD_DIE_HOLDS i = 0

theorem forgetInput_forgotten (i : Nat) (s : State) : Forgotten i (forgetInput i s) := by
  unfold Forgotten forgetInput
  simp (disch := decide) only [State.get_put_other, State.get_put_self]
  decide

theorem forgetInput_other {i j : Nat} (h : i ≠ j) (s : State) (f : Fld) : (forgetInput i s).get f j = s.get f j := by
  unfold forgetInput
  rw [State.get_put_index _ _ _ h, State.get_put_index _ _ _ h, State.get_put_index _ _ _ h, State.get_put_index _ _ _ h]

/-- What the field die forgot of both inputs (R571). -/
theorem forgetInputs_forgotten {i : Nat} (hi : i < 2) (s : State) : Forgotten i (forgetInput 1 (forgetInput 0 s)) := by
  interval_cases i
  · unfold Forgotten
    simp only [forgetInput_other one_ne_zero]
    exact forgetInput_forgotten 0 s
  · exact forgetInput_forgotten 1 _

theorem dieSupplied_touches (mv : Nat) (s : State) :
    Touches [.FLD_RUN, .FLD_RUN_BAND, .FLD_DIE_BAND, .FLD_DIE_HOLDS, .FLD_DIE_OFF] s (dieSupplied mv s) := by
  rcases Nat.lt_or_ge mv 12000 with h | h
  · rw [dieSupplied_low h]
    exact ((Touches.put (by decide) _ _ (Touches.refl _ s)).trans ((forgetInput_touches 0 _).mono (by decide))).trans
      ((forgetInput_touches 1 _).mono (by decide))
  · rw [dieSupplied_high h]
    exact Touches.put (by decide) _ _ (Touches.refl _ s)

/-- Below 12 V the field die is off (R571). -/
theorem dieSupplied_off (mv : Nat) (s : State) : (dieSupplied mv s).flag .FLD_DIE_OFF = decide (mv < 12000) := by
  rcases Nat.lt_or_ge mv 12000 with h | h
  · have hforget := ((forgetInput_touches 0 (s.put .FLD_DIE_OFF 0 1)).trans (forgetInput_touches 1 _)).get (f := .FLD_DIE_OFF) (by decide) 0
    rw [dieSupplied_low h, decide_eq_true h]
    exact State.flag_of_one (hforget.trans (State.get_put_self ..))
  · rw [dieSupplied_high h, decide_eq_false (Nat.not_lt.mpr h)]
    exact State.flag_of_zero (State.get_put_self ..)

/-! ### Supply out of range and in range -/

/-- The supply's value and range, as the device shows them, and the field die's supply (R571). -/
def showSupply (mv good : Nat) (s : State) : State := dieSupplied mv ((s.put .FLD_STAT_VFIELD 0 (min mv 0xFFFF)).put .FLD_STAT_SUPPLY_OK 0 good)

theorem showSupply_touches (mv good : Nat) (s : State) :
    Touches [.FLD_STAT_VFIELD, .FLD_STAT_SUPPLY_OK, .FLD_DIE_BAND, .FLD_RUN, .FLD_RUN_BAND, .FLD_DIE_HOLDS, .FLD_DIE_OFF] s (showSupply mv good s) :=
  (Touches.put (by decide) _ _ (Touches.put (by decide) _ _ (Touches.refl _ s))).trans ((dieSupplied_touches mv _).mono (by decide))

theorem showSupply_high (h : 12000 ≤ mv) (good : Nat) (s : State) :
    Touches [.FLD_STAT_VFIELD, .FLD_STAT_SUPPLY_OK, .FLD_DIE_OFF] s (showSupply mv good s) := by
  unfold showSupply
  rw [dieSupplied_high h]
  exact Touches.put (by decide) _ _ (Touches.put (by decide) _ _ (Touches.put (by decide) _ _ (Touches.refl _ s)))

theorem showSupply_shows (mv good : Nat) (s : State) :
    (showSupply mv good s).get .FLD_STAT_VFIELD = min mv 0xFFFF ∧ (showSupply mv good s).get .FLD_STAT_SUPPLY_OK = good % 2 := by
  have hdie := dieSupplied_touches mv ((s.put .FLD_STAT_VFIELD 0 (min mv 0xFFFF)).put .FLD_STAT_SUPPLY_OK 0 good)
  refine ⟨(hdie.get (by decide) 0).trans ?_, (hdie.get (by decide) 0).trans (State.get_put_self ..)⟩
  rw [State.get_put_other _ (by decide), State.get_put_self]
  show min mv 65535 % 65536 = _
  omega

theorem exec_vfieldOutOfRange_out (h : mv < 16000 ∨ 34000 < mv) : exec (.vfieldOutOfRange mv) s = .next
    (judgeContact (onlyIf (s.flag .FLD_STAT_SUPPLY_OK) (assertEv 477 2) (showSupply mv 0 s))) := by
  have hbad : (!vfieldGood mv) = true := by
    unfold vfieldGood
    simp
    omega
  rw [exec_vfieldOutOfRange, execVfieldOutOfRange, hbad, onlyIf_true]
  rfl

theorem exec_vfieldOutOfRange_in (hlo : 16000 ≤ mv) (hhi : mv ≤ 34000) : exec (.vfieldOutOfRange mv) s = .next s := by
  rw [exec_vfieldOutOfRange, execVfieldOutOfRange, vfieldGood, decide_eq_true hlo, decide_eq_true hhi]
  rfl

theorem exec_vfieldInRange_none (h : mv < 16000 ∨ 34000 < mv ∨ s.flag .FLD_STAT_SUPPLY_OK = true) : exec (.vfieldInRange mv) s = .next s := by
  have hoff : (vfieldGood mv && !s.flag .FLD_STAT_SUPPLY_OK) = false := by
    unfold vfieldGood
    rcases h with h | h | h
    · rw [decide_eq_false (Nat.not_le.mpr h), Bool.false_and, Bool.false_and]
    · rw [decide_eq_false (Nat.not_le.mpr h), Bool.and_false, Bool.false_and]
    · rw [h, Bool.not_true, Bool.and_false]
  rw [exec_vfieldInRange, execVfieldInRange, hoff, onlyIf_false]

theorem exec_vfieldInRange_in (hlo : 16000 ≤ mv) (hhi : mv ≤ 34000) (hbad : s.flag .FLD_STAT_SUPPLY_OK = false) :
    exec (.vfieldInRange mv) s = .next (judgeContact (showSupply mv 1 s)) := by
  rw [exec_vfieldInRange, execVfieldInRange, vfieldGood, decide_eq_true hlo, decide_eq_true hhi, hbad, showSupply,
    Nat.min_eq_left (show mv ≤ 0xFFFF by omega)]
  rfl

/-! ### Frames of the link (R572) -/

theorem exec_fieldStatusFrame_good (mv : Nat) (s : State) : exec (.fieldStatusFrame true mv) s = .next
    (onlyIf (s.flag .FLD_STAT_LINK_UP) (·.put .FLD_STAT_VFIELD 0 (min mv 0xFFFF)) ((s.put .FLD_LINK_BAD 0 0).bump .FLD_LINK_GOOD)) := by
  have hkept : ((s.put .FLD_LINK_BAD 0 0).bump .FLD_LINK_GOOD).flag .FLD_STAT_LINK_UP = s.flag .FLD_STAT_LINK_UP :=
    congrArg (· == 1) ((State.get_bump_other _ (by decide) ..).trans (State.get_put_other _ (by decide) ..))
  rw [exec_fieldStatusFrame, execFieldStatusFrame, if_pos rfl]
  dsimp only
  rw [hkept]

theorem fieldStatusFrame_good_spec (mv : Nat) (s : State) : ∃ t, exec (.fieldStatusFrame true mv) s = .next t ∧ t.get .FLD_LINK_BAD = 0
    ∧ t.get .FLD_LINK_GOOD = satAdd 8 (s.get .FLD_LINK_GOOD) 1
    ∧ t.get .FLD_STAT_VFIELD = (if s.flag .FLD_STAT_LINK_UP then min mv 0xFFFF else s.get .FLD_STAT_VFIELD)
    ∧ Touches [.FLD_LINK_BAD, .FLD_LINK_GOOD, .FLD_STAT_VFIELD] s t := by
  have hcount : Touches [.FLD_LINK_BAD, .FLD_LINK_GOOD, .FLD_STAT_VFIELD] s ((s.put .FLD_LINK_BAD 0 0).bump .FLD_LINK_GOOD) :=
    Touches.bump (by decide) _ _ (Touches.put (by decide) _ _ (Touches.refl _ s))
  have hshow : Touches [.FLD_STAT_VFIELD] ((s.put .FLD_LINK_BAD 0 0).bump .FLD_LINK_GOOD)
      (onlyIf (s.flag .FLD_STAT_LINK_UP) (·.put .FLD_STAT_VFIELD 0 (min mv 0xFFFF)) ((s.put .FLD_LINK_BAD 0 0).bump .FLD_LINK_GOOD)) :=
    Touches.onlyIf _ (fun u => Touches.put (by decide) _ _ (Touches.refl _ u)) (Touches.refl _ _)
  refine ⟨_, exec_fieldStatusFrame_good mv s, ?_, ?_, ?_, hcount.trans (hshow.mono (by decide))⟩
  · rw [hshow.get (by decide), State.get_bump_other _ (by decide), State.get_put_self]
    rfl
  · rw [hshow.get (by decide), State.get_bump_self, State.get_put_other _ (by decide)]
    rfl
  · cases s.flag .FLD_STAT_LINK_UP
    · rw [onlyIf_false, if_neg Bool.false_ne_true, State.get_bump_other _ (by decide), State.get_put_other _ (by decide)]
    · rw [onlyIf_true, if_pos rfl, State.get_put_self]
      show min mv 65535 % 65536 = _
      omega

theorem exec_fieldStatusFrame_bad (mv : Nat) (s : State) :
    exec (.fieldStatusFrame false mv) s = .next ((s.put .FLD_LINK_GOOD 0 0).bump .FLD_LINK_BAD) := rfl

theorem exec_fieldLinkDown_none (h : s.flag .FLD_STAT_LINK_UP = false ∨ s.get .FLD_LINK_BAD < 3) : exec .fieldLinkDown s = .next s := by
  have hoff : (s.flag .FLD_STAT_LINK_UP && 3 ≤ s.get .FLD_LINK_BAD) = false := by
    rcases h with h | h
    · rw [h, Bool.false_and]
    · rw [decide_eq_false (Nat.not_le.mpr h), Bool.and_false]
  rw [exec_fieldLinkDown, execFieldLinkDown, hoff, onlyIf_false]

theorem exec_fieldLinkDown_lost (hup : s.flag .FLD_STAT_LINK_UP = true) (hbad : 3 ≤ s.get .FLD_LINK_BAD) :
    exec .fieldLinkDown s = .next (judgeContact (assertEv 478 2 (s.put .FLD_STAT_LINK_UP 0 0))) := by
  rw [exec_fieldLinkDown, execFieldLinkDown, hup, decide_eq_true hbad]
  rfl

/-! ### Overloads (R574) -/

theorem exec_gpoOverload_off (h : n < 32 → s.gpoOn n = false) : exec (.gpoOverload n) s = .next s := by
  have hoff : (n < 32 && s.gpoOn n) = false := by
    rcases Nat.lt_or_ge n 32 with hn | hn
    · rw [h hn, Bool.and_false]
    · rw [decide_eq_false (Nat.not_lt.mpr hn), Bool.false_and]
  rw [exec_gpoOverload, execGpoOverload, hoff, onlyIf_false]

/-- An output is off without its conditions (R573, R574). -/
theorem gpoOn_off (h : s.flag .TWN_STAT_DRIVING = false ∨ s.flag .FLD_STAT_SUPPLY_OK = false ∨ s.flag .FLD_STAT_LINK_UP = false
    ∨ bitsAt (s.get .FLD_GPO_FAULT) n 1 = 1) : s.gpoOn n = false := by
  unfold State.gpoOn
  rcases h with h | h | h | h
  all_goals simp [h]

/-- In mode 0 an output is off whose bit of SET is clear (R573). -/
theorem gpoOn_unset (hmode : s.get .FLD_GPO_CTRL_MODE n = 0) (hset : bitsAt (s.get .FLD_GPO_SET) n 1 = 0) : s.gpoOn n = false := by
  have hwanted : s.gpoWanted n = false := by
    unfold State.gpoWanted
    rw [hmode]
    exact beq_eq_false_iff_ne.mpr (by rw [hset]; decide)
  unfold State.gpoOn
  rw [hwanted, Bool.and_false]

end Sys2Proof.Machine
end

section
/-!
PROOFS. Safety inputs: what reaches the logic side, the override and the contact (R559 to R563, R565 to R567).
-/
namespace Sys2Proof.Machine

variable {i j n b : Nat} {on : Bool} {fs : List Fld} {s t u : State}

/-! ### The fields of an input -/

theorem ackedField_mem (i : Nat) : ackedField i ∈ [.FLD_SAFE_STAT_ACKED0, .FLD_SAFE_STAT_ACKED1] := by
  unfold ackedField
  split <;> decide

/-- The fields that the logic side receives of both inputs. -/
def receivedFields : List Fld :=
  [.FLD_SAFE_STAT_STATE0, .FLD_SAFE_STAT_STATE1, .FLD_SAFE_STAT_ACKED0, .FLD_SAFE_STAT_ACKED1, .FLD_SAFE_STAT_HOLDS0, .FLD_SAFE_STAT_HOLDS1,
   .FLD_SAFE_STAT_BOOT_LATCH]

/-- The fields that the logic side receives of input `i`. -/
def inputFields (i : Nat) : List Fld := [stateField i, ackedField i, holdsField i, .FLD_SAFE_STAT_BOOT_LATCH]

theorem inputFields_received (i : Nat) : ∀ f ∈ inputFields i ++ reportFields, f ∈ receivedFields ++ reportFields := by
  unfold inputFields stateField ackedField holdsField
  split <;> decide

/-- The fields of an input are apart from one another, from the count of a source and from what else the statements speak of. -/
theorem inputFields_apart (i : Nat) : stateField i ≠ ackedField i ∧ stateField i ≠ holdsField i ∧ ackedField i ≠ holdsField i
    ∧ ∀ f ∈ inputFields i, f ∉ reportFields ∧ f ∉ [.FLD_DIE_BAND, .FLD_DIE_HOLDS, .FLD_SAFE_STAT_ARMED, .FLD_STAT_LINK_UP, .PWR_STAT_STATE] := by
  unfold inputFields stateField ackedField holdsField
  split <;> decide

/-! ### One input (R560, R561, R565, R566) -/

theorem stateChange_touches (i b : Nat) (s : State) : Touches ([stateField i, ackedField i] ++ reportFields) s (stateChange i b s) := by
  unfold stateChange
  refine Touches.onlyIf _ (fun u => (assertEv_report 474 2 u).mono (fun _ h => List.mem_append_right _ h)) ?_
  exact Touches.put (List.mem_append_left _ (List.mem_cons_of_mem _ List.mem_cons_self)) _ _
    (Touches.put (List.mem_append_left _ List.mem_cons_self) _ _ (Touches.refl _ s))

theorem stateChange_get {f : Fld} (hf : f ∉ reportFields) (k : Nat) :
    (stateChange i b s).get f k = ((s.put (stateField i) 0 b).put (ackedField i) 0 0).get f k :=
  (Touches.onlyIf (bandFaulty b) (fun u => assertEv_report 474 2 u) (Touches.refl reportFields _)).get hf k

theorem stateChange_state (hb : b < 8) : (stateChange i b s).get (stateField i) = b := by
  obtain ⟨hne, -, -, hapart⟩ := inputFields_apart i
  obtain ⟨hreport, -⟩ := hapart (stateField i) List.mem_cons_self
  have hw : (stateField i).info.w = 3 := by unfold stateField; split <;> rfl
  rw [stateChange_get hreport, State.get_put_other _ (Ne.symm hne), State.get_put_self, hw]
  exact Nat.mod_eq_of_lt hb

theorem stateChange_acked : (stateChange i b s).get (ackedField i) = 0 := by
  obtain ⟨-, -, -, hapart⟩ := inputFields_apart i
  obtain ⟨hreport, -⟩ := hapart (ackedField i) (List.mem_cons_of_mem _ List.mem_cons_self)
  rw [stateChange_get hreport, State.get_put_self, Nat.zero_mod]

/-- A field of an input is no count of a source. -/
theorem inputField_ne {f : Fld} (hf : f ∈ inputFields i) : f ≠ .FLT_SRC_STAT_COUNT ∧ f ≠ .FLT_SRC_STAT_LAST_CLASS := by
  obtain ⟨-, -, -, hapart⟩ := inputFields_apart i
  obtain ⟨hreport, -⟩ := hapart f hf
  exact ⟨fun h => hreport (h ▸ by decide), fun h => hreport (h ▸ by decide)⟩

/-- A write of a field of an input counts for no source. -/
theorem KeepsCount.putInput {f : Fld} {k v : Nat} (hf : f ∈ inputFields i) (h : KeepsCount n s t) : KeepsCount n s (t.put f k v) := by
  obtain ⟨hc, hl⟩ := inputField_ne hf
  exact .put hc hl _ _ h

theorem stateChange_puts (i b : Nat) (n : Nat) (s : State) : KeepsCount n s ((s.put (stateField i) 0 b).put (ackedField i) 0 0) :=
  .putInput (i := i) (by simp [inputFields]) (.putInput (i := i) (by simp [inputFields]) (.refl n s))

/-- A change to a line fault asserts source 474 (R560). -/
theorem stateChange_asserted (h : bandFaulty b = true) : Asserted 474 2 s (stateChange i b s) := by
  unfold stateChange
  rw [h, onlyIf_true]
  exact (assertEv_asserted _ (by decide) (by decide)).since (stateChange_puts i b 474 s)

theorem stateChange_keepsCount (hn : n ≠ 510) (hn' : 474 ≠ n) : KeepsCount n s (stateChange i b s) :=
  .onlyIf _ (fun u => .assertEv hn' hn 2 (.refl n u)) (stateChange_puts i b n s)

theorem holdsChange_touches (i : Nat) (on : Bool) (s : State) :
    Touches ([holdsField i, .FLD_SAFE_STAT_BOOT_LATCH] ++ reportFields) s (holdsChange i on s) := by
  unfold holdsChange
  refine Touches.onlyIf _ (fun u => ?_) (Touches.notice (fun _ h => List.mem_append_right _ h) _ ?_)
  · exact Touches.put (List.mem_append_left _ (List.mem_cons_of_mem _ List.mem_cons_self)) _ _ (Touches.refl _ u)
  · exact Touches.putFlag (List.mem_append_left _ List.mem_cons_self) _ _ (Touches.refl _ s)

/-- The boot latch is the only field that a change of HOLDS writes behind its report (R49). -/
theorem holdsChange_latch (i : Nat) (on : Bool) (s : State) :
    holdsChange i on s = onlyIf (on && !s.flag .FLD_SAFE_STAT_ARMED) (·.put .FLD_SAFE_STAT_BOOT_LATCH 0 1)
      (notice (472 + i) (s.putFlag (holdsField i) 0 on)) := by
  obtain ⟨-, -, -, hapart⟩ := inputFields_apart i
  obtain ⟨-, hother⟩ := hapart (holdsField i) (by simp [inputFields])
  have harmed : (notice (472 + i) (s.putFlag (holdsField i) 0 on)).flag .FLD_SAFE_STAT_ARMED = s.flag .FLD_SAFE_STAT_ARMED := by
    have hne : holdsField i ≠ .FLD_SAFE_STAT_ARMED := fun h => hother (by rw [h]; decide)
    unfold State.flag
    rw [State.get_notice _ _ (by decide), State.get_putFlag_other _ hne]
  unfold holdsChange
  dsimp only
  rw [harmed]

theorem holdsChange_holds : (holdsChange i on s).flag (holdsField i) = on := by
  obtain ⟨-, -, -, hapart⟩ := inputFields_apart i
  obtain ⟨hreport, -⟩ := hapart (holdsField i) (by simp [inputFields])
  have hne : .FLD_SAFE_STAT_BOOT_LATCH ≠ holdsField i := by unfold holdsField; split <;> decide
  have hw : 1 % 2 ^ (holdsField i).info.w = 1 := by unfold holdsField; split <;> rfl
  have hlatch : Touches [.FLD_SAFE_STAT_BOOT_LATCH] (notice (472 + i) (s.putFlag (holdsField i) 0 on)) (holdsChange i on s) := by
    rw [holdsChange_latch]
    exact Touches.onlyIf _ (fun u => Touches.put List.mem_cons_self _ _ (Touches.refl _ u)) (Touches.refl _ _)
  rw [hlatch.flag (fun h => hne (List.mem_singleton.mp h).symm), (notice_report _ _).flag hreport]
  exact State.flag_putFlag _ _ _ _ hw

theorem holdsChange_keepsCount (hn : n ≠ 510) (hn' : 472 + i ≠ n) : KeepsCount n s (holdsChange i on s) := by
  rw [holdsChange_latch]
  refine .onlyIf _ (fun u => .put (by decide) (by decide) _ _ (.refl n u)) (.assertEv hn' hn 0 ?_)
  exact .putInput (i := i) (by simp [inputFields]) (.refl n s)

/-- A change of HOLDS asserts the input's source (R561). -/
theorem holdsChange_asserted (hi : i < 2) : Asserted (472 + i) 0 s (holdsChange i on s) := by
  have hnotice : Asserted (472 + i) 0 s (notice (472 + i) (s.putFlag (holdsField i) 0 on)) :=
    (notice_asserted _ (by omega)).since (.putInput (i := i) (by simp [inputFields]) (.refl _ s))
  rw [holdsChange_latch]
  exact hnotice.then (.onlyIf _ (fun u => .put (by decide) (by decide) _ _ (.refl _ u)) (.refl ..))

/-- An input that begins to count while the override path is not armed sets the boot latch (R49). -/
theorem holdsChange_boot (harmed : s.flag .FLD_SAFE_STAT_ARMED = false) : (holdsChange i true s).get .FLD_SAFE_STAT_BOOT_LATCH = 1 := by
  rw [holdsChange_latch, harmed, Bool.not_false, Bool.and_self, onlyIf_true]
  exact State.get_put_self ..

/-- The boot latch is never cleared by a change of HOLDS. -/
theorem holdsChange_keepsLatch (h : s.get .FLD_SAFE_STAT_BOOT_LATCH = 1) : (holdsChange i on s).get .FLD_SAFE_STAT_BOOT_LATCH = 1 := by
  have hne : holdsField i ≠ .FLD_SAFE_STAT_BOOT_LATCH := by unfold holdsField; split <;> decide
  have hnotice : (notice (472 + i) (s.putFlag (holdsField i) 0 on)).get .FLD_SAFE_STAT_BOOT_LATCH = 1 := by
    rw [State.get_notice _ _ (by decide), State.get_putFlag_other _ hne, h]
  rw [holdsChange_latch]
  cases on && !s.flag .FLD_SAFE_STAT_ARMED
  · rwa [onlyIf_false]
  · rw [onlyIf_true]
    exact State.get_put_self ..

/-! ### What the logic side receives of an input (R561, R572) -/

/-- Whether input `i` counts from now on: from active to normal, line faults neither start nor end it (R561). -/
def State.willHold (s : State) (i : Nat) : Bool := s.get .FLD_DIE_BAND i != 0 && (s.flag (holdsField i) || s.flag .FLD_DIE_HOLDS i)

/-- STATE follows the band that the field die holds (R560). -/
def receiveState (i : Nat) (s : State) : State := onlyIf (s.safetyState i != s.get .FLD_DIE_BAND i) (stateChange i (s.get .FLD_DIE_BAND i)) s

theorem receiveState_touches (i : Nat) (s : State) : Touches ([stateField i, ackedField i] ++ reportFields) s (receiveState i s) :=
  Touches.onlyIf _ (fun u => stateChange_touches i _ u) (Touches.refl _ s)

/-- The fields outside both lists of `receiveState`. -/
theorem not_mem_stateFields {f : Fld} (hs : f ≠ stateField i) (ha : f ≠ ackedField i) (hr : f ∉ reportFields) :
    f ∉ [stateField i, ackedField i] ++ reportFields := by
  simp only [List.mem_append, List.mem_cons, List.not_mem_nil, or_false, not_or]
  exact ⟨⟨hs, ha⟩, hr⟩

theorem not_mem_holdsFields {f : Fld} (hh : f ≠ holdsField i) (hl : f ≠ .FLD_SAFE_STAT_BOOT_LATCH) (hr : f ∉ reportFields) :
    f ∉ [holdsField i, .FLD_SAFE_STAT_BOOT_LATCH] ++ reportFields := by
  simp only [List.mem_append, List.mem_cons, List.not_mem_nil, or_false, not_or]
  exact ⟨⟨hh, hl⟩, hr⟩

theorem receiveSafety_eq (i : Nat) (s : State) :
    receiveSafety i s = onlyIf (s.flag (holdsField i) != s.willHold i) (holdsChange i (s.willHold i)) (receiveState i s) := by
  obtain ⟨-, hstate, hacked, hapart⟩ := inputFields_apart i
  obtain ⟨hreport, -⟩ := hapart (holdsField i) (by simp [inputFields])
  have hkept : (receiveState i s).flag (holdsField i) = s.flag (holdsField i) :=
    (receiveState_touches i s).flag (not_mem_stateFields (Ne.symm hstate) (Ne.symm hacked) hreport) 0
  unfold receiveSafety
  dsimp only
  rw [← receiveState, hkept, ← State.willHold]

/-- What the logic side has received of input `i`. -/
structure InputReceived (i : Nat) (s t : State) : Prop where
  state : t.safetyState i = s.get .FLD_DIE_BAND i
  holds : t.flag (holdsField i) = s.willHold i
  acked : t.get (ackedField i) = if s.safetyState i = s.get .FLD_DIE_BAND i then s.get (ackedField i) else 0
  counted : s.flag (holdsField i) = false → t.flag (holdsField i) = true →
    Asserted (472 + i) 0 s t ∧ (s.flag .FLD_SAFE_STAT_ARMED = false → t.get .FLD_SAFE_STAT_BOOT_LATCH = 1)
  faulty : s.safetyState i ≠ s.get .FLD_DIE_BAND i → bandFaulty (s.get .FLD_DIE_BAND i) = true → Asserted 474 2 s t
  steady : s.safetyState i = s.get .FLD_DIE_BAND i → KeepsCount 474 s t
  other : ∀ n, n ≠ 510 → 474 ≠ n → 472 + i ≠ n → KeepsCount n s t
  latch : s.get .FLD_SAFE_STAT_BOOT_LATCH = 1 → t.get .FLD_SAFE_STAT_BOOT_LATCH = 1
  touches : Touches (inputFields i ++ reportFields) s t

/-- The first half of it: STATE and ACKED. -/
structure StateReceived (i : Nat) (s t : State) : Prop where
  state : t.safetyState i = s.get .FLD_DIE_BAND i
  acked : t.get (ackedField i) = if s.safetyState i = s.get .FLD_DIE_BAND i then s.get (ackedField i) else 0
  faulty : s.safetyState i ≠ s.get .FLD_DIE_BAND i → bandFaulty (s.get .FLD_DIE_BAND i) = true → Asserted 474 2 s t
  steady : s.safetyState i = s.get .FLD_DIE_BAND i → t = s
  other : ∀ n, n ≠ 510 → 474 ≠ n → KeepsCount n s t
  touches : Touches ([stateField i, ackedField i] ++ reportFields) s t

theorem receiveState_received (hb : s.get .FLD_DIE_BAND i < 8) : StateReceived i s (receiveState i s) := by
  by_cases h : s.safetyState i = s.get .FLD_DIE_BAND i
  · have heq : receiveState i s = s := by
      unfold receiveState
      rw [h, bne_self_eq_false, onlyIf_false]
    rw [heq]
    exact ⟨h, (if_pos h).symm, fun hne => absurd h hne, fun _ => rfl, fun n _ _ => .refl n s, Touches.refl _ s⟩
  · have heq : receiveState i s = stateChange i (s.get .FLD_DIE_BAND i) s := by
      unfold receiveState
      rw [bne_iff_ne.mpr h, onlyIf_true]
    rw [heq]
    exact ⟨stateChange_state hb, stateChange_acked.trans (if_neg h).symm, fun _ hf => stateChange_asserted hf, fun he => absurd he h,
      fun n hn hn' => stateChange_keepsCount hn hn', stateChange_touches i _ s⟩

/-- The boot latch and the arming are none of the fields of an input. -/
theorem inputField_ne_latch (i : Nat) : ∀ f ∈ [.FLD_SAFE_STAT_BOOT_LATCH, .FLD_SAFE_STAT_ARMED], f ≠ stateField i ∧ f ≠ ackedField i ∧ f ≠ holdsField i
    ∧ f ∉ reportFields := by
  unfold stateField ackedField holdsField
  split <;> decide

theorem receiveSafety_received (hi : i < 2) (hb : s.get .FLD_DIE_BAND i < 8) : InputReceived i s (receiveSafety i s) := by
  obtain ⟨hsa, hsh, hah, hapart⟩ := inputFields_apart i
  have hreport (f : Fld) (hf : f ∈ inputFields i) : f ∉ reportFields := (hapart f hf).1
  obtain ⟨hls, hla, hlh, hlr⟩ := inputField_ne_latch i .FLD_SAFE_STAT_BOOT_LATCH (by decide)
  obtain ⟨has, haa, -, har⟩ := inputField_ne_latch i .FLD_SAFE_STAT_ARMED (by decide)
  obtain ⟨hstate, hacked, hfaulty, hsteady, hother, htouch⟩ := receiveState_received hb
  have hholds : (receiveState i s).flag (holdsField i) = s.flag (holdsField i) :=
    htouch.flag (not_mem_stateFields (Ne.symm hsh) (Ne.symm hah) (hreport _ (by simp [inputFields]))) 0
  have hlatch := htouch.get (not_mem_stateFields hls hla hlr) 0
  have harmed := htouch.flag (not_mem_stateFields has haa har) 0
  have hmono : ∀ f ∈ [stateField i, ackedField i] ++ reportFields, f ∈ inputFields i ++ reportFields := by
    unfold inputFields stateField ackedField holdsField
    split <;> decide
  have hmono' : ∀ f ∈ [holdsField i, .FLD_SAFE_STAT_BOOT_LATCH] ++ reportFields, f ∈ inputFields i ++ reportFields := by
    unfold inputFields stateField ackedField holdsField
    split <;> decide
  rw [receiveSafety_eq]
  by_cases hsame : s.flag (holdsField i) = s.willHold i
  · rw [hsame, bne_self_eq_false, onlyIf_false]
    refine ⟨hstate, hholds.trans hsame, hacked, fun hoff hon => ?_, hfaulty, fun h => ?_, fun n hn hn' _ => hother n hn hn', hlatch.trans,
      htouch.mono hmono⟩
    · rw [hholds, hoff] at hon
      cases hon
    · rw [hsteady h]
      exact .refl _ s
  · have hchange := holdsChange_touches i (s.willHold i) (receiveState i s)
    rw [bne_iff_ne.mpr hsame, onlyIf_true]
    refine ⟨?_, holdsChange_holds, ?_, fun hoff hon => ⟨?_, fun hun => ?_⟩, fun hne hf => ?_, fun h => ?_, fun n hn hn' hn'' => ?_, fun h => ?_,
      (htouch.mono hmono).trans (hchange.mono hmono')⟩
    · exact (hchange.get (not_mem_holdsFields hsh (Ne.symm hls) (hreport _ (by simp [inputFields]))) 0).trans hstate
    · exact (hchange.get (not_mem_holdsFields hah (Ne.symm hla) (hreport _ (by simp [inputFields]))) 0).trans hacked
    · exact (holdsChange_asserted hi).since (hother _ (by omega) (by omega))
    · rw [holdsChange_holds] at hon
      rw [hon]
      exact holdsChange_boot (harmed.trans hun)
    · exact (hfaulty hne hf).then (holdsChange_keepsCount (by decide) (by omega))
    · rw [hsteady h]
      exact holdsChange_keepsCount (by decide) (by omega)
    · exact (hother n hn hn').trans (holdsChange_keepsCount hn hn'')
    · exact holdsChange_keepsLatch (hlatch.trans h)

/-! ### Both inputs (R562) -/

/-- What the logic side has received of both inputs. -/
structure BothReceived (s t : State) : Prop where
  state : ∀ i < 2, t.safetyState i = s.get .FLD_DIE_BAND i
  holds : ∀ i < 2, t.flag (holdsField i) = s.willHold i
  acked : ∀ i < 2, t.get (ackedField i) = if s.safetyState i = s.get .FLD_DIE_BAND i then s.get (ackedField i) else 0
  counted : ∀ i < 2, s.flag (holdsField i) = false → t.flag (holdsField i) = true →
    Asserted (472 + i) 0 s t ∧ (s.flag .FLD_SAFE_STAT_ARMED = false → t.get .FLD_SAFE_STAT_BOOT_LATCH = 1)
  faulty : ∀ i < 2, s.safetyState i ≠ s.get .FLD_DIE_BAND i → bandFaulty (s.get .FLD_DIE_BAND i) = true →
    s.safetyState (1 - i) = s.get .FLD_DIE_BAND (1 - i) → Asserted 474 2 s t
  touches : Touches (receivedFields ++ reportFields) s t

theorem receiveSafety_both (h0 : InputReceived 0 s t) (h1 : InputReceived 1 t u) : BothReceived s u := by
  have hkept0 (f : Fld) (hf : f ∉ inputFields 0 ++ reportFields) (k : Nat) : t.get f k = s.get f k := h0.touches.get hf k
  have hkept1 (f : Fld) (hf : f ∉ inputFields 1 ++ reportFields) (k : Nat) : u.get f k = t.get f k := h1.touches.get hf k
  have hband : t.get .FLD_DIE_BAND 1 = s.get .FLD_DIE_BAND 1 := hkept0 _ (by decide) 1
  have hstate : t.safetyState 1 = s.safetyState 1 := hkept0 (stateField 1) (by decide) 0
  have hholds : t.flag (holdsField 1) = s.flag (holdsField 1) := congrArg (· == 1) (hkept0 _ (by decide) 0)
  have hwill : t.willHold 1 = s.willHold 1 := by
    rw [State.willHold, State.willHold, hband, hholds, h0.touches.flag (by decide)]
  have hholds' : u.flag (holdsField 0) = t.flag (holdsField 0) := congrArg (· == 1) (hkept1 _ (by decide) 0)
  have harmed : t.flag .FLD_SAFE_STAT_ARMED = s.flag .FLD_SAFE_STAT_ARMED := h0.touches.flag (by decide) 0
  refine ⟨fun i hi => ?_, fun i hi => ?_, fun i hi => ?_, fun i hi hoff hon => ?_, fun i hi hne hf hother => ?_,
    (h0.touches.mono (inputFields_received 0)).trans (h1.touches.mono (inputFields_received 1))⟩
  · interval_cases i
    · exact (hkept1 (stateField 0) (by decide) 0).trans h0.state
    · exact h1.state.trans hband
  · interval_cases i
    · exact hholds'.trans h0.holds
    · exact h1.holds.trans hwill
  · interval_cases i
    · exact (hkept1 (ackedField 0) (by decide) 0).trans h0.acked
    · rw [h1.acked, hstate, hband, hkept0 (ackedField 1) (by decide)]
  · interval_cases i
    · obtain ⟨hasserted, hboot⟩ := h0.counted hoff (hholds'.symm.trans hon)
      exact ⟨hasserted.then (h1.other 472 (by decide) (by decide) (by decide)), fun hun => h1.latch (hboot hun)⟩
    · obtain ⟨hasserted, hboot⟩ := h1.counted (hholds.trans hoff) hon
      exact ⟨hasserted.since (h0.other 473 (by decide) (by decide) (by decide)), fun hun => hboot (harmed.trans hun)⟩
  · interval_cases i
    · exact (h0.faulty hne hf).then (h1.steady ((hstate.trans hother).trans hband.symm))
    · rw [← hstate, ← hband] at hne
      rw [← hband] at hf
      exact (h1.faulty hne hf).since (h0.steady hother)

/-! ### The override (R562, R563) -/

/-- The fields in which the override shows. -/
def overrideFields : List Fld := [.FLD_SAFE_STAT_OVERRIDE, .AUD_EVAC_WAIT, .CMP_EVAC_WAIT, .CMP_EVAC_TICK, .CMP_LEGEND_STAT_ACTIVE]

/-- The override as the field unit, the audio matrix and the composition unit have it (R562). -/
def showOverride (on : Bool) (s : State) : State :=
  ((((s.putFlag .FLD_SAFE_STAT_OVERRIDE 0 on).putFlag .AUD_EVAC_WAIT 0 on).putFlag .CMP_EVAC_WAIT 0 on).put .CMP_EVAC_TICK 0 s.tick).putFlag
    .CMP_LEGEND_STAT_ACTIVE 0 on

theorem showOverride_touches (on : Bool) (s : State) : Touches overrideFields s (showOverride on s) :=
  Touches.putFlag (by decide) _ _ (Touches.put (by decide) _ _ (Touches.putFlag (by decide) _ _ (Touches.putFlag (by decide) _ _
    (Touches.putFlag (by decide) _ _ (Touches.refl _ s)))))

theorem showOverride_shows (on : Bool) (s : State) : (showOverride on s).flag .FLD_SAFE_STAT_OVERRIDE = on ∧ (showOverride on s).flag .AUD_EVAC_WAIT = on
    ∧ (showOverride on s).flag .CMP_EVAC_WAIT = on ∧ (showOverride on s).get .CMP_EVAC_TICK = s.tick % 2 ^ 64
    ∧ (showOverride on s).flag .CMP_LEGEND_STAT_ACTIVE = on := by
  unfold showOverride State.flag
  simp (disch := decide) only [State.get_put_other, State.get_putFlag_other, State.get_put_self, State.get_putFlag_self]
  cases on
  all_goals exact ⟨rfl, rfl, rfl, rfl, rfl⟩

/-- Of an activation in Quiet, Quiet ends (R548). -/
theorem setOverride_eq (on : Bool) (s : State) :
    setOverride on s = onlyIf (on && s.inQuiet) (fun s => leaveQuietState (s.put .PWR_STAT_SAFETY_WAKE 0 1)) (showOverride on s) := by
  have hquiet : (showOverride on s).inQuiet = s.inQuiet := congrArg (· == 4) ((showOverride_touches on s).get (by decide) 0)
  rw [← hquiet]
  rfl

/-- The override as it is judged, while the part is not in Quiet (R562). -/
theorem judgeOverride_awake (h : s.inQuiet = false) :
    (judgeOverride s).flag .FLD_SAFE_STAT_OVERRIDE = (s.flag .FLD_SAFE_STAT_ARMED && s.anyHolds)
      ∧ ((judgeOverride s).flag .FLD_SAFE_STAT_OVERRIDE ≠ s.flag .FLD_SAFE_STAT_OVERRIDE →
          judgeOverride s = showOverride ((judgeOverride s).flag .FLD_SAFE_STAT_OVERRIDE) s)
      ∧ Touches overrideFields s (judgeOverride s) := by
  unfold judgeOverride
  dsimp only
  by_cases hsame : (s.flag .FLD_SAFE_STAT_ARMED && s.anyHolds) = s.flag .FLD_SAFE_STAT_OVERRIDE
  · rw [hsame, bne_self_eq_false, onlyIf_false]
    exact ⟨rfl, fun h => absurd rfl h, Touches.refl _ s⟩
  · rw [bne_iff_ne.mpr hsame, onlyIf_true, setOverride_eq, h, Bool.and_false, onlyIf_false]
    obtain ⟨hshows, -⟩ := showOverride_shows (s.flag .FLD_SAFE_STAT_ARMED && s.anyHolds) s
    exact ⟨hshows, fun _ => by rw [hshows], showOverride_touches _ s⟩

/-! ### What a recognised band or a link that returns brings about (R562, R567, R572) -/

/-- The logic side has received both inputs, and has judged the override and the contact. -/
structure Received (s t : State) : Prop where
  state : ∀ i < 2, t.safetyState i = s.get .FLD_DIE_BAND i
  holds : ∀ i < 2, t.flag (holdsField i) = s.willHold i
  acked : ∀ i < 2, t.get (ackedField i) = if s.safetyState i = s.get .FLD_DIE_BAND i then s.get (ackedField i) else 0
  counted : ∀ i < 2, s.flag (holdsField i) = false → t.flag (holdsField i) = true →
    Asserted (472 + i) 0 s t ∧ (s.flag .FLD_SAFE_STAT_ARMED = false → t.get .FLD_SAFE_STAT_BOOT_LATCH = 1)
  faulty : ∀ i < 2, s.safetyState i ≠ s.get .FLD_DIE_BAND i → bandFaulty (s.get .FLD_DIE_BAND i) = true →
    s.safetyState (1 - i) = s.get .FLD_DIE_BAND (1 - i) → Asserted 474 2 s t
  override : t.flag .FLD_SAFE_STAT_OVERRIDE = (s.flag .FLD_SAFE_STAT_ARMED && (t.flag .FLD_SAFE_STAT_HOLDS0 || t.flag .FLD_SAFE_STAT_HOLDS1))
  evac : t.flag .FLD_SAFE_STAT_OVERRIDE ≠ s.flag .FLD_SAFE_STAT_OVERRIDE →
    t.flag .AUD_EVAC_WAIT = t.flag .FLD_SAFE_STAT_OVERRIDE ∧ t.flag .CMP_EVAC_WAIT = t.flag .FLD_SAFE_STAT_OVERRIDE
      ∧ t.get .CMP_EVAC_TICK = s.tick % 2 ^ 64 ∧ t.flag .CMP_LEGEND_STAT_ACTIVE = t.flag .FLD_SAFE_STAT_OVERRIDE
  contact : t.flag .FLD_SAFE_STAT_CONTACT_FAULT = t.contactOpen
  touches : Touches (receivedFields ++ overrideFields ++ [.FLD_SAFE_STAT_CONTACT_FAULT] ++ reportFields) s t

/-- Neither the override nor the contact is judged in a field of an input. -/
theorem judged_kept (hu : Touches overrideFields t u) {f : Fld} (hf : f ∉ overrideFields ++ [.FLD_SAFE_STAT_CONTACT_FAULT]) (k : Nat) :
    (judgeContact u).get f k = t.get f k := by
  simp only [List.mem_append, not_or] at hf
  obtain ⟨hover, hcontact⟩ := hf
  exact ((judgeContact_touches u).get hcontact k).trans (hu.get hover k)

/-- A state whose inputs are received, with the override and the contact judged. -/
theorem BothReceived.judged (h : BothReceived s t) (hquiet : s.inQuiet = false) : Received s (judgeContact (judgeOverride t)) := by
  have hawake : t.inQuiet = false := (congrArg (· == 4) (h.touches.get (by decide) 0)).trans hquiet
  obtain ⟨hover, hshow, htouch⟩ := judgeOverride_awake hawake
  have hcontact := judgeContact_touches (judgeOverride t)
  have hkept {f : Fld} (hf : f ∉ overrideFields ++ [.FLD_SAFE_STAT_CONTACT_FAULT]) (k : Nat) := judged_kept htouch hf k
  have hcount (n : Nat) : KeepsCount n t (judgeContact (judgeOverride t)) := ⟨hkept (by decide) n, hkept (by decide) n⟩
  have hstate : ∀ i, stateField i ∉ overrideFields ++ [.FLD_SAFE_STAT_CONTACT_FAULT] := fun i => by unfold stateField; split <;> decide
  have hholds : ∀ i, holdsField i ∉ overrideFields ++ [.FLD_SAFE_STAT_CONTACT_FAULT] := fun i => by unfold holdsField; split <;> decide
  have hacked : ∀ i, ackedField i ∉ overrideFields ++ [.FLD_SAFE_STAT_CONTACT_FAULT] := fun i => by unfold ackedField; split <;> decide
  have hflag (i : Nat) : (judgeContact (judgeOverride t)).flag (holdsField i) = t.flag (holdsField i) := congrArg (· == 1) (hkept (hholds i) 0)
  have hoverride : (judgeContact (judgeOverride t)).flag .FLD_SAFE_STAT_OVERRIDE = (judgeOverride t).flag .FLD_SAFE_STAT_OVERRIDE := hcontact.flag (by decide) 0
  refine ⟨fun i hi => (hkept (hstate i) 0).trans (h.state i hi), fun i hi => (hflag i).trans (h.holds i hi),
    fun i hi => (hkept (hacked i) 0).trans (h.acked i hi), fun i hi hoff hon => ?_,
    fun i hi hne hf hother => (h.faulty i hi hne hf hother).then (hcount 474), ?_, fun hne => ?_, judgeContact_shows _, ?_⟩
  · obtain ⟨hasserted, hboot⟩ := h.counted i hi hoff ((hflag i).symm.trans hon)
    exact ⟨hasserted.then (hcount _), fun hun => (hkept (by decide) 0).trans (hboot hun)⟩
  · have hflag0 := hflag 0
    have hflag1 := hflag 1
    rw [hoverride, hover, h.touches.flag (by decide), State.anyHolds]
    exact congrArg _ (congrArg₂ _ hflag0.symm hflag1.symm)
  · rw [hoverride] at hne ⊢
    rw [← h.touches.flag (f := .FLD_SAFE_STAT_OVERRIDE) (by decide)] at hne
    obtain ⟨-, haud, hcmp, htick, hlegend⟩ := showOverride_shows ((judgeOverride t).flag .FLD_SAFE_STAT_OVERRIDE) t
    rw [← hshow hne] at haud hcmp htick hlegend
    rw [hcontact.flag (by decide), hcontact.flag (by decide), hcontact.get (by decide), hcontact.flag (by decide)]
    refine ⟨haud, hcmp, htick.trans ?_, hlegend⟩
    rw [h.touches.1]
  · exact ((h.touches.mono (by decide)).trans (htouch.mono (by decide))).trans (hcontact.mono (by decide))

/-- What a link that is up brings to the logic side (R561, R562). -/
theorem receiveBoth_received (hlink : s.flag .FLD_STAT_LINK_UP = true) (hquiet : s.inQuiet = false) (hb : ∀ i < 2, s.get .FLD_DIE_BAND i < 8) :
    Received s (receiveBoth s) := by
  have h0 := receiveSafety_received (i := 0) (by decide) (hb 0 (by decide))
  have hband : (receiveSafety 0 s).get .FLD_DIE_BAND 1 = s.get .FLD_DIE_BAND 1 := h0.touches.get (by decide) 1
  have h1 := receiveSafety_received (i := 1) (s := receiveSafety 0 s) (by decide) (by rw [hband]; exact hb 1 (by decide))
  unfold receiveBoth
  rw [hlink, onlyIf_true]
  exact (receiveSafety_both h0 h1).judged hquiet

theorem receiveBoth_linkDown (hlink : s.flag .FLD_STAT_LINK_UP = false) : receiveBoth s = s := by
  unfold receiveBoth
  rw [hlink, onlyIf_false]

end Sys2Proof.Machine
end

section
/-!
PROOFS. The return of the field-side link, and the statement of supply, link and outputs (R567, R571 to R573).
-/
namespace Sys2Proof.Machine

variable {n k : Nat} {fs : List Fld} {step : Nat → State → State} {s t : State}

/-! ### Steps that each write at an index of their own -/

/-- What is written at one index leaves every field at the others. -/
theorem TouchesAt.get_other (h : TouchesAt k fs [] s t) (hn : n ≠ k) (f : Fld) : t.get f n = s.get f n := by
  by_cases hf : f ∈ fs
  · exact h.2 f hf n hn
  · exact h.1.get (by rwa [List.append_nil]) n

theorem forAll_get_other (hs : ∀ k u, TouchesAt k fs [] u (step k u)) {l : List Nat} (hn : n ∉ l) (s : State) (f : Fld) :
    (forAll l step s).get f n = s.get f n := by
  induction l generalizing s with
  | nil => rfl
  | cons a l ih =>
    obtain ⟨hna, hnl⟩ := not_or.mp (mt List.mem_cons.mpr hn)
    exact (ih hnl (step a s)).trans ((hs a s).get_other hna f)

/-- Of such steps at distinct indices, the one at an index alone says what a field holds there. -/
theorem forAll_get_at (hs : ∀ k u, TouchesAt k fs [] u (step k u)) {l : List Nat} (hnd : l.Nodup) (hn : n ∈ l) (s : State) {f : Fld}
    (hstep : ∀ u, (∀ g, u.get g n = s.get g n) → (step n u).get f n = (step n s).get f n) :
    (forAll l step s).get f n = (step n s).get f n := by
  induction l generalizing s with
  | nil => cases hn
  | cons a l ih =>
    obtain ⟨ha, hnd⟩ := List.nodup_cons.mp hnd
    show (forAll l step (step a s)).get f n = _
    by_cases hna : n = a
    · rw [hna] at hstep ⊢
      exact forAll_get_other hs ha _ f
    · have hsame (g : Fld) := (hs a s).get_other hna g
      have hl : n ∈ l := (List.mem_cons.mp hn).resolve_left hna
      rw [ih hnd hl (step a s) (fun u hu => ?_), hstep _ hsame]
      rw [hstep u (fun g => (hu g).trans (hsame g)), hstep _ hsame]

/-! ### Levels behind a link that returns (R572) -/

/-- The level of input `n` reaches the logic side again; an inactive one is not stuck (R570, R572). -/
def relearn (n : Nat) (s : State) : State :=
  gpiLevel n (onlyIf (!s.flag .FLD_GPI_REC n) (fun s => (s.put .FLD_GPI_W2_STUCK n 0).put .FLD_GPI_W2_MASKED n 0) s)

/-- An input that is inactive behind a link that returns is neither stuck nor masked (R570). -/
def unstick (n : Nat) (s : State) : State :=
  onlyIf (!s.flag .FLD_GPI_REC n) (fun s => (s.put .FLD_GPI_W2_STUCK n 0).put .FLD_GPI_W2_MASKED n 0) s

theorem unstick_touches (n : Nat) (s : State) : TouchesAt n [.FLD_GPI_W2_STUCK, .FLD_GPI_W2_MASKED] [] s (unstick n s) := by
  unfold unstick
  cases s.flag .FLD_GPI_REC n
  · exact (TouchesAt.refl ..).put.put
  · exact TouchesAt.refl ..

theorem unstick_get {f : Fld} (hf : f ∈ [.FLD_GPI_W2_STUCK, .FLD_GPI_W2_MASKED]) :
    (unstick n s).get f n = if s.flag .FLD_GPI_REC n then s.get f n else 0 := by
  unfold unstick
  cases s.flag .FLD_GPI_REC n
  · rw [Bool.not_false, onlyIf_true, if_neg Bool.false_ne_true]
    rcases List.mem_pair.mp hf with rfl | rfl
    · exact (State.get_put_other _ (by decide) ..).trans (State.get_put_self ..)
    · exact State.get_put_self ..
  · rfl

theorem relearn_touches (n : Nat) (s : State) : TouchesAt n [.FLD_GPI_W2_LEVEL, .FLD_GPI_W2_STUCK, .FLD_GPI_W2_MASKED] [] s (relearn n s) :=
  TouchesAt.thenAt (TouchesAt.thenAt (TouchesAt.refl ..) (unstick_touches n s)) (gpiLevel_touches n (unstick n s))

theorem relearn_get {f : Fld} (hf : f ∈ [.FLD_GPI_W2_STUCK, .FLD_GPI_W2_MASKED]) :
    (relearn n s).get f n = if s.flag .FLD_GPI_REC n then s.get f n else 0 := by
  have hout : ∀ f ∈ [Fld.FLD_GPI_W2_STUCK, .FLD_GPI_W2_MASKED], f ∉ [Fld.FLD_GPI_W2_LEVEL] ++ [] := by decide
  exact ((gpiLevel_touches n (unstick n s)).1.get (hout f hf) n).trans (unstick_get hf)

theorem relearn_level : (relearn n s).get .FLD_GPI_W2_LEVEL n =
    if s.flag .FLD_GPI_REC n && !((if s.flag .FLD_GPI_REC n then s.get .FLD_GPI_W2_MASKED n else 0) == 1) then 1 else 0 := by
  have hmasked : (unstick n s).flag .FLD_GPI_W2_MASKED n = ((if s.flag .FLD_GPI_REC n then s.get .FLD_GPI_W2_MASKED n else 0) == 1) :=
    congrArg (· == 1) (unstick_get (by decide))
  have hrec := (unstick_touches n s).1.flag (f := .FLD_GPI_REC) (by decide) n
  show (gpiLevel n (unstick n s)).get .FLD_GPI_W2_LEVEL n = _
  rw [gpiLevel, State.get_putFlag_self, hmasked, hrec]
  cases s.flag .FLD_GPI_REC n && !((if s.flag .FLD_GPI_REC n then s.get .FLD_GPI_W2_MASKED n else 0) == 1) <;> rfl

theorem ite_one_beq (b : Bool) : ((if b = true then 1 else 0) == 1) = b := by
  cases b <;> rfl

/-- The levels of all inputs behind a link that returns. -/
def relearnAll (s : State) : State := forAll (List.range 32) relearn s

theorem relearnAll_touches (s : State) : Touches [.FLD_GPI_W2_LEVEL, .FLD_GPI_W2_STUCK, .FLD_GPI_W2_MASKED] s (relearnAll s) :=
  Touches.forAll _ (fun n u => (relearn_touches n u).1) (Touches.refl _ s)

theorem relearnAll_get (hn : n < 32) {f : Fld} (hf : f ∈ [.FLD_GPI_W2_LEVEL, .FLD_GPI_W2_STUCK, .FLD_GPI_W2_MASKED]) :
    (relearnAll s).get f n = (relearn n s).get f n := by
  refine forAll_get_at relearn_touches List.nodup_range (List.mem_range.mpr hn) s (fun u hu => ?_)
  have hrec : u.flag .FLD_GPI_REC n = s.flag .FLD_GPI_REC n := congrArg (· == 1) (hu _)
  simp only [List.mem_cons, List.not_mem_nil, or_false] at hf
  rcases hf with rfl | rfl | rfl
  · rw [relearn_level, relearn_level, hrec, hu]
  · rw [relearn_get (by decide), relearn_get (by decide), hrec, hu]
  · rw [relearn_get (by decide), relearn_get (by decide), hrec, hu]

theorem exec_fieldLinkUp_none (h : s.flag .FLD_STAT_LINK_UP = true ∨ s.get .FLD_LINK_GOOD < 100) : exec .fieldLinkUp s = .next s := by
  have hoff : (!s.flag .FLD_STAT_LINK_UP && 100 ≤ s.get .FLD_LINK_GOOD) = false := by
    rcases h with h | h
    · rw [h, Bool.not_true, Bool.false_and]
    · rw [decide_eq_false (Nat.not_le.mpr h), Bool.and_false]
  rw [exec_fieldLinkUp, execFieldLinkUp, hoff, onlyIf_false]

/-- The link returns (R572). -/
theorem exec_fieldLinkUp_returns (hdown : s.flag .FLD_STAT_LINK_UP = false) (hgood : 100 ≤ s.get .FLD_LINK_GOOD) :
    exec .fieldLinkUp s = .next (receiveBoth (relearnAll (s.put .FLD_STAT_LINK_UP 0 1))) := by
  rw [exec_fieldLinkUp, execFieldLinkUp, hdown, decide_eq_true hgood, Bool.not_false, Bool.and_self, onlyIf_true]
  rw [relearnAll]
  rfl

/-- What the logic side knows behind a link that has returned (R561, R562, R570, R572). -/
theorem fieldLinkUp_spec (hdown : s.flag .FLD_STAT_LINK_UP = false) (hgood : 100 ≤ s.get .FLD_LINK_GOOD)
    (hb : ∀ i < 2, s.get .FLD_DIE_BAND i < 8) (hquiet : s.inQuiet = false) :
    ∃ t, exec .fieldLinkUp s = .next t ∧ t.get .FLD_STAT_LINK_UP = 1
      ∧ (∀ i < 2, t.safetyState i = s.get .FLD_DIE_BAND i
          ∧ t.flag (holdsField i) = (s.get .FLD_DIE_BAND i != 0 && (s.flag (holdsField i) || s.flag .FLD_DIE_HOLDS i)))
      ∧ t.flag .FLD_SAFE_STAT_OVERRIDE = (s.flag .FLD_SAFE_STAT_ARMED && (t.flag .FLD_SAFE_STAT_HOLDS0 || t.flag .FLD_SAFE_STAT_HOLDS1))
      ∧ t.flag .FLD_SAFE_STAT_CONTACT_FAULT = t.contactOpen
      ∧ (∀ n < 32, t.flag .FLD_GPI_W2_LEVEL n = (s.flag .FLD_GPI_REC n && !t.flag .FLD_GPI_W2_MASKED n)
          ∧ (s.flag .FLD_GPI_REC n = false → t.get .FLD_GPI_W2_STUCK n = 0 ∧ t.get .FLD_GPI_W2_MASKED n = 0)
          ∧ (s.flag .FLD_GPI_REC n = true → t.get .FLD_GPI_W2_STUCK n = s.get .FLD_GPI_W2_STUCK n ∧ t.get .FLD_GPI_W2_MASKED n = s.get .FLD_GPI_W2_MASKED n))
      ∧ Touches ([.FLD_STAT_LINK_UP, .FLD_GPI_W2_LEVEL, .FLD_GPI_W2_STUCK, .FLD_GPI_W2_MASKED, .FLD_SAFE_STAT_STATE0, .FLD_SAFE_STAT_STATE1,
          .FLD_SAFE_STAT_ACKED0, .FLD_SAFE_STAT_ACKED1, .FLD_SAFE_STAT_HOLDS0, .FLD_SAFE_STAT_HOLDS1, .FLD_SAFE_STAT_BOOT_LATCH,
          .FLD_SAFE_STAT_OVERRIDE, .AUD_EVAC_WAIT, .CMP_EVAC_WAIT, .CMP_EVAC_TICK, .CMP_LEGEND_STAT_ACTIVE, .FLD_SAFE_STAT_CONTACT_FAULT]
          ++ reportFields) s t := by
  have hup : Touches [.FLD_STAT_LINK_UP] s (s.put .FLD_STAT_LINK_UP 0 1) := Touches.put (by decide) _ _ (Touches.refl _ s)
  have hlearn := relearnAll_touches (s.put .FLD_STAT_LINK_UP 0 1)
  have hbefore := (hup.mono (gs := [.FLD_STAT_LINK_UP, .FLD_GPI_W2_LEVEL, .FLD_GPI_W2_STUCK, .FLD_GPI_W2_MASKED]) (by decide)).trans
    (hlearn.mono (by decide))
  have hlink : (relearnAll (s.put .FLD_STAT_LINK_UP 0 1)).get .FLD_STAT_LINK_UP = 1 := (hlearn.get (by decide) 0).trans (State.get_put_self ..)
  have hawake : (relearnAll (s.put .FLD_STAT_LINK_UP 0 1)).inQuiet = false := (congrArg (· == 4) (hbefore.get (by decide) 0)).trans hquiet
  have hreceived := receiveBoth_received (State.flag_of_one hlink) hawake (fun i hi => by rw [hbefore.get (by decide)]; exact hb i hi)
  have htouch := hreceived.touches
  refine ⟨_, exec_fieldLinkUp_returns hdown hgood, (htouch.get (by decide) 0).trans hlink, fun i hi => ⟨?_, ?_⟩, ?_, hreceived.contact, fun n hn => ?_,
    (hbefore.mono (by decide)).trans (htouch.mono (by decide))⟩
  · exact (hreceived.state i hi).trans (hbefore.get (by decide) i)
  · have hholds : ∀ i, holdsField i ∉ [.FLD_STAT_LINK_UP, .FLD_GPI_W2_LEVEL, .FLD_GPI_W2_STUCK, .FLD_GPI_W2_MASKED] :=
      fun i => by unfold holdsField; split <;> decide
    rw [hreceived.holds i hi, State.willHold, hbefore.get (by decide), hbefore.flag (hholds i), hbefore.flag (by decide)]
  · rw [hreceived.override, hbefore.flag (by decide)]
  · have hgpi (f : Fld) (hf : f ∈ [.FLD_GPI_W2_LEVEL, .FLD_GPI_W2_STUCK, .FLD_GPI_W2_MASKED]) :
        (receiveBoth (relearnAll (s.put .FLD_STAT_LINK_UP 0 1))).get f n = (relearn n (s.put .FLD_STAT_LINK_UP 0 1)).get f n := by
      have hout : ∀ f ∈ [Fld.FLD_GPI_W2_LEVEL, .FLD_GPI_W2_STUCK, .FLD_GPI_W2_MASKED],
        f ∉ receivedFields ++ overrideFields ++ [.FLD_SAFE_STAT_CONTACT_FAULT] ++ reportFields := by decide
      exact (htouch.get (hout f hf) n).trans (relearnAll_get hn hf)
    have hlevel := hgpi .FLD_GPI_W2_LEVEL (by decide)
    have hstuck := hgpi .FLD_GPI_W2_STUCK (by decide)
    have hmasked := hgpi .FLD_GPI_W2_MASKED (by decide)
    rw [relearn_level, hup.flag (by decide), hup.get (by decide)] at hlevel
    rw [relearn_get (by decide), hup.flag (by decide), hup.get (by decide)] at hstuck hmasked
    refine ⟨?_, fun hrec => ?_, fun hrec => ?_⟩
    · unfold State.flag at hlevel hmasked ⊢
      rw [hlevel, hmasked]
      exact ite_one_beq _
    · rw [hstuck, hmasked, hrec]
      exact ⟨rfl, rfl⟩
    · rw [hstuck, hmasked, hrec]
      exact ⟨rfl, rfl⟩

/-- What the device knows of a supply that leaves its range (R571). -/
theorem vfieldOutOfRange_spec {mv : Nat} (hout : mv < 16000 ∨ 34000 < mv) :
    ∃ t, exec (.vfieldOutOfRange mv) s = .next t ∧ t.get .FLD_STAT_VFIELD = min mv 0xFFFF ∧ t.get .FLD_STAT_SUPPLY_OK = 0
      ∧ t.get .FLD_SAFE_STAT_CONTACT_FAULT = 1 ∧ t.flag .FLD_DIE_OFF = decide (mv < 12000)
      ∧ (s.flag .FLD_STAT_SUPPLY_OK = true → Asserted 477 2 s t)
      ∧ (12000 ≤ mv → Touches ([.FLD_STAT_VFIELD, .FLD_STAT_SUPPLY_OK, .FLD_SAFE_STAT_CONTACT_FAULT, .FLD_DIE_OFF] ++ reportFields) s t)
      ∧ (mv < 12000 → ∀ i < 2, t.get .FLD_DIE_BAND i = 5 ∧ t.get .FLD_RUN i = 0 ∧ t.get .FLD_RUN_BAND i = 5 ∧ t.get .FLD_DIE_HOLDS i = 0)
      ∧ Touches ([.FLD_STAT_VFIELD, .FLD_STAT_SUPPLY_OK, .FLD_SAFE_STAT_CONTACT_FAULT, .FLD_DIE_BAND, .FLD_RUN, .FLD_RUN_BAND, .FLD_DIE_HOLDS,
          .FLD_DIE_OFF] ++ reportFields) s t := by
  obtain ⟨hfield, hok⟩ := showSupply_shows mv 0 s
  have hshow := showSupply_touches mv 0 s
  have hreport : Touches reportFields (showSupply mv 0 s) (onlyIf (s.flag .FLD_STAT_SUPPLY_OK) (assertEv 477 2) (showSupply mv 0 s)) :=
    Touches.onlyIf _ (fun u => assertEv_report 477 2 u) (Touches.refl _ _)
  have hcontact := judgeContact_touches (onlyIf (s.flag .FLD_STAT_SUPPLY_OK) (assertEv 477 2) (showSupply mv 0 s))
  have hafter := (hreport.mono (gs := .FLD_SAFE_STAT_CONTACT_FAULT :: reportFields) (by decide)).trans (hcontact.mono (by decide))
  refine ⟨_, exec_vfieldOutOfRange_out hout, (hafter.get (by decide) 0).trans hfield, (hafter.get (by decide) 0).trans hok,
    judgeContact_opens (.inl ((hreport.get (by decide) 0).trans hok)), (hafter.flag (by decide) 0).trans (dieSupplied_off mv _), fun hleft => ?_,
    fun hhigh => ((showSupply_high hhigh 0 s).mono (by decide)).trans (hafter.mono (by decide)), fun hlow i hi => ?_,
    (hshow.mono (by decide)).trans (hafter.mono (by decide))⟩
  · have hasserted : Asserted 477 2 s (assertEv 477 2 (showSupply mv 0 s)) :=
      (assertEv_asserted _ (by decide) (by decide)).since (.of_touches hshow)
    rw [hleft, onlyIf_true] at hcontact ⊢
    exact hasserted.then (.of_touches hcontact)
  · obtain ⟨hband, hrun, hrunBand, hholds⟩ := forgetInputs_forgotten hi (((s.put .FLD_STAT_VFIELD 0 (min mv 0xFFFF)).put .FLD_STAT_SUPPLY_OK 0 0).put
      .FLD_DIE_OFF 0 1)
    rw [← dieSupplied_low hlow, ← showSupply] at hband hrun hrunBand hholds
    exact ⟨(hafter.get (by decide) i).trans hband, (hafter.get (by decide) i).trans hrun, (hafter.get (by decide) i).trans hrunBand,
      (hafter.get (by decide) i).trans hholds⟩

/-- Settles O59: the supply by its range, frames, the link's loss and return, and overloads of outputs that are off. -/
theorem fieldSupplyLinkAndOutputs : Obligations.FieldSupplyLinkAndOutputs := by
  unfold Obligations.FieldSupplyLinkAndOutputs
  refine ⟨fun mv s => ⟨exec_vfieldOutOfRange_in, fun hout => ?_, exec_vfieldInRange_none, fun hlo hhi hbad => ?_, fieldStatusFrame_good_spec mv s, ?_⟩,
    fun s => ⟨exec_fieldLinkDown_none, fun hup hbad => ?_, exec_fieldLinkUp_none, fun hdown hgood hb hquiet => ?_⟩,
    fun n s => ⟨fun h => ?_, fun hmode hset => exec_gpoOverload_off (fun _ => gpoOn_unset hmode hset)⟩⟩
  · exact vfieldOutOfRange_spec hout
  · -- the supply returns
    obtain ⟨hfield, hok⟩ := showSupply_shows mv 1 s
    have hcontact := judgeContact_touches (showSupply mv 1 s)
    have hshow := showSupply_high (show 12000 ≤ mv by omega) 1 s
    have hdie : (showSupply mv 1 s).get .FLD_DIE_OFF = 0 := by
      unfold showSupply
      rw [dieSupplied_high (by omega)]
      exact State.get_put_self ..
    refine ⟨_, exec_vfieldInRange_in hlo hhi hbad, (hcontact.get (by decide) 0).trans (hfield.trans (Nat.min_eq_left (by omega))),
      (hcontact.get (by decide) 0).trans hok, judgeContact_shows _, (hcontact.get (by decide) 0).trans hdie,
      (hshow.mono (by decide)).trans (hcontact.mono (by decide))⟩
  · -- a bad frame
    refine ⟨_, exec_fieldStatusFrame_bad mv s, ?_, ?_, Touches.bump (by decide) _ _ (Touches.put (by decide) _ _ (Touches.refl _ s))⟩
    · rw [State.get_bump_other _ (by decide), State.get_put_self]
      rfl
    · rw [State.get_bump_self, State.get_put_other _ (by decide)]
      rfl
  · -- the link is lost
    have hput : Touches ([.FLD_STAT_LINK_UP, .FLD_SAFE_STAT_CONTACT_FAULT] ++ reportFields) s (s.put .FLD_STAT_LINK_UP 0 0) :=
      Touches.put (by decide) _ _ (Touches.refl _ s)
    have hcontact := judgeContact_touches (assertEv 478 2 (s.put .FLD_STAT_LINK_UP 0 0))
    have hdown : (assertEv 478 2 (s.put .FLD_STAT_LINK_UP 0 0)).get .FLD_STAT_LINK_UP = 0 := by
      rw [State.get_assertEv _ _ _ (by decide), State.get_put_self]
      rfl
    have hasserted : Asserted 478 2 s (assertEv 478 2 (s.put .FLD_STAT_LINK_UP 0 0)) :=
      (assertEv_asserted _ (by decide) (by decide)).since (.put (by decide) (by decide) _ _ (.refl ..))
    exact ⟨_, exec_fieldLinkDown_lost hup hbad, (hcontact.get (by decide) 0).trans hdown, judgeContact_opens (.inr hdown),
      hasserted.then (.of_touches hcontact), (Touches.assertEv (by decide) _ _ hput).trans (hcontact.mono (by decide))⟩
  · exact fieldLinkUp_spec hdown hgood (fun i hi => (hb i hi).1) hquiet
  · -- an output without its conditions
    refine exec_gpoOverload_off (fun hn => ?_)
    rcases h with h | h
    · exact absurd h (Nat.not_le.mpr hn)
    · exact gpoOn_off h

end Sys2Proof.Machine
end

section
/-!
PROOFS. What asking for streams leaves alone (R99, R141 to R145, R150, R162, R169), and what leaving Quiet does (R515, R529, R546).
-/
namespace Sys2Proof.Machine

variable {n k i : Nat} {fs : List Fld} {f : Fld} {s t u : State}

-- A default argument `by …` is read once the kernel has checked all that precedes. Elaborated side by side, the lemmas below would each
-- hold a thread while they wait for that.
set_option Elab.async false

/-! ### Clearing and steps -/

theorem Touches.clearAll (h : Touches fs s t) (hf : f ∈ fs) : Touches fs s (t.clearAll f) :=
  h.trans ⟨rfl, fun g j hg => State.get_clearAll_other t (fun e : f = g => hg (e ▸ hf)) j⟩

/-- A field that every step keeps. -/
theorem forAll_get {α : Type} {step : α → State → State} (hs : ∀ a u, (step a u).get f i = u.get f i) (l : List α) (s : State) :
    (forAll l step s).get f i = s.get f i := by
  induction l generalizing s with
  | nil => rfl
  | cons a l ih => exact (ih (step a s)).trans (hs a s)

/-! ### The state but for its streams -/

/-- The fields that asking for streams may change. -/
def askedFields : List Fld := requestFields ++ decoderFields ++ reportFields

/-- Streams were asked for: but for the receive entries, the requests that wait and the fields of both, only reports differ. -/
def Asked (s t : State) : Prop := Touches askedFields { s with rx := t.rx, subWait := t.subWait } t

namespace Asked

theorem refl (s : State) : Asked s s := Touches.refl _ s

theorem trans (h : Asked s t) (k : Asked t u) : Asked s u := by
  refine Touches.trans (t := { t with rx := u.rx, subWait := u.subWait }) ⟨?_, h.2⟩ k
  rw [h.1]

theorem touches (h : Asked s t) (k : Touches fs t u) (hfs : ∀ f ∈ fs, f ∈ askedFields) : Asked s u := by
  refine h.trans ?_
  have hrx : u.rx = t.rx := by rw [k.1]
  have hwait : u.subWait = t.subWait := by rw [k.1]
  unfold Asked
  rw [hrx, hwait]
  exact k.mono hfs

/-- A field that asking for streams does not change. -/
theorem get (h : Asked s t) (hf : f ∉ askedFields) (i : Nat) : t.get f i = s.get f i := h.2 f i hf

theorem put {v : Nat} (h : Asked s t) (hf : f ∈ askedFields := by decide) : Asked s (t.put f i v) :=
  h.touches (fs := [f]) (Touches.put List.mem_cons_self _ _ (Touches.refl _ t)) (fun _ hg => List.mem_singleton.mp hg ▸ hf)

theorem inc (h : Asked s t) (hf : f ∈ askedFields := by decide) : Asked s (t.inc f i) := h.put hf

/-- A change of the receive entries alone. -/
theorem withRx {l : List RxStream} (h : Asked s t) : Asked s { t with rx := l } := h.trans ⟨rfl, fun _ _ _ => rfl⟩

/-- A change of the waiting requests alone. -/
theorem withWait {l : List SubWait} (h : Asked s t) : Asked s { t with subWait := l } := h.trans ⟨rfl, fun _ _ _ => rfl⟩

theorem ite {c : Prop} [Decidable c] {a b : State} (ha : Asked s a) (hb : Asked s b) : Asked s (if c then a else b) := by
  split <;> assumption

theorem onlyIf {c : Bool} {step : State → State} (hs : ∀ u, Asked u (step u)) (h : Asked s t) : Asked s (onlyIf c step t) := by
  unfold Machine.onlyIf
  exact ite (h.trans (hs t)) h

theorem forAll {α : Type} {l : List α} {step : α → State → State} (hs : ∀ a u, Asked u (step a u)) (h : Asked s t) : Asked s (forAll l step t) := by
  unfold Machine.forAll
  induction l generalizing t with
  | nil => exact h
  | cons a l ih => exact ih (h.trans (hs a t))

theorem notice (h : Asked s t) : Asked s (notice n t) := h.touches (notice_report n t) (by decide)

theorem setCauses {evt en : Fld} {mask src cls : Nat} (h : Asked s t) (hf : evt ∈ askedFields := by decide) :
    Asked s (setCauses evt en i mask src cls t) :=
  onlyIf (fun u => (refl u).touches (assertEv_report _ _ u) (by decide)) (h.put hf)

end Asked

open Asked (refl)

/-! ### Requests of streams -/

theorem bindRx_asked {who : Asker} (h : Asked s t) : Asked s (bindRx who n t) := by
  cases who
  case draft => exact h.put
  case live => exact h.put
  case shared => exact h

theorem mapRx_asked {p : RxStream → Bool} {g : RxStream → RxStream} (h : Asked s t) : Asked s (mapRx p g t) := h.withRx

theorem mapRxSlot_asked {g : RxStream → RxStream} (h : Asked s t) : Asked s (mapRxSlot n g t) := mapRx_asked h

theorem askRunning_asked {r : RxStream} (h : Asked s t) : Asked s (askRunning r k t) := (mapRxSlot_asked h).inc

theorem joinStream_asked {r : RxStream} {who : Asker} (h : Asked s t) : Asked s (joinStream r who t) := by
  have hb : Asked s (bindRx who r.slot t) := bindRx_asked h
  exact .ite (.ite (askRunning_asked hb) (mapRxSlot_asked hb)) (.onlyIf (fun u => askRunning_asked (refl u)) hb)

theorem noteRefusal_asked {kind src code home : Nat} {drafts lives : List Nat} (h : Asked s t) :
    Asked s (noteRefusal kind src drafts lives code home t) := by
  refine .ite ?_ (.ite ?_ h.notice)
  · exact .forAll (fun _ u => .onlyIf (fun u => (refl u).put) (refl u)) (.forAll (fun _ u => (refl u).put) h)
  · exact .forAll (fun _ u => (refl u).put.setCauses) h

theorem refuseAtOnce_asked {kind src code : Nat} {who : Asker} (h : Asked s t) : Asked s (refuseAtOnce kind src who code t) := by
  refine Asked.notice ?_
  cases who <;> exact noteRefusal_asked h

theorem forgetCounts_asked (h : Asked s t) : Asked s (forgetCounts n t) := .forAll (fun _ u => (refl u).put) h.put.put.put

theorem clearReasons_asked {r : RxStream} (h : Asked s t) : Asked s (clearReasons r t) :=
  .ite (.forAll (fun _ u => (refl u).put) h) (.ite (.forAll (fun _ u => (refl u).put) h) h)

theorem reRequest_asked {r : RxStream} (h : Asked s t) : Asked s (reRequest r k t) := (mapRxSlot_asked (forgetCounts_asked (clearReasons_asked h))).inc

theorem clearDecoder_asked (h : Asked s t) : Asked s (clearDecoder n t) := by
  unfold clearDecoder
  dsimp only
  exact forgetCounts_asked (.forAll (fun _ u => (refl u).put) h.put.put.put.put.put.put)

theorem openRequest_asked {kind src home fs : Nat} {who : Asker} (h : Asked s t) : Asked s (openRequest kind src home k fs who t) := by
  unfold openRequest
  refine .ite (refuseAtOnce_asked h) ?_
  split
  · exact refuseAtOnce_asked h
  · exact refuseAtOnce_asked h
  · refine bindRx_asked (.onlyIf (fun u => (refl u).notice) (clearDecoder_asked (Asked.inc (Asked.withRx ?_))))
    exact .onlyIf (fun u => (refl u).put.put) h

theorem requestStream_asked {kind src home fs : Nat} {who : Asker} (h : Asked s t) : Asked s (requestStream kind src home k fs who t) := by
  unfold requestStream
  split
  · exact joinStream_asked h
  · refine .ite h.withWait (.ite (refuseAtOnce_asked h) ?_)
    split
    · exact reRequest_asked (bindRx_asked h)
    · exact openRequest_asked h

theorem requestDraft_asked {d : Nat} (h : Asked s t) : Asked s (requestDraft d t) := .onlyIf (fun u => requestStream_asked (refl u)) h

theorem requestLiveOf_asked {d : Nat} (h : Asked s t) : Asked s (requestLiveOf d t) := .onlyIf (fun u => requestStream_asked (refl u)) h

theorem requestGroup_asked {src : Nat} (h : Asked s t) : Asked s (requestGroup src t) := .onlyIf (fun u => requestStream_asked (refl u)) h

/-- A standby asks for what live entries name (R529). -/
theorem requestLive_asked (h : Asked s t) : Asked s (requestLive t) := by
  refine .forAll (fun _ u => .onlyIf (fun u => requestGroup_asked (refl u)) (refl u)) (.forAll (fun _ u => ?_) h)
  exact .onlyIf (fun u => requestLiveOf_asked (refl u)) (refl u)

theorem rebindField_asked {a b : Nat} (h : Asked s t) (hf : f ∈ askedFields := by decide) : Asked s (rebindField f a b t) :=
  .forAll (fun _ u => .onlyIf (fun u => (refl u).put hf) (refl u)) h

theorem rebind_asked {a b : Nat} (h : Asked s t) : Asked s (rebind a b t) := rebindField_asked (rebindField_asked (rebindField_asked h))

theorem freeRx_asked {p : RxStream → Bool} (h : Asked s t) : Asked s (freeRx p t) := .forAll (fun _ u => rebind_asked (refl u)) h.withRx

theorem askAgain_asked {r : RxStream} (h : Asked s t) : Asked s (askAgain r t) := by
  refine .onlyIf (fun u => ?_) h
  split
  · exact joinStream_asked (freeRx_asked (rebind_asked (refl u)))
  · exact reRequest_asked (refl u)

theorem requestMissing_asked {pos : Nat} (h : Asked s t) : Asked s (requestMissing pos t) := by
  unfold requestMissing
  dsimp only
  refine .onlyIf (fun u => .forAll (fun _ u => ?_) (refl u)) (.forAll (fun _ u => .forAll (fun _ u => ?_) (refl u)) (.forAll (fun _ u => ?_) h))
  · exact .onlyIf (fun u => requestStream_asked (refl u)) (refl u)
  · exact .onlyIf (fun u => requestStream_asked (refl u)) (refl u)
  · refine .onlyIf (fun u => requestLiveOf_asked (refl u)) ?_
    exact .onlyIf (fun u => requestDraft_asked (refl u)) (refl u)

theorem requestAgain_asked (h : Asked s t) : Asked s (requestAgain t) := by
  refine .onlyIf (fun u => .forAll (fun _ u => .onlyIf (fun u => requestMissing_asked (refl u)) (refl u)) (refl u)) ?_
  exact .forAll (fun _ u => askAgain_asked (refl u)) h.withRx

/-! ### Roles (R515, R529) -/

theorem startSync_touches (stage : Nat) (s : State) : Touches syncFields s (startSync stage s) := by
  have hcopies : Touches syncFields s (onlyIf (stage ≤ 2) (fun s => (s.clearAll .TWN_COPY_ATL_SEEN).clearAll .TWN_COPY_AUD_SEEN) s) :=
    Touches.onlyIf _ (fun u => ((Touches.refl _ u).clearAll (by decide)).clearAll (by decide)) (Touches.refl _ s)
  exact ((hcopies.put (by decide) _ _).put (by decide) _ _).clearAll (by decide)

theorem beginSync_touches (s : State) : Touches syncFields s (beginSync s) := Touches.onlyIf _ (fun u => startSync_touches 1 u) (Touches.refl _ s)

/-- The fields that the ROLE in force may change. -/
def enterFields : List Fld := [.PWR_STAT_STATE, .FLT_STAT_SAFE, .TWN_WANT] ++ syncFields ++ reportFields

theorem enterWarm_touches (s : State) : Touches enterFields s (enterWarm s) :=
  ((Touches.put (by decide) _ _ (Touches.refl _ s)).trans ((setPower_touches 3 _).mono (by decide))).trans ((beginSync_touches _).mono (by decide))

theorem enterWarm_state (s : State) : (enterWarm s).get .PWR_STAT_STATE = 3 :=
  ((beginSync_touches _).get (by decide) 0).trans (setPower_state (by decide))

theorem applyRole_touches (s : State) : Touches enterFields s (applyRole s) := by
  unfold applyRole
  exact Touches.ite (Touches.put (by decide) _ _ ((setPower_touches 2 s).mono (by decide))) (enterWarm_touches s)

theorem applyRole_state (s : State) : (applyRole s).get .PWR_STAT_STATE = 2 ∨ (applyRole s).get .PWR_STAT_STATE = 3 := by
  unfold applyRole
  split
  · refine Or.inl ?_
    rw [State.get_put_other _ (by decide), setPower_state (by decide)]
  · exact Or.inr (enterWarm_state s)

/-! ### Leaving Quiet (R546) -/

/-- The fields that a port's enable writes (R355, R357, R363). -/
def portFields : List Fld :=
  [.AUD_PORT_STAT_STATE, .AUD_PORT_STAT_CLK_PRESENT, .AUD_MASK_WRITTEN, .AUD_MASK_IN_LATCHED, .AUD_MASK_OUT_LATCHED, .AUD_MASK_IN_PREV,
   .AUD_MASK_OUT_PREV, .AUD_RAMP_LEFT, .AUD_REPEATS]

theorem portEnabled_get {p : Nat} (hf : f ∉ portFields) : (portEnabled p s).get f i = s.get f i := by
  have hne (g : Fld) (hg : g ∈ portFields) : g ≠ f := fun h => hf (h ▸ hg)
  unfold portEnabled
  dsimp only
  rw [State.get_put_other _ (hne _ (by decide)), State.get_put_other _ (hne _ (by decide)), State.get_put_other _ (hne _ (by decide)),
    State.get_put_other _ (hne _ (by decide)), State.get_put_other _ (hne _ (by decide)), State.get_put_other _ (hne _ (by decide)),
    State.get_put_other _ (hne _ (by decide)), State.get_putFlag_other _ (hne _ (by decide)), State.get_put_other _ (hne _ (by decide))]
  rfl

/-- The ports of a part that leaves Quiet requalify. -/
def requalify (s : State) : State := forAll (List.range 784) (fun p s => onlyIf (s.running .port p) (portEnabled p) s) s

theorem requalify_get (hf : f ∉ portFields) : (requalify s).get f i = s.get f i := by
  refine forAll_get (fun p u => ?_) _ s
  cases u.running .port p
  · rfl
  · exact portEnabled_get hf

theorem leaveQuietState_eq (s : State) : leaveQuietState s =
    onlyIf ((requestAgain (requalify (setPower 3 s))).running .twin) applyRole (requestAgain (requalify (setPower 3 s))) := rfl

/-- A field that neither the ports, the streams, the power state nor the role change stands behind leaving Quiet. -/
theorem leaveQuietState_get (hport : f ∉ portFields) (hask : f ∉ askedFields) (henter : f ∉ enterFields) : (leaveQuietState s).get f i = s.get f i := by
  have hpower := (setPower_touches 3 s).get (f := f) (fun h => henter ((show ∀ f ∈ [.PWR_STAT_STATE, .FLT_STAT_SAFE] ++ reportFields,
    f ∈ enterFields by decide) f h)) i
  have hrole : Touches enterFields (requestAgain (requalify (setPower 3 s))) (leaveQuietState s) := by
    rw [leaveQuietState_eq]
    exact Touches.onlyIf _ (fun u => applyRole_touches u) (Touches.refl _ _)
  exact (hrole.get henter i).trans (((requestAgain_asked (refl _)).get hask i).trans ((requalify_get hport).trans hpower))

/-- A part that leaves Quiet is in Run or in Warm Standby (R515, R546). -/
theorem leaveQuietState_awake (s : State) : (leaveQuietState s).inQuiet = false := by
  have hwarm : (requestAgain (requalify (setPower 3 s))).get .PWR_STAT_STATE = 3 :=
    ((requestAgain_asked (refl _)).get (by decide) 0).trans ((requalify_get (by decide)).trans (setPower_state (by decide)))
  rw [leaveQuietState_eq, State.inQuiet]
  refine beq_eq_false_iff_ne.mpr ?_
  cases (requestAgain (requalify (setPower 3 s))).running .twin
  · rw [onlyIf_false, hwarm]
    decide
  · rw [onlyIf_true]
    rcases applyRole_state (requestAgain (requalify (setPower 3 s))) with h | h
    · rw [h]
      decide
    · rw [h]
      decide

end Sys2Proof.Machine
end

section
/-!
PROOFS. Safety inputs: measurements and bands, arming, reminders and acknowledgements (R559 to R566).
-/
namespace Sys2Proof.Machine

variable {i j r h ohms : Nat} {l : List Nat} {m : Master} {slot : Nat} {fs : List Fld} {s t u : State}

/-! ### Measurements (R559, R560) -/

theorem exec_safetyMeasurement_none (h : 2 ≤ i ∨ s.flag .FLD_DIE_OFF = true) : exec (.safetyMeasurement i ohms) s = .next s := by
  have hoff : (i < 2 && !s.flag .FLD_DIE_OFF) = false := by
    rcases h with h | h
    · rw [decide_eq_false (Nat.not_lt.mpr h), Bool.false_and]
    · rw [h, Bool.not_true, Bool.and_false]
  rw [exec_safetyMeasurement, execSafetyMeasurement, hoff, onlyIf_false]

/-- The band of a measurement, and how long it has been measured (R560). -/
def measure (i ohms : Nat) (s : State) : State :=
  (s.put .FLD_RUN_BAND i (bandOf ohms)).put .FLD_RUN i (if s.get .FLD_RUN_BAND i = bandOf ohms then satAdd 10 (s.get .FLD_RUN i) 1 else 1)

theorem measure_touches (i ohms : Nat) (s : State) : TouchesAt i [.FLD_RUN_BAND, .FLD_RUN] [] s (measure i ohms s) := (TouchesAt.refl ..).put.put

theorem exec_safetyMeasurement_taken (hi : i < 2) (hdie : s.flag .FLD_DIE_OFF = false) :
    exec (.safetyMeasurement i ohms) s = .next (onlyIf (s.flag .FLD_STAT_LINK_UP) (·.put .FLD_SAFE_OHM i (min ohms 0xFFFF)) (measure i ohms s)) := by
  have hlink := (measure_touches i ohms s).1.flag (f := .FLD_STAT_LINK_UP) (by decide) 0
  rw [exec_safetyMeasurement, execSafetyMeasurement, decide_eq_true hi, hdie, ← hlink]
  rfl

theorem bandOf_lt (ohms : Nat) : bandOf ohms < 8 := by
  unfold bandOf
  split_ifs <;> decide

/-- A measurement is banded and counted (R559, R560). -/
theorem safetyMeasurement_spec (hi : i < 2) (hdie : s.flag .FLD_DIE_OFF = false) :
    ∃ t, exec (.safetyMeasurement i ohms) s = .next t ∧ t.get .FLD_RUN_BAND i = bandOf ohms
      ∧ t.get .FLD_RUN i = (if s.get .FLD_RUN_BAND i = bandOf ohms then satAdd 10 (s.get .FLD_RUN i) 1 else 1)
      ∧ t.get .FLD_SAFE_OHM i = (if s.flag .FLD_STAT_LINK_UP then min ohms 0xFFFF else s.get .FLD_SAFE_OHM i)
      ∧ TouchesAt i [.FLD_RUN_BAND, .FLD_RUN, .FLD_SAFE_OHM] [] s t := by
  have hshow : TouchesAt i [.FLD_SAFE_OHM] [] (measure i ohms s)
      (onlyIf (s.flag .FLD_STAT_LINK_UP) (·.put .FLD_SAFE_OHM i (min ohms 0xFFFF)) (measure i ohms s)) := by
    cases s.flag .FLD_STAT_LINK_UP
    · exact TouchesAt.refl ..
    · exact (TouchesAt.refl ..).put
  refine ⟨_, exec_safetyMeasurement_taken hi hdie, ?_, ?_, ?_, TouchesAt.thenAt (TouchesAt.thenAt (TouchesAt.refl ..) (measure_touches i ohms s)) hshow⟩
  · rw [hshow.1.get (by decide), measure, State.get_put_other _ (by decide), State.get_put_self]
    exact Nat.mod_eq_of_lt (bandOf_lt ohms)
  · rw [hshow.1.get (by decide), measure, State.get_put_self]
    refine Nat.mod_eq_of_lt ?_
    split
    · exact satAdd_lt ..
    · decide
  · cases s.flag .FLD_STAT_LINK_UP
    · rw [onlyIf_false, if_neg Bool.false_ne_true, (measure_touches i ohms s).1.get (by decide)]
    · rw [onlyIf_true, if_pos rfl, State.get_put_self]
      show min ohms 65535 % 65536 = _
      omega

/-! ### Bands that the field die recognises (R560, R561) -/

/-- Whether an input with a recognised band counts: active starts it, normal ends it, line faults do neither (R561). -/
def recognisedHolds (band holds : Nat) : Nat := if band = 1 then 1 else if band = 0 then 0 else holds

theorem recognisedHolds_twice (r h : Nat) : recognisedHolds r (recognisedHolds r h) = recognisedHolds r h := by
  unfold recognisedHolds
  split_ifs <;> rfl

theorem dieRecognises_touches (i : Nat) (s : State) : TouchesAt i [.FLD_DIE_BAND, .FLD_DIE_HOLDS] [] s (dieRecognises i s) := by
  have hband : TouchesAt i [.FLD_DIE_BAND, .FLD_DIE_HOLDS] [] s (s.put .FLD_DIE_BAND i (s.get .FLD_RUN_BAND i)) := (TouchesAt.refl ..).put
  exact .ite hband.put (.ite hband.put hband)

theorem dieRecognises_band : (dieRecognises i s).get .FLD_DIE_BAND i = s.get .FLD_RUN_BAND i % 2 ^ 3 := by
  unfold dieRecognises
  dsimp only
  split_ifs
  all_goals simp (disch := decide) only [State.get_put_other, State.get_put_self]
  all_goals rfl

theorem dieRecognises_holds : (dieRecognises i s).get .FLD_DIE_HOLDS i = recognisedHolds (s.get .FLD_RUN_BAND i) (s.get .FLD_DIE_HOLDS i) := by
  unfold dieRecognises recognisedHolds
  dsimp only
  split_ifs
  · exact State.get_put_self ..
  · exact State.get_put_self ..
  · exact State.get_put_other _ (by decide) ..

/-- An input of a list is recognised, however often it stands in it. -/
theorem forAll_dieRecognises (hi : i ∈ l) (s : State) : (forAll l dieRecognises s).get .FLD_DIE_BAND i = s.get .FLD_RUN_BAND i % 2 ^ 3
    ∧ (forAll l dieRecognises s).get .FLD_DIE_HOLDS i = recognisedHolds (s.get .FLD_RUN_BAND i) (s.get .FLD_DIE_HOLDS i) := by
  induction l generalizing s with
  | nil => cases hi
  | cons a l ih =>
    have hrun : (dieRecognises a s).get .FLD_RUN_BAND i = s.get .FLD_RUN_BAND i := (dieRecognises_touches a s).1.get (by decide) i
    show (forAll l dieRecognises (dieRecognises a s)).get .FLD_DIE_BAND i = _ ∧ (forAll l dieRecognises (dieRecognises a s)).get .FLD_DIE_HOLDS i = _
    by_cases hl : i ∈ l
    · obtain ⟨hband, hholds⟩ := ih hl (dieRecognises a s)
      rw [hrun] at hband hholds
      refine ⟨hband, hholds.trans ?_⟩
      by_cases ha : i = a
      · rw [← ha, dieRecognises_holds, recognisedHolds_twice]
      · rw [(dieRecognises_touches a s).get_other ha]
    · have ha : i = a := (List.mem_cons.mp hi).resolve_right hl
      rw [← ha, forAll_get_other dieRecognises_touches hl, forAll_get_other dieRecognises_touches hl]
      exact ⟨dieRecognises_band, dieRecognises_holds⟩

/-- Input `i` has measured a new band for long enough (R560). -/
def State.bandDue (s : State) (i : Nat) : Bool :=
  i < 2 && s.get .FLD_RUN_BAND i != s.get .FLD_DIE_BAND i && bandRun (s.get .FLD_RUN_BAND i) ≤ s.get .FLD_RUN i

/-- The field die recognises the bands that are due of a list of inputs (R560 to R562). -/
def recogniseDue (l : List Nat) (s : State) : State := forAll (l.filter s.bandDue) dieRecognises s

theorem exec_bandRecognised_eq (l : List Nat) (s : State) : exec (.bandRecognised l) s = .next (receiveBoth (recogniseDue l s)) := rfl

theorem recogniseDue_touches (l : List Nat) (s : State) : Touches [.FLD_DIE_BAND, .FLD_DIE_HOLDS] s (recogniseDue l s) :=
  Touches.forAll _ (fun i u => (dieRecognises_touches i u).1) (Touches.refl _ s)

/-- An input that is named and due has its band recognised, and counts as the band has it. -/
theorem recogniseDue_due (hi : i ∈ l) (hdue : s.bandDue i = true) (hband : s.get .FLD_RUN_BAND i < 8) :
    (recogniseDue l s).get .FLD_DIE_BAND i = s.get .FLD_RUN_BAND i
      ∧ (recogniseDue l s).get .FLD_DIE_HOLDS i = recognisedHolds (s.get .FLD_RUN_BAND i) (s.get .FLD_DIE_HOLDS i) := by
  obtain ⟨hget, hholds⟩ := forAll_dieRecognises (List.mem_filter.mpr ⟨hi, hdue⟩) s
  exact ⟨hget.trans (Nat.mod_eq_of_lt hband), hholds⟩

/-- Any other input stays as the field die had it. -/
theorem recogniseDue_other (hi : ¬(i ∈ l ∧ s.bandDue i = true)) (f : Fld) : (recogniseDue l s).get f i = s.get f i :=
  forAll_get_other dieRecognises_touches (fun h => hi (List.mem_filter.mp h)) s f

/-- What the field die holds of input `i` behind the recognition (R560, R561). -/
theorem recogniseDue_spec (hi : i < 2) (hband : s.get .FLD_RUN_BAND i < 8) :
    (recogniseDue l s).get .FLD_DIE_BAND i = (if i ∈ l ∧ (if s.get .FLD_RUN_BAND i = 4 then 1000 else 20) ≤ s.get .FLD_RUN i
        then s.get .FLD_RUN_BAND i else s.get .FLD_DIE_BAND i)
      ∧ ((recogniseDue l s).get .FLD_DIE_BAND i ≠ s.get .FLD_DIE_BAND i → (recogniseDue l s).get .FLD_DIE_BAND i = 1 →
          (recogniseDue l s).get .FLD_DIE_HOLDS i = 1)
      ∧ ((recogniseDue l s).get .FLD_DIE_BAND i ≠ s.get .FLD_DIE_BAND i → (recogniseDue l s).get .FLD_DIE_BAND i = 0 →
          (recogniseDue l s).get .FLD_DIE_HOLDS i = 0)
      ∧ ((recogniseDue l s).get .FLD_DIE_BAND i ≠ 0 → (recogniseDue l s).get .FLD_DIE_BAND i ≠ 1 →
          (recogniseDue l s).get .FLD_DIE_HOLDS i = s.get .FLD_DIE_HOLDS i) := by
  have hrun : bandRun (s.get .FLD_RUN_BAND i) = if s.get .FLD_RUN_BAND i = 4 then 1000 else 20 := rfl
  rw [← hrun]
  by_cases hdue : i ∈ l ∧ s.bandDue i = true
  · obtain ⟨hmem, hdue⟩ := hdue
    have hlong : bandRun (s.get .FLD_RUN_BAND i) ≤ s.get .FLD_RUN i := by
      unfold State.bandDue at hdue
      exact of_decide_eq_true (Bool.and_eq_true_iff.mp hdue).2
    obtain ⟨hget, hholds⟩ := recogniseDue_due hmem hdue hband
    rw [hget, hholds, if_pos ⟨hmem, hlong⟩]
    unfold recognisedHolds
    refine ⟨rfl, fun _ h1 => if_pos h1, fun _ h0 => ?_, fun h0 h1 => ?_⟩
    · rw [h0]
      rfl
    · rw [if_neg h1, if_neg h0]
  · have hsame : i ∈ l → bandRun (s.get .FLD_RUN_BAND i) ≤ s.get .FLD_RUN i → s.get .FLD_RUN_BAND i = s.get .FLD_DIE_BAND i := by
      intro hmem hlong
      by_contra hne
      refine hdue ⟨hmem, ?_⟩
      rw [State.bandDue, decide_eq_true hi, bne_iff_ne.mpr hne, decide_eq_true hlong]
      rfl
    rw [recogniseDue_other hdue, recogniseDue_other hdue]
    refine ⟨?_, fun h => absurd rfl h, fun h => absurd rfl h, fun _ _ => rfl⟩
    split
    next h => exact (hsame h.1 h.2).symm
    next => rfl

end Sys2Proof.Machine
end

section
/-!
PROOFS. Safety inputs: recognised bands at the logic side, arming, reminders and acknowledgements (R560 to R566).
-/
namespace Sys2Proof.Machine

variable {i : Nat} {l : List Nat} {m : Master} {slot : Nat} {f : Fld} {on : Bool} {s t : State}

/-! ### Recognised bands at the logic side (R561, R562) -/

/-- What of an input the field die does not hold stays behind a recognition. -/
theorem recogniseDue_keeps (hf : f ∉ [.FLD_DIE_BAND, .FLD_DIE_HOLDS]) (k : Nat) : (recogniseDue l s).get f k = s.get f k :=
  (recogniseDue_touches l s).get hf k

theorem logicField_ne_die (i : Nat) : ∀ f ∈ [stateField i, ackedField i, holdsField i], f ∉ [.FLD_DIE_BAND, .FLD_DIE_HOLDS] := by
  unfold stateField ackedField holdsField
  split <;> decide

/-- A band that the field die holds fits its field. -/
theorem recogniseDue_band_lt (hrun : s.get .FLD_RUN_BAND i < 8) (hdie : s.get .FLD_DIE_BAND i < 8) :
    (recogniseDue l s).get .FLD_DIE_BAND i < 8 := by
  by_cases hdue : i ∈ l ∧ s.bandDue i = true
  · rw [(recogniseDue_due hdue.1 hdue.2 hrun).1]
    exact hrun
  · rw [recogniseDue_other hdue]
    exact hdie

theorem bandFaulty_of_range {b : Nat} (hlo : 2 ≤ b) (hhi : b ≤ 4) : bandFaulty b = true := by
  rw [bandFaulty, decide_eq_true hlo, decide_eq_true hhi]
  rfl

/-- A recognised band at the logic side while the link is up, in the terms of the state before. -/
theorem Received.recognised (h : Received (recogniseDue l s) t) (hi : i < 2) :
    t.safetyState i = t.get .FLD_DIE_BAND i
      ∧ t.flag (holdsField i) = (t.get .FLD_DIE_BAND i != 0 && (s.flag (holdsField i) || t.flag .FLD_DIE_HOLDS i))
      ∧ t.get (ackedField i) = (if s.safetyState i = t.get .FLD_DIE_BAND i then s.get (ackedField i) else 0)
      ∧ (s.flag (holdsField i) = false → t.flag (holdsField i) = true → Asserted (472 + i) 0 s t
          ∧ (s.flag .FLD_SAFE_STAT_ARMED = false → t.get .FLD_SAFE_STAT_BOOT_LATCH = 1))
      ∧ (s.safetyState i ≠ t.get .FLD_DIE_BAND i → 2 ≤ t.get .FLD_DIE_BAND i → t.get .FLD_DIE_BAND i ≤ 4 →
          s.safetyState (1 - i) = t.get .FLD_DIE_BAND (1 - i) → Asserted 474 2 s t) := by
  have hband (j : Nat) : t.get .FLD_DIE_BAND j = (recogniseDue l s).get .FLD_DIE_BAND j := h.touches.get (by decide) j
  have hdie (j : Nat) : t.flag .FLD_DIE_HOLDS j = (recogniseDue l s).flag .FLD_DIE_HOLDS j := h.touches.flag (by decide) j
  have hstate (j : Nat) : (recogniseDue l s).safetyState j = s.safetyState j := recogniseDue_keeps (logicField_ne_die j (stateField j) List.mem_cons_self) 0
  have hacked : (recogniseDue l s).get (ackedField i) = s.get (ackedField i) := recogniseDue_keeps (logicField_ne_die i _ (by simp)) 0
  have hholds : (recogniseDue l s).flag (holdsField i) = s.flag (holdsField i) :=
    congrArg (· == 1) (recogniseDue_keeps (logicField_ne_die i _ (by simp)) 0)
  have harmed : (recogniseDue l s).flag .FLD_SAFE_STAT_ARMED = s.flag .FLD_SAFE_STAT_ARMED := (recogniseDue_touches l s).flag (by decide) 0
  have hcount (n : Nat) : KeepsCount n s (recogniseDue l s) := .of_touches (recogniseDue_touches l s)
  refine ⟨(h.state i hi).trans (hband i).symm, ?_, ?_, fun hoff hon => ?_, fun hne hlo hhi hother => ?_⟩
  · rw [h.holds i hi, State.willHold, hband, hdie, hholds]
  · rw [h.acked i hi, hband, hstate, hacked]
  · obtain ⟨hasserted, hlatch⟩ := h.counted i hi (hholds.trans hoff) hon
    exact ⟨hasserted.since (hcount _), fun hun => hlatch (harmed.trans hun)⟩
  · rw [hband] at hne hlo hhi hother
    rw [← hstate] at hne hother
    exact (h.faulty i hi hne (bandFaulty_of_range hlo hhi) hother).since (hcount _)

/-! ### Arming (R563) -/

/-- A field that leaving Quiet keeps is as the override shows it. -/
theorem setOverride_get (hport : f ∉ portFields) (hask : f ∉ askedFields) (henter : f ∉ enterFields) (hwake : .PWR_STAT_SAFETY_WAKE ≠ f) (k : Nat) :
    (setOverride on s).get f k = (showOverride on s).get f k := by
  rw [setOverride_eq]
  cases on && s.inQuiet
  · rw [onlyIf_false]
  · rw [onlyIf_true, leaveQuietState_get hport hask henter, State.get_put_other _ hwake]

theorem setOverride_flag (hport : f ∉ portFields) (hask : f ∉ askedFields) (henter : f ∉ enterFields) (hwake : .PWR_STAT_SAFETY_WAKE ≠ f) (k : Nat) :
    (setOverride on s).flag f k = (showOverride on s).flag f k := congrArg (· == 1) (setOverride_get hport hask henter hwake k)

/-- The override path as it arms (R563). -/
def arm (s : State) : State := s.put .FLD_SAFE_STAT_ARMED 0 1

theorem arm_touches (s : State) : Touches [.FLD_SAFE_STAT_ARMED] s (arm s) := Touches.put List.mem_cons_self _ _ (Touches.refl _ s)

/-- An armed path shows the override by what the inputs count (R562, R563). -/
theorem judgeOverride_arm (s : State) : judgeOverride (arm s) =
    onlyIf (s.anyHolds != s.flag .FLD_SAFE_STAT_OVERRIDE) (setOverride s.anyHolds) (arm s) := by
  have harmed : (arm s).flag .FLD_SAFE_STAT_ARMED = true := congrArg (· == 1) (State.get_put_self ..)
  have hholds : (arm s).anyHolds = s.anyHolds := by
    rw [State.anyHolds, State.anyHolds, (arm_touches s).flag (by decide), (arm_touches s).flag (by decide)]
  unfold judgeOverride
  dsimp only
  rw [harmed, hholds, (arm_touches s).flag (f := .FLD_SAFE_STAT_OVERRIDE) (by decide), Bool.true_and]

theorem exec_overrideArm_idle (h : s.handedOver = false ∨ s.flag .FLD_SAFE_STAT_ARMED = true) : exec .overrideArm s = .next s := by
  rw [exec_overrideArm, execOverrideArm]
  rcases h with h | h
  · rw [h, onlyIf_false]
  · have hsame : armOverride s = s := by
      unfold armOverride
      rw [h, Bool.not_true, onlyIf_false]
    unfold onlyIf
    rw [hsame, ite_self]

theorem exec_overrideArm_arms (h : s.handedOver = true) (harmed : s.flag .FLD_SAFE_STAT_ARMED = false) :
    exec .overrideArm s = .next (judgeOverride (arm s)) := by
  rw [exec_overrideArm, execOverrideArm, h, onlyIf_true, armOverride, harmed, Bool.not_false, onlyIf_true, arm]

/-- What arming leaves (R562, R563). -/
theorem judgeOverride_arm_spec (s : State) : (judgeOverride (arm s)).get .FLD_SAFE_STAT_ARMED = 1
    ∧ (judgeOverride (arm s)).flag .FLD_SAFE_STAT_OVERRIDE = s.anyHolds := by
  have harmed : (arm s).get .FLD_SAFE_STAT_ARMED = 1 := State.get_put_self ..
  rw [judgeOverride_arm]
  by_cases h : s.anyHolds = s.flag .FLD_SAFE_STAT_OVERRIDE
  · rw [h, bne_self_eq_false, onlyIf_false]
    exact ⟨harmed, (arm_touches s).flag (by decide) 0⟩
  · rw [bne_iff_ne.mpr h, onlyIf_true]
    obtain ⟨hshows, -⟩ := showOverride_shows s.anyHolds (arm s)
    refine ⟨?_, (setOverride_flag (by decide) (by decide) (by decide) (by decide) 0).trans hshows⟩
    rw [setOverride_get (by decide) (by decide) (by decide) (by decide), (showOverride_touches _ _).get (by decide), harmed]

/-- Arming with an input that counts brings the override about, and ends Quiet (R548, R562, R563). -/
theorem judgeOverride_arm_counts (hoff : s.flag .FLD_SAFE_STAT_OVERRIDE = false) (hon : s.anyHolds = true) :
    (judgeOverride (arm s)).flag .AUD_EVAC_WAIT = true ∧ (judgeOverride (arm s)).flag .CMP_EVAC_WAIT = true
      ∧ (judgeOverride (arm s)).flag .CMP_LEGEND_STAT_ACTIVE = true
      ∧ (s.inQuiet = true → (judgeOverride (arm s)).inQuiet = false ∧ (judgeOverride (arm s)).get .PWR_STAT_SAFETY_WAKE = 1) := by
  rw [judgeOverride_arm, hoff, hon, Bool.bne_false, onlyIf_true]
  obtain ⟨-, haud, hcmp, -, hlegend⟩ := showOverride_shows true (arm s)
  refine ⟨(setOverride_flag (by decide) (by decide) (by decide) (by decide) 0).trans haud,
    (setOverride_flag (by decide) (by decide) (by decide) (by decide) 0).trans hcmp,
    (setOverride_flag (by decide) (by decide) (by decide) (by decide) 0).trans hlegend, fun hquiet => ?_⟩
  have hquiet' : (arm s).inQuiet = true := (congrArg (· == 4) ((arm_touches s).get (by decide) 0)).trans hquiet
  rw [setOverride_eq, hquiet', Bool.and_self, onlyIf_true]
  refine ⟨leaveQuietState_awake _, ?_⟩
  rw [leaveQuietState_get (by decide) (by decide) (by decide), State.get_put_self]
  rfl

/-! ### Reminders (R565) -/

theorem exec_safetyReminder_none (h : 2 ≤ i ∨ s.flag (ackedField i) = true ∨ s.safetyState i = 0 ∨ 4 < s.safetyState i) :
    exec (.safetyReminder i) s = .next s := by
  rw [exec_safetyReminder, execSafetyReminder]
  rcases h with h | h | h
  · rw [decide_eq_false (Nat.not_lt.mpr h), Bool.false_and, onlyIf_false]
  · rw [h, Bool.not_true, Bool.and_false, onlyIf_false]
  · have hactive : ¬s.safetyState i = 1 := by omega
    have hfaulty : bandFaulty (s.safetyState i) = false := by
      rw [bandFaulty, Bool.and_eq_false_iff, decide_eq_false_iff_not, decide_eq_false_iff_not]
      omega
    unfold onlyIf
    dsimp only
    rw [if_neg hactive, hfaulty, if_neg Bool.false_ne_true, ite_self]

/-- A reminder of an input that is not acknowledged (R565). -/
theorem exec_safetyReminder_due (hi : i < 2) (h : s.flag (ackedField i) = false) :
    exec (.safetyReminder i) s = .next (if s.safetyState i = 1 then notice (472 + i) s else onlyIf (bandFaulty (s.safetyState i)) (assertEv 474 2) s) := by
  rw [exec_safetyReminder, execSafetyReminder, decide_eq_true hi, h, Bool.not_false, Bool.and_self, onlyIf_true]

/-! ### Acknowledgements (R566) -/

theorem secRefuse_refused {code : Nat} (hcode : code < 2 ^ 8) : Refused code (wordOf 0x13C0020) m s (secRefuse code m s) := by
  unfold secRefuse
  refine Refused.after ?_ ?_ (refuse_refused m ((s.put .SEC_RESULT_REASON 0 code).respond 0 false) hcode (by decide))
  · exact State.get_put_other _ (by decide) ..
  · exact State.get_put_other _ (by decide) ..

theorem Refused.ofUseNonce {code word : Nat} (h : Refused code word m (useNonce s) t) : Refused code word m s t := .after rfl rfl h

/-- A signed command in none of its lifecycle states (R538). -/
theorem signedCommand_barred {cmd : Nat} {states : List Nat} {needs permitted : Bool} {argument : State → Nat} {eff : State → State}
    (hp : Passes m secCmdOff s) (hbusy : s.get .SEC_RESULT_BUSY = 0) (hlock : s.get .SEC_DBG_LOCKOUT = 0) (hstate : s.inForce.lifecycle ∉ states) :
    signedCommand cmd slot m states needs permitted argument eff s = secRefuse 0xD3 m (useNonce s) := by
  have hbusy' : (s.respond 0 false).flag .SEC_RESULT_BUSY = false := State.flag_of_zero hbusy
  have hlock' : (s.respond 0 false).flag .SEC_DBG_LOCKOUT = false := State.flag_of_zero hlock
  have hstate' : (s.respond 0 false).inForce.lifecycle ∉ states := hstate
  unfold signedCommand
  rw [writeGated_pass hp]
  dsimp only
  rw [hbusy', hlock', if_neg Bool.false_ne_true, if_neg Bool.false_ne_true, if_pos hstate', useNonce]

/-- An acknowledgement in Safe (R538, R566). -/
theorem exec_ackSafety_safe (hp : Passes m secCmdOff s) (hbusy : s.get .SEC_RESULT_BUSY = 0) (hlock : s.get .SEC_DBG_LOCKOUT = 0)
    (hsafe : s.get .PWR_STAT_STATE = 1) : exec (.ackSafety m slot) s = .next (secRefuse 0xD3 m (useNonce s)) := by
  rw [exec_ackSafety, execAckSafety]
  rw [if_pos hsafe, signedCommand_barred hp hbusy hlock List.not_mem_nil]

/-- The inputs of a list are acknowledged (R566). -/
def acknowledge (l : List Nat) (s : State) : State := forAll l (fun i s => s.put (ackedField i) 0 1) s

theorem acknowledge_touches (l : List Nat) (s : State) : Touches [.FLD_SAFE_STAT_ACKED0, .FLD_SAFE_STAT_ACKED1] s (acknowledge l s) :=
  Touches.forAll _ (fun i u => Touches.put (ackedField_mem i) _ _ (Touches.refl _ u)) (Touches.refl _ s)

/-- Of the two inputs those named are acknowledged, and the other stays. -/
theorem acknowledge_get (hi : i < 2) (hl : ∀ j ∈ l, j < 2) (s : State) :
    (acknowledge l s).get (ackedField i) = if i ∈ l then 1 else s.get (ackedField i) := by
  induction l generalizing s with
  | nil => rfl
  | cons a l ih =>
    have hrest := ih (fun j hj => hl j (List.mem_cons_of_mem _ hj)) (s.put (ackedField a) 0 1)
    have hw : 1 % 2 ^ (ackedField a).info.w = 1 := by unfold ackedField; split <;> rfl
    have ha := hl a List.mem_cons_self
    refine Eq.trans hrest ?_
    by_cases heq : i = a
    · rw [heq, State.get_put_self, hw, ite_self, if_pos List.mem_cons_self]
    · have hne : ackedField a ≠ ackedField i := by
        interval_cases a <;> interval_cases i
        · exact absurd rfl heq
        · decide
        · decide
        · exact absurd rfl heq
      rw [State.get_put_other _ hne, if_congr (List.mem_cons.trans (or_iff_right heq)) rfl rfl]

/-- An input that an acknowledgement names and that is active or in line fault (R566). -/
def State.acksInput (s : State) (i : Nat) : Prop := bitsAt (s.get .SEC_ARG) i 1 = 1 ∧ 1 ≤ s.safetyState i ∧ s.safetyState i ≤ 4

theorem mem_ackedInputs : i ∈ s.ackedInputs ↔ i < 2 ∧ s.acksInput i := by
  unfold State.ackedInputs State.acksInput
  rw [List.mem_filter, Bool.and_eq_true, Bool.and_eq_true, beq_iff_eq, decide_eq_true_iff, decide_eq_true_iff, and_assoc]
  refine and_congr_left (fun _ => ?_)
  simp only [List.mem_cons, List.not_mem_nil, or_false]
  omega

theorem ackedInputs_accepted (s : State) : (accepted s).ackedInputs = s.ackedInputs := by
  have hkept {f : Fld} (hf : f ∉ [.SEC_RESULT_REASON, .SEC_RESULT_FAILS]) : (accepted s).get f = s.get f := by
    have htouch : Touches [.SEC_RESULT_REASON, .SEC_RESULT_FAILS] (useNonce s) (accepted s) :=
      Touches.put (by decide) _ _ (Touches.put (by decide) _ _ (Touches.refl _ _))
    exact htouch.get hf 0
  have hstate (j : Nat) : (accepted s).safetyState j = s.safetyState j := hkept (by split <;> decide)
  unfold State.ackedInputs
  rw [hkept (by decide)]
  simp only [hstate]

/-- An acknowledgement that its slot may give turns on its signature and on what it names (R566). -/
theorem exec_ackSafety_permitted (hp : Passes m secCmdOff s) (hbusy : s.get .SEC_RESULT_BUSY = 0) (hlock : s.get .SEC_DBG_LOCKOUT = 0)
    (hsafe : s.get .PWR_STAT_STATE ≠ 1) (hstate : s.inForce.lifecycle < 4) (hnonce : s.nonceValid = true) (hmay : s.mayAck slot = true) :
    exec (.ackSafety m slot) s = .next (if s.signatureVerifies 0x30 slot = true then
      if s.ackedInputs = [] then secRefuse 0xF4 m (useNonce s) else notice 475 (acknowledge s.ackedInputs (accepted s))
      else secFail 0xD0 m (useNonce s)) := by
  have hmem : s.inForce.lifecycle ∈ [0, 1, 2, 3] := by
    simp only [List.mem_cons, List.not_mem_nil, or_false]
    omega
  have hsame : (s.respond 0 false).ackedInputs = s.ackedInputs := rfl
  rw [exec_ackSafety, execAckSafety]
  rw [if_neg hsafe, signedCommand_permitted hp hbusy hlock hmem hnonce hmay, hsame, ackedInputs_accepted]
  by_cases hnone : s.ackedInputs = []
  · rw [if_pos hnone, hnone, List.isEmpty_nil, if_pos rfl, if_pos (show 0xF4 ≠ 0 by decide)]
  · have hempty : ¬s.ackedInputs.isEmpty = true := fun h => hnone (List.isEmpty_iff.mp h)
    rw [if_neg hnone, if_neg hempty, if_neg (not_not_intro rfl), acknowledge]

/-- The fields that an acknowledgement may change (R538, R566). -/
def ackFields : List Fld :=
  [.FLD_SAFE_STAT_ACKED0, .FLD_SAFE_STAT_ACKED1, .SEC_RESULT_REASON, .SEC_RESULT_FAILS, .SEC_DBG_LOCKOUT] ++ refuseFields ++ reportFields

theorem useNonce_touches (fs : List Fld) (s : State) : Touches fs { s with nonceAt := none } (useNonce s) := Touches.records (Touches.refl _ _) rfl rfl

/-- What an acknowledgement that is accepted leaves (R538, R566). -/
theorem acknowledged_spec (s : State) (l : List Nat) : (notice 475 (acknowledge l (accepted s))).get .SEC_RESULT_REASON = 0
    ∧ (notice 475 (acknowledge l (accepted s))).get .SEC_RESULT_FAILS = 0 ∧ Asserted 475 0 s (notice 475 (acknowledge l (accepted s)))
    ∧ Touches ([.FLD_SAFE_STAT_ACKED0, .FLD_SAFE_STAT_ACKED1, .SEC_RESULT_REASON, .SEC_RESULT_FAILS] ++ reportFields) (useNonce s)
        (notice 475 (acknowledge l (accepted s))) := by
  have hack := acknowledge_touches l (accepted s)
  have haccepted : Touches [.SEC_RESULT_REASON, .SEC_RESULT_FAILS] (useNonce s) (accepted s) :=
    Touches.put (by decide) _ _ (Touches.put (by decide) _ _ (Touches.refl _ _))
  have hall := (haccepted.mono (by decide)).trans (hack.mono (gs := [.FLD_SAFE_STAT_ACKED0, .FLD_SAFE_STAT_ACKED1, .SEC_RESULT_REASON, .SEC_RESULT_FAILS])
    (by decide))
  refine ⟨?_, ?_, ?_, Touches.notice (by decide) _ (hall.mono (by decide))⟩
  · rw [State.get_notice _ _ (by decide), hack.get (by decide), accepted, State.get_put_other _ (by decide), State.get_put_self]
    rfl
  · rw [State.get_notice _ _ (by decide), hack.get (by decide), accepted, State.get_put_self]
    rfl
  · exact (notice_asserted _ (by decide)).since ⟨hall.get (by decide) 475, hall.get (by decide) 475⟩

/-- Of the two inputs those that an acknowledgement names are acknowledged (R566). -/
theorem acknowledged_acked (hi : i < 2) : (notice 475 (acknowledge s.ackedInputs (accepted s))).get (ackedField i) =
    if bitsAt (s.get .SEC_ARG) i 1 = 1 ∧ 1 ≤ s.safetyState i ∧ s.safetyState i ≤ 4 then 1 else s.get (ackedField i) := by
  obtain ⟨hreport, hreason, hfails⟩ : ackedField i ∉ reportFields ∧ .SEC_RESULT_REASON ≠ ackedField i ∧ .SEC_RESULT_FAILS ≠ ackedField i := by
    unfold ackedField
    split <;> decide
  have hkept : (accepted s).get (ackedField i) = s.get (ackedField i) := by
    rw [accepted, State.get_put_other _ hfails, State.get_put_other _ hreason, useNonce_get]
  rw [State.get_notice _ _ hreport, acknowledge_get hi (fun j hj => (mem_ackedInputs.mp hj).1), hkept]
  exact if_congr (mem_ackedInputs.trans (and_iff_right hi)) rfl rfl

/-- An acknowledgement names an input. -/
theorem ackedInputs_ne_nil : s.ackedInputs ≠ [] ↔
    [0, 1].any (fun i => bitsAt (s.get .SEC_ARG) i 1 = 1 ∧ 1 ≤ s.safetyState i ∧ s.safetyState i ≤ 4) = true := by
  rw [List.any_eq_true, Ne, List.eq_nil_iff_forall_not_mem, not_forall_not]
  refine exists_congr (fun i => ?_)
  rw [mem_ackedInputs, decide_eq_true_iff, State.acksInput]
  refine and_congr_left (fun _ => ?_)
  simp only [List.mem_cons, List.not_mem_nil, or_false]
  omega

/-- A signed command that ends by a failure or a refusal uses its nonce up and leaves the override alone (R537, R566). -/
theorem ackEnd (h : Touches ackFields { s with nonceAt := none } t) : t.nonceAt = none ∧ t.get .FLD_SAFE_STAT_OVERRIDE = s.get .FLD_SAFE_STAT_OVERRIDE :=
  ⟨by rw [h.1], h.get (f := .FLD_SAFE_STAT_OVERRIDE) (by decide) 0⟩

/-! ### Settled -/

/-- Recognised bands while the link is up and the part is not in Quiet (R560 to R563). -/
theorem recognised_linkUp (hb : ∀ i < 2, s.get .FLD_RUN_BAND i < 8 ∧ s.get .FLD_DIE_BAND i < 8) (hquiet : s.inQuiet = false)
    (hlink : s.flag .FLD_STAT_LINK_UP = true) : Received (recogniseDue l s) (receiveBoth (recogniseDue l s)) := by
  have hlink' : (recogniseDue l s).flag .FLD_STAT_LINK_UP = true := ((recogniseDue_touches l s).flag (by decide) 0).trans hlink
  have hquiet' : (recogniseDue l s).inQuiet = false := (congrArg (· == 4) (recogniseDue_keeps (by decide) 0)).trans hquiet
  exact receiveBoth_received hlink' hquiet' (fun i hi => recogniseDue_band_lt (hb i hi).1 (hb i hi).2)

/-- Recognised bands while the link is down stay in the field die (R572). -/
theorem recognised_linkDown (hlink : s.flag .FLD_STAT_LINK_UP = false) : receiveBoth (recogniseDue l s) = recogniseDue l s :=
  receiveBoth_linkDown (((recogniseDue_touches l s).flag (by decide) 0).trans hlink)

/-- What recognised bands may change, whether the link is up or down. -/
theorem recognised_touches (hb : ∀ i < 2, s.get .FLD_RUN_BAND i < 8 ∧ s.get .FLD_DIE_BAND i < 8) (hquiet : s.inQuiet = false) :
    Touches (receivedFields ++ overrideFields ++ [.FLD_SAFE_STAT_CONTACT_FAULT] ++ reportFields) (recogniseDue l s)
      (receiveBoth (recogniseDue l s)) := by
  cases hlink : s.flag .FLD_STAT_LINK_UP
  · rw [recognised_linkDown hlink]
    exact Touches.refl _ _
  · exact (recognised_linkUp hb hquiet hlink).touches

/-- Settles O57: measurements, recognised bands with the link up and down, arming, reminders, and acknowledgements by how they end. -/
theorem safetyInputsDecideTheOverride : Obligations.SafetyInputsDecideTheOverride := by
  unfold Obligations.SafetyInputsDecideTheOverride
  refine ⟨fun i ohms s => ⟨exec_safetyMeasurement_none, fun b hb hi hdie => ?_⟩, fun is s hb hquiet => ?_,
    fun s => ⟨exec_overrideArm_idle, fun hover harmed => ?_⟩,
    fun i s => ⟨exec_safetyReminder_none, fun hi hack hstate => ?_, fun hi hack hlo hhi => ?_⟩,
    fun m slot s hp hbusy hlock => ⟨fun hsafe => ?_, fun hsafe hstate hnonce hslot => ?_⟩⟩
  · -- a measurement
    rw [hb]
    exact safetyMeasurement_spec hi hdie
  · -- recognised bands
    have hfits (i : Nat) (hi : i < 2) : s.get .FLD_RUN_BAND i < 8 ∧ s.get .FLD_DIE_BAND i < 8 := ⟨(hb i hi).1, (hb i hi).2.1⟩
    have hreceive := recognised_touches (l := is) hfits hquiet
    have htouch := recogniseDue_touches is s
    refine ⟨_, exec_bandRecognised_eq is s, fun i hi => ?_, fun hlink => ?_, fun hlink => ?_, (htouch.mono (by decide)).trans (hreceive.mono (by decide))⟩
    · obtain ⟨hband, hstart, hend, hkeep⟩ := recogniseDue_spec (l := is) hi (hb i hi).1
      rw [hreceive.get (by decide), hreceive.get (by decide)]
      refine ⟨hband, hstart, hend, hkeep, fun hlink => ?_⟩
      have hspec := (recognised_linkUp (l := is) hfits hquiet hlink).recognised hi
      rwa [hreceive.get (by decide)] at hspec
    · have h := recognised_linkUp (l := is) hfits hquiet hlink
      have hevac := h.evac
      have htick : (recogniseDue is s).tick = s.tick := by rw [htouch.1]
      rw [htouch.flag (by decide), htick] at hevac
      exact ⟨h.override.trans (congrArg (· && _) (htouch.flag (by decide) 0)), hevac, h.contact⟩
    · rw [recognised_linkDown hlink]
      exact htouch
  · -- arming
    obtain ⟨harm, hoverride⟩ := judgeOverride_arm_spec s
    refine ⟨_, exec_overrideArm_arms hover harmed, harm, hoverride, fun hoff hcounts => ?_, fun hquiet => ?_⟩
    · obtain ⟨haud, hcmp, hlegend, hwake⟩ := judgeOverride_arm_counts hoff (Bool.or_eq_true_iff.mpr hcounts)
      exact ⟨beq_iff_eq.mp haud, beq_iff_eq.mp hcmp, beq_iff_eq.mp hlegend, hwake⟩
    · have hquiet' : (arm s).inQuiet = false := (congrArg (· == 4) ((arm_touches s).get (by decide) 0)).trans hquiet
      obtain ⟨-, -, htouch⟩ := judgeOverride_awake hquiet'
      exact Touches.trans ((arm_touches s).mono (by decide)) (htouch.mono (by decide))
  · -- a reminder of an active input
    refine ⟨_, exec_safetyReminder_due hi hack, ?_⟩
    rw [if_pos hstate]
    exact ⟨notice_asserted _ (by omega), notice_report _ s⟩
  · -- a reminder of a line fault
    have hactive : ¬s.safetyState i = 1 := by omega
    refine ⟨_, exec_safetyReminder_due hi hack, ?_⟩
    rw [if_neg hactive, bandFaulty_of_range hlo hhi, onlyIf_true]
    exact ⟨assertEv_asserted _ (by decide) (by decide), assertEv_report _ _ s⟩
  · -- an acknowledgement in Safe
    refine ⟨_, exec_ackSafety_safe hp hbusy hlock hsafe, (secRefuse_refused (by decide)).ofUseNonce, secRefuse_reason (by decide), ?_⟩
    have htouch := (useNonce_touches ([.SEC_RESULT_REASON] ++ refuseFields ++ reportFields) s).secRefuse (code := 0xD3) (m := m)
    exact ⟨by rw [htouch.1], htouch⟩
  · -- an acknowledgement that the slot may give
    have hmay : s.mayAck slot = true := by
      unfold State.mayAck
      split at hslot
      · rw [if_pos ‹_›, beq_iff_eq]
        exact hslot
      · rwa [if_neg ‹_›]
    have hexec := exec_ackSafety_permitted hp hbusy hlock hsafe hstate hnonce hmay
    by_cases hverifies : s.signatureVerifies 0x30 slot = true
    · by_cases hnone : s.ackedInputs = []
      · -- it names no input that can be acknowledged
        have htouch := (useNonce_touches ackFields s).secRefuse (code := 0xF4) (m := m)
        rw [if_pos hverifies, if_pos hnone] at hexec
        refine ⟨_, hexec, (ackEnd htouch).1, ?_, (ackEnd htouch).2, htouch⟩
        rw [if_pos hverifies, if_neg (fun h => ackedInputs_ne_nil.mpr h hnone)]
        exact ⟨secRefuse_reason (by decide), (secRefuse_refused (by decide)).ofUseNonce⟩
      · -- it is accepted
        obtain ⟨hreason, hfails, hasserted, hack⟩ := acknowledged_spec s s.ackedInputs
        have htouch := (useNonce_touches ackFields s).trans (hack.mono (by decide))
        rw [if_pos hverifies, if_neg hnone] at hexec
        refine ⟨_, hexec, (ackEnd htouch).1, ?_, (ackEnd htouch).2, htouch⟩
        rw [if_pos hverifies, if_pos (ackedInputs_ne_nil.mp hnone)]
        refine ⟨hreason, hfails, hasserted, fun i hi => ?_⟩
        exact acknowledged_acked hi
    · -- its signature fails
      have htouch := (useNonce_touches ackFields s).secFail (code := 0xD0) (m := m)
      rw [if_neg hverifies] at hexec
      refine ⟨_, hexec, (ackEnd htouch).1, ?_, (ackEnd htouch).2, htouch⟩
      rw [if_neg hverifies]
      exact secFail_reason (by decide)

end Sys2Proof.Machine
end

section
/-!
PROOFS. Resynchronisation messages: their bytes, and when they are sent (R521, R530).
-/
namespace Sys2Proof.Machine

variable {kind index n : Nat} {starts : List Stamp} {data bs : List Byte} {s : State}

/-! ### The check value of a message (R517) -/

theorem crcBitR_lt {p b r : Nat} (hp : p < 2 ^ 32) (hr : r < 2 ^ 32) : crcBitR p b r < 2 ^ 32 := by
  unfold crcBitR
  refine Nat.xor_lt_two_pow (Nat.lt_of_le_of_lt (Nat.div_le_self ..) hr) ?_
  split
  · exact hp
  · decide

theorem crc32c_lt (bs : List Byte) : crc32c bs < 2 ^ 32 := by
  have hbits (l : List Nat) (r : Nat) (hr : r < 2 ^ 32) : l.foldl (fun r x => crcBitR 0x82F63B78 x r) r < 2 ^ 32 := by
    induction l generalizing r with
    | nil => exact hr
    | cons x l ih => exact ih _ (crcBitR_lt (by decide) hr)
  have hbytes (r : Nat) (hr : r < 2 ^ 32) :
      bs.foldl (fun r b => (bitsLsb 8 b.toNat).foldl (fun r x => crcBitR 0x82F63B78 x r) r) r < 2 ^ 32 := by
    induction bs generalizing r with
    | nil => exact hr
    | cons b bs ih => exact ih _ (hbits _ _ hr)
  exact Nat.xor_lt_two_pow (hbytes _ (by decide)) (by decide)

/-- A message that ends with the check value of what precedes passes its check. -/
theorem msgCrcGood_append (m : List Byte) : msgCrcGood (m ++ leBytes 4 (crc32c m)) = true := by
  have hlen : (m ++ leBytes 4 (crc32c m)).length - 4 = m.length := by
    rw [List.length_append, leBytes_length, Nat.add_sub_cancel]
  have hfour : 4 ≤ (m ++ leBytes 4 (crc32c m)).length := by
    rw [List.length_append, leBytes_length]
    omega
  unfold msgCrcGood
  rw [hlen, List.drop_left, List.take_left, leNat_leBytes, show 256 ^ 4 = 2 ^ 32 from rfl, Nat.mod_eq_of_lt (crc32c_lt m), decide_eq_true hfour, beq_self_eq_true]
  rfl

/-! ### The layout of a message (R521) -/

/-- A message but for its check value. -/
def resyncBody (kind index : Nat) (data : List Byte) (s : State) : List Byte :=
  [1] ++ leBytes 1 (s.get .TWN_TX_SEQ) ++ leBytes 1 kind ++ [0] ++ leBytes 2 index ++ leBytes 2 data.length ++ data

/-- A message. -/
def resyncBytes (kind index : Nat) (data : List Byte) (s : State) : List Byte :=
  resyncBody kind index data s ++ leBytes 4 (crc32c (resyncBody kind index data s))

theorem resyncEmit_eq : resyncEmit kind index data s = (s.emit (.twin (resyncBytes kind index data s))).inc .TWN_TX_SEQ := rfl

/-- A message as its eight header bytes, its data and its check value. -/
theorem resyncBytes_eq : ∃ c : Nat, resyncBytes kind index data s =
    (1 :: (leBytes 1 (s.get .TWN_TX_SEQ) ++ leBytes 1 kind ++ 0 :: (leBytes 2 index ++ leBytes 2 data.length))) ++ (data ++ leBytes 4 c) := by
  refine ⟨crc32c (resyncBody kind index data s), ?_⟩
  rw [resyncBytes]
  nth_rw 1 [resyncBody]
  simp only [List.append_assoc, List.cons_append, List.nil_append]

/-- What the fields of a message hold. -/
theorem resyncBytes_fields (hkind : kind < 256) (hindex : index < 65536) (hdata : data.length < 65536) :
    msgField (resyncBytes kind index data s) 0 1 = 1 ∧ msgField (resyncBytes kind index data s) 1 1 = s.get .TWN_TX_SEQ % 2 ^ 8
      ∧ msgField (resyncBytes kind index data s) 2 1 = kind ∧ msgField (resyncBytes kind index data s) 4 2 = index
      ∧ msgField (resyncBytes kind index data s) 6 2 = data.length := by
  obtain ⟨c, heq⟩ := resyncBytes_eq (kind := kind) (index := index) (data := data) (s := s)
  rw [heq]
  exact ⟨rfl, leNat_leBytes 1 _, (leNat_leBytes 1 kind).trans (Nat.mod_eq_of_lt hkind), (leNat_leBytes 2 index).trans (Nat.mod_eq_of_lt hindex),
    (leNat_leBytes 2 data.length).trans (Nat.mod_eq_of_lt hdata)⟩

theorem resyncBytes_length : (resyncBytes kind index data s).length = data.length + 12 := by
  obtain ⟨c, heq⟩ := resyncBytes_eq (kind := kind) (index := index) (data := data) (s := s)
  rw [heq]
  simp only [List.length_append, List.length_cons, leBytes_length]
  omega

theorem resyncBytes_data : ((resyncBytes kind index data s).drop 8).take data.length = data := by
  obtain ⟨c, heq⟩ := resyncBytes_eq (kind := kind) (index := index) (data := data) (s := s)
  rw [heq]
  exact List.take_left

/-! ### Items (R521) -/

theorem length_flatMap_items {size : Nat} {item : Nat → List Byte} (h : ∀ d, (item d).length = size) (index n : Nat) :
    (((List.range n).map (index + ·)).flatMap item).length = n * size := by
  rw [List.length_flatMap, List.map_map]
  have hconst : List.map ((fun a => (item a).length) ∘ (index + ·)) (List.range n) = List.replicate n size := by
    rw [List.eq_replicate_iff]
    refine ⟨by rw [List.length_map, List.length_range], fun x hx => ?_⟩
    obtain ⟨a, -, rfl⟩ := List.mem_map.mp hx
    exact h _
  rw [hconst, List.sum_replicate, smul_eq_mul]

/-- What a message of a kind that fits carries. -/
theorem resyncFits_spec (h : s.resyncFits kind index n = true) : kind < 256 ∧ index < 65536 ∧ n * itemSize kind < 65536
    ∧ (s.resyncData kind index n starts).length = n * itemSize kind := by
  have hsize := matrixSize_le s
  have hfour (v : Nat) : (leBytes 4 v).length = 4 := leBytes_length 4 v
  unfold State.resyncFits at h
  unfold State.resyncData itemSize
  split at h
  · simp only [Bool.and_eq_true, decide_eq_true_eq] at h
    exact ⟨by decide, by omega, by simp only [Nat.reduceEqDiff, if_false]; omega, length_flatMap_items (fun d => hfour _) _ _⟩
  · simp only [Bool.and_eq_true, decide_eq_true_eq] at h
    exact ⟨by decide, by omega, by simp only [Nat.reduceEqDiff, if_false]; omega, length_flatMap_items (fun d => hfour _) _ _⟩
  · simp only [Bool.and_eq_true, decide_eq_true_eq] at h
    refine ⟨by decide, by omega, by simp only [if_true]; omega, length_flatMap_items (fun d => ?_) _ _⟩
    rw [List.length_append, List.length_append, hfour, hfour, hfour]
    rfl
  · obtain ⟨hn, hindex⟩ := Bool.and_eq_true_iff.mp h
    rw [beq_iff_eq.mp hn, beq_iff_eq.mp hindex]
    exact ⟨by decide, by decide, by decide, hfour _⟩
  · cases h

/-! ### Sending (R518, R521, R530) -/

theorem exec_resyncSend_none (h : s.resyncDue kind = false ∨ s.resyncFits kind index n = false) : exec (.resyncSend kind index n starts) s = .next s := by
  rw [exec_resyncSend, execResyncSend]
  rcases h with h | h
  · rw [h, Bool.false_and, onlyIf_false]
  · rw [h, Bool.and_false, onlyIf_false]

/-- A device without the claim sends nothing of its atlases (R521). -/
theorem resyncDue_unclaimed (hclaim : s.flag .TWN_STAT_CLAIM = false) (hkind : kind < 5) : s.resyncDue kind = false := by
  unfold State.resyncDue
  rw [if_neg (Nat.ne_of_lt hkind), hclaim, Bool.false_and, Bool.and_false]

theorem exec_resyncSend_due (hdue : s.resyncDue kind = true) (hfits : s.resyncFits kind index n = true) :
    exec (.resyncSend kind index n starts) s =
      .next ((s.emit (.twin (resyncBytes kind index (s.resyncData kind index n starts) s))).inc .TWN_TX_SEQ) := by
  rw [exec_resyncSend, execResyncSend, hdue, hfits, Bool.and_self, onlyIf_true, resyncEmit_eq]

/-- What is sent when a message is due (R521). -/
theorem resyncSend_spec (hdue : s.resyncDue kind = true) (hfits : s.resyncFits kind index n = true) :
    ∃ t, exec (.resyncSend kind index n starts) s = .next t ∧ t.get .TWN_TX_SEQ = (s.get .TWN_TX_SEQ + 1) % 2 ^ 8
      ∧ (∃ bs, t.out = .twin bs :: s.out ∧ msgCrcGood bs = true ∧ msgField bs 0 1 = 1 ∧ msgField bs 1 1 = s.get .TWN_TX_SEQ % 2 ^ 8
          ∧ msgField bs 2 1 = kind ∧ msgField bs 4 2 = index ∧ msgField bs 6 2 = n * itemSize kind ∧ bs.length = n * itemSize kind + 12
          ∧ (bs.drop 8).take (n * itemSize kind) = s.resyncData kind index n starts)
      ∧ Touches [.TWN_TX_SEQ] s t := by
  obtain ⟨hkind, hindex, hlen, hdata⟩ := resyncFits_spec (starts := starts) hfits
  rw [← hdata] at hlen ⊢
  obtain ⟨hone, hseq, hk, hi, hl⟩ := resyncBytes_fields (s := s) hkind hindex hlen
  have hemit : Touches [.TWN_TX_SEQ] s (s.emit (.twin (resyncBytes kind index (s.resyncData kind index n starts) s))) := ⟨rfl, fun _ _ _ => rfl⟩
  refine ⟨_, exec_resyncSend_due hdue hfits, State.get_put_self .., ⟨_, rfl, msgCrcGood_append _, hone, hseq, hk, hi, hl, resyncBytes_length,
    resyncBytes_data⟩, Touches.put (by decide) _ _ hemit⟩

end Sys2Proof.Machine
end

section
/-!
PROOFS. Resynchronisation messages that arrive: what is discarded, entries of the claimer, and the digest (R521, R529, R531).
-/
namespace Sys2Proof.Machine

variable {n d c w seq : Nat} {fs : List Fld} {bs : List Byte} {own : List Stamp} {s t u : State}

/-! ### Fields of a message -/

theorem leNat_lt (l : List Byte) : leNat l < 256 ^ l.length := by
  induction l with
  | nil => exact Nat.one_pos
  | cons b l ih =>
    have hb := b.isLt
    rw [leNat, List.length_cons, Nat.pow_succ']
    omega

theorem msgField_lt (bs : List Byte) (o n : Nat) : msgField bs o n < 256 ^ n :=
  Nat.lt_of_lt_of_le (leNat_lt _) (Nat.pow_le_pow_right (by decide) (List.length_take_le ..))

/-! ### The count of messages (R517, R532) -/

/-- The fields that a message's SEQ changes. -/
def seqFields : List Fld := [.TWN_RX_SEQ, .TWN_RX_SEQ_KNOWN, .TWN_HB_COUNT_LINK_MISSED]

theorem noteSeq_touches (seq : Nat) (s : State) : Touches seqFields s (noteSeq true seq s) :=
  ((Touches.put (by decide) _ _ (Touches.put (by decide) _ _ (Touches.refl _ s))).bump (by decide) _ _)

theorem noteSeq_seq (hseq : seq < 256) : (noteSeq true seq s).get .TWN_RX_SEQ 0 = seq := by
  unfold noteSeq countMissed
  dsimp only
  rw [if_pos rfl, State.get_bump_other _ (by decide), State.get_put_other _ (by decide)]
  exact (State.get_put_self ..).trans (Nat.mod_eq_of_lt hseq)

/-! ### Live words (R101, R529, R531) -/

/-- The fields that the live entry of a destination is made of. -/
def liveFields : List Fld :=
  [.ATL_LIVE_SOURCE, .ATL_LIVE_REMOTE, .ATL_LIVE_AFV, .CHECK_ENABLED, .PWR_STAT_STATE, .TWN_STAT_CLAIM, .ATL_DEST_STAT_LOST, .DEST_LOSS_NOW,
   .ATL_DEST_HOLD, .DEST_HOLD_COUNT, .DEST_FRAME, .DEST_LIVE_RX, .FAB_DEST_POLICY_MAX_CODING, .GEN_ENUM_POS_VALID, .GEN_ENUM_POSITION]

/-- The fields that what resynchronisation compares is made of. -/
def comparedFields : List Fld := .AUD_CTRL_FS :: .AUD_LIVE_SOURCE :: liveFields

theorem Touches.liveWord0 (h : Touches fs s t) (hfs : ∀ f ∈ liveFields, f ∉ fs := by decide) (d : Nat) : t.liveWord0 d = s.liveWord0 d := by
  have hget {f : Fld} (hf : f ∈ liveFields) (i : Nat) : t.get f i = s.get f i := h.get (hfs f hf) i
  have hrx : t.rx = s.rx := by rw [h.1]
  have hout : t.outState d = s.outState d := by
    unfold State.outState State.innerState State.lossState State.actionState State.outputsGoverned State.running State.flag State.inSafe
    simp (disch := decide) only [hget]
  have hcoding : t.liveCoding d = s.liveCoding d := by
    unfold State.liveCoding State.liveRx State.boundRx State.streamFor State.destCoding State.isRemote State.positioned State.position State.running
      State.flag
    simp (disch := decide) only [hget, hrx]
  unfold State.liveWord0
  rw [hout, hcoding, hget (by decide), hget (by decide), hget (by decide)]

theorem Touches.matrixSize (h : Touches fs s t) (hf : .AUD_CTRL_FS ∉ fs := by decide) : t.matrixSize = s.matrixSize := by
  rw [State.matrixSize, State.matrixSize, State.fs96, State.fs96, h.flag hf]

theorem Touches.liveDigest (h : Touches fs s t) (hfs : ∀ f ∈ comparedFields, f ∉ fs := by decide) : t.liveDigest = s.liveDigest := by
  have hword := h.liveWord0 (fun f hf => hfs f (List.mem_cons_of_mem _ (List.mem_cons_of_mem _ hf)))
  have hsource := h.get (hfs .AUD_LIVE_SOURCE (by decide))
  unfold State.liveDigest
  rw [h.matrixSize (hfs _ (by decide))]
  simp only [hword, hsource]

theorem Touches.standby (h : Touches fs s t) (hfs : ∀ f ∈ [.CHECK_ENABLED, .TWN_STAT_CLAIM], f ∉ fs := by decide) : t.standby = s.standby := by
  rw [State.standby, State.standby, State.running, State.running, h.flag (hfs _ (by decide)), h.flag (hfs _ (by decide))]

theorem Touches.syncing {k : Nat} (h : Touches fs s t)
    (hfs : ∀ f ∈ [.CHECK_ENABLED, .TWN_STAT_CLAIM, .PWR_STAT_STATE, .TWN_STAT_SYNC, .TWN_STAT_MISMATCH, .TWN_STAT_LINK_LOST], f ∉ fs := by decide) :
    t.syncing k = s.syncing k := by
  unfold State.syncing State.inWarm
  rw [h.standby (fun f hf => hfs f (List.mem_append_left [_, _, _, _] hf)), h.get (hfs _ (by decide)), h.get (hfs _ (by decide)),
    h.flag (hfs _ (by decide)), h.flag (hfs _ (by decide))]

/-- SOURCE of what the twins compare. -/
theorem bitsAt_liveWord_source (w : Nat) : bitsAt (liveWord w) 0 11 = bitsAt w 0 11 := by
  unfold liveWord bitsAt
  omega

/-- AFV of what the twins compare. -/
theorem bitsAt_liveWord_afv (w : Nat) : bitsAt (liveWord w) 30 1 = bitsAt w 30 1 := by
  unfold liveWord bitsAt
  omega

theorem liveWord_lt (w : Nat) : liveWord w < 2 ^ 32 := by
  unfold liveWord bitsAt
  omega

/-! ### Messages that are discarded (R521) -/

/-- A message is damaged, of a reserved KIND, or of another length than its layout. -/
def msgBad (bs : List Byte) : Bool :=
  !msgCrcGood bs || msgField bs 0 1 != 1 || msgField bs 2 1 == 0 || 5 < msgField bs 2 1 || 28 < msgField bs 6 2
    || msgField bs 6 2 % itemSize (msgField bs 2 1) != 0 || bs.length != msgField bs 6 2 + 12

theorem exec_resyncMessage_eq : exec (.resyncMessage bs own) s =
    .next (onlyIf (s.running .twin) (fun s => if msgBad bs then s else takeResync bs own (noteSeq true (msgField bs 1 1) s)) s) := rfl

theorem msgBad_iff : msgBad bs = true ↔ msgCrcGood bs = false ∨ msgField bs 0 1 ≠ 1 ∨ msgField bs 2 1 = 0 ∨ 5 < msgField bs 2 1
    ∨ 28 < msgField bs 6 2 ∨ msgField bs 6 2 % itemSize (msgField bs 2 1) ≠ 0 ∨ bs.length ≠ msgField bs 6 2 + 12 := by
  unfold msgBad
  simp only [Bool.or_eq_true, bne_iff_ne, beq_iff_eq, decide_eq_true_eq, Bool.not_eq_true', or_assoc]

theorem exec_resyncMessage_none (h : s.running .twin = false ∨ msgBad bs = true) : exec (.resyncMessage bs own) s = .next s := by
  rw [exec_resyncMessage_eq]
  rcases h with h | h
  · rw [h, onlyIf_false]
  · simp only [h, if_true, onlyIf, ite_self]

/-- A message of a kind and of the length of one item arrives whole. -/
structure OneItem (kind : Nat) (bs : List Byte) : Prop where
  isKind : msgField bs 2 1 = kind
  good : msgBad bs = false
  items : (pieces (itemSize kind) (msgField bs 6 2 / itemSize kind) ((bs.drop 8).take (msgField bs 6 2))).zipIdx =
    [((bs.drop 8).take (itemSize kind), 0)]

theorem pieces_one {k : Nat} {l : List Byte} (hk : 0 < k) (hl : l.length = k) : pieces k 1 l = [l] := by
  have hne : l ≠ [] := fun h => by
    rw [h] at hl
    exact Nat.ne_of_lt hk hl
  unfold pieces
  rw [if_neg (fun h => hne (List.isEmpty_iff.mp h)), List.take_of_length_le (Nat.le_of_eq hl), pieces]

theorem OneItem.of_layout {kind : Nat} (hcrc : msgCrcGood bs = true) (hfamily : msgField bs 0 1 = 1) (hlen : bs.length = msgField bs 6 2 + 12)
    (hkind : msgField bs 2 1 = kind) (hk : 1 ≤ kind ∧ kind ≤ 5) (hitem : msgField bs 6 2 = itemSize kind) : OneItem kind bs := by
  have hsize : 0 < itemSize kind ∧ itemSize kind ≤ 28 := by
    unfold itemSize
    split_ifs <;> decide
  have hbytes : ((bs.drop 8).take (itemSize kind)).length = itemSize kind := by
    rw [List.length_take, List.length_drop, hlen, hitem]
    omega
  refine ⟨hkind, ?_, ?_⟩
  · refine Bool.eq_false_iff.mpr (fun hbad => ?_)
    rcases msgBad_iff.mp hbad with h | h | h | h | h | h | h
    · rw [hcrc] at h
      cases h
    · exact h hfamily
    · omega
    · omega
    · omega
    · rw [hkind, hitem, Nat.mod_self] at h
      exact h rfl
    · exact h hlen
  · rw [hitem, Nat.div_self hsize.1, pieces_one hsize.1 hbytes]
    rfl

theorem OneItem.exec {kind : Nat} (h : OneItem kind bs) (hrun : s.running .twin = true) :
    exec (.resyncMessage bs own) s = .next (takeResync bs own (noteSeq true (msgField bs 1 1) s)) := by
  rw [exec_resyncMessage_eq, hrun, h.good, onlyIf_true, if_neg Bool.false_ne_true]

theorem OneItem.takeVideo (h : OneItem 1 bs) : takeResync bs own u =
    syncCommits (onlyIf (u.standby && msgField bs 4 2 < 96) (copyVideo (msgField bs 4 2) (msgField bs 8 4)) u) := by
  unfold takeResync
  dsimp only
  rw [h.isKind, h.items]
  rfl

theorem OneItem.takeAudio (h : OneItem 2 bs) : takeResync bs own u =
    syncCommits (onlyIf (u.standby && msgField bs 4 2 < u.matrixSize) (copyAudio (msgField bs 4 2) (msgField bs 8 4)) u) := by
  unfold takeResync
  dsimp only
  rw [h.isKind, h.items]
  rfl

theorem OneItem.takeDigest (h : OneItem 5 bs) (hitem : msgField bs 6 2 = 4) : takeResync bs own u =
    onlyIf (u.standby && u.flag .TWN_STAT_READY && msgField bs 8 4 != u.liveDigest) (startSync 2) u := by
  unfold takeResync
  dsimp only
  rw [h.isKind, hitem, List.take_take]
  rfl

/-! ### Entries of the claimer (R529) -/

/-- A video entry of the claimer is noted. -/
def noteVideo (d w : Nat) (s : State) : State := (s.put .TWN_COPY_ATL d (liveWord w)).put .TWN_COPY_ATL_SEEN d 1

/-- A draft takes what the claimer shows. -/
def draftVideo (d w : Nat) (s : State) : State :=
  draftChanged d (s.get .ATL_DRAFT_SOURCE d)
    (((s.put .ATL_DRAFT_ARMED d 1).put .ATL_DRAFT_AFV d (bitsAt w 30 1)).put .ATL_DRAFT_SOURCE d (bitsAt w 0 11))

theorem copyVideo_eq : copyVideo d w s =
    onlyIf ((noteVideo d w s).syncing 2 && d < (noteVideo d w s).variant.mediaLanes && ((noteVideo d w s).commitOf d).isNone
      && !(noteVideo d w s).videoEqual d) (draftVideo d (liveWord w)) (noteVideo d w s) := rfl

theorem noteVideo_touches (d w : Nat) (s : State) : TouchesAt d [.TWN_COPY_ATL, .TWN_COPY_ATL_SEEN] [] s (noteVideo d w s) := (TouchesAt.refl ..).put.put

theorem noteVideo_copy : (noteVideo d w s).get .TWN_COPY_ATL d = liveWord w := by
  rw [noteVideo, State.get_put_other _ (by decide), State.get_put_self]
  exact Nat.mod_eq_of_lt (liveWord_lt w)

theorem noteVideo_seen : (noteVideo d w s).get .TWN_COPY_ATL_SEEN d = 1 := State.get_put_self ..

theorem draftChanged_asked {old : Nat} (h : Asked s t) : Asked s (draftChanged d old t) :=
  requestDraft_asked (.onlyIf (fun u => (Asked.refl u).put) h.put)

/-- The draft of a destination as the claimer shows it. -/
def putDraft (d w : Nat) (s : State) : State :=
  ((s.put .ATL_DRAFT_ARMED d 1).put .ATL_DRAFT_AFV d (bitsAt w 30 1)).put .ATL_DRAFT_SOURCE d (bitsAt w 0 11)

theorem putDraft_touches (d w : Nat) (s : State) :
    TouchesAt d [.ATL_DRAFT_ARMED, .ATL_DRAFT_AFV, .ATL_DRAFT_SOURCE] [] s (putDraft d w s) := (TouchesAt.refl ..).put.put.put

theorem putDraft_source : (putDraft d w s).get .ATL_DRAFT_SOURCE d = bitsAt w 0 11 :=
  (State.get_put_self ..).trans (Nat.mod_eq_of_lt (bitsAt_lt ..))

/-- What is no draft of a destination stays. -/
theorem draftVideo_get {f : Fld} (hf : f ∉ askedFields) (hd : f ∉ [.ATL_DRAFT_ARMED, .ATL_DRAFT_AFV, .ATL_DRAFT_SOURCE]) (i : Nat) :
    (draftVideo d w s).get f i = s.get f i :=
  ((draftChanged_asked (Asked.refl (putDraft d w s))).get hf i).trans ((putDraft_touches d w s).1.get (by rwa [List.append_nil]) i)

theorem draftVideo_drafted : (draftVideo d w s).get .ATL_DRAFT_ARMED d = 1 ∧ (draftVideo d w s).get .ATL_DRAFT_SOURCE d = bitsAt w 0 11
    ∧ (draftVideo d w s).get .ATL_DRAFT_AFV d = bitsAt w 30 1 := by
  have hkept {f : Fld} (hf : f ∉ askedFields) : (draftVideo d w s).get f d = (putDraft d w s).get f d :=
    (draftChanged_asked (Asked.refl (putDraft d w s))).get hf d
  refine ⟨(hkept (by decide)).trans ?_, (hkept (by decide)).trans putDraft_source, (hkept (by decide)).trans ?_⟩
  · rw [putDraft, State.get_put_other _ (by decide), State.get_put_other _ (by decide), State.get_put_self]
    rfl
  · rw [putDraft, State.get_put_other _ (by decide), State.get_put_self]
    exact Nat.mod_eq_of_lt (bitsAt_lt ..)

/-- A source of the own position is not asked for (R141). -/
theorem requestDraft_local (h : s.isRemote (s.get .ATL_DRAFT_SOURCE d) = false) : requestDraft d s = s := by
  unfold requestDraft
  dsimp only
  rw [h, Bool.and_false, onlyIf_false]

/-- A draft that changed has no reason, and none of the streams of another source (R100). -/
def unrequest (d old : Nat) (s : State) : State :=
  onlyIf (s.get .ATL_DRAFT_SOURCE d != old) (·.put .DEST_DRAFT_RX d 0) (s.put .ATL_DRAFT_STAT_FAB_REASON d 0)

theorem unrequest_touches (d old : Nat) (s : State) : TouchesAt d [.ATL_DRAFT_STAT_FAB_REASON, .DEST_DRAFT_RX] [] s (unrequest d old s) := by
  have hreason : TouchesAt d [.ATL_DRAFT_STAT_FAB_REASON, .DEST_DRAFT_RX] [] s (s.put .ATL_DRAFT_STAT_FAB_REASON d 0) := (TouchesAt.refl ..).put
  exact .ite hreason.put hreason

/-- The fields that a draft of a source of the own position changes. -/
def localDraftFields : List Fld := [.ATL_DRAFT_ARMED, .ATL_DRAFT_AFV, .ATL_DRAFT_SOURCE, .ATL_DRAFT_STAT_FAB_REASON, .DEST_DRAFT_RX]

theorem isRemote_touches (h : Touches fs s t) (hfs : ∀ f ∈ [.GEN_ENUM_POS_VALID, .GEN_ENUM_POSITION], f ∉ fs := by decide) (src : Nat) :
    t.isRemote src = s.isRemote src := by
  unfold State.isRemote State.positioned State.position State.flag
  rw [h.get (hfs _ (by decide)), h.get (hfs _ (by decide))]

/-- A draft of a source of the own position changes that draft alone. -/
theorem draftVideo_local (hlocal : s.isRemote (bitsAt w 0 11) = false) : TouchesAt d localDraftFields [] s (draftVideo d w s) := by
  have hput := putDraft_touches d w s
  have hun := unrequest_touches d (s.get .ATL_DRAFT_SOURCE d) (putDraft d w s)
  have hall : TouchesAt d localDraftFields [] s (unrequest d (s.get .ATL_DRAFT_SOURCE d) (putDraft d w s)) :=
    TouchesAt.thenAt (TouchesAt.thenAt (TouchesAt.refl ..) hput) hun
  have heq : draftVideo d w s = requestDraft d (unrequest d (s.get .ATL_DRAFT_SOURCE d) (putDraft d w s)) := rfl
  rw [heq, requestDraft_local]
  · exact hall
  · rw [hun.1.get (by decide), putDraft_source, isRemote_touches hall.1, hlocal]

/-- Stage 2 commits nothing before every entry of the claimer is there (R529). -/
theorem syncCommits_incomplete (h : ∃ e < 96, s.flag .TWN_COPY_ATL_SEEN e = false) : syncCommits s = s := by
  obtain ⟨e, he, hseen⟩ := h
  have hall : (List.range 96).all (fun d => s.flag .TWN_COPY_ATL_SEEN d) = false :=
    List.all_eq_false.mpr ⟨e, List.mem_range.mpr he, by rw [hseen]; exact Bool.false_ne_true⟩
  unfold syncCommits State.copyComplete
  rw [hall, Bool.false_and, Bool.and_false, if_neg Bool.false_ne_true]

theorem copyVideo_seen : (copyVideo d w s).get .TWN_COPY_ATL_SEEN d = 1 ∧ (copyVideo d w s).get .TWN_COPY_ATL d = liveWord w
    ∧ ∀ e, e ≠ d → (copyVideo d w s).flag .TWN_COPY_ATL_SEEN e = s.flag .TWN_COPY_ATL_SEEN e := by
  have hkept {f : Fld} (hf : f ∉ askedFields) (hd : f ∉ [.ATL_DRAFT_ARMED, .ATL_DRAFT_AFV, .ATL_DRAFT_SOURCE]) (i : Nat) :
      (copyVideo d w s).get f i = (noteVideo d w s).get f i := by
    rw [copyVideo_eq]
    unfold onlyIf
    split
    · exact draftVideo_get hf hd i
    · rfl
  refine ⟨(hkept (by decide) (by decide) d).trans noteVideo_seen, (hkept (by decide) (by decide) d).trans noteVideo_copy, fun e he => ?_⟩
  exact congrArg (· == 1) ((hkept (by decide) (by decide) e).trans ((noteVideo_touches d w s).2 _ (by decide) e he))

/-- At stage 2 an entry that differs from the claimer's is drafted as the claimer has it (R529). -/
theorem copyVideo_drafts (hsync : s.syncing 2 = true) (hlane : d < s.variant.mediaLanes) (hcommit : (s.commitOf d).isNone = true)
    (hdiffers : liveWord (s.liveWord0 d) ≠ liveWord w) : copyVideo d w s = draftVideo d (liveWord w) (noteVideo d w s) := by
  have htouch := (noteVideo_touches d w s).1
  have hsync' : (noteVideo d w s).syncing 2 = true := htouch.syncing.trans hsync
  have hvariant : (noteVideo d w s).variant = s.variant := by rw [htouch.1]
  have hcommits : (noteVideo d w s).commitOf d = s.commitOf d := by
    unfold State.commitOf
    rw [htouch.1]
  have hequal : (noteVideo d w s).videoEqual d = false := by
    unfold State.videoEqual
    rw [noteVideo_copy, htouch.liveWord0]
    exact beq_eq_false_iff_ne.mpr hdiffers
  rw [copyVideo_eq, hsync', hvariant, decide_eq_true hlane, hcommits, hcommit, hequal]
  exact onlyIf_true ..

/-- An entry of the claimer with a source of the own position changes no other entry. -/
theorem copyVideo_local (hlocal : s.isRemote (bitsAt w 0 11) = false) :
    TouchesAt d (.TWN_COPY_ATL :: .TWN_COPY_ATL_SEEN :: localDraftFields) [] s (copyVideo d w s) := by
  have hnote : TouchesAt d (.TWN_COPY_ATL :: .TWN_COPY_ATL_SEEN :: localDraftFields) [] s (noteVideo d w s) :=
    TouchesAt.thenAt (TouchesAt.refl ..) (noteVideo_touches d w s)
  have hlocal' : (noteVideo d w s).isRemote (bitsAt (liveWord w) 0 11) = false := by
    rw [bitsAt_liveWord_source, isRemote_touches hnote.1, hlocal]
  rw [copyVideo_eq]
  exact .ite (TouchesAt.thenAt hnote (draftVideo_local hlocal')) hnote

/-! ### Audio entries -/

/-- An audio entry of the claimer is noted. -/
def noteAudio (c w : Nat) (s : State) : State := (s.put .TWN_COPY_AUD c w).put .TWN_COPY_AUD_SEEN c 1

theorem noteAudio_touches (c w : Nat) (s : State) : Touches [.TWN_COPY_AUD, .TWN_COPY_AUD_SEEN] s (noteAudio c w s) :=
  Touches.put (by decide) _ _ (Touches.put (by decide) _ _ (Touches.refl _ s))

theorem noteAudio_copy : (noteAudio c w s).get .TWN_COPY_AUD c = bitsAt w 0 18 := by
  rw [noteAudio, State.get_put_other _ (by decide), State.get_put_self]
  exact (congrArg (· % 2 ^ 18) (Nat.div_one w)).symm

/-- A draft of the audio matrix takes what the claimer shows. -/
def draftAudio (c w : Nat) (s : State) : State := requestGroup (bitsAt w 0 18) (s.put .AUD_DRAFT_SOURCE c w)

theorem copyAudio_eq : copyAudio c w s =
    onlyIf ((noteAudio c w s).syncing 2 && c < (noteAudio c w s).matrixSize && !(noteAudio c w s).audioEqual c) (draftAudio c w) (noteAudio c w s) := rfl

theorem draftAudio_get {f : Fld} (hf : f ∉ askedFields) (i : Nat) : (draftAudio c w s).get f i = (s.put .AUD_DRAFT_SOURCE c w).get f i :=
  (requestGroup_asked (Asked.refl _)).get hf i

theorem copyAudio_get {f : Fld} (hf : f ∉ .AUD_DRAFT_SOURCE :: askedFields) (i : Nat) : (copyAudio c w s).get f i = (noteAudio c w s).get f i := by
  obtain ⟨hd, ha⟩ := not_or.mp (mt List.mem_cons.mpr hf)
  rw [copyAudio_eq]
  unfold onlyIf
  split
  · rw [draftAudio_get ha, State.get_put_other _ (Ne.symm hd)]
  · rfl

theorem copyAudio_drafts (hsync : s.syncing 2 = true) (hc : c < s.matrixSize) (hdiffers : s.get .AUD_LIVE_SOURCE c ≠ bitsAt w 0 18) :
    (copyAudio c w s).get .AUD_DRAFT_SOURCE c = bitsAt w 0 18 := by
  have htouch := noteAudio_touches c w s
  have hsync' : (noteAudio c w s).syncing 2 = true := htouch.syncing.trans hsync
  have hequal : (noteAudio c w s).audioEqual c = false := by
    unfold State.audioEqual
    rw [noteAudio_copy, htouch.get (by decide)]
    exact beq_eq_false_iff_ne.mpr hdiffers
  rw [copyAudio_eq, hsync', htouch.matrixSize, decide_eq_true hc, hequal, Bool.not_false, Bool.and_self, Bool.and_self, onlyIf_true,
    draftAudio_get (by decide), State.get_put_self]
  exact (congrArg (· % 2 ^ 18) (Nat.div_one w)).symm

end Sys2Proof.Machine
end

section
/-!
PROOFS. What a message of the claimer's entries or of its digest leaves, by its kind (R521, R529, R531).
-/
namespace Sys2Proof.Machine

variable {bs : List Byte} {own : List Stamp} {s t : State}

/-- The state in which a message is taken: its SEQ is counted. -/
def heard (bs : List Byte) (s : State) : State := noteSeq true (msgField bs 1 1) s

theorem heard_touches (bs : List Byte) (s : State) : Touches seqFields s (heard bs s) := noteSeq_touches _ s

theorem heard_seq : (heard bs s).get .TWN_RX_SEQ 0 = msgField bs 1 1 := noteSeq_seq (msgField_lt bs 1 1)

theorem heard_standby (hrun : s.running .twin = true) (hclaim : s.flag .TWN_STAT_CLAIM = false) : (heard bs s).standby = true := by
  rw [(heard_touches bs s).standby, State.standby, hrun, hclaim]
  rfl

theorem standby_of (hrun : s.running .twin = true) (hclaim : s.flag .TWN_STAT_CLAIM = false) : s.standby = true := by
  rw [State.standby, hrun, hclaim]
  rfl

/-- A standby in Warm Standby at a stage, with its twin and its twin link (R530). -/
theorem syncing_of {k : Nat} (hstandby : s.standby = true) (hwarm : s.get .PWR_STAT_STATE = 3) (hstage : s.get .TWN_STAT_SYNC = k)
    (hmismatch : s.flag .TWN_STAT_MISMATCH = false) (hlost : s.flag .TWN_STAT_LINK_LOST = false) : s.syncing k = true := by
  unfold State.syncing State.inWarm
  rw [hstandby, hwarm, hstage, hmismatch, hlost, beq_self_eq_true, beq_self_eq_true]
  rfl

/-! ### The digest (R531) -/

theorem startSync_stage {k : Nat} (hk : k < 16) (s : State) : (startSync k s).get .TWN_STAT_SYNC = k ∧ (startSync k s).get .TWN_STAT_READY = 0 := by
  unfold startSync
  dsimp only
  rw [State.get_clearAll_other _ (by decide), State.get_clearAll_other _ (by decide), State.get_put_other _ (by decide), State.get_put_self,
    State.get_put_self]
  exact ⟨Nat.mod_eq_of_lt hk, rfl⟩

/-- A digest that differs clears READY and restarts stage 2 (R531). -/
theorem digest_spec (hrun : s.running .twin = true) (hclaim : s.flag .TWN_STAT_CLAIM = false) (h : OneItem 5 bs) (hlen : msgField bs 6 2 = 4) :
    ∃ t, exec (.resyncMessage bs own) s = .next t ∧ t.get .TWN_RX_SEQ 0 = msgField bs 1 1
      ∧ (if s.flag .TWN_STAT_READY = true ∧ msgField bs 8 4 ≠ s.liveDigest then t.get .TWN_STAT_SYNC = 2 ∧ t.get .TWN_STAT_READY = 0
        else Touches seqFields s t)
      ∧ Touches (seqFields ++ syncFields) s t := by
  have hheard := heard_touches bs s
  have hstart := startSync_touches 2 (heard bs s)
  have heq : exec (.resyncMessage bs own) s =
      .next (onlyIf (s.flag .TWN_STAT_READY && msgField bs 8 4 != s.liveDigest) (startSync 2) (heard bs s)) := by
    rw [h.exec hrun, h.takeDigest hlen, ← heard, heard_standby hrun hclaim, Bool.true_and, hheard.flag (by decide), hheard.liveDigest]
  rw [heq]
  by_cases hdiffers : s.flag .TWN_STAT_READY = true ∧ msgField bs 8 4 ≠ s.liveDigest
  · refine ⟨_, rfl, ?_⟩
    rw [if_pos hdiffers, hdiffers.1, bne_iff_ne.mpr hdiffers.2, Bool.and_self, onlyIf_true]
    exact ⟨(hstart.get (by decide) 0).trans heard_seq, startSync_stage (by decide) _, (hheard.mono (by decide)).trans (hstart.mono (by decide))⟩
  · have hsame : (s.flag .TWN_STAT_READY && msgField bs 8 4 != s.liveDigest) = false :=
      Bool.eq_false_iff.mpr (fun hon => hdiffers ((Bool.and_eq_true_iff.mp hon).imp_right bne_iff_ne.mp))
    refine ⟨_, rfl, ?_⟩
    rw [if_neg hdiffers, hsame, onlyIf_false]
    exact ⟨heard_seq, hheard, hheard.mono (by decide)⟩

/-! ### Video entries (R529) -/

/-- A video entry while others have not come: it is noted, and nothing is committed. -/
theorem exec_videoEntry (hrun : s.running .twin = true) (hclaim : s.flag .TWN_STAT_CLAIM = false) (h : OneItem 1 bs)
    (hunseen : ∃ e < 96, e ≠ msgField bs 4 2 ∧ s.flag .TWN_COPY_ATL_SEEN e = false) :
    exec (.resyncMessage bs own) s =
      .next (if msgField bs 4 2 < 96 then copyVideo (msgField bs 4 2) (msgField bs 8 4) (heard bs s) else heard bs s) := by
  have hseen (e : Nat) : (heard bs s).flag .TWN_COPY_ATL_SEEN e = s.flag .TWN_COPY_ATL_SEEN e := (heard_touches bs s).flag (by decide) e
  rw [h.exec hrun, h.takeVideo, ← heard, heard_standby hrun hclaim, Bool.true_and, syncCommits_incomplete]
  · by_cases hd : msgField bs 4 2 < 96
    · rw [decide_eq_true hd, onlyIf_true, if_pos hd]
    · rw [decide_eq_false hd, onlyIf_false, if_neg hd]
  · obtain ⟨e, he, hne, hclear⟩ := hunseen
    refine ⟨e, he, ?_⟩
    unfold onlyIf
    split
    · obtain ⟨-, -, hother⟩ := copyVideo_seen (d := msgField bs 4 2) (w := msgField bs 8 4) (s := heard bs s)
      rw [hother e hne, hseen, hclear]
    · rw [hseen, hclear]

theorem heard_commitOf (d : Nat) : (heard bs s).commitOf d = s.commitOf d := by
  unfold State.commitOf
  rw [(heard_touches bs s).1]

theorem heard_variant : (heard bs s).variant = s.variant := by rw [(heard_touches bs s).1]

/-- The draft of an entry that differs at stage 2 (R529). -/
theorem heard_drafts (hstandby : (heard bs s).standby = true) (hwarm : s.get .PWR_STAT_STATE = 3) (hstage : s.get .TWN_STAT_SYNC = 2)
    (hmismatch : s.flag .TWN_STAT_MISMATCH = false) (hlost : s.flag .TWN_STAT_LINK_LOST = false) : (heard bs s).syncing 2 = true := by
  have hheard := heard_touches bs s
  exact syncing_of hstandby ((hheard.get (by decide) 0).trans hwarm) ((hheard.get (by decide) 0).trans hstage)
    ((hheard.flag (by decide) 0).trans hmismatch) ((hheard.flag (by decide) 0).trans hlost)

/-- Video entries are noted, drafted at stage 2, and no other entry changed by a source of the own position (R529). -/
theorem videoEntry_spec (hrun : s.running .twin = true) (hclaim : s.flag .TWN_STAT_CLAIM = false) (h : OneItem 1 bs)
    (hunseen : ∃ e < 96, e ≠ msgField bs 4 2 ∧ s.flag .TWN_COPY_ATL_SEEN e = false) :
    ∃ t, exec (.resyncMessage bs own) s = .next t ∧ (msgField bs 4 2 < 96 → t.get .TWN_COPY_ATL_SEEN (msgField bs 4 2) = 1
        ∧ t.get .TWN_COPY_ATL (msgField bs 4 2) = liveWord (msgField bs 8 4)
        ∧ (s.get .PWR_STAT_STATE = 3 → s.get .TWN_STAT_SYNC = 2 → s.flag .TWN_STAT_MISMATCH = false → s.flag .TWN_STAT_LINK_LOST = false →
            msgField bs 4 2 < s.variant.mediaLanes → (s.commitOf (msgField bs 4 2)).isNone = true →
            liveWord (s.liveWord0 (msgField bs 4 2)) ≠ liveWord (msgField bs 8 4) →
            t.get .ATL_DRAFT_ARMED (msgField bs 4 2) = 1 ∧ t.get .ATL_DRAFT_SOURCE (msgField bs 4 2) = bitsAt (msgField bs 8 4) 0 11
              ∧ t.get .ATL_DRAFT_AFV (msgField bs 4 2) = bitsAt (msgField bs 8 4) 30 1))
      ∧ (s.isRemote (bitsAt (msgField bs 8 4) 0 11) = false →
          TouchesAt (msgField bs 4 2) (.TWN_COPY_ATL :: .TWN_COPY_ATL_SEEN :: localDraftFields) seqFields s t) := by
  have hheard := heard_touches bs s
  refine ⟨_, exec_videoEntry hrun hclaim h hunseen, fun hd => ?_, fun hlocal => ?_⟩
  · rw [if_pos hd]
    obtain ⟨hseen, hcopy, -⟩ := copyVideo_seen (d := msgField bs 4 2) (w := msgField bs 8 4) (s := heard bs s)
    refine ⟨hseen, hcopy, fun hwarm hstage hmismatch hlost hlane hcommit hdiffers => ?_⟩
    rw [copyVideo_drafts (heard_drafts (heard_standby hrun hclaim) hwarm hstage hmismatch hlost) (by rwa [heard_variant])
      (by rwa [heard_commitOf]) (by rwa [hheard.liveWord0])]
    obtain ⟨harmed, hsource, hafv⟩ := draftVideo_drafted (d := msgField bs 4 2) (w := liveWord (msgField bs 8 4))
      (s := noteVideo (msgField bs 4 2) (msgField bs 8 4) (heard bs s))
    exact ⟨harmed, hsource.trans (bitsAt_liveWord_source _), hafv.trans (bitsAt_liveWord_afv _)⟩
  · have hbase : TouchesAt (msgField bs 4 2) (.TWN_COPY_ATL :: .TWN_COPY_ATL_SEEN :: localDraftFields) seqFields s (heard bs s) :=
      (TouchesAt.refl ..).thenTouches hheard
    exact .ite (TouchesAt.thenAt hbase (copyVideo_local ((isRemote_touches hheard (by decide) _).trans hlocal))) hbase

/-! ### Audio entries (R529) -/

theorem exec_audioEntry (hrun : s.running .twin = true) (hclaim : s.flag .TWN_STAT_CLAIM = false) (h : OneItem 2 bs)
    (hunseen : ∃ e < 96, s.flag .TWN_COPY_ATL_SEEN e = false) :
    exec (.resyncMessage bs own) s =
      .next (if msgField bs 4 2 < s.matrixSize then copyAudio (msgField bs 4 2) (msgField bs 8 4) (heard bs s) else heard bs s) := by
  have hseen (e : Nat) : (heard bs s).flag .TWN_COPY_ATL_SEEN e = s.flag .TWN_COPY_ATL_SEEN e := (heard_touches bs s).flag (by decide) e
  rw [h.exec hrun, h.takeAudio, ← heard, heard_standby hrun hclaim, Bool.true_and, (heard_touches bs s).matrixSize, syncCommits_incomplete]
  · by_cases hc : msgField bs 4 2 < s.matrixSize
    · rw [decide_eq_true hc, onlyIf_true, if_pos hc]
    · rw [decide_eq_false hc, onlyIf_false, if_neg hc]
  · obtain ⟨e, he, hclear⟩ := hunseen
    refine ⟨e, he, ?_⟩
    have hnote : (noteAudio (msgField bs 4 2) (msgField bs 8 4) (heard bs s)).get .TWN_COPY_ATL_SEEN e = (heard bs s).get .TWN_COPY_ATL_SEEN e :=
      (noteAudio_touches ..).get (by decide) e
    unfold onlyIf
    split
    · rw [State.flag, copyAudio_get (by decide), hnote]
      exact (hseen e).trans hclear
    · rw [hseen, hclear]

/-- Audio entries are noted, and drafted at stage 2 (R529). -/
theorem audioEntry_spec (hrun : s.running .twin = true) (hclaim : s.flag .TWN_STAT_CLAIM = false) (h : OneItem 2 bs)
    (hunseen : ∃ e < 96, s.flag .TWN_COPY_ATL_SEEN e = false) :
    ∃ t, exec (.resyncMessage bs own) s = .next t ∧ (msgField bs 4 2 < s.matrixSize → t.get .TWN_COPY_AUD_SEEN (msgField bs 4 2) = 1
        ∧ t.get .TWN_COPY_AUD (msgField bs 4 2) = bitsAt (msgField bs 8 4) 0 18
        ∧ (s.get .PWR_STAT_STATE = 3 → s.get .TWN_STAT_SYNC = 2 → s.flag .TWN_STAT_MISMATCH = false → s.flag .TWN_STAT_LINK_LOST = false →
            s.get .AUD_LIVE_SOURCE (msgField bs 4 2) ≠ bitsAt (msgField bs 8 4) 0 18 →
            t.get .AUD_DRAFT_SOURCE (msgField bs 4 2) = bitsAt (msgField bs 8 4) 0 18))
      ∧ (s.matrixSize ≤ msgField bs 4 2 → Touches seqFields s t) := by
  have hheard := heard_touches bs s
  refine ⟨_, exec_audioEntry hrun hclaim h hunseen, fun hc => ?_, fun hc => ?_⟩
  · rw [if_pos hc]
    refine ⟨?_, ?_, fun hwarm hstage hmismatch hlost hdiffers => ?_⟩
    · rw [copyAudio_get (by decide)]
      exact State.get_put_self ..
    · rw [copyAudio_get (by decide), noteAudio_copy]
    · exact copyAudio_drafts (heard_drafts (heard_standby hrun hclaim) hwarm hstage hmismatch hlost) (by rwa [hheard.matrixSize])
        (by rwa [hheard.get (by decide)])
  · rw [if_neg (Nat.not_lt.mpr hc)]
    exact hheard

end Sys2Proof.Machine
end

section
/-!
PROOFS. Inputs that are compared with the claimer's, and the stages of resynchronisation (R529 to R531).
-/
namespace Sys2Proof.Machine

variable {i n k : Nat} {bs : List Byte} {own : List Stamp} {a b : Int} {s t : State}

/-! ### An input beside the claimer's (R529, R531) -/

/-- An input whose spans differ from the claimer's counts no match, and READY falls (R531). -/
def missInput (i : Nat) (s : State) : State := onlyIf (s.flag .TWN_STAT_READY) (startSync 4) (s.put .TWN_MATCH i 0)

/-- The span that an input reads moves by one towards the claimer's (R529 stage 4). -/
def moveInput (i : Nat) (twinNs ownNs : Int) (s : State) : State :=
  notice 192 (if twinNs < ownNs then (s.put .IN_READ i (s.get .IN_READ i - 1)).bump .ATL_IN_COUNT_REPEATS i
    else (s.put .IN_READ i (s.get .IN_READ i + 1)).bump .ATL_IN_COUNT_DROPS i)

theorem put_ready (i : Nat) (s : State) : (s.put .TWN_MATCH i 0).flag .TWN_STAT_READY = s.flag .TWN_STAT_READY :=
  congrArg (· == 1) (State.get_put_other s (by decide) ..)

/-- An input of the span that the claimer compares: it matches within half a frame, and moves at stage 4 otherwise (R529). -/
theorem alignInput_eq (hrun : s.running .input i = true) (hspan : n % 2 ^ 32 = s.get .ATL_N_RECENT (s.formatOf (96 * s.position + i)) % 2 ^ 32) :
    alignInput i n a b s = if (b - a).natAbs ≤ halfFrameNs (s.formatOf (96 * s.position + i)) then s.bump .TWN_MATCH i
      else onlyIf ((missInput i s).syncing 4 && 1 < (missInput i s).get .IN_READ i) (moveInput i a b) (missInput i s) := by
  have hskip : ¬(!s.running .input i || n % 2 ^ 32 != s.get .ATL_N_RECENT (s.formatOf (96 * s.position + i)) % 2 ^ 32) = true := by
    rw [hrun, hspan, bne_self_eq_false]
    exact Bool.false_ne_true
  have hmiss : onlyIf ((s.put .TWN_MATCH i 0).flag .TWN_STAT_READY) (startSync 4) (s.put .TWN_MATCH i 0) = missInput i s := by
    rw [put_ready, missInput]
  unfold alignInput
  dsimp only
  rw [if_neg hskip, Int.natAbs_natCast]
  rw [hmiss]
  refine if_congr Iff.rfl rfl ?_
  unfold onlyIf moveInput
  rfl

/-- The fields of an input's span. -/
def spanFields : List Fld := [.IN_READ, .ATL_IN_COUNT_REPEATS, .ATL_IN_COUNT_DROPS]

/-- What the comparison of an input changes besides. -/
def alignFields : List Fld := syncFields ++ seqFields ++ reportFields

theorem missInput_touches (i : Nat) (s : State) : Touches syncFields s (missInput i s) :=
  Touches.onlyIf _ (fun u => startSync_touches 4 u) (Touches.put (by decide) _ _ (Touches.refl _ s))

theorem moveInput_touches (i : Nat) (a b : Int) (s : State) : TouchesAt i spanFields reportFields s (moveInput i a b s) := by
  unfold moveInput
  exact TouchesAt.notice (.ite (TouchesAt.bump (TouchesAt.put (TouchesAt.refl ..))) (TouchesAt.bump (TouchesAt.put (TouchesAt.refl ..))))

theorem Store.find_filter_self (f : Fld) (j : Nat) (l : Store) : Store.find f j (l.filter (fun c => c.fld != f)) = none := by
  induction l with
  | nil => rfl
  | cons c l ih =>
    by_cases hc : c.fld = f
    · simp [hc, ih]
    · simp [hc, Store.find, ih]

/-- An input that misses counts no match, and the part is not READY (R531). -/
theorem missInput_spec (i : Nat) (s : State) : (missInput i s).get .TWN_MATCH i = 0 ∧ (missInput i s).flag .TWN_STAT_READY = false
    ∧ (s.flag .TWN_STAT_READY = true → (missInput i s).get .TWN_STAT_SYNC = 4)
    ∧ (s.flag .TWN_STAT_READY = false → missInput i s = s.put .TWN_MATCH i 0) := by
  unfold missInput
  cases hready : s.flag .TWN_STAT_READY
  · rw [onlyIf_false]
    exact ⟨State.get_put_self .., (put_ready i s).trans hready, fun h => (by cases h), fun _ => rfl⟩
  · rw [onlyIf_true]
    obtain ⟨hstage, hclear⟩ := startSync_stage (k := 4) (by decide) (s.put .TWN_MATCH i 0)
    refine ⟨?_, State.flag_of_zero hclear, fun _ => hstage, fun h => (by cases h)⟩
    unfold startSync State.get State.clearAll
    dsimp only
    rw [Store.find_filter_self]
    rfl

/-- What the move of an input leaves (R529 stage 4). -/
theorem moveInput_spec (i : Nat) (s : State) : Asserted 192 0 s (moveInput i a b s)
    ∧ (a < b → (moveInput i a b s).get .ATL_IN_COUNT_REPEATS i = satAdd 16 (s.get .ATL_IN_COUNT_REPEATS i) 1
        ∧ (moveInput i a b s).get .IN_READ i = (s.get .IN_READ i - 1) % 2 ^ 64)
    ∧ (b < a → (moveInput i a b s).get .ATL_IN_COUNT_DROPS i = satAdd 16 (s.get .ATL_IN_COUNT_DROPS i) 1
        ∧ (moveInput i a b s).get .IN_READ i = (s.get .IN_READ i + 1) % 2 ^ 64) := by
  unfold moveInput
  refine ⟨(notice_asserted _ (by decide)).since ?_, fun hlt => ?_, fun hlt => ?_⟩
  · split
    · exact .put (by decide) (by decide) _ _ (.put (by decide) (by decide) _ _ (.refl _ s))
    · exact .put (by decide) (by decide) _ _ (.put (by decide) (by decide) _ _ (.refl _ s))
  · rw [if_pos hlt, State.get_notice _ _ (by decide), State.get_notice _ _ (by decide), State.get_bump_self, State.get_bump_other _ (by decide),
      State.get_put_other _ (by decide), State.get_put_self]
    exact ⟨rfl, rfl⟩
  · rw [if_neg (Int.not_lt.mpr (Int.le_of_lt hlt)), State.get_notice _ _ (by decide), State.get_notice _ _ (by decide), State.get_bump_self,
      State.get_bump_other _ (by decide), State.get_put_other _ (by decide), State.get_put_self]
    exact ⟨rfl, rfl⟩

theorem OneItem.takeInput {u : State} (h : OneItem 3 bs) : takeResync bs own u = onlyIf (u.standby && u.inWarm)
    (alignInput (msgField bs 4 2) (msgField bs 8 4) (ns32 (msgField bs 12 4) (msgField bs 16 4))
      (ns32 (own.getD 0 ⟨0, 0, 0⟩).sec (own.getD 0 ⟨0, 0, 0⟩).ns)) u := by
  have hnumber : leNat (((bs.drop 8).take 12).take 4) = msgField bs 8 4 := by
    rw [List.take_take]
    rfl
  have hseconds : msgField ((bs.drop 8).take 12) 4 4 = msgField bs 12 4 := by
    rw [msgField, List.drop_take, List.take_take, List.drop_drop]
    rfl
  have hnanos : msgField ((bs.drop 8).take 12) 8 4 = msgField bs 16 4 := by
    rw [msgField, List.drop_take, List.take_take, List.drop_drop]
    rfl
  unfold takeResync
  dsimp only
  rw [h.isKind, h.items, ← hnumber, ← hseconds, ← hnanos]
  rfl

end Sys2Proof.Machine
end

section
/-!
PROOFS. The comparison of an input, the stages of resynchronisation, and the statement (R521, R529 to R531).
-/
namespace Sys2Proof.Machine

variable {i k : Nat} {bs : List Byte} {own : List Stamp} {a b : Int} {s t : State}

/-! ### A message of an input (R529 stage 4) -/

/-- What the comparison of an input leaves, by whether its span lies within half a frame of the claimer's. -/
structure Aligned (i half : Nat) (a b : Int) (s t : State) : Prop where
  matched : (b - a).natAbs ≤ half →
    t.get .TWN_MATCH i = satAdd 2 (s.get .TWN_MATCH i) 1 ∧ t.get .IN_READ i = s.get .IN_READ i ∧ t.get .TWN_STAT_READY = s.get .TWN_STAT_READY
  missed : half < (b - a).natAbs → t.get .TWN_MATCH i = 0 ∧ t.flag .TWN_STAT_READY = false
    ∧ (s.flag .TWN_STAT_READY = true → t.get .TWN_STAT_SYNC = 4)
    ∧ (s.flag .TWN_STAT_READY = false → s.syncing 4 = true → 1 < s.get .IN_READ i → Asserted 192 0 s t
      ∧ (a < b → t.get .ATL_IN_COUNT_REPEATS i = satAdd 16 (s.get .ATL_IN_COUNT_REPEATS i) 1 ∧ t.get .IN_READ i = (s.get .IN_READ i - 1) % 2 ^ 64)
      ∧ (b < a → t.get .ATL_IN_COUNT_DROPS i = satAdd 16 (s.get .ATL_IN_COUNT_DROPS i) 1 ∧ t.get .IN_READ i = (s.get .IN_READ i + 1) % 2 ^ 64))
  touches : TouchesAt i spanFields alignFields s t

/-- The comparison moves an input that missed, or leaves it. -/
theorem missInput_moved (i : Nat) (c : Bool) (a b : Int) (s : State) :
    TouchesAt i spanFields reportFields (missInput i s) (onlyIf c (moveInput i a b) (missInput i s)) :=
  .ite (moveInput_touches i a b _) (TouchesAt.refl ..)

theorem alignInput_aligned {n : Nat} (hrun : s.running .input i = true)
    (hspan : n % 2 ^ 32 = s.get .ATL_N_RECENT (s.formatOf (96 * s.position + i)) % 2 ^ 32) :
    Aligned i (halfFrameNs (s.formatOf (96 * s.position + i))) a b s (alignInput i n a b s) := by
  rw [alignInput_eq hrun hspan]
  by_cases hin : (b - a).natAbs ≤ halfFrameNs (s.formatOf (96 * s.position + i))
  · rw [if_pos hin]
    refine ⟨fun _ => ⟨State.get_bump_self .., State.get_bump_other _ (by decide) .., State.get_bump_other _ (by decide) ..⟩,
      fun hout => absurd hin (Nat.not_le.mpr hout), TouchesAt.putAny (TouchesAt.refl ..)⟩
  · rw [if_neg hin]
    obtain ⟨hzero, hready, hstage, hsteady⟩ := missInput_spec i s
    have hmoved := missInput_moved i ((missInput i s).syncing 4 && 1 < (missInput i s).get .IN_READ i) a b s
    refine ⟨fun h => absurd h hin, fun _ => ⟨?_, ?_, fun h => ?_, fun hunready hsync hread => ?_⟩, ?_⟩
    · rw [hmoved.1.get (by decide), hzero]
    · rw [hmoved.1.flag (by decide), hready]
    · rw [hmoved.1.get (by decide), hstage h]
    · have hput : Touches [.TWN_MATCH] s (s.put .TWN_MATCH i 0) := Touches.put (by decide) _ _ (Touches.refl _ s)
      obtain ⟨hasserted, hrepeat, hdrop⟩ := moveInput_spec (a := a) (b := b) i (s.put .TWN_MATCH i 0)
      rw [hput.get (by decide), hput.get (by decide)] at hrepeat hdrop
      rw [hsteady hunready, hput.syncing, hsync, hput.get (by decide), decide_eq_true hread, Bool.and_self, onlyIf_true]
      exact ⟨hasserted.since (.of_touches hput), hrepeat, hdrop⟩
    · exact TouchesAt.thenAt (TouchesAt.thenTouches (TouchesAt.refl ..) (missInput_touches i s)) hmoved

/-- A message of an input that runs, of the span that it names (R529). -/
theorem exec_inputEntry (hstandby : s.standby = true) (hrun : s.running .twin = true) (hwarm : s.get .PWR_STAT_STATE = 3) (h : OneItem 3 bs) :
    exec (.resyncMessage bs own) s = .next (alignInput (msgField bs 4 2) (msgField bs 8 4) (ns32 (msgField bs 12 4) (msgField bs 16 4))
      (ns32 (own.getD 0 ⟨0, 0, 0⟩).sec (own.getD 0 ⟨0, 0, 0⟩).ns) (heard bs s)) := by
  have hwarm' : (heard bs s).inWarm = true := beq_iff_eq.mpr (((heard_touches bs s).get (by decide) 0).trans hwarm)
  rw [h.exec hrun, h.takeInput, ← heard, (heard_touches bs s).standby, hstandby, hwarm', Bool.and_self, onlyIf_true]

/-- The comparison of the input that a message names, in the terms of the state before (R529, R531). -/
theorem heard_aligned (hin : s.running .input (msgField bs 4 2) = true)
    (hspan : msgField bs 8 4 = s.get .ATL_N_RECENT (s.formatOf (96 * s.position + msgField bs 4 2)) % 2 ^ 32) :
    Aligned (msgField bs 4 2) (halfFrameNs (s.formatOf (96 * s.position + msgField bs 4 2))) a b (heard bs s)
      (alignInput (msgField bs 4 2) (msgField bs 8 4) a b (heard bs s)) := by
  have hheard := heard_touches bs s
  have hformat : (heard bs s).formatOf (96 * (heard bs s).position + msgField bs 4 2) = s.formatOf (96 * s.position + msgField bs 4 2) := by
    unfold State.formatOf State.position
    rw [hheard.get (by decide), hheard.get (by decide)]
  rw [← hformat]
  refine alignInput_aligned ((hheard.flag (by decide) _).trans hin) ?_
  rw [hformat, hheard.get (by decide), hspan, Nat.mod_mod]

/-- What is said of the state in which the message is taken holds of the state before. -/
theorem Aligned.ofHeard {half : Nat} (h : Aligned i half a b (heard bs s) t) : Aligned i half a b s t := by
  have hheard := heard_touches bs s
  have hget {f : Fld} (hf : f ∉ seqFields) (j : Nat) : (heard bs s).get f j = s.get f j := hheard.get hf j
  obtain ⟨hmatched, hmissed, htouch⟩ := h
  rw [hget (by decide), hget (by decide), hget (by decide)] at hmatched
  rw [hheard.flag (by decide), hheard.syncing, hget (by decide), hget (by decide), hget (by decide)] at hmissed
  refine ⟨hmatched, fun hout => ?_, TouchesAt.thenAt (TouchesAt.thenTouches (TouchesAt.refl ..) hheard) htouch⟩
  obtain ⟨hzero, hready, hstage, hmove⟩ := hmissed hout
  refine ⟨hzero, hready, hstage, fun hunready hsync hread => ?_⟩
  obtain ⟨hasserted, hrest⟩ := hmove hunready hsync hread
  exact ⟨hasserted.since (.of_touches hheard), hrest⟩

/-! ### The stages (R529, R530) -/

/-- The condition that completes a stage. -/
def State.stageDone (s : State) (k : Nat) : Bool :=
  match k with
  | 1 => s.running .tb 0 && s.flag .TWN_OFF_IN && s.get .TWN_OFF_TICK + ticks1s ≤ s.tick
  | 2 => s.running .atlas && s.running .aud && s.copyComplete && (List.range 96).all s.videoEqual && (List.range s.matrixSize).all s.audioEqual
  | 3 => s.liveReady
  | 4 => (List.range 96).all (fun i => !s.running .input i || 2 ≤ s.get .TWN_MATCH i)
  | _ => false

/-- The next stage begins. -/
def nextStage (k : Nat) (s : State) : State :=
  if k = 2 then requestLive (s.put .TWN_STAT_SYNC 0 (k + 1))
  else onlyIf (k == 4) (fun s => twinCause 5 445 0 (s.put .TWN_STAT_READY 0 1)) (s.put .TWN_STAT_SYNC 0 (k + 1))

theorem exec_syncStageComplete_eq (hk : k = s.get .TWN_STAT_SYNC) :
    exec .syncStageComplete s = .next (onlyIf (s.syncing k && s.stageDone k) (nextStage k) s) := by
  rw [hk]
  rfl

theorem exec_syncStageComplete_none (hk : k = s.get .TWN_STAT_SYNC) (h : s.syncing k = false ∨ s.stageDone k = false) :
    exec .syncStageComplete s = .next s := by
  rw [exec_syncStageComplete_eq hk]
  rcases h with h | h
  · rw [h, Bool.false_and, onlyIf_false]
  · rw [h, Bool.and_false, onlyIf_false]

theorem exec_syncStageComplete_done (hk : k = s.get .TWN_STAT_SYNC) (hsync : s.syncing k = true) (hdone : s.stageDone k = true) :
    exec .syncStageComplete s = .next (nextStage k s) := by
  rw [exec_syncStageComplete_eq hk, hsync, hdone, Bool.and_self, onlyIf_true]

/-- There are four stages. -/
theorem stageDone_none (h : k = 0 ∨ 4 < k) : s.stageDone k = false := by
  unfold State.stageDone
  split
  · omega
  · omega
  · omega
  · omega
  · rfl

theorem stageDone_one : s.stageDone 1 = true ↔ s.running .tb 0 = true ∧ s.flag .TWN_OFF_IN = true ∧ s.get .TWN_OFF_TICK + 400000000 ≤ s.tick := by
  show (s.running .tb 0 && s.flag .TWN_OFF_IN && s.get .TWN_OFF_TICK + ticks1s ≤ s.tick) = true ↔ _
  rw [Bool.and_eq_true, Bool.and_eq_true, decide_eq_true_iff, and_assoc]
  rfl

theorem stageDone_two : s.stageDone 2 = true ↔ s.running .atlas = true ∧ s.running .aud = true ∧ s.copyComplete = true
    ∧ (List.range 96).all s.videoEqual = true ∧ (List.range s.matrixSize).all s.audioEqual = true := by
  show (s.running .atlas && s.running .aud && s.copyComplete && (List.range 96).all s.videoEqual && (List.range s.matrixSize).all s.audioEqual) = true ↔ _
  rw [Bool.and_eq_true, Bool.and_eq_true, Bool.and_eq_true, Bool.and_eq_true, and_assoc, and_assoc, and_assoc]

theorem stageDone_four : s.stageDone 4 = true ↔ ∀ i < 96, s.running .input i = true → 2 ≤ s.get .TWN_MATCH i := by
  show (List.range 96).all (fun i => !s.running .input i || 2 ≤ s.get .TWN_MATCH i) = true ↔ _
  rw [List.all_eq_true]
  refine forall_congr' (fun i => imp_congr List.mem_range ?_)
  rw [Bool.or_eq_true, Bool.not_eq_true', decide_eq_true_iff, ← Bool.not_eq_true, ← imp_iff_not_or]

/-- Stages 1 and 3 only give way to the next. -/
theorem nextStage_plain (h2 : k ≠ 2) (h4 : k ≠ 4) (s : State) : nextStage k s = s.put .TWN_STAT_SYNC 0 (k + 1) := by
  unfold nextStage
  rw [if_neg h2, beq_eq_false_iff_ne.mpr h4, onlyIf_false]

theorem put_stage (hk : k + 1 < 16) (s : State) : (s.put .TWN_STAT_SYNC 0 (k + 1)).get .TWN_STAT_SYNC = k + 1
    ∧ Touches [.TWN_STAT_SYNC] s (s.put .TWN_STAT_SYNC 0 (k + 1)) := by
  refine ⟨?_, Touches.put (by decide) _ _ (Touches.refl _ s)⟩
  rw [State.get_put_self, show 2 ^ Fld.TWN_STAT_SYNC.info.w = 16 from rfl]
  exact Nat.mod_eq_of_lt hk

/-- Streams are asked for behind a change of fields. -/
theorem Touches.thenAsked {fs : List Fld} {u : State} (h : Touches fs s t) (k : Asked t u) :
    Touches (fs ++ askedFields) { s with rx := u.rx, subWait := u.subWait } u := by
  have hbase : Touches fs { s with rx := u.rx, subWait := u.subWait } { t with rx := u.rx, subWait := u.subWait } := by
    refine ⟨?_, h.2⟩
    rw [h.1]
  exact (hbase.mono (fun _ hf => List.mem_append_left _ hf)).trans (k.mono (fun _ hf => List.mem_append_right _ hf))

/-- Stage 3 asks for what live entries name (R529). -/
theorem nextStage_two (s : State) : (nextStage 2 s).get .TWN_STAT_SYNC = 3
    ∧ Touches ([.TWN_STAT_SYNC, .AUD_GROUP_LOST, .AUD_RXG_MISSING] ++ requestFields ++ decoderFields ++ reportFields)
        { s with rx := (nextStage 2 s).rx, subWait := (nextStage 2 s).subWait } (nextStage 2 s) := by
  obtain ⟨hstage, hput⟩ := put_stage (k := 2) (by decide) s
  have hasked : Asked (s.put .TWN_STAT_SYNC 0 3) (nextStage 2 s) := by
    unfold nextStage
    rw [if_pos rfl]
    exact requestLive_asked (Asked.refl _)
  refine ⟨(hasked.get (by decide) 0).trans hstage, ?_⟩
  exact (hput.thenAsked hasked).mono (by decide)

/-- The part is READY behind stage 4 (R530). -/
def ready (s : State) : State := (s.put .TWN_STAT_SYNC 0 5).put .TWN_STAT_READY 0 1

theorem nextStage_four (s : State) : nextStage 4 s = twinCause 5 445 0 (ready s) := rfl

theorem ready_touches (s : State) : Touches [.TWN_STAT_SYNC, .TWN_STAT_READY] s (ready s) :=
  Touches.put (by decide) _ _ (Touches.put (by decide) _ _ (Touches.refl _ s))

theorem nextStage_four_spec (s : State) : (nextStage 4 s).get .TWN_STAT_SYNC = 5 ∧ (nextStage 4 s).get .TWN_STAT_READY = 1
    ∧ (nextStage 4 s).get .TWN_EVT = (s.get .TWN_EVT ||| 0x20) % 2 ^ 9
    ∧ (bitsAt (s.get .TWN_EVT) 5 1 = 0 → bitsAt (s.get .TWN_EVT_EN) 5 1 = 1 → Asserted 445 0 s (nextStage 4 s))
    ∧ Touches ([.TWN_STAT_SYNC, .TWN_STAT_READY, .TWN_EVT] ++ reportFields) s (nextStage 4 s) := by
  have hready := ready_touches s
  have hcause := twinCause_touches 5 445 0 (ready s)
  have hevt : (ready s).get .TWN_EVT = s.get .TWN_EVT := hready.get (by decide) 0
  have hen : (ready s).get .TWN_EVT_EN = s.get .TWN_EVT_EN := hready.get (by decide) 0
  rw [nextStage_four]
  refine ⟨?_, ?_, ?_, fun hold hon => ?_, (hready.mono (by decide)).trans (hcause.mono (by decide))⟩
  · rw [twinCause_get, ready, State.get_put_other _ (by decide), State.get_put_self]
    rfl
  · rw [twinCause_get, ready, State.get_put_self]
    rfl
  · rw [twinCause_evt, hevt]
    rfl
  · rw [← hevt] at hold
    rw [← hen] at hon
    exact (twinCause_asserted hold hon (by decide) (by decide)).since (.of_touches hready)

/-- Settles O56: what is sent, what is discarded, each kind of message that is taken, and each stage. -/
theorem standbyResynchronises : Obligations.StandbyResynchronises := by
  unfold Obligations.StandbyResynchronises
  refine ⟨fun kind index n starts s => ⟨exec_resyncSend_none, fun hclaim hkind => ?_, resyncSend_spec⟩,
    fun bs own s => ⟨fun hbad => ?_, fun hrun hclaim hcrc hfamily hlen => ⟨fun hkind hitem => ?_, fun hkind hitem hunseen => ?_,
      fun hkind hitem hunseen => ?_, fun i hi f hf hkind hitem hwarm hin hspan => ?_⟩⟩,
    fun k s hk => ⟨fun h => ?_, fun hsync => ⟨fun h1 htb hoff htick => ?_, fun h1 hnot => ?_, fun h2 => ?_, fun h3 hready => ?_, fun h3 hready => ?_,
      fun h4 hmatch => ?_, fun i h4 hi hin hmatch => ?_⟩⟩⟩
  · exact exec_resyncSend_none (Or.inl (resyncDue_unclaimed hclaim hkind))
  · exact exec_resyncMessage_none (hbad.imp_right msgBad_iff.mpr)
  · -- a digest
    obtain ⟨t, heq, hseq, hstage, htouch⟩ := digest_spec (own := own) hrun hclaim (.of_layout hcrc hfamily hlen hkind (by decide) hitem) hitem
    exact ⟨t, heq, hseq, hstage, htouch⟩
  · -- a video entry
    exact videoEntry_spec hrun hclaim (.of_layout hcrc hfamily hlen hkind (by decide) hitem) hunseen
  · -- an audio entry
    exact audioEntry_spec hrun hclaim (.of_layout hcrc hfamily hlen hkind (by decide) hitem) hunseen
  · -- an input
    rw [hf, hi] at hspan
    rw [hi] at hin ⊢
    rw [hf, hi]
    have hentry := exec_inputEntry (own := own) (standby_of hrun hclaim) hrun hwarm (.of_layout hcrc hfamily hlen hkind (by decide) hitem)
    have haligned := (heard_aligned (a := ns32 (msgField bs 12 4) (msgField bs 16 4))
      (b := ns32 (own.getD 0 ⟨0, 0, 0⟩).sec (own.getD 0 ⟨0, 0, 0⟩).ns) hin hspan).ofHeard
    refine ⟨_, hentry, fun o ho dt hdt => ?_, haligned.touches⟩
    have hown : own.getD 0 ⟨0, 0, 0⟩ = o := by
      rw [List.getD_eq_getElem?_getD, ← List.head?_eq_getElem?, ho, Option.getD_some]
    rw [hown] at haligned ⊢
    rw [hdt]
    refine ⟨haligned.matched, fun hout => ?_⟩
    obtain ⟨hzero, hready, hstage, hmove⟩ := haligned.missed hout
    exact ⟨hzero, hready, hstage, fun hunready hfour hmismatch hlost hread =>
      hmove hunready (syncing_of (standby_of hrun hclaim) hwarm hfour hmismatch hlost) hread⟩
  · exact exec_syncStageComplete_none hk (h.imp_right stageDone_none)
  · -- stage 1
    subst h1
    refine ⟨_, exec_syncStageComplete_done hk hsync (stageDone_one.mpr ⟨htb, hoff, htick⟩), ?_⟩
    rw [nextStage_plain (by decide) (by decide)]
    exact put_stage (by decide) s
  · subst h1
    refine exec_syncStageComplete_none hk (Or.inr (Bool.eq_false_iff.mpr (fun hdone => ?_)))
    obtain ⟨htb, hoff, htick⟩ := stageDone_one.mp hdone
    rcases hnot with h | h | h
    · rw [htb] at h
      cases h
    · rw [hoff] at h
      cases h
    · omega
  · -- stage 2
    subst h2
    by_cases hdone : s.stageDone 2 = true
    · refine ⟨_, exec_syncStageComplete_done hk hsync hdone, ?_⟩
      rw [if_pos (stageDone_two.mp hdone)]
      exact nextStage_two s
    · refine ⟨_, exec_syncStageComplete_none hk (Or.inr (Bool.eq_false_iff.mpr hdone)), ?_⟩
      rw [if_neg (fun h => hdone (stageDone_two.mpr h))]
  · -- stage 3
    subst h3
    refine ⟨_, exec_syncStageComplete_done hk hsync hready, ?_⟩
    rw [nextStage_plain (by decide) (by decide)]
    exact put_stage (by decide) s
  · subst h3
    exact exec_syncStageComplete_none hk (Or.inr hready)
  · -- stage 4
    subst h4
    exact ⟨_, exec_syncStageComplete_done hk hsync (stageDone_four.mpr hmatch), nextStage_four_spec s⟩
  · subst h4
    refine exec_syncStageComplete_none hk (Or.inr (Bool.eq_false_iff.mpr (fun hdone => ?_)))
    exact absurd (stageDone_four.mp hdone i hi hin) (Nat.not_le.mpr hmatch)

end Sys2Proof.Machine
end

section
/-!
PROOFS. The canonical forms, from what a step keeps (R49, R54, R456).
-/
namespace Sys2Proof.Machine

/-- The canonical form of a state, part by part. -/
theorem canonical_iff {s : State} :
    s.canonical = true ↔ Store.wf s.variant s.regs = true ∧ Memory.wf s.mem = true ∧ Memory.wf s.nvm = true := by
  rw [State.canonical, Bool.and_eq_true, Bool.and_eq_true, and_assoc]

/-- What keeps the part, the store and the memories keeps the canonical form. -/
theorem Keeps.canonical {s t : State} (h : Keeps s t) (hs : s.canonical = true) : t.canonical = true := by
  obtain ⟨hstore, hmem, hnvm⟩ := canonical_iff.mp hs
  exact canonical_iff.mpr ⟨h.store hstore, h.mem hmem, h.nvm hnvm⟩

/-- Settles O4: a step keeps all three canonical forms (`step_keeps`), from a state that differs in its queue alone. -/
theorem canonicalFormKept : Obligations.CanonicalFormKept := by
  unfold Obligations.CanonicalFormKept
  intro s t hs hstep
  exact (step_keeps hstep).canonical hs

end Sys2Proof.Machine
end

section
/-!
PROOFS. HBM: a stack that fails, the end of training, the scrubber and the temperature watch (R50, R498, R597).
-/
namespace Sys2Proof.Machine

variable {n k : Nat} {fs gs : List Fld} {s t : State}

/-! ### Reports behind fields of one index -/

theorem TouchesAt.assertDetail {j cls : Nat} {detail : List Nat} (h : TouchesAt n fs reportFields s t)
    (hapart : ∀ f ∈ fs, f ∉ reportFields := by decide) : TouchesAt n fs reportFields s (assertDetail j cls detail t) :=
  h.thenTouches (assertDetail_report j cls detail t) (fun _ hf => hf) hapart

theorem TouchesAt.assertEv {j cls : Nat} (h : TouchesAt n fs reportFields s t) (hapart : ∀ f ∈ fs, f ∉ reportFields := by decide) :
    TouchesAt n fs reportFields s (assertEv j cls t) := h.assertDetail hapart

theorem Touches.hasStack (h : Touches fs s t) (k : Nat) : t.hasStack k = s.hasStack k := by rw [State.hasStack, h.1, State.hasStack]

theorem Touches.boot (h : Touches fs s t) : t.boot = s.boot := by rw [h.1]

/-! ### A stack that fails (R498) -/

theorem failStack_failed (k : Nat) (s : State) : (failStack k s).get .FLT_HBM_FAILED k = 1 := by
  rw [failStack, State.get_assertEv _ _ _ (by decide), State.get_put_self]
  rfl

theorem failStack_asserted (hk : k < 2) (s : State) : Asserted (428 + k) 3 s (failStack k s) :=
  (assertEv_asserted _ (by omega) (by decide)).since (.put (by decide) (by decide) _ _ (.refl _ s))

theorem failStack_touchesAt (k : Nat) (s : State) : TouchesAt k [.FLT_HBM_FAILED] reportFields s (failStack k s) :=
  TouchesAt.assertEv (TouchesAt.put (TouchesAt.refl ..))

theorem failStack_touches (k : Nat) (s : State) : Touches (.FLT_HBM_FAILED :: reportFields) s (failStack k s) := (failStack_touchesAt k s).1

/-- A stack's failure leaves the count of every source but its own and the reporter of storms. -/
theorem KeepsCount.failStack (hk : 428 + k ≠ n) (hn : n ≠ 510) (s : State) : KeepsCount n s (failStack k s) :=
  .assertEv hk hn 3 (.put (by decide) (by decide) _ _ (.refl n s))

/-! ### The end of training (R50) -/

/-- HBM is ready, before any stack is marked. -/
def trained (s : State) : State := { s with boot := { s.boot with hbmReady := true } }

/-- Stack 0 is marked where it failed its training. -/
def markFirst (fail0 : Bool) (s : State) : State := onlyIf fail0 (failStack 0) (trained s)

/-- Both stacks are marked. -/
def markBoth (fail0 fail1 : Bool) (s : State) : State := onlyIf (fail1 && s.hasStack 1) (failStack 1) (markFirst fail0 s)

theorem markFirst_touches (fail0 : Bool) (s : State) : Touches (.FLT_HBM_FAILED :: reportFields) (trained s) (markFirst fail0 s) :=
  .onlyIf _ (failStack_touches 0) (.refl _ _)

theorem markBoth_touches (fail0 fail1 : Bool) (s : State) : Touches (.FLT_HBM_FAILED :: reportFields) (trained s) (markBoth fail0 fail1 s) :=
  .onlyIf _ (failStack_touches 1) (markFirst_touches fail0 s)

/-- Marking stack 1 leaves stack 0. -/
theorem markBoth_first (fail0 fail1 : Bool) (s : State) :
    (markBoth fail0 fail1 s).get .FLT_HBM_FAILED 0 = (markFirst fail0 s).get .FLT_HBM_FAILED 0
      ∧ KeepsCount 428 (markFirst fail0 s) (markBoth fail0 fail1 s) := by
  refine ⟨?_, .onlyIf _ (KeepsCount.failStack (by decide) (by decide)) (.refl _ _)⟩
  exact (TouchesAt.ite (failStack_touchesAt 1 _) (TouchesAt.refl ..)).2 _ (by decide) 0 (by decide)

theorem exec_hbmReady_boot (hpower : s.get .PWR_STAT_STATE = 1) (hready : s.boot.hbmReady = false) (fail0 fail1 : Bool) :
    exec (.hbmReady fail0 fail1) s = .next (markBoth fail0 fail1 s) := by
  rw [exec_hbmReady, execHbmReady, hpower, hready, markBoth, ← show (markFirst fail0 s).hasStack 1 = s.hasStack 1 from
    (markFirst_touches fail0 s).hasStack 1]
  rfl

/-- What the end of training leaves: HBM is ready, and each stack that failed is marked and fatal (R50, R498). -/
theorem hbmReady_spec (hpower : s.get .PWR_STAT_STATE = 1) (hready : s.boot.hbmReady = false) (fail0 fail1 : Bool) :
    ∃ t, exec (.hbmReady fail0 fail1) s = .next t ∧ t.boot.hbmReady = true
      ∧ (fail0 = true → t.get .FLT_HBM_FAILED 0 = 1 ∧ Asserted 428 3 s t)
      ∧ (fail1 = true → s.hasStack 1 = true → t.get .FLT_HBM_FAILED 1 = 1 ∧ Asserted 429 3 s t)
      ∧ Touches (.FLT_HBM_FAILED :: reportFields) (trained s) t := by
  have htouch := markBoth_touches fail0 fail1 s
  refine ⟨_, exec_hbmReady_boot hpower hready fail0 fail1, by rw [htouch.boot]; rfl, fun h0 => ?_, fun h1 hstack => ?_, htouch⟩
  · obtain ⟨hkept, hcount⟩ := markBoth_first fail0 fail1 s
    have hmarked : markFirst fail0 s = failStack 0 (trained s) := by rw [markFirst, h0, onlyIf_true]
    rw [hmarked] at hkept hcount
    exact ⟨hkept.trans (failStack_failed ..), (failStack_asserted (k := 0) (by decide) (trained s)).then hcount⟩
  · have hcount : KeepsCount 429 s (markFirst fail0 s) := .onlyIf _ (KeepsCount.failStack (by decide) (by decide)) (.records (.refl _ s) rfl rfl)
    rw [markBoth, h1, hstack, Bool.and_self, onlyIf_true]
    exact ⟨failStack_failed .., (failStack_asserted (k := 1) (by decide) _).since hcount⟩

/-! ### The scrubber (R498) -/

/-- The scrubber moves on to its next 256-bit word. -/
def scrubbed (k : Nat) (s : State) : State := s.put .SCRUB_POS k (s.get .SCRUB_POS k + 32)

theorem scrubbed_get {f : Fld} (hf : .SCRUB_POS ≠ f) (j : Nat) : (scrubbed k s).get f j = s.get f j := State.get_put_other s hf ..

theorem scrubbed_keepsCount (n k : Nat) (s : State) : KeepsCount n s (scrubbed k s) := .put (by decide) (by decide) _ _ (.refl n s)

theorem exec_scrubRead_runs (h : s.stackRuns k = true) (ecc : EccOutcome) :
    exec (.scrubRead k ecc) s = .next (match ecc with
      | .clean => scrubbed k s
      | .corrected => hbmCorrected k (scrubbed k s)
      | .uncorrectable => hbmUncorrectable k (hbmAddr k (s.get .SCRUB_POS k)) (scrubbed k s)) := by
  rw [exec_scrubRead, execScrubRead, h, onlyIf_true]
  cases ecc
  case clean => rfl
  case corrected => rfl
  case uncorrectable => rfl

theorem exec_scrubPassComplete_runs (h : s.stackRuns k = true) :
    exec (.scrubPassComplete k) s = .next (notice (432 + k) ((s.inc .FLT_HBM_SCRUBS k).put .SCRUB_POS k 0)) := by
  rw [exec_scrubPassComplete, execScrubPassComplete, h, onlyIf_true]

/-- A pass is counted, and the next one starts at the stack's first word (R498). -/
theorem scrubPass_spec (hk : k < 2) (s : State) :
    let t := notice (432 + k) ((s.inc .FLT_HBM_SCRUBS k).put .SCRUB_POS k 0)
    t.get .FLT_HBM_SCRUBS k = (s.get .FLT_HBM_SCRUBS k + 1) % 2 ^ 16 ∧ t.get .SCRUB_POS k = 0 ∧ Asserted (432 + k) 0 s t
      ∧ TouchesAt k [.FLT_HBM_SCRUBS, .SCRUB_POS] reportFields s t := by
  refine ⟨?_, ?_, ?_, TouchesAt.notice (TouchesAt.put (TouchesAt.put (TouchesAt.refl ..)))⟩
  · rw [State.get_notice _ _ (by decide), State.get_put_other _ (by decide), State.inc, State.get_put_self]
    rfl
  · rw [State.get_notice _ _ (by decide), State.get_put_self, Nat.zero_mod]
  · exact (notice_asserted _ (by omega)).since (.put (by decide) (by decide) _ _ (.put (by decide) (by decide) _ _ (.refl _ s)))

/-- A corrected word is counted, and a corrected error is raised (R498). -/
theorem scrubCorrected_spec (hk : k < 2) (s : State) :
    let t := hbmCorrected k (scrubbed k s)
    t.get .FLT_HBM_COR k = satAdd 16 (s.get .FLT_HBM_COR k) 1 ∧ Asserted (424 + k) 1 s t
      ∧ TouchesAt k [.SCRUB_POS, .FLT_HBM_COR] reportFields s t := by
  refine ⟨?_, ?_, TouchesAt.assertEv (TouchesAt.bump (TouchesAt.put (TouchesAt.refl ..)))⟩
  · rw [hbmCorrected, State.get_assertEv _ _ _ (by decide), State.get_bump_self, scrubbed_get (by decide)]
    rfl
  · exact (assertEv_asserted _ (by omega) (by decide)).since (.put (by decide) (by decide) _ _ (scrubbed_keepsCount ..))

/-- An uncorrectable word is counted, its address recorded, and an uncorrected error raised (R498). -/
theorem scrubUncorrectable_spec (hk : k < 2) (a : Nat) (s : State) :
    let t := hbmUncorrectable k a (scrubbed k s)
    t.get .FLT_HBM_UNCOR k = satAdd 8 (s.get .FLT_HBM_UNCOR k) 1 ∧ Asserted (426 + k) 2 s t ∧ t.get .FLT_HBM_ADDR_LO k = a % 2 ^ 32
      ∧ TouchesAt k [.SCRUB_POS, .FLT_HBM_UNCOR, .FLT_HBM_ADDR_LO, .FLT_HBM_ADDR_HI] reportFields s t := by
  refine ⟨?_, ?_, ?_, TouchesAt.assertDetail (TouchesAt.put (TouchesAt.put (TouchesAt.bump (TouchesAt.put (TouchesAt.refl ..)))))⟩
  · rw [hbmUncorrectable, State.get_assertDetail _ _ _ _ (by decide), State.get_put_other _ (by decide), State.get_put_other _ (by decide),
      State.get_bump_self, scrubbed_get (by decide)]
    rfl
  · refine (assertDetail_asserted _ _ (by omega) (by decide)).since (.put (by decide) (by decide) _ _ (.put (by decide) (by decide) _ _ ?_))
    exact .put (by decide) (by decide) _ _ (scrubbed_keepsCount ..)
  · rw [hbmUncorrectable, State.get_assertDetail _ _ _ _ (by decide), State.get_put_other _ (by decide), State.get_put_self]
    rfl

/-! ### Failures and temperature (R498, R597) -/

theorem exec_hbmStackFailed_fresh {training : Bool} (hstack : s.hasStack k = true) (hlive : (training || s.boot.hbmReady) = true)
    (hfresh : s.get .FLT_HBM_FAILED k = 0) : exec (.hbmStackFailed k training) s = .next (failStack k s) := by
  rw [exec_hbmStackFailed, execHbmStackFailed, hstack, hlive, State.flag_of_zero hfresh, Bool.not_false, Bool.and_self,
    Bool.and_self, onlyIf_true]

theorem exec_hbmTempHigh_fitted (hstack : s.hasStack k = true) : exec (.hbmTempHigh k) s = .next (notice (430 + k) (s.put .HBM_HOT k 1)) := by
  rw [exec_hbmTempHigh, execHbmTempHigh, hstack, onlyIf_true]

/-- Settles O17: the end of training, a pass of the scrubber, each outcome of the word it reads, a stack that fails and a hot one. -/
theorem hbmIsScrubbedAndWatched : Obligations.HbmIsScrubbedAndWatched := by
  unfold Obligations.HbmIsScrubbedAndWatched
  intro k s hk hstack
  refine ⟨fun fail0 fail1 hpower hready => hbmReady_spec hpower hready fail0 fail1, fun hruns => ?_, fun hruns => ?_, fun hruns => ?_,
    fun hruns => ?_, fun training hlive hfresh => ?_, ?_⟩
  · -- a pass
    exact ⟨_, exec_scrubPassComplete_runs hruns, scrubPass_spec hk s⟩
  · -- a clean word
    exact ⟨_, exec_scrubRead_runs hruns .clean, State.get_put_self .., TouchesAt.put (TouchesAt.refl ..)⟩
  · -- a corrected word
    exact ⟨_, exec_scrubRead_runs hruns .corrected, scrubCorrected_spec hk s⟩
  · -- an uncorrectable word
    exact ⟨_, exec_scrubRead_runs hruns .uncorrectable, scrubUncorrectable_spec hk (hbmAddr k (s.get .SCRUB_POS k)) s⟩
  · -- a stack that fails
    exact ⟨_, exec_hbmStackFailed_fresh hstack hlive hfresh, failStack_failed k s, failStack_asserted hk s, failStack_touchesAt k s⟩
  · -- a hot stack
    refine ⟨_, exec_hbmTempHigh_fitted hstack, ?_, ?_, TouchesAt.notice (TouchesAt.put (TouchesAt.refl ..))⟩
    · rw [State.get_notice _ _ (by decide), State.get_put_self]
      rfl
    · exact (notice_asserted _ (by omega)).since (.put (by decide) (by decide) _ _ (.refl _ s))

end Sys2Proof.Machine
end

section
/-!
PROOFS. The commands of the configuration port (R79, R80, R600).
-/
namespace Sys2Proof.Machine

variable {m : Master} {cmd : NvmCmd} {code : Nat} {w : NvmWork} {s : State}

/-! ### A command is taken, refused or ignored -/

/-- The command that starts with a CMD write. -/
def nvmStarted (cmd : NvmCmd) (s : State) : State := { s with nvmWork := some ⟨cmd, s.nvmPage, s.pageBytes⟩ }.put .CFG_NVM_STAT_BUSY 0 1

theorem nvmCommand_busy (hp : Passes m 0x10000 s) (h : s.get .CFG_NVM_STAT_BUSY = 1) : nvmCommand m cmd code s = s.respond 0 false := by
  rw [nvmCommand, writeGated_pass hp]
  exact if_pos (State.flag_of_one h)

theorem nvmCommand_started (hp : Passes m 0x10000 s) (h : s.get .CFG_NVM_STAT_BUSY = 0) :
    nvmCommand m cmd 0 s = nvmStarted cmd (s.respond 0 false) := by
  have hidle : ¬ (s.respond 0 false).flag .CFG_NVM_STAT_BUSY = true := Bool.eq_false_iff.mp (State.flag_of_zero h)
  rw [nvmCommand, writeGated_pass hp]
  exact (if_neg hidle).trans (if_neg (not_not_intro rfl))

theorem nvmCommand_refused (hp : Passes m 0x10000 s) (h : s.get .CFG_NVM_STAT_BUSY = 0) (hcode : code ≠ 0) :
    nvmCommand m cmd code s = refuse code 0x4000 m ((s.respond 0 false).put .CFG_NVM_STAT_REASON 0 code) := by
  have hidle : ¬ (s.respond 0 false).flag .CFG_NVM_STAT_BUSY = true := Bool.eq_false_iff.mp (State.flag_of_zero h)
  rw [nvmCommand, writeGated_pass hp]
  exact (if_neg hidle).trans (if_pos hcode)

/-- A started command is busy with the page and the buffer as they stand at the write (R79, R600). -/
theorem nvmStarted_spec (cmd : NvmCmd) (s : State) : let t := nvmStarted cmd (s.respond 0 false)
    t.get .CFG_NVM_STAT_BUSY = 1 ∧ t.nvmWork = some ⟨cmd, s.nvmPage, s.pageBytes⟩
      ∧ Touches [.CFG_NVM_STAT_BUSY] { s with nvmWork := t.nvmWork } t := by
  let u : State := { s with nvmWork := some ⟨cmd, s.nvmPage, s.pageBytes⟩ }
  exact ⟨State.get_put_self .., rfl, Touches.put (by decide) 0 1 (Touches.respond 0 false (Touches.refl _ u))⟩

/-- A refused command shows its code and is recorded (R78, R79). -/
theorem nvmRefused_spec (m : Master) (s : State) (hcode : code < 2 ^ 8) :
    let t := refuse code 0x4000 m ((s.respond 0 false).put .CFG_NVM_STAT_REASON 0 code)
    t.get .CFG_NVM_STAT_REASON = code ∧ Refused code 0x4000 m s t ∧ Touches (.CFG_NVM_STAT_REASON :: refuseFields ++ reportFields) s t := by
  have hput : Touches [.CFG_NVM_STAT_REASON] s ((s.respond 0 false).put .CFG_NVM_STAT_REASON 0 code) :=
    .put (by decide) _ _ (.respond _ _ (.refl _ s))
  refine ⟨?_, (refuse_refused m _ hcode (by decide)).after (hput.get (by decide) 0) (hput.get (by decide) 506),
    .refuse (by decide) (by decide) _ _ _ (hput.mono (by decide))⟩
  · rw [State.get_refuse _ _ _ _ (by decide), State.get_put_self]
    exact Nat.mod_eq_of_lt hcode

/-! ### A command completes -/

/-- One word of the page buffer as a page read fills it. -/
def fillWord (page i : Nat) (s : State) : State := s.put .CFG_PAGE_BUF i (s.nvmLe (page + 4 * i) 4)

theorem fillWord_touchesAt (page i : Nat) (s : State) : TouchesAt i [.CFG_PAGE_BUF] [] s (fillWord page i s) := TouchesAt.put (TouchesAt.refl ..)

/-- The page buffer after a page read. -/
def fillPage (page : Nat) (s : State) : State := forAll (List.range 64) (fillWord page) s

theorem fillPage_touches (page : Nat) (s : State) : Touches [.CFG_PAGE_BUF] s (fillPage page s) :=
  .forAll _ (fun i u => (fillWord_touchesAt page i u).1) (.refl _ s)

/-- Words filled into the page buffer leave the configuration memory. -/
theorem fillPage_nvm (page : Nat) (s : State) : (fillPage page s).nvm = s.nvm := by rw [(fillPage_touches page s).1]

/-- A word that is among those filled, or was filled before, holds its four bytes of the configuration memory. -/
theorem forAll_fillWord_get {page i : Nat} (l : List Nat) (s : State)
    (h : i ∈ l ∨ s.get .CFG_PAGE_BUF i = leNat (Memory.readList s.nvm (page + 4 * i) 4) % 2 ^ 32) :
    (forAll l (fillWord page) s).get .CFG_PAGE_BUF i = leNat (Memory.readList s.nvm (page + 4 * i) 4) % 2 ^ 32 := by
  induction l generalizing s with
  | nil => exact h.resolve_left List.not_mem_nil
  | cons a l ih =>
    refine ih (fillWord page a s) ?_
    by_cases ha : a = i
    · exact .inr (ha ▸ State.get_put_self ..)
    · exact h.imp (fun hm => (List.mem_cons.mp hm).resolve_left (Ne.symm ha)) (State.get_put_index s _ _ ha _).trans

/-- A page read fills each of the 64 words from the configuration memory (R79). -/
theorem fillPage_get {page i : Nat} (hi : i < 64) (s : State) :
    (fillPage page s).get .CFG_PAGE_BUF i = leNat (Memory.readList s.nvm (page + 4 * i) 4) % 2 ^ 32 :=
  forAll_fillWord_get _ s (.inl (List.mem_range.mpr hi))

/-- The port is free again behind a command, which ended without a refusal (R79). -/
def nvmDone (s : State) : State := ({ s with nvmWork := none }.put .CFG_NVM_STAT_BUSY 0 0).put .CFG_NVM_STAT_REASON 0 0

theorem exec_nvmCommandComplete_some (hw : s.nvmWork = some w) :
    exec .nvmCommandComplete s = .next (onlyIf (!s.recordWaits) (fun s => nvmDone (nvmEffect w s)) s) := by
  rw [exec_nvmCommandComplete, execNvmCommandComplete, hw]
  rfl

theorem nvmDone_touches (s : State) : Touches [.CFG_NVM_STAT_BUSY, .CFG_NVM_STAT_REASON, .CFG_PAGE_BUF] { s with nvmWork := none } (nvmDone s) := by
  let u : State := { s with nvmWork := none }
  exact Touches.put (by decide) 0 0 (Touches.put (by decide) 0 0 (Touches.refl _ u))

theorem nvmDone_spec (s : State) : (nvmDone s).get .CFG_NVM_STAT_BUSY = 0 ∧ (nvmDone s).get .CFG_NVM_STAT_REASON = 0
    ∧ ∀ i, (nvmDone s).get .CFG_PAGE_BUF i = s.get .CFG_PAGE_BUF i := by
  refine ⟨?_, State.get_put_self .., fun i => ?_⟩
  · rw [nvmDone, State.get_put_other _ (by decide), State.get_put_self]
    rfl
  · rw [nvmDone, State.get_put_other _ (by decide), State.get_put_other _ (by decide)]
    rfl

/-- What a command does to the configuration memory (R79). -/
def NvmWork.memoryAfter (w : NvmWork) (nvm : List Host.Cell) : List Host.Cell :=
  match w.cmd with
  | .readPage => nvm
  | .writePage => Memory.writeList w.page w.bytes nvm
  | .overwriteHeader => Memory.writeList (slotBase ((slotOf w.page).getD 0)) (List.replicate 64 0) nvm

theorem nvmEffect_readPage (page : Nat) (bytes : List Byte) (s : State) : nvmEffect ⟨.readPage, page, bytes⟩ s = fillPage page s := by
  unfold nvmEffect fillPage fillWord
  dsimp only

theorem nvmEffect_write (h : w.cmd ≠ .readPage) (s : State) : nvmEffect w s = { s with nvm := w.memoryAfter s.nvm } := by
  obtain ⟨cmd, page, bytes⟩ := w
  unfold nvmEffect NvmWork.memoryAfter
  cases cmd
  case writePage => dsimp only
  case overwriteHeader => dsimp only
  case readPage => exact absurd rfl h

/-- Page writes and header overwrites write the configuration memory and nothing else; a page read fills the page buffer (R79). -/
theorem nvmEffect_spec (w : NvmWork) (s : State) : (nvmEffect w s).nvm = w.memoryAfter s.nvm
    ∧ (w.cmd = .readPage → nvmEffect w s = fillPage w.page s)
    ∧ (w.cmd ≠ .readPage → ∀ i, (nvmEffect w s).get .CFG_PAGE_BUF i = s.get .CFG_PAGE_BUF i)
    ∧ Touches [.CFG_PAGE_BUF] { s with nvm := (nvmEffect w s).nvm } (nvmEffect w s) := by
  by_cases hcmd : w.cmd = .readPage
  · obtain ⟨cmd, page, bytes⟩ := w
    obtain rfl : cmd = .readPage := hcmd
    rw [nvmEffect_readPage]
    refine ⟨fillPage_nvm page s, fun _ => rfl, fun h => absurd rfl h, ?_⟩
    rw [fillPage_nvm]
    exact fillPage_touches page s
  · rw [nvmEffect_write hcmd]
    exact ⟨rfl, fun h => absurd h hcmd, fun _ _ => rfl, Touches.refl _ _⟩

/-- What the completion of a command leaves (R79, R600). -/
theorem nvmDone_nvmEffect_spec (w : NvmWork) (s : State) : let t := nvmDone (nvmEffect w s)
    t.get .CFG_NVM_STAT_BUSY = 0 ∧ t.get .CFG_NVM_STAT_REASON = 0 ∧ t.nvmWork = none ∧ t.nvm = w.memoryAfter s.nvm
      ∧ (w.cmd = .readPage → ∀ i < 64, t.get .CFG_PAGE_BUF i = leNat (Memory.readList s.nvm (w.page + 4 * i) 4) % 2 ^ 32)
      ∧ (w.cmd ≠ .readPage → ∀ i, t.get .CFG_PAGE_BUF i = s.get .CFG_PAGE_BUF i)
      ∧ Touches [.CFG_NVM_STAT_BUSY, .CFG_NVM_STAT_REASON, .CFG_PAGE_BUF] { s with nvm := t.nvm, nvmWork := none } t := by
  obtain ⟨hnvm, hread, hother, htouch⟩ := nvmEffect_spec w s
  obtain ⟨hbusy, hreason, hbuf⟩ := nvmDone_spec (nvmEffect w s)
  refine ⟨hbusy, hreason, rfl, hnvm, fun hcmd i hi => ?_, fun hcmd i => (hbuf i).trans (hother hcmd i), ?_⟩
  · rw [hbuf, hread hcmd, fillPage_get hi]
  · refine Touches.trans (t := { nvmEffect w s with nvmWork := none }) ⟨?_, fun f i hf => ?_⟩ (nvmDone_touches _)
    · exact congrArg (fun u : State => { u with nvmWork := none }) htouch.1
    · exact (htouch.mono (by decide)).get hf i

/-- Settles O14: a CMD write is ignored, refused or started, by what the port and the page allow; a completion waits for records, or
has its effect and frees the port. -/
theorem nvmCommandsActOnSlots : Obligations.NvmCommandsActOnSlots := by
  unfold Obligations.NvmCommandsActOnSlots
  refine ⟨fun m s hp => ⟨fun hidle c hc hfree => ?_, fun hidle c hc r hr hslot => ?_, rfl, fun hbusy c hc => ?_⟩,
    fun w s hw => ⟨fun hwaits => ?_, fun hclear => ?_⟩⟩
  · -- a command that starts
    have hstarts (cmd : NvmCmd) := nvmCommand_started (cmd := cmd) hp hidle
    simp only [List.mem_cons, List.not_mem_nil, or_false] at hc
    rcases hc with rfl | rfl | rfl
    · exact ⟨_, congrArg Host.Outcome.next (hstarts .readPage), nvmStarted_spec ..⟩
    · have hslot : s.slotWriteRefusal = 0 := hfree.resolve_left nofun
      refine ⟨_, ?_, nvmStarted_spec .writePage s⟩
      rw [exec_nvmWritePage, execNvmWritePage, hslot, hstarts]
    · have hslot : s.slotWriteRefusal = 0 := hfree.resolve_left nofun
      refine ⟨_, ?_, nvmStarted_spec .overwriteHeader s⟩
      rw [exec_nvmOverwriteHeader, execNvmOverwriteHeader, hslot, hstarts]
  · -- a write that is refused
    have hcode : r ≠ 0 ∧ r < 2 ^ 8 := by
      simp only [List.mem_cons, List.not_mem_nil, or_false] at hr
      omega
    have hrefuses (cmd : NvmCmd) := nvmCommand_refused (cmd := cmd) hp hidle hcode.1
    refine ⟨_, ?_, nvmRefused_spec m s hcode.2⟩
    rcases List.mem_pair.mp hc with rfl | rfl
    · rw [exec_nvmWritePage, execNvmWritePage, hslot, hrefuses]
    · rw [exec_nvmOverwriteHeader, execNvmOverwriteHeader, hslot, hrefuses]
  · -- a command while the port is busy
    simp only [List.mem_cons, List.not_mem_nil, or_false] at hc
    rcases hc with rfl | rfl | rfl
    · exact congrArg _ (nvmCommand_busy hp hbusy)
    · exact congrArg _ (nvmCommand_busy hp hbusy)
    · exact congrArg _ (nvmCommand_busy hp hbusy)
  · -- a completion behind a record write
    rw [exec_nvmCommandComplete_some hw, hwaits]
    rfl
  · -- a completion
    refine ⟨_, (exec_nvmCommandComplete_some hw).trans (by rw [hclear, Bool.not_false, onlyIf_true]), ?_⟩
    exact nvmDone_nvmEffect_spec w s

end Sys2Proof.Machine
end

section
/-!
PROOFS. Memory set-up: the recovery responder, and the rings of the configuration memory (R50, R55, R66, R81, R84).
-/
namespace Sys2Proof.Machine

variable {p : Nat} {a : SfdpAnswer} {s : State}

/-! ### The recovery responder -/

theorem renewAddr_touches (s : State) : Touches [.GEN_ENUM_MGMT_ADDR] s (renewAddr s) := Touches.put (by decide) _ _ (Touches.refl _ s)

/-- The recovery responder answers at 0x0E (R55, R66). -/
theorem renewAddr_recovery (h : s.inRecovery = true) : (renewAddr s).get .GEN_ENUM_MGMT_ADDR = 0x0E := by
  rw [renewAddr, State.get_put_self, State.mgmtAddr, h, Bool.not_true, Bool.and_false]
  rfl

/-- The boot ROM stops at one of its two last phases. -/
theorem recover_spec (hp : p = 0xE ∨ p = 0xF) (s : State) : let t := renewAddr (s.put .GEN_BOOT_STAT_PHASE 0 p)
    t.get .GEN_BOOT_STAT_PHASE = p ∧ t.get .GEN_ENUM_MGMT_ADDR = 0x0E ∧ Touches [.GEN_BOOT_STAT_PHASE, .GEN_ENUM_MGMT_ADDR] s t := by
  have hphase : (s.put .GEN_BOOT_STAT_PHASE 0 p).get .GEN_BOOT_STAT_PHASE = p := by
    rw [State.get_put_self, show 2 ^ Fld.GEN_BOOT_STAT_PHASE.info.w = 16 from rfl]
    omega
  have hrecovery : (s.put .GEN_BOOT_STAT_PHASE 0 p).inRecovery = true := by
    rw [State.inRecovery, hphase, Bool.or_eq_true, beq_iff_eq, beq_iff_eq]
    exact hp
  exact ⟨((renewAddr_touches _).get (by decide) 0).trans hphase, renewAddr_recovery hrecovery,
    Touches.trans (Touches.put (by decide) _ _ (Touches.refl _ s)) ((renewAddr_touches _).mono (by decide))⟩

/-! ### The rings (R81) -/

/-- The writers of the three rings stand behind the newest valid records. -/
def placeRings (s : State) : State :=
  let f := ringNext s.nvm faultRing.1 faultRing.2.1 faultRing.2.2
  let e := ringNext s.nvm electionRing.1 electionRing.2.1 electionRing.2.2
  let g := ringNext s.nvm ageingRing.1 ageingRing.2.1 ageingRing.2.2
  (((((((s.put .GEN_BOOT_STAT_PHASE 0 2).put .FLT_LOG_POS 0 f.1).put .FLT_SEQ 0 f.2).put .ELECT_POS 0 e.1).put .ELECT_SEQ 0 e.2).put
    .TWN_ELECT_COUNT 0 (electionCount s.nvm)).put .AGE_POS 0 g.1).put .AGE_SEQ 0 g.2

/-- Fields of the rings' writers. -/
def ringFields : List Fld := [.GEN_BOOT_STAT_PHASE, .FLT_LOG_POS, .FLT_SEQ, .ELECT_POS, .ELECT_SEQ, .TWN_ELECT_COUNT, .AGE_POS, .AGE_SEQ]

theorem placeRings_spec (s : State) : (placeRings s).get .GEN_BOOT_STAT_PHASE = 2
    ∧ (placeRings s).get .FLT_LOG_POS = (ringNext s.nvm 0x7000000 256 65536).1 % 2 ^ 16
    ∧ (placeRings s).get .TWN_ELECT_COUNT = electionCount s.nvm % 2 ^ 32 := by
  unfold placeRings
  refine ⟨?_, ?_, ?_⟩
  · simp (disch := decide) only [State.get_put_other, State.get_put_self]
    rfl
  · simp (disch := decide) only [State.get_put_other, State.get_put_self]
    rfl
  · simp (disch := decide) only [State.get_put_other, State.get_put_self]
    rfl

theorem placeRings_touches (s : State) : Touches ringFields s (placeRings s) := by
  unfold placeRings
  refine .put (by decide) _ _ (.put (by decide) _ _ (.put (by decide) _ _ (.put (by decide) _ _ ?_)))
  exact .put (by decide) _ _ (.put (by decide) _ _ (.put (by decide) _ _ (.put (by decide) _ _ (.refl _ s))))

/-- Persistence goes off, with a notice, where the memory needs an erase (R84). -/
def judgeErase (needsErase : Bool) (s : State) : State := onlyIf needsErase (fun s => notice 504 (s.put .CFG_PERSIST_STAT_OFF 0 1)) s

theorem judgeErase_touches (needsErase : Bool) (s : State) : Touches (.CFG_PERSIST_STAT_OFF :: reportFields) s (judgeErase needsErase s) :=
  .onlyIf _ (fun u => .notice (by decide) _ (.put (by decide) _ _ (.refl _ u))) (.refl _ s)

theorem judgeErase_off (s : State) : (judgeErase true s).get .CFG_PERSIST_STAT_OFF = 1 ∧ Asserted 504 0 s (judgeErase true s) := by
  rw [judgeErase, onlyIf_true]
  refine ⟨?_, (notice_asserted _ (by decide)).since (.put (by decide) (by decide) _ _ (.refl _ s))⟩
  rw [State.get_notice _ _ (by decide), State.get_put_self]
  rfl

/-! ### The command -/

theorem exec_memorySetup_silent (hphase : s.get .GEN_BOOT_STAT_PHASE = 1) (h : (a.answers && a.gbit && a.readable) = false) :
    exec (.memorySetup a) s = .next (renewAddr (s.put .GEN_BOOT_STAT_PHASE 0 0xF)) := by
  rw [exec_memorySetup, execMemorySetup, hphase, h, beq_self_eq_true, onlyIf_true]
  exact congrArg _ (if_pos rfl)

theorem exec_memorySetup_answers (hphase : s.get .GEN_BOOT_STAT_PHASE = 1) (h : (a.answers && a.gbit && a.readable) = true) :
    exec (.memorySetup a) s = .next (judgeErase a.needsErase (placeRings s)) := by
  rw [exec_memorySetup, execMemorySetup, hphase, h, beq_self_eq_true, onlyIf_true, Bool.not_true, if_neg Bool.false_ne_true, judgeErase,
    placeRings]
  dsimp only
  rw [State.put_nvm, State.put_nvm, State.put_nvm, State.put_nvm]

/-- Settles O11: a memory that does not answer stops the boot ROM; for one that answers the rings are placed, and the need of an erase
is judged. -/
theorem memorySetupPlacesRings : Obligations.MemorySetupPlacesRings := by
  unfold Obligations.MemorySetupPlacesRings
  refine fun a s hphase => ⟨fun hsilent => ?_, fun hanswers => ?_⟩
  · exact ⟨_, exec_memorySetup_silent hphase hsilent, recover_spec (.inr rfl) s⟩
  · obtain ⟨hnext, hpos, hcount⟩ := placeRings_spec s
    have hrings := placeRings_touches s
    have herase := judgeErase_touches a.needsErase (placeRings s)
    refine ⟨_, exec_memorySetup_answers hphase hanswers, ?_, ?_, ?_, fun hneeds => ?_, (hrings.mono (by decide)).trans (herase.mono (by decide))⟩
    · rw [herase.get (by decide), hnext]
    · rw [herase.get (by decide), hpos]
    · rw [herase.get (by decide), hcount]
    · obtain ⟨hoff, hasserted⟩ := judgeErase_off (placeRings s)
      rw [hneeds]
      exact ⟨hoff, hasserted.since (.of_touches hrings)⟩

end Sys2Proof.Machine
end

section
/-!
PROOFS. The choice of a slot: its outcome, what follows a rejection, and the headers of both slots (R50, R63, R64, R66).
-/
namespace Sys2Proof.Machine

variable {fs gs : List Fld} {f : Fld} {slot k r pass : Nat} {s t u : State}

/-! ### The state but for what the boot ROM keeps -/

/-- But for what the boot ROM keeps between its steps, only the listed fields and reports differ. -/
def BootTouches (fs : List Fld) (s t : State) : Prop := Touches fs { s with boot := t.boot } t

namespace BootTouches

theorem refl (fs : List Fld) (s : State) : BootTouches fs s s := Touches.refl _ s

theorem trans (h : BootTouches fs s t) (k : BootTouches fs t u) : BootTouches fs s u := by
  refine Touches.trans (t := { t with boot := u.boot }) ⟨?_, h.2⟩ k
  rw [h.1]

theorem thenTouches (h : BootTouches fs s t) (k : Touches gs t u) (hsub : ∀ f ∈ gs, f ∈ fs := by decide) : BootTouches fs s u := by
  refine h.trans ?_
  unfold BootTouches
  rw [k.boot]
  exact k.mono hsub

theorem mono (h : BootTouches fs s t) (hsub : ∀ f ∈ fs, f ∈ gs := by decide) : BootTouches gs s t := Touches.mono h hsub

/-- A change of what the boot ROM keeps. -/
theorem withBoot {b : BootState} (h : BootTouches fs s t) : BootTouches fs s { t with boot := b } := h.trans ⟨rfl, fun _ _ _ => rfl⟩

theorem get (h : BootTouches fs s t) (hf : f ∉ fs := by decide) (i : Nat) : t.get f i = s.get f i := h.2 f i hf

end BootTouches

theorem Touches.imageSeq (h : Touches fs s t) (k : Nat) : t.imageSeq k = s.imageSeq k := by
  rw [State.imageSeq, State.nvmLe, h.1]
  rfl

/-! ### The outcome of a slot (R63) -/

/-- The field of a slot's outcome. -/
def resultField (slot : Nat) : Fld := if slot = 0 then .GEN_BOOT_STAT_RESULT_A else .GEN_BOOT_STAT_RESULT_B

/-- The fields of both outcomes. -/
def resultFields : List Fld := [.GEN_BOOT_STAT_RESULT_A, .GEN_BOOT_STAT_RESULT_B]

theorem resultField_mem (slot : Nat) : resultField slot ∈ resultFields := by
  unfold resultField
  split
  · decide
  · decide

theorem setResult_eq (slot r : Nat) (s : State) : setResult slot r s = s.put (resultField slot) 0 r := by
  unfold setResult resultField
  split
  · rfl
  · rfl

theorem setResult_touches (slot r : Nat) (s : State) : Touches resultFields s (setResult slot r s) := by
  rw [setResult_eq]
  exact Touches.put (resultField_mem slot) _ _ (Touches.refl _ s)

theorem setResult_get (hr : r < 16) (slot : Nat) (s : State) : (setResult slot r s).get (resultField slot) = r := by
  have hwidth : (resultField slot).info.w = 4 := by
    unfold resultField
    split
    · rfl
    · rfl
  rw [setResult_eq, State.get_put_self, hwidth]
  exact Nat.mod_eq_of_lt hr

/-- The outcome of a slot stays where neither outcome is touched. -/
theorem BootTouches.result (h : BootTouches fs s t) (slot : Nat) (hfs : ∀ f ∈ resultFields, f ∉ fs := by decide) :
    t.get (resultField slot) = s.get (resultField slot) := h.get (hfs _ (resultField_mem slot)) 0

/-! ### What the boot ROM keeps of a slot -/

theorem setCond_kept (b : BootState) (slot : Nat) (c : SlotCond) : (b.setCond slot c).slot = b.slot ∧ (b.setCond slot c).chosen = b.chosen
    ∧ (b.setCond slot c).mismatched = b.mismatched := by
  unfold BootState.setCond
  split
  · exact ⟨rfl, rfl, rfl⟩
  · exact ⟨rfl, rfl, rfl⟩

/-! ### What follows (R64, R66) -/

/-- Fields that change where neither slot can be used. -/
def stopFields : List Fld := [.GEN_BOOT_STAT_PHASE, .GEN_ENUM_MGMT_ADDR, .SRC_SINCE_LOG]

/-- A waiting record changes one count of its source (R497). -/
theorem queueLog_boot (n cls flags : Nat) (always : Bool) (detail : List Nat) (s : State) :
    Touches [.SRC_SINCE_LOG] s (queueLog n cls flags always detail s) :=
  Touches.put (by decide) _ _ (Touches.records (Touches.refl _ s) rfl rfl)

/-- The CRC mismatches of the start are logged and forgotten (R599). -/
theorem logCrcFaults_spec (s : State) :
    (logCrcFaults s).boot = { s.boot with crcLog := [] } ∧ BootTouches [.SRC_SINCE_LOG] s (logCrcFaults s) := by
  have hlogged : Touches [.SRC_SINCE_LOG] { s with boot := { s.boot with crcLog := [] } } (logCrcFaults s) :=
    .forAll _ (fun _ u => queueLog_boot _ _ _ _ _ u) (.refl _ _)
  exact ⟨hlogged.boot, (BootTouches.withBoot (BootTouches.refl _ s)).thenTouches hlogged⟩

/-- Neither slot can be used: the recovery responder runs (R66). -/
theorem noSlot_spec (s : State) : (noSlot s).get .GEN_BOOT_STAT_PHASE = 0xE ∧ (noSlot s).get .GEN_ENUM_MGMT_ADDR = 0x0E
    ∧ (noSlot s).boot.streaming = false ∧ (noSlot s).boot.chosen = s.boot.chosen ∧ BootTouches stopFields s (noSlot s) := by
  let u : State := { s with boot := { s.boot with streaming := false } }
  obtain ⟨hphase, haddr, htouch⟩ := recover_spec (.inl rfl) u
  obtain ⟨hlog, hlogged⟩ := logCrcFaults_spec (renewAddr (u.put .GEN_BOOT_STAT_PHASE 0 0xE))
  have hboot : (noSlot s).boot = { s.boot with streaming := false, crcLog := [] } := by
    rw [noSlot, hlog, htouch.boot]
  refine ⟨(hlogged.get (by decide) 0).trans hphase, (hlogged.get (by decide) 0).trans haddr, by rw [hboot], by rw [hboot], ?_⟩
  exact ((BootTouches.withBoot (BootTouches.refl _ s)).thenTouches htouch).trans hlogged.mono

/-- The boot ROM goes on without taking a slot into use. -/
structure GoesOn (s t : State) : Prop where
  chosen : t.boot.chosen = s.boot.chosen
  touches : BootTouches stopFields s t

theorem noSlot_goesOn (s : State) : GoesOn s (noSlot s) := by
  obtain ⟨-, -, -, hchosen, htouch⟩ := noSlot_spec s
  exact ⟨hchosen, htouch⟩

/-- A slot is streamed from its first section on. -/
theorem streamSlot_begun (slot pass : Nat) (s : State) : (streamSlot slot pass s).boot.streaming = true
    ∧ (streamSlot slot pass s).boot.nextSection = 0 ∧ (streamSlot slot pass s).boot.slot = slot ∧ BootTouches [] s (streamSlot slot pass s) :=
  ⟨rfl, rfl, rfl, (BootTouches.refl _ s).withBoot⟩

theorem streamSlot_goesOn (slot pass : Nat) (s : State) : GoesOn s (streamSlot slot pass s) := ⟨rfl, (BootTouches.refl _ s).withBoot⟩

theorem GoesOn.ite {c : Prop} [Decidable c] {a b : State} (ha : GoesOn s a) (hb : GoesOn s b) : GoesOn s (if c then a else b) := by
  split <;> assumption

theorem afterFirstPass_goesOn (s : State) : GoesOn s (afterFirstPass s) :=
  .ite (streamSlot_goesOn ..) (.ite (streamSlot_goesOn ..) (.ite (streamSlot_goesOn ..) (noSlot_goesOn s)))

/-- Fields that the end of a stream without a slot taken into use changes. -/
def rejectFields : List Fld := [.GEN_BOOT_STAT_RESULT_A, .GEN_BOOT_STAT_RESULT_B, .GEN_BOOT_STAT_PHASE, .GEN_ENUM_MGMT_ADDR, .SRC_SINCE_LOG]

/-- The slot that is streamed ends with an outcome and is not taken into use. -/
structure EndsWith (outcome : Nat) (s t : State) : Prop where
  result : t.get (resultField s.boot.slot) = outcome
  chosen : t.boot.chosen = s.boot.chosen
  touches : BootTouches rejectFields s t

/-- The outcome is shown, and the boot ROM goes on from there. -/
theorem GoesOn.endsWith {b : BootState} (hr : r < 16) (hb : b.chosen = s.boot.chosen)
    (h : GoesOn { setResult s.boot.slot r s with boot := b } t) : EndsWith r s t := by
  refine ⟨(h.touches.result _).trans (setResult_get hr _ s), h.chosen.trans hb, ?_⟩
  exact ((BootTouches.refl _ s).thenTouches (setResult_touches ..)).withBoot.trans h.touches.mono

/-- A rejected slot shows its outcome (R63, R64). -/
theorem rejectSlot_endsWith (hr : r < 16) (s : State) : EndsWith r s (rejectSlot r s) := by
  let b : BootState := { s.boot.setCond s.boot.slot .rejected with streaming := false }
  obtain ⟨-, hchosen, -⟩ := setCond_kept s.boot s.boot.slot .rejected
  have hgoes (u : State) : GoesOn u (if s.boot.pass = 0 then afterFirstPass u
      else if s.boot.pass = 1 ∧ s.boot.cond (1 - s.boot.slot) = .partlyValid then streamSlot (1 - s.boot.slot) 2 u else noSlot u) :=
    .ite (afterFirstPass_goesOn u) (.ite (streamSlot_goesOn ..) (noSlot_goesOn u))
  exact GoesOn.endsWith (b := b) hr hchosen (hgoes { setResult s.boot.slot r s with boot := b })

/-- What comes before the slot ends changes none of what the end is about. -/
theorem EndsWith.since (h : EndsWith r t u) (hslot : t.boot.slot = s.boot.slot) (hchosen : t.boot.chosen = s.boot.chosen)
    (htouch : BootTouches rejectFields s t) : EndsWith r s u :=
  ⟨hslot ▸ h.result, h.chosen.trans hchosen, htouch.trans h.touches⟩

/-! ### The headers of both slots (R63, R64) -/

/-- Both outcomes are shown, and streaming begins. -/
def judged (s : State) : State :=
  (setResult 1 (s.preCheck 1) (setResult 0 (s.preCheck 0) s)).put .GEN_BOOT_STAT_PHASE 0 3

/-- What the boot ROM keeps of both slots. -/
def judgedBoot (s : State) : BootState :=
  ((judged s).boot.setCond 0 (if s.preCheck 0 = 0 then .notTried else .rejected)).setCond 1 (if s.preCheck 1 = 0 then .notTried else .rejected)

/-- The slot that is streamed first. -/
def State.firstSlot (s : State) : Nat := if s.preCheck 0 ≠ 0 ∨ s.preCheck 1 = 0 ∧ s.imageSeq 0 < s.imageSeq 1 then 1 else 0

theorem preCheck_lt (s : State) (slot : Nat) : s.preCheck slot < 16 := by
  unfold State.preCheck
  repeat' split
  all_goals decide

theorem judged_eq (s : State) : judged s =
    ((s.put .GEN_BOOT_STAT_RESULT_A 0 (s.preCheck 0)).put .GEN_BOOT_STAT_RESULT_B 0 (s.preCheck 1)).put .GEN_BOOT_STAT_PHASE 0 3 := by
  rw [judged, setResult_eq, setResult_eq]
  rfl

theorem judged_spec (s : State) : (judged s).get .GEN_BOOT_STAT_PHASE = 3 ∧ (judged s).get .GEN_BOOT_STAT_RESULT_A = s.preCheck 0
    ∧ (judged s).get .GEN_BOOT_STAT_RESULT_B = s.preCheck 1
    ∧ Touches [.GEN_BOOT_STAT_PHASE, .GEN_BOOT_STAT_RESULT_A, .GEN_BOOT_STAT_RESULT_B] s (judged s) := by
  rw [judged_eq]
  refine ⟨State.get_put_self .., ?_, ?_, .put (by decide) _ _ (.put (by decide) _ _ (.put (by decide) _ _ (.refl _ s)))⟩
  · rw [State.get_put_other _ (by decide), State.get_put_other _ (by decide), State.get_put_self]
    exact Nat.mod_eq_of_lt (preCheck_lt ..)
  · rw [State.get_put_other _ (by decide), State.get_put_self]
    exact Nat.mod_eq_of_lt (preCheck_lt ..)

/-- The streaming of one slot begins. -/
def streamFirst (k : Nat) (s : State) : State := streamSlot k 0 { judged s with boot := { judgedBoot s with first := k } }

/-- Neither slot passed. -/
def streamNone (s : State) : State := noSlot { judged s with boot := judgedBoot s }

theorem streamFirst_spec (k : Nat) (s : State) : (streamFirst k s).boot.streaming = true ∧ (streamFirst k s).boot.nextSection = 0
    ∧ (streamFirst k s).boot.slot = k ∧ BootTouches [] (judged s) (streamFirst k s) := by
  obtain ⟨hstreams, hnext, hslot, hbegun⟩ := streamSlot_begun k 0 { judged s with boot := { judgedBoot s with first := k } }
  exact ⟨hstreams, hnext, hslot, ((BootTouches.refl _ (judged s)).withBoot (b := { judgedBoot s with first := k })).trans hbegun⟩

theorem streamNone_spec (s : State) : (streamNone s).get .GEN_BOOT_STAT_PHASE = 0xE ∧ (streamNone s).boot.streaming = false
    ∧ (streamNone s).get .GEN_ENUM_MGMT_ADDR = 0x0E ∧ BootTouches stopFields (judged s) (streamNone s) := by
  obtain ⟨hstop, haddr, hidle, -, hrest⟩ := noSlot_spec { judged s with boot := judgedBoot s }
  exact ⟨hstop, hidle, haddr, ((BootTouches.refl stopFields (judged s)).withBoot (b := judgedBoot s)).trans hrest⟩

theorem exec_slotHeadersRead_eq (h : s.get .GEN_BOOT_STAT_PHASE = 2) :
    exec .slotHeadersRead s = .next (if s.preCheck 0 = 0 ∨ s.preCheck 1 = 0 then streamFirst s.firstSlot s else streamNone s) := by
  have hmodel : exec .slotHeadersRead s = .next (if s.preCheck 0 = 0 then
      (if s.preCheck 1 = 0 ∧ (judged s).imageSeq 0 < (judged s).imageSeq 1 then streamFirst 1 s else streamFirst 0 s)
      else if s.preCheck 1 = 0 then streamFirst 1 s else streamNone s) := by
    rw [exec_slotHeadersRead, execSlotHeadersRead, h, beq_self_eq_true, onlyIf_true]
    rfl
  obtain ⟨-, -, -, htouch⟩ := judged_spec s
  rw [hmodel, htouch.imageSeq, htouch.imageSeq, State.firstSlot]
  by_cases ha : s.preCheck 0 = 0
  · by_cases hlater : s.preCheck 1 = 0 ∧ s.imageSeq 0 < s.imageSeq 1
    · simp only [ha, hlater, and_self, or_self, or_true, if_true]
    · simp only [ha, hlater, ne_eq, not_true_eq_false, or_self, true_or, if_true, if_false]
  · by_cases hb : s.preCheck 1 = 0
    · simp only [ha, hb, ne_eq, not_false_eq_true, true_or, or_true, if_true, if_false]
    · simp only [ha, hb, or_self, if_false]

/-- The first slot is streamed, or the recovery responder runs (R63, R64, R66). -/
theorem slotHeadersRead_spec (h : s.get .GEN_BOOT_STAT_PHASE = 2) : ∃ t, exec .slotHeadersRead s = .next t
    ∧ t.get .GEN_BOOT_STAT_RESULT_A = s.preCheck 0 ∧ t.get .GEN_BOOT_STAT_RESULT_B = s.preCheck 1
    ∧ (s.preCheck 0 ≠ 0 → s.preCheck 1 ≠ 0 → t.get .GEN_BOOT_STAT_PHASE = 0xE ∧ t.boot.streaming = false
        ∧ t.get .GEN_ENUM_MGMT_ADDR = 0x0E)
    ∧ (s.preCheck 0 = 0 ∨ s.preCheck 1 = 0 → t.get .GEN_BOOT_STAT_PHASE = 3 ∧ t.boot.streaming = true ∧ t.boot.nextSection = 0
        ∧ t.boot.slot = s.firstSlot
        ∧ BootTouches [.GEN_BOOT_STAT_PHASE, .GEN_BOOT_STAT_RESULT_A, .GEN_BOOT_STAT_RESULT_B] s t) := by
  obtain ⟨hphase, ha, hb, htouch⟩ := judged_spec s
  refine ⟨_, exec_slotHeadersRead_eq h, ?_⟩
  by_cases hgood : s.preCheck 0 = 0 ∨ s.preCheck 1 = 0
  · rw [if_pos hgood]
    obtain ⟨hstreams, hnext, hslot, hstream⟩ := streamFirst_spec s.firstSlot s
    have hkept (f : Fld) : (streamFirst s.firstSlot s).get f = (judged s).get f := hstream.get List.not_mem_nil 0
    refine ⟨(hkept _).trans ha, (hkept _).trans hb, fun hna hnb => absurd hgood (not_or.mpr ⟨hna, hnb⟩),
      fun _ => ⟨(hkept _).trans hphase, hstreams, hnext, hslot, ?_⟩⟩
    exact ((BootTouches.refl _ s).thenTouches htouch).trans (hstream.mono (fun _ hf => absurd hf List.not_mem_nil))
  · rw [if_neg hgood]
    obtain ⟨hstop, hidle, haddr, hrest⟩ := streamNone_spec s
    exact ⟨(hrest.get (by decide) 0).trans ha, (hrest.get (by decide) 0).trans hb, fun _ _ => ⟨hstop, hidle, haddr⟩,
      fun hsome => absurd hsome hgood⟩

end Sys2Proof.Machine
end

section
/-!
PROOFS. The sections of a slot are streamed (R50, R61 to R63, R599).
-/
namespace Sys2Proof.Machine

variable {fs : List Fld} {s t : State}

theorem BootTouches.openPayload (h : BootTouches fs s t) (slot k : Nat) (e : SectionEntry) :
    t.openPayload slot k e = s.openPayload slot k e := by
  rw [h.1]
  rfl

theorem BootTouches.nvm (h : BootTouches fs s t) : t.nvm = s.nvm := by
  rw [h.1]

theorem BootTouches.mem (h : BootTouches fs s t) : t.mem = s.mem := by
  rw [h.1]

theorem BootTouches.ofNone (h : BootTouches [] s t) : BootTouches fs s t := h.mono (fun _ hf => absurd hf List.not_mem_nil)

/-- The same contents of the memory space on both sides. -/
theorem BootTouches.withMem (h : BootTouches fs s t) (m : List Host.Cell) : BootTouches fs { s with mem := m } { t with mem := m } := by
  refine ⟨?_, h.2⟩
  have hsame := congrArg (fun u : State => { u with mem := m }) h.1
  exact hsame

/-! ### The section that is next -/

/-- The entry of the section that is next. -/
def State.nextEntry (s : State) : SectionEntry := s.sectionEntry s.boot.slot s.boot.nextSection

/-- The payload of the section that is next, as placed. -/
def State.nextPayload (s : State) : Option (List Byte) := s.openPayload s.boot.slot s.boot.nextSection s.nextEntry

/-- A CRC mismatch is noted and changes nothing else (R62). -/
theorem noteCrc_spec (e : SectionEntry) (s : State) : (noteCrc e s).boot.slot = s.boot.slot ∧ (noteCrc e s).boot.chosen = s.boot.chosen
    ∧ (noteCrc e s).boot.placed = s.boot.placed
    ∧ (noteCrc e s).boot.mismatched =
      (if crc32c (s.payload s.boot.slot e) = e.crc then s.boot.mismatched else s.boot.mismatched ++ [s.boot.nextSection])
    ∧ BootTouches [] s (noteCrc e s) := by
  unfold noteCrc
  by_cases hcrc : crc32c (s.payload s.boot.slot e) = e.crc
  · rw [if_pos hcrc, if_pos hcrc]
    exact ⟨rfl, rfl, rfl, rfl, .refl _ s⟩
  · rw [if_neg hcrc, if_neg hcrc]
    exact ⟨rfl, rfl, rfl, rfl, (BootTouches.refl _ s).withBoot⟩

theorem placeSection_eq (k : Nat) (e : SectionEntry) (bs : List Byte) (s : State) : placeSection k e bs s =
    { s with mem := if e.typ = 7 ∨ e.typ = 8 then Memory.writeList e.dest bs s.mem else s.mem
             boot := { s.boot with placed := s.boot.placed ++ [⟨k, e.typ, e.flags, e.dest, e.version, e.param, bs⟩] } } := by
  unfold placeSection
  by_cases hdest : e.typ = 7 ∨ e.typ = 8
  · have hdest' : (e.typ == 7 || e.typ == 8) = true := by simpa using hdest
    rw [if_pos hdest, hdest', onlyIf_true]
    rfl
  · have hdest' : (e.typ == 7 || e.typ == 8) = false := by simpa using hdest
    rw [if_neg hdest, hdest', onlyIf_false]

/-- A section is kept until hand-over, and some are written to their place (R52, R57, R58). -/
theorem placeSection_spec (k : Nat) (e : SectionEntry) (bs : List Byte) (s : State) :
    (placeSection k e bs s).boot = { s.boot with placed := s.boot.placed ++ [⟨k, e.typ, e.flags, e.dest, e.version, e.param, bs⟩] }
    ∧ (placeSection k e bs s).mem = (if e.typ = 7 ∨ e.typ = 8 then Memory.writeList e.dest bs s.mem else s.mem)
    ∧ (placeSection k e bs s).nvm = s.nvm
    ∧ BootTouches [] { s with mem := (placeSection k e bs s).mem } (placeSection k e bs s) := by
  rw [placeSection_eq]
  exact ⟨rfl, rfl, rfl, (BootTouches.refl _ _).withBoot⟩

/-- The next section is checked against its CRC. -/
def checked (s : State) : State := noteCrc s.nextEntry (s.put .GEN_BOOT_STAT_PHASE 0 4)

/-- Its payload is open, and the section after it is next. -/
def advanced (s : State) : State := { checked s with boot := { (checked s).boot with nextSection := s.boot.nextSection + 1 } }

/-- It is placed. -/
def sectionPlaced (bs : List Byte) (s : State) : State := placeSection s.boot.nextSection s.nextEntry bs (advanced s)

/-- The streaming of a slot ends. -/
def streamEnd (s : State) : State := { s with boot := { s.boot with streaming := false } }.put .GEN_BOOT_STAT_PHASE 0 5

/-- What holds of the slot that is streamed before its section is placed or the slot rejected. -/
structure Streams (s t : State) : Prop where
  slot : t.boot.slot = s.boot.slot
  chosen : t.boot.chosen = s.boot.chosen
  placed : t.boot.placed = s.boot.placed
  phase : t.get .GEN_BOOT_STAT_PHASE = 4
  touches : BootTouches [.GEN_BOOT_STAT_PHASE] s t

theorem streams_put (s : State) : Streams s (s.put .GEN_BOOT_STAT_PHASE 0 4) :=
  ⟨rfl, rfl, rfl, State.get_put_self .., Touches.put (by decide) _ _ (.refl _ s)⟩

theorem checked_spec (s : State) : Streams s (checked s) ∧ (checked s).boot.mismatched =
    (if crc32c (s.payload s.boot.slot s.nextEntry) = s.nextEntry.crc then s.boot.mismatched
      else s.boot.mismatched ++ [s.boot.nextSection]) := by
  obtain ⟨hslot, hchosen, hplaced, hmis, htouch⟩ := noteCrc_spec s.nextEntry (s.put .GEN_BOOT_STAT_PHASE 0 4)
  exact ⟨⟨hslot, hchosen, hplaced, (htouch.get List.not_mem_nil 0).trans (streams_put s).phase,
    (streams_put s).touches.trans htouch.ofNone⟩, hmis⟩

theorem advanced_streams (s : State) : Streams s (advanced s) := by
  obtain ⟨hslot, hchosen, hplaced, hphase, htouch⟩ := (checked_spec s).1
  exact ⟨hslot, hchosen, hplaced, hphase, htouch.withBoot⟩

/-- What follows once the payload is opened. -/
def payloadOpened (s : State) : Option (List Byte) → State
  | none => rejectSlot 8 (checked s)
  | some bs =>
    if s.nextEntry.typ == 0xD && !policyGood bs then rejectSlot 9 (advanced s)
    else if s.boot.nextSection + 1 < s.sectionCount s.boot.slot then sectionPlaced bs s
    else streamEnd (sectionPlaced bs s)

theorem sectionPlaced_sectionCount (bs : List Byte) (s : State) (slot : Nat) :
    (sectionPlaced bs s).sectionCount slot = s.sectionCount slot := by
  obtain ⟨-, -, hnvm, -⟩ := placeSection_spec s.boot.nextSection s.nextEntry bs (advanced s)
  have hsame : (sectionPlaced bs s).nvm = s.nvm := hnvm.trans (advanced_streams s).touches.nvm
  rw [State.sectionCount, State.nvmLe, hsame]
  rfl

theorem exec_sectionStreamed_eq (readError : Bool) (hstream : s.boot.streaming = true)
    (hhbm : needsHbm s.nextEntry = true → s.boot.hbmReady = true) : exec (.sectionStreamed readError) s =
      .next (if readError then rejectSlot 0xA (s.put .GEN_BOOT_STAT_PHASE 0 4) else payloadOpened s s.nextPayload) := by
  have hgate : (s.boot.streaming && (!needsHbm s.nextEntry || s.boot.hbmReady)) = true := by
    cases hneeds : needsHbm s.nextEntry
    · simp [hstream]
    · simp [hstream, hhbm hneeds]
  have hopen : (noteCrc (s.sectionEntry s.boot.slot s.boot.nextSection) (s.put .GEN_BOOT_STAT_PHASE 0 4)).openPayload s.boot.slot
      s.boot.nextSection (s.sectionEntry s.boot.slot s.boot.nextSection) = s.nextPayload :=
    (checked_spec s).1.touches.openPayload ..
  rw [exec_sectionStreamed, execSectionStreamed]
  change Host.Outcome.next (onlyIf (s.boot.streaming && (!needsHbm s.nextEntry || s.boot.hbmReady)) _ s) = _
  rw [hgate, onlyIf_true]
  cases readError
  case true => rfl
  case false =>
    rw [if_neg Bool.false_ne_true, if_neg Bool.false_ne_true]
    dsimp only
    rw [hopen]
    cases hpayload : s.nextPayload with
    | none => rfl
    | some bs => 
      rw [payloadOpened, ← sectionPlaced_sectionCount bs s]
      rfl

/-- What holds of a slot once its section is placed. -/
structure SectionPlaced (bs : List Byte) (s t : State) : Prop where
  next : t.boot.nextSection = s.boot.nextSection + 1
  placed : t.boot.placed = s.boot.placed
    ++ [⟨s.boot.nextSection, s.nextEntry.typ, s.nextEntry.flags, s.nextEntry.dest, s.nextEntry.version, s.nextEntry.param, bs⟩]
  mismatched : t.boot.mismatched =
    (if crc32c (s.payload s.boot.slot s.nextEntry) = s.nextEntry.crc then s.boot.mismatched else s.boot.mismatched ++ [s.boot.nextSection])
  mem : t.mem = (if s.nextEntry.typ = 7 ∨ s.nextEntry.typ = 8 then Memory.writeList s.nextEntry.dest bs s.mem else s.mem)
  touches : BootTouches [.GEN_BOOT_STAT_PHASE] { s with mem := t.mem } t

theorem sectionPlaced_spec (bs : List Byte) (s : State) :
    SectionPlaced bs s (sectionPlaced bs s) ∧ (sectionPlaced bs s).get .GEN_BOOT_STAT_PHASE = 4 := by
  obtain ⟨hboot, hmem, -, hkept⟩ := placeSection_spec s.boot.nextSection s.nextEntry bs (advanced s)
  have hopened := advanced_streams s
  have hsame : (advanced s).mem = s.mem := hopened.touches.mem
  refine ⟨⟨?_, ?_, ?_, ?_, (hopened.touches.withMem _).trans hkept.ofNone⟩, (hkept.get List.not_mem_nil 0).trans hopened.phase⟩
  · exact congrArg BootState.nextSection hboot
  · exact (congrArg BootState.placed hboot).trans (congrArg (· ++ _) hopened.placed)
  · exact (congrArg BootState.mismatched hboot).trans (checked_spec s).2
  · rw [sectionPlaced, hmem, hsame]

/-- The end of the stream changes none of what was placed. -/
theorem SectionPlaced.streamEnd {bs : List Byte} (h : SectionPlaced bs s t) : SectionPlaced bs s (streamEnd t) := by
  have hend : BootTouches [.GEN_BOOT_STAT_PHASE] t (Machine.streamEnd t) :=
    ((BootTouches.refl _ t).withBoot).thenTouches (.put (by decide) _ _ (.refl [.GEN_BOOT_STAT_PHASE] _))
  exact ⟨h.next, h.placed, h.mismatched, h.mem, h.touches.trans hend⟩

/-- A section that opens and is well formed is placed, and the next one follows; with the last one the stream ends (R50, R61, R62). -/
theorem sectionStreamed_placed {bs : List Byte} (hstream : s.boot.streaming = true)
    (hhbm : needsHbm s.nextEntry = true → s.boot.hbmReady = true) (hopen : s.nextPayload = some bs)
    (hpolicy : s.nextEntry.typ = 0xD → policyGood bs = true) :
    ∃ t, exec (.sectionStreamed false) s = .next t ∧ SectionPlaced bs s t
      ∧ t.get .GEN_BOOT_STAT_PHASE = (if s.boot.nextSection + 1 < s.sectionCount s.boot.slot then 4 else 5) := by
  have hgood : ¬(s.nextEntry.typ == 0xD && !policyGood bs) = true := by simpa using hpolicy
  obtain ⟨hat, hphase⟩ := sectionPlaced_spec bs s
  refine ⟨_, exec_sectionStreamed_eq false hstream hhbm, ?_⟩
  rw [if_neg Bool.false_ne_true, hopen, payloadOpened, if_neg hgood]
  by_cases hmore : s.boot.nextSection + 1 < s.sectionCount s.boot.slot
  · rw [if_pos hmore, if_pos hmore]
    exact ⟨hat, hphase⟩
  · rw [if_neg hmore, if_neg hmore]
    exact ⟨hat.streamEnd, State.get_put_self ..⟩

theorem Streams.endsWith {r : Nat} (hr : r < 16) (h : Streams s t) : EndsWith r s (rejectSlot r t) :=
  (rejectSlot_endsWith hr t).since h.slot h.chosen h.touches.mono

/-- A read error, a failed tag or a malformed security policy rejects the slot (R61, R63, R64). -/
theorem sectionStreamed_rejects {readError : Bool} (hstream : s.boot.streaming = true)
    (hhbm : needsHbm s.nextEntry = true → s.boot.hbmReady = true)
    (hbad : readError = true ∨ s.nextPayload.all (fun bs => s.nextEntry.typ == 0xD && !policyGood bs) = true) :
    ∃ t, exec (.sectionStreamed readError) s = .next t
      ∧ EndsWith (if readError then 0xA else if s.nextPayload = none then 8 else 9) s t := by
  refine ⟨_, exec_sectionStreamed_eq readError hstream hhbm, ?_⟩
  cases readError
  case true =>
    rw [if_pos rfl, if_pos rfl]
    exact (streams_put s).endsWith (by decide)
  case false =>
    rw [if_neg Bool.false_ne_true, if_neg Bool.false_ne_true]
    cases hopen : s.nextPayload with
    | none =>
      rw [if_pos rfl]
      exact (checked_spec s).1.endsWith (by decide)
    | some bs =>
      have hpolicy : (s.nextEntry.typ == 0xD && !policyGood bs) = true := by simpa [hopen] using hbad
      rw [payloadOpened, if_pos hpolicy, if_neg (Option.some_ne_none bs)]
      exact (advanced_streams s).endsWith (by decide)

/-- Settles O12: the headers choose the slot, and each section either is placed or ends the slot with its outcome. -/
theorem slotsAreChosenAndStreamed : Obligations.SlotsAreChosenAndStreamed := by
  refine ⟨fun s h => slotHeadersRead_spec h, fun s hstream => ⟨?_, ?_⟩⟩
  · intro bs e hhbm hopen hpolicy
    obtain ⟨t, hexec, hat, hphase⟩ := sectionStreamed_placed hstream hhbm hopen hpolicy
    exact ⟨t, hexec, hat.next, hat.placed, hat.mismatched, hat.mem, hphase, hat.touches⟩
  · intro readError e hhbm hbad
    obtain ⟨t, hexec, hend⟩ := sectionStreamed_rejects hstream hhbm hbad
    exact ⟨t, hexec, hend.result, hend.touches⟩

end Sys2Proof.Machine
end

section
/-!
PROOFS. The signatures of a slot decide whether it is used (R62 to R65, R536, R599).
-/
namespace Sys2Proof.Machine

variable {fs : List Fld} {f : Fld} {good : Bool} {s t : State}

/-! ### A slot is used (R65, R70, R599) -/

theorem satAdd_zero (w k : Nat) : satAdd w 0 k = min (2 ^ w - 1) k := by
  have hpos : 0 < 2 ^ w := Nat.two_pow_pos w
  unfold satAdd
  split
  · omega
  · omega

/-- Fields that show the slot in use. -/
def usedFields : List Fld := [.GEN_BOOT_STAT_RESULT_A, .GEN_BOOT_STAT_RESULT_B, .GEN_BOOT_STAT_SLOT_USED, .GEN_BOOT_SEQ,
  .GEN_BOOT_STAT_SAFETY_DEFAULT, .GEN_BOOT_STAT_CRC_FAULTS]

/-- The slot in use is shown. -/
def showUsed (good : Bool) (s : State) : State :=
  let u := setResult s.boot.slot (if good then 1 else 0xB) s
  (((u.put .GEN_BOOT_STAT_SLOT_USED 0 (s.boot.slot + 1)).put .GEN_BOOT_SEQ 0 (u.imageSeq s.boot.slot)).putFlag
    .GEN_BOOT_STAT_SAFETY_DEFAULT 0 (!good)).put .GEN_BOOT_STAT_CRC_FAULTS 0 (satAdd 8 0 s.boot.mismatched.length)

theorem showUsed_touches (good : Bool) (s : State) : Touches usedFields s (showUsed good s) :=
  .put (by decide) _ _ (.put (by decide) _ _ (.put (by decide) _ _ (.put (by decide) _ _ ((setResult_touches ..).mono (by decide)))))

theorem showUsed_result (good : Bool) (s : State) : (showUsed good s).get (resultField s.boot.slot) = if good then 1 else 0xB := by
  have hapart (g : Fld) (hg : g ∉ resultFields) : g ≠ resultField s.boot.slot := fun h => hg (h ▸ resultField_mem _)
  have hcode : (if good then 1 else 0xB) < 16 := by cases good <;> decide
  rw [showUsed, State.putFlag, State.get_put_other _ (hapart _ (by decide)), State.get_put_other _ (hapart _ (by decide)),
    State.get_put_other _ (hapart _ (by decide)), State.get_put_other _ (hapart _ (by decide)), setResult_get hcode]

theorem showUsed_shows (good : Bool) (s : State) : (showUsed good s).get .GEN_BOOT_STAT_SLOT_USED = (s.boot.slot + 1) % 4
    ∧ (showUsed good s).get .GEN_BOOT_SEQ = s.imageSeq s.boot.slot % 2 ^ 32
    ∧ (showUsed good s).get .GEN_BOOT_STAT_SAFETY_DEFAULT = (!good).toNat
    ∧ (showUsed good s).get .GEN_BOOT_STAT_CRC_FAULTS = min 255 s.boot.mismatched.length := by
  rw [showUsed, State.putFlag, (setResult_touches ..).imageSeq]
  refine ⟨?_, ?_, ?_, ?_⟩
  · rw [State.get_put_other _ (by decide), State.get_put_other _ (by decide), State.get_put_other _ (by decide), State.get_put_self]
    rfl
  · rw [State.get_put_other _ (by decide), State.get_put_other _ (by decide), State.get_put_self]
    rfl
  · rw [State.get_put_other _ (by decide), State.get_put_self]
    cases good <;> rfl
  · rw [State.get_put_self, satAdd_zero]
    exact Nat.mod_eq_of_lt (by have : min (2 ^ 8 - 1) s.boot.mismatched.length ≤ 255 := Nat.min_le_left ..; exact Nat.lt_succ_of_le this)

/-- The reserved sections of the slot in use are counted, and its mismatching sections reported. -/
def reportUsed (good : Bool) (s : State) : State :=
  let skipped := (((showUsed good s).sections s.boot.slot).filter (fun e => e.typ == 0 || 0x11 ≤ e.typ)).length
  forAll s.boot.mismatched (fun _ u => assertEv 504 1 u) ((showUsed good s).put .GEN_BOOT_STAT_SKIPPED 0 (satAdd 8 0 skipped))

theorem reportUsed_touches (good : Bool) (s : State) :
    Touches (.GEN_BOOT_STAT_SKIPPED :: reportFields) (showUsed good s) (reportUsed good s) :=
  .forAll _ (fun _ u => (assertEv_report 504 1 u).mono (by decide)) (.put (by decide) _ _ (.refl _ _))

theorem takeSlot_eq (good : Bool) (s : State) : takeSlot good s =
    { reportUsed good s with
      boot := { (reportUsed good s).boot with streaming := false, chosen := some (s.boot.slot, good) } } := rfl

/-- The slot that was streamed is in use. -/
structure UsedAs (good : Bool) (s t : State) : Prop where
  result : t.get (resultField s.boot.slot) = if good then 1 else 0xB
  chosen : t.boot.chosen = some (s.boot.slot, good)
  slotUsed : t.get .GEN_BOOT_STAT_SLOT_USED = (s.boot.slot + 1) % 4
  seq : t.get .GEN_BOOT_SEQ = s.imageSeq s.boot.slot % 2 ^ 32
  safetyDefault : t.get .GEN_BOOT_STAT_SAFETY_DEFAULT = (!good).toNat
  crcFaults : t.get .GEN_BOOT_STAT_CRC_FAULTS = min 255 s.boot.mismatched.length
  touches : BootTouches (usedFields ++ .GEN_BOOT_STAT_SKIPPED :: reportFields) s t

/-- What is reported of the slot in use changes none of what shows it. -/
theorem takeSlot_reports (good : Bool) (s : State) :
    BootTouches (.GEN_BOOT_STAT_SKIPPED :: reportFields) (showUsed good s) (takeSlot good s) := by
  rw [takeSlot_eq]
  exact ((BootTouches.refl _ _).thenTouches (reportUsed_touches good s)).withBoot

theorem takeSlot_used (good : Bool) (s : State) : UsedAs good s (takeSlot good s) := by
  obtain ⟨hused, hseq, hdefault, hfaults⟩ := showUsed_shows good s
  have hreport := takeSlot_reports good s
  refine ⟨(hreport.result _).trans (showUsed_result good s), rfl, (hreport.get (by decide) 0).trans hused,
    (hreport.get (by decide) 0).trans hseq, (hreport.get (by decide) 0).trans hdefault, (hreport.get (by decide) 0).trans hfaults, ?_⟩
  exact ((BootTouches.refl _ s).thenTouches (showUsed_touches good s) (by decide)).trans (hreport.mono (by decide))

/-! ### The signatures (R62 to R65) -/

/-- The verification notes what it found of the slot that was streamed. -/
def noteCond (c : SlotCond) (s : State) : State := { s with boot := s.boot.setCond s.boot.slot c }

theorem noteCond_kept (c : SlotCond) (s : State) : (noteCond c s).boot.slot = s.boot.slot ∧ (noteCond c s).boot.chosen = s.boot.chosen
    ∧ (noteCond c s).boot.mismatched = s.boot.mismatched ∧ BootTouches [] s (noteCond c s) := by
  obtain ⟨hslot, hchosen, hmis⟩ := setCond_kept s.boot s.boot.slot c
  exact ⟨hslot, hchosen, hmis, (BootTouches.refl _ s).withBoot⟩

theorem BootTouches.imageSeq (h : BootTouches fs s t) (k : Nat) : t.imageSeq k = s.imageSeq k := by
  rw [State.imageSeq, State.nvmLe, h.nvm]
  rfl

theorem takeSlot_noted (good : Bool) (c : SlotCond) (s : State) : UsedAs good s (takeSlot good (noteCond c s)) := by
  obtain ⟨hslot, -, hmis, htouch⟩ := noteCond_kept c s
  obtain ⟨hresult, hchosen, hused, hseq, hdefault, hfaults, hrest⟩ := takeSlot_used good (noteCond c s)
  rw [hslot] at hresult hchosen hused hseq
  rw [htouch.imageSeq] at hseq
  rw [hmis] at hfaults
  exact ⟨hresult, hchosen, hused, hseq, hdefault, hfaults, htouch.ofNone.trans hrest⟩

/-- A slot that is partly valid in its first pass shows so, and the next slot is streamed (R64). -/
theorem afterFirstPass_partly (s : State) : EndsWith 4 s (afterFirstPass (setResult s.boot.slot 4 (noteCond .partlyValid s))) := by
  obtain ⟨hslot, hchosen, -, htouch⟩ := noteCond_kept .partlyValid s
  have hshown := setResult_touches s.boot.slot 4 (noteCond .partlyValid s)
  have hgoes := afterFirstPass_goesOn (setResult s.boot.slot 4 (noteCond .partlyValid s))
  refine ⟨(hgoes.touches.result _).trans (setResult_get (by decide) _ _), hgoes.chosen.trans ?_, ?_⟩
  · rw [hshown.boot, hchosen]
  · exact (htouch.ofNone.thenTouches hshown (by decide)).trans hgoes.touches.mono

/-- What the verification makes of the slot that was streamed. -/
def verified (s : State) : State :=
  if !s.ownerSigned s.boot.slot then rejectSlot 5 s
  else if s.safetySigned s.boot.slot then takeSlot true (noteCond .fullyValid s)
  else if s.boot.pass = 0 then afterFirstPass (setResult s.boot.slot 4 (noteCond .partlyValid s))
  else takeSlot false (noteCond .partlyValid s)

theorem exec_signatureVerify_eq (hphase : s.get .GEN_BOOT_STAT_PHASE = 5) (hend : s.boot.streaming = false) (hnone : s.boot.chosen = none) :
    exec .signatureVerify s = .next (verified s) := by
  have hgate : (s.get .GEN_BOOT_STAT_PHASE == 5 && !s.boot.streaming && s.boot.chosen.isNone) = true := by
    simp [hphase, hend, hnone]
  rw [exec_signatureVerify, execSignatureVerify, hgate, onlyIf_true]
  rfl

/-- Fields that the verification changes. -/
def verifyFields : List Fld := [.GEN_BOOT_STAT_RESULT_A, .GEN_BOOT_STAT_RESULT_B, .GEN_BOOT_STAT_PHASE, .GEN_BOOT_STAT_SLOT_USED,
  .GEN_BOOT_STAT_SAFETY_DEFAULT, .GEN_BOOT_STAT_CRC_FAULTS, .GEN_BOOT_STAT_SKIPPED, .GEN_BOOT_SEQ, .GEN_ENUM_MGMT_ADDR] ++ reportFields

/-- The slot that was streamed ends with an outcome, in use or not. -/
structure SlotSettled (used good : Bool) (outcome : Nat) (s t : State) : Prop where
  result : t.get (resultField s.boot.slot) = outcome
  chosen : t.boot.chosen = if used then some (s.boot.slot, good) else none
  slotUsed : t.get .GEN_BOOT_STAT_SLOT_USED = if used then (s.boot.slot + 1) % 4 else s.get .GEN_BOOT_STAT_SLOT_USED
  safetyDefault : t.get .GEN_BOOT_STAT_SAFETY_DEFAULT = if used then (!good).toNat else s.get .GEN_BOOT_STAT_SAFETY_DEFAULT
  counts : t.boot.chosen ≠ none → t.get .GEN_BOOT_STAT_CRC_FAULTS = min 255 s.boot.mismatched.length
    ∧ t.get .GEN_BOOT_SEQ = s.imageSeq s.boot.slot % 2 ^ 32
  touches : BootTouches verifyFields s t

theorem EndsWith.settled {r : Nat} (hnone : s.boot.chosen = none) (h : EndsWith r s t) (good : Bool) : SlotSettled false good r s t :=
  ⟨h.result, h.chosen.trans hnone, h.touches.get (by decide) 0, h.touches.get (by decide) 0,
    fun hchosen => absurd (h.chosen.trans hnone) hchosen, h.touches.mono⟩

theorem UsedAs.settled (h : UsedAs good s t) : SlotSettled true good (if good then 1 else 0xB) s t :=
  ⟨h.result, h.chosen, h.slotUsed, h.safetyDefault, fun _ => ⟨h.crcFaults, h.seq⟩, h.touches.mono⟩

/-- A bad owner signature rejects the slot; with a good one the safety signature decides, and in a later pass the safety default. -/
theorem verified_settled (hnone : s.boot.chosen = none) :
    SlotSettled (s.ownerSigned s.boot.slot && (s.safetySigned s.boot.slot || s.boot.pass != 0)) (s.safetySigned s.boot.slot)
      (if s.ownerSigned s.boot.slot = false then 5 else if s.safetySigned s.boot.slot then 1 else if s.boot.pass = 0 then 4 else 0xB)
      s (verified s) := by
  unfold verified
  cases howner : s.ownerSigned s.boot.slot
  case false => exact EndsWith.settled (r := 5) hnone (rejectSlot_endsWith (by decide) s) _
  case true =>
    cases hsafety : s.safetySigned s.boot.slot
    case true => exact (takeSlot_noted true .fullyValid s).settled
    case false =>
      by_cases hpass : s.boot.pass = 0
      · simpa [hpass] using (afterFirstPass_partly s).settled hnone false
      · have hlater : (s.boot.pass != 0) = true := bne_iff_ne.mpr hpass
        simpa [hpass, hlater] using (takeSlot_noted false .partlyValid s).settled

/-- Settles O13: each outcome of the signatures either takes the slot into use or leaves the slot in use as it was. -/
theorem signaturesDecideTheSlot : Obligations.SignaturesDecideTheSlot := by
  intro s hphase hend hnone
  obtain ⟨hresult, hchosen, hused, hdefault, hcounts, htouch⟩ := verified_settled hnone
  exact ⟨_, exec_signatureVerify_eq hphase hend hnone, hresult, hchosen, hused, hdefault, hcounts, htouch⟩

end Sys2Proof.Machine
end

section
/-!
PROOFS. The hand-over of an image without sections (R50, R52, R69).
-/
namespace Sys2Proof.Machine

variable {fs : List Fld} {s t : State}

/-! ### No section is placed -/

theorem sectionOf_none (h : s.boot.placed = []) (typ : Nat) : s.sectionOf typ = none := by
  unfold State.sectionOf
  rw [h]
  split
  · rfl
  · rfl

theorem sectionBytes_none (h : s.boot.placed = []) (typ : Nat) : s.sectionBytes typ = none := by
  rw [State.sectionBytes, sectionOf_none h]
  rfl

theorem placePolicy_none (h : s.boot.placed = []) : placePolicy s = s := by
  unfold placePolicy
  rw [sectionBytes_none h]

theorem placeGazetteer_none (h : s.boot.placed = []) : placeGazetteer s = s := by
  unfold placeGazetteer
  rw [sectionBytes_none h]

theorem placeAtlas_none (h : s.boot.placed = []) : placeAtlas s = s := by
  unfold placeAtlas
  rw [sectionBytes_none h]

theorem placeRefTable_none (h : s.boot.placed = []) : placeRefTable s = s := by
  rw [placeRefTable, sectionBytes_none h, Option.isSome_none, onlyIf_false]

theorem placeCeilings_none (h : s.boot.placed = []) : placeCeilings s = s := by
  unfold placeCeilings
  rw [sectionBytes_none h]

theorem placeAudioAtlas_none (h : s.boot.placed = []) : placeAudioAtlas s = s := by
  unfold placeAudioAtlas
  rw [sectionBytes_none h]

/-! ### What the placements change that no section decides -/

theorem placeVenue_touches (s : State) : Touches [.AUD_EVAC_DEFAULT, .AUD_EVAC_VENUE_COUNT] s (placeVenue s) :=
  .put (by decide) _ _ (.putFlag (by decide) _ _ (.refl _ s))

theorem placeLegend_touches (s : State) :
    Touches [.CMP_LEGEND_STAT_DEFAULT, .CMP_LEGEND_STAT_VERSION, .CMP_HEAD_STAT_ROM_SLIDE] s (placeLegend s) :=
  .forAll _ (fun _ u => .putFlag (by decide) _ _ (.refl _ u)) (.put (by decide) _ _ (.putFlag (by decide) _ _ (.refl _ s)))

/-- Fields that show the equaliser table (R209, R222). -/
def eqTableFields : List Fld := [.LAN_BOARD_ID, .LAN_EQ_INFO_ENTRIES, .LAN_EQ_INFO_DUPLICATES, .LAN_EQ_INFO_INVALID]

theorem placeEqTable_touches (s : State) : Touches eqTableFields s (placeEqTable s) :=
  .put (by decide) _ _ (.put (by decide) _ _ (.put (by decide) _ _ (.put (by decide) _ _ (.refl _ s))))

/-- Without a section the table holds no entry. -/
theorem placeEqTable_none (h : s.boot.placed = []) : (placeEqTable s).get .LAN_EQ_INFO_ENTRIES = 0 := by
  have hempty : s.eqTable = [] := by
    unfold State.eqTable
    rw [sectionBytes_none h]
  rw [placeEqTable, hempty, State.get_put_other _ (by decide), State.get_put_other _ (by decide), State.get_put_self]
  rfl

theorem placeAll_none (h : s.boot.placed = []) : placeAll s = placeLegend (placeVenue (placeEqTable s)) := by
  have heq : (placeEqTable s).boot.placed = [] := by rw [(placeEqTable_touches s).boot, h]
  have hvenue : (placeVenue (placeEqTable s)).boot.placed = [] := by rw [(placeVenue_touches _).boot, heq]
  have hregions : forAll s.boot.placed placeRegion (placePolicy s) = s := by
    rw [placePolicy_none h, h]
    rfl
  rw [placeAll, hregions, placeGazetteer_none h, placeAtlas_none h, placeRefTable_none heq, placeCeilings_none heq,
    placeAudioAtlas_none hvenue]

/-! ### Hand-over -/

/-- The stewards run from their own memory, in power state Warm Standby (R50, R69). -/
def released (s : State) : State :=
  setPower 3 (({ (s.put .GEN_CTRL_REMAP 0 1).put .GEN_CTRL_ST_RUN 0 15 with
    boot := { s.boot with aliasOpen := false } }).put .GEN_BOOT_STAT_PHASE 0 6)

theorem released_placed (s : State) : (released s).boot.placed = s.boot.placed := by
  rw [released, (setPower_touches 3 _).boot]
  rfl

theorem exec_handOver_eq (hchosen : s.boot.chosen ≠ none) (hend : s.boot.streaming = false) (hphase : s.get .GEN_BOOT_STAT_PHASE = 5)
    (hpower : s.get .PWR_STAT_STATE = 1) : exec .handOver s = .next (judgeContact (logCrcFaults (placeAll (released s)))) := by
  have hsome : s.boot.chosen.isSome = true := Option.isSome_iff_ne_none.mpr hchosen
  have hgate : (s.boot.chosen.isSome && !s.boot.streaming && s.get .GEN_BOOT_STAT_PHASE == 5 && s.get .PWR_STAT_STATE == 1) = true := by
    simp [hsome, hend, hphase, hpower]
  rw [exec_handOver, execHandOver, hgate, onlyIf_true]
  rfl

/-- A hand-over without a section leaves the equaliser table empty, whatever it held. -/
theorem handOver_eqEntries (h : s.boot.placed = []) :
    (judgeContact (logCrcFaults (placeAll (released s)))).get .LAN_EQ_INFO_ENTRIES = 0 := by
  have hplaced : (released s).boot.placed = [] := (released_placed s).trans h
  rw [(judgeContact_touches _).get (by decide), (logCrcFaults_spec _).2.get (by decide), placeAll_none hplaced,
    (placeLegend_touches _).get (by decide), (placeVenue_touches _).get (by decide), placeEqTable_none hplaced]

/-- The hand-over is due, no section is placed, and the equaliser table is shown with five entries. -/
def entriesShown : State :=
  { (State.reset.put .GEN_BOOT_STAT_PHASE 0 5).put .LAN_EQ_INFO_ENTRIES 0 5 with
    boot := { State.reset.boot with chosen := some (0, true), streaming := false, placed := [] } }

/-- Refutes O10: a hand-over without a section counts the entries of the equaliser table too (R209), and the number of its entries is not
among the fields that the statement lets change. -/
theorem not_remapRunBitsAndHandOver : ¬ Obligations.RemapRunBitsAndHandOver := by
  unfold Obligations.RemapRunBitsAndHandOver
  intro h
  obtain ⟨-, hover⟩ := h
  obtain ⟨t, hexec, -, -, -, -, -, htouch⟩ := hover entriesShown (by decide) rfl (by decide) (by decide)
  have hnext := exec_handOver_eq (s := entriesShown) (by decide) rfl (by decide) (by decide)
  obtain rfl : t = _ := Host.Outcome.next.inj (hexec.symm.trans hnext)
  have hkept : (judgeContact (logCrcFaults (placeAll (released entriesShown)))).get .LAN_EQ_INFO_ENTRIES = 5 :=
    ((htouch rfl).get (by decide) 0).trans (by decide)
  exact absurd ((handOver_eqEntries (s := entriesShown) rfl).symm.trans hkept) (by decide)

end Sys2Proof.Machine
end
